-- ==== Sys2Proof/Word.lean ====
section
/-!
DEFINITION. Words, bytes and sparse tables: the plain types every other file uses.
-/
namespace Sys2Proof

/-- A BAR 0 register word (00 R7). -/
abbrev Word := BitVec 32
/-- A 64-bit value: a register pair, a device address, a time. -/
abbrev DWord := BitVec 64
abbrev Byte := BitVec 8
/-- The 64 bytes of a token payload, a queue item or a memory row; byte k is bits 8k+7..8k (00 R6). -/
abbrev Line := BitVec 512
/-- A band number, line number or encoder position (01 R24, R32). -/
abbrev W48 := BitVec 48

/-- A sparse table: (key, value) pairs with strictly rising keys; a key that is not listed holds the table's default. -/
abbrev Tab (α : Type) := List (Nat × α)

end Sys2Proof
end

