-- ==== Sys2Proof/Syntax.lean ====
section
/-!
DEFINITION. The commands of the block: one constructor of `Instr` per row of spec/opcode_table.json, and the types
of their operands.
-/
namespace Sys2Proof

/-! ## Indexes (00 R10) -/

abbrev Hub := Fin 2
abbrev Die := Fin 2
abbrev Cam := Fin 16
/-- Pergola queues 0–511; 512 is the ledger queue, 513 the global error queue (07 R329). -/
abbrev QIx := Fin 514
abbrev SigIx := Fin 512
abbrev Ctx := Fin 64
abbrev Ring := Fin 8
abbrev Core := Fin 8
abbrev Slot := Fin 256
abbrev Port := Fin 4
abbrev Enc := Fin 4
abbrev Pin := Fin 24
abbrev Stack := Fin 4
abbrev Member := Fin 8

/-- A tile location (die, column, row) (00 "Tile locations"). -/
structure TileLoc where
  die : Die
  col : Fin 48
  row : Fin 32
  deriving DecidableEq, Repr

/-- The number under which a tile is kept: its place in the TIL_ window, die after die (03 "TER_ and TIL_ window"). -/
def TileLoc.key (t : TileLoc) : Nat := t.die.val * 1536 + t.col.val * 32 + t.row.val

/-! ## Operand types -/

/-- The four path directions and the tile's own injection, in the order of 03 R134. -/
inductive Src where
  | north | east | south | west | own
  deriving DecidableEq, Repr

/-- A token: 32-bit tag, 64-byte payload, 16-bit CRC (03 R143). -/
structure Token where
  tag : BitVec 32
  payload : Line
  crc : BitVec 16
  deriving DecidableEq, Repr

/-- An item with its writer (07 R326). `src` tells gate tiles apart (R337): it is the tile's key, 0 for others. -/
structure Offer where
  data : Line
  prio : BitVec 3
  sop : Bool
  eop : Bool
  writer : BitVec 8
  src : Nat
  deriving DecidableEq, Repr

/-- One of the three registers written as a pair of words (00 R695). -/
inductive PairedReg where
  | gthRescaleBand (n : Cam)
  | hubSwapBand
  | hubBar2Base
  deriving DecidableEq, Repr

/-- What a read of a protected word finds (08 R370, R371, R380). -/
inductive Ecc where
  | clean
  | correctable
  | uncorrectable
  | parityOnce
  | parityTwice
  deriving DecidableEq, Repr

/-- A CoaXPress stream packet as the port sees it (06 R274, R280, R281): stream ID, pixel codes, pixel format code
of GTH_CAM_CTRL.BPP, packet CRC good, last packet of its line. -/
structure CxpPacket where
  stream : BitVec 8
  fmt : BitVec 2
  pixels : List (BitVec 12)
  crcGood : Bool
  last : Bool
  deriving DecidableEq, Repr

/-- A protected memory word (08 Table 8.1), by 64-bit word. -/
inductive MemWord where
  | tile (t : TileLoc) (word : Fin 65536)
  | hbm (word : Nat)
  | kiosk (h : Hub) (word : Nat)
  | engine (h : Hub) (word : Nat)
  | l2 (h : Hub) (word : Nat)
  deriving DecidableEq, Repr

/-- Masters of the Hedge (09 Table 9.1). -/
abbrev Master := Fin 12
/-- Targets of the Hedge (09 Table 9.2). -/
abbrev Target := Fin 8

/-- What a Hedge request carries (09 R430, R437): 5-bit ID, physical address, write, bytes, data, lock marks.
`xkzq` marks an Xkzq operation (R417, R449). -/
structure HReq where
  master : Master
  id : BitVec 5
  addr : BitVec 48
  write : Bool
  bytes : Nat
  data : Line
  lock : Bool
  unlock : Bool
  xkzq : Bool
  deriving DecidableEq, Repr

/-- A power domain (14 Table 14.4). -/
inductive Domain where
  | bed (d : Die) (b : Fin 6)
  | core (c : Core)
  | cam (n : Cam)
  | prm (p : Port)
  deriving DecidableEq, Repr

/-- A Promenade flit (13 Table 13.1). -/
structure Flit where
  ftype : BitVec 4
  seq : BitVec 12
  stamp : BitVec 20
  ack : BitVec 12
  body : BitVec 560
  crc : BitVec 32
  deriving DecidableEq, Repr

/-- The fields a HELLO message carries (13 Table 13.5, R607). -/
structure HelloFields where
  groupDigest : BitVec 256
  activeDigest : BitVec 256
  slotDigest : BitVec 256
  size : Nat
  slot : Nat
  peerBad : Bool
  fw : Word
  ttDigest : BitVec 256
  part : BitVec 16
  bandLines : Word
  budget : Word
  scrub : Word
  holdAllow : Word
  camWait : Word
  idlePeriod : Word
  holdWdog : Word
  gen : BitVec 2
  ptpLocked : Bool
  ptpDomain : BitVec 8
  ptpOffset : Int
  clockDrift : Bool
  linkLat : Nat
  bellInDelay : Nat
  gholdDelay : Nat
  streamOpen : Bool
  loadBusy : Bool
  portDown : Bool
  bandNum : W48
  lineNum : W48
  deriving DecidableEq, Repr

/-- Kind of a bell in a BELL message (13 Table 13.4). -/
inductive BellKind where
  | band | idle | drain
  deriving DecidableEq, Repr

/-- A decision in a BELL message (13 Table 13.4). -/
inductive Decision where
  | admitted
  | shedOverrun (cause : Nat)
  | reversed
  | shedConfig
  deriving DecidableEq, Repr

/-- The fields of a BELL message in Table 13.4 order (13 R600). -/
structure BellMsg where
  kind : BellKind
  band : W48
  grpCk : DWord
  gen : BitVec 2
  holdCk : Nat
  decision : Decision
  shortfall : Nat
  deriving DecidableEq, Repr

/-- The thresholds of a sentinel (14 Table 14.1). -/
inductive Threshold where
  | failLo | warnLo | warnHi | failHi
  deriving DecidableEq, Repr

/-- An inbound AtomicOp (12 Table 12.1, R533). -/
inductive AtomicKind where
  | fetchAdd | swap | cas
  deriving DecidableEq, Repr

/-- A tile, and what the instruction's read of a memory word finds (08 R370, R371). -/
structure TileRead where
  loc : TileLoc
  ecc : Ecc
  deriving DecidableEq, Repr

/-- A send of the Gatehouse: whether a line in the frame store fails its CRC (06 R287; 08 R369), and what the engine's read
of its parameter store finds. -/
structure SendRead where
  upset : Bool
  ecc : Ecc
  deriving DecidableEq, Repr

/-- A row of the Kiosk: its camera, what the read of the Kiosk's stores finds, and whether the duplicate logic
disagrees at a record of the row (14 Table 14.6). -/
structure RowRead where
  cam : Cam
  ecc : Ecc
  upset : Bool
  deriving DecidableEq, Repr

/-- The bytes of a BAR 2 write, and what a read or the write's transfer finds in the word it meets. -/
structure LineRead where
  line : Line
  ecc : Ecc
  deriving DecidableEq, Repr

/-! ## The commands -/

/-- The commands, one constructor per row of spec/opcode_table.json, in the table's order. -/
inductive Instr where
  -- registers
  | pairedLowWordWrite (r : PairedReg) (v : Word)
  | registerWrite (off : BitVec 25) (wide : Bool) (v : DWord)
  | readToClear (off : BitVec 25) (wide : Bool)
  -- reset and boot
  | deviceReset (byPwrgood : Bool)
  | functionLevelReset
  | hubBootReset
  | perst
  | resetRelease (bootSrc : BitVec 2)
  | hbmTrainingComplete (failed : BitVec 8)
  | firmwareVerifyComplete
  | firmwareStart
  | capabilityPublish
  | bootReady
  | hubBootChunk (len : BitVec 12)
  -- bell and ledger
  | encoderCount (n : Enc) (aLeads : Bool)
  | encZPulse (n : Enc)
  | internalTimerTick
  | belRunSet
  | belRunClear
  | belEos
  | belAbort
  | belCtrlConfigWrite (src : BitVec 2) (encSel : BitVec 2) (encDir : Bool)
  | belEncDivWrite (v : Word)
  | belRevHystWrite (v : Word)
  | belTimerPeriodWrite (v : Word)
  | ldgCloseMsWrite (v : Word)
  | cameraLineWaitExpiry (n : Cam)
  | bandBell
  | idleBell
  | drainBell
  | drainComplete
  | drainTimeout
  | holdFreeze
  | holdResume
  | holdTimeout
  | bandLeavesLastStage (b : W48)
  | ledgerRunTimeLimit
  | closeNow
  | ledgerEntryEnqueue
  -- terrace transport
  | tokenHop (t : TileLoc) (from_ : Src) (upset : BitVec 560)
  | tokenEnqueue (t : TileLoc) (from_ : Src)
  | creditReturn (t : TileLoc) (route : BitVec 10)
  -- sequencer instructions
  | tNop (t : TileLoc)
  | tCset (t : TileLoc)
  | tLoop (t : TileLoc)
  | tJmp (t : TileLoc)
  | tWaitck (t : TileLoc)
  | tAset (t : TileLoc)
  | tAadd (t : TileLoc)
  | tRset (t : TileLoc)
  | tWaitq (t : TileLoc)
  | tRecv (t : TileLoc)
  | tDrop (t : TileLoc)
  | tSend (t : TileLoc)
  | tFwd (t : TileLoc)
  | tLdsc (t : TileLoc)
  | tHreq (t : TileLoc)
  | fireMac (r : TileRead)
  | fireExp (r : TileRead)
  | fireRecip (r : TileRead)
  | fireRsqrt (r : TileRead)
  | fireSigmoid (r : TileRead)
  | fireTanh (r : TileRead)
  | fireLog2 (r : TileRead)
  | fireAdd (r : TileRead)
  | fireMul (r : TileRead)
  | fireMax (r : TileRead)
  | fireDw3 (r : TileRead)
  | fireDw5 (r : TileRead)
  | fireWrite (t : TileLoc)
  | fireWin0 (r : TileRead)
  | fireWin1 (r : TileRead)
  | fireRead (r : TileRead)
  | fireIn (t : TileLoc)
  | fireOut (t : TileLoc)
  | tAcc (t : TileLoc)
  | tDrain (t : TileLoc)
  | tRqh (r : TileRead)
  | tMrd (t : TileLoc)
  | tMwr (r : TileRead)
  | tPset (t : TileLoc)
  | tPimm (t : TileLoc)
  | tPcnt (t : TileLoc)
  | tPlog (t : TileLoc)
  | tSel (t : TileLoc)
  | tBegin (t : TileLoc)
  | tBend (t : TileLoc)
  | tHalt (t : TileLoc)
  | tileSwapComplete (t : TileLoc)
  | terCtrlSnap (d : Die)
  | terCtrlClear (d : Die)
  | hbmReadResponse (t : TileLoc) (e : Ecc)
  -- cameras and Gatehouse
  | cxpStreamPacket (n : Cam) (p : CxpPacket)
  | cxpControlPacket (n : Cam) (bytes : List Byte)
  | linkLockLoss (n : Cam)
  | gthLinkTimeout (n : Cam)
  | linkReturn (n : Cam) (speed : BitVec 3)
  | camPortDisable (n : Cam)
  | gatehouseSendBand (h : Hub) (r : SendRead)
  | mainsRefEdge (h : Hub)
  | flkLockLoss (h : Hub)
  | gthFfWrite (n : Cam) (c : Fin 8192) (v : Word)
  | ffBankWrite (n : Cam) (bank : Bool)
  | gthRescaleBandWrite (n : Cam) (hi : Word)
  -- Kiosk and markers
  | kioskRow (h : Hub) (r : RowRead)
  | strobeTimeEnd (m : Cam)
  | gthMarkReqGo (h : Hub) (mask : BitVec 8)
  -- Pergola queues
  | pqItemOffer (q : QIx) (o : Offer)
  | pqPushGo (q : QIx) (v : BitVec 5)
  | pqBackpressureAccept (q : QIx)
  | pqPop (q : QIx) (ue : Bool)
  | pqFlush (q : QIx)
  | pqReset (q : QIx)
  | pqEnable (q : QIx) (cfg : Word)
  | pqDisable (q : QIx)
  | queuePtrMismatch (q : QIx) (copies : List (BitVec 16 × BitVec 16))
  | sink1Delivery (q : QIx) (ue : Bool)
  | sink2HostWrite (q : QIx) (ue : Bool)
  | hostHeadWrite (q : QIx) (v : Word)
  -- signal objects
  | sigSignal (s : SigIx) (n : BitVec 16)
  | sigTrywait (s : SigIx)
  | sigCountWrite (s : SigIx) (v : Word)
  | sigCfgWrite (s : SigIx) (v : Word)
  -- memory and Groundskeeper
  | scrubRead (w : MemWord) (e : Ecc)
  | gkpPassMsWrite (v : Word)
  | writeBack
  | gkpRepairGo
  | repairWrite
  | fillBlock (k : Stack)
  | allocRequest (q : QIx)
  | zeroingComplete (addr : Nat)
  -- Hedge
  | hedgeRequest (h : Hub) (r : HReq)
  | hedgeResponse (h : Hub) (m : Master) (id : BitVec 5)
  | holdbackRelease (h : Hub) (m : Master)
  | lockTimeout (h : Hub) (t : Target)
  | hdgWinEnable (h : Hub) (w : Fin 16) (v : Word)
  | hdgCtrlLocked (h : Hub)
  -- power domains
  | domainPowerRemoved (d : Domain)
  | domainPowerOnComplete (d : Domain)
  | bedZeroFillComplete (d : Die) (b : Fin 6)
  -- images
  | loadGo (mode : Bool)
  | loadAbort
  | swapNow
  | hubSwapBandWrite (hi : Word)
  | loadVerifyComplete
  | trellisDelivery (t : TileLoc)
  | activation
  | changeoverWindowClose
  | hubBar2BaseWrite (hi : Word)
  -- Lodge
  | lodgeInstruction (c : Core) (e : Ecc)
  | kqPush (c : Core) (rd rs1 rs2 : Fin 32)
  | kqPop (c : Core) (rd rs1 rs2 : Fin 32) (ue : Bool)
  | kqSig (c : Core) (rd rs1 rs2 : Fin 32)
  | kqWait (c : Core) (rd rs1 rs2 : Fin 32)
  | kqWaitGrant (s : SigIx)
  | kqWaitTimeout (c : Core)
  | interruptAbandon (c : Core)
  | porterStart (c : Core) (len : DWord)
  | porterComplete (c : Core)
  | kzirqRead (c : Core) (rd : Fin 32)
  | ecallExit (c : Core)
  | ecallAlloc (c : Core)
  | ecallFree (c : Core)
  | ecallTime (c : Core)
  | ecallBand (c : Core)
  | ldgTaskRecordWrite (h : Hub) (slot : Slot) (word : Fin 16) (v : Word)
  | ldgTaskGo (h : Hub) (slot : Slot)
  | ldgTaskCancel (h : Hub) (slot : Slot)
  | taskStart (h : Hub)
  | taskCancelComplete (h : Hub) (slot : Slot)
  | ldgCorePwrWrite (h : Hub) (v : BitVec 4)
  | ldgL2LockWrite (h : Hub) (v : BitVec 16)
  | kernelStopTimeout (h : Hub) (slot : Slot)
  -- host interface
  | bar0MisalignedAccess (off : BitVec 25) (be : BitVec 8) (write : Bool)
  | atomicop (bar : Fin 5) (off : DWord) (k : AtomicKind) (wide : Bool) (a b : DWord)
  | bar2Access (off : DWord) (write : Bool) (bytes : Fin 65) (r : LineRead)
  | msixUnmask (v : Fin 2048)
  | dbTail (c : Ctx) (r : Ring) (v : Word)
  | dbCancelTag (c : Ctx) (tag : Word)
  | sigwinWrite (c : Ctx) (s : SigIx) (n : BitVec 16)
  | sigwinRead (c : Ctx) (s : SigIx)
  | ctxCreate (c : Ctx)
  | ctxDestroy (c : Ctx)
  | ctxDestroyComplete (c : Ctx)
  | ctxDestroyEscalated (c : Ctx)
  | ctxClearFault (c : Ctx)
  | ctxTlbInv (c : Ctx)
  | tlbInvComplete (c : Ctx)
  | ctxOwnWrite (c : Ctx) (queues : Bool) (word : Fin 16) (v : Word)
  | ringDisable (c : Ctx) (r : Ring)
  | ringEntryFetch (c : Ctx) (r : Ring)
  | ringNop (c : Ctx) (r : Ring)
  | ringTask (c : Ctx) (r : Ring)
  | ringSignal (c : Ctx) (r : Ring)
  | ringWaitSig (c : Ctx) (r : Ring)
  | ringWaitGrant (s : SigIx)
  | ringWaitFence (c : Ctx) (r : Ring)
  | fencePoll (c : Ctx) (r : Ring)
  | ringWriteFence (c : Ctx) (r : Ring)
  | ringCopy (c : Ctx) (r : Ring)
  | entryComplete (c : Ctx) (r : Ring) (index : Word)
  -- Promenade and groups
  | flitReceive (p : Port) (f : Flit)
  | promenadeTokenRelease (p : Port)
  | prmLinkDown (p : Port)
  | msgHello (m : Member) (f : HelloFields)
  | msgCal (p : Port) (sent : DWord)
  | msgFormed (lat : Nat) (ckBase : DWord) (bandBase lineBase : W48)
  | msgRefused (masks : List (BitVec 16))
  | msgStart (first : W48)
  | msgTick (slot : DWord) (line pos hwm : W48)
  | msgBell (m : BellMsg)
  | msgStreamEnd (band : W48) (aborted : Bool)
  | msgArmed (m : Member) (digest : BitVec 256)
  | msgSwap (band : W48) (digest : BitVec 256)
  | msgFault (code : BitVec 16) (m : Member) (grpCk : DWord) (holding : Bool)
  | msgPtp (grpCk : DWord) (time : DWord)
  | ptpBroadcastTimer
  | controlMessageTimeout (kind : Fin 16)
  | tickMismatchTimeout
  | bellInEdge
  | groupTickApply
  | gholdNFall
  | gholdNRise
  | groupFreeze
  | groupResume
  | gholdStuck
  | grpForm
  | formingTimeout
  | grpLeave
  | prmModeWrite (mode : Bool)
  | autoReform
  | recal (p : Port)
  -- supply, power, containment, fuses
  | vsenseSample (h : Hub) (microvoltA microvoltB : Nat)
  | supWarnClear
  | supMismatch (h : Hub)
  | pfailNAssert (h : Hub)
  | drainCut
  | flushComplete
  | supThresholdWrite (h : Hub) (k : Threshold) (v : Word)
  | supDrainUsWrite (v : Word)
  | supFlushAck (slot : BitVec 2)
  | supPwrBedWrite (v : BitVec 12)
  | supPwrCamWrite (v : BitVec 16)
  | supPwrPrmWrite (v : BitVec 4)
  | containmentComplete
  | hubContainResume
  | hubFuseCmd (v : Word)
  | fuseOperationComplete (good : Bool)
  -- pins, thermal, test port
  | temperatureSample (slot : Fin 4) (t : BitVec 16)
  | thermalTrip
  | pinFuncWrite (k : Pin) (v : Word)
  | pinSwitchEnd (k : Pin)
  | ppsOut
  | testLogicReset
  | extest
  | clamp
  | idcode
  | bypass
  | samplePreload (preload : Option (BitVec 64))
  | bpbReadComplete (timeout : Bool)
  | pcieLinkReturn (width : BitVec 5) (speed : BitVec 3)
  | ptpServoUpdate (locked : Bool) (offsetNs : Int)
  | encoderLos (n : Enc) (lost : Bool)
  deriving DecidableEq, Repr

end Sys2Proof
end

