-- ==== Sys2Proof/Decode.lean ====
section
/-!
DEFINITION. The words of the opcode table: none of its rows has bits, so no word spells a command.
-/
namespace Sys2Proof

/-- The command that the word `w` of `nbits` bits spells by the table's bits: the table gives no row any bits. -/
def decodeTableWord (_nbits _w : Nat) : Option Instr := none

end Sys2Proof
end

