-- ==== Sys2Proof/Config.lean ====
section
/-!
DEFINITION. What an implementation fixes and the free values: constants with no body, so that no proof can see
what they are. Each is named in notes/assumptions/4.md.
-/
namespace Sys2Proof.Config

/-- A value the spec leaves open, one for each use: the use is numbered by `State.fresh`. -/
opaque freeValue : Nat → BitVec 512

/-- The byte of its store at which a weight, bias or parameter of a unit begins, where the spec does not give its place
(05 R265 for the fountain, 06 R300 for the Kiosk, R294 for the Gatehouse engine). Argument: which parameter. -/
opaque fieldPlace : Nat → Nat

/-- Whether a byte of a fountain's store is a depthwise weight, which FIRE DW3 and DW5 address at run time (03 Table 3.6; 05
R238). Arguments: image digest, tile, byte of the store. -/
opaque dwWeightByte : BitVec 256 → Nat → Nat → Bool

/-- The routes a hub's Gatehouse sends on (06 R297): the image format gives no field for them.
Arguments: IMAGE digest, hub; each route is (column of the rim gate, ROUTE, mask of its cameras, carries data, carries
SCALE). -/
opaque gatehouseRoutes : BitVec 256 → Nat → List (Fin 48 × BitVec 10 × BitVec 16 × Bool × Bool)

/-- Whether a cistern's FIRE READ sends SCALE tokens on a route: no field of the image says so (05 R249, 03 Table 3.6).
Arguments: image digest, tile, ROUTE. -/
opaque scaleRoute : BitVec 256 → Nat → BitVec 10 → Bool

/-- Identity registers of a Lodge core, which the RISC-V specifications leave to the implementation. Arguments: core, CSR. -/
opaque coreIdent : Nat → Nat → BitVec 64

/-- Whether a Lodge core's store buffer drains its oldest entry at the n-th opportunity (11 R507 leaves it open). -/
opaque drains : Nat → Bool

/-- Which line, if any, a Lodge L2 evicts at the n-th opportunity (11 Table 11.1 leaves replacement open). -/
opaque l2Evicts : Nat → Option Nat

/-- Whether a line of a Lodge L2 lies in a way when the way is locked (11 R497; placement is open). Arguments: the n-th
opportunity, way, line. -/
opaque l2InWay : Nat → Nat → Nat → Bool

/-- Whether an instruction-cache line is still held at the n-th opportunity (11 Table 11.1 leaves replacement open). -/
opaque icKeeps : Nat → Bool

/-- Extra bytes of the firmware's own: whether the firmware knows FMT_MINOR (10 Table 10.7 step 3). -/
opaque knowsMinor : BitVec 16 → Bool

/-- Where firmware places an image kernel in the firmware region (11 R527): the spec names no address.
Arguments: image digest, which kernel. -/
opaque kernelPlace : BitVec 256 → Nat → Nat

/-- Where firmware places a page table it adds to a context (11 R515 names no address).
Arguments: context, virtual page number, level. -/
opaque tablePlace : Nat → Nat → Nat → Nat

/-- CAP_FW_VERSION of a firmware package (02 R124): the spec does not say where the package holds it. -/
opaque firmwareVersion : List (BitVec 8) → BitVec 32

/-- Base-2 logarithm of the BAR 2 size that the host has set (12 Table 12.1): no command sets it. -/
opaque bar2Log : Nat

/-- The PTP domain in which the device's servo runs (13 Table 13.5): no register gives it. -/
opaque ptpDomain : BitVec 8

/-- A byte of the boot ROM (09 Table 9.4), whose contents the spec does not give. -/
opaque bootRom : Nat → BitVec 8

end Sys2Proof.Config
end

