-- ==== Sys2Proof/Machine/State.lean ====
section
/-!
DEFINITION. The state of the block as plain data, its reset value, and the reasons a step can stop.
BAR 0 registers that are storage live in `State.regs`, one word a cell, under the names of Machine/Operands.lean;
what the manual keeps behind them is here.
-/
namespace Sys2Proof.Machine

/-! ## Stops -/

/-- Faults. No command of this block stops the machine: what the manual calls a fault is an error record and
containment (14 R647), which are next states. The one constructor is raised by nothing; it is safe. -/
inductive Fault where
  /-- Raised by no command; safe. -/
  | none_
  deriving DecidableEq, Repr

/-- Refusals. -/
inductive Refusal where
  /-- A command that has no meaning in this model; raised by no arm once every row is modelled; safe. -/
  | notModelled (mnemonic : String)
  deriving DecidableEq, Repr

/-! ## Images (10) -/

/-- A window descriptor, four 64-bit words (04 Table 4.1). -/
structure WinDesc where
  w0 : DWord
  w1 : DWord
  w2 : DWord
  w3 : DWord
  deriving DecidableEq, Repr

/-- A delay-line descriptor, two 64-bit words (04 Table 4.3). -/
structure DlDesc where
  w0 : DWord
  w1 : DWord
  deriving DecidableEq, Repr

/-- A tile's configuration (10 Table 10.4 and the kind blocks). -/
structure TileCfg where
  pavilion : BitVec 16
  kind : BitVec 8
  markers : List (BitVec 10)
  prog : List Word
  bandEntry : BitVec 8
  /-- IQ[0..7], one word each: [5:0] depth, [13:8] bound, [16] HELD. -/
  iq : List Word
  /-- Arbor numeric fields: bytes 0–7 of the kind block (05 Table 5.2). -/
  num : DWord
  win : List WinDesc
  dl : List DlDesc
  deriving DecidableEq, Repr

/-- A tile record of an image (10 Table 10.4); `sw` holds its 8-byte switch entries. -/
structure TileRec where
  loc : Word
  markerCount : Nat
  progLen : Nat
  swCount : Nat
  ksLen : Nat
  cfg : TileCfg
  sw : List DWord
  off : Nat
  deriving DecidableEq, Repr

/-- A section table entry (10 Table 10.2) and whether its CRC matched. -/
structure Section where
  type : Nat
  inst : Nat
  mustKnow : Bool
  off : Nat
  len : Nat
  count : Nat
  crcGood : Bool
  deriving DecidableEq, Repr

structure PavRec where
  pavilion : Nat
  unit : Nat
  flags : Nat
  iiCk : Nat
  tileCount : Nat
  die : Nat
  firstTile : Nat
  off : Nat
  deriving DecidableEq, Repr

/-- A MEMORY_MAP region (10 Table 10.5). -/
structure Region where
  cls : Nat
  kind : Nat
  owner : Nat
  loc : Word
  start : Nat
  len : Nat
  off : Nat
  deriving DecidableEq, Repr

structure StoreRec where
  loc : Word
  store : Nat
  start : Nat
  data : List Byte
  off : Nat
  deriving DecidableEq, Repr

structure HbmInit where
  addr : Nat
  data : List Byte
  off : Nat
  deriving DecidableEq, Repr

/-- The GROUP section (13 Table 13.2). -/
structure GroupSec where
  groupDigest : BitVec 256
  size : Nat
  slot : Nat
  rings : Nat
  slotDigest : List (BitVec 256)
  routes : List DWord
  deriving DecidableEq, Repr

/-- The header fields of an image (10 Table 10.1) and its trailer (R452). -/
structure Header where
  magic : Word
  fmtMajor : Nat
  fmtMinor : BitVec 16
  len : Nat
  sectCount : Nat
  flags : BitVec 16
  minFw : Word
  reqFeatures : DWord
  ttDigest : BitVec 256
  predDigest : BitVec 256
  budget : Nat
  scrub : Nat
  holdAllow : Nat
  linePeriod : Nat
  bandLines : Nat
  bandSet : BitVec 16
  pavilions : Nat
  depthBells : Nat
  lagLines : Nat
  slot : Nat
  size : Nat
  sigMagic : Word
  keySlot : Nat
  sigR : BitVec 256
  sigS : BitVec 256
  digest : BitVec 256
  deriving DecidableEq, Repr

/-- A parsed Glilan image. -/
structure Image where
  hdr : Header
  sections : List Section
  tiles : List TileRec
  pavs : List PavRec
  regions : List Region
  stores : List StoreRec
  /-- HUB section entries: hub, BAR 0 offset, value, in list order. -/
  hub : List (Nat × Nat × Word)
  hbm : List HbmInit
  /-- KERNELS records of 64 bytes, each with its code and data (11 R526). -/
  kernels : List (Line × List Byte)
  group : Option GroupSec
  deriving DecidableEq, Repr

/-! ## Terrace (03–05) -/

/-- A token with the ck in which it entered its place, the conflict-free travel ck so far (03 R133), the ck of its last
counted conflict, and the tile and ROUTE that hold its credit (03 R136). -/
structure Flight where
  tok : Token
  at_ : Nat
  travel : Nat
  blocked : Option Nat
  org : Option (Nat × BitVec 10)
  deriving DecidableEq, Repr

/-- A switch entry keyed by (generation, ROUTE) (10 R457). -/
structure SwEntry where
  gen : BitVec 2
  route : BitVec 10
  action : Nat
  queue : BitVec 3
  prio : BitVec 3
  next : BitVec 16
  credits : Nat
  deriving DecidableEq, Repr

/-- A sequencer counter: limit and current value (03 "The sequencer"). -/
structure Counter where
  limit : Nat
  cur : Nat
  deriving DecidableEq, Repr

/-- One accumulator element: value, residue modulo 7, exempt mark (05 R247, R260). -/
structure AccCell where
  v : Int
  r : Nat
  ex : Bool
  deriving DecidableEq, Repr

/-- A read of HBM under way for a cistern (04 R229, R230). -/
structure HbmRead where
  queue : Nat
  dline : Nat
  unit : Nat
  tokens : Nat
  addr : Nat
  gen : BitVec 2
  early : Bool
  deriving DecidableEq, Repr

/-- A background transfer on a cistern port (03 R160): mode 0–3 of FIRE, 4 MRD, 5 MWR. -/
structure BgJob where
  port : Nat
  mode : Nat
  q : Nat
  d : Nat
  n : Nat
  done : Nat
  addr : Nat
  route : BitVec 10
  deriving DecidableEq, Repr

inductive TilePhase where
  | unconfigured | running | drained | halted | faulted | swapping
  deriving DecidableEq, Repr

/-- What the sequencer waited for when it last could not proceed (03 R179). -/
inductive TileWait where
  | none_ | input | credit | port
  deriving DecidableEq, Repr

structure TileFault where
  code : BitVec 16
  pc : BitVec 8
  gen : BitVec 2
  band : W48
  deriving DecidableEq, Repr

/-- A fault condition that a tile met in the present ck, with what its record carries: the first of R177's order is kept
until the ck ends (03 R177). -/
structure FaultCond where
  at_ : TileFault
  d0 : Nat
  d1 : Nat
  d2 : Nat
  deriving DecidableEq, Repr

/-- The sequencer's registers (03 "The sequencer"). -/
structure SeqRegs where
  cnt : Tab Counter
  ar : Tab (BitVec 16)
  rr : BitVec 10
  pred : BitVec 4
  buf : Tab Token
  deriving DecidableEq, Repr

/-- Queues, stepping stones (keys 0–3 N E S W, 4 own injection), switch, credits and indexes of a tile. -/
structure TileIo where
  q : Tab (List Flight)
  hwm : Tab Nat
  hwmSnap : Tab Nat
  stones : Tab (List Flight)
  outAt : Tab Nat
  sw : List SwEntry
  credits : Tab Nat
  sendIdx : Tab Nat
  recvIdx : Tab Nat
  midItem : Tab Bool
  ports : Tab Nat
  deriving DecidableEq, Repr

/-- Arbor state: accumulators (key row · 16 + channel), holding buffer, scale records (05). -/
structure ArbState where
  acc : Tab AccCell
  /-- Requantiser holding buffer, oldest row first. -/
  hold : List (List Int)
  scale : Tab Word
  rescale : Word
  gotScale : Bool
  deriving DecidableEq, Repr

/-- Cistern and depthwise state: generator positions and patches, band index, delay-line offsets, reads under way,
columns kept by the depthwise path, FMT of the last token written. -/
structure WinState where
  pos : Tab Nat
  patch : Tab Nat
  bandIdx : Nat
  dlOff : Tab Nat
  reads : List HbmRead
  cols : List (List Line)
  fmt : BitVec 3
  /-- Raw tokens of the Cellar unit being written (04 R224). -/
  unit : List Line
  jobs : List BgJob
  /-- Tokens of HBM responses that have not yet entered their queue, with the queue (04 R231). -/
  feed : List (Nat × Token)
  deriving DecidableEq, Repr

/-- Time and event counters of a tile (03 R179, 05 R257). -/
structure TileCtr where
  firing : Nat
  waitIn : Nat
  waitCredit : Nat
  conflict : Nat
  sat : Nat
  accOvf : Nat
  fsat : Nat
  faccOvf : Nat
  deriving DecidableEq, Repr

structure Tile where
  cfg : Option TileCfg
  shadow : Option TileCfg
  shadowReady : Bool
  gen : BitVec 2
  phase : TilePhase
  pc : BitVec 8
  /-- The PC ran past 255 (03 R152). -/
  pastEnd : Bool
  /-- Unfrozen ck the present instruction still takes. -/
  busy : Nat
  /-- The present busy time counts as firing; false for WAITCK (03 R179). -/
  busyFires : Bool
  /-- Steps of a counted instruction already done (03 R154). -/
  steps : Nat
  /-- The instruction at the PC has issued and is not complete (03 R149, R154). -/
  going : Bool
  wait : TileWait
  band : W48
  fault : Option TileFault
  /-- The fault condition met in the present ck (03 R177). -/
  cond : Option FaultCond
  /-- Hold requests raised and not withdrawn: queue and number of tokens (03 R168). -/
  holdReq : List (Nat × Nat)
  /-- Band of the last EOB that the tile has sent on (03 R173), and whether EOS has passed it since its last band with data
  (10 R489). -/
  eob : Option W48
  eosPast : Bool
  seq : SeqRegs
  io : TileIo
  mem : List Host.Cell
  poison : List Nat
  arb : ArbState
  win : WinState
  /-- Counts up to the present ck, counts of the present ck (03 R182), and the snapshot. -/
  ctr : TileCtr
  ctrCk : TileCtr
  snap : TileCtr
  deriving DecidableEq, Repr

def Counter.init : Counter := ⟨1, 1⟩
def AccCell.zero : AccCell := ⟨0, 0, false⟩
def Token.zero : Token := ⟨0, 0, 0⟩
def SeqRegs.init : SeqRegs := ⟨[], [], 0, 0, []⟩
def TileIo.empty : TileIo := ⟨[], [], [], [], [], [], [], [], [], [], []⟩
def ArbState.empty : ArbState := ⟨[], [], [], 0, false⟩
def WinState.empty : WinState := ⟨[], [], 0, [], [], [], 0, [], [], []⟩
def TileCtr.zero : TileCtr := ⟨0, 0, 0, 0, 0, 0, 0, 0⟩

/-- An unconfigured tile with zeroed memories (08 R377). -/
def Tile.blank : Tile :=
  { cfg := none, shadow := none, shadowReady := false, gen := 0, phase := .unconfigured, pc := 0, pastEnd := false,
    busy := 0, busyFires := true, steps := 0, going := false, wait := .none_, band := 0, fault := none, cond := none,
    holdReq := [], eob := none, eosPast := false,
    seq := SeqRegs.init, io := TileIo.empty, mem := [], poison := [], arb := ArbState.empty, win := WinState.empty,
    ctr := TileCtr.zero, ctrCk := TileCtr.zero, snap := TileCtr.zero }

/-- Per-die counters: ck and held ck since the last clear, and their snapshots (03 R179–R182). -/
structure DieCtr where
  elapsed : Nat
  held : Nat
  elapsedSnap : Nat
  heldSnap : Nat
  /-- A snapshot was written in the present ck, which it counts too (03 R182). -/
  snapCk : Bool
  deriving DecidableEq, Repr

/-! ## Bell and ledger (01) -/

/-- The stamp of a tick (06 R276), with the ck of the tick, the substitution bits and the time-degraded mark. -/
structure Stamp where
  line : W48
  pos : W48
  time : DWord
  at_ : Nat
  sub : BitVec 16
  degraded : Bool
  deriving DecidableEq, Repr

/-- Missing lines of one camera in one band: count, cause of the first, number of the first (06 R283). -/
structure Miss where
  count : Nat
  cause : Nat
  first : W48
  deriving DecidableEq, Repr

/-- Bad lines of one camera in one band (06 R282). -/
structure BadLines where
  count : Nat
  first : W48
  deriving DecidableEq, Repr

/-- A ledger verdict: status, cause, quantity (01 Table 1.2). -/
structure Verdict where
  status : Nat
  cause : Nat
  qty : Nat
  deriving DecidableEq, Repr

inductive BandPhase where
  | assembling | waiting | inFlight | reversed | finished
  deriving DecidableEq, Repr

/-- A band with at least one tick that is not yet in a ledger run. `closed` counts each camera's ticks that have
closed or been matched; `verdict` is set once the band is shed, discarded or has left the last stage. -/
structure BandRec where
  num : W48
  first : Stamp
  last : Stamp
  ticks : Nat
  closed : Tab Nat
  miss : Tab Miss
  bad : Tab BadLines
  phase : BandPhase
  gen : BitVec 2
  tag : BitVec 16
  holdQty : Nat
  degraded : Bool
  verdict : Option Verdict
  deriving DecidableEq, Repr

/-- An open run of the ledger (01 R70). -/
structure Run where
  first : W48
  count : Nat
  mask : BitVec 16
  verdict : Verdict
  gen : BitVec 2
  tag : BitVec 16
  posStart : W48
  posEnd : W48
  timeStart : DWord
  timeEnd : DWord
  degraded : Bool
  openedAt : Nat
  deriving DecidableEq, Repr

/-- What the Gatehouse of a hub sends: an admitted band, an idle bell, or END_OF_STREAM (06 R297, 01 R39). -/
inductive SendKind where
  | band | idle | eos
  deriving DecidableEq, Repr

/-- One item of a Gatehouse's sending order, and the ck from which it may be sent (13 R599). -/
structure SendItem where
  kind : SendKind
  band : W48
  at_ : Nat
  deriving DecidableEq, Repr

inductive StreamPhase where
  | closed | running | ending | draining
  deriving DecidableEq, Repr

structure BellState where
  tickAcc : Nat
  zRef : Option W48
  timerDue : Nat
  phase : StreamPhase
  /-- The stream's last band, once it is known (01 R39). -/
  lastBand : Option W48
  bands : List BandRec
  /-- Ck of the last admission A; none while the next band bell has no gate (01 R44, R48). -/
  admittedAt : Option Nat
  /-- Hold ck counted since A (01 R44). -/
  holdSince : Nat
  /-- Hold ck of the present bell interval; none outside one (01 R54). -/
  interval : Option Nat
  /-- Depth reached by the reversal episode in progress (01 R58). -/
  reversal : Option Nat
  /-- Line number of the stream's first line (06 R309). -/
  firstLine : W48
  lastTickAt : Option Nat
  lastIdleAt : Option Nat
  lastBellAt : Option Nat
  lastBandBellAt : Option Nat
  drainBells : Nat
  /-- Per hub, what its Gatehouse is still to send, in order. -/
  sendq : Tab (List SendItem)
  /-- The band bell fires at the end of the present ck unless a line still arrives (06 R323). -/
  atEnd : Bool
  deriving DecidableEq, Repr

structure LedgerState where
  runs : List Run
  store : List Line
  lostMark : Bool
  closeWanted : Bool
  /-- Admission is stopped by LEDGER_FULL (01 R75). -/
  full : Bool
  /-- Ck at which LEDGER_FULL ended, until the first final band after it (01 R700). -/
  resumed : Option Nat
  deriving DecidableEq, Repr

/-- The hold tree (01 R50): its value, its edges still travelling, when it rose, and whether the machine is frozen. -/
structure HoldState where
  tree : Bool
  edges : List (Nat × Bool)
  roseAt : Nat
  frozen : Bool
  deriving DecidableEq, Repr

/-! ## Gatehouse and Kiosk (06) -/

structure OpenTick where
  line : W48
  band : W48
  at_ : Nat
  deriving DecidableEq, Repr

structure StoredLine where
  line : W48
  band : W48
  pixels : List (BitVec 12)
  crc : Word
  /-- Flat-field bank in force for its band (06 R292). -/
  bank : Bool
  deriving DecidableEq, Repr

structure CamState where
  open_ : List OpenTick
  /-- Pixels of the line in arrival; the second part is true once a packet of it was bad. -/
  partial_ : Option (List (BitVec 12) × Bool)
  lines : List StoredLine
  /-- Good lines of the stream that have left line memory and may still stand for a missing one, in line order (06 R287). -/
  good : List (W48 × List (BitVec 12))
  /-- Band and value of an armed rescale (06 R298). -/
  armed : Option (W48 × Word)
  bank : Bool
  /-- A bank that waits for the next band's first line, and the ck of its write (06 R292). -/
  bankWanted : Option (Bool × Nat)
  lost : Bool
  /-- A stream packet has come since reset. -/
  streamed : Bool
  /-- The oldest open tick closes at the end of the present ck unless a line still arrives (06 R323). -/
  expires : Bool
  lastPacketAt : Nat
  mailbox : List (List Byte)
  gap : Bool
  /-- Next and last line of the frame under way, in frame mode (06 R277). -/
  frame : Option (W48 × W48)
  /-- The last 8 corrected rows read out, latest last (06 R296). -/
  halo : List (List Byte)
  deriving DecidableEq, Repr

structure Strobe where
  start : W48
  stop : W48
  timed : Bool
  widthUs : Nat
  startedAt : Option Nat
  /-- Ck at which the fixed pulse of a started strobe of no length ends (06 R316). -/
  pulseEnd : Option Nat
  deriving DecidableEq, Repr

structure MainsState where
  lastEdge : Option Nat
  /-- The latest accepted edge. -/
  accEdge : Option Nat
  periods : List Nat
  streak : Nat
  deriving DecidableEq, Repr

/-- Tokens that a Gatehouse still has to send on one route: ck of engine time before them, then one token a ck (06 R294,
R297). -/
structure Sending where
  gate : Nat
  route : BitVec 10
  gen : BitVec 2
  wait : Nat
  /-- The engine computes these, and stands still in a freeze (01 R50). -/
  engine : Bool
  band : W48
  toks : List (Nat × Nat × Line)
  deriving DecidableEq, Repr

structure GthState where
  cams : Tab CamState
  ff : Tab Word
  stamps : List Stamp
  strobes : Tab (List Strobe)
  mains : Tab MainsState
  store : Tab (List Host.Cell)
  /-- Per hub, the bands that its engine has read out since the stream began (04 R199). -/
  bandIdx : Tab Nat
  /-- Per hub, what its Gatehouse is sending. -/
  out : Tab (List Sending)
  deriving DecidableEq, Repr

def CamState.init : CamState :=
  ⟨[], none, [], [], none, false, none, true, false, false, 0, [], false, none, []⟩
def MainsState.init : MainsState := ⟨none, none, [], 0⟩

/-- An open component (06 R305). Rows count class-map rows of the camera in emission order. One with no pixels stands for
the columns in which a split component may continue (06 R307). -/
structure Comp where
  cam : Nat
  cls : Nat
  firstRow : Nat
  firstCol : Nat
  rule : Nat
  /-- Marker mask of the MARK rule that governs the first pixel. -/
  marks : Option (BitVec 8)
  lineFirst : W48
  lineLast : W48
  xMin : Nat
  xMax : Nat
  pixels : Nat
  sum : Int
  max : Int
  rows : Nat
  splitBefore : Bool
  seam : Bool
  lastCols : List Nat
  deriving DecidableEq, Repr

structure KskState where
  comps : List Comp
  /-- Settings in force for the latest bands (06 R304), keyed by offset in the hub's Kiosk block. -/
  force : List (W48 × Tab Word)
  seq : Nat
  dropped : BitVec 16
  /-- Per camera: 0 before the first row, else twice the last band with a row plus one, plus one for a seam before it. -/
  lastBand : Tab Nat
  /-- Per camera: class-map rows emitted so far. -/
  rowCount : Tab Nat
  /-- Per camera and band that is not final, the camera's open components before the band's first row (14 Table 14.7). -/
  snaps : List (Nat × W48 × List Comp)
  store : List Host.Cell
  /-- Tokens on their way from the rim gates or waiting at the Kiosk entry, with the gate each left (03 R130). -/
  inbox : List (Nat × Flight)
  /-- Per camera: input rows received and still held, latest last, and how many have been received in the stream. -/
  rows : Tab (List (List Line))
  rowsIn : Tab Nat
  /-- Per camera: the tokens of the row in arrival. -/
  part : Tab (List Line)
  /-- Per camera: twice the band whose header came last plus two, plus one where IDLE; 0 before one, 1 where END_OF_CONFIG
  has passed. Class-map rows emitted with that band, and bands with data begun. -/
  band : Tab Nat
  bandRow : Tab Nat
  bandIdx : Tab Nat
  deriving DecidableEq, Repr

def KskState.init : KskState := ⟨[], [], 0, 0, [], [], [], [], [], [], [], [], [], [], []⟩

/-! ## Pergola queues (07) -/

structure QItem where
  data : Line
  prio : BitVec 3
  sop : Bool
  eop : Bool
  writer : BitVec 8
  src : Nat
  pkt : Nat
  poison : Bool
  deriving DecidableEq, Repr

/-- A packet open on the write side (07 R337). -/
structure OpenPkt where
  prio : BitVec 3
  writer : BitVec 8
  src : Nat
  pkt : Nat
  deriving DecidableEq, Repr

/-- A writer whose items of a discarded packet, at its priority, are discarded up to the writer's next SOP (07 R335, R346),
counted as lost or as flushed. -/
structure Discarding where
  writer : BitVec 8
  src : Nat
  prio : BitVec 3
  lost : Bool
  deriving DecidableEq, Repr

structure PqState where
  items : List QItem
  openW : List OpenPkt
  openR : Option Nat
  dropping : List Discarding
  held : List Offer
  nextPkt : Nat
  wptr : BitVec 16
  rptr : BitVec 16
  above : Bool
  popStatus : DWord
  popData : Line
  pushData : Line
  /-- SINK 1: credits in use. -/
  sinkUsed : Nat
  /-- The error queue's loss mark (12 R564). -/
  lostMark : Bool
  deriving DecidableEq, Repr

def PqState.empty : PqState :=
  ⟨[], [], none, [], [], 0, 0, 0, false, 0, 0, 0, 0, false⟩

/-! ## Memory (08) -/

/-- A read that found a correctable error, with the row to write back (08 R370, R403). -/
structure WriteBack where
  word : MemWord
  row : List Byte
  deriving DecidableEq, Repr

structure MemState where
  hbm : List Host.Cell
  hbmPoison : List Nat
  /-- Blocks filled per stack in increasing order, and blocks filled out of order (08 R382, R384). -/
  filled : Tab Nat
  filledEarly : Tab (List Nat)
  hubPoison : List MemWord
  writeBacks : List WriteBack
  repair : Bool
  repairData : Line
  /-- Times (ck) of the correctable errors per unit, and of the last CE_RATE record per unit (08 R373). -/
  ceTimes : Tab (List Nat)
  ceReport : Tab Nat
  passStart : Nat
  /-- Rows read in the present pass, per memory, as ranges [from, to) (08 R400): tiles by key, stack k as 4096 + k. -/
  passRows : Tab (List (Nat × Nat))
  /-- Slots of cisterns used in this ck, per tile: one scrub read, one write-back or repair (08 R396). -/
  slots : List (Nat × Bool)
  spiNor : List Host.Cell
  deriving DecidableEq, Repr

structure AllocState where
  /-- Live allocations: start, (bytes, context). -/
  live : Tab (Nat × Nat)
  /-- Ranges being zeroed: start, bytes. -/
  zeroing : Tab Nat
  refusals : Nat
  poolBase : Nat
  poolLen : Nat
  deriving DecidableEq, Repr

/-! ## Hedge (09) -/

/-- Where a request stands: held back, waiting for its target, on its way to the other hub, or done at its target. -/
inductive TxnState where
  | heldOrder | heldLock | waiting | crossing | granted
  deriving DecidableEq, Repr

/-- A request that has not been answered (09 R429). `key` numbers it in its hub, `seq` is its place in the order of arrival at its
target. One that came over HUBX names the request of the other hub that it stands for, and that one's master. -/
structure HTxn where
  req : HReq
  target : Nat
  st : TxnState
  code : Nat
  source : Nat
  data : Line
  key : Nat
  seq : Nat
  org : Option (Nat × Nat)
  deriving DecidableEq, Repr

structure HLock where
  master : Nat
  id : BitVec 5
  count : Nat
  at_ : Nat
  broken : Bool
  /-- The UNLOCK transfer has been granted; the lock ends when it completes (09 R438). -/
  done : Bool
  deriving DecidableEq, Repr

structure HdgState where
  txns : List HTxn
  locks : Tab (Option HLock)
  last : Tab Nat
  /-- Bits of HDG_GATE that are closed, and those whose record has been emitted (09 R442, R444). -/
  closed : List Nat
  reported : List Nat
  /-- The next number of a request, and of an arrival at a target. -/
  next : Nat
  /-- Accesses of units outside `txns` that are held back and have been counted: master and target (09 R435, R438). -/
  inStep : List (Nat × Nat)
  /-- An access that the present step found held back: master, target, cause; none between steps. -/
  stall : Option (Nat × Nat × Nat)
  deriving DecidableEq, Repr

def HdgState.empty : HdgState := ⟨[], [], [], [], [], 0, [], none⟩

/-! ## Loader (10) -/

structure LoadState where
  staged : Option Image
  active : Option Image
  /-- Tiles whose shadow is still to be delivered, by key. -/
  todo : List Nat
  /-- The armed band of a MODE 1 swap not yet sent (10 R482). -/
  armed : Option W48
  /-- Hubs whose Gatehouse has sent EOC for the changeover under way. -/
  eocSent : List Nat
  windowOpen : Bool
  windowBells : Nat
  /-- A host write of HUB_SWAP_BAND or SWAP_NOW that set the band (10 R482); SWAP_NOW is none inside. -/
  swapWanted : Option (Option W48)
  /-- Bytes the Trellis has delivered (10 Table 10.6). -/
  bytesDone : Nat
  /-- Hubs whose Kiosk has taken its new configuration in the changeover under way (10 R485). -/
  kioskSwapped : List Nat
  /-- MODE as the GO of the load had it: true for a changeover (10 R466, R475). -/
  mode : Bool
  deriving DecidableEq, Repr

def LoadState.empty : LoadState := ⟨none, none, [], none, [], false, 0, none, 0, [], false⟩

/-! ## Lodge (11) -/

inductive KqKind where
  | push | wait
  deriving DecidableEq, Repr

structure KqWaiting where
  kind : KqKind
  rd : Nat
  obj : Nat
  offer : Option Offer
  since : Nat
  timeout : Nat
  deriving DecidableEq, Repr

/-- A store in a core's store buffer: physical address, bytes, data, and whether it goes through the L2 (11 R496,
R507). -/
structure SbEntry where
  pa : Nat
  n : Nat
  data : DWord
  cached : Bool
  deriving DecidableEq, Repr

structure CoreState where
  pc : DWord
  x : Tab DWord
  f : Tab DWord
  csr : Tab DWord
  priv : BitVec 2
  resv : Option Nat
  /-- Store buffer, oldest first (11 R507). -/
  sb : List SbEntry
  /-- Instruction cache: lines by physical line number, until FENCE.I (11 Table 11.1). -/
  ic : Tab Line
  irq : List (BitVec 16)
  irqOver : Bool
  wait : Option KqWaiting
  porter : Bool
  task : Option Nat
  deriving DecidableEq, Repr

def CoreState.reset : CoreState :=
  { pc := 0, x := [], f := [], csr := [], priv := 3, resv := none, sb := [], ic := [], irq := [], irqOver := false,
    wait := none, porter := false, task := none }

structure L2Line where
  data : Line
  dirty : Bool
  deriving DecidableEq, Repr

/-- An image kernel as firmware placed it (11 R526, R527): its record, the generation of its image, the places (start, bytes) of
its code and of its data with its stack, the queues its image configures and its image's HBM regions. -/
structure Kern where
  record : Line
  gen : BitVec 2
  code : Nat × Nat
  data : Nat × Nat
  queues : List Nat
  regions : List (Nat × Nat)
  deriving DecidableEq, Repr

structure TaskState where
  /-- State of Table 11.9. -/
  st : Nat
  core : Option Nat
  order : Nat
  /-- Ring entry it came from: context, ring, index. -/
  origin : Option (Nat × Nat × Nat)
  startedAt : Nat
  runCk : Nat
  /-- Bytes a COPY task still moves: source, destination, length. -/
  copy : Option (DWord × DWord × Nat)
  interrupted : Bool
  faulting : Bool
  /-- The image kernel that the task runs (11 R526–R528). -/
  krec : Option Kern
  stopAt : Option Nat
  /-- Ck spent ready without a core (12 Table 12.5 CTX_READY_NS). -/
  readyCk : Nat
  /-- The ck of the last cancel that found the slot free (11 R530). -/
  cancelAt : Option Nat
  /-- When the disabling of its ring cancelled it (12 R571). -/
  objAt : Option Nat
  deriving DecidableEq, Repr

def TaskState.free : TaskState := ⟨0, none, 0, none, 0, 0, none, false, false, none, none, 0, none, none⟩

structure LodgeState where
  cores : Tab CoreState
  /-- Per hub, the lines its L2 holds, by physical line number. -/
  l2 : Tab (Tab (Option L2Line))
  scratch : Tab (List Host.Cell)
  tasks : Tab TaskState
  nextOrder : Nat
  deriving DecidableEq, Repr

/-! ## Contexts (12) -/

inductive EntryPhase where
  | fetched | waiting | running | ready
  deriving DecidableEq, Repr

/-- A fetched ring entry that has not completed (12 R550, R556). -/
structure REntry where
  ring : Nat
  index : Word
  words : Line
  phase : EntryPhase
  state : Nat
  code : BitVec 16
  exit : Word
  runNs : Nat
  deriving DecidableEq, Repr

structure CtxState where
  entries : List REntry
  destroyAt : Option Nat
  /-- CTX_PT_ROOT has been written (12 R548). -/
  rootWritten : Bool
  /-- Doorbells accepted in the ck `rangAt`: ring and TAIL before (12 R575). -/
  rang : List (Nat × Word)
  rangAt : Nat
  deriving DecidableEq, Repr

def CtxState.empty : CtxState := ⟨[], none, false, [], 0⟩

/-! ## Groups (13) -/

/-- A token in a port's receive buffer, with its flit's STAMP and SEQ; `late` when it came too late (13 R585, R622). -/
structure RxTok where
  stamp : BitVec 20
  seq : BitVec 12
  late : Bool
  tok : Token
  deriving DecidableEq, Repr

/-- A Promenade port: next SEQ to send and to receive, flits sent and not yet acknowledged, receive buffer, the latest good
flit, and the echo round trips of a calibration (13 R578–R588). -/
structure Link where
  txSeq : BitVec 12
  rxNext : BitVec 12
  replay : List Flit
  rxBuf : List RxTok
  lastGood : Nat
  up : Bool
  trips : List Nat
  deriving DecidableEq, Repr

def Link.init : Link := ⟨0, 0, [], [], 0, false, []⟩

/-- A tick pulse on BELL_IN: its slot, when it was seen, and the line number of its tick once applied before its TICK
message (13 R594–R597). -/
structure Pulse where
  slot : Nat
  at_ : Nat
  applied : Option W48
  deriving DecidableEq, Repr

/-- A TICK message waiting for its pulse (13 R596, R597). -/
structure TickMsg where
  slot : DWord
  line : W48
  pos : W48
  hwm : W48
  at_ : Nat
  deriving DecidableEq, Repr

structure GroupState where
  links : Tab Link
  /-- HELLO messages of the forming under way, by member. -/
  hello : List (Nat × HelloFields)
  formAt : Option Nat
  pulses : List Pulse
  ticks : List TickMsg
  /-- Bells of this follower that await their BELL message. -/
  ownBells : List BellMsg
  armed : List (Nat × BitVec 256)
  gholdLow : Bool
  /-- GHOLD_N edges sensed and not yet applied: slot boundary, low. -/
  gholdEdges : List (Nat × Bool)
  gholdSince : Nat
  /-- H as the leader last sent it (13 R596). -/
  hwm : W48
  /-- This member drives GHOLD_N low (13 R601). -/
  pullLow : Bool
  /-- GRP_CK minus State.now (13 R583, R609). -/
  ckBase : Int
  running : Bool
  /-- A ring link was down since the last calibration (13 R617). -/
  linkWasDown : Bool
  /-- The last slot for which BELL_OUT was driven (13 R594). -/
  outSlot : Option Nat
  /-- The band of a START that ends the SHED_GROUP of an open stream (13 R616, R617). -/
  startBand : Option W48
  lastPtp : Option Nat
  deriving DecidableEq, Repr

def GroupState.empty : GroupState :=
  { links := [], hello := [], formAt := none, pulses := [], ticks := [], ownBells := [], armed := [], gholdLow := false,
    gholdEdges := [], gholdSince := 0, hwm := 0, pullLow := false, ckBase := 0, running := false, linkWasDown := true,
    outSlot := none, startBand := none, lastPtp := none }

/-! ## Supply, power, containment, boot, fuses (14) -/

/-- One sense input: consecutive samples below FAIL_LO, below WARN_LO, above WARN_HI, above FAIL_HI, and open (14 R625). -/
structure InCnt where
  lowFail : Nat
  lowWarn : Nat
  highWarn : Nat
  highFail : Nat
  open_ : Nat
  deriving DecidableEq, Repr

def InCnt.zero : InCnt := ⟨0, 0, 0, 0, 0⟩

/-- One hub's sentinel: what its inputs have met, PFAIL_N, since when the inputs differ, and since
when they are inside the hysteresis band (14 R625–R631). -/
structure SentState where
  a : InCnt
  b : InCnt
  okSince : Option Nat
  diffSince : Option Nat
  pfail : Bool
  level : Nat
  sampled : Bool
  deriving DecidableEq, Repr

def SentState.init : SentState := ⟨InCnt.zero, InCnt.zero, none, none, false, 0, false⟩

structure FlushPlan where
  header : List Byte
  items : List Line
  pages : Nat
  deriving DecidableEq, Repr

structure SupState where
  sent : Tab SentState
  t0 : Option Nat
  cause : BitVec 16
  causeCode : BitVec 16
  bandT0 : W48
  timeT0 : DWord
  cut : Bool
  plan : Option FlushPlan
  /-- Flush slots in use: slot, (FLUSH_SEQ, acknowledged). -/
  slots : Tab (Nat × Bool)
  /-- Slot and FLUSH_SEQ of the last flush since manufacture (14 R637, Table 14.3). -/
  last : Option (Nat × Nat)
  warnHeld : Bool
  deriving DecidableEq, Repr

structure PowerState where
  /-- Domains whose power is being removed or brought up, by number. -/
  turningOff : List Nat
  turningOn : List Nat
  off : List Nat
  deriving DecidableEq, Repr

structure ContainState where
  active : Bool
  code : BitVec 16
  at_ : Nat
  /-- Ck of the faults that count towards the limit (14 R650, R651). -/
  times : List Nat
  /-- Lowest band that step 2 ledgers (14 R647). -/
  first : Option W48
  /-- Cause of a group fault, until START (13 R615, R616). -/
  groupCode : Option (BitVec 16)
  deriving DecidableEq, Repr

inductive BootStep where
  | held | started | running | published | ready | failed
  deriving DecidableEq, Repr

structure BootState where
  step : BootStep
  /-- BOOT_SRC as sampled; 1 after a fallback (14 R654). -/
  src : BitVec 2
  trained : Bool
  verified : Bool
  bpb : List Byte
  bpbRead : Bool
  package : List Byte
  chunkEnd : Bool
  linkUp : Bool
  /-- Version of the firmware that the boot loaded, CAP_FW_VERSION (02 R124). -/
  fw : Word
  /-- EXTEST or CLAMP holds the device in reset (15 R688). -/
  tapHold : Bool
  deriving DecidableEq, Repr

structure FuseState where
  keys : Tab Line
  state : Tab Nat
  /-- Key states latched at boot step 2 (14 R660). -/
  latched : Tab Nat
  cmdAt : Option (Nat × Word)
  op : Option Word
  deriving DecidableEq, Repr

/-! ## Pins (15) -/

structure PinState where
  /-- Function in force per pin. -/
  func : Tab Nat
  /-- Pins switching: the ck their switch started. -/
  switching : Tab (Option Nat)
  preload : BitVec 64
  tapInstr : Nat
  tapData : Word
  alert : Bool
  /-- Since when each die has been at or above 115 °C. -/
  hotSince : Tab (Option Nat)
  ppsAt : Option Nat
  stopped : Bool
  deriving DecidableEq, Repr

/-! ## What the device sends to the outside -/

/-- Messages the device has sent (MSI-X, host writes, triggers, Promenade messages, SPI pages, pulses). -/
inductive OutMsg where
  | msix (v : Nat)
  | hostWrite (addr : Nat) (data : List Byte)
  | trigger (n : Nat) (line : W48)
  | tickOut (line : W48)
  | bellOut (slot : Nat)
  | ppsOut
  | prmFlit (p : Nat) (f : Flit)
  | prmMsg (kind : Nat) (fields : List Nat)
  | cxpMail (n : Nat) (bytes : List Byte)
  | spiPage (slot page : Nat) (data : List Byte)
  | spiReset
  | coreNotice (c : Nat)
  /-- A MARK_OUT strobe goes active or inactive (06 R316). -/
  | mark (m : Nat) (active : Bool)
  deriving DecidableEq, Repr

/-- PTP time in fifths of a ns, servo lock, offsetFromMaster in ns and whether an offset episode is open (13 R612). -/
structure PtpState where
  fifths : Nat
  locked : Bool
  offset : Int
  episode : Bool
  deriving DecidableEq, Repr

/-- Which part is fitted, as its part code (02 Table 2.6), and its identity. -/
structure Identity where
  part : BitVec 16
  silicon : Byte
  serial : DWord
  deriving DecidableEq, Repr

/-! ## The whole state -/

structure State where
  ident : Identity
  now : Nat
  fresh : Nat
  ptp : PtpState
  regs : Tab Word
  /-- What events of the present ck have set or counted, per word of `regs` (00 R14, R15). -/
  born : Tab Word
  latch : Tab Word
  /-- What the last read of a register, or the last AtomicOp, returned. -/
  readValue : DWord
  /-- What the last BAR 2 read returned. -/
  readData : List Byte
  /-- Completion of the last non-posted request (12 Table 12.2): 0 SC, 1 UR, 2 CA, 3 SC with EP; for a Hedge response, its
  RESP and, times 8, its SOURCE. -/
  readStatus : Nat
  outbox : List OutMsg
  hostMem : List Host.Cell
  bell : BellState
  ledger : LedgerState
  hold : HoldState
  tiles : Tab Tile
  dies : Tab DieCtr
  gth : GthState
  ksk : Tab KskState
  pqs : Tab PqState
  errSeq : Nat
  mem : MemState
  alloc : AllocState
  hdg : Tab HdgState
  load : LoadState
  lodge : LodgeState
  ctxs : Tab CtxState
  grp : GroupState
  sup : SupState
  power : PowerState
  contain : ContainState
  boot : BootState
  fuse : FuseState
  pins : PinState
  sideband : List (Nat × Nat × Nat)
  pending : List Instr
  deriving DecidableEq, Repr

def DieCtr.zero : DieCtr := ⟨0, 0, 0, 0, false⟩

/-- The machine right after reset: held in device reset, every register at its reset value, nothing configured,
no command waiting. Values the spec does not give are in notes/assumptions/1.md and 5.md. -/
def State.reset : State :=
  { ident := { part := 0x4100, silicon := 0x43, serial := 0 }
    now := 0
    fresh := 0
    ptp := { fifths := 0, locked := false, offset := 0, episode := false }
    regs := []
    born := []
    latch := []
    readValue := 0
    readData := []
    readStatus := 0
    outbox := []
    hostMem := []
    bell := { tickAcc := 0, zRef := none, timerDue := 0, phase := .closed, lastBand := none, bands := [],
              admittedAt := none, holdSince := 0, interval := none, reversal := none, firstLine := 0, lastTickAt := none,
              lastIdleAt := none, lastBellAt := none, lastBandBellAt := none, drainBells := 0, sendq := [], atEnd := false }
    ledger := { runs := [], store := [], lostMark := false, closeWanted := false, full := false, resumed := none }
    hold := { tree := false, edges := [], roseAt := 0, frozen := false }
    tiles := []
    dies := []
    gth := { cams := [], ff := [], stamps := [], strobes := [], mains := [], store := [], bandIdx := [], out := [] }
    ksk := []
    pqs := []
    errSeq := 0
    mem := { hbm := [], hbmPoison := [], filled := [], filledEarly := [], hubPoison := [], writeBacks := [],
             repair := false, repairData := 0, ceTimes := [], ceReport := [], passStart := 0, passRows := [], slots := [],
             spiNor := [] }
    alloc := { live := [], zeroing := [], refusals := 0, poolBase := 0, poolLen := 0 }
    hdg := []
    load := LoadState.empty
    lodge := { cores := [], l2 := [], scratch := [], tasks := [], nextOrder := 0 }
    ctxs := []
    grp := GroupState.empty
    sup := { sent := [], t0 := none, cause := 0, causeCode := 0, bandT0 := 0, timeT0 := 0, cut := false, plan := none,
             slots := [], last := none, warnHeld := false }
    power := { turningOff := [], turningOn := [], off := [] }
    contain := { active := false, code := 0, at_ := 0, times := [], first := none, groupCode := none }
    boot := { step := .held, src := 0, trained := false, verified := false, bpb := [], bpbRead := false, package := [],
              chunkEnd := false, linkUp := false, fw := 0, tapHold := false }
    fuse := { keys := [], state := [], latched := [], cmdAt := none, op := none }
    pins := { func := [], switching := [], preload := 0, tapInstr := 0, tapData := 0, alert := false,
              hotSince := [], ppsAt := none, stopped := false }
    sideband := []
    pending := [] }

end Sys2Proof.Machine
end

