-- ==== Sys2Proof/Machine/Ops.lean ====
section
/-!
DEFINITION. The named operations every family uses: sparse tables, bytes of memory, little-endian fields, the three
checksums and SHA-256, event counts, time, the free values.
-/
namespace Sys2Proof.Machine

/-! ## Sparse tables -/

/-- The value of key `k`; a key that is not listed holds `d k`. -/
def Tab.get {α : Type} (d : Nat → α) : Tab α → Nat → α
  | [], k => d k
  | (j, v) :: t, k => if j = k then v else Tab.get d t k

/-- The table with `v` at `k`, in canonical form: a value equal to the default is not listed. -/
def Tab.put {α : Type} [DecidableEq α] (d : Nat → α) : Tab α → Nat → α → Tab α
  | [], k, v => if v = d k then [] else [(k, v)]
  | (j, w) :: t, k, v =>
    if k < j then (if v = d k then (j, w) :: t else (k, v) :: (j, w) :: t)
    else if k = j then (if v = d k then t else (k, v) :: t)
    else (j, w) :: Tab.put d t k v

/-- Canonical form above a bound: keys strictly rising and at least `lo`, no listed value equal to the default. -/
def Tab.wfFrom {α : Type} [DecidableEq α] (d : Nat → α) : Nat → Tab α → Bool
  | _, [] => true
  | lo, (j, v) :: t => decide (lo ≤ j) && decide (v ≠ d j) && Tab.wfFrom d (j + 1) t

/-- Canonical form: keys strictly rising, no listed value equal to the default. -/
def Tab.wf {α : Type} [DecidableEq α] (d : Nat → α) (m : Tab α) : Bool := Tab.wfFrom d 0 m

/-- The table with its entries of keys that fail `p` returned to the default. -/
def Tab.keep {α : Type} (p : Nat → Bool) (m : Tab α) : Tab α := m.filter (fun e => p e.1)

/-- A table whose keys all default to one value. -/
abbrev Tab.at_ {α : Type} (d : α) (m : Tab α) (k : Nat) : α := Tab.get (fun _ => d) m k
abbrev Tab.set_ {α : Type} [DecidableEq α] (d : α) (m : Tab α) (k : Nat) (v : α) : Tab α := Tab.put (fun _ => d) m k v

/-- Every listed value changed by `f`; values that become the default `d` are no longer listed. -/
def Tab.mapV {α : Type} [DecidableEq α] (d : α) (f : Nat → α → α) (m : Tab α) : Tab α :=
  (m.map (fun e => (e.1, f e.1 e.2))).filter (fun e => decide (e.2 ≠ d))

/-! ## Bytes and fields (00 R6: little-endian) -/

/-- An unlisted byte of any memory reads as 0 (notes/assumptions/6.md). -/
def byteDefault (_ : Nat) : Byte := 0

def readByte (m : List Host.Cell) (a : Nat) : Byte := Tab.get byteDefault m a
def writeByte (m : List Host.Cell) (a : Nat) (b : Byte) : List Host.Cell := Tab.put byteDefault m a b

/-- `n` bytes from `a` upwards. -/
def readBytes (m : List Host.Cell) (a : Nat) : Nat → List Byte
  | 0 => []
  | n + 1 => readByte m a :: readBytes m (a + 1) n

/-- The bytes of `bs` at `a` and upwards. -/
def writeBytes (m : List Host.Cell) (a : Nat) : List Byte → List Host.Cell
  | [] => m
  | b :: bs => writeBytes (writeByte m a b) (a + 1) bs

/-- Every byte from `a` for `n` bytes reads 0 afterwards. -/
def zeroBytes (m : List Host.Cell) (a n : Nat) : List Host.Cell := Tab.keep (fun k => k < a || a + n ≤ k) m

/-- Canonical form of a memory. -/
def Memory.wf (m : List Host.Cell) : Bool := Tab.wf byteDefault m

/-- The number that little-endian bytes spell. -/
def leNat : List Byte → Nat
  | [] => 0
  | b :: bs => b.toNat + 256 * leNat bs

/-- The low `n` bytes of a number, little-endian. -/
def leBytes : Nat → Nat → List Byte
  | 0, _ => []
  | n + 1, v => BitVec.ofNat 8 v :: leBytes n (v / 256)

/-- The number that big-endian bytes spell (a SHA-256 digest in digest order). -/
def beNat (bs : List Byte) : Nat := leNat bs.reverse

/-- `n` bytes of `bs` from offset `o`; a byte past the end is 0. -/
def slice (bs : List Byte) (o n : Nat) : List Byte :=
  let t := (bs.drop o).take n
  t ++ List.replicate (n - t.length) 0

/-- The little-endian field of `n` bytes at offset `o`. -/
def fieldAt (bs : List Byte) (o n : Nat) : Nat := leNat (slice bs o n)

def lineBytes (l : Line) : List Byte := leBytes 64 l.toNat
def lineOf (bs : List Byte) : Line := BitVec.ofNat 512 (leNat (slice bs 0 64))
/-- Byte `k` of a line. -/
def lineByte (l : Line) (k : Nat) : Byte := BitVec.ofNat 8 (l.toNat / 256 ^ k)
/-- Word `k` of a line, 32 bits. -/
def lineWord (l : Line) (k : Nat) : Word := BitVec.ofNat 32 (l.toNat / 2 ^ (32 * k))
/-- 64-bit word `k` of a line. -/
def lineDWord (l : Line) (k : Nat) : DWord := BitVec.ofNat 64 (l.toNat / 2 ^ (64 * k))
/-- The line with its 32-bit word `k` replaced. -/
def lineSetWord (l : Line) (k : Nat) (v : Word) : Line :=
  BitVec.ofNat 512 (leNat ((List.range 16).flatMap (fun j => leBytes 4 (if j = k then v else lineWord l j).toNat)))
/-- The line whose 64-bit words are those given, the rest 0. -/
def lineOfDWords (ws : List DWord) : Line := lineOf (ws.flatMap (fun w => leBytes 8 w.toNat))

/-- Bits `[lo + n - 1 : lo]` of a number. -/
def bits (v lo n : Nat) : Nat := v / 2 ^ lo % 2 ^ n
/-- Bit `k` of a word. -/
def bit (v : Word) (k : Nat) : Bool := v.toNat / 2 ^ k % 2 == 1
/-- Field `[lo + n - 1 : lo]` of a word. -/
def fld (v : Word) (lo n : Nat) : Nat := bits v.toNat lo n
/-- The word with field `[lo + n - 1 : lo]` replaced by the low bits of `x`. -/
def setFld (v : Word) (lo n x : Nat) : Word :=
  let m : Word := BitVec.ofNat 32 ((2 ^ n - 1) * 2 ^ lo)
  (v &&& ~~~m) ||| (BitVec.ofNat 32 ((x % 2 ^ n) * 2 ^ lo))
def b2n (b : Bool) : Nat := if b then 1 else 0
def loWord (v : DWord) : Word := v.truncate 32
def hiWord (v : DWord) : Word := (v >>> 32).truncate 32
def joinWords (hi lo : Word) : DWord := hi.zeroExtend 64 <<< 32 ||| lo.zeroExtend 64

/-- Two's complement value of the low `n` bits. -/
def signed (n v : Nat) : Int :=
  let x := v % 2 ^ n
  if x < 2 ^ (n - 1) then (x : Int) else (x : Int) - (2 ^ n : Nat)
/-- The low `n` bits of an integer. -/
def wrap (n : Nat) (v : Int) : Nat := (v % ((2 ^ n : Nat) : Int)).toNat
/-- Clamp to the signed range of `n` bits. -/
def clampS (n : Nat) (v : Int) : Int := max (-((2 ^ (n - 1) : Nat) : Int)) (min (((2 ^ (n - 1) : Nat) : Int) - 1) v)

/-! ## Event counts (00 R696) -/

/-- An event count of 32 bits stops at all ones. -/
def satAdd (v : Word) (n : Nat) : Word := BitVec.ofNat 32 (min 0xFFFFFFFF (v.toNat + n))
/-- An event count kept as a number, of `w` bits. -/
def satNat (w v n : Nat) : Nat := min (2 ^ w - 1) (v + n)

/-! ## Checksums -/

/-- One bit of CRC-16/CCITT-FALSE: polynomial 0x1021, not reflected (03 R143). -/
def crc16Bit (c : BitVec 16) : BitVec 16 := if c.msb then (c <<< 1) ^^^ 0x1021 else c <<< 1
def crc16Byte (c : BitVec 16) (b : Byte) : BitVec 16 :=
  (List.range 8).foldl (fun x _ => crc16Bit x) (c ^^^ (b.zeroExtend 16 <<< 8))
def crc16 (bs : List Byte) : BitVec 16 := bs.foldl crc16Byte 0xFFFF

/-- One bit of CRC-32C: reflected polynomial 0x82F63B78. -/
def crc32cBit (c : Word) : Word := if c.getLsbD 0 then (c >>> 1) ^^^ 0x82F63B78 else c >>> 1
def crc32cByte (c : Word) (b : Byte) : Word :=
  (List.range 8).foldl (fun x _ => crc32cBit x) (c ^^^ b.zeroExtend 32)
/-- CRC-32C (Castagnoli), initial and final exclusive-or all ones. -/
def crc32c (bs : List Byte) : Word := ~~~ (bs.foldl crc32cByte 0xFFFFFFFF)

/-! ## SHA-256 (FIPS 180-4) -/

def shaK : List Word :=
  [0x428a2f98, 0x71374491, 0xb5c0fbcf, 0xe9b5dba5, 0x3956c25b, 0x59f111f1, 0x923f82a4, 0xab1c5ed5,
   0xd807aa98, 0x12835b01, 0x243185be, 0x550c7dc3, 0x72be5d74, 0x80deb1fe, 0x9bdc06a7, 0xc19bf174] ++
  [0xe49b69c1, 0xefbe4786, 0x0fc19dc6, 0x240ca1cc, 0x2de92c6f, 0x4a7484aa, 0x5cb0a9dc, 0x76f988da,
   0x983e5152, 0xa831c66d, 0xb00327c8, 0xbf597fc7, 0xc6e00bf3, 0xd5a79147, 0x06ca6351, 0x14292967] ++
  [0x27b70a85, 0x2e1b2138, 0x4d2c6dfc, 0x53380d13, 0x650a7354, 0x766a0abb, 0x81c2c92e, 0x92722c85,
   0xa2bfe8a1, 0xa81a664b, 0xc24b8b70, 0xc76c51a3, 0xd192e819, 0xd6990624, 0xf40e3585, 0x106aa070] ++
  [0x19a4c116, 0x1e376c08, 0x2748774c, 0x34b0bcb5, 0x391c0cb3, 0x4ed8aa4a, 0x5b9cca4f, 0x682e6ff3,
   0x748f82ee, 0x78a5636f, 0x84c87814, 0x8cc70208, 0x90befffa, 0xa4506ceb, 0xbef9a3f7, 0xc67178f2]

def shaH0 : List Word :=
  [0x6a09e667, 0xbb67ae85, 0x3c6ef372, 0xa54ff53a, 0x510e527f, 0x9b05688c, 0x1f83d9ab, 0x5be0cd19]

def rotr (x : Word) (n : Nat) : Word := x.rotateRight n

/-- The 64 words of a block's schedule, latest first. -/
def shaSchedule (blk : List Word) : List Word :=
  (List.range 48).foldl (fun ws _ =>
    let w2 := ws.getD 1 0
    let w7 := ws.getD 6 0
    let w15 := ws.getD 14 0
    let w16 := ws.getD 15 0
    let s0 := rotr w15 7 ^^^ rotr w15 18 ^^^ (w15 >>> 3)
    let s1 := rotr w2 17 ^^^ rotr w2 19 ^^^ (w2 >>> 10)
    (w16 + s0 + w7 + s1) :: ws) blk.reverse

def shaRound (h : List Word) (kw : Word × Word) : List Word :=
  match h with
  | [a, b, c, d, e, f, g, hh] =>
    let s1 := rotr e 6 ^^^ rotr e 11 ^^^ rotr e 25
    let ch := (e &&& f) ^^^ (~~~e &&& g)
    let t1 := hh + s1 + ch + kw.1 + kw.2
    let s0 := rotr a 2 ^^^ rotr a 13 ^^^ rotr a 22
    let maj := (a &&& b) ^^^ (a &&& c) ^^^ (b &&& c)
    [t1 + (s0 + maj), a, b, c, d + t1, e, f, g]
  | h => h

def shaBlock (h : List Word) (blk : List Byte) : List Word :=
  let ws := (List.range 16).map (fun i => BitVec.ofNat 32 (beNat (slice blk (4 * i) 4)))
  let w := (shaSchedule ws).reverse
  let r := (List.zip shaK w).foldl shaRound h
  List.zipWith (· + ·) h r

def shaPad (bs : List Byte) : List Byte :=
  let n := bs.length
  bs ++ [0x80] ++ List.replicate ((119 - n % 64) % 64) 0 ++ (leBytes 8 (8 * n)).reverse

/-- SHA-256; the digest is read big-endian, as FIPS 180-4 writes it. -/
def sha256 (bs : List Byte) : BitVec 256 :=
  let p := shaPad bs
  let h := (List.range (p.length / 64)).foldl (fun h i => shaBlock h (slice p (64 * i) 64)) shaH0
  BitVec.ofNat 256 (h.foldl (fun v x => v * 2 ^ 32 + x.toNat) 0)

/-- A digest as bytes in digest order. -/
def digestBytes (d : BitVec 256) : List Byte := (leBytes 32 d.toNat).reverse

/-! ## Time -/

def usCk (us : Nat) : Nat := us * 1250
def msCk (ms : Nat) : Nat := ms * 1250000
/-- PTP time in ns (13 R612). -/
def State.ptpNs (s : State) : DWord := BitVec.ofNat 64 (s.ptp.fifths / 5)
/-- PTP time in ns at the ck `at_`, from the time now. -/
def State.ptpAt (s : State) (at_ : Nat) : DWord := BitVec.ofNat 64 ((s.ptp.fifths - 4 * (s.now - at_)) / 5)

/-! ## Free values -/

/-- The next free value; `State.useFree` moves on to the one after it. -/
def State.free (s : State) : BitVec 512 := Config.freeValue s.fresh
def State.useFree (s : State) : State := { s with fresh := s.fresh + 1 }

/-- A message to the outside. -/
def State.send (s : State) (m : OutMsg) : State := { s with outbox := s.outbox ++ [m] }

/-- Bytes written to host memory (12 R538, R557). -/
def State.hostWrite (s : State) (a : Nat) (bs : List Byte) : State :=
  ({ s with hostMem := writeBytes s.hostMem a bs } : State).send (.hostWrite a bs)

end Sys2Proof.Machine
end

