-- ==== Sys2Proof/Machine/Operands.lean ====
section
/-!
DEFINITION. BAR 0 (00 R16): which units a part has (00 R1), the rows of the register tables with their access codes and
reset values (00 R11), and the reading and writing of one stored word.
-/
namespace Sys2Proof.Machine

/-! ## Units of the part (00 R1) -/

def Identity.has1Hub (p : Identity) : Bool := p.part == 0x4120 || p.part == 0x4060
def Identity.hubs (p : Identity) : Nat := if p.has1Hub then 1 else 2
def Identity.dies (p : Identity) : Nat := if p.part == 0x4060 then 1 else 2
def Identity.stacks (p : Identity) : Nat := if p.part == 0x4060 then 0 else if p.part == 0x4120 then 2 else 4
def Identity.hasHbm (p : Identity) : Bool := p.stacks != 0
def Identity.hasKiosk (p : Identity) (h : Nat) : Bool := p.part != 0x4060 && h < p.hubs
def Identity.hasCellar (p : Identity) : Bool := p.part != 0x4060
def Identity.prmPorts (p : Identity) : Nat := if p.part == 0x4060 then 0 else 2 * p.hubs
def Identity.camPorts (p : Identity) : Nat := 8 * p.hubs
def Identity.cores (p : Identity) : Nat := 4 * p.hubs
def Identity.queues (p : Identity) : Nat := 256 * p.hubs
def Identity.encoders (p : Identity) : Nat := 2 * p.hubs

/-! ## Register addresses -/

def r64 (n : Nat) : Nat × Nat := (8, n)
abbrev aBelCtrl : Nat := 0x10000
abbrev aBelStatus : Nat := 0x10004
abbrev aBelBandLines : Nat := 0x10008
abbrev aBelBandSet : Nat := 0x1000C
abbrev aBelEncDiv : Nat := 0x10010
abbrev aBelRevHyst : Nat := 0x10014
abbrev aBelCamWait : Nat := 0x10018
abbrev aBelIdlePeriod : Nat := 0x1001C
abbrev aBelHoldWdog : Nat := 0x10020
abbrev aBelTimerPeriod : Nat := 0x10024
abbrev aBelBudget : Nat := 0x10028
abbrev aBelScrubCk : Nat := 0x1002C
abbrev aBelHoldAllow : Nat := 0x10030
abbrev aBelMinPeriod : Nat := 0x10034
abbrev aBelLastPeriod : Nat := 0x10038
abbrev aBelLastHold : Nat := 0x1003C
abbrev aBelBandNum : Nat := 0x10040
abbrev aBelLineNum : Nat := 0x10048
abbrev aBelEncPos (n : Nat) : Nat := 0x10050 + 8 * n
abbrev aBelEncHwm : Nat := 0x10070
abbrev aBelMaxHold : Nat := 0x10078
abbrev aBelMinSlack : Nat := 0x1007C
abbrev aBelOverrunCount : Nat := 0x10080
abbrev aBelRevCount : Nat := 0x10084
abbrev aBelIdleCount : Nat := 0x10088
abbrev aBelEncZErr : Nat := 0x1008C
abbrev aBelEncZCounts : Nat := 0x10090
abbrev aLdgCtrl : Nat := 0x11000
abbrev aLdgStoreUsed : Nat := 0x11004
abbrev aLdgOpenRuns : Nat := 0x11008
abbrev aLdgCloseMs : Nat := 0x1100C
abbrev aLdgBandLedgered : Nat := 0x11010
abbrev aLdgNextSeq : Nat := 0x11018
abbrev aLdgLost : Nat := 0x1101C
abbrev aHubLoadCtrl : Nat := 0x12000
abbrev aHubLoadStatus : Nat := 0x12004
abbrev aHubLoadLen : Nat := 0x12008
abbrev aHubLoadAddr : Nat := 0x12010
abbrev aHubSwapBand : Nat := 0x12018
abbrev aHubSwapBandAct : Nat := 0x12020
abbrev aHubImgActiveBase : Nat := 0x12028
abbrev aHubImgStageBase : Nat := 0x12030
abbrev aHubLoadProgress : Nat := 0x12038
abbrev aHubChgWindow : Nat := 0x1203C
abbrev aHubActiveDigest : Nat := 0x12040
abbrev aHubPcieLink : Nat := 0x13000
abbrev aHubBar2Base : Nat := 0x13008
abbrev aHubPcieBadacc : Nat := 0x13010
/-- The sentinel registers of hub `h` (14 R663). -/
abbrev aSup (h : Nat) : Nat := 0x14000 + 0x400 * h
abbrev aSupTemp (i : Nat) : Nat := 0x14040 + 4 * i
abbrev aSupThermWarn : Nat := 0x14050
abbrev aSupDrainUs : Nat := 0x14038
abbrev aSupPwrBed : Nat := 0x14800
abbrev aSupPwrCam : Nat := 0x14804
abbrev aSupPwrPrm : Nat := 0x14808
abbrev aSupPwrStatus : Nat := 0x1480C
abbrev aSupFlushAck : Nat := 0x14810
abbrev aSupFlushLast : Nat := 0x14814
abbrev aPinFunc (k : Nat) : Nat := 0x15000 + 4 * k
abbrev aPinGpo : Nat := 0x15080
abbrev aPinGpi : Nat := 0x15084
abbrev aPinEncCfg (n : Nat) : Nat := 0x15090 + 4 * n
abbrev aBootCtrl : Nat := 0x16000
abbrev aBootStatus : Nat := 0x16004
abbrev aBootChunk : Nat := 0x16008
abbrev aContainCtrl : Nat := 0x16100
abbrev aContainStatus : Nat := 0x16104
abbrev aContainCount : Nat := 0x16108
abbrev aContainLimit : Nat := 0x1610C
abbrev aContainWindowS : Nat := 0x16110
abbrev aContainLastBand : Nat := 0x16118
abbrev aFuseState : Nat := 0x16200
abbrev aFuseCmd : Nat := 0x16204
abbrev aFuseStatus : Nat := 0x16208
abbrev aFuseData : Nat := 0x16240
abbrev aFuseKey (s : Nat) : Nat := 0x16300 + 64 * s
abbrev aBootData : Nat := 0x16800
abbrev aMsixPba : Nat := 0x17000
abbrev aMsixTable (v : Nat) : Nat := 0x18000 + 16 * v
abbrev aCtx (c : Nat) : Nat := 0x20000 + 0x400 * c
abbrev aCtxState (c : Nat) : Nat := aCtx c + 0x004
abbrev aCtxPtRoot (c : Nat) : Nat := aCtx c + 0x008
abbrev aCtxWeight (c : Nat) : Nat := aCtx c + 0x010
abbrev aCtxQuota (c : Nat) : Nat := aCtx c + 0x018
abbrev aCtxPrioMax (c : Nat) : Nat := aCtx c + 0x020
abbrev aCtxSigOwn (c w : Nat) : Nat := aCtx c + 0x040 + 4 * w
abbrev aCtxPqOwn (c w : Nat) : Nat := aCtx c + 0x080 + 4 * w
abbrev aCtxRing (c r : Nat) : Nat := aCtx c + 0x100 + 32 * r
abbrev aCtxCoreNs (c : Nat) : Nat := aCtx c + 0x200
abbrev aCtxReadyNs (c : Nat) : Nat := aCtx c + 0x208
abbrev aCtxVtime (c : Nat) : Nat := aCtx c + 0x210
abbrev aCtxTasksDone (c : Nat) : Nat := aCtx c + 0x218
abbrev aCtxTasksCancelled (c : Nat) : Nat := aCtx c + 0x21C
abbrev aCtxMemUsed (c : Nat) : Nat := aCtx c + 0x220
abbrev aCtxMemPeak (c : Nat) : Nat := aCtx c + 0x228
abbrev aCtxAllocRefused (c : Nat) : Nat := aCtx c + 0x230
abbrev aCtxDbReject (c : Nat) : Nat := aCtx c + 0x234
abbrev aCtxFaults (c : Nat) : Nat := aCtx c + 0x238
abbrev aCtxEntriesDone (c : Nat) : Nat := aCtx c + 0x23C
abbrev aCtxFaultInfo (c : Nat) : Nat := aCtx c + 0x300
abbrev aSig (s : Nat) : Nat := 0x30000 + 16 * s
abbrev aSigCfg (s : Nat) : Nat := aSig s + 0xC
/-- The register block of a queue (07 R329); 512 is the ledger queue, 513 the global error queue. -/
def aPq (q : Nat) : Nat :=
  if q < 256 then 0x100000 + 256 * q
  else if q < 512 then 0x110000 + 256 * (q - 256)
  else if q = 512 then 0x11100 else 0x34000
abbrev aGth (h : Nat) : Nat := 0x200000 + 0x80000 * h
/-- The group of camera `n` (06 "Registers"). -/
abbrev aCam (n : Nat) : Nat := aGth (n / 8) + 0x100 + 0x40 * (n % 8)
/-- The registers of marker pin `m`. -/
abbrev aMark (m : Nat) : Nat := aGth (m / 8) + 0x1000 + 0x10 * (m % 8)
abbrev aFlk (n i : Nat) : Nat := aGth (n / 8) + 0x2000 + 0x200 * (n % 8) + 4 * i
abbrev aFf (n : Nat) : Nat := aGth (n / 8) + 0x10000 + 0x8000 * (n % 8)
abbrev aKsk (h : Nat) : Nat := aGth h + 0x60000
abbrev aPrm : Nat := 0x300000
abbrev aGrpCtrl : Nat := 0x300000
abbrev aGrpState : Nat := 0x300004
abbrev aGrpLat : Nat := 0x300008
abbrev aGrpCk : Nat := 0x300010
abbrev aPtpOffset : Nat := 0x300018
abbrev aGrpFaultCode : Nat := 0x30001C
abbrev aFormDiff (k : Nat) : Nat := 0x300020 + 4 * k
abbrev aGrpFaults : Nat := 0x300040
abbrev aBellMismatch : Nat := 0x300044
/-- The registers of Promenade port `p`. -/
abbrev aPort (p : Nat) : Nat := 0x300000 + 0x20000 * (p / 2) + 0x100 + 0x40 * (p % 2)
abbrev aHdg (h : Nat) : Nat := 0x340000 + 0x20000 * h
abbrev aLodge (h : Nat) : Nat := 0x380000 + 0x20000 * h
abbrev aTask (h i : Nat) : Nat := aLodge h + 0x10000 + 128 * i
abbrev aGkpCtrl : Nat := 0x400000
abbrev aGkpStatus : Nat := 0x400004
abbrev aGkpPassMs : Nat := 0x400008
abbrev aGkpLastPassMs : Nat := 0x40000C
abbrev aGkpCeCount : Nat := 0x400010
abbrev aGkpUeCount : Nat := 0x400014
abbrev aGkpPoisoned : Nat := 0x400018
abbrev aGkpCeLimit : Nat := 0x40001C
abbrev aGkpCeWindowMs : Nat := 0x400020
abbrev aGkpFillPendingReads : Nat := 0x400024
abbrev aGkpHbmParity : Nat := 0x400028
abbrev aGkpFillStatus (k : Nat) : Nat := 0x400030 + 8 * k
abbrev aGkpRepairLoc : Nat := 0x400100
abbrev aGkpRepairRow : Nat := 0x400104
abbrev aGkpRepairHbm : Nat := 0x400108
abbrev aGkpRepairData : Nat := 0x400140
abbrev aGkpRepairGo : Nat := 0x400180
abbrev aGkpFillBitmap (k : Nat) : Nat := 0x480000 + 0x8000 * k
abbrev aTer (d : Nat) : Nat := 0x1000000 + 0x400000 * d
/-- The TIL_ block of the tile with key `k`. -/
abbrev aTil (k : Nat) : Nat := aTer (k / 1536) + 0x100000 + k % 1536 * 0x800

/-! ## Register rows -/

/-- One word of a register table: base offset, (stride, count) of each index, the bits that are RW, W1C, W1S and RC,
and the reset value. Bits in no mask are RO or, where the register is WO, read 0. -/
structure RegRow where
  base : Nat
  dims : List (Nat × Nat)
  rw : Word
  w1c : Word
  w1s : Word
  rc : Word
  reset : Word
  deriving DecidableEq, Repr

def rowRO (b : Nat) (ds : List (Nat × Nat)) (v : Word) : RegRow := ⟨b, ds, 0, 0, 0, 0, v⟩
def rowRW (b : Nat) (ds : List (Nat × Nat)) (mask v : Word) : RegRow := ⟨b, ds, mask, 0, 0, 0, v⟩
def rowRC (b : Nat) (ds : List (Nat × Nat)) (v : Word) : RegRow := ⟨b, ds, 0, 0, 0, 0xFFFFFFFF, v⟩
def rowW1C (b : Nat) (ds : List (Nat × Nat)) (mask : Word) : RegRow := ⟨b, ds, 0, mask, 0, 0, 0⟩

/-- 01 Table 1.4 (BEL_, LDG_). -/
def rowsBel : List RegRow :=
  [rowRW 0x10000 [] 0x973 0, rowW1C 0x10004 [] 0x144, rowRO 0x10008 [(4, 2)] 0,
   rowRW 0x10010 [] 0xFFFFFFFF 0x10000, rowRW 0x10014 [] 0xFFFFFFFF 4, rowRW 0x10018 [] 0xFFFFFFFF 62500,
   rowRW 0x1001C [] 0xFFFFFFFF 1250000, rowRW 0x10020 [] 0xFFFFFFFF 5000000, rowRW 0x10024 [] 0xFFFFFFFF 15625,
   rowRO 0x10028 [(4, 20)] 0, rowRC 0x10078 [] 0, rowRC 0x1007C [] 0xFFFFFFFF, rowRC 0x10080 [(4, 4)] 0,
   rowRW 0x10090 [] 0xFFFFFFFF 0] ++
  [rowRO 0x11004 [(4, 2)] 0, rowRW 0x1100C [] 0xFFFFFFFF 1000, rowRO 0x11010 [(4, 3)] 0, rowRC 0x1101C [] 0]

/-- 10 Table 10.6 (HUB_ load registers), 12 Table 12.3 (HUB_ PCIe, MSI-X). -/
def rowsHub : List RegRow :=
  [rowRW 0x12000 [] 1 0, rowRO 0x12004 [] 0, rowRW 0x12008 [] 0xFFFFFFFF 0, rowRW 0x12010 [(4, 2)] 0xFFFFFFFF 0,
   rowRW 0x12018 [] 0xFFFFFFFF 0, rowRW 0x1201C [] 0xFFFF 0, rowRO 0x12020 [(4, 2)] 0, rowRO 0x12028 [] 0x10000000,
   rowRO 0x1202C [] 0, rowRO 0x12030 [] 0x30000000, rowRO 0x12034 [] 0, rowRO 0x12038 [(4, 2)] 0,
   rowRO 0x12040 [(4, 8)] 0] ++
  [rowRO 0x13000 [] 0, rowRW 0x13008 [(4, 2)] 0xFFFFFFFF 0, rowRC 0x13010 [] 0, rowRO 0x17000 [(4, 64)] 0,
   rowRW 0x18000 [(16, 2048)] 0xFFFFFFFC 0, rowRW 0x18004 [(16, 2048)] 0xFFFFFFFF 0,
   rowRW 0x18008 [(16, 2048)] 0xFFFFFFFF 0, rowRW 0x1800C [(16, 2048)] 1 1]

/-- 14 Table 14.10 (SUP_, HUB_), 15 R690, 15 Table 15.6 (PIN_). -/
def rowsSup : List RegRow :=
  [rowW1C 0x14000 [(0x400, 2)] 0x30, rowRO 0x14004 [(0x400, 2), (4, 2)] 0, rowRC 0x1400C [(0x400, 2), (4, 2)] 0xFFF,
   rowRW 0x14014 [(0x400, 2)] 0xFFF 2161, rowRW 0x14018 [(0x400, 2)] 0xFFF 2389, rowRW 0x1401C [(0x400, 2)] 0xFFF 3072,
   rowRW 0x14020 [(0x400, 2)] 0xFFF 3299, rowRW 0x14024 [(0x400, 2)] 0xFFF 34, rowRW 0x14028 [(0x400, 2)] 0xFF 8,
   rowRW 0x1402C [(0x400, 2)] 0xFFF 68, rowRW 0x14030 [(0x400, 2)] 0xFFFFFFFF 100, rowRC 0x14034 [(0x400, 2)] 0,
   rowRW 0x14038 [] 0xFFFFFFFF 800, rowRO 0x14040 [(4, 4)] 0, rowRW 0x14050 [] 0xFF 100] ++
  [rowRW 0x14800 [] 0xFFF 0xFFF, rowRW 0x14804 [] 0xFFFF 0xFFFF, rowRW 0x14808 [] 0xF 0xF, rowW1C 0x1480C [] 0x80000000,
   rowRO 0x14814 [] 0, rowRW 0x15000 [(4, 24)] 0x37 0x20, rowRW 0x15080 [] 0xFFFFFF 0, rowRO 0x15084 [] 0,
   rowRW 0x15090 [(4, 4)] 0x1F 2] ++
  [rowRO 0x16004 [] 0, rowRO 0x16104 [] 0, rowRC 0x16108 [] 0, rowRW 0x1610C [] 0xFFFFFFFF 3,
   rowRW 0x16110 [] 0xFFFFFFFF 10, rowRO 0x16118 [(4, 2)] 0, rowRO 0x16200 [] 0, rowRO 0x16208 [] 0,
   rowRO 0x16300 [(4, 64)] 0]

/-- 12 Table 12.5 (CTX_), 07 Table 7.7 (SIG_). -/
def rowsCtx : List RegRow :=
  [rowW1C 0x20004 [(0x400, 64)] 0x400, rowRW 0x20008 [(0x400, 64)] 0xFFFFF000 0, rowRW 0x2000C [(0x400, 64)] 0xFFFFFFFF 0,
   rowRW 0x20010 [(0x400, 64)] 0xFF 1, rowRW 0x20018 [(0x400, 64)] 0xFFFFF000 0, rowRW 0x2001C [(0x400, 64)] 0xFFFFFFFF 0,
   rowRW 0x20020 [(0x400, 64)] 7 7, rowRW 0x20040 [(0x400, 64), (4, 32)] 0xFFFFFFFF 0,
   rowRW 0x20100 [(0x400, 64), (32, 8)] 0xFFFFF01F 0, rowRW 0x20104 [(0x400, 64), (32, 8)] 0xFFFF 0,
   rowRW 0x20108 [(0x400, 64), (32, 8)] 0xC00001FF 0, rowRO 0x2010C [(0x400, 64), (32, 8)] 0,
   rowRO 0x20110 [(0x400, 64), (32, 8)] 0] ++
  [rowRO 0x20200 [(0x400, 64), (4, 6)] 0, rowRC 0x20218 [(0x400, 64), (4, 2)] 0, rowRO 0x20220 [(0x400, 64), (4, 2)] 0,
   rowRC 0x20228 [(0x400, 64), (4, 6)] 0, rowRO 0x20300 [(0x400, 64), (4, 16)] 0,
   rowRW 0x30000 [(16, 512)] 0xFFFF 0, rowRW 0x3000C [(16, 512)] 0xE7FFFFFF 0]

/-- 07 Table 7.2 at a block base. -/
def rowsPqAt (b : Nat) (ds : List (Nat × Nat)) : List RegRow :=
  [rowRW b ds 0xF8FC0000 0, rowRW (b + 0x04) ds 0x7FFF 0, rowRW (b + 0x08) ds 0xFFFF 0, rowRW (b + 0x0C) ds 0xFFFFFFFF 0,
   rowRW (b + 0x10) ds 0xC00007FF 0, rowRW (b + 0x14) ds 0x2FFFFFF 0, rowW1C (b + 0x20) ds 0x98,
   rowRC (b + 0x24) ds 0, rowRC (b + 0x28) ds 0, rowRC (b + 0x2C) ds 0, rowRC (b + 0x34) ds 0,
   rowRW (b + 0xD0) ds 0xFFFFF01F 0, rowRW (b + 0xD4) ds 0xFFFF 0, rowRW (b + 0xD8) ds 0xFFFFFFFF 0,
   rowRO (b + 0xDC) ds 0]

def rowsPq : List RegRow :=
  rowsPqAt 0x100000 [(256, 256)] ++ rowsPqAt 0x110000 [(256, 256)] ++ rowsPqAt 0x11100 [] ++ rowsPqAt 0x34000 []

/-- 06 Table 6.7 (GTH_, KSK_). -/
def rowsGth : List RegRow :=
  [rowRO 0x200000 [(0x80000, 2), (4, 3)] 0, rowRW 0x20000C [(0x80000, 2)] 0xFFFFFFFF 0, rowRC 0x200010 [(0x80000, 2)] 0,
   rowRW 0x200100 [(0x80000, 2), (0x40, 8)] 0xF0F00000 0, rowRO 0x200104 [(0x80000, 2), (0x40, 8)] 0,
   rowRW 0x200108 [(0x80000, 2), (0x40, 8)] 0xFFFFFFFF 0, rowRO 0x20010C [(0x80000, 2), (0x40, 8)] 0,
   rowRO 0x200110 [(0x80000, 2), (0x40, 8)] 0x800000, rowRW 0x200114 [(0x80000, 2), (0x40, 8)] 0x3FFFFFFF 0x800000,
   rowRC 0x200120 [(0x80000, 2), (0x40, 8), (4, 4)] 0, rowRW 0x200130 [(0x80000, 2), (0x40, 8)] 0xFFFFFFFF 250000] ++
  [rowRW 0x201000 [(0x80000, 2), (0x10, 8)] 0xE000FFFF 0, rowRW 0x201004 [(0x80000, 2), (0x10, 8), (4, 2)] 0xFFFFFFFF 0,
   rowRC 0x20100C [(0x80000, 2), (0x10, 8)] 0, rowRW 0x201100 [(0x80000, 2), (8, 2)] 0xFFFFFFFF 0,
   rowRW 0x201104 [(0x80000, 2), (8, 2)] 0xFFFF 0, rowRW 0x202000 [(0x80000, 2), (4, 1024)] 0xFFFFFFFF 0] ++
  [rowRO 0x260000 [(0x80000, 2), (4, 2)] 0, rowRO 0x260010 [(0x80000, 2)] 0, rowRC 0x260014 [(0x80000, 2), (4, 4)] 0,
   rowRW 0x260100 [(0x80000, 2), (4, 16)] 0x87FF00FF 0, rowRW 0x260140 [(0x80000, 2), (4, 16)] 0xFFFFFFFF 1,
   rowRW 0x260200 [(0x80000, 2), (16, 32)] 0xB7FFFFFF 0, rowRW 0x260204 [(0x80000, 2), (16, 32)] 0xFFFFFFFF 0,
   rowRW 0x260208 [(0x80000, 2), (16, 32)] 0xFFFF 0]

/-- 13 Table 13.6 (PRM_), 09 Table 9.9 (HDG_; reset priorities of R428), 11 Table 11.10 (Lodge control). -/
def rowsHedge : List RegRow :=
  [rowRW 0x300000 [] 0x101 0, rowRO 0x300004 [(4, 7)] 0, rowRO 0x300020 [(4, 8)] 0, rowRC 0x300040 [(4, 2)] 0,
   rowRW 0x300100 [(0x20000, 2), (0x40, 2)] 0x80000000 0, rowRO 0x300104 [(0x20000, 2), (0x40, 2), (4, 3)] 0,
   rowRC 0x300110 [(0x20000, 2), (0x40, 2), (4, 4)] 0] ++
  [⟨0x340000, [(0x20000, 2)], 0, 0, 1, 0, 0⟩, rowW1C 0x340004 [(0x20000, 2)] 0xE, rowRC 0x340008 [(0x20000, 2)] 0,
   rowRW 0x340040 [(0x20000, 2)] 3 0, rowRW 0x340044 [(0x20000, 2), (4, 5)] 3 1, rowRW 0x340058 [(0x20000, 2), (4, 2)] 3 2,
   rowRW 0x340060 [(0x20000, 2)] 3 3, rowRW 0x340064 [(0x20000, 2)] 3 0, rowRW 0x340068 [(0x20000, 2), (4, 2)] 3 1,
   rowRW 0x340080 [(0x20000, 2), (4, 12)] 0xFF 0, rowRC 0x340100 [(0x20000, 2), (0x40, 3), (4, 12)] 0,
   rowRC 0x3401C0 [(0x20000, 2), (0x20, 2), (4, 8)] 0, rowRW 0x340200 [(0x20000, 2), (32, 16), (8, 2)] 0xFFFFF000 0,
   rowRW 0x340204 [(0x20000, 2), (32, 16), (8, 2)] 0xFFFFFFFF 0, rowRW 0x340210 [(0x20000, 2), (32, 16)] 0xE0000FFF 0] ++
  [rowRW 0x380000 [(0x20000, 2)] 0xF 0xF, ⟨0x380008, [(0x20000, 2)], 0, 0, 0xFFFF, 0, 0⟩,
   rowRC 0x38000C [(0x20000, 2), (4, 2)] 0, rowRW 0x390000 [(0x20000, 2), (128, 256), (4, 10)] 0xFFFFFFFF 0, rowRW 0x390028 [(0x20000, 2), (128, 256)] 0x0F0FFFFF 0,
   rowRW 0x39002C [(0x20000, 2), (128, 256)] 0xFFFF 0, rowRW 0x390030 [(0x20000, 2), (128, 256), (4, 2)] 0x81FF81FF 0,
   rowRW 0x390038 [(0x20000, 2), (128, 256)] 0xFFFFFFFF 0,
   rowRO 0x390040 [(0x20000, 2), (128, 256), (4, 3)] 0]

/-- 08 Table 8.6 (GKP_), 03 Table 3.8 (TER_), 02 (capability table). -/
def rowsMem : List RegRow :=
  [rowRW 0x400000 [] 0x80000000 0x80000000, rowW1C 0x400004 [] 1, rowRW 0x400008 [] 0xFFFFFFFF 8000, rowRO 0x40000C [] 0,
   rowRC 0x400010 [(4, 2)] 0, rowRO 0x400018 [] 0, rowRW 0x40001C [] 0xFFFFFFFF 16, rowRW 0x400020 [] 0xFFFFFFFF 1000,
   rowRC 0x400024 [(4, 2)] 0, rowRW 0x400100 [] 0xFF01FFFF 0, rowRW 0x400104 [] 0xFFFF 0,
   rowRW 0x400108 [] 0xFFFFFFC0 0, rowRW 0x40010C [] 0xFFFFFFFF 0] ++
  [rowW1C 0x1000008 [(0x400000, 2)] 0x80000000, rowRC 0x100000C [(0x400000, 2)] 0, rowRO 0 [(4, 16384)] 0]

def regRows : List RegRow :=
  rowsBel ++ rowsHub ++ rowsSup ++ rowsCtx ++ rowsPq ++ rowsGth ++ rowsHedge ++ rowsMem

/-- Whether an offset from a row's base is a place of its indexes. -/
def dimsHave : List (Nat × Nat) → Nat → Bool
  | [], o => o == 0
  | (st, n) :: ds, o => o / st < n && dimsHave ds (o % st)

/-- The row that holds the word at offset `a`. -/
def findRow (a : Nat) : Option RegRow := regRows.find? (fun r => r.base ≤ a && dimsHave r.dims (a - r.base))

/-! ## Presence (00 R4) -/

def inRange (a lo hi : Nat) : Bool := lo ≤ a && a < hi

/-- Offset `a` belongs to a unit the part does not have. -/
def Identity.absentAt (p : Identity) (a : Nat) : Bool :=
  (p.hubs == 1 &&
    (inRange a 0x110000 0x120000 || inRange a 0x280000 0x300000 || inRange a 0x320000 0x340000 ||
     inRange a 0x360000 0x380000 || inRange a 0x3A0000 0x3C0000 || inRange a 0x14400 0x14440 ||
     inRange a 0x10060 0x10070 || inRange a 0x15098 0x150A0 || inRange a 0x15020 0x15040 ||
     inRange a 0x15050 0x15060)) ||
  (p.dies == 1 && inRange a 0x1400000 0x1800000) ||
  (p.part == 0x4060 && (inRange a 0x260000 0x280000 || inRange a 0x300000 0x340000)) ||
  (!p.hasHbm && (inRange a 0x12028 0x12038)) ||
  (inRange a (0x400030 + 8 * p.stacks) 0x400050) || (inRange a (0x480000 + 0x8000 * p.stacks) 0x4A0000)

/-! ## Stored words -/

/-- The reset value of the word at offset `a`; 0 where no register is (00 R17, R694) and where its unit is absent. -/
def regReset (p : Identity) (a : Nat) : Word :=
  if p.absentAt a then 0 else match findRow a with
    | some r => r.reset
    | none => 0

/-- The stored word at offset `a`. -/
def State.reg (s : State) (a : Nat) : Word := Tab.get (regReset s.ident) s.regs a
/-- Store a word at offset `a`: what hardware does. -/
def State.setReg (s : State) (a : Nat) (v : Word) : State := { s with regs := Tab.put (regReset s.ident) s.regs a v }

def State.regN (s : State) (a : Nat) : Nat := (s.reg a).toNat
def State.setRegN (s : State) (a v : Nat) : State := s.setReg a (BitVec.ofNat 32 v)
/-- A 64-bit register: low word at the lower address (00 R7). -/
def State.reg64 (s : State) (a : Nat) : Nat := (s.reg a).toNat + 2 ^ 32 * (s.reg (a + 4)).toNat
def State.setReg64 (s : State) (a v : Nat) : State := (s.setRegN a (v % 2 ^ 32)).setRegN (a + 4) (v / 2 ^ 32)
/-- A 48-bit register value. -/
def State.reg48 (s : State) (a : Nat) : W48 := BitVec.ofNat 48 (s.reg64 a)
def State.setReg48 (s : State) (a : Nat) (v : W48) : State := s.setReg64 a v.toNat
/-- What events of the present ck put into the word at offset `a` (00 R14, R15). -/
def State.bornAt (s : State) (a : Nat) : Word := Tab.at_ 0 s.born a
def State.setBorn (s : State) (a : Nat) (v : Word) : State := { s with born := Tab.set_ 0 s.born a v }
/-- Count `n` events in an event count (00 R696). -/
def State.count (s : State) (a n : Nat) : State := (s.setReg a (satAdd (s.reg a) n)).setBorn a (satAdd (s.bornAt a) n)
/-- Count `n` in a register that wraps. -/
def State.addReg (s : State) (a n : Nat) : State := s.setRegN a ((s.regN a + n) % 2 ^ 32)
/-- Set bits that hardware sets. -/
def State.setBits (s : State) (a : Nat) (m : Word) : State := (s.setReg a (s.reg a ||| m)).setBorn a (s.bornAt a ||| m)
def State.clrBits (s : State) (a : Nat) (m : Word) : State := s.setReg a (s.reg a &&& ~~~m)
/-- Track a largest value. -/
def State.maxReg (s : State) (a v : Nat) : State := if s.regN a < v then s.setRegN a (min v 0xFFFFFFFF) else s
/-- Track a smallest value. -/
def State.minReg (s : State) (a v : Nat) : State := if v < s.regN a then s.setRegN a v else s

/-- What a write of `v` leaves in a word, by the access codes of its row (00 R11). -/
def RegRow.written (r : RegRow) (old v : Word) : Word :=
  (((old &&& ~~~r.rw) ||| (v &&& r.rw)) &&& ~~~(v &&& r.w1c)) ||| (v &&& r.w1s)
/-- What a read leaves in a word: an RC field returns to its reset value (00 R11). -/
def RegRow.afterRead (r : RegRow) (old : Word) : Word := (old &&& ~~~r.rc) ||| (r.reset &&& r.rc)

/-- A write by access code alone; an offset with no register, or of an absent unit, ignores it (00 R4, R17, R694). A W1C
bit that an event set in this ck stays set (R14). -/
def State.plainWrite (s : State) (a : Nat) (v : Word) : State :=
  if s.ident.absentAt a then s else match findRow a with
    | some r => s.setReg a (r.written (s.reg a) (v &&& ~~~(r.w1c &&& s.bornAt a)))
    | none => s
/-- The effect of a read by access code alone. Events that an RC count took in this ck stay in it (R14, R15). -/
def State.plainReadEffect (s : State) (a : Nat) : State :=
  if s.ident.absentAt a then s else match findRow a with
    | some r => if r.rc = 0 then s else s.setReg a (if s.bornAt a = 0 then r.afterRead (s.reg a) else s.bornAt a)
    | none => s
/-- What a read of an RC count answers: its value before the events of this ck (R15). A count at all ones stands there. -/
def State.beforeCk (s : State) (a : Nat) (v : Word) : Word :=
  if s.bornAt a = 0 || v = 0xFFFFFFFF then v else match findRow a with
    | some r => if r.rc = 0 then v else v - s.bornAt a
    | none => v

/-! ## Indexed parts of the state -/

def State.tile (s : State) (k : Nat) : Tile := Tab.at_ Tile.blank s.tiles k
def State.setTile (s : State) (k : Nat) (t : Tile) : State := { s with tiles := Tab.set_ Tile.blank s.tiles k t }
def State.die (s : State) (d : Nat) : DieCtr := Tab.at_ DieCtr.zero s.dies d
def State.setDie (s : State) (d : Nat) (c : DieCtr) : State := { s with dies := Tab.set_ DieCtr.zero s.dies d c }
def State.cam (s : State) (n : Nat) : CamState := Tab.at_ CamState.init s.gth.cams n
def State.setCam (s : State) (n : Nat) (c : CamState) : State :=
  { s with gth := { s.gth with cams := Tab.set_ CamState.init s.gth.cams n c } }
def State.kiosk (s : State) (h : Nat) : KskState := Tab.at_ KskState.init s.ksk h
def State.setKiosk (s : State) (h : Nat) (k : KskState) : State := { s with ksk := Tab.set_ KskState.init s.ksk h k }
def State.pq (s : State) (q : Nat) : PqState := Tab.at_ PqState.empty s.pqs q
def State.setPq (s : State) (q : Nat) (p : PqState) : State := { s with pqs := Tab.set_ PqState.empty s.pqs q p }
def State.hedge (s : State) (h : Nat) : HdgState := Tab.at_ HdgState.empty s.hdg h
def State.setHedge (s : State) (h : Nat) (x : HdgState) : State := { s with hdg := Tab.set_ HdgState.empty s.hdg h x }
def State.core (s : State) (c : Nat) : CoreState := Tab.at_ CoreState.reset s.lodge.cores c
def State.setCore (s : State) (c : Nat) (x : CoreState) : State :=
  { s with lodge := { s.lodge with cores := Tab.set_ CoreState.reset s.lodge.cores c x } }
/-- Task slots of both hubs: slot `i` of hub `h` has key 256 h + i. -/
def State.task (s : State) (k : Nat) : TaskState := Tab.at_ TaskState.free s.lodge.tasks k
def State.setTask (s : State) (k : Nat) (x : TaskState) : State :=
  { s with lodge := { s.lodge with tasks := Tab.set_ TaskState.free s.lodge.tasks k x } }
/-- Line `k` (physical address / 64) in the L2 of hub `h`. -/
def State.l2Line (s : State) (h k : Nat) : Option L2Line := Tab.at_ none (Tab.at_ [] s.lodge.l2 h) k
def State.setL2Line (s : State) (h k : Nat) (l : Option L2Line) : State :=
  { s with lodge := { s.lodge with l2 := Tab.set_ [] s.lodge.l2 h (Tab.set_ none (Tab.at_ [] s.lodge.l2 h) k l) } }
def State.ctx (s : State) (c : Nat) : CtxState := Tab.at_ CtxState.empty s.ctxs c
def State.setCtx (s : State) (c : Nat) (x : CtxState) : State := { s with ctxs := Tab.set_ CtxState.empty s.ctxs c x }
/-- The domain has power. -/
def State.domOn (s : State) (n : Nat) : Bool := !(s.power.off.contains n)
def State.link (s : State) (p : Nat) : Link := Tab.at_ Link.init s.grp.links p
def State.setLink (s : State) (p : Nat) (l : Link) : State :=
  { s with grp := { s.grp with links := Tab.set_ Link.init s.grp.links p l } }
def State.sent (s : State) (h : Nat) : SentState := Tab.at_ SentState.init s.sup.sent h
def State.setSent (s : State) (h : Nat) (x : SentState) : State :=
  { s with sup := { s.sup with sent := Tab.set_ SentState.init s.sup.sent h x } }

/-- Bring a change of one tile back into the state. -/
def State.onTile (s : State) (k : Nat) (f : Tile → Tile) : State := s.setTile k (f (s.tile k))
def State.onPq (s : State) (q : Nat) (f : PqState → PqState) : State := s.setPq q (f (s.pq q))

end Sys2Proof.Machine
end

