-- ==== Sys2Proof/Machine/QueueOps.lean ====
section
/-!
DEFINITION. Pergola queues (07), their notices, signal objects, MSI-X messages and error records: the operations every
unit shares.
-/
namespace Sys2Proof.Machine

/-! ## Settings in force (07 Table 7.3; fixed settings of R702 and 12 R563) -/

def qLedger : Nat := 512
def qError : Nat := 513
def State.pqCfg (s : State) (q : Nat) : Word :=
  if q = 513 then (s.reg (aPq q) &&& 0x00C00000) ||| 0xD0000000
  else if q = 512 then (s.reg (aPq q) &&& 0x30FC0000) ||| 0x80000000
  else s.reg (aPq q)
def State.pqEn (s : State) (q : Nat) : Bool := bit (s.pqCfg q) 31
def State.pqOverwrite (s : State) (q : Nat) : Bool := bit (s.pqCfg q) 30
def State.pqNoticeMode (s : State) (q : Nat) : Nat := fld (s.pqCfg q) 28 2
def State.pqWhole (s : State) (q : Nat) : Bool := bit (s.pqCfg q) 27
def State.pqSinkKind (s : State) (q : Nat) : Nat := fld (s.pqCfg q) 22 2
def State.pqDepth (s : State) (q : Nat) : Nat :=
  if q = 513 then 4096 else if q = 512 then 16384 else s.regN (aPq q + 0x08)
def State.pqHi (s : State) (q : Nat) : Nat := fld (s.reg (aPq q + 0x0C)) 16 16
def State.pqLo (s : State) (q : Nat) : Nat := fld (s.reg (aPq q + 0x0C)) 0 16
def State.pqNotice (s : State) (q : Nat) : Word := if q = 513 then 0 else s.reg (aPq q + 0x10)
/-- The index under which a queue is reported (07 R329). -/
def qReport (q : Nat) : Nat := if q = 512 then 0xFFFF else if q = 513 then 0xFFFE else q
/-- The queue exists on the part. -/
def State.pqPresent (s : State) (q : Nat) : Bool := 512 ≤ q || q < s.ident.queues
def PqState.occ (p : PqState) : Nat := p.items.length

/-! ## Messages: MSI-X and Lodge notices -/

def State.msixMasked (s : State) (v : Nat) : Bool := bit (s.reg (aMsixTable v + 12)) 0
/-- A notice for a masked vector sets its pending bit; otherwise the message is sent (12 R538, R539). -/
def State.msix (s : State) (v : Nat) : State :=
  if s.msixMasked v then s.setBits (aMsixPba + 4 * (v / 32)) (1#32 <<< (v % 32)) else s.send (.msix v)

/-- A notice to a Lodge core enters its 64-entry FIFO, or marks the overflow (11 R513). -/
def State.coreNotice (s : State) (c : Nat) (src : BitVec 16) : State :=
  let x := s.core c
  let x' := if x.irq.length < 64 then { x with irq := x.irq ++ [src] } else { x with irqOver := true }
  (s.setCore c x').send (.coreNotice c)

/-! ## Writing (07 R333–R337, R701) -/

inductive OfferResult where
  | accepted | held | refused | discarded
  deriving DecidableEq, Repr

/-- The settings the acceptance of an item uses. -/
structure OfferCfg where
  en : Bool
  overwrite : Bool
  depth : Nat
  host : Bool
  deriving DecidableEq, Repr

/-- What one offer did: the queue after it, the result, and how many items count as lost and as flushed. -/
structure OfferOut where
  p : PqState
  res : OfferResult
  lost : Nat
  flushed : Nat
  deriving DecidableEq, Repr

def OpenPkt.isOf (k : OpenPkt) (o : Offer) : Bool := k.writer == o.writer && k.src == o.src
def Discarding.isOf (k : Discarding) (o : Offer) : Bool := k.writer == o.writer && k.src == o.src

/-- Discard a packet's stored items; a read side open on it closes (R335). Returns the queue and the count. -/
def PqState.dropStored (p : PqState) (pkt : Nat) : PqState × Nat :=
  let keep := p.items.filter (fun i => i.pkt != pkt)
  let n := p.items.length - keep.length
  ({ p with items := keep, openR := if p.openR = some pkt then none else p.openR, rptr := p.rptr + BitVec.ofNat 16 n }, n)

/-- Discard a packet; when it is still open on the write side, its writer's later items are discarded (R335). -/
def PqState.dropPkt (p : PqState) (pkt : Nat) : PqState × Nat :=
  let r := p.dropStored pkt
  let opened := p.openW.filter (fun k => k.pkt == pkt)
  ({ r.1 with openW := p.openW.filter (fun k => k.pkt != pkt),
              dropping := r.1.dropping ++ opened.map (fun k => ⟨k.writer, k.src, k.prio, true⟩) }, r.2)

/-- Lowest priority of the stored items; 8 when there are none. -/
def minPrio (items : List QItem) : Nat := items.foldl (fun m i => min m i.prio.toNat) 8
/-- The oldest item of a priority. -/
def oldestAt (items : List QItem) (pr : Nat) : Option QItem := items.find? (fun i => i.prio.toNat == pr)

/-- Store an item: it joins packet `pkt` at the packet's priority (R327). -/
def PqState.store (p : PqState) (o : Offer) (pr : BitVec 3) (pkt : Nat) : PqState :=
  let item : QItem := ⟨o.data, pr, o.sop, o.eop, o.writer, o.src, pkt, false⟩
  let opened := if o.eop then p.openW.filter (fun k => k.pkt != pkt)
                else if o.sop then p.openW ++ [⟨pr, o.writer, o.src, pkt⟩] else p.openW
  { p with items := p.items ++ [item], openW := opened, nextPkt := if o.sop then p.nextPkt + 1 else p.nextPkt,
           wptr := p.wptr + 1 }

/-- Place an item of packet `pkt`, with priority `pr`, under the full rule (R333, R334, R336). -/
def placeItem (c : OfferCfg) (p : PqState) (o : Offer) (pr : BitVec 3) (pkt lost : Nat) : OfferOut :=
  if p.occ < c.depth then ⟨p.store o pr pkt, .accepted, lost, 0⟩
  else if c.overwrite = false then ⟨p, if c.host then .refused else .held, lost, 0⟩
  else if pr.toNat < minPrio p.items then
    let r := p.dropPkt pkt
    let cut := if o.sop && !o.eop then [(⟨o.writer, o.src, pr, true⟩ : Discarding)] else []
    let drop := if o.eop then p.dropping else r.1.dropping
    ⟨{ r.1 with dropping := drop ++ cut, nextPkt := if o.sop then p.nextPkt + 1 else p.nextPkt }, .discarded,
     lost + r.2 + 1, 0⟩
  else match oldestAt p.items (minPrio p.items) with
    | none => ⟨p, .refused, lost, 0⟩
    | some victim =>
      let r := p.dropPkt victim.pkt
      if victim.pkt = pkt then
        ⟨{ r.1 with dropping := if o.eop then p.dropping else r.1.dropping }, .discarded, lost + r.2 + 1, 0⟩
      else ⟨r.1.store o pr pkt, .accepted, lost + r.2, 0⟩

/-- What an item with SOP clear belongs to. -/
inductive Cont where
  | packet (k : OpenPkt)
  | discarded (k : Discarding)
  | nothing
  deriving DecidableEq, Repr
/-- The writer's packet at the item's priority, open or discarded, else a packet of the writer at another priority, an open
one before a discarded one (R327, R335, R337; notes/assumptions/115.md). -/
def contPacket (p : PqState) (o : Offer) : Cont :=
  match p.openW.find? (fun k => k.isOf o && k.prio == o.prio), p.dropping.find? (fun k => k.isOf o && k.prio == o.prio) with
  | some k, _ => .packet k
  | none, some k => .discarded k
  | none, none =>
    match p.openW.find? (fun k => k.isOf o), p.dropping.find? (fun k => k.isOf o) with
    | some k, _ => .packet k
    | none, some k => .discarded k
    | none, none => .nothing

/-- An SOP item ends what its writer discards (R335, R346). -/
def PqState.sopSeen (p : PqState) (o : Offer) : PqState :=
  if o.sop then { p with dropping := p.dropping.filter (fun k => !k.isOf o) } else p
/-- One item offered to a queue (R332–R337, R346, R701). -/
def offerStep (c : OfferCfg) (p : PqState) (o : Offer) : OfferOut :=
  let p1 := p.sopSeen o
  if c.en = false then ⟨p1, .refused, 0, 0⟩
  else if o.sop = false then
    match contPacket p o with
    | .discarded k => ⟨p, .discarded, if k.lost then 1 else 0, if k.lost then 0 else 1⟩
    | .nothing => ⟨p, .refused, 0, 0⟩
    | .packet k => placeItem c p o k.prio k.pkt 0
  else
    match p1.openW.find? (fun k => k.prio == o.prio) with
    | none => placeItem c p1 o o.prio p1.nextPkt 0
    | some k =>
      if k.isOf o then
        let r := p1.dropStored k.pkt
        placeItem c { r.1 with openW := p1.openW.filter (fun j => j.pkt != k.pkt) } o o.prio p1.nextPkt r.2
      else ⟨p1, if c.host then .refused else .held, 0, 0⟩

/-! ## Reading (07 R339–R342) -/

def PqState.openPkts (p : PqState) : List Nat := p.openW.map (fun k => k.pkt)
/-- An item is readable: under WHOLE only once its packet is complete (R342). -/
def readable (whole : Bool) (p : PqState) (i : QItem) : Bool := !whole || !(p.openPkts.contains i.pkt)
/-- The head item: the open packet's next item, else the earliest readable item of the highest priority (R339, R341). -/
def headItem (whole : Bool) (p : PqState) : Option QItem :=
  match p.openR with
  | some k => p.items.find? (fun i => i.pkt == k)
  | none =>
    let rs := p.items.filter (readable whole p)
    rs.find? (fun i => i.prio.toNat == rs.foldl (fun m j => max m j.prio.toNat) 0)
/-- Remove the first item equal to `i`. -/
def removeItem (i : QItem) : List QItem → List QItem
  | [] => []
  | j :: js => if j = i then js else j :: removeItem i js

/-- The pop status word (Table 7.5). -/
def popStatusOf (valid partial_ poison sop eop : Bool) (prio : BitVec 3) (writer : BitVec 8) (occ : Nat) : DWord :=
  BitVec.ofNat 64 (b2n valid * 2 ^ 63 + b2n partial_ * 2 ^ 62 + b2n poison * 2 ^ 61 + b2n sop * 2 ^ 60 +
    b2n eop * 2 ^ 59 + prio.toNat * 2 ^ 56 + writer.toNat * 2 ^ 48 + occ % 65536)

/-- Take the head item out of the queue; the read side opens or closes with it (R341). -/
def popStep (whole : Bool) (p : PqState) : PqState × Option QItem :=
  match headItem whole p with
  | none => (p, none)
  | some i =>
    let opened := if i.eop then none else if i.sop then some i.pkt else p.openR
    ({ p with items := removeItem i p.items, openR := opened, rptr := p.rptr + 1 }, some i)

/-- Flush (R346): every stored item goes, the read side closes, every open packet's writer is marked discarding. -/
def flushStep (lost : Bool) (p : PqState) : PqState × Nat :=
  ({ p with items := [], openR := none, openW := [],
            dropping := p.dropping ++ p.openW.map (fun k => ⟨k.writer, k.src, k.prio, lost⟩),
            rptr := p.rptr + BitVec.ofNat 16 p.occ }, p.occ)

/-! ## Watermarks (07 R343) -/

/-- ABOVE when the occupancy goes from `was` to `occ`: it sets on a rise to HI and clears on a fall to LO. -/
def aboveAfter (hi lo was occ : Nat) (old : Bool) : Bool :=
  if hi ≤ lo then false
  else if was < occ && hi ≤ occ then true
  else if occ < was && occ ≤ lo then false
  else old

/-! ## The global error queue and error records (12 R563–R566) -/

/-- The fields of an error record that its source supplies. -/
structure ErrInfo where
  code : Nat
  sev : Nat
  ctx : Nat := 0xFFFF
  loc : Nat := 0
  kind : Nat := 0
  gen : Nat := 0
  pavilion : Nat := 0xFFFF
  pc : Nat := 0
  band : Nat := 0
  d0 : Nat := 0
  d1 : Nat := 0
  d2 : Nat := 0
  hub : Nat := 0
  deriving DecidableEq, Repr

/-- The severity of a code (00 Table 0.7); where the table gives two, the usual one, overridden by the caller. -/
def severity (code : Nat) : Nat :=
  let low := [0x0303, 0x0306, 0x0402, 0x0404, 0x0405, 0x0508, 0x0601, 0x0603, 0x0605, 0x0704, 0x0705, 0x0706,
              0x0801, 0x0802, 0x0803]
  if code = 0x0304 || code = 0x0703 then 0
  else if code = 0x0602 || code = 0x0604 then 3
  else if low.contains code then 1
  else 2

def err (code : Nat) : ErrInfo := { code := code, sev := severity code }
/-- A hub unit's location word (Table 12.10, class 8). -/
def hubLoc (h sub : Nat) : Nat := 8 * 2 ^ 24 + (2 + h) * 2 ^ 16 + sub

/-- The device's PTP time is degraded (13 R612). -/
def State.degraded (s : State) : Bool :=
  !s.ptp.locked || decide (10000 < s.ptp.offset.natAbs) ||
  (s.grp.running && decide (10000 < (signed 32 (s.regN aPtpOffset)).natAbs))

def State.imageTag (s : State) : Nat := s.regN aHubActiveDigest % 65536
def State.activeGen (s : State) : BitVec 2 := BitVec.ofNat 2 (fld (s.reg aHubLoadStatus) 26 2)

/-- The record as eight 64-bit words, its CRC over bytes 0x00–0x3B (Table 12.9). -/
def recordLine (w : List Nat) (flags : Nat) : Line :=
  let body := w.flatMap (leBytes 8) ++ leBytes 4 flags
  lineOf (body ++ leBytes 4 (crc32c body).toNat)

def State.errorRecord (s : State) (e : ErrInfo) : Line :=
  recordLine
    [3 * 2 ^ 56 + e.sev * 2 ^ 48 + e.code * 2 ^ 32 + e.ctx * 2 ^ 16 + s.errSeq % 65536,
     e.loc * 2 ^ 32 + e.kind * 2 ^ 30 + e.gen * 2 ^ 28 + e.pavilion * 2 ^ 8 + e.pc,
     s.imageTag * 2 ^ 48 + e.band % 2 ^ 48, s.ptpNs.toNat, e.d0 % 2 ^ 64, e.d1 % 2 ^ 64, e.d2 % 2 ^ 64]
    (b2n s.degraded * 2 ^ 25 + e.hub * 2 ^ 24)

/-- Raise a notice of a queue whose target is an MSI-X vector (the error queue: vector 0) (07 R344). -/
def State.raiseErrNotice (s : State) : State :=
  let a := aPq qError + 0x20
  if bit (s.reg a) 4 then s else (s.setBits a 0x10).msix 0

/-- A change of a queue after an item went in or out: high-water mark and watermark state; answers whether ABOVE
changed. -/
def State.afterOcc (s : State) (q : Nat) (p : PqState) : State × Bool :=
  let above := if s.pqEn q then aboveAfter (s.pqHi q) (s.pqLo q) (s.pq q).occ p.occ p.above else false
  ((s.setPq q { p with above := above }).maxReg (aPq q + 0x2C) p.occ, above != p.above)

/-- Emit an error record: a single-item packet of the error queue whose priority is its severity (R564). -/
def State.emit (s : State) (e : ErrInfo) : State :=
  let o : Offer := ⟨s.errorRecord e, BitVec.ofNat 3 e.sev, true, true, 1, 0⟩
  let r := offerStep ⟨true, true, 4096, false⟩ (s.pq qError) o
  let p := { r.p with lostMark := r.p.lostMark || decide (0 < r.lost) }
  let s1 := { (s.afterOcc qError p).1 with errSeq := (s.errSeq + 1) % 65536 }
  let s2 := s1.count (aPq qError + 0x24) r.lost
  match r.res with
  | .accepted => s2.raiseErrNotice
  | _ => s2

/-! ## Counts of queues (07 R353) -/

/-- Items of queue `q` lost: PQ_LOST counts, and its rise from 0 emits QUEUE_LOST (not of the error queue, R564). -/
def State.pqLost (s : State) (q n : Nat) : State :=
  let a := aPq q + 0x24
  let s1 := s.count a n
  if q = qError || n = 0 || s.reg a ≠ 0 then s1
  else s1.emit { err 0x0402 with loc := hubLoc (q / 256 % 2) 6, d0 := qReport q, hub := q / 256 % 2 }
/-- An item refused by queue `q`. -/
def State.pqRefused (s : State) (q : Nat) : State :=
  let a := aPq q + 0x34
  let s1 := s.count a 1
  if s.reg a ≠ 0 then s1
  else s1.emit { err 0x0404 with loc := hubLoc (q / 256 % 2) 6, d0 := qReport q, hub := q / 256 % 2 }

/-! ## Signal objects (07 R361–R365) -/

def State.sigCfg (s : State) (k : Nat) : Word := s.reg (aSigCfg k)
def State.sigEn (s : State) (k : Nat) : Bool := bit (s.sigCfg k) 31
def State.sigMax (s : State) (k : Nat) : Nat := fld (s.sigCfg k) 0 16
def State.sigCount (s : State) (k : Nat) : Nat := fld (s.reg (aSig k)) 0 16

/-- Add `n` to the count: capped at MAX with SIG_OVERFLOW (R364); answers whether the count rose from 0. -/
def State.sigAdd (s : State) (k n : Nat) : State × Bool :=
  if s.sigEn k = false then (s, false)
  else
    let total := s.sigCount k + n
    let v := min total (s.sigMax k)
    let s1 := s.setRegN (aSig k) v
    let s2 := if s.sigMax k < total then s1.emit { err 0x0405 with d0 := k, d1 := total - s.sigMax k } else s1
    (s2, s.sigCount k == 0 && v != 0)

/-- Signal `n`; each rise from 0 sends one notice, which may signal a further object (R365). Every object rises at
most once on the way, so the fuel of 513 is never used up. -/
def State.sigFuel : Nat → State → Nat → Nat → State
  | 0, s, _, _ => s
  | f + 1, s, k, n =>
    let r := s.sigAdd k n
    if r.2 then
      let ix := fld (s.sigCfg k) 16 11
      match fld (s.sigCfg k) 29 2 with
      | 0 => r.1.msix ix
      | 1 => r.1.coreNotice ix (BitVec.ofNat 16 (0x8000 + k))
      | 2 => State.sigFuel f r.1 ix 1
      | _ => r.1
    else r.1
def State.signal (s : State) (k n : Nat) : State := State.sigFuel 513 s k n

/-- One wait: takes 1 when the object is enabled and its count is above 0 (R361, R365). -/
def State.sigTake (s : State) (k : Nat) : State × Bool :=
  if s.sigEn k && s.sigCount k != 0 then (s.setRegN (aSig k) (s.sigCount k - 1), true) else (s, false)

/-! ## Notices of queues (07 R344) -/

def State.raiseNotice (s : State) (q : Nat) : State :=
  let a := aPq q + 0x20
  if bit (s.reg a) 4 then s
  else
    let s1 := s.setBits a 0x10
    let ix := fld (s.pqNotice q) 0 11
    match fld (s.pqNotice q) 30 2 with
    | 0 => s1.msix ix
    | 1 => s1.coreNotice ix (BitVec.ofNat 16 (qReport q % 1024))
    | 2 => s1.signal ix 1
    | _ => s1

/-- Bring a changed queue back: watermarks, and the notice of a change of ABOVE under NOTICE 2 (R343). -/
def State.pqChanged (s : State) (q : Nat) (p : PqState) : State :=
  let r := s.afterOcc q p
  if r.2 && s.pqNoticeMode q == 2 then r.1.raiseNotice q else r.1

/-- The result of an offer brought back into the state (R335, R336, R343, R346, R353). -/
def State.settle (s : State) (q : Nat) (o : Offer) (r : OfferOut) : State :=
  let p := if q = qError then { r.p with lostMark := r.p.lostMark || decide (0 < r.lost) } else r.p
  let s1 := (s.pqChanged q p).count (aPq q + 0x28) r.flushed
  let s2 := s1.pqLost q r.lost
  match r.res with
  | .accepted => if o.eop && s2.pqNoticeMode q == 1 then s2.raiseNotice q else s2
  | .refused => s2.pqRefused q
  | _ => s2

def State.offerCfg (s : State) (q : Nat) (host : Bool) : OfferCfg := ⟨s.pqEn q, s.pqOverwrite q, s.pqDepth q, host⟩

/-- Two offers of one writer (R337). -/
def sameWriter (a b : Offer) : Bool := a.writer == b.writer && a.src == b.src
/-- A writer whose earlier item is still held keeps the order of its items (R333, 06 R314). -/
def State.holdsOf (s : State) (q : Nat) (o : Offer) : Bool := (s.pq q).held.any (sameWriter o)
/-- A unit writer offers an item (07 R328–R337): an item that cannot be accepted yet is held at its writer. -/
def State.offer (s : State) (q : Nat) (o : Offer) : State × OfferResult :=
  if s.pqPresent q = false then (s, .refused)
  else if s.holdsOf q o then (s.onPq q (fun p => { p with held := p.held ++ [o] }), .held)
  else
    let r := offerStep (s.offerCfg q false) (s.pq q) o
    let s1 := s.settle q o r
    (if r.res = .held then s1.onPq q (fun p => { p with held := p.held ++ [o] }) else s1, r.res)

/-- A push by the host, which is never held (R336). -/
def State.hostPush (s : State) (q : Nat) (o : Offer) : State :=
  if s.pqPresent q = false then s else s.settle q o (offerStep (s.offerCfg q true) (s.pq q) o)

/-- Order of held offers: lowest writer number first, gate tiles by tile (R328). -/
def offerBefore (a b : Offer) : Bool := decide (a.writer.toNat < b.writer.toNat) || (a.writer == b.writer && decide (a.src < b.src))
def firstHeld (os : List Offer) : Option Offer :=
  os.foldl (fun m o => match m with
    | none => some o
    | some b => if offerBefore o b then some o else m) none
def removeOffer (o : Offer) : List Offer → List Offer
  | [] => []
  | x :: xs => if x = o then xs else x :: removeOffer o xs

/-- Try the held offers in order; the first that is no longer held is settled (R328, R333, R337). -/
def State.tryHeld (s : State) (q : Nat) : Nat → List Offer → State
  | 0, _ => s
  | n + 1, os =>
    match firstHeld os with
    | none => s
    | some o =>
      let r := offerStep (s.offerCfg q false) (s.pq q) o
      if r.res = .held then s.tryHeld q n (os.filter (fun x => !(sameWriter o x)))
      else s.settle q o { r with p := { r.p with held := removeOffer o r.p.held } }

/-! ## Popping, flushing, resetting -/

/-- The error queue's record as delivered: after a loss LOST_BEFORE is set and the CRC generated again, inverted where
the stored record's own CRC failed (12 R564). -/
def markLost (l : Line) : Line :=
  let bs := lineBytes l
  let body := slice bs 0 60
  let good := decide (fieldAt bs 60 4 = (crc32c body).toNat)
  let body' := slice body 0 56 ++ leBytes 4 ((BitVec.ofNat 32 (fieldAt body 56 4)) ||| 0x4000000#32).toNat
  lineOf (body' ++ leBytes 4 (if good then crc32c body' else ~~~ crc32c body').toNat)

/-- Deliver a popped item: the error queue sets LOST_BEFORE on the first record after a loss. -/
def State.deliver (s : State) (q : Nat) (i : QItem) : State × QItem :=
  if q = qError && (s.pq q).lostMark then
    (s.onPq q (fun p => { p with lostMark := false }), { i with data := markLost i.data })
  else (s, i)

/-- Pop the head item (07 R339–R341); the status word and the item. -/
def State.popItem (s : State) (q : Nat) : State × DWord × Option QItem :=
  let p := s.pq q
  let r := popStep (s.pqWhole q) p
  match r.2 with
  | none => (s, popStatusOf false p.openR.isSome false false false 0 0 p.occ, none)
  | some i =>
    let d := (s.pqChanged q r.1).deliver q i
    (d.1, popStatusOf true false i.poison i.sop i.eop i.prio i.writer r.1.occ, some d.2)

/-- FLUSH (R346). -/
def State.pqFlushAll (s : State) (q : Nat) : State :=
  let r := flushStep false (s.pq q)
  (s.pqChanged q r.1).count (aPq q + 0x28) r.2
/-- RESET (R348): as FLUSH, counted in PQ_LOST, with PTR_RESET set. -/
def State.pqResetAll (s : State) (q : Nat) : State :=
  let r := flushStep true (s.pq q)
  let p := if q = qError then { r.1 with lostMark := r.1.lostMark || decide (0 < r.2) } else r.1
  ((s.pqChanged q p).setBits (aPq q + 0x20) 8).pqLost q r.2

/-- Clearing EN acts as FLUSH (R332). -/
def State.pqDisableAll (s : State) (q : Nat) : State :=
  let s1 := s.pqFlushAll q
  (s1.clrBits (aPq q) 0x80000000).onPq q (fun p => { p with above := false })

end Sys2Proof.Machine
end

