-- ==== Sys2Proof/Machine/BellOps.lean ====
section
/-!
DEFINITION. Shared operations of the bell, the ledger and the hold tree (01), containment (14 R647) and the group's side of
a fault (13 R614, R615).
-/
namespace Sys2Proof.Machine

/-! ## Numbers and image fields -/

/-- `a` is at or before `b` in the wrapping 48-bit order (01 R32). -/
def w48le (a b : W48) : Bool := decide ((b - a).toNat < 2 ^ 47)
def w48lt (a b : W48) : Bool := w48le a b && decide (a ≠ b)

def State.bandLines (s : State) : Nat := s.regN aBelBandLines
def State.bandSet (s : State) : Nat := s.regN aBelBandSet % 65536
/-- The cameras of the band set that the part has. -/
def State.bandCams (s : State) : List Nat :=
  (List.range 16).filter (fun n => s.bandSet / 2 ^ n % 2 == 1)
def State.runBit (s : State) : Bool := bit (s.reg aBelCtrl) 8
def State.srcSel (s : State) : Nat := fld (s.reg aBelCtrl) 0 2
def State.encSel (s : State) : Nat := fld (s.reg aBelCtrl) 4 2
def State.encDir (s : State) : Bool := bit (s.reg aBelCtrl) 6
def State.bellOutEn (s : State) : Bool := bit (s.reg aBelCtrl) 11
def State.bandNum (s : State) : W48 := s.reg48 aBelBandNum
def State.lineNum (s : State) : W48 := s.reg48 aBelLineNum
def State.hwm (s : State) : W48 := s.reg48 aBelEncHwm
def State.encPos (s : State) (n : Nat) : W48 := s.reg48 (aBelEncPos n)
def State.activeValid (s : State) : Bool := bit (s.reg aHubLoadStatus) 25
def State.loadState (s : State) : Nat := fld (s.reg aHubLoadStatus) 28 4
def State.setLoadState (s : State) (v : Nat) : State := s.setReg aHubLoadStatus (setFld (s.reg aHubLoadStatus) 28 4 v)
/-- BEL_ENC_DIV in force. -/
def State.encDiv (s : State) : Nat := max 0x10000 (s.regN aBelEncDiv)
def State.cfgIgnored (s : State) : State := s.setBits aBelStatus 0x100

/-- BEL_MIN_PERIOD; in a changeover window (`w`) the larger of the two images' sums plus 16 ck (10 R486). -/
def State.periodIn (s : State) (w : Bool) : Nat :=
  match w, s.load.staged with
  | true, some i => max (s.regN aBelMinPeriod) (i.hdr.budget + i.hdr.scrub + i.hdr.holdAllow) + 16
  | _, _ => s.regN aBelMinPeriod
/-- BEL_HOLD_ALLOW; in a changeover window the larger of the two images' allowances (10 R486). -/
def State.allowIn (s : State) (w : Bool) : Nat :=
  match w, s.load.staged with
  | true, some i => max (s.regN aBelHoldAllow) i.hdr.holdAllow
  | _, _ => s.regN aBelHoldAllow
/-- The period in force, which spaces idle and drain bells (01 R37–R39). -/
def State.minPeriod (s : State) : Nat := s.periodIn s.load.windowOpen

/-- The digest tag of a parsed image: its first two bytes (10 R451). -/
def Image.tag (i : Image) : Nat := fieldAt (digestBytes i.hdr.digest) 0 2

/-- The band after which the changeover under way swaps (10 R482). -/
def State.swapAt (s : State) : Option W48 :=
  if s.loadState = 4 then some (s.reg48 aHubSwapBandAct) else s.load.armed
/-- Band `n` is judged with the figures of the changeover window: it follows the armed band (10 R486, Table 10.10). -/
def State.inWindow (s : State) (n : W48) : Bool := s.load.windowOpen || s.swapAt.any (fun k => w48lt k n)
/-- The period and the hold allowance of the gate that judges band `n` (01 R44; 10 R486). -/
def State.gatePeriod (s : State) (n : W48) : Nat := s.periodIn (s.inWindow n)
def State.holdAllow (s : State) (n : W48) : Nat := s.allowIn (s.inWindow n)
/-- Generation and tag of band `n`: those of the incoming image after the armed band (10 "Changeover"). -/
def State.bandImage (s : State) (n : W48) : BitVec 2 × BitVec 16 :=
  match s.swapAt, s.load.staged with
  | some k, some i =>
    if w48le n k then (s.activeGen, BitVec.ofNat 16 s.imageTag) else (s.activeGen + 1, BitVec.ofNat 16 i.tag)
  | _, _ => (s.activeGen, BitVec.ofNat 16 s.imageTag)

/-! ## Bands -/

def State.updBell (s : State) (f : BellState → BellState) : State := { s with bell := f s.bell }
def State.updBand (s : State) (n : W48) (f : BandRec → BandRec) : State :=
  s.updBell (fun b => { b with bands := b.bands.map (fun r => if r.num = n then f r else r) })
def State.findBand (s : State) (n : W48) : Option BandRec := s.bell.bands.find? (fun r => r.num == n)
/-- The band in assembly, once it has a tick (01 R699). -/
def State.assembling (s : State) : Option BandRec := s.bell.bands.find? (fun r => r.phase == .assembling)
def State.inFlight (s : State) : List BandRec := s.bell.bands.filter (fun r => r.phase == .inFlight)

/-! ## The ledger (01 R59–R78) -/

/-- Per camera, the status that applies first (R65, R66): a missing line counts only where the band was inspected. -/
def camVerdict (b : BandRec) (v : Verdict) (n : Nat) : Verdict :=
  let m := Tab.at_ (⟨0, 0, 0⟩ : Miss) b.miss n
  if v.status = 0 && m.count != 0 then ⟨6, m.cause, m.count⟩ else v

/-- Group cameras of identical status and cause; the group's quantity is the largest (R71). -/
def addGroup (gs : List (Nat × Verdict)) (n : Nat) (v : Verdict) : List (Nat × Verdict) :=
  match gs with
  | [] => [(2 ^ n, v)]
  | (m, w) :: t =>
    if w.status = v.status && w.cause = v.cause then (m + 2 ^ n, { w with qty := max w.qty v.qty }) :: t
    else (m, w) :: addGroup t n v
def verdictGroups (cams : List Nat) (b : BandRec) (v : Verdict) : List (Nat × Verdict) :=
  cams.foldl (fun gs n => addGroup gs n (camVerdict b v n)) []

def Run.matches_ (r : Run) (b : BandRec) (g : Nat × Verdict) : Bool :=
  r.verdict.status == g.2.status && r.verdict.cause == g.2.cause && r.mask.toNat == g.1 && r.gen == b.gen && r.tag == b.tag
def Run.extend (r : Run) (b : BandRec) (g : Nat × Verdict) : Run :=
  { r with count := r.count + 1, verdict := { r.verdict with qty := max r.verdict.qty g.2.qty },
           posEnd := b.last.pos + 1, timeEnd := b.last.time, degraded := r.degraded || b.degraded }
def newRun (b : BandRec) (g : Nat × Verdict) (now : Nat) : Run :=
  { first := b.num, count := 1, mask := BitVec.ofNat 16 g.1, verdict := g.2, gen := b.gen, tag := b.tag,
    posStart := b.first.pos, posEnd := b.last.pos + 1, timeStart := b.first.time, timeEnd := b.last.time,
    degraded := b.degraded, openedAt := now }

/-- The ledger entry of a run (Table 1.3). `flags` are bits 27–24 of its last word. -/
def ledgerEntry (r : Run) (seq flags : Nat) : Line :=
  recordLine
    [2 ^ 56 + r.verdict.status * 2 ^ 52 + r.gen.toNat * 2 ^ 50 + r.first.toNat,
     r.count * 2 ^ 32 + r.mask.toNat * 2 ^ 16 + seq % 65536,
     r.tag.toNat * 2 ^ 48 + r.posStart.toNat, r.posEnd.toNat, r.timeStart.toNat, r.timeEnd.toNat,
     min r.verdict.qty 0xFFFFFFFF * 2 ^ 32 + r.verdict.cause]
    flags

/-- Close one run: its entry takes the next SEQ, or is lost when the holding store is full (R72, R700). -/
def State.closeRun (s : State) (byTime : Bool) (r : Run) : State :=
  let seq := s.regN aLdgNextSeq
  let s1 := s.setRegN aLdgNextSeq ((seq + 1) % 65536)
  if s1.ledger.store.length < 4096 then
    let flags := b2n s.ledger.lostMark * 2 ^ 27 + b2n s.sup.t0.isSome * 2 ^ 26 + b2n byTime * 2 ^ 25 + b2n r.degraded * 2 ^ 24
    { s1 with ledger := { s1.ledger with store := s1.ledger.store ++ [ledgerEntry r seq flags], lostMark := false } }
  else
    ({ s1 with ledger := { s1.ledger with lostMark := true } } : State).count aLdgLost 1

/-- The lowest camera of a mask. -/
def lowestCam (m : BitVec 16) : Nat := ((List.range 16).find? (fun n => m.getLsbD n)).getD 16
/-- Insert a closing run by its lowest camera, after those already there (R73). -/
def insertRun (x : Run × Bool) : List (Run × Bool) → List (Run × Bool)
  | [] => [x]
  | y :: ys => if lowestCam x.1.mask < lowestCam y.1.mask then x :: y :: ys else y :: insertRun x ys
def sortRuns (xs : List (Run × Bool)) : List (Run × Bool) := xs.foldl (fun acc x => insertRun x acc) []
/-- A later band of some camera would stand before an earlier one. -/
def outOfOrder : List (Run × Bool) → Bool
  | [] => false
  | x :: xs => xs.any (fun y => (x.1.mask &&& y.1.mask) != 0 && w48lt y.1.first x.1.first) || outOfOrder xs
/-- Issue the entries of runs that close at one band: by lowest camera (R73), the older runs first where a camera's
band order (R60) needs it. -/
def State.closeRuns (s : State) (old new : List (Run × Bool)) : State :=
  let all := sortRuns (old ++ new)
  let order := if outOfOrder all then sortRuns old ++ sortRuns new else all
  order.foldl (fun t x => t.closeRun x.2 x.1) s

def State.closeLimit (s : State) : Nat := msCk (s.regN aLdgCloseMs)

/-- LEDGER_FULL: fewer than 32 free places stop admission, one record an episode (R75). -/
def State.checkFull (s : State) : State :=
  if !s.ledger.full && decide (4096 - s.ledger.store.length < 32) then
    ({ s with ledger := { s.ledger with full := true, resumed := none } } : State).emit { err 0x0403 with loc := hubLoc 0 2 }
  else s

/-- A final band extends, opens and closes runs (R70–R72, R86). Runs that passed their limit while LEDGER_FULL stopped
admission close here once it has resumed (R700); a run that CLOSE_NOW closes as well closes with the band in it, as one
entry. -/
def State.ledgerBand (s : State) (b : BandRec) (v : Verdict) : State :=
  let gs := verdictGroups s.bandCams b v
  let allNow := s.ledger.closeWanted && !s.ledger.full
  let expired : Run → Bool := fun r => !s.ledger.full && !allNow && decide (s.closeLimit ≤ s.now - r.openedAt)
  let hit : Run → Option (Nat × Verdict) := fun r => gs.find? (fun g => r.matches_ b g)
  let closed := s.ledger.runs.filterMap (fun r => match hit r with
    | none => some (r, false)
    | some _ => if expired r then some (r, true) else none)
  let kept := s.ledger.runs.filterMap (fun r => match hit r with
    | none => none
    | some g => if expired r then none else some (r.extend b g))
  let fresh := (gs.filter (fun g => !(kept.any (fun r => r.matches_ b g)))).map (fun g => newRun b g s.now)
  let runs := kept ++ fresh
  let resumed := if s.ledger.full then s.ledger.resumed else none
  let full := runs.filter (fun r => allNow || decide (0xFFFFFFFF ≤ r.count))
  let rest := runs.filter (fun r => !(allNow || decide (0xFFFFFFFF ≤ r.count)))
  let s1 : State :=
    { s with ledger := { s.ledger with runs := rest, closeWanted := s.ledger.closeWanted && !allNow, resumed := resumed } }
  (s1.closeRuns closed (full.map (fun r => (r, false)))).checkFull

/-- The ledger writer finalises bands in band order, as far as each is final (R61). -/
def State.finaliseList : State → List BandRec → State
  | s, [] => { s with bell := { s.bell with bands := [] } }
  | s, b :: bs =>
    match b.verdict with
    | some v => State.finaliseList (s.ledgerBand b v) bs
    | none => { s with bell := { s.bell with bands := b :: bs } }
def State.finalise (s : State) : State := s.finaliseList s.bell.bands

/-- Close every open run: the end of a stream, an orderly stop (R72). -/
def State.closeAllRuns (s : State) : State :=
  let rs := s.ledger.runs.map (fun r => (r, false))
  (({ s with ledger := { s.ledger with runs := [], closeWanted := false } } : State).closeRuns rs []).checkFull

/-- A band with a verdict: its flight ends, and one never admitted takes the generation and tag that its number has at the
Gatehouse (01 R69; 10 "Changeover"). -/
def BandRec.judged (r : BandRec) (img : BitVec 2 × BitVec 16) (v : Verdict) : BandRec :=
  if r.phase = .inFlight then { r with verdict := some v, phase := .finished }
  else { r with verdict := some v, phase := .finished, gen := img.1, tag := img.2 }
/-- Set the verdict of the bands that satisfy `p` and have none. -/
def State.verdictWhere (s : State) (p : BandRec → Bool) (v : Verdict) : State :=
  s.updBell (fun b => { b with bands := b.bands.map (fun r =>
    if p r && r.verdict.isNone then r.judged (s.bandImage r.num) v else r) })

/-! ## Camera lines of a band -/

/-- Bring a closed or matched tick of camera `n` into its band. -/
def BandRec.close (b : BandRec) (n : Nat) : BandRec := { b with closed := Tab.set_ 0 b.closed n (Tab.at_ 0 b.closed n + 1) }
def BandRec.missLine (b : BandRec) (n cause : Nat) (line : W48) : BandRec :=
  let m := Tab.at_ (⟨0, 0, 0⟩ : Miss) b.miss n
  let m' : Miss := if m.count = 0 then ⟨1, cause, line⟩ else { m with count := m.count + 1 }
  { b with miss := Tab.set_ ⟨0, 0, 0⟩ b.miss n m' }

def State.linkLost (s : State) (n : Nat) : Bool := (s.cam n).lost
def State.camEn (s : State) (n : Nat) : Bool := bit (s.reg (aCam n)) 31
def State.camTrig (s : State) (n : Nat) : Bool := bit (s.reg (aCam n)) 30
/-- The port is disabled: EN is 0, or its power domain is off (06 R285; 14 R641). -/
def State.camOff (s : State) (n : Nat) : Bool := !s.camEn n || s.power.off.contains (20 + n)
/-- Cause of a missing line (06 R283); `bad` is true for a bad line. -/
def State.missCause (s : State) (n : Nat) (bad : Bool) : Nat :=
  if s.linkLost n then 4 else if s.camOff n then 3 else if bad then 2 else 1

/-- Close an open tick of camera `n` as missing (06 R277, R281, R283, R285). -/
def State.closeMissing (s : State) (n : Nat) (t : OpenTick) (bad : Bool) : State :=
  let cause := s.missCause n bad
  let s1 := s.count (aCam n + 0x20) 1
  let s2 := s1.setCam n { s1.cam n with open_ := (s1.cam n).open_.filter (fun o => o.line != t.line) }
  if s.bandCams.contains n then s2.updBand t.band (fun b => (b.missLine n cause t.line).close n) else s2

/-- The greatest of the line numbers, in their wrapping order, and what goes with it. -/
def latestLine (l : List (W48 × List (BitVec 12))) : Option (W48 × List (BitVec 12)) :=
  l.foldl (fun m x => match m with
    | none => some x
    | some y => if w48le y.1 x.1 then some x else some y) none
/-- The lines of band `b` leave line memory. The last of them may still stand for a missing line (06 R287). -/
def CamState.dropBand (c : CamState) (b : W48) : CamState :=
  let gone := (c.lines.filter (fun l => l.band == b)).map (fun l => (l.line, l.pixels))
  { c with lines := c.lines.filter (fun l => l.band != b), good := c.good ++ (latestLine gone).toList }
/-- Drop the stored lines of a band: the Gatehouse discards them at ingest (01 R45, R57). -/
def State.dropLines (s : State) (b : W48) : State :=
  let drop : CamState → CamState := fun c =>
    let d := c.dropBand b
    { d with open_ := d.open_.filter (fun o => o.band != b) }
  { s with gth := { s.gth with cams := Tab.mapV CamState.init (fun _ c => drop c) s.gth.cams } }

/-! ## The Gatehouse's sending order -/

def State.pushSend (s : State) (x : SendItem) : State :=
  s.updBell (fun b => { b with sendq :=
    (List.range s.ident.hubs).foldl (fun m h => Tab.set_ [] m h (Tab.at_ [] b.sendq h ++ [x])) b.sendq })

/-! ## Group side -/

def State.grpLeader (s : State) : Bool := bit (s.reg aGrpState) 24
def State.grpSlot (s : State) : Nat := fld (s.reg aGrpState) 8 8
def State.grpSize (s : State) : Nat := fld (s.reg aGrpState) 16 8
def State.grpMode (s : State) : Bool := bit (s.reg aGrpCtrl) 0
def State.setGrpState (s : State) (v : Nat) : State := s.setReg aGrpState (setFld (s.reg aGrpState) 0 4 v)
/-- GRP_CK now (13 R583, R609). -/
def State.grpCk (s : State) : Nat := ((s.now : Int) + s.grp.ckBase).toNat
def State.prmLat (s : State) : Nat := fld (s.reg aGrpLat) 16 16
/-- PRM_BCAST_LAT (13 "Bells and decisions"). -/
def State.bcastLat (s : State) : Nat := s.grpSize / 2 * s.prmLat

/-- The control messages of 13 Table 13.4, by number. -/
inductive MsgKind where
  | hello | cal | formed | refused | start | tick | bell | streamEnd | armed | swap | fault | ptp
  deriving DecidableEq, Repr
def MsgKind.num : MsgKind → Nat
  | .hello => 1 | .cal => 2 | .formed => 3 | .refused => 4 | .start => 5 | .tick => 6 | .bell => 7 | .streamEnd => 8
  | .armed => 9 | .swap => 10 | .fault => 11 | .ptp => 12
/-! ### Flits (13 R578, R580, R606) -/

/-- CRC-32C over bytes 0–75: the 48-bit head and the body. -/
def flitCrc (ty : BitVec 4) (seq : BitVec 12) (stamp : BitVec 20) (ack : BitVec 12) (body : BitVec 560) : BitVec 32 :=
  crc32c (leBytes 6 (ty.toNat * 2 ^ 44 + seq.toNat * 2 ^ 32 + stamp.toNat * 2 ^ 12 + ack.toNat) ++ leBytes 70 body.toNat)
def mkFlit (ty : BitVec 4) (seq : BitVec 12) (stamp : BitVec 20) (ack : BitVec 12) (body : BitVec 560) : Flit :=
  ⟨ty, seq, stamp, ack, body, flitCrc ty seq stamp ack body⟩
def State.prmPresent (s : State) (p : Nat) : Bool := decide (p < s.ident.prmPorts)
/-- The port runs its link: enabled and powered. -/
def State.prmOn (s : State) (p : Nat) : Bool := s.prmPresent p && bit (s.reg (aPort p)) 31 && s.domOn (36 + p)
/-- Send a sequenced flit out of port `p`: it stays in the replay buffer, which keeps the last 1,024 (13 R580). -/
def State.sendFlit (s : State) (p : Nat) (ty : BitVec 4) (body : BitVec 560) : State :=
  let l := s.link p
  let f := mkFlit ty l.txSeq (BitVec.ofNat 20 s.grpCk) (l.rxNext - 1) body
  let kept := l.replay ++ [f]
  (s.setLink p { l with txSeq := l.txSeq + 1, replay := kept.drop (kept.length - 1024) }).send (.prmFlit p f)
/-- BODY of a control message: MSG, origin slot and hops remaining, then its fields, whose places the manual does not give: the
bits above are free values (notes/assumptions/72.md). -/
def State.msgBody (s : State) (k : MsgKind) : BitVec 560 :=
  (((s.free.append s.useFree.free).setWidth 560) <<< 24) |||
    BitVec.ofNat 560 (k.num + s.grpSlot % 256 * 2 ^ 8 + (s.grpSize / 2 - 1) % 256 * 2 ^ 16)
/-- Send a control message both ways round ring 0 (13 R606). -/
def State.sendMsg (s : State) (k : MsgKind) (fields : List Nat) : State :=
  let b := s.msgBody k
  [0, 1].foldl (fun t p => if t.prmOn p then t.sendFlit p 2 b else t) (s.send (.prmMsg k.num fields)).useFree.useFree

def BellKind.num : BellKind → Nat
  | .band => 0 | .idle => 1 | .drain => 2
/-- A decision as a code and a cause (13 Table 13.4). -/
def Decision.code : Decision → Nat × Nat
  | .admitted => (0, 0)
  | .shedOverrun c => (1, c)
  | .reversed => (2, 0)
  | .shedConfig => (3, 0)
/-- Send a BELL message. -/
def State.sendBell (s : State) (m : BellMsg) : State :=
  s.sendMsg .bell [BellKind.num m.kind, m.band.toNat, m.grpCk.toNat, m.gen.toNat, m.holdCk, (Decision.code m.decision).1,
    (Decision.code m.decision).2, m.shortfall]

/-! ## The hold tree (01 R50, R51) -/

/-- Some unit requests a hold. -/
def State.holdWanted (s : State) : Bool := s.tiles.any (fun e => !e.2.holdReq.isEmpty)
/-- The tree follows the requests; each change travels to the sequencers as an edge. -/
def State.holdUpdate (s : State) : State :=
  let w := s.holdWanted
  if w = s.hold.tree then s
  else { s with hold := { s.hold with tree := w, edges := s.hold.edges ++ [(s.now, w)],
                                      roseAt := if w then s.now else s.hold.roseAt } }
/-- Every hold request is cleared (14 Table 14.7 step 1). -/
def State.clearHolds (s : State) : State :=
  { s with tiles := Tab.mapV Tile.blank (fun _ t => { t with holdReq := [] }) s.tiles }

/-! ## Ends of a stream -/

/-- The location word of camera `n` (12 Table 12.10). -/
def camLoc (n : Nat) : Nat := 9 * 2 ^ 24 + n * 2 ^ 16
/-- The record of the bad lines that camera `n` had in band `b`, once its lines are all in or discarded (06 R282). -/
def State.badRecord (s : State) (b : BandRec) (n : Nat) : State :=
  let bad := Tab.at_ (⟨0, 0⟩ : BadLines) b.bad n
  if bad.count = 0 then s
  else s.emit { code := 0x0801, sev := 1, loc := camLoc n, band := b.num.toNat, d0 := bad.count, d1 := bad.first.toNat, hub := n / 8 }
def State.badRecords (s : State) (b : BandRec) : State := (List.range s.ident.camPorts).foldl (fun t n => t.badRecord b n) s
/-- P at which the tick `r` ticks ahead would fall, the last tick having stood at `p` (01 R26, R69): with SRC 0 where H
takes the accumulator over BEL_ENC_DIV for the r-th time; a tick of a group on its way has its place already; with other
sources no position can be told and `p` stands (notes/assumptions/106.md). -/
def State.tickAhead (s : State) (r : Nat) (p : W48) : W48 :=
  match s.grp.ticks[r - 1]? with
  | some m => m.pos
  | none =>
    if s.srcSel = 0 then
      s.hwm + BitVec.ofNat 48 (((r - s.grp.ticks.length) * s.encDiv - s.bell.tickAcc + 65535) / 65536)
    else p
/-- The band in assembly is discarded before its last tick: its end is where its last line would have been ticked (R69),
the line numbers of its unticked lines are consumed with it and the band number moves on (R32). -/
def State.cutAssembly (s : State) (b : BandRec) : State :=
  let r := s.bandLines - b.ticks
  let pos := s.tickAhead r b.last.pos
  let s1 := (s.updBand b.num (fun x => { x with last := { x.last with pos := pos } })).dropLines b.num
  let s2 := s1.setReg48 aBelLineNum (s1.lineNum + BitVec.ofNat 48 r)
  (s2.setReg48 aBelBandNum (s2.bandNum + 1)).badRecords b
/-- A band before its last tick is discarded (R32, R40, R57). -/
def State.dropAssembly (s : State) (v : Verdict) : State :=
  match s.assembling with
  | none => s
  | some b =>
    let s1 := s.verdictWhere (fun r => r.num == b.num) v
    (s1.cutAssembly b).finalise
/-- A band whose bell has not fired is discarded after its last tick (R40). -/
def State.dropWaiting (s : State) (b : BandRec) (v : Verdict) : State :=
  (((s.verdictWhere (fun r => r.num == b.num) v).dropLines b.num).badRecords b).finalise
/-- A reversal episode ends: its band is ledgered REVERSED with the depth reached, and a leader tells the group
(01 R56–R58; 13 R599). -/
def State.closeReversal (s : State) : State :=
  match s.bell.reversal with
  | none => s
  | some d =>
    let rev := s.bell.bands.filter (fun r => r.phase == .reversed && r.verdict.isNone)
    let s1 := ((s.updBell (fun b => { b with reversal := none })).verdictWhere (fun r => r.phase == .reversed) ⟨7, 0, d⟩).finalise
    if s.grp.running && s.grpLeader then
      rev.foldl (fun t r => t.sendBell ⟨.band, r.num, BitVec.ofNat 64 t.grpCk, r.gen, 0, .reversed, d⟩) s1
    else s1

/-- Once the last band's bell has fired, END_OF_STREAM goes behind the last band and drain bells begin (01 R39). DESIGN
CHOICE (notes/assumptions/107.md): a reversal episode still open here ends, its band REVERSED with the depth reached. -/
def State.maybeDrain (s : State) : State :=
  let begins := s.bell.lastBand == some s.bandNum && s.grp.running && !s.grp.ticks.isEmpty
  if s.bell.phase = .ending && !begins && !(s.bell.bands.any (fun r => r.phase == .assembling || r.phase == .waiting)) then
    let s1 := s.closeReversal
    (s1.updBell (fun b => { b with phase := .draining, drainBells := 0 })).pushSend ⟨.eos, s1.bell.lastBand.getD 0, s1.now⟩
  else s

/-- The stream ends with band `last`. -/
def State.endStreamAt (s : State) (last : W48) : State :=
  (s.updBell (fun b => { b with phase := .ending, lastBand := some last })).maybeDrain
/-- End the stream after the band in assembly (01 R39); a group leader's tick on its way makes that band begin. -/
def State.endStream (s : State) : State :=
  if s.bell.phase = .running then
    s.endStreamAt (match s.assembling with
      | some b => b.num
      | none => if s.grp.ticks.isEmpty then s.bandNum - 1 else s.bandNum)
  else s

/-- Discard the band in assembly, ledgered SHED_FAULT with cause 0, and end the stream (01 R40). After EOS that is the
stream's last band until its bell has fired. -/
def State.abortStream (s : State) : State :=
  if s.bell.phase = .running || s.bell.phase = .ending then
    match s.assembling with
    | some b => (s.dropAssembly ⟨2, 0, 0⟩).endStreamAt (b.num - 1)
    | none =>
      match s.bell.bands.find? (fun r => s.bell.lastBand == some r.num && r.phase == .waiting) with
      | some b => (s.dropWaiting b ⟨2, 0, 0⟩).endStreamAt (b.num - 1)
      | none => s.endStream
  else s

/-- The interval closes: BEL_LAST_HOLD and BEL_MAX_HOLD (01 R54). -/
def State.closeInterval (s : State) : State :=
  match s.bell.interval with
  | none => s
  | some n => ((s.setRegN aBelLastHold (min n 0xFFFFFFFF)).maxReg aBelMaxHold n).updBell (fun b => { b with interval := none })

/-- The drain completes: RUN reads 0, the last interval and every run close (01 R41, R54, R72; 10 R489). -/
def State.completeDrain (s : State) : State :=
  let s1 := s.closeInterval
  let s2 := (s1.clrBits aBelCtrl 0x100).updBell (fun b =>
    { b with phase := .closed, lastBand := none, admittedAt := none, reversal := none })
  let s3 := if s2.contain.active then s2 else s2.clrBits aContainStatus 0x80000000
  let s4 := s3.closeAllRuns
  { s4 with grp := { s4.grp with running := false } }

/-! ## Containment (14 R647–R651) and group faults (13 R614–R616) -/

/-- The containment window in ck. -/
def State.containWindow (s : State) : Nat := msCk (1000 * s.regN aContainWindowS)

/-- The lowest and the highest band in flight. -/
def lowBand (rs : List BandRec) : Option W48 :=
  rs.foldl (fun m r => some (match m with
    | none => r.num
    | some k => if w48le r.num k then r.num else k)) none
def highBand (rs : List BandRec) : Option W48 :=
  rs.foldl (fun m r => some (match m with
    | none => r.num
    | some k => if w48le k r.num then r.num else k)) none
/-- A group fault learned of in the very ck in which one began, of a lower slot: its code is the cause (13 R615). -/
def State.lowerSlot (s : State) (code slot : Nat) : State :=
  if s.contain.groupCode.isSome && s.contain.at_ == s.now && decide (slot < fld (s.reg aGrpFaultCode) 0 3) then
    let c := { s.contain with groupCode := some (BitVec.ofNat 16 code) }
    ((({ s with contain := c } : State).setRegN aGrpFaultCode (code * 65536 + slot)).updBell (fun b =>
      { b with bands := b.bands.map (fun r => { r with verdict := r.verdict.map (fun v =>
        if v.status = 5 && r.phase == .inFlight then { v with cause := code } else v) }) }))
  else s
/-- Steps 1 and 2 of Table 14.7: everything stops, hold requests are cleared, and every admitted band that is not final
takes SHED_FAULT with the fault's code, or SHED_GROUP in a running group with the code of the first fault that the
member learned of; the ledger writer takes them up when the containment goes on, so that an orderly stop can still govern
(R652, R664). A fault during a containment starts no second one and counts once towards the limit (R651); during an
orderly stop none starts. `slot` detected the fault. -/
def State.containBy (s : State) (code slot : Nat) : State :=
  if s.sup.t0.isSome then s
  else
    let times := (s.contain.times.filter (fun t => decide (s.now - t < s.containWindow))) ++ [s.now]
    let s0 := s.setReg aContainStatus (setFld (s.reg aContainStatus) 0 16 code ||| 0x40000000)
    if s.contain.active then
      let c := { s.contain with times := times }
      ({ s0 with contain := c } : State).lowerSlot code slot
    else
      let inGroup := s.grp.running
      let cause := (s.contain.groupCode.map (fun c => c.toNat)).getD code
      let group := if inGroup then some (BitVec.ofNat 16 cause) else s.contain.groupCode
      let c : ContainState := ⟨true, BitVec.ofNat 16 code, s.now, times, lowBand s.inFlight, group⟩
      let s2 := ({ s0 with contain := c } : State).count aContainCount 1
      let s3 := (match highBand s.inFlight with
        | some k => s2.setReg48 aContainLastBand k
        | none => s2)
      let s4 := s3.clearHolds.holdUpdate
      let s5 := s4.verdictWhere (fun r => r.phase == .inFlight) ⟨if inGroup then 5 else 2, if inGroup then cause else code, 0⟩
      if inGroup then
        let s6 := (s5.setGrpState 5).count aGrpFaults 1
        if s.contain.groupCode.isSome then s6 else s6.setRegN aGrpFaultCode (code * 65536 + slot % 8)
      else s5
/-- Containment of a fault that this device detected; in a running group it sends FAULT (13 R614). -/
def State.startContain (s : State) (code : Nat) : State :=
  let s1 := s.containBy code s.grpSlot
  if s.grp.running && !s.contain.active && s.sup.t0.isNone then s1.sendMsg .fault [code, s.grpSlot, s.grpCk, b2n s.holdWanted] else s1

/-- A unit's fault: the record, then containment. -/
def State.faultContain (s : State) (e : ErrInfo) : State := (s.emit e).startContain e.code

/-- Admission is stopped, with the verdict that bands then take, in the order of R65 (01 R75; 14 R632, R648, R650;
13 R616). -/
def State.admitBlock (s : State) : Option Verdict :=
  if s.sup.t0.isSome then some ⟨3, s.sup.causeCode.toNat, 0⟩
  else match s.contain.groupCode with
  | some c => some ⟨5, c.toNat, 0⟩
  | none =>
    if s.contain.active then some ⟨2, s.contain.code.toNat, 0⟩
    else if bit (s.reg aContainStatus) 31 then some ⟨2, fld (s.reg aContainStatus) 0 16, 0⟩
    else if s.ledger.full then some ⟨2, 0x0403, 0⟩
    else none

end Sys2Proof.Machine
end

