-- ==== Sys2Proof/Machine/MemOps.lean ====
section
/-!
DEFINITION. Protected memories and HBM (08): poison, correctable and uncorrectable errors, write-backs, the fill bitmap.
-/
namespace Sys2Proof.Machine

/-! ## Places (00 R1, 02 R93, R109) -/

/-- The location word of tile `k` (02 R111). -/
def tileLocWord (k : Nat) : Nat := 2 ^ 24 + k / 1536 * 2 ^ 16 + k % 1536 / 32 * 2 ^ 8 + k % 32
/-- The key of the tile of a location word. -/
def locTileKey (w : Nat) : Nat := bits w 16 8 * 1536 + bits w 8 8 * 32 + bits w 0 8
/-- Die slot of HBM stack `k` (02 Table 2.1). -/
def Identity.stackSlot (p : Identity) (k : Nat) : Nat := if p.part == 0x4120 then 4 + 2 * k else 4 + k
/-- Bytes of HBM present. -/
def Identity.hbmBytes (p : Identity) : Nat := p.stacks * 2 ^ 34
def hbmStack (a : Nat) : Nat := a / 2 ^ 34
def hbmBlock (a : Nat) : Nat := a % 2 ^ 34 / 65536
/-- Device address bits [12:8] select the pseudo-channel (08 "HBM3"). -/
def hbmChannel (a : Nat) : Nat := a / 256 % 32

/-- KIND of a memory (02 Table 2.11; 8 engine store, 0 HBM, 08 R376), given the kind of the tile. -/
def memKind (tk : Nat) : MemWord → Nat
  | .tile _ _ => if tk = 2 then 1 else if tk = 1 then 2 else 3
  | .hbm _ => 0
  | .kiosk _ _ => 6
  | .engine _ _ => 8
  | .l2 _ _ => 4
/-- The word's 64 B row, or its device address for HBM (08 R376). -/
def memPlace : MemWord → Nat
  | .tile _ w => w.val / 8
  | .hbm w => 8 * w
  | .kiosk _ w => w / 8
  | .engine _ w => w / 8
  | .l2 _ w => w / 8
def memHub : MemWord → Nat
  | .kiosk h _ => h.val
  | .engine h _ => h.val
  | .l2 h _ => h.val
  | _ => 0
/-- Location word of a memory in a record (08 R373, 02 R111, 12 Table 12.10). -/
def memLoc (p : Identity) : MemWord → Nat
  | .tile t _ => tileLocWord t.key
  | .hbm w => 4 * 2 ^ 24 + p.stackSlot (hbmStack (8 * w)) * 2 ^ 16
  | .kiosk h _ => 3 * 2 ^ 24 + (2 + h.val) * 2 ^ 16
  | .engine h _ => 2 * 2 ^ 24 + (2 + h.val) * 2 ^ 16
  | .l2 h _ => hubLoc h.val 7
/-- The unit whose correctable errors are counted together (08 R373). -/
def memUnit : MemWord → Nat
  | .tile t _ => t.key
  | .hbm w => 4096 + hbmStack (8 * w) * 32 + hbmChannel (8 * w)
  | .kiosk h _ => 8192 + h.val
  | .engine h _ => 8194 + h.val
  | .l2 h _ => 8196 + h.val

/-- Kind of the tile with key `k`, as TIL_ID: 0 gate, 1 arbor, 2 cistern, 3 fountain (03 R126). -/
def tileKind (k : Nat) : Nat :=
  let row := k % 32
  if row = 0 || row = 31 then 0
  else match k % 1536 / 32 % 8 with
    | 2 => 2
    | 6 => 2
    | 4 => 3
    | _ => 1
/-- Bytes of a tile's memory (02 Table 2.3). -/
def tileMemBytes (k : Nat) : Nat :=
  match tileKind k with
  | 1 => 65536
  | 2 => 524288
  | 3 => 16384
  | _ => 0

/-! ## Owner and region class (08 R376, Table 8.3) -/

def Region.holds (r : Region) (kind loc place : Nat) : Bool :=
  r.kind == kind && (kind == 0 || r.loc.toNat == loc) && decide (r.start ≤ place) &&
  decide (place < r.start + (if kind = 0 then r.len else r.len / 64))
/-- Owner and class of a place: the active image's memory map, then the allocator's records and the firmware region. -/
def State.regionOf (s : State) (kind loc place : Nat) : Nat × Nat :=
  let rs := (match s.load.active with
    | some i => i.regions
    | none => [])
  match rs.find? (fun r => r.holds kind loc place) with
  | some r => (r.owner, r.cls)
  | none =>
    let a := if kind = 4 then 64 * place else place
    if (kind = 0 || kind = 4) && s.alloc.live.any (fun e => decide (e.1 ≤ a) && decide (a < e.1 + e.2.1)) then (0xFFFF, 3)
    else if kind = 0 && decide (place < 0x80000000) then (0xFFFF, 4)
    else (0xFFFF, 0)
def memTile : MemWord → Nat
  | .tile t _ => tileKind t.key
  | _ => 0

/-- The record of a poisoned word (08 R376); `fg` when a foreground read found it. -/
def State.poisonErr (s : State) (code : Nat) (w : MemWord) (fg : Bool) : ErrInfo :=
  let kind := memKind (memTile w) w
  let loc := memLoc s.ident w
  let o := s.regionOf kind loc (memPlace w)
  { err code with loc := loc, kind := memTile w, gen := s.activeGen.toNat, pavilion := o.1, d0 := memPlace w,
                  d1 := o.1 + o.2 * 2 ^ 16 + kind * 2 ^ 20 + b2n fg * 2 ^ 24, hub := memHub w }

/-! ## Poison (08 R371, R372, R381) -/

def State.isPoisoned (s : State) (w : MemWord) : Bool :=
  match w with
  | .tile t k => (s.tile t.key).poison.contains k.val
  | .hbm k => s.mem.hbmPoison.contains k
  | w => s.mem.hubPoison.contains w
def State.setPoison (s : State) (w : MemWord) : State :=
  if s.isPoisoned w then s
  else match w with
    | .tile t k => s.onTile t.key (fun x => { x with poison := k.val :: x.poison })
    | .hbm k => { s with mem := { s.mem with hbmPoison := k :: s.mem.hbmPoison } }
    | w => { s with mem := { s.mem with hubPoison := w :: s.mem.hubPoison } }
/-- Words now poisoned (GKP_POISONED). -/
def State.poisonedWords (s : State) : Nat :=
  s.mem.hbmPoison.length + s.mem.hubPoison.length + s.tiles.foldl (fun n e => n + e.2.poison.length) 0

/-- A fresh uncorrectable error: poison is set and counted once (08 R371). Answers whether it is new. -/
def State.findUe (s : State) (w : MemWord) : State × Bool :=
  if s.isPoisoned w then (s, false) else ((s.setPoison w).count aGkpUeCount 1, true)

/-! ## Correctable errors (08 R370, R373) -/

def State.ceWindow (s : State) : Nat := msCk (s.regN aGkpCeWindowMs)
/-- Count a correctable error of a unit; at GKP_CE_LIMIT in the window one CE_RATE record, then none for a window. -/
def State.ceCount (s : State) (w : MemWord) : State :=
  let u := memUnit w
  let recent := ((Tab.at_ [] s.mem.ceTimes u).filter (fun t => decide (s.now - t < s.ceWindow))) ++ [s.now]
  let quiet := decide (s.now < Tab.at_ 0 s.mem.ceReport u)
  let limit := s.regN aGkpCeLimit
  let s1 := ({ s with mem := { s.mem with ceTimes := Tab.set_ [] s.mem.ceTimes u recent } } : State).count aGkpCeCount 1
  if limit ≠ 0 && decide (limit ≤ recent.length) && !quiet then
    let e : ErrInfo := { err 0x0303 with loc := memLoc s.ident w, kind := memTile w, d0 := recent.length,
                                         d1 := (match w with
                                           | .hbm k => hbmChannel (8 * k)
                                           | _ => 0), hub := memHub w }
    ({ s1 with mem := { s1.mem with ceReport := Tab.set_ 0 s1.mem.ceReport u (s.now + s.ceWindow) } } : State).emit e
  else s1

def scratchBase : Nat := 0x1010000000
/-- Offset of the row of L2 word `k` in the scratch window; none where the row is a cached line. L2 words are numbered by
physical address. -/
def l2Scratch (k : Nat) : Option Nat :=
  if scratchBase ≤ 8 * k && 8 * k < scratchBase + 0x400000 then some (k / 8 * 64 - scratchBase) else none
/-- The 64 B row of a word, as bytes; a line that is not cached reads 0. -/
def State.rowBytes (s : State) (w : MemWord) : List Byte :=
  match w with
  | .tile t k => readBytes (s.tile t.key).mem (k.val / 8 * 64) 64
  | .hbm k => readBytes s.mem.hbm (k / 8 * 64) 64
  | .kiosk h k => readBytes (s.kiosk h.val).store (k / 8 * 64) 64
  | .engine h k => readBytes (Tab.at_ [] s.gth.store h.val) (k / 8 * 64) 64
  | .l2 h k => (match l2Scratch k with
    | some o => readBytes (Tab.at_ [] s.lodge.scratch h.val) o 64
    | none => (match s.l2Line h.val (k / 8) with
      | some e => lineBytes e.data
      | none => List.replicate 64 0))
def sameRow : MemWord → MemWord → Bool
  | .tile t k, .tile u j => t.key == u.key && k.val / 8 == j.val / 8
  | .hbm k, .hbm j => k / 8 == j / 8
  | .kiosk h k, .kiosk g j => h == g && k / 8 == j / 8
  | .engine h k, .engine g j => h == g && k / 8 == j / 8
  | .l2 h k, .l2 g j => h == g && k / 8 == j / 8
  | _, _ => false
/-- A read that found a correctable error: the word as corrected goes on, the count, one write-back of its row (R370). -/
def State.correct (s : State) (w : MemWord) : State :=
  let s1 := s.ceCount w
  if s1.mem.writeBacks.any (fun b => sameRow b.word w) then s1
  else { s1 with mem := { s1.mem with writeBacks := s1.mem.writeBacks ++ [⟨w, s1.rowBytes w⟩] } }

/-! ## The repair registers (08 R404) -/

def State.repairKind (s : State) : Nat := fld (s.reg aGkpRepairLoc) 24 8
/-- A number of 0 or 1 as a hub. -/
def hubFin (h : Nat) : Hub := if h = 0 then 0 else 1
/-- The first word of the row that a repair writes. -/
def State.repairWord (s : State) : Option MemWord :=
  let loc := s.reg aGkpRepairLoc
  let row := s.regN aGkpRepairRow
  let die := fld loc 16 1
  let hub : Hub := if die = 0 then 0 else 1
  match s.repairKind with
  | 4 => some (.hbm (s.reg64 aGkpRepairHbm / 8))
  | 6 => some (.kiosk hub (8 * row))
  | 8 => some (.engine hub (8 * row))
  | k =>
    if 1 ≤ k && k ≤ 3 then
      if hc : fld loc 8 8 < 48 then
        if hr : fld loc 0 8 < 32 then
          some (.tile ⟨if die = 0 then 0 else 1, ⟨fld loc 8 8, hc⟩, ⟨fld loc 0 8, hr⟩⟩ (Fin.ofNat 65536 (8 * row)))
        else none
      else none
    else none

/-- A foreground write of a row cancels its pending write-back and a repair that it precedes (08 R403, R404). -/
def State.cancelRow (s : State) (w : MemWord) : State :=
  let wb := s.mem.writeBacks.filter (fun b => !(sameRow b.word w))
  let hit := s.mem.repair && (match s.repairWord with
    | some r => sameRow r w
    | none => false)
  { s with mem := { s.mem with writeBacks := wb, repair := s.mem.repair && !hit } }

/-! ## HBM blocks (08 R382–R384) -/

def State.blockFilled (s : State) (k b : Nat) : Bool :=
  decide (b < Tab.at_ 0 s.mem.filled k) || (Tab.at_ [] s.mem.filledEarly k).contains b
def State.blocksFilled (s : State) (k : Nat) : Nat := Tab.at_ 0 s.mem.filled k + (Tab.at_ [] s.mem.filledEarly k).length
/-- Blocks filled in order, taking in those filled early. -/
def fillNorm : Nat → Nat → List Nat → Nat × List Nat
  | 0, n, e => (n, e)
  | f + 1, n, e => if e.contains n then fillNorm f (n + 1) (e.filter (fun b => b != n)) else (n, e)
/-- Block `b` of stack `k` is filled: zero is written to it, and its bit is set (08 R382, R384). -/
def State.fillOne (s : State) (k b : Nat) : State :=
  if s.blockFilled k b then s
  else
    let e := b :: Tab.at_ [] s.mem.filledEarly k
    let r := fillNorm e.length (Tab.at_ 0 s.mem.filled k) e
    let a := k * 2 ^ 34 + b * 65536
    let gone := s.mem.hbmPoison.filter (fun w => !(8 * w / 65536 == a / 65536))
    { s with mem := { s.mem with filled := Tab.set_ 0 s.mem.filled k r.1, filledEarly := Tab.set_ [] s.mem.filledEarly k r.2,
                                 hbm := zeroBytes s.mem.hbm a 65536, hbmPoison := gone } }
/-- The block of an HBM word. -/
def State.wordFilled (s : State) (k : Nat) : Bool := s.blockFilled (hbmStack (8 * k)) (hbmBlock (8 * k))

/-- Write a 64 B row of a memory: new check bits, poison of its words cleared; an unfilled HBM block is filled first (08 R372,
R384). -/
def State.putRow (s : State) (w : MemWord) (bs : List Byte) : State :=
  match w with
  | .tile t k => s.onTile t.key (fun x =>
      { x with mem := writeBytes x.mem (k.val / 8 * 64) bs, poison := x.poison.filter (fun p => p / 8 != k.val / 8) })
  | .hbm k =>
    let f := s.fillOne (hbmStack (8 * k)) (hbmBlock (8 * k))
    { f with mem := { f.mem with hbm := writeBytes f.mem.hbm (k / 8 * 64) bs,
                                 hbmPoison := f.mem.hbmPoison.filter (fun p => p / 8 != k / 8) } }
  | w =>
    let s1 : State := { s with mem := { s.mem with hubPoison := s.mem.hubPoison.filter (fun p => !(sameRow p w)) } }
    match w with
    | .kiosk h k => s1.setKiosk h.val { s1.kiosk h.val with store := writeBytes (s1.kiosk h.val).store (k / 8 * 64) bs }
    | .engine h k =>
      let m := writeBytes (Tab.at_ [] s1.gth.store h.val) (k / 8 * 64) bs
      { s1 with gth := { s1.gth with store := Tab.set_ [] s1.gth.store h.val m } }
    | .l2 h k =>
      (match l2Scratch k with
        | some o =>
          let m := writeBytes (Tab.at_ [] s1.lodge.scratch h.val) o bs
          { s1 with lodge := { s1.lodge with scratch := Tab.set_ [] s1.lodge.scratch h.val m } }
        | none => (match s1.l2Line h.val (k / 8) with
          | some e => s1.setL2Line h.val (k / 8) (some { e with data := lineOf bs })
          | none => s1))
    | _ => s1

/-! ## HBM accesses (08 R372, R380, R383, R384) -/

/-- What a foreground read of word `w` finds there, beside its data: a correctable error is corrected, counted and queued for
write-back, an uncorrectable one poisons the word and is counted, a parity failure of HBM is counted and the read issued again, a
second one an uncorrectable error (08 R370, R371, R380). An unfilled block is not read (R383). -/
def State.eccFind (s : State) (w : MemWord) (e : Ecc) : State :=
  match w, e with
  | _, .clean => s
  | .hbm k, .parityOnce => if s.wordFilled k then s.count aGkpHbmParity 1 else s
  | .hbm k, .parityTwice => if s.wordFilled k then ((s.count aGkpHbmParity 2).findUe w).1 else s
  | _, .parityOnce => s
  | _, .parityTwice => s
  | .hbm k, .correctable => if s.isPoisoned w || !(s.wordFilled k) then s else s.correct w
  | .hbm k, .uncorrectable => if s.wordFilled k then (s.findUe w).1 else s
  | w, .correctable => if s.isPoisoned w then s else s.correct w
  | w, .uncorrectable => (s.findUe w).1
/-- A write that fails HBM parity is counted and issued again (08 R380). -/
def State.writeParity (s : State) (e : Ecc) : State := match e with
  | .parityOnce => s.count aGkpHbmParity 1
  | .parityTwice => s.count aGkpHbmParity 2
  | _ => s
/-- Blocks that a range of bytes touches: (stack, block). -/
def blocksOf (a n : Nat) : List (Nat × Nat) :=
  (List.range ((a + max n 1 - 1) / 65536 - a / 65536 + 1)).map (fun i =>
    let x := (a / 65536 + i) * 65536
    (hbmStack x, hbmBlock x))
/-- A read of an unfilled block: counted, and one FILL_PENDING record as the counter rises from 0 (08 R383). -/
def State.fillPending (s : State) (k : Nat) : State :=
  let s1 := s.count aGkpFillPendingReads 1
  if s.reg aGkpFillPendingReads ≠ 0 then s1
  else s1.emit { err 0x0304 with loc := 4 * 2 ^ 24 + s.ident.stackSlot k * 2 ^ 16, d0 := k }
/-- The bytes of a range of device memory: an unfilled block reads 0 (08 R383). -/
def State.hbmBytesAt (s : State) (a n : Nat) : List Byte :=
  if (blocksOf a n).all (fun b => s.blockFilled b.1 b.2) then readBytes s.mem.hbm a n
  else (List.range n).map (fun i => if s.wordFilled ((a + i) / 8) then readByte s.mem.hbm (a + i) else 0)
/-- A read of device memory: its bytes, and the count of each unfilled block it meets. -/
def State.hbmRead (s : State) (a n : Nat) : State × List Byte :=
  ((blocksOf a n).foldl (fun t b => if t.blockFilled b.1 b.2 then t else t.fillPending b.1) s, s.hbmBytesAt a n)
/-- Some word of a range is poisoned; an unfilled block is not read. -/
def State.hbmPoisoned (s : State) (a n : Nat) : Option Nat :=
  (List.range ((a + max n 1 - 1) / 8 - a / 8 + 1)).findSome? (fun i =>
    if s.mem.hbmPoison.contains (a / 8 + i) && s.wordFilled (a / 8 + i) then some (a / 8 + i) else none)
/-- A foreground write of device memory: the block is filled first, poison of the words written is cleared, a
write-back or repair of the rows is cancelled (08 R372, R384, R403). -/
def State.hbmWrite (s : State) (a : Nat) (bs : List Byte) : State :=
  let s1 := (blocksOf a bs.length).foldl (fun t b => t.fillOne b.1 b.2) s
  let s2 := (List.range ((a + max bs.length 1 - 1) / 64 - a / 64 + 1)).foldl (fun t i => t.cancelRow (.hbm (8 * (a / 64 + i)))) s1
  { s2 with mem := { s2.mem with hbm := writeBytes s2.mem.hbm a bs,
                                 hbmPoison := s2.mem.hbmPoison.filter (fun w => !(decide (a ≤ 8 * w + 7) && decide (8 * w < a + bs.length))) } }

end Sys2Proof.Machine
end

