-- ==== Sys2Proof/Machine/SeqCodec.lean ====
section
/-!
DEFINITION. The encoding of sequencer instructions (03 R153, Table 3.5): the instruction type, its encoder and decoder.
-/
namespace Sys2Proof.Machine

/-- Operation and operands of a sequencer instruction; each operand has the width of its field in Table 3.5. A field
written "n − 1" holds one less than the value it names. -/
inductive TOp where
  | nop
  | cset (c : BitVec 2) (n1 : BitVec 16)
  | loop (c : BitVec 2) (t : BitVec 8)
  | jmp (t : BitVec 8)
  | waitck (n : BitVec 16)
  | aset (a : BitVec 2) (v : BitVec 16)
  | aadd (a : BitVec 2) (v : BitVec 16)
  | rset (r : BitVec 10)
  | waitq (q : BitVec 3) (n1 : BitVec 5)
  | recv (q : BitVec 3) (b : BitVec 2)
  | drop (q : BitVec 3) (n1 : BitVec 5)
  | send (b : BitVec 2) (r : BitVec 10)
  | fwd (q : BitVec 3) (n1 : BitVec 8) (r : BitVec 10)
  | ldsc (q : BitVec 3) (n1 : BitVec 8)
  | hreq (q : BitVec 3) (n1 : BitVec 5)
  | fire (mode : BitVec 4) (q : BitVec 3) (n1 : BitVec 8) (ob : BitVec 2) (w4 bg : BitVec 1)
  | acc (q : BitVec 3) (n1 : BitVec 8)
  | drain (r : BitVec 10) (n1 : BitVec 8) (raw : BitVec 1)
  | rqh (r : BitVec 10) (n1 : BitVec 8)
  | mrd (d : BitVec 3) (q : BitVec 3) (bg : BitVec 1) (n1 : BitVec 8)
  | mwr (d : BitVec 3) (q : BitVec 3) (bg : BitVec 1) (n1 : BitVec 8)
  | pset (p b c : BitVec 2) (it : BitVec 1) (i : BitVec 9)
  | pimm (p : BitVec 2) (v : BitVec 1)
  | pcnt (p c cmp : BitVec 2) (v : BitVec 16)
  | plog (p pa pb fn : BitVec 2)
  | sel (p ba bb bd : BitVec 2)
  | begin_ (m : BitVec 8)
  | bend (m : BitVec 8)
  | halt
  deriving DecidableEq, Repr

/-- An instruction: guard enable, guard polarity, guard index, operation. -/
structure TInst where
  ge : BitVec 1
  gp : BitVec 1
  gi : BitVec 2
  op : TOp
  deriving DecidableEq, Repr

/-- Opcode and operand bits [21:0] of an operation; reserved operand bits are 0. -/
def opBits : TOp → BitVec 6 × BitVec 22
  | .nop => (0x00, 0)
  | .cset c n1 => (0x01, c ++ 0#4 ++ n1)
  | .loop c t => (0x02, c ++ 0#12 ++ t)
  | .jmp t => (0x03, 0#14 ++ t)
  | .waitck n => (0x04, 0#6 ++ n)
  | .aset a v => (0x05, a ++ 0#4 ++ v)
  | .aadd a v => (0x06, a ++ 0#4 ++ v)
  | .rset r => (0x07, 0#12 ++ r)
  | .waitq q n1 => (0x08, q ++ 0#14 ++ n1)
  | .recv q b => (0x09, q ++ 0#17 ++ b)
  | .drop q n1 => (0x0A, q ++ 0#14 ++ n1)
  | .send b r => (0x0B, b ++ 0#10 ++ r)
  | .fwd q n1 r => (0x0C, q ++ n1 ++ 0#1 ++ r)
  | .ldsc q n1 => (0x0D, q ++ 0#11 ++ n1)
  | .hreq q n1 => (0x0E, q ++ 0#14 ++ n1)
  | .fire mode q n1 ob w4 bg => (0x10, mode ++ q ++ n1 ++ ob ++ w4 ++ bg ++ 0#3)
  | .acc q n1 => (0x11, q ++ 0#11 ++ n1)
  | .drain r n1 raw => (0x12, r ++ n1 ++ raw ++ 0#3)
  | .rqh r n1 => (0x13, r ++ n1 ++ 0#4)
  | .mrd d q bg n1 => (0x14, d ++ q ++ 0#7 ++ bg ++ n1)
  | .mwr d q bg n1 => (0x15, d ++ q ++ 0#7 ++ bg ++ n1)
  | .pset p b c it i => (0x18, p ++ b ++ c ++ 0#5 ++ it ++ 0#1 ++ i)
  | .pimm p v => (0x19, p ++ 0#19 ++ v)
  | .pcnt p c cmp v => (0x1A, p ++ c ++ cmp ++ v)
  | .plog p pa pb fn => (0x1B, p ++ pa ++ pb ++ 0#14 ++ fn)
  | .sel p ba bb bd => (0x1C, p ++ ba ++ bb ++ bd ++ 0#14)
  | .begin_ m => (0x1E, m ++ 0#14)
  | .bend m => (0x1F, m ++ 0#14)
  | .halt => (0x3F, 0)

/-- The 32-bit word of an instruction (R153). -/
def encodeTile (i : TInst) : Word := (opBits i.op).1 ++ i.ge ++ i.gp ++ i.gi ++ (opBits i.op).2

/-- The operation of an opcode with its operand bits; none for a reserved opcode (R153). -/
def opOf (op : BitVec 6) (x : BitVec 22) : Option TOp :=
  match op.toNat with
  | 0x00 => some .nop
  | 0x01 => some (.cset (x.extractLsb' 20 2) (x.extractLsb' 0 16))
  | 0x02 => some (.loop (x.extractLsb' 20 2) (x.extractLsb' 0 8))
  | 0x03 => some (.jmp (x.extractLsb' 0 8))
  | 0x04 => some (.waitck (x.extractLsb' 0 16))
  | 0x05 => some (.aset (x.extractLsb' 20 2) (x.extractLsb' 0 16))
  | 0x06 => some (.aadd (x.extractLsb' 20 2) (x.extractLsb' 0 16))
  | 0x07 => some (.rset (x.extractLsb' 0 10))
  | 0x08 => some (.waitq (x.extractLsb' 19 3) (x.extractLsb' 0 5))
  | 0x09 => some (.recv (x.extractLsb' 19 3) (x.extractLsb' 0 2))
  | 0x0A => some (.drop (x.extractLsb' 19 3) (x.extractLsb' 0 5))
  | 0x0B => some (.send (x.extractLsb' 20 2) (x.extractLsb' 0 10))
  | 0x0C => some (.fwd (x.extractLsb' 19 3) (x.extractLsb' 11 8) (x.extractLsb' 0 10))
  | 0x0D => some (.ldsc (x.extractLsb' 19 3) (x.extractLsb' 0 8))
  | 0x0E => some (.hreq (x.extractLsb' 19 3) (x.extractLsb' 0 5))
  | 0x10 => some (.fire (x.extractLsb' 18 4) (x.extractLsb' 15 3) (x.extractLsb' 7 8) (x.extractLsb' 5 2)
                (x.extractLsb' 4 1) (x.extractLsb' 3 1))
  | 0x11 => some (.acc (x.extractLsb' 19 3) (x.extractLsb' 0 8))
  | 0x12 => some (.drain (x.extractLsb' 12 10) (x.extractLsb' 4 8) (x.extractLsb' 3 1))
  | 0x13 => some (.rqh (x.extractLsb' 12 10) (x.extractLsb' 4 8))
  | 0x14 => some (.mrd (x.extractLsb' 19 3) (x.extractLsb' 16 3) (x.extractLsb' 8 1) (x.extractLsb' 0 8))
  | 0x15 => some (.mwr (x.extractLsb' 19 3) (x.extractLsb' 16 3) (x.extractLsb' 8 1) (x.extractLsb' 0 8))
  | 0x18 => some (.pset (x.extractLsb' 20 2) (x.extractLsb' 18 2) (x.extractLsb' 16 2) (x.extractLsb' 10 1) (x.extractLsb' 0 9))
  | 0x19 => some (.pimm (x.extractLsb' 20 2) (x.extractLsb' 0 1))
  | 0x1A => some (.pcnt (x.extractLsb' 20 2) (x.extractLsb' 18 2) (x.extractLsb' 16 2) (x.extractLsb' 0 16))
  | 0x1B => some (.plog (x.extractLsb' 20 2) (x.extractLsb' 18 2) (x.extractLsb' 16 2) (x.extractLsb' 0 2))
  | 0x1C => some (.sel (x.extractLsb' 20 2) (x.extractLsb' 18 2) (x.extractLsb' 16 2) (x.extractLsb' 14 2))
  | 0x1E => some (.begin_ (x.extractLsb' 14 8))
  | 0x1F => some (.bend (x.extractLsb' 14 8))
  | 0x3F => some .halt
  | _ => none

/-- The instruction of a word; none for a reserved opcode. Reserved operand bits are not read. -/
def decodeTile (w : Word) : Option TInst :=
  (opOf (w.extractLsb' 26 6) (w.extractLsb' 0 22)).map
    (fun o => ⟨w.extractLsb' 25 1, w.extractLsb' 24 1, w.extractLsb' 22 2, o⟩)

end Sys2Proof.Machine
end

