-- ==== Sys2Proof/Machine/Numbers.lean ====
section
/-!
DEFINITION. Number formats and checked arithmetic (05): residues, saturation, rounding, the requantiser, scale records, the
multiplier grid and the fountain's functions.
-/
namespace Sys2Proof.Machine

/-- The mathematical residue modulo 7, 0 to 6 (05 R260). -/
def mod7 (v : Int) : Nat := (v % 7).toNat
/-- Saturation to the int32 range, and whether it saturated (05 R246). -/
def sat32 (v : Int) : Int × Bool := (clampS 32 v, decide (clampS 32 v ≠ v))
/-- p / 2^t rounded to the nearest integer, ties to even (05 R254 step 3). -/
def roundShift (p : Int) (t : Nat) : Int :=
  let base := p / (2 ^ t : Nat)
  let frac := p - base * (2 ^ t : Nat)
  let half : Int := ((2 ^ (t - 1) : Nat) : Int)
  if half < frac then base + 1 else if frac < half then base else base + base % 2

/-- The value of an 8-bit code: uint8 or int8 (05 Table 5.1). -/
def codeVal (uns : Bool) (b : Nat) : Int := if uns then ((b % 256 : Nat) : Int) else signed 8 b
/-- The 8-bit code of a value. -/
def codeOf (v : Int) : Byte := BitVec.ofNat 8 (wrap 8 v)

/-- Output settings of a requantiser: uint8, OUT_ZP, CLO, CHI as values (05 Table 5.2). -/
structure OutCfg where
  uns : Bool
  zp : Int
  clo : Int
  chi : Int
  deriving DecidableEq, Repr

def codeLo (uns : Bool) : Int := if uns then 0 else -128
def codeHi (uns : Bool) : Int := if uns then 255 else 127
/-- Steps 4 to 6 of R254: the code, and whether the format saturated. -/
def outCode (c : OutCfg) (q : Int) : Int × Bool :=
  let u := q + c.zp
  let f := max (codeLo c.uns) (min (codeHi c.uns) u)
  (max c.clo (min c.chi f), decide (f ≠ u))
/-- The residue of the operands against that of the result: none where they agree, else found and expected (05 R261–R263). -/
def residueMiss (v : Int) (expected : Nat) : Option (Nat × Nat) :=
  if mod7 v = expected % 7 then none else some (mod7 v, expected % 7)
/-- The check of step 2 of R254: P against the residues of its factors (05 R262). -/
def scaleMiss (v : Int) (mult multR : Nat) : Option (Nat × Nat) :=
  residueMiss (v * mult * multR) (mod7 v * (mult % 7) * (multR % 7))
/-- Steps 2 to 6 of R254. -/
def requant (c : OutCfg) (v : Int) (mult multR t : Nat) : Int × Bool := outCode c (roundShift (v * mult * multR) t)

/-! ## Arbor numeric fields (05 Table 5.2, 10 "Tile records") -/

def numByte (n : DWord) (k : Nat) : Nat := bits n.toNat (8 * k) 8
def numInUns (n : DWord) : Bool := bits n.toNat 0 1 == 1
def numOutUns (n : DWord) : Bool := bits n.toNat 1 1 == 1
def numBiasEn (n : DWord) : Bool := bits n.toNat 2 1 == 1
def numRescaleEn (n : DWord) : Bool := bits n.toNat 3 1 == 1
def numInZp (n : DWord) : Int := codeVal (numInUns n) (numByte n 1)
def numBiasAddr (n : DWord) : Nat := bits n.toNat 40 10
def numOut (n : DWord) : OutCfg :=
  { uns := numOutUns n, zp := codeVal (numOutUns n) (numByte n 2), clo := codeVal (numOutUns n) (numByte n 3),
    chi := codeVal (numOutUns n) (numByte n 4) }
/-- Every byte in its range (05 R241). -/
def numOk (n : DWord) : Bool :=
  (numInUns n || numByte n 1 == 0) && (numOutUns n || numByte n 2 == 0) && decide ((numOut n).clo ≤ (numOut n).chi) &&
  decide (bits n.toNat 40 16 < 1024)

/-! ## Scale records (05 Table 5.3) -/

def scaleType (w : Word) : Nat := fld w 30 2
def scaleShift (w : Word) : Nat := fld w 24 6
def scaleMult (w : Word) : Nat := fld w 0 24
/-- The record whose factor is exactly 1 (05 R251, R253). -/
def unitRescale : Word := 0x00800000

/-! ## The multiplier grid (05 R239, R240, R244–R246, R260) -/

/-- Weight of input channel `i` to output channel `o` in a block at byte `a` (05 R239). -/
def weightAt (m : List Host.Cell) (w4 : Bool) (a o i : Nat) : Int :=
  if w4 then
    let b := (readByte m (a + 16 * o + i / 2)).toNat
    signed 4 (if i % 2 = 0 then b % 16 else b / 16)
  else signed 8 (readByte m (a + 16 * o + i)).toNat
/-- Operand of pixel `j`, channel `i` of a token (05 R240, R244). -/
def operandAt (l : Line) (n : DWord) (w4 : Bool) (j i : Nat) : Int :=
  codeVal (numInUns n) (lineByte l ((if w4 then 32 else 16) * j + i)).toNat - numInZp n
/-- Sum of the products of a pixel step, and of their residues modulo 7, for one output channel. -/
def macSum (m : List Host.Cell) (l : Line) (n : DWord) (w4 : Bool) (a j o : Nat) : Int × Nat :=
  (List.range (if w4 then 32 else 16)).foldl (fun acc i =>
    let x := operandAt l n w4 j i
    let w := weightAt m w4 a o i
    (acc.1 + x * w, (acc.2 + mod7 x * mod7 w) % 7)) (0, 0)
/-- Add a sum and its residue into an accumulator element; a saturation exempts it (05 R246, R247, R260). -/
def accAdd (c : AccCell) (sum : Int) (res : Nat) : AccCell × Bool :=
  let r := sat32 (c.v + sum)
  (⟨r.1, (c.r + res) % 7, c.ex || r.2⟩, r.2)
/-- int32 value of channel `c` of an int32 token (05 R240). -/
def int32At (l : Line) (c : Nat) : Int := (lineWord l c).toInt
/-- The int32 token of 16 channel values. -/
def int32Line (vs : List Int) : Line := lineOf (vs.flatMap (fun v => leBytes 4 (wrap 32 v)))

/-! ## Fountain functions (05 R265–R270) -/

/-- A parameter of a unit, read from its store; its place there is open (notes/assumptions/4.md). A shorter one is its low
bits. -/
def storeField (m : List Host.Cell) (k : Nat) : Word := BitVec.ofNat 32 (leNat (readBytes m (Config.fieldPlace k) 4))
/-- A parameter of the fountain's numeric configuration. -/
def fparam (m : List Host.Cell) (k : Nat) : Word := storeField m k
def fZ (m : List Host.Cell) (uns : Bool) (k : Nat) : Int := codeVal uns (fparam m k).toNat
def fK (m : List Host.Cell) (k : Nat) : Int := signed 16 (fparam m (2 + k)).toNat
def fOut (m : List Host.Cell) : OutCfg :=
  let u := bit (fparam m 4) 0
  { uns := u, zp := codeVal u (fparam m 5).toNat, clo := codeVal u (fparam m 6).toNat, chi := codeVal u (fparam m 7).toNat }
def fStride (m : List Host.Cell) : Nat := if (fparam m 8).toNat % 4 = 2 then 2 else 1
def fWidth (m : List Host.Cell) : Nat := (fparam m 9).toNat % 65536
def fTable (m : List Host.Cell) (mode : Nat) : Nat := (fparam m (16 + mode)).toNat % 16384
def fRecord (m : List Host.Cell) (mode lane : Nat) : Word := fparam m (64 + 32 * mode + lane % 32)
def fBias (m : List Host.Cell) (c : Nat) : Int := (fparam m (1024 + c % 32)).toInt

/-- An int16 output of EXP to LOG2 by segment (05 R268): the value and whether it saturated. -/
def segment16 (m : List Host.Cell) (mode : Nat) (x : Int) : Int × Bool :=
  let u := (x + 32768).toNat
  let a := fTable m mode + 12 * (u / 1024)
  let t : Int := ((u % 1024 : Nat) : Int)
  let c : Nat → Int := fun k => signed 32 (leNat (readBytes m (a + 4 * k) 4))
  let q := roundShift (c 0 * 2 ^ 20 + c 1 * t * 2 ^ 10 + c 2 * t * t) 20
  (clampS 16 q, decide (clampS 16 q ≠ q))
/-- One output token of EXP to LOG2, with the saturations counted (05 R267–R269). -/
def fountainUnary (m : List Host.Cell) (mode fmt : Nat) (l : Line) : Line × Nat :=
  if fmt = 3 then
    let rs := (List.range 32).map (fun k => segment16 m mode (signed 16 (bits l.toNat (16 * k) 16)))
    (lineOf (rs.flatMap (fun r => leBytes 2 (wrap 16 r.1))), (rs.filter (fun r => r.2)).length)
  else (lineOf ((lineBytes l).map (fun b => readByte m (fTable m mode + b.toNat))), 0)
/-- An intermediate of the fountain: its value, whether it saturated, and the residue of its operands, which MAX has none
of (05 Table 5.4, R270). -/
structure ZVal where
  v : Int
  sat : Bool
  r : Option Nat
  deriving DecidableEq, Repr

/-- The check of R270. As in R247, a saturated value is exempt (notes/assumptions/110.md). -/
def ZVal.miss (z : ZVal) : Option (Nat × Nat) := match z.r with
  | some r => if z.sat then none else residueMiss z.v r
  | none => none
/-- The first lane whose intermediate fails its check: lane, residue found, residue expected. -/
def laneMiss (zs : List ZVal) : Option (Nat × Nat × Nat) :=
  (List.range zs.length).findSome? (fun k => (zs[k]?.bind ZVal.miss).map (fun x => (k, x.1, x.2)))
/-- Intermediate of ADD, MUL, MAX (05 Table 5.4, R270). -/
def fountainZ (m : List Host.Cell) (mode : Nat) (uns1 uns2 : Bool) (b1 b2 : Byte) : ZVal :=
  let x := codeVal uns1 b1.toNat - fZ m uns1 0
  let y := codeVal uns2 b2.toNat - fZ m uns2 1
  let o : Int × Option Nat := (match mode with
    | 6 => (x * fK m 0 + y * fK m 1, some (mod7 x * mod7 (fK m 0) + mod7 y * mod7 (fK m 1)))
    | 7 => (x * y, some (mod7 x * mod7 y))
    | _ => (max x y, none))
  ⟨(sat32 o.1).1, (sat32 o.1).2, o.2⟩
/-- Requantise a lane of the fountain: MULT_R 0x80_0000, SHIFT_R 0 (05 R266). -/
def fountainOut (m : List Host.Cell) (mode lane : Nat) (z : Int) : Int × Bool :=
  let r := fRecord m mode lane
  requant (fOut m) z (scaleMult r) 0x800000 (scaleShift r + 23)
/-- The lanes of an output token or pixel. -/
structure LaneOut where
  bytes : List Byte
  fsat : Nat
  facc : Nat
  miss : Option (Nat × Nat × Nat)
  deriving DecidableEq, Repr

/-- Requantise the lanes, count output and intermediate saturations, check residues (05 R266, R269, R270). -/
def lanesOut (m : List Host.Cell) (mode : Nat) (zs : List ZVal) : LaneOut :=
  let os := (List.zip (List.range zs.length) zs).map (fun p => fountainOut m mode p.1 p.2.v)
  ⟨os.map (fun o => codeOf o.1), (os.filter (fun o => o.2)).length, (zs.filter (fun z => z.sat)).length, laneMiss zs⟩
/-- One output token of ADD, MUL, MAX. -/
def fountainBinary (m : List Host.Cell) (mode : Nat) (uns1 uns2 : Bool) (l1 l2 : Line) : LaneOut :=
  lanesOut m mode ((List.range 64).map (fun k => fountainZ m mode uns1 uns2 (lineByte l1 k) (lineByte l2 k)))
/-- Depthwise weight of kernel row `ky`, column `kx`, channel `c`, from the store at byte `a`. -/
def dwWeight (m : List Host.Cell) (a size ky kx c : Nat) : Int :=
  signed 8 (storeField m (2 ^ 16 + a + (ky * size + kx) * 32 + c)).toNat
/-- One depthwise output pixel of 32 channels (05 Table 5.4, R270). A column is the list of its kernel rows, 32 bytes a row;
the bias adds its own residue. -/
def depthwise (m : List Host.Cell) (mode a size : Nat) (uns : Bool) (cols : List (List (List Byte))) : LaneOut :=
  let zs := (List.range 32).map (fun c =>
    let o := (List.range size).foldl (fun acc kx => (List.range size).foldl (fun (acc : Int × Nat) ky =>
      let w := dwWeight m a size ky kx c
      let x := codeVal uns (((cols.getD kx []).getD ky []).getD c 0).toNat - fZ m uns 0
      (acc.1 + w * x, (acc.2 + mod7 w * mod7 x) % 7)) acc) (fBias m c, mod7 (fBias m c))
    (⟨(sat32 o.1).1, (sat32 o.1).2, some o.2⟩ : ZVal))
  lanesOut m mode zs

/-! ## Parameters that a fountain instruction reads, for the poison check (08 R374) -/

/-- Words that hold the parameters with the numbers `ks` (notes/assumptions/4.md). -/
def paramWord (ks : List Nat) (w : Nat) : Bool :=
  ks.any (fun k => decide (Config.fieldPlace k / 8 ≤ w) && decide (w ≤ (Config.fieldPlace k + 3) / 8))
/-- Parameters that ADD, MUL or MAX of 64 lanes uses. -/
def binaryParams (mode : Nat) : List Nat :=
  [0, 1] ++ (if mode = 6 then [2, 3] else []) ++ [4, 5, 6, 7] ++ (List.range 32).map (fun l => 64 + 32 * mode + l)
/-- Parameters that DW3 or DW5 uses for one output pixel with its weights at byte `a`. -/
def dwParams (mode a size : Nat) : List Nat :=
  [0, 4, 5, 6, 7, 8, 9] ++ (List.range 32).map (fun l => 64 + 32 * mode + l) ++ (List.range 32).map (fun c => 1024 + c) ++
  (List.range (size * size * 32)).map (fun j => 2 ^ 16 + a + j)
/-- Words of the table that a token of EXP to LOG2 looks up: a byte for each code, or 12 bytes for each segment. -/
def tableWord (m : List Host.Cell) (mode fmt : Nat) (l : Line) (w : Nat) : Bool :=
  let b := fTable m mode
  if fmt = 3 then (List.range 32).any (fun k =>
    let a := b + 12 * ((signed 16 (bits l.toNat (16 * k) 16) + 32768).toNat / 1024)
    decide (a / 8 ≤ w) && decide (w ≤ (a + 11) / 8))
  else (lineBytes l).any (fun x => (b + x.toNat) / 8 == w)

end Sys2Proof.Machine
end

