-- ==== Sys2Proof/Machine/Windows.lean ====
section
/-!
DEFINITION. Window generators (04 R187–R217) and the Cellar's delay lines and units (04 R224–R233).
-/
namespace Sys2Proof.Machine

/-! ## Window descriptors (04 Table 4.1) -/

def WinDesc.kh (d : WinDesc) : Nat := bits d.w0.toNat 60 4 + 1
def WinDesc.kw (d : WinDesc) : Nat := bits d.w0.toNat 56 4 + 1
def WinDesc.sh (d : WinDesc) : Nat := bits d.w0.toNat 53 3 + 1
def WinDesc.sw (d : WinDesc) : Nat := bits d.w0.toNat 50 3 + 1
def WinDesc.dh (d : WinDesc) : Nat := bits d.w0.toNat 47 3 + 1
def WinDesc.dw (d : WinDesc) : Nat := bits d.w0.toNat 44 3 + 1
def WinDesc.padT (d : WinDesc) : Nat := bits d.w0.toNat 40 4
def WinDesc.padB (d : WinDesc) : Nat := bits d.w0.toNat 36 4
def WinDesc.padL (d : WinDesc) : Nat := bits d.w0.toNat 32 4
def WinDesc.padR (d : WinDesc) : Nat := bits d.w0.toNat 28 4
def WinDesc.repl (d : WinDesc) : Bool := bits d.w0.toNat 27 1 == 1
def WinDesc.fused (d : WinDesc) : Bool := bits d.w0.toNat 26 1 == 1
def WinDesc.w4 (d : WinDesc) : Bool := bits d.w0.toNat 25 1 == 1
def WinDesc.dwp (d : WinDesc) : Bool := bits d.w0.toNat 24 1 == 1
def WinDesc.padv (d : WinDesc) : Byte := BitVec.ofNat 8 (bits d.w0.toNat 16 8)
def WinDesc.lbBase (d : WinDesc) : Nat := bits d.w0.toNat 0 13
def WinDesc.inW (d : WinDesc) : Nat := bits d.w1.toNat 48 16 + 1
def WinDesc.x0 (d : WinDesc) : Int := signed 16 (bits d.w1.toNat 32 16)
def WinDesc.imgW (d : WinDesc) : Nat := bits d.w1.toNat 16 16 + 1
def WinDesc.rowPitch (d : WinDesc) : Nat := bits d.w1.toNat 0 16
def WinDesc.cblk (d : WinDesc) : Nat := bits d.w2.toNat 56 8 + 1
def WinDesc.lbRows (d : WinDesc) : Nat := bits d.w2.toNat 48 8 + 1
def WinDesc.outX0 (d : WinDesc) : Nat := bits d.w2.toNat 32 16
def WinDesc.outW (d : WinDesc) : Nat := bits d.w2.toNat 16 16 + 1
def WinDesc.chunk (d : WinDesc) : Nat := bits d.w2.toNat 8 8 + 1
def WinDesc.krowFirst (d : WinDesc) : Nat := bits d.w2.toNat 4 4
def WinDesc.krows (d : WinDesc) : Nat := bits d.w2.toNat 0 4
def WinDesc.outRows (d : WinDesc) : Nat := bits d.w3.toNat 48 16 + 1
def WinDesc.lag (d : WinDesc) : Nat := bits d.w3.toNat 40 8
def WinDesc.frameH (d : WinDesc) : Nat := bits d.w3.toNat 24 16 + 1

/-- Columns or pixels per 64 B unit (04 R193). -/
def WinDesc.perUnit (d : WinDesc) : Nat := if d.w4 || d.dwp then 2 else 4
/-- Bytes of a record (04 R193). -/
def WinDesc.recBytes (d : WinDesc) : Nat := 64 / d.perUnit
/-- The ranges of R191 and the reserved fields (04 R192); every code of the fields of R188 is in range. -/
def WinDesc.valid (d : WinDesc) : Bool :=
  bits d.w0.toNat 13 3 == 0 && bits d.w3.toNat 0 24 == 0 && d.chunk % (if d.w4 then 2 else 4) == 0 &&
  d.outW % d.chunk == 0 && decide (d.inW / d.perUnit * d.cblk ≤ d.rowPitch) &&
  decide (d.lbBase + d.lbRows * d.rowPitch ≤ 8192)
/-- Bands of a frame in fused-tile mode (04 R212). -/
def WinDesc.frameBands (d : WinDesc) (bandLines : Nat) : Nat := max 1 (d.frameH / max 1 bandLines)
/-- Row of the ring's sequence at which the map that the band with index `i` reads begins: frame f is read during the bands of
frame f + 1, and a map has two frame buffers (04 R212, R215, notes/assumptions/20.md). -/
def WinDesc.mapBase (d : WinDesc) (bandLines i : Nat) : Nat :=
  if d.fused then (i / d.frameBands bandLines + 1) % 2 * d.frameH else 0

/-- The record of input row `iy`, column `ix`, block `cb`, of the map that begins at row `base` (04 R193, R200, R209, R213). -/
def WinDesc.record (d : WinDesc) (m : List Host.Cell) (base : Nat) (iy ix : Int) (cb : Nat) : List Byte :=
  let pad := List.replicate d.recBytes d.padv
  let rowOut := iy < 0 || (d.fused && decide ((d.frameH : Int) ≤ iy))
  let y := if d.fused then max 0 (min ((d.frameH : Int) - 1) iy) else max 0 iy
  let colOut := ix < 0 || decide ((d.imgW : Int) ≤ ix)
  let x := max 0 (min ((d.imgW : Int) - 1) ix)
  if (rowOut || colOut) && !d.repl then pad
  else
    let c := x - d.x0
    if c < 0 || decide ((d.inW : Int) ≤ c) then pad
    else
      let unit := d.lbBase + (base + y.toNat) % d.lbRows * d.rowPitch + c.toNat / d.perUnit * d.cblk + cb
      readBytes m (unit % 8192 * 64 + d.recBytes * (c.toNat % d.perUnit)) d.recBytes

/-- Input columns that a row's windows read, from left to right (04 R197, R216). -/
def WinDesc.dwCols (d : WinDesc) : List Int :=
  let lo : Int := (d.outX0 * d.sw : Nat) - (d.padL : Int)
  (List.range ((d.outW - 1) * d.sw + (d.kw - 1) * d.dw + 1)).filterMap (fun o =>
    if (List.range d.kw).any (fun k => decide (k * d.dw ≤ o) && (o - k * d.dw) % d.sw == 0 && decide ((o - k * d.dw) / d.sw < d.outW))
    then some (lo + o) else none)
/-- Patches of a frame in raster order (04 R214), with the output size of R189. -/
def outSize (img padA padB e s : Nat) : Nat := if img + padA + padB < e then 1 else (img + padA + padB - e) / s + 1
def WinDesc.patchCols (d : WinDesc) : Nat :=
  let w := outSize d.imgW d.padL d.padR ((d.kw - 1) * d.dw + 1) d.sw
  (w + d.outW - 1) / d.outW
def WinDesc.patches (d : WinDesc) : Nat :=
  let h := outSize d.frameH d.padT d.padB ((d.kh - 1) * d.dh + 1) d.sh
  max 1 (d.patchCols * ((h + d.outRows - 1) / d.outRows))
/-- First patch of the band with index `i` (04 R212): an equal share of the frame's patches in each band. -/
def WinDesc.firstPatch (d : WinDesc) (bandLines i : Nat) : Nat :=
  let b := d.frameBands bandLines
  i % b * d.patches / b

/-- Tokens of one output row, or of one row and channel group with DWP. -/
def WinDesc.rowTokens (d : WinDesc) : Nat :=
  if d.dwp then d.dwCols.length else d.outW / d.chunk * d.kh * d.kw * d.cblk * (d.chunk / d.perUnit)
/-- Output row of row number `r` of the sequence, and the column offset of its patch (04 R199, R214). -/
def WinDesc.place (d : WinDesc) (bandIdx patch0 r : Nat) : Int × Nat :=
  if d.fused then
    let p := (patch0 + r / d.outRows) % d.patches
    (((p / d.patchCols * d.outRows + r % d.outRows : Nat) : Int), p % d.patchCols * d.outW)
  else ((bandIdx * d.outRows + r : Nat) - (d.lag : Int), 0)

/-- With DWP, the row number of run `q` of columns: the groups of a band or patch follow each other over its rows, then the
next patch (04 R214, R216). -/
def WinDesc.dwRow (d : WinDesc) (q : Nat) : Nat := q / (d.outRows * d.cblk) * d.outRows + q % d.outRows
/-- Token number `p` of the band with index `i` (04 R194, R216). -/
def WinDesc.token (d : WinDesc) (m : List Host.Cell) (base i patch0 p : Nat) : Line :=
  if d.dwp then
    let per := max 1 d.rowTokens
    let q := p / per
    let cb := q / d.outRows % d.cblk
    let at_ := d.place i patch0 (d.dwRow q)
    let ix := d.dwCols.getD (p % per) 0 + ((at_.2 * d.sw : Nat) : Int)
    let row : Nat → List Byte := fun k => d.record m base (at_.1 * (d.sh : Int) - (d.padT : Int) + ((d.krowFirst + k) * d.dh : Nat)) ix cb
    lineOf (row 0 ++ (if d.krows = 1 then List.replicate 32 d.padv else row 1))
  else
    let t := d.chunk / d.perUnit
    let a := p / max 1 t
    let cb := a % d.cblk
    let kx := a / d.cblk % d.kw
    let ky := a / d.cblk / d.kw % d.kh
    let ch := a / d.cblk / d.kw / d.kh
    let chunks := max 1 (d.outW / d.chunk)
    let at_ := d.place i patch0 (ch / chunks)
    let x := d.outX0 + at_.2 + ch % chunks * d.chunk + p % max 1 t * d.perUnit
    let iy := at_.1 * (d.sh : Int) - (d.padT : Int) + (ky * d.dh : Nat)
    lineOf ((List.range d.perUnit).flatMap (fun j =>
      d.record m base iy (((x + j) * d.sw : Nat) - (d.padL : Int) + (kx * d.dw : Nat)) cb))

/-- The words of the line buffer that token `p` reads, for the poison check (08 R374). -/
def WinDesc.units (d : WinDesc) (base i patch0 p : Nat) : List Nat :=
  let unitOf : Int → Int → Nat → List Nat := fun iy ix cb =>
    let y := if d.fused then max 0 (min ((d.frameH : Int) - 1) iy) else max 0 iy
    let x := max 0 (min ((d.imgW : Int) - 1) ix)
    let out := iy < 0 || (d.fused && decide ((d.frameH : Int) ≤ iy)) || ix < 0 || decide ((d.imgW : Int) ≤ ix)
    let c := x - d.x0
    if (out && !d.repl) || c < 0 || decide ((d.inW : Int) ≤ c) then []
    else
      let u := (d.lbBase + (base + y.toNat) % d.lbRows * d.rowPitch + c.toNat / d.perUnit * d.cblk + cb) % 8192
      (List.range (d.recBytes / 8)).map (fun k => u * 8 + d.recBytes / 8 * (c.toNat % d.perUnit) + k)
  if d.dwp then
    let per := max 1 d.rowTokens
    let q := p / per
    let at_ := d.place i patch0 (d.dwRow q)
    let ix := d.dwCols.getD (p % per) 0 + ((at_.2 * d.sw : Nat) : Int)
    (List.range (if d.krows = 1 then 1 else 2)).flatMap (fun k =>
      unitOf (at_.1 * (d.sh : Int) - (d.padT : Int) + ((d.krowFirst + k) * d.dh : Nat)) ix (q / d.outRows % d.cblk))
  else
    let t := d.chunk / d.perUnit
    let a := p / max 1 t
    let ch := a / d.cblk / d.kw / d.kh
    let chunks := max 1 (d.outW / d.chunk)
    let at_ := d.place i patch0 (ch / chunks)
    let x := d.outX0 + at_.2 + ch % chunks * d.chunk + p % max 1 t * d.perUnit
    let iy := at_.1 * (d.sh : Int) - (d.padT : Int) + (a / d.cblk / d.kw % d.kh * d.dh : Nat)
    (List.range d.perUnit).flatMap (fun j =>
      unitOf iy (((x + j) * d.sw : Nat) - (d.padL : Int) + (a / d.cblk % d.kw * d.dw : Nat)) (a % d.cblk))

/-! ## Delay-line descriptors (04 Table 4.3) -/

def DlDesc.rate (d : DlDesc) : Nat := bits d.w0.toNat 62 2
def DlDesc.sgn (d : DlDesc) : Bool := bits d.w0.toNat 61 1 == 1
def DlDesc.padv (d : DlDesc) : Byte := BitVec.ofNat 8 (bits d.w0.toNat 48 8)
def DlDesc.base (d : DlDesc) : Nat := 64 * bits d.w0.toNat 0 30
def DlDesc.bandU (d : DlDesc) : Nat := bits d.w1.toNat 32 32
def DlDesc.ring (d : DlDesc) : Nat := bits d.w1.toNat 16 16
def DlDesc.delay (d : DlDesc) : Nat := bits d.w1.toNat 0 16
/-- R233. A cistern holds up to eight descriptors (R228): a place whose words are all 0 holds none. -/
def DlDesc.valid (d : DlDesc) : Bool :=
  (d.w0 == 0 && d.w1 == 0) ||
  (decide (2 ≤ d.ring) && decide (1 ≤ d.delay) && decide (d.delay < d.ring) && d.bandU != 0 &&
   bits d.w0.toNat 56 5 == 0 && bits d.w0.toNat 30 18 == 0)
def DlDesc.used (d : DlDesc) : Bool := !(d.w0 == 0 && d.w1 == 0)
/-- The device address of transfer `off` of ring slot `slot` (04 R229). -/
def DlDesc.addr (d : DlDesc) (slot off : Nat) : Nat := d.base + 64 * (slot * d.bandU + off)
def DlDesc.writeSlot (d : DlDesc) (i : Nat) : Nat := i % max 1 d.ring
def DlDesc.readSlot (d : DlDesc) (i : Nat) : Nat := (i + d.ring - d.delay) % max 1 d.ring

/-! ## Cellar units (04 R224–R226) -/

/-- Transfers of a unit (04 Table 4.2). -/
def unitTransfers (rate : Nat) : Nat := match rate with
  | 0 => 16
  | 1 => 9
  | 2 => 11
  | _ => 13
def rateBits (rate : Nat) : Nat := rate + 3
/-- Least s with r >> s below 2^b (04 R225). -/
def cellarShift (b r : Nat) : Nat := ((List.range 9).find? (fun s => decide (r / 2 ^ s < 2 ^ b))).getD 8
/-- Pack values of `b` bits, least significant bit first. -/
def packBits (b : Nat) (qs : List Nat) : Nat := qs.foldr (fun q acc => q + 2 ^ b * acc) 0
/-- The record of a channel's 64 codes: header bytes m and s, then the packed elements (04 R225). -/
def cellarRecord (b : Nat) (sgn : Bool) (codes : List Byte) : List Byte :=
  let vs := codes.map (fun c => codeVal (!sgn) c.toNat)
  let m := vs.foldl min (vs.headD 0)
  let r := (vs.foldl max (vs.headD 0) - m).toNat
  let s := cellarShift b r
  let h := if s = 0 then 0 else 2 ^ (s - 1)
  let qs := vs.map (fun v => min (2 ^ b - 1) (((v - m).toNat + h) / 2 ^ s))
  codeOf m :: BitVec.ofNat 8 s :: leBytes (8 * b) (packBits b qs)
/-- The channel's codes back from its record (04 R226). -/
def cellarDecode (b : Nat) (sgn : Bool) (r : List Byte) : List Byte :=
  let m := codeVal (!sgn) (r.getD 0 0).toNat
  let s := (r.getD 1 0).toNat
  let v := leNat (r.drop 2)
  (List.range 64).map (fun k => codeOf (max (codeLo (!sgn)) (min (codeHi (!sgn)) (m + ((bits v (b * k) b * 2 ^ s : Nat) : Int)))))
/-- The stored bytes of a unit of 16 raw tokens: element p of channel c is byte 16 (p mod 4) + c of token p div 4. -/
def encodeUnit (rate : Nat) (sgn : Bool) (toks : List Line) : List Byte :=
  if rate = 0 then toks.flatMap lineBytes
  else
    let b := rateBits rate
    let recs := (List.range 16).flatMap (fun c =>
      cellarRecord b sgn ((List.range 64).map (fun p => lineByte (toks.getD (p / 4) 0) (16 * (p % 4) + c))))
    slice (recs ++ leBytes 4 (crc32c recs).toNat) 0 (64 * unitTransfers rate)
/-- The 16 raw tokens of a unit, or none when its CRC fails (04 R227). -/
def decodeUnit (rate : Nat) (sgn : Bool) (bs : List Byte) : Option (List Line) :=
  if rate = 0 then some ((List.range 16).map (fun k => lineOf (slice bs (64 * k) 64)))
  else
    let b := rateBits rate
    let n := 16 * (2 + 8 * b)
    if fieldAt bs n 4 ≠ (crc32c (slice bs 0 n)).toNat then none
    else
      let chans := (List.range 16).map (fun c => cellarDecode b sgn (slice bs (c * (2 + 8 * b)) (2 + 8 * b)))
      some ((List.range 16).map (fun t => lineOf ((List.range 4).flatMap (fun j =>
        (List.range 16).map (fun c => (chans.getD c []).getD (4 * t + j) 0)))))

end Sys2Proof.Machine
end

