-- ==== Sys2Proof/Machine/TileOps.lean ====
section
/-!
DEFINITION. Tiles (03): tokens, faults, queue entry, sends and credits, and the runner of counted instructions.
-/
namespace Sys2Proof.Machine

/-! ## Tokens (03 R143, Table 3.3) -/

def tagGen (t : Word) : BitVec 2 := t.extractLsb' 30 2
def tagKind (t : Word) : Nat := fld t 27 3
def tagFmt (t : Word) : Nat := fld t 24 3
def tagRoute (t : Word) : BitVec 10 := t.extractLsb' 14 10
def tagLast (t : Word) : Bool := bit t 13
def tagIdx (t : Word) : Nat := fld t 0 13
/-- A tag from its fields. -/
def mkTag (gen : BitVec 2) (kind fmt : Nat) (route : BitVec 10) (last : Bool) (idx : Nat) : Word :=
  BitVec.ofNat 32 (gen.toNat * 2 ^ 30 + kind % 8 * 2 ^ 27 + fmt % 8 * 2 ^ 24 + route.toNat * 2 ^ 14 + b2n last * 2 ^ 13 + idx % 8192)
/-- CRC over the four tag bytes and the 64 payload bytes (R143). -/
def tokenCrc (tag : Word) (p : Line) : BitVec 16 := crc16 (leBytes 4 tag.toNat ++ lineBytes p)
def mkToken (tag : Word) (p : Line) : Token := ⟨tag, p, tokenCrc tag p⟩
def tokenGood (t : Token) : Bool := t.crc == tokenCrc t.tag t.payload
/-- The 560 bits of a token with some of them flipped on a path: tag low, then payload, then CRC. -/
def tokenUpset (t : Token) (u : BitVec 560) : Token :=
  ⟨t.tag ^^^ u.extractLsb' 0 32, t.payload ^^^ u.extractLsb' 32 512, t.crc ^^^ u.extractLsb' 544 16⟩
/-- Payload of a marker: band number and IDLE (Table 3.4). -/
def markerLine (band : W48) (idle : Bool) : Line := BitVec.ofNat 512 (band.toNat + b2n idle * 2 ^ 48)
def markerBand (p : Line) : W48 := p.extractLsb' 0 48
def markerIdle (p : Line) : Bool := p.getLsbD 48

/-! ## Tiles and beds -/

/-- Number of a power domain: beds 0–11, Lodge cores 12–19, camera ports 20–35, Promenade ports 36–39. -/
def domNum : Domain → Nat
  | .bed d b => d.val * 6 + b.val
  | .core c => 12 + c.val
  | .cam n => 20 + n.val
  | .prm p => 36 + p.val
def tileBed (k : Nat) : Nat := k / 1536 * 6 + k % 1536 / 256
/-- The tile is on the part and its bed has power. -/
def State.tileOn (s : State) (k : Nat) : Bool := decide (k / 1536 < s.ident.dies) && s.domOn (tileBed k)
def Tile.queueWord (t : Tile) (q : Nat) : Word := match t.cfg with
  | some c => c.iq.getD q 0
  | none => 0
def Tile.depth (t : Tile) (q : Nat) : Nat := fld (t.queueWord q) 0 6
def Tile.bound (t : Tile) (q : Nat) : Nat := fld (t.queueWord q) 8 6
def Tile.held (t : Tile) (q : Nat) : Bool := bit (t.queueWord q) 16
def Tile.queue (t : Tile) (q : Nat) : List Flight := Tab.at_ [] t.io.q q
def Tile.setQueue (t : Tile) (q : Nat) (l : List Flight) : Tile := { t with io := { t.io with q := Tab.set_ [] t.io.q q l } }
def Tile.num (t : Tile) : DWord := match t.cfg with
  | some c => c.num
  | none => 0
/-- Tokens of the active generation at the head of a queue (R146: a token that waits holds back those behind it). -/
def Tile.usable (t : Tile) (q : Nat) : Nat := ((t.queue q).takeWhile (fun f => tagGen f.tok.tag == t.gen)).length

/-! ## Faults (R176–R178) -/

/-- Word 1 of the details of a poison record for row `row` of a tile (08 R376). -/
def State.poisonDetail (s : State) (k row : Nat) : Nat :=
  let kind := (match tileKind k with
    | 2 => 1
    | 1 => 2
    | _ => 3)
  let o := s.regionOf kind (tileLocWord k) row
  o.1 + o.2 * 2 ^ 16 + kind * 2 ^ 20 + 2 ^ 24

/-- Place of a fault in the order of R177; HOLD_TIMEOUT (01 R55) is in no order and is raised at once. -/
def faultRank (code : Nat) : Nat := match code with
  | 0x0206 => 0
  | 0x0202 => 1
  | 0x0201 => 2
  | 0x0203 => 3
  | 0x0204 => 4
  | 0x0302 => 5
  | 0x0205 => 6
  | _ => 7
/-- A fault as it stands now at tile `t`. -/
def Tile.condNow (t : Tile) (code d0 d1 d2 : Nat) : FaultCond := ⟨⟨BitVec.ofNat 16 code, t.pc, t.gen, t.band⟩, d0, d1, d2⟩
/-- A tile meets a fault condition: the first of R177's order is kept until the ck ends, the sequencer stops at once. A tile
that has raised a fault meets no further one (R178). -/
def State.tileCond (s : State) (k code d0 d1 d2 : Nat) : State :=
  let t := s.tile k
  let worse := (match t.cond with
    | some c => decide (faultRank code < faultRank c.at_.code.toNat)
    | none => true)
  if t.fault.isSome || !worse then s else s.setTile k { t with cond := some (t.condNow code d0 d1 d2) }
/-- The error record of a tile's fault (R176; 08 R376). -/
def State.faultInfo (s : State) (k : Nat) (c : FaultCond) : ErrInfo :=
  let t := s.tile k
  let code := c.at_.code.toNat
  { err code with loc := tileLocWord k, kind := tileKind k, gen := c.at_.gen.toNat,
                  pavilion := (match t.cfg with
                    | some x => x.pavilion.toNat
                    | none => 0xFFFF), pc := c.at_.pc.toNat, band := c.at_.band.toNat, d0 := c.d0,
                  d1 := if code = 0x0302 then s.poisonDetail k c.d0 else c.d1, d2 := c.d2 }
/-- A tile raises a fault: one record, TIL_FAULT, TER_FAULT_FIRST and the count, its sequencer stops, containment follows.
A tile that has raised one raises no further. -/
def State.raiseTile (s : State) (k : Nat) (c : FaultCond) : State :=
  let t := s.tile k
  if t.fault.isSome then s
  else
    let info := s.faultInfo k c
    let s1 := s.setTile k { t with fault := some c.at_, cond := none, phase := .faulted, busy := 0, going := false, wait := .none_ }
    let a := aTer (k / 1536) + 8
    let s2 := if bit (s1.reg a) 31 then s1
      else (s1.setRegN a (k % 1536 / 32 * 256 + k % 32)).setBits a 0x80000000
    (s2.count (aTer (k / 1536) + 12) 1).faultContain info
/-- A tile's fault that waits for no order. -/
def State.tileFault (s : State) (k code d0 d1 d2 : Nat) : State := s.raiseTile k ((s.tile k).condNow code d0 d1 d2)
/-- The conditions met in the ck that ends are raised, in increasing order of die, column and row (R177). -/
def State.emitFaults (s : State) : State :=
  s.tiles.foldl (fun t e => match e.2.cond with
    | some c => t.raiseTile e.1 c
    | none => t) s

/-! ## Queue entry (R140–R146) -/

/-- The IDX a token must carry on its route, and the next one expected (R144). -/
def idxNext (kind idx : Nat) : Nat := if kind = 4 || kind = 6 || kind = 7 then 1 else (idx + 1) % 8192
def idxWanted (kind next : Nat) : Nat := if kind = 4 || kind = 6 || kind = 7 then 0 else next
def routeKey (gen : BitVec 2) (route : BitVec 10) : Nat := gen.toNat * 1024 + route.toNat

/-- A queue that now has the tokens its HREQ asked for withdraws the request (R168). -/
def Tile.withdraw (t : Tile) : Tile :=
  { t with holdReq := t.holdReq.filter (fun r => decide (t.usable r.1 < r.2)) }

/-- A token enters queue `q` of tile `k`: CRC, GEN, IDX, and an EOC's shadow (R172). Its occupancy is compared with the bound
at the end of the ck (R141). Tokens that come over no route are checked for no IDX. -/
def State.queueEntry (s : State) (k q : Nat) (f : Flight) (checkIdx : Bool) : State :=
  let t := s.tile k
  let tag := f.tok.tag
  let d := (tagGen tag - t.gen).toNat
  if tokenGood f.tok = false then s.tileCond k 0x0206 q 0 0
  else if 2 ≤ d then s.tileCond k 0x0202 q tag.toNat 0
  else
    let key := routeKey (tagGen tag) (tagRoute tag)
    let next := Tab.at_ 0 t.io.recvIdx key
    let gap := checkIdx && tagIdx tag != idxWanted (tagKind tag) next
    let t1 := t.setQueue q (t.queue q ++ [{ f with at_ := s.now }])
    let io := { t1.io with recvIdx := if checkIdx then Tab.set_ 0 t1.io.recvIdx key (idxNext (tagKind tag) (tagIdx tag))
                                      else t1.io.recvIdx }
    let s1 := (s.setTile k ({ t1 with io := io } : Tile).withdraw).holdUpdate
    let early := tagKind tag = 7 && d = 0 && t.cfg.isSome && !t.shadowReady
    if gap || t.phase = .halted || early then s1.tileCond k 0x0201 q tag.toNat next else s1

/-! ## The end of a ck at a queue (R140, R141, R181; 04 R231) -/

/-- Queue `q` took a token in ck `now`; nothing pops it in that ck (R142). -/
def Tile.entered (t : Tile) (q now : Nat) : Bool := match (t.queue q).getLast? with
  | some f => f.at_ == now
  | none => false
/-- The high-water marks take in the occupancies at the end of the ck (R141, R181). -/
def Tile.markHigh (t : Tile) : Tile :=
  { t with io := { t.io with hwm := (List.range 8).foldl (fun m q =>
      Tab.set_ 0 m q (max (t.queue q).length (Tab.at_ 0 m q))) t.io.hwm } }
/-- A queue that took a token in this ck and stands above its bound at the end of it raises QUEUE_BOUND (R140, R141). -/
def State.queueBounds (s : State) (k : Nat) : State :=
  let t := s.tile k
  ((List.range 8).foldl (fun u q =>
    if t.entered q s.now && decide (t.bound q < (t.queue q).length) then u.tileCond k 0x0203 q (t.queue q).length (t.bound q)
    else u) s).onTile k Tile.markHigh
/-- The next token of an HBM response enters its queue: one a ck (04 R231). -/
def State.feedCk (s : State) (k : Nat) : State :=
  match (s.tile k).win.feed with
  | [] => s
  | x :: rest =>
    (s.onTile k (fun t => { t with win := { t.win with feed := rest } })).queueEntry k x.1 ⟨x.2, s.now, 0, none, none⟩ false

/-! ## Running instructions -/

/-- A tile at work: its new state, the credits it returns (ck due, holder, key), the device memory and the
rows of its own memory it writes, the tokens it gives to the die link. -/
structure TileRun where
  t : Tile
  side : List (Nat × Nat × Nat)
  writes : List (Nat × List Byte)
  rows : List Nat
  link : List Flight
  deriving DecidableEq, Repr
/-- A tile at the start of a step. -/
def TileRun.of (t : Tile) : TileRun := ⟨t, [], [], [], []⟩

/-- What one step of an instruction met: it is done, or only a part of it that waits for more; tokens that queues lack, and
whether it lacks a credit; or a fault. -/
inductive StepRes where
  | ok (r : TileRun)
  | part (r : TileRun)
  | lack (qs : List Nat) (credit : Bool)
  | fault (code d0 d1 d2 : Nat)
  deriving DecidableEq, Repr

/-- What a step may look at beside its tile. -/
structure TEnv where
  key : Nat
  now : Nat
  fresh : Nat
  digest : BitVec 256
  bandLines : Nat
  deriving DecidableEq, Repr

/-- The head of a queue when it may be popped at ck `at_`: of the active generation and entered before (R142, R146). -/
def Tile.head (t : Tile) (q at_ : Nat) : Option Flight :=
  match t.queue q with
  | f :: _ => if tagGen f.tok.tag = t.gen && decide (f.at_ < at_) then some f else none
  | [] => none
/-- Pop the head; its credit goes back over the sideband, which takes T ck (R136). -/
def TileRun.pop (r : TileRun) (q at_ : Nat) : TileRun :=
  match r.t.queue q with
  | f :: fs =>
    { r with t := r.t.setQueue q fs,
             side := r.side ++ (match f.org with
               | some (k, rt) => [(at_ + f.travel, k, routeKey (tagGen f.tok.tag) rt)]
               | none => []) }
  | [] => r

/-- Free credits of the tile on a route of its generation (R136). -/
def Tile.creditsFree (t : Tile) (gen : BitVec 2) (route : BitVec 10) : Nat :=
  match t.io.sw.find? (fun e => e.gen == gen && e.route == route) with
  | some e => e.credits - Tab.at_ 0 t.io.credits (routeKey gen route)
  | none => 0
/-- Send a token on a route: one credit, GEN active, IDX in sequence, a new CRC (R136, R144, R157). -/
def TileRun.send (r : TileRun) (e : TEnv) (route : BitVec 10) (kind fmt : Nat) (last : Bool) (p : Line) (at_ : Nat) :
    Option TileRun :=
  let t := r.t
  if t.creditsFree t.gen route = 0 then none
  else
    let next := Tab.at_ 0 t.io.sendIdx route.toNat
    let idx := idxWanted kind next
    let tok := mkToken (mkTag t.gen kind fmt route last idx) p
    let key := routeKey t.gen route
    let org := if (t.io.sw.any (fun x => x.gen == t.gen && x.route == route)) then some (e.key, route) else none
    let io := { t.io with sendIdx := Tab.set_ 0 t.io.sendIdx route.toNat (idxNext kind idx),
                          credits := Tab.set_ 0 t.io.credits key (Tab.at_ 0 t.io.credits key + 1),
                          stones := Tab.set_ [] t.io.stones 4 (Tab.at_ [] t.io.stones 4 ++ [⟨tok, at_, 2, none, org⟩]) }
    some { r with t := { t with io := io } }

/-! ## Issue -/

/-- Sequencers run: no freeze and no containment (R170, 14 R647). -/
def State.seqRuns (s : State) : Bool := !s.hold.frozen && !s.contain.active
/-- The tile can issue an instruction in this ck. -/
def State.canIssue (s : State) (k : Nat) : Bool :=
  let t := s.tile k
  s.seqRuns && s.tileOn k && t.cfg.isSome && (t.phase == .running || t.phase == .drained) && t.busy == 0 && !t.going && t.cond.isNone
/-- The word at the PC; past the end of the program the store holds 0. -/
def Tile.fetch (t : Tile) : Word := match t.cfg with
  | some c => c.prog.getD t.pc.toNat 0
  | none => 0
/-- The PC moves on by one; past 255 it runs off the end (R152). -/
def Tile.advance (t : Tile) : Tile := { t with pc := t.pc + 1, pastEnd := t.pc == 255, steps := 0, going := false }
def Tile.jump (t : Tile) (a : BitVec 8) : Tile := { t with pc := a, pastEnd := false, steps := 0, going := false }
/-- The instruction at the PC has issued and goes on in a later ck, waiting for `w`. A drained tile only stands idle (R179). -/
def Tile.waits (t : Tile) (w : TileWait) : Tile := { t with going := true, wait := if t.phase = .drained then .none_ else w }
/-- The instruction occupies the sequencer for `n` ck. -/
def Tile.spend (t : Tile) (n : Nat) (fires : Bool) : Tile := { t with busy := n, busyFires := fires, wait := .none_ }
def State.tenv (s : State) (k : Nat) : TEnv :=
  { key := k, now := s.now, fresh := s.fresh,
    digest := (match s.load.active with
      | some i => i.hdr.digest
      | none => 0), bandLines := s.bandLines }

/-- A write of a row of a tile's memory cancels its write-back and a repair of it (08 R403, R404). -/
def State.cancelTileRow (s : State) (k row : Nat) : State :=
  let hits : MemWord → Bool := fun w => match w with
    | .tile t j => t.key == k && j.val / 8 == row
    | _ => false
  let rep := (match s.repairWord with
    | some w => hits w
    | none => false)
  { s with mem := { s.mem with writeBacks := s.mem.writeBacks.filter (fun b => !(hits b.word)),
                               repair := s.mem.repair && !rep } }

/-- The gate across the die crossing and the side it is entered from (R91, R131). -/
def acrossDie (p : Identity) (k : Nat) : Option (Nat × Nat) :=
  if p.dies < 2 then none
  else if k / 1536 = 0 && k % 32 = 31 then some (k + 1536 - 31, 0)
  else if k / 1536 = 1 && k % 32 = 0 then some (k - 1536 + 31, 2)
  else none
/-- A rim gate that faces a present hub (02 R91). -/
def facesHub (p : Identity) (k : Nat) : Bool := (k / 1536 == 0 && k % 32 == 0) || (k / 1536 == 1 && k % 32 == 31 && p.hubs == 2)
/-- The hub that a rim gate faces. -/
def gateHub (k : Nat) : Nat := k / 1536
/-- GATE_TO_KSK and the time of a token over the die crossing, ck (02 Table 2.13, R133). -/
def gateToKsk : Nat := 20
def linkCk : Nat := 14
/-- The gate has a die link to give tokens to: the gate across the crossing, or the Kiosk of the hub it faces (R130, R159). -/
def State.linkUpAt (s : State) (k : Nat) : Bool :=
  (acrossDie s.ident k).isSome || (facesHub s.ident k && s.ident.hasKiosk (gateHub k))
/-- A token on its way to the Kiosk of the hub that gate `k` faces (R130). -/
def State.toKiosk (s : State) (k : Nat) (f : Flight) : State :=
  let x := s.kiosk (gateHub k)
  s.setKiosk (gateHub k) { x with inbox := x.inbox ++ [(k, { f with at_ := s.now + gateToKsk })] }
/-- A token that gate `k` gives to its die link: to the gate across the crossing, whose queue 8 holds what came over the
link, or to the Kiosk (notes/assumptions/11.md). -/
def State.linkOut (s : State) (k : Nat) (f : Flight) : State :=
  match acrossDie s.ident k with
  | some (j, _) => s.onTile j (fun t => t.setQueue 8 (t.queue 8 ++ [{ f with at_ := s.now + linkCk, org := none }]))
  | none => if facesHub s.ident k then s.toKiosk k f else s

/-- Bring a run back: the tile, its credit returns, its writes of device memory, what it gave to the die link. -/
def State.bringBack (s : State) (k : Nat) (r : TileRun) : State :=
  let s1 := { s with sideband := s.sideband ++ r.side }.setTile k r.t
  let s2 := r.rows.foldl (fun t row => t.cancelTileRow k row) s1
  let s3 := r.writes.foldl (fun t w => t.hbmWrite w.1 w.2) s2
  r.link.foldl (fun t f => t.linkOut k f) s3

/-- An instruction lacks tokens of the queues `qs`, or a credit: HOLD_LEAD where one of the queues is held, a wait otherwise,
counted as one for credit before one for input (R154, R169, R179). -/
def State.lacking (s : State) (k m : Nat) (qs : List Nat) (credit : Bool) : State :=
  let t := s.tile k
  match qs.find? (fun q => t.held q) with
  | some q => s.tileCond k 0x0204 q (t.usable q) m
  | none => s.setTile k (t.waits (if credit then .credit else .input))
/-- The next step of an instruction of `m` steps, `cost` ck long; the last one moves the PC on (R149, R154). -/
def State.runCounted (s : State) (k m cost : Nat) (f : TEnv → Nat → TileRun → StepRes) : State :=
  let t := s.tile k
  match f (s.tenv k) t.steps (TileRun.of t) with
  | .ok r =>
    if t.steps + 1 < m then s.bringBack k { r with t := { r.t.spend cost true with steps := t.steps + 1, going := true } }
    else s.bringBack k { r with t := r.t.advance.spend cost true }
  | .part r => s.bringBack k { r with t := { r.t.spend 1 false with going := true, wait := .input } }
  | .lack qs credit => s.lacking k (m - t.steps) qs credit
  | .fault code d0 d1 d2 => s.tileCond k code d0 d1 d2

/-- A single-cycle instruction: one step of one ck. -/
def State.runOne (s : State) (k : Nat) (f : TEnv → TileRun → StepRes) : State := s.runCounted k 1 1 (fun e _ r => f e r)

/-- Tile kinds that an operation is allowed on (Table 3.5, Table 3.6). -/
def opAllowed (kind : Nat) : TOp → Bool
  | .ldsc _ _ => kind == 1
  | .acc _ _ => kind == 1
  | .drain _ _ _ => kind == 1
  | .rqh _ _ => kind == 1
  | .mrd _ _ _ _ => kind == 2
  | .mwr _ _ _ _ => kind == 2
  | .fire mode _ _ _ _ _ =>
    match kind with
    | 0 => mode.toNat ≤ 1
    | 1 => mode.toNat == 0
    | 2 => mode.toNat ≤ 3
    | _ => mode.toNat ≤ 10
  | _ => true
/-- WAITQ, HREQ, BEGIN, BEND and HALT are never guarded (R151). -/
def neverGuarded : TOp → Bool
  | .waitq _ _ => true
  | .hreq _ _ => true
  | .begin_ _ => true
  | .bend _ => true
  | .halt => true
  | _ => false
/-- Raw tokens per transfer unit of a delay line. -/
def Tile.dline (t : Tile) (d : Nat) : DlDesc := match t.cfg with
  | some c => c.dl.getD d ⟨0, 0⟩
  | none => ⟨0, 0⟩
/-- Field values outside their stated range (R152): WAITCK 0, a result buffer with n above 1, a queue number past 7, a
delay-line count that is no whole number of units (04 R229), HREQ on a queue that is not held. -/
def opInRange (kind : Nat) (t : Tile) : TOp → Bool
  | .waitck n => n != 0
  | .hreq q _ => t.held q.toNat
  | .fire mode q n1 ob _ _ =>
    (ob == 0 || n1 == 0) &&
    (kind != 3 || mode.toNat < 6 || q.toNat < 7) && (kind != 3 || mode.toNat != 10 || q.toNat < 6)
  | .mrd d _ _ n1 => (t.dline d.toNat).rate == 0 || (n1.toNat + 1) % 16 == 0
  | .mwr d _ _ n1 => (t.dline d.toNat).rate == 0 || (n1.toNat + 1) % 16 == 0
  | _ => true
/-- The instruction is legal on this tile (R151, R152). -/
def legal (kind : Nat) (t : Tile) (i : TInst) : Bool :=
  opAllowed kind i.op && opInRange kind t i.op && (i.ge == 0 || !neverGuarded i.op)

/-- The next reserved ck of the Groundskeeper is the last of each 64 (R129, notes/assumptions/9.md). -/
def reservedCk (ck : Nat) : Bool := ck % 64 == 63
/-- Ck that `n` transfers through a cistern port take from ck `at_` (R129). -/
def portTime : Nat → Nat → Nat → Nat
  | 0, _, _ => 0
  | f + 1, at_, n => if n = 0 then 0 else if reservedCk at_ then 1 + portTime f (at_ + 1) n else 1 + portTime f (at_ + 1) (n - 1)
def portCk (at_ n : Nat) : Nat := portTime (2 * n + 2) at_ n

/-- The stated length of an instruction, for one that is guarded out (R150). DESIGN CHOICE (notes/assumptions/109.md): a
guarded-out fountain FIRE of modes 0 to 8, whose length depends on the format of tokens that it does not read, takes 2n. -/
def statedLength (kind now : Nat) : TOp → Nat
  | .waitck n => n.toNat
  | .drop _ n1 => n1.toNat + 1
  | .fwd _ n1 _ => n1.toNat + 1
  | .ldsc _ n1 => n1.toNat + 1
  | .acc _ n1 => n1.toNat + 1
  | .drain _ n1 _ => n1.toNat + 1
  | .rqh _ n1 => (n1.toNat + 4) / 4
  | .mrd _ _ bg n1 => if bg = 1 then 1 else n1.toNat + 1
  | .mwr _ _ bg n1 => if bg = 1 then 1 else n1.toNat + 1
  | .fire mode _ n1 _ _ bg =>
    if kind = 2 then (if bg = 1 then 1 else portCk now (n1.toNat + 1))
    else if kind = 3 && mode.toNat < 9 then 2 * (n1.toNat + 1)
    else n1.toNat + 1
  | _ => 1

/-- Issue the instruction at the PC when `mine` says it is the one this command names. An illegal word raises ILLEGAL_OP; a
guarded-out instruction only takes its length (R150, R152). -/
def State.issue (s : State) (k : Nat) (mine : TOp → Bool) (run : TInst → State → State) : State :=
  if s.canIssue k = false then s
  else
    let t := s.tile k
    if t.pastEnd then s.tileCond k 0x0208 t.fetch.toNat 0 0
    else match decodeTile t.fetch with
    | none => s.tileCond k 0x0208 t.fetch.toNat 0 0
    | some i =>
      if legal (tileKind k) t i = false then s.tileCond k 0x0208 t.fetch.toNat 0 0
      else if mine i.op = false then s
      else if i.ge = 1 && t.seq.pred.getLsbD i.gi.toNat != (i.gp == 1) then
        s.setTile k (t.advance.spend (statedLength (tileKind k) s.now i.op) (match i.op with
          | .waitck _ => false
          | _ => true))
      else run i s

/-- Poisoned words of rows `[row, row + n)` of a tile's memory (08 R374). -/
def Tile.poisonIn (t : Tile) (row n : Nat) : Option Nat := t.poison.find? (fun w => decide (row ≤ w / 8) && decide (w / 8 < row + n))
/-- A poisoned word among those that `used` says an instruction uses (08 R374). -/
def Tile.poisonUsed (t : Tile) (used : Nat → Bool) : Option Nat := t.poison.find? used
/-- A foreground read of word `w` of a tile's memory finds `e` (08 R369–R371). -/
def State.tileRead (s : State) (t : TileLoc) (w : Nat) (e : Ecc) : State := s.eccFind (.tile t (Fin.ofNat 65536 w)) e

/-! ## A configuration becomes active (R148) -/

/-- The sequencer starts a configuration at PC 0: counters 1, registers, buffers and predicates 0, accumulators zero. -/
def Tile.start (t : Tile) (c : Option TileCfg) (gen : BitVec 2) : Tile :=
  { t with cfg := c, gen := gen, phase := if c.isSome then .running else .unconfigured, pc := 0, pastEnd := false, busy := 0,
           steps := 0, going := false, wait := .none_, fault := none, cond := none, holdReq := [], eob := none, eosPast := false,
           seq := SeqRegs.init, arb := ArbState.empty, win := { WinState.empty with fmt := t.win.fmt },
           io := { t.io with sendIdx := [], midItem := [], ports := [] } }
/-- The program ends bands (R173), so that they pass through the tile. -/
def Tile.bands (t : Tile) : Bool := match t.cfg with
  | some c => c.prog.any (fun w => match decodeTile w with
    | some i => (match i.op with
      | .bend _ => true
      | _ => false)
    | none => false)
  | none => false
/-- A tile with no program that takes part in a new configuration: its fault is over, its generation the new one, and no packet
is under way at it (R178; 07 R356, R360). -/
def Tile.routeOnly (t : Tile) (gen : BitVec 2) : Tile :=
  if t.cfg.isSome then t else { t with fault := none, cond := none, phase := .unconfigured, gen := gen, io := { t.io with midItem := [] } }
/-- Tokens two or three generations away are discarded (R146). -/
def Tile.dropStale (t : Tile) : Tile × Bool :=
  let stale : Flight → Bool := fun f => decide (2 ≤ (tagGen f.tok.tag - t.gen).toNat)
  let any := t.io.q.any (fun e => e.1 < 8 && e.2.any stale)
  ({ t with io := { t.io with q := Tab.mapV [] (fun _ l => l.filter (fun f => !(stale f))) t.io.q } }, any)

end Sys2Proof.Machine
end

