-- ==== Sys2Proof/Machine/Terrace.lean ====
section
/-!
DEFINITION. Terrace transport (03 R131–R147, R356): hops over paths, queue entry, credit returns, and the terrace's
snapshot registers.
-/
namespace Sys2Proof.Machine

/-! ## Switch -/

def srcIx : Src → Nat
  | .north => 0
  | .east => 1
  | .south => 2
  | .west => 3
  | .own => 4

def Tile.stone (t : Tile) (i : Nat) : List Flight := Tab.at_ [] t.io.stones i
def Tile.setStone (t : Tile) (i : Nat) (l : List Flight) : Tile := { t with io := { t.io with stones := Tab.set_ [] t.io.stones i l } }
/-- The token that waits at the front of a stone, once it has arrived. -/
def Tile.ready (t : Tile) (i now : Nat) : Option Flight :=
  match t.stone i with
  | f :: _ => if f.at_ ≤ now then some f else none
  | [] => none
def Tile.entryOf (t : Tile) (f : Flight) : Option SwEntry :=
  t.io.sw.find? (fun e => e.gen == tagGen f.tok.tag && e.route == tagRoute f.tok.tag)
/-- The output a switch entry claims: a direction, the die link, or one input queue (R134, R135). -/
def outputOf (e : SwEntry) : Nat := if e.action = 4 then 8 + e.queue.toNat else e.action
/-- A source that goes before this one has a token for the same output, or the output is taken in this ck (R134). -/
def Tile.loses (t : Tile) (i now out : Nat) : Bool :=
  Tab.at_ 0 t.io.outAt out == now + 1 ||
  (List.range i).any (fun j => match t.ready j now with
    | some g => (match t.entryOf g with
      | some e => outputOf e == out
      | none => false)
    | none => false)
/-- A token waits one ck in its stone: counted once a ck, up to all ones (R134, 00 R696). The wait delays the token itself,
and the T of its route, which is free of conflicts (R133), does not grow. -/
def Tile.conflict (t : Tile) (i now : Nat) : Tile :=
  match t.stone i with
  | f :: fs =>
    if f.blocked = some now then t
    else { t.setStone i ({ f with blocked := some now } :: fs) with
           ctrCk := { t.ctrCk with conflict := t.ctrCk.conflict + 1 } }
  | [] => t
/-- The token leaves its stone by `out`. -/
def Tile.depart (t : Tile) (i now out : Nat) : Tile :=
  let t1 := t.setStone i ((t.stone i).drop 1)
  { t1 with io := { t1.io with outAt := Tab.set_ 0 t1.io.outAt out (now + 1) } }

/-- The neighbour in a direction and the side it is entered from; none at the edge of the die. -/
def neighbour (k dir : Nat) : Option (Nat × Nat) :=
  let row := k % 32
  let col := k % 1536 / 32
  match dir with
  | 0 => if row = 0 then none else some (k - 1, 2)
  | 1 => if col = 47 then none else some (k + 32, 3)
  | 2 => if row = 31 then none else some (k + 1, 0)
  | _ => if col = 0 then none else some (k - 32, 1)
/-- A stone is full: two tokens are in it or arrive next (R135). -/
def Tile.stoneFull (t : Tile) (i now : Nat) : Bool := decide (2 ≤ ((t.stone i).filter (fun f => decide (f.at_ ≤ now + 1))).length)

/-- Token `f` arrives at side `i` of tile `k`, `d` ck from now; the stone checks its CRC (R133, R145, R185). -/
def State.arrive (s : State) (k i : Nat) (f : Flight) (d : Nat) : State :=
  if tokenGood f.tok then
    s.onTile k (fun t => t.setStone i (t.stone i ++ [{ f with at_ := s.now + d, blocked := none }]))
  else s.tileCond k 0x0206 i f.tok.tag.toNat 0

/-- Ck of a hop: two from the sending tile's own injection, one from a stone, twelve more over the die crossing (R133). -/
def hopCk (i : Nat) (cross : Bool) : Nat := (if i = 4 then 2 else 1) + (if cross then 12 else 0)

/-- Move the front token of source `i` over output `out` to tile `k'`, side `i'`; its route's T starts at 2 and grows with
every stone passed and with a die crossing (R133). -/
def State.moveToken (s : State) (k i out k' i' : Nat) (f : Flight) (tok : Token) (cross : Bool) : State :=
  if !s.tileOn k' || (s.tile k').stoneFull i' s.now then s
  else
    let s1 := s.onTile k (fun t => t.depart i s.now out)
    s1.arrive k' i' { f with tok := tok, travel := f.travel + (if i = 4 then 0 else 1) + (if cross then 12 else 0) } (hopCk i cross)

/-- Return the credit of a token that left its route now (R136). -/
def State.creditBack (s : State) (f : Flight) : State :=
  match f.org with
  | some (k, rt) => { s with sideband := s.sideband ++ [(s.now + f.travel, k, routeKey (tagGen f.tok.tag) rt)] }
  | none => s

/-- A rim gate turns a HANDLE token into an item of queue `e.next`; another kind is discarded (R356, R357). A gate whose
earlier item is still held waits. -/
def State.gateItem (s : State) (k i : Nat) (f : Flight) (e : SwEntry) : State :=
  let q := e.next.toNat
  if (s.pq q).held.any (fun o => o.writer == 4 && o.src == k) then s
  else
    let s1 := (s.onTile k (fun t => t.depart i s.now 6)).creditBack f
    if tagKind f.tok.tag ≠ 3 then s1.tileCond k 0x0201 q f.tok.tag.toNat 0
    else
      let last := tagLast f.tok.tag
      let mid := Tab.at_ false (s1.tile k).io.midItem e.route.toNat
      let s2 := s1.onTile k (fun t => { t with io := { t.io with midItem := Tab.set_ false t.io.midItem e.route.toNat (!last) } })
      if q < 512 then (s2.offer q ⟨f.tok.payload, e.prio, !mid, last, 4, k⟩).1 else s2

/-- The action of a switch entry leads from a rim gate to its hub. -/
def towardsHub (p : Identity) (k action : Nat) : Bool :=
  facesHub p k && ((k % 32 == 0 && action == 0) || (k % 32 == 31 && action == 2))
/-- A token that the switch has no entry for: a gate with a program takes a token from its hub over the die link into queue 8
(R159, notes/assumptions/11.md); any other is discarded with TOKEN_UNEXPECTED (10 R458). -/
def State.noEntry (s : State) (k i : Nat) (f : Flight) : State :=
  let s1 := s.onTile k (fun t => t.setStone i ((t.stone i).drop 1))
  if facesHub s.ident k && i = 4 && f.org.isNone && (s.tile k).cfg.isSome then
    s1.onTile k (fun t => t.setQueue 8 (t.queue 8 ++ [{ f with at_ := s.now }]))
  else s1.tileCond k 0x0201 i f.tok.tag.toNat 0
/-- TOKEN_HOP (R131–R135, R145, R458, R356): the front token of a source goes through the switch of its tile. -/
def State.hop (s : State) (k i : Nat) (u : BitVec 560) : State :=
  if s.tileOn k = false then s
  else
    let t := s.tile k
    match t.ready i s.now with
    | none => s
    | some f =>
      match t.entryOf f with
      | none => s.noEntry k i f
      | some e =>
        let out := outputOf e
        if e.action = 4 then s
        else if t.loses i s.now out then s.onTile k (fun t => t.conflict i s.now)
        else if e.action < 4 then
          match neighbour k e.action with
          | some (k', i') => s.moveToken k i out k' i' f (tokenUpset f.tok u) false
          | none =>
            if towardsHub s.ident k e.action && s.ident.hasKiosk (gateHub k) then
              ((s.onTile k (fun t => t.depart i s.now out)).creditBack f).toKiosk k { f with org := none }
            else s
        else if e.action = 5 then
          match acrossDie s.ident k with
          | some (k', i') =>
            let tag := mkTag (tagGen f.tok.tag) (tagKind f.tok.tag) (tagFmt f.tok.tag) (e.next.setWidth 10)
              (tagLast f.tok.tag) (tagIdx f.tok.tag)
            if tokenGood f.tok then s.moveToken k i out k' i' f (tokenUpset (mkToken tag f.tok.payload) u) true
            else (s.onTile k (fun t => t.setStone i ((t.stone i).drop 1))).tileCond k 0x0206 i f.tok.tag.toNat 0
          | none => s
        else if facesHub s.ident k then s.gateItem k i f e
        else s

def execTokenHop (t : TileLoc) (from_ : Src) (upset : BitVec 560) (s : State) : Host.Outcome State Fault Refusal :=
  .next (s.hop t.key (srcIx from_) upset)

/-- TOKEN_ENQUEUE (R135, R140–R146): the front token of a source enters its queue; a queue takes one token a ck. -/
def State.enqueue (s : State) (k i : Nat) : State :=
  if s.tileOn k = false then s
  else
    let t := s.tile k
    match t.ready i s.now with
    | none => s
    | some f =>
      match t.entryOf f with
      | none => s
      | some e =>
        if e.action ≠ 4 then s
        else if t.loses i s.now (outputOf e) then s.onTile k (fun t => t.conflict i s.now)
        else (s.onTile k (fun t => t.depart i s.now (outputOf e))).queueEntry k e.queue.toNat f true

def execTokenEnqueue (t : TileLoc) (from_ : Src) (s : State) : Host.Outcome State Fault Refusal :=
  .next (s.enqueue t.key (srcIx from_))

/-! ## Credit return (R136) -/

/-- Take the first returned credit of holder `k`, key `r`, that is due. -/
def takeCredit (now k r : Nat) : List (Nat × Nat × Nat) → Option (List (Nat × Nat × Nat))
  | [] => none
  | x :: xs =>
    if x.1 ≤ now && x.2.1 == k && x.2.2 % 1024 == r then some xs
    else (takeCredit now k r xs).map (fun l => x :: l)
/-- The key of the credit that `takeCredit` takes. -/
def dueCredit (now k r : Nat) (l : List (Nat × Nat × Nat)) : Option Nat :=
  (l.find? (fun x => decide (x.1 ≤ now) && x.2.1 == k && x.2.2 % 1024 == r)).map (fun x => x.2.2)

/-- Queue `q` under SINK 1 holds credits as holder 4096 + q (07 R358). -/
def sinkHolder (q : Nat) : Nat := 4096 + q

/-- The gate of a SINK 1 queue: hub 0's rim is row 0, hub 1's is row 31 (07 R358). -/
def State.sinkGate (s : State) (q : Nat) : Nat :=
  let w := s.reg (aPq q + 0x14)
  fld w 25 1 * 1536 + fld w 16 8 % 48 * 32 + (if q / 256 % 2 = 0 then 0 else 31)

def State.giveCredit (s : State) (k key : Nat) : State :=
  if 4096 ≤ k then s.onPq (k - 4096) (fun p => { p with sinkUsed := p.sinkUsed - 1 })
  else s.onTile k (fun t => { t with io := { t.io with credits := Tab.set_ 0 t.io.credits key (Tab.at_ 0 t.io.credits key - 1) } })
/-- CREDIT_RETURN: a credit reaches its producer over the sideband: the tile itself, or the SINK 1 queue whose gate it is. -/
def execCreditReturn (t : TileLoc) (route : BitVec 10) (s : State) : Host.Outcome State Fault Refusal :=
  let holders := t.key :: ((List.range 512).filter (fun q => s.pqSinkKind q == 1 && s.sinkGate q == t.key)).map sinkHolder
  .next (match holders.find? (fun k => (dueCredit s.now k route.toNat s.sideband).isSome) with
    | none => s
    | some k =>
      match dueCredit s.now k route.toNat s.sideband, takeCredit s.now k route.toNat s.sideband with
      | some key, some rest => ({ s with sideband := rest } : State).giveCredit k key
      | _, _ => s)

/-! ## Snapshots (R182) -/

/-- The live counters of a tile copied to its readable registers. -/
def Tile.snapCtrs (t : Tile) : Tile := { t with snap := t.ctr, io := { t.io with hwmSnap := t.io.hwm } }
/-- The live counters and high-water marks of a tile zeroed; what the present ck counts is not in them yet. -/
def Tile.clearCtrs (t : Tile) : Tile := { t with ctr := TileCtr.zero, io := { t.io with hwm := [] } }
def State.onDie (s : State) (d : Nat) (f : Tile → Tile) : State :=
  { s with tiles := Tab.mapV Tile.blank (fun k t => if k / 1536 = d then f t else t) s.tiles }
/-- A snapshot takes in the ck in which it is written, once that ck has ended (R182). -/
def State.terSnap (s : State) (d : Nat) : State :=
  let c := s.die d
  if d < s.ident.dies then (s.onDie d Tile.snapCtrs).setDie d { c with elapsedSnap := c.elapsed, heldSnap := c.held, snapCk := true } else s
/-- A clear counts the events of its ck after it; a snapshot written before it in that ck has no more to take in (R182). -/
def State.terClear (s : State) (d : Nat) : State :=
  let c := s.die d
  if d < s.ident.dies then (s.onDie d Tile.clearCtrs).setDie d { c with elapsed := 0, held := 0, snapCk := false } else s
def execTerCtrlSnap (d : Die) (s : State) : Host.Outcome State Fault Refusal := .next (s.terSnap d.val)
def execTerCtrlClear (d : Die) (s : State) : Host.Outcome State Fault Refusal := .next (s.terClear d.val)

end Sys2Proof.Machine
end

