-- ==== Sys2Proof/Machine/Sequencer.lean ====
section
/-!
DEFINITION. Sequencer instructions that every tile kind has (03 "Counters and control", "Queues and tokens", "Predication and
select", "Hold, bands and configuration").
-/
namespace Sys2Proof.Machine

/-! ## Registers of the sequencer -/

def Tile.cnt (t : Tile) (c : Nat) : Counter := Tab.at_ Counter.init t.seq.cnt c
def Tile.setCnt (t : Tile) (c : Nat) (v : Counter) : Tile := { t with seq := { t.seq with cnt := Tab.set_ Counter.init t.seq.cnt c v } }
def Tile.ar (t : Tile) (a : Nat) : BitVec 16 := Tab.at_ 0 t.seq.ar a
def Tile.setAr (t : Tile) (a : Nat) (v : BitVec 16) : Tile := { t with seq := { t.seq with ar := Tab.set_ 0 t.seq.ar a v } }
def Tile.buf (t : Tile) (b : Nat) : Token := Tab.at_ Token.zero t.seq.buf b
def Tile.setBuf (t : Tile) (b : Nat) (v : Token) : Tile := { t with seq := { t.seq with buf := Tab.set_ Token.zero t.seq.buf b v } }
def Tile.predOf (t : Tile) (p : Nat) : Bool := t.seq.pred.getLsbD p
def setPredBit (w : BitVec 4) (p : Nat) (v : Bool) : BitVec 4 :=
  if v then w ||| (1#4 <<< p) else w &&& ~~~(1#4 <<< p)
def Tile.setPred (t : Tile) (p : Nat) (v : Bool) : Tile := { t with seq := { t.seq with pred := setPredBit t.seq.pred p v } }
def TileRun.upd (r : TileRun) (f : Tile → Tile) : TileRun := { r with t := f r.t }
/-- A change of sequencer registers in one ck. -/
def State.change (s : State) (k : Nat) (f : Tile → Tile) : State := s.runOne k (fun _ r => .ok (r.upd f))
/-- Iteration number of a counter (03 "The sequencer"). -/
def Counter.iter (c : Counter) : Nat := c.limit - c.cur

/-! ## Counters and control (R155, R156) -/

def execTNop (t : TileLoc) (s : State) : Host.Outcome State Fault Refusal :=
  .next (s.issue t.key (fun o => o == .nop) (fun _ s => s.change t.key id))

def execTCset (t : TileLoc) (s : State) : Host.Outcome State Fault Refusal :=
  .next (s.issue t.key (fun o => match o with
    | .cset _ _ => true
    | _ => false) (fun i s => match i.op with
    | .cset c n1 => s.change t.key (fun x => x.setCnt c.toNat ⟨n1.toNat + 1, n1.toNat + 1⟩)
    | _ => s))

/-- LOOP on the tile: the counter, and where the PC goes (R155). -/
def Tile.loopStep (x : Tile) (c : Nat) (target : BitVec 8) : Tile :=
  let v := x.cnt c
  if v.cur - 1 ≠ 0 then ((x.setCnt c { v with cur := v.cur - 1 }).jump target).spend 1 true
  else ((x.setCnt c { v with cur := v.limit }).advance).spend 1 true
def execTLoop (t : TileLoc) (s : State) : Host.Outcome State Fault Refusal :=
  .next (s.issue t.key (fun o => match o with
    | .loop _ _ => true
    | _ => false) (fun i s => match i.op with
    | .loop c a => s.onTile t.key (fun x => x.loopStep c.toNat a)
    | _ => s))

def execTJmp (t : TileLoc) (s : State) : Host.Outcome State Fault Refusal :=
  .next (s.issue t.key (fun o => match o with
    | .jmp _ => true
    | _ => false) (fun i s => match i.op with
    | .jmp a => s.onTile t.key (fun x => (x.jump a).spend 1 true)
    | _ => s))

def execTWaitck (t : TileLoc) (s : State) : Host.Outcome State Fault Refusal :=
  .next (s.issue t.key (fun o => match o with
    | .waitck _ => true
    | _ => false) (fun i s => match i.op with
    | .waitck n => s.onTile t.key (fun x => x.advance.spend n.toNat false)
    | _ => s))

def execTAset (t : TileLoc) (s : State) : Host.Outcome State Fault Refusal :=
  .next (s.issue t.key (fun o => match o with
    | .aset _ _ => true
    | _ => false) (fun i s => match i.op with
    | .aset a v => s.change t.key (fun x => x.setAr a.toNat v)
    | _ => s))

def execTAadd (t : TileLoc) (s : State) : Host.Outcome State Fault Refusal :=
  .next (s.issue t.key (fun o => match o with
    | .aadd _ _ => true
    | _ => false) (fun i s => match i.op with
    | .aadd a v => s.change t.key (fun x => x.setAr a.toNat (x.ar a.toNat + v))
    | _ => s))

def execTRset (t : TileLoc) (s : State) : Host.Outcome State Fault Refusal :=
  .next (s.issue t.key (fun o => match o with
    | .rset _ => true
    | _ => false) (fun i s => match i.op with
    | .rset r => s.change t.key (fun x => { x with seq := { x.seq with rr := r } })
    | _ => s))

/-! ## Queues and tokens (R157, R158) -/

/-- WAITQ: the queue holds the tokens, or is held and short, or the tile waits (R154, R157, R169). -/
def State.waitqRun (s : State) (k q n : Nat) : State :=
  if n ≤ (s.tile k).usable q then s.change k id else s.lacking k n [q] false
def execTWaitq (t : TileLoc) (s : State) : Host.Outcome State Fault Refusal :=
  .next (s.issue t.key (fun o => match o with
    | .waitq _ _ => true
    | _ => false) (fun i s => match i.op with
    | .waitq q n1 => s.waitqRun t.key q.toNat (n1.toNat + 1)
    | _ => s))

/-- Kinds that RECV, DROP and FWD accept: DATA, SELECT, HANDLE (R158). -/
def dataKind (k : Nat) : Bool := k == 0 || k == 2 || k == 3
/-- The tile holds no credit for `route`. -/
def Tile.noCredit (t : Tile) (route : BitVec 10) : Bool := t.creditsFree t.gen route == 0
/-- The step of an instruction that needs the head of `q`, of a kind that `okKind` accepts; `credit` where it lacks one. -/
def withHead (e : TEnv) (q : Nat) (r : TileRun) (credit : Bool) (okKind : Nat → Bool) (f : Flight → StepRes) : StepRes :=
  match r.t.head q e.now with
  | none => .lack [q] credit
  | some h => if okKind (tagKind h.tok.tag) then f h else .fault 0x0201 q h.tok.tag.toNat 0

def recvStep (q b : Nat) (e : TEnv) (r : TileRun) : StepRes :=
  withHead e q r false dataKind (fun h => .ok ((r.pop q e.now).upd (fun x => x.setBuf b h.tok)))
def State.recvRun (s : State) (k q b : Nat) : State := s.runOne k (recvStep q b)
def execTRecv (t : TileLoc) (s : State) : Host.Outcome State Fault Refusal :=
  .next (s.issue t.key (fun o => match o with
    | .recv _ _ => true
    | _ => false) (fun i s => match i.op with
    | .recv q b => s.recvRun t.key q.toNat b.toNat
    | _ => s))

def dropStep (q : Nat) (e : TEnv) (_j : Nat) (r : TileRun) : StepRes :=
  withHead e q r false dataKind (fun _ => .ok (r.pop q e.now))
def State.dropRun (s : State) (k q n : Nat) : State := s.runCounted k n 1 (dropStep q)
def execTDrop (t : TileLoc) (s : State) : Host.Outcome State Fault Refusal :=
  .next (s.issue t.key (fun o => match o with
    | .drop _ _ => true
    | _ => false) (fun i s => match i.op with
    | .drop q n1 => s.dropRun t.key q.toNat (n1.toNat + 1)
    | _ => s))

/-- A send as the end of a step. -/
def sendStep (o : Option TileRun) : StepRes := match o with
  | some r => .ok r
  | none => .lack [] true
/-- SEND of buffer `b` (R157). -/
def sendBufStep (b : Nat) (route : BitVec 10) (e : TEnv) (x : TileRun) : StepRes :=
  let k := x.t.buf b
  sendStep (x.send e route (tagKind k.tag) (tagFmt k.tag) (tagLast k.tag) k.payload e.now)
def State.sendRun (s : State) (k b : Nat) (route : BitVec 10) : State := s.runOne k (sendBufStep b route)
def execTSend (t : TileLoc) (s : State) : Host.Outcome State Fault Refusal :=
  .next (s.issue t.key (fun o => match o with
    | .send _ _ => true
    | _ => false) (fun i s => match i.op with
    | .send b r => s.sendRun t.key b.toNat r
    | _ => s))

def fwdStep (q : Nat) (route : BitVec 10) (e : TEnv) (_j : Nat) (r : TileRun) : StepRes :=
  withHead e q r (r.t.noCredit route) dataKind (fun h =>
    sendStep ((r.pop q e.now).send e route (tagKind h.tok.tag) (tagFmt h.tok.tag) (tagLast h.tok.tag) h.tok.payload e.now))
def State.fwdRun (s : State) (k q n : Nat) (route : BitVec 10) : State := s.runCounted k n 1 (fwdStep q route)
def execTFwd (t : TileLoc) (s : State) : Host.Outcome State Fault Refusal :=
  .next (s.issue t.key (fun o => match o with
    | .fwd _ _ _ => true
    | _ => false) (fun i s => match i.op with
    | .fwd q n1 r => s.fwdRun t.key q.toNat (n1.toNat + 1) r
    | _ => s))

/-! ## Predicates and select (R165–R167) -/

def execTPset (t : TileLoc) (s : State) : Host.Outcome State Fault Refusal :=
  .next (s.issue t.key (fun o => match o with
    | .pset _ _ _ _ _ => true
    | _ => false) (fun i s => match i.op with
    | .pset p b c it ix => s.change t.key (fun x =>
        let n := if it = 1 then (ix.toNat + (x.cnt c.toNat).iter) % 512 else ix.toNat
        x.setPred p.toNat ((x.buf b.toNat).payload.getLsbD n))
    | _ => s))

def execTPimm (t : TileLoc) (s : State) : Host.Outcome State Fault Refusal :=
  .next (s.issue t.key (fun o => match o with
    | .pimm _ _ => true
    | _ => false) (fun i s => match i.op with
    | .pimm p v => s.change t.key (fun x => x.setPred p.toNat (v == 1))
    | _ => s))

/-- PCNT's comparison: 0 equal, 1 not equal, 2 less than, 3 not less than (R165). -/
def cmpOf (cmp a b : Nat) : Bool := match cmp with
  | 0 => a == b
  | 1 => a != b
  | 2 => decide (a < b)
  | _ => decide (b ≤ a)
def execTPcnt (t : TileLoc) (s : State) : Host.Outcome State Fault Refusal :=
  .next (s.issue t.key (fun o => match o with
    | .pcnt _ _ _ _ => true
    | _ => false) (fun i s => match i.op with
    | .pcnt p c cmp v => s.change t.key (fun x => x.setPred p.toNat (cmpOf cmp.toNat (x.cnt c.toNat).cur v.toNat))
    | _ => s))

/-- PLOG's functions: 0 AND, 1 OR, 2 XOR, 3 NOT of the first (R165). -/
def logicOf (fn : Nat) (a b : Bool) : Bool := match fn with
  | 0 => a && b
  | 1 => a || b
  | 2 => a != b
  | _ => !a
def execTPlog (t : TileLoc) (s : State) : Host.Outcome State Fault Refusal :=
  .next (s.issue t.key (fun o => match o with
    | .plog _ _ _ _ => true
    | _ => false) (fun i s => match i.op with
    | .plog p pa pb fn => s.change t.key (fun x => x.setPred p.toNat (logicOf fn.toNat (x.predOf pa.toNat) (x.predOf pb.toNat)))
    | _ => s))

def execTSel (t : TileLoc) (s : State) : Host.Outcome State Fault Refusal :=
  .next (s.issue t.key (fun o => match o with
    | .sel _ _ _ _ => true
    | _ => false) (fun i s => match i.op with
    | .sel p ba bb bd => s.change t.key (fun x => x.setBuf bd.toNat (x.buf (if x.predOf p.toNat then ba.toNat else bb.toNat)))
    | _ => s))

/-! ## Hold (R168, 01 R50) -/

def execTHreq (t : TileLoc) (s : State) : Host.Outcome State Fault Refusal :=
  .next (s.issue t.key (fun o => match o with
    | .hreq _ _ => true
    | _ => false) (fun i s => match i.op with
    | .hreq q n1 =>
      (s.change t.key (fun x => if x.usable q.toNat < n1.toNat + 1 then { x with holdReq := x.holdReq ++ [(q.toNat, n1.toNat + 1)] } else x)).holdUpdate
    | _ => s))

/-! ## Bands and configuration (R171–R173, R175, R484) -/

def maskQueues (m : BitVec 8) : List Nat := (List.range 8).filter (fun q => m.getLsbD q)
/-- The markers at the heads of the masked queues. -/
inductive MarkerView where
  | bad (q : Nat)
  | wait
  | all (kind : Nat) (band : W48) (idle : Bool)
  deriving DecidableEq, Repr
/-- Heads seen so far against the next one: a kind that `okKind` refuses, or markers that differ in kind or band number
(R172, R173). DESIGN CHOICE (notes/assumptions/111.md): where headers agree in both and differ in IDLE, the first masked
queue's bit counts. -/
def viewStep (t : Tile) (now : Nat) (okKind : Nat → Bool) (acc : Option (Nat × W48 × Bool)) (missing : Bool) :
    List Nat → MarkerView
  | [] => match acc, missing with
    | some (k, b, i), false => .all k b i
    | _, _ => .wait
  | q :: qs =>
    match t.head q now with
    | none => viewStep t now okKind acc true qs
    | some f =>
      let kind := tagKind f.tok.tag
      let band := markerBand f.tok.payload
      if okKind kind = false then .bad q
      else match acc with
        | none => viewStep t now okKind (some (kind, band, markerIdle f.tok.payload)) missing qs
        | some (k, b, i) => if k = kind && b = band then viewStep t now okKind (some (k, b, i)) missing qs else .bad q
/-- Pop the marker at the head of each masked queue. -/
def TileRun.popAll (r : TileRun) (qs : List Nat) (now : Nat) : TileRun := qs.foldl (fun x q => x.pop q now) r
/-- Send a marker on every route of the marker set, when each has a credit. -/
def TileRun.sendMarkers (r : TileRun) (e : TEnv) (kind : Nat) (band : W48) (idle : Bool) : Option TileRun :=
  let routes := (match r.t.cfg with
    | some c => c.markers
    | none => [])
  routes.foldl (fun o rt => o.bind (fun x => x.send e rt kind 0 false (markerLine band idle) e.now)) (some r)

/-- A band begins on a tile: P3, TIL_BAND, and for a band with data the generators, delay lines and band index (R171; 04
R195, R199, R202, R229). -/
def Tile.beginBand (t : Tile) (bandLines : Nat) (band : W48) (idle : Bool) : Tile :=
  let t1 := { t.setPred 3 idle with band := band, phase := .running, arb := { t.arb with gotScale := false, rescale := 0 }, eosPast := t.eosPast && idle }
  if idle then t1
  else
    let first := (match t.cfg with
      | some c => (List.range c.win.length).foldl (fun m g => Tab.set_ 0 m g ((c.win.getD g ⟨0, 0, 0, 0⟩).firstPatch bandLines t.win.bandIdx)) []
      | none => [])
    { t1 with win := { t1.win with pos := [], patch := first, dlOff := [], bandIdx := t.win.bandIdx + 1, cols := [] } }
/-- The end of a stream at a tile: drained, and the band index starts again (R171; 04 R206, R207). -/
def Tile.drainTile (t : Tile) : Tile :=
  { t with phase := .drained, eosPast := true, going := false, steps := 0, win := { t.win with pos := [], patch := [], bandIdx := 0, dlOff := [], cols := [], unit := [] } }

/-- BEGIN's step, once the masked queues hold their markers (R171, R172). -/
def beginRun (e : TEnv) (qs : List Nat) (kind : Nat) (band : W48) (idle : Bool) (r : TileRun) : Option TileRun :=
  ((r.popAll qs e.now).sendMarkers e kind band (kind == 4 && idle)).map (fun x => x.upd (fun t =>
    match kind with
    | 4 => ((t.beginBand e.bandLines band idle).advance).spend 1 true
    | 6 => t.drainTile.spend 1 true
    | _ => { t.spend 17 true with phase := .swapping, going := false }))
/-- BEGIN in this ck. DESIGN CHOICE (notes/assumptions/111.md): an EOB at the head of a masked queue raises TOKEN_UNEXPECTED, and
a masked queue that is held only makes the tile wait, as R171 says. -/
def State.beginStep (s : State) (k : Nat) (m : BitVec 8) : State :=
  let x := s.tile k
  let qs := maskQueues m
  match viewStep x s.now (fun k => k == 4 || k == 6 || k == 7) none false qs with
  | .bad q => s.tileCond k 0x0201 q 0 0
  | .wait => s.setTile k (x.waits .input)
  | .all kind band idle =>
    if kind = 7 && !x.shadowReady then s.tileCond k 0x0201 kind 0 0
    else match beginRun (s.tenv k) qs kind band idle (TileRun.of x) with
      | some r => s.bringBack k r
      | none => s.setTile k (x.waits .credit)
def execTBegin (t : TileLoc) (s : State) : Host.Outcome State Fault Refusal :=
  .next (s.issue t.key (fun o => match o with
    | .begin_ _ => true
    | _ => false) (fun i s => match i.op with
    | .begin_ m => s.beginStep t.key m
    | _ => s))

/-- The end of a band at a tile: it goes on at its band entry. -/
def Tile.endBand (t : Tile) (band : W48) : Tile :=
  let entry := (match t.cfg with
    | some c => c.bandEntry
    | none => 0)
  { (t.jump entry).spend 1 true with eob := some band }
/-- BEND in this ck. DESIGN CHOICE (notes/assumptions/111.md): with an empty mask it waits for ever, and a masked queue that is
held only makes the tile wait, as R173 says. -/
def State.bendStep (s : State) (k : Nat) (m : BitVec 8) : State :=
  let x := s.tile k
  let qs := maskQueues m
  match viewStep x s.now (fun k => k == 5) none false qs with
  | .bad q => s.tileCond k 0x0201 q 0 0
  | .wait => s.setTile k (x.waits .input)
  | .all _ band _ =>
    let e := s.tenv k
    match ((TileRun.of x).popAll qs e.now).sendMarkers e 5 band false with
    | some r => s.bringBack k (r.upd (fun t => t.endBand band))
    | none => s.setTile k (x.waits .credit)
def execTBend (t : TileLoc) (s : State) : Host.Outcome State Fault Refusal :=
  .next (s.issue t.key (fun o => match o with
    | .bend _ => true
    | _ => false) (fun i s => match i.op with
    | .bend m => s.bendStep t.key m
    | _ => s))

def execTHalt (t : TileLoc) (s : State) : Host.Outcome State Fault Refusal :=
  .next (s.issue t.key (fun o => o == .halt) (fun _ s => s.onTile t.key (fun x => { x with phase := .halted, wait := .none_ })))

/-- TILE_SWAP_COMPLETE (R171, R484): 16 ck after the EOC went out the shadow configuration is active, the generation is one
more, and stale tokens left in the queues are discarded (R146). -/
def execTileSwapComplete (t : TileLoc) (s : State) : Host.Outcome State Fault Refusal :=
  let x := s.tile t.key
  if x.phase ≠ .swapping || x.busy ≠ 0 || !s.seqRuns then .next s
  else
    let y := { x.start x.shadow (x.gen + 1) with shadow := none, shadowReady := false }
    let d := y.dropStale
    let s1 := s.setTile t.key d.1
    .next (if d.2 then s1.tileCond t.key 0x0202 0 0 0 else s1)

end Sys2Proof.Machine
end

