-- ==== Sys2Proof/Machine/Compute.lean ====
section
/-!
DEFINITION. Compute instructions: arbor MAC, ACC, DRAIN, LDSC, RQH (03 R159–R163, 05), fountain FIRE (05 R265–R270, 04 R217),
cistern FIRE, MRD, MWR and HBM responses (03 R160, R164; 04 R224–R231; 08 R374–R384), gate FIRE; and instructions that go on
in a later ck.
-/
namespace Sys2Proof.Machine

/-- Add to the saturation counts of a tile in this ck (05 R247, R257, R269). -/
def Tile.addSat (t : Tile) (sat acc fsat facc : Nat) : Tile :=
  { t with ctrCk := { t.ctrCk with sat := t.ctrCk.sat + sat, accOvf := t.ctrCk.accOvf + acc,
                                   fsat := t.ctrCk.fsat + fsat, faccOvf := t.ctrCk.faccOvf + facc } }
/-- A result token that goes on RR lacks a credit (03 R136, R159). -/
def TileRun.lacksRR (r : TileRun) (ob : Nat) : Bool := ob == 0 && r.t.noCredit r.t.seq.rr
/-- A result token: on RR when OB is 0, else into buffer OB (03 R159). -/
def TileRun.result (r : TileRun) (e : TEnv) (ob kind fmt : Nat) (p : Line) : StepRes :=
  if ob = 0 then sendStep (r.send e r.t.seq.rr kind fmt false p e.now)
  else .ok (r.upd (fun t => t.setBuf ob (mkToken (mkTag t.gen kind fmt t.seq.rr false 0) p)))
/-- The instruction `run` reads word `w` of its tile's memory first and finds `e` there, if it can go (08 R369–R371). -/
def State.reading (s : State) (t : TileLoc) (w : Option Nat) (e : Ecc) (run : State → State) : State :=
  match w with
  | some w => if ((run s).tile t.key).busy = 0 then run s else run (s.tileRead t w e)
  | none => run s

/-! ## Arbor accumulation -/

def accKey (row c : Nat) : Nat := row % 256 * 16 + c
def Tile.accAt (t : Tile) (row c : Nat) : AccCell := Tab.at_ AccCell.zero t.arb.acc (accKey row c)
/-- Add a sum and residue for each of the 16 channels of a row; saturations are counted (05 R246, R247, R260). -/
def Tile.accRow (t : Tile) (row : Nat) (sums : Nat → Int × Nat) : Tile :=
  let r := (List.range 16).foldl (fun a c =>
    let x := accAdd (t.accAt row c) (sums c).1 (sums c).2
    (Tab.set_ AccCell.zero a.1 (accKey row c) x.1, if x.2 then a.2 + 1 else a.2)) (t.arb.acc, 0)
  { t with arb := { t.arb with acc := r.1 } }.addSat 0 r.2 0 0

/-- Pixel steps a token holds (03 R159, 05 R240). -/
def macPer (w4 : Bool) : Nat := if w4 then 2 else 4
/-- Row of the weight block at A0. -/
def Tile.macRow (t : Tile) : Nat := (t.ar 0).toNat % 1024
/-- One activation token of FIRE MAC: its pixel steps `j·per` up to `n` (03 Table 3.6; 05 R242–R246). -/
def macStep (q n : Nat) (w4 : Bool) (e : TEnv) (j : Nat) (r : TileRun) : StepRes :=
  let t := r.t
  withHead e q r false (fun k => k == 0) (fun h =>
    if tagFmt h.tok.tag ≠ (if numInUns t.num then 1 else 0) then .fault 0x0201 q h.tok.tag.toNat 0
    else
      match t.poisonIn t.macRow 4 with
      | some w => .fault 0x0302 (w / 8) 0 0
      | none =>
        .ok ((r.pop q e.now).upd (fun x => (List.range (min (macPer w4) (n - j * macPer w4))).foldl (fun y p =>
          y.accRow ((t.ar 1).toNat + j * macPer w4 + p) (fun c => macSum t.mem h.tok.payload t.num w4 (64 * t.macRow) p c)) x)))
def State.macRun (s : State) (k q n : Nat) (w4 : Bool) : State :=
  let per := macPer w4
  s.runCounted k ((n + per - 1) / per) (min per (n - (s.tile k).steps * per)) (macStep q n w4)
def execFireMac (r : TileRead) (s : State) : Host.Outcome State Fault Refusal :=
  .next (s.issue r.loc.key (fun o => match o with
    | .fire _ _ _ _ _ _ => tileKind r.loc.key == 1
    | _ => false) (fun i s => match i.op with
    | .fire _ q n1 _ w4 _ =>
      s.reading r.loc (some (8 * (s.tile r.loc.key).macRow)) r.ecc (fun s => s.macRun r.loc.key q.toNat (n1.toNat + 1) (w4 == 1))
    | _ => s))

def accStep (q : Nat) (e : TEnv) (j : Nat) (r : TileRun) : StepRes :=
  withHead e q r false (fun k => k == 0) (fun h =>
    .ok ((r.pop q e.now).upd (fun x =>
      x.accRow ((x.ar 1).toNat + j) (fun c => (int32At h.tok.payload c, mod7 (int32At h.tok.payload c))))))
def State.accRun (s : State) (k q n : Nat) : State := s.runCounted k n 1 (accStep q)
def execTAcc (t : TileLoc) (s : State) : Host.Outcome State Fault Refusal :=
  .next (s.issue t.key (fun o => match o with
    | .acc _ _ => true
    | _ => false) (fun i s => match i.op with
    | .acc q n1 => s.accRun t.key q.toNat (n1.toNat + 1)
    | _ => s))

/-- The details of a residue mismatch: row, channel, residue found and expected (05 R263). -/
def residueFault (row c found expected : Nat) : StepRes := .fault 0x0205 row c (found * 2 ^ 32 + expected)
/-- The first element of rows `[row, row + n)` whose residue disagrees and which is not exempt (05 R261). -/
def Tile.residueBad (t : Tile) (row n : Nat) : Option (Nat × Nat) :=
  (List.range n).findSome? (fun i => (List.range 16).findSome? (fun c =>
    let x := t.accAt (row + i) c
    if !x.ex && (residueMiss x.v x.r).isSome then some ((row + i) % 256, c) else none))
def Tile.rowVals (t : Tile) (row : Nat) : List Int := (List.range 16).map (fun c => (t.accAt row c).v)
def Tile.zeroRow (t : Tile) (row : Nat) : Tile :=
  { t with arb := { t.arb with acc := (List.range 16).foldl (fun m c => Tab.set_ AccCell.zero m (accKey row c) AccCell.zero) t.arb.acc } }
/-- One row of DRAIN; the residues of all rows still to drain are checked first (03 R162; 05 R261, R263, R264). -/
def drainStep (route : BitVec 10) (n : Nat) (raw : Bool) (e : TEnv) (j : Nat) (r : TileRun) : StepRes :=
  let row := (r.t.ar 1).toNat + j
  match r.t.residueBad row (n - j) with
  | some (x, c) => residueFault x c (mod7 (r.t.accAt x c).v) ((r.t.accAt x c).r)
  | none =>
    let vs := r.t.rowVals row
    let z := r.upd (fun t => t.zeroRow row)
    if raw then sendStep (z.send e route 0 2 false (int32Line vs) e.now)
    else .ok (z.upd (fun t => { t with arb := { t.arb with hold := (t.arb.hold ++ [vs]).drop (t.arb.hold.length + 1 - 256) } }))
def State.drainRun (s : State) (k : Nat) (route : BitVec 10) (n : Nat) (raw : Bool) : State :=
  s.runCounted k n 1 (drainStep route n raw)
def execTDrain (t : TileLoc) (s : State) : Host.Outcome State Fault Refusal :=
  .next (s.issue t.key (fun o => match o with
    | .drain _ _ _ => true
    | _ => false) (fun i s => match i.op with
    | .drain r n1 raw => s.drainRun t.key r (n1.toNat + 1) (raw == 1)
    | _ => s))

/-- One SCALE token (05 R249–R252): a band rescale token first in a band when RESCALE_EN is 1, channel tokens after it. -/
def ldscStep (q : Nat) (e : TEnv) (_j : Nat) (r : TileRun) : StepRes :=
  withHead e q r false (fun k => k == 1) (fun h =>
    let p := h.tok.payload
    let first := numRescaleEn r.t.num && !r.t.arb.gotScale
    let ty := scaleType (lineWord p 0)
    if first then
      if ty = 1 && decide (BitVec.ofNat 48 (p.toNat / 2 ^ 32) = r.t.band) then
        .ok ((r.pop q e.now).upd (fun t => { t with arb := { t.arb with rescale := lineWord p 0, gotScale := true } }))
      else .fault 0x0201 q h.tok.tag.toNat (lineWord p 0).toNat
    else if (List.range 16).all (fun k => scaleType (lineWord p k) == 0) then
      let put : Tab Word → Tab Word := fun m => (List.range 16).foldl (fun m k => Tab.set_ 0 m k (lineWord p k)) m
      .ok ((r.pop q e.now).upd (fun t => { t with arb := { t.arb with scale := put t.arb.scale } }))
    else .fault 0x0201 q h.tok.tag.toNat (lineWord p 0).toNat)
def State.ldscRun (s : State) (k q n : Nat) : State := s.runCounted k n 1 (ldscStep q)
def execTLdsc (t : TileLoc) (s : State) : Host.Outcome State Fault Refusal :=
  .next (s.issue t.key (fun o => match o with
    | .ldsc _ _ => true
    | _ => false) (fun i s => match i.op with
    | .ldsc q n1 => s.ldscRun t.key q.toNat (n1.toNat + 1)
    | _ => s))

/-- The band rescale that RQH uses: the band's own, exactly 1 without RESCALE_EN (05 R253). A band that has had none yet has
no stated factor: a free value (notes/assumptions/4.md). -/
def Tile.rescaleNow (t : Tile) (fresh : Nat) : Word :=
  if !numRescaleEn t.num then unitRescale
  else if t.arb.gotScale then t.arb.rescale
  else (Config.freeValue fresh).setWidth 32
/-- A row requantised: its codes, output saturations, accumulator saturations, and the first channel whose check of R262 fails. -/
structure RowOut where
  codes : List Byte
  sat : Nat
  ovf : Nat
  miss : Option (Nat × Nat × Nat)
  deriving DecidableEq, Repr
/-- One row requantised (05 R254, R255, R262). -/
def Tile.requantRow (t : Tile) (resc : Word) (vs : List Int) : RowOut :=
  let n := t.num
  let rs := (List.range 16).map (fun c =>
    let bias := if numBiasEn n then signed 32 (leNat (readBytes t.mem (64 * numBiasAddr n + 4 * c) 4)) else 0
    let v := sat32 (vs.getD c 0 + bias)
    let k := Tab.at_ 0 t.arb.scale c
    (requant (numOut n) v.1 (scaleMult k) (scaleMult resc) (scaleShift k + scaleShift resc + 23), v.2,
     (scaleMiss v.1 (scaleMult k) (scaleMult resc)).map (fun x => (c, x.1, x.2))))
  ⟨rs.map (fun r => codeOf r.1.1), (rs.filter (fun r => r.1.2)).length, (rs.filter (fun r => r.2.1)).length,
   rs.findSome? (fun r => r.2.2)⟩
/-- One token of RQH: rows 4j to 4j + 3 of the holding buffer; positions with no row hold the code OUT_ZP (03 R163, 05
R243, R254, R262). -/
def rqhStep (route : BitVec 10) (n : Nat) (e : TEnv) (j : Nat) (r : TileRun) : StepRes :=
  let t := r.t
  match (if numBiasEn t.num then t.poisonIn (numBiasAddr t.num) 1 else none) with
  | some w => .fault 0x0302 (w / 8) 0 0
  | none =>
    let cnt := min 4 (n - 4 * j)
    let rows := (List.range cnt).map (fun k => t.requantRow (t.rescaleNow e.fresh) (t.arb.hold.getD k (List.replicate 16 0)))
    match (List.range cnt).findSome? (fun k => (rows[k]?.bind RowOut.miss).map (fun x => (4 * j + k, x))) with
    | some (k, c, f, x) => residueFault k c f x
    | none =>
      let pad := List.replicate (16 * (4 - cnt)) (codeOf (numOut t.num).zp)
      let p := lineOf (rows.flatMap RowOut.codes ++ pad)
      let sat := rows.foldl (fun a x => a + x.sat) 0
      let ovf := rows.foldl (fun a x => a + x.ovf) 0
      sendStep ((r.upd (fun x => ({ x with arb := { x.arb with hold := x.arb.hold.drop cnt } } : Tile).addSat sat ovf 0 0)).send e route 0
        (if numOutUns t.num then 1 else 0) false p e.now)
def State.rqhRun (s : State) (k : Nat) (route : BitVec 10) (n : Nat) : State :=
  (s.runCounted k ((n + 3) / 4) 1 (rqhStep route n)).useFree
def execTRqh (r : TileRead) (s : State) : Host.Outcome State Fault Refusal :=
  .next (s.issue r.loc.key (fun o => match o with
    | .rqh _ _ => true
    | _ => false) (fun i s => match i.op with
    | .rqh route n1 =>
      let n := (s.tile r.loc.key).num
      s.reading r.loc (if numBiasEn n then some (8 * numBiasAddr n) else none) r.ecc (fun s => s.rqhRun r.loc.key route (n1.toNat + 1))
    | _ => s))

/-! ## Fountain (05 R265–R270) -/

/-- Ck for a token of 64 or 32 elements (03 Table 3.6). -/
def fountainCk (fmt : Nat) : Nat := if fmt = 3 then 1 else 2
/-- Length of the next token's work: looks at the head of the queue. -/
def Tile.nextCk (t : Tile) (q : Nat) : Nat := match t.queue q with
  | h :: _ => fountainCk (tagFmt h.tok.tag)
  | [] => 1
def fmtOut (m : List Host.Cell) : Nat := if (fOut m).uns then 1 else 0
/-- One token of EXP to LOG2. A format the spec gives no result for takes a free value (notes/assumptions/4.md). -/
def unaryStep (mode q ob : Nat) (e : TEnv) (_j : Nat) (r : TileRun) : StepRes :=
  withHead e q r (r.lacksRR ob) (fun k => k == 0) (fun h =>
    let fmt := tagFmt h.tok.tag
    let ps := [16 + mode] ++ (if fmt = 3 then [] else [4])
    match r.t.poisonUsed (fun w => paramWord ps w || tableWord r.t.mem mode fmt h.tok.payload w) with
    | some w => .fault 0x0302 (w / 8) 0 0
    | none =>
      let o := if fmt = 0 || fmt = 1 || fmt = 3 then fountainUnary r.t.mem mode fmt h.tok.payload
               else (Config.freeValue e.fresh, 0)
      ((r.pop q e.now).upd (fun t => t.addSat 0 0 o.2 0)).result e ob 0 (if fmt = 3 then 3 else fmtOut r.t.mem) o.1)
/-- The queues of `qs` without a token that may be popped, and the first one at whose head stands another kind than DATA. -/
def TileRun.short (r : TileRun) (e : TEnv) (qs : List Nat) : List Nat := qs.filter (fun q => (r.t.head q e.now).isNone)
def TileRun.wrongKind (r : TileRun) (e : TEnv) (qs : List Nat) : Option (Nat × Flight) :=
  qs.findSome? (fun q => (r.t.head q e.now).bind (fun h => if tagKind h.tok.tag = 0 then none else some (q, h)))
/-- The step of an instruction that needs a DATA token at the head of each queue of `qs`: an unexpected kind goes before a
lacking token (03 R177). -/
def withHeads (e : TEnv) (qs : List Nat) (r : TileRun) (credit : Bool) (f : List Flight → StepRes) : StepRes :=
  match r.wrongKind e qs with
  | some (q, h) => .fault 0x0201 q h.tok.tag.toNat 0
  | none => if r.short e qs = [] then f (qs.filterMap (fun q => r.t.head q e.now)) else .lack (r.short e qs) credit
/-- One token of ADD, MUL or MAX. Formats other than int8 and uint8 take a free value. -/
def binaryStep (mode q ob : Nat) (e : TEnv) (_j : Nat) (r : TileRun) : StepRes :=
  withHeads e [q, q + 1] r (r.lacksRR ob) (fun hs =>
    let t1 := ((hs.map (fun h => h.tok)).getD 0 Token.zero)
    let t2 := ((hs.map (fun h => h.tok)).getD 1 Token.zero)
    let f1 := tagFmt t1.tag
    let f2 := tagFmt t2.tag
    match r.t.poisonUsed (paramWord (binaryParams mode)) with
    | some w => .fault 0x0302 (w / 8) 0 0
    | none =>
      let o := if f1 ≤ 1 && f2 ≤ 1 then fountainBinary r.t.mem mode (f1 == 1) (f2 == 1) t1.payload t2.payload
               else ⟨lineBytes (Config.freeValue e.fresh), 0, 0, none⟩
      match o.miss with
      | some (k, found, x) => residueFault 0 k found x
      | none =>
        (((r.pop q e.now).pop (q + 1) e.now).upd (fun t => t.addSat 0 0 o.fsat o.facc)).result e ob 0 (fmtOut r.t.mem) (lineOf o.bytes))
/-- FIRE of modes 0 to 8; each step may use a free value. -/
def State.fountain (s : State) (k mode q n ob : Nat) : State :=
  (s.runCounted k n ((s.tile k).nextCk q) (if mode < 6 then unaryStep mode q ob else binaryStep mode q ob)).useFree
/-- The word that the first step reads first: of the table, or of a lane's record. -/
def Tile.fountainWord (t : Tile) (mode q : Nat) : Nat :=
  if mode < 6 then
    (match t.queue q with
      | h :: _ => (fTable t.mem mode + (if tagFmt h.tok.tag = 3 then 12 * ((signed 16 (bits h.tok.payload.toNat 0 16) + 32768).toNat / 1024)
          else (lineByte h.tok.payload 0).toNat)) / 8
      | [] => 0)
  else Config.fieldPlace (64 + 32 * mode) / 8
/-- The FIRE of a fountain in the modes that this command names. -/
def execFountain (t : TileLoc) (mode : Nat) (e : Ecc) (s : State) : State :=
  s.issue t.key (fun o => match o with
    | .fire m _ _ _ _ _ => tileKind t.key == 3 && m.toNat == mode
    | _ => false) (fun i s => match i.op with
    | .fire _ q n1 ob _ _ =>
      s.reading t (some ((s.tile t.key).fountainWord mode q.toNat)) e (fun s => s.fountain t.key mode q.toNat (n1.toNat + 1) ob.toNat)
    | _ => s)
def execFireExp (r : TileRead) (s : State) : Host.Outcome State Fault Refusal := .next (execFountain r.loc 0 r.ecc s)
def execFireRecip (r : TileRead) (s : State) : Host.Outcome State Fault Refusal := .next (execFountain r.loc 1 r.ecc s)
def execFireRsqrt (r : TileRead) (s : State) : Host.Outcome State Fault Refusal := .next (execFountain r.loc 2 r.ecc s)
def execFireSigmoid (r : TileRead) (s : State) : Host.Outcome State Fault Refusal := .next (execFountain r.loc 3 r.ecc s)
def execFireTanh (r : TileRead) (s : State) : Host.Outcome State Fault Refusal := .next (execFountain r.loc 4 r.ecc s)
def execFireLog2 (r : TileRead) (s : State) : Host.Outcome State Fault Refusal := .next (execFountain r.loc 5 r.ecc s)
def execFireAdd (r : TileRead) (s : State) : Host.Outcome State Fault Refusal := .next (execFountain r.loc 6 r.ecc s)
def execFireMul (r : TileRead) (s : State) : Host.Outcome State Fault Refusal := .next (execFountain r.loc 7 r.ecc s)
def execFireMax (r : TileRead) (s : State) : Host.Outcome State Fault Refusal := .next (execFountain r.loc 8 r.ecc s)

/-- Column tokens of the depthwise path: each column of the kernel's rows comes from two or three queues (04 R217). -/
def dwQueues (size : Nat) : Nat := if size = 3 then 2 else 3
/-- The kernel rows of one column: 32 bytes each, two to a token. -/
def dwColumn (ls : List Line) (size : Nat) : List (List Byte) :=
  (List.range size).map (fun y => slice (lineBytes (ls.getD (y / 2) 0)) (32 * (y % 2)) 32)
/-- One column into the path, which keeps the columns of a window. -/
def Tile.dwPush (t : Tile) (size : Nat) (hs : List Flight) : Tile :=
  let f : BitVec 3 := BitVec.ofNat 3 (((hs.map (fun h => tagFmt h.tok.tag)).head?).getD 0)
  { t with win := { t.win with cols := (t.win.cols ++ [hs.map (fun h => h.tok.payload)]).drop (t.win.cols.length + 1 - size), fmt := f } }
/-- An output pixel whose columns are there: the kernel; every second pixel completes a token of two pixels, and the last
token's free half holds the code OUT_ZP (05 Table 5.4; notes/assumptions/10.md). -/
def dwPixel (mode size n ob x : Nat) (e : TEnv) (j : Nat) (r1 : TileRun) : StepRes :=
  let a := 64 * (r1.t.ar 0).toNat
  match r1.t.poisonUsed (paramWord (dwParams mode a size)) with
  | some w => .fault 0x0302 (w / 8) 0 0
  | none =>
    let o := depthwise r1.t.mem mode a size (r1.t.win.fmt == 1) (r1.t.win.cols.map (fun ls => dwColumn ls size))
    match o.miss with
    | some (k, found, y) => residueFault 0 k found y
    | none =>
      let part := r1.t.win.unit.getD 0 0
      let r2 := r1.upd (fun t => { t.addSat 0 0 o.fsat o.facc with
        win := { t.win with pos := Tab.set_ 0 (Tab.set_ 0 t.win.pos 2 (x + 1)) 3 0 } })
      if j % 2 = 0 && j + 1 < n then .ok (r2.upd (fun t => { t with win := { t.win with unit := [lineOf o.bytes] } }))
      else
        let lo := if j % 2 = 1 then slice (lineBytes part) 0 32 else o.bytes
        let hi := if j % 2 = 1 then o.bytes else List.replicate 32 (codeOf (fOut r1.t.mem).zp)
        (r2.upd (fun t => { t with win := { t.win with unit := [] } })).result e ob 0 (fmtOut r1.t.mem) (lineOf (lo ++ hi))
/-- One ck of DW3 or DW5: one column of the window; a pixel needs a whole window at the start of a row and as many columns as
the stride after it, and waits for the rest of them (04 R217). -/
def dwStep (mode size q n ob : Nat) (e : TEnv) (j : Nat) (r : TileRun) : StepRes :=
  let x := Tab.at_ 0 r.t.win.pos 2
  let have_ := Tab.at_ 0 r.t.win.pos 3
  let start := x % max 1 (fWidth r.t.mem) = 0
  let need := if start then size else fStride r.t.mem
  let r0 := if start && have_ = 0 then r.upd (fun t => { t with win := { t.win with cols := [] } }) else r
  let qs := (List.range (dwQueues size)).map (fun i => q + i)
  let sends := !(j % 2 = 0 && j + 1 < n)
  let whole := need ≤ have_ + 1
  withHeads e qs r0 (whole && sends && r.lacksRR ob) (fun hs =>
    let r1 := (qs.foldl (fun y i => y.pop i e.now) r0).upd (fun t => t.dwPush size hs)
    if whole then dwPixel mode size n ob x e j r1
    else .part (r1.upd (fun t => { t with win := { t.win with pos := Tab.set_ 0 t.win.pos 3 (have_ + 1) } })))
def State.dwRun (s : State) (k mode size q n ob : Nat) : State := s.runCounted k n 1 (dwStep mode size q n ob)
def execDepthwise (t : TileLoc) (mode size : Nat) (e : Ecc) (s : State) : State :=
  s.issue t.key (fun o => match o with
    | .fire m _ _ _ _ _ => tileKind t.key == 3 && m.toNat == mode
    | _ => false) (fun i s => match i.op with
    | .fire _ q n1 ob _ _ =>
      s.reading t (some (Config.fieldPlace (2 ^ 16 + 64 * ((s.tile t.key).ar 0).toNat) / 8)) e
        (fun s => s.dwRun t.key mode size q.toNat (n1.toNat + 1) ob.toNat)
    | _ => s)
def execFireDw3 (r : TileRead) (s : State) : Host.Outcome State Fault Refusal := .next (execDepthwise r.loc 9 3 r.ecc s)
def execFireDw5 (r : TileRead) (s : State) : Host.Outcome State Fault Refusal := .next (execDepthwise r.loc 10 5 r.ecc s)

/-! ## Cistern ports (03 R129, R159, R160, R164; 04 R193–R217, R229, R230) -/

def Tile.winDesc (t : Tile) (g : Nat) : WinDesc := match t.cfg with
  | some c => c.win.getD g ⟨0, 0, 0, 0⟩
  | none => ⟨0, 0, 0, 0⟩
def Tile.bandIx (t : Tile) : Nat := t.win.bandIdx - 1
/-- The SRAM row of token `j` of a WRITE from row `a`: it wraps in the line-buffer region that holds `a` (04 R193). -/
def Tile.writeRow (t : Tile) (a j : Nat) : Nat :=
  let ds := (match t.cfg with
    | some c => c.win
    | none => [])
  match ds.find? (fun d => decide (d.lbBase ≤ a) && decide (a < d.lbBase + d.lbRows * d.rowPitch)) with
  | some d => (d.lbBase + (a - d.lbBase + j) % max 1 (d.lbRows * d.rowPitch)) % 8192
  | none => (a + j) % 8192
/-- The port a transfer of `mode` uses: P0 WRITE, P1 WIN0 and READ, P2 WIN1, P3 MRD and MWR (03 Table 3.2). -/
def portOf (mode : Nat) : Nat := match mode with
  | 0 => 0
  | 1 => 1
  | 2 => 2
  | 3 => 1
  | _ => 3

/-- WRITE: one token into SRAM (03 Table 3.6; 08 R372). -/
def writeTransfer (q addr : Nat) (e : TEnv) (j : Nat) (r : TileRun) : StepRes :=
  withHead e q r false (fun k => k == 0) (fun h =>
    let row := r.t.writeRow addr j
    let r1 := (r.pop q e.now).upd (fun t =>
      { t with mem := writeBytes t.mem (64 * row) (lineBytes h.tok.payload), poison := t.poison.filter (fun p => p / 8 != row),
               win := { t.win with fmt := BitVec.ofNat 3 (tagFmt h.tok.tag) } })
    .ok { r1 with rows := r1.rows ++ [row] })
/-- The result of a port: on the route it was issued with, or into a buffer (03 R159). -/
def TileRun.portResult (r : TileRun) (e : TEnv) (ob : Nat) (route : BitVec 10) (kind fmt : Nat) (p : Line) : StepRes :=
  if ob = 0 then sendStep (r.send e route kind fmt false p e.now) else r.result e ob kind fmt p
/-- Where the map of window `g` begins, for the tile's band. -/
def Tile.winBase (t : Tile) (g bandLines : Nat) : Nat := (t.winDesc g).mapBase bandLines t.bandIx
/-- The words that the next token of window `g` reads. -/
def Tile.winUnits (t : Tile) (g bandLines : Nat) : List Nat :=
  (t.winDesc g).units (t.winBase g bandLines) t.bandIx (Tab.at_ 0 t.win.patch g) (Tab.at_ 0 t.win.pos g)
/-- WIN0, WIN1: the generator's next token (04 R194, R195). -/
def winTransfer (g ob : Nat) (route : BitVec 10) (e : TEnv) (r : TileRun) : StepRes :=
  let d := r.t.winDesc g
  let p := Tab.at_ 0 r.t.win.pos g
  match (r.t.winUnits g e.bandLines).find? (fun w => r.t.poison.contains w) with
  | some w => .fault 0x0302 (w / 8) 0 0
  | none =>
    (r.upd (fun t => { t with win := { t.win with pos := Tab.set_ 0 t.win.pos g (p + 1) } })).portResult e ob route 0
      r.t.win.fmt.toNat (d.token r.t.mem (r.t.winBase g e.bandLines) r.t.bandIx (Tab.at_ 0 r.t.win.patch g) p)
/-- READ: one SRAM row as a token, SCALE on the routes that carry scales (05 "Scale tokens"). DESIGN CHOICE
(notes/assumptions/112.md): the token's FMT, as that of WIN's, is that of the last token written. -/
def readTransfer (addr ob : Nat) (route : BitVec 10) (e : TEnv) (j : Nat) (r : TileRun) : StepRes :=
  let row := (addr + j) % 8192
  match r.t.poisonIn row 1 with
  | some w => .fault 0x0302 (w / 8) 0 0
  | none =>
    r.portResult e ob route (if Config.scaleRoute e.digest e.key route then 1 else 0) r.t.win.fmt.toNat
      (lineOf (readBytes r.t.mem (64 * row) 64))
/-- MRD: the read of one token, or of a unit at its first token, goes to HBM (04 R229, R230). -/
def mrdTransfer (d q : Nat) (_e : TEnv) (j : Nat) (r : TileRun) : StepRes :=
  let x := r.t.dline d
  if x.rate ≠ 0 && j % 16 ≠ 0 then .ok r
  else
    let off := Tab.at_ 0 r.t.win.dlOff (2 * d)
    let n := if x.rate = 0 then 1 else unitTransfers x.rate
    let rd : HbmRead := { queue := q, dline := d, unit := x.rate, tokens := if x.rate = 0 then 1 else 16,
                          addr := x.addr (x.readSlot r.t.bandIx) off, gen := r.t.gen,
                          early := decide (r.t.bandIx < x.delay) }
    .ok (r.upd (fun t => { t with win := { t.win with reads := t.win.reads ++ [rd], dlOff := Tab.set_ 0 t.win.dlOff (2 * d) (off + n) } }))
/-- MWR: one token to HBM, or into the unit being written, which is stored with its sixteenth token (04 R224, R229). DESIGN
CHOICE (notes/assumptions/112.md): as a FIRE, it takes DATA tokens only. -/
def mwrTransfer (d q : Nat) (e : TEnv) (r : TileRun) : StepRes :=
  withHead e q r false (fun k => k == 0) (fun h =>
    let x := r.t.dline d
    let off := Tab.at_ 0 r.t.win.dlOff (2 * d + 1)
    let a := x.addr (x.writeSlot r.t.bandIx) off
    let r1 := r.pop q e.now
    let step : Nat → Tile → Tile := fun n t => { t with win := { t.win with dlOff := Tab.set_ 0 t.win.dlOff (2 * d + 1) (off + n) } }
    if x.rate = 0 then .ok { r1.upd (step 1) with writes := r1.writes ++ [(a, lineBytes h.tok.payload)] }
    else
      let u := r1.t.win.unit ++ [h.tok.payload]
      if u.length < 16 then .ok (r1.upd (fun t => { t with win := { t.win with unit := u } }))
      else
        let r2 := r1.upd (fun t => step (unitTransfers x.rate) { t with win := { t.win with unit := [] } })
        .ok { r2 with writes := r2.writes ++ [(a, encodeUnit x.rate x.sgn u)] })

/-- One transfer of a port. `d` is the buffer of a FIRE, the descriptor of an MRD or MWR. -/
def transferStep (mode q d addr : Nat) (route : BitVec 10) (e : TEnv) (j : Nat) (r : TileRun) : StepRes :=
  match mode with
  | 0 => writeTransfer q addr e j r
  | 1 => winTransfer 0 d route e r
  | 2 => winTransfer 1 d route e r
  | 3 => readTransfer addr d route e j r
  | 4 => mrdTransfer d q e j r
  | _ => mwrTransfer d q e r

/-- Issue a transfer of `n` tokens: in the background for one ck under BG, else one token a ck; a port still busy makes the
instruction wait, which counts as firing (03 R129, R160). -/
def State.port (s : State) (k mode q d n : Nat) (bg : Bool) : State :=
  let t := s.tile k
  let a := (t.ar 0).toNat
  if t.win.jobs.any (fun x => x.port == portOf mode) || (!bg && reservedCk s.now) then s.setTile k (t.waits .port)
  else if bg then
    let job : BgJob := ⟨portOf mode, mode, q, d, n, 0, a, t.seq.rr⟩
    s.setTile k ({ t with win := { t.win with jobs := t.win.jobs ++ [job] } }.advance.spend 1 true)
  else s.runCounted k n 1 (transferStep mode q d a t.seq.rr)
/-- The word that a READ or a generator reads first. -/
def State.portWord (s : State) (k mode : Nat) : Option Nat :=
  let t := s.tile k
  match mode with
  | 1 => (t.winUnits 0 s.bandLines).head?
  | 2 => (t.winUnits 1 s.bandLines).head?
  | 3 => some ((t.ar 0).toNat % 8192 * 8)
  | _ => none

def execCistern (t : TileLoc) (mode : Nat) (e : Ecc) (s : State) : State :=
  s.issue t.key (fun o => match o with
    | .fire m _ _ _ _ _ => tileKind t.key == 2 && m.toNat == mode
    | _ => false) (fun i s => match i.op with
    | .fire _ q n1 ob _ bg =>
      s.reading t (s.portWord t.key mode) e (fun s => s.port t.key mode q.toNat ob.toNat (n1.toNat + 1) (bg == 1))
    | _ => s)
def execFireWrite (t : TileLoc) (s : State) : Host.Outcome State Fault Refusal := .next (execCistern t 0 .clean s)
def execFireWin0 (r : TileRead) (s : State) : Host.Outcome State Fault Refusal := .next (execCistern r.loc 1 r.ecc s)
def execFireWin1 (r : TileRead) (s : State) : Host.Outcome State Fault Refusal := .next (execCistern r.loc 2 r.ecc s)
def execFireRead (r : TileRead) (s : State) : Host.Outcome State Fault Refusal := .next (execCistern r.loc 3 r.ecc s)
def State.mrdRun (s : State) (k d q n : Nat) (bg : Bool) : State := s.port k 4 q d n bg
def execTMrd (t : TileLoc) (s : State) : Host.Outcome State Fault Refusal :=
  .next (s.issue t.key (fun o => match o with
    | .mrd _ _ _ _ => true
    | _ => false) (fun i s => match i.op with
    | .mrd d q bg n1 => s.mrdRun t.key d.toNat q.toNat (n1.toNat + 1) (bg == 1)
    | _ => s))
def State.mwrRun (s : State) (k d q n : Nat) (bg : Bool) : State := s.port k 5 q d n bg
def execTMwr (r : TileRead) (s : State) : Host.Outcome State Fault Refusal :=
  .next (s.issue r.loc.key (fun o => match o with
    | .mwr _ _ _ _ => true
    | _ => false) (fun i s => match i.op with
    | .mwr d q bg n1 =>
      let s1 := s.mwrRun r.loc.key d.toNat q.toNat (n1.toNat + 1) (bg == 1)
      if (s1.tile r.loc.key).busy = 0 then s1 else s1.writeParity r.ecc
    | _ => s))

/-- One background transfer of the job at place `i` of a tile's jobs, in a ck that passes; answers whether it went. -/
def State.jobStep (s : State) (k i : Nat) : State × Bool :=
  let t := s.tile k
  match t.win.jobs[i]? with
  | none => (s, false)
  | some job =>
    match transferStep job.mode job.q job.d job.addr job.route (s.tenv k) job.done (TileRun.of t) with
    | .ok r => (s.bringBack k (r.upd (fun x => { x with win := { x.win with jobs := x.win.jobs.set i { job with done := job.done + 1 } } })), true)
    | .lack qs _ => ((match qs.find? (fun q => t.held q) with
      | some q => s.tileCond k 0x0204 q (t.usable q) (job.n - job.done)
      | none => s), false)
    | .fault code d0 d1 d2 => (s.tileCond k code d0 d1 d2, false)
    | .part _ => (s, false)
/-- The background transfers of a tile in one ck: one for each port at work, none in a reserved ck or after a fault (03 R129,
R160, R178). -/
def State.jobsTick (s : State) (k : Nat) : State × Bool :=
  if reservedCk s.now || (s.tile k).cond.isSome || (s.tile k).fault.isSome then (s, false)
  else
    let r := (List.range (s.tile k).win.jobs.length).foldl (fun a i =>
      let x := a.1.jobStep k i
      (x.1, a.2 || x.2)) (s, false)
    (r.1.onTile k (fun t => { t with win := { t.win with jobs := t.win.jobs.filter (fun x => decide (x.done < x.n)) } }), r.2)

/-! ## HBM responses (04 R226, R227, R230, R231; 08 R374, R375, R380, R383, R410) -/

/-- A fault that a hub or memory unit raises on behalf of a tile: the record, then containment. -/
def State.cellarFault (s : State) (k code addr : Nat) (names : Nat) (d1 : Nat) : State :=
  let t := s.tile k
  s.faultContain { err code with loc := names, kind := if code = 0x0305 then tileKind k else 0, gen := t.gen.toNat,
                                 pavilion := (match t.cfg with
                                   | some c => c.pavilion.toNat
                                   | none => 0xFFFF), pc := if code = 0x0305 then t.pc.toNat else 0, band := t.band.toNat,
                                 d0 := addr, d1 := d1 }
/-- Tokens of a read are ready for its held queue, which they enter at one a ck, over no route (04 R231). -/
def State.deliverRead (s : State) (k : Nat) (rd : HbmRead) (sgn : Bool) (ls : List Line) : State :=
  let ts := ls.map (fun l => (rd.queue, mkToken (mkTag rd.gen 0 (if sgn then 0 else 1) 0 false 0) l))
  s.onTile k (fun t => { t with win := { t.win with feed := t.win.feed ++ ts } })
/-- A read of a band before the line's first one is made all the same, and PADV is delivered in place of what it finds (04 R230),
as for a read of an unfilled block (08 R410). -/
def execHbmReadResponse (t : TileLoc) (e : Ecc) (s : State) : Host.Outcome State Fault Refusal :=
  let k := t.key
  let x := s.tile k
  match x.win.reads with
  | [] => .next s
  | rd :: rest =>
    let s0 := s.setTile k { x with win := { x.win with reads := rest } }
    let d := x.dline rd.dline
    let n := if rd.unit = 0 then 64 else 64 * unitTransfers rd.unit
    let unfilled := (blocksOf rd.addr n).any (fun b => !(s0.blockFilled b.1 b.2))
    let got := s0.hbmRead rd.addr n
    let s1 := got.1.eccFind (.hbm (rd.addr / 8)) e
    if rd.early || unfilled then .next (s1.deliverRead k rd d.sgn (List.replicate rd.tokens (lineOf (List.replicate 64 d.padv))))
    else
      match s1.hbmPoisoned rd.addr n with
      | some p =>
        let o := s1.regionOf 0 0 (8 * p)
        .next (s1.cellarFault k 0x0302 (8 * p) (memLoc s1.ident (.hbm p)) (o.1 + o.2 * 2 ^ 16 + 2 ^ 24))
      | none =>
        match decodeUnit rd.unit d.sgn got.2 with
        | some ls => .next (s1.deliverRead k rd d.sgn (ls.take rd.tokens))
        | none => .next (s1.cellarFault k 0x0305 rd.addr (tileLocWord k) 0)

/-! ## Gates (03 Table 3.6) -/

/-- FIRE IN: a token from the die link on RR, or into a buffer. The die link's tokens stand in queue 8
(notes/assumptions/11.md). -/
def gateInStep (ob : Nat) (e : TEnv) (_j : Nat) (r : TileRun) : StepRes :=
  withHead e 8 r (r.lacksRR ob) (fun k => k == 0) (fun h =>
    (r.pop 8 e.now).result e ob 0 (tagFmt h.tok.tag) h.tok.payload)
/-- FIRE OUT: a token of IQ[q] to the die link, which takes none where it leads nowhere (02 R92). -/
def gateOutStep (q : Nat) (up : Bool) (e : TEnv) (_j : Nat) (r : TileRun) : StepRes :=
  if up then withHead e q r false (fun k => k == 0) (fun h =>
    let r1 := r.pop q e.now
    .ok { r1 with link := r1.link ++ [{ h with org := none }] })
  else .lack [] true
def State.gateInRun (s : State) (k n ob : Nat) : State := s.runCounted k n 1 (gateInStep ob)
def State.gateOutRun (s : State) (k q n : Nat) : State := s.runCounted k n 1 (gateOutStep q (s.linkUpAt k))
def execFireIn (t : TileLoc) (s : State) : Host.Outcome State Fault Refusal :=
  .next (s.issue t.key (fun o => match o with
    | .fire m _ _ _ _ _ => tileKind t.key == 0 && m.toNat == 0
    | _ => false) (fun i s => match i.op with
    | .fire _ _ n1 ob _ _ => s.gateInRun t.key (n1.toNat + 1) ob.toNat
    | _ => s))
def execFireOut (t : TileLoc) (s : State) : Host.Outcome State Fault Refusal :=
  .next (s.issue t.key (fun o => match o with
    | .fire m _ _ _ _ _ => tileKind t.key == 0 && m.toNat == 1
    | _ => false) (fun i s => match i.op with
    | .fire _ q n1 _ _ _ => s.gateOutRun t.key q.toNat (n1.toNat + 1)
    | _ => s))

/-! ## Instructions that go on (03 R149, R154, R170) -/

/-- The next ck of a FIRE by the kind of its tile. -/
def State.fireOn (s : State) (k mode q n ob : Nat) (w4 bg : Bool) : State :=
  match tileKind k with
  | 0 => if mode = 0 then s.gateInRun k n ob else s.gateOutRun k q n
  | 1 => s.macRun k q n w4
  | 2 => s.port k mode q ob n bg
  | _ => if mode < 9 then s.fountain k mode q n ob
         else if mode = 9 then s.dwRun k 9 3 q n ob else s.dwRun k 10 5 q n ob
/-- The next ck of an instruction that has issued; the others are over in their issue ck. -/
def State.runOn (s : State) (k : Nat) (o : TOp) : State := match o with
  | .waitq q n1 => s.waitqRun k q.toNat (n1.toNat + 1)
  | .recv q b => s.recvRun k q.toNat b.toNat
  | .drop q n1 => s.dropRun k q.toNat (n1.toNat + 1)
  | .send b r => s.sendRun k b.toNat r
  | .fwd q n1 r => s.fwdRun k q.toNat (n1.toNat + 1) r
  | .ldsc q n1 => s.ldscRun k q.toNat (n1.toNat + 1)
  | .fire m q n1 ob w4 bg => s.fireOn k m.toNat q.toNat (n1.toNat + 1) ob.toNat (w4 == 1) (bg == 1)
  | .acc q n1 => s.accRun k q.toNat (n1.toNat + 1)
  | .drain r n1 raw => s.drainRun k r (n1.toNat + 1) (raw == 1)
  | .rqh r n1 => s.rqhRun k r (n1.toNat + 1)
  | .mrd d q bg n1 => s.mrdRun k d.toNat q.toNat (n1.toNat + 1) (bg == 1)
  | .mwr d q bg n1 => s.mwrRun k d.toNat q.toNat (n1.toNat + 1) (bg == 1)
  | .begin_ m => s.beginStep k m
  | .bend m => s.bendStep k m
  | _ => s
/-- A tile goes on with its instruction in the ck that ends, unless the instruction has issued in it. -/
def State.goOn (s : State) (k : Nat) : State :=
  let t := s.tile k
  if t.going && t.busy == 0 && t.cond.isNone && s.tileOn k && (t.phase == .running || t.phase == .drained) then
    (match decodeTile t.fetch with
      | some i => s.runOn k i.op
      | none => s)
  else s

end Sys2Proof.Machine
end

