-- ==== Sys2Proof/Machine/GthOps.lean ====
section
/-!
DEFINITION. Flat-field tables (06 R292) and the settings that an image loads into the Gatehouse and the Kiosk (06 R322).
-/
namespace Sys2Proof.Machine

/-- Place of GTH_FF[n][c] of a bank. -/
def ffKey (bank : Bool) (n c : Nat) : Nat := b2n bank * 2 ^ 17 + n * 8192 + c
def State.ffWord (s : State) (bank : Bool) (n c : Nat) : Word := Tab.at_ 0 s.gth.ff (ffKey bank n c)
/-- A write of GTH_FF reaches the inactive bank, and none while FF_PENDING is 1 (R292). -/
def State.writeFf (s : State) (n c : Nat) (v : Word) : State :=
  if (s.cam n).bankWanted.isSome then s
  else { s with gth := { s.gth with ff := Tab.set_ 0 s.gth.ff (ffKey (!(s.cam n).bank) n c) v } }

end Sys2Proof.Machine
end

