-- ==== Sys2Proof/Machine/HubNets.lean ====
section
/-!
DEFINITION. The networks that hub units compute: the first layer on the Gatehouse engine (06 R294) and the last layer in the
Kiosk (06 R300, R301), with their parameters. Where a parameter lies in its store is open (notes/assumptions/4.md).
-/
namespace Sys2Proof.Machine

/-! ## The grid and the requantiser of a hub unit (05 R244–R263) -/

/-- Sum of a list of products and of their residues modulo 7 (05 R246, R260). -/
def stepSum (ps : List (Int × Int)) : Int × Nat :=
  ps.foldl (fun a p => (a.1 + p.1 * p.2, (a.2 + mod7 p.1 * mod7 p.2) % 7)) (0, 0)
/-- A grid of `n` cells adds the exact sum of `n` products a cycle to its accumulator, with saturation. DESIGN CHOICE
(notes/assumptions/113.md): the products come in the order kernel row, kernel column, channel. -/
def gridSum (n : Nat) (ps : List (Int × Int)) : AccCell :=
  (List.range ((ps.length + n - 1) / n)).foldl (fun c j =>
    let x := stepSum ((ps.drop (n * j)).take n)
    (accAdd c x.1 x.2).1) AccCell.zero
/-- One output: its value as a code, whether it saturated, and a residue that disagrees, found and expected. -/
structure NetOut where
  v : Int
  sat : Bool
  miss : Option (Nat × Nat)
  deriving DecidableEq, Repr
/-- The accumulator's residue is checked, the bias added, and the sum requantised with its own check (05 R254, R261, R262). -/
def netOut (c : OutCfg) (acc : AccCell) (bias : Int) (rec_ resc : Word) : NetOut :=
  let v := (sat32 (acc.v + bias)).1
  let o := requant c v (scaleMult rec_) (scaleMult resc) (scaleShift rec_ + scaleShift resc + 23)
  let m := if acc.ex then none else residueMiss acc.v acc.r
  ⟨o.1, o.2, match m with
    | some x => some x
    | none => scaleMiss v (scaleMult rec_) (scaleMult resc)⟩

/-! ## Rows that a window reads (04 R200, R209, R213) -/

/-- The row, counted from the stream's first, and the column that a tap at (`iy`, `ix`) of frame `f` reads; none where it
reads PADV. Without FUSED there is one frame without end. -/
def WinDesc.tap (d : WinDesc) (f iy ix : Int) : Option (Int × Nat) :=
  let out := iy < 0 || (d.fused && decide ((d.frameH : Int) ≤ iy)) || ix < 0 || decide ((d.imgW : Int) ≤ ix)
  if out && !d.repl then none
  else
    let y := if d.fused then f * (d.frameH : Int) + max 0 (min ((d.frameH : Int) - 1) iy) else max 0 iy
    some (y, (max 0 (min ((d.imgW : Int) - 1) ix)).toNat)
/-- The frame of output row `oy`, counted from the stream's first, and the row within it; a frame is `bands` bands. -/
def WinDesc.frameRow (d : WinDesc) (bands : Nat) (oy : Int) : Int × Int :=
  let n : Int := ((bands * d.outRows : Nat) : Int)
  if d.fused then (oy / n, oy % n) else (0, oy)
/-- Taps of a window in the order of 04 R194. -/
def WinDesc.taps (d : WinDesc) : List (Nat × Nat) :=
  (List.range d.kh).flatMap (fun ky => (List.range d.kw).map (fun kx => (ky, kx)))

/-- A descriptor from eight parameters. -/
def winParam (m : List Host.Cell) (b : Nat) : WinDesc :=
  let w : Nat → DWord := fun k => joinWords (storeField m (b + 2 * k + 1)) (storeField m (b + 2 * k))
  ⟨w 0, w 1, w 2, w 3⟩
def dwordParam (m : List Host.Cell) (b : Nat) : DWord := joinWords (storeField m (b + 1)) (storeField m b)

/-! ## The Gatehouse engine (06 R294) -/

/-- The layer of camera group `g` of an engine. -/
structure Engine where
  win : WinDesc
  num : DWord
  cout : Nat
  base : Nat
  store : List Host.Cell
def Engine.at_ (m : List Host.Cell) (g : Nat) : Engine :=
  let b := g * 2 ^ 15
  { win := winParam m b, num := dwordParam m (b + 8), cout := (storeField m (b + 10)).toNat % 64 + 1, base := b + 16, store := m }
def Engine.record (e : Engine) (k : Nat) : Word := storeField e.store (e.base + k)
def Engine.bias (e : Engine) (k : Nat) : Int := (storeField e.store (e.base + 64 + k)).toInt
def Engine.weightNo (e : Engine) (k ky kx ci : Nat) : Nat := e.base + 128 + ((k * 7 + ky) * 7 + kx) * 4 + ci
def Engine.weight (e : Engine) (k ky kx ci : Nat) : Int := signed 8 (storeField e.store (e.weightNo k ky kx ci)).toNat
/-- Parameters of the layer with `cin` input channels, for the poison check (08 R374). -/
def Engine.params (e : Engine) (cin : Nat) : List Nat :=
  (List.range 11).map (fun j => e.base - 16 + j) ++
  (List.range e.cout).flatMap (fun k => [e.base + k] ++ (if numBiasEn e.num then [e.base + 64 + k] else []) ++
    e.win.taps.flatMap (fun t => (List.range cin).map (fun ci => e.weightNo k t.1 t.2 ci)))
/-- Pixel of one camera: held rows start at row `base` of the stream. -/
def Engine.input (e : Engine) (rows : List (List Byte)) (base f iy ix : Int) : Byte :=
  match e.win.tap f iy ix with
  | none => e.win.padv
  | some (y, x) => if y < base then e.win.padv else (rows.getD (y - base).toNat []).getD x e.win.padv
/-- One output of row `oy` of the stream (05 R244–R254). -/
def Engine.output (e : Engine) (resc : Word) (cams : List (List (List Byte))) (bandLines : Nat) (base oy : Int) (ox k : Nat) :
    NetOut :=
  let d := e.win
  let at_ := d.frameRow (d.frameBands bandLines) oy
  let ps := d.taps.flatMap (fun t => (List.zip (List.range cams.length) cams).map (fun c =>
    let iy := at_.2 * (d.sh : Int) - (d.padT : Int) + (t.1 : Int)
    let ix := ((ox * d.sw + t.2 : Nat) : Int) - (d.padL : Int)
    (codeVal (numInUns e.num) (e.input c.2 base at_.1 iy ix).toNat - numInZp e.num, e.weight k t.1 t.2 c.1)))
  netOut (numOut e.num) (gridSum 16 ps) (if numBiasEn e.num then e.bias k else 0) (e.record k)
    (if numRescaleEn e.num then resc else unitRescale)
/-- What one group's band gives: tokens, requantiser saturations, and the first residue that disagrees (output row, channel,
found, expected). -/
structure EngineOut where
  toks : List Line
  sat : Nat
  miss : Option (Nat × Nat × Nat × Nat)
  deriving DecidableEq, Repr
/-- One record of 16 channels: its codes, saturations, and the first residue that disagrees. -/
structure RecordOut where
  bytes : List Byte
  sat : Nat
  miss : Option (Nat × Nat × Nat × Nat)
  deriving DecidableEq, Repr
/-- Channels `16 · cb` and on of one output pixel; those past Cout hold OUT_ZP. -/
def Engine.pixel (e : Engine) (resc : Word) (cams : List (List (List Byte))) (bandLines : Nat) (base oy : Int) (r ox cb : Nat) :
    RecordOut :=
  let os := (List.range 16).map (fun c =>
    if e.cout ≤ 16 * cb + c then (⟨(numOut e.num).zp, false, none⟩ : NetOut)
    else e.output resc cams bandLines base oy ox (16 * cb + c))
  ⟨os.map (fun o => codeOf o.v), (os.filter (fun o => o.sat)).length,
   (List.range 16).findSome? (fun c => (os[c]?.bind NetOut.miss).map (fun x => (r, 16 * cb + c, x.1, x.2)))⟩
/-- The tokens of the band with index `i` of one group (04 R199; 06 R294). -/
def Engine.tokens (e : Engine) (resc : Word) (cams : List (List (List Byte))) (bandLines : Nat) (base : Int) (i : Nat) : EngineOut :=
  let d := e.win
  let recs := (List.range d.outRows).flatMap (fun r => (List.range (d.outW / 4)).flatMap (fun g =>
    (List.range ((e.cout + 15) / 16)).map (fun cb => (List.range 4).map (fun j =>
      e.pixel resc cams bandLines base ((i * d.outRows + r : Nat) - (d.lag : Int)) r (d.outX0 + 4 * g + j) cb))))
  ⟨recs.map (fun q => lineOf (q.flatMap RecordOut.bytes)), recs.foldl (fun n q => q.foldl (fun n x => n + x.sat) n) 0,
   recs.findSome? (fun q => q.findSome? RecordOut.miss)⟩
/-- Hub fabric cycles of a group's band (06 R294). -/
def Engine.cycles (e : Engine) (cin : Nat) : Nat :=
  e.win.outRows * e.win.outW * ((e.cout + 15) / 16) * ((e.win.kh * e.win.kw * cin + 15) / 16)

/-! ## The Kiosk's last layer (06 R300, R301, R309) -/

def kskField (m : List Host.Cell) (j : Nat) : Word := storeField m j
/-- SX and SY, the total strides (R309). -/
def kskStrideX (m : List Host.Cell) : Nat := max 1 (kskField m 33).toNat
def kskStrideY (m : List Host.Cell) : Nat := max 1 (kskField m 34).toNat
/-- The numeric fields of the layer, as those of an arbor (05 Table 5.2). -/
def kskNum (m : List Host.Cell) : DWord := dwordParam m 35
def kskCin (m : List Host.Cell) : Nat := (kskField m 37).toNat
def kskClasses (m : List Host.Cell) : Nat := (kskField m 38).toNat
/-- The descriptor of camera `n`'s windows: its class map is OUT_W wide. -/
def kskWin (m : List Host.Cell) (n : Nat) : WinDesc := winParam m (128 + 16 * n)
/-- The camera whose rows a ROUTE carries; none of a route that is not this Kiosk's. -/
def kskCamOf (m : List Host.Cell) (route : Nat) : Option Nat :=
  let v := fld (kskField m (1024 + route)) 0 5
  if v = 0 || 16 < v then none else some (v - 1)
/-- Cameras that the Kiosk serves. -/
def kskCams (m : List Host.Cell) : List Nat :=
  (List.range 16).filter (fun n => (List.range 1024).any (fun r => kskCamOf m r == some n))
def kskWeightNo (k ky kx ci : Nat) : Nat := 4096 + ((k * 3 + ky) * 3 + kx) * 256 + ci
def kskWeight (m : List Host.Cell) (k ky kx ci : Nat) : Int := signed 8 (kskField m (kskWeightNo k ky kx ci)).toNat
/-- Blocks of 16 channels, and tokens of an input row of camera `n`: groups of four pixels, each with its blocks (04 R194). -/
def kskBlocks (m : List Host.Cell) : Nat := (kskCin m + 15) / 16
def kskRowTokens (m : List Host.Cell) (n : Nat) : Nat := ((kskWin m n).imgW + 3) / 4 * kskBlocks m
/-- Parameters that a row of camera `n` uses, for the poison check (08 R374). -/
def kskParams (m : List Host.Cell) (n : Nat) : List Nat :=
  (List.range 6).map (fun j => 33 + j) ++ (List.range 8).map (fun j => 128 + 16 * n + j) ++
  (List.range (kskClasses m)).flatMap (fun k => [k, 16 + k] ++
    (kskWin m n).taps.flatMap (fun t => (List.range (kskCin m)).map (fun ci => kskWeightNo k t.1 t.2 ci)))
/-- Channel `ci` of column `x` of an input row. -/
def kskPixel (m : List Host.Cell) (row : List Line) (x ci : Nat) : Byte :=
  lineByte (row.getD (x / 4 * kskBlocks m + ci / 16) 0) (16 * (x % 4) + ci % 16)
/-- Input of a tap: the held rows end with row `n - 1` of the stream. -/
def kskInput (m : List Host.Cell) (d : WinDesc) (rows : List (List Line)) (n : Nat) (f iy ix : Int) (ci : Nat) : Byte :=
  match d.tap f iy ix with
  | none => d.padv
  | some (y, x) =>
    let at_ := y - ((n - rows.length : Nat) : Int)
    if at_ < 0 then d.padv else match rows[at_.toNat]? with
      | some row => kskPixel m row x ci
      | none => d.padv
/-- The score of class `k` at column `x` of output row `oy` of the stream (R301); a frame is `bands` bands. -/
def kskScore (m : List Host.Cell) (d : WinDesc) (rows : List (List Line)) (n bands : Nat) (oy : Int) (x k : Nat) : NetOut :=
  let num := kskNum m
  let at_ := d.frameRow bands oy
  let ps := d.taps.flatMap (fun t => (List.range (kskCin m)).map (fun ci =>
    (codeVal (numInUns num) (kskInput m d rows n at_.1 (at_.2 - (d.padT : Int) + (t.1 : Int))
      (((d.outX0 + x + t.2 : Nat) : Int) - (d.padL : Int)) ci).toNat - numInZp num, kskWeight m k t.1 t.2 ci)))
  let o := numOut num
  netOut { o with uns := false, zp := signed 8 (numByte num 2), clo := signed 8 (numByte num 3), chi := signed 8 (numByte num 4) }
    (gridSum 64 ps) (kskField m (16 + k)).toInt (kskField m k) unitRescale
/-- Scores of one class-map row, column by column. -/
def kskRow (m : List Host.Cell) (d : WinDesc) (rows : List (List Line)) (n bands : Nat) (oy : Int) : List (List NetOut) :=
  (List.range d.outW).map (fun x => (List.range (kskClasses m)).map (kskScore m d rows n bands oy x))
/-- The first residue of a row that disagrees: column, class, found, expected. -/
def rowMiss (row : List (List NetOut)) : Option (Nat × Nat × Nat × Nat) :=
  (List.zip (List.range row.length) row).findSome? (fun p =>
    (List.zip (List.range p.2.length) p.2).findSome? (fun q => q.2.miss.map (fun x => (p.1, q.1, x.1, x.2))))
/-- The first row of the stream that row `oy` and those after it read. -/
def WinDesc.firstRow (d : WinDesc) (bands : Nat) (oy : Int) : Nat :=
  let at_ := d.frameRow bands oy
  let y := max 0 (at_.2 * (d.sh : Int) - (d.padT : Int))
  (if d.fused then at_.1 * (d.frameH : Int) + min ((d.frameH : Int) - 1) y else y).toNat
/-- Rows of the stream that must have come before row `oy` can be computed (04 R199). -/
def WinDesc.rowsNeeded (d : WinDesc) (bands : Nat) (oy : Int) : Nat :=
  let at_ := d.frameRow bands oy
  let last := at_.2 * (d.sh : Int) - (d.padT : Int) + ((d.kh : Int) - 1)
  let y := if d.fused then at_.1 * (d.frameH : Int) + max 0 (min ((d.frameH : Int) - 1) last) else last
  (y + 1).toNat
/-- The limits of R300 on the layer that a store holds. -/
def kskLimits (m : List Host.Cell) : Bool :=
  let ds := (kskCams m).map (kskWin m)
  decide (1 ≤ kskCin m) && decide (kskCin m ≤ 256) && decide (1 ≤ kskClasses m) && decide (kskClasses m ≤ 16) &&
  decide (ds.length ≤ 8) &&
  ds.all (fun d => (d.kh == 1 && d.kw == 1 || d.kh == 3 && d.kw == 3) && d.sh == 1 && d.sw == 1 && decide (d.outW ≤ 2048)) &&
  decide (ds.foldl (fun a d => a + d.imgW * kskCin m * 2) 0 ≤ 3 * 2 ^ 19)

end Sys2Proof.Machine
end

