-- ==== Sys2Proof/Machine/StrobeOps.lean ====
section
/-!
DEFINITION. Marker strobes (06 R315–R319).
-/
namespace Sys2Proof.Machine

/-- The H that strobes follow: a group follower uses the leader's (06 R316; 13 R596). -/
def State.strobeH (s : State) : W48 := if s.srcSel = 1 then s.grp.hwm else s.hwm
def State.strobesOf (s : State) (m : Nat) : List Strobe := Tab.at_ [] s.gth.strobes m
def State.setStrobes (s : State) (m : Nat) (l : List Strobe) : State :=
  { s with gth := { s.gth with strobes := Tab.set_ [] s.gth.strobes m l } }

/-- The strobe has no length at the edge that starts it with H at `h` (R316). -/
def Strobe.zero (x : Strobe) (h : W48) : Bool := if x.timed then x.widthUs == 0 else w48le x.stop h
/-- 4 REFCLK cycles, ck (R316). -/
def pulseCk : Nat := 50
/-- The strobe has ended, H standing at `h`, at the ck `now` (R316). -/
def Strobe.ended (x : Strobe) (h : W48) (now : Nat) : Bool :=
  match x.startedAt, x.pulseEnd with
  | none, _ => false
  | some _, some e => decide (e ≤ now)
  | some t, none => if x.timed then decide (t + usCk x.widthUs ≤ now) else w48le x.stop h
/-- Start a strobe that H has reached; one of no length is a pulse. -/
def Strobe.begin_ (x : Strobe) (h : W48) (now : Nat) : Strobe :=
  if x.startedAt.isNone && w48le x.start h then
    { x with startedAt := some now, pulseEnd := if x.zero h then some (now + pulseCk) else none }
  else x

/-- The pins go active and inactive as H reaches `h` (R316, R317): overlapping strobes of one pin merge, and the pin stays
active to the latest end. -/
def State.strobePin (s : State) (h : W48) (m : Nat) : State :=
  let old := s.strobesOf m
  let was := old.any (fun x => x.startedAt.isSome)
  let starts := old.any (fun x => x.startedAt.isNone && w48le x.start h)
  let now := old.map (fun x => x.begin_ h s.now)
  let rest := now.filter (fun x => !(x.ended h s.now))
  let is := rest.any (fun x => x.startedAt.isSome)
  let s1 := s.setStrobes m rest
  let s2 := if !was && starts then s1.send (.mark m true) else s1
  if (was || starts) && !is then s2.send (.mark m false) else s2

def State.markPins (s : State) : List Nat := List.range (8 * s.ident.hubs)
def State.strobesAll (s : State) : State := s.markPins.foldl (fun t m => t.strobePin t.strobeH m) s

/-- Schedule a strobe of pin `m` for positions `first` to `last` (R315, R318); answers whether it was late. -/
def State.schedStrobe (s : State) (first last : W48) (m : Nat) : State × Bool :=
  let c := s.reg (aMark m)
  if bit c 31 = false then (s, false)
  else
    let d := BitVec.ofNat 48 (s.regN (aMark m + 4))
    let x : Strobe :=
      { start := first + d, stop := last + d + BitVec.ofNat 48 (s.regN (aMark m + 8)), timed := bit c 29,
        widthUs := fld c 0 16, startedAt := none, pulseEnd := none }
    let old := s.strobesOf m
    if w48le x.start s.strobeH || decide (64 ≤ old.length) then (s.count (aMark m + 0xC) 1, true)
    else (s.setStrobes m (old ++ [x]), false)

/-- Schedule on every pin of a mask of hub `h` (R315, R321); answers whether some requested strobe was not fired. -/
def State.schedMask (s : State) (h : Nat) (mask : Nat) (first last : W48) : State × Bool :=
  ((List.range 8).filter (fun j => mask / 2 ^ j % 2 == 1)).foldl
    (fun r j => let q := r.1.schedStrobe first last (8 * h + j); (q.1, r.2 || q.2)) (s, false)

/-- The time of a time-mode strobe, or of a pulse, of pin `m` ends. -/
def execStrobeTimeEnd (m : Cam) (s : State) : Host.Outcome State Fault Refusal :=
  .next (if m.val < 8 * s.ident.hubs then s.strobePin s.strobeH m.val else s)

/-- A write of GTH_MARK_REQ_GO (R321). -/
def State.markGo (s : State) (h mask : Nat) : State :=
  if h < s.ident.hubs then (s.schedMask h mask (s.reg48 (aGth h + 0x1100)) (s.reg48 (aGth h + 0x1108))).1 else s
def execGthMarkReqGo (h : Hub) (mask : BitVec 8) (s : State) : Host.Outcome State Fault Refusal :=
  .next (s.markGo h.val mask.toNat)

end Sys2Proof.Machine
end

