-- ==== Sys2Proof/Machine/Ticks.lean ====
section
/-!
DEFINITION. Line ticks (01 R25–R33, R41; 06 R275–R277): the issue of a tick, its stamp, its triggers and the band in
assembly.
-/
namespace Sys2Proof.Machine

/-- The position P of the selected encoder (01 R24). -/
def State.posP (s : State) : W48 := s.encPos s.encSel

/-- FRAME_H of the fused-tile windows of the active image (04 Table 4.1, R212); 0 without one. -/
def State.frameH (s : State) : Nat :=
  match s.load.active with
  | none => 0
  | some i =>
    match (i.tiles.flatMap (fun t => t.cfg.win)).find? (fun d => WinDesc.fused d) with
    | some d => WinDesc.frameH d
    | none => 0

/-- Ticks issued and not yet applied: those of a group leader on their way (13 R594). -/
def State.ticksOnWay (s : State) : Nat := s.grp.ticks.length

/-- Line ticks are issued from RUN to the last tick of the stream's last band (01 R41). -/
def State.ticksAllowed (s : State) : Bool :=
  match s.bell.phase with
  | .running => true
  | .ending => match s.assembling with
    | some b => decide (b.ticks + s.ticksOnWay < s.bandLines)
    | none => false
  | _ => false

/-- The ring keeps the last 16,384 stamps (06 R276). -/
def pushStamp (l : List Stamp) (x : Stamp) : List Stamp := (l ++ [x]).drop (l.length + 1 - 16384)

/-- Trigger and open tick of one camera (06 R275, R277, R285). -/
def State.camTick (s : State) (frameStart : Bool) (o : OpenTick) (n : Nat) : State :=
  let live := s.camEn n && s.camTrig n && !(s.camOff n)
  let inSet := s.bandCams.contains n
  let s1 := if live && (!bit (s.reg (aCam n)) 27 || frameStart) then s.send (.trigger n o.line) else s
  if !(live || inSet) then s1
  else
    let s2 := s1.setCam n { s1.cam n with open_ := (s1.cam n).open_ ++ [o] }
    if s2.camOff n then s2.closeMissing n o false else s2

/-- A band with its first tick (01 R699). -/
def newBand (n : W48) (st : Stamp) : BandRec :=
  { num := n, first := st, last := st, ticks := 1, closed := [], miss := [], bad := [], phase := .assembling, gen := 0,
    tag := 0, holdQty := 0, degraded := st.degraded, verdict := none }

/-- The tick joins the band in assembly (01 R31, R33). -/
def State.bandTick (s : State) (st : Stamp) : State :=
  match s.assembling with
  | none => s.updBell (fun b => { b with bands := b.bands ++ [newBand s.bandNum st] })
  | some r => s.updBand r.num (fun b => { b with last := st, ticks := b.ticks + 1, degraded := b.degraded || st.degraded })

/-- The band's last tick: it waits for its bell, and the band number moves on (01 R31, R32). -/
def State.bandFull (s : State) : State :=
  match s.assembling with
  | none => s
  | some r =>
    if s.bandLines ≤ r.ticks then (s.updBand r.num (fun b => { b with phase := .waiting })).setReg48 aBelBandNum (s.bandNum + 1)
    else s

/-- Apply a line tick with its line number and position (01 R31, R32; 06 R275, R276; 15 R679). -/
def State.applyTick (s : State) (line pos : W48) : State :=
  let st : Stamp := ⟨line, pos, s.ptpNs, s.now, 0, s.degraded⟩
  let s1 : State := { s with gth := { s.gth with stamps := pushStamp s.gth.stamps st } }
  let s2 := s1.bandTick st
  let band := match s2.assembling with
    | some b => b.num
    | none => s.bandNum
  let h := s.frameH
  let frameStart := h == 0 || (line - s.bell.firstLine).toNat % h == 0
  let o : OpenTick := ⟨line, band, s.now⟩
  let s3 := (List.range s.ident.camPorts).foldl (fun t n => t.camTick frameStart o n) s2
  let s4 := (s3.setReg48 aBelLineNum (s.lineNum + 1)).updBell (fun b => { b with lastTickAt := some s.now })
  let s5 := if (List.range 24).any (fun k => Tab.at_ 0 s.pins.func k == 5) then s4.send (.tickOut line) else s4
  s5.bandFull

/-- The first free slot at or after the next ck (13 R594). -/
def State.nextSlot (s : State) : Nat :=
  let b := (s.grpCk / 64 + 1) * 64
  match s.grp.outSlot with
  | some k => max b (k + 64)
  | none => b

/-- BELL_OUT is driven for one slot (13 R594). -/
def State.driveBell (s : State) (slot : Nat) : State :=
  ({ s with grp := { s.grp with outSlot := some slot } } : State).send (.bellOut slot)

/-- Issue one line tick now: applied at once, or, by the leader of a running group, sent over BELL_OUT and TICK and
applied by every member 64 ck after its slot (01 R26; 13 R594, R596). -/
def State.issueTick (s : State) : State :=
  let slot := s.nextSlot
  if s.grp.running then
    let line := s.lineNum + BitVec.ofNat 48 s.ticksOnWay
    let m : TickMsg := ⟨BitVec.ofNat 64 slot, line, s.posP, s.hwm, s.now⟩
    let s1 : State := { s with grp := { s.grp with ticks := s.grp.ticks ++ [m] } }
    let s2 := s1.sendMsg .tick [slot, line.toNat, s.posP.toNat, s.hwm.toNat]
    if s.bellOutEn then (({ s2 with grp := { s2.grp with pulses := s2.grp.pulses ++ [⟨slot, s.now, none⟩] } } : State).driveBell slot)
    else s2
  else
    let s1 := s.applyTick s.lineNum s.posP
    if s.bellOutEn then s1.driveBell slot else s1

/-- Issue `n` ticks, as far as the stream takes them. -/
def State.issueTicks (s : State) : Nat → State
  | 0 => s
  | n + 1 => (if s.ticksAllowed then s.issueTick else s).issueTicks n

/-- The accumulator gives a tick each time it reaches BEL_ENC_DIV and keeps the remainder (01 R26). -/
def State.drainAcc (s : State) : State :=
  let n := s.bell.tickAcc / s.encDiv
  let s1 := s.updBell (fun b => { b with tickAcc := b.tickAcc % s.encDiv })
  if s.srcSel = 0 then s1.issueTicks n else s1

end Sys2Proof.Machine
end

