-- ==== Sys2Proof/Machine/KioskOps.lean ====
section
/-!
DEFINITION. Components of the Kiosk and their records (06 R302–R319).
-/
namespace Sys2Proof.Machine

def State.updKiosk (s : State) (h : Nat) (f : KskState → KskState) : State := s.setKiosk h (f (s.kiosk h))

/-! ## Settings (R304) -/

def ruleOff (r w : Nat) : Nat := 0x200 + 16 * r + 4 * w
/-- Offsets of KSK_CLASS, KSK_MIN_PIX and KSK_RULE. -/
def kskSettings : List Nat :=
  (List.range 32).map (fun j => 0x100 + 4 * j) ++ (List.range 32).flatMap (fun r => [ruleOff r 0, ruleOff r 1, ruleOff r 2])
/-- The settings as they are now. -/
def State.kskNow (s : State) (h : Nat) : Tab Word :=
  kskSettings.foldl (fun m o => Tab.set_ 0 m o (s.reg (aKsk h + o))) []
/-- The settings that band `b` is classified with. -/
def State.kskFor (s : State) (h : Nat) (b : W48) : Tab Word :=
  match (s.kiosk h).force.find? (fun e => e.1 == b) with
  | some e => e.2
  | none => s.kskNow h
/-- The first row of a band fixes its settings. -/
def State.kskEnter (s : State) (h : Nat) (b : W48) : State :=
  if (s.kiosk h).force.any (fun e => e.1 == b) then s
  else
    let now := s.kskNow h
    s.updKiosk h (fun k => { k with force := (((b, now) :: k.force).take 4) })
def ksk (m : Tab Word) (o : Nat) : Word := Tab.at_ 0 m o
def kskClass (m : Tab Word) (k : Nat) : Word := ksk m (0x100 + 4 * k)
def kskMinPix (m : Tab Word) (k : Nat) : Nat := (ksk m (0x140 + 4 * k)).toNat

/-! ## Class-map rows and camera lines (R309, R325) -/

def State.kskSx (s : State) (h : Nat) : Nat := kskStrideX (s.kiosk h).store
def State.kskSy (s : State) (h : Nat) : Nat := kskStrideY (s.kiosk h).store
/-- The image that band `b` runs under. -/
def State.imageFor (s : State) (b : W48) : Option Image :=
  match s.swapAt with
  | some k => if w48le b k then s.load.active else s.load.staged
  | none => s.load.active

def State.lagOf (s : State) (b : W48) : Nat := match s.imageFor b with
  | some i => i.hdr.lagLines
  | none => 0
/-- First line of class-map row `k` emitted with band `b`, counted from the stream's first line (R309). -/
def State.rowOffset (s : State) (h : Nat) (b : W48) (k : Nat) : Int :=
  ((b.toNat * s.bandLines + k * s.kskSy h : Nat) : Int) - (s.lagOf b : Int) - (s.bell.firstLine.toNat : Int)
/-- First line that class-map row `k` of band `b` covers (R309). -/
def State.rowLine (s : State) (h : Nat) (b : W48) (k : Nat) : W48 :=
  b * BitVec.ofNat 48 s.bandLines - BitVec.ofNat 48 (s.lagOf b) + BitVec.ofNat 48 (k * s.kskSy h)
/-- First line of row `j` of the frame that holds the line at offset `o` (R325). -/
def State.frameLine (s : State) (h : Nat) (o : Int) (j : Nat) : W48 :=
  let f : Int := (s.frameH : Nat)
  BitVec.ofInt 48 ((s.bell.firstLine.toNat : Int) + o / f * f + ((j * s.kskSy h : Nat) : Int))

/-! ## Rows in arrival -/

/-- The band whose data camera `n` is receiving. -/
def KskState.dataBand (k : KskState) (n : Nat) : Option W48 :=
  let v := Tab.at_ 0 k.band n
  if v < 2 || v % 2 == 1 then none else some (BitVec.ofNat 48 (v / 2 - 1))
/-- Row of the stream that camera `n` emits next (04 R199). -/
def KskState.nextRow (k : KskState) (n : Nat) : Int :=
  let d := kskWin k.store n
  (((Tab.at_ 0 k.bandIdx n - 1) * d.outRows + Tab.at_ 0 k.bandRow n : Nat) : Int) - (d.lag : Int)
/-- Every class-map row of the band has been emitted. -/
def KskState.bandOut (k : KskState) (n : Nat) : Bool := decide ((kskWin k.store n).outRows ≤ Tab.at_ 0 k.bandRow n)
/-- The end of the band's data has been taken too. -/
def KskState.bandDone (k : KskState) (n : Nat) : Bool := decide ((kskWin k.store n).outRows < Tab.at_ 0 k.bandRow n)
/-- The rows that the next class-map row reads have come (04 R199). -/
def KskState.rowsHere (k : KskState) (n bands : Nat) : Bool :=
  decide ((kskWin k.store n).rowsNeeded bands (k.nextRow n) ≤ Tab.at_ 0 k.rowsIn n)
/-- The Kiosk begins its input afresh (R306; 10 R485; 14 Table 14.7). -/
def KskState.restart (k : KskState) : KskState :=
  { k with rows := [], rowsIn := [], part := [], band := [], bandRow := [], bandIdx := [] }
/-- Bands of a frame (04 R212); 1 without fused tiles. -/
def State.bandsPerFrame (s : State) : Nat := max 1 (s.frameH / max 1 s.bandLines)

/-! ## Records (R309–R315) -/

/-- The band whose rows of camera `n` came last. -/
def KskState.curBand (k : KskState) (n : Nat) : W48 := BitVec.ofNat 48 (Tab.at_ 0 k.lastBand n / 2 - 1)
def State.stampOf (s : State) (line : W48) : Option Stamp := s.gth.stamps.find? (fun x => x.line == line)
/-- The band after `b` is known not to be processed (Table 6.6, SEAM; notes/assumptions/85.md). -/
def State.seamAfter (s : State) (b : W48) : Bool :=
  s.bell.bands.any (fun r => r.num == b + 1 && (r.phase == .reversed || r.verdict.any (fun v => v.status != 0)))
/-- The component has a row emitted with band `b`, the last one of its camera. -/
def State.rowIn (s : State) (h : Nat) (c : Comp) (b : W48) : Bool := w48le (s.rowLine h b 0) c.lineLast
/-- A covered line carries its camera's substitution bit. -/
def State.gapIn (s : State) (c : Comp) (last : W48) : Bool :=
  s.gth.stamps.any (fun x => w48le c.lineFirst x.line && w48le x.line last && x.sub.getLsbD c.cam)
/-- The sum of scores in 32 bits; one outside them is a sum the format does not hold, which the spec does not state. -/
def State.scoreSum (s : State) (sum : Int) : State × Nat :=
  if clampS 32 sum = sum then (s, wrap 32 sum) else (s.useFree, s.free.toNat % 2 ^ 32)
/-- A record goes out: strobes are scheduled, then the record is pushed (R312–R315). -/
def State.record (s : State) (h : Nat) (c : Comp) (tail splitAfter : Bool) : State :=
  let k := s.kiosk h
  let b := k.curBand c.cam
  let m := s.kskFor h b
  let cls := kskClass m c.cls
  let last := c.lineLast + BitVec.ofNat 48 (s.kskSy h - 1)
  let marks := (c.marks.getD (BitVec.ofNat 8 (fld cls 16 8))).toNat
  let st : Option (Stamp × Stamp) := (match s.stampOf c.lineFirst, s.stampOf last with
    | some x, some y => some (x, y)
    | _, _ => none)
  let p1 : W48 := (st.map (fun x => x.1.pos)).getD 0
  let p2 : W48 := (st.map (fun x => x.2.pos)).getD 0
  let time : DWord := (st.map (fun x => x.1.time)).getD 0
  let r := s.schedMask h marks p1 p2
  let img := s.bandImage b
  let sum := r.1.scoreSum c.sum
  let flags := b2n st.isNone * 2 ^ 9 + b2n ((st.map (fun x => x.1.degraded)).getD false) * 2 ^ 7 + b2n r.2 * 2 ^ 6 +
    b2n (k.dropped.getLsbD c.cam) * 2 ^ 5 + b2n tail * 2 ^ 4 + b2n splitAfter * 2 ^ 3 + b2n c.splitBefore * 2 ^ 2 +
    b2n (c.seam || (s.seamAfter b && s.rowIn h c b)) * 2 + b2n (s.gapIn c last)
  let line := recordLine
    [2 * 2 ^ 56 + c.cls * 2 ^ 52 + c.cam * 2 ^ 48 + c.lineFirst.toNat, flags * 2 ^ 48 + last.toNat,
     img.2.toNat * 2 ^ 48 + p1.toNat, img.1.toNat * 2 ^ 62 + marks * 2 ^ 48 + p2.toNat,
     time.toNat,
     c.xMin * s.kskSx h % 65536 * 2 ^ 48 + (c.xMax * s.kskSx h + s.kskSx h - 1) % 65536 * 2 ^ 32 + c.pixels % 2 ^ 32,
     sum.2 * 2 ^ 32 + wrap 8 c.max * 2 ^ 24 + c.rule * 2 ^ 16 + k.seq % 65536]
    (h * 2 ^ 24)
  let s1 := sum.1.updKiosk h (fun k =>
    { k with seq := (k.seq + 1) % 65536, dropped := k.dropped &&& ~~~(1#16 <<< c.cam) })
  let prio := BitVec.ofNat 3 (fld cls 24 3)
  ((s1.offer (fld (s.reg (aKsk h)) 16 9) ⟨line, prio, true, true, 2, h⟩).1).count (aKsk h + 0x1C) 1
/-- A component that closes: small ones are discarded and counted (R306); one without pixels is none. -/
def State.closeComp (s : State) (h : Nat) (tail splitAfter : Bool) (c : Comp) : State :=
  if c.pixels = 0 then s
  else if c.pixels < kskMinPix (s.kskFor h ((s.kiosk h).curBand c.cam)) c.cls then s.count (aKsk h + 0x18) 1
  else s.record h c tail splitAfter
/-- Order of components that close at one row (R311). -/
def compBefore (a b : Comp) : Bool :=
  decide (a.cam < b.cam) || (a.cam == b.cam && (decide (a.firstRow < b.firstRow) ||
    (a.firstRow == b.firstRow && decide (a.firstCol < b.firstCol))))
def insertComp (x : Comp × Bool) : List (Comp × Bool) → List (Comp × Bool)
  | [] => [x]
  | y :: ys => if compBefore x.1 y.1 then x :: y :: ys else y :: insertComp x ys
def sortComps (xs : List (Comp × Bool)) : List (Comp × Bool) := xs.foldl (fun acc x => insertComp x acc) []
/-- Every open component of hub `h` that satisfies `p` closes; columns of split components there continue nowhere. -/
def State.closeWhere (s : State) (h : Nat) (tail : Bool) (p : Comp → Bool) : State :=
  let k := s.kiosk h
  let gone := sortComps ((k.comps.filter p).map (fun c => (c, false)))
  let rest := k.comps.filter (fun c => !(p c))
  gone.foldl (fun t c => t.closeComp h tail false c.1) (s.setKiosk h { k with comps := rest })
/-- All close with TAIL: at END_OF_CONFIG and in containment (R306; 14 Table 14.7). -/
def State.closeTail (s : State) (h : Nat) : State := if s.ident.hasKiosk h then s.closeWhere h true (fun _ => true) else s
def State.closeTails (s : State) : State := (s.closeTail 0).closeTail 1
/-- At END_OF_STREAM the next band is the first again (R306). -/
def State.kioskEnd (s : State) (h : Nat) : State :=
  (s.closeTail h).updKiosk h (fun k => { k.restart with lastBand := [], rowCount := [], force := [], snaps := [] })

end Sys2Proof.Machine
end

