-- ==== Sys2Proof/Machine/Capability.lean ====
section
/-!
DEFINITION. The capability table (02 R97–R118, R698): its bytes as the boot sequence publishes them.
-/
namespace Sys2Proof.Machine

/-! ## Units as records -/

/-- CAP_FEATURES (R102, R103). -/
def Identity.features (p : Identity) : Nat :=
  if p.part = 0x4060 then 0x7E00 else if p.part = 0x4120 then 0x7FF5 else 0x7FFF
def Identity.dieList (p : Identity) : List Nat := List.range p.dies
def Identity.hubList (p : Identity) : List Nat := List.range p.hubs
def Identity.stackList (p : Identity) : List Nat := (List.range p.stacks).map p.stackSlot
def Identity.kioskList (p : Identity) : List Nat := (List.range 2).filter (fun h => p.hasKiosk h)

/-- A location word from class, instance, column and row (R111). -/
def locWord (cls inst col row : Nat) : Nat := cls * 2 ^ 24 + inst * 2 ^ 16 + col * 2 ^ 8 + row

/-! ## Travel-time table (R113, R698) -/

def ttRecord (kind from_ to_ lo hi : Nat) : List Byte :=
  leBytes 2 kind ++ leBytes 2 (if lo = hi then 1 else 0) ++ leBytes 4 from_ ++ leBytes 4 to_ ++ leBytes 2 lo ++ leBytes 2 hi
/-- The travel-time sub-table, in order of KIND, FROM, TO. DESIGN CHOICE (notes/assumptions/120.md): the spec gives the times of
silicon issue C; a part of any issue publishes them here (R113). -/
def Identity.ttBytes (p : Identity) : List Byte :=
  p.dieList.flatMap (fun d => ttRecord 1 (locWord 1 d 0xFF 0xFF) (locWord 1 d 0xFF 0xFF) 2 2) ++
  p.dieList.flatMap (fun d => ttRecord 2 (locWord 1 d 0xFF 0xFF) 0 1 1) ++
  (if p.dies = 2 then ttRecord 3 (locWord 1 0 0xFF 31) (locWord 1 1 0xFF 0) 14 14 ++
                      ttRecord 3 (locWord 1 1 0xFF 0) (locWord 1 0 0xFF 31) 14 14 else []) ++
  p.hubList.flatMap (fun h => ttRecord 4 (locWord 2 (2 + h) 0 0) (locWord 1 h 0xFF (31 * h)) 24 24) ++
  p.kioskList.flatMap (fun h => ttRecord 5 (locWord 1 h 0xFF (31 * h)) (locWord 3 (2 + h) 0 0) 20 20) ++
  p.dieList.flatMap (fun d => p.stackList.flatMap (fun k => ttRecord 6 (locWord 1 d 0xFF 0xFF) (locWord 4 k 0 0) 180 560)) ++
  (List.range p.prmPorts).flatMap (fun q => ttRecord 7 (locWord 5 q 0 0) 0 900 1400) ++
  ttRecord 8 (locWord 6 0 0 0) 0 6 6
/-- CAP_TT_DIGEST. -/
def Identity.ttDigest (p : Identity) : BitVec 256 := sha256 p.ttBytes

/-! ## Die and memory records (R108–R110) -/

def dieRecord (slot kind attach attach2 units base : Nat) : List Byte :=
  [BitVec.ofNat 8 slot, BitVec.ofNat 8 kind, BitVec.ofNat 8 attach, BitVec.ofNat 8 attach2] ++ leBytes 4 units ++ leBytes 8 base
def Identity.dieBytes (p : Identity) : List Byte :=
  p.dieList.flatMap (fun d =>
    dieRecord d 1 (if d = 0 then 2 else 0) (if d = 0 then (if p.dies = 2 then 1 else 0xFF) else if p.hubs = 2 then 3 else 0xFF)
      (b2n p.hasCellar) 0) ++
  p.hubList.flatMap (fun h =>
    dieRecord (2 + h) 2 h 0xFF (1 + 2 * b2n (p.hasKiosk h) + (if p.prmPorts = 0 then 0 else 12) + (if h = 0 then 48 else 0)) 0) ++
  (List.range p.stacks).flatMap (fun k =>
    dieRecord (p.stackSlot k) 3 (if p.stackSlot k < 6 then 0 else 1) 0xFF 0 (k * 2 ^ 34))
def memRecord (slot kind count unit total : Nat) : List Byte :=
  [BitVec.ofNat 8 slot, BitVec.ofNat 8 kind] ++ leBytes 2 count ++ leBytes 4 unit ++ leBytes 8 total
def memUnits (slot kind count unit : Nat) : List Byte := memRecord slot kind count unit (count * unit)
/-- The memory records; `pool` is the size of the pool in force. -/
def Identity.memBytes (p : Identity) (pool : Nat) : List Byte :=
  p.dieList.flatMap (fun d => memUnits d 1 360 0x80000 ++ memUnits d 2 900 0x10000 ++ memUnits d 3 180 0x4000) ++
  p.hubList.flatMap (fun h => memUnits (2 + h) 4 1 0x400000 ++ memUnits (2 + h) 5 1 0x600000 ++
    (if p.hasKiosk h then memUnits (2 + h) 6 1 0x200000 else [])) ++
  memRecord 0xFF 7 0 0 pool

/-! ## The table (R99–R106) -/

def dirEntry (type off : Nat) (bs : List Byte) : List Byte :=
  leBytes 2 type ++ leBytes 2 1 ++ leBytes 4 off ++ leBytes 4 bs.length ++ leBytes 4 (crc32c bs).toNat
/-- The table with `magic` and `crc` in their places. The sub-tables follow the directory in the order of their types. -/
def Identity.tableBytes (p : Identity) (fw : Word) (pool magic crc : Nat) : List Byte :=
  let die := p.dieBytes
  let mem := p.memBytes pool
  let tt := p.ttBytes
  let o1 := 0xC0
  let o2 := o1 + die.length
  let o3 := o2 + mem.length
  let o4 := o3 + tt.length
  leBytes 4 magic ++ leBytes 4 0x10000 ++ leBytes 4 o4 ++ leBytes 4 crc ++
  leBytes 4 (p.part.toNat * 2 ^ 16 + p.silicon.toNat * 2 ^ 8 + 0x43) ++ leBytes 4 4 ++ leBytes 8 p.serial.toNat ++
  leBytes 8 p.features ++ leBytes 4 fw.toNat ++
  leBytes 4 (p.dies * 2 ^ 24 + p.hubs * 2 ^ 16 + p.stacks * 2 ^ 8 + p.cores) ++
  leBytes 4 (p.camPorts * 2 ^ 24 + p.prmPorts * 2 ^ 16 + p.kioskList.length * 2 ^ 8 + (if p.hasCellar then p.dies else 0)) ++
  leBytes 4 (512 * 2 ^ 16 + 64 * 2 ^ 8 + (if p.prmPorts = 0 then 1 else 8)) ++ leBytes 4 (512 * 2 ^ 16 + p.queues) ++
  leBytes 4 (1250 * 2 ^ 16 + 1000) ++ leBytes 4 (2000 * 2 ^ 16 + 250 * 2 ^ 8 + 100) ++
  leBytes 4 (2 ^ p.camPorts - 1) ++
  leBytes 4 ((2 ^ p.encoders - 1) * 2 ^ 12 + (2 ^ p.prmPorts - 1) * 2 ^ 8 + (2 ^ p.cores - 1)) ++ leBytes 4 0 ++
  digestBytes p.ttDigest ++ leBytes 16 0 ++
  dirEntry 1 o1 die ++ dirEntry 2 o2 mem ++ dirEntry 3 o3 tt ++ dirEntry 4 o4 [] ++ die ++ mem ++ tt
def capMagic : Nat := 0x4B5A4341
/-- The published table: CAP_CRC is computed with CAP_CRC taken as 0 (R100). -/
def Identity.capTable (p : Identity) (fw : Word) (pool : Nat) : List Byte :=
  p.tableBytes fw pool capMagic (crc32c (p.tableBytes fw pool capMagic 0)).toNat

end Sys2Proof.Machine
end

