-- ==== Sys2Proof/Machine/Ecdsa.lean ====
section
/-!
DEFINITION. ECDSA P-256 verification, by which images and firmware packages are signed (10 R452, 14 R656, R660). FIPS 186-5 and
its curve P-256 define it; the spec names them.
-/
namespace Sys2Proof.Machine

/-! ## The field and the curve y² = x³ − 3x + b -/

def p256P : Nat := 0xFFFFFFFF00000001000000000000000000000000FFFFFFFFFFFFFFFFFFFFFFFF
def p256N : Nat := 0xFFFFFFFF00000000FFFFFFFFFFFFFFFFBCE6FAADA7179E84F3B9CAC2FC632551
def p256B : Nat := 0x5AC635D8AA3A93E7B3EBBD55769886BC651D06B0CC53B0F63BCE3C3E27D2604B
def p256Gx : Nat := 0x6B17D1F2E12C4247F8BCE6E563A440F277037D812DEB33A0F4A13945D898C296
def p256Gy : Nat := 0x4FE342E2FE1A7F9B8EE7EB4A7C0F9E162BCE33576B315ECECBB6406837BF51F5

/-- `b ^ e` modulo `m`, for an `e` of at most `k` bits. -/
def modPow (m : Nat) : Nat → Nat → Nat → Nat
  | 0, _, _ => 1
  | k + 1, b, e =>
    let h := modPow m k (b * b % m) (e / 2)
    if e % 2 = 1 then b * h % m else h
/-- The inverse modulo a prime of 256 bits. -/
def modInv (m a : Nat) : Nat := modPow m 256 a (m - 2)

/-- A point; none is the point at infinity. -/
abbrev CurvePoint := Option (Nat × Nat)
def subP (a b : Nat) : Nat := (a + p256P - b % p256P) % p256P
/-- The third point of the line of slope `l` through two points, mirrored. -/
def lineThird (l x1 y1 x2 : Nat) : CurvePoint :=
  let x := subP (subP (l * l % p256P) x1) x2
  some (x, subP (l * subP x1 x % p256P) y1)
def pointAdd : CurvePoint → CurvePoint → CurvePoint
  | none, b => b
  | a, none => a
  | some (x1, y1), some (x2, y2) =>
    if x1 = x2 then
      (if y1 = y2 && y1 != 0 then lineThird ((3 * x1 * x1 + p256P - 3) % p256P * modInv p256P (2 * y1 % p256P) % p256P) x1 y1 x2
       else none)
    else lineThird (subP y2 y1 * modInv p256P (subP x2 x1) % p256P) x1 y1 x2
/-- `e` times a point, for an `e` of at most `k` bits. -/
def pointMul : Nat → Nat → CurvePoint → CurvePoint
  | 0, _, _ => none
  | k + 1, e, a =>
    let h := pointMul k (e / 2) (pointAdd a a)
    if e % 2 = 1 then pointAdd a h else h
def onCurve (x y : Nat) : Bool :=
  decide (x < p256P) && decide (y < p256P) && y * y % p256P == (x * x * x + (p256P - 3) * x + p256B) % p256P

/-- The signature (`r`, `s`) of a digest verifies with the public key, x then y (FIPS 186-5, 6.4.2). What is no point of the
curve is no public key, and verifies nothing. -/
def ecdsaVerify (digest : BitVec 256) (key : BitVec 512) (r s : BitVec 256) : Bool :=
  let x := key.toNat % 2 ^ 256
  let y := key.toNat / 2 ^ 256
  let inRange_ : Nat → Bool := fun v => v != 0 && decide (v < p256N)
  if !(onCurve x y) || !(inRange_ r.toNat) || !(inRange_ s.toNat) then false
  else
    let w := modInv p256N s.toNat
    let u1 := digest.toNat * w % p256N
    let u2 := r.toNat * w % p256N
    match pointAdd (pointMul 256 u1 (some (p256Gx, p256Gy))) (pointMul 256 u2 (some (x, y))) with
    | none => false
    | some (vx, _) => vx % p256N == r.toNat

end Sys2Proof.Machine
end

