-- ==== Sys2Proof/Machine/HedgeOps.lean ====
section
/-!
DEFINITION. The Hedge as its masters see it (09): decoding of physical addresses, paths, access windows, domain gates and the
response code of a request.
-/
namespace Sys2Proof.Machine

/-! ## The Hedge address map (09 R415) -/

inductive Phys where
  | hbm (a : Nat)
  | reg (off : Nat)
  | scratch (off : Nat)
  | rom (off : Nat)
  | host (a : Nat)
  | nowhere
  deriving DecidableEq, Repr

def romBase : Nat := 0x1020000000
def regBase : Nat := 0x1000000000
def hostBase : Nat := 2 ^ 47
def inSpan (a lo n : Nat) : Bool := decide (lo ≤ a) && decide (a < lo + n)
def physOf (a : Nat) : Phys :=
  if a < regBase then .hbm a
  else if inSpan a regBase 0x2000000 then .reg (a - regBase)
  else if inSpan a scratchBase 0x400000 then .scratch (a - scratchBase)
  else if inSpan a romBase 0x10000 then .rom (a - romBase)
  else if hostBase ≤ a && a < 2 ^ 48 then .host (a - hostBase)
  else .nowhere

/-- Way `k` of hub `h`'s L2 is locked as scratch (11 R497). -/
def State.wayLocked (s : State) (h k : Nat) : Bool := bit (s.reg (aLodge h + 8)) k
def State.scratchOk (s : State) (h off n : Nat) : Bool :=
  s.wayLocked h (off / 0x40000) && s.wayLocked h ((off + max n 1 - 1) / 0x40000)

/-! ## Masters, targets, paths (Tables 9.1–9.3) -/

def mL2 : Nat := 0
/-- The master of core `c`. -/
def mCore (c : Nat) : Nat := 1 + c % 4
def mPcie : Nat := 5
def mHubx : Nat := 10
def mHostq : Nat := 11
def tL2 : Nat := 0
def tDie : Nat := 1
def tQs : Nat := 2
def tReg : Nat := 3
def tPcieOut : Nat := 4
def tHubx : Nat := 5
def tPeri : Nat := 6
def tRom : Nat := 7
/-- Target number of a request that the matrix itself answers. -/
def noTarget : Nat := 15
def mLoader : Nat := 6

/-- Bit t of row m: the path from master m to target t exists (Table 9.3). -/
def pathRows : List Nat := [0x02, 0xFF, 0xFF, 0xFF, 0xFF, 0x6E, 0x2F, 0x03, 0x6C, 0x01, 0xDF, 0x37]
/-- The hub has the master (Tables 9.1, 9.2). -/
def State.hasMaster (s : State) (h m : Nat) : Bool :=
  decide (h < s.ident.hubs) && (m != 5 || h == 0) && (m != 10 || s.ident.hubs == 2)
def State.hasTarget (s : State) (h t : Nat) : Bool :=
  (t != 4 || h == 0) && (t != 7 || h == 0) && (t != 5 || s.ident.hubs == 2)
def State.hasPath (s : State) (h m t : Nat) : Bool :=
  s.hasMaster h m && s.hasTarget h t && pathRows.getD m 0 / 2 ^ t % 2 == 1

/-- The hub that owns a BAR 0 offset; none for the terrace windows, which each hub reaches over its own die link. -/
def regHub (off : Nat) : Option Nat :=
  if inRange off 0x1000000 0x1800000 then none
  else if inRange off 0x110000 0x120000 || inRange off 0x280000 0x300000 || inRange off 0x320000 0x340000 ||
    inRange off 0x360000 0x380000 || inRange off 0x3A0000 0x3C0000 || inRange off 0x14400 0x14440 then some 1
  else some 0
/-- The target that serves a BAR 0 offset on the hub that owns it (Table 9.2). -/
def regTarget (off : Nat) : Nat :=
  if inRange off 0x1000000 0x1800000 then tDie
  else if inRange off 0x11100 0x11200 || inRange off 0x30000 0x40000 || inRange off 0x100000 0x120000 then tQs
  else if inRange off 0x14000 0x17000 then tPeri
  else tReg
/-- The target to which hub `h` decodes an address (R415, R416, R419). -/
def State.targetOf (s : State) (h a n : Nat) : Option Nat :=
  match physOf a with
  | .hbm d => if d + n ≤ s.ident.hbmBytes then some tDie else none
  | .reg off =>
    (match regHub off with
      | none => some tDie
      | some g => some (if g = h || s.ident.hubs = 1 then regTarget off else tHubx))
  | .scratch _ => some tL2
  | .rom _ => some (if h = 0 then tRom else tHubx)
  | .host _ => some (if h = 0 then tPcieOut else tHubx)
  | .nowhere => none

/-! ## Access windows (R420, R421) -/

def aWin (h w : Nat) : Nat := aHdg h + 0x200 + 32 * w
def State.winEn (s : State) (h w : Nat) : Bool := bit (s.reg (aWin h w + 16)) 31
def State.winBase (s : State) (h w : Nat) : Nat := s.reg64 (aWin h w) / 4096 * 4096
def State.winLimit (s : State) (h w : Nat) : Nat := s.reg64 (aWin h w + 8) / 4096 * 4096 + 4095
/-- Window `w` names master `m`. -/
def State.winNames (s : State) (h w m : Nat) : Bool := s.winEn h w && bit (s.reg (aWin h w + 16)) m
/-- The access windows allow a request of master `m`. -/
def State.winAllows (s : State) (h m a n : Nat) (write : Bool) : Bool :=
  let ws := (List.range 16).filter (fun w => s.winNames h w m)
  ws.isEmpty || ws.any (fun w => decide (s.winBase h w ≤ a) && decide (a + n ≤ s.winLimit h w + 1) &&
    bit (s.reg (aWin h w + 16)) (if write then 29 else 30))

/-! ## Gates (R442–R444, R449; 14 R644) -/

/-- The gate that a BAR 0 offset lies behind, as its bit of HDG_GATE. -/
def gateOf (off : Nat) : Option Nat :=
  if inRange off 0x1000000 0x1800000 then
    (let o := off % 0x400000
     if o < 0x100000 then none
     else
       let k := (o - 0x100000) / 0x800
       if k < 1536 then some ((off - 0x1000000) / 0x400000 * 6 + k / 256) else none)
  else if inRange (off % 0x20000) 0x100 0x180 && inRange off 0x300000 0x340000 then some (20 + (off % 0x20000 - 0x100) / 0x40)
  else none
def State.gateClosed (s : State) (h g : Nat) : Bool := (s.hedge h).closed.contains g

/-- The gates of a domain, by hub and bit (14 R644). -/
def State.domGates (s : State) (n : Nat) : List (Nat × Nat) :=
  if n < 12 then (List.range s.ident.hubs).map (fun h => (h, n))
  else if n < 20 then [((n - 12) / 4, 22 + n % 4)]
  else if n < 36 then [((n - 20) / 8, 12 + (n - 20) % 8)]
  else [((n - 36) / 2, 20 + (n - 36) % 2)]
def State.closeGates (s : State) (n : Nat) : State :=
  (s.domGates n).foldl (fun t g =>
    let x := t.hedge g.1
    if x.closed.contains g.2 then t else t.setHedge g.1 { x with closed := g.2 :: x.closed }) s
/-- A gate reopens, and its closed episode ends (R444, R445). -/
def State.openGates (s : State) (n : Nat) : State :=
  (s.domGates n).foldl (fun t g =>
    let x := t.hedge g.1
    t.setHedge g.1 { x with closed := x.closed.filter (fun y => y != g.2), reported := x.reported.filter (fun y => y != g.2) }) s

/-! ## The response of a request -/

/-- The staging copy is closed to PCIe writes from GO until the load ends (10 R464). -/
def State.stageLocked (s : State) (a n : Nat) : Bool :=
  let b := s.reg64 aHubImgStageBase
  s.ident.hasHbm && decide (1 ≤ s.loadState) && decide (s.loadState ≤ 4) && decide (b < a + n) && decide (a < b + 2 ^ 29)

/-- UNROUTED and PERM responses count, and the first emits HEDGE_ACCESS (R422). -/
def State.hdgError (s : State) (h m a code : Nat) : State :=
  let c := aHdg h + 8
  let s1 := s.count c 1
  if s.reg c ≠ 0 then s1
  else s1.emit { err 0x0505 with loc := hubLoc h 5, d0 := m, d1 := a, d2 := code, hub := h }
def State.hdgNoPath (s : State) (h m a : Nat) : State := (s.count (aHdg h + 0x180 + 4 * m) 1).hdgError h m a 2
/-- The record of a gate's closed episode has been emitted; a bed's domain has a gate on either hub (R444). -/
def State.gateReported (s : State) (h g : Nat) : Bool :=
  (s.hedge h).reported.contains g || (decide (g < 12) && (s.hedge (1 - h)).reported.contains g)
/-- A request met a closed gate (R442, R444). -/
def State.hdgGated (s : State) (h m t g : Nat) : State :=
  let s1 := s.count (aHdg h + 0x1E0 + 4 * t) 1
  if s.gateReported h g then s1
  else
    (s1.setHedge h { s1.hedge h with reported := g :: (s1.hedge h).reported }).emit
      { err 0x0603 with loc := hubLoc h 5, d0 := g, d1 := m, hub := h }

/-- The checks one hub makes on a request of master `m` (R419, R420, R442): its state, RESP, SOURCE and target. -/
def State.hdgLocal (s : State) (h m a n : Nat) (write xkzq : Bool) : State × Nat × Nat × Nat :=
  match s.targetOf h a n with
  | none => (s.hdgNoPath h m a, 2, 15, 15)
  | some t =>
    if s.hasPath h m t = false then (s.hdgNoPath h m a, 2, 15, t)
    else if s.winAllows h m a n write = false || (m == mPcie && write && s.stageLocked a n) then (s.hdgError h m a 5, 5, 15, t)
    else match physOf a with
    | .scratch o => if s.scratchOk h o n then (s, 0, 0, t) else (s.hdgError h m a 2, 2, 15, t)
    | .reg off =>
      (match gateOf off with
        | none => (s, 0, 0, t)
        | some g =>
          if t = tHubx || (s.ident.hubs == 1 && regHub off == some 1) || s.gateClosed h g = false then (s, 0, 0, t)
          else if g < 12 && !write && !xkzq then (s, 0, 0, t)
          else (s.hdgGated h m t g, 3, 15, t))
    | _ => (s, 0, 0, t)

/-- The matrix answers a request by itself: no target, no path, a window, or the staging copy's lock (R419, R420; 10 R464). -/
def State.matrixStops (s : State) (h m a n : Nat) (write : Bool) : Bool :=
  match s.targetOf h a n with
  | none => true
  | some t => s.hasPath h m t = false || s.winAllows h m a n write = false || (m == mPcie && write && s.stageLocked a n)
/-- A request of master `m` of hub `h`; over HUBX the other hub checks it too (R414). Answers RESP, SOURCE, target. -/
def State.hdgCheck (s : State) (h m a n : Nat) (write xkzq : Bool) : State × Nat × Nat × Nat :=
  let r := s.hdgLocal h m a n write xkzq
  if r.2.1 = 0 && r.2.2.2 = tHubx then
    let q := r.1.hdgLocal (1 - h) mHubx a n write xkzq
    (q.1, q.2.1, q.2.2.1, tHubx)
  else r

/-! ## What holds a request back (R425, R429, R431, R435, R436, R438) -/

def State.updHedge (s : State) (h : Nat) (f : HdgState → HdgState) : State := s.setHedge h (f (s.hedge h))
/-- Outstanding requests of master `m` (R429). -/
def State.outstanding (s : State) (h m : Nat) : Nat := ((s.hedge h).txns.filter (fun x => x.req.master.val == m)).length
/-- The sequence that holds target `t`. -/
def HdgState.lockOf (x : HdgState) (t : Nat) : Option HLock := Tab.at_ none x.locks t
/-- The target that master `m` holds. -/
def HdgState.heldBy (x : HdgState) (m : Nat) : Option Nat :=
  (List.range 8).find? (fun t => (x.lockOf t).any (fun l => l.master == m))
/-- The master holds a lock on another target. -/
def HdgState.heldForLock (x : HdgState) (m t : Nat) : Bool := (x.heldBy m).any (fun u => u != t)
/-- The request has been granted. -/
def HTxn.past (y : HTxn) : Bool := y.st == .granted || y.st == .crossing
/-- Granted requests at target `t` that have not been answered. -/
def HdgState.inside (x : HdgState) (t : Nat) : Nat := (x.txns.filter (fun y => y.target == t && y.past)).length
/-- The bridge to the other hub has 32 slots, PERI 4 (R425, R436). -/
def HdgState.hasSlot (x : HdgState) (t : Nat) : Bool :=
  if t = tHubx then decide (x.inside t < 32) else if t = tPeri then decide (x.inside t < 4) else true

/-! ## Accesses that a unit makes within its own step (notes/assumptions/66.md) -/

/-- Why an access of master `m` to target `t` is held back at hub `h`: 0 at 32 outstanding, 1 for the master's lock on another
target, 2 behind an earlier request, 3 for another master's lock, 4 for want of a slot. -/
def State.accessHeld (s : State) (h m t : Nat) : Option Nat :=
  let x := s.hedge h
  if 32 ≤ s.outstanding h m then some 0
  else if x.heldForLock m t then some 1
  else if x.txns.any (fun y => y.req.master.val == m && y.target == t && !y.past) then some 2
  else if (x.lockOf t).any (fun l => l.master != m) then some 3
  else if !(x.hasSlot t) then some 4
  else none
/-- An access of master `m` of hub `h` that cannot go yet: hub, master, target and cause. -/
def State.accessWaits (s : State) (h m a n : Nat) (write : Bool) : Option (Nat × Nat × Nat × Nat) :=
  let t := (s.targetOf h a n).getD noTarget
  if s.matrixStops h m a n write then (if 32 ≤ s.outstanding h m then some (h, m, noTarget, 0) else none)
  else match s.accessHeld h m t with
    | some c => some (h, m, t, c)
    | none =>
      if t = tHubx then
        match s.targetOf (1 - h) a n with
        | some u => (s.accessHeld (1 - h) mHubx u).map (fun c => (1 - h, mHubx, u, c))
        | none => none
      else none
/-- The access waits: one that a lock holds back is counted once (R435, R438). -/
def State.noteHeld (s : State) (w : Nat × Nat × Nat × Nat) : State :=
  let h := w.1
  let m := w.2.1
  let t := w.2.2.1
  if (s.hedge h).inStep.contains (m, t) then s
  else
    let s1 := s.updHedge h (fun x => { x with inStep := (m, t) :: x.inStep })
    match w.2.2.2 with
    | 1 => s1.count (aHdg h + 0x140 + 4 * m) 1
    | 3 => s1.count (aHdg h + 0x1C0 + 4 * t) 1
    | _ => s
/-- An access within a step that makes several: where it is held back the mark is left that undoes the step. -/
def State.hdgAccess (s : State) (h m a n : Nat) (write xkzq : Bool) : State × Nat × Nat × Nat :=
  match s.accessWaits h m a n write with
  | some w => (s.updHedge w.1 (fun x => { x with stall := some w.2 }), 1, w.2.2.1, w.2.2.1)
  | none => s.hdgCheck h m a n write xkzq
/-- The access that a step found held back. -/
def State.stalled (s : State) : Option (Nat × Nat × Nat × Nat) :=
  match (s.hedge 0).stall, (s.hedge 1).stall with
  | some w, _ => some (0, w)
  | none, some w => some (1, w)
  | none, none => none
/-- The outcome `t` of a step at `s`, unless one of its accesses is held back: then the step waits. -/
def State.orWait (s t : State) : State := match t.stalled with
  | some w => s.noteHeld w
  | none => t
/-- Accesses that nothing holds back any longer are forgotten. -/
def State.hdgForget (s : State) (h : Nat) : State :=
  if (s.hedge h).inStep.isEmpty then s
  else s.updHedge h (fun x => { x with inStep := x.inStep.filter (fun e => (s.accessHeld h e.1 e.2).isSome) })

end Sys2Proof.Machine
end

