-- ==== Sys2Proof/Machine/Phys.lean ====
section
/-!
DEFINITION. The memories behind physical addresses (09 Table 9.4), and Sv48 translation (11 R498–R500, 12 R545).
-/
namespace Sys2Proof.Machine

/-! ## Memories behind physical addresses -/

/-- What a physical access met. -/
inductive PRes where
  | ok (bs : List Byte)
  | unrouted
  | poison (w : MemWord)
  deriving DecidableEq, Repr

/-- The poisoned words of a range of the L2 of hub `h`. -/
def State.l2Poison (s : State) (h a n : Nat) : Option MemWord :=
  s.mem.hubPoison.find? (fun w => match w with
    | .l2 g k => g.val == h && decide (a ≤ 8 * k + 7) && decide (8 * k < a + n)
    | _ => false)
/-- A poisoned word of the scratch of hub `h`. -/
def State.scratchPoison (s : State) (h off n : Nat) : Option MemWord :=
  s.mem.hubPoison.find? (fun w => match w with
    | .l2 g k => g.val == h && decide (scratchBase + off ≤ 8 * k + 7) && decide (8 * k < scratchBase + off + n)
    | _ => false)

/-- Read memory at a physical address as hub `h` decodes it; registers are read by their own operations. -/
def State.physRead (s : State) (h a n : Nat) : State × PRes :=
  match physOf a with
  | .hbm d =>
    if s.ident.hbmBytes < d + n then (s, .unrouted)
    else match s.hbmPoisoned d n with
      | some w => (s, .poison (.hbm w))
      | none => ((s.hbmRead d n).1, .ok (s.hbmRead d n).2)
  | .scratch o =>
    if s.scratchOk h o n = false then (s, .unrouted)
    else match s.scratchPoison h o n with
      | some w => (s, .poison w)
      | none => (s, .ok (readBytes (Tab.at_ [] s.lodge.scratch h) o n))
  | .rom o => (s, .ok ((List.range n).map (fun i => Config.bootRom (o + i))))
  | .host d => (s, .ok (readBytes s.hostMem d n))
  | .reg _ => (s, .unrouted)
  | .nowhere => (s, .unrouted)

/-- A write of the scratch of hub `h`: poison of the words written is cleared, a write-back of the rows cancelled (08 R372,
R403). -/
def State.scratchWrite (s0 : State) (h o : Nat) (bs : List Byte) : State :=
  let s := (List.range ((o + max bs.length 1 - 1) / 64 - o / 64 + 1)).foldl (fun t i =>
    t.cancelRow (.l2 (hubFin h) ((scratchBase + o / 64 * 64 + 64 * i) / 8))) s0
  let l := { s.lodge with scratch := Tab.set_ [] s.lodge.scratch h (writeBytes (Tab.at_ [] s.lodge.scratch h) o bs) }
  let gone : MemWord → Bool := fun w => match w with
    | .l2 g k => g.val == h && decide (scratchBase + o ≤ 8 * k) && decide (8 * k + 8 ≤ scratchBase + o + bs.length)
    | _ => false
  { s with lodge := l, mem := { s.mem with hubPoison := s.mem.hubPoison.filter (fun w => !(gone w)) } }

/-- Write memory at a physical address; answers whether it was served. -/
def State.physWrite (s : State) (h a : Nat) (bs : List Byte) : State × Bool :=
  match physOf a with
  | .hbm d => if s.ident.hbmBytes < d + bs.length then (s, false) else (s.hbmWrite d bs, true)
  | .scratch o => if s.scratchOk h o bs.length then (s.scratchWrite h o bs, true) else (s, false)
  | .host d => (s.hostWrite d bs, true)
  | _ => (s, false)

/-! ## Sv48 (12 R545; the RISC-V privileged specification) -/

/-! ## Over the Hedge (09 R419, R420; 11 R496, R499) -/

/-- An address the L2 caches: HBM under the PMA attribute (11 R496, R499). -/
def cachedAt (pa pbmt : Nat) : Bool := match physOf pa with
  | .hbm _ => pbmt == 0
  | _ => false
/-- The Hedge's answer to an access of master `m` that its hub's L2 may serve: 0 is SERVED. What the L2 holds does not reach the
matrix; a refill reaches it as master L2. -/
def State.throughL2 (s : State) (h m pa pbmt n : Nat) (write : Bool) : State × Nat :=
  if cachedAt pa pbmt then
    if (s.l2Line h (pa / 64)).isSome then (s, 0)
    else
      let r := s.hdgAccess h mL2 pa n false false
      (r.1, r.2.1)
  else
    let r := s.hdgAccess h m pa n write false
    (r.1, r.2.1)
/-- A read of memory by a host-facing engine of hub `h`, master HOSTQ. -/
def State.hostqRead (s : State) (h a n : Nat) : State × PRes :=
  let g := s.hdgAccess h mHostq a n false false
  if g.2.1 = 0 then g.1.physRead h a n else (g.1, .unrouted)
/-- A write of memory by a host-facing engine of hub `h`; a refused one has no effect. -/
def State.hostqWrite (s : State) (h a : Nat) (bs : List Byte) : State :=
  let g := s.hdgAccess h mHostq a bs.length true false
  if g.2.1 = 0 then (g.1.physWrite h a bs).1 else g.1

/-! ## Accesses to translate -/

/-- An access to translate: its type, the mode, SUM and MXR, whether the tables are a context's, and the master that walks them: a
core, which sees its hub's L2, or HOSTQ. -/
structure Acc where
  write : Bool
  exec : Bool
  user : Bool
  sum : Bool
  mxr : Bool
  device : Bool
  master : Nat
  deriving DecidableEq, Repr

inductive XRes where
  | ok (pa pbmt : Nat)
  | page
  | access
  | poison (w : MemWord)
  deriving DecidableEq, Repr

/-- The bits of a leaf allow the access; the device sets neither A nor D (R545). -/
def leafAllows (pte : Nat) (a : Acc) : Bool :=
  let r := bits pte 1 1 == 1
  let w := bits pte 2 1 == 1
  let x := bits pte 3 1 == 1
  let u := bits pte 4 1 == 1
  (if a.exec then x else if a.write then w else r || (a.mxr && x)) &&
  (if a.user then u else !u || (a.sum && !a.exec)) && (!a.device || u) &&
  bits pte 6 1 == 1 && (!a.write || bits pte 7 1 == 1)

/-- A table entry as a core of hub `h` reads it: from the L2 line that holds it, else from memory (R496). -/
def State.tableRead (s : State) (h m pa : Nat) : State × PRes :=
  let g := s.throughL2 h m pa 0 8 false
  if g.2 ≠ 0 then (g.1, .unrouted)
  else match s.l2Line h (pa / 64) with
  | none => g.1.physRead h pa 8
  | some l =>
    match g.1.l2Poison h pa 8 with
    | some w => (g.1, .poison w)
    | none => (g.1, .ok (slice (lineBytes l.data) (pa % 64) 8))
/-- Walk `n` levels from the table at `base`. -/
def State.walk (s : State) (h va : Nat) (a : Acc) : Nat → Nat → State × XRes
  | 0, _ => (s, .page)
  | n + 1, base =>
    let at_ := base + 8 * bits va (12 + 9 * n) 9
    let r := if a.master = mHostq then s.hostqRead h at_ 8 else s.tableRead h a.master at_
    match r.2 with
    | .ok bs =>
      let pte := leNat bs
      let ppn := bits pte 10 44
      let leaf := bits pte 1 3 != 0
      if bits pte 0 1 == 0 || (bits pte 1 1 == 0 && bits pte 2 1 == 1) || bits pte 54 7 != 0 || bits pte 63 1 == 1 ||
          bits pte 61 2 == 3 then (r.1, .page)
      else if leaf then
        if (a.device && 2 ≤ n) || ppn % 2 ^ (9 * n) != 0 || !(leafAllows pte a) then (r.1, .page)
        else
          let pa := ppn * 4096 + va % 2 ^ (12 + 9 * n)
          (r.1, if 2 ^ 48 ≤ pa then .access else .ok pa (bits pte 61 2))
      else if n = 0 || bits pte 4 1 == 1 || bits pte 6 2 != 0 || bits pte 61 2 != 0 then (r.1, .page)
      else State.walk r.1 h va a n (ppn * 4096)
    | .poison w => (r.1, .poison w)
    | .unrouted => (r.1, .access)

/-- The virtual address is canonical for Sv48. -/
def canonical (va : Nat) : Bool := bits va 47 17 == 0 || bits va 47 17 == 2 ^ 17 - 1
/-- Translate through the table at physical address `root`. -/
def State.translate (s : State) (h root va : Nat) (a : Acc) : State × XRes :=
  if canonical va then s.walk h va a 4 root else (s, .page)

def accRead : Acc := ⟨false, false, true, false, false, true, mHostq⟩
def accWrite : Acc := ⟨true, false, true, false, false, true, mHostq⟩
/-- The root table of context `c`. -/
def State.ctxRoot (s : State) (c : Nat) : Nat := s.reg64 (aCtxPtRoot c)

/-- Translate for a context, or for an image kernel, which runs on physical addresses (notes/assumptions/8.md). -/
def State.translateFor (s : State) (h ctx va : Nat) (a : Acc) : State × XRes :=
  if ctx < 64 then s.translate h (s.ctxRoot ctx) va a
  else (s, if va < 2 ^ 48 then .ok va 0 else .access)

/-- A read of a naturally aligned 64-bit word of a context's address space; none at a fault. -/
def State.readVirt (s : State) (h ctx va n : Nat) : State × Option (List Byte) :=
  let t := s.translateFor h ctx va accRead
  match t.2 with
  | .ok pa _ =>
    let r := t.1.hostqRead h pa n
    match r.2 with
    | .ok bs => (r.1, some bs)
    | _ => (r.1, none)
  | _ => (t.1, none)

/-- A fence write of the device (12 R559): an atomic maximum in HBM, one 8-byte posted write in host memory. -/
def State.fenceWrite (s : State) (h ctx va : Nat) (v : Nat) : State :=
  let t := s.translateFor h ctx va accWrite
  match t.2 with
  | .ok pa _ =>
    match physOf pa with
    | .host _ => t.1.hostqWrite h pa (leBytes 8 v)
    | _ =>
      let r := t.1.hostqRead h pa 8
      match r.2 with
      | .ok bs => r.1.hostqWrite h pa (leBytes 8 (max (leNat bs) v))
      | _ => r.1
  | _ => t.1

end Sys2Proof.Machine
end

