-- ==== Sys2Proof/Machine/AllocOps.lean ====
section
/-!
DEFINITION. The device allocator (08 R386–R395) and the mapping of allocations into a context's page tables (11 R515).
-/
namespace Sys2Proof.Machine

/-! ## Ranges -/

def alignUp (a n : Nat) : Nat := (a + n - 1) / n * n
/-- A range of `n` bytes at `a` meets none of the listed ranges. -/
def clearOf (rs : List (Nat × Nat)) (a n : Nat) : Bool := rs.all (fun r => decide (a + n ≤ r.1) || decide (r.1 + r.2 ≤ a))
def State.liveRanges (s : State) : List (Nat × Nat) := s.alloc.live.map (fun e => (e.1, e.2.1))
def State.zeroRanges (s : State) : List (Nat × Nat) := s.alloc.zeroing
def State.inPool (s : State) (a n : Nat) : Bool :=
  decide (s.alloc.poolBase ≤ a) && decide (a + n ≤ s.alloc.poolBase + s.alloc.poolLen)
/-- The lowest aligned place in the pool that meets none of the ranges. -/
def State.lowestFit (s : State) (rs : List (Nat × Nat)) (n al : Nat) : Option Nat :=
  let starts := (s.alloc.poolBase :: rs.map (fun r => r.1 + r.2)).map (fun a => alignUp a al)
  (starts.filter (fun a => s.inPool a n && clearOf rs a n)).foldl (fun m a => some (match m with
    | none => a
    | some b => min a b)) none
/-- The place of an allocation: any that fits, as the spec names none; the proposal is a free value. -/
def State.placeFor (s : State) (n al : Nat) : Option Nat :=
  let rs := s.liveRanges ++ s.zeroRanges
  match s.lowestFit rs n al with
  | none => none
  | some a =>
    let p := alignUp s.alloc.poolBase al + (s.free.toNat % (s.alloc.poolLen / al + 1)) * al
    some (if s.inPool p n && clearOf rs p n then p else a)

/-! ## Handles (07 Table 7.6) -/

/-- The fields of a HANDLE token's payload and of the item it becomes (07 R355): a buffer in device memory, and the 40 bytes
that producer and consumer define. -/
structure Handle where
  addr : Nat
  buf : Nat
  pool : Nat
  length : Nat
  band : Nat
  flags : Nat
  user : List Byte
  deriving DecidableEq, Repr
/-- Table 7.6, read from a payload. -/
def handleOf (l : Line) : Handle :=
  let bs := lineBytes l
  ⟨fieldAt bs 0 8, fieldAt bs 8 2, fieldAt bs 0x0A 2, fieldAt bs 0x0C 4, fieldAt bs 0x10 6, fieldAt bs 0x17 1, slice bs 0x18 40⟩
/-- Table 7.6, written as a payload; the byte 0x16 is reserved and 0. -/
def lineOfHandle (h : Handle) : Line :=
  lineOf (leBytes 8 h.addr ++ leBytes 2 h.buf ++ leBytes 2 h.pool ++ leBytes 4 h.length ++ leBytes 6 h.band ++ leBytes 1 0 ++
    leBytes 1 h.flags ++ h.user)

/-! ## Requests (R388–R392) -/

/-- A refusal counts against its context, and the first emits ALLOC_REFUSED (R392). -/
def State.allocRefuse (s : State) (ctx status : Nat) : State :=
  let s1 := if ctx < 64 then s.count (aCtxAllocRefused ctx) 1 else s
  let s2 : State := { s1 with alloc := { s1.alloc with refusals := satNat 32 s1.alloc.refusals 1 } }
  if s.alloc.refusals ≠ 0 then s2
  else s2.emit { err 0x0306 with ctx := if ctx < 64 then ctx else 0xFFFF, loc := hubLoc 0 10, d0 := status, d1 := ctx }
/-- Charge `n` more bytes to a context. -/
def State.charge (s : State) (ctx n : Nat) : State :=
  let u := s.reg64 (aCtxMemUsed ctx) + n
  (s.setReg64 (aCtxMemUsed ctx) u).setReg64 (aCtxMemPeak ctx) (max u (s.reg64 (aCtxMemPeak ctx)))
/-- Allocate: status, address (Table 8.5). -/
def State.allocate (s : State) (ctx len al : Nat) : State × Nat × Nat :=
  let refuse : Nat → State × Nat × Nat := fun st => (s.allocRefuse ctx st, st, 0)
  if len = 0 || len % 4096 ≠ 0 || 2 ^ 30 < len then refuse 3
  else if al < 12 || 30 < al then refuse 4
  else if 64 ≤ ctx || s.reg64 (aCtxQuota ctx) < s.reg64 (aCtxMemUsed ctx) + len then refuse 5
  else match s.placeFor len (2 ^ al) with
  | none => refuse (if (s.lowestFit s.liveRanges len (2 ^ al)).isSome then 2 else 1)
  | some a =>
    let s1 : State := { s.useFree with alloc := { s.alloc with live := Tab.put (fun _ => (0, 0)) s.alloc.live a (len, ctx) } }
    (s1.charge ctx len, 0, a)
/-- A live allocation becomes memory being zeroed. -/
def State.release (s : State) (a : Nat) : State :=
  let e := Tab.at_ (0, 0) s.alloc.live a
  if e.1 = 0 then s
  else
    let s1 : State := { s with alloc := { s.alloc with live := Tab.set_ (0, 0) s.alloc.live a (0, 0),
                                                       zeroing := Tab.set_ 0 s.alloc.zeroing a e.1 } }
    if e.2 < 64 then s1.setReg64 (aCtxMemUsed e.2) (s1.reg64 (aCtxMemUsed e.2) - e.1) else s1
/-- Free: status. -/
def State.freeAlloc (s : State) (ctx a : Nat) : State × Nat :=
  let e := Tab.at_ (0, 0) s.alloc.live a
  if e.1 ≠ 0 && e.2 = ctx then (s.release a, 0) else (s.allocRefuse ctx 6, 6)
/-- Live allocations of a context. -/
def State.allocsOf (s : State) (ctx : Nat) : List (Nat × Nat) :=
  (s.alloc.live.filter (fun e => e.2.2 == ctx)).map (fun e => (e.1, e.2.1))

/-- Copies of the bytes [`a`, `a` + `n`) of memory that must not come back: lines of both L2s, poison of their words, write-backs
and a repair of the rows (R388, R403). -/
def State.forgetRange (s : State) (a n : Nat) : State :=
  let inside : MemWord → Bool := fun w => match w with
    | .hbm k => decide (a ≤ 8 * k) && decide (8 * k < a + n)
    | .l2 _ k => decide (a ≤ 8 * k) && decide (8 * k < a + n)
    | _ => false
  let keep : Nat → Bool := fun l => !(decide (a ≤ 64 * l) && decide (64 * l < a + n))
  let l2 := Tab.mapV [] (fun _ ls => Tab.keep keep ls) s.lodge.l2
  let hit := s.mem.repair && s.repairWord.any inside
  { s with lodge := { s.lodge with l2 := l2 },
           mem := { s.mem with hubPoison := s.mem.hubPoison.filter (fun w => !(inside w)),
                               writeBacks := s.mem.writeBacks.filter (fun b => !(inside b.word)),
                               repair := s.mem.repair && !hit } }
/-- The zeroing engine has rewritten a range (R389). -/
def State.zeroDone (s : State) (a : Nat) : State :=
  let n := Tab.at_ 0 s.alloc.zeroing a
  if n = 0 then s
  else
    let s1 : State := { s with alloc := { s.alloc with zeroing := Tab.set_ 0 s.alloc.zeroing a 0 } }
    let s2 := s1.forgetRange a n
    match physOf a with
    | .hbm d =>
      { s2 with mem := { s2.mem with hbm := zeroBytes s2.mem.hbm d n,
                                     hbmPoison := s2.mem.hbmPoison.filter (fun w => !(decide (d ≤ 8 * w) && decide (8 * w < d + n))) } }
    | .scratch o =>
      { s2 with lodge := { s2.lodge with scratch := Tab.set_ [] s2.lodge.scratch 0 (zeroBytes (Tab.at_ [] s2.lodge.scratch 0) o n) } }
    | _ => s2

/-! ## Mapping (11 R515; 12 R545) -/

/-- Write one 4 KiB leaf for virtual page `vpn` in the tables of context `c`, adding the tables that are missing. -/
def State.putLeaf (s : State) (c vpn leaf : Nat) : Nat → Nat → State
  | 0, _ => s
  | n + 1, base =>
    let a := base + 8 * (vpn / 2 ^ (9 * n) % 512)
    if n = 0 then (s.physWrite 0 a (leBytes 8 leaf)).1
    else
      let r := s.physRead 0 a 8
      match r.2 with
      | .ok bs =>
        let pte := leNat bs
        if bits pte 0 1 = 1 && bits pte 1 3 = 0 then State.putLeaf r.1 c vpn leaf n (bits pte 10 44 * 4096)
        else if leaf = 0 then r.1
        else
          let t := Config.tablePlace c vpn n / 4096 * 4096
          let s1 := (r.1.physWrite 0 t (List.replicate 4096 0)).1
          State.putLeaf (s1.physWrite 0 a (leBytes 8 (t / 4096 * 1024 + 1))).1 c vpn leaf n t
      | _ => r.1
/-- The leaf that maps a page to its own address for a task: V R W U A D, and NC when asked. -/
def leafFor (vpn : Nat) (nc : Bool) : Nat := vpn * 1024 + 0xD7 + b2n nc * 2 ^ 61
/-- Map `n` pages from page `vpn` of context `c` onto themselves. -/
def State.mapPages (s : State) (c : Nat) (nc : Bool) (vpn : Nat) : Nat → State
  | 0 => s
  | n + 1 => State.mapPages (s.putLeaf c vpn (leafFor vpn nc) 4 (s.ctxRoot c)) c nc (vpn + 1) n
def State.unmapPages (s : State) (c vpn : Nat) : Nat → State
  | 0 => s
  | n + 1 => State.unmapPages (s.putLeaf c vpn 0 4 (s.ctxRoot c)) c (vpn + 1) n

/-- Free every allocation of a context and remove its mappings (R395; 12 Table 12.11 step 5). -/
def State.freeAll (s : State) (c : Nat) : State :=
  (s.allocsOf c).foldl (fun t e => (t.unmapPages c (e.1 / 4096) (e.2 / 4096)).release e.1) s

end Sys2Proof.Machine
end

