-- ==== Sys2Proof/Machine/PqOps.lean ====
section
/-!
DEFINITION. Settings of Pergola queues (07 R330–R332, R702; 12 R563), pops with a store error (07 R352), and the host
ring of SINK 2 (12 R557, R558).
-/
namespace Sys2Proof.Machine

/-! ## Settings that a setting of EN must satisfy (07 R331) -/

/-- The notice target is in range: a vector, a present Lodge core, or an object. -/
def State.noticeOk (s : State) (q : Nat) : Bool :=
  let ix := fld (s.pqNotice q) 0 11
  match fld (s.pqNotice q) 30 2 with
  | 0 => true
  | 1 => decide (ix < s.ident.cores)
  | 2 => decide (ix < 512)
  | _ => false
/-- The settings of NOTICE, SINK and the watermarks that configuration word `c` uses are in range. -/
def State.usedOk (s : State) (q : Nat) (c : Word) : Bool :=
  let notice := fld c 28 2
  let sink := fld c 22 2
  notice != 3 && sink != 3 &&
  (!(notice == 2 || bit c 21) || decide (s.pqLo q < s.pqHi q)) &&
  (notice == 0 || s.noticeOk q) &&
  (sink != 1 || (decide (fld (s.reg (aPq q + 0x14)) 25 1 < s.ident.dies) && decide (fld (s.reg (aPq q + 0x14)) 16 8 < 48))) &&
  (sink != 2 || (decide (4 ≤ fld (s.reg (aPq q + 0xD0)) 0 5) && decide (fld (s.reg (aPq q + 0xD0)) 0 5 ≤ 16)))
def State.pqBase (s : State) (q : Nat) : Nat := s.regN (aPq q + 0x04)
/-- The region overlaps that of another enabled queue of the hub. -/
def State.regionFree (s : State) (q : Nat) : Bool :=
  let b := s.pqBase q
  let e := b + s.pqDepth q
  (List.range 256).all (fun i =>
    let j := q / 256 * 256 + i
    j == q || !s.pqEn j || decide (e ≤ s.pqBase j) || decide (s.pqBase j + s.pqDepth j ≤ b))
/-- A setting of EN with configuration word `c` is not refused (07 R331). -/
def State.enableOk (s : State) (q : Nat) (c : Word) : Bool :=
  let d := s.pqDepth q
  let b := s.pqBase q
  decide (16 ≤ d) && decide (d ≤ 32768) && d % 16 == 0 && b % 16 == 0 && decide (b + d ≤ 32768) &&
  s.regionFree q && s.usedOk q c

/-! ## Writes of settings -/

def pqCfgMask : Word := 0xF8FC0000
/-- A write of PQ_CFG of an ordinary queue (07 R330–R332). -/
def State.writeCfgPlain (s : State) (q : Nat) (v : Word) : State :=
  if s.pqEn q then (if bit v 31 then s else s.pqDisableAll q)
  else
    let c := v &&& pqCfgMask
    if bit v 31 = false then s.setReg (aPq q) c
    else if s.enableOk q c then s.setReg (aPq q) c
    else (s.setReg (aPq q) (c &&& 0x7FFFFFFF)).setBits (aPq q + 0x20) 0x80
/-- A write of PQ_CFG: the ledger queue keeps its fixed settings (07 R702), the error queue all but SINK (12 R563). -/
def State.writePqCfg (s : State) (q : Nat) (v : Word) : State :=
  if q = qLedger then
    let c := v &&& 0x30FC0000
    if fld c 22 2 % 2 = 0 && s.usedOk q c then s.setReg (aPq q) c else s.setBits (aPq q + 0x20) 0x80
  else if q = qError then
    (if fld v 22 2 % 2 = 0 then s.setReg (aPq q) (v &&& 0x00C00000) else s)
  else if s.pqPresent q then s.writeCfgPlain q v else s
/-- The write of a setting of the ledger queue stands unless it leaves settings that R331 refuses (07 R702). ABOVE is 0 while
HI is not above LO (R343). -/
def State.ledgerSetting (s : State) (a : Nat) (v : Word) : State :=
  let s1 := s.plainWrite a v
  if !(s1.usedOk qLedger (s1.pqCfg qLedger)) then s.setBits (aPq qLedger + 0x20) 0x80
  else s1.onPq qLedger (fun p => { p with above := p.above && decide (s1.pqLo qLedger < s1.pqHi qLedger) })
/-- A write of PQ_BASE, PQ_DEPTH, PQ_WMARK, PQ_NOTICE, PQ_SINK or the ring address of PQ_SINK_HOST, `o` bytes into the
block (07 R330, R702; 12 R563). -/
def State.writePqSetting (s : State) (q o : Nat) (v : Word) : State :=
  if q = qLedger then
    (if o = 0x0C || o = 0x10 || o = 0xD0 || o = 0xD4 then s.ledgerSetting (aPq q + o) v else s)
  else if q = qError then (if o = 0xD0 || o = 0xD4 then s.plainWrite (aPq q + o) v else s)
  else if s.pqEn q then s
  else s.plainWrite (aPq q + o) v

/-! ## Pops with an uncorrectable store error (07 R352) -/

/-- The first item equal to `i`, marked as failing its store ECC. -/
def markItem (i : QItem) : List QItem → List QItem
  | [] => []
  | j :: js => if j = i then { j with poison := true } :: js else j :: markItem i js
/-- Mark the head item as failing its store ECC. -/
def State.poisonHead (s : State) (q : Nat) : State :=
  match headItem (s.pqWhole q) (s.pq q) with
  | none => s
  | some i => s.onPq q (fun p => { p with items := markItem i p.items })
/-- Pop with the store error that the read met. -/
def State.popWith (s : State) (q : Nat) (ue : Bool) : State × DWord × Option QItem :=
  (if ue then s.poisonHead q else s).popItem q

/-! ## The host ring (12 R557, R558) -/

def State.ringLog (s : State) (q : Nat) : Nat := fld (s.reg (aPq q + 0xD0)) 0 5
def State.ringBase (s : State) (q : Nat) : Nat := bits (s.reg64 (aPq q + 0xD0)) 12 36 * 4096
def State.hostHead (s : State) (q : Nat) : Nat := s.regN (aPq q + 0xD8)
def State.hostTail (s : State) (q : Nat) : Nat := s.regN (aPq q + 0xDC)
/-- HOST_TAIL − HOST_HEAD as 32-bit counts. -/
def ringUsed (tail head : Nat) : Nat := (tail + 2 ^ 32 - head) % 2 ^ 32
def State.ringHasRoom (s : State) (q : Nat) : Bool := decide (ringUsed (s.hostTail q) (s.hostHead q) < 2 ^ s.ringLog q)

/-- Deliver the head item to the host ring: the slot, then the new tail, in that order, as requests of the hub's HOSTQ (09 Table
9.1). A write that the Hedge refuses has no effect (notes/assumptions/117.md). -/
def State.deliverHost (s : State) (q : Nat) (ue : Bool) : State :=
  let r := s.popWith q ue
  match r.2.2 with
  | none => s
  | some i =>
    if i.poison then r.1.pqLost q 1
    else
      let n := 2 ^ s.ringLog q
      let t := s.hostTail q
      let t' := (t + 1) % 2 ^ 32
      let h := q / 256 % 2
      let s1 := r.1.hostqWrite h (hostBase + s.ringBase q + 64 * (t % n)) (lineBytes i.data)
      (s1.hostqWrite h (hostBase + s.ringBase q + 64 * n) (leBytes 8 t')).setRegN (aPq q + 0xDC) t'
/-- A write of HOST_HEAD (12 R558). -/
def State.writeHostHead (s : State) (q : Nat) (v : Word) : State :=
  if s.pqPresent q && decide (ringUsed (s.hostTail q) v.toNat ≤ 2 ^ s.ringLog q) then s.setReg (aPq q + 0xD8) v else s

end Sys2Proof.Machine
end

