-- ==== Sys2Proof/Machine/LodgeMem.lean ====
section
/-!
DEFINITION. Memory as a Lodge core sees it (11 R496, R499–R501, R507): the hub's L2, the core's store buffer and instruction
cache, and the response of the Hedge. The L1 data caches of a hub are coherent through its L2 and hold nothing of their own.
-/
namespace Sys2Proof.Machine

/-- The hub of core `c`. -/
def hubOf (c : Nat) : Nat := c / 4 % 2

/-- HBM or scratch; every other address is IO whatever its PBMT (R499). -/
def memoryAt (pa : Nat) : Bool := match physOf pa with
  | .hbm _ => true
  | .scratch _ => true
  | _ => false

/-! ## L2 lines -/

def State.clearL2Poison (s : State) (h a n : Nat) : State :=
  { s with mem := { s.mem with hubPoison := s.mem.hubPoison.filter (fun w => match w with
    | .l2 g k => !(g.val == h && decide (a ≤ 8 * k) && decide (8 * k + 8 ≤ a + n))
    | _ => true) } }
/-- Bring line `k` into the L2 of hub `h`; poisoned words stay poisoned in it. -/
def State.l2Fill (s : State) (h k : Nat) : State :=
  if (s.l2Line h k).isSome then s
  else
    let r := s.hbmRead (64 * k) 64
    let s1 := r.1.setL2Line h k (some ⟨lineOf r.2, false⟩)
    (List.range 8).foldl (fun t i =>
      if t.mem.hbmPoison.contains (8 * k + i) && t.wordFilled (8 * k + i) then t.setPoison (.l2 (hubFin h) (8 * k + i)) else t) s1
/-- Write a dirty line back; its poisoned words become poisoned in HBM. -/
def State.l2Clean (s : State) (h k : Nat) : State :=
  match s.l2Line h k with
  | none => s
  | some l =>
    if l.dirty = false then s
    else
      let s1 := (s.hbmWrite (64 * k) (lineBytes l.data)).setL2Line h k (some { l with dirty := false })
      (List.range 8).foldl (fun t i =>
        if t.mem.hubPoison.contains (.l2 (hubFin h) (8 * k + i)) then t.setPoison (.hbm (8 * k + i)) else t) s1
/-- Drop a line without writing it back; a write-back of the line's row goes with it. -/
def State.l2Drop (s : State) (h k : Nat) : State :=
  ((s.cancelRow (.l2 (hubFin h) (8 * k))).setL2Line h k none).clearL2Poison h (64 * k) 64
def State.l2Flush (s : State) (h k : Nat) : State := (s.l2Clean h k).l2Drop h k
/-- Write back and drop every line of a hub's L2. -/
def State.l2FlushAll (s : State) (h : Nat) : State :=
  (Tab.at_ [] s.lodge.l2 h).foldl (fun t e => t.l2Flush h e.1) s
/-- The L2 may evict one line (Table 11.1 leaves replacement open). -/
def State.l2Evict (s : State) (h : Nat) : State :=
  match Config.l2Evicts s.fresh with
  | none => s.useFree
  | some k => s.useFree.l2Flush h k

/-! ## Reads and writes of memory -/

/-- Read memory as hub `h` sees it. -/
def State.memRead (s : State) (h pa pbmt n : Nat) : State × PRes :=
  if cachedAt pa pbmt then
    let s1 := s.l2Fill h (pa / 64)
    match s1.l2Poison h pa n with
    | some w => (s1, .poison w)
    | none =>
      match s1.l2Line h (pa / 64) with
      | some l => (s1, .ok (slice (lineBytes l.data) (pa % 64) n))
      | none => (s1, .unrouted)
  else s.physRead h pa n
/-- Write memory as hub `h` sees it. -/
def State.memWrite (s : State) (h pa : Nat) (cached : Bool) (bs : List Byte) : State :=
  if cached then
    let k := pa / 64
    let s1 := s.l2Fill h k
    match s1.l2Line h k with
    | none => s1
    | some l =>
      let old := lineBytes l.data
      let new := slice old 0 (pa % 64) ++ bs ++ old.drop (pa % 64 + bs.length)
      ((s1.cancelRow (.l2 (hubFin h) (8 * k))).setL2Line h k (some ⟨lineOf new, true⟩)).clearL2Poison h pa bs.length
  else (s.physWrite h pa bs).1

/-! ## Reservations -/

/-- A write of core `c` ends the reservation of core `d` of the same hub on a line it touches. -/
def CoreState.lose (c pa n d : Nat) (x : CoreState) : CoreState :=
  match x.resv with
  | none => x
  | some k =>
    if d != c && hubOf d == hubOf c && decide (pa / 64 ≤ k) && decide (k ≤ (pa + max n 1 - 1) / 64) then { x with resv := none }
    else x
def State.breakResv (s : State) (c pa n : Nat) : State :=
  { s with lodge := { s.lodge with cores := Tab.mapV CoreState.reset (CoreState.lose c pa n) s.lodge.cores } }
/-- A write of core `c` reaches memory. -/
def State.coreWrite (s : State) (c pa : Nat) (cached : Bool) (bs : List Byte) : State :=
  (s.memWrite (hubOf c) pa cached bs).breakResv c pa bs.length

/-! ## The store buffer (R507) -/

def State.sbDrainOne (s : State) (c : Nat) : State :=
  match (s.core c).sb with
  | [] => s
  | e :: es =>
    (s.setCore c { s.core c with sb := es }).coreWrite c e.pa e.cached (leBytes e.n e.data.toNat)
/-- Every buffered store becomes visible. -/
def State.sbDrainN : Nat → State → Nat → State
  | 0, s, _ => s
  | n + 1, s, c => State.sbDrainN n (s.sbDrainOne c) c
def State.sbDrain (s : State) (c : Nat) : State := s.sbDrainN (s.core c).sb.length c
/-- The oldest buffered store may become visible. -/
def State.sbMayDrain (s : State) (c : Nat) : State :=
  if Config.drains s.fresh then s.useFree.sbDrainOne c else s.useFree
/-- The bytes of a read with the core's own buffered stores laid over them, oldest first. -/
def overlay (pa : Nat) (bs : List Byte) (sb : List SbEntry) : List Byte :=
  sb.foldl (fun acc e =>
    (List.range acc.length).map (fun i =>
      let a := pa + i
      if e.pa ≤ a && a < e.pa + e.n then BitVec.ofNat 8 (e.data.toNat / 256 ^ (a - e.pa)) else acc.getD i 0)) bs

/-! ## Errors of a core's access (R500; 08 R374) -/

/-- The context that core `c` runs for, as error records carry it. -/
def State.coreCtx (s : State) (c : Nat) : Nat :=
  match (s.core c).task with
  | none => 0xFFFF
  | some k => fld (s.reg (aTask (k / 256) (k % 256) + 0x28)) 0 16
/-- The location word of core `c`. -/
def coreLoc (c : Nat) : Nat := 7 * 2 ^ 24 + c * 2 ^ 16
/-- A poisoned load names the core and its context. -/
def State.corePoison (s : State) (c : Nat) (w : MemWord) : State :=
  s.emit { s.poisonErr 0x0302 w true with loc := coreLoc c, ctx := s.coreCtx c, kind := 0, hub := hubOf c }

/-- The Hedge's answer to an access of core `c`: 0 is SERVED. -/
def State.coreHedge (s : State) (c pa pbmt n : Nat) (write : Bool) : State × Nat := s.throughL2 (hubOf c) (mCore c) pa pbmt n write

/-- The protected word that a read at a physical address reaches: that of the L2 where the L2 holds it, else that of the
stack, from which a cached line comes. -/
def State.wordAt (s : State) (c pa pbmt : Nat) : Option MemWord :=
  match physOf pa with
  | .hbm d => some (if pbmt = 0 && (s.l2Line (hubOf c) (pa / 64)).isSome then .l2 (hubFin (hubOf c)) (pa / 8) else .hbm (d / 8))
  | .scratch _ => some (.l2 (hubFin (hubOf c)) (pa / 8))
  | _ => none

/-- A load, fetch or table read of core `c` from memory; none is an access fault. -/
def State.coreRead (s : State) (c pa pbmt n : Nat) (e : Ecc) : State × Option (List Byte) :=
  let g := s.coreHedge c pa pbmt n false
  if g.2 ≠ 0 then (g.1, none)
  else
    let s1 := (match g.1.wordAt c pa pbmt with
      | some w => g.1.eccFind w e
      | none => g.1)
    let r := s1.memRead (hubOf c) pa pbmt n
    match r.2 with
    | .ok bs => (r.1, some (overlay pa bs (r.1.core c).sb))
    | .poison w => (r.1.corePoison c w, none)
    | .unrouted => (r.1, none)

/-- A store of core `c` enters its store buffer, or is performed at once where it is not memory; false is an access
fault. -/
def State.coreStore (s : State) (c pa pbmt n : Nat) (v : DWord) : State × Bool :=
  let g := s.coreHedge c pa pbmt n true
  if g.2 ≠ 0 then (g.1, false)
  else if memoryAt pa then
    (g.1.setCore c { g.1.core c with sb := (g.1.core c).sb ++ [⟨pa, n, v, cachedAt pa pbmt⟩] }, true)
  else ((g.1.sbDrain c).coreWrite c pa false (leBytes n v.toNat), true)

end Sys2Proof.Machine
end

