-- ==== Sys2Proof/Machine/Tasks.lean ====
section
/-!
DEFINITION. Tasks of the Lodge (11 R516–R528; 12 R552, R567, R568, R572, R573): records, dispatch, start, end, cancel,
suspension, faults of a context, and the moves of a porter.
-/
namespace Sys2Proof.Machine

/-! ## Records (Table 11.8); the task in slot `i` of hub `h` has key 256 h + i -/

def aTaskOf (k : Nat) : Nat := aTask (k / 256) (k % 256)
def State.taskEntry (s : State) (k : Nat) : Nat := s.reg64 (aTaskOf k)
def State.taskArg (s : State) (k : Nat) : Nat := s.reg64 (aTaskOf k + 0x08)
def State.taskStack (s : State) (k : Nat) : Nat := s.reg64 (aTaskOf k + 0x10)
def State.taskFenceAddr (s : State) (k : Nat) : Nat := s.reg64 (aTaskOf k + 0x18)
def State.taskFenceValue (s : State) (k : Nat) : Nat := s.reg64 (aTaskOf k + 0x20)
def State.taskCtx (s : State) (k : Nat) : Nat := fld (s.reg (aTaskOf k + 0x28)) 0 16
def State.taskMask (s : State) (k : Nat) : Nat := fld (s.reg (aTaskOf k + 0x28)) 16 8
def State.taskEssential (s : State) (k : Nat) : Bool := bit (s.reg (aTaskOf k + 0x28)) 24
/-- PRIO, lowered to CTX_PRIO_MAX (12 Table 12.5). -/
def State.taskPrio (s : State) (k : Nat) : Nat :=
  let p := fld (s.reg (aTaskOf k + 0x28)) 25 3
  let c := s.taskCtx k
  if c < 64 then min p (fld (s.reg (aCtxPrioMax c)) 0 3) else p
def State.taskDoneSig (s : State) (k : Nat) : Nat := fld (s.reg (aTaskOf k + 0x2C)) 0 16
/-- The signal objects of the enabled WAIT fields. -/
def State.taskWaits (s : State) (k : Nat) : List Nat :=
  (List.range 4).filterMap (fun j =>
    let w := fld (s.reg (aTaskOf k + 0x30 + 4 * (j / 2))) (16 * (j % 2)) 16
    if bits w 15 1 = 1 then some (bits w 0 9) else none)
def State.taskTag (s : State) (k : Nat) : Word := s.reg (aTaskOf k + 0x38)

/-- A record may be written, and a slot submitted, in these states (R517). -/
def slotFree (st : Nat) : Bool := st == 0 || decide (4 ≤ st)
def TaskState.isLive (t : TaskState) : Bool := !(slotFree t.st)
/-- The listed tasks. -/
def State.taskKeys (s : State) : List Nat := s.lodge.tasks.map (fun e => e.1)
def State.liveTasks (s : State) : List Nat := s.taskKeys.filter (fun k => (s.task k).isLive)
def State.ctxTasks (s : State) (c : Nat) : List Nat := s.liveTasks.filter (fun k => s.taskCtx k == c)

/-- The state of a slot, in its register too (Table 11.9). -/
def State.setTaskSt (s : State) (k st code : Nat) (exit : Word) : State :=
  ((s.setTask k { s.task k with st := st }).setRegN (aTaskOf k + 0x40) (st * 2 ^ 28 + code)).setReg (aTaskOf k + 0x44) exit

/-! ## Lodge time and shares (12 R572, R573) -/

def nsOf (ck : Nat) : Nat := ck * 4 / 5
def State.ctxWeight (s : State) (c : Nat) : Nat := max 1 (fld (s.reg (aCtxWeight c)) 0 8)
/-- What the run of a task beyond its first 100 µs adds to the share clock of weight `w`. -/
def vtimeRun (w ns : Nat) : Nat := (ns - 100000) / w
/-- CTX_CORE_NS and CTX_VTIME count the tasks that have a core as they run. -/
def State.ctxRuns (s : State) (c : Nat) : List Nat := (s.ctxTasks c).filter (fun k => (s.task k).core.isSome)
def State.ctxCoreNs (s : State) (c : Nat) : Nat :=
  s.reg64 (aCtxCoreNs c) + (s.ctxRuns c).foldl (fun n k => n + nsOf (s.task k).runCk) 0
def State.ctxVtime (s : State) (c : Nat) : Nat :=
  s.reg64 (aCtxVtime c) + (s.ctxRuns c).foldl (fun n k => n + vtimeRun (s.ctxWeight c) (nsOf (s.task k).runCk)) 0
def State.addReg64 (s : State) (a n : Nat) : State := s.setReg64 a ((s.reg64 a + n) % 2 ^ 64)

/-- Lowest share clock among contexts with pending or running tasks. -/
def State.lowestVtime (s : State) : Option Nat :=
  ((List.range 64).filter (fun c => (s.ctxTasks c).any (fun k => (s.task k).st ≤ 2))).foldl (fun m c =>
    some (match m with
      | none => s.ctxVtime c
      | some v => min v (s.ctxVtime c))) none
/-- A context without pending or running tasks gets one: its share clock is raised (R573). -/
def State.raiseVtime (s : State) (c : Nat) : State :=
  if 64 ≤ c || (s.ctxTasks c).any (fun k => (s.task k).st ≤ 2) then s
  else match s.lowestVtime with
    | none => s
    | some v => s.setReg64 (aCtxVtime c) (max v (s.reg64 (aCtxVtime c)))

/-! ## Cores -/

def CoreState.getX (x : CoreState) (r : Nat) : DWord := if r = 0 then 0 else Tab.at_ 0 x.x r
def CoreState.setX (x : CoreState) (r : Nat) (v : DWord) : CoreState := if r = 0 then x else { x with x := Tab.set_ 0 x.x r v }
def State.corePresent (s : State) (c : Nat) : Bool := decide (c < s.ident.cores)
/-- LDG_CORE_PWR asks for the core to be on. -/
def State.corePwrBit (s : State) (c : Nat) : Bool := bit (s.reg (aLodge (hubOf c))) (c % 4)
/-- The core is powered and has no task, and no power-off of it waits (R518, R525). -/
def State.coreIdle (s : State) (c : Nat) : Bool :=
  s.corePresent c && s.domOn (12 + c) && s.corePwrBit c && (s.core c).task.isNone &&
  !(s.power.turningOn.contains (12 + c)) && !(s.power.turningOff.contains (12 + c))
/-- The idle core of lowest index that a task may use (R518). -/
def State.coreFor (s : State) (k : Nat) : Option Nat :=
  ((List.range 4).filter (fun j => j != 0 && s.taskMask k / 2 ^ j % 2 == 1)).findSome? (fun j =>
    if s.coreIdle (4 * (k / 256) + j) then some (4 * (k / 256) + j) else none)

/-! ## Waiting cores (07 R363; 11 R505) -/

/-- Cores that wait in KQ.WAIT on an object. -/
def State.waitersOn (s : State) (obj : Nat) : List Nat :=
  (List.range 8).filter (fun c => match (s.core c).wait with
    | some w => w.kind == .wait && w.obj == obj
    | none => false)
/-- A waiting Xkzq instruction of a core is abandoned with no effect; a held item leaves its queue. -/
def State.abandonWait (s : State) (c : Nat) : State :=
  match (s.core c).wait with
  | none => s
  | some w =>
    let s1 := (match w.offer with
      | some o => s.onPq w.obj (fun p => { p with held := removeOffer o p.held })
      | none => s)
    s1.setCore c { s1.core c with wait := none }

/-! ## Fences and the end of a task (R520) -/

/-- Begin to remove the power of a domain: its gate closes (09 R442). A domain without power stays off. -/
def State.beginOff (s : State) (n : Nat) : State :=
  if s.power.off.contains n then
    let on := s.power.turningOn.filter (fun m => m != n)
    { s with power := { s.power with turningOn := on } }
  else if s.power.turningOff.contains n then s
  else
    let off := s.power.turningOff ++ [n]
    ({ s with power := { s.power with turningOff := off } } : State).closeGates n
/-- Begin to power up a domain that has no power (14 R641). -/
def State.beginOn (s : State) (n : Nat) : State :=
  if s.power.off.contains n && !(s.power.turningOn.contains n) then
    let on := s.power.turningOn ++ [n]
    { s with power := { s.power with turningOn := on } }
  else s

/-- The core of a task is free again; a power-off that waited for the task begins (R525). -/
def State.freeCore (s : State) (c : Nat) : State :=
  let s1 := s.abandonWait c
  let s2 := s1.setCore c { s1.core c with task := none, porter := false, resv := none }
  if s2.corePwrBit c then s2 else s2.beginOff (12 + c)

/-- A ring entry whose work has ended waits for its completion (12 R556). -/
def State.endEntry (s : State) (o : Nat × Nat × Nat) (st code : Nat) (exit : Word) (ns : Nat) : State :=
  let x := s.ctx o.1
  s.setCtx o.1 { x with entries := x.entries.map (fun e =>
    if e.ring = o.2.1 && e.index.toNat = o.2.2 && e.phase != .ready then
      { e with phase := .ready, state := st, code := BitVec.ofNat 16 code, exit := exit, runNs := ns } else e) }

/-- A task ends: its stores become visible, its fence is written, DONE_SIG is signalled, its status is set (R520). -/
def State.endTask (s : State) (k st code : Nat) (exit : Word) : State :=
  let t := s.task k
  let c := s.taskCtx k
  let ns := nsOf t.runCk
  let s1 := (match t.core with
    | some co => s.sbDrain co
    | none => s)
  let s2 := if s.taskFenceAddr k = 0 then s1 else s1.fenceWrite (k / 256) c (s.taskFenceAddr k) (s.taskFenceValue k)
  let s3 := if s.taskDoneSig k < 512 then s2.signal (s.taskDoneSig k) 1 else s2
  let s4 := (s3.setTaskSt k st code exit).setReg (aTaskOf k + 0x48) (s.taskTag k)
  let s5 := if c < 64 then
      (((s4.addReg64 (aCtxCoreNs c) ns).addReg64 (aCtxVtime c) (if t.core.isSome then vtimeRun (s.ctxWeight c) ns else 0)).count
        (if st = 4 then aCtxTasksDone c else aCtxTasksCancelled c) 1)
    else s4
  let s6 := s5.setTask k { s5.task k with core := none, origin := none, runCk := 0, copy := none, interrupted := false,
                                          faulting := false, krec := none, stopAt := none, readyCk := 0,
                                          objAt := none }
  let s7 := (match t.core with
    | some co => s6.freeCore co
    | none => s6)
  match t.origin with
  | some o => s7.endEntry o st code exit ns
  | none => s7

/-! ## Submission (R517, R519) -/

/-- A slot is submitted by GO: PENDING, or at once FAULTED when no core may run it, or CANCELLED by a cancel of the same ck
(R519, R530). -/
def State.taskGo (s : State) (k : Nat) : State :=
  if slotFree (s.task k).st = false || s.ident.hubs ≤ k / 256 then s
  else
    let s1 := s.raiseVtime (s.taskCtx k)
    let s2 : State := { s1 with lodge := { s1.lodge with nextOrder := s1.lodge.nextOrder + 1 } }
    let s3 := (s2.setTask k { s2.task k with order := s1.lodge.nextOrder, runCk := 0, readyCk := 0 }).setTaskSt k 1 0 0
    if bits (s.taskMask k) 1 3 = 0 then s3.endTask k 6 0x0603 0
    else if (s.task k).cancelAt = some s.now then s3.endTask k 5 0x0703 0
    else s3

/-! ## Dispatch (R518) -/

/-- Take one count of each object, leaving what waiting cores are owed; none when some object has none left. -/
def State.takeWaits (s : State) : List Nat → Option State
  | [] => some s
  | o :: os =>
    if s.sigEn o && decide ((s.waitersOn o).length < s.sigCount o) then
      State.takeWaits (s.setRegN (aSig o) (s.sigCount o - 1)) os
    else none

/-- Non-essential tasks do not start, and do not run, under a supply warning (R524). -/
def State.warnStops (s : State) (k : Nat) : Bool := s.sup.warnHeld && !(s.taskEssential k)
/-- A pending task whose waits are met. -/
def State.waitsMet (s : State) (k : Nat) : Bool :=
  (s.task k).st == 1 && !(s.warnStops k) && (s.takeWaits (s.taskWaits k)).isSome
/-- A task that is ready to start. -/
def State.taskReady (s : State) (k : Nat) : Bool := s.waitsMet k && (s.coreFor k).isSome

/-- Task `a` starts before task `b` (R518; 12 R572). -/
def State.taskBefore (s : State) (a b : Nat) : Bool :=
  let pa := s.taskPrio a
  let pb := s.taskPrio b
  if pa ≠ pb then decide (pb < pa)
  else
    let ka := decide (64 ≤ s.taskCtx a)
    let kb := decide (64 ≤ s.taskCtx b)
    if ka ≠ kb then ka
    else
      let va := if ka then 0 else s.ctxVtime (s.taskCtx a)
      let vb := if kb then 0 else s.ctxVtime (s.taskCtx b)
      if va ≠ vb then decide (va < vb)
      else if (s.task a).order ≠ (s.task b).order then decide ((s.task a).order < (s.task b).order)
      else decide (a < b)
/-- The ready task of hub `h` that starts next. -/
def State.nextTask (s : State) (h : Nat) : Option Nat :=
  (s.liveTasks.filter (fun k => k / 256 == h && s.taskReady k)).foldl (fun m k => match m with
    | none => some k
    | some b => if s.taskBefore k b then some k else some b) none

/-! ## Faults of a context (12 R567, R568) -/

def State.ctxSt (s : State) (c : Nat) : Nat := fld (s.reg (aCtxState c)) 0 4
def State.setCtxSt (s : State) (c v : Nat) : State := s.setReg (aCtxState c) (setFld (s.reg (aCtxState c)) 0 4 v)

/-- A start of this very ck gives back its counts, its core and what it charged: a cancel of the same ck wins (R521). -/
def State.unstart (s : State) (k c : Nat) : State :=
  let ctx := s.taskCtx k
  let s1 := (s.taskWaits k).foldl (fun u o => u.setRegN (aSig o) (u.sigCount o + 1)) s
  let s2 := if ctx < 64 then
      (s1.addReg64 (aCtxReadyNs ctx) (2 ^ 64 - nsOf (s.task k).readyCk)).addReg64 (aCtxVtime ctx) (2 ^ 64 - 100000 / s.ctxWeight ctx)
    else s1
  (s2.freeCore c).setTask k { s.task k with core := none }
/-- The task started in this ck and has done nothing yet. -/
def State.justStarted (s : State) (k c : Nat) : Bool :=
  (s.task k).st == 2 && (s.task k).startedAt == s.now && (s.core c).pc.toNat == s.taskEntry k
/-- A task that has not run ends at once. -/
def State.cancelIdle (s : State) (k : Nat) (faulting : Bool) : State :=
  if faulting then s.endTask k 6 0x0701 0 else s.endTask k 5 0x0703 0
/-- A running or suspended task is interrupted; a pending one, or one that starts in this very ck, ends at once (R521).
`faulting` makes it end FAULTED. -/
def State.cancelTask (s : State) (k : Nat) (faulting : Bool) : State :=
  let t := s.task k
  let fresh := t.core.filter (fun c => s.justStarted k c)
  if t.st = 1 then s.cancelIdle k faulting
  else if fresh.isSome then (s.unstart k (fresh.getD 0)).cancelIdle k faulting
  else if t.st = 2 || t.st = 3 then
    s.setTask k { t with interrupted := true, faulting := t.faulting || (faulting && !t.interrupted) }
  else s

/-- Every fetched entry of a context that has not completed is discarded (R568). -/
def State.discardEntries (s : State) (c : Nat) : State :=
  let s1 := (s.ctxTasks c).foldl (fun t k => t.cancelTask k true) s
  let x := s1.ctx c
  s1.setCtx c { x with entries := x.entries.map (fun e =>
    if e.phase = .fetched || e.phase = .waiting then { e with phase := .ready, state := 6, code := 0x0701 } else e) }

/-- Write a 64-byte record into registers. -/
def State.putLine (s : State) (a : Nat) (l : Line) : State :=
  (List.range 16).foldl (fun t j => t.setReg (a + 4 * j) (lineWord l j)) s

/-- A fault of context `c` with its record (R523, R567). -/
def State.ctxFault (s : State) (c : Nat) (e : ErrInfo) : State :=
  let rec_ := s.errorRecord e
  let s1 := s.emit e
  if 64 ≤ c || s.ctxSt c ≠ 1 then s1
  else
    let st := setFld (setFld (s1.reg (aCtxState c)) 0 4 2) 16 16 e.code
    (((s1.setReg (aCtxState c) st).putLine (aCtxFaultInfo c) rec_).count (aCtxFaults c) 1).discardEntries c

/-- A task ends by an exception it does not handle (R523). -/
def State.taskFault (s : State) (k c : Nat) (mepc mcause mtval : DWord) : State :=
  let ctx := s.taskCtx k
  let e : ErrInfo := { err 0x0701 with ctx := ctx, loc := coreLoc c, d0 := mepc.toNat, d1 := mcause.toNat, d2 := mtval.toNat,
                                       hub := k / 256 }
  (s.endTask k 6 0x0701 0).ctxFault ctx e

/-! ## COPY tasks (12 R552) -/

/-- The porter of core `c` is moving a chunk of COPY task `k`. -/
def State.copyChunk (s : State) (k c : Nat) : State :=
  if (s.task k).copy.isSome then s.setCore c { s.core c with porter := true } else s

/-! ## Start (R498, R518, R572) -/

def csrSatp : Nat := 0x180
/-- satp of a task of context `c`: Sv48, ASID c + 1, the context's root. -/
def State.taskSatp (s : State) (c : Nat) : DWord :=
  if c < 64 then BitVec.ofNat 64 (9 * 2 ^ 60 + (c + 1) * 2 ^ 44 + s.ctxRoot c / 4096) else 0

/-- Start task `k` on core `c`, its waits already taken. -/
def State.startOn (s : State) (k c : Nat) : State :=
  let ctx := s.taskCtx k
  let t := s.task k
  let x := s.core c
  let x1 := (x.setX 10 (BitVec.ofNat 64 (s.taskArg k))).setX 2 (BitVec.ofNat 64 (s.taskStack k))
  let x2 := { x1 with pc := BitVec.ofNat 64 (s.taskEntry k), priv := 0, task := some k, resv := none,
                      csr := Tab.set_ 0 x1.csr csrSatp (s.taskSatp ctx) }
  let s1 := (s.setCore c x2).setTask k { t with core := some c, startedAt := s.now, runCk := 0 }
  let s2 := s1.setTaskSt k 2 0 0
  let s3 := if ctx < 64 then
      (s2.addReg64 (aCtxReadyNs ctx) (nsOf t.readyCk)).addReg64 (aCtxVtime ctx) (100000 / s.ctxWeight ctx)
    else s2
  s3.copyChunk k c

/-- The dispatcher starts one ready task of hub `h` (R518). -/
def State.dispatchOne (s : State) (h : Nat) : State :=
  match s.nextTask h with
  | none => s
  | some k =>
    match s.coreFor k, s.takeWaits (s.taskWaits k) with
    | some c, some s1 => s1.startOn k c
    | _, _ => s

/-! ## Suspension (R524) -/

def State.suspendTask (s : State) (k : Nat) : State :=
  let t := s.task k
  match t.core with
  | some c =>
    if t.st = 2 && !(s.taskEssential k) && !(s.core c).porter then (s.abandonWait c).setTaskSt k 3 0 0 else s
  | none => s
/-- A supply warning begins. -/
def State.suspendAll (s : State) : State := s.liveTasks.foldl (fun t k => t.suspendTask k) s
/-- The warning ends: suspended tasks resume on their cores. -/
def State.resumeTask (s : State) (k : Nat) : State :=
  let t := s.task k
  if t.st = 3 && !t.interrupted then
    let s1 := s.setTaskSt k 2 0 0
    (match t.core with
      | some c => s1.copyChunk k c
      | none => s1)
  else s
def State.resumeAll (s : State) : State := s.liveTasks.foldl (fun t k => t.resumeTask k) s

/-! ## The end of a cancel (R521) -/

/-- An interrupted task whose porter is done ends: CANCELLED, or FAULTED for a fault of its context. -/
def State.cancelDone (s : State) (k : Nat) : State :=
  let t := s.task k
  match t.core with
  | none => s
  | some c =>
    if (t.st = 2 || t.st = 3) && t.interrupted && !(s.core c).porter then
      let e : ErrInfo := { err 0x0703 with ctx := s.taskCtx k, loc := coreLoc c, d0 := (s.core c).pc.toNat, hub := k / 256 }
      let s1 := s.emit e
      if t.faulting then s1.endTask k 6 0x0701 0 else s1.endTask k 5 0x0703 0
    else s

/-! ## Free slots and image kernels (R526–R528) -/

/-- The free slot of lowest index on hub `h`. -/
def State.freeSlot (s : State) (h : Nat) : Option Nat :=
  ((List.range 256).map (fun i => 256 * h + i)).find? (fun k => slotFree (s.task k).st)
def State.freeSlots (s : State) (h : Nat) : Nat :=
  256 - (s.liveTasks.filter (fun k => k / 256 == h)).length

def kernField (r : Line) (o n : Nat) : Nat := fieldAt (lineBytes r) o n
/-- A number of bytes in whole pages. -/
def pageUp (n : Nat) : Nat := (n + 4095) / 4096 * 4096
/-- Kernel `i` of an image, with record `r`: its code lies where the firmware places it, its data, its zeros and its stack from the
next page on (R526, R527; notes/assumptions/8.md). -/
def Image.kern (im : Image) (gen : BitVec 2) (i : Nat) (r : Line) : Kern :=
  let base := Config.kernelPlace im.hdr.digest i / 4096 * 4096
  { record := r, gen := gen, code := (base, kernField r 8 4),
    data := (base + pageUp (kernField r 8 4), kernField r 12 4 + kernField r 16 4 + kernField r 20 4),
    queues := (List.range 512).filter (fun q => im.hub.any (fun e => decide (aPq q ≤ e.2.1) && decide (e.2.1 < aPq q + 256))),
    regions := (im.regions.filter (fun x => x.kind == 0)).map (fun x => (x.start, x.len)) }
/-- An image kernel with the bytes of its code and data is placed and submitted (R526, R527). -/
def State.startKernel (s : State) (x : Kern) (bytes : List Byte) : State :=
  let r := x.record
  let h := bits (kernField r 3 1) 1 1
  match s.freeSlot h with
  | none => s
  | some k =>
    let s0 := (s.physWrite h x.code.1 (bytes.take x.code.2)).1
    let s1 := (s0.physWrite h x.data.1 (bytes.drop x.code.2 ++ List.replicate (x.data.2 - (bytes.length - x.code.2)) 0)).1
    let a := aTaskOf k
    let s2 := (s1.setReg64 a (x.code.1 + kernField r 4 4)).setReg64 (a + 0x08) (kernField r 30 6)
    let s3 := ((s2.setReg64 (a + 0x10) (x.data.1 + x.data.2)).setReg64 (a + 0x18) 0).setReg64 (a + 0x20) 0
    let s4 := s3.setRegN (a + 0x28) (0xFFFF + kernField r 2 1 * 2 ^ 16 + bits (kernField r 3 1) 0 1 * 2 ^ 24)
    let s5 := ((s4.setRegN (a + 0x2C) 0xFFFF).setReg64 (a + 0x30) 0).setReg64 (a + 0x38) (kernField r 0 2)
    let s6 := s5.setTask k { s5.task k with krec := some x, origin := none }
    s6.taskGo k
def State.startKernels (s : State) (im : Image) (gen : BitVec 2) : State :=
  ((List.range im.kernels.length).zip im.kernels).foldl (fun t e => t.startKernel (im.kern gen e.1 e.2.1) e.2.2) s
/-- The changeover window has closed: each old kernel's STOP_SIG, and its limit of 1 ms (R528). -/
def State.stopKernels (s : State) (gen : BitVec 2) : State :=
  s.liveTasks.foldl (fun t k => match (t.task k).krec with
    | some x =>
      if x.gen = gen then
        let u := t.setTask k { t.task k with stopAt := some (t.now + msCk 1) }
        let o := kernField x.record 28 2
        if o < 512 then u.signal o 1 else u
      else t
    | none => t) s

/-! ## Commands -/

/-- The bits of word `word` of a task record that Table 11.8 gives a meaning; the others are reserved (00 R12). -/
def taskWordBits (word : Nat) : Word :=
  if word = 10 then 0x0F0FFFFF else if word = 11 then 0xFFFF else if word = 12 || word = 13 then 0x81FF81FF
  else if word = 15 then 0 else 0xFFFFFFFF
/-- The record words that R517 lets a driver write. -/
def State.writeTask (s : State) (k word : Nat) (v : Word) : State :=
  if k / 256 < s.ident.hubs && slotFree (s.task k).st then s.setReg (aTaskOf k + 4 * word) (v &&& taskWordBits word) else s
def taskKey (h : Hub) (i : Slot) : Nat := 256 * h.val + i.val
def execLdgTaskRecordWrite (h : Hub) (slot : Slot) (word : Fin 16) (v : Word) (s : State) : Host.Outcome State Fault Refusal :=
  .next (s.writeTask (taskKey h slot) word.val v)
def execLdgTaskGo (h : Hub) (slot : Slot) (s : State) : Host.Outcome State Fault Refusal := .next (s.taskGo (taskKey h slot))
/-- A write of LDG_TASK_CANCEL. One that finds a free slot still meets a GO of the same ck (R521, R530). -/
def State.writeCancel (s : State) (k : Nat) : State :=
  let t := s.task k
  if slotFree t.st then (if k / 256 < s.ident.hubs then s.setTask k { t with cancelAt := some s.now } else s)
  else s.cancelTask k false
def execLdgTaskCancel (h : Hub) (slot : Slot) (s : State) : Host.Outcome State Fault Refusal :=
  .next (s.writeCancel (taskKey h slot))
def execTaskStart (h : Hub) (s : State) : Host.Outcome State Fault Refusal := .next (s.dispatchOne h.val)
def execTaskCancelComplete (h : Hub) (slot : Slot) (s : State) : Host.Outcome State Fault Refusal :=
  .next (s.cancelDone (taskKey h slot))
/-- KERNEL_STOP_TIMEOUT (R528). -/
def execKernelStopTimeout (h : Hub) (slot : Slot) (s : State) : Host.Outcome State Fault Refusal :=
  let k := taskKey h slot
  .next (match (s.task k).stopAt with
    | some t => if t ≤ s.now then s.cancelTask k false else s
    | none => s)

end Sys2Proof.Machine
end

