-- ==== Sys2Proof/Machine/HostOps.lean ====
section
/-!
DEFINITION. Contexts and submission rings (12 R540–R571), and what waits on queues and signal objects (07 R333, R363,
R365; 12 R571).
-/
namespace Sys2Proof.Machine

/-! ## Waiting Xkzq instructions (11 R503, R505) -/

def csrKzqstat : Nat := 0x800
def csrMinstret : Nat := 0xB02
/-- An Xkzq instruction of core `c` retires with a value in rd and a code in kzqstat. -/
def State.retireKq (s : State) (c rd : Nat) (v : DWord) (code : Nat) : State :=
  let x := (s.core c).setX rd v
  let csr := Tab.set_ 0 (Tab.set_ 0 x.csr csrKzqstat (BitVec.ofNat 64 code)) csrMinstret (Tab.at_ 0 x.csr csrMinstret + 1)
  s.setCore c { x with csr := csr, pc := x.pc + 4, wait := none }
/-- The waiting instruction of a core ends with a result. -/
def State.finishWait (s : State) (c code : Nat) : State :=
  match (s.core c).wait with
  | none => s
  | some w => s.retireKq c w.rd (BitVec.ofNat 64 code) code
/-- The core whose push of item `o` to queue `q` waits. -/
def State.pusherOf (s : State) (q : Nat) (o : Offer) : Option Nat :=
  (List.range 8).find? (fun c => match (s.core c).wait with
    | some w => w.kind == .push && w.obj == q && w.offer == some o
    | none => false)
/-- Settle a queue's held offers: the first, in order, that is held no longer; a waiting core retires with its result
(07 R328, R333, R337). -/
def State.serveHeld (s : State) (q : Nat) : State :=
  let before := (s.pq q).held
  let s1 := s.tryHeld q before.length before
  let after := (s1.pq q).held
  match before.find? (fun o => !(after.contains o)) with
  | none => s1
  | some o =>
    match s.pusherOf q o with
    | none => s1
    | some c => s1.finishWait c (if (offerStep (s.offerCfg q false) (s.pq q) o).res = .refused then 6 else 0)
/-- Every held offer of a disabled queue is refused (07 R332). -/
def State.refuseHeld : Nat → State → Nat → State
  | 0, s, _ => s
  | n + 1, s, q => State.refuseHeld n (s.serveHeld q) q
/-- Disable a queue: flush, then what its writers hold is refused (07 R332). -/
def State.disableQueue (s : State) (q : Nat) : State :=
  let s1 := s.pqDisableAll q
  State.refuseHeld (s1.pq q).held.length s1 q

/-! ## Ownership (12 R541, R543, R560) -/

def State.ownsSig (s : State) (c o : Nat) : Bool := decide (o < 512) && bit (s.reg (aCtxSigOwn c (o / 32))) (o % 32)
def State.ownsPq (s : State) (c q : Nat) : Bool := decide (q < 512) && bit (s.reg (aCtxPqOwn c (q / 32))) (q % 32)
def State.sigOwner (s : State) (o : Nat) : Option Nat := (List.range 64).find? (fun c => s.ownsSig c o)
def State.pqOwner (s : State) (q : Nat) : Option Nat := (List.range 64).find? (fun c => s.ownsPq c q)
/-- The active image's HUB section enables queue `q` (R543). -/
def State.pqOfImage (s : State) (q : Nat) : Bool :=
  match s.load.active with
  | none => false
  | some i => i.hub.any (fun e => e.2.1 == aPq q && bit e.2.2 31)
/-- Bit `b` of an ownership mask may be set by context `c`. -/
def State.mayOwn (s : State) (c : Nat) (queues : Bool) (b : Nat) : Bool :=
  if queues then (s.pqOwner b).all (fun d => d == c) && s.pqPresent b && !(s.pqOfImage b)
  else (s.sigOwner b).all (fun d => d == c)
/-- A write of a word of CTX_SIG_OWN or CTX_PQ_OWN (R543). -/
def State.writeOwn (s : State) (c : Nat) (queues : Bool) (w : Nat) (v : Word) : State :=
  let a := if queues then aCtxPqOwn c w else aCtxSigOwn c w
  let old := s.reg a
  let bad := (List.range 32).filter (fun j => bit v j && !(bit old j) && !(s.mayOwn c queues (32 * w + j)))
  let mask : Word := bad.foldl (fun m j => m ||| (1#32 <<< j)) 0
  let s1 := s.setReg a (v &&& ~~~mask)
  if bad.isEmpty then s1 else s1.setBits (aCtxState c) 0x400

/-! ## Rings (R549–R551) -/

def State.ringCfg (s : State) (c r : Nat) : Word := s.reg (aCtxRing c r + 8)
def State.ringEn (s : State) (c r : Nat) : Bool := bit (s.ringCfg c r) 31
def State.ringCq (s : State) (c r : Nat) : Option Nat := if bit (s.ringCfg c r) 30 then some (fld (s.ringCfg c r) 0 9) else none
def State.ringSize (s : State) (c r : Nat) : Nat := 2 ^ fld (s.reg (aCtxRing c r)) 0 5
def State.ringVa (s : State) (c r : Nat) : Nat := bits (s.reg64 (aCtxRing c r)) 12 36 * 4096
def State.ringHead (s : State) (c r : Nat) : Nat := s.regN (aCtxRing c r + 0xC)
def State.ringTail (s : State) (c r : Nat) : Nat := s.regN (aCtxRing c r + 0x10)
/-- DB_CREDIT: 2^LOG2 − (TAIL − HEAD). -/
def State.ringCredit (s : State) (c r : Nat) : Nat :=
  (s.ringSize c r + 2 ^ 32 - ringUsed (s.ringTail c r) (s.ringHead c r)) % 2 ^ 32

def eOp (l : Line) : Nat := bits (lineDWord l 0).toNat 56 8
def eBarrier (l : Line) : Bool := bits (lineDWord l 0).toNat 51 1 == 1
def eNotify (l : Line) : Bool := bits (lineDWord l 0).toNat 50 1 == 1
def eTag (l : Line) : Word := lineWord l 0
/-- Byte field of an entry. -/
def eField (l : Line) (o n : Nat) : Nat := fieldAt (lineBytes l) o n
def eObject (l : Line) : Nat := bits (eField l 8 4) 0 9
def eHub (l : Line) : Nat := if eOp l = 1 then bits (eField l 0x3C 1) 0 1 else bits (eField l 0x21 1) 0 1
def eMask (l : Line) : Nat := if eOp l = 1 then eField l 0x38 1 else eField l 0x20 1

/-! ## Validity of entries (R553) -/

/-- The WAIT fields of a TASK entry: enabled ones name owned objects, reserved bits are 0. -/
def State.waitsOk (s : State) (c : Nat) (l : Line) : Bool :=
  (List.range 4).all (fun j =>
    let w := eField l (0x30 + 2 * j) 2
    bits w 9 6 == 0 && (bits w 15 1 == 0 || s.ownsSig c (bits w 0 9)))
def State.entryOk (s : State) (c r : Nat) (l : Line) : Bool :=
  bits (lineDWord l 0).toNat 52 4 == 0 && bits (lineDWord l 0).toNat 32 18 == 0 &&
  (!(eNotify l) || (s.ringCq c r).all (fun q => s.ownsPq c q)) &&
  (match eOp l with
    | 0 => eField l 8 56 == 0
    | 1 => eField l 0x20 8 % 8 == 0 && s.waitsOk c l && bits (eMask l) 4 4 == 0 && eMask l != 0 &&
           bits (eField l 0x39 1) 4 4 == 0 && (eField l 0x3A 2 == 0xFFFF || s.ownsSig c (eField l 0x3A 2)) &&
           bits (eField l 0x3C 4) 1 31 == 0
    | 2 => bits (eField l 8 4) 9 23 == 0 && bits (eField l 0xC 4) 16 16 == 0 && eField l 0x10 48 == 0 && s.ownsSig c (eObject l)
    | 3 => bits (eField l 8 4) 9 23 == 0 && eField l 0xC 52 == 0 && s.ownsSig c (eObject l)
    | 4 => eField l 8 8 % 8 == 0 && eField l 0x18 40 == 0
    | 5 => eField l 8 8 % 8 == 0 && eField l 0x18 40 == 0
    | 6 => eMask l != 0 && bits (eMask l) 4 4 == 0 && bits (eField l 0x21 1) 1 7 == 0 && eField l 0x22 30 == 0 &&
           eField l 0x18 8 != 0 && decide (eField l 0x18 8 ≤ 2 ^ 26)
    | _ => false)

/-! ## Fetch (R550) -/

/-- The completion queue of a ring is full under back-pressure. -/
def State.cqFull (s : State) (c r : Nat) : Bool :=
  match s.ringCq c r with
  | none => false
  | some q => s.pqEn q && !(s.pqOverwrite q) && decide (s.pqDepth q ≤ (s.pq q).occ)
def ringLoc : Nat := hubLoc 0 9
/-- A page or access fault of the ring engine at an address (R567). -/
def State.ringFault (s : State) (c r va : Nat) : State :=
  s.ctxFault c { err 0x0701 with ctx := c, loc := ringLoc, d0 := va, d1 := r }
/-- The ring engine copies the next entry and advances HEAD. -/
def State.fetchEntry (s : State) (c r : Nat) : State :=
  if s.ctxSt c ≠ 1 || !(s.ringEn c r) || s.ringHead c r = s.ringTail c r || s.cqFull c r then s
  else
    let i := s.ringHead c r
    let va := s.ringVa c r + 64 * (i % s.ringSize c r)
    let g := s.readVirt 0 c va 64
    match g.2 with
    | none => g.1.ringFault c r va
    | some bs =>
      let l := lineOf bs
      let task := eOp l = 1 || eOp l = 6
      if task && g.1.entryOk c r l && eHub l < s.ident.hubs && (g.1.freeSlot (eHub l)).isNone then g.1
      else
        let s1 := g.1.setRegN (aCtxRing c r + 0xC) ((i + 1) % 2 ^ 32)
        let bad := !(s1.entryOk c r l)
        let e : REntry := ⟨r, BitVec.ofNat 32 i, l, if bad then .ready else .fetched, if bad then 6 else 0,
          if bad then 0x0705 else 0, 0, 0⟩
        let s2 := s1.setCtx c { s1.ctx c with entries := (s1.ctx c).entries ++ [e] }
        if bad then s2.emit { err 0x0705 with ctx := c, loc := ringLoc, d0 := r, d1 := i } else s2

/-! ## Start (R554, R555) -/

def State.ringEntries (s : State) (c r : Nat) : List REntry := (s.ctx c).entries.filter (fun e => e.ring == r)
/-- Entries of a ring before the first one that has not started. -/
def startedBefore (es : List REntry) : List REntry := es.takeWhile (fun e => e.phase != .fetched)
/-- The next entry of a ring that may start: no wait of its ring is open, and a BARRIER or WRITE_FENCE is the oldest. -/
def State.nextEntry (s : State) (c r : Nat) : Option REntry :=
  let es := s.ringEntries c r
  let early := startedBefore es
  match es.find? (fun e => e.phase == .fetched) with
  | none => none
  | some e =>
    if early.any (fun d => d.phase == .waiting) then none
    else if (eBarrier e.words || eOp e.words == 5) && !early.isEmpty then none
    else if s.ctxSt c ≠ 1 then none
    else some e
/-- Change one entry of a context. -/
def State.updEntry (s : State) (c r : Nat) (i : Word) (f : REntry → REntry) : State :=
  let x := s.ctx c
  s.setCtx c { x with entries := x.entries.map (fun e => if e.ring = r && e.index = i then f e else e) }
def REntry.done (e : REntry) (st code : Nat) : REntry := { e with phase := .ready, state := st, code := BitVec.ofNat 16 code }

/-- The waiting WAIT_SIG entries on an object, by context and ring. -/
def State.sigWaiters (s : State) (o : Nat) : List (Nat × REntry) :=
  (List.range 64).flatMap (fun c => (List.range 8).flatMap (fun r =>
    ((s.ringEntries c r).filter (fun e => e.phase == .waiting && eOp e.words == 3 && eObject e.words == o)).map (fun e => (c, e))))
/-- Ready tasks that wait on an object. -/
def State.taskClaims (s : State) (o : Nat) : Nat :=
  (s.liveTasks.filter (fun k => (s.taskWaits k).contains o && s.taskReady k)).length
/-- Counts of an object left for ring waits after Lodge cores and task starts (07 R363; R555). -/
def State.spareForRings (s : State) (o : Nat) : Nat := s.sigCount o - (s.waitersOn o).length - s.taskClaims o
/-- Counts left for the host's trywaits. -/
def State.spareForHost (s : State) (o : Nat) : Nat := s.spareForRings o - (s.sigWaiters o).length
/-- A wait of the host: it takes one count that no earlier claimant is owed. -/
def State.hostWait (s : State) (o : Nat) : State × Bool :=
  if s.sigEn o && s.spareForHost o ≠ 0 then s.sigTake o else (s, false)

/-- Grant the first ring wait on an object (R555). -/
def State.grantRing (s : State) (o : Nat) : State :=
  match s.sigWaiters o with
  | [] => s
  | (c, e) :: _ =>
    if s.sigEn o && s.spareForRings o ≠ 0 then ((s.sigTake o).1).updEntry c e.ring e.index (fun x => x.done 4 0) else s

/-- A waited fence word, read by the ring engine; a fault of the read faults the context (R555, R567). -/
def State.pollFence (s : State) (c : Nat) (e : REntry) : State :=
  let va := eField e.words 8 8
  let r := s.readVirt 0 c va 8
  match r.2 with
  | none => r.1.ringFault c e.ring va
  | some bs =>
    if eField e.words 0x10 8 ≤ leNat bs then r.1.updEntry c e.ring e.index (fun x => x.done 4 0)
    else r.1.updEntry c e.ring e.index (fun x => { x with phase := .waiting })

/-- An entry becomes a task on its hub (R552). -/
def State.entryTask (s : State) (c : Nat) (e : REntry) : State :=
  let l := e.words
  let h := eHub l
  let run := s.updEntry c e.ring e.index (fun x => { x with phase := .running })
  if s.ident.hubs ≤ h then s.updEntry c e.ring e.index (fun x => x.done 6 0x0603)
  else match s.freeSlot h with
  | none => s
  | some k =>
    let a := aTaskOf k
    let copy := eOp l == 6
    let rec_ : List Nat := if copy then [0, 0, 0, 0, 0, 0, 0, 0, 0, 0, c + eMask l * 2 ^ 16, 0xFFFF, 0, 0, (eTag l).toNat, 0]
      else (List.range 10).map (fun j => eField l (8 + 4 * j) 4) ++
        [c + eMask l * 2 ^ 16 + eField l 0x39 1 * 2 ^ 24, eField l 0x3A 2, eField l 0x30 4, eField l 0x34 4, (eTag l).toNat, 0]
    let s1 := (List.range 16).foldl (fun t j => t.setRegN (a + 4 * j) (rec_.getD j 0)) run
    let from_ := some (c, e.ring, e.index.toNat)
    let moves := if copy then some (lineDWord l 1, lineDWord l 2, eField l 0x18 8) else none
    (s1.setTask k { s1.task k with origin := from_, copy := moves, krec := none }).taskGo k

/-! ## Completion (R556) -/

/-- The completion item of an entry (Table 12.8). -/
def State.completionItem (s : State) (c : Nat) (e : REntry) : Line :=
  let body := [4 * 2 ^ 56 + e.state * 2 ^ 52 + e.ring * 2 ^ 48 + e.code.toNat * 2 ^ 32 + (eTag e.words).toNat,
    e.exit.toNat * 2 ^ 32 + e.index.toNat, s.ptpNs.toNat, e.runNs, 0, 0, 0].flatMap (leBytes 8) ++ leBytes 4 c
  lineOf (body ++ leBytes 4 (crc32c body).toNat)
/-- The ring engine as a writer of items: the spec gives it no writer number, so the number is a free value; its identity is
its own. -/
def ringWriterSrc : Nat := 2 ^ 20
/-- A ready entry completes, once its completion item is accepted (R556). -/
def State.completeEntry (s : State) (c r : Nat) (i : Word) : State :=
  match (s.ringEntries c r).find? (fun e => e.index == i && e.phase == .ready) with
  | none => s
  | some e =>
    let rest := fun (t : State) => (t.ctx c).entries.filter (fun d => !(d.ring == r && d.index == i))
    let drop := fun (t : State) => (t.setCtx c { t.ctx c with entries := rest t }).count (aCtxEntriesDone c) 1
    match (if eNotify e.words then s.ringCq c r else none) with
    | none => drop s
    | some q =>
      if !(s.ownsPq c q) then drop s
      else
        let o : Offer := ⟨s.completionItem c e, 0, true, true, s.free.setWidth 8, ringWriterSrc⟩
        let out := offerStep (s.offerCfg q false) (s.pq q) o
        if out.res = .held then s else drop (s.useFree.settle q o out)

/-! ## Cancelling and discarding (R561, R562, R571) -/

/-- Cancel one fetched entry that has not completed. -/
def State.cancelEntry (s : State) (c : Nat) (e : REntry) : State :=
  match e.phase with
  | .ready => s
  | .running =>
    (match s.liveTasks.find? (fun k => (s.task k).origin == some (c, e.ring, e.index.toNat)) with
      | some k => s.cancelTask k false
      | none => s)
  | _ => s.updEntry c e.ring e.index (fun x => x.done 5 0x0703)
def State.cancelWhere (s : State) (c : Nat) (p : REntry → Bool) : State :=
  ((s.ctx c).entries.filter p).foldl (fun t e => t.cancelEntry c e) s

/-- What waits on a signal object that is disabled ends: tasks and ring waits CANCELLED, KQ.WAIT with DOMAIN_OFF
(R571; 07 R365; Table 12.11). -/
def State.endWaits (s : State) (o : Nat) : State :=
  let s1 := (s.waitersOn o).foldl (fun t c => t.finishWait c 3) s
  let s2 := (s1.liveTasks.filter (fun k => (s1.task k).st == 1 && (s1.taskWaits k).contains o)).foldl (fun t k => t.cancelTask k false) s1
  (s2.sigWaiters o).foldl (fun t e => t.updEntry e.1 e.2.ring e.2.index (fun x => x.done 5 0x0703)) s2
/-- A write of SIG_CFG (07 R365). -/
def State.writeSigCfg (s : State) (o : Nat) (v : Word) : State :=
  let c := v &&& 0xE7FFFFFF
  let s1 := s.setReg (aSigCfg o) c
  if bit c 31 then
    (if fld c 0 16 < s1.sigCount o then s1.setRegN (aSig o) (fld c 0 16) else s1)
  else if s.sigEn o then s1.endWaits o
  else s1

/-! ## Destruction (R570, R571) -/

/-- Steps 1 to 3 of Table 12.11. -/
def State.beginDestroy (s : State) (c : Nat) : State :=
  let s1 := s.setCtxSt c 3
  let s2 := s1.setCtx c { s1.ctx c with entries := [], destroyAt := some s.now }
  (s2.ctxTasks c).foldl (fun t k => t.cancelTask k false) s2
def State.ownedQueues (s : State) (c : Nat) : List Nat := (List.range 512).filter (fun q => s.ownsPq c q)
def State.ownedSigs (s : State) (c : Nat) : List Nat := (List.range 512).filter (fun o => s.ownsSig c o)
/-- Step 4. -/
def State.dropObjects (s : State) (c : Nat) : State :=
  let s1 := (s.ownedQueues c).foldl (fun t q => t.disableQueue q) s
  (s.ownedSigs c).foldl (fun t o => t.writeSigCfg o (t.sigCfg o &&& 0x7FFFFFFF)) s1
/-- Step 6: ownership masks, rings, weight and quota are cleared; STATE becomes FREE. -/
def State.clearCtx (s : State) (c : Nat) : State :=
  let words := (List.range 32).map (fun j => aCtx c + 0x40 + 4 * j) ++ (List.range 64).map (fun j => aCtx c + 0x100 + 4 * j) ++
    [aCtxQuota c, aCtxQuota c + 4, aCtxWeight c]
  let s1 := words.foldl (fun t a => t.setReg a 0) s
  (s1.setCtxSt c 0).setCtx c { s1.ctx c with entries := [], destroyAt := none, rang := [] }
/-- Steps 4 to 6. -/
def State.endDestroy (s : State) (c : Nat) : State := ((s.dropObjects c).freeAll c).clearCtx c

end Sys2Proof.Machine
end

