-- ==== Sys2Proof/Machine/Image.lean ====
section
/-!
DEFINITION. The byte layout of a Glilan image (10 R450–R461): reading its header, sections and records.
-/
namespace Sys2Proof.Machine

/-! ## Header and trailer (Table 10.1, R451, R452) -/

def parseHeader (bs : List Byte) : Header :=
  let n := fieldAt bs 8 8
  let t := n - 128
  { magic := BitVec.ofNat 32 (fieldAt bs 0 4), fmtMajor := fieldAt bs 4 2, fmtMinor := BitVec.ofNat 16 (fieldAt bs 6 2),
    len := n, sectCount := fieldAt bs 0x10 2, flags := BitVec.ofNat 16 (fieldAt bs 0x12 2),
    minFw := BitVec.ofNat 32 (fieldAt bs 0x14 4), reqFeatures := BitVec.ofNat 64 (fieldAt bs 0x18 8),
    ttDigest := BitVec.ofNat 256 (beNat (slice bs 0x20 32)), predDigest := BitVec.ofNat 256 (beNat (slice bs 0x40 32)),
    budget := fieldAt bs 0x60 4, scrub := fieldAt bs 0x64 4, holdAllow := fieldAt bs 0x68 4, linePeriod := fieldAt bs 0x6C 4,
    bandLines := fieldAt bs 0x70 2, bandSet := BitVec.ofNat 16 (fieldAt bs 0x72 2), pavilions := fieldAt bs 0x74 2,
    depthBells := fieldAt bs 0x76 2, lagLines := fieldAt bs 0x78 4, slot := fieldAt bs 0x7D 1, size := fieldAt bs 0x7C 1,
    sigMagic := BitVec.ofNat 32 (fieldAt bs t 4), keySlot := fieldAt bs (t + 4) 4,
    sigR := BitVec.ofNat 256 (fieldAt bs (t + 0x40) 32), sigS := BitVec.ofNat 256 (fieldAt bs (t + 0x60) 32),
    digest := sha256 (slice bs 0 t) }
def Header.changeover (h : Header) : Bool := h.flags.getLsbD 0
def Header.group (h : Header) : Bool := h.flags.getLsbD 1

/-! ## Sections (Tables 10.2, 10.3) -/

def parseSection (bs : List Byte) (i : Nat) : Section :=
  let o := 0x100 + 32 * i
  let off := fieldAt bs (o + 8) 8
  let len := fieldAt bs (o + 16) 8
  { type := fieldAt bs o 2, inst := fieldAt bs (o + 2) 2, mustKnow := fieldAt bs (o + 4) 2 % 2 == 1, off := off, len := len,
    count := fieldAt bs (o + 24) 4, crcGood := fieldAt bs (o + 28) 4 == (crc32c (slice bs off len)).toNat }
def parseSections (bs : List Byte) (h : Header) : List Section := (List.range h.sectCount).map (parseSection bs)
def sectionsOf (ss : List Section) (t : Nat) : List Section := ss.filter (fun x => x.type == t)
def Section.end_ (x : Section) : Nat := x.off + x.len

/-! ## Records -/

/-- Bytes of a tile record from its head (R456). -/
def tileRecLen (bs : List Byte) (o : Nat) : Nat :=
  alignTo8 (64 + 4 * fieldAt bs (o + 8) 2 + 8 * fieldAt bs (o + 12) 2 + 64 * fieldAt bs (o + 14) 2)
where alignTo8 (n : Nat) : Nat := (n + 7) / 8 * 8
/-- The tile record at offset `o` (Table 10.4). -/
def parseTile (bs : List Byte) (o : Nat) : TileRec :=
  let p := fieldAt bs (o + 8) 2
  let sw := fieldAt bs (o + 12) 2
  let ks := fieldAt bs (o + 14) 2
  let oSw := o + 64 + 4 * p
  let oKs := oSw + 8 * sw
  let kind := BitVec.ofNat 8 (fieldAt bs (o + 6) 1)
  let m := fieldAt bs (o + 7) 1
  let dw : Nat → DWord := fun a => BitVec.ofNat 64 (fieldAt bs a 8)
  let cfg : TileCfg :=
    { pavilion := BitVec.ofNat 16 (fieldAt bs (o + 4) 2), kind := kind,
      markers := (List.range (min m 8)).map (fun j => BitVec.ofNat 10 (fieldAt bs (o + 48 + 2 * j) 2)),
      prog := (List.range p).map (fun j => BitVec.ofNat 32 (fieldAt bs (o + 64 + 4 * j) 4)),
      bandEntry := BitVec.ofNat 8 (fieldAt bs (o + 10) 1),
      iq := (List.range 8).map (fun j => BitVec.ofNat 32 (fieldAt bs (o + 16 + 4 * j) 4)),
      num := if kind = 1 && ks != 0 then dw oKs else 0,
      win := if kind = 2 && ks == 3 then (List.range 2).map (fun j =>
        let a := oKs + 32 * j
        ⟨dw a, dw (a + 8), dw (a + 16), dw (a + 24)⟩) else [],
      dl := if kind = 2 && ks == 3 then (List.range 8).map (fun j =>
        let a := oKs + 64 + 16 * j
        ⟨dw a, dw (a + 8)⟩) else [] }
  { loc := BitVec.ofNat 32 (fieldAt bs o 4), markerCount := m, progLen := p, swCount := sw, ksLen := ks, cfg := cfg,
    sw := (List.range sw).map (fun j => dw (oSw + 8 * j)), off := o }
/-- `n` tile records from offset `o`, ending by `e`. -/
def parseTiles (bs : List Byte) : Nat → Nat → Nat → Option (List TileRec)
  | 0, _, _ => some []
  | n + 1, o, e =>
    if o + 64 ≤ e && o + tileRecLen bs o ≤ e then
      (parseTiles bs n (o + tileRecLen bs o) e).map (fun l => parseTile bs o :: l)
    else none
def parsePav (bs : List Byte) (o : Nat) : PavRec :=
  ⟨fieldAt bs o 2, fieldAt bs (o + 2) 1, fieldAt bs (o + 3) 1, fieldAt bs (o + 4) 4, fieldAt bs (o + 8) 2,
   fieldAt bs (o + 10) 2, fieldAt bs (o + 12) 4, o⟩
def parseRegion (bs : List Byte) (o : Nat) : Region :=
  ⟨fieldAt bs o 1, fieldAt bs (o + 1) 1, fieldAt bs (o + 2) 2, BitVec.ofNat 32 (fieldAt bs (o + 4) 4), fieldAt bs (o + 8) 8,
   fieldAt bs (o + 16) 8, o⟩
def parseStores (bs : List Byte) : Nat → Nat → Nat → Option (List StoreRec)
  | 0, _, _ => some []
  | n + 1, o, e =>
    let len := fieldAt bs (o + 12) 4
    if o + 16 ≤ e && o + 16 + len ≤ e then
      (parseStores bs n (o + 16 + len) e).map (fun l =>
        ⟨BitVec.ofNat 32 (fieldAt bs o 4), fieldAt bs (o + 4) 1, fieldAt bs (o + 8) 4, slice bs (o + 16) len, o⟩ :: l)
    else none
def parseHbm (bs : List Byte) : Nat → Nat → Nat → Option (List HbmInit)
  | 0, _, _ => some []
  | n + 1, o, e =>
    let len := fieldAt bs (o + 8) 8
    if o + 16 ≤ e && o + 16 + len ≤ e then
      (parseHbm bs n (o + 16 + len) e).map (fun l => ⟨fieldAt bs o 8, slice bs (o + 16) len, o⟩ :: l)
    else none
/-- Kernel records, each followed by its code and data (11 R526). -/
def parseKernels (bs : List Byte) : Nat → Nat → Nat → Option (List (Line × List Byte))
  | 0, _, _ => some []
  | n + 1, o, e =>
    let len := fieldAt bs (o + 8) 4 + fieldAt bs (o + 12) 4
    if o + 64 ≤ e && o + 64 + len ≤ e then
      (parseKernels bs n (o + 64 + len) e).map (fun l => (lineOf (slice bs o 64), slice bs (o + 64) len) :: l)
    else none
def parseGroup (bs : List Byte) (o : Nat) : GroupSec :=
  { groupDigest := BitVec.ofNat 256 (beNat (slice bs o 32)), size := fieldAt bs (o + 32) 1, slot := fieldAt bs (o + 33) 1,
    rings := fieldAt bs (o + 34) 1,
    slotDigest := (List.range 8).map (fun j => BitVec.ofNat 256 (beNat (slice bs (o + 40 + 32 * j) 32))),
    routes := (List.range (fieldAt bs (o + 36) 4)).map (fun j => BitVec.ofNat 64 (fieldAt bs (o + 296 + 8 * j) 8)) }

/-- All lists of a section type, one after the other; none when one of them does not fit. -/
def collect {α : Type} (f : Section → Option (List α)) : List Section → Option (List α)
  | [] => some []
  | x :: xs => match f x, collect f xs with
    | some a, some b => some (a ++ b)
    | _, _ => none
/-- Fixed records of `n` bytes. -/
def fixedRecs {α : Type} (n : Nat) (f : Nat → α) (x : Section) : Option (List α) :=
  if n * x.count ≤ x.len then some ((List.range x.count).map (fun i => f (x.off + n * i))) else none
/-- The hub of a HUB section's slot. -/
def slotHub (inst : Nat) : Nat := inst - 2

/-- The whole image; none when some record does not fit its section. -/
def parseImage (bs : List Byte) : Option Image := do
  let h := parseHeader bs
  let ss := parseSections bs h
  let pavs ← collect (fixedRecs 16 (parsePav bs)) (sectionsOf ss 1)
  let tiles ← collect (fun x => parseTiles bs x.count x.off x.end_) (sectionsOf ss 2)
  let stores ← collect (fun x => parseStores bs x.count x.off x.end_) (sectionsOf ss 3)
  let regions ← collect (fixedRecs 32 (parseRegion bs)) (sectionsOf ss 4)
  let hub ← collect (fun x => fixedRecs 8 (fun o =>
    (slotHub x.inst, fieldAt bs o 4, BitVec.ofNat 32 (fieldAt bs (o + 4) 4))) x) (sectionsOf ss 5)
  let hbm ← collect (fun x => parseHbm bs x.count x.off x.end_) (sectionsOf ss 6)
  let kernels ← collect (fun x => parseKernels bs x.count x.off x.end_) (sectionsOf ss 7)
  let groupFits := (sectionsOf ss 8).all (fun x => decide (296 ≤ x.len) && decide (296 + 8 * fieldAt bs (x.off + 36) 4 ≤ x.len))
  if groupFits then
    some { hdr := h, sections := ss, tiles := tiles, pavs := pavs, regions := regions, stores := stores, hub := hub, hbm := hbm,
           kernels := kernels, group := (sectionsOf ss 8).head?.map (fun x => parseGroup bs x.off) }
  else none

/-! ## Views -/

/-- Key of the tile of a record. -/
def TileRec.key (t : TileRec) : Nat := locTileKey t.loc.toNat
def TileRec.die (t : TileRec) : Nat := fld t.loc 16 8
/-- A switch entry of generation `g` (Table 10.4). -/
def swEntry (g : BitVec 2) (w : DWord) : SwEntry :=
  let v := w.toNat
  { gen := g, route := BitVec.ofNat 10 (bits v 0 10), action := bits v 16 8, queue := BitVec.ofNat 3 (bits v 24 3),
    prio := BitVec.ofNat 3 (bits v 28 3), next := BitVec.ofNat 16 (bits v 32 16), credits := bits v 48 8 }
/-- The HUB entries of a hub, in list order. -/
def Image.hubEntries (i : Image) (h : Nat) : List (Nat × Word) := (i.hub.filter (fun e => e.1 == h)).map (fun e => e.2)
/-- The last value that the HUB entries give an offset. -/
def Image.hubValue (i : Image) (a : Nat) : Option Word := (i.hub.reverse.find? (fun e => e.2.1 == a)).map (fun e => e.2.2)
def Image.tileOf (i : Image) (k : Nat) : Option TileRec := i.tiles.find? (fun t => t.key == k)
/-- The image uses the bed. -/
def Image.usesBed (i : Image) (b : Nat) : Bool := i.tiles.any (fun t => t.key / 1536 * 6 + t.key % 1536 / 256 == b)

end Sys2Proof.Machine
end

