-- ==== Sys2Proof/Machine/Queues.lean ====
section
/-!
DEFINITION. Commands of the Pergola queues and signal objects (07).
-/
namespace Sys2Proof.Machine

/-! ## Writing -/

/-- PQ_ITEM_OFFER: a writer offers an item; a writer whose earlier item is still held offers no other (R328–R337). -/
def execPqItemOffer (q : QIx) (o : Offer) (s : State) : Host.Outcome State Fault Refusal :=
  .next (if o.writer = 0x20 then s.hostPush q.val o
    else if s.holdsOf q.val o then s
    else (s.offer q.val o).1)
/-- The item that PQ_PUSH_GO offers (Table 7.2). -/
def State.pushOffer (s : State) (q : Nat) (v : BitVec 5) : Offer :=
  ⟨(s.pq q).pushData, v.extractLsb' 0 3, v.getLsbD 3, v.getLsbD 4, 0x20, 0⟩
def State.pushGo (s : State) (q : Nat) (v : BitVec 5) : State :=
  if s.pqPresent q then s.hostPush q (s.pushOffer q v) else s
def execPqPushGo (q : QIx) (v : BitVec 5) (s : State) : Host.Outcome State Fault Refusal := .next (s.pushGo q.val v)
def execPqBackpressureAccept (q : QIx) (s : State) : Host.Outcome State Fault Refusal := .next (s.serveHeld q.val)

/-! ## Reading -/

/-- A 64-bit read of PQ_POP (R339, R340, R352): the status word is the value read. -/
def State.popRead (s : State) (q : Nat) (ue : Bool) : State :=
  if s.pqPresent q = false then { s with readValue := 0 }
  else
    let r := s.popWith q ue
    let data := (match r.2.2 with
      | some i => i.data
      | none => (s.pq q).popData)
    { r.1.onPq q (fun p => { p with popStatus := r.2.1, popData := data }) with readValue := r.2.1 }
def execPqPop (q : QIx) (ue : Bool) (s : State) : Host.Outcome State Fault Refusal := .next (s.popRead q.val ue)

/-! ## Flush, reset, settings -/

/-- A write of PQ_CTRL (R346, R348, R349). -/
def State.writePqCtrl (s : State) (q : Nat) (flush reset : Bool) : State :=
  if q = qLedger then (if flush || reset then s.cfgIgnored else s)
  else if s.pqPresent q = false then s
  else if reset then s.pqResetAll q
  else if flush then s.pqFlushAll q
  else s
def execPqFlush (q : QIx) (s : State) : Host.Outcome State Fault Refusal := .next (s.writePqCtrl q.val true false)
def execPqReset (q : QIx) (s : State) : Host.Outcome State Fault Refusal := .next (s.writePqCtrl q.val false true)

/-- A write of PQ_CFG; clearing EN of an enabled queue disables it (R332). -/
def State.pqCfgWrite (s : State) (q : Nat) (v : Word) : State :=
  if q < 512 && s.pqPresent q && s.pqEn q && !(bit v 31) then s.disableQueue q else s.writePqCfg q v
def execPqEnable (q : QIx) (cfg : Word) (s : State) : Host.Outcome State Fault Refusal :=
  .next (s.pqCfgWrite q.val (cfg ||| 0x80000000))
def execPqDisable (q : QIx) (s : State) : Host.Outcome State Fault Refusal :=
  .next (s.pqCfgWrite q.val (s.reg (aPq q.val) &&& 0x7FFFFFFF))

/-! ## Pointer copies (R350, R351) -/

/-- Two copies of a write and a read pointer, packed into one word of details. -/
def ptrWord (a b : BitVec 16 × BitVec 16) : Nat :=
  b.1.toNat * 2 ^ 48 + b.2.toNat * 2 ^ 32 + a.1.toNat * 2 ^ 16 + a.2.toNat
/-- Three copies of a pointer have no majority. -/
def noMajority (a b c : BitVec 16) : Bool := a != b && b != c && a != c
def majority (a b c : BitVec 16) : BitVec 16 := if a = b || a = c then a else b
/-- Copies that a majority of the three corrects, in one pointer or in both (R351). -/
def correctedCopies (a b c : BitVec 16 × BitVec 16) : Nat :=
  let m := (majority a.1 b.1 c.1, majority a.2 b.2 c.2)
  ([a, b, c].filter (fun x => x != m)).length
/-- The copies that are compared: two, or three of the ledger and error queues; a copy the command does not name agrees. -/
def State.ptrCopy (s : State) (q : Nat) (cs : List (BitVec 16 × BitVec 16)) (i : Nat) : BitVec 16 × BitVec 16 :=
  cs.getD i ((s.pq q).wptr, (s.pq q).rptr)
def State.ptrMismatch (s : State) (q : Nat) (cs : List (BitVec 16 × BitVec 16)) : State :=
  let a := s.ptrCopy q cs 0
  let b := s.ptrCopy q cs 1
  let c := s.ptrCopy q cs 2
  let e : ErrInfo := { err 0x0401 with loc := hubLoc (q / 256 % 2) 6, d0 := qReport q, d1 := ptrWord a b, hub := q / 256 % 2 }
  if s.pqPresent q = false then s
  else if q < 512 then (if a = b then s else (s.pqResetAll q).emit { e with sev := 2 })
  else if noMajority a.1 b.1 c.1 || noMajority a.2 b.2 c.2 then
    (s.pqResetAll q).emit { e with sev := 2, d2 := ptrWord c (0, 0) }
  else if a = b && b = c then s
  else s.emit { e with sev := 1, d2 := ptrWord c (0, BitVec.ofNat 16 (correctedCopies a b c)) }
def execQueuePtrMismatch (q : QIx) (copies : List (BitVec 16 × BitVec 16)) (s : State) : Host.Outcome State Fault Refusal :=
  .next (s.ptrMismatch q.val copies)

/-! ## Sinks -/

/-- Credits of a SINK 1 queue. -/
def State.sinkCredits (s : State) (q : Nat) : Nat := fld (s.reg (aPq q + 0x14)) 10 6 + 1
def State.sinkRoute (s : State) (q : Nat) : BitVec 10 := BitVec.ofNat 10 (fld (s.reg (aPq q + 0x14)) 0 10)
/-- Next IDX of the queue's route at its gate (R358). -/
def State.sinkIdx (s : State) (q : Nat) : Nat :=
  idxWanted 3 (Tab.at_ 0 (s.tile (s.sinkGate q)).io.sendIdx (s.sinkRoute q).toNat)
/-- The HANDLE token of an item (R358). -/
def State.handleToken (s : State) (q : Nat) (i : QItem) : Token :=
  mkToken (mkTag (s.tile (s.sinkGate q)).gen 3 5 (s.sinkRoute q) i.eop (s.sinkIdx q)) i.data
/-- SINK1_DELIVERY (R352, R358–R360): the head item leaves through its gate while a credit is held and the generations
agree. -/
def State.sinkDeliver (s : State) (q : Nat) (ue : Bool) : State :=
  let k := s.sinkGate q
  if q < 512 && s.pqPresent q && s.pqEn q && s.pqSinkKind q == 1 && decide ((s.pq q).sinkUsed < s.sinkCredits q) &&
      s.tileOn k && (s.tile k).gen == s.activeGen && !((s.tile k).stoneFull 4 s.now) then
    let r := s.popWith q ue
    match r.2.2 with
    | none => s
    | some i =>
      if i.poison then r.1.pqLost q 1
      else
        let f : Flight := ⟨s.handleToken q i, s.now, 2, none, some (sinkHolder q, s.sinkRoute q)⟩
        let s1 := r.1.onPq q (fun p => { p with sinkUsed := p.sinkUsed + 1 })
        let idx := idxNext 3 (s.sinkIdx q)
        s1.onTile k (fun t =>
          let t1 := t.setStone 4 (t.stone 4 ++ [f])
          { t1 with io := { t1.io with sendIdx := Tab.set_ 0 t1.io.sendIdx (s.sinkRoute q).toNat idx } })
  else s
def execSink1Delivery (q : QIx) (ue : Bool) (s : State) : Host.Outcome State Fault Refusal := .next (s.sinkDeliver q.val ue)
/-- SINK2_HOST_WRITE (12 R557; R352). -/
def execSink2HostWrite (q : QIx) (ue : Bool) (s : State) : Host.Outcome State Fault Refusal :=
  .next (if s.pqPresent q.val && s.pqEn q.val && s.pqSinkKind q.val == 2 && s.boot.linkUp && s.ringHasRoom q.val
    then s.orWait (s.deliverHost q.val ue) else s)
def execHostHeadWrite (q : QIx) (v : Word) (s : State) : Host.Outcome State Fault Refusal := .next (s.writeHostHead q.val v)

/-! ## Signal objects -/

def execSigSignal (o : SigIx) (n : BitVec 16) (s : State) : Host.Outcome State Fault Refusal := .next (s.signal o.val n.toNat)
/-- SIG_TRYWAIT: one wait, after every wait of Lodge cores, tasks and rings (R362, R363; 12 R555). -/
def State.tryWait (s : State) (o : Nat) : State :=
  let r := s.hostWait o
  { r.1 with readValue := if r.2 then 1 else 0 }
def execSigTrywait (o : SigIx) (s : State) : Host.Outcome State Fault Refusal := .next (s.tryWait o.val)
/-- A write of SIG_COUNT (R365). -/
def State.writeSigCount (s : State) (o : Nat) (v : Word) : State :=
  if s.sigEn o then s else s.setRegN (aSig o) (min (fld v 0 16) (s.sigMax o))
def execSigCountWrite (o : SigIx) (v : Word) (s : State) : Host.Outcome State Fault Refusal := .next (s.writeSigCount o.val v)
def execSigCfgWrite (o : SigIx) (v : Word) (s : State) : Host.Outcome State Fault Refusal := .next (s.writeSigCfg o.val v)

end Sys2Proof.Machine
end

