-- ==== Sys2Proof/Machine/LoadCheck.lean ====
section
/-!
DEFINITION. The load checks of Table 10.7 in their order (10 R468), each with its code, detail word and image offset.
-/
namespace Sys2Proof.Machine

/-- A refusal: code, low 32 bits of detail word 0, image offset of the offending byte (R468). -/
structure Refuse where
  code : Nat
  d0 : Nat
  off : Nat
  deriving DecidableEq, Repr

/-- The first refusal of a list of checks, none when all pass. -/
def firstBad {α : Type} (f : α → Option Refuse) : List α → Option Refuse
  | [] => none
  | x :: xs => match f x with
    | some r => some r
    | none => firstBad f xs
def orElse_ (a : Option Refuse) (b : Unit → Option Refuse) : Option Refuse := match a with
  | some r => some r
  | none => b ()
def demand (ok : Bool) (code d0 off : Nat) : Option Refuse := if ok then none else some ⟨code, d0, off⟩
/-- No two ranges (start, bytes) of a list overlap. -/
def disjoint : List (Nat × Nat) → Bool
  | [] => true
  | r :: rs => rs.all (fun x => decide (r.1 + r.2 ≤ x.1) || decide (x.1 + x.2 ≤ r.1)) && disjoint rs
def distinctN : List Nat → Bool
  | [] => true
  | x :: xs => !(xs.contains x) && distinctN xs

/-! ## Step 1: format -/

/-- The access windows let the loader read a range, page by page (09 R420). -/
def State.loaderMay (s : State) (a n : Nat) : Bool :=
  !((List.range 16).any (fun w => s.winNames 0 w mLoader)) ||
  (List.range ((a + n - 1) / 4096 - a / 4096 + 1)).all (fun i => s.winAllows 0 mLoader ((a / 4096 + i) * 4096) 4096 false)
/-- The address of a word that the loader may meet. -/
def loadedAt : MemWord → Nat
  | .hbm k => 8 * k
  | .l2 _ k => 8 * k
  | _ => 0
/-- Bytes of the image where HUB_LOAD_ADDR points, or the offset of the first that cannot be read
(notes/assumptions/22.md). -/
def State.imageBytes (s : State) : State × (List Byte ⊕ Nat) :=
  let n := s.regN aHubLoadLen
  let a := s.reg64 aHubLoadAddr
  if n < 448 || 2 ^ 29 < n || n % 64 != 0 then (s, .inl [])
  else if s.loaderMay a n = false then (s.hdgError 0 mLoader a 5, .inr 0)
  else match s.physRead 0 a n with
    | (t, .ok bs) => (t, .inl bs)
    | (t, .poison w) => (t, .inr (loadedAt w - a))
    | (t, .unrouted) => (t, .inr (if a < regBase then s.ident.hbmBytes - a else 0))
/-- Section types, instances and counts (Table 10.3). -/
def sectionsOk (ss : List Section) : Bool :=
  (sectionsOf ss 1).length == 1 && (sectionsOf ss 4).length == 1 && decide ((sectionsOf ss 6).length ≤ 1) &&
  decide ((sectionsOf ss 7).length ≤ 1) && decide ((sectionsOf ss 8).length ≤ 1) &&
  distinctN ((sectionsOf ss 2).map (fun x => x.inst)) && distinctN ((sectionsOf ss 5).map (fun x => x.inst)) &&
  ss.all (fun x => match x.type with
    | 2 => decide (x.inst < 2)
    | 5 => x.inst == 2 || x.inst == 3
    | t => x.inst == 0 || t == 0 || decide (9 < t))
def sectionBad (ss : List Section) (h : Header) (i : Nat) : Option Refuse :=
  match ss[i]? with
  | none => none
  | some x =>
    let o := 0x100 + 32 * i
    let table := 0x100 + 32 * h.sectCount
    if x.off % 64 != 0 || decide (x.off < table) || decide (h.len - 128 < x.off + x.len) then some ⟨0x010C, 0, o + 8⟩
    else if x.crcGood = false then some ⟨0x010C, 0, o + 28⟩
    else if x.mustKnow && !(decide (1 ≤ x.type) && decide (x.type ≤ 9)) then some ⟨0x010C, 0, o⟩
    else none
def headBad (h : Header) (len : Nat) : Option Refuse :=
  if h.magic ≠ 0x31494C47 then some ⟨0x010C, 0, 0⟩
  else if h.fmtMajor ≠ 1 then some ⟨0x010C, 0, 4⟩
  else if h.len ≠ len then some ⟨0x010C, 0, 8⟩
  else if h.sectCount = 0 || 64 < h.sectCount || decide (len - 128 < 0x100 + 32 * h.sectCount) then some ⟨0x010C, 0, 0x10⟩
  else if h.sigMagic ≠ 0x4E474953 then some ⟨0x010C, 0, len - 128⟩
  else none
/-- The image of the bytes, or the refusal of step 1 (R450–R455). -/
def checkFormat (bs : List Byte) (len : Nat) : Image ⊕ Refuse :=
  if bs.length ≠ len || len = 0 then .inr ⟨0x010C, 0, 8⟩
  else
    let h := parseHeader bs
    match headBad h len with
    | some r => .inr r
    | none =>
      let ss := parseSections bs h
      match firstBad (sectionBad ss h) (List.range h.sectCount) with
      | some r => .inr r
      | none =>
        if disjoint (ss.map (fun x => (x.off, x.len))) = false || sectionsOk ss = false then .inr ⟨0x010C, 0, 0x100⟩
        else match parseImage bs with
          | some i => .inl i
          | none => .inr ⟨0x010C, 0, 0x100⟩

/-! ## Steps 2 to 5: signature, version, features, travel times -/

/-- Some key slot is programmed or revoked, as latched at boot (R453; 14 R660). -/
def State.keysInUse (s : State) : Bool := s.fuse.latched.any (fun e => e.2 != 0)
def checkSignature (s : State) (i : Image) : Option Refuse :=
  if s.keysInUse = false then none
  else
    let k := i.hdr.keySlot
    demand (decide (k < 4) && Tab.at_ 0 s.fuse.latched k == 1 &&
      ecdsaVerify i.hdr.digest (Tab.at_ 0 s.fuse.keys k) i.hdr.sigR i.hdr.sigS) 0x0107 0 (i.hdr.len - 128 + 4)
def checkVersion (s : State) (i : Image) : Option Refuse :=
  orElse_ (demand (i.hdr.fmtMinor == 0 || Config.knowsMinor i.hdr.fmtMinor) 0x0108 0 6)
    (fun _ => demand (decide (i.hdr.minFw.toNat ≤ s.boot.fw.toNat)) 0x0108 0 0x14)
/-- Capability bits of the units that the image names (00 R5; 02 Table 2.14; CAP_FEATURES bits of R102). -/
def Image.named (i : Image) : List (Nat × Nat) :=
  let need : Bool → Nat → Nat → List (Nat × Nat) := fun b f o => if b then [(f, o)] else []
  need (decide (256 ≤ i.hdr.bandSet.toNat)) 1 0x72 ++
  need (i.sections.any (fun x => x.type == 5 && x.inst == 3)) 1 0x100 ++
  need (i.pavs.any (fun p => p.unit == 2) || i.stores.any (fun r => r.store == 6 && fld r.loc 16 8 == 2) ||
        i.hub.any (fun e => e.1 == 0 && inRange e.2.1 0x260000 0x280000)) 2 0x100 ++
  need (i.stores.any (fun r => r.store == 6 && fld r.loc 16 8 == 3) ||
        i.hub.any (fun e => e.1 == 1 && inRange e.2.1 0x2E0000 0x300000)) 3 0x100 ++
  need (i.tiles.any (fun t => t.die == 0 && t.cfg.dl.any DlDesc.used)) 4 0x100 ++
  need (i.tiles.any (fun t => t.die == 1 && t.cfg.dl.any DlDesc.used)) 5 0x100 ++
  need (!i.hbm.isEmpty || i.regions.any (fun r => r.kind == 0 && r.len != 0)) 6 0x100 ++
  need i.hdr.group 8 0x12
def checkFeatures (s : State) (i : Image) : Option Refuse :=
  let have_ := s.ident.features
  let lacks : Nat → Bool := fun b => have_ / 2 ^ b % 2 == 0
  let req := (List.range 64).filter (fun b => i.hdr.reqFeatures.getLsbD b && lacks b)
  let named := i.named.filter (fun e => lacks e.1)
  let missing := ((req ++ named.map (fun e => e.1)).foldl (fun m b => m ||| (1#64 <<< b)) (0 : DWord)).toNat
  let off := if req.isEmpty then (match named.head? with
    | some e => e.2
    | none => 0x7C) else 0x18
  orElse_ (demand (missing == 0) 0x0105 (missing % 2 ^ 32) off)
    (fun _ => demand (decide (i.hdr.size ≤ (if s.ident.prmPorts = 0 then 1 else 8))) 0x0105 0 0x7C)
def checkTravel (s : State) (i : Image) : Option Refuse := demand (i.hdr.ttDigest == s.ident.ttDigest) 0x0106 0 0x20

/-! ## Step 6: tiles -/

/-- The tile records with the die slot of their section, in section order. -/
def Image.dieTiles (i : Image) (d : Nat) : List TileRec :=
  match i.sections.find? (fun x => x.type == 2 && x.inst == d) with
  | none => []
  | some x => i.tiles.filter (fun t => decide (x.off ≤ t.off) && decide (t.off < x.end_))
def tileBad (s : State) (d : Nat) (t : TileRec) : Option Refuse :=
  demand (fld t.loc 24 8 == 1 && fld t.loc 16 8 == d && decide (d < s.ident.dies) && decide (fld t.loc 8 8 < 48) &&
    decide (fld t.loc 0 8 < 32) && t.cfg.kind.toNat == tileKind t.key) 0x0101 t.loc.toNat t.off
def dupTile : List TileRec → Option Refuse
  | [] => none
  | t :: ts => match ts.find? (fun u => u.loc == t.loc) with
    | some u => some ⟨0x0101, u.loc.toNat, u.off⟩
    | none => dupTile ts
def pavBad (i : Image) (p : PavRec) : Option Refuse :=
  let mine := (i.dieTiles p.die).filter (fun t => t.cfg.pavilion.toNat == p.pavilion)
  let run := ((i.dieTiles p.die).drop p.firstTile).take p.tileCount
  demand (p.unit != 0 || (mine.length == p.tileCount && run == mine)) 0x0101 0 p.off
/-- The tile that a STORES record names is on a present die and has the record's store (Table 10.5, R126). -/
def storeTileBad (s : State) (r : StoreRec) : Option Refuse :=
  let k := locTileKey r.loc.toNat
  demand (!(decide (1 ≤ r.store) && decide (r.store ≤ 3)) ||
    (fld r.loc 24 8 == 1 && decide (fld r.loc 16 8 < s.ident.dies) && decide (fld r.loc 8 8 < 48) && decide (fld r.loc 0 8 < 32) &&
      tileKind k == (match r.store with
        | 1 => 2
        | 2 => 1
        | _ => 3))) 0x0101 r.loc.toNat r.off
def checkTiles (s : State) (i : Image) : Option Refuse :=
  orElse_ (demand (decide (i.hdr.pavilions ≤ 512) && i.hdr.pavilions == i.pavs.length &&
      distinctN (i.pavs.map (fun p => p.pavilion))) 0x0101 0 0x74)
    (fun _ => orElse_ (firstBad (tileBad s 0) (i.dieTiles 0))
      (fun _ => orElse_ (firstBad (tileBad s 1) (i.dieTiles 1))
        (fun _ => orElse_ (dupTile i.tiles)
          (fun _ => orElse_ (orElse_ (firstBad (pavBad i) i.pavs) (fun _ => firstBad (storeTileBad s) i.stores))
            (fun _ => firstBad (fun t => demand (t.cfg.pavilion == 0xFFFF ||
              i.pavs.any (fun p => p.unit == 0 && p.pavilion == t.cfg.pavilion.toNat)) 0x0101 t.loc.toNat t.off) i.tiles)))))

/-! ## Step 7: descriptors and fields -/

/-- Where a route ends: a queue of a tile, a hub queue, or nowhere (03 R131, R137, R356). -/
def traceRoute (p : Identity) (i : Image) : Nat → Nat → BitVec 10 → Option (Nat × Nat)
  | 0, _, _ => none
  | f + 1, k, r =>
    match i.tileOf k with
    | none => none
    | some t =>
      match (t.sw.map (swEntry 0)).find? (fun e => e.route == r) with
      | none => none
      | some e =>
        if e.action = 4 then some (k, e.queue.toNat)
        else if e.action = 5 then (match acrossDie p k with
          | some n => traceRoute p i f n.1 (e.next.truncate 10)
          | none => none)
        else if e.action = 6 then none
        else match neighbour k e.action with
          | some n => traceRoute p i f n.1 r
          | none => none
/-- Routes and their credits: of producing tiles (Table 10.4), and of SINK 1 queues of the image (07 R357). -/
def Image.producers (i : Image) : List (Nat × BitVec 10 × Nat) :=
  i.tiles.flatMap (fun t => (t.sw.map (swEntry 0)).filterMap (fun e =>
    if e.credits = 0 then none else some (t.key, e.route, e.credits)))
def gateKey (die col : Nat) : Nat := die * 1536 + col * 32 + 31 * die
def Image.sinkRoutes (i : Image) : List (Nat × BitVec 10 × Nat) :=
  i.hub.filterMap (fun e =>
    let q := (List.range 512).find? (fun q => aPq q + 0x14 == e.2.1)
    match q with
    | none => none
    | some q =>
      if (i.hubValue (aPq q)).any (fun c => bit c 31 && fld c 22 2 == 1) then
        some (gateKey (fld e.2.2 25 1) (fld e.2.2 16 8), BitVec.ofNat 10 (fld e.2.2 0 10), fld e.2.2 10 6 + 1)
      else none)
/-- Credits of all routes that end in queue `q` of tile `k`. -/
def creditsInto (ends : List (Option (Nat × Nat) × Nat)) (k q : Nat) : Nat :=
  ends.foldl (fun n e => if e.1 = some (k, q) then n + e.2 else n) 0
def Image.routeEnds (p : Identity) (i : Image) : List (Option (Nat × Nat) × Nat) :=
  (i.producers ++ i.sinkRoutes).map (fun x => (traceRoute p i 8192 x.1 x.2.1, x.2.2))
/-- The tile with nothing but a record's configuration, to check instructions against. -/
def TileRec.model (t : TileRec) : Tile := { Tile.blank with cfg := some t.cfg }
/-- Opcodes and FIRE modes of the program (03 R152). -/
def progBad (t : TileRec) (i : Nat) : Option Refuse :=
  match t.cfg.prog[i]? with
  | none => none
  | some w => demand (match decodeTile w with
    | some x => opAllowed t.cfg.kind.toNat x.op
    | none => false) 0x0109 t.loc.toNat (t.off + 64 + 4 * i)
/-- Queue depths and bounds (03 R138), and the credits granted into each queue (R137). -/
def queueBad (ends : List (Option (Nat × Nat) × Nat)) (t : TileRec) (q : Nat) : Option Refuse :=
  let m := t.model
  let d := m.depth q
  let b := m.bound q
  demand (decide (d ≤ 32) && (d == 0 || (decide (1 ≤ b) && decide (b ≤ d))) && decide (creditsInto ends t.key q ≤ d))
    0x0109 t.loc.toNat (t.off + 16 + 4 * q)
/-- Switch entries: at most 64, one for each route, actions and credits in range (Table 10.4, R457). -/
def switchBad (t : TileRec) : Option Refuse :=
  let es := t.sw.map (swEntry 0)
  demand (decide (t.swCount ≤ 64) && decide (t.markerCount ≤ 8) && decide (t.progLen ≤ 256) &&
    distinctN (es.map (fun e => e.route.toNat)) &&
    es.all (fun e => decide (e.action ≤ 6) && decide (e.credits ≤ 32) &&
      (e.action != 4 || decide (0 < t.model.depth e.queue.toNat))) &&
    t.ksLen == (match t.cfg.kind.toNat with
      | 1 => 1
      | 2 => 3
      | _ => 0)) 0x0109 t.loc.toNat t.off
/-- Delay lines that an MRD or MWR of the program names. -/
def TileRec.namedLines (t : TileRec) : List Nat :=
  t.cfg.prog.filterMap (fun w => match decodeTile w with
    | some i => (match i.op with
      | .mrd d _ _ _ => some d.toNat
      | .mwr d _ _ _ => some d.toNat
      | _ => none)
    | none => none)
/-- Window and delay-line descriptors and numeric fields (04 R192, R228, R233, R235; 05 R241): a line that an instruction names
is one that the tile has. -/
def kindBad (t : TileRec) : Option Refuse :=
  demand (t.cfg.win.all WinDesc.valid && t.cfg.dl.all DlDesc.valid &&
    t.namedLines.all (fun d => DlDesc.used (t.cfg.dl.getD d ⟨0, 0⟩)) && (t.cfg.kind != 1 || numOk t.cfg.num)) 0x0109
    t.loc.toNat (t.off + 64 + 4 * t.progLen + 8 * t.swCount)
def tileDescBad (ends : List (Option (Nat × Nat) × Nat)) (t : TileRec) : Option Refuse :=
  orElse_ (switchBad t) (fun _ => orElse_ (firstBad (progBad t) (List.range t.cfg.prog.length))
    (fun _ => orElse_ (firstBad (queueBad ends t) (List.range 8))
      (fun _ => orElse_ (demand (decide ((List.range 8).foldl (fun n q => n + t.model.depth q) 0 ≤ 64)) 0x0109 t.loc.toNat (t.off + 16))
        (fun _ => kindBad t))))
/-- The bits of the register that a HUB entry of offset `a` loads; none where it may name no such register (R460; 06 Table 6.7). -/
def hubField (h a : Nat) : Option Word :=
  let o := a - aGth h
  if a < aGth h then
    (if h = 0 && inRange a 0x100000 0x110000 || h = 1 && inRange a 0x110000 0x120000 then
      (if a % 256 ≤ 0x14 && a % 4 = 0 then some 0xFFFFFFFF else none) else none)
  else if 0x80000 ≤ o || a % 4 ≠ 0 then none
  else if o = 0 then some 3
  else if inRange o 0x100 0x300 then
    (if o % 0x40 = 0 then some 0x0E0001FF else if o % 0x40 = 0x0C then some 0xFF else none)
  else if inRange o 0x2000 0x3000 then some 0xFFFFFFFF
  else if inRange o 0x10000 0x50000 then some 0xFFFFFFFF
  else if o = 0x60000 then some 0x01FF0000
  else if o = 0x60004 then some 0xFFFFFFFF
  else if inRange o 0x60100 0x60140 then some 0x87FF00FF
  else if inRange o 0x60140 0x60180 then some 0xFFFFFFFF
  else if inRange o 0x60200 0x60400 then
    (if o % 16 = 0 then some 0xB7FFFFFF else if o % 16 = 4 then some 0xFFFFFFFF else if o % 16 = 8 then some 0xFFFF else none)
  else none
/-- Offset `a` is a word of a KSK_RULE, or of a KSK_CLASS or KSK_MIN_PIX, of hub `h`: an entry names the whole register. -/
def isKskSetting (h a : Nat) : Bool := inRange (a - aGth h) 0x60100 0x60180 || inRange (a - aGth h) 0x60200 0x60400
/-- Word 0 of a KSK_RULE with the reserved ACTION 3 (06 Table 6.4, R303). -/
def badAction (h a : Nat) (v : Word) : Bool :=
  inRange (a - aGth h) 0x60200 0x60400 && (a - aGth h) % 16 == 0 && fld v 28 2 == 3
/-- The HUB entries with their image offsets. -/
def Image.hubPlaced (i : Image) : List (Nat × Nat × Nat × Word) :=
  List.zip ((sectionsOf i.sections 5).flatMap (fun x => (List.range x.count).map (fun j => x.off + 8 * j))) i.hub
/-- The entry's register, its fields, and KSK_RULE actions (R460; 06 R303). -/
def hubEntryBad (p : Identity) (x : Nat × Nat × Nat × Word) : Option Refuse :=
  let e := x.2
  demand (decide (e.1 < p.hubs) && !(badAction e.1 e.2.1 e.2.2) && (match hubField e.1 e.2.1 with
    | some m => isKskSetting e.1 e.2.1 || (e.2.2 &&& ~~~m) == 0
    | none => false)) 0x0109 0 x.1
/-- PQ_ entries of the image that set a queue other than by its enable. -/
def isPqEntry (a : Nat) : Bool := inRange a 0x100000 0x120000
/-- The queue of a PQ_ offset. -/
def pqOfAddr (a : Nat) : Nat := if a < 0x110000 then (a - 0x100000) / 256 else 256 + (a - 0x110000) / 256
/-- One PQ_ entry, as a write by the loader. -/
def State.applyPqEntry (s : State) (a : Nat) (v : Word) : State :=
  if a % 256 = 0 then s.pqCfgWrite (pqOfAddr a) v else s.writePqSetting (pqOfAddr a) (a % 256) v
/-- An entry that sets EN of a queue, which comes after the others (R461). -/
def setsEn (a : Nat) (v : Word) : Bool := isPqEntry a && a % 256 == 0 && bit v 31
/-- The queues of the image with their other entries written; those of an enabled queue are ignored (R461; 07 R330). -/
def pqTrialSettings (s : State) (i : Image) : State :=
  i.hub.foldl (fun t e => if isPqEntry e.2.1 && !(setsEn e.2.1 e.2.2) then t.applyPqEntry e.2.1 e.2.2 else t) s
/-- Enables, one after the other, each with the settings that R331 asks. -/
def pqTrial : State → List (Nat × Nat × Nat × Word) → Option Refuse
  | _, [] => none
  | t, e :: es =>
    let q := pqOfAddr e.2.2.1
    if t.pqEn q then pqTrial t es
    else if t.enableOk q e.2.2.2 then pqTrial (t.applyPqEntry e.2.2.1 e.2.2.2) es
    else some ⟨0x0109, 0, e.1⟩
/-- A region of the memory map holds the whole range (R459). -/
def Image.within (i : Image) (cls kind loc start len : Nat) : Bool :=
  i.regions.any (fun r => r.cls == cls && r.kind == kind && (kind == 0 || r.loc.toNat == loc) && decide (r.start ≤ start) &&
    (if kind = 0 then decide (start + len ≤ r.start + r.len) else decide (64 * start + len ≤ 64 * r.start + r.len)))
def DlDesc.bytes (d : DlDesc) : Nat := 64 * d.bandU * d.ring
/-- Rows, rings and line buffers lie in regions of their classes (R459). -/
def classBad (i : Image) : Option Refuse :=
  orElse_ (firstBad (fun r => demand (i.within 1 r.store r.loc.toNat r.start r.data.length) 0x0109 r.loc.toNat r.off) i.stores)
    (fun _ => orElse_ (firstBad (fun (r : HbmInit) => demand (i.within 1 0 0 r.addr r.data.length) 0x0109 0 r.off) i.hbm)
      (fun _ => firstBad (fun t => demand
        (t.cfg.win.all (fun d => !(d.lbRows * d.rowPitch != 0) || i.within 2 1 t.loc.toNat d.lbBase (64 * d.lbRows * d.rowPitch)) &&
         t.cfg.dl.all (fun d => !(DlDesc.used d) || i.within 2 0 0 d.base d.bytes)) 0x0109 t.loc.toNat t.off) i.tiles))
/-- Image offsets of kernel records that lie one after the other from `o`. -/
def kernelOffs : Nat → List (Line × List Byte) → List Nat
  | _, [] => []
  | o, k :: ks => o :: kernelOffs (o + 64 + k.2.length) ks
/-- Kernel core masks (11 R519), of the record at image offset `o`. -/
def kernelBad (s : State) (o : Nat) (r : Line) : Option Refuse :=
  let b := lineBytes r
  let h := bits (fieldAt b 3 1) 1 1
  demand (decide (h < s.ident.hubs) && bits (fieldAt b 2 1) 1 3 != 0) 0x0109 0 (o + 2)
def kernelsBad (s : State) (i : Image) : Option Refuse :=
  let o := ((sectionsOf i.sections 7).head?.map (fun x => x.off)).getD 0
  firstBad (fun (e : Nat × Line × List Byte) => kernelBad s e.1 e.2.1) (List.zip (kernelOffs o i.kernels) i.kernels)
/-- A STORES record of a hub names a Kiosk's store or a Gatehouse's engine store of a hub that is present (Table 10.5; 02 R111). -/
def storeHubBad (p : Identity) (r : StoreRec) : Option Refuse :=
  demand ((decide (1 ≤ r.store) && decide (r.store ≤ 3)) || ((r.store == 6 || r.store == 8) &&
    fld r.loc 24 8 == (if r.store = 6 then 3 else 2) && decide (2 ≤ fld r.loc 16 8) && decide (fld r.loc 16 8 < 2 + p.hubs) &&
    fld r.loc 0 16 == 0)) 0x0109 r.loc.toNat r.off
/-- What STORES give the store of kind `k` of hub `h`: the image's own contents. -/
def Image.hubStore (i : Image) (k h : Nat) : List Host.Cell :=
  i.stores.foldl (fun m r =>
    if r.store = k && fld r.loc 16 8 = 2 + h then writeBytes m (64 * r.start) r.data else m) []
/-- The first record that fills such a store. -/
def Image.hubRecord (i : Image) (k h : Nat) : Option StoreRec :=
  i.stores.find? (fun r => r.store == k && fld r.loc 16 8 == 2 + h)
/-- The limits of a Kiosk that the image uses (06 R300). -/
def kioskBad (i : Image) (h : Nat) : Option Refuse :=
  match i.hubRecord 6 h with
  | none => none
  | some r => demand (kskLimits (i.hubStore 6 h)) 0x0109 r.loc.toNat r.off
/-- GROUP flag, SIZE, SLOT and section agree (13 R589). -/
def groupBad (i : Image) : Option Refuse :=
  demand (if i.hdr.group then decide (2 ≤ i.hdr.size) && decide (i.hdr.size ≤ 8) && i.group.isSome &&
      i.group.all (fun g => g.size == i.hdr.size && g.slot == i.hdr.slot && decide (i.hdr.slot < i.hdr.size))
    else i.hdr.size == 1 && i.hdr.slot == 0 && i.group.isNone) 0x0109 0 0x7C
/-- The header's own ranges (Table 10.1; 01 R35). -/
def headerBad (i : Image) : Option Refuse :=
  orElse_ (demand (i.hdr.bandLines % 8 == 0 && decide (16 ≤ i.hdr.bandLines) && decide (i.hdr.bandLines ≤ 512)) 0x0109 0 0x70)
    (fun _ => demand (decide (1 ≤ i.hdr.depthBells) && decide (i.hdr.depthBells ≤ 1024)) 0x0109 0 0x76)
def checkDescriptors (s : State) (i : Image) : Option Refuse :=
  let ends := i.routeEnds s.ident
  orElse_ (headerBad i) (fun _ => orElse_ (groupBad i) (fun _ => orElse_ (firstBad (tileDescBad ends) i.tiles)
    (fun _ => orElse_ (firstBad (hubEntryBad s.ident) i.hubPlaced)
      (fun _ => orElse_ (pqTrial (pqTrialSettings s i) (i.hubPlaced.filter (fun e => setsEn e.2.2.1 e.2.2.2)))
        (fun _ => orElse_ (firstBad (kioskBad i) [0, 1])
          (fun _ => orElse_ (kernelsBad s i)
            (fun _ => orElse_ (firstBad (storeHubBad s.ident) i.stores) (fun _ => classBad i))))))))

/-! ## Steps 8 to 12: weights, cisterns, stores, line memory, bell -/

/-- The codes of a row of an arbor store are weights unless it is the bias row (05 R238, R255). -/
def weightRowBad (w4 : Bool) (row : List Byte) : Bool :=
  row.any (fun b => if w4 then b.toNat % 16 == 8 || b.toNat / 16 == 8 else b == 0x80)
def storeWeightsBad (i : Image) (r : StoreRec) : Option Refuse :=
  if r.store ≠ 2 then none
  else
    let num := match i.tileOf (locTileKey r.loc.toNat) with
      | some t => t.cfg.num
      | none => 0
    firstBad (fun j =>
      let row := slice r.data (64 * j) 64
      demand (!(weightRowBad (bits num.toNat 4 1 == 1) row) || (numBiasEn num && r.start + j == numBiasAddr num)) 0x010A
        r.loc.toNat (r.off + 16 + 64 * j)) (List.range (r.data.length / 64))
/-- A depthwise weight of a fountain's store (05 R238, R265). -/
def dwWeightsBad (i : Image) (r : StoreRec) : Option Refuse :=
  if r.store ≠ 3 then none
  else firstBad (fun j => demand (r.data.getD j 0 != 0x80 || !(Config.dwWeightByte i.hdr.digest (locTileKey r.loc.toNat) (64 * r.start + j)))
    0x010A r.loc.toNat (r.off + 16 + j)) (List.range r.data.length)
/-- Input channels of the engine's layers, one layer for each of the Gatehouse's routes (06 R293, R294). -/
def Image.engineInputs (i : Image) (h : Nat) : List Nat :=
  (Config.gatehouseRoutes i.hdr.digest h).map (fun r => if r.2.2.2.1 then
    ((List.range 8).filter (fun j => r.2.2.1.getLsbD (8 * h + j) && i.hdr.bandSet.getLsbD (8 * h + j))).length else 0)
/-- The weights of the Kiosk's layer, and those of the engine's layers (05 R238; 06 R294, R301). -/
def kskWeights (m : List Host.Cell) : List Int :=
  (kskCams m).flatMap (fun n => (List.range (kskClasses m)).flatMap (fun k => (kskWin m n).taps.flatMap (fun t =>
    (List.range (kskCin m)).map (fun ci => kskWeight m k t.1 t.2 ci))))
def engineWeights (m : List Host.Cell) (cins : List Nat) : List Int :=
  (List.zip (List.range cins.length) cins).flatMap (fun g =>
    let e := Engine.at_ m g.1
    (List.range e.cout).flatMap (fun k => e.win.taps.flatMap (fun t => (List.range g.2).map (fun ci => e.weight k t.1 t.2 ci))))
def hubWeightsBad (i : Image) (h : Nat) : Option Refuse :=
  orElse_ (match i.hubRecord 6 h with
    | none => none
    | some r => demand ((kskWeights (i.hubStore 6 h)).all (fun w => w != -128)) 0x010A r.loc.toNat r.off)
    (fun _ => match i.hubRecord 8 h with
      | none => none
      | some r => demand ((engineWeights (i.hubStore 8 h) (i.engineInputs h)).all (fun w => w != -128))
          0x010A r.loc.toNat r.off)
def checkWeights (i : Image) : Option Refuse :=
  orElse_ (firstBad (fun r => orElse_ (storeWeightsBad i r) (fun _ => dwWeightsBad i r)) i.stores)
    (fun _ => firstBad (hubWeightsBad i) [0, 1])
/-- Elements of a resident map of a fused-tile window (04 R215). -/
def WinDesc.mapElements (d : WinDesc) : Nat := d.frameH * d.imgW * (d.cblk * (if d.w4 || d.dwp then 32 else 16))
def checkCistern (i : Image) : Option Refuse :=
  let rs := i.regions.filter (fun r => r.kind == 1)
  orElse_ (firstBad (fun (r : Region) => demand (decide (64 * r.start + r.len ≤ 0x80000) &&
      disjoint ((rs.filter (fun x => x.loc == r.loc)).map (fun x => (64 * x.start, x.len)))) 0x0102 r.loc.toNat r.off) rs)
    (fun _ => firstBad (fun t => demand (t.cfg.win.all (fun d => !(WinDesc.fused d) ||
      (decide (d.frameH ≤ 1024) && decide (d.mapElements ≤ 2 ^ 26)))) 0x0102 t.loc.toNat t.off) i.tiles)
/-- Where HBM regions may lie: the image region, up to the pool (08 R387). -/
def State.hbmOk (s : State) (a n : Nat) : Bool :=
  decide (0x80000000 ≤ a) && decide (a + n ≤ s.alloc.poolBase) && decide (a + n ≤ s.ident.hbmBytes)
def storeBytes (k : Nat) : Nat := match k with
  | 1 => 0x80000
  | 2 => 0x10000
  | 3 => 0x4000
  | 6 => 0x200000
  | _ => 0x600000
def Image.rings (i : Image) : List (Nat × Nat) :=
  i.tiles.flatMap (fun t => (t.cfg.dl.filter DlDesc.used).map (fun d => (d.base, d.bytes)))
def checkStores (s : State) (i : Image) : Option Refuse :=
  orElse_ (firstBad (fun r => demand (decide (64 * r.start + r.data.length ≤ storeBytes r.store)) 0x0103 r.loc.toNat r.off) i.stores)
    (fun _ => orElse_ (firstBad (fun (r : Region) => demand (r.kind != 0 || r.len == 0 || s.hbmOk r.start r.len) 0x0103 0 r.off) i.regions)
      (fun _ => orElse_ (firstBad (fun (r : HbmInit) => demand (s.hbmOk r.addr r.data.length) 0x0103 0 r.off) i.hbm)
        (fun _ => demand (disjoint i.rings && i.rings.all (fun r => s.hbmOk r.1 r.2)) 0x0103 0 0)))
/-- GTH_CAM_CTRL as the image leaves it. -/
def camCtrl (s : State) (i : Image) (n : Nat) : Word :=
  match i.hubValue (aCam n) with
  | some v => (s.reg (aCam n) &&& ~~~0x0E0001FF) ||| (v &&& 0x0E0001FF)
  | none => s.reg (aCam n)
def lineMemory (s : State) (i : Image) (h : Nat) : Nat :=
  ((List.range 8).filter (fun j => i.hdr.bandSet.getLsbD (8 * h + j))).foldl (fun n j =>
    let c := camCtrl s i (8 * h + j)
    n + (fld c 0 9 + 1) * 16 * (if fld c 25 2 = 0 then 1 else 2) * (2 * i.hdr.bandLines + 8)) 0
def checkLineMemory (s : State) (i : Image) : Option Refuse :=
  demand ((List.range s.ident.hubs).all (fun h => decide (lineMemory s i h ≤ 6 * 2 ^ 20))) 0x010B 0 0
def checkBell (i : Image) : Option Refuse :=
  orElse_ (demand (i.hdr.scrub == (i.hdr.budget + 62) / 63) 0x0104 0 0x64)
    (fun _ => orElse_ (firstBad (fun (p : PavRec) => demand (decide (p.iiCk ≤ i.hdr.budget)) 0x0104 0 (p.off + 4)) i.pavs)
      (fun _ => demand (decide (i.hdr.budget + i.hdr.scrub + i.hdr.holdAllow ≤ i.hdr.linePeriod)) 0x0104 0 0x6C))

/-! ## Step 13: conditions for a changeover (R480) -/

/-- The bytes that an image's STORES give a row of a store, later records first. -/
def Image.storeRow (i : Image) (store : Nat) (loc : Word) (row : Nat) : Option (List Byte) :=
  (i.stores.reverse.find? (fun r => r.store == store && r.loc == loc && decide (r.start ≤ row) &&
    decide (64 * (row - r.start) < r.data.length))).map (fun r => slice r.data (64 * (row - r.start)) 64)
/-- The bytes of a 64 B unit of HBM. -/
def Image.hbmRow (i : Image) (a : Nat) : Option (List Byte) :=
  (i.hbm.reverse.find? (fun r => decide (r.addr ≤ a) && decide (a < r.addr + r.data.length))).map (fun r => slice r.data (a - r.addr) 64)
/-- An IMAGE-class row of the new image that the active one also holds differs; the stores of a hub are held to the same rule
(R480; notes/assumptions/118.md). -/
def rowsBad (new old : Image) : Option Refuse :=
  orElse_ (firstBad (fun r => firstBad (fun j => demand (!(old.within 1 r.store r.loc.toNat (r.start + j) 64) ||
      (old.storeRow r.store r.loc (r.start + j)).getD (List.replicate 64 0) == slice r.data (64 * j) 64)
      0x010D r.loc.toNat (r.off + 16 + 64 * j)) (List.range (r.data.length / 64))) new.stores)
    (fun _ => firstBad (fun (r : HbmInit) => firstBad (fun j => demand (!(old.within 1 0 0 (r.addr + 64 * j) 64) ||
      (old.hbmRow (r.addr + 64 * j)).getD (List.replicate 64 0) == slice r.data (64 * j) 64)
      0x010D 0 (r.off + 16 + 64 * j)) (List.range (r.data.length / 64))) new.hbm)
/-- Writable bits of the register at offset `a`. -/
def writable (a : Nat) : Word := ((findRow a).map (fun r => r.rw)).getD 0
/-- A PQ_ entry equals the active value, or names a queue that is not enabled (R480). -/
def pqAgrees (s : State) (e : Nat × Nat × Word) : Bool :=
  !(isPqEntry e.2.1) || !(s.pqEn (pqOfAddr e.2.1)) || (e.2.2 ^^^ s.reg e.2.1) &&& writable e.2.1 == 0
def checkSwap (s : State) (i : Image) : Option Refuse :=
  let c := 0x010D
  match s.load.active with
  | none => some ⟨c, 0, 0x40⟩
  | some old =>
    orElse_ (demand i.hdr.changeover c 0 0x12) (fun _ =>
      orElse_ (demand (s.activeValid && i.hdr.predDigest == old.hdr.digest) c 0 0x40) (fun _ =>
        orElse_ (demand (i.hdr.bandLines == old.hdr.bandLines) c 0 0x70) (fun _ =>
          orElse_ (demand (i.hdr.bandSet == old.hdr.bandSet) c 0 0x72) (fun _ =>
            orElse_ (demand ((List.range 16).all (fun n => !(i.hdr.bandSet.getLsbD n) ||
              ((camCtrl s i n ^^^ s.reg (aCam n)) &&& 0x0E0001FF) == 0)) c 0 0) (fun _ =>
              orElse_ (rowsBad i old) (fun _ =>
                firstBad (fun (e : Nat × Nat × Nat × Word) => demand (pqAgrees s e.2) c 0 e.1) i.hubPlaced))))))

/-! ## All checks in order (Table 10.7) -/

def State.checkImage (s : State) (i : Image) (mode : Bool) : Option Refuse :=
  orElse_ (checkSignature s i) (fun _ => orElse_ (checkVersion s i) (fun _ => orElse_ (checkFeatures s i) (fun _ =>
    orElse_ (checkTravel s i) (fun _ => orElse_ (checkTiles s i) (fun _ => orElse_ (checkDescriptors s i) (fun _ =>
      orElse_ (checkWeights i) (fun _ => orElse_ (checkCistern i) (fun _ => orElse_ (checkStores s i) (fun _ =>
        orElse_ (checkLineMemory s i) (fun _ => orElse_ (checkBell i) (fun _ =>
          if mode then checkSwap s i else none)))))))))))

end Sys2Proof.Machine
end

