-- ==== Sys2Proof/Machine/Glilan.lean ====
section
/-!
DEFINITION. Loading, activation and changeover of Glilan images (10 R464–R493, 11 R526–R528, 13 R605).
-/
namespace Sys2Proof.Machine

def State.updLoad (s : State) (f : LoadState → LoadState) : State := { s with load := f s.load }
/-- MODE of the load under way: HUB_LOAD_CTRL.MODE as its GO wrote it (notes/assumptions/103.md). -/
def State.loadMode (s : State) : Bool := s.load.mode
def State.setLoadCode (s : State) (c : Nat) : State := s.setReg aHubLoadStatus (setFld (s.reg aHubLoadStatus) 0 16 c)
/-- Generation of the image being loaded (R475, R484). -/
def State.newGen (s : State) : BitVec 2 := if s.activeValid then s.activeGen + 1 else 0

/-! ## Refusal and abort -/

/-- Offset 3 of hub 0 names the loader (12 Table 12.10). -/
def State.loadRecord (s : State) (r : Refuse) : State :=
  (s.emit { err r.code with loc := hubLoc 0 3, d0 := r.d0, d1 := r.off }).setLoadCode r.code
/-- A check failed: one record, STATE 5, CODE (R468). -/
def State.refuseLoad (s : State) (r : Refuse) : State := ((s.loadRecord r).setLoadState 5).updLoad (fun l => { l with staged := none })
/-- The image configures a sequencer of tile `k`. -/
def Image.seqOf (i : Image) (k : Nat) : Option TileCfg :=
  match i.tileOf k with
  | some t => if t.progLen = 0 then none else some t.cfg
  | none => none
def State.activeSeq (s : State) (k : Nat) : Option TileCfg :=
  if s.activeValid then (match s.load.active with
    | some i => i.seqOf k
    | none => none) else none
/-- Discard the shadows and switch entries that a load has written; a tile that took its configuration before activation
(R477) has none again (R467, notes/assumptions/24.md). -/
def State.dropShadows (s : State) : State :=
  let g := s.newGen
  let keep : SwEntry → Bool := fun e => s.activeValid && e.gen != g
  let f : Nat → Tile → Tile := fun k t =>
    let t1 := { t with shadow := none, shadowReady := false, io := { t.io with sw := t.io.sw.filter keep } }
    if (s.activeSeq k).isNone && t1.cfg.isSome then t1.start none s.activeGen else t1
  { s with tiles := Tab.mapV Tile.blank f s.tiles }
/-- The load ends in STATE 6 with the active image unchanged (R467, R493). -/
def State.endLoad (s : State) : State :=
  if 1 ≤ s.loadState && s.loadState ≤ 3 then
    let s1 := s.dropShadows.setLoadState 6
    let active := s.load.active
    { s1 with load := { LoadState.empty with active := active } }
  else s

/-! ## GO -/

def State.loadGo (s : State) (mode : Bool) : State :=
  let s0 := s.setReg aHubLoadCtrl (if mode then 1 else 0)
  let st := s0.loadState
  if !(st == 0 || st == 5 || st == 6) then s0.loadRecord ⟨0x010E, 0, 0⟩
  else if !mode && s0.runBit then s0.refuseLoad ⟨0x010E, 0, 0⟩
  else
    let active := s0.load.active
    ({ s0 with load := { LoadState.empty with active := active, mode := mode } } : State).setRegN aHubLoadProgress 0 |>.setLoadState 1
def execLoadGo (mode : Bool) (s : State) : Host.Outcome State Fault Refusal := .next (s.loadGo mode)
def execLoadAbort (s : State) : Host.Outcome State Fault Refusal := .next s.endLoad

/-! ## Hub entries (R460, R461) -/

/-- One entry, as a write by the loader. -/
def State.applyHubEntry (s : State) (h a : Nat) (v : Word) : State :=
  if isPqEntry a then s.applyPqEntry a v
  else if inRange (a - aGth h) 0x10000 0x50000 then
    s.writeFf (8 * h + (a - aGth h - 0x10000) / 0x8000) ((a - aGth h - 0x10000) % 0x8000 / 4) v
  else match hubField h a with
    | some m => s.setReg a ((s.reg a &&& ~~~m) ||| (v &&& m))
    | none => s
/-- GTH_FF and GTH_FLK, which a changeover skips (R481). -/
def isTuning (h a : Nat) : Bool := inRange (a - aGth h) 0x10000 0x50000 || inRange (a - aGth h) 0x2000 0x3000
def isKioskEntry (h a : Nat) : Bool := inRange (a - aGth h) 0x60000 0x80000
/-- Apply the entries of hub `h` that satisfy `p`: a PQ_CFG that sets EN after the others (R461). -/
def State.applyHub (s : State) (i : Image) (h : Nat) (p : Nat → Bool) : State :=
  let es := (i.hubEntries h).filter (fun e => p e.1)
  let s1 := (es.filter (fun e => !(setsEn e.1 e.2))).foldl (fun t e => t.applyHubEntry h e.1 e.2) s
  (es.filter (fun e => setsEn e.1 e.2)).foldl (fun t e => t.applyHubEntry h e.1 e.2) s1

/-! ## Verification and delivery -/

/-- Bed of tile `k` is powered on for a load (R470). -/
def State.loadBed (s : State) (b : Nat) : State := (s.setBits aSupPwrBed (1#32 <<< b)).beginOn b
/-- Tiles of the new image and of the active one (R473). -/
def State.loadTiles (s : State) (i : Image) : List Nat :=
  let old := (match s.load.active with
    | some a => if s.activeValid then a.tiles.map TileRec.key else []
    | none => [])
  let new := i.tiles.map TileRec.key
  new ++ old.filter (fun k => !(new.contains k))
/-- The wavefront's arming: the members of a running group report it (13 R605). -/
def State.reportArmed (s : State) : State :=
  if s.grp.running && s.loadMode then
    match s.load.staged with
    | some i => s.sendMsg .armed [s.grpSlot, (match i.group with
      | some g => g.groupDigest.toNat
      | none => 0)]
    | none => s
  else s
def State.groupDigest (s : State) : BitVec 256 :=
  match s.load.staged with
  | some i => (match i.group with
    | some g => g.groupDigest
    | none => 0)
  | none => 0
/-- Every member has reported ARMED with this device's new GROUP_DIGEST (13 R605). -/
def State.allArmed (s : State) : Bool :=
  (List.range s.grpSize).all (fun k => k == s.grpSlot || s.grp.armed.any (fun e => e.1 == k && e.2 == s.groupDigest))
/-- Arm the swap at band `n`, or at the band in assembly where that is later (R482, R483). -/
def State.armAt (s : State) (n : W48) : State :=
  let b := if w48lt n s.bandNum then s.bandNum else n
  s.updLoad (fun l => { l with armed := some b, swapWanted := none })
/-- Arm as far as the wanted band and the group allow (R482, R605; 14 R650). -/
def State.tryArm (s : State) : State :=
  match s.load.swapWanted with
  | none => s
  | some w =>
    if s.loadState ≠ 3 || !s.loadMode || bit (s.reg aContainStatus) 31 then s
    else
      let n := w.getD s.bandNum
      if s.grp.running then
        if s.grpLeader && s.allArmed then
          let b := if w48le n s.bandNum then s.bandNum + 1 else n
          (s.sendMsg .swap (b.toNat :: [s.groupDigest.toNat])).updLoad (fun l => { l with armed := some b, swapWanted := none })
        else s
      else s.armAt n
/-- 64 B rows of a store, from row `r` on. -/
def State.writeRows (s : State) (w : Nat → MemWord) (r : Nat) (data : List Byte) : State :=
  (List.range (data.length / 64)).foldl (fun t j =>
    (t.cancelRow (w (8 * (r + j)))).putRow (w (8 * (r + j))) (slice data (64 * j) 64)) s
/-- Stores of the hub: Kiosk store and Gatehouse engine store (Table 10.5). -/
def State.writeHubStores (s : State) (i : Image) : State :=
  i.stores.foldl (fun t r =>
    let h : Hub := if fld r.loc 16 8 = 3 then 1 else 0
    if r.store = 6 then t.writeRows (fun w => .kiosk h w) r.start r.data
    else if r.store = 8 then t.writeRows (fun w => .engine h w) r.start r.data
    else t) s
/-- The last tile is ready: HBM_INIT and hub stores are written, and STATE becomes 3 (R473). -/
def State.finishDelivery (s : State) (i : Image) : State :=
  let s1 := i.hbm.foldl (fun t r => t.hbmWrite r.addr r.data) s
  let s2 := s1.writeHubStores i
  (s2.setLoadState 3).reportArmed.tryArm
def State.acceptLoad (s : State) (i : Image) : State :=
  let todo := s.loadTiles i
  let s1 := (s.setLoadState 2).updLoad (fun l => { l with staged := some i, todo := todo, bytesDone := 0 })
  let s2 := ((List.range 12).filter (fun b => i.usesBed b)).foldl (fun t b => t.loadBed b) s1
  if todo.isEmpty then s2.finishDelivery i else s2
/-- LOAD_VERIFY_COMPLETE (R453, R468). -/
def State.verifyLoad (s : State) : State :=
  if s.loadState ≠ 1 then s
  else
    let r := s.imageBytes
    match r.2 with
    | .inr o => r.1.refuseLoad ⟨0x010C, 0, o⟩
    | .inl bs =>
      match checkFormat bs (s.regN aHubLoadLen) with
      | .inr e => r.1.refuseLoad e
      | .inl i =>
        let s1 := if s.keysInUse then r.1.clrBits aHubLoadStatus 0x1000000 else r.1.setBits aHubLoadStatus 0x1000000
        match s1.checkImage i s.loadMode with
        | some e => s1.refuseLoad e
        | none => s1.acceptLoad i
def execLoadVerifyComplete (s : State) : Host.Outcome State Fault Refusal := .next s.verifyLoad

/-- The tile's record, switch entries and stores arrive (R457, R471, R473, R477). -/
def State.deliverTile (s : State) (i : Image) (t : TileLoc) : State :=
  let k := t.key
  let g := s.newGen
  let new := i.seqOf k
  let sw := (match i.tileOf k with
    | some r => r.sw.map (swEntry g)
    | none => [])
  let rows := i.stores.filter (fun r => fld r.loc 24 8 == 1 && locTileKey r.loc.toNat == k && decide (r.store ≤ 3))
  let s1 := rows.foldl (fun u r => u.writeRows (fun w => .tile t (Fin.ofNat 65536 w)) r.start r.data) s
  let early := (s.activeSeq k).isNone
  let s2 := s1.onTile k (fun x =>
    let x1 := { x with io := { x.io with sw := x.io.sw.filter (fun e => e.gen != g) ++ sw } }
    if early then (if new.isSome then x1.start new g else x1)
    else { x1 with shadow := new, shadowReady := true })
  let n := rows.foldl (fun n r => n + r.data.length) (match i.tileOf k with
    | some r => 64 + 4 * r.progLen + 8 * r.swCount + 64 * r.ksLen
    | none => 0)
  let done := s.load.bytesDone + n
  (s2.setRegN aHubLoadProgress (done / 1024)).updLoad (fun l => { l with bytesDone := done, todo := l.todo.filter (fun j => j != k) })
/-- TRELLIS_DELIVERY of one tile: only in STATE 2, once its bed is on (R470). -/
def State.trellis (s : State) (t : TileLoc) : State :=
  match s.load.staged with
  | none => s
  | some i =>
    if s.loadState ≠ 2 || !(s.load.todo.contains t.key) || !(s.tileOn t.key) then s
    else
      let s1 := s.deliverTile i t
      if s1.load.todo.isEmpty then s1.finishDelivery i else s1
def execTrellisDelivery (t : TileLoc) (s : State) : Host.Outcome State Fault Refusal := .next (s.trellis t)

/-! ## Activation (R475, R476) -/

/-- Fields of R43 from the header. -/
def State.bellFields (s : State) (h : Header) : State :=
  let s1 := ((s.setRegN aBelBandLines h.bandLines).setRegN aBelBandSet h.bandSet.toNat).setRegN aBelBudget h.budget
  let s2 := (s1.setRegN aBelScrubCk h.scrub).setRegN aBelHoldAllow h.holdAllow
  s2.setRegN aBelMinPeriod ((h.budget + h.scrub + h.holdAllow) % 2 ^ 32)
def State.setDigest (s : State) (d : BitVec 256) : State :=
  (List.range 8).foldl (fun t j => t.setRegN (aHubActiveDigest + 4 * j) (fieldAt (digestBytes d) (4 * j) 4)) s
/-- The staged image becomes the active one: generation, digest, bases (R462, R475, R487). Tiles that only route take part in it
(03 R178; 07 R356, R360). -/
def State.commitImage (s : State) (i : Image) : State :=
  let g := s.newGen
  let old := s.load
  let s1 := s.setReg aHubLoadStatus (setFld (setFld (s.reg aHubLoadStatus) 26 2 g.toNat ||| 0x2000000) 28 4 0)
  let a := s.reg64 aHubImgActiveBase
  let b := s.reg64 aHubImgStageBase
  let s2 := if s.ident.hasHbm then (s1.setReg64 aHubImgActiveBase b).setReg64 aHubImgStageBase a else s1
  let s3 := (s2.setDigest i.hdr.digest).clrBits aHubChgWindow 1
  let sw : Tile → Tile := fun t => ({ t with io := { t.io with sw := t.io.sw.filter (fun e => e.gen == g) } } : Tile).routeOnly g
  let tiles := Tab.mapV Tile.blank (fun _ t => sw t) s3.tiles
  { s3 with load := { LoadState.empty with active := some i, bytesDone := old.bytesDone }, tiles := tiles }
/-- Every tile with a complete shadow takes it. -/
def State.takeShadows (s : State) (g : BitVec 2) : State :=
  let f : Tile → Tile := fun t =>
    if t.shadowReady then { t.start t.shadow g with shadow := none, shadowReady := false } else t
  { s with tiles := Tab.mapV Tile.blank (fun _ t => f t) s.tiles }
/-- Activation with the pipeline empty. -/
def State.activateCold (s : State) : State :=
  match s.load.staged with
  | none => s
  | some i =>
    let g := s.newGen
    let s1 := (s.takeShadows g).bellFields i.hdr
    let s2 := (List.range s.ident.hubs).foldl (fun t h => t.applyHub i h (fun _ => true)) s1
    (s2.commitImage i).startKernels i g
/-- A MODE 0 image in STATE 3 activates once RUN reads 0 (R475). -/
def State.activationDue (s : State) : Bool := s.loadState == 3 && !s.loadMode && !s.runBit
def State.activate (s : State) : State := if s.activationDue then s.activateCold else s
def execActivation (s : State) : Host.Outcome State Fault Refusal := .next s.activate
/-- The stream's drain completes; an image in STATE 3 of either mode activates then (R475, R476, R489). -/
def State.endDrain (s : State) : State :=
  let s1 := ((s.kioskEnd 0).kioskEnd 1).completeDrain
  if s1.loadState = 3 then s1.activateCold else s1

/-! ## Arming (R482, R483, R605) -/

/-- A write of SWAP_NOW, `none`, or of HUB_SWAP_BAND. A follower of a running group takes the leader's SWAP instead. -/
def State.wantSwap (s : State) (w : Option W48) : State :=
  if s.grp.running && !s.grpLeader then s
  else if s.loadMode && 1 ≤ s.loadState && s.loadState ≤ 3 then (s.updLoad (fun l => { l with swapWanted := some w })).tryArm
  else s
def execSwapNow (s : State) : Host.Outcome State Fault Refusal :=
  .next (if s.loadState = 3 then s.wantSwap none else s)
def State.latched (s : State) (a : Nat) : Word := Tab.at_ 0 s.latch a
/-- The high-word write of HUB_SWAP_BAND sets the register and the band of R482 (00 R695). -/
def State.writeSwapBand (s : State) (hi : Word) : State :=
  let v := (s.latched aHubSwapBand).toNat + 2 ^ 32 * (hi.toNat % 65536)
  (s.setReg64 aHubSwapBand v).wantSwap (some (BitVec.ofNat 48 v))
def execHubSwapBandWrite (hi : Word) (s : State) : Host.Outcome State Fault Refusal := .next (s.writeSwapBand hi)

/-! ## The changeover window (R485–R488, R492) -/

/-- The Gatehouse of hub `h` has sent EOC: it takes its new settings; the first hub's records the band and sets STATE 4
(R482, R485). -/
def State.sentEoc (s : State) (h : Nat) : State :=
  match s.load.armed, s.load.staged with
  | some b, some i =>
    let s1 := (s.setReg48 aHubSwapBandAct b).setLoadState 4
    (s1.updLoad (fun l => { l with eocSent := h :: l.eocSent })).applyHub i h (fun a => !(isTuning h a) && !(isKioskEntry h a))
  | _, _ => s
/-- The Kiosk of hub `h` closes its components, then takes its new settings, once (R485). -/
def State.kioskSwap (s : State) (h : Nat) : State :=
  if s.load.kioskSwapped.contains h || !(s.ident.hasKiosk h) then s
  else match s.load.staged with
    | some i =>
      let s1 := ((s.closeTail h).updLoad (fun l => { l with kioskSwapped := h :: l.kioskSwapped })).applyHub i h (isKioskEntry h)
      s1.updKiosk h (fun k => { k.restart with snaps := [] })
    | none => s
/-- The first band after the armed band is admitted: the window opens and the new kernels start (R486, R528). -/
def State.openWindow (s : State) : State :=
  match s.load.staged with
  | some i =>
    ((s.updLoad (fun l => { l with windowOpen := true, windowBells := 0 })).setBits aHubChgWindow 1).startKernels i s.newGen
  | none => s
/-- The window closes: the new values take effect, the old entries and kernels go (R487, R528). -/
def State.closeWindow (s : State) : State :=
  match s.load.staged with
  | none => s
  | some i =>
    let g := s.newGen
    let old := s.activeGen
    let s0 := (s.kioskSwap 0).kioskSwap 1
    let s1 := if s.load.windowOpen then s0 else s0.startKernels i g
    (((s1.bellFields i.hdr).commitImage i)).stopKernels old
/-- EOC has gone through the Kiosk of hub `h`: none stands at its entry, and no camera waits for the others'. -/
def State.kskEocDone (s : State) (h : Nat) : Bool :=
  let k := s.kiosk h
  k.inbox.all (fun x => tagKind x.2.tok.tag != 7) && k.band.all (fun e => e.2 != 1)
/-- EOC has left every last-stage unit: every Gatehouse has sent it, every tile of either image has swapped, and it has gone
through every Kiosk (R487). -/
def State.eocThrough (s : State) : Bool :=
  s.loadState == 4 && (List.range s.ident.hubs).all (fun h => s.load.eocSent.contains h) &&
  s.tiles.all (fun e => !e.2.shadowReady && e.2.phase != .swapping) && s.kskEocDone 0 && s.kskEocDone 1
def execChangeoverWindowClose (s : State) : Host.Outcome State Fault Refusal := .next (if s.eocThrough then s.closeWindow else s)
/-- With the pipeline empty in a changeover, every tile that has not swapped takes the new configuration and the window
closes (R488, R492). -/
def State.forceSwap (s : State) : State :=
  if s.loadState ≠ 4 then s
  else
    match s.load.staged with
    | none => s
    | some i =>
      let g := s.newGen
      let s1 := s.takeShadows g
      let hs := (List.range s.ident.hubs).filter (fun h => !(s.load.eocSent.contains h))
      let s2 := hs.foldl (fun t h => t.applyHub i h (fun a => !(isTuning h a) && !(isKioskEntry h a))) s1
      s2.closeWindow

end Sys2Proof.Machine
end

