-- ==== Sys2Proof/Machine/Bell.lean ====
section
/-!
DEFINITION. Encoders, streams, bells, admission, holds and the ledger writer (01; 13 R598–R600, R604).
-/
namespace Sys2Proof.Machine

/-! ## Encoders (R24–R28, R56–R58) -/

/-- Distance that P lies below H. -/
def State.below (s : State) : Nat := (s.hwm - s.posP).toNat
def State.revHyst (s : State) : Nat := max 1 (min 65535 (s.regN aBelRevHyst))
/-- A reversal episode begins: it is counted and recorded, and the band in assembly is set aside as REVERSED, its unticked
line numbers consumed (R57, R58). -/
def State.beginReversal (s : State) : State :=
  let s1 := ((s.count aBelRevCount 1).emit { err 0x0803 with loc := hubLoc 0 1, band := s.bandNum.toNat }).updBell
    (fun b => { b with reversal := some s.below })
  match s1.assembling with
  | none => s1
  | some b =>
    ((s1.updBand b.num (fun r => { r with phase := .reversed })).cutAssembly b).maybeDrain
/-- An episode begins once P stands BEL_REV_HYST or more below H, in an open stream of SRC 0 (R56). -/
def State.reversalCheck (s : State) : State :=
  if s.bell.reversal.isNone && s.srcSel = 0 && s.ticksAllowed && !(w48le s.hwm s.posP) && decide (s.revHyst ≤ s.below) then
    s.beginReversal
  else s
/-- P has fallen: the index comparison starts anew (R28), and a reversal begins or deepens (R56). -/
def State.fell (s : State) : State :=
  let s1 := s.updBell (fun b => { b with zRef := none })
  if w48le s1.hwm s1.posP then s1
  else match s1.bell.reversal with
    | some d => s1.updBell (fun b => { b with reversal := some (max d s1.below) })
    | none => s1.reversalCheck
/-- P stands above H: H follows, the accumulator takes one count, an episode ends, strobes and ticks follow (R25, R26, R56;
06 R316). -/
def State.rose (s : State) : State :=
  let s1 := (s.setReg48 aBelEncHwm s.posP).updBell (fun b => { b with tickAcc := b.tickAcc + 65536 })
  s1.closeReversal.strobesAll.drainAcc
/-- One count of encoder `n`. ENC_DIR turns only the selected encoder (R24). A follower's encoders move no H (13 R596). -/
def State.encCount (s : State) (n : Nat) (aLeads : Bool) : State :=
  if s.ident.encoders ≤ n then s
  else
    let sel := n == s.encSel
    let up := if sel && s.encDir then !aLeads else aLeads
    let p := s.encPos n
    let s1 := s.setReg48 (aBelEncPos n) (if up then p + 1 else p - 1)
    if !sel then s1
    else if !up then s1.fell
    else if s1.srcSel ≠ 1 && w48lt s1.hwm s1.posP then s1.rose
    else s1.reversalCheck
def execEncoderCount (n : Enc) (aLeads : Bool) (s : State) : Host.Outcome State Fault Refusal := .next (s.encCount n.val aLeads)
/-- An index pulse of the selected encoder (R28). -/
def State.zPulse (s : State) (n : Nat) : State :=
  if s.ident.encoders ≤ n || n ≠ s.encSel then s
  else
    let want := s.regN aBelEncZCounts
    let s1 := (match s.bell.zRef with
      | some z => if want ≠ 0 && (s.posP - z).toNat ≠ want then s.count aBelEncZErr 1 else s
      | none => s)
    let p := s1.posP
    s1.updBell (fun b => { b with zRef := some p })
def execEncZPulse (n : Enc) (s : State) : Host.Outcome State Fault Refusal := .next (s.zPulse n.val)
/-- The tick of SRC 2, once its period has passed (R29). -/
def execInternalTimerTick (s : State) : Host.Outcome State Fault Refusal :=
  .next (if s.srcSel = 2 && s.ticksAllowed && decide (s.bell.timerDue ≤ s.now) then
    (s.updBell (fun b => { b with timerDue := b.timerDue + max 1000 (s.regN aBelTimerPeriod) })).issueTick else s)

/-! ## Opening a stream (R25, R29, R48; 13 R610, R620; 15 R670) -/

/-- Setting RUN is not ignored. -/
def State.mayRun (s : State) : Bool :=
  let isGroup := (match s.load.active with
    | some i => i.hdr.group
    | none => false)
  s.srcSel != 3 && (s.srcSel != 0 || decide (s.encSel < s.ident.encoders)) && s.activeValid &&
  (s.srcSel != 1 || s.ident.prmPorts != 0) &&
  (if s.grpMode && s.ident.prmPorts != 0 then fld (s.reg aGrpState) 0 4 == 3 && s.grpLeader else !isGroup)
/-- Per-stream state of a camera (06 R277, R287). -/
def CamState.newStream (c : CamState) : CamState := { c with good := [], frame := none, halo := [] }
/-- RUN changes from 0 to 1 (R25, R29, R48; 13 R616). -/
def State.openStream (s : State) : State :=
  let s1 := (s.setBits aBelCtrl 0x100).setReg48 aBelEncHwm s.posP
  let due := s.now + max 1000 (s.regN aBelTimerPeriod)
  let line := s1.lineNum
  let s2 := s1.updBell (fun b =>
    { b with tickAcc := 0, timerDue := due, phase := .running, lastBand := none, admittedAt := none, holdSince := 0,
             interval := none, reversal := none, firstLine := line, lastBandBellAt := none, drainBells := 0 })
  let cams := Tab.mapV CamState.init (fun _ c => c.newStream) s2.gth.cams
  let c := { s2.contain with groupCode := none }
  { s2 with gth := { s2.gth with cams := cams, bandIdx := [] }, contain := c }
/-- A write of 1 to RUN. -/
def State.runSet (s : State) : State :=
  if s.runBit then s
  else
    let s0 := s.activate
    if s0.mayRun = false then s0.cfgIgnored
    else if s0.grpMode && s0.ident.prmPorts != 0 then
      let first := s0.bandNum + 1
      let s1 := ((s0.setReg48 aBelBandNum first).sendMsg .start [first.toNat]).setGrpState 4
      let g := { s1.grp with running := true, startBand := none }
      ({ s1 with grp := g } : State).openStream
    else s0.openStream
def execBelRunSet (s : State) : Host.Outcome State Fault Refusal := .next s.runSet

/-! ## Ending a stream (R39–R41; 13 R604) -/

/-- A running group's follower ignores the write; its leader tells the group which band it names. -/
def State.streamWrite (s : State) (aborted : Bool) (f : State → State) : State :=
  if s.grp.running && !s.grpLeader then s.cfgIgnored
  else if s.grp.running && (s.bell.phase == .running || (aborted && s.bell.phase == .ending)) then
    let b := if s.bell.phase == .running then s.bandNum else s.bell.lastBand.getD s.bandNum
    f (s.sendMsg .streamEnd [b.toNat, b2n aborted])
  else f s
/-- EOS, or 0 written to RUN (R39, R41). -/
def State.writeEos (s : State) : State := if s.runBit then s.streamWrite false State.endStream else s
/-- ABORT (R40). -/
def State.writeAbort (s : State) : State := if s.runBit then s.streamWrite true State.abortStream else s
def execBelRunClear (s : State) : Host.Outcome State Fault Refusal := .next s.writeEos
def execBelEos (s : State) : Host.Outcome State Fault Refusal := .next s.writeEos
def execBelAbort (s : State) : Host.Outcome State Fault Refusal := .next s.writeAbort

/-! ## Control writes (R30, R81) -/

/-- The fields of R30. DESIGN CHOICE (notes/assumptions/107.md): a change of ENC_SEL discards the pending index comparison. -/
def State.writeSource (s : State) (src encSel : Nat) (dir : Bool) : State :=
  let old := s.reg aBelCtrl
  let new := setFld (setFld (setFld old 0 2 src) 4 2 encSel) 6 1 (b2n dir)
  if new = old then s
  else if s.runBit then s.cfgIgnored
  else
    let s1 := s.setReg aBelCtrl new
    if encSel ≠ s.encSel then s1.updBell (fun b => { b with zRef := none }) else s1
def execBelCtrlConfigWrite (src : BitVec 2) (encSel : BitVec 2) (encDir : Bool) (s : State) : Host.Outcome State Fault Refusal :=
  .next (s.writeSource src.toNat encSel.toNat encDir)
/-- The new divisor counts from the next increase of H; the write itself issues no tick (R26, R27). -/
def State.writeEncDiv (s : State) (v : Word) : State := s.setRegN aBelEncDiv (max 0x10000 v.toNat)
def execBelEncDivWrite (v : Word) (s : State) : Host.Outcome State Fault Refusal := .next (s.writeEncDiv v)
/-- An episode that the lowered hysteresis meets begins at once (R56, R81). -/
def State.writeRevHyst (s : State) (v : Word) : State := (s.setRegN aBelRevHyst (max 1 (min 65535 v.toNat))).reversalCheck
def execBelRevHystWrite (v : Word) (s : State) : Host.Outcome State Fault Refusal := .next (s.writeRevHyst v)
/-- The next tick of an open stream falls the new period after the one before (R29). -/
def State.writeTimerPeriod (s : State) (v : Word) : State :=
  let old := max 1000 (s.regN aBelTimerPeriod)
  let new := max 1000 v.toNat
  (s.setRegN aBelTimerPeriod new).updBell (fun b => { b with timerDue := b.timerDue - old + new })
def execBelTimerPeriodWrite (v : Word) (s : State) : Host.Outcome State Fault Refusal := .next (s.writeTimerPeriod v)
def State.writeCloseMs (s : State) (v : Word) : State := s.setRegN aLdgCloseMs (max 1 (min 60000 v.toNat))
def execLdgCloseMsWrite (v : Word) (s : State) : Host.Outcome State Fault Refusal := .next (s.writeCloseMs v)

/-! ## Line waits (R34, R35, R85; 06 R277) -/

def State.camWait (s : State) : Nat := s.regN aBelCamWait
/-- The oldest tick of port `n` that has waited BEL_CAM_WAIT closes as missing; in the very ck in which the wait ends, at
the end of that ck (06 R323). -/
def execCameraLineWaitExpiry (n : Cam) (s : State) : Host.Outcome State Fault Refusal :=
  .next (match (s.cam n.val).open_.head? with
    | some t =>
      if t.at_ + s.camWait < s.now then s.closeMissing n.val t false
      else if t.at_ + s.camWait = s.now then s.setCam n.val { s.cam n.val with expires := true }
      else s
    | none => s)
/-- At the end of the ck, the ticks of port `n` whose wait ends close, where EXPIRY has come. -/
def State.endExpiry (s : State) (n : Nat) : State :=
  if (s.cam n).expires then
    (((s.cam n).open_.filter (fun t => decide (t.at_ + s.camWait ≤ s.now))).foldl (fun u t => u.closeMissing n t false)
      (s.setCam n { s.cam n with expires := false }))
  else s

/-! ## The band bell (R35, R38, R44–R49, R54, R75, R76; 06 R282, R286, R298) -/

/-- The next band whose bell is to fire. -/
def State.nextBell (s : State) : Option BandRec := s.bell.bands.find? (fun r => r.phase == .waiting)
def State.linesIn (s : State) (b : BandRec) : Bool :=
  s.bandCams.all (fun n => decide (b.ticks ≤ Tab.at_ 0 b.closed n))
/-- The bell of band `b` fires now (R35, R38; in a running group R598). -/
def State.bellDue (s : State) (b : BandRec) : Bool :=
  let waited := decide (b.last.at_ + s.camWait ≤ s.now)
  (waited || (!s.grp.running && s.linesIn b)) &&
  s.bell.lastIdleAt.all (fun t => decide (t + s.minPeriod ≤ s.now)) && s.bell.lastBandBellAt.all (fun t => decide (t < s.now))
/-- Ticks of the band that have found no line close as missing. -/
def State.closeTicks (s : State) (b : W48) : State :=
  (List.range 16).foldl (fun t n =>
    ((t.cam n).open_.filter (fun o => o.band == b)).foldl (fun u o => u.closeMissing n o false) t) s
/-- Records of bad lines and of the first band of a gap episode (06 R282, R286). -/
def State.gapRecords (s : State) (b : BandRec) : State :=
  (List.range s.ident.camPorts).foldl (fun t n =>
    let m := Tab.at_ (⟨0, 0, 0⟩ : Miss) b.miss n
    let t1 := t.badRecord b n
    if !(t.bandCams.contains n) then t1
    else
      let t2 := if m.count ≠ 0 && !(t.cam n).gap then
          t1.emit { err 0x0802 with loc := camLoc n, band := b.num.toNat, d0 := m.cause, d1 := m.first.toNat, hub := n / 8 }
        else t1
      t2.setCam n { t2.cam n with gap := m.count != 0 }) s
/-- Admission resumes at a bell of any kind once 512 places are free again (R76). -/
def State.ledgerResume (s : State) : State :=
  if s.ledger.full && s.ledger.store.length + 512 ≤ 4096 then
    let l := { s.ledger with full := false, resumed := some s.now }
    { s with ledger := l }
  else s
/-- The interval that the bell closes, and the one it opens (R54). -/
def State.nextInterval (s : State) : State := s.closeInterval.updBell (fun b => { b with interval := some 0 })
/-- An admission judged without a gate, by the gate, or refused by it with cause and shortfall (R44–R48). -/
inductive Judged where
  | ungated
  | opened (slack : Nat)
  | early (cause shortfall : Nat)
  deriving DecidableEq, Repr
def State.judge (s : State) (n : W48) : Judged :=
  match s.bell.admittedAt with
  | none => .ungated
  | some a =>
    let g := a + s.gatePeriod n + (s.bell.holdSince - s.holdAllow n)
    if g ≤ s.now then .opened (s.now - g)
    else .early (if a + s.gatePeriod n ≤ s.now then 2 else 1) (g - s.now)
/-- The gate's registers (R49). -/
def State.judgedRegs (s : State) (j : Judged) : State :=
  match s.bell.admittedAt, j with
  | some a, .opened d => (s.setRegN aBelLastPeriod (min (s.now - a) 0xFFFFFFFF)).minReg aBelMinSlack d
  | some a, .early _ _ => (((s.setRegN aBelLastPeriod (min (s.now - a) 0xFFFFFFFF)).count aBelOverrunCount 1).setBits aBelStatus 4)
  | _, _ => s
/-- The first admitted band at or after GTH_RESCALE_BAND makes the pending rescale active (06 R298). -/
def State.rescaleAt (s : State) (b : W48) : State :=
  (List.range s.ident.camPorts).foldl (fun t n =>
    match (t.cam n).armed with
    | some k => if w48le k.1 b then (t.setReg (aCam n + 0x10) k.2).setCam n { t.cam n with armed := none } else t
    | none => t) s
/-- Ck from the bell to the first layer: the broadcast delay in a running group (13 R599). -/
def State.layerDelay (s : State) : Nat := if s.grp.running then s.bcastLat else 0
/-- Band `b` is admitted now (R44; 06 R297, R298; 10 R486). -/
def State.admitBand (s : State) (b : BandRec) : State :=
  let img := s.bandImage b.num
  let qty := if s.bell.lastBandBellAt.isSome then s.regN aBelLastHold else 0
  let s1 := s.updBand b.num (fun r => { r with phase := .inFlight, gen := img.1, tag := img.2, holdQty := qty })
  let s2 := (s1.updBell (fun x => { x with admittedAt := some s.now, holdSince := 0 })).pushSend ⟨.band, b.num, s.now + s.layerDelay⟩
  let s3 := s2.rescaleAt b.num
  match s3.swapAt with
  | some k => if w48lt k b.num && !s3.load.windowOpen then s3.openWindow else s3
  | none => s3
/-- Band `b` is not admitted: its lines are discarded and its verdict is set (R45). -/
def State.shedBand (s : State) (b : BandRec) (v : Verdict) : State :=
  ((s.verdictWhere (fun r => r.num == b.num) v).dropLines b.num).finalise
/-- The verdict of a band `n` that the gate refuses: SHED_CONFIG where a changeover window's figures judge it (R45, R46; 10
R486). -/
def State.shedVerdict (s : State) (n : W48) (cause shortfall : Nat) : Verdict :=
  if s.inWindow n then ⟨4, (match s.load.staged with
    | some i => i.tag
    | none => 0), shortfall⟩ else ⟨1, cause, shortfall⟩
/-- The bell's own count (10 R488) and time. -/
def State.rang (s : State) (band : Bool) : State :=
  let w := b2n s.load.windowOpen
  (s.updLoad (fun l => { l with windowBells := l.windowBells + w })).updBell (fun b =>
    if band then { b with lastBellAt := some s.now, lastBandBellAt := some s.now }
    else { b with lastBellAt := some s.now, lastIdleAt := some s.now })
/-- The leader's BELL message, or the follower's own figures, to be compared with it (13 R599, R600). -/
def State.groupBell (s : State) (m : BellMsg) : State :=
  if s.grp.running = false then s
  else if s.grpLeader then s.sendBell m
  else
    let own := s.grp.ownBells ++ [m]
    { s with grp := { s.grp with ownBells := own } }
/-- The band that a START named ends the SHED_GROUP of an open stream (13 R616). -/
def State.groupStart (s : State) (b : W48) : State :=
  match s.grp.startBand with
  | some f =>
    let c := { s.contain with groupCode := none }
    let g := { s.grp with startBand := none }
    if w48le f b then { s with contain := c, grp := g } else s
  | none => s
/-- The bell of band `b0` fires. -/
def State.ringBand (s : State) (b0 : BandRec) : State :=
  let s1 := (s.groupStart b0.num).closeTicks b0.num
  let b := (s1.findBand b0.num).getD b0
  let s2 := ((s1.nextInterval.ledgerResume).gapRecords b)
  let hold := s1.bell.interval.getD 0
  let msg : Decision → Nat → BellMsg := fun d n =>
    ⟨.band, b.num, BitVec.ofNat 64 s.grpCk, (s2.bandImage b.num).1, hold, d, n⟩
  let s3 := (match s2.admitBlock with
    | some v => s2.shedBand b v
    | none =>
      let j := s2.judge b.num
      let t := s2.judgedRegs j
      (match j with
        | .early c n =>
          let v := t.shedVerdict b.num c n
          (t.shedBand b v).groupBell (msg (if v.status = 4 then .shedConfig else .shedOverrun c) n)
        | _ => (t.admitBand b).groupBell (msg .admitted 0)))
  (s3.rang true).maybeDrain
/-- The wait of band `b` ends in this very ck, and lines are still out: one that comes by the ck's end is in time
(06 R323). -/
def State.lastCk (s : State) (b : BandRec) : Bool := decide (b.last.at_ + s.camWait = s.now) && !(s.linesIn b)
def State.bandBell (s : State) : State :=
  match s.nextBell with
  | none => s
  | some b =>
    if s.bellDue b = false then s
    else if s.lastCk b then s.updBell (fun x => { x with atEnd := true })
    else s.ringBand b
/-- At the end of the ck, the band bell that waited for it fires. -/
def State.endBell (s : State) : State :=
  if s.bell.atEnd then
    let s1 := s.updBell (fun x => { x with atEnd := false })
    (match s1.nextBell with
      | some b => if s1.bellDue b then s1.ringBand b else s1
      | none => s1)
  else s
/-- The end of a ck at the cameras: expiries, then a band bell (06 R323). -/
def State.closeWaits (s : State) : State := ((List.range s.ident.camPorts).foldl (fun t n => t.endExpiry n) s).endBell
def execBandBell (s : State) : Host.Outcome State Fault Refusal := .next s.bandBell

/-! ## Idle and drain bells (R36, R37, R39, R41) -/

def State.idleMsg (s : State) (k : BellKind) : BellMsg :=
  ⟨k, s.bandNum, BitVec.ofNat 64 s.grpCk, (s.bandImage s.bandNum).1, s.bell.interval.getD 0, .admitted, 0⟩
/-- An idle bell while an admitted band is in the pipeline (R37). Its BAND_HDR's number is free: an idle bell has none (R36). -/
def State.idleBell (s : State) : State :=
  let last := max (s.bell.lastTickAt.getD 0) (s.bell.lastIdleAt.getD 0)
  let due := last + max (s.regN aBelIdlePeriod) s.minPeriod
  if (s.bell.phase == .running || s.bell.phase == .ending) && !s.inFlight.isEmpty && !s.sup.cut && decide (due ≤ s.now) then
    let n : W48 := s.free.setWidth 48
    let s1 := (s.ledgerResume.useFree.count aBelIdleCount 1).pushSend ⟨.idle, n, s.now + s.layerDelay⟩
    (s1.groupBell (s.idleMsg .idle)).rang false
  else s
def execIdleBell (s : State) : Host.Outcome State Fault Refusal := .next s.idleBell
/-- A drain bell, an idle bell behind END_OF_STREAM (R39; 06 R297); none once DRAIN_TIMEOUT has been raised. -/
def State.drainBell (s : State) : State :=
  if s.bell.phase == .draining && !s.sup.cut && !s.contain.active &&
      s.bell.lastBellAt.all (fun t => decide (t + s.minPeriod ≤ s.now)) then
    let n : W48 := s.free.setWidth 48
    let s1 := (s.ledgerResume.useFree.count aBelIdleCount 1).updBell (fun b => { b with drainBells := b.drainBells + 1 })
    ((s1.pushSend ⟨.idle, n, s.now + s.layerDelay⟩).groupBell (s.idleMsg .drain)).rang false
  else s
def execDrainBell (s : State) : Host.Outcome State Fault Refusal := .next s.drainBell
/-- END_OF_STREAM has left the Gatehouse of hub `h`: it is neither waiting nor among the tokens being sent. -/
def State.eosSent (s : State) (h : Nat) : Bool :=
  !((Tab.at_ [] s.bell.sendq h).any (fun x => x.kind == .eos)) &&
  !((Tab.at_ [] s.gth.out h).any (fun x => x.toks.any (fun k => k.1 == 6)))
/-- EOS has left every last-stage unit: it is sent on every hub, no band is in flight, and it has passed every sequencer
that has not halted (10 R489). -/
def State.eosThrough (s : State) : Bool :=
  s.bell.phase == .draining && s.inFlight.isEmpty &&
  (List.range s.ident.hubs).all (fun h => s.eosSent h) &&
  s.tiles.all (fun e => !e.2.bands || e.2.eosPast || e.2.phase == .drained || e.2.phase == .halted)
def execDrainComplete (s : State) : Host.Outcome State Fault Refusal := .next (if s.eosThrough then s.endDrain else s)
def State.depthBells (s : State) : Nat := match s.load.active with
  | some i => i.hdr.depthBells
  | none => 0
/-- DRAIN_TIMEOUT: of a drain, or of EOC in a changeover window (10 R488, R490). -/
def execDrainTimeout (s : State) : Host.Outcome State Fault Refusal :=
  let late := s.bell.phase == .draining && decide (s.depthBells + 2 ≤ s.bell.drainBells) && !s.eosThrough
  let lateEoc := s.load.windowOpen && decide (s.depthBells + 2 ≤ s.load.windowBells) && !s.eocThrough
  .next (if (late || lateEoc) && !s.contain.active then
    s.faultContain { err 0x0209 with loc := hubLoc 0 1, band := s.bandNum.toNat, gen := s.activeGen.toNat } else s)

/-! ## HOLD (R50–R55; 13 R601, R603) -/

def State.setFrozen (s : State) (v : Bool) (edges : List (Nat × Bool)) : State :=
  { s with hold := { s.hold with frozen := v, edges := edges } }
/-- An edge of the tree reaches the sequencers in the sixth ck (R50). A running group follows GHOLD_N instead. -/
def State.holdEdge (s : State) (up : Bool) : State :=
  match s.hold.edges with
  | (t, v) :: rest =>
    if v = up && t + 6 ≤ s.now then (if s.grp.running then s.setFrozen s.hold.frozen rest else s.setFrozen up rest) else s
  | [] => s
def execHoldFreeze (s : State) : Host.Outcome State Fault Refusal := .next (s.holdEdge true)
def execHoldResume (s : State) : Host.Outcome State Fault Refusal := .next (s.holdEdge false)
/-- Tiles that request a hold. -/
def State.holders (s : State) : List Nat := (s.tiles.filter (fun e => !e.2.holdReq.isEmpty)).map (fun e => e.1)
def execHoldTimeout (s : State) : Host.Outcome State Fault Refusal :=
  let wdog := s.regN aBelHoldWdog
  let due := if s.grp.running then s.grp.gholdLow && decide (s.grp.gholdSince + wdog ≤ s.now)
    else s.hold.tree && decide (s.hold.roseAt + wdog ≤ s.now)
  .next (if due && !s.holders.isEmpty then
    (s.holders.foldl (fun t k => t.tileFault k 0x0207 0 0 0) s).setBits aBelStatus 0x40 else s)

/-! ## The ledger writer (R61, R70–R76, R700) -/

/-- The Gatehouse of hub `h` has sent band `n` whole. -/
def State.bandSent (s : State) (h : Nat) (n : W48) : Bool :=
  !((Tab.at_ [] s.bell.sendq h).any (fun x => x.kind == .band && x.band == n)) &&
  !((Tab.at_ [] s.gth.out h).any (fun x => x.band == n))
/-- A header or an end of band `n` or an earlier one is among the tokens. -/
def marksBand (n : W48) (fs : List Flight) : Bool :=
  fs.any (fun f => (tagKind f.tok.tag == 4 || tagKind f.tok.tag == 5) && w48le (markerBand f.tok.payload) n && !markerIdle f.tok.payload)
/-- A sequencer has ended band `n` or a later one, or takes none, and no token of it is on its way through the tile. -/
def Tile.ended (t : Tile) (n : W48) : Bool :=
  (!t.bands || t.phase == .halted || t.eob.any (fun b => w48le n b)) &&
  t.io.stones.all (fun e => !marksBand n e.2) && t.io.q.all (fun e => t.bands || !marksBand n e.2)
/-- Nothing of band `n` or an earlier one is left in a Kiosk's hands. -/
def KskState.ended (k : KskState) (n : W48) : Bool :=
  !marksBand n (k.inbox.map (fun x => x.2)) && (List.range 16).all (fun c => match k.dataBand c with
    | some b => w48lt n b || k.bandDone c
    | none => true)
/-- Every stage has processed band `n` (R62). -/
def State.processed (s : State) (n : W48) : Bool :=
  (List.range s.ident.hubs).all (fun h => s.bandSent h n && (s.kiosk h).ended n) && s.tiles.all (fun e => e.2.ended n)
/-- The oldest band in flight leaves the last stage and is final (R61, R62). -/
def State.bandLeaves (s : State) (n : W48) : State :=
  match s.inFlight.head? with
  | some b =>
    if b.num = n && s.processed n then (s.verdictWhere (fun r => r.num == n) ⟨0, 0, b.holdQty⟩).finalise else s
  | none => s
def execBandLeavesLastStage (b : W48) (s : State) : Host.Outcome State Fault Refusal := .next (s.bandLeaves b)
/-- Runs open for LDG_CLOSE_MS close, not while LEDGER_FULL stops admission; those that passed the limit meanwhile wait for
the first final band after it (R72, R700). -/
def execLedgerRunTimeLimit (s : State) : Host.Outcome State Fault Refusal :=
  if s.ledger.full then .next s
  else
    let old : Run → Bool := fun r => decide (r.openedAt + s.closeLimit ≤ s.now) &&
      !(s.ledger.resumed.any (fun t => decide (r.openedAt + s.closeLimit ≤ t)))
    let gone := s.ledger.runs.filter old
    let rest := s.ledger.runs.filter (fun r => !(old r))
    let l := { s.ledger with runs := rest }
    .next (({ s with ledger := l } : State).closeRuns (gone.map (fun r => (r, true))) []).checkFull
/-- Every open run closes after the next final band (Table 1.7). -/
def execCloseNow (s : State) : Host.Outcome State Fault Refusal :=
  let l := { s.ledger with closeWanted := true }
  .next { s with ledger := l }
/-- The oldest entry of the holding store enters the ledger queue once a place is free (R74). -/
def execLedgerEntryEnqueue (s : State) : Host.Outcome State Fault Refusal :=
  match s.ledger.store with
  | [] => .next s
  | e :: rest =>
    if s.pqDepth qLedger ≤ (s.pq qLedger).occ then .next s
    else
      let l := { s.ledger with store := rest }
      .next (({ s with ledger := l } : State).offer qLedger ⟨e, 0, true, true, 0, 0⟩).1

end Sys2Proof.Machine
end

