-- ==== Sys2Proof/Machine/PrmOps.lean ====
section
/-!
DEFINITION. Promenade ports (13 R577–R590): flits, the replay buffer, the receive buffer, the route table, link loss.
-/
namespace Sys2Proof.Machine

/-! ## Flits (R578) -/

def Flit.word0 (f : Flit) : Nat := f.ftype.toNat * 2 ^ 44 + f.seq.toNat * 2 ^ 32 + f.stamp.toNat * 2 ^ 12 + f.ack.toNat
def flitGood (f : Flit) : Bool := f.crc == flitCrc f.ftype f.seq f.stamp f.ack f.body
/-- BODY of a token flit: tag, payload and CRC-16 (R143). -/
def tokenBody (t : Token) : BitVec 560 := BitVec.ofNat 560 (t.tag.toNat + t.payload.toNat * 2 ^ 32 + t.crc.toNat * 2 ^ 544)
def bodyToken (b : BitVec 560) : Token := ⟨b.extractLsb' 0 32, b.extractLsb' 32 512, b.extractLsb' 544 16⟩

/-! ## Ports -/

def prmLoc (p : Nat) : Nat := 5 * 2 ^ 24 + p * 2 ^ 16
/-- The active image's GROUP section. -/
def State.groupSec (s : State) : Option GroupSec := s.load.active.bind (fun i => i.group)
/-- Ports of the image's rings (R592). -/
def State.ringPorts (s : State) : List Nat := match s.groupSec with
  | some g => List.range (min s.ident.prmPorts (2 * g.rings))
  | none => []

/-- Send a NAK naming the first SEQ not received; it carries the last SEQ sent, as an idle flit does. -/
def State.sendNak (s : State) (p : Nat) : State :=
  let l := s.link p
  s.send (.prmFlit p (mkFlit 3 (l.txSeq - 1) (BitVec.ofNat 20 s.grpCk) (l.rxNext - 1) (l.rxNext.setWidth 560)))
/-- Resend from SEQ `n` on, counting each flit in PRM_RETRIES. -/
def State.resendFrom (s : State) (p : Nat) (n : BitVec 12) : State :=
  let fs := (s.link p).replay.dropWhile (fun f => f.seq != n)
  fs.foldl (fun t f => (t.count (aPort p + 0x10) 1).send (.prmFlit p f)) s
/-- A token flit, counted in PRM_FLITS_TX. -/
def State.sendToken (s : State) (p : Nat) (t : Token) : State := (s.sendFlit p 1 (tokenBody t)).count (aPort p + 0x1C) 1

/-! ## Receiving (R579–R581, R585, R588) -/

/-- A token of a good flit in order: its CRC-16, the room for it, and whether it is late. -/
def State.takeToken (s : State) (p : Nat) (f : Flit) : State :=
  let t := bodyToken f.body
  let l := s.link p
  if tokenGood t = false then s.faultContain { err 0x0206 with loc := prmLoc p, d0 := p, d1 := t.tag.toNat, hub := p / 2 }
  else if 8192 ≤ l.rxBuf.length then s.faultContain { err 0x0203 with loc := prmLoc p, d0 := p, d1 := 8192, d2 := 8192, hub := p / 2 }
  else
    let age := (BitVec.ofNat 20 s.grpCk - f.stamp).toNat
    s.setLink p { l with rxBuf := l.rxBuf ++ [⟨f.stamp, f.seq, decide (s.prmLat < age), t⟩] }
/-- Pass a control message on until its hops are used up: out of the other port of its ring (R606). -/
def State.forwardMsg (s : State) (p : Nat) (b : BitVec 560) : State :=
  let hops := b.extractLsb' 16 8
  if hops = 0 || !s.grpMode then s
  else s.sendFlit (p ^^^ 1) 2 ((b &&& ~~~((0xFF#560) <<< 16)) ||| ((hops - 1).setWidth 560 <<< 16))
/-- A flit whose CRC is good: the link is up, its ACK frees the replay buffer, and a sequenced flit is taken in SEQ order. What
it carries is ignored in independent mode (R620; notes/assumptions/68.md). -/
def State.goodFlit (s : State) (p : Nat) (f : Flit) : State :=
  let l := s.link p
  let acked := l.replay.dropWhile (fun g => decide ((f.ack - g.seq).toNat < 2048))
  let s1 := (s.setLink p { l with lastGood := s.now, up := true, replay := acked }).setReg (aPort p + 4) 0x8000000F
  if f.ftype = 3 then s1.resendFrom p (f.body.extractLsb' 0 12)
  else if f.ftype ≠ 1 && f.ftype ≠ 2 then s1
  else if f.seq ≠ l.rxNext then s1
  else
    let s2 := s1.setLink p { s1.link p with rxNext := l.rxNext + 1 }
    if f.ftype ≠ 1 then s2.forwardMsg p f.body else if s.grpMode then s2.takeToken p f else s2
def State.receiveFlit (s : State) (p : Nat) (f : Flit) : State :=
  if s.prmOn p = false then s
  else if flitGood f then s.goodFlit p f
  else (s.count (aPort p + 0x14) 1).sendNak p

/-! ## Release (R585, R586, R588, R590) -/

/-- The route-table entry of a token (Table 13.2). -/
def State.routeEntry (s : State) (tag : Word) : Option DWord :=
  match s.groupSec with
  | some g => g.routes.find? (fun e => e.toNat % 1024 == (tagRoute tag).toNat && bits e.toNat 10 2 == (tagGen tag).toNat)
  | none => none
/-- The token under another route, with a new CRC. -/
def reroute (t : Token) (r : Nat) : Token :=
  mkToken (mkTag (tagGen t.tag) (tagKind t.tag) (tagFmt t.tag) (BitVec.ofNat 10 r) (tagLast t.tag) (tagIdx t.tag)) t.payload
/-- The delivering gate of an entry: on the rim that faces the hub of its die. -/
def entryGate (e : Nat) : Nat := bits e 26 1 * 1536 + bits e 32 8 % 48 * 32 + (if bits e 26 1 = 0 then 0 else 31)
/-- The gate takes the token as OUT_ROUTE now: it has power, room, and a credit of its route. -/
def State.gateTakes (s : State) (e : Nat) (gen : BitVec 2) : Bool :=
  let t := s.tile (entryGate e)
  let r := BitVec.ofNat 10 (bits e 16 10)
  s.tileOn (entryGate e) && !(t.stoneFull 4 s.now) &&
  (!(t.io.sw.any (fun x => x.gen == gen && x.route == r)) || t.creditsFree gen r != 0)
/-- Send the token through its gate under a credit of the route (R136). -/
def State.deliverToken (s : State) (e : Nat) (t : Token) : State :=
  let r := BitVec.ofNat 10 (bits e 16 10)
  let gen := tagGen t.tag
  let gate := entryGate e
  s.onTile gate (fun x =>
    let listed := x.io.sw.any (fun y => y.gen == gen && y.route == r)
    let org := if listed then some (gate, r) else none
    let key := routeKey gen r
    let used := if listed then Tab.set_ 0 x.io.credits key (Tab.at_ 0 x.io.credits key + 1) else x.io.credits
    let f : Flight := ⟨reroute t r.toNat, s.now, 2, none, org⟩
    { x with io := { x.io with credits := used, stones := Tab.set_ [] x.io.stones 4 (Tab.at_ [] x.io.stones 4 ++ [f]) } })
/-- The token's ck has come: STAMP + PRM_LAT, modulo 2^20. -/
def State.tokenDue (s : State) (x : RxTok) : Bool :=
  x.late || decide (s.prmLat ≤ (BitVec.ofNat 20 s.grpCk - x.stamp).toNat)
/-- A late token, one with no route, or one that the gate can take. -/
def State.mayRelease (s : State) (x : RxTok) : Bool :=
  x.late || (match s.routeEntry x.tok.tag with
    | none => true
    | some e => bits e.toNat 12 1 == 0 || s.gateTakes e.toNat (tagGen x.tok.tag))
/-- The first due token that can go; tokens of one route keep their order. -/
def State.pickToken (s : State) : List RxTok → List RxTok → Option (RxTok × List RxTok)
  | _, [] => none
  | seen, x :: xs =>
    let behind := seen.any (fun y => tagGen y.tok.tag == tagGen x.tok.tag && tagRoute y.tok.tag == tagRoute x.tok.tag)
    if s.tokenDue x && !behind && s.mayRelease x then some (x, seen ++ xs) else s.pickToken (seen ++ [x]) xs
/-- A late token faults the group (R585): its details carry the SEQ; resends and waiting ck of the sender are not known here. -/
def State.lateToken (s : State) (p : Nat) (x : RxTok) : State :=
  let d1 := s.free.toNat % 2 ^ 64
  let d2 := s.useFree.free.toNat % 2 ^ 64
  ((s.useFree.useFree).count (aPort p + 0x18) 1).faultContain
    { err 0x0503 with loc := prmLoc p, d0 := x.seq.toNat, d1 := d1, d2 := d2, hub := p / 2 }
def State.releaseToken (s : State) (p : Nat) : State :=
  if s.prmOn p = false then s
  else match s.pickToken [] (s.link p).rxBuf with
  | none => s
  | some (x, rest) =>
    let s1 := s.setLink p { s.link p with rxBuf := rest }
    if x.late then s1.lateToken p x
    else match s1.routeEntry x.tok.tag with
    | none => s1.faultContain { err 0x0201 with loc := prmLoc p, d0 := p, d1 := x.tok.tag.toNat, hub := p / 2 }
    | some e =>
      let n := e.toNat
      let s2 := if bits n 12 1 = 1 then s1.deliverToken n x.tok else s1
      if bits n 13 1 = 1 && s2.prmOn (bits n 14 2) then s2.sendToken (bits n 14 2) (reroute x.tok (bits n 40 10)) else s2

/-! ## Link loss (R581, R614, R618) -/

/-- The link of port `p` goes down: one record an episode, and the fault of a running group on a ring port. `asked` marks a
recalibration. -/
def State.linkDown (s : State) (p : Nat) (asked : Bool) : State :=
  if (s.link p).up = false then s
  else
    let s1 := (s.setLink p { s.link p with up := false }).setReg (aPort p + 4) 0
    let ring := s1.ringPorts.contains p
    let g := { s1.grp with linkWasDown := s1.grp.linkWasDown || ring }
    let s2 := ({ s1 with grp := g } : State).emit { err 0x0506 with loc := prmLoc p, d0 := b2n asked, hub := p / 2 }
    if s2.grp.running && ring then s2.startContain 0x0506 else s2

end Sys2Proof.Machine
end

