-- ==== Sys2Proof/Machine/Groups.lean ====
section
/-!
DEFINITION. Sliced groups (13 R584, R594–R620): forming, ticks, bells and holds across the group, control messages, group
faults, independent mode.
-/
namespace Sys2Proof.Machine

def execFlitReceive (p : Port) (f : Flit) (s : State) : Host.Outcome State Fault Refusal := .next (s.receiveFlit p.val f)
def execPromenadeTokenRelease (p : Port) (s : State) : Host.Outcome State Fault Refusal := .next (s.releaseToken p.val)
/-- 256 ck without a good flit (R581). -/
def execPrmLinkDown (p : Port) (s : State) : Host.Outcome State Fault Refusal :=
  .next (if (s.link p.val).lastGood + 256 ≤ s.now then s.linkDown p.val false else s)
/-- RECAL takes the link of a ring port down while the group runs; otherwise it costs nothing (R618). -/
def State.recal (s : State) (p : Nat) : State :=
  if s.prmPresent p && s.grp.running && s.ringPorts.contains p then s.linkDown p true else s
def execRecal (p : Port) (s : State) : Host.Outcome State Fault Refusal := .next (s.recal p.val)

def State.updGrp (s : State) (f : GroupState → GroupState) : State := { s with grp := f s.grp }
/-- PRM_GRP_STATE[3:0]. -/
def State.grpPhase (s : State) : Nat := fld (s.reg aGrpState) 0 4
/-- Control messages reach the device (R620). -/
def State.hearsMsg (s : State) : Bool := s.grpMode && s.ident.prmPorts != 0
def State.isFollower (s : State) : Bool := s.grp.running && !s.grpLeader && s.hearsMsg

/-! ## PTP (R611–R613) -/

/-- A measured offset begins or ends an episode above 1 µs (R613). -/
def State.offsetEpisode (s : State) (ns : Int) : State :=
  let big := decide (1000 < ns.natAbs)
  let s1 : State := { s with ptp := { s.ptp with episode := big } }
  if big && !s.ptp.episode then s1.emit { err 0x0508 with d0 := wrap 64 ns } else s1
/-- PRM_PTP_OFFSET of a follower: its own PTP time at the message's GRP_CK minus the leader's (R611). -/
def State.ptpMessage (s : State) (ck time : Nat) : State :=
  if s.isFollower = false then s
  else
    let own := (s.ptpAt (s.now - (s.grpCk - ck))).toNat
    let off : Int := (own : Int) - (time : Int)
    (s.setRegN aPtpOffset (wrap 32 (clampS 32 off))).offsetEpisode off
def execMsgPtp (grpCk : DWord) (time : DWord) (s : State) : Host.Outcome State Fault Refusal :=
  .next (s.ptpMessage grpCk.toNat time.toNat)
/-- Once per second the leader sends PTP (R611). -/
def State.ptpBroadcast (s : State) : State :=
  if s.grp.running && s.grpLeader && s.grp.lastPtp.all (fun t => decide (t + msCk 1000 ≤ s.now)) then
    (s.sendMsg .ptp [s.grpCk, s.ptpNs.toNat]).updGrp (fun g => { g with lastPtp := some s.now })
  else s
def execPtpBroadcastTimer (s : State) : Host.Outcome State Fault Refusal := .next s.ptpBroadcast

/-! ## Group faults (R614–R616) -/

/-- A fault that only a running group has: its record, then the group fault. -/
def State.groupFault (s : State) (e : ErrInfo) : State := if s.grp.running then s.faultContain e else s
def State.bellMismatch (s : State) (mask : Nat) : State :=
  if s.grp.running then
    (s.count aBellMismatch 1).faultContain { err 0x0502 with loc := hubLoc 0 1, band := s.bandNum.toNat, d0 := mask }
  else s
/-- FAULT: a record and the group fault, where the member has not entered one already; a lower slot's fault learned of in the
same ck gives its code (R614, R615). -/
def State.remoteFault (s : State) (code slot : Nat) : State :=
  if !(s.grp.running && s.hearsMsg) then s
  else
    if s.contain.active then s.lowerSlot code slot
    else (s.emit { err 0x0507 with loc := hubLoc 0 1, d0 := slot * 2 ^ 16 + code }).containBy code slot
def execMsgFault (code : BitVec 16) (m : Member) (_grpCk : DWord) (_holding : Bool) (s : State) : Host.Outcome State Fault Refusal :=
  .next (s.remoteFault code.toNat m.val)
/-- A control message that does not arrive within 2 · PRM_BCAST_LAT of its send (R606). A BELL message is missed by the own
bell that it should confirm; of the others only the sender's ck, which the command speaks for, tells. -/
def State.messageTimeout (s : State) (kind : Nat) : State :=
  let due := if kind = 7 then s.grp.ownBells.head?.any (fun m => decide (m.grpCk.toNat + 2 * s.bcastLat ≤ s.grpCk))
    else 1 ≤ kind && kind ≤ 12
  if due && s.hearsMsg then s.groupFault { err 0x0503 with loc := hubLoc 0 1, d0 := kind } else s
def execControlMessageTimeout (kind : Fin 16) (s : State) : Host.Outcome State Fault Refusal := .next (s.messageTimeout kind.val)

/-! ## Line ticks (R594–R597) -/

/-- The stamp of a tick that was applied before its TICK message takes the message's values (R276, R596). -/
def State.fillStamp (s : State) (old : W48) (m : TickMsg) : State :=
  let fix : Stamp → Stamp := fun x => if x.line = old then { x with line := m.line, pos := m.pos } else x
  let s1 : State := { s with gth := { s.gth with stamps := s.gth.stamps.map fix } }
  s1.updBell (fun b => { b with bands := b.bands.map (fun r => { r with first := fix r.first, last := fix r.last }) })
/-- TICK: H moves the strobes; the values wait for their pulse, or fill the stamp of a tick already applied. -/
def State.tickMessage (s : State) (m : TickMsg) : State :=
  if s.isFollower = false then s
  else
    let s1 := (s.updGrp (fun g => { g with hwm := m.hwm })).strobesAll
    match s1.grp.pulses.find? (fun p => p.slot == m.slot.toNat && p.applied.isSome) with
    | some p => ((p.applied.map (fun l => s1.fillStamp l m)).getD s1).updGrp (fun g =>
        { g with pulses := g.pulses.filter (fun q => q.slot != p.slot) })
    | none => s1.updGrp (fun g => { g with ticks := g.ticks ++ [m] })
def execMsgTick (slot : DWord) (line pos hwm : W48) (s : State) : Host.Outcome State Fault Refusal :=
  .next (s.tickMessage ⟨slot, line, pos, hwm, s.now⟩)
/-- A rising edge of BELL_IN gives the slot at or below its ck (R595). -/
def execBellInEdge (s : State) : Host.Outcome State Fault Refusal :=
  .next (if s.isFollower && s.srcSel == 1 then
    s.updGrp (fun g => { g with pulses := g.pulses ++ [⟨s.grpCk / 64 * 64, s.now, none⟩] }) else s)
/-- A tick that arrives is one of the stream: none is applied after the last tick of its last band, though the leader had it
on its way (01 R41; R604). -/
def State.tickFits (s : State) : Bool :=
  s.bell.phase == .running || (s.bell.phase == .ending && (match s.assembling with
    | some b => decide (b.ticks < s.bandLines)
    | none => s.bell.lastBand == some s.bandNum))
/-- The oldest pulse whose 64 ck have passed is applied (R594), with the TICK message's values where it has come. -/
def State.groupTick (s : State) : State :=
  match s.grp.pulses.find? (fun p => p.applied.isNone) with
  | none => s
  | some p =>
    if s.grpCk < p.slot + 64 || !s.grp.running then s
    else if s.tickFits = false then
      s.updGrp (fun g => { g with pulses := g.pulses.filter (fun q => q.slot != p.slot),
                                  ticks := g.ticks.filter (fun m => m.slot.toNat != p.slot) })
    else
      match s.grp.ticks.find? (fun m => m.slot.toNat == p.slot) with
      | some m =>
        let s1 := s.updGrp (fun g => { g with pulses := g.pulses.filter (fun q => q.slot != p.slot),
                                              ticks := g.ticks.filter (fun x => x.slot != m.slot) })
        s1.applyTick m.line m.pos
      | none =>
        let line := s.lineNum
        let s1 := s.updGrp (fun g => { g with pulses := g.pulses.map (fun q =>
          if q.slot = p.slot then { q with applied := some line } else q) })
        s1.applyTick line 0
def execGroupTickApply (s : State) : Host.Outcome State Fault Refusal := .next s.groupTick
/-- A pulse without its TICK message, or a message without its pulse, for 2 · PRM_BCAST_LAT ck (R597). -/
def State.tickMismatch (s : State) : State :=
  let late : Nat → Bool := fun t => decide (t + 2 * s.bcastLat ≤ s.now)
  let lonePulse : Pulse → Bool := fun p => late p.at_ && !(s.grp.ticks.any (fun m => m.slot.toNat == p.slot))
  let loneTick : TickMsg → Bool := fun m => late m.at_ && !(s.grp.pulses.any (fun p => p.slot == m.slot.toNat))
  if s.grp.running && (s.grp.pulses.any lonePulse || s.grp.ticks.any loneTick) then
    (s.updGrp (fun g => { g with pulses := g.pulses.filter (fun p => !(lonePulse p)),
                                 ticks := g.ticks.filter (fun m => !(loneTick m)) })).bellMismatch 0
  else s
def execTickMismatchTimeout (s : State) : Host.Outcome State Fault Refusal := .next s.tickMismatch

/-! ## Bells (R599, R600) -/

/-- The fields that a follower computes itself and that differ, in Table 13.4 order. -/
def bellDiff (own m : BellMsg) : Nat :=
  b2n (own.kind != m.kind) + 2 * b2n (own.band != m.band) + 8 * b2n (own.gen != m.gen) + 16 * b2n (own.holdCk != m.holdCk) +
  32 * b2n (own.kind == .band && own.decision != m.decision)
/-- A reversal decision is taken as the leader sends it: its band is ledgered REVERSED with the depth (R599, R600). -/
def State.followReversal (s : State) (m : BellMsg) : State :=
  let v : Verdict := ⟨7, 0, m.shortfall⟩
  match s.assembling with
  | some b => if b.num = m.band then s.dropAssembly v else (s.verdictWhere (fun r => r.num == m.band) v).finalise
  | none => (s.verdictWhere (fun r => r.num == m.band) v).finalise
def State.bellMessage (s : State) (m : BellMsg) : State :=
  if s.isFollower = false then s
  else if m.decision = .reversed then s.followReversal m
  else match s.grp.ownBells with
  | [] => s.bellMismatch 0x3B
  | own :: rest =>
    let s1 := s.updGrp (fun g => { g with ownBells := rest })
    let d := bellDiff own m
    if d = 0 then s1 else s1.bellMismatch d
def execMsgBell (m : BellMsg) (s : State) : Host.Outcome State Fault Refusal := .next (s.bellMessage m)

/-! ## Holds (R601, R603) -/

/-- The value of the hold tree six ck after its requests (R50, R601). -/
def State.treeNow (s : State) : Bool :=
  match (s.hold.edges.filter (fun e => decide (e.1 + 6 ≤ s.now))).getLast?, s.hold.edges.head? with
  | some e, _ => e.2
  | none, some e => !e.2
  | none, none => s.hold.tree
/-- At a slot boundary the member drives or releases GHOLD_N (R601). -/
def State.driveGhold (s : State) : State :=
  if s.grp.running && s.grpCk % 64 == 0 then s.updGrp (fun g => { g with pullLow := s.treeNow }) else s
/-- An edge of GHOLD_N seen in this ck belongs to the slot boundary at or below it. -/
def State.gholdEdge (s : State) (low : Bool) : State :=
  if s.grp.running && s.hearsMsg && s.grp.gholdLow != low then
    s.updGrp (fun g => { g with gholdLow := low, gholdEdges := g.gholdEdges ++ [(s.grpCk / 64 * 64, low)],
                                gholdSince := if low then s.now else g.gholdSince })
  else s
def execGholdNFall (s : State) : Host.Outcome State Fault Refusal := .next (s.gholdEdge true)
def execGholdNRise (s : State) : Host.Outcome State Fault Refusal := .next (s.gholdEdge false)
/-- 64 ck after the boundary every member freezes or resumes. -/
def State.gholdApply (s : State) (low : Bool) : State :=
  match s.grp.gholdEdges with
  | (b, v) :: rest =>
    if v = low && b + 64 ≤ s.grpCk then (s.setFrozen low s.hold.edges).updGrp (fun g => { g with gholdEdges := rest }) else s
  | [] => s
def execGroupFreeze (s : State) : Host.Outcome State Fault Refusal := .next (s.gholdApply true)
def execGroupResume (s : State) : Host.Outcome State Fault Refusal := .next (s.gholdApply false)
/-- GHOLD_N stays low past the watchdog and PRM_BCAST_LAT more, and no member has reported a request (R603). -/
def State.gholdStuck (s : State) : State :=
  if s.grp.running && s.grpLeader && s.grp.gholdLow && !s.holdWanted && !s.contain.active &&
      decide (s.grp.gholdSince + s.regN aBelHoldWdog + s.bcastLat ≤ s.now) then
    s.faultContain { err 0x0509 with loc := hubLoc 0 1, band := s.bandNum.toNat }
  else s
def execGholdStuck (s : State) : Host.Outcome State Fault Refusal := .next s.gholdStuck

/-! ## Forming (R584, R607–R610, R617) -/

/-- Own forming fields (Table 13.5). The two pin delays are measurements: free values. -/
def State.ownHello (s : State) : HelloFields :=
  let sec := s.groupSec
  let slot := match sec with
    | some g => g.slot
    | none => 0
  let digest := BitVec.ofNat 256 (beNat ((List.range 8).flatMap (fun j => leBytes 4 (s.regN (aHubActiveDigest + 4 * j)))))
  { groupDigest := match sec with
      | some g => g.groupDigest
      | none => 0
    activeDigest := digest
    slotDigest := match sec with
      | some g => g.slotDigest.getD slot 0
      | none => 0
    size := match sec with
      | some g => g.size
      | none => 1
    slot := slot, peerBad := false, fw := s.boot.fw, ttDigest := s.ident.ttDigest, part := s.ident.part,
    bandLines := s.reg aBelBandLines, budget := s.reg aBelBudget, scrub := s.reg aBelScrubCk, holdAllow := s.reg aBelHoldAllow,
    camWait := s.reg aBelCamWait, idlePeriod := s.reg aBelIdlePeriod, holdWdog := s.reg aBelHoldWdog, gen := s.activeGen,
    ptpLocked := s.ptp.locked, ptpDomain := Config.ptpDomain, ptpOffset := s.ptp.offset, clockDrift := false,
    linkLat := s.ringPorts.foldl (fun m p => max m (s.regN (aPort p + 8))) 0,
    bellInDelay := s.free.toNat % 256, gholdDelay := s.free.toNat / 256 % 256,
    streamOpen := s.runBit, loadBusy := 1 ≤ s.loadState && s.loadState ≤ 4,
    portDown := s.ringPorts.any (fun p => !(s.link p).up), bandNum := s.bandNum, lineNum := s.lineNum }
/-- The fields as a message carries them. -/
def helloNumbers (f : HelloFields) : List Nat :=
  [f.groupDigest.toNat, f.activeDigest.toNat, f.slotDigest.toNat, f.size, f.slot, b2n f.peerBad, f.fw.toNat, f.ttDigest.toNat,
   f.part.toNat] ++
  [f.bandLines.toNat, f.budget.toNat, f.scrub.toNat, f.holdAllow.toNat, f.camWait.toNat, f.idlePeriod.toNat, f.holdWdog.toNat,
   f.gen.toNat, b2n f.ptpLocked, f.ptpDomain.toNat, wrap 64 f.ptpOffset] ++
  [b2n f.clockDrift, f.linkLat, f.bellInDelay, f.gholdDelay, b2n f.streamOpen, b2n f.loadBusy, b2n f.portDown,
   f.bandNum.toNat, f.lineNum.toNat]
/-- Forming starts on this member: it sends HELLO (R607). -/
def State.startForming (s : State) : State :=
  let h := s.ownHello
  let s1 := s.useFree.setReg aGrpState (BitVec.ofNat 32 (b2n (h.slot = 0) * 2 ^ 24 + h.size % 256 * 2 ^ 16 + h.slot % 256 * 2 ^ 8 + 1))
  let s2 := (List.range 8).foldl (fun t k => t.setRegN (aFormDiff k) 0) s1
  let links := Tab.mapV Link.init (fun _ l => { l with trips := [] }) s2.grp.links
  (s2.updGrp (fun g => { g with hello := [], formAt := some s.now, links := links })).sendMsg .hello (helloNumbers h)
/-- FORM: not in independent mode, and not while the group runs or forms already. -/
def State.form (s : State) : State :=
  let ph := s.grpPhase
  if !s.hearsMsg || ph == 4 || ph == 1 || ph == 2 then s else s.startForming
def execGrpForm (s : State) : Host.Outcome State Fault Refusal := .next s.form

/-- Mask of Table 13.5 for a member's fields beside the leader's. A stream that a group fault left open is not held against
its re-forming (R616, R617). -/
def formMask (own f : HelloFields) (dup bellOut again : Bool) : Nat :=
  2 * b2n (f.groupDigest != own.groupDigest) + 4 * b2n (f.activeDigest != f.slotDigest) + 8 * b2n (f.size != own.size) +
  16 * b2n (dup || f.peerBad || decide (f.size ≤ f.slot)) + 32 * b2n (f.fw != own.fw) + 64 * b2n (f.ttDigest != own.ttDigest) +
  128 * b2n (f.part != own.part) +
  256 * b2n (f.bandLines != own.bandLines || f.budget != own.budget || f.scrub != own.scrub || f.holdAllow != own.holdAllow ||
    f.camWait != own.camWait || f.idlePeriod != own.idlePeriod || f.holdWdog != own.holdWdog) +
  512 * b2n (f.gen != own.gen) +
  1024 * b2n (!f.ptpLocked || f.ptpDomain != own.ptpDomain || decide (10000 < f.ptpOffset.natAbs)) + 2048 * b2n f.clockDrift +
  4096 * b2n (!bellOut || decide (445 < f.linkLat) || decide (48 < f.bellInDelay) || decide (48 < f.gholdDelay)) +
  8192 * b2n ((f.streamOpen && !again) || f.loadBusy || f.portDown)
/-- Mask of slot `k` at the leader; its own fields are compared with themselves. -/
def State.maskOf (s : State) (k : Nat) : Nat :=
  let own := s.ownHello
  let again := s.contain.groupCode.isSome
  if s.grpSize ≤ k then 0
  else if k = s.grpSlot then formMask own { own with bellInDelay := 0, gholdDelay := 0 } false true again
  else match s.grp.hello.find? (fun e => e.1 == k) with
  | none => 1
  | some e =>
    let dup := e.2.slot == own.slot || s.grp.hello.any (fun x => x.1 != k && x.2.slot == e.2.slot)
    formMask own e.2 dup s.bellOutEn again
def State.masks (s : State) : List Nat := (List.range 8).map s.maskOf
/-- Pack four 16-bit masks (R608). -/
def packMasks (l : List Nat) : Nat := l.foldr (fun m acc => m % 65536 + 65536 * acc) 0
/-- The group is refused (R608). -/
def State.refused (s : State) (ms : List Nat) : State :=
  ((s.setGrpState 6).updGrp (fun g => { g with formAt := none })).emit
    { err 0x0501 with loc := hubLoc 0 1, d0 := packMasks (ms.take 4), d1 := packMasks ((ms.drop 4).take 4) }
/-- Largest of the numbers in the wrapping order (R609, 01 R32). -/
def largest (l : List W48) (x : W48) : W48 := l.foldl (fun m y => if w48lt m y then y else m) x
/-- FORMED: PRM_LAT, GRP_CK, and the band and line numbers (R609). -/
def State.formed (s : State) (lat ck : Nat) (band line : W48) (bellIn ghold : Nat) : State :=
  let s1 := s.setRegN aGrpLat (lat % 65536 * 65536 + bellIn % 256 * 256 + ghold % 256)
  let s2 := ((s1.setReg48 aBelBandNum band).setReg48 aBelLineNum line).setGrpState 3
  s2.updGrp (fun g => { g with formAt := none, ckBase := (ck : Int) - (s.now : Int), pulses := [], ticks := [], ownBells := [],
                               armed := [], gholdLow := false, gholdEdges := [], pullLow := false, outSlot := none,
                               linkWasDown := false })
/-- START of a stream that is open already: its named band ends the SHED_GROUP (R616, R617). -/
def State.restart (s : State) (first : W48) : State :=
  (s.setGrpState 4).updGrp (fun g => { g with running := true, startBand := some first })
/-- The leader ends forming (R607–R609), and sends START at once where a group fault left its stream open (R617). -/
def State.endForming (s : State) (late : Bool) : State :=
  let need := s.ringPorts.any (fun p => decide ((s.link p).trips.length < 16))
  let ms0 := s.masks
  let ms := if late && s.grpPhase = 2 && need then ms0.set s.grpSlot (ms0.getD s.grpSlot 0 ||| 0x1000) else ms0
  let s1 := (List.range 8).foldl (fun t k => t.setRegN (aFormDiff k) (ms.getD k 0)) s
  if ms.any (fun m => m != 0) then (s1.sendMsg .refused ms).refused ms
  else
    let ds := s.ringPorts.map (fun p => s.regN (aPort p + 8)) ++ s.grp.hello.map (fun e => e.2.linkLat)
    let lat := ds.foldl (fun m d => max m (3 * d + 64)) 900
    let band := largest (s.grp.hello.map (fun e => e.2.bandNum)) s.bandNum
    let line := largest (s.grp.hello.map (fun e => e.2.lineNum)) s.lineNum
    let bellIn := s.grp.hello.foldl (fun m e => max m e.2.bellInDelay) 0
    let ghold := s.grp.hello.foldl (fun m e => max m e.2.gholdDelay) 0
    let s2 := (s1.sendMsg .formed [lat, s.grpCk, band.toNat, line.toNat]).formed lat s.grpCk band line bellIn ghold
    if s2.runBit then
      let first := s2.bandNum + 1
      (s2.sendMsg .start [first.toNat]).restart first
    else s2
/-- The leader measures its links: 16 echoes for each ring port (R584). -/
def State.calibrate (s : State) : State :=
  (s.ringPorts.foldl (fun t p => (List.range 16).foldl (fun u _ => u.sendMsg .cal [u.grpCk, p]) t) s).setGrpState 2
/-- With every HELLO in, the leader calibrates, or ends forming where no ring link was down since the last calibration. -/
def State.helloIn (s : State) : State :=
  if (List.range s.grpSize).all (fun k => k == s.grpSlot || s.grp.hello.any (fun e => e.1 == k)) then
    (if s.grp.linkWasDown || s.contain.groupCode.isNone then s.calibrate else s.endForming false)
  else s
/-- The neighbours on the rings as R592 wires them. -/
def State.notePeer (s : State) (m : Nat) : State :=
  let size := max 1 s.grpSize
  s.ringPorts.foldl (fun t p =>
    let peer := if p % 2 = 0 then (s.grpSlot + 1) % size else (s.grpSlot + size - 1) % size
    if peer = m then t.setRegN (aPort p + 0xC) ((p ^^^ 1) * 256 + m) else t) s
/-- HELLO of member `m`; a follower that a group fault stopped answers its leader's (R617). -/
def State.helloMessage (s : State) (m : Nat) (f : HelloFields) : State :=
  if !s.hearsMsg then s
  else
    let s0 := if s.grpPhase = 5 && !s.grpLeader && m = 0 && !s.contain.active then s.startForming else s
    if s0.grpPhase ≠ 1 then s0
    else
      let s1 := (s0.updGrp (fun g => { g with hello := g.hello.filter (fun e => e.1 != m) ++ [(m, f)] })).notePeer m
      if s1.grpLeader then s1.helloIn else s1
def execMsgHello (m : Member) (f : HelloFields) (s : State) : Host.Outcome State Fault Refusal := .next (s.helloMessage m.val f)
/-- CAL: a follower echoes it; the leader takes the round trip, and d of the link is half the least of 16, rounded up. -/
def State.calMessage (s : State) (p : Nat) (sent : Nat) : State :=
  if !s.hearsMsg || !(s.prmPresent p) then s
  else if !s.grpLeader then (if s.grpPhase = 1 || s.grpPhase = 2 then s.sendMsg .cal [sent, p] else s)
  else if s.grpPhase ≠ 2 || 16 ≤ (s.link p).trips.length then s
  else
    let trips := (s.link p).trips ++ [s.grpCk - sent]
    let s1 := s.setLink p { s.link p with trips := trips }
    if trips.length < 16 then s1
    else
      let least := trips.foldl min (s.grpCk - sent)
      let s2 := s1.setRegN (aPort p + 8) ((least + 1) / 2)
      if s2.ringPorts.all (fun q => 16 ≤ (s2.link q).trips.length) then s2.endForming false else s2
def execMsgCal (p : Port) (sent : DWord) (s : State) : Host.Outcome State Fault Refusal := .next (s.calMessage p.val sent.toNat)
/-- FORMED at a follower: its own two pin delays are measurements, free values. -/
def State.formedMessage (s : State) (lat : Nat) (ck : Nat) (band line : W48) : State :=
  if s.hearsMsg && !s.grpLeader && (s.grpPhase = 1 || s.grpPhase = 2) then
    s.useFree.formed lat ck band line (s.free.toNat % 256) (s.free.toNat / 256 % 256)
  else s
def execMsgFormed (lat : Nat) (ckBase : DWord) (bandBase lineBase : W48) (s : State) : Host.Outcome State Fault Refusal :=
  .next (s.formedMessage lat ckBase.toNat bandBase lineBase)
def execMsgRefused (masks : List (BitVec 16)) (s : State) : Host.Outcome State Fault Refusal :=
  .next (if s.hearsMsg && !s.grpLeader && (s.grpPhase = 1 || s.grpPhase = 2) then
    s.refused (masks.map (fun m => m.toNat)) else s)
/-- START: the stream opens at the named band (R610), or an open one is admitted again from it (R616). -/
def State.startMessage (s : State) (first : W48) : State :=
  if !s.hearsMsg || s.grpLeader || s.grpPhase ≠ 3 then s
  else if s.runBit then s.restart first
  else
    let s1 := (s.setReg48 aBelBandNum first).setGrpState 4
    (s1.updGrp (fun g => { g with running := true, startBand := none })).openStream
def execMsgStart (first : W48) (s : State) : Host.Outcome State Fault Refusal := .next (s.startMessage first)
/-- 100 ms after FORM the leader ends forming, with the missing members ABSENT (R607, R608). -/
def execFormingTimeout (s : State) : Host.Outcome State Fault Refusal :=
  .next (if s.grpLeader && (s.grpPhase = 1 || s.grpPhase = 2) && s.grp.formAt.any (fun t => decide (t + msCk 100 ≤ s.now))
    then s.endForming true else s)
/-- The leader repeats forming once the pipeline is empty (R617). -/
def State.autoReform (s : State) : State :=
  if s.hearsMsg && s.grpLeader && s.grpPhase == 5 && bit (s.reg aGrpCtrl) 8 && !s.contain.active && s.inFlight.isEmpty
  then s.startForming else s
def execAutoReform (s : State) : Host.Outcome State Fault Refusal := .next s.autoReform

/-! ## Stream ends and changeovers (R604, R605) -/

/-- A band after `b` that has begun is discarded and never ledgered; its numbers are given back (R604). -/
def State.dropAfter (s : State) (b : W48) : State :=
  let gone := s.bell.bands.filter (fun r => w48lt b r.num && r.verdict.isNone && r.phase != .inFlight)
  let n := gone.foldl (fun n r => n + r.ticks) 0
  if gone.isEmpty then s
  else
    let s1 := gone.foldl (fun t r => t.dropLines r.num) s
    let s2 := s1.updBell (fun x => { x with bands := x.bands.filter (fun r => !(gone.any (fun g => g.num == r.num))) })
    (s2.setReg48 aBelBandNum (b + 1)).setReg48 aBelLineNum (s2.lineNum - BitVec.ofNat 48 n)
/-- STREAM_END (R604): R39 or R40 applied to band `b`; one that has no tick is no band of the stream (01 R699). -/
def State.streamEndMessage (s : State) (b : W48) (aborted : Bool) : State :=
  if !s.isFollower || !(s.bell.phase == .running || (aborted && s.bell.phase == .ending)) then s
  else
    let s1 := s.dropAfter b
    let last := if s1.bandNum = b && s1.assembling.isNone then b - 1 else b
    if aborted then
      (match s1.bell.bands.find? (fun r => r.num == b && r.verdict.isNone) with
        | some r =>
          if r.phase = .assembling then (s1.dropAssembly ⟨2, 0, 0⟩).endStreamAt (b - 1)
          else if r.phase = .waiting then (s1.dropWaiting r ⟨2, 0, 0⟩).endStreamAt (b - 1)
          else s1.endStreamAt last
        | none => s1.endStreamAt last)
    else s1.endStreamAt last
def execMsgStreamEnd (band : W48) (aborted : Bool) (s : State) : Host.Outcome State Fault Refusal :=
  .next (s.streamEndMessage band aborted)
/-- ARMED: the leader arms once every member has reported (R605). -/
def execMsgArmed (m : Member) (digest : BitVec 256) (s : State) : Host.Outcome State Fault Refusal :=
  .next (if s.hearsMsg && s.grp.running then
    (s.updGrp (fun g => { g with armed := g.armed.filter (fun e => e.1 != m.val) ++ [(m.val, digest)] })).tryArm else s)
/-- SWAP arms the changeover at the named band (R605). -/
def execMsgSwap (band : W48) (digest : BitVec 256) (s : State) : Host.Outcome State Fault Refusal :=
  .next (if s.isFollower && s.loadState = 3 && s.loadMode && s.groupDigest = digest then
    s.updLoad (fun l => { l with armed := some band, swapWanted := none }) else s)

/-! ## Leaving and independent mode (R619, R620) -/

/-- State 0 under MODE 0. -/
def State.leave (s : State) : State :=
  if !(s.ident.prmPorts != 0) then s
  else if s.grp.running || s.runBit then s.cfgIgnored
  else ((s.clrBits aGrpCtrl 1).setReg aGrpState 0).updGrp (fun g => { g with hello := [], formAt := none })
def execGrpLeave (s : State) : Host.Outcome State Fault Refusal := .next s.leave
/-- MODE is ignored while the group runs; MODE 0 is the independent state. -/
def State.writePrmMode (s : State) (mode : Bool) : State :=
  if !(s.ident.prmPorts != 0) || mode = s.grpMode then s
  else if s.grp.running then s.cfgIgnored
  else if mode then s.setBits aGrpCtrl 1
  else ((s.clrBits aGrpCtrl 1).setReg aGrpState 0).updGrp (fun g => { g with hello := [], formAt := none })
def execPrmModeWrite (mode : Bool) (s : State) : Host.Outcome State Fault Refusal := .next (s.writePrmMode mode)

end Sys2Proof.Machine
end

