-- ==== Sys2Proof/Machine/Hedge.lean ====
section
/-!
DEFINITION. The Hedge's own registers: access windows, priorities, slices and their lock (09 R420, R421, R426–R428).
-/
namespace Sys2Proof.Machine

/-- Spans of two windows overlap. -/
def spansMeet (b1 l1 b2 l2 : Nat) : Bool := decide (b1 ≤ l2) && decide (b2 ≤ l1)
/-- Setting EN of window `w` is refused (R421). -/
def State.winRefused (s : State) (h w : Nat) : Bool :=
  let b := s.winBase h w
  let l := s.winLimit h w
  decide (l < b) || (List.range 16).any (fun j => j != w && s.winEn h j && spansMeet b l (s.winBase h j) (s.winLimit h j))
/-- A write of the word that holds EN, R, W and MASTER_MASK (R421): an enabled window takes only the clearing of EN. -/
def State.writeWinCtl (s : State) (h w : Nat) (v : Word) : State :=
  let a := aWin h w + 16
  if s.winEn h w then (if bit v 31 then s else s.clrBits a 0x80000000)
  else if bit v 31 && s.winRefused h w then s.setBits (aHdg h + 4) 2
  else s.plainWrite a v
/-- A write of BASE or LIMIT, of a window that is not enabled. -/
def State.writeWinAddr (s : State) (h w o : Nat) (v : Word) : State :=
  if s.winEn h w then s else s.plainWrite (aWin h w + o) v
def execHdgWinEnable (h : Hub) (w : Fin 16) (v : Word) (s : State) : Host.Outcome State Fault Refusal :=
  .next (if h.val < s.ident.hubs then s.writeWinCtl h.val w.val v else s)

def State.hdgLocked (s : State) (h : Nat) : Bool := bit (s.reg (aHdg h)) 0
/-- LOCKED is set until device reset (R427). -/
def execHdgCtrlLocked (h : Hub) (s : State) : Host.Outcome State Fault Refusal :=
  .next (if h.val < s.ident.hubs then s.setBits (aHdg h.val) 1 else s)
/-- HDG_PRIO, HDG_SLICE: while not LOCKED; a slice of a path that does not exist reads 0 (R426, R427). -/
def State.writeHdgCfg (s : State) (h o : Nat) (v : Word) : State :=
  if s.hdgLocked h then s.setBits (aHdg h + 4) 8
  else if o < 0x80 then s.plainWrite (aHdg h + o) v
  else
    let m := (o - 0x80) / 4
    let paths := (List.range 8).foldl (fun n t => if s.hasPath h m t then n + 2 ^ t else n) 0
    s.plainWrite (aHdg h + o) (v &&& BitVec.ofNat 32 paths)

end Sys2Proof.Machine
end

