-- ==== Sys2Proof/Machine/Gatehouse.lean ====
section
/-!
DEFINITION. Camera ports, line memory, correction and sending to the terrace (06 R274–R299, R323, R324).
-/
namespace Sys2Proof.Machine

def State.updCam (s : State) (n : Nat) (f : CamState → CamState) : State := s.setCam n (f (s.cam n))
/-- Location word of the Gatehouse of hub `h` (02 "Locations"). -/
def gthLoc (h : Nat) : Nat := locWord 2 (2 + h) 0 0
/-- Cameras of hub `h`. -/
def hubCams (h : Nat) : List Nat := (List.range 8).map (fun j => 8 * h + j)

/-! ## Links (R284, R285) -/

/-- A port that stops taking lines discards its partial line, and its open ticks close as missing (R285). -/
def State.camStop (s : State) (n : Nat) : State :=
  let s1 := s.updCam n (fun c => { c with partial_ := none, frame := none })
  (s1.cam n).open_.foldl (fun t o => t.closeMissing n o false) s1
/-- A write of 0 to EN. -/
def State.disablePort (s : State) (n : Nat) : State :=
  if s.camEn n then (s.clrBits (aCam n) 0x80000000).camStop n else s
def execCamPortDisable (n : Cam) (s : State) : Host.Outcome State Fault Refusal :=
  .next (if n.val < s.ident.camPorts then s.disablePort n.val else s)
/-- The link is lost; a line in arrival cannot end (R284). -/
def State.loseLink (s : State) (n : Nat) : State := s.updCam n (fun c => { c with lost := true, partial_ := none, frame := none })
def execLinkLockLoss (n : Cam) (s : State) : Host.Outcome State Fault Refusal :=
  .next (if n.val < s.ident.camPorts then s.loseLink n.val else s)
/-- No packet of any kind for GTH_LINK_TIMEOUT µs. -/
def execGthLinkTimeout (n : Cam) (s : State) : Host.Outcome State Fault Refusal :=
  let c := s.cam n.val
  .next (if n.val < s.ident.camPorts && !c.lost && decide (c.lastPacketAt + usCk (s.regN (aCam n.val + 0x30)) ≤ s.now)
    then s.loseLink n.val else s)
/-- Lock and packets resume; the port shows its speed. -/
def State.linkUp (s : State) (n speed : Nat) : State :=
  if n < s.ident.camPorts && s.domOn (20 + n) then
    (s.setReg (aCam n + 4) (setFld (s.reg (aCam n + 4)) 20 3 speed)).updCam n (fun c => { c with lost := false, lastPacketAt := s.now })
  else s
def execLinkReturn (n : Cam) (speed : BitVec 3) (s : State) : Host.Outcome State Fault Refusal :=
  .next (s.linkUp n.val speed.toNat)

/-! ## Lines (R276–R283, R292, R323) -/

def State.camWidth (s : State) (n : Nat) : Nat := 16 * (fld (s.reg (aCam n)) 0 9 + 1)
def State.camBpp (s : State) (n : Nat) : Nat := fld (s.reg (aCam n)) 25 2
def State.camFrame (s : State) (n : Nat) : Bool := bit (s.reg (aCam n)) 27
/-- A line's pixel bytes: one a pixel for Mono8, else two (R280, R296). -/
def pixelBytes (bpp : Nat) (px : List (BitVec 12)) : List Byte :=
  if bpp = 0 then px.map (fun p => BitVec.ofNat 8 p.toNat) else px.flatMap (fun p => leBytes 2 p.toNat)
/-- The tick that a line of port `n` takes (R277): a following line of a frame only the tick next after the one before. -/
def State.lineTick (s : State) (n : Nat) : Option OpenTick :=
  let c := s.cam n
  match c.frame with
  | some f => c.open_.find? (fun o => o.line == f.1)
  | none => c.open_.find? (fun o => decide (s.regN (aCam n + 8) ≤ s.now - o.at_))
/-- The place in its frame of the line after the one that has come, whose tick, if it found one, is `o`. DESIGN CHOICE
(notes/assumptions/108.md): a first line without a tick begins no frame. -/
def State.nextFrameLine (s : State) (n : Nat) (o : Option OpenTick) : State :=
  let step : W48 × W48 → Option (W48 × W48) := fun f => if f.1 = f.2 then none else some (f.1 + 1, f.2)
  match s.camFrame n, (s.cam n).frame, o with
  | false, _, _ => s
  | true, some f, _ => s.updCam n (fun c => { c with frame := step f })
  | true, none, some x =>
    if s.frameH = 0 then s
    else s.updCam n (fun c => { c with frame := step (x.line, x.line + BitVec.ofNat 48 (s.frameH - 1)) })
  | true, none, none => s
/-- FF_BANK takes effect at the first line of a band, not of a band whose first line comes in the ck of the write (R292). -/
def CamState.bankAt (c : CamState) (b : W48) (now : Nat) : CamState :=
  match c.bankWanted with
  | some w => if c.lines.any (fun l => l.band == b) || decide (now ≤ w.2) then c else { c with bank := w.1, bankWanted := none }
  | none => c
def BandRec.badLine (b : BandRec) (n : Nat) (line : W48) : BandRec :=
  let x := Tab.at_ (⟨0, 0⟩ : BadLines) b.bad n
  { b with bad := Tab.set_ ⟨0, 0⟩ b.bad n (if x.count = 0 then ⟨1, line⟩ else { x with count := x.count + 1 }) }
/-- A line without its tick (R278). -/
def State.strayLine (s : State) (n : Nat) : State := s.count (aCam n + 0x28) 1
/-- A good line is stored with its tick's stamps and its CRC (R277, R280). -/
def State.storeLine (s : State) (n : Nat) (o : OpenTick) (px : List (BitVec 12)) : State :=
  let s1 := s.updCam n (fun c => { c with open_ := c.open_.filter (fun x => x.line != o.line) })
  if s.bandCams.contains n then
    let s2 := s1.updCam n (fun c =>
      let c1 := c.bankAt o.band s.now
      let l : StoredLine := ⟨o.line, o.band, px, crc32c (pixelBytes (s.camBpp n) px), c1.bank⟩
      { c1 with lines := c1.lines ++ [l] })
    s2.updBand o.band (fun b => b.close n)
  else s1
/-- LINE_ARRIVAL: good, bad or stray (R277, R278, R281). -/
def State.lineArrives (s : State) (n : Nat) (px : List (BitVec 12)) (broken : Bool) : State :=
  let bad := broken || px.length != s.camWidth n
  let s1 := if bad then s.count (aCam n + 0x24) 1 else s
  let tick := s.lineTick n
  let s2 := s1.nextFrameLine n tick
  match tick with
  | none => s2.strayLine n
  | some o =>
    if bad then (s2.updBand o.band (fun b => b.badLine n o.line)).closeMissing n o true
    else s2.storeLine n o px
/-- A packet of any kind can arrive at port `n`: its link is up and its port has power (R284). -/
def State.camHears (s : State) (n : Nat) : Bool :=
  decide (n < s.ident.camPorts) && !(s.power.off.contains (20 + n)) && !(s.cam n).lost
/-- CXP_STREAM_PACKET. Every packet keeps the link up; a port that is disabled, or of an orderly stop, takes no line
(R284, R285; 14 R632). -/
def State.streamPacket (s : State) (n : Nat) (p : CxpPacket) : State :=
  if s.camHears n = false then s
  else
    let s1 := s.updCam n (fun c => { c with lastPacketAt := s.now, streamed := true })
    if !(s.camEn n) || s.sup.t0.isSome then s1
    else if p.stream ≠ 0 then s1.strayLine n
    else
      let old := ((s.cam n).partial_).getD ([], false)
      let px := old.1 ++ p.pixels
      let broken := old.2 || !p.crcGood || p.fmt.toNat != s.camBpp n
      if p.last then (s1.updCam n (fun c => { c with partial_ := none })).lineArrives n px broken
      else s1.updCam n (fun c => { c with partial_ := some (px, broken) })
def execCxpStreamPacket (n : Cam) (p : CxpPacket) (s : State) : Host.Outcome State Fault Refusal := .next (s.streamPacket n.val p)
/-- A control, event or heartbeat packet goes to the port's mailbox (Table 6.1). -/
def execCxpControlPacket (n : Cam) (bytes : List Byte) (s : State) : Host.Outcome State Fault Refusal :=
  .next (if s.camHears n.val = false then s
    else
      let s1 := s.updCam n.val (fun c => { c with lastPacketAt := s.now })
      if s.camEn n.val then s1.updCam n.val (fun c => { c with mailbox := c.mailbox ++ [bytes] }) else s1)

/-! ## Tuning (R290–R292, R298, R324) -/

def State.mains (s : State) (h : Nat) : MainsState := Tab.at_ MainsState.init s.gth.mains h
def State.setMains (s : State) (h : Nat) (m : MainsState) : State :=
  { s with gth := { s.gth with mains := Tab.set_ MainsState.init s.gth.mains h m } }
/-- T_m as a sum of periods in ck and their number. -/
def MainsState.sum (m : MainsState) : Nat := m.periods.foldl (· + ·) 0
/-- Periods from 14.29 ms to 25 ms are accepted (R290). -/
def mainsOk (ck : Nat) : Bool := decide (17862500 ≤ ck) && decide (ck ≤ 31250000)
/-- A rising edge of MAINS_REF (R290, R291). -/
def State.mainsEdge (s : State) (h : Nat) : State :=
  let m := s.mains h
  let ok := (match m.lastEdge with
    | some t => mainsOk (s.now - t)
    | none => false)
  let m1 := { m with lastEdge := some s.now }
  if !ok then s.setMains h { m1 with streak := 0 }
  else
    let all := m.periods ++ [s.now - m.lastEdge.getD 0]
    let m2 := { m1 with accEdge := some s.now, periods := all.drop (all.length - 8), streak := m.streak + 1 }
    let s1 := (s.setMains h m2).setRegN (aGth h + 8) (m2.sum * 4 / (5 * m2.periods.length))
    if 8 ≤ m2.streak then s1.setBits (aGth h + 4) 1 else s1
def execMainsRefEdge (h : Hub) (s : State) : Host.Outcome State Fault Refusal :=
  .next (if h.val < s.ident.hubs then s.mainsEdge h.val else s)
/-- No accepted edge for 3 · T_m (R291). -/
def execFlkLockLoss (h : Hub) (s : State) : Host.Outcome State Fault Refusal :=
  let m := s.mains h.val
  .next (if bit (s.reg (aGth h.val + 4)) 0 && decide (3 * m.sum ≤ (s.now - m.accEdge.getD 0) * m.periods.length) then
    (s.clrBits (aGth h.val + 4) 1).setMains h.val { m with streak := 0 } else s)
def execGthFfWrite (n : Cam) (c : Fin 8192) (v : Word) (s : State) : Host.Outcome State Fault Refusal :=
  .next (if n.val < s.ident.camPorts then s.writeFf n.val c.val v else s)
/-- A write of FF_BANK: the bank not in force waits for the next band's first line (R292). -/
def State.writeBank (s : State) (n : Nat) (bank : Bool) : State :=
  (s.setReg (aCam n) (setFld (s.reg (aCam n)) 29 1 (b2n bank))).updCam n (fun c =>
    { c with bankWanted := if bank = c.bank then none else match c.bankWanted with
      | some w => some w
      | none => some (bank, s.now) })
def execFfBankWrite (n : Cam) (bank : Bool) (s : State) : Host.Outcome State Fault Refusal :=
  .next (if n.val < s.ident.camPorts then s.writeBank n.val bank else s)
/-- The high-word write arms the value now in GTH_RESCALE_PEND (R298; 00 R695). -/
def State.armRescale (s : State) (n : Nat) (hi : Word) : State :=
  let v := (s.latched (aCam n + 0x18)).toNat + 2 ^ 32 * (hi.toNat % 65536)
  let p := s.reg (aCam n + 0x14)
  s.updCam n (fun c => { c with armed := some (BitVec.ofNat 48 v, p) })
def execGthRescaleBandWrite (n : Cam) (hi : Word) (s : State) : Host.Outcome State Fault Refusal :=
  .next (if n.val < s.ident.camPorts then s.armRescale n.val hi else s)

/-! ## Correction (R287, R289–R291) -/

def State.camZp (s : State) (n : Nat) : Nat := fld (s.reg (aCam n + 0xC)) 0 8
/-- φ of a tick at ck `at_`: R290 in units of one fifth of a ns times the number of periods. -/
def State.phase (s : State) (h : Nat) (at_ : Nat) : Nat :=
  let m := s.mains h
  let n := m.periods.length
  let te : Int := (m.accEdge.getD 0 : Nat)
  let x : Int := (4 * ((at_ : Int) - te) + 5 * (s.regN (aGth h + 0xC) : Nat)) * (n : Nat)
  let t : Int := ((4 * m.sum : Nat) : Int)
  (256 * (x % t) / t).toNat
/-- FLK of camera `n` for a tick at ck `at_`. -/
def State.flicker (s : State) (n at_ : Nat) : Nat :=
  let h := n / 8
  if bit (s.reg (aCam n)) 28 && bit (s.reg (aGth h + 4)) 0 then
    let p := s.phase h at_
    fld (s.reg (aFlk n (p / 2))) (16 * (p % 2)) 16
  else 0x4000
/-- The output code of one pixel, whether it saturated, and a residue of y that disagrees with its operands (R289). -/
def flatField (bpp raw : Nat) (ff : Word) (flk zp : Nat) : NetOut :=
  let b := if bpp = 0 then 8 else if bpp = 1 then 10 else 12
  let x : Int := ((raw * 2 ^ (12 - b) : Nat) : Int)
  let d := x - signed 16 (fld ff 0 16)
  let gain := fld ff 16 16
  let y := d * ((gain * flk : Nat) : Int)
  let u := roundShift y 30 + (zp : Int)
  let v := max 0 (min 255 u)
  ⟨v, decide (v ≠ u), residueMiss y (mod7 d * (gain % 7) * (flk % 7))⟩
/-- A residue that disagrees in a line: line's low word, column, found, expected. -/
abbrev LineMiss := Nat × Nat × Nat × Nat
/-- One line corrected, with its saturations and its first residue that disagrees. -/
def State.correctLine (s : State) (n at_ : Nat) (bank : Bool) (px : List (BitVec 12)) : List Byte × Nat × Option (Nat × Nat × Nat) :=
  let flk := s.flicker n at_
  let zp := s.camZp n
  let bpp := s.camBpp n
  let rs := (List.zip (List.range px.length) px).map (fun p => flatField bpp p.2.toNat (s.ffWord bank n p.1) flk zp)
  (rs.map (fun r => BitVec.ofNat 8 r.v.toNat), (rs.filter (fun r => r.sat)).length,
   (List.range rs.length).findSome? (fun c => (rs[c]?.bind NetOut.miss).map (fun x => (c, x.1, x.2))))
/-- Substitution bit of camera `n` for the tick of line `line` (R287). -/
def State.markSub (s : State) (n : Nat) (line : W48) : State :=
  let f : Stamp → Stamp := fun x => if x.line = line then { x with sub := x.sub ||| (1#16 <<< n) } else x
  { s with gth := { s.gth with stamps := s.gth.stamps.map f } }
/-- The most recent good line of the stream before line `line`: stored, or gone from line memory (R287). -/
def CamState.lineBefore (c : CamState) (line : W48) : Option (List (BitVec 12)) :=
  let all := (c.good ++ c.lines.map (fun l => (l.line, l.pixels))).filter (fun x => w48lt x.1 line)
  (latestLine all).map (fun x => x.2)
/-- A corrected line goes on: its saturations are counted. -/
def State.corrected (s : State) (n : Nat) (line : W48) (r : List Byte × Nat × Option (Nat × Nat × Nat)) : State × List Byte × Option LineMiss :=
  (s.count (aCam n + 0x2C) r.2.1, r.1, r.2.2.map (fun x => (line.toNat, x.1, x.2.1, x.2.2)))
/-- Line `line` of band `b` of camera `n` as it is delivered: corrected, substituted where it is missing (R287, R289). -/
def State.readLine (s : State) (n : Nat) (b : W48) (line : W48) : State × List Byte × Option LineMiss :=
  let c := s.cam n
  let at_ := (match s.gth.stamps.find? (fun x => x.line == line) with
    | some x => x.at_
    | none => s.now)
  let bank := (match c.lines.find? (fun l => l.band == b) with
    | some l => l.bank
    | none => c.bank)
  match c.lines.find? (fun l => l.band == b && l.line == line) with
  | some l => s.corrected n line (s.correctLine n at_ l.bank l.pixels)
  | none =>
    match c.lineBefore line with
    | some px => (s.markSub n line).corrected n line (s.correctLine n at_ bank px)
    | none => (s.markSub n line, List.replicate (s.camWidth n) (BitVec.ofNat 8 (s.camZp n)), none)
/-- The first `k` lines of a band, with the first residue that disagrees. -/
def State.readLines (s : State) (n : Nat) (b first : W48) : Nat → State × List (List Byte) × Option LineMiss
  | 0 => (s, [], none)
  | k + 1 =>
    let r := s.readLines n b first k
    let q := r.1.readLine n b (first + BitVec.ofNat 48 k)
    (q.1, r.2.1 ++ [q.2.1], match r.2.2 with
      | some x => some x
      | none => q.2.2)

/-! ## Token contents (R293–R295) -/

def State.gthMode (s : State) (h : Nat) : Nat := fld (s.reg (aGth h)) 0 2
/-- Pixel (`y`, `x`) of corrected rows; GTH_CAM_ZP where there is none. -/
def pixelAt (zp : Byte) (rows : List (List Byte)) (y x : Nat) : Byte := (rows.getD y []).getD x zp
/-- A record of 16 channels of block `cb` at regrouped pixel (X, Y) (R295; with f = 1 the plain pixels). -/
def regroup (f : Nat) (zp : Byte) (cams : List (List (List Byte))) (Y X cb : Nat) : List Byte :=
  let cin := cams.length
  (List.range 16).map (fun j =>
    let c := 16 * cb + j
    if f * f * cin ≤ c then zp
    else pixelAt zp (cams.getD (c % (f * cin) % cin) []) (f * Y + c / (f * cin)) (f * X + c % (f * cin) / cin))
/-- The data tokens of a band in modes 0, 2 and 3: rows, groups of 4 pixels, blocks. -/
def plainTokens (f : Nat) (zp : Byte) (cams : List (List (List Byte))) (rows width : Nat) : List Line :=
  let cblk := (f * f * cams.length + 15) / 16
  (List.range (rows / f)).flatMap (fun y => (List.range (width / f / 4)).flatMap (fun g => (List.range cblk).map (fun cb =>
    lineOf ((List.range 4).flatMap (fun j => regroup f zp cams y (4 * g + j) cb)))))

/-! ## Sending (R287, R288, R296–R299; 10 R482, R485) -/

/-- A route of the Gatehouse: gate tile, ROUTE, cameras, data, SCALE. -/
structure GRoute where
  gate : Nat
  route : BitVec 10
  cams : List Nat
  data : Bool
  scale : Bool
  deriving DecidableEq, Repr
/-- Image and generation that the Gatehouse of hub `h` sends for. -/
def State.gthImage (s : State) (h : Nat) : Option Image × BitVec 2 :=
  if s.load.eocSent.contains h then (s.load.staged, s.newGen) else (s.load.active, s.activeGen)
def State.gthRoutes (s : State) (h : Nat) : List GRoute :=
  match (s.gthImage h).1 with
  | none => []
  | some i => (Config.gatehouseRoutes i.hdr.digest h).map (fun r =>
    { gate := gateKey h r.1.val, route := r.2.1, cams := (hubCams h).filter (fun n => r.2.2.1.getLsbD n && i.hdr.bandSet.getLsbD n),
      data := r.2.2.2.1, scale := r.2.2.2.2 })
/-- Inject one token at a rim gate; it reaches the gate at ck `at_` (03 R130, R144). -/
def State.inject (s : State) (r : GRoute) (gen : BitVec 2) (at_ : Nat) (x : Nat × Nat × Line) : State :=
  if !(s.tileOn r.gate) then s
  else s.onTile r.gate (fun t =>
    let idx := idxWanted x.1 (Tab.at_ 0 t.io.sendIdx r.route.toNat)
    let tok := mkToken (mkTag gen x.1 x.2.1 r.route false idx) x.2.2
    { t with io := { t.io with sendIdx := Tab.set_ 0 t.io.sendIdx r.route.toNat (idxNext x.1 idx),
                               stones := Tab.set_ [] t.io.stones 4 (Tab.at_ [] t.io.stones 4 ++ [⟨tok, at_, 2, none, none⟩]) } })
/-- GTH_TO_GATE (02 Table 2.13). -/
def gthToGate : Nat := 24
/-- The band rescale token (05 R251). -/
def rescaleLine (v : Word) (b : W48) : Line :=
  lineOf (leBytes 4 (2 ^ 30 + fld v 0 30) ++ leBytes 6 b.toNat)
def State.camRescale (s : State) (n : Nat) : Word := s.reg (aCam n + 0x10)
/-! What the Gatehouse sends leaves at one token a ck on each route (R297; 01 R50). -/

/-- Tokens for one route. -/
def GRoute.sending (r : GRoute) (gen : BitVec 2) (b : W48) (engine : Bool) (wait : Nat) (toks : List (Nat × Nat × Line)) : Sending :=
  { gate := r.gate, route := r.route, gen := gen, wait := wait, engine := engine, band := b, toks := toks }
def State.queueOut (s : State) (h : Nat) (xs : List Sending) : State :=
  { s with gth := { s.gth with out := Tab.set_ [] s.gth.out h (Tab.at_ [] s.gth.out h ++ xs) } }
/-- EOC has passed the last route of hub `h`: the Gatehouse takes its new configuration and restarts at band index 0 (10 R485;
04 R207). -/
def State.eocGone (s : State) (h : Nat) : State :=
  let s1 := (hubCams h).foldl (fun t n => t.updCam n (fun c => { c with halo := [] })) s
  ({ s1 with gth := { s1.gth with bandIdx := Tab.set_ 0 s1.gth.bandIdx h 0 } } : State).sentEoc h
/-- EOC goes out on every route (10 R482). -/
def State.queueEoc (s : State) (h : Nat) : State :=
  match s.load.armed with
  | none => s
  | some k =>
    if (s.gthRoutes h).isEmpty then s.eocGone h
    else s.queueOut h ((s.gthRoutes h).map (fun r => r.sending (s.gthImage h).2 k false 0 [(7, 0, markerLine k false)]))
/-- EOC must go before the item: its band follows the armed one (10 R482). -/
def State.eocDue (s : State) (h : Nat) (x : SendItem) : Bool :=
  match s.load.armed with
  | some k => x.kind == .band && w48lt k x.band && !(s.load.eocSent.contains h)
  | none => false
/-- EOC goes directly after the armed band. -/
def State.eocAfter (s : State) (h : Nat) (b : W48) : State :=
  if s.load.armed = some b && !(s.load.eocSent.contains h) then s.queueEoc h else s
/-- An EOC stands in what hub `h` is sending. -/
def hasEoc (xs : List Sending) : Bool := xs.any (fun x => x.toks.any (fun k => k.1 == 7))
/-- One ck of the front sending of a route: the engine's time passes first, then a token leaves. -/
def State.sendOne (s : State) (x : Sending) : State × Option Sending :=
  if x.engine && s.hold.frozen then (s, some x)
  else if x.wait ≠ 0 then (s, some { x with wait := x.wait - 1 })
  else match x.toks with
    | [] => (s, none)
    | y :: ys =>
      (s.inject { gate := x.gate, route := x.route, cams := [], data := false, scale := false } x.gen (s.now + gthToGate) y,
       if ys.isEmpty then none else some { x with toks := ys })
/-- One ck of the sendings of a hub, each route's in order; `gone` holds the routes that have had their turn. -/
def State.sendCk (s : State) (gone : List (Nat × BitVec 10)) : List Sending → State × List Sending
  | [] => (s, [])
  | x :: xs =>
    if gone.contains (x.gate, x.route) then
      let r := s.sendCk gone xs
      (r.1, x :: r.2)
    else
      let a := s.sendOne x
      let r := a.1.sendCk ((x.gate, x.route) :: gone) xs
      (r.1, a.2.toList ++ r.2)
/-- One ck of the Gatehouse of hub `h`: nothing is sent in a containment (14 R647). -/
def State.gthCk (s : State) (h : Nat) : State :=
  let old := Tab.at_ [] s.gth.out h
  if old.isEmpty || s.contain.active then s
  else
    let r := s.sendCk [] old
    let s1 : State := { r.1 with gth := { r.1.gth with out := Tab.set_ [] r.1.gth.out h r.2 } }
    if hasEoc old && !(hasEoc r.2) then s1.eocGone h else s1

def State.popSend (s : State) (h : Nat) : State :=
  s.updBell (fun b => { b with sendq := Tab.set_ [] b.sendq h ((Tab.at_ [] b.sendq h).drop 1) })
/-- The lines of band `b` leave the line memory of hub `h`. Good lines older than its last are of no further use. -/
def State.dropHubLines (s : State) (h : Nat) (b : W48) : State :=
  (hubCams h).foldl (fun t n => t.updCam n (fun c =>
    let d := c.dropBand b
    match latestLine ((c.lines.filter (fun l => l.band == b)).map (fun l => (l.line, l.pixels))) with
    | some x => { d with good := d.good.filter (fun y => w48le x.1 y.1) }
    | none => d)) s
def State.hubRows (s : State) (rows : List (Nat × List (List Byte))) (n : Nat) : List (List Byte) :=
  (((s.cam n).halo ++ ((rows.find? (fun r => r.1 == n)).map (fun r => r.2)).getD []))
/-- What a route carries of a band between its header and its EOB: a band rescale token, the data, engine saturations, and a
residue that disagrees. -/
structure RouteBody where
  scale : List (Nat × Nat × Line)
  data : List (Nat × Nat × Line)
  sat : Nat
  miss : Option (Nat × Nat × Nat × Nat)
  deriving DecidableEq, Repr
/-- The layer that the engine of hub `h` computes for route number `g`. -/
def State.engine (s : State) (h g : Nat) : Engine := Engine.at_ (Tab.at_ [] s.gth.store h) g
def State.routeBody (s : State) (h g : Nat) (r : GRoute) (b : W48) (rows : List (Nat × List (List Byte))) (ticks : Nat) : RouteBody :=
  let lead := r.cams.headD (8 * h)
  let scale := if r.scale && s.gthMode h != 1 then [((1, 0, rescaleLine (s.camRescale lead) b) : Nat × Nat × Line)] else []
  let plain : Nat → List (List Byte) := fun n => ((rows.find? (fun q => q.1 == n)).map (fun q => q.2)).getD []
  if !r.data then ⟨scale, [], 0, none⟩
  else if s.gthMode h = 1 then
    let e := s.engine h g
    let i := Tab.at_ 0 s.gth.bandIdx h
    let held := (s.cam lead).halo.length
    let base : Int := ((i * ticks : Nat) : Int) - (held : Int)
    let out := e.tokens (s.camRescale lead) (r.cams.map (fun n => s.hubRows rows n)) s.bandLines base i
    ⟨scale, out.toks.map (fun l => (0, if numOutUns e.num then 1 else 0, l)), out.sat, out.miss⟩
  else
    let f := if s.gthMode h = 2 then 2 else if s.gthMode h = 3 then 4 else 1
    let toks := plainTokens f (BitVec.ofNat 8 (s.camZp lead)) (r.cams.map plain) ticks (s.camWidth lead)
    ⟨scale, toks.map (fun l => (0, 1, l)), 0, none⟩
/-- Read out every camera of the hub's part of the band set. -/
def State.readBand (s : State) (h : Nat) (b : BandRec) : State × List (Nat × List (List Byte)) × Option (Nat × LineMiss) :=
  ((hubCams h).filter (fun n => s.bandCams.contains n)).foldl
    (fun r n =>
      let q := r.1.readLines n b.num b.first.line b.ticks
      (q.1, r.2.1 ++ [(n, q.2.1)], match r.2.2 with
        | some x => some x
        | none => q.2.2.map (fun x => (n, x)))) (s, [], none)
/-- The routes with their numbers. -/
def State.numbered (s : State) (h : Nat) : List (Nat × GRoute) := List.zip (List.range (s.gthRoutes h).length) (s.gthRoutes h)
/-- The data routes of the engine, one for each camera group (R293, R294). -/
def State.engineGroups (s : State) (h : Nat) : List (Nat × GRoute) :=
  let rs := (s.numbered h).filter (fun x => x.2.data)
  rs.filter (fun x => !(rs.any (fun y => decide (y.1 < x.1) && y.2.cams == x.2.cams)))
/-- Ck that the engine takes for a band (R294). -/
def State.engineCk (s : State) (h : Nat) : Nat :=
  let cyc := (s.engineGroups h).foldl (fun n x => n + (s.engine h x.1).cycles x.2.cams.length) 0
  if s.gthMode h = 1 then ((64 + cyc) * 5 + 3) / 4 else 0
/-- COMPUTE_RESIDUE naming the Gatehouse (R289, R294; 05 R263). -/
def State.gthResidue (s : State) (h : Nat) (b : BandRec) (d0 d1 : Nat) (found expected : Nat) : State :=
  (s.dropHubLines h b.num).faultContain
    { err 0x0205 with loc := gthLoc h, band := b.num.toNat, gen := b.gen.toNat, hub := h, d0 := d0, d1 := d1, d2 := found * 2 ^ 32 + expected }
/-- The bodies of band `b` go out on the routes, and the lines that the next band's windows need are kept (R296, R297). -/
def State.sendBodies (s : State) (h : Nat) (b : BandRec) (rows : List (Nat × List (List Byte))) (bodies : List (GRoute × RouteBody)) :
    State :=
  let gen := (s.gthImage h).2
  let engine := s.gthMode h == 1
  let wait := s.engineCk h
  let s2 := s.queueOut h (bodies.flatMap (fun x =>
    [x.1.sending gen b.num false 0 ((4, 0, markerLine b.num false) :: x.2.scale),
     x.1.sending gen b.num engine wait (x.2.data ++ [(5, 0, markerLine b.num false)])]))
  let s3 := s2.count (aGth h + 0x10) (bodies.foldl (fun n x => n + x.2.sat) 0)
  let s4 := rows.foldl (fun t q => t.updCam q.1 (fun c =>
    let all := c.halo ++ q.2
    { c with halo := all.drop (all.length - 8) })) s3
  let idx := Tab.set_ 0 s4.gth.bandIdx h (Tab.at_ 0 s4.gth.bandIdx h + 1)
  (({ s4 with gth := { s4.gth with bandIdx := idx } } : State).dropHubLines h b.num).eocAfter h b.num
/-- An admitted band on every route (R297); the engine's time delays its data (R294). A residue that disagrees lets none of it
go out (05 R264). -/
def State.sendBand (s : State) (h : Nat) (b : BandRec) : State :=
  let rd := s.readBand h b
  match rd.2.2 with
  | some (_, l, c, f, x) => rd.1.gthResidue h b l c f x
  | none =>
    let bodies := (rd.1.numbered h).map (fun p => (p.2, rd.1.routeBody h p.1 p.2 b.num rd.2.1 b.ticks))
    match bodies.findSome? (fun x => x.2.miss) with
    | some (r, c, f, x) => rd.1.gthResidue h b r c f x
    | none => rd.1.sendBodies h b rd.2.1 bodies
/-- Parameters that the engine of hub `h` uses for a band (08 R374). -/
def State.engineParams (s : State) (h : Nat) : List Nat :=
  if s.gthMode h = 1 then (s.engineGroups h).flatMap (fun x => (s.engine h x.1).params x.2.cams.length) else []
/-- A poisoned word of the engine store among those that hold the parameters `ks` (08 R374). -/
def State.enginePoison (s : State) (h : Nat) (ks : List Nat) : Option MemWord :=
  s.mem.hubPoison.find? (fun w => match w with
    | .engine k j => k.val == h && paramWord ks j
    | _ => false)
/-- The engine reads its first parameter and finds `e` (08 R369–R371). -/
def State.engineRead (s : State) (h : Hub) (e : Ecc) : State :=
  match s.engineParams h.val with
  | k :: _ => s.eccFind (.engine h (Config.fieldPlace k / 8)) e
  | [] => s
/-- The first item of the sending order of hub `h` (R287, R288, R297; 01 R39). -/
def State.sendItem (s : State) (h : Hub) (upset : Bool) (e : Ecc) (x : SendItem) : State :=
  let s0 := s.popSend h
  let gen := (s0.gthImage h).2
  match x.kind with
  | .eos => s0.queueOut h ((s0.gthRoutes h).map (fun r => r.sending gen x.band false 0 [(6, 0, markerLine x.band false)]))
  | .idle => s0.queueOut h ((s0.gthRoutes h).map (fun r =>
      r.sending gen x.band false 0 [(4, 0, markerLine x.band true), (5, 0, markerLine x.band false)]))
  | .band =>
    match s0.findBand x.band with
    | none => s0
    | some b =>
      let stored := (hubCams h).any (fun n => (s0.cam n).lines.any (fun l => l.band == b.num &&
        (upset || l.crc != crc32c (pixelBytes (s0.camBpp n) l.pixels))))
      if stored then
        (s0.dropHubLines h b.num).faultContain
          { code := 0x0801, sev := 2, loc := gthLoc h, band := b.num.toNat, gen := b.gen.toNat, hub := h }
      else
        let s1 := s0.engineRead h e
        match s1.enginePoison h (s1.engineParams h) with
        | some w => s1.faultContain (s1.poisonErr 0x0302 w true)
        | none => s1.sendBand h b
/-- GATEHOUSE_SEND_BAND. One item goes out at a time; where EOC goes before it, EOC goes out and the item is next (10 R482). The
engine does not run in a freeze (01 R50), and nothing is sent in containment. -/
def execGatehouseSendBand (h : Hub) (r : SendRead) (s : State) : Host.Outcome State Fault Refusal :=
  .next (match Tab.at_ [] s.bell.sendq h.val with
    | [] => s
    | x :: _ =>
      if s.contain.active || decide (s.now < x.at_) || decide (s.ident.hubs ≤ h.val) || (s.hold.frozen && s.gthMode h.val == 1) ||
          !(Tab.at_ [] s.gth.out h.val).isEmpty then s
      else if s.eocDue h.val x then s.queueEoc h.val
      else s.sendItem h r.upset r.ecc x)

end Sys2Proof.Machine
end

