-- ==== Sys2Proof/Machine/Kiosk.lean ====
section
/-!
DEFINITION. The Kiosk: its input rows, classification and the joining of a class-map row into components (06 R301–R309, R325).
-/
namespace Sys2Proof.Machine

/-! ## Classes (R302, R303) -/

/-- Rule `r` matches (camera, column, class) (R303). -/
def ruleMatches (m : Tab Word) (cam col k r : Nat) : Bool :=
  let w0 := ksk m (ruleOff r 0)
  let w1 := ksk m (ruleOff r 1)
  bit w0 31 && bit (ksk m (ruleOff r 2)) cam && decide (fld w1 0 16 ≤ col) && decide (col ≤ fld w1 16 16) && bit w0 k
def rulePrio (m : Tab Word) (r : Nat) : Nat := fld (ksk m (ruleOff r 0)) 24 3
/-- The governing rule: highest PRIO, then lowest index. -/
def governing (m : Tab Word) (cam col k : Nat) : Option Nat :=
  (List.range 32).foldl (fun g r =>
    if ruleMatches m cam col k r then (match g with
      | none => some r
      | some q => if rulePrio m q < rulePrio m r then some r else some q) else g) none
/-- Margin of class `k`, or none where it is disabled or suppressed (R302, Table 6.4). -/
def margin (m : Tab Word) (cam col k : Nat) (score : Int) : Option Int :=
  let c := kskClass m k
  let g := governing m cam col k
  let act := (g.map (fun r => fld (ksk m (ruleOff r 0)) 28 2)).getD 2
  let delta : Int := (match g with
    | some r => if act = 0 then signed 8 (fld (ksk m (ruleOff r 0)) 16 8) else 0
    | none => 0)
  if bit c 31 = false || act = 1 then none else some (score - (signed 8 (fld c 0 8) + delta))
/-- The class of a pixel: the largest margin at or above 0, ties to the lower index (R302). -/
def classify (m : Tab Word) (cam col : Nat) (scores : List Int) : Option Nat :=
  ((List.range scores.length).foldl (fun best k =>
    match margin m cam col k (scores.getD k 0) with
    | none => best
    | some x => if x < 0 then best else (match best with
      | none => some (k, x)
      | some b => if b.2 < x then some (k, x) else some b)) (none : Option (Nat × Int))).map (fun b => b.1)

/-! ## Runs of one class in a row -/

structure PixRun where
  cls : Nat
  c0 : Nat
  c1 : Nat
  sum : Int
  max : Int
/-- Add pixel (column, class, score) to the runs, latest first. -/
def addPixel (rs : List PixRun) (p : Nat × Option Nat × Int) : List PixRun :=
  match p.2.1 with
  | none => rs
  | some k =>
    match rs with
    | r :: t =>
      if r.cls = k && r.c1 + 1 = p.1 then { r with c1 := p.1, sum := r.sum + p.2.2, max := max r.max p.2.2 } :: t
      else ⟨k, p.1, p.1, p.2.2, p.2.2⟩ :: r :: t
    | [] => [⟨k, p.1, p.1, p.2.2, p.2.2⟩]
def PixRun.cols (r : PixRun) : List Nat := (List.range (r.c1 + 1 - r.c0)).map (fun j => r.c0 + j)

/-! ## Components (R305–R308) -/

/-- A component and its columns in the present row. -/
abbrev Live := Comp × List Nat
/-- The run touches the component's pixels of the previous row, corners included (R305). -/
def touches (cam : Nat) (r : PixRun) (c : Comp) : Bool :=
  c.cam == cam && c.cls == r.cls && c.lastCols.any (fun x => decide (r.c0 ≤ x + 1) && decide (x ≤ r.c1 + 1))
/-- The component of two: the first pixel is that of the lower row, then of the lower column. -/
def joinComps (a b : Comp) : Comp :=
  let first := if a.pixels = 0 then b else if b.pixels = 0 || compBefore a b then a else b
  { first with xMin := min a.xMin b.xMin, xMax := max a.xMax b.xMax, pixels := a.pixels + b.pixels, sum := a.sum + b.sum,
               max := max a.max b.max, splitBefore := a.splitBefore || b.splitBefore, seam := a.seam || b.seam,
               lastCols := a.lastCols ++ b.lastCols }
/-- A row at the Kiosk: camera, row count, first line it covers, whether a seam lies before its band. -/
structure RowAt where
  cam : Nat
  row : Nat
  line : W48
  seam : Bool
/-- A component of one run. -/
def newComp (m : Tab Word) (a : RowAt) (r : PixRun) : Comp :=
  let g := governing m a.cam r.c0 r.cls
  let marks := (match g with
    | some q => if fld (ksk m (ruleOff q 0)) 28 2 = 2 then some (BitVec.ofNat 8 (fld (ksk m (ruleOff q 0)) 16 8)) else none
    | none => none)
  { cam := a.cam, cls := r.cls, firstRow := a.row, firstCol := r.c0, rule := g.getD 0xFF, marks := marks, lineFirst := a.line,
    lineLast := a.line, xMin := r.c0, xMax := r.c1, pixels := r.c1 + 1 - r.c0, sum := r.sum, max := r.max, rows := 1,
    splitBefore := false, seam := a.seam, lastCols := [] }
/-- Open components: those with pixels. -/
def openCount (cs : List Live) : Nat := (cs.filter (fun c => c.1.pixels != 0)).length
/-- A run joins the components it touches, or starts one where a place is free; answers the pixels dropped (R305, R308).
`others` counts the open components of other cameras. -/
def joinRun (m : Tab Word) (a : RowAt) (others : Nat) (acc : List Live × Nat) (r : PixRun) : List Live × Nat :=
  let hit := acc.1.filter (fun c => touches a.cam r c.1)
  let rest := acc.1.filter (fun c => !(touches a.cam r c.1))
  let fresh := newComp m a r
  if hit.all (fun c => c.1.pixels == 0) && decide (4096 ≤ others + openCount acc.1) then (acc.1, acc.2 + fresh.pixels)
  else
    let one := hit.foldl (fun x c => joinComps c.1 x) fresh
    let cols := hit.foldl (fun l c => c.2 ++ l) r.cols
    (rest ++ [({ one with lineLast := a.line }, cols)], acc.2)
/-- What becomes of a component of the row's camera at the end of the row. -/
inductive RowEnd where
  | stays (c : Comp)
  | closes (c : Comp)
  | splits (c rest : Comp)
/-- It closes when the row holds none of its pixels, or when it has KSK_MAX_ROWS rows (R306, R307); 0 is no number of rows
that a component reaches (notes/assumptions/98.md). -/
def rowEnd (maxRows : Nat) (a : RowAt) (x : Live) : RowEnd :=
  if x.2.isEmpty then .closes x.1
  else
    let c := { x.1 with lastCols := x.2, rows := a.row + 1 - x.1.firstRow, lineLast := a.line, seam := x.1.seam || a.seam }
    if maxRows ≠ 0 && maxRows ≤ c.rows then
      .splits c { c with pixels := 0, sum := 0, max := -128, xMin := 65535, xMax := 0, splitBefore := true, seam := false }
    else .stays c
def RowEnd.kept : RowEnd → Option Comp
  | .stays c => some c
  | .closes _ => none
  | .splits _ r => some r
def RowEnd.gone : RowEnd → Option (Comp × Bool)
  | .stays _ => none
  | .closes c => some (c, false)
  | .splits c _ => some (c, true)

/-! ## One row (R301, R304, R309, R325) -/

/-- Camera `n` enters band `b`: a band that does not follow the last one leaves a seam, which open components span (R304,
R312). -/
def State.enterBand (s : State) (h n : Nat) (b : W48) : State :=
  let k := s.kiosk h
  let v := Tab.at_ 0 k.lastBand n
  let cur := k.curBand n
  if v ≠ 0 && cur = b then s
  else
    let seam := v ≠ 0 && b ≠ cur + 1
    let mark : Comp → Comp := fun c => if seam && c.cam == n then { c with seam := true } else c
    let kept := k.snaps.filter (fun x => s.bell.bands.any (fun r => r.num == x.2.1))
    let snaps := kept ++ [(n, b, k.comps.filter (fun c => c.cam == n))]
    let last := Tab.set_ 0 k.lastBand n (2 * (b.toNat + 1) + b2n seam)
    (s.setKiosk h { k with lastBand := last, comps := k.comps.map mark, snaps := snaps }).kskEnter h b
/-- Runs of one class in a row of scores. -/
def scoreRuns (m : Tab Word) (n : Nat) (row : List (List NetOut)) : List PixRun :=
  let px := (List.zip (List.range row.length) row).map (fun p =>
    let ss := p.2.map NetOut.v
    let cls := classify m n p.1 ss
    (p.1, cls, ss.getD (cls.getD 0) 0))
  (px.foldl addPixel []).reverse
/-- Classify a row of camera `n` with band `b` and join its pixels. -/
def State.joinRow (s : State) (h n : Nat) (b : W48) (line : W48) (row : List (List NetOut)) : State :=
  let k := s.kiosk h
  let m := s.kskFor h b
  let sats := row.foldl (fun c p => c + (p.filter NetOut.sat).length) 0
  let a : RowAt := ⟨n, Tab.at_ 0 k.rowCount n, line, Tab.at_ 0 k.lastBand n % 2 == 1⟩
  let mine := (k.comps.filter (fun c => c.cam == n)).map (fun c => ((c, []) : Live))
  let other := k.comps.filter (fun c => c.cam != n)
  let others := (other.filter (fun c => c.pixels != 0)).length
  let out := (scoreRuns m n row).foldl (joinRun m a others) (mine, 0)
  let ends := out.1.map (rowEnd (s.regN (aKsk h + 4)) a)
  let s1 := s.setKiosk h { k with comps := other ++ ends.filterMap RowEnd.kept, rowCount := Tab.set_ 0 k.rowCount n (a.row + 1),
                                  dropped := if out.2 = 0 then k.dropped else k.dropped ||| (1#16 <<< n) }
  let s2 := (s1.count (aKsk h + 0x20) sats).count (aKsk h + 0x14) out.2
  (sortComps (ends.filterMap RowEnd.gone)).foldl (fun t c => t.closeComp h false c.2 c.1) s2
def kskLoc (h : Nat) : Nat := locWord 3 (2 + h) 0 0
/-- COMPUTE_RESIDUE naming the Kiosk (R301; 14 Table 14.6). -/
def State.kskResidue (s : State) (h : Nat) (b : W48) (x : Nat × Nat × Nat × Nat) : State :=
  s.faultContain { err 0x0205 with loc := kskLoc h, band := b.toNat, hub := h, d0 := x.1, d1 := x.2.1, d2 := x.2.2.1 * 2 ^ 32 + x.2.2.2 }
/-- The next class-map row of camera `n` has been emitted; input rows that no later one reads leave the Kiosk store. -/
def KskState.rowOut (k : KskState) (n bands : Nat) : KskState :=
  let k1 := { k with bandRow := Tab.set_ 0 k.bandRow n (Tab.at_ 0 k.bandRow n + 1) }
  let rows := Tab.at_ [] k.rows n
  let base := Tab.at_ 0 k.rowsIn n - rows.length
  { k1 with rows := Tab.set_ [] k1.rows n (rows.drop ((kskWin k.store n).firstRow bands (k1.nextRow n) - base)) }
/-- Scores of the next class-map row of camera `n`. -/
def State.kskNet (s : State) (h n : Nat) : List (List NetOut) :=
  let k := s.kiosk h
  kskRow k.store (kskWin k.store n) (Tab.at_ [] k.rows n) (Tab.at_ 0 k.rowsIn n) s.bandsPerFrame (k.nextRow n)
/-- A row of a frame mode: it is frame-relative, a row below the frame's last is none, and the last one closes the camera's
components (R325). -/
def State.frameRowOut (s : State) (h n : Nat) (b : W48) (o : Int) (row : List (List NetOut)) : State :=
  let d := kskWin (s.kiosk h).store n
  let per := s.bandsPerFrame * d.outRows
  let j := ((s.kiosk h).nextRow n % (per : Int)).toNat
  let height := if d.fused then outSize d.frameH d.padT d.padB d.kh 1 else per
  if height ≤ j then s
  else
    let s1 := s.joinRow h n b (s.frameLine h o j) row
    if j + 1 = height then s1.closeWhere h false (fun c => c.cam == n) else s1
/-- The row that is emitted with band `b`: its residues are checked, then its pixels are joined. -/
def State.rowScored (s : State) (h n : Nat) (b : W48) (o : Int) : State :=
  let row := s.kskNet h n
  match rowMiss row with
  | some x => s.kskResidue h b x
  | none =>
    let s1 := if s.frameH = 0 then s.joinRow h n b (s.rowLine h b (Tab.at_ 0 (s.kiosk h).bandRow n)) row
      else s.frameRowOut h n b o row
    s1.updKiosk h (fun k => k.rowOut n s.bandsPerFrame)
/-- A poisoned word of the Kiosk store among those that hold the parameters `ks` (08 R374). -/
def State.kioskPoison (s : State) (h : Nat) (ks : List Nat) : Option MemWord :=
  s.mem.hubPoison.find? (fun w => match w with
    | .kiosk k j => k.val == h && paramWord ks j
    | _ => false)
/-- The row of band `b` with its parameters read and found to be `e` (08 R369–R371, R374). Where the duplicate logic disagrees at
a record, the row has no effect but the fault (14 Table 14.6). -/
def State.readRow (s : State) (h : Hub) (n : Nat) (b : W48) (o : Int) (e : Ecc) (upset : Bool) : State :=
  let s1 := s.eccFind (.kiosk h (Config.fieldPlace (128 + 16 * n) / 8)) e
  match s1.kioskPoison h.val (kskParams (s1.kiosk h.val).store n) with
  | some w => s1.faultContain (s1.poisonErr 0x0302 w true)
  | none =>
    let t := s1.rowScored h.val n b o
    if upset && (t.kiosk h.val).seq != (s1.kiosk h.val).seq then s1.kskResidue h.val b (0, 0, 0, 0) else t
/-- The next class-map row of camera `n`, which goes out with band `b`; one before the stream's first line is discarded (R309). -/
def State.emitRow (s : State) (h : Hub) (n : Nat) (b : W48) (e : Ecc) (upset : Bool) : State :=
  let s1 := s.enterBand h.val n b
  let o := s1.rowOffset h.val b (Tab.at_ 0 (s1.kiosk h.val).bandRow n)
  if o < 0 then s1.updKiosk h.val (fun k => k.rowOut n s1.bandsPerFrame)
  else s1.readRow h n b o e upset

/-! ## The Kiosk entry (03 R130; 01 R36, R39; 10 R485) -/

/-- Tokens of camera `n` at the Kiosk entry that have arrived, in order. -/
def State.kskWaiting (s : State) (h n : Nat) : List Flight :=
  ((s.kiosk h).inbox.filter (fun x => decide (x.2.at_ ≤ s.now) && kskCamOf (s.kiosk h).store (tagRoute x.2.tok.tag).toNat == some n)).map (fun x => x.2)
/-- The data of the band has ended at the Kiosk entry. -/
def State.kskEob (s : State) (h n : Nat) : Bool := match s.kskWaiting h n with
  | f :: _ => tagKind f.tok.tag == 5
  | [] => false
/-- KIOSK_ROW. The Kiosk does not run in a freeze or a containment, and waits while a record of it waits for its queue
(01 R50; 14 R647; 07 R333). -/
def State.kioskRow (s : State) (h : Hub) (n : Nat) (e : Ecc) (upset : Bool) : State :=
  let k := s.kiosk h.val
  if !(s.ident.hasKiosk h.val) || !s.seqRuns || s.pqs.any (fun q => q.2.held.any (fun o => o.writer == 2 && o.src == h.val)) then s
  else match k.dataBand n with
    | none => s
    | some b =>
      if k.bandOut n || !(k.rowsHere n s.bandsPerFrame || s.kskEob h.val n) then s
      else s.emitRow h n b e upset
def execKioskRow (h : Hub) (r : RowRead) (s : State) : Host.Outcome State Fault Refusal :=
  .next (s.kioskRow h r.cam.val r.ecc r.upset)

/-- The value of KskState.band at a header. -/
def bandMark (b : W48) (idle : Bool) : Nat := 2 * (b.toNat + 1) + b2n idle
/-- A header of camera `n`: its band begins. -/
def KskState.header (k : KskState) (n : Nat) (p : Line) : KskState :=
  { k with band := Tab.set_ 0 k.band n (bandMark (markerBand p) (markerIdle p)), bandRow := Tab.set_ 0 k.bandRow n 0,
           part := Tab.set_ [] k.part n [],
           bandIdx := if markerIdle p then k.bandIdx else Tab.set_ 0 k.bandIdx n (Tab.at_ 0 k.bandIdx n + 1) }
/-- A data token of camera `n`: a whole row of them joins the input rows (04 R194). -/
def KskState.data (k : KskState) (n : Nat) (p : Line) : KskState :=
  let part := Tab.at_ [] k.part n ++ [p]
  if kskRowTokens k.store n ≤ part.length then
    { k with part := Tab.set_ [] k.part n [], rows := Tab.set_ [] k.rows n (Tab.at_ [] k.rows n ++ [part]),
             rowsIn := Tab.set_ 0 k.rowsIn n (Tab.at_ 0 k.rowsIn n + 1) }
  else { k with part := Tab.set_ [] k.part n part }
/-- A data token can be taken: the rows held for the next class-map row are not yet complete, or the band's are all out. -/
def State.kskTakes (s : State) (h n : Nat) : Bool :=
  let k := s.kiosk h
  (k.dataBand n).isSome && (k.bandOut n || !(k.rowsHere n s.bandsPerFrame))
/-- What becomes of the token at the front of camera `n`'s: none where it waits. -/
def State.kskToken (s : State) (h n : Nat) (t : Token) : Option State :=
  let k := s.kiosk h
  let v := Tab.at_ 0 k.band n
  match tagKind t.tag with
  | 4 => if v = 1 then none else some (s.setKiosk h (k.header n t.payload))
  | 0 => if (k.dataBand n).isNone then some s else if s.kskTakes h n then some (s.setKiosk h (k.data n t.payload)) else none
  | 5 =>
    if (k.dataBand n).isNone then some s
    else if k.bandOut n then some (s.setKiosk h { k with bandRow := Tab.set_ 0 k.bandRow n ((kskWin k.store n).outRows + 1) })
    else none
  | 6 =>
    let k1 := { k with band := Tab.set_ 0 k.band n 0 }
    some (if (kskCams k.store).all (fun m => Tab.at_ 0 k1.band m == 0) then (s.setKiosk h k1).kioskEnd h else s.setKiosk h k1)
  | 7 =>
    let k1 := { k with band := Tab.set_ 0 k.band n 1 }
    some (if (kskCams k.store).all (fun m => Tab.at_ 0 k1.band m == 1) then
      ((s.setKiosk h k1).kioskSwap h).updKiosk h KskState.restart else s.setKiosk h k1)
  | _ => some s
/-- The front token of a route; one that fails its CRC is a fault naming the Kiosk, one of no camera goes nowhere (R130; 03 R144). -/
def State.kskFront (s : State) (h : Nat) (t : Token) : Option State :=
  if tokenGood t = false then some (s.faultContain { err 0x0206 with loc := kskLoc h, hub := h, d1 := t.tag.toNat })
  else match kskCamOf (s.kiosk h).store (tagRoute t.tag).toNat with
    | some n => s.kskToken h n t
    | none => some s
/-- One ck of the entry: each route's first token is taken or waits; `gone` holds the routes that have had their turn. -/
def State.kskEnterCk (s : State) (h : Nat) (gone : List (Nat × BitVec 10)) : List (Nat × Flight) → State × List (Nat × Flight)
  | [] => (s, [])
  | x :: xs =>
    let route := (x.1, tagRoute x.2.tok.tag)
    let a := if gone.contains route || decide (s.now < x.2.at_) || s.contain.active then none else s.kskFront h x.2.tok
    let r := (a.getD s).kskEnterCk h (route :: gone) xs
    (r.1, if a.isNone then x :: r.2 else r.2)
/-- One ck of the Kiosk of hub `h`. -/
def State.kskCk (s : State) (h : Nat) : State :=
  let old := (s.kiosk h).inbox
  if old.isEmpty || !s.seqRuns then s
  else
    let r := s.kskEnterCk h [] old
    r.1.updKiosk h (fun k => { k with inbox := r.2 })

end Sys2Proof.Machine
end

