-- ==== Sys2Proof/Machine/Containment.lean ====
section
/-!
DEFINITION. The end of a containment (14 R647–R651): the pipeline is emptied and every tile takes its configuration afresh.
-/
namespace Sys2Proof.Machine

/-- Queues, stones and credits of a tile are emptied. -/
def Tile.emptied (t : Tile) : Tile :=
  { t with io := { t.io with q := [], stones := [], credits := [], recvIdx := [], midItem := [] }, win := { t.win with feed := [] } }
/-- The tile takes its active configuration afresh, its generation unchanged (R148); one that only routes is emptied and its
fault is over (03 R178). -/
def Tile.restarted (t : Tile) : Tile := if t.cfg.isSome then t.emptied.start t.cfg t.gen else t.emptied.routeOnly t.gen

/-- Open components go back to what the rows of final bands left: those before band `first` and its followers. -/
def KskState.rollBack (k : KskState) (first : W48) : KskState :=
  let late := k.snaps.filter (fun x => w48le first x.2.1)
  late.reverse.foldl (fun k x =>
    { k with comps := k.comps.filter (fun c => c.cam != x.1) ++ x.2.2,
             lastBand := Tab.set_ 0 k.lastBand x.1 (2 * first.toNat) }) { k with snaps := [] }
def State.kioskFinal (s : State) (h : Nat) : State :=
  match s.contain.first with
  | some b => s.updKiosk h (fun k => k.rollBack b)
  | none => s

/-- Step 3: queues, stones and path buffers are emptied, HANDLE items held at gates and the sending orders are lost, stored
lines of bands that are ledgered go, and the Kiosk closes its components with TAIL. -/
def State.emptyPipeline (s : State) : State :=
  let tiles := Tab.mapV Tile.blank (fun _ t => t.emptied) s.tiles
  let pqs := Tab.mapV PqState.empty (fun _ p => { p with held := p.held.filter (fun o => o.writer != 4), sinkUsed := 0 }) s.pqs
  let live : StoredLine → Bool := fun l => s.bell.bands.any (fun r => r.num == l.band)
  let cams := Tab.mapV CamState.init (fun _ c => { c with lines := c.lines.filter live, halo := [] }) s.gth.cams
  let links := Tab.mapV Link.init (fun _ l => { l with rxBuf := [] }) s.grp.links
  let gth := { s.gth with cams := cams, bandIdx := [], out := [] }
  let grp := { s.grp with links := links }
  let s1 : State := { s with tiles := tiles, pqs := pqs, sideband := [], gth := gth, grp := grp }
  let s2 := s1.updBell (fun b => { b with sendq := [] })
  let s3 := ((s2.kioskFinal 0).kioskFinal 1).closeTails
  let ksk := Tab.mapV KskState.init (fun _ k => { k.restart with inbox := [] }) s3.ksk
  { s3 with ksk := ksk }
/-- Step 4: the tiles start again; a changeover under way ends with the new configuration everywhere (10 R488, R492). -/
def State.restartTiles (s : State) : State :=
  let tiles := Tab.mapV Tile.blank (fun _ t => t.restarted) s.tiles
  ({ s with tiles := tiles } : State).forceSwap
/-- A notice to each service core (R649); its source word is not given. -/
def State.noticeCores (s : State) : State :=
  (List.range s.ident.hubs).foldl (fun t h => t.useFree.coreNotice (4 * h) (t.free.setWidth 16)) s
/-- HUB_CONTAIN_LIMIT faults within the window halt the hub (R650, R651); 0 sets no limit. -/
def State.containHalts (s : State) : Bool :=
  let n := (s.contain.times.filter (fun t => decide (s.now - t < s.containWindow))).length
  s.regN aContainLimit != 0 && decide (s.regN aContainLimit ≤ n)
def State.containDone (s : State) : State :=
  if s.contain.active = false || s.sup.t0.isSome then s
  else
    let s1 := s.finalise.emptyPipeline.restartTiles.noticeCores
    let c := { s1.contain with active := false, first := none }
    let s2 := (({ s1 with contain := c } : State).clrBits aContainStatus 0x40000000).updBell (fun b => { b with admittedAt := none })
    let s3 := if s2.containHalts then s2.setBits aContainStatus 0x80000000 else s2
    if s3.bell.phase = .draining then s3.endDrain else s3.maybeDrain
def execContainmentComplete (s : State) : Host.Outcome State Fault Refusal := .next s.containDone
/-- RESUME ends a halt; the next band needs no gate, and a load that waited may arm (R648, R650). -/
def State.containResume (s : State) : State :=
  if bit (s.reg aContainStatus) 31 then
    ((s.clrBits aContainStatus 0x80000000).updBell (fun b => { b with admittedAt := none })).tryArm
  else s
def execHubContainResume (s : State) : Host.Outcome State Fault Refusal := .next s.containResume

end Sys2Proof.Machine
end

