-- ==== Sys2Proof/Machine/Supply.lean ====
section
/-!
DEFINITION. The supply sentinel, the orderly stop and its flush, the thermal trip (14 R623–R640, R652, R664; 15 R690, R691).
-/
namespace Sys2Proof.Machine

/-! ## States of the device (R629) -/

/-- SUP_STATUS.STATE of every present hub. -/
def State.setSupState (s : State) (v : Nat) : State :=
  (List.range s.ident.hubs).foldl (fun t h => t.setReg (aSup h) (setFld (t.reg (aSup h)) 28 4 v)) s
def State.setSupBits (s : State) (m : Word) : State :=
  (List.range s.ident.hubs).foldl (fun t h => t.setBits (aSup h) m) s
def State.stopping (s : State) : Bool := s.sup.t0.isSome
def State.updSup (s : State) (f : SupState → SupState) : State := { s with sup := f s.sup }

/-! ## The orderly stop (R632, R640, R652, R664, R691) -/

/-- Bands of a containment that are not ledgered yet are ledgered SHED_SUPPLY (R652, R664). -/
def State.supplyTakes (s : State) (v : Verdict) : State :=
  if s.contain.active then
    s.updBell (fun b => { b with bands := b.bands.map (fun r =>
      if r.phase = .finished && r.verdict.any (fun w => w.status == 5 || (w.status == 2 && w.cause == s.contain.code.toNat)) then { r with verdict := some v } else r) })
  else s
/-- A containment that began in this very ck does not run (R664). -/
def State.noContain (s : State) : State :=
  if s.contain.active && s.contain.at_ == s.now then
    let c := { s.contain with active := false, first := none, times := s.contain.times.filter (fun t => t != s.now) }
    ((({ s with contain := c } : State).clrBits aContainStatus 0x40000000).setReg aContainCount (s.reg aContainCount - 1)).setBorn
      aContainCount (s.bornAt aContainCount - 1)
  else s
/-- The band in assembly is discarded and the stream ends with the band before it (Table 14.2 step 1). -/
def State.stopStream (s : State) (v : Verdict) : State :=
  if s.bell.phase = .running || s.bell.phase = .ending then (s.dropAssembly v).endStreamAt (s.bandNum - 1)
  else (s.dropAssembly v).maybeDrain
/-- The device is STOPPED: outputs take their park states (Table 14.2 step 5; 15 R680). -/
def State.stopped (s : State) : State :=
  { s.setSupState 3 with pins := { s.pins with stopped := true, func := [], switching := [] } }
/-- Before READY the boot ends here; a capability table already published stays (02 R98). Fail: `code` is SUP_FAIL or THERMAL_TRIP, `bits` the causes of the flush header, `h` the hub. One stop runs. -/
def State.orderlyStop (s : State) (code bits_ h : Nat) : State :=
  let cause := s.sup.cause ||| BitVec.ofNat 16 bits_
  if s.stopping then s.updSup (fun x => { x with cause := cause })
  else
    let t := s.ptpNs
    let b := s.bandNum
    let s1 := s.updSup (fun x => { x with t0 := some s.now, cause := cause, causeCode := BitVec.ofNat 16 code, bandT0 := b, timeT0 := t })
    let s2 := if s.boot.step = .ready then s1.setSupState 2 else s1.stopped
    let s3 := s2.emit { code := code, sev := 3, loc := hubLoc h 4, hub := h }
    if s.boot.step ≠ .ready then
      (if s.boot.step = .published then s3
       else
        let boot := { s3.boot with step := .failed }
        { s3 with boot := boot })
    else
      let v : Verdict := ⟨3, code, 0⟩
      let s4 := (s3.supplyTakes v).noContain.stopStream v
      if s.grp.running then s4.sendMsg .fault [code, s.grpSlot, s.grpCk, b2n s.holdWanted] else s4

/-! ## The sentinel (R624–R631) -/

/-- The converter's code of an input voltage; above 1.2 V it reads 4,095 (R624; 15 R678). -/
def vsenseCode (microvolt : Nat) : Nat := min 4095 (microvolt * 4096 / 1200000)
structure Levels where
  failLo : Nat
  warnLo : Nat
  warnHi : Nat
  failHi : Nat
def State.levels (s : State) (h : Nat) : Levels :=
  ⟨fld (s.reg (aSup h + 0x14)) 0 12, fld (s.reg (aSup h + 0x18)) 0 12, fld (s.reg (aSup h + 0x1C)) 0 12,
   fld (s.reg (aSup h + 0x20)) 0 12⟩
def isOpen (c : Nat) : Bool := decide (c < 205)
/-- Both inputs inside the hysteresis band (R631). -/
def Levels.calm (l : Levels) (hyst a b : Nat) : Bool :=
  let inside : Nat → Bool := fun c => decide (l.warnLo + hyst ≤ c) && decide (c + hyst ≤ l.warnHi)
  inside a && inside b
def State.supFilt (s : State) (h : Nat) : Nat := max 1 (min 255 (s.regN (aSup h + 0x28)))
def bothCodes (a b : Nat) : Nat := b * 65536 + a
/-- The device enters warn (R630). -/
def State.enterWarn (s : State) (h a b : Nat) : State :=
  let s1 := s.count (aSup h + 0x34) 1
  if s.sup.warnHeld || s.stopping then s1
  else
    let s2 := (s1.updSup (fun x => { x with warnHeld := true })).setSupState 1
    (s2.emit { err 0x0601 with loc := hubLoc h 4, d0 := bothCodes a b, hub := h }).suspendAll
/-- An input after a sample of code `c`; an open input is not below WARN_LO (R628). -/
def InCnt.sampled (x : InCnt) (l : Levels) (c : Nat) : InCnt :=
  let more : Bool → Nat → Nat := fun p n => if p then n + 1 else 0
  ⟨more (decide (c < l.failLo)) x.lowFail, more (!(isOpen c) && decide (c < l.warnLo)) x.lowWarn,
   more (decide (l.warnHi < c)) x.highWarn, more (decide (l.failHi < c)) x.highFail, more (isOpen c) x.open_⟩
/-- Both inputs have been below FAIL_LO for `f` samples; an open one is (R625, R627). -/
def SentState.lowFails (x : SentState) (f : Nat) : Bool := decide (f ≤ x.a.lowFail) && decide (f ≤ x.b.lowFail)
/-- Both have been above FAIL_HI, or one while the other is open. -/
def SentState.highFails (x : SentState) (f : Nat) : Bool :=
  let h : InCnt → Bool := fun y => decide (f ≤ y.highFail)
  let o : InCnt → Bool := fun y => decide (f ≤ y.open_)
  (h x.a && h x.b) || (h x.a && o x.b) || (h x.b && o x.a)
/-- The sentinel is in fail (R627). -/
def SentState.fails (x : SentState) (f : Nat) : Bool := x.pfail || x.lowFails f || x.highFails f
/-- Either input meets a warn threshold (R627). -/
def SentState.warns (x : SentState) (f : Nat) : Bool :=
  decide (f ≤ x.a.lowWarn) || decide (f ≤ x.a.highWarn) || decide (f ≤ x.b.lowWarn) || decide (f ≤ x.b.highWarn)
/-- What one sample leaves in the hub's sentinel. -/
def SentState.sampled_ (x : SentState) (l : Levels) (ca cb filt hyst diff now : Nat) : SentState :=
  let y := { x with a := x.a.sampled l ca, b := x.b.sampled l cb }
  let differ := decide (ca + diff < cb) || decide (cb + diff < ca)
  { y with sampled := true,
           level := if y.fails filt then 2 else if y.warns filt then max 1 x.level else x.level,
           okSince := if l.calm hyst ca cb then (match x.okSince with
             | some t => some t
             | none => some now) else none,
           diffSince := if differ then (match x.diffSince with
             | some t => some t
             | none => some now) else none }
/-- No sentinel is in fail or warn: the supply has recovered from the fail that stopped the device (R629, R634). -/
def State.supRecovered (s : State) : Bool :=
  let hs := List.range s.ident.hubs
  s.stopping && hs.any (fun h => (s.sent h).level == 2) &&
  hs.all (fun h => !((s.sent h).fails (s.supFilt h)) && !((s.sent h).warns (s.supFilt h)))
/-- VSENSE_SAMPLE. -/
def State.sampleSupply (s : State) (h ua ub : Nat) : State :=
  if s.ident.hubs ≤ h then s
  else
    let a := vsenseCode ua
    let b := vsenseCode ub
    let l := s.levels h
    let s1 := (((s.setRegN (aSup h + 4) a).setRegN (aSup h + 8) b).minReg (aSup h + 0xC) a).minReg (aSup h + 0x10) b
    let old := s.sent h
    let new := old.sampled_ l a b (s.supFilt h) (fld (s.reg (aSup h + 0x24)) 0 12) (fld (s.reg (aSup h + 0x2C)) 0 12) s.now
    let ended := (if isOpen a then 0#32 else 2#32) ||| (if isOpen b then 0#32 else 4#32) |||
      (if new.diffSince.isSome then 0#32 else 8#32)
    let s2 := (s1.setSent h new).clrBits (aSup h) ended
    let low := new.lowFails (s.supFilt h)
    let high := new.highFails (s.supFilt h)
    let s3 := if low || high then s2.orderlyStop 0x0602 (b2n low + 2 * b2n high + 8 * h) h
      else if old.level < 1 && new.level = 1 then s2.enterWarn h a b else s2
    if s3.supRecovered then s3.setSupBits 0x80 else s3
def execVsenseSample (h : Hub) (microvoltA microvoltB : Nat) (s : State) : Host.Outcome State Fault Refusal :=
  .next (s.sampleSupply h.val microvoltA microvoltB)
/-- Warn ends once every sentinel has stayed calm for SUP_WARN_CLEAR_MS (R631). -/
def State.warnClear (s : State) : State :=
  let hs := List.range s.ident.hubs
  let calm := hs.all (fun h => (s.sent h).okSince.any (fun t => decide (t + msCk (s.regN (aSup h + 0x30)) ≤ s.now)))
  if s.sup.warnHeld && !s.stopping && calm then
    let s1 := hs.foldl (fun t h => t.setSent h { t.sent h with level := 0 }) s
    ((s1.updSup (fun x => { x with warnHeld := false })).setSupState 0).resumeAll
  else s
def execSupWarnClear (s : State) : Host.Outcome State Fault Refusal := .next s.warnClear
/-- MISMATCH after 1 ms, or an open input: the bits and one record (R628). -/
def State.supMismatch (s : State) (h : Nat) : State :=
  let a := s.regN (aSup h + 4)
  let b := s.regN (aSup h + 8)
  let x := s.sent h
  let late := x.diffSince.any (fun t => decide (t + msCk 1 ≤ s.now))
  let now_ := (if late then 8 else 0) + (if x.sampled && isOpen a then 2 else 0) + (if x.sampled && isOpen b then 4 else 0)
  let fresh := BitVec.ofNat 32 now_ &&& ~~~(s.reg (aSup h))
  if s.ident.hubs ≤ h || fresh = 0 then s
  else (s.setBits (aSup h) fresh).emit { err 0x0601 with loc := hubLoc h 4, d0 := bothCodes a b, hub := h }
def execSupMismatch (h : Hub) (s : State) : Host.Outcome State Fault Refusal := .next (s.supMismatch h.val)
/-- PFAIL_N asserted puts the sentinel in fail (R625, R627). -/
def State.pfailAssert (s : State) (h : Nat) : State :=
  if s.ident.hubs ≤ h then s
  else
    let s1 := (s.setSent h { s.sent h with pfail := true, level := 2 }).setBits (aSup h) 0x100
    s1.orderlyStop 0x0602 (4 + 8 * h) h
def execPfailNAssert (h : Hub) (s : State) : Host.Outcome State Fault Refusal := .next (s.pfailAssert h.val)

/-! ## The drain cut and the flush plan (R632, R636; Table 14.3) -/

/-- Fields of the boot parameter block. -/
def State.bpbField (s : State) (o n : Nat) : Nat := fieldAt s.boot.bpb o n
def State.drainUs (s : State) : Nat := min 1000 (s.regN aSupDrainUs)
/-- P of R636. -/
def State.flushPages (s : State) : Nat :=
  let tx := if s.bpbField 0x06 2 % 2 = 1 then 1 else 6
  min 256 ((3000 - s.drainUs - 20) / (s.bpbField 0x08 2 + tx))
/-- FLUSH_SEQ of the next flush: one more than that of the last since manufacture. -/
def State.flushSeq (s : State) : Nat := (match s.sup.last with
  | some x => x.2
  | none => 0) + 1
/-- SEQ of a ledger entry, and of an error record. -/
def entrySeq (l : Line) : Nat := (lineDWord l 1).toNat % 65536
def entryBand (l : Line) : Nat := (lineDWord l 0).toNat % 2 ^ 48
def recordSev (l : Line) : Nat := bits (lineDWord l 0).toNat 48 2
/-- Undelivered error records, fatal and error severity first, each class oldest first (R636). -/
def State.errItems (s : State) : List Line :=
  let rs := (s.pq qError).items.map (fun i => i.data)
  rs.filter (fun l => decide (2 ≤ recordSev l)) ++ rs.filter (fun l => decide (recordSev l < 2))
/-- The flush plan: `closed` are the entries that the drain cut closed, `older` those not yet delivered. -/
def State.flushPlan (s : State) (closed older : List Line) : FlushPlan :=
  let p := s.flushPages
  let room := (p - 1) * 4
  let led := closed ++ older
  let ledIn := led.take room
  let errs := s.errItems
  let errIn := errs.take (room - ledIn.length)
  let leftOlder := older.drop (room - closed.length)
  let leftClosed := closed.drop room
  let left := leftOlder ++ leftClosed
  let delivered := match (older ++ closed).head? with
    | some l => (entrySeq l + 65535) % 65536
    | none => (s.regN aLdgNextSeq + 65535) % 65536
  let unrec := (left.head?.map entryBand).getD (2 ^ 48 - 1)
  let seq := s.flushSeq
  let defect : Nat → Nat := fun h => if s.ident.hasKiosk h then (s.pq (fld (s.reg (aKsk h)) 16 9)).occ else 0
  let head := leBytes 4 0x48534C46 ++ leBytes 2 1 ++ leBytes 2 s.sup.cause.toNat ++ leBytes 4 seq ++ leBytes 8 s.sup.timeT0.toNat ++
    leBytes 8 s.sup.bandT0.toNat ++ leBytes 2 p ++ leBytes 2 ledIn.length ++ leBytes 2 left.length ++ leBytes 2 errIn.length ++
    leBytes 2 (errs.length - errIn.length) ++ leBytes 2 delivered ++ leBytes 4 0 ++ leBytes 8 unrec ++ leBytes 2 (defect 0) ++
    leBytes 2 (defect 1) ++ leBytes 4 0 ++ (List.range 8).flatMap (fun j => leBytes 4 (s.regN (aHubActiveDigest + 4 * j)))
  let body := slice head 0 252
  ⟨body ++ leBytes 4 (crc32c body).toNat, ledIn ++ errIn, p⟩
/-- MARK_OUT pins go inactive (Table 14.2 step 3). -/
def State.marksOff (s : State) : State :=
  let s1 := s.markPins.foldl (fun t m => if (t.strobesOf m).any (fun x => x.startedAt.isSome) then t.send (.mark m false) else t) s
  { s1 with gth := { s1.gth with strobes := [] } }
/-- DRAIN_CUT. -/
def State.drainCut (s : State) : State :=
  match s.sup.t0 with
  | none => s
  | some t0 =>
    if s.sup.cut || s.now < t0 + usCk s.drainUs || s.boot.step ≠ .ready then s
    else
      let v : Verdict := ⟨3, s.sup.causeCode.toNat, 0⟩
      let before := s.ledger.store.length
      let s1 := (s.verdictWhere (fun _ => true) v).finalise
      let s2 := s1.closeAllRuns
      let closed := s2.ledger.store.drop before
      let older := (s2.pq qLedger).items.map (fun i => i.data) ++ s2.ledger.store.take before
      let s3 := (s2.liveTasks.foldl (fun t k => t.cancelTask k false) s2).endLoad.marksOff
      let plan := s3.flushPlan closed older
      s3.updSup (fun x => { x with cut := true, plan := some plan })
def execDrainCut (s : State) : Host.Outcome State Fault Refusal := .next s.drainCut

/-- Pages of a plan: the header, then four items to a page. -/
def FlushPlan.page (p : FlushPlan) (k : Nat) : List Byte :=
  if k = 0 then p.header else ((p.items.drop (4 * (k - 1))).take 4).flatMap lineBytes
/-- The flush is written to the slot after the last one, and the device is STOPPED (R637; Table 14.2 step 5; 15 R680, R693). -/
def State.flushDone (s : State) : State :=
  match s.sup.plan with
  | none => s
  | some p =>
    let seq := s.flushSeq
    let slot := match s.sup.last with
      | some x => (x.1 + 1) % 4
      | none => 0
    let base := s.bpbField 0x1C 4 + 65536 * slot
    let n := (p.items.length + 3) / 4 + 1
    let s1 := (List.range n).foldl (fun t k =>
      let nor := writeBytes t.mem.spiNor (base + 256 * k) (p.page k)
      ({ t with mem := { t.mem with spiNor := nor } } : State).send (.spiPage slot k (p.page k))) s
    let s2 := s1.updSup (fun x => { x with plan := none, slots := Tab.set_ (0, false) x.slots slot (seq, false), last := some (slot, seq) })
    ((s2.setRegN aSupFlushLast (slot * 2 ^ 30 + seq % 2 ^ 30)).setSupBits 0x40).stopped
def execFlushComplete (s : State) : Host.Outcome State Fault Refusal := .next s.flushDone

/-! ## Register writes (R626, R633, R639) -/

def Threshold.off : Threshold → Nat
  | .failLo => 0x14
  | .warnLo => 0x18
  | .warnHi => 0x1C
  | .failHi => 0x20
def Levels.ordered (l : Levels) : Bool := decide (l.failLo < l.warnLo) && decide (l.warnLo < l.warnHi) && decide (l.warnHi < l.failHi)
def State.writeThreshold (s : State) (h : Nat) (k : Threshold) (v : Word) : State :=
  if s.ident.hubs ≤ h then s
  else
    let s1 := s.setRegN (aSup h + Threshold.off k) (fld v 0 12)
    if (s1.levels h).ordered then s1 else s.setBits (aSup h) 0x10
def execSupThresholdWrite (h : Hub) (k : Threshold) (v : Word) (s : State) : Host.Outcome State Fault Refusal :=
  .next (s.writeThreshold h.val k v)
def State.writeDrainUs (s : State) (v : Nat) : State := s.setRegN aSupDrainUs (min 1000 v)
def execSupDrainUsWrite (v : Word) (s : State) : Host.Outcome State Fault Refusal := .next (s.writeDrainUs v.toNat)
/-- The slot may be erased at the next boot (R639). -/
def State.flushAck (s : State) (slot : Nat) : State :=
  let e := Tab.at_ (0, false) s.sup.slots slot
  if e.1 = 0 then s else s.updSup (fun x => { x with slots := Tab.set_ (0, false) x.slots slot (e.1, true) })
def execSupFlushAck (slot : BitVec 2) (s : State) : Host.Outcome State Fault Refusal := .next (s.flushAck slot.toNat)

/-! ## Temperature (15 R690, R691) -/

def diePresent (p : Identity) (slot : Nat) : Bool := if slot < 2 then decide (slot < p.dies) else decide (slot - 2 < p.hubs)
def State.tempOf (s : State) (i : Nat) : Int := signed 16 (s.regN (aSupTemp i))
def State.thermWarn (s : State) : Int := 8 * (fld (s.reg aSupThermWarn) 0 8 : Int)
/-- TEMPERATURE_SAMPLE: SUP_TEMP, the warning episode, and since when the die is at 115 °C or above. -/
def State.sampleTemp (s : State) (i : Nat) (t : BitVec 16) : State :=
  if !(diePresent s.ident i) then s
  else
    let s1 := s.setRegN (aSupTemp i) t.toNat
    let since : Option Nat := if 920 ≤ t.toInt then (match Tab.at_ none s.pins.hotSince i with
      | some x => some x
      | none => some s.now) else none
    let dies := (List.range 4).filter (fun j => diePresent s.ident j)
    let hot := dies.any (fun j => decide (s1.thermWarn ≤ s1.tempOf j))
    let cool := dies.all (fun j => decide (s1.tempOf j ≤ s1.thermWarn - 40))
    let alert := hot || (s.pins.alert && !cool)
    let pins := { s1.pins with hotSince := Tab.set_ none s1.pins.hotSince i since, alert := alert }
    let s2 : State := { s1 with pins := pins }
    if hot && !s.pins.alert then s2.emit { err 0x0605 with loc := hubLoc 0 4, d0 := i, d1 := t.toNat } else s2
def execTemperatureSample (slot : Fin 4) (t : BitVec 16) (s : State) : Host.Outcome State Fault Refusal :=
  .next (s.sampleTemp slot.val t)
def State.thermalTrip (s : State) : State :=
  if (List.range 4).any (fun i => (Tab.at_ none s.pins.hotSince i).any (fun t => decide (t + msCk 1 ≤ s.now))) then
    s.orderlyStop 0x0604 16 0
  else s
def execThermalTrip (s : State) : Host.Outcome State Fault Refusal := .next s.thermalTrip

end Sys2Proof.Machine
end

