-- ==== Sys2Proof/Machine/Boot.lean ====
section
/-!
DEFINITION. Resets and the boot sequence (14 R653–R659, R639; 12 Table 12.1; 15 R686, R688).
-/
namespace Sys2Proof.Machine

/-! ## Resets (R653) -/

/-- Device reset: every register and unit as `State.reset` has it. What lies outside the device's reset stays: the balls and
the test port, the fuses, the SPI NOR with its flush slots, host memory, time, and what waits and has been sent. -/
def State.deviceReset (s : State) : State :=
  let r := State.reset
  let mem := { r.mem with spiNor := s.mem.spiNor }
  let sup := { r.sup with slots := s.sup.slots, last := s.sup.last }
  let fuse := { r.fuse with keys := s.fuse.keys, state := s.fuse.state }
  let pins := { r.pins with preload := s.pins.preload, tapInstr := s.pins.tapInstr, tapData := s.pins.tapData }
  let boot := { r.boot with tapHold := s.boot.tapHold }
  let ptp := { r.ptp with fifths := s.ptp.fifths }
  let s1 : State := { r with ident := s.ident, now := s.now, fresh := s.fresh, ptp := ptp, readValue := s.readValue }
  let s2 : State := { s1 with readData := s.readData, readStatus := s.readStatus, outbox := s.outbox, hostMem := s.hostMem }
  let s3 : State := { s2 with mem := mem, sup := sup, fuse := fuse, pins := pins, boot := boot, pending := s.pending }
  s3.send .spiReset
def execDeviceReset (_byPwrgood : Bool) (s : State) : Host.Outcome State Fault Refusal := .next s.deviceReset
def execFunctionLevelReset (s : State) : Host.Outcome State Fault Refusal := .next s.deviceReset
def execHubBootReset (s : State) : Host.Outcome State Fault Refusal := .next s.deviceReset
def State.updBoot (s : State) (f : BootState → BootState) : State := { s with boot := f s.boot }
/-- PERST_N resets only the PCIe endpoint and its link: the link is down. -/
def execPerst (s : State) : Host.Outcome State Fault Refusal :=
  .next ((s.updBoot (fun b => { b with linkUp := false })).setReg aHubPcieLink 0)
/-- Link training completes: width and speed are known, waiting traffic may go on. -/
def State.linkReturned (s : State) (width speed : Nat) : State :=
  if s.boot.step = .held then s
  else (s.updBoot (fun b => { b with linkUp := true })).setRegN aHubPcieLink (width * 256 + speed)
def execPcieLinkReturn (width : BitVec 5) (speed : BitVec 3) (s : State) : Host.Outcome State Fault Refusal :=
  .next (s.linkReturned width.toNat speed.toNat)

/-! ## Status (R659) -/

def State.setBootState (s : State) (v : Nat) : State := s.setReg aBootStatus (setFld (s.reg aBootStatus) 28 4 v)
def State.bootFail (s : State) (code detail : Nat) : State :=
  let st := setFld (setFld (setFld (s.reg aBootStatus) 28 4 3) 16 8 detail) 0 8 code
  (s.setReg aBootStatus st).updBoot (fun b => { b with step := .failed })
/-- An SPI boot fails: BOOT_SRC 2 falls back to PCIe (R654). -/
def State.spiFail (s : State) (code : Nat) : State :=
  if s.boot.src = 2 then
    (s.setBits aBootStatus 0x4000000).updBoot (fun b => { b with src := 1, bpb := [], bpbRead := false, package := [], chunkEnd := false })
  else s.bootFail code 0
def State.booting (s : State) : Bool := s.boot.step == .started

/-- Every counted memory is written with zero and good check bits (08 R377). -/
def State.zeroFill (s : State) : State :=
  let tiles := Tab.mapV Tile.blank (fun _ t => { t with mem := [], poison := [] }) s.tiles
  let ksk := Tab.mapV KskState.init (fun _ k => { k with store := [] }) s.ksk
  let cams := Tab.mapV CamState.init (fun _ c => { c with lines := [] }) s.gth.cams
  let gth := { s.gth with store := [], cams := cams }
  let lodge := { s.lodge with l2 := [], scratch := [] }
  let mem := { s.mem with hubPoison := [], writeBacks := [] }
  let s1 : State := { s with tiles := tiles, ksk := ksk }
  { s1 with gth := gth, lodge := lodge, mem := mem }
/-- RESET_RELEASE: BOOT_SRC is sampled, the fuses are read, the memories are zeroed (steps 1–3). While the test port holds the
device in reset there is no release (15 R688). -/
def State.release_ (s : State) (src : BitVec 2) : State :=
  if s.boot.step ≠ .held || s.boot.tapHold then s
  else
    let fuse := { s.fuse with latched := s.fuse.state }
    let s1 := ({ s.zeroFill with fuse := fuse } : State).updBoot (fun b => { b with step := .started, src := src })
    if src = 3 then s1.bootFail 5 0 else s1.setRegN aBootStatus (2 ^ 28 + (if src = 1 then 2 ^ 26 else 0))
def execResetRelease (bootSrc : BitVec 2) (s : State) : Host.Outcome State Fault Refusal := .next (s.release_ bootSrc)

/-! ## Boot parameter block (R655, R626; 08 R703) -/

/-- The block is valid: MAGIC and CRC. -/
def bpbGood (b : List Byte) : Bool :=
  fieldAt b 0 4 == 0x42505A4B && fieldAt b 0xFC 4 == (crc32c (slice b 0 252)).toNat
/-- Thresholds of the block: 0 leaves the reset value; a set out of order is ignored. -/
def State.bpbThresholds (s : State) (h : Nat) : State :=
  let pick : Nat → Nat → Nat := fun o r => if s.bpbField o 2 = 0 then r else s.bpbField o 2 % 4096
  let l : Levels := ⟨pick 0x40 2161, pick 0x42 2389, pick 0x44 3072, pick 0x46 3299⟩
  if l.ordered then
    (((s.setRegN (aSup h + 0x14) l.failLo).setRegN (aSup h + 0x18) l.warnLo).setRegN (aSup h + 0x1C) l.warnHi).setRegN (aSup h + 0x20) l.failHi
  else s.setBits (aSup h) 0x10
/-- The pool in force: by R703 with HBM, the scratch range without. -/
def State.setPool (s : State) : State :=
  let want := s.bpbField 0x20 8
  let top := s.ident.hbmBytes
  let base := if want ≠ 0 && want % 4096 = 0 && decide (0x80000000 ≤ want) && decide (want < top) then want else top / 2
  let a := if s.ident.hasHbm then { s.alloc with poolBase := base, poolLen := top - base }
    else { s.alloc with poolBase := scratchBase + 0x200000, poolLen := 0x200000 }
  { s with alloc := a }
def State.applyBpb (s : State) (b : List Byte) : State :=
  let s1 := s.updBoot (fun x => { x with bpb := b, bpbRead := true })
  let s2 := (List.range s.ident.hubs).foldl (fun t h => t.bpbThresholds h) s1
  (s2.writeDrainUs (s2.bpbField 0x48 2)).setPool
/-- BPB_READ_COMPLETE: the first valid copy in NOR, or the block that the driver wrote. -/
def State.bpbRead (s : State) (timeout : Bool) : State :=
  if !s.booting || s.boot.bpbRead then s
  else if s.boot.src = 1 then
    (if s.boot.bpb.isEmpty then s else if bpbGood s.boot.bpb then s.applyBpb s.boot.bpb else s.bootFail 1 0)
  else if timeout then s.spiFail 4
  else
    let a := readBytes s.mem.spiNor 0 256
    let b := readBytes s.mem.spiNor 0x10000 256
    if bpbGood a then s.applyBpb a else if bpbGood b then s.applyBpb b else s.spiFail 1
def execBpbReadComplete (timeout : Bool) (s : State) : Host.Outcome State Fault Refusal := .next (s.bpbRead timeout)

/-! ## Steps 6–10 (R656–R658) -/

/-- HBM training ends; a stack that fails stops the boot (R659). A part without HBM has no such step. -/
def State.trained (s : State) (failed : BitVec 8) : State :=
  if !s.booting || !s.ident.hasHbm then s
  else if failed ≠ 0 then s.bootFail 3 failed.toNat
  else s.updBoot (fun b => { b with trained := true })
def execHbmTrainingComplete (failed : BitVec 8) (s : State) : Host.Outcome State Fault Refusal := .next (s.trained failed)
/-- HUB_BOOT_CHUNK in a PCIe boot: the block first, then the package; length 0 ends it (R658). -/
def State.bootChunk (s : State) (len : Nat) : State :=
  if !s.booting || s.boot.src ≠ 1 || s.boot.chunkEnd then s
  else
    let n := min 2048 len
    let bytes := slice ((List.range 512).flatMap (fun j => leBytes 4 (s.regN (aBootData + 4 * j)))) 0 n
    let s1 := s.setBits aBootStatus 0x8000000
    if s.boot.bpb.isEmpty then s1.updBoot (fun b => { b with bpb := bytes })
    else if len = 0 then s1.updBoot (fun b => { b with chunkEnd := true })
    else s1.updBoot (fun b => { b with package := b.package ++ bytes })
def execHubBootChunk (len : BitVec 12) (s : State) : Host.Outcome State Fault Refusal := .next (s.bootChunk len.toNat)
/-- A firmware package is good: its trailer and signature, under the rule of R453 (R656); a part without HBM holds 1 MiB (R657). -/
def State.packageGood (s : State) (p : List Byte) : Bool :=
  let tr := slice p (p.length - 128) 128
  let k := fieldAt tr 4 4
  decide (128 ≤ p.length) && (s.ident.hasHbm || decide (p.length ≤ 2 ^ 20)) && (!s.keysInUse || (fieldAt tr 0 4 == 0x4E474953 && decide (k < 4) && Tab.at_ 0 s.fuse.latched k == 1 &&
    ecdsaVerify (sha256 (p.take (p.length - 128))) (Tab.at_ 0 s.fuse.keys k) (BitVec.ofNat 256 (fieldAt tr 0x40 32))
      (BitVec.ofNat 256 (fieldAt tr 0x60 32))))
/-- FIRMWARE_VERIFY_COMPLETE: the first good package of the source; CAP_FW_VERSION will report it (02 R124). -/
def State.firmwareVerified (s : State) : State :=
  if !s.booting || !s.boot.bpbRead || s.boot.verified || (s.boot.src = 1 && !s.boot.chunkEnd) then s
  else
    let nor : Nat → Nat → List Byte := fun o l => readBytes s.mem.spiNor (s.bpbField o 4) (s.bpbField l 4)
    let one := if s.boot.src = 1 then s.boot.package else nor 0x0C 0x10
    let two := if s.boot.src = 1 || s.bpbField 0x14 4 = 0 then [] else nor 0x14 0x18
    let take : List Byte → State := fun p => s.updBoot (fun b => { b with package := p, verified := true, fw := Config.firmwareVersion p })
    if s.packageGood one then take one
    else if s.packageGood two then take two
    else if s.boot.src = 1 then s.bootFail 2 0
    else s.spiFail 2
def execFirmwareVerifyComplete (s : State) : Host.Outcome State Fault Refusal := .next s.firmwareVerified
/-- Slots that the host has acknowledged are erased; with all four unacknowledged the oldest goes, with FLUSH_OVERWRITTEN
(R639). An erased byte of NOR is not listed. -/
def State.eraseSlot (s : State) (k : Nat) : State :=
  let nor := zeroBytes s.mem.spiNor (s.bpbField 0x1C 4 + 65536 * k) 65536
  ({ s with mem := { s.mem with spiNor := nor } } : State).updSup (fun x => { x with slots := Tab.set_ (0, false) x.slots k (0, false) })
/-- The slot with the smallest FLUSH_SEQ. -/
def oldestSlot (l : Tab (Nat × Bool)) : Option (Nat × Nat) :=
  l.foldl (fun m e => some (match m with
    | none => (e.1, e.2.1)
    | some x => if e.2.1 < x.2 then (e.1, e.2.1) else x)) none
def State.sweepFlushes (s : State) : State :=
  let s0 := (match s.sup.last with
    | some x => s.setRegN aSupFlushLast (x.1 * 2 ^ 30 + x.2 % 2 ^ 30)
    | none => s)
  let acked := (s0.sup.slots.filter (fun e => e.2.2)).map (fun e => e.1)
  let s1 := acked.foldl (fun t k => t.eraseSlot k) s0
  if s1.sup.slots.length < 4 then s1
  else match oldestSlot s1.sup.slots with
  | some x => (s1.eraseSlot x.1).setSupBits 0x20
  | none => s1
/-- Firmware starts: it copies itself to the firmware region, applies SLICE, sets HDG_CTRL.LOCKED, sweeps the flush area; a
KZ4060 has its scratch ways locked (R657; 11 R497). The service cores' first PC is not given. -/
def State.firmwareStart (s : State) : State :=
  if !s.booting || !s.boot.verified || (s.ident.hasHbm && !s.boot.trained) then s
  else
    let s1 := if s.ident.hasHbm then s.hbmWrite 0 s.boot.package else s.setBits (aLodge 0 + 8) 0xFF0F
    let s2 := (List.range s.ident.hubs).foldl (fun t h =>
      let u := (List.range 12).foldl (fun u m => u.writeHdgCfg h (0x80 + 4 * m) (BitVec.ofNat 32 (s.bpbField (0x28 + 12 * h + m) 1))) t
      (u.setBits (aHdg h) 1).useFree.setCore (4 * h) { u.core (4 * h) with pc := u.free.setWidth 64 }) s1
    (s2.updBoot (fun b => { b with step := .running })).sweepFlushes
def execFirmwareStart (s : State) : Host.Outcome State Fault Refusal := .next s.firmwareStart
/-- The capability table is readable from now on (02 R97). -/
def execCapabilityPublish (s : State) : Host.Outcome State Fault Refusal :=
  .next (if s.boot.step = .running then s.updBoot (fun b => { b with step := .published }) else s)
/-- Boot is over (14 R653); the Groundskeeper's first pass starts (notes/assumptions/2.md). -/
def State.bootReady (s : State) : State :=
  if s.boot.step = .published && !s.stopping then
    let s1 : State := { s with mem := { s.mem with passStart := s.now, passRows := [] } }
    (s1.updBoot (fun b => { b with step := .ready })).setBootState 2
  else s
def execBootReady (s : State) : Host.Outcome State Fault Refusal := .next s.bootReady

end Sys2Proof.Machine
end

