-- ==== Sys2Proof/Machine/Pins.lean ====
section
/-!
DEFINITION. Multiplexed pins, PPS, the test port, PTP servo and encoder inputs (15 R677–R693; 13 R612, R613).
-/
namespace Sys2Proof.Machine

/-! ## Pin functions (R679–R683, R693) -/

/-- The pin is connected on the part (R668): MARK_OUT 0–15 are pins 0–15, MARK_XOFF 0–7 are pins 16–23. -/
def State.pinPresent (s : State) (k : Nat) : Bool :=
  if s.ident.has1Hub then k < 8 || (16 ≤ k && k < 20) else k < 24
def State.updPins (s : State) (f : PinState → PinState) : State := { s with pins := f s.pins }
def State.pinSwitching (s : State) (k : Nat) : Bool := (Tab.at_ none s.pins.switching k).isSome
/-- PIN_FUNC[k]: FUNC 6 and 7 are ignored as a whole; a change, or a write during a switch, starts the switch anew. -/
def State.writePin (s : State) (k : Nat) (v : Word) : State :=
  if !(s.pinPresent k) || s.pins.stopped || 6 ≤ fld v 0 3 then s
  else
    let new := v &&& 0x37
    if new = s.reg (aPinFunc k) && !(s.pinSwitching k) then s
    else (s.setReg (aPinFunc k) new).updPins (fun p =>
      { p with switching := Tab.set_ none p.switching k (some s.now), func := Tab.set_ 0 p.func k 0 })
def execPinFuncWrite (k : Pin) (v : Word) (s : State) : Host.Outcome State Fault Refusal := .next (s.writePin k.val v)
/-- Four REFCLK cycles after the switch began the new function takes the pin. -/
def State.pinSwitchEnd (s : State) (k : Nat) : State :=
  if (Tab.at_ none s.pins.switching k).any (fun t => decide (t + 50 ≤ s.now)) then
    let f := fld (s.reg (aPinFunc k)) 0 3
    s.updPins (fun p => { p with switching := Tab.set_ none p.switching k none, func := Tab.set_ 0 p.func k f })
  else s
def execPinSwitchEnd (k : Pin) (s : State) : Host.Outcome State Fault Refusal := .next (s.pinSwitchEnd k.val)
/-- Each second of PTP time: a pin in function 4 goes high. -/
def State.ppsEdge (s : State) : State :=
  let sec := s.ptp.fifths / 5000000000
  if s.pins.ppsAt.any (fun t => decide (sec ≤ t)) then s
  else
    let s1 := s.updPins (fun p => { p with ppsAt := some sec })
    if (List.range 24).any (fun k => Tab.at_ 0 s.pins.func k == 4) then s1.send .ppsOut else s1
def execPpsOut (s : State) : Host.Outcome State Fault Refusal := .next s.ppsEdge

/-! ## Test port (R687, R688) -/

/-- Instructions of the TAP: 0 none since Test-Logic-Reset, then in the order of R687. -/
def tapBypass : Nat := 1
def tapIdcode : Nat := 2
def tapSample : Nat := 3
def tapExtest : Nat := 4
def tapClamp : Nat := 5
/-- The identification code: silicon issue (A is 1), part code, and the fixed bits (R687). -/
def idcodeOf (p : Identity) : Word := BitVec.ofNat 32 (p.silicon.toNat % 16 * 2 ^ 28 + p.part.toNat * 2 ^ 12 + 0x5B3)
/-- Leaving EXTEST or CLAMP ends the hold; the device then boots afresh from its reset release. -/
def execTestLogicReset (s : State) : Host.Outcome State Fault Refusal :=
  .next ((s.updPins (fun p => { p with tapInstr := 0 })).updBoot (fun b => { b with tapHold := false }))
/-- EXTEST and CLAMP hold the device in reset. -/
def State.tapHolds (s : State) (i : Nat) : State :=
  ((s.updPins (fun p => { p with tapInstr := i })).updBoot (fun b => { b with tapHold := true })).deviceReset
def execExtest (s : State) : Host.Outcome State Fault Refusal := .next (s.tapHolds tapExtest)
def execClamp (s : State) : Host.Outcome State Fault Refusal := .next (s.tapHolds tapClamp)
/-- IDCODE selects the identification register. -/
def execIdcode (s : State) : Host.Outcome State Fault Refusal :=
  .next (s.updPins (fun p => { p with tapInstr := tapIdcode, tapData := idcodeOf s.ident }))
/-- BYPASS selects a one-bit register, 0 at capture. -/
def execBypass (s : State) : Host.Outcome State Fault Refusal :=
  .next (s.updPins (fun p => { p with tapInstr := tapBypass, tapData := 0 }))
/-- SAMPLE captures the boundary register, PRELOAD loads it. The order of its cells is not given: what is captured is free. -/
def execSamplePreload (preload : Option (BitVec 64)) (s : State) : Host.Outcome State Fault Refusal :=
  .next (match preload with
    | some v => s.updPins (fun p => { p with tapInstr := tapSample, preload := v })
    | none => s.useFree.updPins (fun p => { p with tapInstr := tapSample, tapData := s.free.setWidth 32 }))

/-! ## PTP servo and encoder inputs -/

/-- The servo's lock and its offset from the master; an offset above 1 µs begins an episode (13 R612, R613). -/
def execPtpServoUpdate (locked : Bool) (offsetNs : Int) (s : State) : Host.Outcome State Fault Refusal :=
  let ptp := { s.ptp with locked := locked, offset := offsetNs }
  .next (({ s with ptp := ptp } : State).offsetEpisode offsetNs)
/-- PIN_ENC_CFG[n].LOS (Table 15.6). -/
def execEncoderLos (n : Enc) (lost : Bool) (s : State) : Host.Outcome State Fault Refusal :=
  .next (if s.ident.encoders ≤ n.val then s
    else if lost then s.setBits (aPinEncCfg n.val) 0x100 else s.clrBits (aPinEncCfg n.val) 0x100)

end Sys2Proof.Machine
end

