-- ==== Sys2Proof/Machine/Flags.lean ====
section
/-!
DEFINITION. Status flags and every other word of BAR 0 that shows the machine rather than a stored value, and the reading of any
word without its side effects (00 R4, R11, R17, R694).
-/
namespace Sys2Proof.Machine

/-- The half of a 64-bit value that the word at offset `a` shows (00 R7). -/
def halfAt (a v : Nat) : Word := BitVec.ofNat 32 (if a % 8 = 0 then v else v / 2 ^ 32)

/-! ## Bell and ledger (01 Tables 1.4, 1.6) -/

/-- A line tick arrived within BEL_IDLE_PERIOD. -/
def State.ticking (s : State) : Bool := s.bell.lastTickAt.any (fun t => decide (s.now ≤ t + s.regN aBelIdlePeriod))
/-- Idle or drain bells are being issued. -/
def State.idling (s : State) : Bool :=
  s.bell.phase == .draining ||
  (!s.inFlight.isEmpty && s.bell.lastIdleAt.any (fun t => s.bell.lastTickAt.all (fun u => decide (u ≤ t))))
/-- BEL_STATUS (R79). DESIGN CHOICE (notes/assumptions/119.md): HOLD reads the tree as the sequencers see it, six ck after the
requests (13 Table 13.3), where the watchdog of R55 takes the tree at once (R50). -/
def State.belStatus (s : State) : Word :=
  s.reg aBelStatus ||| BitVec.ofNat 32 (b2n s.ledger.full * 128 + b2n s.bell.reversal.isSome * 32 + b2n s.idling * 16 +
    b2n s.treeNow * 8 + b2n (s.bell.phase != .closed) * 2 + b2n s.ticking)
/-- The band below which every band is in the queue or the holding store. -/
def State.bandLedgered (s : State) : Nat :=
  (s.bell.bands.map (fun b => b.num) ++ s.ledger.runs.map (fun r => r.first)).foldl (fun m b => min m b.toNat) s.bandNum.toNat
def State.readBel (s : State) (a : Nat) : Word :=
  if a = aBelStatus then s.belStatus
  else if a = aLdgStoreUsed then BitVec.ofNat 32 s.ledger.store.length
  else if a = aLdgOpenRuns then BitVec.ofNat 32 s.ledger.runs.length
  else if inRange a aLdgBandLedgered 0x11018 then halfAt a s.bandLedgered
  else s.reg a

/-! ## Queues (07 Tables 7.2, 7.4) -/

/-- The queue whose register block holds offset `a`. -/
def queueAt (a : Nat) : Option Nat :=
  if inRange a 0x100000 0x110000 then some ((a - 0x100000) / 256)
  else if inRange a 0x110000 0x120000 then some (256 + (a - 0x110000) / 256)
  else if inRange a 0x11100 0x11200 then some qLedger
  else if inRange a 0x34000 0x34100 then some qError
  else none
/-- The queue drives its MARK_XOFF pin (R345). -/
def State.pqXoff (s : State) (q : Nat) : Bool := s.pqEn q && bit (s.pqCfg q) 21
def State.pqStatus (s : State) (q : Nat) : Word :=
  let p := s.pq q
  s.reg (aPq q + 0x20) ||| BitVec.ofNat 32 (b2n (s.pqXoff q && p.above) * 64 + b2n p.above * 32 + b2n p.openR.isSome * 4 +
    b2n (p.occ == s.pqDepth q && p.occ != 0) * 2 + b2n (p.occ == 0))
/-- A word of a queue's block, `o` bytes into it. -/
def State.readPq (s : State) (q o : Nat) : Word :=
  let p := s.pq q
  if o = 0x00 then s.pqCfg q
  else if o = 0x08 then BitVec.ofNat 32 (s.pqDepth q)
  else if o = 0x18 then BitVec.ofNat 32 p.occ
  else if o = 0x1C then BitVec.ofNat 32 (s.pqDepth q - p.occ)
  else if o = 0x20 then s.pqStatus q
  else if inRange o 0x38 0x40 then halfAt o p.popStatus.toNat
  else if inRange o 0x40 0x80 then lineWord p.popData ((o - 0x40) / 4)
  else if o = 0xC4 then BitVec.ofNat 32 (p.wptr.toNat * 65536 + p.rptr.toNat)
  else if inRange o 0x80 0xC4 then 0
  else s.reg (aPq q + o)

/-! ## Terrace (03 Table 3.8; 05 Table 5.5) -/

def State.readTer (s : State) (d o : Nat) : Word :=
  if o = 0 then BitVec.ofNat 32 (d * 65536 + 48 * 256 + 32)
  else if o = 0x10 then
    BitVec.ofNat 32 (s.tiles.filter (fun e => e.1 / 1536 == d && !e.2.holdReq.isEmpty)).length
  else if o = 0x14 then BitVec.ofNat 32 ((List.range 6).foldl (fun n b => n + b2n (s.domOn (6 * d + b)) * 2 ^ b) 0)
  else s.reg (aTer d + o)

/-- TIL_STATE.STATE: a tile whose instruction fires, or waits for a port, is running (R179, R183). -/
def State.tilState (s : State) (t : Tile) : Nat :=
  match t.phase with
  | .unconfigured => 0
  | .drained => 4
  | .halted => 5
  | .faulted => 6
  | _ =>
    if s.hold.frozen then 3
    else if (t.busy != 0 && t.busyFires) || t.wait = .none_ || t.wait = .port then 1 else 2
def qStatusWord (t : Tile) (q : Nat) : Word :=
  BitVec.ofNat 32 ((t.queue q).length * 2 ^ 24 + Tab.at_ 0 t.io.hwmSnap q * 2 ^ 16 + t.bound q * 2 ^ 8 + b2n (t.held q) * 64 + t.depth q)
def tilFaultWord : Option TileFault → Word
  | none => 0
  | some f => BitVec.ofNat 32 (f.code.toNat * 2 ^ 16 + f.pc.toNat * 2 ^ 8 + f.gen.toNat * 64 + 1)
/-- The ck of a snapshot that are in none of the other four counters (R179, R180). -/
def idleCk (c : DieCtr) (t : Tile) : Nat :=
  ((c.elapsedSnap : Int) - c.heldSnap - t.snap.firing - t.snap.waitIn - t.snap.waitCredit).emod (2 ^ 48) |>.toNat
def State.readTil (s : State) (k o : Nat) : Word :=
  let t := s.tile k
  let c := s.die (k / 1536)
  let time : Nat → Word := fun v => halfAt o (v % 2 ^ 48)
  let arbor := tileKind k == 1
  if s.tileOn k = false then 0
  else if o = 0 then BitVec.ofNat 32 (tileKind k * 2 ^ 30 + k / 1536 * 2 ^ 16 + k % 1536 / 32 * 2 ^ 8 + k % 32)
  else if o = 4 then
    BitVec.ofNat 32 (t.gen.toNat * 2 ^ 30 + b2n t.shadowReady * 2 ^ 29 + b2n (!t.holdReq.isEmpty) * 2 ^ 28 + s.tilState t * 2 ^ 24 + t.pc.toNat)
  else if inRange o 0x08 0x10 then halfAt o t.band.toNat
  else if inRange o 0x10 0x18 then time t.snap.firing
  else if inRange o 0x18 0x20 then time t.snap.waitIn
  else if inRange o 0x20 0x28 then time t.snap.waitCredit
  else if inRange o 0x28 0x30 then time c.heldSnap
  else if inRange o 0x30 0x38 then time (idleCk c t)
  else if inRange o 0x38 0x40 then halfAt o (min t.snap.conflict (2 ^ 48 - 1))
  else if inRange o 0x40 0x60 then qStatusWord t ((o - 0x40) / 4)
  else if o = 0x60 then tilFaultWord t.fault
  else if inRange o 0x68 0x70 then halfAt o ((t.fault.map (fun f => f.band.toNat)).getD 0)
  else if o = 0x70 then (if arbor then BitVec.ofNat 32 (min t.snap.sat 0xFFFFFFFF) else 0)
  else if o = 0x74 then (if arbor then BitVec.ofNat 32 (min t.snap.accOvf 0xFFFFFFFF) else 0)
  else if o = 0x78 then (if tileKind k == 3 then BitVec.ofNat 32 (min t.snap.fsat 0xFFFFFFFF) else 0)
  else if o = 0x7C then (if tileKind k == 3 then BitVec.ofNat 32 (min t.snap.faccOvf 0xFFFFFFFF) else 0)
  else if inRange o 0x400 0x800 then ((t.cfg.map (fun x => x.prog.getD ((o - 0x400) / 4) 0)).getD 0)
  else 0
def State.readTerrace (s : State) (a : Nat) : Word :=
  let d := (a - 0x1000000) / 0x400000
  let o := (a - 0x1000000) % 0x400000
  if o < 0x100000 then s.readTer d o
  else if (o - 0x100000) / 0x800 < 1536 then s.readTil (d * 1536 + (o - 0x100000) / 0x800) (o % 0x800)
  else 0

/-! ## Gatehouse and Kiosk (06 Table 6.7) -/

/-- GTH_CAM_STATUS; the manual does not say when STREAMING is 1. -/
def State.camStatus (s : State) (n : Nat) : Word :=
  let c := s.cam n
  setFld (setFld (setFld (setFld (s.reg (aCam n + 4)) 31 1 (b2n (!c.lost))) 30 1 (if c.streamed then s.free.toNat else 0)) 29 1 (b2n c.bankWanted.isSome)) 28 1
    (b2n c.gap)
def State.readGth (s : State) (a : Nat) : Word :=
  let h := (a - 0x200000) / 0x80000
  let o := (a - 0x200000) % 0x80000
  if inRange o 0x100 0x300 && o % 0x40 == 4 then s.camStatus (8 * h + (o - 0x100) / 0x40)
  else if inRange o 0x10000 0x50000 then
    (let n := 8 * h + (o - 0x10000) / 0x8000
     s.ffWord (!(s.cam n).bank) n (o % 0x8000 / 4))
  else if o = 0x60010 then BitVec.ofNat 32 ((s.kiosk h).comps.filter (fun c => c.pixels != 0)).length
  else s.reg a

/-! ## Hedge and Lodge (09 Table 9.9, 14 R644; 11 Table 11.10) -/

/-- HDG_GATE: 1 for each gate of a present domain that is open. -/
def State.gateWord (s : State) (h : Nat) : Word :=
  BitVec.ofNat 32 ((List.range 26).foldl (fun n g =>
    let has := if g < 12 then decide (g / 6 < s.ident.dies) else if g < 20 then true else if g < 22 then s.ident.prmPorts != 0 else true
    if has && !(s.gateClosed h g) then n + 2 ^ g else n) 0)
def State.readHdg (s : State) (a : Nat) : Word :=
  let h := (a - 0x340000) / 0x20000
  let o := (a - 0x340000) % 0x20000
  if o = 0x0C then s.gateWord h
  else if inRange o 0xC0 0xF0 then
    BitVec.ofNat 32 ((s.hedge h).txns.filter (fun t => t.req.master.val == (o - 0xC0) / 4)).length
  else if inRange o 0x200 0x400 && o % 32 == 8 then s.reg a ||| 0xFFF
  else s.reg a
/-- LDG_CORE_STATE of one core. -/
def State.coreStateOf (s : State) (c : Nat) : Nat :=
  if s.domOn (12 + c) = false then 0
  else if c % 4 = 0 then 1
  else match (s.core c).task with
    | none => 2
    | some k => if (s.task k).st = 3 then 4 else 3
def State.readLodge (s : State) (a : Nat) : Word :=
  let h := (a - 0x380000) / 0x20000
  let o := (a - 0x380000) % 0x20000
  if o = 4 then BitVec.ofNat 32 ((List.range 4).foldl (fun n k => n + s.coreStateOf (4 * h + k) * 16 ^ k) 0)
  else if o = 0x14 then BitVec.ofNat 32 (s.freeSlots h)
  else s.reg a

/-! ## Contexts (12 Table 12.5) -/

/-- CTX_READY_NS with the time of tasks that are ready now. -/
def State.ctxReadyNs (s : State) (c : Nat) : Nat :=
  (s.reg64 (aCtxReadyNs c) + ((s.ctxTasks c).filter (fun k => (s.task k).st == 1)).foldl (fun n k => n + nsOf (s.task k).readyCk) 0) % 2 ^ 64
def State.readCtx (s : State) (a : Nat) : Word :=
  let c := (a - 0x20000) / 0x400
  let o := (a - 0x20000) % 0x400
  if o = 0x10 then BitVec.ofNat 32 (s.ctxWeight c)
  else if inRange o 0x200 0x208 then halfAt o (s.ctxCoreNs c)
  else if inRange o 0x208 0x210 then halfAt o (s.ctxReadyNs c)
  else if inRange o 0x210 0x218 then halfAt o (s.ctxVtime c)
  else s.reg a

/-! ## Groundskeeper (08 Table 8.6) -/

def State.stackFilled (s : State) (k : Nat) : Bool := decide (2 ^ 18 ≤ s.blocksFilled k)
def State.fillAllDone (s : State) : Bool := s.ident.hasHbm && (List.range s.ident.stacks).all s.stackFilled
def State.readGkp (s : State) (a : Nat) : Word :=
  if a = aGkpStatus then s.reg a ||| BitVec.ofNat 32 (b2n s.mem.repair * 4 + b2n s.fillAllDone * 2)
  else if a = aGkpPoisoned then BitVec.ofNat 32 (min s.poisonedWords 0xFFFFFFFF)
  else if inRange a 0x400030 0x400050 then
    (let k := (a - 0x400030) / 8
     halfAt a (b2n (s.stackFilled k) * 2 ^ 63 + s.blocksFilled k))
  else if inRange a 0x480000 0x4A0000 then
    (let k := (a - 0x480000) / 0x8000
     let w := a % 0x8000 / 4
     BitVec.ofNat 32 ((List.range 32).foldl (fun n j => n + b2n (s.blockFilled k (32 * w + j)) * 2 ^ j) 0))
  else s.reg a

/-! ## Pins (15 Table 15.6, R679–R683, R692) -/

/-- Park level: 1 and 3 are high (R680). -/
def parkLevel (park : Nat) : Bool := park % 2 == 1
/-- The strobe logic of MARK_OUT[m] holds the pin active. -/
def State.markActive (s : State) (m : Nat) : Bool := (s.strobesOf m).any (fun x => x.startedAt.isSome)
/-- The queues that name MARK_XOFF[j], in increasing number; the ledger queue counts as hub 0's last (R345). -/
def State.xoffQueues (s : State) (j : Nat) : List Nat :=
  ((List.range 256).map (fun i => 256 * (j / 4) + i) ++ (if j < 4 then [qLedger] else [])).filter (fun q =>
    s.pqXoff q && fld (s.pqCfg q) 19 2 == j % 4)
def State.xoffLevel (s : State) (j : Nat) : Bool :=
  match s.xoffQueues j with
  | [] => false
  | q :: qs => (s.pqCfg q).getLsbD 18 != (q :: qs).any (fun r => (s.pq r).above)
/-- The level that the primary function of pin `k` shows. -/
def State.primaryLevel (s : State) (k : Nat) : Bool :=
  if k < 16 then bit (s.reg (aMark k)) 30 != s.markActive k else s.xoffLevel (k - 16)
/-- The level at ball `k`; a ball that the device does not drive is the board's. -/
def State.ballLevel (s : State) (k : Nat) : Bool :=
  let w := s.reg (aPinFunc k)
  let board := s.free.getLsbD k
  if s.pinSwitching k then parkLevel (fld w 4 2)
  else match Tab.at_ 0 s.pins.func k with
    | 0 => if fld w 4 2 < 2 then parkLevel (fld w 4 2) else board
    | 1 => s.primaryLevel k
    | 2 => bit (s.reg aPinGpo) k
    | 4 => decide (s.ptp.fifths % 5000000000 < 50000000)
    | 5 => s.bell.lastTickAt.any (fun t => decide (s.now < t + 50))
    | _ => board
def State.readPin (s : State) (a : Nat) : Word :=
  if a = aPinGpi then
    BitVec.ofNat 32 ((List.range 24).foldl (fun n k => n + b2n (s.pinPresent k && s.ballLevel k) * 2 ^ k) 0)
  else if inRange a 0x15000 0x15060 then
    (let k := (a - 0x15000) / 4
     setFld (if s.pins.stopped then setFld (s.reg a) 0 3 0 else s.reg a) 31 1 (b2n (s.pinSwitching k)))
  else s.reg a

/-! ## Every word -/

/-- HUB_FUSE_STATE. -/
def State.fuseWord (s : State) : Word :=
  BitVec.ofNat 32 ((List.range 4).foldl (fun n k => n + Tab.at_ 0 s.fuse.state k % 4 * 4 ^ k) 0)
def State.published (s : State) : Bool := s.boot.step == .published || s.boot.step == .ready
/-- A word of the hub's other registers. -/
def State.readHub (s : State) (a : Nat) : Word :=
  if a = aSupPwrStatus then
    s.reg a ||| BitVec.ofNat 32 (b2n (!(s.power.turningOff.isEmpty && s.power.turningOn.isEmpty)))
  else if a = aFuseState then s.fuseWord
  else if inRange a 0x16300 0x16400 then lineWord (Tab.at_ 0 s.fuse.keys ((a - 0x16300) / 64)) (a % 64 / 4)
  else if inRange a 0x16240 0x16280 || inRange a 0x16800 0x17000 then 0
  else s.reg a

/-- The word at an aligned offset of BAR 0, without the effects of reading it. -/
def State.readReg (s : State) (a : Nat) : Word :=
  if s.ident.absentAt a then 0
  else match queueAt a with
  | some q => s.readPq q (a - aPq q)
  | none =>
    if a < 0x10000 then (if s.published then BitVec.ofNat 32 (fieldAt (s.ident.capTable s.boot.fw s.alloc.poolLen) a 4) else 0)
    else if a < 0x12000 then s.readBel a
    else if inRange a 0x15000 0x16000 then s.readPin a
    else if a < 0x20000 then s.readHub a
    else if a < 0x30000 then s.readCtx a
    else if inRange a 0x200000 0x300000 then s.readGth a
    else if inRange a aGrpCk 0x300018 then halfAt a (s.grpCk % 2 ^ 64)
    else if inRange a 0x340000 0x380000 then s.readHdg a
    else if inRange a 0x380000 0x3C0000 then s.readLodge a
    else if inRange a 0x400000 0x500000 then s.readGkp a
    else if inRange a 0x1000000 0x1800000 then s.readTerrace a
    else s.reg a
/-- The bit of a read that the manual leaves open comes from a free value: STREAMING of a camera, levels the board drives. -/
def readsFree (a : Nat) : Bool :=
  a == aPinGpi || (inRange a 0x200000 0x300000 && inRange (a % 0x80000) 0x100 0x300 && a % 0x40 == 4)

end Sys2Proof.Machine
end

