-- ==== Sys2Proof/Machine/Fuses.lean ====
section
/-!
DEFINITION. Key fuses (14 R660–R662, R665; 15 R673).
-/
namespace Sys2Proof.Machine

def fuseSlot (v : Word) : Nat := fld v 0 2
def fuseOp (v : Word) : Nat := fld v 8 2
/-- Key slots in state 1. -/
def State.keysProgrammed (s : State) : Nat := ((List.range 4).filter (fun k => Tab.at_ 0 s.fuse.state k == 1)).length
/-- The operation is refused (R662). -/
def State.fuseRefuses (s : State) (v : Word) : Bool :=
  let st := Tab.at_ 0 s.fuse.state (fuseSlot v)
  if fuseOp v = 1 then st != 0 else st != 1 || s.keysProgrammed == 1
/-- HUB_FUSE_CMD: the second write of the same command within 1 ms starts the operation or is refused (R661, R662). A
word that is no command, or one written during an operation, does nothing. -/
def State.fuseCmd (s : State) (v : Word) : State :=
  let upd : FuseState → State := fun f => { s with fuse := f }
  if fld v 16 16 ≠ 0x5AFE || (fuseOp v ≠ 1 && fuseOp v ≠ 2) || s.fuse.op.isSome then s
  else if s.fuse.cmdAt.any (fun x => x.2 == v && decide (s.now ≤ x.1 + msCk 1)) then
    if s.fuseRefuses v then (upd { s.fuse with cmdAt := none }).setReg aFuseStatus 4
    else (upd { s.fuse with cmdAt := none, op := some v }).setReg aFuseStatus 0
  else upd { s.fuse with cmdAt := some (s.now, v) }
def execHubFuseCmd (v : Word) (s : State) : Host.Outcome State Fault Refusal := .next (s.fuseCmd v)
/-- HUB_FUSE_DATA as written, a key as x then y. -/
def State.fuseData (s : State) : Line := lineOf ((List.range 16).flatMap (fun j => leBytes 4 (s.regN (aFuseData + 4 * j))))
/-- FUSE_OPERATION_COMPLETE: `good` is false where FUSE_VPP lay outside its programming level (15 R673). -/
def State.fuseDone (s : State) (good : Bool) : State :=
  match s.fuse.op with
  | none => s
  | some v =>
    let f := { s.fuse with op := none }
    if !good then ({ s with fuse := f } : State).setReg aFuseStatus 2
    else
      let k := fuseSlot v
      let f1 := if fuseOp v = 1 then { f with keys := Tab.set_ 0 f.keys k s.fuseData, state := Tab.set_ 0 f.state k 1 }
        else { f with state := Tab.set_ 0 f.state k 2 }
      ({ s with fuse := f1 } : State).setReg aFuseStatus 1
def execFuseOperationComplete (good : Bool) (s : State) : Host.Outcome State Fault Refusal := .next (s.fuseDone good)

end Sys2Proof.Machine
end

