-- ==== Sys2Proof/Machine/Host.lean ====
section
/-!
DEFINITION. The PCI Express endpoint, the doorbell window, contexts and submission rings (12 R532–R576).
-/
namespace Sys2Proof.Machine

/-- A read completes with a value and a status. -/
def State.answer (s : State) (v : DWord) (status : Nat) : State := { s with readValue := v, readStatus := status }

/-! ## The endpoint (R533–R537) -/

/-- An access to BAR 0 that is not a naturally aligned 32-bit or 64-bit access (R535). -/
def State.badAccess (s : State) (off be : Nat) (write : Bool) : State :=
  let s1 := s.count aHubPcieBadacc 1
  let s2 := if s.reg aHubPcieBadacc ≠ 0 then s1 else s1.emit { err 0x0704 with loc := hubLoc 0 8, d0 := off, d1 := be }
  if write then s2 else s2.answer 0 0
def execBar0MisalignedAccess (off : BitVec 25) (be : BitVec 8) (write : Bool) (s : State) : Host.Outcome State Fault Refusal :=
  .next (s.badAccess off.toNat be.toNat write)

/-- Size of BAR 2: 1 GiB to 64 GiB, at most the HBM present (Table 12.1); none without HBM. -/
def State.bar2Size (s : State) : Nat :=
  if s.ident.hasHbm then min s.ident.hbmBytes (2 ^ (30 + min 6 (Config.bar2Log - 30))) else 0
/-- The completion status of a Hedge response (Table 12.2). -/
def pcieStatus (code : Nat) : Nat := if code = 0 then 0 else if code = 1 || code = 4 then 2 else 1
/-- The device address of BAR 2 offset `off` (R537). -/
def State.bar2Addr (s : State) (off n : Nat) : Option Nat :=
  let a := s.reg64 aHubBar2Base + off
  if off + n ≤ s.bar2Size && a + n ≤ s.ident.hbmBytes then some a else none
/-- A host read met poison: EP, and the record names the endpoint (08 R374). -/
def State.hostPoison (s : State) (w : Nat) : State :=
  s.emit { s.poisonErr 0x0302 (.hbm w) true with loc := hubLoc 0 8, kind := 0 }
/-- A read of BAR 2 that the Hedge lets through finds `e` in its first word (08 R369–R371, R380). -/
def State.bar2Read (s : State) (a n : Nat) (e : Ecc) : State :=
  let s1 := s.eccFind (.hbm (a / 8)) e
  match s1.hbmPoisoned a n with
  | some w => { (s1.hostPoison w).useFree.answer 0 3 with readData := (lineBytes s1.free).take n }
  | none =>
    let r := s1.hbmRead a n
    { r.1.answer (BitVec.ofNat 64 (leNat r.2)) 0 with readData := r.2 }
/-- An access to BAR 2 (R536, R537); one that the Hedge holds back waits (notes/assumptions/66.md). -/
def State.bar2 (s : State) (off : Nat) (write : Bool) (n : Nat) (data : Line) (e : Ecc) : State :=
  match s.bar2Addr off n with
  | none => if write then s else { s.answer 0 1 with readData := [] }
  | some a =>
    match s.accessWaits 0 mPcie a n write with
    | some w => s.noteHeld w
    | none =>
      let g := s.hdgCheck 0 mPcie a n write false
      if write then (if g.2.1 = 0 then (g.1.writeParity e).hbmWrite a ((lineBytes data).take n) else g.1)
      else if g.2.1 ≠ 0 then { g.1.answer 0 (pcieStatus g.2.1) with readData := [] }
      else g.1.bar2Read a n e
def execBar2Access (off : DWord) (write : Bool) (bytes : Fin 65) (r : LineRead) (s : State) : Host.Outcome State Fault Refusal :=
  .next (s.bar2 off.toNat write bytes.val r.line r.ecc)

/-- What an AtomicOp writes (Table 12.1). -/
def atomicNew (k : AtomicKind) (n old a b : Nat) : Nat :=
  match k with
  | .fetchAdd => (old + a) % 256 ^ n
  | .swap => a % 256 ^ n
  | .cas => if old = a % 256 ^ n then b % 256 ^ n else old
/-- AtomicOps reach BAR 2 only (R533). One is a locked sequence: while the endpoint holds a lock its LOCK is refused (09 R437). -/
def State.atomic (s : State) (bar off : Nat) (k : AtomicKind) (n a b : Nat) : State :=
  if bar ≠ 2 || off % n ≠ 0 then s.answer 0 1
  else match s.bar2Addr off n with
  | none => s.answer 0 1
  | some d =>
    match s.accessWaits 0 mPcie d n true with
    | some w => s.noteHeld w
    | none =>
    let g := s.hdgCheck 0 mPcie d n true false
    if g.2.1 ≠ 0 then g.1.answer 0 (pcieStatus g.2.1)
    else if ((s.hedge 0).heldBy mPcie).isSome then s.answer 0 (pcieStatus 1)
    else match g.1.hbmPoisoned d n with
      | some w => (g.1.hostPoison w).useFree.answer (g.1.free.setWidth 64) 3
      | none =>
        let r := g.1.hbmRead d n
        let old := leNat r.2
        (r.1.hbmWrite d (leBytes n (atomicNew k n old a b))).answer (BitVec.ofNat 64 old) 0
def execAtomicop (bar : Fin 5) (off : DWord) (k : AtomicKind) (wide : Bool) (a b : DWord) (s : State) :
    Host.Outcome State Fault Refusal :=
  .next (s.atomic bar.val off.toNat k (if wide then 8 else 4) a.toNat b.toNat)

/-- The high-word write of HUB_BAR2_BASE: a value that is no multiple of the BAR 2 size is ignored (R537). -/
def State.writeBar2Base (s : State) (hi : Word) : State :=
  let v := (Tab.at_ 0 s.latch aHubBar2Base).toNat + 2 ^ 32 * hi.toNat
  if s.ident.hasHbm && v % s.bar2Size == 0 then s.setReg64 aHubBar2Base v else s
def execHubBar2BaseWrite (hi : Word) (s : State) : Host.Outcome State Fault Refusal := .next (s.writeBar2Base hi)

/-! ## MSI-X (R539) -/

/-- A vector that is unmasked sends its pending message, once. -/
def State.unmask (s : State) (v : Nat) : State :=
  let s1 := s.clrBits (aMsixTable v + 12) 1
  let a := aMsixPba + 4 * (v / 32)
  if bit (s1.reg a) (v % 32) then (s1.clrBits a (1#32 <<< (v % 32))).send (.msix v) else s1
def execMsixUnmask (v : Fin 2048) (s : State) : Host.Outcome State Fault Refusal := .next (s.unmask v.val)

/-! ## The doorbell window (R541, R549, R561, R570, R575) -/

def State.dbReject (s : State) (c : Nat) : State := s.count (aCtxDbReject c) 1
def State.destroying (s : State) (c : Nat) : Bool := s.ctxSt c == 3
/-- Remember an accepted doorbell until the ck ends: a DESTROY of the same ck comes first (R575). -/
def State.noteRang (s : State) (c r : Nat) : State :=
  let x := s.ctx c
  let old := if x.rangAt = s.now then x.rang else []
  s.setCtx c { x with rang := (r, s.reg (aCtxRing c r + 0x10)) :: old, rangAt := s.now }
/-- Doorbells of this ck are rejected after all: each TAIL is what it was, and a HEAD past it comes back to it. -/
def State.unring (s : State) (c : Nat) : State :=
  let x := s.ctx c
  if x.rangAt = s.now then
    x.rang.foldl (fun t e =>
      let a := aCtxRing c e.1
      let fetched := ringUsed (t.ringHead c e.1) e.2.toNat
      let t1 := if fetched ≤ ringUsed (t.ringTail c e.1) e.2.toNat then t.setReg (a + 0xC) e.2 else t
      (t1.setReg (a + 0x10) e.2).dbReject c) s
  else s
/-- DB_TAIL: accepted within the ring's credit (R549). -/
def State.doorbell (s : State) (c r : Nat) (v : Word) : State :=
  if s.destroying c then s.dbReject c
  else if ringUsed v.toNat (s.ringTail c r) ≤ s.ringCredit c r then (s.noteRang c r).setReg (aCtxRing c r + 0x10) v
  else
    let s1 := s.dbReject c
    if s.reg (aCtxDbReject c) ≠ 0 then s1 else s1.emit { err 0x0706 with ctx := c, loc := ringLoc, d0 := r }
def execDbTail (c : Ctx) (r : Ring) (v : Word) (s : State) : Host.Outcome State Fault Refusal := .next (s.doorbell c.val r.val v)
def execDbCancelTag (c : Ctx) (tag : Word) (s : State) : Host.Outcome State Fault Refusal :=
  .next (if s.destroying c.val then s.dbReject c.val else s.cancelWhere c.val (fun e => eTag e.words == tag))
def State.sigwinSignal (s : State) (c o n : Nat) : State :=
  if s.destroying c || !(s.ownsSig c o) then s.dbReject c else s.signal o n
def execSigwinWrite (c : Ctx) (o : SigIx) (n : BitVec 16) (s : State) : Host.Outcome State Fault Refusal :=
  .next (s.sigwinSignal c.val o.val n.toNat)
def State.sigwinWait (s : State) (c o : Nat) : State :=
  if s.destroying c || !(s.ownsSig c o) then (s.dbReject c).answer 0 0 else s.tryWait o
def execSigwinRead (c : Ctx) (o : SigIx) (s : State) : Host.Outcome State Fault Refusal := .next (s.sigwinWait c.val o.val)

/-! ## Lifecycle (R547, R548, R569–R571, R576) -/

/-- Return a run of words to 0. -/
def State.zeroWords (s : State) (a n : Nat) : State := (List.range n).foldl (fun t j => t.setReg (a + 4 * j) 0) s
/-- ACTIVE, with no fault remembered. -/
def State.activateCtx (s : State) (c : Nat) : State :=
  (s.setReg (aCtxState c) (setFld (setFld (s.reg (aCtxState c)) 0 4 1) 16 16 0)).zeroWords (aCtxFaultInfo c) 16
/-- CREATE: of a FREE context whose root has been written; its counters are zeroed. -/
def State.createCtx (s : State) (c : Nat) : State :=
  if s.ctxSt c = 0 && (s.ctx c).rootWritten then
    ((s.zeroWords (aCtx c + 0x200) 16).clrBits (aCtxState c) 0x200).activateCtx c
  else s
def execCtxCreate (c : Ctx) (s : State) : Host.Outcome State Fault Refusal := .next (s.createCtx c.val)
def State.destroyCtx (s : State) (c : Nat) : State := if s.ctxSt c = 1 || s.ctxSt c = 2 then (s.unring c).beginDestroy c else s
def execCtxDestroy (c : Ctx) (s : State) : Host.Outcome State Fault Refusal := .next (s.destroyCtx c.val)
/-- Steps 4 to 6, once no task of the context is left. -/
def execCtxDestroyComplete (c : Ctx) (s : State) : Host.Outcome State Fault Refusal :=
  .next (if s.destroying c.val && (s.ctxTasks c.val).isEmpty then s.endDestroy c.val else s)
/-- A core that still runs a task of the context is reset, its stores written back; the slot ends CANCELLED. -/
def State.resetTaskCore (s : State) (k : Nat) : State :=
  let s1 := (match (s.task k).core with
    | some c => (((s.sbDrain c).abandonWait c).setCore c CoreState.reset)
    | none => s)
  (s1.setTask k TaskState.free).setTaskSt k 5 0x0703 0
/-- The tasks that a disabled ring of context `c` cancelled 4 ms ago and that still run. -/
def State.lateTasks (s : State) (c : Nat) : List Nat :=
  (s.ctxTasks c).filter (fun k => (s.task k).objAt.any (fun t => decide (t + msCk 4 ≤ s.now)))
/-- The core of such a task is reset, and the task and its entry end CANCELLED. -/
def State.resetLate (s : State) (k : Nat) : State :=
  match (s.task k).core with
  | some c => ((((s.sbDrain c).abandonWait c).setCore c CoreState.reset)).endTask k 5 0x0703 0
  | none => s.endTask k 5 0x0703 0
/-- The disabling of a ring that has not completed at 4 ms escalates likewise; step 3 is what it lacks. -/
def State.escalateRing (s : State) (c : Nat) : State :=
  match s.lateTasks c with
  | [] => s
  | late => ((late.foldl (fun t k => t.resetLate k) s).setBits (aCtxState c) 0x200).emit
      { err 0x0702 with ctx := c, loc := ringLoc, d0 := 8 }
/-- R571. Bit n of DETAIL[0] stands for step n. -/
def State.escalate (s : State) (c : Nat) : State :=
  let live := s.ctxTasks c
  let steps := (if live.isEmpty then 0 else 8) + 16 + 32 + 64
  let s1 := live.foldl (fun t k => t.resetTaskCore k) s
  let s2 := (s1.ownedQueues c).foldl (fun t q => t.pqResetAll q) s1
  let s3 := (s2.endDestroy c).setBits (aCtxState c) 0x200
  s3.emit { err 0x0702 with ctx := c, loc := ringLoc, d0 := steps }
def execCtxDestroyEscalated (c : Ctx) (s : State) : Host.Outcome State Fault Refusal :=
  .next (match (s.ctx c.val).destroyAt with
    | some t => if s.destroying c.val && decide (t + msCk 4 ≤ s.now) then s.escalate c.val else s
    | none => s.escalateRing c.val)
/-- CLEAR_FAULT: HEAD becomes TAIL on every ring (R569), once every discard has ended (R576). -/
def State.clearFault (s : State) (c : Nat) : State :=
  if s.ctxSt c = 2 && (s.ctxTasks c).isEmpty && (s.ctx c).entries.isEmpty then
    ((List.range 8).foldl (fun t r => t.setRegN (aCtxRing c r + 0xC) (t.ringTail c r)) s).activateCtx c
  else s
def execCtxClearFault (c : Ctx) (s : State) : Host.Outcome State Fault Refusal := .next (s.clearFault c.val)
/-- The model keeps no translations (notes/assumptions/8.md): TLB_BUSY sets and clears (R547). -/
def State.tlbInv (s : State) (c : Nat) : State := s.setBits (aCtxState c) 0x100
def execCtxTlbInv (c : Ctx) (s : State) : Host.Outcome State Fault Refusal := .next (s.tlbInv c.val)
def execTlbInvComplete (c : Ctx) (s : State) : Host.Outcome State Fault Refusal := .next (s.clrBits (aCtxState c.val) 0x100)
def execCtxOwnWrite (c : Ctx) (queues : Bool) (word : Fin 16) (v : Word) (s : State) : Host.Outcome State Fault Refusal :=
  .next (s.writeOwn c.val queues word.val v)

/-! ## Rings (R549–R556, R571) -/

/-- Clearing EN: what has been fetched and has not completed ends CANCELLED (R571). -/
def State.disableRing (s : State) (c r : Nat) : State :=
  if s.ringEn c r then
    (((s.ctxTasks c).filter (fun k => (s.task k).origin.any (fun o => o.1 == c && o.2.1 == r))).foldl
      (fun t k => t.setTask k { t.task k with objAt := some t.now }) (s.clrBits (aCtxRing c r + 8) 0x80000000)).cancelWhere c
      (fun e => e.ring == r)
  else s
def execRingDisable (c : Ctx) (r : Ring) (s : State) : Host.Outcome State Fault Refusal := .next (s.disableRing c.val r.val)
def execRingEntryFetch (c : Ctx) (r : Ring) (s : State) : Host.Outcome State Fault Refusal :=
  .next (s.orWait (s.fetchEntry c.val r.val))
/-- Start the ring's next entry when it is an entry `op` (R554). -/
def State.ringStart (s : State) (c r op : Nat) (f : State → REntry → State) : State :=
  match s.nextEntry c r with
  | some e => if eOp e.words = op then f s e else s
  | none => s
def State.entryDone (s : State) (c : Nat) (e : REntry) : State := s.updEntry c e.ring e.index (fun x => x.done 4 0)
def execRingNop (c : Ctx) (r : Ring) (s : State) : Host.Outcome State Fault Refusal :=
  .next (s.ringStart c.val r.val 0 (fun t e => t.entryDone c.val e))
def execRingTask (c : Ctx) (r : Ring) (s : State) : Host.Outcome State Fault Refusal :=
  .next (s.ringStart c.val r.val 1 (fun t e => t.entryTask c.val e))
def execRingCopy (c : Ctx) (r : Ring) (s : State) : Host.Outcome State Fault Refusal :=
  .next (s.ringStart c.val r.val 6 (fun t e => t.entryTask c.val e))
def execRingSignal (c : Ctx) (r : Ring) (s : State) : Host.Outcome State Fault Refusal :=
  .next (s.ringStart c.val r.val 2 (fun t e => (t.signal (eObject e.words) (eField e.words 0xC 2)).entryDone c.val e))
/-- WAIT_SIG takes a count that no earlier claimant is owed, or waits (R555). -/
def State.waitSig (s : State) (c : Nat) (e : REntry) : State :=
  let o := eObject e.words
  if s.sigEn o && (s.sigWaiters o).isEmpty && s.spareForRings o != 0 then ((s.sigTake o).1).entryDone c e
  else s.updEntry c e.ring e.index (fun x => { x with phase := .waiting })
def execRingWaitSig (c : Ctx) (r : Ring) (s : State) : Host.Outcome State Fault Refusal :=
  .next (s.ringStart c.val r.val 3 (fun t e => t.waitSig c.val e))
def execRingWaitGrant (o : SigIx) (s : State) : Host.Outcome State Fault Refusal := .next (s.grantRing o.val)
def execRingWaitFence (c : Ctx) (r : Ring) (s : State) : Host.Outcome State Fault Refusal :=
  .next (s.orWait (s.ringStart c.val r.val 4 (fun t e => t.pollFence c.val e)))
/-- The engine reads the fence word of the ring's open WAIT_FENCE again (R555). -/
def execFencePoll (c : Ctx) (r : Ring) (s : State) : Host.Outcome State Fault Refusal :=
  .next (match (s.ringEntries c.val r.val).find? (fun e => e.phase == .waiting && eOp e.words == 4) with
    | some e => s.orWait (s.pollFence c.val e)
    | none => s)
def execRingWriteFence (c : Ctx) (r : Ring) (s : State) : Host.Outcome State Fault Refusal :=
  .next (s.orWait (s.ringStart c.val r.val 5 (fun t e =>
    (t.fenceWrite 0 c.val (eField e.words 8 8) (eField e.words 0x10 8)).entryDone c.val e)))
def execEntryComplete (c : Ctx) (r : Ring) (index : Word) (s : State) : Host.Outcome State Fault Refusal :=
  .next (s.completeEntry c.val r.val index)

end Sys2Proof.Machine
end

