-- ==== Sys2Proof/Machine/Power.lean ====
section
/-!
DEFINITION. Power domains (14 R641–R645; 08 R378; 09 R442–R446).
-/
namespace Sys2Proof.Machine

/-! ## Control writes -/

/-- Bed `b` (0–11) holds a tile of the active image, or of an image in load STATE 1–4 (R641). -/
def State.bedUsed (s : State) (b : Nat) : Bool :=
  (s.activeValid && s.load.active.any (fun i => i.usesBed b)) ||
  (decide (1 ≤ s.loadState) && decide (s.loadState ≤ 4) && s.load.staged.any (fun i => i.usesBed b))
/-- One control bit `k` of domain `n` takes value `v`. -/
def State.setDomain (s : State) (a k n : Nat) (v : Bool) : State :=
  if bit (s.reg a) k = v then s
  else if v then (s.setBits a (1#32 <<< k)).beginOn n
  else (s.clrBits a (1#32 <<< k)).beginOff n
/-- Beds are turned on, off, or kept on with REFUSED where R641 does not allow them off (R642). -/
def State.writeBeds (s : State) (v : Nat) : State :=
  (List.range (6 * s.ident.dies)).foldl (fun t b =>
    let on := v / 2 ^ b % 2 == 1
    if !on && bit (t.reg aSupPwrBed) b && t.bedUsed b then t.setBits aSupPwrStatus 0x80000000
    else t.setDomain aSupPwrBed b b on) s
def execSupPwrBedWrite (v : BitVec 12) (s : State) : Host.Outcome State Fault Refusal := .next (s.writeBeds v.toNat)
def State.writeCamPower (s : State) (v : Nat) : State :=
  (List.range s.ident.camPorts).foldl (fun t n => t.setDomain aSupPwrCam n (20 + n) (v / 2 ^ n % 2 == 1)) s
def execSupPwrCamWrite (v : BitVec 16) (s : State) : Host.Outcome State Fault Refusal := .next (s.writeCamPower v.toNat)
def State.writePrmPower (s : State) (v : Nat) : State :=
  (List.range s.ident.prmPorts).foldl (fun t p => t.setDomain aSupPwrPrm p (36 + p) (v / 2 ^ p % 2 == 1)) s
def execSupPwrPrmWrite (v : BitVec 4) (s : State) : Host.Outcome State Fault Refusal := .next (s.writePrmPower v.toNat)

/-! ## Power removed and restored -/

/-- The control bit of domain `n` asks for power. -/
def State.wantsPower (s : State) (n : Nat) : Bool :=
  if n < 12 then bit (s.reg aSupPwrBed) n
  else if n < 20 then s.corePwrBit (n - 12)
  else if n < 36 then bit (s.reg aSupPwrCam) (n - 20)
  else bit (s.reg aSupPwrPrm) (n - 36)
/-- A request is inside the gate of domain `n`: a granted transfer to its registers, of either hub, or any of its core (R643;
09 R442, R443). -/
def State.gateBusy (s : State) (n : Nat) : Bool :=
  (s.domGates n).any (fun g => (s.hedge g.1).txns.any (fun x =>
    if 12 ≤ n && n < 20 then x.req.master.val == mCore (n - 12)
    else x.target != tHubx && x.st == .granted && (match physOf x.req.addr.toNat with
      | .reg off => gateOf off == some g.2
      | _ => false)))
/-- The domain's unit has stopped: no task on the core, its store buffer empty (11 R525). -/
def State.domQuiet (s : State) (n : Nat) : Bool :=
  !(s.gateBusy n) && (!(12 ≤ n && n < 20) || ((s.core (n - 12)).task.isNone && (s.core (n - 12)).sb.isEmpty && !(s.core (n - 12)).porter))
/-- What a domain loses with its power: a bed its tiles' contents, a core its state, a camera port its line in arrival and
its link, a Promenade port its link (R285, R378, R645). -/
def State.losePower (s : State) (n : Nat) : State :=
  if n < 12 then
    let tiles := s.tiles.filter (fun e => tileBed e.1 != n)
    let gone : MemWord → Bool := fun w => match w with
      | .tile t _ => tileBed t.key == n
      | _ => false
    let mem := { s.mem with writeBacks := s.mem.writeBacks.filter (fun b => !(gone b.word)), repair := s.mem.repair && !(s.repairWord.any gone) }
    ({ s with tiles := tiles, mem := mem } : State).holdUpdate
  else if n < 20 then s.setCore (n - 12) CoreState.reset
  else if n < 36 then (s.camStop (n - 20)).loseLink (n - 20)
  else s.linkDown (n - 36) false
def State.powerRemoved (s : State) (n : Nat) : State :=
  if s.power.turningOff.contains n && s.domQuiet n then
    let off := n :: s.power.off
    let turningOff := s.power.turningOff.filter (fun m => m != n)
    let turningOn := if s.wantsPower n then s.power.turningOn ++ [n] else s.power.turningOn
    ({ s with power := ⟨turningOff, turningOn, off⟩ } : State).losePower n
  else s
def execDomainPowerRemoved (d : Domain) (s : State) : Host.Outcome State Fault Refusal := .next (s.powerRemoved (domNum d))
/-- The domain has power. -/
def State.powerBack (s : State) (n : Nat) : State :=
  let p : PowerState := { s.power with off := s.power.off.filter (fun m => m != n), turningOn := s.power.turningOn.filter (fun m => m != n) }
  { s with power := p }
/-- A bed is zero-filled before its tiles accept a configuration; the beds of a die come one at a time, in order (R642; 08
R378). -/
def State.bedFilled (s : State) (n : Nat) : State :=
  if s.power.turningOn.contains n && (List.range n).all (fun m => m / 6 != n / 6 || !(s.power.turningOn.contains m)) then s.powerBack n
  else s
def execBedZeroFillComplete (d : Die) (b : Fin 6) (s : State) : Host.Outcome State Fault Refusal :=
  .next (s.bedFilled (domNum (.bed d b)))
/-- The domain is up: its gate opens (09 R445). A bed must have been filled. -/
def State.powerOn (s : State) (n : Nat) : State :=
  if n < 12 then (if s.domOn n && !(s.power.turningOff.contains n) then s.openGates n else s)
  else if s.power.turningOn.contains n then (s.powerBack n).openGates n
  else s
def execDomainPowerOnComplete (d : Domain) (s : State) : Host.Outcome State Fault Refusal := .next (s.powerOn (domNum d))

end Sys2Proof.Machine
end

