-- ==== Sys2Proof/Machine/LodgeRegs.lean ====
section
/-!
DEFINITION. Lodge control registers with effects of their own: core power (11 R495, R525) and L2 ways locked as scratch (11
R497).
-/
namespace Sys2Proof.Machine

/-- LDG_CORE_PWR: bit 0 ignores 0 (R495); a core turned off goes when its task ends (R525). -/
def State.writeCorePwr (s : State) (h v : Nat) : State :=
  if h < s.ident.hubs then
    (List.range 4).foldl (fun t k => t.setDomain (aLodge h) k (12 + 4 * h + k) (k == 0 || v / 2 ^ k % 2 == 1)) s
  else s

/-- Write back and invalidate the lines that lie in way `k`; which lines those are is open. -/
def State.flushWay (s : State) (h k : Nat) : State :=
  ((Tab.at_ [] s.lodge.l2 h).filter (fun e => Config.l2InWay s.fresh k e.1)).foldl (fun t e => t.l2Flush h e.1) s.useFree
/-- The scratch that way `k` serves holds zeros with good check bits. -/
def State.zeroWay (s : State) (h k : Nat) : State :=
  let o := k * 0x40000
  let l := { s.lodge with scratch := Tab.set_ [] s.lodge.scratch h (zeroBytes (Tab.at_ [] s.lodge.scratch h) o 0x40000) }
  ({ s with lodge := l } : State).clearL2Poison h (scratchBase + o) 0x40000
/-- LDG_L2_LOCK: each way newly locked becomes scratch (R497). -/
def State.writeL2Lock (s : State) (h v : Nat) : State :=
  if h < s.ident.hubs then
    (List.range 16).foldl (fun t k =>
      if v / 2 ^ k % 2 == 1 && !(t.wayLocked h k) then ((t.flushWay h k).zeroWay h k).setBits (aLodge h + 8) (1#32 <<< k)
      else t) s
  else s

def execLdgCorePwrWrite (h : Hub) (v : BitVec 4) (s : State) : Host.Outcome State Fault Refusal :=
  .next (s.writeCorePwr h.val v.toNat)
def execLdgL2LockWrite (h : Hub) (v : BitVec 16) (s : State) : Host.Outcome State Fault Refusal :=
  .next (s.writeL2Lock h.val v.toNat)

end Sys2Proof.Machine
end

