-- ==== Sys2Proof/Machine/Memory.lean ====
section
/-!
DEFINITION. The Groundskeeper, the HBM fill and the device allocator's requests (08 R370–R406).
-/
namespace Sys2Proof.Machine

/-- The part has the word, and its bed has power. -/
def State.wordPresent (s : State) (w : MemWord) : Bool :=
  match w with
  | .tile t k => decide (t.die.val < s.ident.dies) && !(s.power.off.contains (t.key / 1536 * 6 + t.key % 1536 / 256)) &&
      decide (8 * k.val < tileMemBytes t.key)
  | .hbm k => decide (8 * k < s.ident.hbmBytes)
  | .kiosk h _ => s.ident.hasKiosk h.val
  | .engine h _ => decide (h.val < s.ident.hubs)
  | .l2 h _ => decide (h.val < s.ident.hubs)

/-! ## Slots and their order (R396, R398) -/

/-- The word lies in a cistern: its background accesses take the reserved ck (R396). -/
def inCistern : MemWord → Bool
  | .tile t _ => tileKind t.key == 2
  | _ => false
/-- The slot of a cistern is free in this ck: P1 for a scrub read, P0 for a write-back or repair. Other memories wait for none
here (notes/assumptions/114.md). -/
def State.slotFree (s : State) (w : MemWord) (scrub : Bool) : Bool :=
  !(inCistern w) || (reservedCk s.now && !(s.mem.slots.contains (memUnit w, scrub)))
def State.takeSlot (s : State) (w : MemWord) (scrub : Bool) : State :=
  if inCistern w then { s with mem := { s.mem with slots := (memUnit w, scrub) :: s.mem.slots } } else s
/-- Both words lie in one HBM stack. -/
def sameStack : MemWord → MemWord → Bool
  | .hbm k, .hbm j => hbmStack (8 * k) == hbmStack (8 * j)
  | _, _ => false
/-- A repair is to come first at the stack of `w` (R398). -/
def State.repairFirst (s : State) (w : MemWord) : Bool := s.mem.repair && s.repairWord.any (fun r => sameStack r w)
/-- A repair, a write-back or the fill is to come before a scrub read of the stack of `w` (R398). -/
def State.beforeScrub (s : State) (w : MemWord) : Bool :=
  match w with
  | .hbm k => s.repairFirst w || s.mem.writeBacks.any (fun b => sameStack b.word w) || decide (s.blocksFilled (hbmStack (8 * k)) < 262144)
  | _ => false

/-! ## The pass (R400, R401) -/

/-- The memory of a word whose rows a pass counts, and its row. -/
def passPlace : MemWord → Option (Nat × Nat)
  | .tile t k => some (t.key, k.val / 8)
  | .hbm k => some (4096 + hbmStack (8 * k), k / 8 % 2 ^ 28)
  | _ => none
/-- Ranges [from, to) in rising order with row `r` added. -/
def addRow (r : Nat) : List (Nat × Nat) → List (Nat × Nat)
  | [] => [(r, r + 1)]
  | x :: xs =>
    if r + 1 < x.1 then (r, r + 1) :: x :: xs
    else if r + 1 = x.1 then (r, x.2) :: xs
    else if r < x.2 then x :: xs
    else if r = x.2 then (match xs with
      | y :: ys => if y.1 = r + 1 then (x.1, y.2) :: ys else (x.1, r + 1) :: xs
      | [] => [(x.1, r + 1)])
    else x :: addRow r xs
/-- Every row of every cistern, weight store, fountain store and stack that has power has been read (R400). -/
def State.passWhole (s : State) : Bool :=
  (List.range (1536 * s.ident.dies)).all (fun k => tileMemBytes k == 0 || !(s.tileOn k) ||
    Tab.at_ [] s.mem.passRows k == [(0, tileMemBytes k / 64)]) &&
  (List.range s.ident.stacks).all (fun k => Tab.at_ [] s.mem.passRows (4096 + k) == [(0, 2 ^ 28)])
/-- A pass ends: its length, and PASS_LATE where it took longer than GKP_PASS_MS; the next begins (R401). -/
def State.endPass (s : State) : State :=
  let len := s.now - s.mem.passStart
  let s1 := s.setRegN aGkpLastPassMs (len / msCk 1)
  let s2 := if msCk (s.regN aGkpPassMs) < len then s1.setBits aGkpStatus 1 else s1
  { s2 with mem := { s2.mem with passStart := s.now, passRows := [] } }
/-- The row of `w` has been read in this pass. -/
def State.passRead (s : State) (w : MemWord) : State :=
  match passPlace w with
  | none => s
  | some p =>
    let s1 : State := { s with mem := { s.mem with passRows := Tab.set_ [] s.mem.passRows p.1 (addRow p.2 (Tab.at_ [] s.mem.passRows p.1)) } }
    if s1.passWhole then s1.endPass else s1
/-- A pass that has taken longer than GKP_PASS_MS is late (R401). -/
def State.passCk (s : State) : State :=
  if s.boot.step = .ready && decide (msCk (s.regN aGkpPassMs) < s.now + 1 - s.mem.passStart) then s.setBits aGkpStatus 1 else s

/-! ## Scrub reads (R370, R371, R373, R380, R383, R402) -/

/-- A scrub read finds a fresh uncorrectable error: poison, one count, one LATENT_UE. -/
def State.latentUe (s : State) (w : MemWord) : State :=
  let r := s.findUe w
  if r.2 then r.1.emit (s.poisonErr 0x0301 w false) else r.1
/-- What a read of a present word that is not poisoned finds. -/
def State.scrubFound (s : State) (w : MemWord) (e : Ecc) : State :=
  let isHbm := (match w with
    | .hbm _ => true
    | _ => false)
  match e with
  | .clean => s
  | .correctable => s.correct w
  | .uncorrectable => s.latentUe w
  | .parityOnce => if isHbm then s.count aGkpHbmParity 1 else s
  | .parityTwice => if isHbm then (s.count aGkpHbmParity 2).latentUe w else s
/-- The L2 of the word's hub is locked by a transfer (09 R440). -/
def State.l2Locked (s : State) (w : MemWord) : Bool :=
  match w with
  | .l2 h _ => (Tab.at_ none (s.hedge h.val).locks tL2).isSome
  | _ => false
/-- SCRUB_READ of the 64 B row of `w`, which finds `e` in `w` and nothing new in the row's other words. An unfilled block is not
read. -/
def State.scrub (s : State) (w : MemWord) (e : Ecc) : State :=
  if bit (s.reg aGkpCtrl) 31 = false || !(s.wordPresent w) || !(s.slotFree w true) || s.beforeScrub w || s.l2Locked w then s
  else ((if s.isPoisoned w then s else s.scrubFound w e).takeSlot w true).passRead w
def execScrubRead (w : MemWord) (e : Ecc) (s : State) : Host.Outcome State Fault Refusal := .next (s.scrub w e)
/-- GKP_PASS_MS, clamped (R400). -/
def State.writePassMs (s : State) (v : Word) : State := s.setRegN aGkpPassMs (max 2000 (min 10000 v.toNat))
def execGkpPassMsWrite (v : Word) (s : State) : Host.Outcome State Fault Refusal := .next (s.writePassMs v)

/-! ## Write-back and repair (R372, R403, R404) -/

/-- The eight words of a word's row. -/
def rowWords : MemWord → List MemWord
  | .tile t k => (List.range 8).map (fun j => .tile t (Fin.ofNat 65536 (k.val / 8 * 8 + j)))
  | .hbm k => (List.range 8).map (fun j => .hbm (k / 8 * 8 + j))
  | .kiosk h k => (List.range 8).map (fun j => .kiosk h (k / 8 * 8 + j))
  | .engine h k => (List.range 8).map (fun j => .engine h (k / 8 * 8 + j))
  | .l2 h k => (List.range 8).map (fun j => .l2 h (k / 8 * 8 + j))
/-- A write-back can go: its slot is free, and no repair is to come before it (R396, R398). -/
def State.mayWriteBack (s : State) (b : WriteBack) : Bool := s.slotFree b.word false && !(s.repairFirst b.word)
/-- The list without its first element equal to `b`. -/
def dropWriteBack (b : WriteBack) : List WriteBack → List WriteBack
  | [] => []
  | x :: xs => if x = b then xs else x :: dropWriteBack b xs
/-- The oldest write-back that can go is written: the corrected word, so that the other words of its row keep their poison. -/
def State.doWriteBack (s : State) : State :=
  match s.mem.writeBacks.find? s.mayWriteBack with
  | none => s
  | some b =>
    let s1 : State := { s with mem := { s.mem with writeBacks := dropWriteBack b s.mem.writeBacks } }
    let bad := (rowWords b.word).filter (fun w => w != b.word && s.isPoisoned w)
    if s.wordPresent b.word then (bad.foldl (fun t w => t.setPoison w) (s1.putRow b.word b.row)).takeSlot b.word false else s1
def execWriteBack (s : State) : Host.Outcome State Fault Refusal := .next s.doWriteBack
def State.repairGo (s : State) : State := { s with mem := { s.mem with repair := true } }
def execGkpRepairGo (s : State) : Host.Outcome State Fault Refusal := .next s.repairGo
/-- The repair writes its whole row, which the Groundskeeper's own write-back of the row must not undo. -/
def State.doRepair (s : State) : State :=
  if s.mem.repair = false then s
  else
    let s1 : State := { s with mem := { s.mem with repair := false } }
    match s.repairWord with
    | some w =>
      if s.slotFree w false = false then s
      else if s.wordPresent w then ((s1.cancelRow w).putRow w (lineBytes s.mem.repairData)).takeSlot w false
      else s1
    | none => s1
def execRepairWrite (s : State) : Host.Outcome State Fault Refusal := .next s.doRepair

/-! ## Fill (R382) -/

/-- The next block of stack `k` in increasing order. -/
def execFillBlock (k : Stack) (s : State) : Host.Outcome State Fault Refusal :=
  .next (if s.boot.trained && k.val < s.ident.stacks && Tab.at_ 0 s.mem.filled k.val < 262144
    then s.fillOne k.val (Tab.at_ 0 s.mem.filled k.val) else s)

/-! ## Allocator (R389, R391) -/

/-- Answer one request, a handle whose USER bytes hold OP, ALIGN, CTX, STATUS and REPLY_Q (07 R355; Tables 8.4 and 8.5).
The STATUS for another OP is not stated; it is a free value. -/
def State.answerAlloc (s : State) (item : Line) : State :=
  let h := handleOf item
  let op := fieldAt h.user 0 1
  let ctx := fieldAt h.user 2 1
  let q := fieldAt h.user 6 2
  let r : State × Nat × Nat :=
    if op = 1 then s.allocate ctx h.length (fieldAt h.user 1 1)
    else if op = 2 then (let f := s.freeAlloc ctx h.addr; (f.1, f.2, 0))
    else (s.useFree, s.free.toNat % 65536, 0)
  let reply : Handle := { h with addr := r.2.2, length := if r.2.1 = 0 then h.length else 0,
                                 user := slice h.user 0 4 ++ leBytes 2 r.2.1 ++ slice h.user 6 34 }
  if q < 512 then (r.1.offer q ⟨lineOfHandle reply, 0, true, true, 0x10, 0⟩).1 else r.1
/-- The allocator takes the next request of queue `q`. A request with POISON is not one that it can read. -/
def State.allocRequest (s : State) (q : Nat) : State :=
  let r := s.popWith q false
  match r.2.2 with
  | none => r.1
  | some i => if i.poison then r.1 else r.1.answerAlloc i.data
def execAllocRequest (q : QIx) (s : State) : Host.Outcome State Fault Refusal := .next (s.allocRequest q.val)
/-- The range that starts at `addr` has been zeroed (R389). -/
def execZeroingComplete (addr : Nat) (s : State) : Host.Outcome State Fault Refusal := .next (s.zeroDone addr)

end Sys2Proof.Machine
end

