-- ==== Sys2Proof/Machine/Registers.lean ====
section
/-!
DEFINITION. Writes and reads of BAR 0 (00 R7, R11, R694, R695; 12 R535): what a write of each word does, and what a read does
besides answering.
-/
namespace Sys2Proof.Machine

/-! ## Bell, ledger and loader (01 Tables 1.5, 1.7; 10 Table 10.6) -/

/-- BEL_CTRL: the source fields, BELL_OUT_EN, then ABORT before EOS before RUN (R29, R30, R39–R41). -/
def State.writeBelCtrl (s : State) (v : Word) : State :=
  let s1 := s.writeSource (fld v 0 2) (fld v 4 2) (bit v 6)
  let s2 := s1.setReg aBelCtrl (setFld (s1.reg aBelCtrl) 11 1 (b2n (bit v 11)))
  let s3 := if bit v 8 then s2.runSet else s2
  if bit v 10 then s3.writeAbort else if bit v 9 || !(bit v 8) then s3.writeEos else s3
def State.closeNow (s : State) : State :=
  let l := { s.ledger with closeWanted := true }
  { s with ledger := l }
def State.writeBel (s : State) (a : Nat) (v : Word) : State :=
  if a = aBelCtrl then s.writeBelCtrl v
  else if a = aBelEncDiv then s.writeEncDiv v
  else if a = aBelRevHyst then s.writeRevHyst v
  else if a = aBelTimerPeriod then s.writeTimerPeriod v
  else if a = aLdgCtrl then (if bit v 1 then s.closeNow else s)
  else if a = aLdgCloseMs then s.writeCloseMs v
  else s.plainWrite a v
/-- HUB_LOAD_CTRL: ABORT alone where GO is written with it (R466). -/
def State.writeLoadCtrl (s : State) (v : Word) : State :=
  let s1 := s.setReg aHubLoadCtrl (v &&& 1)
  let s2 := if bit v 30 then s1.endLoad else if bit v 31 then s1.loadGo (bit v 0) else s1
  if bit v 8 && s2.loadState == 3 then s2.wantSwap none else s2
/-- The low word of a paired register goes to its latch (00 R695). -/
def State.writeLatch (s : State) (a : Nat) (v : Word) : State := { s with latch := Tab.set_ 0 s.latch a v }

/-! ## Queues and signal objects (07 Tables 7.2, 7.7) -/

def State.writePq (s : State) (q o : Nat) (v : Word) : State :=
  if o = 0 then s.pqCfgWrite q v
  else if inRange o 0x04 0x18 || o = 0xD0 || o = 0xD4 then s.writePqSetting q o v
  else if o = 0x30 then s.writePqCtrl q (bit v 0) (bit v 1)
  else if inRange o 0x80 0xC0 then s.onPq q (fun p => { p with pushData := lineSetWord p.pushData ((o - 0x80) / 4) v })
  else if o = 0xC0 then s.pushGo q (v.truncate 5)
  else if o = 0xD8 then s.writeHostHead q v
  else s.plainWrite (aPq q + o) v
def State.writeSig (s : State) (a : Nat) (v : Word) : State :=
  let o := (a - 0x30000) / 16
  match a % 16 with
  | 0 => s.writeSigCount o v
  | 4 => s.signal o (fld v 0 16)
  | 12 => s.writeSigCfg o v
  | _ => s

/-! ## Contexts (12 Table 12.5) -/

/-- CTX_PT_ROOT, of a FREE context (12 R548). -/
def State.writePtRoot (s : State) (c a : Nat) (v : Word) : State :=
  if s.ctxSt c = 0 then (s.plainWrite a v).setCtx c { s.ctx c with rootWritten := true } else s
/-- The words of a ring: its base and settings stand while EN is 1 (R544). -/
def State.writeRing (s : State) (c r o : Nat) (v : Word) : State :=
  if s.ringEn c r then (if o = 8 && bit v 31 = false then s.disableRing c r else s)
  else s.plainWrite (aCtxRing c r + o) v
def State.writeCtx (s : State) (a : Nat) (v : Word) : State :=
  let c := (a - 0x20000) / 0x400
  let o := (a - 0x20000) % 0x400
  if o = 0 then
    (match fld v 0 2 with
      | 1 => s.createCtx c
      | 2 => s.destroyCtx c
      | 3 => s.clearFault c
      | _ => s)
  else if o = 0x08 || o = 0x0C then s.writePtRoot c a v
  else if o = 0x14 then (if bit v 0 then s.tlbInv c else s)
  else if inRange o 0x40 0x80 then s.writeOwn c false ((o - 0x40) / 4) v
  else if inRange o 0x80 0xC0 then s.writeOwn c true ((o - 0x80) / 4) v
  else if inRange o 0x100 0x200 then s.writeRing c ((o - 0x100) / 32) (o % 32) v
  else s.plainWrite a v

/-! ## Gatehouse, Groundskeeper, terrace (06 Table 6.7, 08 Table 8.6, 03 Table 3.8) -/

/-- GTH_CAM_CTRL: a cleared EN disables the port, FF_BANK asks for a bank (R285, R292). -/
def State.writeCamCtrl (s : State) (n : Nat) (v : Word) : State :=
  let s1 := if bit v 31 then s else s.disablePort n
  (s1.writeBank n (bit v 29)).plainWrite (aCam n) v
def State.writeCam (s : State) (n o : Nat) (v : Word) : State :=
  if o = 0 then s.writeCamCtrl n v
  else if o = 0x18 then s.writeLatch (aCam n + 0x18) v
  else if o = 0x1C then s.armRescale n v
  else s.plainWrite (aCam n + o) v
def State.writeGth (s : State) (a : Nat) (v : Word) : State :=
  let h := (a - 0x200000) / 0x80000
  let o := (a - 0x200000) % 0x80000
  if inRange o 0x100 0x300 then s.writeCam (8 * h + (o - 0x100) / 0x40) (o % 0x40) v
  else if o = 0x1110 then s.markGo h (fld v 0 8)
  else if inRange o 0x10000 0x50000 then s.writeFf (8 * h + (o - 0x10000) / 0x8000) (o % 0x8000 / 4) v
  else s.plainWrite a v
def State.writeGkp (s : State) (a : Nat) (v : Word) : State :=
  if a = aGkpPassMs then s.writePassMs v
  else if inRange a aGkpRepairData aGkpRepairGo then
    (let d := lineSetWord s.mem.repairData ((a - aGkpRepairData) / 4) v
     { s with mem := { s.mem with repairData := d } })
  else if a = aGkpRepairGo then (if bit v 0 then s.repairGo else s)
  else s.plainWrite a v
/-- TER_CTRL: a snapshot comes before a clear of the same write (R182). -/
def State.writeTer (s : State) (a : Nat) (v : Word) : State :=
  let d := (a - 0x1000000) / 0x400000
  if a = aTer d + 4 then
    (let s1 := if bit v 0 then s.terSnap d else s
     if bit v 1 then s1.terClear d else s1)
  else s.plainWrite a v

/-! ## Promenade, Hedge, Lodge (13 Table 13.6, 09 Table 9.9, 11 Table 11.10) -/

/-- PRM_GRP_CTRL: MODE and AUTO_REFORM, then LEAVE, then FORM. -/
def State.writeGrpCtrl (s : State) (v : Word) : State :=
  let s1 := s.writePrmMode (bit v 0)
  let s2 := s1.setReg aGrpCtrl (setFld (s1.reg aGrpCtrl) 8 1 (b2n (bit v 8)))
  let s3 := if bit v 30 then s2.leave else s2
  if bit v 31 then s3.form else s3
/-- PRM_PORT_CTRL: a port whose EN is cleared loses its link (14 R645). -/
def State.writePortCtrl (s : State) (p : Nat) (v : Word) : State :=
  let was := bit (s.reg (aPort p)) 31
  let s1 := s.setReg (aPort p) (v &&& 0x80000000)
  let s2 := if was && !(bit v 31) then s1.linkDown p false else s1
  if bit v 30 then s2.recal p else s2
def State.writePrm (s : State) (a : Nat) (v : Word) : State :=
  let o := a % 0x20000
  let p := 2 * ((a - 0x300000) / 0x20000) + (o - 0x100) / 0x40
  if a = aGrpCtrl then s.writeGrpCtrl v
  else if (o = 0x100 || o = 0x140) && p < s.ident.prmPorts then s.writePortCtrl p v
  else s.plainWrite a v
def State.writeHdg (s : State) (a : Nat) (v : Word) : State :=
  let h := (a - 0x340000) / 0x20000
  let o := (a - 0x340000) % 0x20000
  if inRange o 0x40 0x70 || inRange o 0x80 0xB0 then s.writeHdgCfg h o v
  else if inRange o 0x200 0x400 then
    (let w := (o - 0x200) / 32
     if o % 32 = 16 then s.writeWinCtl h w v else s.writeWinAddr h w (o % 32) v)
  else s.plainWrite a v
def State.writeLodge (s : State) (a : Nat) (v : Word) : State :=
  let h := (a - 0x380000) / 0x20000
  let o := (a - 0x380000) % 0x20000
  if o = 0 then s.writeCorePwr h (fld v 0 4)
  else if o = 8 then s.writeL2Lock h (fld v 0 16)
  else if o = 0x18 then s.taskGo (256 * h + fld v 0 8)
  else if o = 0x1C then s.writeCancel (256 * h + fld v 0 8)
  else if inRange o 0x10000 0x18000 && o % 128 < 64 then s.writeTask (256 * h + (o - 0x10000) / 128) (o % 128 / 4) v
  else s.plainWrite a v

/-! ## The hub's other registers (14 Table 14.10, 15 Table 15.6, 12 Table 12.3) -/

/-- The sentinel block of hub `h`. -/
def State.writeSup (s : State) (h o : Nat) (v : Word) : State :=
  match o with
  | 0x14 => s.writeThreshold h .failLo v
  | 0x18 => s.writeThreshold h .warnLo v
  | 0x1C => s.writeThreshold h .warnHi v
  | 0x20 => s.writeThreshold h .failHi v
  | _ => if h = 0 && o = 0x38 then s.writeDrainUs v.toNat else s.plainWrite (aSup h + o) v
def State.writePins (s : State) (a : Nat) (v : Word) : State :=
  if inRange a 0x15000 0x15060 then s.writePin ((a - 0x15000) / 4) v
  else if a = aPinGpo then (if s.pins.stopped then s else s.plainWrite a v)
  else s.plainWrite a v
/-- HUB_BOOT_DATA: the next chunk, whose first word clears CHUNK_ACK of the one before. -/
def State.writeBootData (s : State) (a : Nat) (v : Word) : State := (s.setReg a v).clrBits aBootStatus 0x8000000
def State.writeHub (s : State) (a : Nat) (v : Word) : State :=
  if a = aHubLoadCtrl then s.writeLoadCtrl v
  else if a = aHubSwapBand || a = aHubBar2Base then s.writeLatch a v
  else if a = aHubSwapBand + 4 then s.writeSwapBand v
  else if a = aHubBar2Base + 4 then s.writeBar2Base v
  else if inRange a 0x14000 0x14040 then s.writeSup 0 (a - 0x14000) v
  else if inRange a 0x14400 0x14440 then s.writeSup 1 (a - 0x14400) v
  else if a = aSupPwrBed then s.writeBeds (fld v 0 12)
  else if a = aSupPwrCam then s.writeCamPower (fld v 0 16)
  else if a = aSupPwrPrm then s.writePrmPower (fld v 0 4)
  else if a = aSupFlushAck then s.flushAck (fld v 0 2)
  else if inRange a 0x15000 0x16000 then s.writePins a v
  else if a = aBootCtrl then (if bit v 0 then s.deviceReset else s)
  else if a = aBootChunk then s.bootChunk (fld v 0 12)
  else if a = aContainCtrl then (if bit v 0 then s.containResume else s)
  else if a = aFuseCmd then s.fuseCmd v
  else if inRange a aFuseData 0x16280 then s.setReg a v
  else if inRange a aBootData 0x17000 then s.writeBootData a v
  else if inRange a 0x18000 0x20000 && a % 16 == 12 then
    (if bit v 0 then s.setBits a 1 else s.unmask ((a - 0x18000) / 16))
  else s.plainWrite a v

/-! ## Every word -/

/-- A write of the word at an aligned offset. -/
def State.writeWord (s : State) (a : Nat) (v : Word) : State :=
  if s.ident.absentAt a then s
  else match queueAt a with
  | some q => s.writePq q (a - aPq q) v
  | none =>
    if a < 0x12000 then s.writeBel a v
    else if a < 0x20000 then s.writeHub a v
    else if a < 0x30000 then s.writeCtx a v
    else if a < 0x32000 then s.writeSig a v
    else if inRange a 0x200000 0x300000 then s.writeGth a v
    else if inRange a 0x300000 0x340000 then s.writePrm a v
    else if inRange a 0x340000 0x380000 then s.writeHdg a v
    else if inRange a 0x380000 0x3C0000 then s.writeLodge a v
    else if inRange a 0x400000 0x500000 then s.writeGkp a v
    else if inRange a 0x1000000 0x1800000 then s.writeTer a v
    else s.plainWrite a v
/-- A naturally aligned write of 32 or 64 bits: the low word, then the high word (R695; 09 R424). -/
def State.writeReg (s : State) (a : Nat) (wide : Bool) (v : DWord) : State :=
  let s1 := s.writeWord a (loWord v)
  if wide then s1.writeWord (a + 4) (hiWord v) else s1

/-- The object whose SIG_TRYWAIT lies at offset `a`. -/
def trywaitAt (a : Nat) : Option Nat := if inRange a 0x30000 0x32000 && a % 16 == 8 then some ((a - 0x30000) / 16) else none
/-- A read of the word at an aligned offset; the answer is the value of the read. -/
def State.readWord (s : State) (a : Nat) : State × Word :=
  match trywaitAt a with
  | some o =>
    let r := s.hostWait o
    (r.1, if r.2 then 1 else 0)
  | none => ((if readsFree a then s.useFree else s).plainReadEffect a, s.beforeCk a (s.readReg a))
/-- A naturally aligned read; only a 64-bit read of PQ_POP pops (07 R339). -/
def State.readWide (s : State) (a : Nat) (wide : Bool) : State × DWord :=
  match queueAt a, wide with
  | some q, true =>
    if a - aPq q = 0x38 then
      (let t := s.popRead q false
       (t, t.readValue))
    else
      let l := s.readWord a
      let h := l.1.readWord (a + 4)
      (h.1, joinWords h.2 l.2)
  | _, _ =>
    let l := s.readWord a
    if wide then
      let h := l.1.readWord (a + 4)
      (h.1, joinWords h.2 l.2)
    else (l.1, l.2.zeroExtend 64)

/-! ## Accesses over the Hedge -/

/-- The TIL_ block of a bed whose gate is closed at hub `h` reads 0 (09 R449). -/
def State.tilGated (s : State) (h a : Nat) : Bool := (gateOf a).any (fun g => decide (g < 12) && s.gateClosed h g)
/-- A read through hub `h`, the access already granted. -/
def State.readVia (s : State) (h a : Nat) (wide : Bool) : State × DWord :=
  if s.tilGated h a then (s, 0) else s.readWide a wide
def accessBytes (wide : Bool) : Nat := if wide then 8 else 4
def accessBe (wide : Bool) : Nat := if wide then 0xFF else 0x0F
/-- A write by the host (12 R534, R535); one that the Hedge holds back waits (notes/assumptions/66.md). -/
def State.hostWriteReg (s : State) (a : Nat) (wide : Bool) (v : DWord) : State :=
  if a % accessBytes wide ≠ 0 then s.badAccess a (accessBe wide) true
  else if s.ident.absentAt a then s
  else match s.accessWaits 0 mPcie (regBase + a) (accessBytes wide) true with
  | some w => s.noteHeld w
  | none =>
    let g := s.hdgCheck 0 mPcie (regBase + a) (accessBytes wide) true false
    if g.2.1 = 0 then g.1.writeReg a wide v else g.1
/-- A read at one of these offsets reads a context's CTX_ALLOC_REFUSED. -/
def readsRefusals (a : Nat) (wide : Bool) : Bool :=
  (List.range 64).any (fun c => a == aCtxAllocRefused c || (wide && a + 4 == aCtxAllocRefused c))
/-- The allocator's refusal count has been read through a context counter: its next rise is one from 0 (08 R392;
notes/assumptions/116.md). -/
def State.refusalsRead (s : State) : State := { s with alloc := { s.alloc with refusals := 0 } }
/-- A read by the host. -/
def State.hostReadReg (s : State) (a : Nat) (wide : Bool) : State :=
  if a % accessBytes wide ≠ 0 then s.badAccess a (accessBe wide) false
  else if s.ident.absentAt a then s.answer 0 0
  else match s.accessWaits 0 mPcie (regBase + a) (accessBytes wide) false with
  | some w => s.noteHeld w
  | none =>
    let g := s.hdgCheck 0 mPcie (regBase + a) (accessBytes wide) false false
    if g.2.1 ≠ 0 then g.1.answer 0 (pcieStatus g.2.1)
    else
      let r := g.1.readVia 0 a wide
      (if readsRefusals a wide then r.1.refusalsRead else r.1).answer r.2 0

/-- The latch of a paired register (R695). -/
def pairedAddr : PairedReg → Nat
  | .gthRescaleBand n => aCam n.val + 0x18
  | .hubSwapBand => aHubSwapBand
  | .hubBar2Base => aHubBar2Base
def execPairedLowWordWrite (r : PairedReg) (v : Word) (s : State) : Host.Outcome State Fault Refusal :=
  .next (if s.ident.absentAt (pairedAddr r) then s else s.writeLatch (pairedAddr r) v)
def execRegisterWrite (off : BitVec 25) (wide : Bool) (v : DWord) (s : State) : Host.Outcome State Fault Refusal :=
  .next (s.hostWriteReg off.toNat wide v)
def execReadToClear (off : BitVec 25) (wide : Bool) (s : State) : Host.Outcome State Fault Refusal :=
  .next (s.hostReadReg off.toNat wide)

end Sys2Proof.Machine
end

