-- ==== Sys2Proof/Machine/Bus.lean ====
section
/-!
DEFINITION. What a granted request does at its target: registers beat by beat (09 R424), memory, boot ROM and host memory.
-/
namespace Sys2Proof.Machine

/-- `n` register beats of a write from offset `a`; a beat is of 64 bits where `wide`. -/
def State.regBeatsWrite (s : State) (wide : Bool) : Nat → Nat → List Byte → State
  | 0, _, _ => s
  | n + 1, a, bs =>
    let w := accessBytes wide
    State.regBeatsWrite (s.writeReg a wide (BitVec.ofNat 64 (fieldAt bs 0 w))) wide n (a + w) (bs.drop w)
/-- `n` register beats of a read through hub `h`. -/
def State.regBeatsRead (s : State) (h : Nat) (wide : Bool) : Nat → Nat → State × List Byte
  | 0, _ => (s, [])
  | n + 1, a =>
    let w := accessBytes wide
    let r := s.readVia h a wide
    let t := State.regBeatsRead r.1 h wide n (a + w)
    (t.1, leBytes w r.2.toNat ++ t.2)
/-- A write of registers; a size or alignment that no register takes is ignored (12 R535). -/
def State.busRegWrite (s : State) (a : Nat) (bs : List Byte) : State :=
  let n := bs.length
  if n % 8 = 0 && a % 8 = 0 then s.regBeatsWrite true (n / 8) a bs
  else if n % 4 = 0 && a % 4 = 0 then s.regBeatsWrite false (n / 4) a bs
  else s.badAccess a ((2 ^ n - 1) % 256) true
def State.busRegRead (s : State) (h a n : Nat) : State × List Byte :=
  if n % 8 = 0 && a % 8 = 0 then s.regBeatsRead h true (n / 8) a
  else if n % 4 = 0 && a % 4 = 0 then s.regBeatsRead h false (n / 4) a
  else (s.badAccess a ((2 ^ n - 1) % 256) false, List.replicate n 0)

/-- A read at any target, as hub `h` decodes the address. -/
def State.busRead (s : State) (h pa n : Nat) : State × PRes :=
  match physOf pa with
  | .reg o =>
    let r := s.busRegRead h o n
    (r.1, .ok r.2)
  | _ => s.physRead h pa n
/-- A write at any target; answers whether it was served. -/
def State.busWrite (s : State) (h pa : Nat) (bs : List Byte) : State × Bool :=
  match physOf pa with
  | .reg o => (s.busRegWrite o bs, true)
  | _ => s.physWrite h pa bs

end Sys2Proof.Machine
end

