-- ==== Sys2Proof/Machine/HedgeTraffic.lean ====
section
/-!
DEFINITION. Requests on the Hedge: hold-back, arbitration, locked sequences, grants and responses (09 R428–R443).
-/
namespace Sys2Proof.Machine

/-! ## Locks (R437–R440) -/

/-- A broken sequence of master `m` at target `t` whose UNLOCK has not come. -/
def brokenKey (m t : Nat) : Nat := 8 + 8 * m + t
def HdgState.brokenOf (x : HdgState) (m t : Nat) : Option HLock := Tab.at_ none x.locks (brokenKey m t)
def HdgState.setLock (x : HdgState) (k : Nat) (l : Option HLock) : HdgState := { x with locks := Tab.set_ none x.locks k l }
def lockable (t : Nat) : Bool := t == tL2 || t == tDie || t == tQs
/-- The lock of target `t` breaks after `n` transfers (R439). -/
def State.breakLock (s : State) (h t n : Nat) : State :=
  match (s.hedge h).lockOf t with
  | none => s
  | some l =>
    let s1 := s.updHedge h (fun x => (x.setLock t none).setLock (brokenKey l.master t) (some { l with broken := true }))
    (s1.setBits (aHdg h + 4) 4).emit { err 0x0504 with loc := hubLoc h 5, d0 := l.master, d1 := t, d2 := n, hub := h }
/-- A lock is taken: requests of its master to other targets, and of other masters to its target, that wait are held and counted
(R435, R438). -/
def State.lockTaken (s : State) (h m t : Nat) : State :=
  let x := s.hedge h
  let own : HTxn → Bool := fun y => y.st == .waiting && y.req.master.val == m && y.target != t
  let other : HTxn → Bool := fun y => y.st == .waiting && y.req.master.val != m && y.target == t
  let s1 := s.updHedge h (fun y => { y with txns := y.txns.map (fun z => if own z then { z with st := .heldLock } else z) })
  (s1.count (aHdg h + 0x140 + 4 * m) (x.txns.filter own).length).count (aHdg h + 0x1C0 + 4 * t) (x.txns.filter other).length
/-- A request's part in locked sequences, at its grant: the state, and a response code other than SERVED. -/
def State.lockStep (s : State) (h : Nat) (x : HTxn) : State × Nat :=
  let m := x.req.master.val
  let t := x.target
  let g := s.hedge h
  let broken := (g.brokenOf m t).any (fun l => l.id == x.req.id)
  if broken && !x.req.lock then
    (if x.req.unlock then s.updHedge h (fun y => y.setLock (brokenKey m t) none) else s, 4)
  else if x.req.lock then
    if !(lockable t) || (g.heldBy m).isSome then (s, 1)
    else
      let l : HLock := ⟨m, x.req.id, 1, s.now, false, x.req.unlock⟩
      ((s.updHedge h (fun y => (y.setLock (brokenKey m t) none).setLock t (some l))).lockTaken h m t, 0)
  else match g.lockOf t with
  | none => (s, 0)
  | some l =>
    if l.master ≠ m || l.id ≠ x.req.id || l.done then (s, 0)
    else if 16 ≤ l.count || decide (l.at_ + 512 < s.now) then
      let s1 := s.breakLock h t (l.count + 1)
      (if x.req.unlock then s1.updHedge h (fun y => y.setLock (brokenKey m t) none) else s1, 4)
    else (s.updHedge h (fun y => y.setLock t (some { l with count := l.count + 1, done := x.req.unlock })), 0)

/-! ## At the target -/

/-- The queue or object of an Xkzq operation is absent (R417). -/
def State.xkzqAbsent (s : State) (r : HReq) : Bool :=
  r.xkzq && (match physOf r.addr.toNat with
    | .reg o => s.ident.absentAt o
    | _ => true)
/-- What a request does at its target once every check of its hub has passed: RESP, SOURCE, data. -/
def State.serve (s : State) (h : Nat) (x : HTxn) : State × Nat × Nat × Line :=
  let r := x.req
  let n := min r.bytes 64
  if s.xkzqAbsent r then (s, 3, 15, 0)
  else
    let c := s.hdgLocal h r.master.val r.addr.toNat n r.write r.xkzq
    if c.2.1 ≠ 0 then
      let ends := c.2.1 == 3 && ((s.hedge h).lockOf x.target).any (fun l => l.master == r.master.val)
      (if ends then c.1.updHedge h (fun y => y.setLock x.target none) else c.1, c.2.1, c.2.2.1, 0)
    else if r.xkzq then (c.1, 0, 0, 0)
    else if r.write then
      let w := c.1.busWrite h r.addr.toNat ((lineBytes r.data).take n)
      if w.2 then (w.1, 0, 0, 0) else (w.1.hdgError h r.master.val r.addr.toNat 2, 2, 15, 0)
    else
      let q := c.1.busRead h r.addr.toNat n
      match q.2 with
      | .ok bs => (q.1, 0, 0, lineOf bs)
      | .poison _ => (q.1, 1, x.target, 0)
      | .unrouted => (q.1.hdgError h r.master.val r.addr.toNat 2, 2, 15, 0)

/-! ## Hold-back (R433, R435) -/

/-- An earlier outstanding request of the same master and ID goes to another target; over HUBX, of the same master of the other
hub. -/
def heldForOrder (earlier : List HTxn) (r : HReq) (org : Option Nat) (t : Nat) : Bool :=
  earlier.any (fun y => y.req.master == r.master && y.org.map (fun o => o.2) == org && y.req.id == r.id && y.target != t && y.target != noTarget)
/-- Counts of a request that is held. -/
def State.countHeld (s : State) (h m t : Nat) : TxnState → State
  | .heldOrder => s.count (aHdg h + 0x100 + 4 * m) 1
  | .heldLock => s.count (aHdg h + 0x140 + 4 * m) 1
  | .waiting => if ((s.hedge h).lockOf t).any (fun l => l.master != m) then s.count (aHdg h + 0x1C0 + 4 * t) 1 else s
  | _ => s
def State.firstState (s : State) (h : Nat) (earlier : List HTxn) (r : HReq) (org : Option Nat) (t : Nat) : TxnState :=
  if heldForOrder earlier r org t then .heldOrder
  else if (s.hedge h).heldForLock r.master.val t then .heldLock
  else .waiting

/-! ## Requests -/

/-- The gate of a core that goes down takes no request of its core (R446). -/
def State.portShut (s : State) (h m : Nat) : Bool := decide (1 ≤ m) && decide (m ≤ 4) && s.gateClosed h (21 + m)
/-- A request joins the outstanding ones of hub `h`, with the next number. -/
def State.addTxn (s : State) (h : Nat) (x : HTxn) : State :=
  s.updHedge h (fun y => { y with txns := y.txns ++ [{ x with key := y.next }], next := y.next + 1 })
/-- A request as the matrix of hub `h` takes it; `org` names the request of the other hub that it stands for. -/
def State.txnOf (s : State) (h : Nat) (r : HReq) (org : Option (Nat × Nat)) : State × HTxn :=
  let m := r.master.val
  let a := r.addr.toNat
  let n := min r.bytes 64
  let t := (s.targetOf h a n).getD noTarget
  if s.xkzqAbsent r then (s, ⟨r, noTarget, .granted, 3, 15, 0, 0, 0, org⟩)
  else if s.matrixStops h m a n r.write then
    let c := s.hdgLocal h m a n r.write r.xkzq
    (c.1, ⟨r, noTarget, .granted, c.2.1, c.2.2.1, 0, 0, 0, org⟩)
  else if r.lock && ((s.hedge h).heldBy m).isSome then (s, ⟨r, t, .granted, 1, t, 0, 0, 0, org⟩)
  else
    let st := s.firstState h (s.hedge h).txns r (org.map (fun o => o.2)) t
    (s.countHeld h m t st, ⟨r, t, st, 0, 0, 0, 0, 0, org⟩)
/-- A request that came over HUBX is done: the one it stands for is, with the same response. -/
def State.crossBack (s : State) (h : Nat) (x : HTxn) : State :=
  match x.org, x.st with
  | some o, .granted => s.updHedge (1 - h) (fun y => { y with txns := y.txns.map (fun z =>
      if z.key = o.1 then { z with st := .granted, code := x.code, source := x.source, data := x.data } else z) })
  | _, _ => s
/-- A request reaches the matrix of hub `h`. -/
def State.arriveTxn (s : State) (h : Nat) (r : HReq) (org : Option (Nat × Nat)) : State :=
  let q := s.txnOf h r org
  (q.1.addTxn h q.2).crossBack h q.2
/-- HEDGE_REQUEST: it is accepted while its master has fewer than 32 outstanding, and is granted at the end of a ck
(R428, R429). -/
def State.request (s : State) (h : Nat) (r : HReq) : State :=
  let m := r.master.val
  if s.hasMaster h m = false || 32 ≤ s.outstanding h m || s.portShut h m then s else s.arriveTxn h r none
def execHedgeRequest (h : Hub) (r : HReq) (s : State) : Host.Outcome State Fault Refusal := .next (s.request h.val r)

/-! ## Grants -/

/-- Replace the transaction at place `i`. -/
def State.setTxn (s : State) (h i : Nat) (f : HTxn → HTxn) : State :=
  s.updHedge h (fun y => { y with txns := y.txns.modify i f })
/-- The transaction at place `i` is done, with RESP, SOURCE and data. -/
def State.doneAt (s : State) (h i : Nat) (x : HTxn) (r : Nat × Nat × Line) : State :=
  let f : HTxn → HTxn := fun y => { y with st := .granted, code := r.1, source := r.2.1, data := r.2.2, seq := (s.hedge h).next }
  ((s.setTxn h i f).updHedge h (fun y => { y with next := y.next + 1 })).crossBack h (f x)
/-- The transaction at place `i` goes to the other hub, where it is a request of HUBX (R414). -/
def State.crossAt (s : State) (h i : Nat) (x : HTxn) : State :=
  let c := s.hdgLocal h x.req.master.val x.req.addr.toNat (min x.req.bytes 64) x.req.write x.req.xkzq
  if c.2.1 ≠ 0 then c.1.doneAt h i x (c.2.1, c.2.2.1, 0)
  else (c.1.setTxn h i (fun y => { y with st := .crossing })).arriveTxn (1 - h) { x.req with master := 10 } (some (x.key, x.req.master.val))
/-- Grant the transaction at place `i` (R434: its effect is visible from then on). -/
def State.grantAt (s : State) (h i : Nat) (x : HTxn) : State :=
  let l := s.lockStep h x
  let s1 :=
    if l.2 ≠ 0 then l.1.doneAt h i x (l.2, x.target, 0)
    else if x.target = tHubx then l.1.crossAt h i x
    else
      let r := l.1.serve h x
      r.1.doneAt h i x r.2
  s1.updHedge h (fun y => { y with last := Tab.set_ 0 y.last x.target (x.req.master.val + 1) })

/-- Place `i` may be granted: it waits, its master holds no lock elsewhere, no earlier request of its master to its target waits,
and the target is free for its master (R431, R435, R438). -/
def HdgState.mayGrant (x : HdgState) (t i : Nat) (y : HTxn) : Bool :=
  y.target == t && y.st == .waiting && x.hasSlot t && !(x.heldForLock y.req.master.val t) &&
  (x.txns.take i).all (fun z => z.req.master != y.req.master || z.target != t || z.past) &&
  (x.lockOf t).all (fun l => l.master == y.req.master.val)
/-- Arbitration order: priority, then the first master after the one granted last (R428). -/
def State.arbKey (s : State) (h t m : Nat) : Nat :=
  let prio := fld (s.reg (aHdg h + 0x40 + 4 * m)) 0 2
  let last := Tab.at_ 0 (s.hedge h).last t
  (3 - prio) * 16 + (m + 12 - last % 12) % 12
/-- The place that target `t` grants next. -/
def State.nextGrant (s : State) (h t : Nat) : Option (Nat × HTxn) :=
  let x := s.hedge h
  (((List.range x.txns.length).zip x.txns).filter (fun e => x.mayGrant t e.1 e.2)).foldl (fun m e => match m with
    | none => some e
    | some b => if s.arbKey h t e.2.req.master.val < s.arbKey h t b.2.req.master.val then some e else some b) none
/-- A target grants one request in a ck (R428). -/
def State.grantOne (s : State) (h t : Nat) : State :=
  match s.nextGrant h t with
  | none => s
  | some e => s.grantAt h e.1 e.2
/-- The end of a ck on the Hedge: grants at every target, the bridges last, so that what crosses is granted in a later ck. -/
def State.hedgeCk (s : State) : State :=
  let ts := [0, 1, 2, 3, 4, 6, 7].flatMap (fun t => [(0, t), (1, t)]) ++ [(0, tHubx), (1, tHubx)]
  (((ts.foldl (fun u e => u.grantOne e.1 e.2) s).hdgForget 0).hdgForget 1)

/-! ## Responses -/

/-- The first transaction of a list that satisfies `p`, with its place. -/
def findAt (p : HTxn → Bool) : List HTxn → Nat → Option (Nat × HTxn)
  | [], _ => none
  | x :: xs, i => if p x then some (i, x) else findAt p xs (i + 1)
/-- PERI answers in order of arrival: nothing that arrived there before it is unanswered (R425). -/
def HdgState.periFirst (x : HdgState) (y : HTxn) : Bool :=
  y.target != tPeri || x.txns.all (fun z => z.target != tPeri || z.st != .granted || decide (y.seq ≤ z.seq))
/-- What stands in the other hub for transaction `x` of hub `h`. -/
def HTxn.standsFor (y : HTxn) (x : HTxn) : Bool := y.org.any (fun o => o.1 == x.key)
/-- The UNLOCK transfer `x` completes: the lock of its target ends (R438). -/
def HdgState.unlocked (y : HdgState) (x : HTxn) : HdgState :=
  if x.req.unlock && (y.lockOf x.target).any (fun l => l.done && l.master == x.req.master.val) then y.setLock x.target none else y
/-- The oldest request of one ID is answered, once it is done; PERI answers in order of arrival (R425, R432, R441). What stands for
it in the other hub is answered with it. -/
def State.respond (s : State) (h m : Nat) (id : BitVec 5) : State :=
  let g := s.hedge h
  match findAt (fun x => x.req.master.val == m && x.req.id == id && x.org.isNone) g.txns 0 with
  | none => s
  | some (i, x) =>
    let other := s.hedge (1 - h)
    if x.st ≠ .granted || !(g.periFirst x) || !((other.txns.filter (fun y => y.standsFor x)).all other.periFirst) then s
    else
      let s1 := s.updHedge h (fun y => ({ y with txns := y.txns.eraseIdx i } : HdgState).unlocked x)
      let s2 := if x.target = tHubx then s1.updHedge (1 - h) (fun y => { y with txns := y.txns.filter (fun z => !(z.standsFor x)) }) else s1
      s2.answer (lineDWord x.data 0) (x.code + 8 * x.source)
def execHedgeResponse (h : Hub) (m : Master) (id : BitVec 5) (s : State) : Host.Outcome State Fault Refusal :=
  .next (s.respond h.val m.val id)

/-- A held request of master `m` at place `i` whose cause has ended joins its target's queue. -/
def State.releaseAt (h m : Nat) (s : State) (i : Nat) : State :=
  let txns := (s.hedge h).txns
  match txns[i]? with
  | none => s
  | some x =>
    if x.req.master.val == m && (x.st == .heldOrder || x.st == .heldLock) then
      let st := s.firstState h (txns.take i) x.req (x.org.map (fun o => o.2)) x.target
      if st = x.st then s else (s.countHeld h m x.target st).setTxn h i (fun y => { y with st := st })
    else s
def State.releaseHeld (s : State) (h m : Nat) : State :=
  (List.range (s.hedge h).txns.length).foldl (State.releaseAt h m) s
def execHoldbackRelease (h : Hub) (m : Master) (s : State) : Host.Outcome State Fault Refusal := .next (s.releaseHeld h.val m.val)

/-- More than 512 ck have passed since the lock's first grant and its UNLOCK has not been granted (R439, R440). -/
def State.lockTimeout (s : State) (h t : Nat) : State :=
  match (s.hedge h).lockOf t with
  | some l => if decide (l.at_ + 512 < s.now) && !l.done then s.breakLock h t l.count else s
  | none => s
def execLockTimeout (h : Hub) (t : Target) (s : State) : Host.Outcome State Fault Refusal := .next (s.lockTimeout h.val t.val)

end Sys2Proof.Machine
end

