-- ==== Sys2Proof/Machine/Clock.lean ====
section
/-!
DEFINITION. The end of a ck, which a step on an empty queue is (notes/assumptions/2.md): instructions that go on, background
transfers and stall counters of tiles (03 R154, R160, R177, R179), tokens that the hubs send and take (06 R297; 03 R130), waits
that end with the ck (06 R323), grants of the Hedge (09 R428), Lodge time (12 R572), the Groundskeeper's pass (08 R401), GHOLD_N (13 R601) and the clocks.
-/
namespace Sys2Proof.Machine

/-! ## Tiles -/

/-- The counter that a ck of an unfrozen tile adds to, if it is one of the three kept (R179); `moved` tells that a
background transfer went. The idle counter is what is left. -/
def Tile.countCk (t : Tile) (moved : Bool) : TileCtr :=
  let c := t.ctrCk
  if moved || (t.busy != 0 && t.busyFires) then { c with firing := c.firing + 1 }
  else match t.wait with
    | .port => { c with firing := c.firing + 1 }
    | .credit => { c with waitCredit := c.waitCredit + 1 }
    | .input => { c with waitIn := c.waitIn + 1 }
    | .none_ => c
/-- One ck of a tile whose sequencer runs. -/
def State.tileCk (s : State) (k : Nat) : State :=
  let r := (s.goOn k).jobsTick k
  r.1.onTile k (fun t => { t with ctrCk := t.countCk r.2, busy := t.busy - 1 })
def State.tileKeys (s : State) : List Nat := s.tiles.map (fun e => e.1)
/-- Times add up; events stop at all ones (00 R696). -/
def TileCtr.add (a b : TileCtr) : TileCtr :=
  ⟨a.firing + b.firing, a.waitIn + b.waitIn, a.waitCredit + b.waitCredit, satNat 48 a.conflict b.conflict, satNat 32 a.sat b.sat,
   satNat 32 a.accOvf b.accOvf, satNat 32 a.fsat b.fsat, satNat 32 a.faccOvf b.faccOvf⟩
/-- What the ck counted joins the live counters; a snapshot of the same ck takes it in (R182). -/
def Tile.endCk (snap : Bool) (t : Tile) : Tile :=
  let u := { t with ctr := t.ctr.add t.ctrCk, ctrCk := TileCtr.zero }
  if snap then u.snapCtrs else u
/-- One ck of a die's counters: HELD counts while the machine is frozen. -/
def State.dieCk (s : State) (d : Nat) : State :=
  let c := s.die d
  let e := c.elapsed + 1
  let h := c.held + b2n s.hold.frozen
  s.setDie d ⟨e, h, if c.snapCk then e else c.elapsedSnap, if c.snapCk then h else c.heldSnap, false⟩
/-- The end of a ck on the terraces: tiles, HBM responses, bounds, faults in R177's order, counters. -/
def State.terraceCk (s : State) : State :=
  let s1 := if s.seqRuns then s.tileKeys.foldl (fun t k => t.tileCk k) s else s
  let s2 := s1.tileKeys.foldl (fun t k => t.feedCk k) s1
  let s3 := (s2.tileKeys.foldl (fun t k => t.queueBounds k) s2).emitFaults
  let s4 : State := { s3 with tiles := Tab.mapV Tile.blank (fun k t => t.endCk (s3.die (k / 1536)).snapCk) s3.tiles }
  (List.range s.ident.dies).foldl (fun t d => t.dieCk d) s4

/-! ## Holds -/

/-- Hold ck of the bell interval and of the time since the last admission (01 R44, R54). -/
def State.holdCk (s : State) : State :=
  if s.hold.frozen then s.updBell (fun b => { b with interval := b.interval.map (fun n => n + 1), holdSince := b.holdSince + 1 })
  else s

/-! ## Lodge time -/

def State.taskCk (s : State) (k : Nat) : State :=
  let t := s.task k
  if t.st = 2 then s.setTask k { t with runCk := t.runCk + 1 }
  else if t.st = 1 && t.core.isNone && s.waitsMet k then s.setTask k { t with readyCk := t.readyCk + 1 }
  else s
def State.lodgeCk (s : State) : State := s.liveTasks.foldl (fun t k => t.taskCk k) s

/-! ## Hubs -/

/-- One ck of a hub's Gatehouse and Kiosk entry. -/
def State.hubCk (s : State) (h : Nat) : State := (s.gthCk h).kskCk h
def State.hubsCk (s : State) : State := (List.range s.ident.hubs).foldl (fun t h => t.hubCk h) s

/-! ## The clocks -/

/-- `now` counts ck; the PTP time gains 0.8 ns, four fifths of a ns, a ck. The events of the ck that ends and its reserved slots
are past (00 R14, R15; 08 R396). -/
def State.clocks (s : State) : State :=
  { s with now := s.now + 1, born := [], ptp := { s.ptp with fifths := s.ptp.fifths + 4 }, mem := { s.mem with slots := [] } }

/-- One ck. -/
def State.tick (s : State) : State := s.terraceCk.holdCk.lodgeCk.closeWaits.hubsCk.hedgeCk.passCk.driveGhold.clocks

end Sys2Proof.Machine
end

