-- ==== Sys2Proof/Machine/FloatOps.lean ====
section
/-!
DEFINITION. IEEE 754 binary32 and binary64 arithmetic as the F and D instructions of a Lodge core perform it (11 R494; the
RISC-V specifications define it): exact results, rounded once, with the accrued flags NV 16, DZ 8, OF 4, UF 2, NX 1.
-/
namespace Sys2Proof.Machine

/-! ## The two formats; `single` chooses binary32 -/

def fpP (single : Bool) : Nat := if single then 24 else 53
def fpWidth (single : Bool) : Nat := if single then 32 else 64
def fpBias (single : Bool) : Nat := if single then 127 else 1023
/-- The exponent of the last place of the smallest numbers. -/
def fpQmin (single : Bool) : Int := 2 - (fpBias single : Int) - fpP single
/-- The encoding of infinity without its sign. -/
def fpInfBits (single : Bool) : Nat := (2 * fpBias single + 1) * 2 ^ (fpP single - 1)
/-- The canonical NaN. -/
def fpNan (single : Bool) : Nat := fpInfBits single + 2 ^ (fpP single - 2)
def fpSign (single neg : Bool) : Nat := if neg then 2 ^ (fpWidth single - 1) else 0

/-- A datum: a finite one is (−1)^neg · m · 2^e. -/
inductive FpVal where
  | nan (signaling : Bool)
  | inf (neg : Bool)
  | fin (neg : Bool) (m : Nat) (e : Int)
  deriving DecidableEq, Repr
def fpUnpack (single : Bool) (v : Nat) : FpVal :=
  let p := fpP single
  let neg := v / 2 ^ (fpWidth single - 1) % 2 == 1
  let x := v / 2 ^ (p - 1) % (2 * fpBias single + 2)
  let f := v % 2 ^ (p - 1)
  if x = 2 * fpBias single + 1 then
    if f = 0 then .inf neg else .nan (f / 2 ^ (p - 2) == 0)
  else if x = 0 then .fin neg f (fpQmin single)
  else .fin neg (2 ^ (p - 1) + f) (fpQmin single + x - 1)
def FpVal.neg_ : FpVal → FpVal
  | .nan s => .nan s
  | .inf n => .inf !n
  | .fin n m e => .fin (!n) m e
def FpVal.isNan : FpVal → Bool
  | .nan _ => true
  | _ => false
def FpVal.isSignaling : FpVal → Bool
  | .nan s => s
  | _ => false
def FpVal.isZero : FpVal → Bool
  | .fin _ m _ => m == 0
  | _ => false

/-! ## Rounding -/

/-- A result: its encoding and its flags. -/
abbrev FpRes := Nat × Nat
/-- The magnitude goes up by one place: `r` of `2 ^ d` are cut off a number that is odd or not (RNE, RTZ, RDN, RUP, RMM). -/
def fpUp (rm : Nat) (neg odd : Bool) (r d : Nat) : Bool :=
  match rm with
  | 0 => decide (2 ^ d < 2 * r) || (decide (2 * r = 2 ^ d) && odd)
  | 1 => false
  | 2 => neg && r != 0
  | 3 => !neg && r != 0
  | _ => decide (2 ^ d ≤ 2 * r)
/-- Round `m / 2 ^ d`; answers whether it is inexact. -/
def fpRoundAt (rm : Nat) (neg : Bool) (m d : Nat) : Nat × Bool :=
  let n := m / 2 ^ d
  let r := m % 2 ^ d
  if d = 0 then (m, false) else (n + b2n (fpUp rm neg (n % 2 == 1) r d), r != 0)
/-- Overflow: infinity, or the largest number where the mode rounds towards zero. -/
def fpOverflow (single : Bool) (rm : Nat) (neg : Bool) : FpRes :=
  let big := match rm with
    | 1 => true
    | 2 => !neg
    | 3 => neg
    | _ => false
  (fpSign single neg + fpInfBits single - b2n big, 5)
/-- Round `m · 2 ^ e`, above it by less than one place when `sticky`. Tininess is found after rounding. -/
def fpRound (single : Bool) (rm : Nat) (neg : Bool) (m : Nat) (e : Int) (sticky : Bool) : FpRes :=
  let n := 2 * m + b2n sticky
  if n = 0 then (fpSign single neg, 0)
  else
    let free : Int := Nat.log2 n + e - fpP single
    let q := max free (fpQmin single)
    let a := if q ≤ e - 1 then (n * 2 ^ (e - 1 - q).toNat, false) else fpRoundAt rm neg n (q - (e - 1)).toNat
    let code := (q - fpQmin single).toNat * 2 ^ (fpP single - 1) + a.1
    if fpInfBits single ≤ code then fpOverflow single rm neg
    else
      let u := if free ≤ e - 1 then (n * 2 ^ (e - 1 - free).toNat, false) else fpRoundAt rm neg n (free - (e - 1)).toNat
      let tiny := decide ((Nat.log2 u.1 : Int) + free < fpQmin single + fpP single - 1)
      (fpSign single neg + code, b2n a.2 * (1 + 2 * b2n tiny))
def fpInvalid (single : Bool) : FpRes := (fpNan single, 16)
/-- A NaN operand gives the canonical NaN; a signaling one is invalid. -/
def fpQuiet (single : Bool) (l : List FpVal) : FpRes := (fpNan single, if l.any FpVal.isSignaling then 16 else 0)
def fpInf (single neg : Bool) : FpRes := (fpSign single neg + fpInfBits single, 0)

/-! ## Arithmetic -/

/-- The exact sum of two numbers; an exact zero is negative when both are, or when rounding down. -/
def fpSum (single : Bool) (rm : Nat) (na : Bool) (ma : Nat) (ea : Int) (nb : Bool) (mb : Nat) (eb : Int) : FpRes :=
  let e := min ea eb
  let val : Bool → Nat → Int → Int := fun n m x => (if n then -1 else 1) * (m * 2 ^ (x - e).toNat : Nat)
  let v := val na ma ea + val nb mb eb
  if v = 0 then (fpSign single (if na = nb then na else rm == 2), 0)
  else fpRound single rm (decide (v < 0)) v.natAbs e false
def fpAdd (single : Bool) (rm : Nat) (a b : FpVal) : FpRes :=
  match a, b with
  | .inf x, .inf y => if x = y then fpInf single x else fpInvalid single
  | .inf x, .fin _ _ _ => fpInf single x
  | .fin _ _ _, .inf y => fpInf single y
  | .fin na ma ea, .fin nb mb eb => fpSum single rm na ma ea nb mb eb
  | _, _ => fpQuiet single [a, b]
def FpVal.isNeg : FpVal → Bool
  | .nan _ => false
  | .inf n => n
  | .fin n _ _ => n
/-- a · b + c, rounded once. -/
def fpFma (single : Bool) (rm : Nat) (a b c : FpVal) : FpRes :=
  let neg := a.isNeg != b.isNeg
  match a, b with
  | .fin _ ma ea, .fin _ mb eb =>
    (match c with
      | .nan _ => fpQuiet single [c]
      | .inf z => fpInf single z
      | .fin nc mc ec => fpSum single rm neg (ma * mb) (ea + eb) nc mc ec)
  | _, _ =>
    if a.isNan || b.isNan then fpQuiet single [a, b, c]
    else if a.isZero || b.isZero then fpInvalid single
    else match c with
    | .nan _ => fpQuiet single [c]
    | .inf z => if z = neg then fpInf single neg else fpInvalid single
    | .fin _ _ _ => fpInf single neg
def fpMul (single : Bool) (rm : Nat) (a b : FpVal) : FpRes :=
  let neg := a.isNeg != b.isNeg
  match a, b with
  | .fin _ ma ea, .fin _ mb eb => fpRound single rm neg (ma * mb) (ea + eb) false
  | _, _ =>
    if a.isNan || b.isNan then fpQuiet single [a, b]
    else if a.isZero || b.isZero then fpInvalid single else fpInf single neg
def fpDiv (single : Bool) (rm : Nat) (a b : FpVal) : FpRes :=
  let neg := a.isNeg != b.isNeg
  match a, b with
  | .fin _ ma ea, .fin _ mb eb =>
    if mb = 0 then
      (if ma = 0 then fpInvalid single else ((fpInf single neg).1, 8))
    else
      let k := 2 * fpP single + 4
      let n := ma * 2 ^ k
      fpRound single rm neg (n / mb) (ea - eb - k) (n % mb != 0)
  | .fin _ _ _, .inf _ => (fpSign single neg, 0)
  | .inf _, .fin _ _ _ => fpInf single neg
  | .inf _, .inf _ => fpInvalid single
  | _, _ => fpQuiet single [a, b]
/-- The root of `n`, rounded down, from `r` with `k` bits to find. -/
def natRoot (n : Nat) : Nat → Nat → Nat
  | 0, r => r
  | k + 1, r => natRoot n k (if (r + 2 ^ k) * (r + 2 ^ k) ≤ n then r + 2 ^ k else r)
def fpSqrt (single : Bool) (rm : Nat) (a : FpVal) : FpRes :=
  match a with
  | .nan _ => fpQuiet single [a]
  | .inf n => if n then fpInvalid single else fpInf single false
  | .fin neg m e =>
    if m = 0 then (fpSign single neg, 0)
    else if neg then fpInvalid single
    else
      let k := fpP single + 2
      let n := m * 2 ^ (2 * k + (e % 2).toNat)
      let r := natRoot n (2 * k) 0
      fpRound single rm false r (e / 2 - k) (r * r != n)

/-! ## Comparison, classification -/

/-- The order of two encodings that are no NaN. -/
def fpKey (single : Bool) (v : Nat) : Int :=
  let h := 2 ^ (fpWidth single - 1)
  if v / h % 2 = 1 then -((v % h : Nat) : Int) else (v % h : Nat)
/-- FMIN and FMAX: a NaN yields to a number, and −0 is below +0. -/
def fpMinMax (single max_ : Bool) (x y : Nat) : FpRes :=
  let a := fpUnpack single x
  let b := fpUnpack single y
  let fl := (fpQuiet single [a, b]).2
  if a.isNan && b.isNan then (fpNan single, fl)
  else if a.isNan then (y, fl)
  else if b.isNan then (x, fl)
  else
    let first := decide (fpKey single x < fpKey single y) || (decide (fpKey single x = fpKey single y) && a.isNeg)
    (if first = max_ then y else x, fl)
/-- FLE, FLT, FEQ by funct3 0, 1, 2; the first two signal any NaN. -/
def fpCompare (single : Bool) (f3 x y : Nat) : FpRes :=
  let a := fpUnpack single x
  let b := fpUnpack single y
  if a.isNan || b.isNan then (0, if f3 ≠ 2 || a.isSignaling || b.isSignaling then 16 else 0)
  else (b2n (match f3 with
    | 0 => decide (fpKey single x ≤ fpKey single y)
    | 1 => decide (fpKey single x < fpKey single y)
    | _ => decide (fpKey single x = fpKey single y)), 0)
/-- FCLASS: one bit of ten. -/
def fpClass (single : Bool) (v : Nat) : Nat :=
  match fpUnpack single v with
  | .nan s => if s then 256 else 512
  | .inf n => if n then 1 else 128
  | .fin n m _ =>
    let k := if m = 0 then 3 else if m < 2 ^ (fpP single - 1) then 2 else 1
    if n then 2 ^ k else 2 ^ (7 - k)

/-! ## Conversion -/

/-- To an integer of `n` bits; what does not fit gives the nearest limit, a NaN the upper one. -/
def fpToInt (rm n : Nat) (signed_ : Bool) (a : FpVal) : FpRes :=
  let lo : Int := if signed_ then -(2 ^ (n - 1)) else 0
  let hi : Int := if signed_ then 2 ^ (n - 1) - 1 else 2 ^ n - 1
  match a with
  | .nan _ => (wrap 64 hi, 16)
  | .inf neg => (wrap 64 (if neg then lo else hi), 16)
  | .fin neg m e =>
    let r := if 0 ≤ e then (m * 2 ^ e.toNat, false) else fpRoundAt rm neg m (-e).toNat
    let v : Int := if neg then -(r.1 : Int) else r.1
    if v < lo then (wrap 64 lo, 16)
    else if hi < v then (wrap 64 hi, 16)
    else (wrap 64 v, b2n r.2)
def fpFromInt (single : Bool) (rm : Nat) (v : Int) : FpRes := fpRound single rm (decide (v < 0)) v.natAbs 0 false
/-- From the other format. -/
def fpConvert (single : Bool) (rm : Nat) (a : FpVal) : FpRes :=
  match a with
  | .nan _ => fpQuiet single [a]
  | .inf n => fpInf single n
  | .fin n m e => fpRound single rm n m e false

/-! ## Instructions -/

/-- A single-precision operand: a register that is not boxed holds the canonical NaN. -/
def unboxed (v : DWord) : DWord := if v.toNat / 2 ^ 32 = 0xFFFFFFFF then v &&& 0xFFFFFFFF else 0x7FC00000
def fpOperand (single : Bool) (v : DWord) : Nat := if single then (unboxed v).toNat else v.toNat
/-- The integer operand of FCVT from W, WU, L, LU. -/
def fpIntOperand (kind : Nat) (v : DWord) : Int :=
  match kind with
  | 0 => signed 32 (v.toNat % 2 ^ 32)
  | 1 => (v.toNat % 2 ^ 32 : Nat)
  | 2 => v.toInt
  | _ => v.toNat
/-- FMADD, FMSUB, FNMSUB, FNMADD by their opcode. -/
def fpFused (op : Nat) (single : Bool) (rm : Nat) (a b c : FpVal) : FpRes :=
  match op with
  | 0x43 => fpFma single rm a b c
  | 0x47 => fpFma single rm a b c.neg_
  | 0x4B => fpFma single rm a.neg_ b c
  | _ => fpFma single rm a.neg_ b c.neg_
/-- The OP-FP instruction of `f5`, `rs2` and `f3` that computes a value with flags. -/
def fpOp (f5 rs2 f3 : Nat) (single : Bool) (rm : Nat) (a b : DWord) : FpRes :=
  let x := fpOperand single a
  let y := fpOperand single b
  let u := fpUnpack single x
  let v := fpUnpack single y
  match f5 with
  | 0 => fpAdd single rm u v
  | 1 => fpAdd single rm u v.neg_
  | 2 => fpMul single rm u v
  | 3 => fpDiv single rm u v
  | 5 => fpMinMax single (f3 == 1) x y
  | 8 => fpConvert single rm (fpUnpack (!single) (fpOperand (!single) a))
  | 11 => fpSqrt single rm u
  | 20 => fpCompare single f3 x y
  | 24 => fpToInt rm (if rs2 < 2 then 32 else 64) (rs2 % 2 == 0) u
  | 26 => fpFromInt single rm (fpIntOperand rs2 a)
  | _ => (fpClass single x, 0)
/-- Value and flags of the floating-point instruction `w` under rounding mode `rm`. -/
def fpResult (w : Nat) (rm : BitVec 3) (a b c : DWord) : DWord × BitVec 5 :=
  let r := if w % 128 = 0x53 then fpOp (bits w 27 5) (bits w 20 5) (bits w 12 3) (bits w 25 2 == 0) rm.toNat a b
    else
      let single := bits w 25 2 == 0
      let u : DWord → FpVal := fun v => fpUnpack single (fpOperand single v)
      fpFused (w % 128) single rm.toNat (u a) (u b) (u c)
  (BitVec.ofNat 64 r.1, BitVec.ofNat 5 r.2)

end Sys2Proof.Machine
end

