-- ==== Sys2Proof/Machine/LodgeIsa.lean ====
section
/-!
DEFINITION. The RV64IMAC instruction formats and arithmetic that a Lodge core executes (11 R494): fields, immediates, compressed
instructions, integer operations. The RISC-V specifications define them.
-/
namespace Sys2Proof.Machine

/-! ## Fields and immediates -/

def iOp (w : Nat) : Nat := bits w 0 7
def iRd (w : Nat) : Nat := bits w 7 5
def iF3 (w : Nat) : Nat := bits w 12 3
def iRs1 (w : Nat) : Nat := bits w 15 5
def iRs2 (w : Nat) : Nat := bits w 20 5
def iF7 (w : Nat) : Nat := bits w 25 7
def sext (n v : Nat) : DWord := BitVec.ofInt 64 (signed n v)
def immI (w : Nat) : DWord := sext 12 (bits w 20 12)
def immS (w : Nat) : DWord := sext 12 (bits w 25 7 * 32 + bits w 7 5)
def immB (w : Nat) : DWord := sext 13 (bits w 31 1 * 4096 + bits w 7 1 * 2048 + bits w 25 6 * 32 + bits w 8 4 * 2)
def immU (w : Nat) : DWord := sext 32 (bits w 12 20 * 4096)
def immJ (w : Nat) : DWord := sext 21 (bits w 31 1 * 2 ^ 20 + bits w 12 8 * 4096 + bits w 20 1 * 2048 + bits w 21 10 * 2)

/-! ## Integer operations -/

/-- The low word of a value, sign-extended. -/
def w32 (v : DWord) : DWord := (v.truncate 32).signExtend 64
def divS (n : Nat) (a b : BitVec n) : BitVec n := if b = 0 then BitVec.allOnes n else a.sdiv b
def divU (n : Nat) (a b : BitVec n) : BitVec n := if b = 0 then BitVec.allOnes n else a.udiv b
def remS (n : Nat) (a b : BitVec n) : BitVec n := if b = 0 then a else a.srem b
def remU (n : Nat) (a b : BitVec n) : BitVec n := if b = 0 then a else a.umod b
def hiProd (a b : Int) : DWord := BitVec.ofInt 64 (a * b / 2 ^ 64)
def shamt (n : Nat) (b : DWord) : Nat := b.toNat % n
/-- Register-register operations; none is illegal. -/
def aluOp (f7 f3 : Nat) (a b : DWord) : Option DWord :=
  match f7, f3 with
  | 0, 0 => some (a + b)
  | 32, 0 => some (a - b)
  | 0, 1 => some (a <<< shamt 64 b)
  | 0, 2 => some (if a.slt b then 1 else 0)
  | 0, 3 => some (if a.ult b then 1 else 0)
  | 0, 4 => some (a ^^^ b)
  | 0, 5 => some (a >>> shamt 64 b)
  | 32, 5 => some (a.sshiftRight (shamt 64 b))
  | 0, 6 => some (a ||| b)
  | 0, 7 => some (a &&& b)
  | 1, 0 => some (a * b)
  | 1, 1 => some (hiProd a.toInt b.toInt)
  | 1, 2 => some (hiProd a.toInt b.toNat)
  | 1, 3 => some (hiProd a.toNat b.toNat)
  | 1, 4 => some (divS 64 a b)
  | 1, 5 => some (divU 64 a b)
  | 1, 6 => some (remS 64 a b)
  | 1, 7 => some (remU 64 a b)
  | _, _ => none
/-- Word operations. -/
def aluOpW (f7 f3 : Nat) (a b : DWord) : Option DWord :=
  let x : BitVec 32 := a.truncate 32
  let y : BitVec 32 := b.truncate 32
  let r : Option (BitVec 32) := match f7, f3 with
    | 0, 0 => some (x + y)
    | 32, 0 => some (x - y)
    | 0, 1 => some (x <<< shamt 32 b)
    | 0, 5 => some (x >>> shamt 32 b)
    | 32, 5 => some (x.sshiftRight (shamt 32 b))
    | 1, 0 => some (x * y)
    | 1, 4 => some (divS 32 x y)
    | 1, 5 => some (divU 32 x y)
    | 1, 6 => some (remS 32 x y)
    | 1, 7 => some (remU 32 x y)
    | _, _ => none
  r.map (fun v => v.signExtend 64)
/-- Register-immediate operations: shifts carry their operation in bits 31:26, or 31:25 for words. -/
def aluImm (w : Nat) (a : DWord) : Option DWord :=
  match iF3 w with
  | 1 => if bits w 26 6 = 0 then some (a <<< bits w 20 6) else none
  | 5 => if bits w 26 6 = 0 then some (a >>> bits w 20 6)
         else if bits w 26 6 = 16 then some (a.sshiftRight (bits w 20 6)) else none
  | f => aluOp 0 f a (immI w)
def aluImmW (w : Nat) (a : DWord) : Option DWord :=
  match iF3 w with
  | 0 => some (w32 (a + immI w))
  | 1 => if iF7 w = 0 then aluOpW 0 1 a (BitVec.ofNat 64 (iRs2 w)) else none
  | 5 => if iF7 w = 0 || iF7 w = 32 then aluOpW (iF7 w) 5 a (BitVec.ofNat 64 (iRs2 w)) else none
  | _ => none
/-- A branch condition; none is illegal. -/
def branchTaken (f3 : Nat) (a b : DWord) : Option Bool :=
  match f3 with
  | 0 => some (a == b)
  | 1 => some (a != b)
  | 4 => some (a.slt b)
  | 5 => some (!(a.slt b))
  | 6 => some (a.ult b)
  | 7 => some (!(a.ult b))
  | _ => none
/-- What an AMO of `n` bytes stores, from the old value and the source. -/
def amoOp (f5 n : Nat) (old src : DWord) : Option DWord :=
  let a := if n = 4 then w32 old else old
  let b := if n = 4 then w32 src else src
  let au := if n = 4 then a.toNat % 2 ^ 32 else a.toNat
  let bu := if n = 4 then b.toNat % 2 ^ 32 else b.toNat
  match f5 with
  | 0 => some (a + b)
  | 1 => some b
  | 4 => some (a ^^^ b)
  | 8 => some (a ||| b)
  | 12 => some (a &&& b)
  | 16 => some (if a.slt b then a else b)
  | 20 => some (if a.slt b then b else a)
  | 24 => some (if au < bu then a else b)
  | 28 => some (if au < bu then b else a)
  | _ => none

/-! ## Compressed instructions -/

def encI (imm rs1 f3 rd op : Nat) : Nat := imm % 4096 * 2 ^ 20 + rs1 * 2 ^ 15 + f3 * 2 ^ 12 + rd * 2 ^ 7 + op
def encR (f7 rs2 rs1 f3 rd op : Nat) : Nat := f7 * 2 ^ 25 + rs2 * 2 ^ 20 + rs1 * 2 ^ 15 + f3 * 2 ^ 12 + rd * 2 ^ 7 + op
def encS (imm rs2 rs1 f3 op : Nat) : Nat :=
  bits imm 5 7 * 2 ^ 25 + rs2 * 2 ^ 20 + rs1 * 2 ^ 15 + f3 * 2 ^ 12 + bits imm 0 5 * 2 ^ 7 + op
def encB (imm rs2 rs1 f3 op : Nat) : Nat :=
  bits imm 12 1 * 2 ^ 31 + bits imm 5 6 * 2 ^ 25 + rs2 * 2 ^ 20 + rs1 * 2 ^ 15 + f3 * 2 ^ 12 + bits imm 1 4 * 2 ^ 8 +
    bits imm 11 1 * 2 ^ 7 + op
def encJ (imm rd op : Nat) : Nat :=
  bits imm 20 1 * 2 ^ 31 + bits imm 1 10 * 2 ^ 21 + bits imm 11 1 * 2 ^ 20 + bits imm 12 8 * 2 ^ 12 + rd * 2 ^ 7 + op
/-- The two's complement number of the low `n` bits as a field of 21 bits. -/
def sfield (n v : Nat) : Nat := wrap 21 (signed n v)

def rvcImm6 (h : Nat) : Nat := sfield 6 (bits h 12 1 * 32 + bits h 2 5)
def rvcRd' (h : Nat) : Nat := 8 + bits h 2 3
def rvcRs1' (h : Nat) : Nat := 8 + bits h 7 3
/-- Offset of a C word access, and of a C doubleword access. -/
def rvcOffW (h : Nat) : Nat := bits h 10 3 * 8 + bits h 6 1 * 4 + bits h 5 1 * 64
def rvcOffD (h : Nat) : Nat := bits h 10 3 * 8 + bits h 5 2 * 64

def rvcQ0 (h : Nat) : Option Nat :=
  let imm := bits h 11 2 * 16 + bits h 7 4 * 64 + bits h 6 1 * 4 + bits h 5 1 * 8
  match bits h 13 3 with
  | 0 => if imm = 0 then none else some (encI imm 2 0 (rvcRd' h) 0x13)
  | 1 => some (encI (rvcOffD h) (rvcRs1' h) 3 (rvcRd' h) 0x07)
  | 2 => some (encI (rvcOffW h) (rvcRs1' h) 2 (rvcRd' h) 0x03)
  | 3 => some (encI (rvcOffD h) (rvcRs1' h) 3 (rvcRd' h) 0x03)
  | 5 => some (encS (rvcOffD h) (rvcRd' h) (rvcRs1' h) 3 0x27)
  | 6 => some (encS (rvcOffW h) (rvcRd' h) (rvcRs1' h) 2 0x23)
  | 7 => some (encS (rvcOffD h) (rvcRd' h) (rvcRs1' h) 3 0x23)
  | _ => none
def rvcMisc (h : Nat) : Option Nat :=
  let r := rvcRs1' h
  let sh := bits h 12 1 * 32 + bits h 2 5
  match bits h 10 2 with
  | 0 => some (encI sh r 5 r 0x13)
  | 1 => some (encI (sh + 1024) r 5 r 0x13)
  | 2 => some (encI (rvcImm6 h) r 7 r 0x13)
  | _ =>
    (match bits h 12 1, bits h 5 2 with
      | 0, 0 => some (encR 32 (rvcRd' h) r 0 r 0x33)
      | 0, 1 => some (encR 0 (rvcRd' h) r 4 r 0x33)
      | 0, 2 => some (encR 0 (rvcRd' h) r 6 r 0x33)
      | 0, 3 => some (encR 0 (rvcRd' h) r 7 r 0x33)
      | 1, 0 => some (encR 32 (rvcRd' h) r 0 r 0x3B)
      | 1, 1 => some (encR 0 (rvcRd' h) r 0 r 0x3B)
      | _, _ => none)
def rvcJump (h : Nat) : Nat :=
  sfield 12 (bits h 12 1 * 2048 + bits h 11 1 * 16 + bits h 9 2 * 256 + bits h 8 1 * 1024 + bits h 7 1 * 64 + bits h 6 1 * 128 +
    bits h 3 3 * 2 + bits h 2 1 * 32)
def rvcBranch (h : Nat) : Nat :=
  sfield 9 (bits h 12 1 * 256 + bits h 10 2 * 8 + bits h 5 2 * 64 + bits h 3 2 * 2 + bits h 2 1 * 32)
def rvcQ1 (h : Nat) : Option Nat :=
  let rd := bits h 7 5
  match bits h 13 3 with
  | 0 => some (encI (rvcImm6 h) rd 0 rd 0x13)
  | 1 => if rd = 0 then none else some (encI (rvcImm6 h) rd 0 rd 0x1B)
  | 2 => some (encI (rvcImm6 h) 0 0 rd 0x13)
  | 3 =>
    (let sp := sfield 10 (bits h 12 1 * 512 + bits h 6 1 * 16 + bits h 5 1 * 64 + bits h 3 2 * 128 + bits h 2 1 * 32)
     let up := sfield 6 (bits h 12 1 * 32 + bits h 2 5)
     if up = 0 then none
     else if rd = 2 then some (encI sp 2 0 2 0x13)
     else some (up % 2 ^ 20 * 2 ^ 12 + rd * 2 ^ 7 + 0x37))
  | 4 => rvcMisc h
  | 5 => some (encJ (rvcJump h) 0 0x6F)
  | 6 => some (encB (rvcBranch h) 0 (rvcRs1' h) 0 0x63)
  | _ => some (encB (rvcBranch h) 0 (rvcRs1' h) 1 0x63)
def rvcQ2 (h : Nat) : Option Nat :=
  let rd := bits h 7 5
  let rs2 := bits h 2 5
  let ldw := bits h 12 1 * 32 + bits h 4 3 * 4 + bits h 2 2 * 64
  let ldd := bits h 12 1 * 32 + bits h 5 2 * 8 + bits h 2 3 * 64
  let stw := bits h 9 4 * 4 + bits h 7 2 * 64
  let std := bits h 10 3 * 8 + bits h 7 3 * 64
  match bits h 13 3 with
  | 0 => some (encI (bits h 12 1 * 32 + rs2) rd 1 rd 0x13)
  | 1 => some (encI ldd 2 3 rd 0x07)
  | 2 => if rd = 0 then none else some (encI ldw 2 2 rd 0x03)
  | 3 => if rd = 0 then none else some (encI ldd 2 3 rd 0x03)
  | 4 =>
    if bits h 12 1 = 0 then
      (if rs2 = 0 then (if rd = 0 then none else some (encI 0 rd 0 0 0x67)) else some (encR 0 rs2 0 0 rd 0x33))
    else if rs2 = 0 then (if rd = 0 then some 0x00100073 else some (encI 0 rd 0 1 0x67))
    else some (encR 0 rs2 rd 0 rd 0x33)
  | 5 => some (encS std rs2 2 3 0x27)
  | 6 => some (encS stw rs2 2 2 0x23)
  | _ => some (encS std rs2 2 3 0x23)
/-- The 32-bit instruction that a 16-bit one stands for; none is illegal. -/
def expandRvc (h : Nat) : Option Nat :=
  match h % 4 with
  | 0 => rvcQ0 h
  | 1 => rvcQ1 h
  | 2 => rvcQ2 h
  | _ => none

end Sys2Proof.Machine
end

