-- ==== Sys2Proof/Machine/LodgeCsr.lean ====
section
/-!
DEFINITION. Control and status registers of a Lodge core, traps and interrupts, and address translation of its accesses (11
R494, R498–R500, R513, R523; the RISC-V privileged specification).
-/
namespace Sys2Proof.Machine

/-! ## The registers -/

/-- Values that the RISC-V specifications leave open at reset (notes/assumptions/7.md). -/
def csrReset (n : Nat) : DWord :=
  if n = 0x300 then 0x2000 else if n = 0x30A then 0x4000000000000070 else if n = 0x10A then 0x70
  else if n = 0x306 || n = 0x106 then 7 else 0
def CoreState.getCsr (x : CoreState) (n : Nat) : DWord := Tab.get csrReset x.csr n
def CoreState.setCsr (x : CoreState) (n : Nat) (v : DWord) : CoreState := { x with csr := Tab.put csrReset x.csr n v }
def State.updCore (s : State) (c : Nat) (f : CoreState → CoreState) : State := s.setCore c (f (s.core c))

def mstatusMask : DWord := 0x7E79AA
def sstatusMask : DWord := 0xC6122
def csrBit (v : DWord) (k : Nat) : Bool := v.getLsbD k
def CoreState.mstatus (x : CoreState) : DWord := x.getCsr 0x300
/-- FS is not Off. -/
def CoreState.fpOn (x : CoreState) : Bool := bits x.mstatus.toNat 13 2 != 0
def sdBit (v : DWord) : DWord := if bits v.toNat 13 2 = 3 then 0x8000000000000000 else 0
/-- The mode of data accesses under MPRV. -/
def CoreState.dataPriv (x : CoreState) : Nat :=
  if x.priv = 3 && csrBit x.mstatus 17 then bits x.mstatus.toNat 11 2 else x.priv.toNat
/-- Ticks of the 2.0 GHz Lodge clock. -/
def State.lodgeTicks (s : State) : DWord := BitVec.ofNat 64 (s.now * 8 / 5)
/-- Pending interrupts: the notice FIFO raises the machine external interrupt (R513). -/
def CoreState.mip (x : CoreState) : DWord :=
  (x.getCsr 0x344 &&& 0x222) ||| (if x.irq.isEmpty then 0 else 0x800)
def misaWord : DWord := 0x800000000094112D

/-- Registers that are plain storage, with the bits a write sets. -/
def csrPlain (n : Nat) : Option DWord :=
  match n with
  | 0x105 => some 0xFFFFFFFFFFFFFFFD
  | 0x106 => some 0xFFFFFFFF
  | 0x10A => some 0x71
  | 0x140 => some (BitVec.allOnes 64)
  | 0x141 => some 0xFFFFFFFFFFFFFFFE
  | 0x142 => some (BitVec.allOnes 64)
  | 0x143 => some (BitVec.allOnes 64)
  | 0x302 => some 0xB3FF
  | 0x303 => some 0x222
  | 0x304 => some 0xAAA
  | 0x305 => some 0xFFFFFFFFFFFFFFFD
  | 0x306 => some 0xFFFFFFFF
  | 0x30A => some 0x4000000000000071
  | 0x340 => some (BitVec.allOnes 64)
  | 0x341 => some 0xFFFFFFFFFFFFFFFE
  | 0x342 => some (BitVec.allOnes 64)
  | 0x343 => some (BitVec.allOnes 64)
  | 0xB02 => some (BitVec.allOnes 64)
  | 0x800 => some (BitVec.allOnes 64)
  | 0x801 => some (BitVec.allOnes 64)
  | 0x802 => some (BitVec.allOnes 64)
  | 0x803 => some (BitVec.allOnes 64)
  | _ => none
/-- Registers that read as zero: no PMP entry, no further counter, no counter inhibition. -/
def csrZero (n : Nat) : Bool :=
  inRange n 0xB03 0xB20 || inRange n 0x323 0x340 || n == 0x320 || inRange n 0xC03 0xC20 ||
  (inRange n 0x3A0 0x3B0 && n % 2 == 0) || inRange n 0x3B0 0x3F0
/-- The counters a mode may read (mcounteren, scounteren). -/
def CoreState.counterOk (x : CoreState) (n : Nat) : Bool :=
  let k := n % 32
  (x.priv == 3 || csrBit (x.getCsr 0x306) k) && (x.priv != 0 || csrBit (x.getCsr 0x106) k)
/-- The mode may access register `n`, and `n` may be written where `w`. -/
def CoreState.csrAllowed (x : CoreState) (n : Nat) (w : Bool) : Bool :=
  decide (bits n 8 2 ≤ x.priv.toNat) && (!w || bits n 10 2 != 3) &&
  (!(inRange n 0xC00 0xC20) || x.counterOk n) && (!(inRange n 1 4) || x.fpOn) &&
  (n != 0x180 || x.priv == 3 || !(csrBit x.mstatus 20))

/-- Read register `n` of core `c`; none where there is no such register. -/
def State.csrRead (s : State) (c n : Nat) : Option (State × DWord) :=
  let x := s.core c
  let fcsr := x.getCsr 3
  if n = 1 then some (s, fcsr &&& 0x1F)
  else if n = 2 then some (s, (fcsr >>> 5) &&& 7)
  else if n = 3 then some (s, fcsr &&& 0xFF)
  else if n = 0x300 then some (s, x.mstatus ||| 0xA00000000 ||| sdBit x.mstatus)
  else if n = 0x100 then some (s, (x.mstatus &&& sstatusMask) ||| 0x200000000 ||| sdBit x.mstatus)
  else if n = 0x301 then some (s, misaWord)
  else if n = 0x104 then some (s, x.getCsr 0x304 &&& x.getCsr 0x303)
  else if n = 0x144 then some (s, x.mip &&& x.getCsr 0x303)
  else if n = 0x344 then some (s, x.mip)
  else if n = 0x180 then some (s, x.getCsr n)
  else if n = 0xB00 || n = 0xC00 then some (s, x.getCsr 0xB00 + s.lodgeTicks)
  else if n = 0xC01 then some (s.useFree, s.free.truncate 64)
  else if n = 0xC02 then some (s, x.getCsr 0xB02)
  else if inRange n 0xF11 0xF16 then some (s, Config.coreIdent c n)
  else if n = 0xFC0 then
    (let v : Nat := match x.irq with
       | [] => b2n x.irqOver * 2 ^ 30
       | q :: _ => 2 ^ 31 + b2n x.irqOver * 2 ^ 30 + q.toNat
     some (s.setCore c { x with irq := x.irq.drop 1, irqOver := false }, BitVec.ofNat 64 v))
  else if csrZero n then some (s, 0)
  else if (csrPlain n).isSome then some (s, x.getCsr n)
  else none

/-- The legal value nearest to a written mstatus: MPP 2 is no mode. -/
def legalMpp (old v : DWord) : DWord := if bits v.toNat 11 2 = 2 then (v &&& ~~~(0x1800 : DWord)) ||| (old &&& 0x1800) else v
def CoreState.writeStatus (x : CoreState) (mask v : DWord) : CoreState :=
  x.setCsr 0x300 (legalMpp x.mstatus ((x.mstatus &&& ~~~mask) ||| (v &&& mask)))
def CoreState.writeFcsr (x : CoreState) (v : DWord) : CoreState := (x.setCsr 3 (v &&& 0xFF)).writeStatus 0x6000 0x6000
/-- What a write of register `n` leaves; kzplen, which also starts a transfer, is Lodge.lean's. -/
def State.csrWrite (s : State) (c n : Nat) (v : DWord) : State :=
  let x := s.core c
  let fcsr := x.getCsr 3
  let put : CoreState → State := fun y => s.setCore c y
  match n with
  | 1 => put (x.writeFcsr ((fcsr &&& 0xE0) ||| (v &&& 0x1F)))
  | 2 => put (x.writeFcsr ((fcsr &&& 0x1F) ||| ((v &&& 7) <<< 5)))
  | 3 => put (x.writeFcsr v)
  | 0x300 => put (x.writeStatus mstatusMask v)
  | 0x100 => put (x.writeStatus sstatusMask v)
  | 0x104 => put (x.setCsr 0x304 ((x.getCsr 0x304 &&& ~~~(x.getCsr 0x303)) ||| (v &&& x.getCsr 0x303)))
  | 0x144 => put (x.setCsr 0x344 ((x.getCsr 0x344 &&& ~~~(x.getCsr 0x303 &&& 2)) ||| (v &&& x.getCsr 0x303 &&& 2)))
  | 0x344 => put (x.setCsr 0x344 (v &&& 0x222))
  | 0x180 => if bits v.toNat 60 4 = 0 || bits v.toNat 60 4 = 9 then put (x.setCsr n v) else s
  | 0xB00 => put (x.setCsr n (v - s.lodgeTicks))
  | _ => match csrPlain n with
    | some m => put (x.setCsr n (v &&& m))
    | none => s

/-! ## Traps (R505, R523) -/

/-- The pc that a trap of a vector goes to. -/
def vectorPc (tvec : DWord) (interrupt : Bool) (cause : Nat) : DWord :=
  let base := tvec &&& 0xFFFFFFFFFFFFFFFC
  if interrupt && tvec.getLsbD 0 then base + BitVec.ofNat 64 (4 * cause) else base
def causeWord (interrupt : Bool) (cause : Nat) : DWord := BitVec.ofNat 64 (b2n interrupt * 2 ^ 63 + cause)
/-- Status after a trap: the interrupt enable moves to its previous-enable bit, the mode to its previous-mode field. -/
def trapStatus (st : DWord) (toS : Bool) (priv : Nat) : DWord :=
  let n := st.toNat
  if toS then (st &&& ~~~(0x122 : DWord)) ||| BitVec.ofNat 64 (bits n 1 1 * 32 + priv % 2 * 256)
  else (st &&& ~~~(0x1888 : DWord)) ||| BitVec.ofNat 64 (bits n 3 1 * 128 + priv * 2048)
def CoreState.trapTo (x : CoreState) (toS interrupt : Bool) (cause : Nat) (tval : DWord) : CoreState :=
  let b := if toS then 0x100 else 0x300
  let x1 := ((x.setCsr (b + 0x41) x.pc).setCsr (b + 0x42) (causeWord interrupt cause)).setCsr (b + 0x43) tval
  let x2 := x1.setCsr 0x300 (trapStatus x.mstatus toS x.priv.toNat)
  { x2 with priv := if toS then 1 else 3, pc := vectorPc (x.getCsr (b + 5)) interrupt cause, resv := none }
/-- The trap is delegated to supervisor mode. -/
def CoreState.delegated (x : CoreState) (interrupt : Bool) (cause : Nat) : Bool :=
  x.priv != 3 && csrBit (x.getCsr (if interrupt then 0x303 else 0x302)) cause
/-- An exception: one of a task in user mode ends the task FAULTED, every other is taken (R523). -/
def State.exception (s : State) (c cause : Nat) (tval : DWord) : State :=
  let x := s.core c
  match x.task, x.priv with
  | some k, 0 => s.taskFault k c x.pc (causeWord false cause) tval
  | _, _ => s.setCore c (x.trapTo (x.delegated false cause) false cause tval)

/-- The interrupt that a core takes next, if one is pending and enabled: those for machine mode before those delegated. -/
def CoreState.nextIrq (x : CoreState) : Option Nat :=
  let pend := x.mip &&& x.getCsr 0x304
  let deleg := x.getCsr 0x303
  let mOn := x.priv != 3 || csrBit x.mstatus 3
  let sOn := x.priv == 0 || (x.priv == 1 && csrBit x.mstatus 1)
  let order := [11, 3, 7, 9, 1, 5]
  match order.find? (fun k => csrBit pend k && !(csrBit deleg k) && mOn) with
  | some k => some k
  | none => order.find? (fun k => csrBit pend k && csrBit deleg k && sOn)
def State.takeIrq (s : State) (c k : Nat) : State :=
  let x := s.core c
  s.setCore c (x.trapTo (x.delegated true k) true k 0)

/-! ## Translation (R498, R499) -/

/-- The task of a core runs in the address space of a context. -/
def State.coreDevice (s : State) (c : Nat) : Bool := decide (s.coreCtx c < 64)
/-- The address lies in a page of the range. -/
def inPages (r : Nat × Nat) (va : Nat) : Bool := r.2 != 0 && decide (r.1 / 4096 * 4096 ≤ va) && decide (va < pageUp (r.1 + r.2))
/-- An image kernel's address space, as firmware maps it: its code read and execute, its data and stack read and write, its image's
regions NC (R527). -/
def Kern.xlate (x : Kern) (va : Nat) (write exec : Bool) : XRes :=
  if inPages x.code va then (if write then .page else .ok va 0)
  else if inPages x.data va then (if exec then .page else .ok va 0)
  else if x.regions.any (fun r => inPages r va) then (if exec then .page else .ok va 1)
  else .page
/-- The image kernel that core `c` runs in user mode. -/
def State.kernOn (s : State) (c priv : Nat) : Option Kern :=
  if priv = 0 then (s.core c).task.bind (fun k => (s.task k).krec) else none
/-- Translate an access of core `c` in mode `priv`; a poisoned table entry is an access fault with its record (08 R374). -/
def State.coreXlate (s : State) (c priv va : Nat) (write exec : Bool) : State × XRes :=
  let x := s.core c
  let satp := (x.getCsr 0x180).toNat
  if let some k := s.kernOn c priv then (s, k.xlate va write exec)
  else if priv = 3 || satp / 2 ^ 60 = 0 then (s, if va < 2 ^ 48 then .ok va 0 else .access)
  else
    let a : Acc := ⟨write, exec, priv == 0, csrBit x.mstatus 18, csrBit x.mstatus 19, s.coreDevice c, mCore c⟩
    let r := s.translate (hubOf c) (satp % 2 ^ 44 * 4096) va a
    match r.2 with
    | .ok pa pb => if pb ≠ 0 && !(csrBit (x.getCsr 0x30A) 62) then (r.1, .page) else (r.1, .ok pa pb)
    | .poison w => (r.1.corePoison c w, .access)
    | e => (r.1, e)
/-- Exception codes of an access: misaligned, access fault, page fault. -/
def accessCause (write : Bool) : Nat := if write then 7 else 5
def pageCause (write : Bool) : Nat := if write then 15 else 13
def misalignedCause (write : Bool) : Nat := if write then 6 else 4

/-! ## Data accesses (R496, R499–R501) -/

/-- Where a data access goes: a physical address with its PBMT, or an exception code. -/
inductive Where_ where
  | at_ (pa pbmt : Nat)
  | bad (cause : Nat)
  deriving DecidableEq, Repr
def State.dataAt (s : State) (c va n : Nat) (write : Bool) : State × Where_ :=
  if va % n ≠ 0 then (s, .bad (misalignedCause write))
  else
    let r := s.coreXlate c (s.core c).dataPriv va write false
    match r.2 with
    | .ok pa pb => (r.1, .at_ pa pb)
    | .page => (r.1, .bad (pageCause write))
    | .access => (r.1, .bad (accessCause write))
    | .poison _ => (r.1, .bad (accessCause write))
/-- Read at a physical address for core `c`: memory, or registers over the Hedge. -/
def State.coreGet (s : State) (c pa pb n : Nat) (e : Ecc) : State × Option (List Byte) :=
  match physOf pa with
  | .reg o =>
    let g := s.coreHedge c pa pb n false
    if g.2 ≠ 0 then (g.1, none)
    else
      let r := g.1.busRegRead (hubOf c) o n
      (r.1, some r.2)
  | _ => s.coreRead c pa pb n e
/-- Write at a physical address for core `c`, through its store buffer where it is memory. -/
def State.corePut (s : State) (c pa pb n : Nat) (v : DWord) : State × Bool :=
  match physOf pa with
  | .reg o =>
    let g := s.coreHedge c pa pb n true
    if g.2 ≠ 0 then (g.1, false) else ((g.1.sbDrain c).busRegWrite o (leBytes n v.toNat), true)
  | _ => s.coreStore c pa pb n v
/-- Write bytes at once, past the store buffer, which is empty. -/
def State.corePutNow (s : State) (c pa pb : Nat) (bs : List Byte) : State × Bool :=
  let g := s.coreHedge c pa pb bs.length true
  if g.2 ≠ 0 then (g.1, false)
  else match physOf pa with
  | .reg o => (g.1.busRegWrite o bs, true)
  | _ => (g.1.coreWrite c pa (cachedAt pa pb) bs, true)
/-- A load: its bytes, or an exception code. -/
def State.loadVa (s : State) (c va n : Nat) (e : Ecc) : State × Except Nat (List Byte) :=
  let w := s.dataAt c va n false
  match w.2 with
  | .bad k => (w.1, .error k)
  | .at_ pa pb =>
    let r := w.1.coreGet c pa pb n e
    match r.2 with
    | some bs => (r.1, .ok bs)
    | none => (r.1, .error 5)
/-- A store: none, or an exception code. -/
def State.storeVa (s : State) (c va n : Nat) (v : DWord) : State × Option Nat :=
  let w := s.dataAt c va n true
  match w.2 with
  | .bad k => (w.1, some k)
  | .at_ pa pb =>
    let r := w.1.corePut c pa pb n v
    (r.1, if r.2 then none else some 7)

end Sys2Proof.Machine
end

