-- ==== Sys2Proof/Machine/Porter.lean ====
section
/-!
DEFINITION. The porter (11 R509–R511) and COPY tasks (12 R552).
-/
namespace Sys2Proof.Machine

/-- What a transfer met: nothing, or a fault of its read or its write side, of translation or of access. -/
inductive PorterRes where
  | done
  | fault (isWrite isPage : Bool)
  deriving DecidableEq, Repr
def PorterRes.cause : PorterRes → Nat
  | .done => 0
  | .fault w true => pageCause w
  | .fault w false => accessCause w

/-- Progress of a transfer: source, destination, bytes left. -/
structure Xfer where
  src : Nat
  dst : Nat
  len : Nat
  deriving DecidableEq, Repr

/-- Translation of an access of a transfer: virtual address, write. -/
abbrev XlateFn := State → Nat → Bool → State × XRes

/-- One piece of a transfer: `n` bytes within a 64-byte line on both sides (R510). -/
def State.porterPiece (xl : XlateFn) (c n : Nat) (s : State) (x : Xfer) : State × PorterRes :=
  let a := xl s x.src false
  match a.2 with
  | .page => (a.1, .fault false true)
  | .access => (a.1, .fault false false)
  | .poison w => (a.1.corePoison c w, .fault false false)
  | .ok pa pb =>
    let r := a.1.coreGet c pa pb n .clean
    match r.2 with
    | none => (r.1, .fault false false)
    | some bs =>
      let b := xl r.1 x.dst true
      match b.2 with
      | .page => (b.1, .fault true true)
      | .access => (b.1, .fault true false)
      | .poison w => (b.1.corePoison c w, .fault true false)
      | .ok pd qb =>
        let g := b.1.corePutNow c pd qb bs
        (g.1, if g.2 then .done else .fault true false)
/-- Move the pieces of a transfer until it ends or faults (R511). -/
def State.porterMove (xl : XlateFn) (c : Nat) : Nat → State → Xfer → State × Xfer × PorterRes
  | 0, s, x => (s, x, .done)
  | f + 1, s, x =>
    if x.len = 0 then (s, x, .done)
    else
      let n := min x.len (min (64 - x.src % 64) (64 - x.dst % 64))
      let r := s.porterPiece xl c n x
      match r.2 with
      | .done => State.porterMove xl c f r.1 ⟨x.src + n, x.dst + n, x.len - n⟩
      | e => (r.1, x, e)
/-- Pieces of the longest transfer. -/
def porterFuel : Nat := 2100
/-- The virtual address that a transfer faults at. -/
def Xfer.faultVa (x : Xfer) : PorterRes → DWord
  | .fault true _ => BitVec.ofNat 64 x.dst
  | _ => BitVec.ofNat 64 x.src

/-! ## Transfers of a core -/

/-- A write of `len` to kzplen by the instruction at the core's pc: the data moves, and the core waits for the last response;
at a fault the CSRs hold the progress and the instruction traps. A length of no transfer is only stored. -/
def State.startPorter (s : State) (c : Nat) (len : Nat) : State × Bool :=
  let x := s.core c
  if len = 0 || 65536 < len then (s.setCore c (x.setCsr 0x803 (BitVec.ofNat 64 len)), true)
  else
    let xl : XlateFn := fun t va w => t.coreXlate c x.dataPriv va w false
    let r := State.porterMove xl c porterFuel (s.sbDrain c) ⟨(x.getCsr 0x801).toNat, (x.getCsr 0x802).toNat, len⟩
    match r.2.2 with
    | .done => (r.1.updCore c (fun y => { y.setCsr 0x803 (BitVec.ofNat 64 len) with porter := true }), true)
    | e =>
      let z := r.2.1
      let s1 := r.1.updCore c (fun y =>
        ((y.setCsr 0x801 (BitVec.ofNat 64 z.src)).setCsr 0x802 (BitVec.ofNat 64 z.dst)).setCsr 0x803 (BitVec.ofNat 64 z.len))
      (s1.exception c e.cause (z.faultVa e), false)

/-! ## COPY tasks -/

/-- The core of COPY task `k` moves a chunk of at most 65,536 bytes; a fault faults the context. -/
def State.moveChunk (s : State) (k c : Nat) (x : DWord × DWord × Nat) : State :=
  let n := min 65536 x.2.2
  let ctx := s.taskCtx k
  let xl : XlateFn := fun t va w => t.translateFor (k / 256) ctx va (if w then accWrite else accRead)
  let r := State.porterMove xl c porterFuel s ⟨x.1.toNat, x.2.1.toNat, n⟩
  let z := r.2.1
  let left := x.2.2 - (n - z.len)
  let s1 := r.1.setTask k { r.1.task k with copy := some (BitVec.ofNat 64 z.src, BitVec.ofNat 64 z.dst, left) }
  match r.2.2 with
  | .done => if left = 0 && !((s1.task k).interrupted) then s1.endTask k 4 0 0 else s1
  | e => s1.taskFault k c 0 (BitVec.ofNat 64 e.cause) (z.faultVa e)
/-- The next chunk of a COPY task begins, unless a cancel or a supply warning stops it. -/
def State.nextChunk (s : State) (k c : Nat) : State :=
  let t := s.task k
  if t.copy.isNone || t.core ≠ some c || t.interrupted then s
  else if s.sup.warnHeld && !(s.taskEssential k) then s.suspendTask k
  else s.copyChunk k c

/-- PORTER_COMPLETE: the core resumes; a COPY task's chunk has moved, and its next begins (R509, R521, R524). -/
def State.porterComplete (s : State) (c : Nat) : State :=
  if (s.core c).porter = false then s
  else
    let s1 := s.updCore c (fun y => { y with porter := false })
    match (s.core c).task with
    | none => s1
    | some k =>
      match (s1.task k).copy with
      | some x => (s1.moveChunk k c x).nextChunk k c
      | none => if s1.sup.warnHeld then s1.suspendTask k else s1
def execPorterComplete (c : Core) (s : State) : Host.Outcome State Fault Refusal :=
  .next (s.orWait (s.porterComplete c.val))

end Sys2Proof.Machine
end

