-- ==== Sys2Proof/Machine/Xkzq.lean ====
section
/-!
DEFINITION. The Xkzq instructions, the notice FIFO, and what firmware does for tasks (11 R502–R506, R513–R515, R520).
-/
namespace Sys2Proof.Machine

/-- The core can retire an instruction: it has power, no transfer and no waiting Xkzq instruction, and its task, if any, is
running. -/
def State.coreRuns (s : State) (c : Nat) : Bool :=
  let x := s.core c
  s.corePresent c && s.domOn (12 + c) && !x.porter && x.wait.isNone &&
  (match x.task with
    | none => true
    | some k => (s.task k).st == 2 && !((s.task k).interrupted) && (s.task k).copy.isNone)
/-- Retire the instruction of `len` bytes at the pc, which writes `v` to register `rd`. -/
def State.retire (s : State) (c len rd : Nat) (v : DWord) : State :=
  s.updCore c (fun x =>
    let y := x.setX rd v
    { y.setCsr 0xB02 (y.getCsr 0xB02 + 1) with pc := x.pc + BitVec.ofNat 64 len })
/-- Illegal instruction. -/
def State.illegal (s : State) (c : Nat) (w : Nat) : State := s.exception c 2 (BitVec.ofNat 64 w)

/-! ## Queues and signal objects (R502–R506) -/

/-- A user-mode operation of task `k` may use queue or object `o` (R506). -/
def State.taskMay (s : State) (k : Nat) (queue : Bool) (o : Nat) : Bool :=
  let ctx := s.taskCtx k
  if ctx < 64 then (if queue then s.ownsPq ctx o else s.ownsSig ctx o)
  else match (s.task k).krec with
  | some x => if queue then x.queues.contains o
      else decide (kernField x.record 24 2 ≤ o) && decide (o < kernField x.record 24 2 + kernField x.record 26 2)
  | none => false
/-- Why an Xkzq operation is not performed: 0 when it is (R365, R417, R420, R506). -/
def State.kqCode (s : State) (c : Nat) (queue write : Bool) (o : Nat) : State × Nat :=
  let x := s.core c
  if (if queue then !(s.pqPresent o) else !(s.sigEn o)) then (s, 3)
  else if x.priv = 0 && !(x.task.any (fun k => s.taskMay k queue o)) then (s, 5)
  else
    let g := s.hdgAccess (hubOf c) (mCore c) (regBase + (if queue then aPq o else aSig o)) 8 write true
    (g.1, g.2.1)
def State.rs (s : State) (c r : Nat) : DWord := (s.core c).getX r
/-- The item that KQ.PUSH offers. -/
def kqOffer (c : Nat) (w : DWord) (bs : List Byte) : Offer :=
  ⟨lineOf bs, BitVec.ofNat 3 (bits w.toNat 16 3), w.getLsbD 19, w.getLsbD 20, BitVec.ofNat 8 (0x10 + c), 0⟩
/-- KQ.PUSH: earlier stores first, then the item (R504). -/
def State.kqPush (s : State) (c rd rs1 rs2 : Nat) : State :=
  let q := bits (s.rs c rs1).toNat 0 9
  let va := (s.rs c rs2).toNat
  let r := (s.sbDrain c).loadVa c va 64 .clean
  match r.2 with
  | .error k => r.1.exception c k (BitVec.ofNat 64 va)
  | .ok bs =>
    let g := r.1.kqCode c true true q
    if g.2 ≠ 0 then g.1.retireKq c rd (BitVec.ofNat 64 g.2) g.2
    else
      let o := kqOffer c (s.rs c rs1) bs
      let t := g.1.offer q o
      match t.2 with
      | .held => t.1.updCore c (fun x => { x with wait := some ⟨.push, rd, q, some o, s.now, 0⟩ })
      | .refused => t.1.retireKq c rd 6 6
      | _ => t.1.retireKq c rd 0 0
/-- KQ.POP: the 64 bytes at rs2 are written only when VALID is 1 (R503). -/
def State.kqPop (s : State) (c rd rs1 rs2 : Nat) (ue : Bool) : State :=
  let q := bits (s.rs c rs1).toNat 0 9
  let va := (s.rs c rs2).toNat
  let w := s.dataAt c va 64 true
  match w.2 with
  | .bad k => w.1.exception c k (BitVec.ofNat 64 va)
  | .at_ pa pb =>
    let g := w.1.kqCode c true false q
    if g.2 ≠ 0 then g.1.retireKq c rd 0 g.2
    else
      let h := g.1.coreHedge c pa pb 64 true
      if h.2 ≠ 0 then h.1.exception c 7 (BitVec.ofNat 64 va)
      else
        let p := h.1.popWith q ue
        let s1 := p.1.onPq q (fun y => { y with popStatus := p.2.1 })
        match p.2.2 with
        | none => s1.retireKq c rd p.2.1 0
        | some i =>
          let s2 := s1.onPq q (fun y => { y with popData := i.data })
          ((s2.sbDrain c).corePutNow c pa pb (lineBytes i.data)).1.retireKq c rd p.2.1 0
def State.kqSig (s : State) (c rd rs1 rs2 : Nat) : State :=
  let o := bits (s.rs c rs1).toNat 0 9
  let g := (s.sbDrain c).kqCode c false true o
  if g.2 ≠ 0 then g.1.retireKq c rd (BitVec.ofNat 64 g.2) g.2
  else (g.1.signal o ((s.rs c rs2).toNat % 65536)).retireKq c rd 0 0
/-- KQ.WAIT takes a count that no core waiting already is owed, or waits (R363, R503). -/
def State.kqWait (s : State) (c rd rs1 rs2 : Nat) : State :=
  let o := bits (s.rs c rs1).toNat 0 9
  let g := s.kqCode c false false o
  if g.2 ≠ 0 then g.1.retireKq c rd (BitVec.ofNat 64 g.2) g.2
  else if (g.1.waitersOn o).length < g.1.sigCount o then ((g.1.sigTake o).1).retireKq c rd 0 0
  else g.1.updCore c (fun x => { x with wait := some ⟨.wait, rd, o, none, s.now, (s.rs c rs2).toNat⟩ })
def execKqPush (c : Core) (rd rs1 rs2 : Fin 32) (s : State) : Host.Outcome State Fault Refusal :=
  .next (if s.coreRuns c.val then s.orWait (s.kqPush c.val rd.val rs1.val rs2.val) else s)
def execKqPop (c : Core) (rd rs1 rs2 : Fin 32) (ue : Bool) (s : State) : Host.Outcome State Fault Refusal :=
  .next (if s.coreRuns c.val then s.orWait (s.kqPop c.val rd.val rs1.val rs2.val ue) else s)
def execKqSig (c : Core) (rd rs1 rs2 : Fin 32) (s : State) : Host.Outcome State Fault Refusal :=
  .next (if s.coreRuns c.val then s.orWait (s.kqSig c.val rd.val rs1.val rs2.val) else s)
def execKqWait (c : Core) (rd rs1 rs2 : Fin 32) (s : State) : Host.Outcome State Fault Refusal :=
  .next (if s.coreRuns c.val then s.orWait (s.kqWait c.val rd.val rs1.val rs2.val) else s)

/-- A waiting KQ.WAIT of lowest core index takes a count (07 R363). -/
def State.waitGrant (s : State) (o : Nat) : State :=
  match s.waitersOn o with
  | [] => s
  | c :: _ => if s.sigEn o && s.sigCount o != 0 then ((s.sigTake o).1).finishWait c 0 else s
def execKqWaitGrant (o : SigIx) (s : State) : Host.Outcome State Fault Refusal := .next (s.waitGrant o.val)
/-- The timeout, in cycles of the 2.0 GHz Lodge clock, has passed. -/
def State.waitTimeout (s : State) (c : Nat) : State :=
  match (s.core c).wait with
  | some w => if w.kind = .wait && w.timeout ≠ 0 && decide (8 * w.since + 5 * w.timeout ≤ 8 * s.now) then s.finishWait c 7 else s
  | none => s
def execKqWaitTimeout (c : Core) (s : State) : Host.Outcome State Fault Refusal := .next (s.waitTimeout c.val)
/-- INTERRUPT_ABANDON (R505): no item has been accepted and no count taken; the trap returns to the instruction. -/
def State.irqAbandon (s : State) (c : Nat) : State :=
  match (s.core c).wait, (s.core c).nextIrq with
  | some _, some k => (s.abandonWait c).takeIrq c k
  | _, _ => s
def execInterruptAbandon (c : Core) (s : State) : Host.Outcome State Fault Refusal := .next (s.irqAbandon c.val)

/-! ## kzirq, kzplen (R509, R513) -/

def State.kzirqRead (s : State) (c rd : Nat) : State :=
  if (s.core c).csrAllowed 0xFC0 false = false then s.illegal c (0xFC0 * 2 ^ 20 + 2 * 2 ^ 12 + rd * 2 ^ 7 + 0x73)
  else match s.csrRead c 0xFC0 with
  | some r => r.1.retire c 4 rd r.2
  | none => s
def execKzirqRead (c : Core) (rd : Fin 32) (s : State) : Host.Outcome State Fault Refusal :=
  .next (if s.coreRuns c.val then s.kzirqRead c.val rd.val else s)
/-- The CSR write that starts a transfer, with no register written. -/
def State.porterStart (s : State) (c len : Nat) : State :=
  let r := s.startPorter c len
  if r.2 then r.1.retire c 4 0 0 else r.1
def execPorterStart (c : Core) (len : DWord) (s : State) : Host.Outcome State Fault Refusal :=
  .next (if s.coreRuns c.val then s.orWait (s.porterStart c.val len.toNat) else s)

/-! ## Firmware calls (R514, R515, R520) -/

/-- The task that calls: it runs on the core in user mode. -/
def State.caller (s : State) (c : Nat) : Option Nat :=
  if s.coreRuns c && (s.core c).priv == 0 then (s.core c).task else none
/-- A call returns results in a0 and a1. -/
def State.callReturn (s : State) (c : Nat) (a0 a1 : Option DWord) : State :=
  let put : Nat → Option DWord → CoreState → CoreState := fun r v x => match v with
    | some w => x.setX r w
    | none => x
  (s.updCore c (fun x => put 11 a1 (put 10 a0 x))).retire c 4 0 0
def State.callExit (s : State) (c k : Nat) : State := s.endTask k 4 0 (loWord (s.rs c 10))
def State.callAlloc (s : State) (c k : Nat) : State :=
  let ctx := s.taskCtx k
  let len := (s.rs c 10).toNat
  let r := s.allocate ctx len (s.rs c 11).toNat
  if r.2.1 ≠ 0 then r.1.callReturn c (some 0) (some (BitVec.ofNat 64 r.2.1))
  else
    (r.1.mapPages ctx ((s.rs c 12).getLsbD 0) (r.2.2 / 4096) (len / 4096)).callReturn c (some (BitVec.ofNat 64 r.2.2)) (some 0)
/-- FREE removes the mapping before the range is zeroed (R515). -/
def State.callFree (s : State) (c k : Nat) : State :=
  let ctx := s.taskCtx k
  let a := (s.rs c 10).toNat
  let n := (Tab.at_ (0, 0) s.alloc.live a).1
  let r := s.freeAlloc ctx a
  (if r.2 = 0 then r.1.unmapPages ctx (a / 4096) (n / 4096) else r.1).callReturn c none (some (BitVec.ofNat 64 r.2))
def State.callTime (s : State) (c : Nat) : State := s.callReturn c (some s.ptpNs) none
def State.callBand (s : State) (c : Nat) : State := s.callReturn c (some (s.bandNum.zeroExtend 64)) none
/-- ECALL of a task: the function is in a7. -/
def State.taskCall (s : State) (c k : Nat) : State :=
  match (s.rs c 17).toNat with
  | 1 => s.callExit c k
  | 2 => s.callAlloc c k
  | 3 => s.callFree c k
  | 4 => s.callTime c
  | 5 => s.callBand c
  | _ => s.callReturn c none (some (BitVec.allOnes 64))
/-- One of the calls by the task on core `c`. -/
def State.callOn (s : State) (c : Nat) (f : State → Nat → State) : State :=
  match s.caller c with
  | some k => f s k
  | none => s
def execEcallExit (c : Core) (s : State) : Host.Outcome State Fault Refusal :=
  .next (s.callOn c.val (fun t k => t.callExit c.val k))
def execEcallAlloc (c : Core) (s : State) : Host.Outcome State Fault Refusal :=
  .next (s.callOn c.val (fun t k => t.callAlloc c.val k))
def execEcallFree (c : Core) (s : State) : Host.Outcome State Fault Refusal :=
  .next (s.callOn c.val (fun t k => t.callFree c.val k))
def execEcallTime (c : Core) (s : State) : Host.Outcome State Fault Refusal :=
  .next (s.callOn c.val (fun t _ => t.callTime c.val))
def execEcallBand (c : Core) (s : State) : Host.Outcome State Fault Refusal :=
  .next (s.callOn c.val (fun t _ => t.callBand c.val))

end Sys2Proof.Machine
end

