-- ==== Sys2Proof/Machine/Lodge.lean ====
section
/-!
DEFINITION. A Lodge core executes one instruction (11 R494–R502, R507): fetch, RV64IMAFDC with Zicsr, Zifencei and Zicbom, and
Xkzq.
-/
namespace Sys2Proof.Machine

/-! ## Fetch (R494, Table 11.1) -/

/-- A parity error invalidates the line and counts LDG_IC_PARITY. -/
def State.icParity (s : State) (c k : Nat) : State :=
  (s.updCore c (fun x => { x with ic := x.ic.filter (fun e => e.1 != k) })).count (aLodge (hubOf c) + 0x10) 1
/-- The line `k` of memory as core `c` fetches it; the instruction cache may still hold an earlier copy. -/
def State.fetchLine (s : State) (c k pb : Nat) : State × Option Line :=
  match (s.core c).ic.find? (fun e => e.1 == k && Config.icKeeps s.fresh) with
  | some e => (s.useFree, some e.2)
  | none =>
    let r := s.useFree.coreRead c (64 * k) pb 64 .clean
    match r.2 with
    | some bs => (r.1.updCore c (fun x => { x with ic := Tab.set_ 0 x.ic k (lineOf bs) }), some (lineOf bs))
    | none => (r.1, none)
/-- The 16-bit parcel at virtual address `va`, or an exception code. -/
def State.fetchHalf (s : State) (c va : Nat) (parity : Bool) : State × Except Nat Nat :=
  let t := s.coreXlate c (s.core c).priv.toNat va false true
  match t.2 with
  | .page => (t.1, .error 12)
  | .access => (t.1, .error 1)
  | .poison _ => (t.1, .error 1)
  | .ok pa pb =>
    if memoryAt pa then
      let r := (if parity then t.1.icParity c (pa / 64) else t.1).fetchLine c (pa / 64) pb
      match r.2 with
      | some l => (r.1, .ok (fieldAt (lineBytes l) (pa % 64) 2))
      | none => (r.1, .error 1)
    else
      let r := t.1.coreGet c pa pb 2 .clean
      match r.2 with
      | some bs => (r.1, .ok (leNat bs))
      | none => (r.1, .error 1)

/-! ## Loads and stores -/

/-- The value of a load of kind `f3`; none is illegal. -/
def loadValue (f3 v : Nat) : Option DWord :=
  match f3 with
  | 0 => some (sext 8 v)
  | 1 => some (sext 16 v)
  | 2 => some (sext 32 v)
  | 3 => some (BitVec.ofNat 64 v)
  | 4 => some (BitVec.ofNat 64 v)
  | 5 => some (BitVec.ofNat 64 v)
  | 6 => some (BitVec.ofNat 64 v)
  | _ => none
/-- Where an instruction has no effect but its result: retire, or trap. -/
def State.orIllegal (s : State) (c len raw rd : Nat) (v : Option DWord) : State :=
  match v with
  | some r => s.retire c len rd r
  | none => s.illegal c raw
def State.insnLoad (s : State) (c len raw w : Nat) (e : Ecc) : State :=
  let va := (s.rs c (iRs1 w) + immI w).toNat
  if iF3 w = 7 then s.illegal c raw
  else
    let r := s.loadVa c va (2 ^ (iF3 w % 4)) e
    match r.2 with
    | .error k => r.1.exception c k (BitVec.ofNat 64 va)
    | .ok bs => r.1.orIllegal c len raw (iRd w) (loadValue (iF3 w) (leNat bs))
def State.storeDone (r : State × Option Nat) (c len va : Nat) : State :=
  match r.2 with
  | some k => r.1.exception c k (BitVec.ofNat 64 va)
  | none => r.1.retire c len 0 0
def State.insnStore (s : State) (c len raw w : Nat) : State :=
  let va := (s.rs c (iRs1 w) + immS w).toNat
  if 4 ≤ iF3 w then s.illegal c raw
  else State.storeDone (s.storeVa c va (2 ^ iF3 w) (s.rs c (iRs2 w))) c len va

/-! ## Atomics (R501) -/

/-- Memory under the PMA attribute. -/
def pmaMemory (pa pb : Nat) : Bool := memoryAt pa && pb == 0
def State.insnLr (s : State) (c len w pa pb n va : Nat) (e : Ecc) : State :=
  if !(pmaMemory pa pb) then s.exception c 7 (BitVec.ofNat 64 va)
  else
    let r := s.coreGet c pa pb n e
    match r.2 with
    | none => r.1.exception c 5 (BitVec.ofNat 64 va)
    | some bs => (r.1.updCore c (fun x => { x with resv := some (pa / 64) })).retire c len (iRd w) (sext (8 * n) (leNat bs))
def State.insnSc (s : State) (c len w pa pb n va : Nat) : State :=
  if !(pmaMemory pa pb) then s.exception c 7 (BitVec.ofNat 64 va)
  else
    let held := (s.core c).resv == some (pa / 64)
    let s1 := s.updCore c (fun x => { x with resv := none })
    if !held then s1.retire c len (iRd w) 1
    else
      let r := (s1.sbDrain c).corePutNow c pa pb (leBytes n (s.rs c (iRs2 w)).toNat)
      if r.2 then r.1.retire c len (iRd w) 0 else r.1.exception c 7 (BitVec.ofNat 64 va)
/-- An AMO reads and writes with no access between. -/
def State.insnAmo (s : State) (c len raw w pa pb n va : Nat) (e : Ecc) : State :=
  let allowed := pmaMemory pa pb || (match physOf pa with
    | .hbm _ => true
    | _ => false)
  if !allowed then s.exception c 7 (BitVec.ofNat 64 va)
  else
    let r := (s.sbDrain c).coreGet c pa pb n e
    match r.2 with
    | none => r.1.exception c 7 (BitVec.ofNat 64 va)
    | some bs =>
      let old := sext (8 * n) (leNat bs)
      match amoOp (iF7 w / 4) n old (s.rs c (iRs2 w)) with
      | none => r.1.illegal c raw
      | some v =>
        let q := r.1.corePutNow c pa pb (leBytes n v.toNat)
        if q.2 then q.1.retire c len (iRd w) old else q.1.exception c 7 (BitVec.ofNat 64 va)
def amoLegal (w : Nat) : Bool :=
  (iF3 w == 2 || iF3 w == 3) && (if iF7 w / 4 = 2 then iRs2 w == 0 else [0, 1, 3, 4, 8, 12, 16, 20, 24, 28].contains (iF7 w / 4))
def State.insnAtomic (s : State) (c len raw w : Nat) (e : Ecc) : State :=
  let va := (s.rs c (iRs1 w)).toNat
  let n := 2 ^ iF3 w
  if !(amoLegal w) then s.illegal c raw
  else
    let lr := iF7 w / 4 == 2
    let t := s.dataAt c va n (!lr)
    match t.2 with
    | .bad k => t.1.exception c k (BitVec.ofNat 64 va)
    | .at_ pa pb =>
      if lr then t.1.insnLr c len w pa pb n va e
      else if iF7 w / 4 = 3 then t.1.insnSc c len w pa pb n va
      else t.1.insnAmo c len raw w pa pb n va e

/-! ## Fences and cache blocks (R496, R507) -/

/-- A fence that orders earlier stores before later loads; FENCE.TSO does not. -/
def fenceDrains (w : Nat) : Bool :=
  bits w 28 4 != 8 && (bits w 24 1 == 1 || bits w 26 1 == 1) && (bits w 21 1 == 1 || bits w 23 1 == 1)
/-- What the mode lets a cache-block operation do: none is illegal, true an invalidation without write-back. -/
def CoreState.cboKind (x : CoreState) (op : Nat) : Option Bool :=
  let m := (x.getCsr 0x30A).toNat
  let u := (x.getCsr 0x10A).toNat
  if op = 0 then
    (if (x.priv != 3 && bits m 4 2 == 0) || (x.priv == 0 && bits u 4 2 == 0) then none
     else some ((x.priv == 3 || bits m 4 2 == 3) && (x.priv != 0 || bits u 4 2 == 3)))
  else if (x.priv != 3 && bits m 6 1 == 0) || (x.priv == 0 && bits u 6 1 == 0) then none
  else some false
/-- CBO.INVAL, CBO.CLEAN, CBO.FLUSH on the 64-byte block that holds an address. -/
def State.insnCbo (s : State) (c len raw w : Nat) : State :=
  let op := bits w 20 12
  let va := (s.rs c (iRs1 w)).toNat
  let x := s.core c
  match (if 3 ≤ op then none else x.cboKind op) with
  | none => s.illegal c raw
  | some drop =>
    let r := s.coreXlate c x.dataPriv va false false
    let r := (match r.2 with
      | .ok _ _ => r
      | _ => r.1.coreXlate c x.dataPriv va true false)
    match r.2 with
    | .page => r.1.exception c 15 (BitVec.ofNat 64 va)
    | .access => r.1.exception c 7 (BitVec.ofNat 64 va)
    | .poison _ => r.1.exception c 7 (BitVec.ofNat 64 va)
    | .ok pa _ =>
      let h := hubOf c
      let s1 := r.1.sbDrain c
      let s2 := if op = 1 then s1.l2Clean h (pa / 64) else if drop then s1.l2Drop h (pa / 64) else s1.l2Flush h (pa / 64)
      s2.retire c len 0 0
def State.insnMiscMem (s : State) (c len raw w : Nat) : State :=
  match iF3 w with
  | 0 => (if fenceDrains w then s.sbDrain c else s).retire c len 0 0
  | 1 => ((s.sbDrain c).updCore c (fun x => { x with ic := [] })).retire c len 0 0
  | 2 => if iRd w = 0 then s.insnCbo c len raw w else s.illegal c raw
  | _ => s.illegal c raw

/-! ## System instructions -/

/-- The new value that a CSR instruction writes; none writes nothing. -/
def csrNew (w : Nat) (old src : DWord) : Option DWord :=
  match iF3 w % 4 with
  | 1 => some src
  | 2 => if iRs1 w = 0 then none else some (old ||| src)
  | _ => if iRs1 w = 0 then none else some (old &&& ~~~src)
def State.insnCsr (s : State) (c len raw w : Nat) : State :=
  let n := bits w 20 12
  let src : DWord := if 4 ≤ iF3 w then BitVec.ofNat 64 (iRs1 w) else s.rs c (iRs1 w)
  let writes := (csrNew w 0 src).isSome
  if (s.core c).csrAllowed n writes = false then s.illegal c raw
  else match s.csrRead c n with
  | none => s.illegal c raw
  | some r =>
    match csrNew w r.2 src with
    | none => r.1.retire c len (iRd w) r.2
    | some v =>
      if n = 0x803 then
        (let p := r.1.startPorter c v.toNat
         if p.2 then p.1.retire c len (iRd w) r.2 else p.1)
      else (r.1.retire c len (iRd w) r.2).csrWrite c n v
/-- Return from a trap to the mode it came from. -/
def CoreState.trapReturn (x : CoreState) (fromS : Bool) : CoreState :=
  let st := x.mstatus
  let n := st.toNat
  let to_ := if fromS then bits n 8 1 else bits n 11 2
  let st1 := if fromS then (st &&& ~~~(0x122 : DWord)) ||| BitVec.ofNat 64 (bits n 5 1 * 2 + 32)
    else (st &&& ~~~(0x1888 : DWord)) ||| BitVec.ofNat 64 (bits n 7 1 * 8 + 128)
  let st2 := if to_ = 3 then st1 else st1 &&& ~~~(0x20000 : DWord)
  { x.setCsr 0x300 st2 with priv := BitVec.ofNat 2 to_, pc := x.getCsr (if fromS then 0x141 else 0x341), resv := none }
def State.insnEcall (s : State) (c : Nat) : State :=
  match s.caller c with
  | some k => s.taskCall c k
  | none => s.exception c (8 + (s.core c).priv.toNat) 0
def State.insnPriv (s : State) (c len raw w : Nat) : State :=
  let x := s.core c
  let p := x.priv
  if iRd w ≠ 0 then s.illegal c raw
  else if iF7 w = 9 then
    (if p = 0 || (p = 1 && csrBit x.mstatus 20) then s.illegal c raw else (s.sbDrain c).retire c len 0 0)
  else if iRs1 w ≠ 0 then s.illegal c raw
  else match bits w 20 12 with
  | 0 => s.insnEcall c
  | 1 => s.exception c 3 x.pc
  | 0x302 => if p = 3 then (s.updCore c (fun y => y.trapReturn false)).updCore c (fun y => y.setCsr 0xB02 (y.getCsr 0xB02 + 1)) else s.illegal c raw
  | 0x102 =>
    if p = 0 || (p = 1 && csrBit x.mstatus 22) then s.illegal c raw
    else (s.updCore c (fun y => y.trapReturn true)).updCore c (fun y => y.setCsr 0xB02 (y.getCsr 0xB02 + 1))
  | 0x105 => if p ≠ 3 && csrBit x.mstatus 21 then s.illegal c raw else s.retire c len 0 0
  | _ => s.illegal c raw
def State.insnSystem (s : State) (c len raw w : Nat) : State :=
  match iF3 w with
  | 0 => s.insnPriv c len raw w
  | 4 => s.illegal c raw
  | _ => s.insnCsr c len raw w

/-! ## Floating point -/

def CoreState.getF (x : CoreState) (r : Nat) : DWord := Tab.at_ 0 x.f r
/-- Writing a floating-point register makes FS dirty. -/
def CoreState.setF (x : CoreState) (r : Nat) (v : DWord) : CoreState :=
  let y := x.writeStatus 0x6000 0x6000
  { y with f := Tab.set_ 0 y.f r v }
def CoreState.addFlags (x : CoreState) (fl : BitVec 5) : CoreState :=
  x.writeFcsr (x.getCsr 3 ||| fl.zeroExtend 64)
def boxed (v : DWord) : DWord := 0xFFFFFFFF00000000 ||| (v &&& 0xFFFFFFFF)
/-- The rounding mode of an instruction; none is illegal. -/
def CoreState.roundMode (x : CoreState) (w : Nat) : Option (BitVec 3) :=
  let m := if iF3 w = 7 then bits (x.getCsr 3).toNat 5 3 else iF3 w
  if m ≤ 4 then some (BitVec.ofNat 3 m) else none
/-- Sign injection. -/
def signInject (f3 n a b : Nat) : Option Nat :=
  let top := 2 ^ (n - 1)
  let sa := a / top % 2
  let sb := b / top % 2
  let s := match f3 with
    | 0 => some sb
    | 1 => some (1 - sb)
    | 2 => some ((sa + sb) % 2)
    | _ => none
  s.map (fun k => a % top + k * top)
/-- An OP-FP instruction is one of F or D: by operation, rs2 and funct3. -/
def fpLegal (w : Nat) : Bool :=
  match iF7 w / 4 with
  | 0 => true
  | 1 => true
  | 2 => true
  | 3 => true
  | 4 => iF3 w ≤ 2
  | 5 => iF3 w ≤ 1
  | 8 => iRs2 w == 1 - iF7 w % 4
  | 11 => iRs2 w == 0
  | 20 => iF3 w ≤ 2
  | 24 => iRs2 w ≤ 3
  | 26 => iRs2 w ≤ 3
  | 28 => iRs2 w == 0 && iF3 w ≤ 1
  | 30 => iRs2 w == 0 && iF3 w == 0
  | _ => false
def fpRounds (w : Nat) : Bool := [0, 1, 2, 3, 8, 11, 24, 26].contains (iF7 w / 4)
/-- Retire with a value in a floating-point register. -/
def State.retireF (s : State) (c len rd : Nat) (single : Bool) (v : DWord) : State :=
  (s.updCore c (fun x => x.setF rd (if single then boxed v else v))).retire c len 0 0
def State.insnFp (s : State) (c len raw w : Nat) : State :=
  let x := s.core c
  let single := iF7 w % 4 == 0
  let op := iF7 w / 4
  let a := x.getF (iRs1 w)
  let b := x.getF (iRs2 w)
  let n := if single then 32 else 64
  if !x.fpOn || 2 ≤ iF7 w % 4 || !(fpLegal w) then s.illegal c raw
  else match (if fpRounds w then x.roundMode w else some (BitVec.ofNat 3 (iF3 w))) with
  | none => s.illegal c raw
  | some rm =>
    if op = 4 then
      let u : DWord → Nat := fun v => if single then (unboxed v).toNat else v.toNat
      match signInject (iF3 w) n (u a) (u b) with
      | some v => s.retireF c len (iRd w) single (BitVec.ofNat 64 v)
      | none => s.illegal c raw
    else if op = 30 then s.retireF c len (iRd w) single (s.rs c (iRs1 w))
    else if op = 28 && iF3 w = 0 then s.retire c len (iRd w) (if single then w32 a else a)
    else
      let r := fpResult w rm (if op = 26 then s.rs c (iRs1 w) else a) b 0
      let s1 := s.updCore c (fun y => y.addFlags r.2)
      if op = 20 then s1.retire c len (iRd w) (r.1 &&& 1)
      else if op = 28 then s1.retire c len (iRd w) (r.1 &&& 0x3FF)
      else if op = 24 then s1.retire c len (iRd w) (if iRs2 w < 2 then w32 r.1 else r.1)
      else s1.retireF c len (iRd w) single r.1
def State.insnFma (s : State) (c len raw w : Nat) : State :=
  let x := s.core c
  if !x.fpOn || 2 ≤ bits w 25 2 then s.illegal c raw
  else match x.roundMode w with
  | none => s.illegal c raw
  | some rm =>
    let r := fpResult w rm (x.getF (iRs1 w)) (x.getF (iRs2 w)) (x.getF (bits w 27 5))
    (s.updCore c (fun y => y.addFlags r.2)).retireF c len (iRd w) (bits w 25 2 == 0) r.1
def State.insnFpLoad (s : State) (c len raw w : Nat) (e : Ecc) : State :=
  let va := (s.rs c (iRs1 w) + immI w).toNat
  if !(s.core c).fpOn || (iF3 w ≠ 2 && iF3 w ≠ 3) then s.illegal c raw
  else
    let r := s.loadVa c va (2 ^ iF3 w) e
    match r.2 with
    | .error k => r.1.exception c k (BitVec.ofNat 64 va)
    | .ok bs => r.1.retireF c len (iRd w) (iF3 w == 2) (BitVec.ofNat 64 (leNat bs))
def State.insnFpStore (s : State) (c len raw w : Nat) : State :=
  let va := (s.rs c (iRs1 w) + immS w).toNat
  if !(s.core c).fpOn || (iF3 w ≠ 2 && iF3 w ≠ 3) then s.illegal c raw
  else State.storeDone (s.storeVa c va (2 ^ iF3 w) ((s.core c).getF (iRs2 w))) c len va

/-! ## Control flow -/

/-- Retire with a jump to `to_`, `v` in register `rd`. -/
def State.jump (s : State) (c rd : Nat) (v to_ : DWord) : State := (s.retire c 0 rd v).updCore c (fun x => { x with pc := to_ })
def State.insnBranch (s : State) (c len raw w : Nat) : State :=
  match branchTaken (iF3 w) (s.rs c (iRs1 w)) (s.rs c (iRs2 w)) with
  | none => s.illegal c raw
  | some true => s.jump c 0 0 ((s.core c).pc + immB w)
  | some false => s.retire c len 0 0
def State.insnJalr (s : State) (c len raw w : Nat) : State :=
  if iF3 w ≠ 0 then s.illegal c raw
  else s.jump c (iRd w) ((s.core c).pc + BitVec.ofNat 64 len) ((s.rs c (iRs1 w) + immI w) &&& 0xFFFFFFFFFFFFFFFE)

/-- Xkzq (R502). -/
def State.insnXkzq (s : State) (c raw w : Nat) : State :=
  if iF7 w ≠ 0 then s.illegal c raw
  else match iF3 w with
  | 0 => s.kqPush c (iRd w) (iRs1 w) (iRs2 w)
  | 1 => s.kqPop c (iRd w) (iRs1 w) (iRs2 w) false
  | 2 => s.kqSig c (iRd w) (iRs1 w) (iRs2 w)
  | 3 => s.kqWait c (iRd w) (iRs1 w) (iRs2 w)
  | _ => s.illegal c raw

/-! ## One instruction -/

/-- Execute the instruction `w` of `len` bytes; `raw` is the word as fetched. -/
def State.execInsn (s : State) (c len raw w : Nat) (e : Ecc) : State :=
  let a := s.rs c (iRs1 w)
  let b := s.rs c (iRs2 w)
  let pc := (s.core c).pc
  match iOp w with
  | 0x37 => s.retire c len (iRd w) (immU w)
  | 0x17 => s.retire c len (iRd w) (pc + immU w)
  | 0x6F => s.jump c (iRd w) (pc + BitVec.ofNat 64 len) (pc + immJ w)
  | 0x67 => s.insnJalr c len raw w
  | 0x63 => s.insnBranch c len raw w
  | 0x03 => s.insnLoad c len raw w e
  | 0x23 => s.insnStore c len raw w
  | 0x13 => s.orIllegal c len raw (iRd w) (aluImm w a)
  | 0x1B => s.orIllegal c len raw (iRd w) (aluImmW w a)
  | 0x33 => s.orIllegal c len raw (iRd w) (aluOp (iF7 w) (iF3 w) a b)
  | 0x3B => s.orIllegal c len raw (iRd w) (aluOpW (iF7 w) (iF3 w) a b)
  | 0x0F => s.insnMiscMem c len raw w
  | 0x73 => s.insnSystem c len raw w
  | 0x2F => s.insnAtomic c len raw w e
  | 0x07 => s.insnFpLoad c len raw w e
  | 0x27 => s.insnFpStore c len raw w
  | 0x43 => s.insnFma c len raw w
  | 0x47 => s.insnFma c len raw w
  | 0x4B => s.insnFma c len raw w
  | 0x4F => s.insnFma c len raw w
  | 0x53 => s.insnFp c len raw w
  | 0x0B => s.insnXkzq c raw w
  | _ => s.illegal c raw
/-- Fetch the instruction at the pc and execute it. -/
def State.fetchExec (s : State) (c : Nat) (e : Ecc) : State :=
  let pc := (s.core c).pc.toNat
  let r := s.fetchHalf c pc (e == .parityOnce || e == .parityTwice)
  match r.2 with
  | .error k => r.1.exception c k (BitVec.ofNat 64 pc)
  | .ok h =>
    if h % 4 ≠ 3 then
      (match expandRvc h with
        | some w => r.1.execInsn c 2 h w e
        | none => r.1.illegal c h)
    else
      let q := r.1.fetchHalf c (pc + 2) false
      match q.2 with
      | .error k => q.1.exception c k (BitVec.ofNat 64 (pc + 2))
      | .ok g => q.1.execInsn c 4 (h + 65536 * g) (h + 65536 * g) e
/-- LODGE_INSTRUCTION: an interrupt that is pending and enabled is taken first. `e` is what the instruction's read of memory
finds; a parity error is one of the instruction cache. -/
def State.lodgeInstruction (s : State) (c : Nat) (e : Ecc) : State :=
  if s.coreRuns c = false then s
  else match (s.core c).nextIrq with
  | some k => s.takeIrq c k
  | none => ((s.sbMayDrain c).l2Evict (hubOf c)).fetchExec c e
def execLodgeInstruction (c : Core) (e : Ecc) (s : State) : Host.Outcome State Fault Refusal :=
  .next (s.orWait (s.lodgeInstruction c.val e))

end Sys2Proof.Machine
end

