-- ==== Sys2Proof/Machine/Dispatch.lean ====
section
/-!
DEFINITION. The effect of each command: one arm per row of spec/opcode_table.json, each a direct call of its meaning.
-/
namespace Sys2Proof.Machine

def exec (i : Instr) (s : State) : Host.Outcome State Fault Refusal :=
  match i with
  | .pairedLowWordWrite r v => Sys2Proof.Machine.execPairedLowWordWrite r v s
  | .registerWrite off wide v => Sys2Proof.Machine.execRegisterWrite off wide v s
  | .readToClear off wide => Sys2Proof.Machine.execReadToClear off wide s
  | .deviceReset byPwrgood => Sys2Proof.Machine.execDeviceReset byPwrgood s
  | .functionLevelReset => Sys2Proof.Machine.execFunctionLevelReset s
  | .hubBootReset => Sys2Proof.Machine.execHubBootReset s
  | .perst => Sys2Proof.Machine.execPerst s
  | .resetRelease bootSrc => Sys2Proof.Machine.execResetRelease bootSrc s
  | .hbmTrainingComplete failed => Sys2Proof.Machine.execHbmTrainingComplete failed s
  | .firmwareVerifyComplete => Sys2Proof.Machine.execFirmwareVerifyComplete s
  | .firmwareStart => Sys2Proof.Machine.execFirmwareStart s
  | .capabilityPublish => Sys2Proof.Machine.execCapabilityPublish s
  | .bootReady => Sys2Proof.Machine.execBootReady s
  | .hubBootChunk len => Sys2Proof.Machine.execHubBootChunk len s
  | .encoderCount n aLeads => Sys2Proof.Machine.execEncoderCount n aLeads s
  | .encZPulse n => Sys2Proof.Machine.execEncZPulse n s
  | .internalTimerTick => Sys2Proof.Machine.execInternalTimerTick s
  | .belRunSet => Sys2Proof.Machine.execBelRunSet s
  | .belRunClear => Sys2Proof.Machine.execBelRunClear s
  | .belEos => Sys2Proof.Machine.execBelEos s
  | .belAbort => Sys2Proof.Machine.execBelAbort s
  | .belCtrlConfigWrite src encSel encDir => Sys2Proof.Machine.execBelCtrlConfigWrite src encSel encDir s
  | .belEncDivWrite v => Sys2Proof.Machine.execBelEncDivWrite v s
  | .belRevHystWrite v => Sys2Proof.Machine.execBelRevHystWrite v s
  | .belTimerPeriodWrite v => Sys2Proof.Machine.execBelTimerPeriodWrite v s
  | .ldgCloseMsWrite v => Sys2Proof.Machine.execLdgCloseMsWrite v s
  | .cameraLineWaitExpiry n => Sys2Proof.Machine.execCameraLineWaitExpiry n s
  | .bandBell => Sys2Proof.Machine.execBandBell s
  | .idleBell => Sys2Proof.Machine.execIdleBell s
  | .drainBell => Sys2Proof.Machine.execDrainBell s
  | .drainComplete => Sys2Proof.Machine.execDrainComplete s
  | .drainTimeout => Sys2Proof.Machine.execDrainTimeout s
  | .holdFreeze => Sys2Proof.Machine.execHoldFreeze s
  | .holdResume => Sys2Proof.Machine.execHoldResume s
  | .holdTimeout => Sys2Proof.Machine.execHoldTimeout s
  | .bandLeavesLastStage b => Sys2Proof.Machine.execBandLeavesLastStage b s
  | .ledgerRunTimeLimit => Sys2Proof.Machine.execLedgerRunTimeLimit s
  | .closeNow => Sys2Proof.Machine.execCloseNow s
  | .ledgerEntryEnqueue => Sys2Proof.Machine.execLedgerEntryEnqueue s
  | .tokenHop t from_ upset => Sys2Proof.Machine.execTokenHop t from_ upset s
  | .tokenEnqueue t from_ => Sys2Proof.Machine.execTokenEnqueue t from_ s
  | .creditReturn t route => Sys2Proof.Machine.execCreditReturn t route s
  | .tNop t => Sys2Proof.Machine.execTNop t s
  | .tCset t => Sys2Proof.Machine.execTCset t s
  | .tLoop t => Sys2Proof.Machine.execTLoop t s
  | .tJmp t => Sys2Proof.Machine.execTJmp t s
  | .tWaitck t => Sys2Proof.Machine.execTWaitck t s
  | .tAset t => Sys2Proof.Machine.execTAset t s
  | .tAadd t => Sys2Proof.Machine.execTAadd t s
  | .tRset t => Sys2Proof.Machine.execTRset t s
  | .tWaitq t => Sys2Proof.Machine.execTWaitq t s
  | .tRecv t => Sys2Proof.Machine.execTRecv t s
  | .tDrop t => Sys2Proof.Machine.execTDrop t s
  | .tSend t => Sys2Proof.Machine.execTSend t s
  | .tFwd t => Sys2Proof.Machine.execTFwd t s
  | .tLdsc t => Sys2Proof.Machine.execTLdsc t s
  | .tHreq t => Sys2Proof.Machine.execTHreq t s
  | .fireMac r => Sys2Proof.Machine.execFireMac r s
  | .fireExp r => Sys2Proof.Machine.execFireExp r s
  | .fireRecip r => Sys2Proof.Machine.execFireRecip r s
  | .fireRsqrt r => Sys2Proof.Machine.execFireRsqrt r s
  | .fireSigmoid r => Sys2Proof.Machine.execFireSigmoid r s
  | .fireTanh r => Sys2Proof.Machine.execFireTanh r s
  | .fireLog2 r => Sys2Proof.Machine.execFireLog2 r s
  | .fireAdd r => Sys2Proof.Machine.execFireAdd r s
  | .fireMul r => Sys2Proof.Machine.execFireMul r s
  | .fireMax r => Sys2Proof.Machine.execFireMax r s
  | .fireDw3 r => Sys2Proof.Machine.execFireDw3 r s
  | .fireDw5 r => Sys2Proof.Machine.execFireDw5 r s
  | .fireWrite t => Sys2Proof.Machine.execFireWrite t s
  | .fireWin0 r => Sys2Proof.Machine.execFireWin0 r s
  | .fireWin1 r => Sys2Proof.Machine.execFireWin1 r s
  | .fireRead r => Sys2Proof.Machine.execFireRead r s
  | .fireIn t => Sys2Proof.Machine.execFireIn t s
  | .fireOut t => Sys2Proof.Machine.execFireOut t s
  | .tAcc t => Sys2Proof.Machine.execTAcc t s
  | .tDrain t => Sys2Proof.Machine.execTDrain t s
  | .tRqh r => Sys2Proof.Machine.execTRqh r s
  | .tMrd t => Sys2Proof.Machine.execTMrd t s
  | .tMwr r => Sys2Proof.Machine.execTMwr r s
  | .tPset t => Sys2Proof.Machine.execTPset t s
  | .tPimm t => Sys2Proof.Machine.execTPimm t s
  | .tPcnt t => Sys2Proof.Machine.execTPcnt t s
  | .tPlog t => Sys2Proof.Machine.execTPlog t s
  | .tSel t => Sys2Proof.Machine.execTSel t s
  | .tBegin t => Sys2Proof.Machine.execTBegin t s
  | .tBend t => Sys2Proof.Machine.execTBend t s
  | .tHalt t => Sys2Proof.Machine.execTHalt t s
  | .tileSwapComplete t => Sys2Proof.Machine.execTileSwapComplete t s
  | .terCtrlSnap d => Sys2Proof.Machine.execTerCtrlSnap d s
  | .terCtrlClear d => Sys2Proof.Machine.execTerCtrlClear d s
  | .hbmReadResponse t e => Sys2Proof.Machine.execHbmReadResponse t e s
  | .cxpStreamPacket n p => Sys2Proof.Machine.execCxpStreamPacket n p s
  | .cxpControlPacket n bytes => Sys2Proof.Machine.execCxpControlPacket n bytes s
  | .linkLockLoss n => Sys2Proof.Machine.execLinkLockLoss n s
  | .gthLinkTimeout n => Sys2Proof.Machine.execGthLinkTimeout n s
  | .linkReturn n speed => Sys2Proof.Machine.execLinkReturn n speed s
  | .camPortDisable n => Sys2Proof.Machine.execCamPortDisable n s
  | .gatehouseSendBand h r => Sys2Proof.Machine.execGatehouseSendBand h r s
  | .mainsRefEdge h => Sys2Proof.Machine.execMainsRefEdge h s
  | .flkLockLoss h => Sys2Proof.Machine.execFlkLockLoss h s
  | .gthFfWrite n c v => Sys2Proof.Machine.execGthFfWrite n c v s
  | .ffBankWrite n bank => Sys2Proof.Machine.execFfBankWrite n bank s
  | .gthRescaleBandWrite n hi => Sys2Proof.Machine.execGthRescaleBandWrite n hi s
  | .kioskRow h r => Sys2Proof.Machine.execKioskRow h r s
  | .strobeTimeEnd m => Sys2Proof.Machine.execStrobeTimeEnd m s
  | .gthMarkReqGo h mask => Sys2Proof.Machine.execGthMarkReqGo h mask s
  | .pqItemOffer q o => Sys2Proof.Machine.execPqItemOffer q o s
  | .pqPushGo q v => Sys2Proof.Machine.execPqPushGo q v s
  | .pqBackpressureAccept q => Sys2Proof.Machine.execPqBackpressureAccept q s
  | .pqPop q ue => Sys2Proof.Machine.execPqPop q ue s
  | .pqFlush q => Sys2Proof.Machine.execPqFlush q s
  | .pqReset q => Sys2Proof.Machine.execPqReset q s
  | .pqEnable q cfg => Sys2Proof.Machine.execPqEnable q cfg s
  | .pqDisable q => Sys2Proof.Machine.execPqDisable q s
  | .queuePtrMismatch q copies => Sys2Proof.Machine.execQueuePtrMismatch q copies s
  | .sink1Delivery q ue => Sys2Proof.Machine.execSink1Delivery q ue s
  | .sink2HostWrite q ue => Sys2Proof.Machine.execSink2HostWrite q ue s
  | .hostHeadWrite q v => Sys2Proof.Machine.execHostHeadWrite q v s
  | .sigSignal sg n => Sys2Proof.Machine.execSigSignal sg n s
  | .sigTrywait sg => Sys2Proof.Machine.execSigTrywait sg s
  | .sigCountWrite sg v => Sys2Proof.Machine.execSigCountWrite sg v s
  | .sigCfgWrite sg v => Sys2Proof.Machine.execSigCfgWrite sg v s
  | .scrubRead w e => Sys2Proof.Machine.execScrubRead w e s
  | .gkpPassMsWrite v => Sys2Proof.Machine.execGkpPassMsWrite v s
  | .writeBack => Sys2Proof.Machine.execWriteBack s
  | .gkpRepairGo => Sys2Proof.Machine.execGkpRepairGo s
  | .repairWrite => Sys2Proof.Machine.execRepairWrite s
  | .fillBlock k => Sys2Proof.Machine.execFillBlock k s
  | .allocRequest q => Sys2Proof.Machine.execAllocRequest q s
  | .zeroingComplete addr => Sys2Proof.Machine.execZeroingComplete addr s
  | .hedgeRequest h r => Sys2Proof.Machine.execHedgeRequest h r s
  | .hedgeResponse h m id => Sys2Proof.Machine.execHedgeResponse h m id s
  | .holdbackRelease h m => Sys2Proof.Machine.execHoldbackRelease h m s
  | .lockTimeout h t => Sys2Proof.Machine.execLockTimeout h t s
  | .hdgWinEnable h w v => Sys2Proof.Machine.execHdgWinEnable h w v s
  | .hdgCtrlLocked h => Sys2Proof.Machine.execHdgCtrlLocked h s
  | .domainPowerRemoved d => Sys2Proof.Machine.execDomainPowerRemoved d s
  | .domainPowerOnComplete d => Sys2Proof.Machine.execDomainPowerOnComplete d s
  | .bedZeroFillComplete d b => Sys2Proof.Machine.execBedZeroFillComplete d b s
  | .loadGo mode => Sys2Proof.Machine.execLoadGo mode s
  | .loadAbort => Sys2Proof.Machine.execLoadAbort s
  | .swapNow => Sys2Proof.Machine.execSwapNow s
  | .hubSwapBandWrite hi => Sys2Proof.Machine.execHubSwapBandWrite hi s
  | .loadVerifyComplete => Sys2Proof.Machine.execLoadVerifyComplete s
  | .trellisDelivery t => Sys2Proof.Machine.execTrellisDelivery t s
  | .activation => Sys2Proof.Machine.execActivation s
  | .changeoverWindowClose => Sys2Proof.Machine.execChangeoverWindowClose s
  | .hubBar2BaseWrite hi => Sys2Proof.Machine.execHubBar2BaseWrite hi s
  | .lodgeInstruction c e => Sys2Proof.Machine.execLodgeInstruction c e s
  | .kqPush c rd rs1 rs2 => Sys2Proof.Machine.execKqPush c rd rs1 rs2 s
  | .kqPop c rd rs1 rs2 ue => Sys2Proof.Machine.execKqPop c rd rs1 rs2 ue s
  | .kqSig c rd rs1 rs2 => Sys2Proof.Machine.execKqSig c rd rs1 rs2 s
  | .kqWait c rd rs1 rs2 => Sys2Proof.Machine.execKqWait c rd rs1 rs2 s
  | .kqWaitGrant sg => Sys2Proof.Machine.execKqWaitGrant sg s
  | .kqWaitTimeout c => Sys2Proof.Machine.execKqWaitTimeout c s
  | .interruptAbandon c => Sys2Proof.Machine.execInterruptAbandon c s
  | .porterStart c len => Sys2Proof.Machine.execPorterStart c len s
  | .porterComplete c => Sys2Proof.Machine.execPorterComplete c s
  | .kzirqRead c rd => Sys2Proof.Machine.execKzirqRead c rd s
  | .ecallExit c => Sys2Proof.Machine.execEcallExit c s
  | .ecallAlloc c => Sys2Proof.Machine.execEcallAlloc c s
  | .ecallFree c => Sys2Proof.Machine.execEcallFree c s
  | .ecallTime c => Sys2Proof.Machine.execEcallTime c s
  | .ecallBand c => Sys2Proof.Machine.execEcallBand c s
  | .ldgTaskRecordWrite h slot word v => Sys2Proof.Machine.execLdgTaskRecordWrite h slot word v s
  | .ldgTaskGo h slot => Sys2Proof.Machine.execLdgTaskGo h slot s
  | .ldgTaskCancel h slot => Sys2Proof.Machine.execLdgTaskCancel h slot s
  | .taskStart h => Sys2Proof.Machine.execTaskStart h s
  | .taskCancelComplete h slot => Sys2Proof.Machine.execTaskCancelComplete h slot s
  | .ldgCorePwrWrite h v => Sys2Proof.Machine.execLdgCorePwrWrite h v s
  | .ldgL2LockWrite h v => Sys2Proof.Machine.execLdgL2LockWrite h v s
  | .kernelStopTimeout h slot => Sys2Proof.Machine.execKernelStopTimeout h slot s
  | .bar0MisalignedAccess off be write => Sys2Proof.Machine.execBar0MisalignedAccess off be write s
  | .atomicop bar off k wide a b => Sys2Proof.Machine.execAtomicop bar off k wide a b s
  | .bar2Access off write bytes r => Sys2Proof.Machine.execBar2Access off write bytes r s
  | .msixUnmask v => Sys2Proof.Machine.execMsixUnmask v s
  | .dbTail c r v => Sys2Proof.Machine.execDbTail c r v s
  | .dbCancelTag c tag => Sys2Proof.Machine.execDbCancelTag c tag s
  | .sigwinWrite c sg n => Sys2Proof.Machine.execSigwinWrite c sg n s
  | .sigwinRead c sg => Sys2Proof.Machine.execSigwinRead c sg s
  | .ctxCreate c => Sys2Proof.Machine.execCtxCreate c s
  | .ctxDestroy c => Sys2Proof.Machine.execCtxDestroy c s
  | .ctxDestroyComplete c => Sys2Proof.Machine.execCtxDestroyComplete c s
  | .ctxDestroyEscalated c => Sys2Proof.Machine.execCtxDestroyEscalated c s
  | .ctxClearFault c => Sys2Proof.Machine.execCtxClearFault c s
  | .ctxTlbInv c => Sys2Proof.Machine.execCtxTlbInv c s
  | .tlbInvComplete c => Sys2Proof.Machine.execTlbInvComplete c s
  | .ctxOwnWrite c queues word v => Sys2Proof.Machine.execCtxOwnWrite c queues word v s
  | .ringDisable c r => Sys2Proof.Machine.execRingDisable c r s
  | .ringEntryFetch c r => Sys2Proof.Machine.execRingEntryFetch c r s
  | .ringNop c r => Sys2Proof.Machine.execRingNop c r s
  | .ringTask c r => Sys2Proof.Machine.execRingTask c r s
  | .ringSignal c r => Sys2Proof.Machine.execRingSignal c r s
  | .ringWaitSig c r => Sys2Proof.Machine.execRingWaitSig c r s
  | .ringWaitGrant sg => Sys2Proof.Machine.execRingWaitGrant sg s
  | .ringWaitFence c r => Sys2Proof.Machine.execRingWaitFence c r s
  | .fencePoll c r => Sys2Proof.Machine.execFencePoll c r s
  | .ringWriteFence c r => Sys2Proof.Machine.execRingWriteFence c r s
  | .ringCopy c r => Sys2Proof.Machine.execRingCopy c r s
  | .entryComplete c r index => Sys2Proof.Machine.execEntryComplete c r index s
  | .flitReceive p f => Sys2Proof.Machine.execFlitReceive p f s
  | .promenadeTokenRelease p => Sys2Proof.Machine.execPromenadeTokenRelease p s
  | .prmLinkDown p => Sys2Proof.Machine.execPrmLinkDown p s
  | .msgHello m f => Sys2Proof.Machine.execMsgHello m f s
  | .msgCal p sent => Sys2Proof.Machine.execMsgCal p sent s
  | .msgFormed lat ckBase bandBase lineBase => Sys2Proof.Machine.execMsgFormed lat ckBase bandBase lineBase s
  | .msgRefused masks => Sys2Proof.Machine.execMsgRefused masks s
  | .msgStart first => Sys2Proof.Machine.execMsgStart first s
  | .msgTick slot line pos hwm => Sys2Proof.Machine.execMsgTick slot line pos hwm s
  | .msgBell m => Sys2Proof.Machine.execMsgBell m s
  | .msgStreamEnd band aborted => Sys2Proof.Machine.execMsgStreamEnd band aborted s
  | .msgArmed m digest => Sys2Proof.Machine.execMsgArmed m digest s
  | .msgSwap band digest => Sys2Proof.Machine.execMsgSwap band digest s
  | .msgFault code m grpCk holding => Sys2Proof.Machine.execMsgFault code m grpCk holding s
  | .msgPtp grpCk time => Sys2Proof.Machine.execMsgPtp grpCk time s
  | .ptpBroadcastTimer => Sys2Proof.Machine.execPtpBroadcastTimer s
  | .controlMessageTimeout kind => Sys2Proof.Machine.execControlMessageTimeout kind s
  | .tickMismatchTimeout => Sys2Proof.Machine.execTickMismatchTimeout s
  | .bellInEdge => Sys2Proof.Machine.execBellInEdge s
  | .groupTickApply => Sys2Proof.Machine.execGroupTickApply s
  | .gholdNFall => Sys2Proof.Machine.execGholdNFall s
  | .gholdNRise => Sys2Proof.Machine.execGholdNRise s
  | .groupFreeze => Sys2Proof.Machine.execGroupFreeze s
  | .groupResume => Sys2Proof.Machine.execGroupResume s
  | .gholdStuck => Sys2Proof.Machine.execGholdStuck s
  | .grpForm => Sys2Proof.Machine.execGrpForm s
  | .formingTimeout => Sys2Proof.Machine.execFormingTimeout s
  | .grpLeave => Sys2Proof.Machine.execGrpLeave s
  | .prmModeWrite mode => Sys2Proof.Machine.execPrmModeWrite mode s
  | .autoReform => Sys2Proof.Machine.execAutoReform s
  | .recal p => Sys2Proof.Machine.execRecal p s
  | .vsenseSample h microvoltA microvoltB => Sys2Proof.Machine.execVsenseSample h microvoltA microvoltB s
  | .supWarnClear => Sys2Proof.Machine.execSupWarnClear s
  | .supMismatch h => Sys2Proof.Machine.execSupMismatch h s
  | .pfailNAssert h => Sys2Proof.Machine.execPfailNAssert h s
  | .drainCut => Sys2Proof.Machine.execDrainCut s
  | .flushComplete => Sys2Proof.Machine.execFlushComplete s
  | .supThresholdWrite h k v => Sys2Proof.Machine.execSupThresholdWrite h k v s
  | .supDrainUsWrite v => Sys2Proof.Machine.execSupDrainUsWrite v s
  | .supFlushAck slot => Sys2Proof.Machine.execSupFlushAck slot s
  | .supPwrBedWrite v => Sys2Proof.Machine.execSupPwrBedWrite v s
  | .supPwrCamWrite v => Sys2Proof.Machine.execSupPwrCamWrite v s
  | .supPwrPrmWrite v => Sys2Proof.Machine.execSupPwrPrmWrite v s
  | .containmentComplete => Sys2Proof.Machine.execContainmentComplete s
  | .hubContainResume => Sys2Proof.Machine.execHubContainResume s
  | .hubFuseCmd v => Sys2Proof.Machine.execHubFuseCmd v s
  | .fuseOperationComplete good => Sys2Proof.Machine.execFuseOperationComplete good s
  | .temperatureSample slot t => Sys2Proof.Machine.execTemperatureSample slot t s
  | .thermalTrip => Sys2Proof.Machine.execThermalTrip s
  | .pinFuncWrite k v => Sys2Proof.Machine.execPinFuncWrite k v s
  | .pinSwitchEnd k => Sys2Proof.Machine.execPinSwitchEnd k s
  | .ppsOut => Sys2Proof.Machine.execPpsOut s
  | .testLogicReset => Sys2Proof.Machine.execTestLogicReset s
  | .extest => Sys2Proof.Machine.execExtest s
  | .clamp => Sys2Proof.Machine.execClamp s
  | .idcode => Sys2Proof.Machine.execIdcode s
  | .bypass => Sys2Proof.Machine.execBypass s
  | .samplePreload preload => Sys2Proof.Machine.execSamplePreload preload s
  | .bpbReadComplete timeout => Sys2Proof.Machine.execBpbReadComplete timeout s
  | .pcieLinkReturn width speed => Sys2Proof.Machine.execPcieLinkReturn width speed s
  | .ptpServoUpdate locked offsetNs => Sys2Proof.Machine.execPtpServoUpdate locked offsetNs s
  | .encoderLos n lost => Sys2Proof.Machine.execEncoderLos n lost s

end Sys2Proof.Machine
end

