-- ==== Sys2Proof/WellFormed.lean ====
section
/-!
DEFINITION. Well-formed commands: what the operands of a command must be for some device to receive it. Which parts a
device has is the state's business, not checked here.
-/
namespace Sys2Proof

/-- An access of one 32-bit register, or of an aligned pair (00 R7, R8). -/
def aligned (off : BitVec 25) (wide : Bool) : Bool := if wide then off.toNat % 8 == 0 else off.toNat % 4 == 0
/-- A 32-bit access carries 32 bits. -/
def narrow (wide : Bool) (v : DWord) : Bool := wide || decide (v.toNat < 2 ^ 32)
/-- Gates stand in rows 0 and 31 (03 R126). -/
def onGate (t : TileLoc) : Bool := t.row.val == 0 || t.row.val == 31
/-- Cisterns stand in columns 2 and 6, fountains in column 4, arbors in the other five of each pavilion (03 R126). -/
def onCistern (t : TileLoc) : Bool := !(onGate t) && (t.col.val % 8 == 2 || t.col.val % 8 == 6)
def onFountain (t : TileLoc) : Bool := !(onGate t) && t.col.val % 8 == 4
def onArbor (t : TileLoc) : Bool := !(onGate t) && !(onCistern t) && !(onFountain t)
/-- Pixel format codes 0 to 2 of GTH_CAM_CTRL.BPP (06 R274). -/
def packetOk (p : CxpPacket) : Bool := decide (p.fmt.toNat ≤ 2)
/-- A Hedge request moves 1 to 64 bytes inside one 64-byte line, and does not both take and end a lock (09 R430, R437). -/
def requestOk (r : HReq) : Bool :=
  decide (1 ≤ r.bytes) && decide (r.addr.toNat % 64 + r.bytes ≤ 64) && !(r.lock && r.unlock)
/-- A BAR 0 access that is neither an aligned word nor an aligned pair (12 R535). -/
def misaligned (off : BitVec 25) (be : BitVec 8) : Bool :=
  !(off.toNat % 8 == 0 && be == 0xFF) && !(off.toNat % 4 == 0 && (be == 0x0F || be == 0xF0))

/-- What the operands of each command must be. -/
def Instr.wellFormed (i : Instr) : Bool :=
  match i with
  | .registerWrite off wide v => aligned off wide && narrow wide v
  | .readToClear off wide => aligned off wide
  | .fireMac r => onArbor r.loc
  | .tLdsc t => onArbor t
  | .tAcc t => onArbor t
  | .tDrain t => onArbor t
  | .tRqh r => onArbor r.loc
  | .fireExp r => onFountain r.loc
  | .fireRecip r => onFountain r.loc
  | .fireRsqrt r => onFountain r.loc
  | .fireSigmoid r => onFountain r.loc
  | .fireTanh r => onFountain r.loc
  | .fireLog2 r => onFountain r.loc
  | .fireAdd r => onFountain r.loc
  | .fireMul r => onFountain r.loc
  | .fireMax r => onFountain r.loc
  | .fireDw3 r => onFountain r.loc
  | .fireDw5 r => onFountain r.loc
  | .fireWrite t => onCistern t
  | .fireWin0 r => onCistern r.loc
  | .fireWin1 r => onCistern r.loc
  | .fireRead r => onCistern r.loc
  | .tMrd t => onCistern t
  | .tMwr r => onCistern r.loc
  | .hbmReadResponse t _ => onCistern t
  | .fireIn t => onGate t
  | .fireOut t => onGate t
  | .cxpStreamPacket _ p => packetOk p
  | .hedgeRequest _ r => requestOk r
  | .bar0MisalignedAccess off be _ => misaligned off be
  | .bar2Access _ _ n _ => decide (n.val ≤ 64) && decide (1 ≤ n.val)
  | .atomicop _ off _ wide _ _ => if wide then off.toNat % 8 == 0 else off.toNat % 4 == 0
  | .pcieLinkReturn width _ => [1, 2, 4, 8, 16].contains width.toNat
  | _ => true

end Sys2Proof
end

