-- ==== Sys2Proof/Safety.lean ====
section
/-!
DEFINITION. What a safe step and a healthy state are, in the terms the claims use.
-/
namespace Sys2Proof.Machine

/-- The sparse tables and memories of the state are canonical, so that equal contents are equal data. -/
def State.canonical (s : State) : Bool :=
  Tab.wf (regReset s.ident) s.regs && Memory.wf s.hostMem && Memory.wf s.mem.hbm && Memory.wf s.mem.spiNor &&
  Tab.wf (fun _ => Tile.blank) s.tiles && Tab.wf (fun _ => DieCtr.zero) s.dies && Tab.wf (fun _ => CamState.init) s.gth.cams &&
  Tab.wf (fun _ => KskState.init) s.ksk && Tab.wf (fun _ => PqState.empty) s.pqs && Tab.wf (fun _ => HdgState.empty) s.hdg &&
  Tab.wf (fun _ => CoreState.reset) s.lodge.cores && Tab.wf (fun _ => TaskState.free) s.lodge.tasks &&
  Tab.wf (fun _ => CtxState.empty) s.ctxs && Tab.wf (fun _ => Link.init) s.grp.links &&
  Tab.wf (fun _ => SentState.init) s.sup.sent

/-- The step answers a next state: no command stops the block (14 R647 answers a fault with containment). -/
def State.goesOn (s : State) : Prop := ∃ t, step s = .next t

/-- No containment is under way and no line of the machine is frozen: sequencers run. -/
def State.healthy (s : State) : Prop := s.contain.active = false ∧ s.hold.frozen = false

/-- The commands waiting are well formed. -/
def State.queueWellFormed (s : State) : Prop := ∀ c ∈ s.pending, c.wellFormed = true

end Sys2Proof.Machine
end

