-- ==== Sys2Proof/Certificates/Slice0/Obligations.lean ====
section
/-!
DEFINITION. The statements for the provers. `Does c s P` says that command `c` completes in state `s` and leaves a state of
which `P` holds; `t = { s with f := t.f }` in it says that every part of the state but `f` is as before.
-/
open Sys2Proof Sys2Proof.Machine

/-- Command `c` completes in `s`, in a state of which `P` holds. -/
def Sys2Proof.Machine.Does (c : Instr) (s : State) (P : State → Prop) : Prop := ∃ t, exec c s = .next t ∧ P t

/-- Every register but those listed reads as before. -/
def Sys2Proof.Machine.RegsBut (s t : State) (l : List Nat) : Prop := ∀ a, a ∉ l → t.reg a = s.reg a

/-! ## Registers (00) -/

/-- Access codes (00 Table 0.3), bit by bit of a register word: a written 1 sets a W1S bit and clears a W1C bit, an RW bit takes
the written value, every other bit keeps its own; a read returns an RC bit to its reset value and changes no other. -/
def Obligations.AccessCodes : Prop :=
  ∀ (r : RegRow) (old v : Word) (i : Nat), i < 32 →
    ((r.written old v).getLsbD i =
      if r.w1s.getLsbD i && v.getLsbD i then true
      else if r.w1c.getLsbD i && v.getLsbD i then false
      else if r.rw.getLsbD i then v.getLsbD i else old.getLsbD i) ∧
    ((r.afterRead old).getLsbD i =
      if r.rc.getLsbD i then r.reset.getLsbD i else old.getLsbD i)

/-- A granted, aligned write by the host of a storage register holds what was written, and nothing else changes; a misaligned
one is counted and a write to an absent unit is ignored (00 R8, R17; 12 R535). GKP_CE_LIMIT stands for the registers without
an effect of their own, GKP_CE_COUNT for those that a read returns to 0. The low word of each of the three paired registers
goes to the register's latch and has no other effect (00 R695). -/
def Obligations.RegisterWrites : Prop :=
  (∀ (v : DWord) (x : Nat × Nat) (s : State), s.canonical = true →
    s.accessWaits 0 mPcie (regBase + aGkpCeLimit) 4 true = none →
    s.hdgCheck 0 mPcie (regBase + aGkpCeLimit) 4 true false = (s, 0, x) → s.ident.absentAt aGkpCeLimit = false →
    Does (.registerWrite (BitVec.ofNat 25 aGkpCeLimit) false v) s (fun t =>
      t = { s with regs := t.regs } ∧ t.reg aGkpCeLimit = loWord v ∧ RegsBut s t [aGkpCeLimit])) ∧
  (∀ (off : BitVec 25) (wide : Bool) (v : DWord) (s : State), off.toNat % accessBytes wide = 0 → s.ident.absentAt off.toNat = true →
    exec (.registerWrite off wide v) s = .next s) ∧
  (∀ (off : BitVec 25) (wide : Bool) (v : DWord) (s : State), s.canonical = true → off.toNat % accessBytes wide ≠ 0 →
    s.reg aHubPcieBadacc ≠ 0 →
    Does (.registerWrite off wide v) s (fun t => t = { s with regs := t.regs, born := t.born } ∧
      t.reg aHubPcieBadacc = satAdd (s.reg aHubPcieBadacc) 1 ∧ RegsBut s t [aHubPcieBadacc])) ∧
  (∀ (off : BitVec 25) (wide : Bool) (v : DWord) (w : Nat × Nat × Nat × Nat) (s : State), off.toNat % accessBytes wide = 0 →
    s.ident.absentAt off.toNat = false → s.accessWaits 0 mPcie (regBase + off.toNat) (accessBytes wide) true = some w →
    exec (.registerWrite off wide v) s = .next (s.noteHeld w)) ∧
  (∀ (x : Nat × Nat) (s : State), s.canonical = true →
    s.accessWaits 0 mPcie (regBase + aGkpCeCount) 4 false = none →
    s.hdgCheck 0 mPcie (regBase + aGkpCeCount) 4 false false = (s, 0, x) → s.tilGated 0 aGkpCeCount = false →
    s.ident.absentAt aGkpCeCount = false →
    Does (.readToClear (BitVec.ofNat 25 aGkpCeCount) false) s (fun t =>
      (s.reg aGkpCeCount ≠ 0xFFFFFFFF → t.readValue = (s.reg aGkpCeCount - s.bornAt aGkpCeCount).setWidth 64) ∧
      t.reg aGkpCeCount = s.bornAt aGkpCeCount ∧ RegsBut s t [aGkpCeCount] ∧ t.mem = s.mem)) ∧
  (∀ (r : PairedReg) (v : Word) (s : State), s.ident.absentAt (pairedAddr r) = false →
    Does (.pairedLowWordWrite r v) s (fun t => t = { s with latch := Tab.set_ 0 s.latch (pairedAddr r) v }))

/-! ## Bell and ledger (01) -/

/-- Encoder inputs, timer ticks and the wait for camera lines (01 R24, R25, R28, R29, R34, R35; 06 R277). A count of an encoder
that is not selected moves its own position by one and nothing else; one of the selected encoder that does not pass H moves
no H; an index pulse of the selected encoder takes P as the reference, and one of another does nothing. A timer tick of
another source does nothing, and one that is due moves the next one on by the period; the oldest open tick of a port closes
as missing after BEL_CAM_WAIT. The order of the effects of one count is the model's reading (notes/assumptions/94.md). -/
def Obligations.EncodersAndTicks : Prop :=
  (∀ (n : Enc) (a : Bool) (s : State), s.canonical = true → n.val < s.ident.encoders → n.val ≠ s.encSel →
    Does (.encoderCount n a) s (fun t => t = { s with regs := t.regs } ∧
      t.encPos n.val = (if a then s.encPos n.val + 1 else s.encPos n.val - 1) ∧
      RegsBut s t [aBelEncPos n.val, aBelEncPos n.val + 4])) ∧
  (∀ (n : Enc) (a : Bool) (s : State), s.canonical = true → n.val < s.ident.encoders → n.val = s.encSel → a ≠ s.encDir →
    w48lt s.hwm (s.encPos n.val + 1) = false → (s.hwm - (s.encPos n.val + 1)).toNat < s.revHyst →
    Does (.encoderCount n a) s (fun t => t = { s with regs := t.regs } ∧ t.encPos n.val = s.encPos n.val + 1 ∧
      RegsBut s t [aBelEncPos n.val, aBelEncPos n.val + 4])) ∧
  (∀ (n : Enc) (a : Bool) (s : State), s.canonical = true → n.val < s.ident.encoders → n.val = s.encSel → a ≠ s.encDir →
    s.srcSel = 0 → w48lt s.hwm (s.encPos n.val + 1) = true → s.bell.reversal = none → s.bell.tickAcc + 65536 < s.encDiv →
    Does (.encoderCount n a) s (fun t => t.hwm = s.encPos n.val + 1 ∧ t.encPos n.val = s.encPos n.val + 1 ∧
      t.bell.tickAcc = s.bell.tickAcc + 65536 ∧ t.lineNum = s.lineNum ∧ t.bell.bands = s.bell.bands)) ∧
  (∀ (n : Enc) (s : State), n.val < s.ident.encoders → n.val = s.encSel →
    Does (.encZPulse n) s (fun t => t = { s with regs := t.regs, born := t.born, bell := t.bell } ∧ t.bell.zRef = some s.posP ∧
      t.bell.bands = s.bell.bands)) ∧
  (∀ (n : Enc) (s : State), n.val ≠ s.encSel → exec (.encZPulse n) s = .next s) ∧
  (∀ s : State, s.srcSel = 2 → s.ticksAllowed = true → s.bell.timerDue ≤ s.now → Does .internalTimerTick s (fun t =>
    t.bell.timerDue = s.bell.timerDue + max 1000 (s.regN aBelTimerPeriod) ∧ t.now = s.now ∧ t.mem = s.mem)) ∧
  (∀ s : State, s.now < s.bell.timerDue → exec .internalTimerTick s = .next s) ∧
  (∀ s : State, s.srcSel ≠ 2 → exec .internalTimerTick s = .next s) ∧
  (∀ (n : Cam) (o : OpenTick) (s : State), s.canonical = true → (s.cam n.val).open_.head? = some o → o.at_ + s.camWait < s.now →
    Does (.cameraLineWaitExpiry n) s (fun t => t = { s with regs := t.regs, born := t.born, gth := t.gth, bell := t.bell } ∧
      (t.cam n.val).open_ = (s.cam n.val).open_.filter (fun x => x.line != o.line) ∧
      t.reg (aCam n.val + 0x20) = satAdd (s.reg (aCam n.val + 0x20)) 1 ∧ RegsBut s t [aCam n.val + 0x20])) ∧
  (∀ (n : Cam) (o : OpenTick) (s : State), (s.cam n.val).open_.head? = some o → o.at_ + s.camWait = s.now →
    exec (.cameraLineWaitExpiry n) s = .next (s.setCam n.val { s.cam n.val with expires := true })) ∧
  (∀ (n : Cam) (o : OpenTick) (s : State), (s.cam n.val).open_.head? = some o → s.now < o.at_ + s.camWait →
    exec (.cameraLineWaitExpiry n) s = .next s) ∧
  (∀ (n : Cam) (s : State), (s.cam n.val).open_ = [] → exec (.cameraLineWaitExpiry n) s = .next s)

/-- BEL_ controls (01 R26, R29, R30, R56, R72): the source changes only while RUN is 0; the division, hysteresis, timer period
and closing time are stored inside their ranges. -/
def Obligations.BellSettings : Prop :=
  (∀ (src sel : BitVec 2) (d : Bool) (s : State), s.canonical = true → s.runBit = false →
    Does (.belCtrlConfigWrite src sel d) s (fun t => t = { s with regs := t.regs, bell := t.bell } ∧
      t.srcSel = src.toNat ∧ t.encSel = sel.toNat ∧ t.encDir = d ∧ t.bell.bands = s.bell.bands ∧ RegsBut s t [aBelCtrl])) ∧
  (∀ (src sel : BitVec 2) (d : Bool) (s : State), s.canonical = true → s.runBit = true →
    Does (.belCtrlConfigWrite src sel d) s (fun t => t = { s with regs := t.regs, born := t.born } ∧ RegsBut s t [aBelStatus])) ∧
  (∀ (v : Word) (s : State), s.canonical = true → Does (.belEncDivWrite v) s (fun t => t = { s with regs := t.regs } ∧
    t.regN aBelEncDiv = max 0x10000 v.toNat ∧ RegsBut s t [aBelEncDiv])) ∧
  (∀ (v : Word) (s : State), s.canonical = true →
    s.bell.reversal.isSome = true ∨ s.srcSel ≠ 0 ∨ s.ticksAllowed = false ∨ w48le s.hwm s.posP = true ∨
      s.below < max 1 (min 65535 v.toNat) →
    Does (.belRevHystWrite v) s (fun t => t = { s with regs := t.regs } ∧
      t.regN aBelRevHyst = max 1 (min 65535 v.toNat) ∧ RegsBut s t [aBelRevHyst])) ∧
  (∀ (v : Word) (s : State), s.canonical = true → s.bell.reversal = none → s.srcSel = 0 → s.bell.phase = .running →
    w48le s.hwm s.posP = false → max 1 (min 65535 v.toNat) ≤ s.below →
    Does (.belRevHystWrite v) s (fun t => t.bell.reversal = some s.below ∧ t.regN aBelRevHyst = max 1 (min 65535 v.toNat) ∧
      t.reg aBelRevCount = satAdd (s.reg aBelRevCount) 1)) ∧
  (∀ (v : Word) (s : State), s.canonical = true → Does (.belTimerPeriodWrite v) s (fun t =>
    t = { s with regs := t.regs, bell := t.bell } ∧ t.regN aBelTimerPeriod = max 1000 v.toNat ∧
    t.bell.bands = s.bell.bands ∧ RegsBut s t [aBelTimerPeriod])) ∧
  (∀ (v : Word) (s : State), s.canonical = true → Does (.ldgCloseMsWrite v) s (fun t => t = { s with regs := t.regs } ∧
    t.regN aLdgCloseMs = max 1 (min 60000 v.toNat) ∧ RegsBut s t [aLdgCloseMs]))

/-- Streams (01 R25, R29, R39–R41): RUN opens a stream with H at P and an empty accumulator; a write of RUN that the device
cannot follow sets CFG_IGNORED; EOS and RUN cleared end it with the band in assembly, ABORT with the band before, and so do
all three where no band is in assembly; with no stream they do nothing. That ABORT ends a stream with ticks too is the
model's reading (notes/assumptions/34.md). -/
def Obligations.StreamControl : Prop :=
  (∀ s : State, s.canonical = true → s.runBit = false → s.activationDue = false → s.mayRun = true → s.grpMode = false →
    Does .belRunSet s (fun t => t.runBit = true ∧ t.bell.phase = .running ∧ t.bell.tickAcc = 0 ∧ t.hwm = s.posP ∧
      t.bell.firstLine = s.lineNum ∧ t.tiles = s.tiles ∧ t.mem = s.mem)) ∧
  (∀ s : State, s.canonical = true → s.runBit = false → s.activationDue = false → s.mayRun = false →
    Does .belRunSet s (fun t => t = { s with regs := t.regs, born := t.born } ∧ t.reg aBelStatus = s.reg aBelStatus ||| 0x100 ∧
      RegsBut s t [aBelStatus])) ∧
  (∀ (c : Instr) (s : State), c = .belEos ∨ c = .belRunClear → s.runBit = true → s.grp.running = false → s.bell.phase = .running →
    s.assembling = none → s.grp.ticks = [] →
    Does c s (fun t => t.bell.lastBand = some (s.bandNum - 1) ∧ t.bell.phase ≠ .running)) ∧
  (∀ (c : Instr) (b : BandRec) (s : State), c = .belEos ∨ c = .belRunClear → s.runBit = true → s.grp.running = false →
    s.bell.phase = .running → s.assembling = some b →
    Does c s (fun t => t.bell.lastBand = some b.num ∧ t.bell.phase ≠ .running)) ∧
  (∀ (b : BandRec) (s : State), s.runBit = true → s.grp.running = false → s.bell.phase = .running → s.assembling = some b →
    Does .belAbort s (fun t => t.bell.lastBand = some (b.num - 1) ∧ t.bell.phase ≠ .running)) ∧
  (∀ s : State, s.runBit = true → s.grp.running = false → s.bell.phase = .running → s.assembling = none → s.grp.ticks = [] →
    s.bell.lastBand = none →
    Does .belAbort s (fun t => t.bell.lastBand = some (s.bandNum - 1) ∧ t.bell.phase ≠ .running)) ∧
  (∀ s : State, s.runBit = false → exec .belEos s = .next s ∧ exec .belRunClear s = .next s ∧ exec .belAbort s = .next s)

/-- Admission, bells and the drain (01 R35–R41, R44, R54, R72). After an admission at A the gate of the next band is A plus
BEL_MIN_PERIOD plus the hold time beyond BEL_HOLD_ALLOW: a bell at or after it is admitted, an earlier one is shed with what
was missing as its quantity. A due band bell is rung at this ck, or at its end where the wait for lines ends with it (06
R323); an idle bell or drain bell that is due is rung, and drain bells are counted; the drain ends once EOS has left the
last stage (the model's choice of that ck: notes/assumptions/29.md): RUN reads 0, every ledger run is closed and the present
interval with it. -/
def Obligations.AdmissionAndBells : Prop :=
  (∀ (s : State) (a : Nat) (n : W48), s.bell.admittedAt = some a →
    (a + s.gatePeriod n + (s.bell.holdSince - s.holdAllow n) ≤ s.now →
      s.judge n = .opened (s.now - (a + s.gatePeriod n + (s.bell.holdSince - s.holdAllow n)))) ∧
    (s.now < a + s.gatePeriod n + (s.bell.holdSince - s.holdAllow n) →
      s.judge n = .early (if a + s.gatePeriod n ≤ s.now then 2 else 1)
        (a + s.gatePeriod n + (s.bell.holdSince - s.holdAllow n) - s.now))) ∧
  (∀ (b : BandRec) (s : State), s.nextBell = some b → s.bellDue b = true → s.lastCk b = false →
    Does .bandBell s (fun t => t.bell.lastBandBellAt = some s.now ∧ t.bell.lastBellAt = some s.now)) ∧
  (∀ (b : BandRec) (s : State), s.nextBell = some b → s.bellDue b = true → s.lastCk b = true →
    exec .bandBell s = .next { s with bell := { s.bell with atEnd := true } }) ∧
  (∀ (b : BandRec) (s : State), s.nextBell = some b → s.bellDue b = false → exec .bandBell s = .next s) ∧
  (∀ (b : BandRec) (s : State), s.canonical = true → (s.admitBand b).bell.admittedAt = some s.now ∧ (s.admitBand b).bell.holdSince = 0 ∧
    ∀ r ∈ (s.admitBand b).bell.bands, r.num = b.num → r.phase = .inFlight ∧ (r.gen, r.tag) = s.bandImage b.num) ∧
  (∀ s : State, s.nextBell = none → exec .bandBell s = .next s) ∧
  (∀ s : State, s.canonical = true → s.bell.phase = .running ∨ s.bell.phase = .ending → s.inFlight ≠ [] → s.sup.cut = false → s.grp.running = false →
    max (s.bell.lastTickAt.getD 0) (s.bell.lastIdleAt.getD 0) + max (s.regN aBelIdlePeriod) s.minPeriod ≤ s.now →
    Does .idleBell s (fun t =>
      t = { s with regs := t.regs, born := t.born, fresh := t.fresh, bell := t.bell, ledger := t.ledger, load := t.load } ∧
      t.ledger.runs = s.ledger.runs ∧ t.ledger.store = s.ledger.store ∧
      t.bell.lastIdleAt = some s.now ∧ t.reg aBelIdleCount = satAdd (s.reg aBelIdleCount) 1 ∧ RegsBut s t [aBelIdleCount])) ∧
  (∀ s : State, s.canonical = true → s.bell.phase = .draining → s.sup.cut = false → s.grp.running = false →
    s.contain.active = false →
    s.bell.lastBellAt.all (fun t => decide (t + s.minPeriod ≤ s.now)) = true →
    Does .drainBell s (fun t =>
      t = { s with regs := t.regs, born := t.born, fresh := t.fresh, bell := t.bell, ledger := t.ledger, load := t.load } ∧
      t.ledger.runs = s.ledger.runs ∧ t.ledger.store = s.ledger.store ∧
      t.bell.drainBells = s.bell.drainBells + 1 ∧ t.reg aBelIdleCount = satAdd (s.reg aBelIdleCount) 1 ∧
      RegsBut s t [aBelIdleCount])) ∧
  (∀ s : State, s.canonical = true → s.ledger.full = true → s.ledger.store.length + 512 ≤ 4096 →
    (s.ledgerResume).ledger = { s.ledger with full := false, resumed := some s.now }) ∧
  (∀ s : State, s.eosThrough = false → exec .drainComplete s = .next s) ∧
  (∀ s : State, s.eosThrough = true → exec .drainComplete s = .next s.endDrain) ∧
  (∀ s : State, s.bell.phase = .draining → s.depthBells + 2 ≤ s.bell.drainBells → s.eosThrough = false →
    s.contain.active = false → s.sup.t0 = none →
    Does .drainTimeout s (fun t => t.contain.active = true ∧ t.contain.code = 0x0209)) ∧
  (∀ s : State, s.canonical = true →
    bit (s.completeDrain.reg aBelCtrl) 8 = false ∧ s.completeDrain.bell.phase = .closed ∧ s.completeDrain.ledger.runs = [] ∧
    s.completeDrain.bell.interval = none ∧ s.completeDrain.grp.running = false ∧ s.completeDrain.tiles = s.tiles)

/-- HOLD (01 R50–R53): outside a group an edge of the hold tree freezes or resumes the machine six ck after it, and nothing
else; a hold past the watchdog faults every holder and sets its status bit. That these edges are commands is the model's
reading (notes/assumptions/95.md). -/
def Obligations.HoldTree : Prop :=
  (∀ (t0 : Nat) (rest : List (Nat × Bool)) (s : State), s.hold.edges = (t0, true) :: rest → t0 + 6 ≤ s.now →
    s.grp.running = false →
    Does .holdFreeze s (fun t => t = { s with hold := { s.hold with frozen := true, edges := rest } })) ∧
  (∀ (t0 : Nat) (rest : List (Nat × Bool)) (s : State), s.hold.edges = (t0, false) :: rest → t0 + 6 ≤ s.now →
    s.grp.running = false →
    Does .holdResume s (fun t => t = { s with hold := { s.hold with frozen := false, edges := rest } })) ∧
  (∀ (t0 : Nat) (v : Bool) (rest : List (Nat × Bool)) (s : State), s.hold.edges = (t0, v) :: rest → s.now < t0 + 6 →
    exec .holdFreeze s = .next s ∧ exec .holdResume s = .next s) ∧
  (∀ s : State, s.grp.running = false → s.hold.tree = true → s.hold.roseAt + s.regN aBelHoldWdog ≤ s.now → s.holders ≠ [] →
    exec .holdTimeout s = .next ((s.holders.foldl (fun t k => t.tileFault k 0x0207 0 0 0) s).setBits aBelStatus 0x40)) ∧
  (∀ s : State, s.holders = [] → exec .holdTimeout s = .next s)

/-- The ledger writer (01 R61, R70–R74, R700): the oldest band in flight, once every Gatehouse has sent it, is final (the
model's choice of that ck: notes/assumptions/29.md); runs past LDG_CLOSE_MS close; CLOSE_NOW is noted; the oldest entry of
the store goes to the ledger queue while it has room. A closing run takes the next SEQ, modulo 2^16; its entry joins the
holding store while that has a place, and is counted lost, to be marked in the next entry, when it has none. -/
def Obligations.LedgerWriter : Prop :=
  (∀ (b : BandRec) (s : State), s.inFlight.head? = some b → s.processed b.num = true →
    exec (.bandLeavesLastStage b.num) s = .next ((s.verdictWhere (fun r => r.num == b.num) ⟨0, 0, b.holdQty⟩).finalise)) ∧
  (∀ (n : W48) (s : State), s.processed n = false → exec (.bandLeavesLastStage n) s = .next s) ∧
  (∀ (n : W48) (s : State), s.inFlight = [] → exec (.bandLeavesLastStage n) s = .next s) ∧
  (∀ s : State, s.ledger.full = false → Does .ledgerRunTimeLimit s (fun t =>
    t.ledger.runs = s.ledger.runs.filter (fun r => !(decide (r.openedAt + s.closeLimit ≤ s.now) &&
      !(s.ledger.resumed.any (fun u => decide (r.openedAt + s.closeLimit ≤ u))))) ∧ t.bell = s.bell ∧
    t.tiles = s.tiles)) ∧
  (∀ s : State, s.ledger.full = true → exec .ledgerRunTimeLimit s = .next s) ∧
  (∀ s : State, Does .closeNow s (fun t => t = { s with ledger := { s.ledger with closeWanted := true } })) ∧
  (∀ (e : Line) (rest : List Line) (s : State), s.ledger.store = e :: rest → (s.pq qLedger).occ < s.pqDepth qLedger →
    Does .ledgerEntryEnqueue s (fun t => t.ledger = { s.ledger with store := rest } ∧ t.bell = s.bell ∧ t.tiles = s.tiles)) ∧
  (∀ s : State, s.ledger.store = [] → exec .ledgerEntryEnqueue s = .next s) ∧
  (∀ (byTime : Bool) (r : Run) (s : State), s.canonical = true →
    (s.closeRun byTime r).regN aLdgNextSeq = (s.regN aLdgNextSeq + 1) % 65536 ∧
    (s.closeRun byTime r).ledger.runs = s.ledger.runs ∧
    (s.ledger.store.length < 4096 →
      (s.closeRun byTime r).ledger.store.length = s.ledger.store.length + 1 ∧ (s.closeRun byTime r).ledger.lostMark = false) ∧
    (4096 ≤ s.ledger.store.length →
      (s.closeRun byTime r).ledger.store = s.ledger.store ∧ (s.closeRun byTime r).ledger.lostMark = true ∧
      (s.closeRun byTime r).reg aLdgLost = satAdd (s.reg aLdgLost) 1))

/-! ## The terrace: sequencers, tiles, transport (03–05) -/

/-- The sequencer of tile `k` can issue operation `o` in this ck: unguarded, legal, at the PC, none of its steps done. -/
def Sys2Proof.Machine.ReadyFor (s : State) (k : Nat) (o : TOp) : Prop :=
  s.canIssue k = true ∧ (s.tile k).pastEnd = false ∧ (s.tile k).steps = 0 ∧
  ∃ gp gi, decodeTile (s.tile k).fetch = some ⟨0, gp, gi, o⟩ ∧ legal (tileKind k) (s.tile k) ⟨0, gp, gi, o⟩ = true

/-- The tile after an instruction of `n` ck that goes on to the next word. -/
def Sys2Proof.Machine.Tile.after (x : Tile) (n : Nat) : Tile :=
  { x with pc := x.pc + 1, pastEnd := x.pc == 255, steps := 0, going := false, busy := n, busyFires := true, wait := .none_ }

/-- The tile after the first step, of `n` ck, of an instruction of more steps. -/
def Sys2Proof.Machine.Tile.amid (x : Tile) (n : Nat) : Tile :=
  { x with steps := 1, going := true, busy := n, busyFires := true, wait := .none_ }

/-- The tile once its instruction has issued and waits: for `v`, or idly when it is drained. -/
def Sys2Proof.Machine.Tile.stands (x : Tile) (v : TileWait) : Tile :=
  { x with going := true, wait := if x.phase = .drained then .none_ else v }

/-- A one-ck instruction that changes the tile by `f`, and nothing else in the machine. -/
def Sys2Proof.Machine.Changes (c : Instr) (k : Nat) (s : State) (f : Tile → Tile) : Prop :=
  exec c s = .next (s.setTile k ((f (s.tile k)).after 1))

/-- No transfer is at work on port `p` of tile `k`. -/
def Sys2Proof.Machine.PortFree (s : State) (k p : Nat) : Prop := (s.tile k).win.jobs.any (fun x => x.port == p) = false

/-- A run of the tile that starts from what it holds. -/
def Sys2Proof.Machine.State.fresh_ (s : State) (k : Nat) : TileRun := ⟨s.tile k, [], [], [], []⟩

/-- The machine after the first of the `m` steps of an instruction of tile `k`, `n` ck long, which left `r`. -/
def Sys2Proof.Machine.State.stepped (s : State) (k m n : Nat) (r : TileRun) : State :=
  s.bringBack k { r with t := if 1 < m then r.t.amid n else r.t.after n }

/-- An instruction of `m` steps of one ck whose first step left `r`. -/
def Sys2Proof.Machine.Runs (c : Instr) (k m : Nat) (s : State) (r : TileRun) : Prop := exec c s = .next (s.stepped k m 1 r)

/-- The machine after a step has read word `w` of the memory of tile `t` and found `e` there. -/
def Sys2Proof.Machine.State.wordRead (s : State) (t : TileLoc) (w : Option Nat) (e : Ecc) : State := match w with
  | some w => s.tileRead t w e
  | none => s

/-- In a canonical state, the first step `f` of an instruction goes, and leaves `r` once word `w` has been read. -/
def Sys2Proof.Machine.Reads (s : State) (t : TileLoc) (w : Option Nat) (e : Ecc) (f : TEnv → Nat → TileRun → StepRes) (r : TileRun) :
    Prop :=
  s.canonical = true ∧ (∃ r0, f (s.tenv t.key) 0 (s.fresh_ t.key) = .ok r0) ∧
  f ((s.wordRead t w e).tenv t.key) 0 ((s.wordRead t w e).fresh_ t.key) = .ok r

/-- The head of queue `q` of tile `k` is `f`, of a kind that RECV, DROP and FWD take: DATA, SELECT or HANDLE (03 R158). -/
def Sys2Proof.Machine.UsableHead (s : State) (k q : Nat) (f : Flight) : Prop :=
  (s.tile k).head q s.now = some f ∧ (tagKind f.tok.tag = 0 ∨ tagKind f.tok.tag = 2 ∨ tagKind f.tok.tag = 3)

/-- The head of queue `q` of tile `k` is the DATA token `f`. -/
def Sys2Proof.Machine.DataHead (s : State) (k q : Nat) (f : Flight) : Prop :=
  (s.tile k).head q s.now = some f ∧ tagKind f.tok.tag = 0

/-- Every sequencer instruction has one word (03 R153, Table 3.5), and its word gives it back: no bit of an operand is dropped
and no two instructions share a word. -/
def Obligations.TileEncodingRoundTrip : Prop := ∀ i : TInst, decodeTile (encodeTile i) = some i

/-- Counters, control, predicates and select (03 R155, R156, R165–R167): CSET sets limit and count, LOOP counts down and jumps
until the count ends and is set back, JMP jumps always, WAITCK takes its count without firing, ASET, AADD and RSET set their
registers, PIMM, PSET, PCNT and PLOG set a predicate, and SEL copies a buffer with its tag. -/
def Obligations.SequencerControl : Prop :=
  (∀ (t : TileLoc) (s : State), ReadyFor s t.key .nop → Changes (.tNop t) t.key s id) ∧
  (∀ (t : TileLoc) (c : BitVec 2) (n : BitVec 16) (s : State), ReadyFor s t.key (.cset c n) →
    Changes (.tCset t) t.key s (fun x => x.setCnt c.toNat ⟨n.toNat + 1, n.toNat + 1⟩)) ∧
  (∀ (t : TileLoc) (c : BitVec 2) (a : BitVec 8) (s : State), ReadyFor s t.key (.loop c a) →
    ((s.tile t.key).cnt c.toNat).cur ≤ 1 →
    Changes (.tLoop t) t.key s (fun x => x.setCnt c.toNat ⟨(x.cnt c.toNat).limit, (x.cnt c.toNat).limit⟩)) ∧
  (∀ (t : TileLoc) (c : BitVec 2) (a : BitVec 8) (s : State), ReadyFor s t.key (.loop c a) →
    1 < ((s.tile t.key).cnt c.toNat).cur →
    Does (.tLoop t) s (fun u => u = { s with tiles := u.tiles } ∧ (s.canonical = true →
      (u.tile t.key).pc = a ∧
      (u.tile t.key).cnt c.toNat = ⟨((s.tile t.key).cnt c.toNat).limit, ((s.tile t.key).cnt c.toNat).cur - 1⟩ ∧
      (u.tile t.key).mem = (s.tile t.key).mem ∧ (u.tile t.key).io = (s.tile t.key).io))) ∧
  (∀ (t : TileLoc) (a : BitVec 8) (s : State), ReadyFor s t.key (.jmp a) →
    exec (.tJmp t) s = .next (s.setTile t.key { s.tile t.key with pc := a, pastEnd := false, steps := 0, going := false, busy := 1, busyFires := true, wait := .none_ })) ∧
  (∀ (t : TileLoc) (n : BitVec 16) (s : State), ReadyFor s t.key (.waitck n) →
    exec (.tWaitck t) s = .next (s.setTile t.key { (s.tile t.key).after n.toNat with busyFires := false })) ∧
  (∀ (t : TileLoc) (a : BitVec 2) (v : BitVec 16) (s : State), ReadyFor s t.key (.aset a v) →
    Changes (.tAset t) t.key s (fun x => x.setAr a.toNat v)) ∧
  (∀ (t : TileLoc) (a : BitVec 2) (v : BitVec 16) (s : State), ReadyFor s t.key (.aadd a v) →
    Changes (.tAadd t) t.key s (fun x => x.setAr a.toNat (x.ar a.toNat + v))) ∧
  (∀ (t : TileLoc) (r : BitVec 10) (s : State), ReadyFor s t.key (.rset r) →
    Changes (.tRset t) t.key s (fun x => { x with seq := { x.seq with rr := r } })) ∧
  (∀ (t : TileLoc) (s : State), ReadyFor s t.key .halt →
    exec (.tHalt t) s = .next (s.setTile t.key { s.tile t.key with phase := .halted, wait := .none_ })) ∧
  (∀ (t : TileLoc) (p : BitVec 2) (v : BitVec 1) (s : State), ReadyFor s t.key (.pimm p v) →
    Changes (.tPimm t) t.key s (fun x => x.setPred p.toNat (v == 1))) ∧
  (∀ (t : TileLoc) (p b c : BitVec 2) (it : BitVec 1) (ix : BitVec 9) (s : State), ReadyFor s t.key (.pset p b c it ix) →
    Changes (.tPset t) t.key s (fun x => x.setPred p.toNat ((x.buf b.toNat).payload.getLsbD
      (if it = 1 then (ix.toNat + ((x.cnt c.toNat).limit - (x.cnt c.toNat).cur)) % 512 else ix.toNat)))) ∧
  (∀ (t : TileLoc) (p c cmp : BitVec 2) (v : BitVec 16) (s : State), ReadyFor s t.key (.pcnt p c cmp v) →
    Changes (.tPcnt t) t.key s (fun x => x.setPred p.toNat
      (if cmp = 0 then ((x.cnt c.toNat).cur == v.toNat) else if cmp = 1 then ((x.cnt c.toNat).cur != v.toNat)
       else if cmp = 2 then decide ((x.cnt c.toNat).cur < v.toNat) else decide (v.toNat ≤ (x.cnt c.toNat).cur)))) ∧
  (∀ (t : TileLoc) (p pa pb fn : BitVec 2) (s : State), ReadyFor s t.key (.plog p pa pb fn) →
    Changes (.tPlog t) t.key s (fun x => x.setPred p.toNat
      (if fn = 0 then x.predOf pa.toNat && x.predOf pb.toNat else if fn = 1 then x.predOf pa.toNat || x.predOf pb.toNat
       else if fn = 2 then x.predOf pa.toNat != x.predOf pb.toNat else !(x.predOf pa.toNat)))) ∧
  (∀ (t : TileLoc) (p ba bb bd : BitVec 2) (s : State), ReadyFor s t.key (.sel p ba bb bd) →
    Changes (.tSel t) t.key s (fun x => x.setBuf bd.toNat (x.buf (if x.predOf p.toNat then ba.toNat else bb.toNat))))

/-- Queues and tokens (03 R154, R157, R158, R168, R169): WAITQ goes on once enough tokens are usable, raises HOLD_LEAD where a
held queue is short, and waits otherwise; RECV takes the head token into a buffer; DROP takes it; SEND puts a buffer's token
on a route that has a credit, and waits without one; FWD moves the head token to a route; HREQ requests a hold while tokens
are short. -/
def Obligations.SequencerTokens : Prop :=
  (∀ (t : TileLoc) (q : BitVec 3) (n : BitVec 5) (s : State), ReadyFor s t.key (.waitq q n) →
    n.toNat + 1 ≤ (s.tile t.key).usable q.toNat → Changes (.tWaitq t) t.key s id) ∧
  (∀ (t : TileLoc) (q : BitVec 3) (n : BitVec 5) (s : State), ReadyFor s t.key (.waitq q n) →
    (s.tile t.key).usable q.toNat < n.toNat + 1 → (s.tile t.key).held q.toNat = false →
    exec (.tWaitq t) s = .next (s.setTile t.key ((s.tile t.key).stands .input))) ∧
  (∀ (t : TileLoc) (q : BitVec 3) (n : BitVec 5) (s : State), ReadyFor s t.key (.waitq q n) →
    (s.tile t.key).usable q.toNat < n.toNat + 1 → (s.tile t.key).held q.toNat = true →
    exec (.tWaitq t) s = .next (s.tileCond t.key 0x0204 q.toNat ((s.tile t.key).usable q.toNat) (n.toNat + 1))) ∧
  (∀ (t : TileLoc) (q : BitVec 3) (b : BitVec 2) (f : Flight) (s : State), ReadyFor s t.key (.recv q b) →
    UsableHead s t.key q.toNat f →
    Runs (.tRecv t) t.key 1 s { (s.fresh_ t.key).pop q.toNat s.now with
      t := (((s.fresh_ t.key).pop q.toNat s.now).t).setBuf b.toNat f.tok }) ∧
  (∀ (t : TileLoc) (q : BitVec 3) (n : BitVec 5) (f : Flight) (s : State), ReadyFor s t.key (.drop q n) → UsableHead s t.key q.toNat f →
    Runs (.tDrop t) t.key (n.toNat + 1) s ((s.fresh_ t.key).pop q.toNat s.now)) ∧
  (∀ (t : TileLoc) (b : BitVec 2) (rt : BitVec 10) (r : TileRun) (s : State), ReadyFor s t.key (.send b rt) →
    (s.fresh_ t.key).send (s.tenv t.key) rt (tagKind ((s.tile t.key).buf b.toNat).tag) (tagFmt ((s.tile t.key).buf b.toNat).tag)
      (tagLast ((s.tile t.key).buf b.toNat).tag) ((s.tile t.key).buf b.toNat).payload s.now = some r →
    Runs (.tSend t) t.key 1 s r) ∧
  (∀ (t : TileLoc) (b : BitVec 2) (rt : BitVec 10) (s : State), ReadyFor s t.key (.send b rt) →
    (s.tile t.key).creditsFree (s.tile t.key).gen rt = 0 →
    exec (.tSend t) s = .next (s.setTile t.key ((s.tile t.key).stands .credit))) ∧
  (∀ (t : TileLoc) (q : BitVec 3) (n : BitVec 8) (rt : BitVec 10) (f : Flight) (r : TileRun) (s : State), ReadyFor s t.key (.fwd q n rt) →
    UsableHead s t.key q.toNat f →
    ((s.fresh_ t.key).pop q.toNat s.now).send (s.tenv t.key) rt (tagKind f.tok.tag) (tagFmt f.tok.tag) (tagLast f.tok.tag)
      f.tok.payload s.now = some r →
    Runs (.tFwd t) t.key (n.toNat + 1) s r) ∧
  (∀ (t : TileLoc) (q : BitVec 3) (n : BitVec 5) (s : State), s.canonical = true → ReadyFor s t.key (.hreq q n) →
    (s.tile t.key).usable q.toNat < n.toNat + 1 →
    Does (.tHreq t) s (fun u => u = { s with tiles := u.tiles, hold := u.hold } ∧
      (u.tile t.key).holdReq = (s.tile t.key).holdReq ++ [(q.toNat, n.toNat + 1)] ∧ u.hold.tree = true)) ∧
  (∀ (t : TileLoc) (q : BitVec 3) (n : BitVec 5) (s : State), s.canonical = true → ReadyFor s t.key (.hreq q n) →
    n.toNat + 1 ≤ (s.tile t.key).usable q.toNat →
    Does (.tHreq t) s (fun u => u = { s with tiles := u.tiles, hold := u.hold } ∧
      u.tile t.key = (s.tile t.key).after 1))

/-- Transport (03 R131–R146): a source with no token that is ready moves nothing; a token with no switch entry is unexpected,
but one from the hub that a gate with a program faces waits for FIRE IN (the model's choice: notes/assumptions/11.md); a
token for a neighbour goes to it and a queue's token enters its queue; a credit whose time has come is given back once. A
send takes one credit of its route and puts the token last on the tile's injection; without a credit nothing is sent. The
order of tokens that ask for one output is the model's reading (notes/assumptions/17.md). -/
def Obligations.Transport : Prop :=
  (∀ (t : TileLoc) (src : Src) (u : BitVec 560) (s : State), (s.tile t.key).ready (srcIx src) s.now = none →
    exec (.tokenHop t src u) s = .next s ∧ exec (.tokenEnqueue t src) s = .next s) ∧
  (∀ (t : TileLoc) (src : Src) (u : BitVec 560) (f : Flight) (s : State), s.tileOn t.key = true →
    (s.tile t.key).ready (srcIx src) s.now = some f → (s.tile t.key).entryOf f = none → (facesHub s.ident t.key && src == .own && f.org.isNone && (s.tile t.key).cfg.isSome) = false →
    exec (.tokenHop t src u) s = .next ((s.onTile t.key (fun x => x.setStone (srcIx src) ((x.stone (srcIx src)).drop 1))).tileCond
      t.key 0x0201 (srcIx src) f.tok.tag.toNat 0)) ∧
  (∀ (t : TileLoc) (u : BitVec 560) (f : Flight) (s : State), s.tileOn t.key = true →
    (s.tile t.key).ready 4 s.now = some f → (s.tile t.key).entryOf f = none → facesHub s.ident t.key = true → f.org = none →
    (s.tile t.key).cfg.isSome = true →
    Does (.tokenHop t .own u) s (fun v => v = { s with tiles := v.tiles } ∧ (s.canonical = true →
      (v.tile t.key).queue 8 = (s.tile t.key).queue 8 ++ [{ f with at_ := s.now }]))) ∧
  (∀ (t : TileLoc) (src : Src) (u : BitVec 560) (f : Flight) (e : SwEntry) (k i : Nat) (s : State), s.tileOn t.key = true →
    (s.tile t.key).ready (srcIx src) s.now = some f → (s.tile t.key).entryOf f = some e → e.action < 4 →
    (s.tile t.key).loses (srcIx src) s.now (outputOf e) = false → neighbour t.key e.action = some (k, i) →
    exec (.tokenHop t src u) s = .next (s.moveToken t.key (srcIx src) (outputOf e) k i f (tokenUpset f.tok u) false)) ∧
  (∀ (t : TileLoc) (src : Src) (f : Flight) (e : SwEntry) (s : State), s.tileOn t.key = true →
    (s.tile t.key).ready (srcIx src) s.now = some f → (s.tile t.key).entryOf f = some e → e.action = 4 →
    (s.tile t.key).loses (srcIx src) s.now (outputOf e) = false →
    exec (.tokenEnqueue t src) s = .next ((s.onTile t.key (fun x => x.depart (srcIx src) s.now (outputOf e))).queueEntry
      t.key e.queue.toNat f true)) ∧
  (∀ (t : TileLoc) (rt : BitVec 10) (at_ key : Nat) (rest : List (Nat × Nat × Nat)) (s : State),
    s.sideband = (at_, t.key, key) :: rest → at_ ≤ s.now → key % 1024 = rt.toNat →
    Does (.creditReturn t rt) s (fun u => u = { s with sideband := rest, tiles := u.tiles } ∧ (s.canonical = true →
      (u.tile t.key).io.credits = Tab.set_ 0 (s.tile t.key).io.credits key (Tab.at_ 0 (s.tile t.key).io.credits key - 1)))) ∧
  (∀ (r u : TileRun) (e : TEnv) (rt : BitVec 10) (kind fmt : Nat) (last : Bool) (p : Line) (ck : Nat),
    r.send e rt kind fmt last p ck = some u →
    r.t.creditsFree r.t.gen rt ≠ 0 ∧ u.side = r.side ∧ u.writes = r.writes ∧ u.t.mem = r.t.mem ∧ u.t.io.q = r.t.io.q ∧
    u.t.io.credits = Tab.set_ 0 r.t.io.credits (routeKey r.t.gen rt) (Tab.at_ 0 r.t.io.credits (routeKey r.t.gen rt) + 1) ∧
    ∃ f : Flight, f.tok.payload = p ∧ tokenGood f.tok = true ∧
      u.t.io.stones = Tab.set_ [] r.t.io.stones 4 (Tab.at_ [] r.t.io.stones 4 ++ [f]))

/-- Arbor instructions (03 R159–R163; 05 R242–R264), each by its first step. FIRE MAC and ACC add to the accumulator row of AR1,
DRAIN takes a row whose residues agree and zeroes it, LDSC and RQH as their steps say. -/
def Obligations.ArborInstructions : Prop :=
  (∀ (t : TileLoc) (x : Ecc) (m : BitVec 4) (q : BitVec 3) (n : BitVec 8) (ob : BitVec 2) (w bg : BitVec 1) (r : TileRun) (s : State),
    ReadyFor s t.key (.fire m q n ob w bg) → tileKind t.key = 1 →
    Reads s t (some (8 * (((s.tile t.key).ar 0).toNat % 1024))) x (macStep q.toNat (n.toNat + 1) (w == 1)) r →
    exec (.fireMac ⟨t, x⟩) s = .next ((s.wordRead t (some (8 * (((s.tile t.key).ar 0).toNat % 1024))) x).stepped t.key
      ((n.toNat + macPer (w == 1)) / macPer (w == 1)) (min (macPer (w == 1)) (n.toNat + 1)) r)) ∧
  (∀ (q n : Nat) (e : TEnv) (f : Flight) (r : TileRun), r.t.head q e.now = some f → tagKind f.tok.tag = 0 → 1 ≤ n → n ≤ 4 →
    tagFmt f.tok.tag = (if numInUns r.t.num then 1 else 0) → r.t.poisonIn ((r.t.ar 0).toNat % 1024) 4 = none →
    macStep q n false e 0 r = .ok { r.pop q e.now with t := ((List.range n).foldl (fun (y : Tile) p =>
      y.accRow ((r.t.ar 1).toNat + p) (fun c => macSum r.t.mem f.tok.payload r.t.num false (64 * ((r.t.ar 0).toNat % 1024)) p c))
      ((r.pop q e.now).t)) }) ∧
  (∀ (t : TileLoc) (q : BitVec 3) (n : BitVec 8) (f : Flight) (s : State), ReadyFor s t.key (.acc q n) → DataHead s t.key q.toNat f →
    Runs (.tAcc t) t.key (n.toNat + 1) s { (s.fresh_ t.key).pop q.toNat s.now with
      t := (((s.fresh_ t.key).pop q.toNat s.now).t).accRow ((s.tile t.key).ar 1).toNat (fun c =>
        (int32At f.tok.payload c, mod7 (int32At f.tok.payload c))) }) ∧
  (∀ (t : TileLoc) (rt : BitVec 10) (n : BitVec 8) (s : State), ReadyFor s t.key (.drain rt n 0) →
    (s.tile t.key).residueBad ((s.tile t.key).ar 1).toNat (n.toNat + 1) = none → (s.tile t.key).arb.hold.length < 256 →
    Runs (.tDrain t) t.key (n.toNat + 1) s { s.fresh_ t.key with
      t := { (s.tile t.key).zeroRow ((s.tile t.key).ar 1).toNat with
        arb := { ((s.tile t.key).zeroRow ((s.tile t.key).ar 1).toNat).arb with
          hold := (s.tile t.key).arb.hold ++ [(s.tile t.key).rowVals ((s.tile t.key).ar 1).toNat] } } }) ∧
  (∀ (t : TileLoc) (rt : BitVec 10) (n : BitVec 8) (raw : BitVec 1) (r : TileRun) (s : State), ReadyFor s t.key (.drain rt n raw) →
    drainStep rt (n.toNat + 1) (raw == 1) (s.tenv t.key) 0 (s.fresh_ t.key) = .ok r → Runs (.tDrain t) t.key (n.toNat + 1) s r) ∧
  (∀ (t : TileLoc) (q : BitVec 3) (n : BitVec 8) (r : TileRun) (s : State), ReadyFor s t.key (.ldsc q n) →
    ldscStep q.toNat (s.tenv t.key) 0 (s.fresh_ t.key) = .ok r → Runs (.tLdsc t) t.key (n.toNat + 1) s r) ∧
  (∀ (t : TileLoc) (x : Ecc) (rt : BitVec 10) (n : BitVec 8) (r : TileRun) (s : State), ReadyFor s t.key (.rqh rt n) →
    Reads s t (if numBiasEn (s.tile t.key).num then some (8 * numBiasAddr (s.tile t.key).num) else none) x (rqhStep rt (n.toNat + 1)) r →
    exec (.tRqh ⟨t, x⟩) s = .next ((s.wordRead t (if numBiasEn (s.tile t.key).num then some (8 * numBiasAddr (s.tile t.key).num) else none) x).stepped
      t.key ((n.toNat + 4) / 4) 1 r).useFree)

/-- Fountain instructions (05 R265–R270; 03 Table 3.6), each by its first step: in each mode the command of that mode, and no
other, runs the step of its function, for the ck that the token's format takes; a depthwise step that takes a column and
lacks others goes on in a later ck. -/
def Obligations.FountainInstructions : Prop :=
  (∀ (t : TileLoc) (x : Ecc) (q : BitVec 3) (n : BitVec 8) (ob : BitVec 2) (w bg : BitVec 1) (m : BitVec 4) (r : TileRun) (s : State),
    ReadyFor s t.key (.fire m q n ob w bg) → tileKind t.key = 3 → m.toNat < 6 →
    Reads s t (some ((s.tile t.key).fountainWord m.toNat q.toNat)) x (unaryStep m.toNat q.toNat ob.toNat) r →
    ∀ c : Instr, [Instr.fireExp ⟨t, x⟩, .fireRecip ⟨t, x⟩, .fireRsqrt ⟨t, x⟩, .fireSigmoid ⟨t, x⟩, .fireTanh ⟨t, x⟩, .fireLog2 ⟨t, x⟩][m.toNat]? = some c →
      exec c s = .next ((s.wordRead t (some ((s.tile t.key).fountainWord m.toNat q.toNat)) x).stepped t.key (n.toNat + 1)
        (((s.wordRead t (some ((s.tile t.key).fountainWord m.toNat q.toNat)) x).tile t.key).nextCk q.toNat) r).useFree) ∧
  (∀ (t : TileLoc) (x : Ecc) (q : BitVec 3) (n : BitVec 8) (ob : BitVec 2) (w bg : BitVec 1) (m : BitVec 4) (r : TileRun) (s : State),
    ReadyFor s t.key (.fire m q n ob w bg) → tileKind t.key = 3 → 6 ≤ m.toNat → m.toNat < 9 →
    Reads s t (some ((s.tile t.key).fountainWord m.toNat q.toNat)) x (binaryStep m.toNat q.toNat ob.toNat) r →
    ∀ c : Instr, [Instr.fireAdd ⟨t, x⟩, .fireMul ⟨t, x⟩, .fireMax ⟨t, x⟩][m.toNat - 6]? = some c →
      exec c s = .next ((s.wordRead t (some ((s.tile t.key).fountainWord m.toNat q.toNat)) x).stepped t.key (n.toNat + 1)
        (((s.wordRead t (some ((s.tile t.key).fountainWord m.toNat q.toNat)) x).tile t.key).nextCk q.toNat) r).useFree) ∧
  (∀ (t : TileLoc) (x : Ecc) (q : BitVec 3) (n : BitVec 8) (ob : BitVec 2) (w bg : BitVec 1) (r : TileRun) (s : State),
    ReadyFor s t.key (.fire 9 q n ob w bg) → tileKind t.key = 3 →
    Reads s t (some (Config.fieldPlace (2 ^ 16 + 64 * ((s.tile t.key).ar 0).toNat) / 8)) x (dwStep 9 3 q.toNat (n.toNat + 1) ob.toNat) r →
    exec (.fireDw3 ⟨t, x⟩) s = .next ((s.wordRead t (some (Config.fieldPlace (2 ^ 16 + 64 * ((s.tile t.key).ar 0).toNat) / 8)) x).stepped
      t.key (n.toNat + 1) 1 r)) ∧
  (∀ (t : TileLoc) (x : Ecc) (q : BitVec 3) (n : BitVec 8) (ob : BitVec 2) (w bg : BitVec 1) (r : TileRun) (s : State),
    ReadyFor s t.key (.fire 10 q n ob w bg) → tileKind t.key = 3 →
    Reads s t (some (Config.fieldPlace (2 ^ 16 + 64 * ((s.tile t.key).ar 0).toNat) / 8)) x (dwStep 10 5 q.toNat (n.toNat + 1) ob.toNat) r →
    exec (.fireDw5 ⟨t, x⟩) s = .next ((s.wordRead t (some (Config.fieldPlace (2 ^ 16 + 64 * ((s.tile t.key).ar 0).toNat) / 8)) x).stepped
      t.key (n.toNat + 1) 1 r)) ∧
  (∀ (t : TileLoc) (x : Ecc) (q : BitVec 3) (n : BitVec 8) (ob : BitVec 2) (w bg : BitVec 1) (m : BitVec 4) (size : Nat) (r : TileRun) (s : State),
    s.canonical = true → ReadyFor s t.key (.fire m q n ob w bg) → tileKind t.key = 3 → (m = 9 ∧ size = 3) ∨ (m = 10 ∧ size = 5) →
    (∃ r0, dwStep m.toNat size q.toNat (n.toNat + 1) ob.toNat (s.tenv t.key) 0 (s.fresh_ t.key) = .part r0) →
    dwStep m.toNat size q.toNat (n.toNat + 1) ob.toNat ((s.wordRead t (some (Config.fieldPlace (2 ^ 16 + 64 * ((s.tile t.key).ar 0).toNat) / 8)) x).tenv t.key) 0 ((s.wordRead t (some (Config.fieldPlace (2 ^ 16 + 64 * ((s.tile t.key).ar 0).toNat) / 8)) x).fresh_ t.key) = .part r →
    ∀ c : Instr, c = (if m = 9 then .fireDw3 ⟨t, x⟩ else .fireDw5 ⟨t, x⟩) → exec c s = .next ((s.wordRead t (some (Config.fieldPlace (2 ^ 16 + 64 * ((s.tile t.key).ar 0).toNat) / 8)) x).bringBack t.key
      { r with t := { r.t with busy := 1, busyFires := false, going := true, wait := .input } }))

/-- Cistern and gate transfers (03 R129, R159, R160; 04). Under BG the transfer goes to its port for one ck and the sequencer
moves on; without, the first transfer takes one ck outside the Groundskeeper's (the phase of which is the model's choice:
notes/assumptions/9.md); a port still at work, or taken, makes the instruction wait. A gate takes a token from the die link
or gives one. -/
def Obligations.CisternAndGateInstructions : Prop :=
  (∀ (t : TileLoc) (x : Ecc) (m : BitVec 4) (q : BitVec 3) (n : BitVec 8) (ob : BitVec 2) (w : BitVec 1) (s : State),
    s.canonical = true → ReadyFor s t.key (.fire m q n ob w 1) → tileKind t.key = 2 → m.toNat < 4 →
    PortFree s t.key (portOf m.toNat) → PortFree (s.wordRead t (if m = 0 then none else s.portWord t.key m.toNat) x) t.key (portOf m.toNat) →
    ∀ c : Instr, [Instr.fireWrite t, .fireWin0 ⟨t, x⟩, .fireWin1 ⟨t, x⟩, .fireRead ⟨t, x⟩][m.toNat]? = some c →
      exec c s = .next ((s.wordRead t (if m = 0 then none else s.portWord t.key m.toNat) x).onTile t.key (fun y =>
        ({ y with win := { y.win with jobs :=
          y.win.jobs ++ [⟨portOf m.toNat, m.toNat, q.toNat, ob.toNat, n.toNat + 1, 0, (y.ar 0).toNat, y.seq.rr⟩] } } : Tile).after 1))) ∧
  (∀ (t : TileLoc) (d q : BitVec 3) (n : BitVec 8) (s : State), ReadyFor s t.key (.mrd d q 1 n) → PortFree s t.key 3 →
    Changes (.tMrd t) t.key s (fun x => { x with win := { x.win with jobs :=
      x.win.jobs ++ [⟨3, 4, q.toNat, d.toNat, n.toNat + 1, 0, (x.ar 0).toNat, x.seq.rr⟩] } })) ∧
  (∀ (t : TileLoc) (e : Ecc) (d q : BitVec 3) (n : BitVec 8) (s : State), s.canonical = true → ReadyFor s t.key (.mwr d q 1 n) →
    PortFree s t.key 3 →
    exec (.tMwr ⟨t, e⟩) s = .next ((s.onTile t.key (fun x => ({ x with win := { x.win with jobs :=
      x.win.jobs ++ [⟨3, 5, q.toNat, d.toNat, n.toNat + 1, 0, (x.ar 0).toNat, x.seq.rr⟩] } } : Tile).after 1)).writeParity e)) ∧
  (∀ (t : TileLoc) (x : Ecc) (m : BitVec 4) (q : BitVec 3) (n : BitVec 8) (ob : BitVec 2) (w : BitVec 1) (r : TileRun) (s : State),
    ReadyFor s t.key (.fire m q n ob w 0) → tileKind t.key = 2 → m.toNat < 4 → s.now % 64 ≠ 63 →
    PortFree s t.key (portOf m.toNat) → PortFree (s.wordRead t (if m = 0 then none else s.portWord t.key m.toNat) x) t.key (portOf m.toNat) →
    Reads s t (if m = 0 then none else s.portWord t.key m.toNat) x
      (transferStep m.toNat q.toNat ob.toNat ((s.tile t.key).ar 0).toNat (s.tile t.key).seq.rr) r →
    ∀ c : Instr, [Instr.fireWrite t, .fireWin0 ⟨t, x⟩, .fireWin1 ⟨t, x⟩, .fireRead ⟨t, x⟩][m.toNat]? = some c →
      exec c s = .next ((s.wordRead t (if m = 0 then none else s.portWord t.key m.toNat) x).stepped t.key (n.toNat + 1) 1 r)) ∧
  (∀ (t : TileLoc) (d q : BitVec 3) (n : BitVec 8) (r : TileRun) (s : State), ReadyFor s t.key (.mrd d q 0 n) → PortFree s t.key 3 →
    s.now % 64 ≠ 63 → mrdTransfer d.toNat q.toNat (s.tenv t.key) 0 (s.fresh_ t.key) = .ok r → Runs (.tMrd t) t.key (n.toNat + 1) s r) ∧
  (∀ (t : TileLoc) (e : Ecc) (d q : BitVec 3) (n : BitVec 8) (r : TileRun) (s : State), s.canonical = true →
    ReadyFor s t.key (.mwr d q 0 n) → PortFree s t.key 3 → s.now % 64 ≠ 63 →
    mwrTransfer d.toNat q.toNat (s.tenv t.key) (s.fresh_ t.key) = .ok r →
    exec (.tMwr ⟨t, e⟩) s = .next ((s.stepped t.key (n.toNat + 1) 1 r).writeParity e)) ∧
  (∀ (t : TileLoc) (q : BitVec 3) (n : BitVec 8) (ob : BitVec 2) (w : BitVec 1) (s : State), ReadyFor s t.key (.fire 0 q n ob w 0) →
    tileKind t.key = 2 → ¬ PortFree s t.key 0 → exec (.fireWrite t) s = .next (s.setTile t.key ((s.tile t.key).stands .port))) ∧
  (∀ (q addr : Nat) (e : TEnv) (f : Flight) (r : TileRun), r.t.head q e.now = some f → tagKind f.tok.tag = 0 →
    writeTransfer q addr e 0 r = .ok { r.pop q e.now with
      t := { (r.pop q e.now).t with
        mem := writeBytes r.t.mem (64 * r.t.writeRow addr 0) (lineBytes f.tok.payload),
        poison := r.t.poison.filter (fun p => p / 8 != r.t.writeRow addr 0),
        win := { r.t.win with fmt := BitVec.ofNat 3 (tagFmt f.tok.tag) } },
      rows := r.rows ++ [r.t.writeRow addr 0] }) ∧
  (∀ (t : TileLoc) (q : BitVec 3) (n : BitVec 8) (ob : BitVec 2) (w bg : BitVec 1) (r : TileRun) (s : State),
    ReadyFor s t.key (.fire 0 q n ob w bg) → tileKind t.key = 0 →
    gateInStep ob.toNat (s.tenv t.key) 0 (s.fresh_ t.key) = .ok r → Runs (.fireIn t) t.key (n.toNat + 1) s r) ∧
  (∀ (t : TileLoc) (q : BitVec 3) (n : BitVec 8) (ob : BitVec 2) (w bg : BitVec 1) (f : Flight) (s : State),
    ReadyFor s t.key (.fire 1 q n ob w bg) → tileKind t.key = 0 → s.linkUpAt t.key = true → DataHead s t.key q.toNat f →
    Runs (.fireOut t) t.key (n.toNat + 1) s { (s.fresh_ t.key).pop q.toNat s.now with
      link := [{ f with org := none }] })

/-- What stops an instruction, bands and configuration (03 R150–R152, R170–R175; 10 R484). A frozen machine issues nothing; a
reserved word raises ILLEGAL_OP; a guarded-out instruction takes its length. BEGIN and BEND wait for their markers; BEGIN
passes them on and takes a band's number and goes on, drains at a stream's end, or swaps with a shadow that is complete; a
swap whose time is over ends with the shadow configuration and the next generation. -/
def Obligations.IssueAndBandInstructions : Prop :=
  (∀ (t : TileLoc) (s : State), s.hold.frozen = true → exec (.tNop t) s = .next s ∧ exec (.tJmp t) s = .next s ∧
    (∀ e, exec (.fireMac ⟨t, e⟩) s = .next s) ∧ exec (.tSend t) s = .next s ∧ exec (.tBegin t) s = .next s ∧ exec (.tHalt t) s = .next s) ∧
  (∀ (t : TileLoc) (s : State), s.canIssue t.key = true → decodeTile (s.tile t.key).fetch = none →
    exec (.tNop t) s = .next (s.tileCond t.key 0x0208 (s.tile t.key).fetch.toNat 0 0)) ∧
  (∀ (t : TileLoc) (i : TInst) (s : State), s.canIssue t.key = true → (s.tile t.key).pastEnd = false →
    decodeTile (s.tile t.key).fetch = some i → legal (tileKind t.key) (s.tile t.key) i = true → i.op = .nop → i.ge = 1 →
    (s.tile t.key).seq.pred.getLsbD i.gi.toNat ≠ (i.gp == 1) →
    exec (.tNop t) s = .next (s.setTile t.key ((s.tile t.key).advance.spend 1 true))) ∧
  (∀ (t : TileLoc) (m : BitVec 8) (s : State), ReadyFor s t.key (.begin_ m) →
    viewStep (s.tile t.key) s.now (fun k => k == 4 || k == 6 || k == 7) none false (maskQueues m) = .wait →
    exec (.tBegin t) s = .next (s.setTile t.key ((s.tile t.key).stands .input))) ∧
  (∀ (t : TileLoc) (m : BitVec 8) (band : W48) (idle : Bool) (r : TileRun) (s : State), ReadyFor s t.key (.begin_ m) →
    viewStep (s.tile t.key) s.now (fun k => k == 4 || k == 6 || k == 7) none false (maskQueues m) = .all 4 band idle →
    ((s.fresh_ t.key).popAll (maskQueues m) s.now).sendMarkers (s.tenv t.key) 4 band idle = some r →
    exec (.tBegin t) s = .next (s.bringBack t.key { r with t := ((r.t.beginBand s.bandLines band idle).advance).spend 1 true })) ∧
  (∀ (t : TileLoc) (m : BitVec 8) (band : W48) (idle : Bool) (r : TileRun) (s : State), ReadyFor s t.key (.begin_ m) →
    viewStep (s.tile t.key) s.now (fun k => k == 4 || k == 6 || k == 7) none false (maskQueues m) = .all 6 band idle →
    ((s.fresh_ t.key).popAll (maskQueues m) s.now).sendMarkers (s.tenv t.key) 6 band false = some r →
    exec (.tBegin t) s = .next (s.bringBack t.key { r with t := r.t.drainTile.spend 1 true })) ∧
  (∀ (t : TileLoc) (m : BitVec 8) (band : W48) (idle : Bool) (r : TileRun) (s : State), ReadyFor s t.key (.begin_ m) →
    viewStep (s.tile t.key) s.now (fun k => k == 4 || k == 6 || k == 7) none false (maskQueues m) = .all 7 band idle →
    (s.tile t.key).shadowReady = true →
    ((s.fresh_ t.key).popAll (maskQueues m) s.now).sendMarkers (s.tenv t.key) 7 band false = some r →
    exec (.tBegin t) s = .next (s.bringBack t.key { r with t := { r.t.spend 17 true with phase := .swapping, going := false } })) ∧
  (∀ (t : TileLoc) (m : BitVec 8) (kind : Nat) (band : W48) (idle : Bool) (c : TileCfg) (r : TileRun) (s : State),
    ReadyFor s t.key (.bend m) → (s.tile t.key).cfg = some c → r.t.cfg = some c →
    viewStep (s.tile t.key) s.now (fun k => k == 5) none false (maskQueues m) = .all kind band idle →
    ((s.fresh_ t.key).popAll (maskQueues m) s.now).sendMarkers (s.tenv t.key) 5 band false = some r →
    exec (.tBend t) s = .next (s.bringBack t.key { r with
      t := { (r.t.jump c.bandEntry).spend 1 true with eob := some band } })) ∧
  (∀ (t : TileLoc) (s : State), s.canonical = true → (s.tile t.key).phase = .swapping → (s.tile t.key).busy = 0 →
    s.seqRuns = true → (s.tile t.key).io.q = [] →
    Does (.tileSwapComplete t) s (fun u => u = { s with tiles := u.tiles } ∧ (u.tile t.key).cfg = (s.tile t.key).shadow ∧
      (u.tile t.key).gen = (s.tile t.key).gen + 1 ∧ (u.tile t.key).pc = 0 ∧ (u.tile t.key).mem = (s.tile t.key).mem ∧
      (u.tile t.key).shadow = none))

/-- The bytes that a read of a tile fetches. -/
def Sys2Proof.Machine.HbmRead.bytes (rd : HbmRead) : Nat := if rd.unit = 0 then 64 else 64 * unitTransfers rd.unit
/-- The oldest read of tile `t` has left its list, of which `rest` is left. -/
def Sys2Proof.Machine.State.dropRead (s : State) (t : TileLoc) (rest : List HbmRead) : State :=
  s.setTile t.key { s.tile t.key with win := { (s.tile t.key).win with reads := rest } }
/-- The read `rd` of tile `t` has left its list and has been made; it found `e`. -/
def Sys2Proof.Machine.State.answered (s : State) (t : TileLoc) (rd : HbmRead) (rest : List HbmRead) (e : Ecc) : State :=
  ((s.dropRead t rest).hbmRead rd.addr rd.bytes).1.eccFind (.hbm (rd.addr / 8)) e

/-- HBM responses and snapshots (04 R226–R231; 08 R383; 03 R182). The oldest read of a tile leaves its list and is made; one
before its delay line holds data delivers its pad value, one that finds no poison what its unit decodes to. SNAP copies
every live counter and high-water mark of the die and clears none; CLEAR zeroes the live ones and leaves what a snapshot
shows. -/
def Obligations.HbmAndCounters : Prop :=
  (∀ (t : TileLoc) (e : Ecc) (s : State), (s.tile t.key).win.reads = [] → exec (.hbmReadResponse t e) s = .next s) ∧
  (∀ (t : TileLoc) (e : Ecc) (rd : HbmRead) (rest : List HbmRead) (s : State), (s.tile t.key).win.reads = rd :: rest →
    rd.early = true →
    exec (.hbmReadResponse t e) s = .next ((s.answered t rd rest e).deliverRead t.key rd ((s.tile t.key).dline rd.dline).sgn
      (List.replicate rd.tokens (lineOf (List.replicate 64 ((s.tile t.key).dline rd.dline).padv))))) ∧
  (∀ (t : TileLoc) (e : Ecc) (rd : HbmRead) (rest : List HbmRead) (ls : List Line) (s : State),
    (s.tile t.key).win.reads = rd :: rest → rd.early = false →
    (blocksOf rd.addr rd.bytes).any (fun b => !(s.blockFilled b.1 b.2)) = false →
    (s.answered t rd rest e).hbmPoisoned rd.addr rd.bytes = none →
    decodeUnit rd.unit ((s.tile t.key).dline rd.dline).sgn ((s.dropRead t rest).hbmRead rd.addr rd.bytes).2 = some ls →
    exec (.hbmReadResponse t e) s = .next ((s.answered t rd rest e).deliverRead t.key rd ((s.tile t.key).dline rd.dline).sgn
      (ls.take rd.tokens))) ∧
  (∀ (t : TileLoc) (s : State), s.canonical = true → t.die.val < s.ident.dies → Does (.terCtrlSnap t.die) s (fun u =>
    u = { s with tiles := u.tiles, dies := u.dies } ∧ (u.tile t.key).snap = (s.tile t.key).ctr ∧
    (u.tile t.key).ctr = (s.tile t.key).ctr ∧ (u.tile t.key).io.hwmSnap = (s.tile t.key).io.hwm ∧
    (u.die t.die.val).elapsedSnap = (s.die t.die.val).elapsed)) ∧
  (∀ (t : TileLoc) (s : State), s.canonical = true → t.die.val < s.ident.dies → Does (.terCtrlClear t.die) s (fun u =>
    u = { s with tiles := u.tiles, dies := u.dies } ∧ (u.tile t.key).ctr = TileCtr.zero ∧ (u.tile t.key).io.hwm = [] ∧
    (u.tile t.key).snap = (s.tile t.key).snap ∧ (u.die t.die.val).elapsed = 0))

/-! ## Cameras, Gatehouse, Kiosk, markers (06) -/

/-- Camera links (06 R284, R285): loss of lock and silence past GTH_LINK_TIMEOUT lose the link and the line in arrival; a return
shows its speed; a disabled port takes no line. -/
def Obligations.CameraLinks : Prop :=
  (∀ (n : Cam) (s : State), s.canonical = true → n.val < s.ident.camPorts → Does (.linkLockLoss n) s (fun t =>
    t = { s with gth := t.gth } ∧ (t.cam n.val).lost = true ∧ (t.cam n.val).partial_ = none ∧
    (t.cam n.val).open_ = (s.cam n.val).open_ ∧ (t.cam n.val).lines = (s.cam n.val).lines)) ∧
  (∀ (n : Cam) (s : State), s.canonical = true → n.val < s.ident.camPorts → (s.cam n.val).lost = false →
    (s.cam n.val).lastPacketAt + usCk (s.regN (aCam n.val + 0x30)) ≤ s.now → Does (.gthLinkTimeout n) s (fun t =>
    t = { s with gth := t.gth } ∧ (t.cam n.val).lost = true)) ∧
  (∀ (n : Cam) (v : BitVec 3) (s : State), s.canonical = true → n.val < s.ident.camPorts → s.domOn (20 + n.val) = true →
    Does (.linkReturn n v) s (fun t => t = { s with gth := t.gth, regs := t.regs } ∧ (t.cam n.val).lost = false ∧
      fld (t.reg (aCam n.val + 4)) 20 3 = v.toNat ∧ RegsBut s t [aCam n.val + 4])) ∧
  (∀ (n : Cam) (s : State), s.canonical = true → n.val < s.ident.camPorts → s.camEn n.val = true → (s.cam n.val).open_ = [] →
    Does (.camPortDisable n) s (fun t => t = { s with gth := t.gth, regs := t.regs } ∧ t.camEn n.val = false ∧
      (t.cam n.val).partial_ = none ∧ RegsBut s t [aCam n.val])) ∧
  (∀ (n : Cam) (p : CxpPacket) (s : State), s.camOff n.val = true ∨ (s.cam n.val).lost = true →
    exec (.cxpStreamPacket n p) s = .next s) ∧
  (∀ (n : Cam) (bytes : List Byte) (s : State), s.canonical = true → n.val < s.ident.camPorts → s.camOff n.val = false →
    (s.cam n.val).lost = false → Does (.cxpControlPacket n bytes) s (fun t => t = { s with gth := t.gth } ∧
      (t.cam n.val).mailbox = (s.cam n.val).mailbox ++ [bytes] ∧ (t.cam n.val).lastPacketAt = s.now))

/-- Lines (06 R277–R281): a good line of stream 0 that is complete takes its tick and is stored with it; one with the wrong
count of pixels counts as bad and its tick closes as missing; a packet that is not the last only adds its pixels. Which tick
a line takes when several are open is the model's reading (notes/assumptions/37.md). -/
def Obligations.CameraLines : Prop :=
  (∀ (n : Cam) (p : CxpPacket) (o : OpenTick) (s : State), s.canonical = true → n.val < s.ident.camPorts →
    s.camOff n.val = false → (s.cam n.val).lost = false → s.sup.t0 = none → (s.cam n.val).partial_ = none →
    p.stream = 0 → p.last = true → p.crcGood = true → p.fmt.toNat = s.camBpp n.val → p.pixels.length = s.camWidth n.val →
    s.camFrame n.val = false → s.lineTick n.val = some o → s.bandCams.contains n.val = true →
    Does (.cxpStreamPacket n p) s (fun t => t = { s with gth := t.gth, bell := t.bell } ∧
      (t.cam n.val).open_ = (s.cam n.val).open_.filter (fun x => x.line != o.line) ∧
      ∃ l : StoredLine, (t.cam n.val).lines = (s.cam n.val).lines ++ [l] ∧ l.line = o.line ∧ l.band = o.band ∧
        l.pixels = p.pixels)) ∧
  (∀ (n : Cam) (p : CxpPacket) (o : OpenTick) (s : State), s.canonical = true → n.val < s.ident.camPorts →
    s.camOff n.val = false → (s.cam n.val).lost = false → s.sup.t0 = none → (s.cam n.val).partial_ = none →
    p.stream = 0 → p.last = true → p.pixels.length ≠ s.camWidth n.val → s.camFrame n.val = false →
    s.lineTick n.val = some o →
    Does (.cxpStreamPacket n p) s (fun t => t = { s with gth := t.gth, bell := t.bell, regs := t.regs, born := t.born } ∧
      t.reg (aCam n.val + 0x24) = satAdd (s.reg (aCam n.val + 0x24)) 1 ∧
      t.reg (aCam n.val + 0x20) = satAdd (s.reg (aCam n.val + 0x20)) 1 ∧ (t.cam n.val).lines = (s.cam n.val).lines)) ∧
  (∀ (n : Cam) (p : CxpPacket) (s : State), s.canonical = true → n.val < s.ident.camPorts →
    s.camOff n.val = false → (s.cam n.val).lost = false → s.sup.t0 = none → p.stream = 0 → p.last = false →
    Does (.cxpStreamPacket n p) s (fun t => t = { s with gth := t.gth } ∧
      ((t.cam n.val).partial_.map (fun x => x.1)) = some (((s.cam n.val).partial_.getD ([], false)).1 ++ p.pixels)))

/-- Gatehouse settings (06 R290–R292, R298): a flat-field word goes to the bank not in force; FF_BANK waits for the next band's
first line; the high word of GTH_RESCALE_BAND arms the pending value; the first mains edge is timed; lock is lost after
three periods without an accepted one. When FF_BANK and the pending value are taken is the model's reading
(notes/assumptions/40.md, 41). -/
def Obligations.GatehouseSettings : Prop :=
  (∀ (n : Cam) (c : Fin 8192) (v : Word) (s : State), n.val < s.ident.camPorts →
    exec (.gthFfWrite n c v) s = .next (s.writeFf n.val c.val v)) ∧
  (∀ (n : Cam) (s : State), s.canonical = true → n.val < s.ident.camPorts → (s.cam n.val).bankWanted = none →
    Does (.ffBankWrite n (!(s.cam n.val).bank)) s (fun t => t = { s with gth := t.gth, regs := t.regs } ∧
      (t.cam n.val).bank = (s.cam n.val).bank ∧ (t.cam n.val).bankWanted = some (!(s.cam n.val).bank, s.now) ∧
      RegsBut s t [aCam n.val])) ∧
  (∀ (n : Cam) (hi : Word) (s : State), s.canonical = true → n.val < s.ident.camPorts →
    Does (.gthRescaleBandWrite n hi) s (fun t => t = { s with gth := t.gth } ∧
      ∃ k, (t.cam n.val).armed = some (k, s.reg (aCam n.val + 0x14)))) ∧
  (∀ (h : Hub) (s : State), h.val < s.ident.hubs → (s.mains h.val).lastEdge = none → Does (.mainsRefEdge h) s (fun t =>
    t = s.setMains h.val { s.mains h.val with lastEdge := some s.now, streak := 0 })) ∧
  (∀ (h : Hub) (s : State), s.canonical = true → bit (s.reg (aGth h.val + 4)) 0 = true →
    3 * (s.mains h.val).sum ≤ (s.now - (s.mains h.val).accEdge.getD 0) * (s.mains h.val).periods.length →
    Does (.flkLockLoss h) s (fun t => t = { s with gth := t.gth, regs := t.regs } ∧
      bit (t.reg (aGth h.val + 4)) 0 = false ∧ RegsBut s t [aGth h.val + 4]))

/-- A row of camera `n` of hub `h`'s Kiosk is due, with band `b`: its data has come, and the Kiosk runs. -/
def Sys2Proof.Machine.RowDue (s : State) (h : Hub) (n : Cam) (b : W48) : Prop :=
  s.ident.hasKiosk h.val = true ∧ s.hold.frozen = false ∧ s.contain.active = false ∧
  s.pqs.any (fun q => q.2.held.any (fun o => o.writer == 2 && o.src == h.val)) = false ∧
  (s.kiosk h.val).dataBand n.val = some b ∧ (s.kiosk h.val).bandOut n.val = false ∧
  ((s.kiosk h.val).rowsHere n.val s.bandsPerFrame || s.kskEob h.val n.val) = true

/-- What the Gatehouse sends, the Kiosk's rows and the marker strobes (06 R287, R297, R301, R309, R316, R321): with nothing in
its list a Gatehouse sends nothing; what has come due goes out while it is sending nothing else and no end of configuration
goes before it, and an idle bell takes its place in the list; the Kiosk takes no row in a freeze or in containment; a row
whose data has come joins the components of its camera, and one before the stream's first line does not; the end of a
strobe's time sets its pin; MARK_REQ schedules its strobes. The order of a row's effects is the model's reading
(notes/assumptions/85.md), and so is what a strobe's pin shows (86). -/
def Obligations.GatehouseAndKiosk : Prop :=
  (∀ (h : Hub) (u : Bool) (e : Ecc) (s : State), Tab.at_ [] s.bell.sendq h.val = [] → exec (.gatehouseSendBand h ⟨u, e⟩) s = .next s) ∧
  (∀ (h : Hub) (u : Bool) (e : Ecc) (x : SendItem) (rest : List SendItem) (s : State), Tab.at_ [] s.bell.sendq h.val = x :: rest →
    s.contain.active = false → x.at_ ≤ s.now → h.val < s.ident.hubs → s.hold.frozen = false → Tab.at_ [] s.gth.out h.val = [] →
    s.eocDue h.val x = false →
    exec (.gatehouseSendBand h ⟨u, e⟩) s = .next (s.sendItem h u e x)) ∧
  (∀ (h : Hub) (u : Bool) (e : Ecc) (x : SendItem) (s : State), s.canonical = true → x.kind = .idle →
    (s.sendItem h u e x).tiles = s.tiles ∧ (s.sendItem h u e x).regs = s.regs ∧
    Tab.at_ [] (s.sendItem h u e x).bell.sendq h.val = (Tab.at_ [] s.bell.sendq h.val).drop 1) ∧
  (∀ (h : Hub) (n : Cam) (e : Ecc) (u : Bool) (s : State), s.hold.frozen = true ∨ s.contain.active = true →
    exec (.kioskRow h ⟨n, e, u⟩) s = .next s) ∧
  (∀ (h : Hub) (n : Cam) (e : Ecc) (u : Bool) (b : W48) (s : State), RowDue s h n b →
    (s.enterBand h.val n.val b).rowOffset h.val b (Tab.at_ 0 ((s.enterBand h.val n.val b).kiosk h.val).bandRow n.val) < 0 →
    exec (.kioskRow h ⟨n, e, u⟩) s = .next ((s.enterBand h.val n.val b).updKiosk h.val
      (fun k => k.rowOut n.val (s.enterBand h.val n.val b).bandsPerFrame))) ∧
  (∀ (h : Hub) (n : Cam) (e : Ecc) (b : W48) (s t : State), RowDue s h n b →
    0 ≤ (s.enterBand h.val n.val b).rowOffset h.val b (Tab.at_ 0 ((s.enterBand h.val n.val b).kiosk h.val).bandRow n.val) →
    t = (s.enterBand h.val n.val b).eccFind (.kiosk h (Config.fieldPlace (128 + 16 * n.val) / 8)) e →
    t.kioskPoison h.val (kskParams (t.kiosk h.val).store n.val) = none → rowMiss (t.kskNet h.val n.val) = none → t.frameH = 0 →
    exec (.kioskRow h ⟨n, e, false⟩) s = .next ((t.joinRow h.val n.val b (t.rowLine h.val b (Tab.at_ 0 (t.kiosk h.val).bandRow n.val))
      (t.kskNet h.val n.val)).updKiosk h.val (fun k => k.rowOut n.val t.bandsPerFrame))) ∧
  (∀ (m : Cam) (s : State), m.val < 8 * s.ident.hubs → exec (.strobeTimeEnd m) s = .next (s.strobePin s.strobeH m.val)) ∧
  (∀ (h : Hub) (mask : BitVec 8) (s : State), h.val < s.ident.hubs →
    exec (.gthMarkReqGo h mask) s = .next (s.schedMask h.val mask.toNat (s.reg48 (aGth h.val + 0x1100)) (s.reg48 (aGth h.val + 0x1108))).1)

/-! ## Pergola queues and signal objects (07) -/

/-- Items enter a queue (07 R327, R333–R337): a single-item packet that finds a place is stored last at its priority; an item of
a unit for a queue that is full and does not overwrite is held, and joins it once there is a place; a host's push that finds
a place is stored. No offer takes a queue that is within its depth past it. Which of the held offers goes first is the
model's reading (notes/assumptions/96.md). -/
def Obligations.QueueWrites : Prop :=
  (∀ (q : QIx) (o : Offer) (s : State), s.canonical = true → q.val < 512 → s.pqPresent q.val = true → s.pqEn q.val = true →
    (s.pq q.val).openW = [] → (s.pq q.val).dropping = [] → (s.pq q.val).held = [] → o.sop = true → o.eop = true →
    o.writer ≠ 0x20 → (s.pq q.val).occ < s.pqDepth q.val →
    Does (.pqItemOffer q o) s (fun t => t.tiles = s.tiles ∧ t.mem = s.mem ∧ t.bell = s.bell ∧
      ∃ i : QItem, (t.pq q.val).items = (s.pq q.val).items ++ [i] ∧ i.data = o.data ∧ i.prio = o.prio ∧ i.writer = o.writer)) ∧
  (∀ (q : QIx) (o : Offer) (s : State), s.canonical = true → q.val < 512 → s.pqPresent q.val = true → s.pqEn q.val = true →
    s.pqOverwrite q.val = false → (s.pq q.val).openW = [] → (s.pq q.val).dropping = [] → (s.pq q.val).held = [] →
    o.sop = true → o.writer ≠ 0x20 → s.pqDepth q.val ≤ (s.pq q.val).occ →
    Does (.pqItemOffer q o) s (fun t => (t.pq q.val).items = (s.pq q.val).items ∧ (t.pq q.val).held = [o])) ∧
  (∀ (q : QIx) (v : BitVec 5) (s : State), s.canonical = true → q.val < 512 → s.pqPresent q.val = true → s.pqEn q.val = true →
    (s.pq q.val).openW = [] → (s.pq q.val).dropping = [] → v.getLsbD 3 = true → v.getLsbD 4 = true →
    (s.pq q.val).occ < s.pqDepth q.val →
    Does (.pqPushGo q v) s (fun t => t.tiles = s.tiles ∧ t.mem = s.mem ∧
      ∃ i : QItem, (t.pq q.val).items = (s.pq q.val).items ++ [i] ∧ i.data = (s.pq q.val).pushData ∧ i.writer = 0x20)) ∧
  (∀ (q : QIx) (s : State), (s.pq q.val).held = [] → exec (.pqBackpressureAccept q) s = .next s) ∧
  (∀ (q : QIx) (o : Offer) (s : State), s.canonical = true → q.val < 512 → s.pqPresent q.val = true → s.pqEn q.val = true →
    (s.pq q.val).openW = [] → (s.pq q.val).dropping = [] → (s.pq q.val).held = [o] → o.sop = true → o.eop = true →
    s.pusherOf q.val o = none → (s.pq q.val).occ < s.pqDepth q.val →
    Does (.pqBackpressureAccept q) s (fun t => (t.pq q.val).held = [] ∧
      (t.pq q.val).items.length = (s.pq q.val).items.length + 1)) ∧
  (∀ (c : OfferCfg) (p : PqState) (o : Offer), p.items.length ≤ c.depth → (offerStep c p o).p.items.length ≤ c.depth)

/-- Items leave a queue (07 R339–R342, R346, R348, R349): a pop that finds no readable item reads VALID 0 and leaves
PQ_POP_DATA; a pop takes one item, the earliest of the highest priority when no packet is being read; FLUSH and RESET empty
the queue, and are ignored with CFG_IGNORED for the ledger queue. Between packets the head is the earliest readable item of
the highest priority. -/
def Obligations.QueueReads : Prop :=
  (∀ (q : QIx) (ue : Bool) (s : State), s.canonical = true → s.pqPresent q.val = true →
    headItem (s.pqWhole q.val) (s.pq q.val) = none →
    Does (.pqPop q ue) s (fun t => t = { s with pqs := t.pqs, readValue := t.readValue } ∧ t.readValue.getLsbD 63 = false ∧
      (t.pq q.val).popData = (s.pq q.val).popData ∧ (t.pq q.val).items = (s.pq q.val).items)) ∧
  (∀ (q : QIx) (ue : Bool) (i : QItem) (s : State), s.canonical = true → s.pqPresent q.val = true → q.val < 512 →
    headItem (s.pqWhole q.val) (s.pq q.val) = some i →
    Does (.pqPop q ue) s (fun t => (t.pq q.val).items = removeItem i (s.pq q.val).items ∧ (t.pq q.val).popData = i.data ∧
      t.readValue.getLsbD 63 = true ∧ t.readValue.getLsbD 61 = (ue || i.poison) ∧ t.tiles = s.tiles ∧ t.mem = s.mem)) ∧
  (∀ (q : QIx) (s : State), s.canonical = true → s.pqPresent q.val = true → q.val < 512 → Does (.pqFlush q) s (fun t =>
    (t.pq q.val).items = [] ∧ (t.pq q.val).openW = [] ∧ (t.pq q.val).openR = none ∧ t.tiles = s.tiles ∧ t.mem = s.mem)) ∧
  (∀ (q : QIx) (s : State), s.canonical = true → s.pqPresent q.val = true → q.val < 512 → Does (.pqReset q) s (fun t =>
    (t.pq q.val).items = [] ∧ (t.pq q.val).openW = [] ∧ t.tiles = s.tiles ∧ t.mem = s.mem)) ∧
  (∀ s : State, exec (.pqFlush 512) s = .next s.cfgIgnored ∧ exec (.pqReset 512) s = .next s.cfgIgnored) ∧
  (∀ (whole : Bool) (p : PqState) (i : QItem), p.openR = none → headItem whole p = some i →
    i ∈ p.items ∧ readable whole p i = true ∧ ∀ j ∈ p.items, readable whole p j = true → j.prio.toNat ≤ i.prio.toNat)

/-- Queue settings, pointer copies and sinks (07 R330–R332, R350–R352, R358; 12 R557). EN is set only with settings in range,
else CFG_REFUSED; a queue's settings do not change while it is on; clearing EN takes it out of use; HOST_HEAD is stored
where it leaves no more than the ring holds. Agreeing pointer copies change nothing, copies of an ordinary queue that differ
reset it; a SINK 1 or SINK 2 delivery needs its sink, its room and an item. -/
def Obligations.QueueSettingsAndSinks : Prop :=
  (∀ (q : QIx) (v : Word) (s : State), s.canonical = true → q.val < 512 → s.pqPresent q.val = true → s.pqEn q.val = false →
    s.enableOk q.val ((v ||| 0x80000000) &&& pqCfgMask) = true →
    Does (.pqEnable q v) s (fun t => t = { s with regs := t.regs } ∧ t.pqEn q.val = true ∧
      t.reg (aPq q.val) = (v ||| 0x80000000) &&& pqCfgMask ∧ RegsBut s t [aPq q.val])) ∧
  (∀ (q : QIx) (v : Word) (s : State), s.canonical = true → q.val < 512 → s.pqPresent q.val = true → s.pqEn q.val = false →
    s.enableOk q.val ((v ||| 0x80000000) &&& pqCfgMask) = false →
    Does (.pqEnable q v) s (fun t => t = { s with regs := t.regs, born := t.born } ∧ t.pqEn q.val = false ∧
      bit (t.reg (aPq q.val + 0x20)) 7 = true ∧ RegsBut s t [aPq q.val, aPq q.val + 0x20])) ∧
  (∀ (q : QIx) (v : Word) (s : State), q.val < 512 → s.pqPresent q.val = true → s.pqEn q.val = true →
    exec (.pqEnable q v) s = .next s) ∧
  (∀ (q : QIx) (v : Word) (s : State), q.val < 512 → s.pqPresent q.val = false → exec (.pqEnable q v) s = .next s) ∧
  (∀ (v c : Word) (s : State), s.canonical = true → c = (v ||| 0x80000000) &&& 0x30FC0000 → fld c 22 2 % 2 = 0 →
    s.usedOk qLedger c = true →
    Does (.pqEnable 512 v) s (fun t => t = { s with regs := t.regs } ∧ t.reg (aPq qLedger) = c ∧ RegsBut s t [aPq qLedger])) ∧
  (∀ (v : Word) (s : State), s.canonical = true → fld v 22 2 % 2 = 0 →
    Does (.pqEnable 513 v) s (fun t => t = { s with regs := t.regs } ∧ t.reg (aPq qError) = v &&& 0x00C00000 ∧
      RegsBut s t [aPq qError])) ∧
  (∀ (q : QIx) (s : State), q.val < 512 → s.pqPresent q.val = true → s.pqEn q.val = true →
    exec (.pqDisable q) s = .next (s.disableQueue q.val)) ∧
  (∀ (q : QIx) (v : Word) (s : State), s.canonical = true → s.pqPresent q.val = true →
    ringUsed (s.hostTail q.val) v.toNat ≤ 2 ^ s.ringLog q.val →
    Does (.hostHeadWrite q v) s (fun t => t = { s with regs := t.regs } ∧ t.reg (aPq q.val + 0xD8) = v ∧
      RegsBut s t [aPq q.val + 0xD8])) ∧
  (∀ (q : QIx) (s : State), exec (.queuePtrMismatch q []) s = .next s) ∧
  (∀ (q : QIx) (a b : BitVec 16 × BitVec 16) (s : State), s.canonical = true → q.val < 512 → s.pqPresent q.val = true → a ≠ b →
    Does (.queuePtrMismatch q [a, b]) s (fun t => (t.pq q.val).items = [] ∧ t.tiles = s.tiles ∧ t.mem = s.mem)) ∧
  (∀ (a c : BitVec 16 × BitVec 16) (s : State), s.canonical = true → a ≠ c → s.pqPresent qLedger = true →
    Does (.queuePtrMismatch 512 [a, a, c]) s (fun t => (t.pq qLedger).items = (s.pq qLedger).items ∧
      t.errSeq = (s.errSeq + 1) % 65536)) ∧
  (∀ (q : QIx) (u : Bool) (s : State), s.pqSinkKind q.val ≠ 1 → exec (.sink1Delivery q u) s = .next s) ∧
  (∀ (q : QIx) (i : QItem) (s : State), s.canonical = true → q.val < 512 → s.pqPresent q.val = true → s.pqEn q.val = true →
    s.pqSinkKind q.val = 1 → (s.pq q.val).sinkUsed < s.sinkCredits q.val → s.tileOn (s.sinkGate q.val) = true →
    (s.tile (s.sinkGate q.val)).gen = s.activeGen → (s.tile (s.sinkGate q.val)).stoneFull 4 s.now = false →
    headItem (s.pqWhole q.val) (s.pq q.val) = some i → i.poison = false →
    Does (.sink1Delivery q false) s (fun t => (t.pq q.val).sinkUsed = (s.pq q.val).sinkUsed + 1 ∧
      (t.pq q.val).items = removeItem i (s.pq q.val).items ∧ t.mem = s.mem)) ∧
  (∀ (q : QIx) (ue : Bool) (i : QItem) (s : State), s.canonical = true → q.val < 512 → s.pqPresent q.val = true → s.pqEn q.val = true →
    s.pqSinkKind q.val = 1 → (s.pq q.val).sinkUsed < s.sinkCredits q.val → s.tileOn (s.sinkGate q.val) = true →
    (s.tile (s.sinkGate q.val)).gen = s.activeGen → (s.tile (s.sinkGate q.val)).stoneFull 4 s.now = false →
    headItem (s.pqWhole q.val) (s.pq q.val) = some i → (ue || i.poison) = true →
    Does (.sink1Delivery q ue) s (fun t => (t.pq q.val).sinkUsed = (s.pq q.val).sinkUsed ∧
      (t.pq q.val).items = removeItem i (s.pq q.val).items ∧ t.tiles = s.tiles ∧ t.mem = s.mem)) ∧
  (∀ (q : QIx) (u : Bool) (s : State), s.boot.linkUp = false → exec (.sink2HostWrite q u) s = .next s) ∧
  (∀ (q : QIx) (i : QItem) (s : State), s.canonical = true → q.val < 512 → s.pqPresent q.val = true → s.pqEn q.val = true →
    s.pqSinkKind q.val = 2 → s.boot.linkUp = true → s.ringHasRoom q.val = true →
    headItem (s.pqWhole q.val) (s.pq q.val) = some i → i.poison = false → (s.deliverHost q.val false).stalled = none →
    Does (.sink2HostWrite q false) s (fun t => (t.pq q.val).items = removeItem i (s.pq q.val).items ∧
      t.hostTail q.val = (s.hostTail q.val + 1) % 2 ^ 32)) ∧
  (∀ (q : QIx) (u : Bool) (w : Nat × Nat × Nat × Nat) (s : State), s.pqPresent q.val = true → s.pqEn q.val = true →
    s.pqSinkKind q.val = 2 → s.boot.linkUp = true → s.ringHasRoom q.val = true → (s.deliverHost q.val u).stalled = some w →
    exec (.sink2HostWrite q u) s = .next (s.noteHeld w))

/-- Signal objects (07 R361–R365): a signal of an enabled object adds to its count where the sum is within MAX; of one that is
off it does nothing; SIG_TRYWAIT takes one of a count that no earlier wait needs and returns 1, and returns 0 of a count of
0; SIG_COUNT is written only while the object is off, and SIG_CFG keeps the bits it has. -/
def Obligations.SignalObjects : Prop :=
  (∀ (o : SigIx) (n : BitVec 16) (s : State), s.canonical = true → s.sigEn o.val = true →
    fld (s.sigCfg o.val) 29 2 = 3 → s.sigCount o.val + n.toNat ≤ s.sigMax o.val →
    Does (.sigSignal o n) s (fun t => t = { s with regs := t.regs } ∧ t.sigCount o.val = s.sigCount o.val + n.toNat ∧
      RegsBut s t [aSig o.val])) ∧
  (∀ (o : SigIx) (n : BitVec 16) (s : State), s.canonical = true → s.sigEn o.val = true →
    s.sigCount o.val ≠ 0 → s.sigCount o.val + n.toNat ≤ s.sigMax o.val →
    Does (.sigSignal o n) s (fun t => t = { s with regs := t.regs } ∧ t.sigCount o.val = s.sigCount o.val + n.toNat ∧
      RegsBut s t [aSig o.val])) ∧
  (∀ (o : SigIx) (n : BitVec 16) (s : State), s.canonical = true → s.sigEn o.val = true → s.sigCount o.val ≠ 0 →
    s.sigMax o.val < s.sigCount o.val + n.toNat →
    Does (.sigSignal o n) s (fun t => t.sigCount o.val = s.sigMax o.val ∧ t.errSeq = (s.errSeq + 1) % 65536 ∧ t.tiles = s.tiles)) ∧
  (∀ (o : SigIx) (n : BitVec 16) (s : State), s.sigEn o.val = false → exec (.sigSignal o n) s = .next s) ∧
  (∀ (o : SigIx) (s : State), s.canonical = true → s.sigEn o.val = true → s.spareForHost o.val ≠ 0 → s.sigCount o.val ≠ 0 →
    Does (.sigTrywait o) s (fun t => t = { s with regs := t.regs, readValue := 1 } ∧
      t.sigCount o.val = s.sigCount o.val - 1 ∧ RegsBut s t [aSig o.val])) ∧
  (∀ (o : SigIx) (s : State), s.sigEn o.val = false ∨ s.sigCount o.val = 0 ∨ s.spareForHost o.val = 0 →
    exec (.sigTrywait o) s = .next { s with readValue := 0 }) ∧
  (∀ (o : SigIx) (v : Word) (s : State), s.canonical = true → s.sigEn o.val = false → Does (.sigCountWrite o v) s (fun t =>
    t = { s with regs := t.regs } ∧ t.sigCount o.val = min (fld v 0 16) (s.sigMax o.val) ∧ RegsBut s t [aSig o.val])) ∧
  (∀ (o : SigIx) (v : Word) (s : State), s.sigEn o.val = true → exec (.sigCountWrite o v) s = .next s) ∧
  (∀ (o : SigIx) (v : Word) (s : State), s.canonical = true → bit v 31 = true → s.sigCount o.val ≤ fld v 0 16 →
    Does (.sigCfgWrite o v) s (fun t => t = { s with regs := t.regs } ∧ t.sigCfg o.val = v &&& 0xE7FFFFFF ∧
      RegsBut s t [aSigCfg o.val])) ∧
  (∀ (o : SigIx) (v : Word) (s : State), s.canonical = true → bit v 31 = true → fld v 0 16 < s.sigCount o.val →
    Does (.sigCfgWrite o v) s (fun t => t = { s with regs := t.regs } ∧ t.sigCfg o.val = v &&& 0xE7FFFFFF ∧
      t.sigCount o.val = fld v 0 16 ∧ RegsBut s t [aSigCfg o.val, aSig o.val])) ∧
  (∀ (o : SigIx) (v : Word) (s : State), bit v 31 = false →
    exec (.sigCfgWrite o v) s = .next (if s.sigEn o.val then (s.setReg (aSigCfg o.val) (v &&& 0xE7FFFFFF)).endWaits o.val
      else s.setReg (aSigCfg o.val) (v &&& 0xE7FFFFFF)))

/-! ## Memory, Groundskeeper, allocator (08) -/

/-- Scrub and repair (08 R370–R372, R400, R403, R404): a clean read changes no memory; a fresh uncorrectable error poisons its
word; the pass interval is clamped; a write-back writes its row and is gone; a repair is asked for and done once. A repair
of an HBM row writes its 64 bytes as they are in GKP_REPAIR_DATA, clears their poison, and leaves every other byte of HBM as
it was but where its block was still to be filled. -/
def Obligations.Groundskeeper : Prop :=
  (∀ (w : MemWord) (s : State), Does (.scrubRead w .clean) s (fun u => u = { s with regs := u.regs, born := u.born, mem := u.mem } ∧
    u.mem.hbm = s.mem.hbm ∧ u.mem.hbmPoison = s.mem.hbmPoison ∧ u.mem.hubPoison = s.mem.hubPoison ∧
    u.mem.writeBacks = s.mem.writeBacks)) ∧
  (∀ (w : MemWord) (s : State), s.canonical = true → bit (s.reg aGkpCtrl) 31 = true → s.wordPresent w = true →
    s.slotFree w true = true → s.beforeScrub w = false → s.l2Locked w = false → s.isPoisoned w = false →
    Does (.scrubRead w .uncorrectable) s (fun u => u.isPoisoned w = true ∧ u.mem.hbm = s.mem.hbm ∧
      u.mem.writeBacks = s.mem.writeBacks ∧ u.bell = s.bell)) ∧
  (∀ (w : MemWord) (s : State), s.canonical = true → bit (s.reg aGkpCtrl) 31 = true → s.wordPresent w = true →
    s.slotFree w true = true → s.beforeScrub w = false → s.l2Locked w = false → s.isPoisoned w = false →
    Does (.scrubRead w .correctable) s (fun u => u.isPoisoned w = false ∧ u.mem.hbm = s.mem.hbm ∧
      u.mem.writeBacks.any (fun b => sameRow b.word w) = true ∧ u.bell = s.bell)) ∧
  (∀ (w : MemWord) (e : Ecc) (s : State), bit (s.reg aGkpCtrl) 31 = false → exec (.scrubRead w e) s = .next s) ∧
  (∀ (v : Word) (s : State), s.canonical = true → Does (.gkpPassMsWrite v) s (fun t => t = { s with regs := t.regs } ∧
    t.regN aGkpPassMs = max 2000 (min 10000 v.toNat) ∧ RegsBut s t [aGkpPassMs])) ∧
  (∀ (b : WriteBack) (rest : List WriteBack) (s : State), s.mem.writeBacks = b :: rest → s.mayWriteBack b = true → Does .writeBack s (fun t =>
    t.mem.writeBacks = rest ∧ t.regs = s.regs ∧ t.bell = s.bell)) ∧
  (∀ s : State, s.mem.writeBacks.find? s.mayWriteBack = none → exec .writeBack s = .next s) ∧
  (∀ s : State, Does .gkpRepairGo s (fun t => t = { s with mem := { s.mem with repair := true } })) ∧
  (∀ s : State, s.mem.repair = true → (∀ w, s.repairWord = some w → s.slotFree w false = true) → Does .repairWrite s (fun t => t.mem.repair = false ∧ t.regs = s.regs ∧ t.bell = s.bell)) ∧
  (∀ s : State, s.mem.repair = false → exec .repairWrite s = .next s) ∧
  (∀ (k : Nat) (s : State), s.canonical = true → s.mem.repair = true → s.repairWord = some (.hbm k) →
    8 * k < s.ident.hbmBytes →
    Does .repairWrite s (fun t => t = { s with mem := t.mem } ∧
      (∀ i, i < 64 → readByte t.mem.hbm (k / 8 * 64 + i) = lineByte s.mem.repairData i) ∧
      (∀ a, a / 64 ≠ k / 8 → readByte t.mem.hbm a =
        if s.wordFilled k = false ∧ a / 65536 = k / 8192 then 0 else readByte s.mem.hbm a) ∧
      (∀ p ∈ t.mem.hbmPoison, p / 8 ≠ k / 8)))

/-- Device memory and its allocator (08 R382, R386, R389, R391): once memory is trained the next block of a stack is filled and
reads 0, and no other byte changes; a range that was freed reads 0 once it has been zeroed, and no other byte changes; a
request is answered from its item. A length that is not 1 to 2^18 pages is refused with STATUS 3 and an alignment outside 12
to 30 with 4; what is granted belongs to the context; a free of what the context does not hold answers 6. Which free place
is taken is the model's reading (notes/assumptions/55.md). -/
def Obligations.DeviceMemory : Prop :=
  (∀ (k : Stack) (s : State), s.boot.trained = false → exec (.fillBlock k) s = .next s) ∧
  (∀ (k : Stack) (s : State), s.boot.trained = true → k.val < s.ident.stacks → Tab.at_ 0 s.mem.filled k.val < 262144 →
    s.canonical = true → (Tab.at_ [] s.mem.filledEarly k.val).contains (Tab.at_ 0 s.mem.filled k.val) = false →
    Does (.fillBlock k) s (fun t => t = { s with mem := t.mem } ∧ t.blockFilled k.val (Tab.at_ 0 s.mem.filled k.val) = true ∧
      ∀ x, readByte t.mem.hbm x =
        if x / 65536 = k.val * 262144 + Tab.at_ 0 s.mem.filled k.val then 0 else readByte s.mem.hbm x)) ∧
  (∀ (a n d : Nat) (s : State), s.canonical = true → Tab.at_ 0 s.alloc.zeroing a = n → n ≠ 0 → physOf a = .hbm d →
    Does (.zeroingComplete a) s (fun t => t = { s with mem := t.mem, alloc := t.alloc, lodge := t.lodge } ∧
      (∀ i, i < n → readByte t.mem.hbm (d + i) = 0) ∧
      (∀ x, x < d ∨ d + n ≤ x → readByte t.mem.hbm x = readByte s.mem.hbm x))) ∧
  (∀ (q : QIx) (s : State), s.canonical = true → s.pqPresent q.val = true → (s.pq q.val).items = [] → (s.pq q.val).openR = none →
    exec (.allocRequest q) s = .next s) ∧
  (∀ (q : QIx) (i : QItem) (st : DWord) (s p : State), s.popWith q.val false = (p, st, some i) → i.poison = false →
    exec (.allocRequest q) s = .next (p.answerAlloc i.data)) ∧
  (∀ (q : QIx) (i : QItem) (s : State), s.canonical = true → q.val < 512 → s.pqPresent q.val = true →
    headItem (s.pqWhole q.val) (s.pq q.val) = some i → i.poison = false → 512 ≤ fieldAt (lineBytes i.data) 0x1E 2 →
    Does (.allocRequest q) s (fun t => (t.pq q.val).items = removeItem i (s.pq q.val).items ∧ t.tiles = s.tiles ∧
      t.hostMem = s.hostMem)) ∧
  (∀ (s : State) (ctx len al : Nat), (len = 0 ∨ len % 4096 ≠ 0 ∨ 2 ^ 30 < len) →
    (s.allocate ctx len al).2.1 = 3 ∧ (s.allocate ctx len al).1.alloc.live = s.alloc.live) ∧
  (∀ (s : State) (ctx len al : Nat), len ≠ 0 → len % 4096 = 0 → len ≤ 2 ^ 30 → (al < 12 ∨ 30 < al) →
    (s.allocate ctx len al).2.1 = 4 ∧ (s.allocate ctx len al).1.alloc.live = s.alloc.live) ∧
  (∀ (s : State) (ctx len al a : Nat), s.canonical = true → len ≠ 0 → len % 4096 = 0 → len ≤ 2 ^ 30 → 12 ≤ al → al ≤ 30 → ctx < 64 →
    s.reg64 (aCtxMemUsed ctx) + len ≤ s.reg64 (aCtxQuota ctx) → s.placeFor len (2 ^ al) = some a →
    (s.allocate ctx len al).2 = (0, a) ∧ Tab.at_ (0, 0) (s.allocate ctx len al).1.alloc.live a = (len, ctx) ∧
    (∀ b, b ≠ a → Tab.at_ (0, 0) (s.allocate ctx len al).1.alloc.live b = Tab.at_ (0, 0) s.alloc.live b)) ∧
  (∀ (s : State) (ctx a : Nat), (Tab.at_ (0, 0) s.alloc.live a).1 = 0 → (s.freeAlloc ctx a).2 = 6 ∧
    (s.freeAlloc ctx a).1.alloc.live = s.alloc.live)

/-! ## The Hedge (09) -/

/-- Requests, hold-back and locks (09 R418–R420, R429, R433, R435, R437–R439, R441): a master that is absent or has 32 requests
outstanding issues none; an accepted request that the matrix refuses holds its response at once; another waits at its
target, or is held for order or for a lock; of those that may go the one of highest priority is granted, at the end of a ck
(notes/assumptions/66.md); a response leaves the list with its code. A request held for its order or for a lock waits at its
target once its cause has gone. A lock that is not yet 512 ck old is not broken, and an older one is. -/
def Obligations.HedgeRequests : Prop :=
  (∀ (h : Hub) (r : HReq) (s : State), s.hasMaster h.val r.master.val = false ∨ 32 ≤ s.outstanding h.val r.master.val →
    exec (.hedgeRequest h r) s = .next s) ∧
  (∀ (h : Hub) (r : HReq) (s : State), s.canonical = true → s.hasMaster h.val r.master.val = true →
    s.outstanding h.val r.master.val < 32 → s.portShut h.val r.master.val = false → s.xkzqAbsent r = true →
    Does (.hedgeRequest h r) s (fun t => t = { s with hdg := t.hdg } ∧
      (t.hedge h.val).txns = (s.hedge h.val).txns ++ [⟨r, noTarget, .granted, 3, 15, 0, (s.hedge h.val).next, 0, none⟩])) ∧
  (∀ (h : Hub) (r : HReq) (s : State), s.hasMaster h.val r.master.val = true → s.outstanding h.val r.master.val < 32 →
    s.portShut h.val r.master.val = false → s.xkzqAbsent r = false →
    s.matrixStops h.val r.master.val r.addr.toNat (min r.bytes 64) r.write = true →
    exec (.hedgeRequest h r) s = .next
      ((s.hdgLocal h.val r.master.val r.addr.toNat (min r.bytes 64) r.write r.xkzq).1.addTxn h.val
        ⟨r, noTarget, .granted, (s.hdgLocal h.val r.master.val r.addr.toNat (min r.bytes 64) r.write r.xkzq).2.1,
          (s.hdgLocal h.val r.master.val r.addr.toNat (min r.bytes 64) r.write r.xkzq).2.2.1, 0, 0, 0, none⟩)) ∧
  (∀ (h : Hub) (r : HReq) (v : Nat) (s : State), s.hasMaster h.val r.master.val = true → s.outstanding h.val r.master.val < 32 →
    s.portShut h.val r.master.val = false → s.xkzqAbsent r = false →
    s.matrixStops h.val r.master.val r.addr.toNat (min r.bytes 64) r.write = false →
    (r.lock && ((s.hedge h.val).heldBy r.master.val).isSome) = false → s.targetOf h.val r.addr.toNat (min r.bytes 64) = some v →
    exec (.hedgeRequest h r) s = .next
      ((s.countHeld h.val r.master.val v (s.firstState h.val (s.hedge h.val).txns r none v)).addTxn h.val
        ⟨r, v, s.firstState h.val (s.hedge h.val).txns r none v, 0, 0, 0, 0, 0, none⟩)) ∧
  (∀ (h v i : Nat) (y : HTxn) (s : State), s.nextGrant h v = some (i, y) →
    (s.hedge h).txns[i]? = some y ∧ (s.hedge h).mayGrant v i y = true ∧
    ∀ (j : Nat) (z : HTxn), (s.hedge h).txns[j]? = some z → (s.hedge h).mayGrant v j z = true →
      s.arbKey h v y.req.master.val ≤ s.arbKey h v z.req.master.val) ∧
  (∀ (h : Hub) (m : Master) (id : BitVec 5) (s : State), (s.hedge h.val).txns = [] → exec (.hedgeResponse h m id) s = .next s) ∧
  (∀ (h : Hub) (x : HTxn) (s : State), s.canonical = true → (s.hedge h.val).txns = [x] → x.st = .granted → x.org = none →
    (s.hedge (1 - h.val)).txns = [] →
    Does (.hedgeResponse h x.req.master x.req.id) s (fun t => t = { s with hdg := t.hdg, readValue := t.readValue, readStatus := t.readStatus } ∧
      (t.hedge h.val).txns = [] ∧ t.readStatus = x.code + 8 * x.source)) ∧
  (∀ (h : Hub) (m : Master) (s : State), (s.hedge h.val).txns = [] → exec (.holdbackRelease h m) s = .next s) ∧
  (∀ (h : Hub) (x : HTxn) (s : State), (s.hedge h.val).txns = [x] → (x.st = .heldOrder ∨ x.st = .heldLock) →
    (s.hedge h.val).heldForLock x.req.master.val x.target = false →
    exec (.holdbackRelease h x.req.master) s = .next
      ((s.countHeld h.val x.req.master.val x.target .waiting).setTxn h.val 0 (fun y => { y with st := .waiting }))) ∧
  (∀ (h : Hub) (t : Target) (l : HLock) (s : State), (s.hedge h.val).lockOf t.val = some l → (s.now ≤ l.at_ + 512 ∨ l.done = true) →
    exec (.lockTimeout h t) s = .next s) ∧
  (∀ (h : Hub) (t : Target) (l : HLock) (s : State), (s.hedge h.val).lockOf t.val = some l → l.at_ + 512 < s.now → l.done = false →
    exec (.lockTimeout h t) s = .next (s.breakLock h.val t.val l.count)) ∧
  (∀ (h : Hub) (t : Target) (s : State), (s.hedge h.val).lockOf t.val = none → exec (.lockTimeout h t) s = .next s)

/-- Access windows and LOCKED (09 R421, R427): a window that would overlap an enabled one, or is empty, is refused with
WIN_REFUSED; an enabled window keeps its fields; LOCKED is set and stays, and then PRIO and SLICE ignore writes. -/
def Obligations.HedgeSettings : Prop :=
  (∀ (h : Hub) (w : Fin 16) (v : Word) (s : State), s.canonical = true → h.val < s.ident.hubs → s.winEn h.val w.val = false →
    bit v 31 = true → s.winRefused h.val w.val = true →
    Does (.hdgWinEnable h w v) s (fun t => t = { s with regs := t.regs, born := t.born } ∧ t.winEn h.val w.val = false ∧
      bit (t.reg (aHdg h.val + 4)) 1 = true ∧ RegsBut s t [aHdg h.val + 4])) ∧
  (∀ (h : Hub) (w : Fin 16) (v : Word) (s : State), s.canonical = true → h.val < s.ident.hubs → s.winEn h.val w.val = false →
    bit v 31 = true → s.winRefused h.val w.val = false → s.ident.absentAt (aWin h.val w.val + 16) = false →
    Does (.hdgWinEnable h w v) s (fun t => t = { s with regs := t.regs } ∧ t.winEn h.val w.val = true ∧
      RegsBut s t [aWin h.val w.val + 16])) ∧
  (∀ (h : Hub) (w : Fin 16) (v : Word) (s : State), h.val < s.ident.hubs → s.winEn h.val w.val = true → bit v 31 = true →
    exec (.hdgWinEnable h w v) s = .next s) ∧
  (∀ (h : Hub) (w : Fin 16) (v : Word) (s : State), h.val < s.ident.hubs → s.winEn h.val w.val = true → bit v 31 = false →
    exec (.hdgWinEnable h w v) s = .next (s.clrBits (aWin h.val w.val + 16) 0x80000000)) ∧
  (∀ (h : Hub) (s : State), s.canonical = true → h.val < s.ident.hubs → Does (.hdgCtrlLocked h) s (fun t =>
    t = { s with regs := t.regs, born := t.born } ∧ t.hdgLocked h.val = true ∧ RegsBut s t [aHdg h.val])) ∧
  (∀ (h o : Nat) (v : Word) (s : State), s.canonical = true → s.hdgLocked h = true →
    s.writeHdgCfg h o v = s.setBits (aHdg h + 4) 8)

/-! ## Images (10) -/

/-- GO, ABORT (10 R464–R468, R493): GO of an idle loader starts the load with the active image untouched; GO at another time
only records and sets CODE; a MODE 0 load during a stream is refused; ABORT ends a load in STATE 6 and keeps the active
image. That GO of a busy loader leaves the load is the model's reading (notes/assumptions/23.md). -/
def Obligations.LoadStarts : Prop :=
  (∀ (mode : Bool) (s : State), s.canonical = true → (s.loadState = 0 ∨ s.loadState = 5 ∨ s.loadState = 6) →
    (mode = true ∨ s.runBit = false) →
    Does (.loadGo mode) s (fun t => t = { s with regs := t.regs, load := t.load } ∧ t.loadState = 1 ∧ t.loadMode = mode ∧
      t.load = { LoadState.empty with active := s.load.active, mode := mode } ∧
      RegsBut s t [aHubLoadCtrl, aHubLoadProgress, aHubLoadStatus])) ∧
  (∀ (mode : Bool) (s : State), s.canonical = true → s.loadState ≠ 0 → s.loadState ≠ 5 → s.loadState ≠ 6 →
    Does (.loadGo mode) s (fun t => t.loadState = s.loadState ∧ t.load = s.load ∧ fld (t.reg aHubLoadStatus) 0 16 = 0x010E ∧
      t.tiles = s.tiles)) ∧
  (∀ s : State, s.canonical = true → (s.loadState = 0 ∨ s.loadState = 5 ∨ s.loadState = 6) → s.runBit = true →
    Does (.loadGo false) s (fun t => t.loadState = 5 ∧ t.load.active = s.load.active ∧ t.load.staged = none ∧ t.tiles = s.tiles)) ∧
  (∀ s : State, s.canonical = true → 1 ≤ s.loadState → s.loadState ≤ 3 → Does .loadAbort s (fun t =>
    t = { s with regs := t.regs, load := t.load, tiles := t.tiles } ∧ t.loadState = 6 ∧ t.load.active = s.load.active ∧
    t.load.staged = none ∧ RegsBut s t [aHubLoadStatus])) ∧
  (∀ s : State, (s.loadState = 0 ∨ 4 ≤ s.loadState) → exec .loadAbort s = .next s)

/-- The load's steps (10 R468, R470, R473): verification only in STATE 1; an image that cannot be read ends the load in STATE 5,
one that a check refuses is refused with that check's code, and any other is accepted; a tile's delivery leaves the list of
tiles still to come. What cannot be read is the model's reading (notes/assumptions/22.md). -/
def Obligations.LoadSteps : Prop :=
  (∀ s : State, s.loadState ≠ 1 → exec .loadVerifyComplete s = .next s) ∧
  (∀ (o : Nat) (s : State), s.canonical = true → s.loadState = 1 → s.imageBytes = (s, .inr o) → Does .loadVerifyComplete s (fun t =>
    t.loadState = 5 ∧ t.load.staged = none ∧ t.load.active = s.load.active ∧ t.tiles = s.tiles ∧
    fld (t.reg aHubLoadStatus) 0 16 = 0x010C)) ∧
  (∀ (bs : List Byte) (s g u : State), s.loadState = 1 → s.imageBytes = (g, .inl bs) →
    u = (if s.keysInUse then g.clrBits aHubLoadStatus 0x1000000 else g.setBits aHubLoadStatus 0x1000000) →
    exec .loadVerifyComplete s = .next (match checkFormat bs (s.regN aHubLoadLen) with
      | .inr e => g.refuseLoad e
      | .inl i => (match u.checkImage i s.loadMode with
        | some e => u.refuseLoad e
        | none => u.acceptLoad i))) ∧
  (∀ (t : TileLoc) (i : Image) (s : State), s.load.staged = some i → s.loadState = 2 → s.load.todo.contains t.key = true →
    s.tileOn t.key = true → (s.load.todo.filter (fun j => j != t.key)) ≠ [] →
    Does (.trellisDelivery t) s (fun u => u = s.deliverTile i t ∧ u.load.todo = s.load.todo.filter (fun j => j != t.key))) ∧
  (∀ (t : TileLoc) (i : Image) (s : State), s.load.staged = some i → s.loadState = 2 → s.load.todo.contains t.key = true →
    s.tileOn t.key = true → (s.load.todo.filter (fun j => j != t.key)) = [] →
    exec (.trellisDelivery t) s = .next ((s.deliverTile i t).finishDelivery i)) ∧
  (∀ (t : TileLoc) (s : State), s.loadState ≠ 2 → exec (.trellisDelivery t) s = .next s)

/-- Activation and changeover (10 R475, R476, R482–R487; 00 R695): a MODE 0 image in STATE 3 activates while RUN is 0 and is
then the active image; a swap band is set by the high word of its register; the window closes once EOC is through. The ck in
which EOC is through is the model's choice (notes/assumptions/29.md). -/
def Obligations.Activation : Prop :=
  (∀ (i : Image) (s : State), s.activationDue = true → s.load.staged = some i → Does .activation s (fun t =>
    t.load.active = some i ∧ t.load.staged = none)) ∧
  (∀ s : State, s.activationDue = false → exec .activation s = .next s) ∧
  (∀ s : State, s.loadState ≠ 3 → exec .swapNow s = .next s) ∧
  (∀ s : State, s.loadState = 3 → s.loadMode = true → s.grp.running = false → bit (s.reg aContainStatus) 31 = false →
    exec .swapNow s = .next ((s.updLoad (fun l => { l with swapWanted := some none })).armAt s.bandNum)) ∧
  (∀ (hi : Word) (s : State), s.canonical = true → s.loadState = 0 → Does (.hubSwapBandWrite hi) s (fun t =>
    t = { s with regs := t.regs } ∧
    t.reg64 aHubSwapBand = (s.latched aHubSwapBand).toNat + 2 ^ 32 * (hi.toNat % 65536) ∧
    RegsBut s t [aHubSwapBand, aHubSwapBand + 4])) ∧
  (∀ (hi : Word) (s : State), s.canonical = true → s.loadMode = true → 1 ≤ s.loadState → s.loadState ≤ 2 → s.grp.running = false →
    Does (.hubSwapBandWrite hi) s (fun t => t.load = { s.load with swapWanted := some (some (BitVec.ofNat 48
      ((s.latched aHubSwapBand).toNat + 2 ^ 32 * (hi.toNat % 65536)))) } ∧ t.tiles = s.tiles)) ∧
  (∀ s : State, s.eocThrough = false → exec .changeoverWindowClose s = .next s) ∧
  (∀ (i : Image) (s : State), s.eocThrough = true → s.load.staged = some i → Does .changeoverWindowClose s (fun t =>
    t.load.active = some i ∧ t.load.staged = none ∧ t.load.windowOpen = false)) ∧
  (∀ (hi : Word) (s : State), s.canonical = true → s.ident.hasHbm = true →
    ((Tab.at_ 0 s.latch aHubBar2Base).toNat + 2 ^ 32 * hi.toNat) % s.bar2Size = 0 → Does (.hubBar2BaseWrite hi) s (fun t =>
      t = { s with regs := t.regs } ∧
      t.reg64 aHubBar2Base = (Tab.at_ 0 s.latch aHubBar2Base).toNat + 2 ^ 32 * hi.toNat ∧
      RegsBut s t [aHubBar2Base, aHubBar2Base + 4])) ∧
  (∀ (hi : Word) (s : State), ((Tab.at_ 0 s.latch aHubBar2Base).toNat + 2 ^ 32 * hi.toNat) % s.bar2Size ≠ 0 →
    exec (.hubBar2BaseWrite hi) s = .next s)

/-! ## The Lodge (11) -/

/-- What retiring an instruction leaves: `v` in register `rd` unless that is x0, which stays 0, the pc moved past the
instruction, one more instruction counted, and nothing else in the machine changed. -/
def Sys2Proof.Machine.Retired (s t : State) (c len rd : Nat) (v : DWord) : Prop :=
  t = { s with lodge := { s.lodge with cores := t.lodge.cores } } ∧ (∀ d, d ≠ c → t.core d = s.core d) ∧
  t.core c = { s.core c with pc := (s.core c).pc + BitVec.ofNat 64 len, x := (t.core c).x, csr := (t.core c).csr } ∧
  (∀ r, (t.core c).getX r = if r = rd ∧ r ≠ 0 then v else (s.core c).getX r) ∧
  (∀ n, n ≠ 0xB02 → (t.core c).getCsr n = (s.core c).getCsr n)

/-- One instruction of a core (11 R494): a core that waits, moves data or has no power executes none; a pending interrupt that
is enabled is taken first; else the instruction at the pc, of 16 or 32 bits, is executed; a register-register operation
retires with its result, and x0 stays 0. The encodings are those of RISC-V (notes/assumptions/48.md), and what the caches
and the store buffer still hold is free (44, 45). -/
def Obligations.LodgeInstructions : Prop :=
  (∀ s t : State, t.stalled = none → s.orWait t = t) ∧
  (∀ (w : Nat × Nat × Nat × Nat) (s t : State), t.stalled = some w → s.orWait t = s.noteHeld w) ∧
  (∀ (c : Core) (e : Ecc) (s : State), s.coreRuns c.val = false → s.stalled = none → exec (.lodgeInstruction c e) s = .next s) ∧
  (∀ (c : Core) (e : Ecc) (k : Nat) (s : State), s.coreRuns c.val = true → (s.core c.val).nextIrq = some k →
    exec (.lodgeInstruction c e) s = .next (s.orWait (s.takeIrq c.val k))) ∧
  (∀ (c : Core) (e : Ecc) (h w : Nat) (s u : State), s.coreRuns c.val = true → (s.core c.val).nextIrq = none →
    ((s.sbMayDrain c.val).l2Evict (hubOf c.val)).fetchHalf c.val
      (((s.sbMayDrain c.val).l2Evict (hubOf c.val)).core c.val).pc.toNat (e == .parityOnce || e == .parityTwice) = (u, .ok h) →
    h % 4 ≠ 3 → expandRvc h = some w → exec (.lodgeInstruction c e) s = .next (s.orWait (u.execInsn c.val 2 h w e))) ∧
  (∀ (c : Core) (e : Ecc) (h g : Nat) (s u x : State), s.coreRuns c.val = true → (s.core c.val).nextIrq = none →
    ((s.sbMayDrain c.val).l2Evict (hubOf c.val)).fetchHalf c.val
      (((s.sbMayDrain c.val).l2Evict (hubOf c.val)).core c.val).pc.toNat (e == .parityOnce || e == .parityTwice) = (u, .ok h) →
    h % 4 = 3 →
    u.fetchHalf c.val ((((s.sbMayDrain c.val).l2Evict (hubOf c.val)).core c.val).pc.toNat + 2) false = (x, .ok g) →
    exec (.lodgeInstruction c e) s = .next (s.orWait (x.execInsn c.val 4 (h + 65536 * g) (h + 65536 * g) e))) ∧
  (∀ (c w : Nat) (e : Ecc) (v : DWord) (s : State), s.canonical = true → Tab.wf (fun _ => (0 : DWord)) (s.core c).x = true →
    iOp w = 0x33 → aluOp (iF7 w) (iF3 w) (s.rs c (iRs1 w)) (s.rs c (iRs2 w)) = some v →
    Retired s (s.execInsn c 4 w w e) c 4 (iRd w) v)

/-- Traps (11 R505, R513, R523; the RISC-V privileged specification, notes/assumptions/48.md): a trap saves the pc, the cause
and the mode, disables interrupts and goes to the vector; an interrupt abandons a waiting Xkzq instruction, with no item
accepted and no count taken; an exception of a task in user mode ends the task; a read of kzirq takes the oldest notice. -/
def Obligations.LodgeTraps : Prop :=
  (∀ (x : CoreState) (i : Bool) (k : Nat) (v : DWord), Tab.wf csrReset x.csr = true →
    (x.trapTo false i k v).priv = 3 ∧ (x.trapTo false i k v).getCsr 0x341 = x.pc ∧
    (x.trapTo false i k v).getCsr 0x342 = causeWord i k ∧ (x.trapTo false i k v).getCsr 0x343 = v ∧
    csrBit (x.trapTo false i k v).mstatus 3 = false ∧
    csrBit (x.trapTo false i k v).mstatus 7 = csrBit x.mstatus 3 ∧
    (x.trapTo false i k v).pc = vectorPc (x.getCsr 0x305) i k ∧ (x.trapTo false i k v).x = x.x) ∧
  (∀ (c : Core) (w : KqWaiting) (k : Nat) (s : State), (s.core c.val).wait = some w → (s.core c.val).nextIrq = some k →
    exec (.interruptAbandon c) s = .next ((s.abandonWait c.val).takeIrq c.val k)) ∧
  (∀ (c : Core) (w : KqWaiting) (k : Nat) (s : State), s.canonical = true → (s.core c.val).wait = some w →
    (s.core c.val).nextIrq = some k → Tab.wf csrReset (s.core c.val).csr = true →
    Does (.interruptAbandon c) s (fun t =>
      t = { s with lodge := { s.lodge with cores := t.lodge.cores }, pqs := t.pqs } ∧
      (t.core c.val).wait = none ∧ (t.core c.val).x = (s.core c.val).x ∧
      (t.core c.val).getCsr (if (s.core c.val).delegated true k then 0x141 else 0x341) = (s.core c.val).pc ∧
      (∀ q, (t.pq q).items = (s.pq q).items))) ∧
  (∀ (c : Core) (s : State), (s.core c.val).wait = none → exec (.interruptAbandon c) s = .next s) ∧
  (∀ (c k : Nat) (n : Nat) (v : DWord) (s : State), (s.core c).task = some k → (s.core c).priv = 0 →
    s.exception c n v = s.taskFault k c (s.core c).pc (causeWord false n) v) ∧
  (∀ (c : Core) (rd : Fin 32) (q : BitVec 16) (rest : List (BitVec 16)) (s : State), s.canonical = true →
    s.coreRuns c.val = true → (s.core c.val).priv = 3 → (s.core c.val).irq = q :: rest →
    Does (.kzirqRead c rd) s (fun t => t = { s with lodge := { s.lodge with cores := t.lodge.cores } } ∧
      (t.core c.val).irq = rest ∧ (t.core c.val).irqOver = false ∧ (t.core c.val).pc = (s.core c.val).pc + 4 ∧
      (Tab.wf (fun _ => (0 : DWord)) (s.core c.val).x = true → (t.core c.val).getX rd.val =
        if rd.val = 0 then 0
        else BitVec.ofNat 64 (2 ^ 31 + (if (s.core c.val).irqOver then 2 ^ 30 else 0) + q.toNat))))

/-- A core that waits in an Xkzq instruction. -/
def Sys2Proof.Machine.CoreState.waits (x : CoreState) (w : KqWaiting) : CoreState := { x with wait := some w }

/-- Xkzq (11 R502–R506; 07 R363): a core that does not run executes none; an operation that is not performed returns its code;
KQ.SIG adds to the object and returns 0; KQ.WAIT takes a count that no waiting core is owed, and waits without one; KQ.PUSH
waits while its queue holds the item back; KQ.POP without an item leaves memory alone; the wait ends with a count for the
waiting core of lowest index, or with TIMEOUT and the count unchanged. -/
def Obligations.XkzqInstructions : Prop :=
  (∀ (c : Core) (rd rs1 rs2 : Fin 32) (u : Bool) (s : State), s.coreRuns c.val = false →
    exec (.kqPush c rd rs1 rs2) s = .next s ∧ exec (.kqPop c rd rs1 rs2 u) s = .next s ∧
    exec (.kqSig c rd rs1 rs2) s = .next s ∧ exec (.kqWait c rd rs1 rs2) s = .next s) ∧
  (∀ (c : Core) (rd rs1 rs2 : Fin 32) (k : Nat) (s r : State), s.coreRuns c.val = true →
    (s.sbDrain c.val).loadVa c.val (s.rs c.val rs2.val).toNat 64 .clean = (r, .error k) →
    exec (.kqPush c rd rs1 rs2) s = .next (s.orWait (r.exception c.val k (BitVec.ofNat 64 (s.rs c.val rs2.val).toNat)))) ∧
  (∀ (c : Core) (rd rs1 rs2 : Fin 32) (bs : List Byte) (q n : Nat) (s r g : State), s.coreRuns c.val = true →
    q = bits (s.rs c.val rs1.val).toNat 0 9 →
    (s.sbDrain c.val).loadVa c.val (s.rs c.val rs2.val).toNat 64 .clean = (r, .ok bs) → r.kqCode c.val true true q = (g, n) →
    (n ≠ 0 → exec (.kqPush c rd rs1 rs2) s = .next (s.orWait (g.retireKq c.val rd.val (BitVec.ofNat 64 n) n))) ∧
    (∀ t, n = 0 → g.offer q (kqOffer c.val (s.rs c.val rs1.val) bs) = (t, .accepted) →
      exec (.kqPush c rd rs1 rs2) s = .next (s.orWait (t.retireKq c.val rd.val 0 0))) ∧
    (∀ t, n = 0 → g.offer q (kqOffer c.val (s.rs c.val rs1.val) bs) = (t, .refused) →
      exec (.kqPush c rd rs1 rs2) s = .next (s.orWait (t.retireKq c.val rd.val 6 6))) ∧
    (∀ t, n = 0 → g.offer q (kqOffer c.val (s.rs c.val rs1.val) bs) = (t, .held) →
      exec (.kqPush c rd rs1 rs2) s = .next (s.orWait (t.setCore c.val (CoreState.waits (t.core c.val)
        ⟨.push, rd.val, q, some (kqOffer c.val (s.rs c.val rs1.val) bs), s.now, 0⟩))))) ∧
  (∀ (c : Core) (rd rs1 rs2 : Fin 32) (u : Bool) (pa pb n q : Nat) (s w g h p : State) (st : DWord), s.coreRuns c.val = true →
    q = bits (s.rs c.val rs1.val).toNat 0 9 → s.dataAt c.val (s.rs c.val rs2.val).toNat 64 true = (w, .at_ pa pb) →
    w.kqCode c.val true false q = (g, n) →
    (n ≠ 0 → exec (.kqPop c rd rs1 rs2 u) s = .next (s.orWait (g.retireKq c.val rd.val 0 n))) ∧
    (n = 0 → g.coreHedge c.val pa pb 64 true = (h, 0) → h.popWith q u = (p, st, none) → exec (.kqPop c rd rs1 rs2 u) s =
      .next (s.orWait ((p.onPq q (fun y => { y with popStatus := st })).retireKq c.val rd.val st 0))) ∧
    (∀ i : QItem, n = 0 → g.coreHedge c.val pa pb 64 true = (h, 0) → h.popWith q u = (p, st, some i) →
      exec (.kqPop c rd rs1 rs2 u) s = .next (s.orWait ((((((p.onPq q (fun y => { y with popStatus := st })).onPq
        q (fun y => { y with popData := i.data })).sbDrain c.val).corePutNow c.val pa pb
        (lineBytes i.data)).1).retireKq c.val rd.val st 0)))) ∧
  (∀ (c : Core) (rd rs1 rs2 : Fin 32) (u : Bool) (k : Nat) (s w : State), s.coreRuns c.val = true →
    s.dataAt c.val (s.rs c.val rs2.val).toNat 64 true = (w, .bad k) →
    exec (.kqPop c rd rs1 rs2 u) s = .next (s.orWait (w.exception c.val k (BitVec.ofNat 64 (s.rs c.val rs2.val).toNat)))) ∧
  (∀ (c : Core) (rd rs1 rs2 : Fin 32) (n o : Nat) (s g : State), s.coreRuns c.val = true →
    o = bits (s.rs c.val rs1.val).toNat 0 9 → (s.sbDrain c.val).kqCode c.val false true o = (g, n) →
    (n ≠ 0 → exec (.kqSig c rd rs1 rs2) s = .next (s.orWait (g.retireKq c.val rd.val (BitVec.ofNat 64 n) n))) ∧
    (n = 0 → exec (.kqSig c rd rs1 rs2) s = .next (s.orWait ((g.signal o
      ((s.rs c.val rs2.val).toNat % 65536)).retireKq c.val rd.val 0 0)))) ∧
  (∀ (c : Core) (rd rs1 rs2 : Fin 32) (n o : Nat) (s g : State), s.coreRuns c.val = true →
    o = bits (s.rs c.val rs1.val).toNat 0 9 → s.kqCode c.val false false o = (g, n) →
    (n ≠ 0 → exec (.kqWait c rd rs1 rs2) s = .next (s.orWait (g.retireKq c.val rd.val (BitVec.ofNat 64 n) n))) ∧
    (n = 0 → (g.waitersOn o).length < g.sigCount o →
      exec (.kqWait c rd rs1 rs2) s = .next (s.orWait (((g.sigTake o).1).retireKq c.val rd.val 0 0))) ∧
    (n = 0 → g.sigCount o ≤ (g.waitersOn o).length → exec (.kqWait c rd rs1 rs2) s = .next (s.orWait
      (g.setCore c.val (CoreState.waits (g.core c.val) ⟨.wait, rd.val, o, none, s.now, (s.rs c.val rs2.val).toNat⟩))))) ∧
  (∀ (o : SigIx) (c : Nat) (rest : List Nat) (s : State), s.waitersOn o.val = c :: rest → s.sigEn o.val = true →
    s.sigCount o.val ≠ 0 → exec (.kqWaitGrant o) s = .next (((s.sigTake o.val).1).finishWait c 0)) ∧
  (∀ (o : SigIx) (s : State), s.waitersOn o.val = [] ∨ s.sigCount o.val = 0 → exec (.kqWaitGrant o) s = .next s) ∧
  (∀ (c : Core) (w : KqWaiting) (s : State), (s.core c.val).wait = some w → w.kind = .wait → w.timeout ≠ 0 →
    8 * w.since + 5 * w.timeout ≤ 8 * s.now →
    Does (.kqWaitTimeout c) s (fun t => t = { s with lodge := { s.lodge with cores := t.lodge.cores } } ∧
      (s.canonical = true → (t.core c.val).wait = none ∧ (Tab.wf csrReset (s.core c.val).csr = true → (t.core c.val).getCsr 0x800 = 7)))) ∧
  (∀ (c : Core) (w : KqWaiting) (s : State), (s.core c.val).wait = some w → 8 * s.now < 8 * w.since + 5 * w.timeout →
    exec (.kqWaitTimeout c) s = .next s)

/-- Porters and firmware calls (11 R509–R511, R514, R515, R520): a length of no transfer is only stored; a transfer whose pieces
all move stops the core until PORTER_COMPLETE; a call returns its results in a0 and a1 and goes on after the ECALL. -/
def Obligations.PortersAndCalls : Prop :=
  (∀ (c : Core) (len : DWord) (s : State), s.coreRuns c.val = true → len.toNat = 0 ∨ 65536 < len.toNat →
    exec (.porterStart c len) s = .next (s.orWait
      ((s.setCore c.val ((s.core c.val).setCsr 0x803 (BitVec.ofNat 64 len.toNat))).retire c.val 4 0 0))) ∧
  (∀ (c : Core) (len : DWord) (s : State), s.coreRuns c.val = false → exec (.porterStart c len) s = .next s) ∧
  (∀ (c : Core) (len : DWord) (s m : State) (z : Xfer), s.coreRuns c.val = true → 0 < len.toNat → len.toNat ≤ 65536 →
    State.porterMove (fun t va w => t.coreXlate c.val (s.core c.val).dataPriv va w false) c.val porterFuel (s.sbDrain c.val)
      ⟨((s.core c.val).getCsr 0x801).toNat, ((s.core c.val).getCsr 0x802).toNat, len.toNat⟩ = (m, z, .done) →
    m.canonical = true → m.stalled = none →
    Does (.porterStart c len) s (fun t => t = { m with lodge := { m.lodge with cores := t.lodge.cores } } ∧
      (t.core c.val).porter = true ∧ t.coreRuns c.val = false)) ∧
  (∀ (c : Core) (s : State), s.canonical = true → (s.core c.val).porter = true → s.stalled = none →
    (∀ k, (s.core c.val).task = some k → (s.task k).copy = none ∧ s.sup.warnHeld = false) →
    Does (.porterComplete c) s (fun t => t = { s with lodge := { s.lodge with cores := t.lodge.cores } } ∧
      t.core c.val = { s.core c.val with porter := false })) ∧
  (∀ (c : Core) (s : State), (s.core c.val).porter = false → s.stalled = none → exec (.porterComplete c) s = .next s) ∧
  (∀ (c : Core) (k : Nat) (s : State), s.caller c.val = some k →
    exec (.ecallExit c) s = .next (s.endTask k 4 0 (loWord (s.rs c.val 10))) ∧
    exec (.ecallAlloc c) s = .next (s.callAlloc c.val k) ∧
    exec (.ecallFree c) s = .next (s.callFree c.val k)) ∧
  (∀ (c : Core) (k : Nat) (s : State), s.canonical = true → Tab.wf (fun _ => (0 : DWord)) (s.core c.val).x = true →
    s.caller c.val = some k →
    Does (.ecallTime c) s (fun t => Retired s t c.val 4 10 s.ptpNs) ∧
    Does (.ecallBand c) s (fun t => Retired s t c.val 4 10 (s.bandNum.zeroExtend 64))) ∧
  (∀ (c : Core) (s : State), s.caller c.val = none → exec (.ecallExit c) s = .next s ∧ exec (.ecallAlloc c) s = .next s ∧
    exec (.ecallFree c) s = .next s ∧ exec (.ecallTime c) s = .next s ∧ exec (.ecallBand c) s = .next s) ∧
  (∀ (c k n : Nat) (s u : State), s.allocate (s.taskCtx k) (s.rs c 10).toNat (s.rs c 11).toNat = (u, n, 0) → n ≠ 0 →
    s.callAlloc c k = u.callReturn c (some 0) (some (BitVec.ofNat 64 n))) ∧
  (∀ (c k a : Nat) (s u : State), s.allocate (s.taskCtx k) (s.rs c 10).toNat (s.rs c 11).toNat = (u, 0, a) →
    s.callAlloc c k = (u.mapPages (s.taskCtx k) ((s.rs c 12).getLsbD 0) (a / 4096) ((s.rs c 10).toNat / 4096)).callReturn c
      (some (BitVec.ofNat 64 a)) (some 0))

/-- The record of a cancelled task on core `c` (11 R521): the core, the context and the pc. -/
def Sys2Proof.Machine.State.cancelRecord (s : State) (k c : Nat) : ErrInfo :=
  { err 0x0703 with ctx := s.taskCtx k, loc := coreLoc c, d0 := (s.core c).pc.toNat, hub := k / 256 }

/-- Task slots (11 R498, R517–R521, R528): a record is written only in a state of 0, 4, 5 or 6; GO of a free slot with a core it
may use makes the task PENDING, and one without ends at once FAULTED with DOMAIN_OFF; a pending task that is cancelled never
starts; a running one is interrupted, and ends once its core's porter is done; the dispatcher starts the task that is first
in order on the core it found, its waits taken; a kernel is cancelled 1 ms after its stop. A task starts at ENTRY in user
mode with ARG in a0 and the stack in sp, and never on core 0 of a hub. The core taken is the model's reading
(notes/assumptions/53.md). -/
def Obligations.TaskSlots : Prop :=
  (∀ (h : Hub) (i : Slot) (w : Fin 16) (v : Word) (s : State), s.canonical = true → h.val < s.ident.hubs →
    slotFree (s.task (taskKey h i)).st = true →
    Does (.ldgTaskRecordWrite h i w v) s (fun t => t = { s with regs := t.regs } ∧
      t.reg (aTaskOf (taskKey h i) + 4 * w.val) = v &&& taskWordBits w.val ∧ RegsBut s t [aTaskOf (taskKey h i) + 4 * w.val])) ∧
  (∀ (h : Hub) (i : Slot) (w : Fin 16) (v : Word) (s : State), slotFree (s.task (taskKey h i)).st = false →
    exec (.ldgTaskRecordWrite h i w v) s = .next s ∧ exec (.ldgTaskGo h i) s = .next s) ∧
  (∀ (h : Hub) (i : Slot) (s : State), s.canonical = true → h.val < s.ident.hubs →
    slotFree (s.task (taskKey h i)).st = true → bits (s.taskMask (taskKey h i)) 1 3 ≠ 0 →
    (s.task (taskKey h i)).cancelAt ≠ some s.now →
    Does (.ldgTaskGo h i) s (fun t => t = { s with regs := t.regs, lodge := t.lodge } ∧
      (t.task (taskKey h i)).st = 1 ∧ (t.task (taskKey h i)).order = s.lodge.nextOrder ∧
      t.lodge.nextOrder = s.lodge.nextOrder + 1 ∧ t.lodge.cores = s.lodge.cores ∧ (∀ j, j ≠ taskKey h i → t.task j = s.task j))) ∧
  (∀ (h : Hub) (i : Slot) (s : State), s.canonical = true → h.val < s.ident.hubs →
    slotFree (s.task (taskKey h i)).st = true → bits (s.taskMask (taskKey h i)) 1 3 = 0 →
    Does (.ldgTaskGo h i) s (fun t => (t.task (taskKey h i)).st = 6 ∧ (t.task (taskKey h i)).core = none ∧
      fld (t.reg (aTaskOf (taskKey h i) + 0x40)) 0 16 = 0x0603)) ∧
  (∀ (h : Hub) (i : Slot) (s : State), s.canonical = true → h.val < s.ident.hubs →
    slotFree (s.task (taskKey h i)).st = true → bits (s.taskMask (taskKey h i)) 1 3 ≠ 0 →
    (s.task (taskKey h i)).cancelAt = some s.now →
    Does (.ldgTaskGo h i) s (fun t => (t.task (taskKey h i)).st = 5 ∧ (t.task (taskKey h i)).core = none ∧
      fld (t.reg (aTaskOf (taskKey h i) + 0x40)) 0 16 = 0x0703)) ∧
  (∀ (h : Hub) (i : Slot) (s : State), (s.task (taskKey h i)).st = 1 →
    exec (.ldgTaskCancel h i) s = .next (s.endTask (taskKey h i) 5 0x0703 0)) ∧
  (∀ (h : Hub) (i : Slot) (c : Nat) (s : State), (s.task (taskKey h i)).st = 2 → (s.task (taskKey h i)).core = some c →
    s.justStarted (taskKey h i) c = true →
    exec (.ldgTaskCancel h i) s = .next ((s.unstart (taskKey h i) c).endTask (taskKey h i) 5 0x0703 0)) ∧
  (∀ (h : Hub) (i : Slot) (s : State), (s.task (taskKey h i)).st = 2 ∨ (s.task (taskKey h i)).st = 3 →
    (∀ c, (s.task (taskKey h i)).core = some c → s.justStarted (taskKey h i) c = false) →
    exec (.ldgTaskCancel h i) s = .next (s.setTask (taskKey h i) { s.task (taskKey h i) with interrupted := true })) ∧
  (∀ (h : Hub) (i : Slot) (s : State), h.val < s.ident.hubs → slotFree (s.task (taskKey h i)).st = true →
    exec (.ldgTaskCancel h i) s = .next (s.setTask (taskKey h i) { s.task (taskKey h i) with cancelAt := some s.now })) ∧
  (∀ (h : Hub) (i : Slot) (c : Nat) (s : State), (s.task (taskKey h i)).st = 2 ∨ (s.task (taskKey h i)).st = 3 →
    (s.task (taskKey h i)).core = some c → (s.task (taskKey h i)).interrupted = true → (s.task (taskKey h i)).faulting = false →
    (s.core c).porter = false →
    exec (.taskCancelComplete h i) s = .next ((s.emit (s.cancelRecord (taskKey h i) c)).endTask (taskKey h i) 5 0x0703 0)) ∧
  (∀ (h : Hub) (i : Slot) (s : State), (s.task (taskKey h i)).interrupted = false →
    exec (.taskCancelComplete h i) s = .next s) ∧
  (∀ (h : Hub) (k c : Nat) (s u : State), s.nextTask h.val = some k → s.coreFor k = some c →
    s.takeWaits (s.taskWaits k) = some u → exec (.taskStart h) s = .next (u.startOn k c)) ∧
  (∀ (h : Hub) (s : State), s.nextTask h.val = none → exec (.taskStart h) s = .next s) ∧
  (∀ (h : Hub) (i : Slot) (t0 : Nat) (s : State), (s.task (taskKey h i)).stopAt = some t0 →
    (s.now < t0 → exec (.kernelStopTimeout h i) s = .next s) ∧
    (t0 ≤ s.now → (s.task (taskKey h i)).st = 2 →
      (∀ c, (s.task (taskKey h i)).core = some c → s.justStarted (taskKey h i) c = false) →
      exec (.kernelStopTimeout h i) s = .next (s.setTask (taskKey h i) { s.task (taskKey h i) with interrupted := true }))) ∧
  (∀ (k c : Nat) (s : State), s.canonical = true → Tab.wf (fun _ => (0 : DWord)) (s.core c).x = true → (s.task k).copy = none →
    (s.startOn k c).core c = { (s.startOn k c).core c with pc := BitVec.ofNat 64 (s.taskEntry k), priv := 0, task := some k,
                                                           resv := none } ∧
    ((s.startOn k c).core c).getX 10 = BitVec.ofNat 64 (s.taskArg k) ∧
    ((s.startOn k c).core c).getX 2 = BitVec.ofNat 64 (s.taskStack k) ∧
    ((s.startOn k c).task k).st = 2 ∧ ((s.startOn k c).task k).core = some c ∧ (s.startOn k c).tiles = s.tiles ∧
    (s.startOn k c).mem = s.mem) ∧
  (∀ (c j : Nat) (s : State) (k : Nat), s.coreFor k = some c → c = 4 * (k / 256) + j → j < 4 →
    j ≠ 0 ∧ s.coreIdle c = true)

/-- Lodge control registers (11 R495, R497, R525): a core's bit cleared starts its power on the way off, when no task holds it,
and the service core's bit stays; ways already locked stay locked, and lock no more than once. -/
def Obligations.LodgeControl : Prop :=
  (∀ (h : Hub) (v : BitVec 4) (s : State), h.val < s.ident.hubs → v.toNat % 2 = 0 → s.regN (aLodge h.val) = v.toNat + 1 →
    exec (.ldgCorePwrWrite h v) s = .next s) ∧
  (∀ (h : Hub) (k : Nat) (s : State), s.canonical = true → h.val < s.ident.hubs → 1 ≤ k → k ≤ 3 → s.reg (aLodge h.val) = 0xF →
    s.power.off = [] → s.power.turningOff = [] →
    Does (.ldgCorePwrWrite h (BitVec.ofNat 4 (15 - 2 ^ k))) s (fun t => t = { s with regs := t.regs, born := t.born, power := t.power, hdg := t.hdg } ∧
      t.regN (aLodge h.val) = 15 - 2 ^ k ∧ t.power.turningOff = [12 + 4 * h.val + k] ∧ RegsBut s t [aLodge h.val])) ∧
  (∀ (h : Hub) (v : BitVec 16) (s : State), h.val < s.ident.hubs → (∀ k < 16, v.getLsbD k = true → s.wayLocked h.val k = true) →
    exec (.ldgL2LockWrite h v) s = .next s) ∧
  (∀ (h : Hub) (k : Fin 16) (s : State), h.val < s.ident.hubs → s.wayLocked h.val k.val = false →
    exec (.ldgL2LockWrite h (1#16 <<< k.val)) s =
      .next (((s.flushWay h.val k.val).zeroWay h.val k.val).setBits (aLodge h.val + 8) (1#32 <<< k.val)))

/-! ## Host interface (12) -/

/-- The endpoint (12 R533, R535, R537, R539): a misaligned BAR 0 access after the first has no effect but its count, and a read
of it returns 0; a BAR 2 access outside the BAR is answered UR and writes nothing; one inside is served from HBM; an
AtomicOp elsewhere than BAR 2 is UR, and one served returns the old value and writes the new; an unmasked vector sends its
pending message. BAR 2's size is free (notes/assumptions/62.md). -/
def Obligations.HostAccess : Prop :=
  (∀ (off : BitVec 25) (be : BitVec 8) (w : Bool) (s : State), s.canonical = true → s.reg aHubPcieBadacc ≠ 0 →
    Does (.bar0MisalignedAccess off be w) s (fun t =>
      t = { s with regs := t.regs, born := t.born, readValue := t.readValue, readStatus := t.readStatus } ∧
      t.reg aHubPcieBadacc = satAdd (s.reg aHubPcieBadacc) 1 ∧ RegsBut s t [aHubPcieBadacc] ∧
      (w = false → t.readValue = 0 ∧ t.readStatus = 0))) ∧
  (∀ (off : BitVec 25) (be : BitVec 8) (w : Bool) (s : State), s.canonical = true → s.reg aHubPcieBadacc = 0 →
    Does (.bar0MisalignedAccess off be w) s (fun t => t.reg aHubPcieBadacc = 1 ∧ t.errSeq = (s.errSeq + 1) % 65536 ∧
      t.mem = s.mem ∧ t.tiles = s.tiles ∧ (w = false → t.readValue = 0 ∧ t.readStatus = 0))) ∧
  (∀ (off : DWord) (n : Fin 65) (data : Line) (e : Ecc) (s : State), s.bar2Addr off.toNat n.val = none →
    exec (.bar2Access off true n ⟨data, e⟩) s = .next s ∧
    Does (.bar2Access off false n ⟨data, e⟩) s (fun t => t.readStatus = 1 ∧ t.mem = s.mem ∧ t.regs = s.regs)) ∧
  (∀ (off : DWord) (n : Fin 65) (data : Line) (e : Ecc) (a : Nat) (p : Nat × Nat) (s g : State), s.bar2Addr off.toNat n.val = some a →
    s.accessWaits 0 mPcie a n.val true = none → s.hdgCheck 0 mPcie a n.val true false = (g, 0, p) →
    exec (.bar2Access off true n ⟨data, e⟩) s = .next ((g.writeParity e).hbmWrite a ((lineBytes data).take n.val))) ∧
  (∀ (off : DWord) (n : Fin 65) (data : Line) (e : Ecc) (a : Nat) (p : Nat × Nat) (s g : State), s.bar2Addr off.toNat n.val = some a →
    s.accessWaits 0 mPcie a n.val false = none → s.hdgCheck 0 mPcie a n.val false false = (g, 0, p) →
    (g.eccFind (.hbm (a / 8)) e).hbmPoisoned a n.val = none →
    Does (.bar2Access off false n ⟨data, e⟩) s (fun t => t.readStatus = 0 ∧
      t.readData = ((g.eccFind (.hbm (a / 8)) e).hbmRead a n.val).2)) ∧
  (∀ (off : DWord) (write : Bool) (n : Fin 65) (data : Line) (e : Ecc) (a : Nat) (w : Nat × Nat × Nat × Nat) (s : State),
    s.bar2Addr off.toNat n.val = some a → s.accessWaits 0 mPcie a n.val write = some w →
    exec (.bar2Access off write n ⟨data, e⟩) s = .next (s.noteHeld w)) ∧
  (∀ (off : DWord) (n : Fin 65) (data : Line) (e : Ecc) (a w : Nat) (p : Nat × Nat) (s g : State), s.bar2Addr off.toNat n.val = some a →
    s.accessWaits 0 mPcie a n.val false = none → s.hdgCheck 0 mPcie a n.val false false = (g, 0, p) →
    (g.eccFind (.hbm (a / 8)) e).hbmPoisoned a n.val = some w →
    Does (.bar2Access off false n ⟨data, e⟩) s (fun t => t.readStatus = 3)) ∧
  (∀ (off : DWord) (n : Fin 65) (data : Line) (e : Ecc) (a x : Nat) (p : Nat × Nat) (s g : State), s.bar2Addr off.toNat n.val = some a →
    x ≠ 0 →
    (s.accessWaits 0 mPcie a n.val true = none → s.hdgCheck 0 mPcie a n.val true false = (g, x, p) →
      exec (.bar2Access off true n ⟨data, e⟩) s = .next g) ∧
    (s.accessWaits 0 mPcie a n.val false = none → s.hdgCheck 0 mPcie a n.val false false = (g, x, p) →
      Does (.bar2Access off false n ⟨data, e⟩) s (fun t => t.readStatus = pcieStatus x ∧ t.mem = g.mem))) ∧
  (∀ (bar : Fin 5) (off : DWord) (k : AtomicKind) (wide : Bool) (a b : DWord) (s : State),
    bar.val ≠ 2 ∨ off.toNat % (if wide then 8 else 4) ≠ 0 ∨ s.bar2Addr off.toNat (if wide then 8 else 4) = none →
    Does (.atomicop bar off k wide a b) s (fun t => t = { s with readValue := 0, readStatus := 1 })) ∧
  (∀ (off : DWord) (k : AtomicKind) (wide : Bool) (a b : DWord) (n d : Nat) (w : Nat × Nat × Nat × Nat) (s : State),
    n = (if wide then 8 else 4) → off.toNat % n = 0 → s.bar2Addr off.toNat n = some d → s.accessWaits 0 mPcie d n true = some w →
    exec (.atomicop 2 off k wide a b) s = .next (s.noteHeld w)) ∧
  (∀ (off : DWord) (k : AtomicKind) (wide : Bool) (a b : DWord) (n d x : Nat) (p : Nat × Nat) (s g : State),
    n = (if wide then 8 else 4) → off.toNat % n = 0 → s.bar2Addr off.toNat n = some d → s.accessWaits 0 mPcie d n true = none →
    s.hdgCheck 0 mPcie d n true false = (g, x, p) →
    (x ≠ 0 → exec (.atomicop 2 off k wide a b) s = .next (g.answer 0 (pcieStatus x))) ∧
    (x = 0 → ((s.hedge 0).heldBy mPcie).isSome = true → exec (.atomicop 2 off k wide a b) s = .next (s.answer 0 2)) ∧
    (∀ w, x = 0 → ((s.hedge 0).heldBy mPcie).isSome = false → g.hbmPoisoned d n = some w →
      Does (.atomicop 2 off k wide a b) s (fun t => t.readStatus = 3 ∧ t.mem = g.mem)) ∧
    (∀ r bs, x = 0 → ((s.hedge 0).heldBy mPcie).isSome = false → g.hbmPoisoned d n = none → g.hbmRead d n = (r, bs) →
      exec (.atomicop 2 off k wide a b) s =
        .next ((r.hbmWrite d (leBytes n (atomicNew k n (leNat bs) a.toNat b.toNat))).answer (BitVec.ofNat 64 (leNat bs)) 0))) ∧
  (∀ (v : Fin 2048) (s : State), s.canonical = true → bit (s.reg (aMsixPba + 4 * (v.val / 32))) (v.val % 32) = true →
    Does (.msixUnmask v) s (fun t => t = { s with regs := t.regs, outbox := s.outbox ++ [.msix v.val] } ∧
      bit (t.reg (aMsixTable v.val + 12)) 0 = false ∧ bit (t.reg (aMsixPba + 4 * (v.val / 32))) (v.val % 32) = false ∧
      RegsBut s t [aMsixTable v.val + 12, aMsixPba + 4 * (v.val / 32)])) ∧
  (∀ (v : Fin 2048) (s : State), s.canonical = true → bit (s.reg (aMsixPba + 4 * (v.val / 32))) (v.val % 32) = false →
    Does (.msixUnmask v) s (fun t => t = { s with regs := t.regs } ∧ bit (t.reg (aMsixTable v.val + 12)) 0 = false ∧
      RegsBut s t [aMsixTable v.val + 12]))

/-- The doorbell window (12 R541, R549, R561, R570): a tail within the ring's credit is stored, one beyond it is rejected and
counted; an object the context does not own is left alone and the access counted; an owned one is signalled, or waited on; a
context that is being destroyed takes no doorbell; CANCEL_TAG ends the entries of its tag that have not started. -/
def Obligations.Doorbells : Prop :=
  (∀ (c : Ctx) (r : Ring) (v : Word) (s : State), s.canonical = true → s.destroying c.val = false →
    ringUsed v.toNat (s.ringTail c.val r.val) ≤ s.ringCredit c.val r.val →
    Does (.dbTail c r v) s (fun t => t = { s with regs := t.regs, ctxs := t.ctxs } ∧ t.ringTail c.val r.val = v.toNat ∧
      (t.ctx c.val).entries = (s.ctx c.val).entries ∧ (∀ d, d ≠ c.val → t.ctx d = s.ctx d) ∧
      RegsBut s t [aCtxRing c.val r.val + 0x10])) ∧
  (∀ (c : Ctx) (r : Ring) (v : Word) (s : State), s.canonical = true → s.destroying c.val = false →
    s.ringCredit c.val r.val < ringUsed v.toNat (s.ringTail c.val r.val) → s.reg (aCtxDbReject c.val) ≠ 0 →
    Does (.dbTail c r v) s (fun t => t = { s with regs := t.regs, born := t.born } ∧ t.ringTail c.val r.val = s.ringTail c.val r.val ∧
      t.reg (aCtxDbReject c.val) = satAdd (s.reg (aCtxDbReject c.val)) 1 ∧ RegsBut s t [aCtxDbReject c.val])) ∧
  (∀ (c : Ctx) (r : Ring) (v : Word) (s : State), s.canonical = true → s.destroying c.val = false →
    s.ringCredit c.val r.val < ringUsed v.toNat (s.ringTail c.val r.val) → s.reg (aCtxDbReject c.val) = 0 →
    Does (.dbTail c r v) s (fun t => t.ringTail c.val r.val = s.ringTail c.val r.val ∧ t.reg (aCtxDbReject c.val) = 1 ∧
      t.errSeq = (s.errSeq + 1) % 65536 ∧ t.ctxs = s.ctxs)) ∧
  (∀ (c : Ctx) (r : Ring) (v : Word) (o : SigIx) (n : BitVec 16) (tag : Word) (s : State), s.destroying c.val = true →
    exec (.dbTail c r v) s = .next (s.dbReject c.val) ∧ exec (.sigwinWrite c o n) s = .next (s.dbReject c.val) ∧
    exec (.dbCancelTag c tag) s = .next (s.dbReject c.val)) ∧
  (∀ (c : Ctx) (tag : Word) (s : State), s.destroying c.val = false → (∀ e ∈ (s.ctx c.val).entries, eTag e.words ≠ tag) →
    exec (.dbCancelTag c tag) s = .next s) ∧
  (∀ (c : Ctx) (e : REntry) (s : State), s.canonical = true → s.destroying c.val = false → (s.ctx c.val).entries = [e] →
    (e.phase = .fetched ∨ e.phase = .waiting) →
    Does (.dbCancelTag c (eTag e.words)) s (fun t => t = { s with ctxs := t.ctxs } ∧
      (t.ctx c.val).entries = [{ e with phase := .ready, state := 5, code := 0x0703 }])) ∧
  (∀ (c : Ctx) (e : REntry) (k : Nat) (s : State), s.destroying c.val = false → (s.ctx c.val).entries = [e] → e.phase = .running →
    s.liveTasks.find? (fun k => (s.task k).origin == some (c.val, e.ring, e.index.toNat)) = some k →
    exec (.dbCancelTag c (eTag e.words)) s = .next (s.cancelTask k false)) ∧
  (∀ (c : Ctx) (o : SigIx) (n : BitVec 16) (s : State), s.destroying c.val = false → s.ownsSig c.val o.val = true →
    exec (.sigwinWrite c o n) s = .next (s.signal o.val n.toNat) ∧ exec (.sigwinRead c o) s = .next (s.tryWait o.val) ∧
    exec (.sigSignal o n) s = .next (s.signal o.val n.toNat) ∧ exec (.sigTrywait o) s = .next (s.tryWait o.val) ∧
    ((s.tryWait o.val).readValue = 0 ∨ (s.tryWait o.val).readValue = 1)) ∧
  (∀ (c : Ctx) (o : SigIx) (n : BitVec 16) (s : State), s.canonical = true → s.ownsSig c.val o.val = false →
    Does (.sigwinWrite c o n) s (fun t => t = { s with regs := t.regs, born := t.born } ∧
      t.reg (aCtxDbReject c.val) = satAdd (s.reg (aCtxDbReject c.val)) 1 ∧ RegsBut s t [aCtxDbReject c.val]) ∧
    Does (.sigwinRead c o) s (fun t => t = { s with regs := t.regs, born := t.born, readValue := 0, readStatus := 0 } ∧
      t.reg (aCtxDbReject c.val) = satAdd (s.reg (aCtxDbReject c.val)) 1 ∧ RegsBut s t [aCtxDbReject c.val]))

/-- Contexts (12 R547, R548, R569–R571, R576): CREATE makes a FREE context ACTIVE once its root has been written; CLEAR_FAULT
one that is FAULTED, once its discard has ended, with HEAD at TAIL on every ring; DESTROY begins for an ACTIVE or FAULTED
one and completes, FREE, once no task is left, or is escalated 4 ms after it began; TLB_BUSY is set and cleared; an
ownership word that takes nothing it may not own is stored. No TLB is kept (notes/assumptions/8.md), and what CREATE and
CLEAR_FAULT clear is the model's reading (59). -/
def Obligations.ContextLifecycle : Prop :=
  (∀ (c : Ctx) (s : State), s.canonical = true → s.ctxSt c.val = 0 → (s.ctx c.val).rootWritten = true →
    Does (.ctxCreate c) s (fun t => t = { s with regs := t.regs } ∧ t.ctxSt c.val = 1 ∧ t.ctxRoot c.val = s.ctxRoot c.val)) ∧
  (∀ (c : Ctx) (s : State), (s.ctxSt c.val ≠ 0 ∨ (s.ctx c.val).rootWritten = false) → exec (.ctxCreate c) s = .next s) ∧
  (∀ (c : Ctx) (s : State), s.canonical = true → (s.ctxSt c.val = 1 ∨ s.ctxSt c.val = 2) → s.ctxTasks c.val = [] →
    (s.ctx c.val).rangAt ≠ s.now →
    Does (.ctxDestroy c) s (fun t => t = { s with regs := t.regs, ctxs := t.ctxs } ∧ t.ctxSt c.val = 3 ∧
      (t.ctx c.val).entries = [] ∧ (t.ctx c.val).destroyAt = some s.now ∧ RegsBut s t [aCtxState c.val])) ∧
  (∀ (c : Ctx) (r : Ring) (v : Word) (s : State), s.canonical = true → (s.ctxSt c.val = 1 ∨ s.ctxSt c.val = 2) →
    s.ctxTasks c.val = [] → (s.ctx c.val).rangAt = s.now → (s.ctx c.val).rang = [(r.val, v)] →
    Does (.ctxDestroy c) s (fun t => t.ctxSt c.val = 3 ∧ t.ringTail c.val r.val = v.toNat ∧
      t.reg (aCtxDbReject c.val) = satAdd (s.reg (aCtxDbReject c.val)) 1)) ∧
  (∀ (c : Ctx) (s : State), s.ctxSt c.val = 0 ∨ s.ctxSt c.val = 3 → exec (.ctxDestroy c) s = .next s) ∧
  (∀ (c : Ctx) (s : State), s.destroying c.val = true → s.ctxTasks c.val = [] →
    exec (.ctxDestroyComplete c) s = .next (s.endDestroy c.val)) ∧
  (∀ (c : Ctx) (s : State), s.canonical = true → (s.clearCtx c.val).ctxSt c.val = 0 ∧
    ((s.clearCtx c.val).ctx c.val).entries = [] ∧ ((s.clearCtx c.val).ctx c.val).destroyAt = none) ∧
  (∀ (c : Ctx) (s : State), (s.destroying c.val = false ∨ s.ctxTasks c.val ≠ []) → exec (.ctxDestroyComplete c) s = .next s) ∧
  (∀ (c : Ctx) (t0 : Nat) (s : State), (s.ctx c.val).destroyAt = some t0 →
    (s.destroying c.val = true → t0 + msCk 4 ≤ s.now → exec (.ctxDestroyEscalated c) s = .next (s.escalate c.val)) ∧
    (s.now < t0 + msCk 4 → exec (.ctxDestroyEscalated c) s = .next s)) ∧
  (∀ (c : Ctx) (s : State), (s.ctx c.val).destroyAt = none → s.lateTasks c.val = [] →
    exec (.ctxDestroyEscalated c) s = .next s) ∧
  (∀ (c : Ctx) (s : State), s.canonical = true → s.ctxSt c.val = 2 → s.ctxTasks c.val = [] → (s.ctx c.val).entries = [] →
    Does (.ctxClearFault c) s (fun t => t = { s with regs := t.regs } ∧ t.ctxSt c.val = 1 ∧
      fld (t.reg (aCtxState c.val)) 16 16 = 0 ∧ (∀ r : Ring, t.ringHead c.val r.val = s.ringTail c.val r.val))) ∧
  (∀ (c : Ctx) (s : State), (s.ctxSt c.val ≠ 2 ∨ s.ctxTasks c.val ≠ [] ∨ (s.ctx c.val).entries ≠ []) →
    exec (.ctxClearFault c) s = .next s) ∧
  (∀ (c : Ctx) (s : State), s.canonical = true →
    Does (.ctxTlbInv c) s (fun t => t = { s with regs := t.regs, born := t.born } ∧ bit (t.reg (aCtxState c.val)) 8 = true ∧
      RegsBut s t [aCtxState c.val]) ∧
    Does (.tlbInvComplete c) s (fun t => t = { s with regs := t.regs } ∧ bit (t.reg (aCtxState c.val)) 8 = false ∧
      RegsBut s t [aCtxState c.val])) ∧
  (∀ (c : Ctx) (q : Bool) (w : Fin 16) (v : Word) (s : State), s.canonical = true →
    (∀ j < 32, bit v j = true → bit (s.reg (if q then aCtxPqOwn c.val w.val else aCtxSigOwn c.val w.val)) j = false →
      s.mayOwn c.val q (32 * w.val + j) = true) →
    Does (.ctxOwnWrite c q w v) s (fun t => t = { s with regs := t.regs } ∧
      t.reg (if q then aCtxPqOwn c.val w.val else aCtxSigOwn c.val w.val) = v ∧
      RegsBut s t [if q then aCtxPqOwn c.val w.val else aCtxSigOwn c.val w.val])) ∧
  (∀ (c : Ctx) (q : Bool) (w : Fin 16) (v : Word) (j : Nat) (s : State), s.canonical = true → j < 32 → bit v j = true →
    bit (s.reg (if q then aCtxPqOwn c.val w.val else aCtxSigOwn c.val w.val)) j = false → s.mayOwn c.val q (32 * w.val + j) = false →
    Does (.ctxOwnWrite c q w v) s (fun t => t = { s with regs := t.regs, born := t.born } ∧
      bit (t.reg (if q then aCtxPqOwn c.val w.val else aCtxSigOwn c.val w.val)) j = false ∧ bit (t.reg (aCtxState c.val)) 10 = true ∧
      RegsBut s t [if q then aCtxPqOwn c.val w.val else aCtxSigOwn c.val w.val, aCtxState c.val]))

/-- Rings (12 R549–R556, R571): an entry is fetched only from an enabled ring of an ACTIVE context whose HEAD is not at TAIL;
the ring's next entry that may start does what its opcode says; an object or a fence that is not met makes it wait; it
completes once it is ready, leaves the context's entries, and is counted. What an entry that is not valid does is not said
here (notes/assumptions/58.md). -/
def Obligations.Rings : Prop :=
  (∀ (c : Ctx) (r : Ring) (s : State), s.ctxSt c.val ≠ 1 ∨ s.ringEn c.val r.val = false ∨
    s.ringHead c.val r.val = s.ringTail c.val r.val ∨ s.cqFull c.val r.val = true → s.stalled = none → exec (.ringEntryFetch c r) s = .next s) ∧
  (∀ (c : Ctx) (r : Ring) (bs : List Byte) (s g : State), s.ctxSt c.val = 1 → s.ringEn c.val r.val = true →
    s.ringHead c.val r.val ≠ s.ringTail c.val r.val → s.cqFull c.val r.val = false →
    s.readVirt 0 c.val (s.ringVa c.val r.val + 64 * (s.ringHead c.val r.val % s.ringSize c.val r.val)) 64 = (g, some bs) →
    g.canonical = true → g.stalled = none → g.entryOk c.val r.val (lineOf bs) = true →
    (eOp (lineOf bs) = 1 ∨ eOp (lineOf bs) = 6 → eHub (lineOf bs) < s.ident.hubs → (g.freeSlot (eHub (lineOf bs))).isSome = true) →
    Does (.ringEntryFetch c r) s (fun t => t = { g with regs := t.regs, ctxs := t.ctxs } ∧
      t.ringHead c.val r.val = (s.ringHead c.val r.val + 1) % 2 ^ 32 ∧
      (t.ctx c.val).entries = (g.ctx c.val).entries ++
        [⟨r.val, BitVec.ofNat 32 (s.ringHead c.val r.val), lineOf bs, .fetched, 0, 0, 0, 0⟩] ∧
      RegsBut g t [aCtxRing c.val r.val + 0xC])) ∧
  (∀ (c : Ctx) (r : Ring) (bs : List Byte) (s g : State), s.ctxSt c.val = 1 → s.ringEn c.val r.val = true →
    s.ringHead c.val r.val ≠ s.ringTail c.val r.val → s.cqFull c.val r.val = false →
    s.readVirt 0 c.val (s.ringVa c.val r.val + 64 * (s.ringHead c.val r.val % s.ringSize c.val r.val)) 64 = (g, some bs) →
    g.canonical = true → g.stalled = none → g.entryOk c.val r.val (lineOf bs) = false →
    Does (.ringEntryFetch c r) s (fun t => t.ringHead c.val r.val = (s.ringHead c.val r.val + 1) % 2 ^ 32 ∧
      (t.ctx c.val).entries = (g.ctx c.val).entries ++
        [⟨r.val, BitVec.ofNat 32 (s.ringHead c.val r.val), lineOf bs, .ready, 6, 0x0705, 0, 0⟩])) ∧
  (∀ (c : Ctx) (r : Ring) (s g : State), s.ctxSt c.val = 1 → s.ringEn c.val r.val = true →
    s.ringHead c.val r.val ≠ s.ringTail c.val r.val → s.cqFull c.val r.val = false →
    s.readVirt 0 c.val (s.ringVa c.val r.val + 64 * (s.ringHead c.val r.val % s.ringSize c.val r.val)) 64 = (g, none) →
    exec (.ringEntryFetch c r) s = .next (s.orWait
      (g.ringFault c.val r.val (s.ringVa c.val r.val + 64 * (s.ringHead c.val r.val % s.ringSize c.val r.val))))) ∧
  (∀ (c : Ctx) (r : Ring) (s : State), s.nextEntry c.val r.val = none → s.stalled = none → exec (.ringNop c r) s = .next s ∧
    exec (.ringTask c r) s = .next s ∧ exec (.ringSignal c r) s = .next s ∧ exec (.ringWaitSig c r) s = .next s ∧
    exec (.ringWaitFence c r) s = .next s ∧ exec (.ringWriteFence c r) s = .next s ∧ exec (.ringCopy c r) s = .next s) ∧
  (∀ (c : Ctx) (r : Ring) (e : REntry) (s : State), s.nextEntry c.val r.val = some e →
    (eOp e.words = 0 → exec (.ringNop c r) s = .next (s.entryDone c.val e)) ∧
    (eOp e.words = 1 → exec (.ringTask c r) s = .next (s.entryTask c.val e)) ∧
    (eOp e.words = 2 → exec (.ringSignal c r) s =
      .next ((s.signal (eObject e.words) (eField e.words 0xC 2)).entryDone c.val e)) ∧
    (eOp e.words = 4 → exec (.ringWaitFence c r) s = .next (s.orWait (s.pollFence c.val e))) ∧
    (eOp e.words = 5 → exec (.ringWriteFence c r) s = .next (s.orWait
      ((s.fenceWrite 0 c.val (eField e.words 8 8) (eField e.words 0x10 8)).entryDone c.val e))) ∧
    (eOp e.words = 6 → exec (.ringCopy c r) s = .next (s.entryTask c.val e))) ∧
  (∀ (c : Ctx) (r : Ring) (e : REntry) (s : State), s.nextEntry c.val r.val = some e → eOp e.words = 3 →
    (s.sigEn (eObject e.words) = true ∧ s.sigWaiters (eObject e.words) = [] ∧ s.spareForRings (eObject e.words) ≠ 0 →
      exec (.ringWaitSig c r) s = .next (((s.sigTake (eObject e.words)).1).entryDone c.val e)) ∧
    (s.sigEn (eObject e.words) = false ∨ s.sigWaiters (eObject e.words) ≠ [] ∨ s.spareForRings (eObject e.words) = 0 → exec (.ringWaitSig c r) s =
      .next (s.updEntry c.val e.ring e.index (fun x => { x with phase := .waiting })))) ∧
  (∀ (o : SigIx) (c : Nat) (e : REntry) (rest : List (Nat × REntry)) (s : State), s.sigWaiters o.val = (c, e) :: rest →
    s.sigEn o.val = true → s.spareForRings o.val ≠ 0 →
    exec (.ringWaitGrant o) s = .next (((s.sigTake o.val).1).updEntry c e.ring e.index (fun x => x.done 4 0))) ∧
  (∀ (o : SigIx) (s : State), s.sigWaiters o.val = [] → exec (.ringWaitGrant o) s = .next s) ∧
  (∀ (c : Ctx) (r : Ring) (e : REntry) (bs : List Byte) (s g : State), (s.ctx c.val).entries = [e] → e.ring = r.val →
    e.phase = .waiting → eOp e.words = 4 → s.readVirt 0 c.val (eField e.words 8 8) 8 = (g, some bs) →
    (eField e.words 0x10 8 ≤ leNat bs →
      exec (.fencePoll c r) s = .next (s.orWait (g.updEntry c.val r.val e.index (fun x => x.done 4 0)))) ∧
    (leNat bs < eField e.words 0x10 8 →
      exec (.fencePoll c r) s = .next (s.orWait (g.updEntry c.val r.val e.index (fun x => { x with phase := .waiting }))))) ∧
  (∀ (c : Ctx) (r : Ring) (s : State), (s.ctx c.val).entries = [] → exec (.fencePoll c r) s = .next s) ∧
  (∀ (c : Ctx) (r : Ring) (e : REntry) (s : State), s.canonical = true → (s.ctx c.val).entries = [e] → e.ring = r.val →
    e.phase = .ready → eNotify e.words = false →
    Does (.entryComplete c r e.index) s (fun t => t = { s with regs := t.regs, born := t.born, ctxs := t.ctxs } ∧
      (t.ctx c.val).entries = [] ∧ t.reg (aCtxEntriesDone c.val) = satAdd (s.reg (aCtxEntriesDone c.val)) 1 ∧
      RegsBut s t [aCtxEntriesDone c.val])) ∧
  (∀ (c : Ctx) (r : Ring) (e : REntry) (q : Nat) (o : Offer) (s : State), s.canonical = true → (s.ctx c.val).entries = [e] → e.ring = r.val →
    e.phase = .ready → eNotify e.words = true → s.ringCq c.val r.val = some q → s.ownsPq c.val q = true →
    o = ⟨s.completionItem c.val e, 0, true, true, s.free.setWidth 8, ringWriterSrc⟩ →
    ((offerStep (s.offerCfg q false) (s.pq q) o).res = .held → exec (.entryComplete c r e.index) s = .next s) ∧
    ((offerStep (s.offerCfg q false) (s.pq q) o).res ≠ .held →
      Does (.entryComplete c r e.index) s (fun t => (t.ctx c.val).entries = []))) ∧
  (∀ (c : Ctx) (r : Ring) (s : State), s.canonical = true → s.ringEn c.val r.val = true → (s.ctx c.val).entries = [] →
    s.ctxTasks c.val = [] →
    Does (.ringDisable c r) s (fun t => t = { s with regs := t.regs } ∧ t.ringEn c.val r.val = false ∧
      RegsBut s t [aCtxRing c.val r.val + 8])) ∧
  (∀ (c : Ctx) (r : Ring) (s : State), s.ringEn c.val r.val = false → exec (.ringDisable c r) s = .next s)

/-! ## Sliced groups (13) -/

/-- Promenade flits (13 R578–R581, R585, R618): a port that does not take part hears none; a bad CRC is counted and answered
with a NAK; a NAK resends from the SEQ it names; a flit out of order only brings its ACK; a message in order goes on while
it has hops left; a token in order waits in the receive buffer, marked late past STAMP + PRM_LAT, is dropped in independent
mode, and faults with a bad CRC or no room; a late token faults; a due token without a route faults, and one for the terrace
goes to its gate, one for another port out of that; a link goes down after 256 ck without a good flit, or when a ring port
of a running group is recalibrated. SEQ of a NAK and what a bad flit brings are the model's reading
(notes/assumptions/68.md). -/
def Obligations.PromenadePorts : Prop :=
  (∀ (p : Port) (f : Flit) (s : State), s.prmOn p.val = false → exec (.flitReceive p f) s = .next s ∧
    exec (.promenadeTokenRelease p) s = .next s) ∧
  (∀ (p : Port) (f : Flit) (s : State), s.canonical = true → s.prmOn p.val = true → flitGood f = false →
    Does (.flitReceive p f) s (fun t => t = { s with regs := t.regs, born := t.born, outbox := t.outbox } ∧
      t.reg (aPort p.val + 0x14) = satAdd (s.reg (aPort p.val + 0x14)) 1 ∧ RegsBut s t [aPort p.val + 0x14] ∧
      ∃ g : Flit, t.outbox = s.outbox ++ [.prmFlit p.val g] ∧ g.ftype = 3 ∧ flitGood g = true ∧
        g.body.toNat % 4096 = (s.link p.val).rxNext.toNat)) ∧
  (∀ (p : Port) (f : Flit) (s : State), s.canonical = true → s.prmOn p.val = true → flitGood f = true →
    (f.ftype = 1 ∨ f.ftype = 2) → f.seq ≠ (s.link p.val).rxNext →
    Does (.flitReceive p f) s (fun t => t = { s with regs := t.regs, grp := t.grp } ∧
      (t.link p.val).rxBuf = (s.link p.val).rxBuf ∧ (t.link p.val).rxNext = (s.link p.val).rxNext ∧
      (t.link p.val).lastGood = s.now ∧ (t.link p.val).up = true ∧ RegsBut s t [aPort p.val + 4])) ∧
  (∀ (p : Port) (f : Flit) (s : State), s.canonical = true → s.prmOn p.val = true → flitGood f = true → f.ftype = 3 →
    (∀ g ∈ (s.link p.val).replay, g.seq ≠ f.body.extractLsb' 0 12) →
    Does (.flitReceive p f) s (fun t => t = { s with regs := t.regs, grp := t.grp } ∧ (t.link p.val).up = true ∧
      t.reg (aPort p.val + 4) = 0x8000000F ∧ (t.link p.val).rxNext = (s.link p.val).rxNext ∧ RegsBut s t [aPort p.val + 4])) ∧
  (∀ (p : Port) (f g : Flit) (s : State), s.canonical = true → s.prmOn p.val = true → flitGood f = true → f.ftype = 3 →
    (s.link p.val).replay = [g] → g.seq = f.body.extractLsb' 0 12 → 2048 ≤ (f.ack - g.seq).toNat →
    Does (.flitReceive p f) s (fun t => t = { s with regs := t.regs, born := t.born, grp := t.grp, outbox := t.outbox } ∧
      t.outbox = s.outbox ++ [.prmFlit p.val g] ∧ (t.link p.val).replay = [g] ∧
      t.reg (aPort p.val + 0x10) = satAdd (s.reg (aPort p.val + 0x10)) 1)) ∧
  (∀ (p : Port) (f : Flit) (s : State), s.canonical = true → s.prmOn p.val = true → flitGood f = true → f.ftype = 2 →
    f.seq = (s.link p.val).rxNext → f.body.extractLsb' 16 8 = 0 →
    Does (.flitReceive p f) s (fun t => t = { s with regs := t.regs, grp := t.grp } ∧
      (t.link p.val).rxNext = (s.link p.val).rxNext + 1 ∧ (t.link p.val).rxBuf = (s.link p.val).rxBuf)) ∧
  (∀ (p : Port) (f : Flit) (s : State), s.canonical = true → s.prmOn p.val = true → flitGood f = true → f.ftype = 2 → s.grpMode = true →
    f.seq = (s.link p.val).rxNext → f.body.extractLsb' 16 8 ≠ 0 →
    Does (.flitReceive p f) s (fun t => ∃ g : Flit, t.outbox = s.outbox ++ [.prmFlit (p.val ^^^ 1) g] ∧ g.ftype = 2 ∧
      flitGood g = true ∧ g.body.extractLsb' 16 8 = f.body.extractLsb' 16 8 - 1 ∧
      g.body.extractLsb' 24 536 = f.body.extractLsb' 24 536)) ∧
  (∀ (p : Port) (f : Flit) (s : State), s.canonical = true → s.prmOn p.val = true → flitGood f = true → f.ftype = 1 →
    s.grpMode = false → f.seq = (s.link p.val).rxNext →
    Does (.flitReceive p f) s (fun t => t = { s with regs := t.regs, grp := t.grp } ∧
      (t.link p.val).rxNext = (s.link p.val).rxNext + 1 ∧ (t.link p.val).rxBuf = (s.link p.val).rxBuf)) ∧
  (∀ (p : Port) (f : Flit) (s : State), s.canonical = true → s.prmOn p.val = true → s.grpMode = true → flitGood f = true → f.ftype = 1 →
    f.seq = (s.link p.val).rxNext → s.contain.active = false → s.sup.t0 = none →
    (tokenGood (bodyToken f.body) = false → Does (.flitReceive p f) s (fun t => t.contain.active = true ∧ t.contain.code = 0x0206)) ∧
    (tokenGood (bodyToken f.body) = true → 8192 ≤ (s.link p.val).rxBuf.length →
      Does (.flitReceive p f) s (fun t => t.contain.active = true ∧ t.contain.code = 0x0203))) ∧
  (∀ (p : Port) (f : Flit) (s : State), s.canonical = true → s.prmOn p.val = true → s.grpMode = true → flitGood f = true → f.ftype = 1 →
    f.seq = (s.link p.val).rxNext → tokenGood (bodyToken f.body) = true → (s.link p.val).rxBuf.length < 8192 →
    Does (.flitReceive p f) s (fun t => t = { s with regs := t.regs, grp := t.grp } ∧
      (t.link p.val).rxNext = (s.link p.val).rxNext + 1 ∧
      (t.link p.val).rxBuf = (s.link p.val).rxBuf ++
        [⟨f.stamp, f.seq, decide (s.prmLat < (BitVec.ofNat 20 s.grpCk - f.stamp).toNat), bodyToken f.body⟩])) ∧
  (∀ (p : Port) (x : RxTok) (rest : List RxTok) (s : State), s.prmOn p.val = true →
    s.pickToken [] (s.link p.val).rxBuf = some (x, rest) → x.late = false →
    (s.routeEntry x.tok.tag = none → s.contain.active = false → s.sup.t0 = none → Does (.promenadeTokenRelease p) s (fun t =>
      t.contain.active = true ∧ t.contain.code = 0x0201)) ∧
    (∀ e : DWord, s.routeEntry x.tok.tag = some e → bits e.toNat 12 1 = 1 → bits e.toNat 13 1 = 0 →
      exec (.promenadeTokenRelease p) s =
        .next ((s.setLink p.val { s.link p.val with rxBuf := rest }).deliverToken e.toNat x.tok)) ∧
    (∀ e : DWord, s.routeEntry x.tok.tag = some e → bits e.toNat 12 1 = 0 → bits e.toNat 13 1 = 1 →
      s.prmOn (bits e.toNat 14 2) = true → exec (.promenadeTokenRelease p) s =
        .next ((s.setLink p.val { s.link p.val with rxBuf := rest }).sendToken (bits e.toNat 14 2)
          (reroute x.tok (bits e.toNat 40 10)))) ∧
    (∀ e : DWord, s.routeEntry x.tok.tag = some e → bits e.toNat 12 1 = 1 → bits e.toNat 13 1 = 1 →
      s.prmOn (bits e.toNat 14 2) = true → exec (.promenadeTokenRelease p) s =
        .next (((s.setLink p.val { s.link p.val with rxBuf := rest }).deliverToken e.toNat x.tok).sendToken (bits e.toNat 14 2)
          (reroute x.tok (bits e.toNat 40 10))))) ∧
  (∀ (p : Port) (x : RxTok) (rest : List RxTok) (s : State), s.canonical = true → s.prmOn p.val = true → s.contain.active = false → s.sup.t0 = none →
    s.pickToken [] (s.link p.val).rxBuf = some (x, rest) → x.late = true →
    Does (.promenadeTokenRelease p) s (fun t => t.contain.active = true ∧ t.contain.code = 0x0503 ∧ (t.link p.val).rxBuf = rest)) ∧
  (∀ (p : Port) (s : State), s.prmOn p.val = true → (s.link p.val).rxBuf = [] → exec (.promenadeTokenRelease p) s = .next s) ∧
  (∀ (p : Port) (s : State), s.now < (s.link p.val).lastGood + 256 ∨ (s.link p.val).up = false →
    exec (.prmLinkDown p) s = .next s) ∧
  (∀ (p : Port) (s : State), s.canonical = true → (s.link p.val).up = true → (s.link p.val).lastGood + 256 ≤ s.now → s.grp.running = true →
    s.ringPorts.contains p.val = true → s.contain.active = false → s.sup.t0 = none →
    Does (.prmLinkDown p) s (fun t => t.contain.active = true ∧ t.contain.code = 0x0506 ∧ (t.link p.val).up = false)) ∧
  (∀ (p : Port) (s : State), s.canonical = true → (s.link p.val).up = true → (s.link p.val).lastGood + 256 ≤ s.now →
    s.grp.running = false → Does (.prmLinkDown p) s (fun t => (t.link p.val).up = false ∧ t.reg (aPort p.val + 4) = 0 ∧
      t.tiles = s.tiles ∧ t.contain = s.contain)) ∧
  (∀ (p : Port) (s : State), s.prmPresent p.val = false ∨ s.grp.running = false ∨ s.ringPorts.contains p.val = false →
    exec (.recal p) s = .next s) ∧
  (∀ (p : Port) (s : State), s.prmPresent p.val = true → s.grp.running = true → s.ringPorts.contains p.val = true →
    exec (.recal p) s = .next (s.linkDown p.val true))

/-- Forming (13 R607–R610, R617): FORM enters STATE 1 with no HELLO heard, except in independent mode, while the group runs or
forms already; FORMED gives GRP_CK and the band and line numbers and STATE 3; REFUSED STATE 6; START opens the stream at its
band, STATE 4; the forming time and the repetition of forming are the leader's. What FORM does again is the model's reading
(notes/assumptions/70.md, 71). -/
def Obligations.GroupForming : Prop :=
  (∀ s : State, s.canonical = true → s.hearsMsg = true → (s.grpPhase = 0 ∨ s.grpPhase = 3 ∨ 5 ≤ s.grpPhase) →
    Does .grpForm s (fun t => t = { s with regs := t.regs, grp := t.grp, fresh := s.fresh + 3, outbox := t.outbox } ∧ t.grpPhase = 1 ∧
      t.grp.formAt = some s.now ∧ t.grp.hello = [])) ∧
  (∀ s : State, (s.hearsMsg = false ∨ s.grpPhase = 1 ∨ s.grpPhase = 2 ∨ s.grpPhase = 4) → exec .grpForm s = .next s) ∧
  (∀ (m : Member) (f : HelloFields) (s : State), s.hearsMsg = true → s.grpPhase = 1 → s.grpLeader = false →
    Does (.msgHello m f) s (fun t => t = { s with regs := t.regs, grp := t.grp } ∧
      (m.val, f) ∈ t.grp.hello ∧ t.grp.running = s.grp.running)) ∧
  (∀ (m : Member) (f : HelloFields) (s : State), s.hearsMsg = false ∨ (s.grpPhase ≠ 1 ∧ s.grpPhase ≠ 5) →
    exec (.msgHello m f) s = .next s) ∧
  (∀ (m : Member) (f : HelloFields) (s : State), s.canonical = true → s.hearsMsg = true → s.grpPhase = 1 → s.grpLeader = true →
    (∃ k, k < s.grpSize ∧ k ≠ s.grpSlot ∧ k ≠ m.val ∧ ∀ e ∈ s.grp.hello, e.1 ≠ k) →
    Does (.msgHello m f) s (fun t => t = { s with regs := t.regs, grp := t.grp } ∧ (m.val, f) ∈ t.grp.hello ∧ t.grpPhase = 1)) ∧
  (∀ (f : HelloFields) (s : State), s.canonical = true → s.hearsMsg = true → s.grpPhase = 5 → s.grpLeader = false → s.contain.active = false →
    s.ownHello.slot % 256 ≠ 0 → Does (.msgHello 0 f) s (fun t => t = { s with regs := t.regs, grp := t.grp, fresh := s.fresh + 3, outbox := t.outbox } ∧
      t.grpPhase = 1 ∧ t.grp.hello = [(0, f)])) ∧
  (∀ (p : Port) (c : DWord) (s : State), s.hearsMsg = true → s.prmPresent p.val = true → s.grpLeader = false →
    (s.grpPhase = 1 ∨ s.grpPhase = 2) → exec (.msgCal p c) s = .next (s.sendMsg .cal [c.toNat, p.val])) ∧
  (∀ (p : Port) (c : DWord) (s : State), s.hearsMsg = false ∨ s.prmPresent p.val = false ∨ (s.grpLeader = true ∧ s.grpPhase ≠ 2) ∨
    (s.grpLeader = false ∧ s.grpPhase ≠ 1 ∧ s.grpPhase ≠ 2) → exec (.msgCal p c) s = .next s) ∧
  (∀ (p : Port) (c : DWord) (s : State), s.canonical = true → s.hearsMsg = true → s.prmPresent p.val = true → s.grpLeader = true →
    s.grpPhase = 2 → (s.link p.val).trips.length < 15 →
    Does (.msgCal p c) s (fun t => t = { s with grp := t.grp } ∧
      (t.link p.val).trips = (s.link p.val).trips ++ [s.grpCk - c.toNat])) ∧
  (∀ (lat : Nat) (ck : DWord) (b l : W48) (s : State), s.canonical = true → s.hearsMsg = true → s.grpLeader = false →
    (s.grpPhase = 1 ∨ s.grpPhase = 2) →
    Does (.msgFormed lat ck b l) s (fun t => t = { s with regs := t.regs, grp := t.grp, fresh := s.fresh + 1 } ∧
      t.grpPhase = 3 ∧ t.bandNum = b ∧ t.lineNum = l ∧ t.grpCk = ck.toNat ∧ t.grp.running = s.grp.running)) ∧
  (∀ (lat : Nat) (ck : DWord) (b l : W48) (ms : List (BitVec 16)) (s : State), s.hearsMsg = false ∨ s.grpLeader = true ∨
    (s.grpPhase ≠ 1 ∧ s.grpPhase ≠ 2) → exec (.msgFormed lat ck b l) s = .next s ∧ exec (.msgRefused ms) s = .next s) ∧
  (∀ (ms : List (BitVec 16)) (s : State), s.hearsMsg = true → s.grpLeader = false → (s.grpPhase = 1 ∨ s.grpPhase = 2) →
    exec (.msgRefused ms) s = .next (s.refused (ms.map (fun m => m.toNat)))) ∧
  (∀ (first : W48) (s : State), s.canonical = true → s.hearsMsg = true → s.grpLeader = false → s.grpPhase = 3 → s.runBit = true →
    Does (.msgStart first) s (fun t => t = { s with regs := t.regs, grp := t.grp } ∧ t.grpPhase = 4 ∧ t.grp.running = true ∧
      t.grp.startBand = some first)) ∧
  (∀ (first : W48) (s : State), s.canonical = true → s.hearsMsg = true → s.grpLeader = false → s.grpPhase = 3 → s.runBit = false →
    Does (.msgStart first) s (fun t => t.grpPhase = 4 ∧ t.grp.running = true ∧ t.grp.startBand = none ∧ t.bandNum = first ∧
      t.bell.phase = .running)) ∧
  (∀ (first : W48) (s : State), s.hearsMsg = false ∨ s.grpLeader = true ∨ s.grpPhase ≠ 3 → exec (.msgStart first) s = .next s) ∧
  (∀ (t0 : Nat) (s : State), s.grp.formAt = some t0 → s.grpLeader = true → (s.grpPhase = 1 ∨ s.grpPhase = 2) →
    (s.now < t0 + msCk 100 → exec .formingTimeout s = .next s) ∧
    (t0 + msCk 100 ≤ s.now → exec .formingTimeout s = .next (s.endForming true))) ∧
  (∀ s : State, s.hearsMsg = true → s.grpLeader = true → s.grpPhase = 5 → bit (s.reg aGrpCtrl) 8 = true →
    s.contain.active = false → s.inFlight = [] → exec .autoReform s = .next s.startForming) ∧
  (∀ s : State, s.grpLeader = false ∨ (s.grpPhase ≠ 1 ∧ s.grpPhase ≠ 2) → exec .formingTimeout s = .next s) ∧
  (∀ s : State, s.hearsMsg = false ∨ s.grpLeader = false ∨ s.grpPhase ≠ 5 ∨ bit (s.reg aGrpCtrl) 8 = false ∨ s.contain.active = true ∨
    s.inFlight ≠ [] → exec .autoReform s = .next s)

/-- Ticks, bells and stream ends of a follower (13 R594–R600, R604, R605, R611–R613): a pulse names the slot at or below its ck;
a TICK message waits for its pulse; the tick is applied 64 ck after its slot, with the message's line and position, or with
its own where the message has not come, which then corrects it; one past the stream's last band is dropped; what stays alone
for 2 · PRM_BCAST_LAT is a mismatch; a BELL message that agrees confirms the own bell, another is a mismatch and a
containment; a PTP message sets the offset; SWAP arms the band; the leader sends PTP once a second. What becomes of a
message that comes late is the model's reading (notes/assumptions/72.md, 73). -/
def Obligations.GroupTicksAndBells : Prop :=
  (∀ s : State, s.isFollower = true → s.srcSel = 1 → Does .bellInEdge s (fun t => t = { s with grp := t.grp } ∧
    t.grp.pulses = s.grp.pulses ++ [⟨s.grpCk / 64 * 64, s.now, none⟩] ∧ t.grp.ticks = s.grp.ticks)) ∧
  (∀ (slot : DWord) (l p h m : W48) (b : BellMsg) (ab : Bool) (d : BitVec 256) (s : State), s.isFollower = false →
    exec (.msgTick slot l p h) s = .next s ∧ exec .bellInEdge s = .next s ∧ exec (.msgBell b) s = .next s ∧
    exec (.msgStreamEnd m ab) s = .next s ∧ exec (.msgSwap m d) s = .next s ∧ exec (.msgPtp slot slot) s = .next s) ∧
  (∀ (slot : DWord) (l p h : W48) (s : State), s.isFollower = true → s.gth.strobes = [] → s.grp.pulses = [] →
    Does (.msgTick slot l p h) s (fun t => t.grp.hwm = h ∧ t.grp.ticks = s.grp.ticks ++ [⟨slot, l, p, h, s.now⟩] ∧
      t.regs = s.regs)) ∧
  (∀ (q : Pulse) (m : TickMsg) (u s : State), s.grp.pulses = [q] → q.applied = none → s.grp.running = true → q.slot + 64 ≤ s.grpCk →
    u = { s with grp := { s.grp with pulses := [], ticks := [] } } →
    (s.tickFits = true → s.grp.ticks = [m] → m.slot.toNat = q.slot → exec .groupTickApply s = .next (u.applyTick m.line m.pos)) ∧
    (s.tickFits = false → s.grp.ticks = [m] → m.slot.toNat = q.slot → exec .groupTickApply s = .next u) ∧
    (s.tickFits = true → s.grp.ticks = [] → exec .groupTickApply s = .next
      (({ s with grp := { s.grp with pulses := [{ q with applied := some s.lineNum }] } } : State).applyTick s.lineNum 0))) ∧
  (∀ (q : Pulse) (s : State), s.grp.pulses = [q] → (s.grpCk < q.slot + 64 ∨ q.applied ≠ none ∨ s.grp.running = false) →
    exec .groupTickApply s = .next s) ∧
  (∀ s : State, s.isFollower = true → s.srcSel ≠ 1 → exec .bellInEdge s = .next s) ∧
  (∀ (slot : DWord) (l p h old : W48) (q : Pulse) (s : State), s.isFollower = true → s.gth.strobes = [] → s.grp.pulses = [q] →
    q.slot = slot.toNat → q.applied = some old →
    Does (.msgTick slot l p h) s (fun t => t.grp.hwm = h ∧ t.grp.pulses = [] ∧ t.grp.ticks = s.grp.ticks ∧ t.regs = s.regs ∧
      ∀ x ∈ s.gth.stamps, x.line = old → { x with line := l, pos := p } ∈ t.gth.stamps)) ∧
  (∀ s : State, s.grp.pulses = [] → s.grp.ticks = [] → exec .tickMismatchTimeout s = .next s) ∧
  (∀ (q : Pulse) (s : State), s.grp.running = true → s.grp.pulses = [q] → s.grp.ticks = [] → q.at_ + 2 * s.bcastLat ≤ s.now →
    ∃ u : State, u = { s with grp := { s.grp with pulses := [] } } ∧ exec .tickMismatchTimeout s = .next (u.bellMismatch 0)) ∧
  (∀ (m : TickMsg) (s : State), s.grp.running = true → s.grp.pulses = [] → s.grp.ticks = [m] → m.at_ + 2 * s.bcastLat ≤ s.now →
    exec .tickMismatchTimeout s = .next (({ s with grp := { s.grp with ticks := [] } } : State).bellMismatch 0)) ∧
  (∀ (own m : BellMsg) (rest : List BellMsg) (s : State), s.isFollower = true → m.decision ≠ .reversed → s.grp.ownBells = own :: rest →
    (bellDiff own m = 0 → Does (.msgBell m) s (fun t => t = { s with grp := { s.grp with ownBells := rest } })) ∧
    (bellDiff own m ≠ 0 → exec (.msgBell m) s =
      .next (({ s with grp := { s.grp with ownBells := rest } } : State).bellMismatch (bellDiff own m)))) ∧
  (∀ (m : BellMsg) (s : State), s.isFollower = true → m.decision ≠ .reversed → s.grp.ownBells = [] →
    exec (.msgBell m) s = .next (s.bellMismatch 0x3B)) ∧
  (∀ (m : BellMsg) (s : State), s.isFollower = true → m.decision = .reversed → s.assembling = none →
    exec (.msgBell m) s = .next ((s.verdictWhere (fun r => r.num == m.band) ⟨7, 0, m.shortfall⟩).finalise)) ∧
  (∀ (m : BellMsg) (r : BandRec) (s : State), s.isFollower = true → m.decision = .reversed → s.assembling = some r → r.num = m.band →
    exec (.msgBell m) s = .next (s.dropAssembly ⟨7, 0, m.shortfall⟩)) ∧
  (∀ (mask : Nat) (s : State), s.grp.running = true → s.contain.active = false → s.sup.t0 = none →
    (s.bellMismatch mask).contain.active = true ∧ (s.bellMismatch mask).contain.code = 0x0502) ∧
  (∀ (b : W48) (s : State), s.isFollower = true → s.bell.phase = .running →
    (s.bell.bands.filter (fun r => w48lt b r.num && r.verdict.isNone && r.phase != .inFlight)) = [] →
    exec (.msgStreamEnd b false) s = .next (s.endStreamAt (if s.bandNum = b ∧ s.assembling = none then b - 1 else b))) ∧
  (∀ (b : W48) (r : BandRec) (s : State), s.isFollower = true → (s.bell.phase = .running ∨ s.bell.phase = .ending) →
    (s.bell.bands.filter (fun r => w48lt b r.num && r.verdict.isNone && r.phase != .inFlight)) = [] →
    s.bell.bands.find? (fun r => r.num == b && r.verdict.isNone) = some r →
    (r.phase = .assembling → exec (.msgStreamEnd b true) s = .next ((s.dropAssembly ⟨2, 0, 0⟩).endStreamAt (b - 1))) ∧
    (r.phase = .waiting → exec (.msgStreamEnd b true) s = .next ((s.dropWaiting r ⟨2, 0, 0⟩).endStreamAt (b - 1)))) ∧
  (∀ (m : Member) (d : BitVec 256) (s : State), s.hearsMsg = true → s.grp.running = true → s.load.swapWanted = none →
    Does (.msgArmed m d) s (fun t => t = { s with grp := t.grp } ∧ (m.val, d) ∈ t.grp.armed)) ∧
  (∀ (b : W48) (d : BitVec 256) (s : State), s.loadState ≠ 3 ∨ s.loadMode = false ∨ s.groupDigest ≠ d →
    exec (.msgSwap b d) s = .next s) ∧
  (∀ (m : Member) (d : BitVec 256) (s : State), s.hearsMsg = false ∨ s.grp.running = false → exec (.msgArmed m d) s = .next s) ∧
  (∀ (ck time : DWord) (s : State), s.canonical = true → s.isFollower = true → s.ptp.episode = false →
    1000 < (((s.ptpAt (s.now - (s.grpCk - ck.toNat))).toNat : Int) - (time.toNat : Int)).natAbs →
    Does (.msgPtp ck time) s (fun t => t.ptp.episode = true ∧ t.errSeq = (s.errSeq + 1) % 65536 ∧
      t.regN aPtpOffset = wrap 32 (clampS 32 (((s.ptpAt (s.now - (s.grpCk - ck.toNat))).toNat : Int) - (time.toNat : Int))))) ∧
  (∀ (b : W48) (s : State), s.isFollower = true → s.loadState = 3 → s.loadMode = true →
    Does (.msgSwap b s.groupDigest) s (fun t => t = { s with load := { s.load with armed := some b, swapWanted := none } })) ∧
  (∀ (ck time : DWord) (s : State), s.canonical = true → s.isFollower = true → s.ptp.episode = true →
    Does (.msgPtp ck time) s (fun t => t = { s with regs := t.regs, ptp := t.ptp } ∧ RegsBut s t [aPtpOffset] ∧
      t.ptp.episode = decide (1000 < (((s.ptpAt (s.now - (s.grpCk - ck.toNat))).toNat : Int) - (time.toNat : Int)).natAbs) ∧
      t.regN aPtpOffset = wrap 32 (clampS 32 (((s.ptpAt (s.now - (s.grpCk - ck.toNat))).toNat : Int) - (time.toNat : Int))))) ∧
  (∀ (t0 : Nat) (s : State), s.grp.lastPtp = some t0 → s.now < t0 + msCk 1000 → exec .ptpBroadcastTimer s = .next s) ∧
  (∀ s : State, s.grp.running = true → s.grpLeader = true → s.grp.lastPtp = none →
    Does .ptpBroadcastTimer s (fun t => t = { s.sendMsg .ptp [s.grpCk, s.ptpNs.toNat] with grp := t.grp } ∧
      t.grp.lastPtp = some s.now)) ∧
  (∀ s : State, s.grp.running = false ∨ s.grpLeader = false → exec .ptpBroadcastTimer s = .next s)

/-- Holds and faults across the group (13 R601–R603, R606, R614, R615): an edge of GHOLD_N belongs to the slot boundary at or
below it and takes effect 64 ck after that; GHOLD_N stuck low with no requester is the leader's GHOLD_STUCK; FAULT of
another member contains this one with its code; MODE and LEAVE are refused while the group runs, and clear the group
otherwise. -/
def Obligations.GroupHoldsAndFaults : Prop :=
  (∀ s : State, s.grp.running = true → s.hearsMsg = true → s.grp.gholdLow = false → Does .gholdNFall s (fun t =>
    t = { s with grp := t.grp } ∧ t.grp.gholdLow = true ∧ t.grp.gholdEdges = s.grp.gholdEdges ++ [(s.grpCk / 64 * 64, true)] ∧
    t.grp.gholdSince = s.now)) ∧
  (∀ s : State, s.grp.running = true → s.hearsMsg = true → s.grp.gholdLow = true → Does .gholdNRise s (fun t =>
    t = { s with grp := t.grp } ∧ t.grp.gholdLow = false ∧ t.grp.gholdEdges = s.grp.gholdEdges ++ [(s.grpCk / 64 * 64, false)] ∧
    t.grp.gholdSince = s.grp.gholdSince)) ∧
  (∀ (b : Nat) (rest : List (Nat × Bool)) (s : State), s.grp.gholdEdges = (b, true) :: rest → b + 64 ≤ s.grpCk →
    Does .groupFreeze s (fun t => t.hold.frozen = true ∧ t.grp.gholdEdges = rest ∧ t.tiles = s.tiles)) ∧
  (∀ (b : Nat) (rest : List (Nat × Bool)) (s : State), s.grp.gholdEdges = (b, false) :: rest → b + 64 ≤ s.grpCk →
    Does .groupResume s (fun t => t.hold.frozen = false ∧ t.grp.gholdEdges = rest ∧ t.tiles = s.tiles)) ∧
  (∀ (b : Nat) (v : Bool) (rest : List (Nat × Bool)) (s : State), s.grp.gholdEdges = (b, v) :: rest → s.grpCk < b + 64 →
    exec .groupFreeze s = .next s ∧ exec .groupResume s = .next s) ∧
  (∀ s : State, s.grp.running = true → s.grpLeader = true → s.grp.gholdLow = true → s.holdWanted = false →
    s.contain.active = false → s.grp.gholdSince + s.regN aBelHoldWdog + s.bcastLat ≤ s.now → s.sup.t0 = none →
    Does .gholdStuck s (fun t => t.contain.active = true ∧ t.contain.code = 0x0509)) ∧
  (∀ s : State, s.grp.gholdLow = false → exec .gholdStuck s = .next s) ∧
  (∀ (code : BitVec 16) (m : Member) (ck : DWord) (h : Bool) (s : State), s.grp.running = true → s.hearsMsg = true →
    s.contain.active = false → s.contain.groupCode = none → s.sup.t0 = none →
    Does (.msgFault code m ck h) s (fun t => t.contain.active = true ∧ t.contain.groupCode = some code)) ∧
  (∀ (code : BitVec 16) (m : Member) (ck : DWord) (h : Bool) (g : BitVec 16) (s : State), s.grp.running = true → s.hearsMsg = true →
    s.contain.active = true → s.contain.groupCode = some g →
    (s.contain.at_ = s.now → m.val < fld (s.reg aGrpFaultCode) 0 3 →
      Does (.msgFault code m ck h) s (fun t => t.contain = { s.contain with groupCode := some code } ∧ t.tiles = s.tiles)) ∧
    ((s.contain.at_ ≠ s.now ∨ fld (s.reg aGrpFaultCode) 0 3 ≤ m.val) → exec (.msgFault code m ck h) s = .next s)) ∧
  (∀ (code : BitVec 16) (m : Member) (ck : DWord) (h : Bool) (s : State), s.grp.running = false ∨ s.hearsMsg = false →
    exec (.msgFault code m ck h) s = .next s) ∧
  (∀ (k : Fin 16) (s : State), s.grp.running = false → exec (.controlMessageTimeout k) s = .next s) ∧
  (∀ (k : Fin 16) (s : State), k.val = 0 ∨ 12 < k.val ∨ s.hearsMsg = false ∨ (k = 7 ∧ s.grp.ownBells = []) →
    exec (.controlMessageTimeout k) s = .next s) ∧
  (∀ (k : Fin 16) (s : State), s.grp.running = true → s.hearsMsg = true → 1 ≤ k.val → k.val ≤ 12 → s.contain.active = false →
    (k = 7 → ∃ m rest, s.grp.ownBells = m :: rest ∧ m.grpCk.toNat + 2 * s.bcastLat ≤ s.grpCk) → s.sup.t0 = none →
    Does (.controlMessageTimeout k) s (fun t => t.contain.active = true ∧ t.contain.code = 0x0503)) ∧
  (∀ s : State, s.canonical = true → s.ident.prmPorts ≠ 0 → s.grp.running = false → s.runBit = false → Does .grpLeave s (fun t =>
    t = { s with regs := t.regs, grp := { s.grp with hello := [], formAt := none } } ∧ t.grpMode = false ∧
    t.reg aGrpState = 0 ∧ RegsBut s t [aGrpCtrl, aGrpState])) ∧
  (∀ s : State, s.canonical = true → s.ident.prmPorts ≠ 0 → (s.grp.running = true ∨ s.runBit = true) → Does .grpLeave s (fun t =>
    t = { s with regs := t.regs, born := t.born } ∧ t.reg aBelStatus = s.reg aBelStatus ||| 0x100 ∧ RegsBut s t [aBelStatus])) ∧
  (∀ (mode : Bool) (s : State), s.canonical = true → s.ident.prmPorts ≠ 0 → s.grp.running = false → mode ≠ s.grpMode →
    Does (.prmModeWrite mode) s (fun t => t.grpMode = mode ∧ RegsBut s t [aGrpCtrl, aGrpState] ∧
      t = { s with regs := t.regs, born := t.born, grp := t.grp } ∧
      (mode = false → t.reg aGrpState = 0 ∧ t.grp.hello = [] ∧ t.grp.formAt = none))) ∧
  (∀ (mode : Bool) (s : State), s.canonical = true → s.ident.prmPorts ≠ 0 → s.grp.running = true → mode ≠ s.grpMode →
    Does (.prmModeWrite mode) s (fun t => t = { s with regs := t.regs, born := t.born } ∧
      t.reg aBelStatus = s.reg aBelStatus ||| 0x100 ∧ RegsBut s t [aBelStatus])) ∧
  (∀ s : State, s.ident.prmPorts = 0 → exec .grpLeave s = .next s) ∧
  (∀ (mode : Bool) (s : State), mode = s.grpMode ∨ s.ident.prmPorts = 0 → exec (.prmModeWrite mode) s = .next s)

/-! ## Supply, power domains, containment, fuses (14) -/

/-- The supply sentinel's settings and samples (14 R624–R627, R630, R633, R639): a threshold that keeps the four in order is
stored, any other sets THRESH_IGNORED and stores nothing; a hub that the part has not has no sentinel; the drain time is at
most 1,000 µs; an acknowledged flush slot is marked. The codes of both inputs are what SUP_A and SUP_B read, and each input
counts the samples in a row that lie past each threshold: enough of them put the sentinel in warn, or in fail, which begins
the orderly stop. -/
def Obligations.SupplyInputs : Prop :=
  (∀ (h : Hub) (k : Threshold) (v : Word) (s : State), s.canonical = true → h.val < s.ident.hubs →
    ((s.setRegN (aSup h.val + Threshold.off k) (fld v 0 12)).levels h.val).ordered = true →
    Does (.supThresholdWrite h k v) s (fun t => t = { s with regs := t.regs } ∧
      t.regN (aSup h.val + Threshold.off k) = fld v 0 12 ∧ RegsBut s t [aSup h.val + Threshold.off k])) ∧
  (∀ (h : Hub) (k : Threshold) (v : Word) (s : State), s.canonical = true → h.val < s.ident.hubs →
    ((s.setRegN (aSup h.val + Threshold.off k) (fld v 0 12)).levels h.val).ordered = false →
    Does (.supThresholdWrite h k v) s (fun t => t = { s with regs := t.regs, born := t.born } ∧
      t.reg (aSup h.val) = s.reg (aSup h.val) ||| 0x10 ∧ RegsBut s t [aSup h.val])) ∧
  (∀ (v : Word) (s : State), s.canonical = true → Does (.supDrainUsWrite v) s (fun t => t = { s with regs := t.regs } ∧
    t.regN aSupDrainUs = min 1000 v.toNat ∧ RegsBut s t [aSupDrainUs])) ∧
  (∀ (h : Hub) (k : Threshold) (v : Word) (ua ub : Nat) (s : State), s.ident.hubs ≤ h.val →
    exec (.supThresholdWrite h k v) s = .next s ∧ exec (.vsenseSample h ua ub) s = .next s ∧
    exec (.supMismatch h) s = .next s ∧ exec (.pfailNAssert h) s = .next s) ∧
  (∀ (k : BitVec 2) (b : Bool) (s : State), Tab.at_ (0, false) s.sup.slots k.toNat = (0, b) → exec (.supFlushAck k) s = .next s) ∧
  (∀ (k : BitVec 2) (n : Nat) (b : Bool) (s : State), Tab.at_ (0, false) s.sup.slots k.toNat = (n, b) → n ≠ 0 →
    Does (.supFlushAck k) s (fun t => t = { s with sup := { s.sup with slots := Tab.set_ (0, false) s.sup.slots k.toNat (n, true) } })) ∧
  ((∀ (h : Hub) (ua ub : Nat) (y : SentState) (s : State), s.canonical = true → h.val < s.ident.hubs → s.stopping = false →
    y = (s.sent h.val).sampled_ (s.levels h.val) (vsenseCode ua) (vsenseCode ub) (s.supFilt h.val)
      (fld (s.reg (aSup h.val + 0x24)) 0 12) (fld (s.reg (aSup h.val + 0x2C)) 0 12) s.now →
    y.lowFails (s.supFilt h.val) = false → y.highFails (s.supFilt h.val) = false →
    (y.level = 1 → (s.sent h.val).level ≠ 0) →
    Does (.vsenseSample h ua ub) s (fun t => t = { s with regs := t.regs, sup := t.sup } ∧
      t.regN (aSup h.val + 4) = vsenseCode ua ∧ t.regN (aSup h.val + 8) = vsenseCode ub ∧ t.sent h.val = y ∧
      t.sup.t0 = s.sup.t0 ∧ t.sup.warnHeld = s.sup.warnHeld)) ∧
  (∀ (h : Hub) (ua ub : Nat) (y : SentState) (s : State), s.canonical = true → h.val < s.ident.hubs → s.sup.t0 = none →
    y = (s.sent h.val).sampled_ (s.levels h.val) (vsenseCode ua) (vsenseCode ub) (s.supFilt h.val)
      (fld (s.reg (aSup h.val + 0x24)) 0 12) (fld (s.reg (aSup h.val + 0x2C)) 0 12) s.now →
    y.lowFails (s.supFilt h.val) = false → y.highFails (s.supFilt h.val) = false →
    (s.sent h.val).level = 0 → y.level = 1 →
    Does (.vsenseSample h ua ub) s (fun t => t.sup.warnHeld = true ∧ t.sup.t0 = none ∧ t.sent h.val = y ∧
      (s.liveTasks = [] → t.reg (aSup h.val + 0x34) = satAdd (s.reg (aSup h.val + 0x34)) 1) ∧
      (s.sup.warnHeld = false → s.liveTasks = [] → fld (t.reg (aSup h.val)) 28 4 = 1 ∧ t.errSeq = (s.errSeq + 1) % 65536))) ∧
  (∀ (h : Hub) (ua ub : Nat) (y : SentState) (s : State), h.val < s.ident.hubs → s.sup.t0 = none →
    y = (s.sent h.val).sampled_ (s.levels h.val) (vsenseCode ua) (vsenseCode ub) (s.supFilt h.val)
      (fld (s.reg (aSup h.val + 0x24)) 0 12) (fld (s.reg (aSup h.val + 0x2C)) 0 12) s.now →
    (y.lowFails (s.supFilt h.val) || y.highFails (s.supFilt h.val)) = true →
    Does (.vsenseSample h ua ub) s (fun t => t.sup.t0 = some s.now ∧ t.sup.causeCode = 0x0602)) ∧
  (∀ (x : InCnt) (l : Levels) (c : Nat), (x.sampled l c).lowFail = (if c < l.failLo then x.lowFail + 1 else 0) ∧
    (x.sampled l c).highFail = (if l.failHi < c then x.highFail + 1 else 0) ∧
    (x.sampled l c).highWarn = (if l.warnHi < c then x.highWarn + 1 else 0) ∧
    (x.sampled l c).open_ = (if c < 205 then x.open_ + 1 else 0) ∧
    (x.sampled l c).lowWarn = (if 205 ≤ c ∧ c < l.warnLo then x.lowWarn + 1 else 0)))

/-- How a supply failure goes (14 R625, R628, R631, R632, R637): PFAIL_N starts the orderly stop with CAUSE bit 2, 8 more on hub
1; the drain cut comes SUP_DRAIN_US later and fixes the flush plan; the flush ends with every pin parked; a warning ends
once every sentinel has been calm for SUP_WARN_CLEAR_MS; a mismatch of 1 ms, or an open input, sets its bit; a second cause
of a stop only joins the first. -/
def Obligations.SupplyFailure : Prop :=
  (∀ (h : Hub) (s : State), h.val < s.ident.hubs → s.sup.t0 = none → Does (.pfailNAssert h) s (fun t =>
    t.sup.t0 = some s.now ∧ t.sup.causeCode = 0x0602 ∧
    t.sup.cause = s.sup.cause ||| (if h.val = 1 then 12 else 4) ∧ t.sup.timeT0 = s.ptpNs)) ∧
  (∀ (h : Hub) (t0 : Nat) (s : State), h.val < s.ident.hubs → s.sup.t0 = some t0 → Does (.pfailNAssert h) s (fun t =>
    t = { s with regs := t.regs, born := t.born, sup := t.sup } ∧ t.sup.t0 = some t0 ∧ t.sup.timeT0 = s.sup.timeT0 ∧
    t.sup.cause = s.sup.cause ||| (if h.val = 1 then 12 else 4))) ∧
  (∀ s : State, (s.sup.t0 = none ∨ s.sup.cut = true ∨ s.boot.step ≠ .ready ∨ ∀ t0, s.sup.t0 = some t0 → s.now < t0 + usCk s.drainUs) →
    exec .drainCut s = .next s) ∧
  (∀ s : State, s.sup.plan = none → exec .flushComplete s = .next s) ∧
  (∀ s : State, (s.sup.warnHeld = false ∨ s.sup.t0 ≠ none) → exec .supWarnClear s = .next s) ∧
  (∀ (h : Hub) (s : State), (s.sent h.val).sampled = false → (s.sent h.val).diffSince = none → exec (.supMismatch h) s = .next s) ∧
  (∀ (h : Hub) (s : State), s.canonical = true → h.val < s.ident.hubs → (s.sent h.val).sampled = true → s.regN (aSup h.val + 4) < 205 →
    bit (s.reg (aSup h.val)) 1 = false →
    Does (.supMismatch h) s (fun t => bit (t.reg (aSup h.val)) 1 = true ∧ t.errSeq = (s.errSeq + 1) % 65536)) ∧
  (∀ (t0 : Nat) (s : State), s.sup.t0 = some t0 → s.sup.cut = false → t0 + usCk s.drainUs ≤ s.now → s.boot.step = .ready →
    Does .drainCut s (fun t => t.sup.cut = true ∧ t.sup.plan.isSome = true ∧ t.sup.t0 = some t0)) ∧
  (∀ (p : FlushPlan) (s : State), s.sup.plan = some p → Does .flushComplete s (fun t => t.sup.plan = none ∧
    t.pins.stopped = true ∧ t.pins.func = [] ∧ t.mem.hbm = s.mem.hbm ∧ t.tiles = s.tiles)) ∧
  (∀ s : State, s.sup.warnHeld = true → s.sup.t0 = none →
    ((List.range s.ident.hubs).all (fun h => (s.sent h).okSince.any (fun t => decide (t + msCk (s.regN (aSup h + 0x30)) ≤ s.now)))) = true →
    Does .supWarnClear s (fun t => t.sup.warnHeld = false ∧ t.sup.t0 = none)) ∧
  (∀ (h : Hub) (t0 : Nat) (s : State), s.canonical = true → h.val < s.ident.hubs → (s.sent h.val).diffSince = some t0 →
    (s.sent h.val).sampled = false → t0 + msCk 1 ≤ s.now → bit (s.reg (aSup h.val)) 3 = false →
    Does (.supMismatch h) s (fun t => bit (t.reg (aSup h.val)) 3 = true ∧ t.errSeq = (s.errSeq + 1) % 65536))

/-- Power domains (14 R641–R645; 08 R378): a write of the controls asks for the change, and only of the domains whose bits it
changes; one bit that is cleared starts exactly that domain on its way off; the power goes once the unit is quiet, and comes
back after the fill of a bed. -/
def Obligations.PowerDomains : Prop :=
  (∀ (v : BitVec 12) (s : State), v.toNat = s.regN aSupPwrBed → s.ident.dies = 2 → exec (.supPwrBedWrite v) s = .next s) ∧
  (∀ (v : BitVec 16) (s : State), v.toNat = s.regN aSupPwrCam → exec (.supPwrCamWrite v) s = .next s) ∧
  (∀ (v : BitVec 4) (s : State), v.toNat = s.regN aSupPwrPrm → exec (.supPwrPrmWrite v) s = .next s) ∧
  (∀ (d : Domain) (s : State), s.power.turningOff.contains (domNum d) = false ∨ s.domQuiet (domNum d) = false →
    exec (.domainPowerRemoved d) s = .next s) ∧
  (∀ (d : Die) (b : Fin 6) (s : State), s.power.turningOn.contains (domNum (.bed d b)) = false →
    exec (.bedZeroFillComplete d b) s = .next s) ∧
  (∀ (d : Domain) (s : State), 12 ≤ domNum d → s.power.turningOn.contains (domNum d) = false →
    exec (.domainPowerOnComplete d) s = .next s) ∧
  (∀ (d : Die) (b : Fin 6) (s : State), s.power.turningOff.contains (domNum (.bed d b)) = true → s.domQuiet (domNum (.bed d b)) = true →
    Does (.domainPowerRemoved (.bed d b)) s (fun t =>
      t = { s with power := t.power, tiles := t.tiles, mem := t.mem, hold := t.hold } ∧
      t.tiles = s.tiles.filter (fun e => tileBed e.1 != domNum (.bed d b)) ∧
      t.power.off = domNum (.bed d b) :: s.power.off ∧ t.mem.hbm = s.mem.hbm)) ∧
  (∀ (c : Core) (s : State), s.power.turningOff.contains (12 + c.val) = true → s.domQuiet (12 + c.val) = true →
    Does (.domainPowerRemoved (.core c)) s (fun t => t = { s with power := t.power, lodge := t.lodge } ∧
      t.power.off = (12 + c.val) :: s.power.off ∧ t.lodge.tasks = s.lodge.tasks)) ∧
  (∀ (n : Cam) (s : State), s.power.turningOn.contains (20 + n.val) = true →
    Does (.domainPowerOnComplete (.cam n)) s (fun t => t = { s with power := t.power, hdg := t.hdg } ∧
      t.domOn (20 + n.val) = true ∧ t.power.turningOff = s.power.turningOff)) ∧
  (∀ (d : Die) (s : State), s.power.turningOn.contains (6 * d.val) = true →
    Does (.bedZeroFillComplete d 0) s (fun t => t = { s with power := t.power } ∧ t.domOn (6 * d.val) = true ∧
      t.power.turningOn.contains (6 * d.val) = false)) ∧
  (∀ (v : BitVec 16) (n : Cam) (s : State), s.canonical = true → n.val < s.ident.camPorts →
    v.toNat = s.regN aSupPwrCam - 2 ^ n.val → bit (s.reg aSupPwrCam) n.val = true → s.power.off = [] → s.power.turningOff = [] →
    s.regN aSupPwrCam < 2 ^ 16 →
    Does (.supPwrCamWrite v) s (fun t => t = { s with regs := t.regs, power := t.power, hdg := t.hdg } ∧
      t.regN aSupPwrCam = v.toNat ∧ t.power.turningOff = [20 + n.val] ∧ RegsBut s t [aSupPwrCam])) ∧
  (∀ (v : BitVec 4) (p : Port) (s : State), s.canonical = true → p.val < s.ident.prmPorts →
    v.toNat = s.regN aSupPwrPrm - 2 ^ p.val → bit (s.reg aSupPwrPrm) p.val = true → s.power.off = [] → s.power.turningOff = [] →
    s.regN aSupPwrPrm < 2 ^ 4 →
    Does (.supPwrPrmWrite v) s (fun t => t = { s with regs := t.regs, power := t.power, hdg := t.hdg } ∧
      t.regN aSupPwrPrm = v.toNat ∧ t.power.turningOff = [36 + p.val] ∧ RegsBut s t [aSupPwrPrm])) ∧
  (∀ (v : BitVec 12) (d : Die) (b : Fin 6) (s : State), s.canonical = true → s.ident.dies = 2 →
    v.toNat = s.regN aSupPwrBed - 2 ^ (6 * d.val + b.val) → bit (s.reg aSupPwrBed) (6 * d.val + b.val) = true →
    s.bedUsed (6 * d.val + b.val) = false → s.power.off = [] → s.power.turningOff = [] → s.regN aSupPwrBed < 2 ^ 12 →
    Does (.supPwrBedWrite v) s (fun t => t = { s with regs := t.regs, power := t.power, hdg := t.hdg } ∧
      t.regN aSupPwrBed = v.toNat ∧ t.power.turningOff = [6 * d.val + b.val] ∧ RegsBut s t [aSupPwrBed]))

/-- The end of a containment (14 R647, R648, R650): it is over, nothing is left to send, and RESUME clears HALTED so that the
next band needs no gate. -/
def Obligations.ContainmentEnds : Prop :=
  (∀ s : State, s.contain.active = true → s.sup.t0 = none → Does .containmentComplete s (fun t =>
    t.contain.active = false ∧ t.contain.first = none ∧ t.sideband = [])) ∧
  (∀ s : State, (s.contain.active = false ∨ s.sup.t0 ≠ none) → exec .containmentComplete s = .next s) ∧
  (∀ s : State, s.canonical = true → bit (s.reg aContainStatus) 31 = true → Does .hubContainResume s (fun t =>
    bit (t.reg aContainStatus) 31 = false ∧ t.bell.admittedAt = none ∧ t.tiles = s.tiles ∧ t.mem = s.mem)) ∧
  (∀ s : State, bit (s.reg aContainStatus) 31 = false → exec .hubContainResume s = .next s)

/-- Key fuses (14 R661, R662; 15 R673): the second write of one command within 1 ms starts it, or is refused without effect, and
another command or a later one begins anew; programming stores the key and its state, and outside the programming level
changes no fuse. Which second write counts is the model's reading (notes/assumptions/80.md). -/
def Obligations.Fuses : Prop :=
  (∀ (v : Word) (s : State), fld v 16 16 = 0x5AFE → (fuseOp v = 1 ∨ fuseOp v = 2) → s.fuse.op = none → s.fuse.cmdAt = none →
    Does (.hubFuseCmd v) s (fun t => t = { s with fuse := { s.fuse with cmdAt := some (s.now, v) } })) ∧
  (∀ (v u : Word) (t0 : Nat) (s : State), fld v 16 16 = 0x5AFE → (fuseOp v = 1 ∨ fuseOp v = 2) → s.fuse.op = none →
    s.fuse.cmdAt = some (t0, u) → (u ≠ v ∨ t0 + msCk 1 < s.now) →
    Does (.hubFuseCmd v) s (fun t => t = { s with fuse := { s.fuse with cmdAt := some (s.now, v) } })) ∧
  (∀ (v : Word) (s : State), (fld v 16 16 ≠ 0x5AFE ∨ (fuseOp v ≠ 1 ∧ fuseOp v ≠ 2) ∨ s.fuse.op ≠ none) →
    exec (.hubFuseCmd v) s = .next s) ∧
  (∀ (good : Bool) (s : State), s.fuse.op = none → exec (.fuseOperationComplete good) s = .next s) ∧
  (∀ (v : Word) (t0 : Nat) (s : State), s.canonical = true → fld v 16 16 = 0x5AFE → (fuseOp v = 1 ∨ fuseOp v = 2) →
    s.fuse.op = none → s.fuse.cmdAt = some (t0, v) → s.now ≤ t0 + msCk 1 →
    Does (.hubFuseCmd v) s (fun t => t = { s with fuse := t.fuse, regs := t.regs } ∧ t.fuse.cmdAt = none ∧
      t.fuse.keys = s.fuse.keys ∧ t.fuse.state = s.fuse.state ∧ RegsBut s t [aFuseStatus] ∧
      (s.fuseRefuses v = true → t.fuse.op = none ∧ t.reg aFuseStatus = 4) ∧
      (s.fuseRefuses v = false → t.fuse.op = some v ∧ t.reg aFuseStatus = 0))) ∧
  (∀ (v : Word) (good : Bool) (s : State), s.canonical = true → s.fuse.op = some v →
    Does (.fuseOperationComplete good) s (fun t => t = { s with fuse := t.fuse, regs := t.regs } ∧ t.fuse.op = none ∧
      RegsBut s t [aFuseStatus] ∧
      (good = false → t.fuse.keys = s.fuse.keys ∧ t.fuse.state = s.fuse.state ∧ t.reg aFuseStatus = 2) ∧
      (good = true → t.reg aFuseStatus = 1 ∧
        (fuseOp v = 1 → t.fuse.keys = Tab.set_ 0 s.fuse.keys (fuseSlot v) s.fuseData ∧
          t.fuse.state = Tab.set_ 0 s.fuse.state (fuseSlot v) 1) ∧
        (fuseOp v ≠ 1 → t.fuse.keys = s.fuse.keys ∧ t.fuse.state = Tab.set_ 0 s.fuse.state (fuseSlot v) 2))))

/-! ## Reset and boot (14 R653–R659) -/

/-- Every device reset (14 R653) leaves the block held in reset with nothing configured, and keeps what lies outside it: the SPI
NOR, the keys, host memory. PERST_N takes the link down and nothing else. What a reset keeps is the model's reading
(notes/assumptions/78.md). -/
def Obligations.Resets : Prop :=
  (∀ (b : Bool) (s : State), Does (.deviceReset b) s (fun t => t.boot.step = .held ∧ t.regs = [] ∧ t.tiles = [] ∧ t.pqs = [] ∧
    t.mem.hbm = [] ∧ t.load = LoadState.empty ∧ t.mem.spiNor = s.mem.spiNor ∧ t.fuse.keys = s.fuse.keys ∧
    t.fuse.state = s.fuse.state ∧ t.hostMem = s.hostMem ∧ t.ident = s.ident ∧ t.outbox = s.outbox ++ [.spiReset])) ∧
  (∀ s : State, exec .functionLevelReset s = exec (.deviceReset false) s ∧ exec .hubBootReset s = exec (.deviceReset false) s) ∧
  (∀ s : State, s.canonical = true → Does .perst s (fun t => t = { s with boot := { s.boot with linkUp := false }, regs := t.regs } ∧
    t.reg aHubPcieLink = 0 ∧ RegsBut s t [aHubPcieLink])) ∧
  (∀ s : State, Does .functionLevelReset s (fun t => t.boot.step = .held ∧ t.tiles = [])) ∧
  (∀ s : State, Does .hubBootReset s (fun t => t.boot.step = .held ∧ t.tiles = [])) ∧
  (∀ (w : BitVec 5) (v : BitVec 3) (s : State), s.canonical = true → s.boot.step ≠ .held → Does (.pcieLinkReturn w v) s (fun t =>
    t = { s with boot := { s.boot with linkUp := true }, regs := t.regs } ∧
    t.regN aHubPcieLink = w.toNat * 256 + v.toNat ∧ RegsBut s t [aHubPcieLink])) ∧
  (∀ (w : BitVec 5) (v : BitVec 3) (s : State), s.boot.step = .held → exec (.pcieLinkReturn w v) s = .next s)

/-- The boot sequence (14 R653–R658): each step waits for the one before it. Release samples BOOT_SRC and the fuses, 3 being no
source, and zeroes the memories; an SPI boot that fails falls back to PCIe with BOOT_SRC 2; a package without a good
signature fails; training and verification are noted; firmware starts once both are; then the capability table is published
and the device is ready, BOOT_STATUS.STATE 2. -/
def Obligations.BootSteps : Prop :=
  (∀ (src : BitVec 2) (s : State), s.canonical = true → s.boot.step = .held → s.boot.tapHold = false → src ≠ 3 →
    Does (.resetRelease src) s (fun t => t.boot = { s.boot with step := .started, src := src } ∧
      t.fuse = { s.fuse with latched := s.fuse.state } ∧ RegsBut s t [aBootStatus] ∧
      t.regN aBootStatus = 2 ^ 28 + (if src = 1 then 2 ^ 26 else 0) ∧ t.mem = { s.mem with hubPoison := [], writeBacks := [] } ∧
      t.gth.store = [] ∧ t.lodge = { s.lodge with l2 := [], scratch := [] } ∧ ∀ k, t.tile k = { s.tile k with mem := [], poison := [] })) ∧
  (∀ s : State, s.boot.step = .held → s.boot.tapHold = false → Does (.resetRelease 3) s (fun t => t.boot.step = .failed)) ∧
  (∀ (src : BitVec 2) (s : State), s.boot.tapHold = true ∨ s.boot.step ≠ .held → exec (.resetRelease src) s = .next s) ∧
  (∀ s : State, s.boot.step = .started → s.ident.hasHbm = true → Does (.hbmTrainingComplete 0) s (fun t =>
    t = { s with boot := { s.boot with trained := true } })) ∧
  (∀ (f : BitVec 8) (s : State), s.boot.step = .started → s.ident.hasHbm = true → f ≠ 0 →
    Does (.hbmTrainingComplete f) s (fun t => t.boot.step = .failed ∧ t.boot.trained = s.boot.trained)) ∧
  (∀ (f : BitVec 8) (len : BitVec 12) (b : Bool) (s : State), s.boot.step ≠ .started →
    exec (.hbmTrainingComplete f) s = .next s ∧ exec (.hubBootChunk len) s = .next s ∧ exec (.bpbReadComplete b) s = .next s ∧
    exec .firmwareVerifyComplete s = .next s ∧ exec .firmwareStart s = .next s) ∧
  (∀ (f : BitVec 8) (s : State), s.ident.hasHbm = false → exec (.hbmTrainingComplete f) s = .next s) ∧
  (∀ (len : BitVec 12) (s : State), s.boot.step = .started → s.boot.src = 1 → s.boot.chunkEnd = false → s.boot.bpb = [] →
    Does (.hubBootChunk len) s (fun t => t.boot.bpb.length = min 2048 len.toNat ∧ t.boot.package = s.boot.package ∧
      t.boot.chunkEnd = false)) ∧
  (∀ (len : BitVec 12) (s : State), s.boot.step = .started → s.boot.src = 1 → s.boot.chunkEnd = false → s.boot.bpb ≠ [] →
    Does (.hubBootChunk len) s (fun t => t = { s with boot := t.boot, regs := t.regs, born := t.born } ∧ t.boot.bpb = s.boot.bpb ∧
      t.boot.chunkEnd = decide (len = 0) ∧
      t.boot.package.length = s.boot.package.length + min 2048 len.toNat)) ∧
  (∀ s : State, s.boot.step = .started → s.boot.src ≠ 1 → s.boot.bpbRead = false →
    bpbGood (readBytes s.mem.spiNor 0 256) = true → Does (.bpbReadComplete false) s (fun t =>
      t.boot.bpbRead = true ∧ t.boot.bpb = readBytes s.mem.spiNor 0 256 ∧ t.tiles = s.tiles ∧ t.mem = s.mem)) ∧
  (∀ s : State, s.canonical = true → s.boot.step = .started → s.boot.bpbRead = false →
    (s.boot.src = 2 → Does (.bpbReadComplete true) s (fun t => t.boot.src = 1 ∧ t.boot.step = .started ∧
      bit (t.reg aBootStatus) 26 = true)) ∧
    (s.boot.src = 0 → Does (.bpbReadComplete true) s (fun t => t.boot.step = .failed ∧ fld (t.reg aBootStatus) 28 4 = 3 ∧
      fld (t.reg aBootStatus) 0 8 = 4))) ∧
  (∀ s : State, s.boot.step = .started → s.boot.bpbRead = true → s.boot.verified = false → s.boot.src = 1 → s.boot.chunkEnd = true →
    (s.packageGood s.boot.package = true → Does .firmwareVerifyComplete s (fun t =>
      t = { s with boot := { s.boot with verified := true, fw := Config.firmwareVersion s.boot.package } })) ∧
    (s.packageGood s.boot.package = false → Does .firmwareVerifyComplete s (fun t => t.boot.step = .failed ∧
      t.boot.verified = false))) ∧
  (∀ s : State, s.boot.step = .started → s.boot.verified = true → (s.ident.hasHbm = false ∨ s.boot.trained = true) →
    Does .firmwareStart s (fun t => t.boot.step = .running)) ∧
  (∀ s : State, (s.boot.verified = false ∨ (s.ident.hasHbm = true ∧ s.boot.trained = false)) → exec .firmwareStart s = .next s) ∧
  (∀ s : State, s.boot.step = .running → Does .capabilityPublish s (fun t => t = { s with boot := { s.boot with step := .published } })) ∧
  (∀ s : State, s.boot.step ≠ .running → exec .capabilityPublish s = .next s) ∧
  (∀ s : State, (s.boot.step ≠ .published ∨ s.sup.t0 ≠ none) → exec .bootReady s = .next s) ∧
  (∀ s : State, s.canonical = true → s.boot.step = .published → s.sup.t0 = none → Does .bootReady s (fun t => t.boot.step = .ready ∧
    fld (t.reg aBootStatus) 28 4 = 2 ∧ RegsBut s t [aBootStatus] ∧ t.tiles = s.tiles))

/-! ## Pins, test port, thermal (15) -/

/-- PIN_FUNC and the test port (15 R679, R681, R682, R687, R688): a write that changes FUNC or PARK, or comes during a switch,
detaches the old function and starts the switch afresh; 50 ck later (notes/assumptions/82.md) the new function takes the
pin; a function above 5 changes nothing. IDCODE shows the part's code, EXTEST and CLAMP put the device in reset and hold it
there, BYPASS and SAMPLE/PRELOAD touch nothing else, Test-Logic-Reset ends the hold. -/
def Obligations.PinsAndTestPort : Prop :=
  (∀ (k : Pin) (v : Word) (s : State), s.canonical = true → s.pinPresent k.val = true → s.pins.stopped = false →
    fld v 0 3 < 6 → (v &&& 0x37 ≠ s.reg (aPinFunc k.val) ∨ s.pinSwitching k.val = true) →
    Does (.pinFuncWrite k v) s (fun t =>
      t = { s with regs := t.regs, pins := { s.pins with switching := Tab.set_ none s.pins.switching k.val (some s.now),
                                                         func := Tab.set_ 0 s.pins.func k.val 0 } } ∧
      t.reg (aPinFunc k.val) = v &&& 0x37 ∧ RegsBut s t [aPinFunc k.val])) ∧
  (∀ (k : Pin) (v : Word) (s : State), 6 ≤ fld v 0 3 ∨ s.pins.stopped = true ∨ s.pinPresent k.val = false ∨
    (v &&& 0x37 = s.reg (aPinFunc k.val) ∧ s.pinSwitching k.val = false) →
    exec (.pinFuncWrite k v) s = .next s) ∧
  (∀ (k : Pin) (s : State), (∀ t0, Tab.at_ none s.pins.switching k.val = some t0 → s.now < t0 + 50) →
    exec (.pinSwitchEnd k) s = .next s) ∧
  (∀ (k : Pin) (s : State) (t0 : Nat), Tab.at_ none s.pins.switching k.val = some t0 → t0 + 50 ≤ s.now →
    Does (.pinSwitchEnd k) s (fun t =>
      t = { s with pins := { s.pins with switching := Tab.set_ none s.pins.switching k.val none,
                                         func := Tab.set_ 0 s.pins.func k.val (fld (s.reg (aPinFunc k.val)) 0 3) } })) ∧
  (∀ s : State, Does .idcode s (fun t =>
    t = { s with pins := t.pins } ∧
    (s.ident.part = 0x4100 → t.pins.tapData = 0x341005B3) ∧ (s.ident.part = 0x4120 → t.pins.tapData = 0x341205B3) ∧
    (s.ident.part = 0x4060 → t.pins.tapData = 0x340605B3))) ∧
  (∀ s : State, Does .bypass s (fun t => t = { s with pins := t.pins } ∧ t.pins.tapData = 0)) ∧
  (∀ (v : BitVec 64) (s : State), Does (.samplePreload (some v)) s (fun t => t = { s with pins := t.pins } ∧ t.pins.preload = v)) ∧
  (∀ s : State, Does (.samplePreload none) s (fun t => t = { s with pins := t.pins, fresh := s.fresh + 1 } ∧
    t.pins.preload = s.pins.preload ∧ t.pins.tapData = s.free.setWidth 32)) ∧
  (∀ s : State, Does .extest s (fun t => t.boot.step = .held ∧ t.boot.tapHold = true ∧ t.tiles = [] ∧ t.load.active = none ∧
    t.hostMem = s.hostMem ∧ t.mem.spiNor = s.mem.spiNor)) ∧
  (∀ s : State, Does .clamp s (fun t => t.boot.step = .held ∧ t.boot.tapHold = true ∧ t.tiles = [] ∧ t.load.active = none ∧
    t.hostMem = s.hostMem ∧ t.mem.spiNor = s.mem.spiNor)) ∧
  (∀ s : State, Does .testLogicReset s (fun t => t = { s with pins := t.pins, boot := t.boot } ∧ t.boot.tapHold = false))

/-- PPS, PTP servo, encoder inputs, temperatures (15 R679, R690, R691; 13 R612, R613). An offset of 1 µs or less from the master
changes the PTP state alone; the second's edge goes out where a pin has function 4; loss of signal shows in PIN_ENC_CFG. A
sample of a present die is what SUP_TEMP reads, an absent die's is dropped, and a die at 115 °C or above for 1 ms stops the
device with THERMAL_TRIP and CAUSE bit 4. -/
def Obligations.TimeAndTemperature : Prop :=
  (∀ s : State, (s.pins.ppsAt.any (fun t => decide (s.ptp.fifths / 5000000000 ≤ t))) = false →
    Does .ppsOut s (fun t => t = { s with pins := t.pins, outbox := t.outbox } ∧
      t.pins.ppsAt = some (s.ptp.fifths / 5000000000) ∧
      t.outbox = s.outbox ++ (if (List.range 24).any (fun k => Tab.at_ 0 s.pins.func k == 4) then [.ppsOut] else []))) ∧
  (∀ (locked : Bool) (ns : Int) (s : State), ns.natAbs ≤ 1000 → Does (.ptpServoUpdate locked ns) s (fun t =>
    t = { s with ptp := t.ptp } ∧ t.ptp.locked = locked ∧ t.ptp.offset = ns ∧ t.ptp.fifths = s.ptp.fifths)) ∧
  (∀ s : State, (∃ t0, s.pins.ppsAt = some t0 ∧ s.ptp.fifths / 5000000000 ≤ t0) → exec .ppsOut s = .next s) ∧
  (∀ (locked : Bool) (ns : Int) (s : State), 1000 < ns.natAbs → Does (.ptpServoUpdate locked ns) s (fun t =>
    t.ptp.locked = locked ∧ t.ptp.offset = ns ∧ t.ptp.episode = true ∧
    (s.ptp.episode = false → t.errSeq = (s.errSeq + 1) % 65536) ∧ (s.ptp.episode = true → t = { s with ptp := t.ptp }))) ∧
  (∀ (n : Enc) (b : Bool) (s : State), s.ident.encoders ≤ n.val → exec (.encoderLos n b) s = .next s) ∧
  (∀ (n : Enc) (s : State), s.canonical = true → n.val < s.ident.encoders →
    Does (.encoderLos n true) s (fun t => t = { s with regs := t.regs, born := t.born } ∧ bit (t.reg (aPinEncCfg n.val)) 8 = true ∧
      RegsBut s t [aPinEncCfg n.val]) ∧
    Does (.encoderLos n false) s (fun t => t = { s with regs := t.regs } ∧ bit (t.reg (aPinEncCfg n.val)) 8 = false ∧
      RegsBut s t [aPinEncCfg n.val])) ∧
  (∀ (i : Fin 4) (v : BitVec 16) (s : State), s.canonical = true → diePresent s.ident i.val = true → s.pins.alert = true →
    Does (.temperatureSample i v) s (fun t => t = { s with regs := t.regs, pins := t.pins } ∧
      t.reg (aSupTemp i.val) = v.setWidth 32 ∧ RegsBut s t [aSupTemp i.val])) ∧
  (∀ (i : Fin 4) (v : BitVec 16) (s : State), s.canonical = true → diePresent s.ident i.val = true → s.pins.alert = false →
    s.thermWarn ≤ v.toInt → Does (.temperatureSample i v) s (fun t => t.pins.alert = true ∧ t.reg (aSupTemp i.val) = v.setWidth 32 ∧
      t.errSeq = (s.errSeq + 1) % 65536)) ∧
  (∀ s : State, (∀ i t0, i < 4 → Tab.at_ none s.pins.hotSince i = some t0 → s.now < t0 + 1250000) → exec .thermalTrip s = .next s) ∧
  (∀ (i : Fin 4) (v : BitVec 16) (s : State), diePresent s.ident i.val = false → exec (.temperatureSample i v) s = .next s) ∧
  (∀ (i : Fin 4) (s : State) (t0 : Nat), Tab.at_ none s.pins.hotSince i.val = some t0 → t0 + 1250000 ≤ s.now →
    s.sup.t0 = none →
    Does .thermalTrip s (fun t => t.sup.t0 = some s.now ∧ t.sup.causeCode = 0x0604 ∧ t.sup.cause = s.sup.cause ||| 16))

/-! ## The block as a whole -/

/-- The front of the queue runs: a step is the command's effect on the state with the queue's rest. -/
def Obligations.StepRunsFront : Prop :=  ∀ (c : Instr) (rest : List Instr) (s : State), s.pending = c :: rest → step s = exec c { s with pending := rest }

/-- Every command completes in every state, with every operand: whatever it does, it answers a next state and no fault and no
refusal (00 R8: what an access may not do is ignored or answered; 14 R647: a fault is contained). With no command waiting
one ck passes (the model's choice, notes/assumptions/2.md): time counts one ck, the events of the ck and its reserved slots
are over, no command is taken and the part keeps its identity. Where no tile, camera, Kiosk row, task or Hedge request is at
work, the clocks and the ELAPSED and HELD counters (03 Table 3.11) are all that change. -/
def Obligations.EveryStepCompletes : Prop :=
  (∀ (c : Instr) (s : State), ∃ t, exec c s = .next t) ∧ (∀ s : State, ∃ t, step s = .next t) ∧
  (∀ s : State, s.pending = [] → ∃ t, step s = .next t ∧ t.now = s.now + 1 ∧ t.born = [] ∧ t.mem.slots = [] ∧
    t.pending = [] ∧ t.ident = s.ident ∧ t.readData = s.readData) ∧
  (∀ s : State, s.pending = [] → s.canonical = true → s.tiles = [] → s.gth.cams = [] → s.gth.out = [] → s.ksk = [] → s.hdg = [] →
    s.lodge.tasks = [] → s.bell.atEnd = false → s.hold.frozen = false → s.grp.running = false → s.boot.step ≠ .ready →
    ∃ t, step s = .next t ∧ t = { s with now := s.now + 1, born := [], ptp := { s.ptp with fifths := s.ptp.fifths + 4 }, mem := { s.mem with slots := [] }, dies := t.dies } ∧
      ∀ d, d < s.ident.dies → (t.die d).elapsed = (s.die d).elapsed + 1 ∧ (t.die d).held = (s.die d).held) ∧
  (∀ s : State, s.pending = [] → s.canonical = true → s.tiles = [] → s.gth.cams = [] → s.gth.out = [] → s.ksk = [] → s.hdg = [] →
    s.lodge.tasks = [] → s.bell.atEnd = false → s.hold.frozen = true → s.grp.running = false → s.boot.step ≠ .ready →
    ∃ t, step s = .next t ∧ t.bell.holdSince = s.bell.holdSince + 1 ∧
      ∀ d, d < s.ident.dies → (t.die d).elapsed = (s.die d).elapsed + 1 ∧ (t.die d).held = (s.die d).held + 1)

/-- What reset leaves where the spec gives it (00 R17, 01 Table 1.4, 08 Table 8.6, 10 Table 10.6, 11 Table 11.10, 14 R641): no
stream, no image, no context, queues empty, counters 0, and the registers at their reset values. That the device is a KZ4100
of issue C, which the registers do not depend on, is the model's choice (notes/assumptions/1.md). -/
def Obligations.ResetState : Prop :=
  State.reset.pending = [] ∧ State.reset.runBit = false ∧ State.reset.loadState = 0 ∧ State.reset.regN aBelEncDiv = 0x10000 ∧
  State.reset.regN aBelRevHyst = 4 ∧ State.reset.regN aBelTimerPeriod = 15625 ∧ State.reset.regN aLdgCloseMs = 1000 ∧
  State.reset.regN aGkpPassMs = 8000 ∧ State.reset.regN (aLodge 0) = 0xF ∧ State.reset.regN aSupPwrBed = 0xFFF ∧
  State.reset.regN aSupDrainUs = 800 ∧ State.reset.contain.active = false ∧ State.reset.hold.frozen = false ∧
  (∀ q, State.reset.pq q = PqState.empty) ∧ (∀ c, State.reset.ctxSt c = 0) ∧ (∀ k, State.reset.tile k = Tile.blank)

/-- The state after reset is canonical. -/
def Obligations.ResetCanonical : Prop := State.reset.canonical = true

/-- What every step keeps, of every command and in every state: the tables and the memories stay canonical, so that equal
contents are equal data; the identity of the part never changes; and a command never puts another into the queue. -/
def Obligations.StepsKeepCanonical : Prop :=
  ∀ s t : State, s.canonical = true → step s = .next t →
    t.canonical = true ∧ t.ident = s.ident ∧ t.pending = s.pending.tail
end

