-- ==== Sys2Proof/Laws/Bits.lean ====
section
/-!
SUPPORT. Bits and fields of words.
-/
namespace Sys2Proof.Machine

theorem bit_get (v : Word) (i : Nat) : bit v i = v.getLsbD i := by
  unfold bit
  simp [BitVec.getLsbD, Nat.testBit, Nat.shiftRight_eq_div_pow]

@[simp] theorem bit_or (a b : Word) (i : Nat) : bit (a ||| b) i = (bit a i || bit b i) := by simp [bit_get]

@[simp] theorem bit_and (a b : Word) (i : Nat) : bit (a &&& b) i = (bit a i && bit b i) := by simp [bit_get]

theorem bit_not (a : Word) (i : Nat) (h : i < 32) : bit (~~~a) i = !(bit a i) := by simp [bit_get, h]

theorem fld_lt (v : Word) (lo n : Nat) : fld v lo n < 2 ^ n := Nat.mod_lt _ (Nat.two_pow_pos n)

theorem fld_testBit (v : Word) (lo n i : Nat) (h : i < n) : (fld v lo n).testBit i = v.getLsbD (lo + i) := by
  unfold fld bits
  rw [Nat.testBit_mod_two_pow, ← Nat.shiftRight_eq_div_pow, Nat.testBit_shiftRight]
  simp [h, BitVec.getLsbD]

theorem bit_setFld (v : Word) (lo n x i : Nat) (h : i < 32) :
    bit (setFld v lo n x) i = if lo ≤ i ∧ i < lo + n then x.testBit (i - lo) else bit v i := by
  simp only [bit_get, setFld, BitVec.getLsbD_or, BitVec.getLsbD_and, BitVec.getLsbD_not, BitVec.getLsbD_ofNat, h, decide_true,
    Bool.true_and]
  rw [Nat.testBit_mul_two_pow, Nat.testBit_mul_two_pow, Nat.testBit_two_pow_sub_one, Nat.testBit_mod_two_pow]
  by_cases h1 : lo ≤ i
  · by_cases h2 : i < lo + n
    · have : i - lo < n := by omega
      simp [h1, h2, this]
    · have : ¬ i - lo < n := by omega
      simp [h1, h2, this]
  · simp [h1]

/-- A field reads as it was written. -/
theorem fld_setFld_same (v : Word) (lo n x : Nat) (h : lo + n ≤ 32) : fld (setFld v lo n x) lo n = x % 2 ^ n := by
  apply Nat.eq_of_testBit_eq
  intro i
  by_cases hi : i < n
  · rw [fld_testBit _ _ _ _ hi, ← bit_get, bit_setFld _ _ _ _ _ (by omega), if_pos (by omega), Nat.testBit_mod_two_pow]
    simp [hi]
  · rw [Nat.testBit_lt_two_pow (lt_of_lt_of_le (fld_lt _ _ _) (Nat.pow_le_pow_right (by norm_num) (by omega))),
      Nat.testBit_mod_two_pow]
    simp [hi]

/-- Another field is untouched. -/
theorem fld_setFld_other (v : Word) (lo n x lo' n' : Nat) (h : lo' + n' ≤ 32) (hd : lo' + n' ≤ lo ∨ lo + n ≤ lo') :
    fld (setFld v lo n x) lo' n' = fld v lo' n' := by
  apply Nat.eq_of_testBit_eq
  intro i
  by_cases hi : i < n'
  · rw [fld_testBit _ _ _ _ hi, fld_testBit _ _ _ _ hi, ← bit_get, ← bit_get, bit_setFld _ _ _ _ _ (by omega), if_neg (by omega)]
  · rw [Nat.testBit_lt_two_pow (lt_of_lt_of_le (fld_lt _ _ _) (Nat.pow_le_pow_right (by norm_num) (by omega))),
      Nat.testBit_lt_two_pow (lt_of_lt_of_le (fld_lt _ _ _) (Nat.pow_le_pow_right (by norm_num) (by omega)))]

theorem fld_one_bit (v : Word) (k : Nat) : fld v k 1 = if bit v k then 1 else 0 := by
  unfold fld bits bit
  have := Nat.mod_two_eq_zero_or_one (v.toNat / 2 ^ k)
  rcases this with h | h <;> simp [h]

end Sys2Proof.Machine
end

