-- ==== Sys2Proof/Laws/State.lean ====
section
/-!
SUPPORT. What each named update of the state leaves alone: one lemma per field and update, true by unfolding, so that no
later proof unfolds an update.
-/
namespace Sys2Proof.Machine

variable (s : State)

@[simp] theorem State.setReg_ident (a : Nat) (v : Word) : (s.setReg a v).ident = s.ident := rfl
@[simp] theorem State.setReg_now (a : Nat) (v : Word) : (s.setReg a v).now = s.now := rfl
@[simp] theorem State.setReg_fresh (a : Nat) (v : Word) : (s.setReg a v).fresh = s.fresh := rfl
@[simp] theorem State.setReg_ptp (a : Nat) (v : Word) : (s.setReg a v).ptp = s.ptp := rfl
@[simp] theorem State.setReg_born (a : Nat) (v : Word) : (s.setReg a v).born = s.born := rfl
@[simp] theorem State.setReg_latch (a : Nat) (v : Word) : (s.setReg a v).latch = s.latch := rfl
@[simp] theorem State.setReg_readValue (a : Nat) (v : Word) : (s.setReg a v).readValue = s.readValue := rfl
@[simp] theorem State.setReg_readData (a : Nat) (v : Word) : (s.setReg a v).readData = s.readData := rfl
@[simp] theorem State.setReg_readStatus (a : Nat) (v : Word) : (s.setReg a v).readStatus = s.readStatus := rfl
@[simp] theorem State.setReg_outbox (a : Nat) (v : Word) : (s.setReg a v).outbox = s.outbox := rfl
@[simp] theorem State.setReg_hostMem (a : Nat) (v : Word) : (s.setReg a v).hostMem = s.hostMem := rfl
@[simp] theorem State.setReg_bell (a : Nat) (v : Word) : (s.setReg a v).bell = s.bell := rfl
@[simp] theorem State.setReg_ledger (a : Nat) (v : Word) : (s.setReg a v).ledger = s.ledger := rfl
@[simp] theorem State.setReg_hold (a : Nat) (v : Word) : (s.setReg a v).hold = s.hold := rfl
@[simp] theorem State.setReg_tiles (a : Nat) (v : Word) : (s.setReg a v).tiles = s.tiles := rfl
@[simp] theorem State.setReg_dies (a : Nat) (v : Word) : (s.setReg a v).dies = s.dies := rfl
@[simp] theorem State.setReg_gth (a : Nat) (v : Word) : (s.setReg a v).gth = s.gth := rfl
@[simp] theorem State.setReg_ksk (a : Nat) (v : Word) : (s.setReg a v).ksk = s.ksk := rfl
@[simp] theorem State.setReg_pqs (a : Nat) (v : Word) : (s.setReg a v).pqs = s.pqs := rfl
@[simp] theorem State.setReg_errSeq (a : Nat) (v : Word) : (s.setReg a v).errSeq = s.errSeq := rfl
@[simp] theorem State.setReg_mem (a : Nat) (v : Word) : (s.setReg a v).mem = s.mem := rfl
@[simp] theorem State.setReg_alloc (a : Nat) (v : Word) : (s.setReg a v).alloc = s.alloc := rfl
@[simp] theorem State.setReg_hdg (a : Nat) (v : Word) : (s.setReg a v).hdg = s.hdg := rfl
@[simp] theorem State.setReg_load (a : Nat) (v : Word) : (s.setReg a v).load = s.load := rfl
@[simp] theorem State.setReg_lodge (a : Nat) (v : Word) : (s.setReg a v).lodge = s.lodge := rfl
@[simp] theorem State.setReg_ctxs (a : Nat) (v : Word) : (s.setReg a v).ctxs = s.ctxs := rfl
@[simp] theorem State.setReg_grp (a : Nat) (v : Word) : (s.setReg a v).grp = s.grp := rfl
@[simp] theorem State.setReg_sup (a : Nat) (v : Word) : (s.setReg a v).sup = s.sup := rfl
@[simp] theorem State.setReg_power (a : Nat) (v : Word) : (s.setReg a v).power = s.power := rfl
@[simp] theorem State.setReg_contain (a : Nat) (v : Word) : (s.setReg a v).contain = s.contain := rfl
@[simp] theorem State.setReg_boot (a : Nat) (v : Word) : (s.setReg a v).boot = s.boot := rfl
@[simp] theorem State.setReg_fuse (a : Nat) (v : Word) : (s.setReg a v).fuse = s.fuse := rfl
@[simp] theorem State.setReg_pins (a : Nat) (v : Word) : (s.setReg a v).pins = s.pins := rfl
@[simp] theorem State.setReg_sideband (a : Nat) (v : Word) : (s.setReg a v).sideband = s.sideband := rfl
@[simp] theorem State.setReg_pending (a : Nat) (v : Word) : (s.setReg a v).pending = s.pending := rfl

@[simp] theorem State.setRegN_ident (a v : Nat) : (s.setRegN a v).ident = s.ident := rfl
@[simp] theorem State.setRegN_now (a v : Nat) : (s.setRegN a v).now = s.now := rfl
@[simp] theorem State.setRegN_fresh (a v : Nat) : (s.setRegN a v).fresh = s.fresh := rfl
@[simp] theorem State.setRegN_ptp (a v : Nat) : (s.setRegN a v).ptp = s.ptp := rfl
@[simp] theorem State.setRegN_born (a v : Nat) : (s.setRegN a v).born = s.born := rfl
@[simp] theorem State.setRegN_latch (a v : Nat) : (s.setRegN a v).latch = s.latch := rfl
@[simp] theorem State.setRegN_readValue (a v : Nat) : (s.setRegN a v).readValue = s.readValue := rfl
@[simp] theorem State.setRegN_readData (a v : Nat) : (s.setRegN a v).readData = s.readData := rfl
@[simp] theorem State.setRegN_readStatus (a v : Nat) : (s.setRegN a v).readStatus = s.readStatus := rfl
@[simp] theorem State.setRegN_outbox (a v : Nat) : (s.setRegN a v).outbox = s.outbox := rfl
@[simp] theorem State.setRegN_hostMem (a v : Nat) : (s.setRegN a v).hostMem = s.hostMem := rfl
@[simp] theorem State.setRegN_bell (a v : Nat) : (s.setRegN a v).bell = s.bell := rfl
@[simp] theorem State.setRegN_ledger (a v : Nat) : (s.setRegN a v).ledger = s.ledger := rfl
@[simp] theorem State.setRegN_hold (a v : Nat) : (s.setRegN a v).hold = s.hold := rfl
@[simp] theorem State.setRegN_tiles (a v : Nat) : (s.setRegN a v).tiles = s.tiles := rfl
@[simp] theorem State.setRegN_dies (a v : Nat) : (s.setRegN a v).dies = s.dies := rfl
@[simp] theorem State.setRegN_gth (a v : Nat) : (s.setRegN a v).gth = s.gth := rfl
@[simp] theorem State.setRegN_ksk (a v : Nat) : (s.setRegN a v).ksk = s.ksk := rfl
@[simp] theorem State.setRegN_pqs (a v : Nat) : (s.setRegN a v).pqs = s.pqs := rfl
@[simp] theorem State.setRegN_errSeq (a v : Nat) : (s.setRegN a v).errSeq = s.errSeq := rfl
@[simp] theorem State.setRegN_mem (a v : Nat) : (s.setRegN a v).mem = s.mem := rfl
@[simp] theorem State.setRegN_alloc (a v : Nat) : (s.setRegN a v).alloc = s.alloc := rfl
@[simp] theorem State.setRegN_hdg (a v : Nat) : (s.setRegN a v).hdg = s.hdg := rfl
@[simp] theorem State.setRegN_load (a v : Nat) : (s.setRegN a v).load = s.load := rfl
@[simp] theorem State.setRegN_lodge (a v : Nat) : (s.setRegN a v).lodge = s.lodge := rfl
@[simp] theorem State.setRegN_ctxs (a v : Nat) : (s.setRegN a v).ctxs = s.ctxs := rfl
@[simp] theorem State.setRegN_grp (a v : Nat) : (s.setRegN a v).grp = s.grp := rfl
@[simp] theorem State.setRegN_sup (a v : Nat) : (s.setRegN a v).sup = s.sup := rfl
@[simp] theorem State.setRegN_power (a v : Nat) : (s.setRegN a v).power = s.power := rfl
@[simp] theorem State.setRegN_contain (a v : Nat) : (s.setRegN a v).contain = s.contain := rfl
@[simp] theorem State.setRegN_boot (a v : Nat) : (s.setRegN a v).boot = s.boot := rfl
@[simp] theorem State.setRegN_fuse (a v : Nat) : (s.setRegN a v).fuse = s.fuse := rfl
@[simp] theorem State.setRegN_pins (a v : Nat) : (s.setRegN a v).pins = s.pins := rfl
@[simp] theorem State.setRegN_sideband (a v : Nat) : (s.setRegN a v).sideband = s.sideband := rfl
@[simp] theorem State.setRegN_pending (a v : Nat) : (s.setRegN a v).pending = s.pending := rfl

@[simp] theorem State.setReg64_ident (a v : Nat) : (s.setReg64 a v).ident = s.ident := rfl
@[simp] theorem State.setReg64_now (a v : Nat) : (s.setReg64 a v).now = s.now := rfl
@[simp] theorem State.setReg64_fresh (a v : Nat) : (s.setReg64 a v).fresh = s.fresh := rfl
@[simp] theorem State.setReg64_ptp (a v : Nat) : (s.setReg64 a v).ptp = s.ptp := rfl
@[simp] theorem State.setReg64_born (a v : Nat) : (s.setReg64 a v).born = s.born := rfl
@[simp] theorem State.setReg64_latch (a v : Nat) : (s.setReg64 a v).latch = s.latch := rfl
@[simp] theorem State.setReg64_readValue (a v : Nat) : (s.setReg64 a v).readValue = s.readValue := rfl
@[simp] theorem State.setReg64_readData (a v : Nat) : (s.setReg64 a v).readData = s.readData := rfl
@[simp] theorem State.setReg64_readStatus (a v : Nat) : (s.setReg64 a v).readStatus = s.readStatus := rfl
@[simp] theorem State.setReg64_outbox (a v : Nat) : (s.setReg64 a v).outbox = s.outbox := rfl
@[simp] theorem State.setReg64_hostMem (a v : Nat) : (s.setReg64 a v).hostMem = s.hostMem := rfl
@[simp] theorem State.setReg64_bell (a v : Nat) : (s.setReg64 a v).bell = s.bell := rfl
@[simp] theorem State.setReg64_ledger (a v : Nat) : (s.setReg64 a v).ledger = s.ledger := rfl
@[simp] theorem State.setReg64_hold (a v : Nat) : (s.setReg64 a v).hold = s.hold := rfl
@[simp] theorem State.setReg64_tiles (a v : Nat) : (s.setReg64 a v).tiles = s.tiles := rfl
@[simp] theorem State.setReg64_dies (a v : Nat) : (s.setReg64 a v).dies = s.dies := rfl
@[simp] theorem State.setReg64_gth (a v : Nat) : (s.setReg64 a v).gth = s.gth := rfl
@[simp] theorem State.setReg64_ksk (a v : Nat) : (s.setReg64 a v).ksk = s.ksk := rfl
@[simp] theorem State.setReg64_pqs (a v : Nat) : (s.setReg64 a v).pqs = s.pqs := rfl
@[simp] theorem State.setReg64_errSeq (a v : Nat) : (s.setReg64 a v).errSeq = s.errSeq := rfl
@[simp] theorem State.setReg64_mem (a v : Nat) : (s.setReg64 a v).mem = s.mem := rfl
@[simp] theorem State.setReg64_alloc (a v : Nat) : (s.setReg64 a v).alloc = s.alloc := rfl
@[simp] theorem State.setReg64_hdg (a v : Nat) : (s.setReg64 a v).hdg = s.hdg := rfl
@[simp] theorem State.setReg64_load (a v : Nat) : (s.setReg64 a v).load = s.load := rfl
@[simp] theorem State.setReg64_lodge (a v : Nat) : (s.setReg64 a v).lodge = s.lodge := rfl
@[simp] theorem State.setReg64_ctxs (a v : Nat) : (s.setReg64 a v).ctxs = s.ctxs := rfl
@[simp] theorem State.setReg64_grp (a v : Nat) : (s.setReg64 a v).grp = s.grp := rfl
@[simp] theorem State.setReg64_sup (a v : Nat) : (s.setReg64 a v).sup = s.sup := rfl
@[simp] theorem State.setReg64_power (a v : Nat) : (s.setReg64 a v).power = s.power := rfl
@[simp] theorem State.setReg64_contain (a v : Nat) : (s.setReg64 a v).contain = s.contain := rfl
@[simp] theorem State.setReg64_boot (a v : Nat) : (s.setReg64 a v).boot = s.boot := rfl
@[simp] theorem State.setReg64_fuse (a v : Nat) : (s.setReg64 a v).fuse = s.fuse := rfl
@[simp] theorem State.setReg64_pins (a v : Nat) : (s.setReg64 a v).pins = s.pins := rfl
@[simp] theorem State.setReg64_sideband (a v : Nat) : (s.setReg64 a v).sideband = s.sideband := rfl
@[simp] theorem State.setReg64_pending (a v : Nat) : (s.setReg64 a v).pending = s.pending := rfl

@[simp] theorem State.setReg48_ident (a : Nat) (v : W48) : (s.setReg48 a v).ident = s.ident := rfl
@[simp] theorem State.setReg48_now (a : Nat) (v : W48) : (s.setReg48 a v).now = s.now := rfl
@[simp] theorem State.setReg48_fresh (a : Nat) (v : W48) : (s.setReg48 a v).fresh = s.fresh := rfl
@[simp] theorem State.setReg48_ptp (a : Nat) (v : W48) : (s.setReg48 a v).ptp = s.ptp := rfl
@[simp] theorem State.setReg48_born (a : Nat) (v : W48) : (s.setReg48 a v).born = s.born := rfl
@[simp] theorem State.setReg48_latch (a : Nat) (v : W48) : (s.setReg48 a v).latch = s.latch := rfl
@[simp] theorem State.setReg48_readValue (a : Nat) (v : W48) : (s.setReg48 a v).readValue = s.readValue := rfl
@[simp] theorem State.setReg48_readData (a : Nat) (v : W48) : (s.setReg48 a v).readData = s.readData := rfl
@[simp] theorem State.setReg48_readStatus (a : Nat) (v : W48) : (s.setReg48 a v).readStatus = s.readStatus := rfl
@[simp] theorem State.setReg48_outbox (a : Nat) (v : W48) : (s.setReg48 a v).outbox = s.outbox := rfl
@[simp] theorem State.setReg48_hostMem (a : Nat) (v : W48) : (s.setReg48 a v).hostMem = s.hostMem := rfl
@[simp] theorem State.setReg48_bell (a : Nat) (v : W48) : (s.setReg48 a v).bell = s.bell := rfl
@[simp] theorem State.setReg48_ledger (a : Nat) (v : W48) : (s.setReg48 a v).ledger = s.ledger := rfl
@[simp] theorem State.setReg48_hold (a : Nat) (v : W48) : (s.setReg48 a v).hold = s.hold := rfl
@[simp] theorem State.setReg48_tiles (a : Nat) (v : W48) : (s.setReg48 a v).tiles = s.tiles := rfl
@[simp] theorem State.setReg48_dies (a : Nat) (v : W48) : (s.setReg48 a v).dies = s.dies := rfl
@[simp] theorem State.setReg48_gth (a : Nat) (v : W48) : (s.setReg48 a v).gth = s.gth := rfl
@[simp] theorem State.setReg48_ksk (a : Nat) (v : W48) : (s.setReg48 a v).ksk = s.ksk := rfl
@[simp] theorem State.setReg48_pqs (a : Nat) (v : W48) : (s.setReg48 a v).pqs = s.pqs := rfl
@[simp] theorem State.setReg48_errSeq (a : Nat) (v : W48) : (s.setReg48 a v).errSeq = s.errSeq := rfl
@[simp] theorem State.setReg48_mem (a : Nat) (v : W48) : (s.setReg48 a v).mem = s.mem := rfl
@[simp] theorem State.setReg48_alloc (a : Nat) (v : W48) : (s.setReg48 a v).alloc = s.alloc := rfl
@[simp] theorem State.setReg48_hdg (a : Nat) (v : W48) : (s.setReg48 a v).hdg = s.hdg := rfl
@[simp] theorem State.setReg48_load (a : Nat) (v : W48) : (s.setReg48 a v).load = s.load := rfl
@[simp] theorem State.setReg48_lodge (a : Nat) (v : W48) : (s.setReg48 a v).lodge = s.lodge := rfl
@[simp] theorem State.setReg48_ctxs (a : Nat) (v : W48) : (s.setReg48 a v).ctxs = s.ctxs := rfl
@[simp] theorem State.setReg48_grp (a : Nat) (v : W48) : (s.setReg48 a v).grp = s.grp := rfl
@[simp] theorem State.setReg48_sup (a : Nat) (v : W48) : (s.setReg48 a v).sup = s.sup := rfl
@[simp] theorem State.setReg48_power (a : Nat) (v : W48) : (s.setReg48 a v).power = s.power := rfl
@[simp] theorem State.setReg48_contain (a : Nat) (v : W48) : (s.setReg48 a v).contain = s.contain := rfl
@[simp] theorem State.setReg48_boot (a : Nat) (v : W48) : (s.setReg48 a v).boot = s.boot := rfl
@[simp] theorem State.setReg48_fuse (a : Nat) (v : W48) : (s.setReg48 a v).fuse = s.fuse := rfl
@[simp] theorem State.setReg48_pins (a : Nat) (v : W48) : (s.setReg48 a v).pins = s.pins := rfl
@[simp] theorem State.setReg48_sideband (a : Nat) (v : W48) : (s.setReg48 a v).sideband = s.sideband := rfl
@[simp] theorem State.setReg48_pending (a : Nat) (v : W48) : (s.setReg48 a v).pending = s.pending := rfl

@[simp] theorem State.setBorn_ident (a : Nat) (v : Word) : (s.setBorn a v).ident = s.ident := rfl
@[simp] theorem State.setBorn_now (a : Nat) (v : Word) : (s.setBorn a v).now = s.now := rfl
@[simp] theorem State.setBorn_fresh (a : Nat) (v : Word) : (s.setBorn a v).fresh = s.fresh := rfl
@[simp] theorem State.setBorn_ptp (a : Nat) (v : Word) : (s.setBorn a v).ptp = s.ptp := rfl
@[simp] theorem State.setBorn_regs (a : Nat) (v : Word) : (s.setBorn a v).regs = s.regs := rfl
@[simp] theorem State.setBorn_latch (a : Nat) (v : Word) : (s.setBorn a v).latch = s.latch := rfl
@[simp] theorem State.setBorn_readValue (a : Nat) (v : Word) : (s.setBorn a v).readValue = s.readValue := rfl
@[simp] theorem State.setBorn_readData (a : Nat) (v : Word) : (s.setBorn a v).readData = s.readData := rfl
@[simp] theorem State.setBorn_readStatus (a : Nat) (v : Word) : (s.setBorn a v).readStatus = s.readStatus := rfl
@[simp] theorem State.setBorn_outbox (a : Nat) (v : Word) : (s.setBorn a v).outbox = s.outbox := rfl
@[simp] theorem State.setBorn_hostMem (a : Nat) (v : Word) : (s.setBorn a v).hostMem = s.hostMem := rfl
@[simp] theorem State.setBorn_bell (a : Nat) (v : Word) : (s.setBorn a v).bell = s.bell := rfl
@[simp] theorem State.setBorn_ledger (a : Nat) (v : Word) : (s.setBorn a v).ledger = s.ledger := rfl
@[simp] theorem State.setBorn_hold (a : Nat) (v : Word) : (s.setBorn a v).hold = s.hold := rfl
@[simp] theorem State.setBorn_tiles (a : Nat) (v : Word) : (s.setBorn a v).tiles = s.tiles := rfl
@[simp] theorem State.setBorn_dies (a : Nat) (v : Word) : (s.setBorn a v).dies = s.dies := rfl
@[simp] theorem State.setBorn_gth (a : Nat) (v : Word) : (s.setBorn a v).gth = s.gth := rfl
@[simp] theorem State.setBorn_ksk (a : Nat) (v : Word) : (s.setBorn a v).ksk = s.ksk := rfl
@[simp] theorem State.setBorn_pqs (a : Nat) (v : Word) : (s.setBorn a v).pqs = s.pqs := rfl
@[simp] theorem State.setBorn_errSeq (a : Nat) (v : Word) : (s.setBorn a v).errSeq = s.errSeq := rfl
@[simp] theorem State.setBorn_mem (a : Nat) (v : Word) : (s.setBorn a v).mem = s.mem := rfl
@[simp] theorem State.setBorn_alloc (a : Nat) (v : Word) : (s.setBorn a v).alloc = s.alloc := rfl
@[simp] theorem State.setBorn_hdg (a : Nat) (v : Word) : (s.setBorn a v).hdg = s.hdg := rfl
@[simp] theorem State.setBorn_load (a : Nat) (v : Word) : (s.setBorn a v).load = s.load := rfl
@[simp] theorem State.setBorn_lodge (a : Nat) (v : Word) : (s.setBorn a v).lodge = s.lodge := rfl
@[simp] theorem State.setBorn_ctxs (a : Nat) (v : Word) : (s.setBorn a v).ctxs = s.ctxs := rfl
@[simp] theorem State.setBorn_grp (a : Nat) (v : Word) : (s.setBorn a v).grp = s.grp := rfl
@[simp] theorem State.setBorn_sup (a : Nat) (v : Word) : (s.setBorn a v).sup = s.sup := rfl
@[simp] theorem State.setBorn_power (a : Nat) (v : Word) : (s.setBorn a v).power = s.power := rfl
@[simp] theorem State.setBorn_contain (a : Nat) (v : Word) : (s.setBorn a v).contain = s.contain := rfl
@[simp] theorem State.setBorn_boot (a : Nat) (v : Word) : (s.setBorn a v).boot = s.boot := rfl
@[simp] theorem State.setBorn_fuse (a : Nat) (v : Word) : (s.setBorn a v).fuse = s.fuse := rfl
@[simp] theorem State.setBorn_pins (a : Nat) (v : Word) : (s.setBorn a v).pins = s.pins := rfl
@[simp] theorem State.setBorn_sideband (a : Nat) (v : Word) : (s.setBorn a v).sideband = s.sideband := rfl
@[simp] theorem State.setBorn_pending (a : Nat) (v : Word) : (s.setBorn a v).pending = s.pending := rfl

@[simp] theorem State.count_ident (a n : Nat) : (s.count a n).ident = s.ident := rfl
@[simp] theorem State.count_now (a n : Nat) : (s.count a n).now = s.now := rfl
@[simp] theorem State.count_fresh (a n : Nat) : (s.count a n).fresh = s.fresh := rfl
@[simp] theorem State.count_ptp (a n : Nat) : (s.count a n).ptp = s.ptp := rfl
@[simp] theorem State.count_latch (a n : Nat) : (s.count a n).latch = s.latch := rfl
@[simp] theorem State.count_readValue (a n : Nat) : (s.count a n).readValue = s.readValue := rfl
@[simp] theorem State.count_readData (a n : Nat) : (s.count a n).readData = s.readData := rfl
@[simp] theorem State.count_readStatus (a n : Nat) : (s.count a n).readStatus = s.readStatus := rfl
@[simp] theorem State.count_outbox (a n : Nat) : (s.count a n).outbox = s.outbox := rfl
@[simp] theorem State.count_hostMem (a n : Nat) : (s.count a n).hostMem = s.hostMem := rfl
@[simp] theorem State.count_bell (a n : Nat) : (s.count a n).bell = s.bell := rfl
@[simp] theorem State.count_ledger (a n : Nat) : (s.count a n).ledger = s.ledger := rfl
@[simp] theorem State.count_hold (a n : Nat) : (s.count a n).hold = s.hold := rfl
@[simp] theorem State.count_tiles (a n : Nat) : (s.count a n).tiles = s.tiles := rfl
@[simp] theorem State.count_dies (a n : Nat) : (s.count a n).dies = s.dies := rfl
@[simp] theorem State.count_gth (a n : Nat) : (s.count a n).gth = s.gth := rfl
@[simp] theorem State.count_ksk (a n : Nat) : (s.count a n).ksk = s.ksk := rfl
@[simp] theorem State.count_pqs (a n : Nat) : (s.count a n).pqs = s.pqs := rfl
@[simp] theorem State.count_errSeq (a n : Nat) : (s.count a n).errSeq = s.errSeq := rfl
@[simp] theorem State.count_mem (a n : Nat) : (s.count a n).mem = s.mem := rfl
@[simp] theorem State.count_alloc (a n : Nat) : (s.count a n).alloc = s.alloc := rfl
@[simp] theorem State.count_hdg (a n : Nat) : (s.count a n).hdg = s.hdg := rfl
@[simp] theorem State.count_load (a n : Nat) : (s.count a n).load = s.load := rfl
@[simp] theorem State.count_lodge (a n : Nat) : (s.count a n).lodge = s.lodge := rfl
@[simp] theorem State.count_ctxs (a n : Nat) : (s.count a n).ctxs = s.ctxs := rfl
@[simp] theorem State.count_grp (a n : Nat) : (s.count a n).grp = s.grp := rfl
@[simp] theorem State.count_sup (a n : Nat) : (s.count a n).sup = s.sup := rfl
@[simp] theorem State.count_power (a n : Nat) : (s.count a n).power = s.power := rfl
@[simp] theorem State.count_contain (a n : Nat) : (s.count a n).contain = s.contain := rfl
@[simp] theorem State.count_boot (a n : Nat) : (s.count a n).boot = s.boot := rfl
@[simp] theorem State.count_fuse (a n : Nat) : (s.count a n).fuse = s.fuse := rfl
@[simp] theorem State.count_pins (a n : Nat) : (s.count a n).pins = s.pins := rfl
@[simp] theorem State.count_sideband (a n : Nat) : (s.count a n).sideband = s.sideband := rfl
@[simp] theorem State.count_pending (a n : Nat) : (s.count a n).pending = s.pending := rfl

@[simp] theorem State.addReg_ident (a n : Nat) : (s.addReg a n).ident = s.ident := rfl
@[simp] theorem State.addReg_now (a n : Nat) : (s.addReg a n).now = s.now := rfl
@[simp] theorem State.addReg_fresh (a n : Nat) : (s.addReg a n).fresh = s.fresh := rfl
@[simp] theorem State.addReg_ptp (a n : Nat) : (s.addReg a n).ptp = s.ptp := rfl
@[simp] theorem State.addReg_born (a n : Nat) : (s.addReg a n).born = s.born := rfl
@[simp] theorem State.addReg_latch (a n : Nat) : (s.addReg a n).latch = s.latch := rfl
@[simp] theorem State.addReg_readValue (a n : Nat) : (s.addReg a n).readValue = s.readValue := rfl
@[simp] theorem State.addReg_readData (a n : Nat) : (s.addReg a n).readData = s.readData := rfl
@[simp] theorem State.addReg_readStatus (a n : Nat) : (s.addReg a n).readStatus = s.readStatus := rfl
@[simp] theorem State.addReg_outbox (a n : Nat) : (s.addReg a n).outbox = s.outbox := rfl
@[simp] theorem State.addReg_hostMem (a n : Nat) : (s.addReg a n).hostMem = s.hostMem := rfl
@[simp] theorem State.addReg_bell (a n : Nat) : (s.addReg a n).bell = s.bell := rfl
@[simp] theorem State.addReg_ledger (a n : Nat) : (s.addReg a n).ledger = s.ledger := rfl
@[simp] theorem State.addReg_hold (a n : Nat) : (s.addReg a n).hold = s.hold := rfl
@[simp] theorem State.addReg_tiles (a n : Nat) : (s.addReg a n).tiles = s.tiles := rfl
@[simp] theorem State.addReg_dies (a n : Nat) : (s.addReg a n).dies = s.dies := rfl
@[simp] theorem State.addReg_gth (a n : Nat) : (s.addReg a n).gth = s.gth := rfl
@[simp] theorem State.addReg_ksk (a n : Nat) : (s.addReg a n).ksk = s.ksk := rfl
@[simp] theorem State.addReg_pqs (a n : Nat) : (s.addReg a n).pqs = s.pqs := rfl
@[simp] theorem State.addReg_errSeq (a n : Nat) : (s.addReg a n).errSeq = s.errSeq := rfl
@[simp] theorem State.addReg_mem (a n : Nat) : (s.addReg a n).mem = s.mem := rfl
@[simp] theorem State.addReg_alloc (a n : Nat) : (s.addReg a n).alloc = s.alloc := rfl
@[simp] theorem State.addReg_hdg (a n : Nat) : (s.addReg a n).hdg = s.hdg := rfl
@[simp] theorem State.addReg_load (a n : Nat) : (s.addReg a n).load = s.load := rfl
@[simp] theorem State.addReg_lodge (a n : Nat) : (s.addReg a n).lodge = s.lodge := rfl
@[simp] theorem State.addReg_ctxs (a n : Nat) : (s.addReg a n).ctxs = s.ctxs := rfl
@[simp] theorem State.addReg_grp (a n : Nat) : (s.addReg a n).grp = s.grp := rfl
@[simp] theorem State.addReg_sup (a n : Nat) : (s.addReg a n).sup = s.sup := rfl
@[simp] theorem State.addReg_power (a n : Nat) : (s.addReg a n).power = s.power := rfl
@[simp] theorem State.addReg_contain (a n : Nat) : (s.addReg a n).contain = s.contain := rfl
@[simp] theorem State.addReg_boot (a n : Nat) : (s.addReg a n).boot = s.boot := rfl
@[simp] theorem State.addReg_fuse (a n : Nat) : (s.addReg a n).fuse = s.fuse := rfl
@[simp] theorem State.addReg_pins (a n : Nat) : (s.addReg a n).pins = s.pins := rfl
@[simp] theorem State.addReg_sideband (a n : Nat) : (s.addReg a n).sideband = s.sideband := rfl
@[simp] theorem State.addReg_pending (a n : Nat) : (s.addReg a n).pending = s.pending := rfl

@[simp] theorem State.setBits_ident (a : Nat) (m : Word) : (s.setBits a m).ident = s.ident := rfl
@[simp] theorem State.setBits_now (a : Nat) (m : Word) : (s.setBits a m).now = s.now := rfl
@[simp] theorem State.setBits_fresh (a : Nat) (m : Word) : (s.setBits a m).fresh = s.fresh := rfl
@[simp] theorem State.setBits_ptp (a : Nat) (m : Word) : (s.setBits a m).ptp = s.ptp := rfl
@[simp] theorem State.setBits_latch (a : Nat) (m : Word) : (s.setBits a m).latch = s.latch := rfl
@[simp] theorem State.setBits_readValue (a : Nat) (m : Word) : (s.setBits a m).readValue = s.readValue := rfl
@[simp] theorem State.setBits_readData (a : Nat) (m : Word) : (s.setBits a m).readData = s.readData := rfl
@[simp] theorem State.setBits_readStatus (a : Nat) (m : Word) : (s.setBits a m).readStatus = s.readStatus := rfl
@[simp] theorem State.setBits_outbox (a : Nat) (m : Word) : (s.setBits a m).outbox = s.outbox := rfl
@[simp] theorem State.setBits_hostMem (a : Nat) (m : Word) : (s.setBits a m).hostMem = s.hostMem := rfl
@[simp] theorem State.setBits_bell (a : Nat) (m : Word) : (s.setBits a m).bell = s.bell := rfl
@[simp] theorem State.setBits_ledger (a : Nat) (m : Word) : (s.setBits a m).ledger = s.ledger := rfl
@[simp] theorem State.setBits_hold (a : Nat) (m : Word) : (s.setBits a m).hold = s.hold := rfl
@[simp] theorem State.setBits_tiles (a : Nat) (m : Word) : (s.setBits a m).tiles = s.tiles := rfl
@[simp] theorem State.setBits_dies (a : Nat) (m : Word) : (s.setBits a m).dies = s.dies := rfl
@[simp] theorem State.setBits_gth (a : Nat) (m : Word) : (s.setBits a m).gth = s.gth := rfl
@[simp] theorem State.setBits_ksk (a : Nat) (m : Word) : (s.setBits a m).ksk = s.ksk := rfl
@[simp] theorem State.setBits_pqs (a : Nat) (m : Word) : (s.setBits a m).pqs = s.pqs := rfl
@[simp] theorem State.setBits_errSeq (a : Nat) (m : Word) : (s.setBits a m).errSeq = s.errSeq := rfl
@[simp] theorem State.setBits_mem (a : Nat) (m : Word) : (s.setBits a m).mem = s.mem := rfl
@[simp] theorem State.setBits_alloc (a : Nat) (m : Word) : (s.setBits a m).alloc = s.alloc := rfl
@[simp] theorem State.setBits_hdg (a : Nat) (m : Word) : (s.setBits a m).hdg = s.hdg := rfl
@[simp] theorem State.setBits_load (a : Nat) (m : Word) : (s.setBits a m).load = s.load := rfl
@[simp] theorem State.setBits_lodge (a : Nat) (m : Word) : (s.setBits a m).lodge = s.lodge := rfl
@[simp] theorem State.setBits_ctxs (a : Nat) (m : Word) : (s.setBits a m).ctxs = s.ctxs := rfl
@[simp] theorem State.setBits_grp (a : Nat) (m : Word) : (s.setBits a m).grp = s.grp := rfl
@[simp] theorem State.setBits_sup (a : Nat) (m : Word) : (s.setBits a m).sup = s.sup := rfl
@[simp] theorem State.setBits_power (a : Nat) (m : Word) : (s.setBits a m).power = s.power := rfl
@[simp] theorem State.setBits_contain (a : Nat) (m : Word) : (s.setBits a m).contain = s.contain := rfl
@[simp] theorem State.setBits_boot (a : Nat) (m : Word) : (s.setBits a m).boot = s.boot := rfl
@[simp] theorem State.setBits_fuse (a : Nat) (m : Word) : (s.setBits a m).fuse = s.fuse := rfl
@[simp] theorem State.setBits_pins (a : Nat) (m : Word) : (s.setBits a m).pins = s.pins := rfl
@[simp] theorem State.setBits_sideband (a : Nat) (m : Word) : (s.setBits a m).sideband = s.sideband := rfl
@[simp] theorem State.setBits_pending (a : Nat) (m : Word) : (s.setBits a m).pending = s.pending := rfl

@[simp] theorem State.clrBits_ident (a : Nat) (m : Word) : (s.clrBits a m).ident = s.ident := rfl
@[simp] theorem State.clrBits_now (a : Nat) (m : Word) : (s.clrBits a m).now = s.now := rfl
@[simp] theorem State.clrBits_fresh (a : Nat) (m : Word) : (s.clrBits a m).fresh = s.fresh := rfl
@[simp] theorem State.clrBits_ptp (a : Nat) (m : Word) : (s.clrBits a m).ptp = s.ptp := rfl
@[simp] theorem State.clrBits_born (a : Nat) (m : Word) : (s.clrBits a m).born = s.born := rfl
@[simp] theorem State.clrBits_latch (a : Nat) (m : Word) : (s.clrBits a m).latch = s.latch := rfl
@[simp] theorem State.clrBits_readValue (a : Nat) (m : Word) : (s.clrBits a m).readValue = s.readValue := rfl
@[simp] theorem State.clrBits_readData (a : Nat) (m : Word) : (s.clrBits a m).readData = s.readData := rfl
@[simp] theorem State.clrBits_readStatus (a : Nat) (m : Word) : (s.clrBits a m).readStatus = s.readStatus := rfl
@[simp] theorem State.clrBits_outbox (a : Nat) (m : Word) : (s.clrBits a m).outbox = s.outbox := rfl
@[simp] theorem State.clrBits_hostMem (a : Nat) (m : Word) : (s.clrBits a m).hostMem = s.hostMem := rfl
@[simp] theorem State.clrBits_bell (a : Nat) (m : Word) : (s.clrBits a m).bell = s.bell := rfl
@[simp] theorem State.clrBits_ledger (a : Nat) (m : Word) : (s.clrBits a m).ledger = s.ledger := rfl
@[simp] theorem State.clrBits_hold (a : Nat) (m : Word) : (s.clrBits a m).hold = s.hold := rfl
@[simp] theorem State.clrBits_tiles (a : Nat) (m : Word) : (s.clrBits a m).tiles = s.tiles := rfl
@[simp] theorem State.clrBits_dies (a : Nat) (m : Word) : (s.clrBits a m).dies = s.dies := rfl
@[simp] theorem State.clrBits_gth (a : Nat) (m : Word) : (s.clrBits a m).gth = s.gth := rfl
@[simp] theorem State.clrBits_ksk (a : Nat) (m : Word) : (s.clrBits a m).ksk = s.ksk := rfl
@[simp] theorem State.clrBits_pqs (a : Nat) (m : Word) : (s.clrBits a m).pqs = s.pqs := rfl
@[simp] theorem State.clrBits_errSeq (a : Nat) (m : Word) : (s.clrBits a m).errSeq = s.errSeq := rfl
@[simp] theorem State.clrBits_mem (a : Nat) (m : Word) : (s.clrBits a m).mem = s.mem := rfl
@[simp] theorem State.clrBits_alloc (a : Nat) (m : Word) : (s.clrBits a m).alloc = s.alloc := rfl
@[simp] theorem State.clrBits_hdg (a : Nat) (m : Word) : (s.clrBits a m).hdg = s.hdg := rfl
@[simp] theorem State.clrBits_load (a : Nat) (m : Word) : (s.clrBits a m).load = s.load := rfl
@[simp] theorem State.clrBits_lodge (a : Nat) (m : Word) : (s.clrBits a m).lodge = s.lodge := rfl
@[simp] theorem State.clrBits_ctxs (a : Nat) (m : Word) : (s.clrBits a m).ctxs = s.ctxs := rfl
@[simp] theorem State.clrBits_grp (a : Nat) (m : Word) : (s.clrBits a m).grp = s.grp := rfl
@[simp] theorem State.clrBits_sup (a : Nat) (m : Word) : (s.clrBits a m).sup = s.sup := rfl
@[simp] theorem State.clrBits_power (a : Nat) (m : Word) : (s.clrBits a m).power = s.power := rfl
@[simp] theorem State.clrBits_contain (a : Nat) (m : Word) : (s.clrBits a m).contain = s.contain := rfl
@[simp] theorem State.clrBits_boot (a : Nat) (m : Word) : (s.clrBits a m).boot = s.boot := rfl
@[simp] theorem State.clrBits_fuse (a : Nat) (m : Word) : (s.clrBits a m).fuse = s.fuse := rfl
@[simp] theorem State.clrBits_pins (a : Nat) (m : Word) : (s.clrBits a m).pins = s.pins := rfl
@[simp] theorem State.clrBits_sideband (a : Nat) (m : Word) : (s.clrBits a m).sideband = s.sideband := rfl
@[simp] theorem State.clrBits_pending (a : Nat) (m : Word) : (s.clrBits a m).pending = s.pending := rfl

@[simp] theorem State.setTile_ident (k : Nat) (t : Tile) : (s.setTile k t).ident = s.ident := rfl
@[simp] theorem State.setTile_now (k : Nat) (t : Tile) : (s.setTile k t).now = s.now := rfl
@[simp] theorem State.setTile_fresh (k : Nat) (t : Tile) : (s.setTile k t).fresh = s.fresh := rfl
@[simp] theorem State.setTile_ptp (k : Nat) (t : Tile) : (s.setTile k t).ptp = s.ptp := rfl
@[simp] theorem State.setTile_regs (k : Nat) (t : Tile) : (s.setTile k t).regs = s.regs := rfl
@[simp] theorem State.setTile_born (k : Nat) (t : Tile) : (s.setTile k t).born = s.born := rfl
@[simp] theorem State.setTile_latch (k : Nat) (t : Tile) : (s.setTile k t).latch = s.latch := rfl
@[simp] theorem State.setTile_readValue (k : Nat) (t : Tile) : (s.setTile k t).readValue = s.readValue := rfl
@[simp] theorem State.setTile_readData (k : Nat) (t : Tile) : (s.setTile k t).readData = s.readData := rfl
@[simp] theorem State.setTile_readStatus (k : Nat) (t : Tile) : (s.setTile k t).readStatus = s.readStatus := rfl
@[simp] theorem State.setTile_outbox (k : Nat) (t : Tile) : (s.setTile k t).outbox = s.outbox := rfl
@[simp] theorem State.setTile_hostMem (k : Nat) (t : Tile) : (s.setTile k t).hostMem = s.hostMem := rfl
@[simp] theorem State.setTile_bell (k : Nat) (t : Tile) : (s.setTile k t).bell = s.bell := rfl
@[simp] theorem State.setTile_ledger (k : Nat) (t : Tile) : (s.setTile k t).ledger = s.ledger := rfl
@[simp] theorem State.setTile_hold (k : Nat) (t : Tile) : (s.setTile k t).hold = s.hold := rfl
@[simp] theorem State.setTile_dies (k : Nat) (t : Tile) : (s.setTile k t).dies = s.dies := rfl
@[simp] theorem State.setTile_gth (k : Nat) (t : Tile) : (s.setTile k t).gth = s.gth := rfl
@[simp] theorem State.setTile_ksk (k : Nat) (t : Tile) : (s.setTile k t).ksk = s.ksk := rfl
@[simp] theorem State.setTile_pqs (k : Nat) (t : Tile) : (s.setTile k t).pqs = s.pqs := rfl
@[simp] theorem State.setTile_errSeq (k : Nat) (t : Tile) : (s.setTile k t).errSeq = s.errSeq := rfl
@[simp] theorem State.setTile_mem (k : Nat) (t : Tile) : (s.setTile k t).mem = s.mem := rfl
@[simp] theorem State.setTile_alloc (k : Nat) (t : Tile) : (s.setTile k t).alloc = s.alloc := rfl
@[simp] theorem State.setTile_hdg (k : Nat) (t : Tile) : (s.setTile k t).hdg = s.hdg := rfl
@[simp] theorem State.setTile_load (k : Nat) (t : Tile) : (s.setTile k t).load = s.load := rfl
@[simp] theorem State.setTile_lodge (k : Nat) (t : Tile) : (s.setTile k t).lodge = s.lodge := rfl
@[simp] theorem State.setTile_ctxs (k : Nat) (t : Tile) : (s.setTile k t).ctxs = s.ctxs := rfl
@[simp] theorem State.setTile_grp (k : Nat) (t : Tile) : (s.setTile k t).grp = s.grp := rfl
@[simp] theorem State.setTile_sup (k : Nat) (t : Tile) : (s.setTile k t).sup = s.sup := rfl
@[simp] theorem State.setTile_power (k : Nat) (t : Tile) : (s.setTile k t).power = s.power := rfl
@[simp] theorem State.setTile_contain (k : Nat) (t : Tile) : (s.setTile k t).contain = s.contain := rfl
@[simp] theorem State.setTile_boot (k : Nat) (t : Tile) : (s.setTile k t).boot = s.boot := rfl
@[simp] theorem State.setTile_fuse (k : Nat) (t : Tile) : (s.setTile k t).fuse = s.fuse := rfl
@[simp] theorem State.setTile_pins (k : Nat) (t : Tile) : (s.setTile k t).pins = s.pins := rfl
@[simp] theorem State.setTile_sideband (k : Nat) (t : Tile) : (s.setTile k t).sideband = s.sideband := rfl
@[simp] theorem State.setTile_pending (k : Nat) (t : Tile) : (s.setTile k t).pending = s.pending := rfl

@[simp] theorem State.onTile_ident (k : Nat) (f : Tile → Tile) : (s.onTile k f).ident = s.ident := rfl
@[simp] theorem State.onTile_now (k : Nat) (f : Tile → Tile) : (s.onTile k f).now = s.now := rfl
@[simp] theorem State.onTile_fresh (k : Nat) (f : Tile → Tile) : (s.onTile k f).fresh = s.fresh := rfl
@[simp] theorem State.onTile_ptp (k : Nat) (f : Tile → Tile) : (s.onTile k f).ptp = s.ptp := rfl
@[simp] theorem State.onTile_regs (k : Nat) (f : Tile → Tile) : (s.onTile k f).regs = s.regs := rfl
@[simp] theorem State.onTile_born (k : Nat) (f : Tile → Tile) : (s.onTile k f).born = s.born := rfl
@[simp] theorem State.onTile_latch (k : Nat) (f : Tile → Tile) : (s.onTile k f).latch = s.latch := rfl
@[simp] theorem State.onTile_readValue (k : Nat) (f : Tile → Tile) : (s.onTile k f).readValue = s.readValue := rfl
@[simp] theorem State.onTile_readData (k : Nat) (f : Tile → Tile) : (s.onTile k f).readData = s.readData := rfl
@[simp] theorem State.onTile_readStatus (k : Nat) (f : Tile → Tile) : (s.onTile k f).readStatus = s.readStatus := rfl
@[simp] theorem State.onTile_outbox (k : Nat) (f : Tile → Tile) : (s.onTile k f).outbox = s.outbox := rfl
@[simp] theorem State.onTile_hostMem (k : Nat) (f : Tile → Tile) : (s.onTile k f).hostMem = s.hostMem := rfl
@[simp] theorem State.onTile_bell (k : Nat) (f : Tile → Tile) : (s.onTile k f).bell = s.bell := rfl
@[simp] theorem State.onTile_ledger (k : Nat) (f : Tile → Tile) : (s.onTile k f).ledger = s.ledger := rfl
@[simp] theorem State.onTile_hold (k : Nat) (f : Tile → Tile) : (s.onTile k f).hold = s.hold := rfl
@[simp] theorem State.onTile_dies (k : Nat) (f : Tile → Tile) : (s.onTile k f).dies = s.dies := rfl
@[simp] theorem State.onTile_gth (k : Nat) (f : Tile → Tile) : (s.onTile k f).gth = s.gth := rfl
@[simp] theorem State.onTile_ksk (k : Nat) (f : Tile → Tile) : (s.onTile k f).ksk = s.ksk := rfl
@[simp] theorem State.onTile_pqs (k : Nat) (f : Tile → Tile) : (s.onTile k f).pqs = s.pqs := rfl
@[simp] theorem State.onTile_errSeq (k : Nat) (f : Tile → Tile) : (s.onTile k f).errSeq = s.errSeq := rfl
@[simp] theorem State.onTile_mem (k : Nat) (f : Tile → Tile) : (s.onTile k f).mem = s.mem := rfl
@[simp] theorem State.onTile_alloc (k : Nat) (f : Tile → Tile) : (s.onTile k f).alloc = s.alloc := rfl
@[simp] theorem State.onTile_hdg (k : Nat) (f : Tile → Tile) : (s.onTile k f).hdg = s.hdg := rfl
@[simp] theorem State.onTile_load (k : Nat) (f : Tile → Tile) : (s.onTile k f).load = s.load := rfl
@[simp] theorem State.onTile_lodge (k : Nat) (f : Tile → Tile) : (s.onTile k f).lodge = s.lodge := rfl
@[simp] theorem State.onTile_ctxs (k : Nat) (f : Tile → Tile) : (s.onTile k f).ctxs = s.ctxs := rfl
@[simp] theorem State.onTile_grp (k : Nat) (f : Tile → Tile) : (s.onTile k f).grp = s.grp := rfl
@[simp] theorem State.onTile_sup (k : Nat) (f : Tile → Tile) : (s.onTile k f).sup = s.sup := rfl
@[simp] theorem State.onTile_power (k : Nat) (f : Tile → Tile) : (s.onTile k f).power = s.power := rfl
@[simp] theorem State.onTile_contain (k : Nat) (f : Tile → Tile) : (s.onTile k f).contain = s.contain := rfl
@[simp] theorem State.onTile_boot (k : Nat) (f : Tile → Tile) : (s.onTile k f).boot = s.boot := rfl
@[simp] theorem State.onTile_fuse (k : Nat) (f : Tile → Tile) : (s.onTile k f).fuse = s.fuse := rfl
@[simp] theorem State.onTile_pins (k : Nat) (f : Tile → Tile) : (s.onTile k f).pins = s.pins := rfl
@[simp] theorem State.onTile_sideband (k : Nat) (f : Tile → Tile) : (s.onTile k f).sideband = s.sideband := rfl
@[simp] theorem State.onTile_pending (k : Nat) (f : Tile → Tile) : (s.onTile k f).pending = s.pending := rfl

@[simp] theorem State.setDie_ident (d : Nat) (c : DieCtr) : (s.setDie d c).ident = s.ident := rfl
@[simp] theorem State.setDie_now (d : Nat) (c : DieCtr) : (s.setDie d c).now = s.now := rfl
@[simp] theorem State.setDie_fresh (d : Nat) (c : DieCtr) : (s.setDie d c).fresh = s.fresh := rfl
@[simp] theorem State.setDie_ptp (d : Nat) (c : DieCtr) : (s.setDie d c).ptp = s.ptp := rfl
@[simp] theorem State.setDie_regs (d : Nat) (c : DieCtr) : (s.setDie d c).regs = s.regs := rfl
@[simp] theorem State.setDie_born (d : Nat) (c : DieCtr) : (s.setDie d c).born = s.born := rfl
@[simp] theorem State.setDie_latch (d : Nat) (c : DieCtr) : (s.setDie d c).latch = s.latch := rfl
@[simp] theorem State.setDie_readValue (d : Nat) (c : DieCtr) : (s.setDie d c).readValue = s.readValue := rfl
@[simp] theorem State.setDie_readData (d : Nat) (c : DieCtr) : (s.setDie d c).readData = s.readData := rfl
@[simp] theorem State.setDie_readStatus (d : Nat) (c : DieCtr) : (s.setDie d c).readStatus = s.readStatus := rfl
@[simp] theorem State.setDie_outbox (d : Nat) (c : DieCtr) : (s.setDie d c).outbox = s.outbox := rfl
@[simp] theorem State.setDie_hostMem (d : Nat) (c : DieCtr) : (s.setDie d c).hostMem = s.hostMem := rfl
@[simp] theorem State.setDie_bell (d : Nat) (c : DieCtr) : (s.setDie d c).bell = s.bell := rfl
@[simp] theorem State.setDie_ledger (d : Nat) (c : DieCtr) : (s.setDie d c).ledger = s.ledger := rfl
@[simp] theorem State.setDie_hold (d : Nat) (c : DieCtr) : (s.setDie d c).hold = s.hold := rfl
@[simp] theorem State.setDie_tiles (d : Nat) (c : DieCtr) : (s.setDie d c).tiles = s.tiles := rfl
@[simp] theorem State.setDie_gth (d : Nat) (c : DieCtr) : (s.setDie d c).gth = s.gth := rfl
@[simp] theorem State.setDie_ksk (d : Nat) (c : DieCtr) : (s.setDie d c).ksk = s.ksk := rfl
@[simp] theorem State.setDie_pqs (d : Nat) (c : DieCtr) : (s.setDie d c).pqs = s.pqs := rfl
@[simp] theorem State.setDie_errSeq (d : Nat) (c : DieCtr) : (s.setDie d c).errSeq = s.errSeq := rfl
@[simp] theorem State.setDie_mem (d : Nat) (c : DieCtr) : (s.setDie d c).mem = s.mem := rfl
@[simp] theorem State.setDie_alloc (d : Nat) (c : DieCtr) : (s.setDie d c).alloc = s.alloc := rfl
@[simp] theorem State.setDie_hdg (d : Nat) (c : DieCtr) : (s.setDie d c).hdg = s.hdg := rfl
@[simp] theorem State.setDie_load (d : Nat) (c : DieCtr) : (s.setDie d c).load = s.load := rfl
@[simp] theorem State.setDie_lodge (d : Nat) (c : DieCtr) : (s.setDie d c).lodge = s.lodge := rfl
@[simp] theorem State.setDie_ctxs (d : Nat) (c : DieCtr) : (s.setDie d c).ctxs = s.ctxs := rfl
@[simp] theorem State.setDie_grp (d : Nat) (c : DieCtr) : (s.setDie d c).grp = s.grp := rfl
@[simp] theorem State.setDie_sup (d : Nat) (c : DieCtr) : (s.setDie d c).sup = s.sup := rfl
@[simp] theorem State.setDie_power (d : Nat) (c : DieCtr) : (s.setDie d c).power = s.power := rfl
@[simp] theorem State.setDie_contain (d : Nat) (c : DieCtr) : (s.setDie d c).contain = s.contain := rfl
@[simp] theorem State.setDie_boot (d : Nat) (c : DieCtr) : (s.setDie d c).boot = s.boot := rfl
@[simp] theorem State.setDie_fuse (d : Nat) (c : DieCtr) : (s.setDie d c).fuse = s.fuse := rfl
@[simp] theorem State.setDie_pins (d : Nat) (c : DieCtr) : (s.setDie d c).pins = s.pins := rfl
@[simp] theorem State.setDie_sideband (d : Nat) (c : DieCtr) : (s.setDie d c).sideband = s.sideband := rfl
@[simp] theorem State.setDie_pending (d : Nat) (c : DieCtr) : (s.setDie d c).pending = s.pending := rfl

@[simp] theorem State.setCam_ident (n : Nat) (c : CamState) : (s.setCam n c).ident = s.ident := rfl
@[simp] theorem State.setCam_now (n : Nat) (c : CamState) : (s.setCam n c).now = s.now := rfl
@[simp] theorem State.setCam_fresh (n : Nat) (c : CamState) : (s.setCam n c).fresh = s.fresh := rfl
@[simp] theorem State.setCam_ptp (n : Nat) (c : CamState) : (s.setCam n c).ptp = s.ptp := rfl
@[simp] theorem State.setCam_regs (n : Nat) (c : CamState) : (s.setCam n c).regs = s.regs := rfl
@[simp] theorem State.setCam_born (n : Nat) (c : CamState) : (s.setCam n c).born = s.born := rfl
@[simp] theorem State.setCam_latch (n : Nat) (c : CamState) : (s.setCam n c).latch = s.latch := rfl
@[simp] theorem State.setCam_readValue (n : Nat) (c : CamState) : (s.setCam n c).readValue = s.readValue := rfl
@[simp] theorem State.setCam_readData (n : Nat) (c : CamState) : (s.setCam n c).readData = s.readData := rfl
@[simp] theorem State.setCam_readStatus (n : Nat) (c : CamState) : (s.setCam n c).readStatus = s.readStatus := rfl
@[simp] theorem State.setCam_outbox (n : Nat) (c : CamState) : (s.setCam n c).outbox = s.outbox := rfl
@[simp] theorem State.setCam_hostMem (n : Nat) (c : CamState) : (s.setCam n c).hostMem = s.hostMem := rfl
@[simp] theorem State.setCam_bell (n : Nat) (c : CamState) : (s.setCam n c).bell = s.bell := rfl
@[simp] theorem State.setCam_ledger (n : Nat) (c : CamState) : (s.setCam n c).ledger = s.ledger := rfl
@[simp] theorem State.setCam_hold (n : Nat) (c : CamState) : (s.setCam n c).hold = s.hold := rfl
@[simp] theorem State.setCam_tiles (n : Nat) (c : CamState) : (s.setCam n c).tiles = s.tiles := rfl
@[simp] theorem State.setCam_dies (n : Nat) (c : CamState) : (s.setCam n c).dies = s.dies := rfl
@[simp] theorem State.setCam_ksk (n : Nat) (c : CamState) : (s.setCam n c).ksk = s.ksk := rfl
@[simp] theorem State.setCam_pqs (n : Nat) (c : CamState) : (s.setCam n c).pqs = s.pqs := rfl
@[simp] theorem State.setCam_errSeq (n : Nat) (c : CamState) : (s.setCam n c).errSeq = s.errSeq := rfl
@[simp] theorem State.setCam_mem (n : Nat) (c : CamState) : (s.setCam n c).mem = s.mem := rfl
@[simp] theorem State.setCam_alloc (n : Nat) (c : CamState) : (s.setCam n c).alloc = s.alloc := rfl
@[simp] theorem State.setCam_hdg (n : Nat) (c : CamState) : (s.setCam n c).hdg = s.hdg := rfl
@[simp] theorem State.setCam_load (n : Nat) (c : CamState) : (s.setCam n c).load = s.load := rfl
@[simp] theorem State.setCam_lodge (n : Nat) (c : CamState) : (s.setCam n c).lodge = s.lodge := rfl
@[simp] theorem State.setCam_ctxs (n : Nat) (c : CamState) : (s.setCam n c).ctxs = s.ctxs := rfl
@[simp] theorem State.setCam_grp (n : Nat) (c : CamState) : (s.setCam n c).grp = s.grp := rfl
@[simp] theorem State.setCam_sup (n : Nat) (c : CamState) : (s.setCam n c).sup = s.sup := rfl
@[simp] theorem State.setCam_power (n : Nat) (c : CamState) : (s.setCam n c).power = s.power := rfl
@[simp] theorem State.setCam_contain (n : Nat) (c : CamState) : (s.setCam n c).contain = s.contain := rfl
@[simp] theorem State.setCam_boot (n : Nat) (c : CamState) : (s.setCam n c).boot = s.boot := rfl
@[simp] theorem State.setCam_fuse (n : Nat) (c : CamState) : (s.setCam n c).fuse = s.fuse := rfl
@[simp] theorem State.setCam_pins (n : Nat) (c : CamState) : (s.setCam n c).pins = s.pins := rfl
@[simp] theorem State.setCam_sideband (n : Nat) (c : CamState) : (s.setCam n c).sideband = s.sideband := rfl
@[simp] theorem State.setCam_pending (n : Nat) (c : CamState) : (s.setCam n c).pending = s.pending := rfl

@[simp] theorem State.setKiosk_ident (h : Nat) (k : KskState) : (s.setKiosk h k).ident = s.ident := rfl
@[simp] theorem State.setKiosk_now (h : Nat) (k : KskState) : (s.setKiosk h k).now = s.now := rfl
@[simp] theorem State.setKiosk_fresh (h : Nat) (k : KskState) : (s.setKiosk h k).fresh = s.fresh := rfl
@[simp] theorem State.setKiosk_ptp (h : Nat) (k : KskState) : (s.setKiosk h k).ptp = s.ptp := rfl
@[simp] theorem State.setKiosk_regs (h : Nat) (k : KskState) : (s.setKiosk h k).regs = s.regs := rfl
@[simp] theorem State.setKiosk_born (h : Nat) (k : KskState) : (s.setKiosk h k).born = s.born := rfl
@[simp] theorem State.setKiosk_latch (h : Nat) (k : KskState) : (s.setKiosk h k).latch = s.latch := rfl
@[simp] theorem State.setKiosk_readValue (h : Nat) (k : KskState) : (s.setKiosk h k).readValue = s.readValue := rfl
@[simp] theorem State.setKiosk_readData (h : Nat) (k : KskState) : (s.setKiosk h k).readData = s.readData := rfl
@[simp] theorem State.setKiosk_readStatus (h : Nat) (k : KskState) : (s.setKiosk h k).readStatus = s.readStatus := rfl
@[simp] theorem State.setKiosk_outbox (h : Nat) (k : KskState) : (s.setKiosk h k).outbox = s.outbox := rfl
@[simp] theorem State.setKiosk_hostMem (h : Nat) (k : KskState) : (s.setKiosk h k).hostMem = s.hostMem := rfl
@[simp] theorem State.setKiosk_bell (h : Nat) (k : KskState) : (s.setKiosk h k).bell = s.bell := rfl
@[simp] theorem State.setKiosk_ledger (h : Nat) (k : KskState) : (s.setKiosk h k).ledger = s.ledger := rfl
@[simp] theorem State.setKiosk_hold (h : Nat) (k : KskState) : (s.setKiosk h k).hold = s.hold := rfl
@[simp] theorem State.setKiosk_tiles (h : Nat) (k : KskState) : (s.setKiosk h k).tiles = s.tiles := rfl
@[simp] theorem State.setKiosk_dies (h : Nat) (k : KskState) : (s.setKiosk h k).dies = s.dies := rfl
@[simp] theorem State.setKiosk_gth (h : Nat) (k : KskState) : (s.setKiosk h k).gth = s.gth := rfl
@[simp] theorem State.setKiosk_pqs (h : Nat) (k : KskState) : (s.setKiosk h k).pqs = s.pqs := rfl
@[simp] theorem State.setKiosk_errSeq (h : Nat) (k : KskState) : (s.setKiosk h k).errSeq = s.errSeq := rfl
@[simp] theorem State.setKiosk_mem (h : Nat) (k : KskState) : (s.setKiosk h k).mem = s.mem := rfl
@[simp] theorem State.setKiosk_alloc (h : Nat) (k : KskState) : (s.setKiosk h k).alloc = s.alloc := rfl
@[simp] theorem State.setKiosk_hdg (h : Nat) (k : KskState) : (s.setKiosk h k).hdg = s.hdg := rfl
@[simp] theorem State.setKiosk_load (h : Nat) (k : KskState) : (s.setKiosk h k).load = s.load := rfl
@[simp] theorem State.setKiosk_lodge (h : Nat) (k : KskState) : (s.setKiosk h k).lodge = s.lodge := rfl
@[simp] theorem State.setKiosk_ctxs (h : Nat) (k : KskState) : (s.setKiosk h k).ctxs = s.ctxs := rfl
@[simp] theorem State.setKiosk_grp (h : Nat) (k : KskState) : (s.setKiosk h k).grp = s.grp := rfl
@[simp] theorem State.setKiosk_sup (h : Nat) (k : KskState) : (s.setKiosk h k).sup = s.sup := rfl
@[simp] theorem State.setKiosk_power (h : Nat) (k : KskState) : (s.setKiosk h k).power = s.power := rfl
@[simp] theorem State.setKiosk_contain (h : Nat) (k : KskState) : (s.setKiosk h k).contain = s.contain := rfl
@[simp] theorem State.setKiosk_boot (h : Nat) (k : KskState) : (s.setKiosk h k).boot = s.boot := rfl
@[simp] theorem State.setKiosk_fuse (h : Nat) (k : KskState) : (s.setKiosk h k).fuse = s.fuse := rfl
@[simp] theorem State.setKiosk_pins (h : Nat) (k : KskState) : (s.setKiosk h k).pins = s.pins := rfl
@[simp] theorem State.setKiosk_sideband (h : Nat) (k : KskState) : (s.setKiosk h k).sideband = s.sideband := rfl
@[simp] theorem State.setKiosk_pending (h : Nat) (k : KskState) : (s.setKiosk h k).pending = s.pending := rfl

@[simp] theorem State.setPq_ident (q : Nat) (p : PqState) : (s.setPq q p).ident = s.ident := rfl
@[simp] theorem State.setPq_now (q : Nat) (p : PqState) : (s.setPq q p).now = s.now := rfl
@[simp] theorem State.setPq_fresh (q : Nat) (p : PqState) : (s.setPq q p).fresh = s.fresh := rfl
@[simp] theorem State.setPq_ptp (q : Nat) (p : PqState) : (s.setPq q p).ptp = s.ptp := rfl
@[simp] theorem State.setPq_regs (q : Nat) (p : PqState) : (s.setPq q p).regs = s.regs := rfl
@[simp] theorem State.setPq_born (q : Nat) (p : PqState) : (s.setPq q p).born = s.born := rfl
@[simp] theorem State.setPq_latch (q : Nat) (p : PqState) : (s.setPq q p).latch = s.latch := rfl
@[simp] theorem State.setPq_readValue (q : Nat) (p : PqState) : (s.setPq q p).readValue = s.readValue := rfl
@[simp] theorem State.setPq_readData (q : Nat) (p : PqState) : (s.setPq q p).readData = s.readData := rfl
@[simp] theorem State.setPq_readStatus (q : Nat) (p : PqState) : (s.setPq q p).readStatus = s.readStatus := rfl
@[simp] theorem State.setPq_outbox (q : Nat) (p : PqState) : (s.setPq q p).outbox = s.outbox := rfl
@[simp] theorem State.setPq_hostMem (q : Nat) (p : PqState) : (s.setPq q p).hostMem = s.hostMem := rfl
@[simp] theorem State.setPq_bell (q : Nat) (p : PqState) : (s.setPq q p).bell = s.bell := rfl
@[simp] theorem State.setPq_ledger (q : Nat) (p : PqState) : (s.setPq q p).ledger = s.ledger := rfl
@[simp] theorem State.setPq_hold (q : Nat) (p : PqState) : (s.setPq q p).hold = s.hold := rfl
@[simp] theorem State.setPq_tiles (q : Nat) (p : PqState) : (s.setPq q p).tiles = s.tiles := rfl
@[simp] theorem State.setPq_dies (q : Nat) (p : PqState) : (s.setPq q p).dies = s.dies := rfl
@[simp] theorem State.setPq_gth (q : Nat) (p : PqState) : (s.setPq q p).gth = s.gth := rfl
@[simp] theorem State.setPq_ksk (q : Nat) (p : PqState) : (s.setPq q p).ksk = s.ksk := rfl
@[simp] theorem State.setPq_errSeq (q : Nat) (p : PqState) : (s.setPq q p).errSeq = s.errSeq := rfl
@[simp] theorem State.setPq_mem (q : Nat) (p : PqState) : (s.setPq q p).mem = s.mem := rfl
@[simp] theorem State.setPq_alloc (q : Nat) (p : PqState) : (s.setPq q p).alloc = s.alloc := rfl
@[simp] theorem State.setPq_hdg (q : Nat) (p : PqState) : (s.setPq q p).hdg = s.hdg := rfl
@[simp] theorem State.setPq_load (q : Nat) (p : PqState) : (s.setPq q p).load = s.load := rfl
@[simp] theorem State.setPq_lodge (q : Nat) (p : PqState) : (s.setPq q p).lodge = s.lodge := rfl
@[simp] theorem State.setPq_ctxs (q : Nat) (p : PqState) : (s.setPq q p).ctxs = s.ctxs := rfl
@[simp] theorem State.setPq_grp (q : Nat) (p : PqState) : (s.setPq q p).grp = s.grp := rfl
@[simp] theorem State.setPq_sup (q : Nat) (p : PqState) : (s.setPq q p).sup = s.sup := rfl
@[simp] theorem State.setPq_power (q : Nat) (p : PqState) : (s.setPq q p).power = s.power := rfl
@[simp] theorem State.setPq_contain (q : Nat) (p : PqState) : (s.setPq q p).contain = s.contain := rfl
@[simp] theorem State.setPq_boot (q : Nat) (p : PqState) : (s.setPq q p).boot = s.boot := rfl
@[simp] theorem State.setPq_fuse (q : Nat) (p : PqState) : (s.setPq q p).fuse = s.fuse := rfl
@[simp] theorem State.setPq_pins (q : Nat) (p : PqState) : (s.setPq q p).pins = s.pins := rfl
@[simp] theorem State.setPq_sideband (q : Nat) (p : PqState) : (s.setPq q p).sideband = s.sideband := rfl
@[simp] theorem State.setPq_pending (q : Nat) (p : PqState) : (s.setPq q p).pending = s.pending := rfl

@[simp] theorem State.onPq_ident (q : Nat) (f : PqState → PqState) : (s.onPq q f).ident = s.ident := rfl
@[simp] theorem State.onPq_now (q : Nat) (f : PqState → PqState) : (s.onPq q f).now = s.now := rfl
@[simp] theorem State.onPq_fresh (q : Nat) (f : PqState → PqState) : (s.onPq q f).fresh = s.fresh := rfl
@[simp] theorem State.onPq_ptp (q : Nat) (f : PqState → PqState) : (s.onPq q f).ptp = s.ptp := rfl
@[simp] theorem State.onPq_regs (q : Nat) (f : PqState → PqState) : (s.onPq q f).regs = s.regs := rfl
@[simp] theorem State.onPq_born (q : Nat) (f : PqState → PqState) : (s.onPq q f).born = s.born := rfl
@[simp] theorem State.onPq_latch (q : Nat) (f : PqState → PqState) : (s.onPq q f).latch = s.latch := rfl
@[simp] theorem State.onPq_readValue (q : Nat) (f : PqState → PqState) : (s.onPq q f).readValue = s.readValue := rfl
@[simp] theorem State.onPq_readData (q : Nat) (f : PqState → PqState) : (s.onPq q f).readData = s.readData := rfl
@[simp] theorem State.onPq_readStatus (q : Nat) (f : PqState → PqState) : (s.onPq q f).readStatus = s.readStatus := rfl
@[simp] theorem State.onPq_outbox (q : Nat) (f : PqState → PqState) : (s.onPq q f).outbox = s.outbox := rfl
@[simp] theorem State.onPq_hostMem (q : Nat) (f : PqState → PqState) : (s.onPq q f).hostMem = s.hostMem := rfl
@[simp] theorem State.onPq_bell (q : Nat) (f : PqState → PqState) : (s.onPq q f).bell = s.bell := rfl
@[simp] theorem State.onPq_ledger (q : Nat) (f : PqState → PqState) : (s.onPq q f).ledger = s.ledger := rfl
@[simp] theorem State.onPq_hold (q : Nat) (f : PqState → PqState) : (s.onPq q f).hold = s.hold := rfl
@[simp] theorem State.onPq_tiles (q : Nat) (f : PqState → PqState) : (s.onPq q f).tiles = s.tiles := rfl
@[simp] theorem State.onPq_dies (q : Nat) (f : PqState → PqState) : (s.onPq q f).dies = s.dies := rfl
@[simp] theorem State.onPq_gth (q : Nat) (f : PqState → PqState) : (s.onPq q f).gth = s.gth := rfl
@[simp] theorem State.onPq_ksk (q : Nat) (f : PqState → PqState) : (s.onPq q f).ksk = s.ksk := rfl
@[simp] theorem State.onPq_errSeq (q : Nat) (f : PqState → PqState) : (s.onPq q f).errSeq = s.errSeq := rfl
@[simp] theorem State.onPq_mem (q : Nat) (f : PqState → PqState) : (s.onPq q f).mem = s.mem := rfl
@[simp] theorem State.onPq_alloc (q : Nat) (f : PqState → PqState) : (s.onPq q f).alloc = s.alloc := rfl
@[simp] theorem State.onPq_hdg (q : Nat) (f : PqState → PqState) : (s.onPq q f).hdg = s.hdg := rfl
@[simp] theorem State.onPq_load (q : Nat) (f : PqState → PqState) : (s.onPq q f).load = s.load := rfl
@[simp] theorem State.onPq_lodge (q : Nat) (f : PqState → PqState) : (s.onPq q f).lodge = s.lodge := rfl
@[simp] theorem State.onPq_ctxs (q : Nat) (f : PqState → PqState) : (s.onPq q f).ctxs = s.ctxs := rfl
@[simp] theorem State.onPq_grp (q : Nat) (f : PqState → PqState) : (s.onPq q f).grp = s.grp := rfl
@[simp] theorem State.onPq_sup (q : Nat) (f : PqState → PqState) : (s.onPq q f).sup = s.sup := rfl
@[simp] theorem State.onPq_power (q : Nat) (f : PqState → PqState) : (s.onPq q f).power = s.power := rfl
@[simp] theorem State.onPq_contain (q : Nat) (f : PqState → PqState) : (s.onPq q f).contain = s.contain := rfl
@[simp] theorem State.onPq_boot (q : Nat) (f : PqState → PqState) : (s.onPq q f).boot = s.boot := rfl
@[simp] theorem State.onPq_fuse (q : Nat) (f : PqState → PqState) : (s.onPq q f).fuse = s.fuse := rfl
@[simp] theorem State.onPq_pins (q : Nat) (f : PqState → PqState) : (s.onPq q f).pins = s.pins := rfl
@[simp] theorem State.onPq_sideband (q : Nat) (f : PqState → PqState) : (s.onPq q f).sideband = s.sideband := rfl
@[simp] theorem State.onPq_pending (q : Nat) (f : PqState → PqState) : (s.onPq q f).pending = s.pending := rfl

@[simp] theorem State.setHedge_ident (h : Nat) (x : HdgState) : (s.setHedge h x).ident = s.ident := rfl
@[simp] theorem State.setHedge_now (h : Nat) (x : HdgState) : (s.setHedge h x).now = s.now := rfl
@[simp] theorem State.setHedge_fresh (h : Nat) (x : HdgState) : (s.setHedge h x).fresh = s.fresh := rfl
@[simp] theorem State.setHedge_ptp (h : Nat) (x : HdgState) : (s.setHedge h x).ptp = s.ptp := rfl
@[simp] theorem State.setHedge_regs (h : Nat) (x : HdgState) : (s.setHedge h x).regs = s.regs := rfl
@[simp] theorem State.setHedge_born (h : Nat) (x : HdgState) : (s.setHedge h x).born = s.born := rfl
@[simp] theorem State.setHedge_latch (h : Nat) (x : HdgState) : (s.setHedge h x).latch = s.latch := rfl
@[simp] theorem State.setHedge_readValue (h : Nat) (x : HdgState) : (s.setHedge h x).readValue = s.readValue := rfl
@[simp] theorem State.setHedge_readData (h : Nat) (x : HdgState) : (s.setHedge h x).readData = s.readData := rfl
@[simp] theorem State.setHedge_readStatus (h : Nat) (x : HdgState) : (s.setHedge h x).readStatus = s.readStatus := rfl
@[simp] theorem State.setHedge_outbox (h : Nat) (x : HdgState) : (s.setHedge h x).outbox = s.outbox := rfl
@[simp] theorem State.setHedge_hostMem (h : Nat) (x : HdgState) : (s.setHedge h x).hostMem = s.hostMem := rfl
@[simp] theorem State.setHedge_bell (h : Nat) (x : HdgState) : (s.setHedge h x).bell = s.bell := rfl
@[simp] theorem State.setHedge_ledger (h : Nat) (x : HdgState) : (s.setHedge h x).ledger = s.ledger := rfl
@[simp] theorem State.setHedge_hold (h : Nat) (x : HdgState) : (s.setHedge h x).hold = s.hold := rfl
@[simp] theorem State.setHedge_tiles (h : Nat) (x : HdgState) : (s.setHedge h x).tiles = s.tiles := rfl
@[simp] theorem State.setHedge_dies (h : Nat) (x : HdgState) : (s.setHedge h x).dies = s.dies := rfl
@[simp] theorem State.setHedge_gth (h : Nat) (x : HdgState) : (s.setHedge h x).gth = s.gth := rfl
@[simp] theorem State.setHedge_ksk (h : Nat) (x : HdgState) : (s.setHedge h x).ksk = s.ksk := rfl
@[simp] theorem State.setHedge_pqs (h : Nat) (x : HdgState) : (s.setHedge h x).pqs = s.pqs := rfl
@[simp] theorem State.setHedge_errSeq (h : Nat) (x : HdgState) : (s.setHedge h x).errSeq = s.errSeq := rfl
@[simp] theorem State.setHedge_mem (h : Nat) (x : HdgState) : (s.setHedge h x).mem = s.mem := rfl
@[simp] theorem State.setHedge_alloc (h : Nat) (x : HdgState) : (s.setHedge h x).alloc = s.alloc := rfl
@[simp] theorem State.setHedge_load (h : Nat) (x : HdgState) : (s.setHedge h x).load = s.load := rfl
@[simp] theorem State.setHedge_lodge (h : Nat) (x : HdgState) : (s.setHedge h x).lodge = s.lodge := rfl
@[simp] theorem State.setHedge_ctxs (h : Nat) (x : HdgState) : (s.setHedge h x).ctxs = s.ctxs := rfl
@[simp] theorem State.setHedge_grp (h : Nat) (x : HdgState) : (s.setHedge h x).grp = s.grp := rfl
@[simp] theorem State.setHedge_sup (h : Nat) (x : HdgState) : (s.setHedge h x).sup = s.sup := rfl
@[simp] theorem State.setHedge_power (h : Nat) (x : HdgState) : (s.setHedge h x).power = s.power := rfl
@[simp] theorem State.setHedge_contain (h : Nat) (x : HdgState) : (s.setHedge h x).contain = s.contain := rfl
@[simp] theorem State.setHedge_boot (h : Nat) (x : HdgState) : (s.setHedge h x).boot = s.boot := rfl
@[simp] theorem State.setHedge_fuse (h : Nat) (x : HdgState) : (s.setHedge h x).fuse = s.fuse := rfl
@[simp] theorem State.setHedge_pins (h : Nat) (x : HdgState) : (s.setHedge h x).pins = s.pins := rfl
@[simp] theorem State.setHedge_sideband (h : Nat) (x : HdgState) : (s.setHedge h x).sideband = s.sideband := rfl
@[simp] theorem State.setHedge_pending (h : Nat) (x : HdgState) : (s.setHedge h x).pending = s.pending := rfl

@[simp] theorem State.setCore_ident (c : Nat) (x : CoreState) : (s.setCore c x).ident = s.ident := rfl
@[simp] theorem State.setCore_now (c : Nat) (x : CoreState) : (s.setCore c x).now = s.now := rfl
@[simp] theorem State.setCore_fresh (c : Nat) (x : CoreState) : (s.setCore c x).fresh = s.fresh := rfl
@[simp] theorem State.setCore_ptp (c : Nat) (x : CoreState) : (s.setCore c x).ptp = s.ptp := rfl
@[simp] theorem State.setCore_regs (c : Nat) (x : CoreState) : (s.setCore c x).regs = s.regs := rfl
@[simp] theorem State.setCore_born (c : Nat) (x : CoreState) : (s.setCore c x).born = s.born := rfl
@[simp] theorem State.setCore_latch (c : Nat) (x : CoreState) : (s.setCore c x).latch = s.latch := rfl
@[simp] theorem State.setCore_readValue (c : Nat) (x : CoreState) : (s.setCore c x).readValue = s.readValue := rfl
@[simp] theorem State.setCore_readData (c : Nat) (x : CoreState) : (s.setCore c x).readData = s.readData := rfl
@[simp] theorem State.setCore_readStatus (c : Nat) (x : CoreState) : (s.setCore c x).readStatus = s.readStatus := rfl
@[simp] theorem State.setCore_outbox (c : Nat) (x : CoreState) : (s.setCore c x).outbox = s.outbox := rfl
@[simp] theorem State.setCore_hostMem (c : Nat) (x : CoreState) : (s.setCore c x).hostMem = s.hostMem := rfl
@[simp] theorem State.setCore_bell (c : Nat) (x : CoreState) : (s.setCore c x).bell = s.bell := rfl
@[simp] theorem State.setCore_ledger (c : Nat) (x : CoreState) : (s.setCore c x).ledger = s.ledger := rfl
@[simp] theorem State.setCore_hold (c : Nat) (x : CoreState) : (s.setCore c x).hold = s.hold := rfl
@[simp] theorem State.setCore_tiles (c : Nat) (x : CoreState) : (s.setCore c x).tiles = s.tiles := rfl
@[simp] theorem State.setCore_dies (c : Nat) (x : CoreState) : (s.setCore c x).dies = s.dies := rfl
@[simp] theorem State.setCore_gth (c : Nat) (x : CoreState) : (s.setCore c x).gth = s.gth := rfl
@[simp] theorem State.setCore_ksk (c : Nat) (x : CoreState) : (s.setCore c x).ksk = s.ksk := rfl
@[simp] theorem State.setCore_pqs (c : Nat) (x : CoreState) : (s.setCore c x).pqs = s.pqs := rfl
@[simp] theorem State.setCore_errSeq (c : Nat) (x : CoreState) : (s.setCore c x).errSeq = s.errSeq := rfl
@[simp] theorem State.setCore_mem (c : Nat) (x : CoreState) : (s.setCore c x).mem = s.mem := rfl
@[simp] theorem State.setCore_alloc (c : Nat) (x : CoreState) : (s.setCore c x).alloc = s.alloc := rfl
@[simp] theorem State.setCore_hdg (c : Nat) (x : CoreState) : (s.setCore c x).hdg = s.hdg := rfl
@[simp] theorem State.setCore_load (c : Nat) (x : CoreState) : (s.setCore c x).load = s.load := rfl
@[simp] theorem State.setCore_ctxs (c : Nat) (x : CoreState) : (s.setCore c x).ctxs = s.ctxs := rfl
@[simp] theorem State.setCore_grp (c : Nat) (x : CoreState) : (s.setCore c x).grp = s.grp := rfl
@[simp] theorem State.setCore_sup (c : Nat) (x : CoreState) : (s.setCore c x).sup = s.sup := rfl
@[simp] theorem State.setCore_power (c : Nat) (x : CoreState) : (s.setCore c x).power = s.power := rfl
@[simp] theorem State.setCore_contain (c : Nat) (x : CoreState) : (s.setCore c x).contain = s.contain := rfl
@[simp] theorem State.setCore_boot (c : Nat) (x : CoreState) : (s.setCore c x).boot = s.boot := rfl
@[simp] theorem State.setCore_fuse (c : Nat) (x : CoreState) : (s.setCore c x).fuse = s.fuse := rfl
@[simp] theorem State.setCore_pins (c : Nat) (x : CoreState) : (s.setCore c x).pins = s.pins := rfl
@[simp] theorem State.setCore_sideband (c : Nat) (x : CoreState) : (s.setCore c x).sideband = s.sideband := rfl
@[simp] theorem State.setCore_pending (c : Nat) (x : CoreState) : (s.setCore c x).pending = s.pending := rfl

@[simp] theorem State.setTask_ident (k : Nat) (x : TaskState) : (s.setTask k x).ident = s.ident := rfl
@[simp] theorem State.setTask_now (k : Nat) (x : TaskState) : (s.setTask k x).now = s.now := rfl
@[simp] theorem State.setTask_fresh (k : Nat) (x : TaskState) : (s.setTask k x).fresh = s.fresh := rfl
@[simp] theorem State.setTask_ptp (k : Nat) (x : TaskState) : (s.setTask k x).ptp = s.ptp := rfl
@[simp] theorem State.setTask_regs (k : Nat) (x : TaskState) : (s.setTask k x).regs = s.regs := rfl
@[simp] theorem State.setTask_born (k : Nat) (x : TaskState) : (s.setTask k x).born = s.born := rfl
@[simp] theorem State.setTask_latch (k : Nat) (x : TaskState) : (s.setTask k x).latch = s.latch := rfl
@[simp] theorem State.setTask_readValue (k : Nat) (x : TaskState) : (s.setTask k x).readValue = s.readValue := rfl
@[simp] theorem State.setTask_readData (k : Nat) (x : TaskState) : (s.setTask k x).readData = s.readData := rfl
@[simp] theorem State.setTask_readStatus (k : Nat) (x : TaskState) : (s.setTask k x).readStatus = s.readStatus := rfl
@[simp] theorem State.setTask_outbox (k : Nat) (x : TaskState) : (s.setTask k x).outbox = s.outbox := rfl
@[simp] theorem State.setTask_hostMem (k : Nat) (x : TaskState) : (s.setTask k x).hostMem = s.hostMem := rfl
@[simp] theorem State.setTask_bell (k : Nat) (x : TaskState) : (s.setTask k x).bell = s.bell := rfl
@[simp] theorem State.setTask_ledger (k : Nat) (x : TaskState) : (s.setTask k x).ledger = s.ledger := rfl
@[simp] theorem State.setTask_hold (k : Nat) (x : TaskState) : (s.setTask k x).hold = s.hold := rfl
@[simp] theorem State.setTask_tiles (k : Nat) (x : TaskState) : (s.setTask k x).tiles = s.tiles := rfl
@[simp] theorem State.setTask_dies (k : Nat) (x : TaskState) : (s.setTask k x).dies = s.dies := rfl
@[simp] theorem State.setTask_gth (k : Nat) (x : TaskState) : (s.setTask k x).gth = s.gth := rfl
@[simp] theorem State.setTask_ksk (k : Nat) (x : TaskState) : (s.setTask k x).ksk = s.ksk := rfl
@[simp] theorem State.setTask_pqs (k : Nat) (x : TaskState) : (s.setTask k x).pqs = s.pqs := rfl
@[simp] theorem State.setTask_errSeq (k : Nat) (x : TaskState) : (s.setTask k x).errSeq = s.errSeq := rfl
@[simp] theorem State.setTask_mem (k : Nat) (x : TaskState) : (s.setTask k x).mem = s.mem := rfl
@[simp] theorem State.setTask_alloc (k : Nat) (x : TaskState) : (s.setTask k x).alloc = s.alloc := rfl
@[simp] theorem State.setTask_hdg (k : Nat) (x : TaskState) : (s.setTask k x).hdg = s.hdg := rfl
@[simp] theorem State.setTask_load (k : Nat) (x : TaskState) : (s.setTask k x).load = s.load := rfl
@[simp] theorem State.setTask_ctxs (k : Nat) (x : TaskState) : (s.setTask k x).ctxs = s.ctxs := rfl
@[simp] theorem State.setTask_grp (k : Nat) (x : TaskState) : (s.setTask k x).grp = s.grp := rfl
@[simp] theorem State.setTask_sup (k : Nat) (x : TaskState) : (s.setTask k x).sup = s.sup := rfl
@[simp] theorem State.setTask_power (k : Nat) (x : TaskState) : (s.setTask k x).power = s.power := rfl
@[simp] theorem State.setTask_contain (k : Nat) (x : TaskState) : (s.setTask k x).contain = s.contain := rfl
@[simp] theorem State.setTask_boot (k : Nat) (x : TaskState) : (s.setTask k x).boot = s.boot := rfl
@[simp] theorem State.setTask_fuse (k : Nat) (x : TaskState) : (s.setTask k x).fuse = s.fuse := rfl
@[simp] theorem State.setTask_pins (k : Nat) (x : TaskState) : (s.setTask k x).pins = s.pins := rfl
@[simp] theorem State.setTask_sideband (k : Nat) (x : TaskState) : (s.setTask k x).sideband = s.sideband := rfl
@[simp] theorem State.setTask_pending (k : Nat) (x : TaskState) : (s.setTask k x).pending = s.pending := rfl

@[simp] theorem State.setCtx_ident (c : Nat) (x : CtxState) : (s.setCtx c x).ident = s.ident := rfl
@[simp] theorem State.setCtx_now (c : Nat) (x : CtxState) : (s.setCtx c x).now = s.now := rfl
@[simp] theorem State.setCtx_fresh (c : Nat) (x : CtxState) : (s.setCtx c x).fresh = s.fresh := rfl
@[simp] theorem State.setCtx_ptp (c : Nat) (x : CtxState) : (s.setCtx c x).ptp = s.ptp := rfl
@[simp] theorem State.setCtx_regs (c : Nat) (x : CtxState) : (s.setCtx c x).regs = s.regs := rfl
@[simp] theorem State.setCtx_born (c : Nat) (x : CtxState) : (s.setCtx c x).born = s.born := rfl
@[simp] theorem State.setCtx_latch (c : Nat) (x : CtxState) : (s.setCtx c x).latch = s.latch := rfl
@[simp] theorem State.setCtx_readValue (c : Nat) (x : CtxState) : (s.setCtx c x).readValue = s.readValue := rfl
@[simp] theorem State.setCtx_readData (c : Nat) (x : CtxState) : (s.setCtx c x).readData = s.readData := rfl
@[simp] theorem State.setCtx_readStatus (c : Nat) (x : CtxState) : (s.setCtx c x).readStatus = s.readStatus := rfl
@[simp] theorem State.setCtx_outbox (c : Nat) (x : CtxState) : (s.setCtx c x).outbox = s.outbox := rfl
@[simp] theorem State.setCtx_hostMem (c : Nat) (x : CtxState) : (s.setCtx c x).hostMem = s.hostMem := rfl
@[simp] theorem State.setCtx_bell (c : Nat) (x : CtxState) : (s.setCtx c x).bell = s.bell := rfl
@[simp] theorem State.setCtx_ledger (c : Nat) (x : CtxState) : (s.setCtx c x).ledger = s.ledger := rfl
@[simp] theorem State.setCtx_hold (c : Nat) (x : CtxState) : (s.setCtx c x).hold = s.hold := rfl
@[simp] theorem State.setCtx_tiles (c : Nat) (x : CtxState) : (s.setCtx c x).tiles = s.tiles := rfl
@[simp] theorem State.setCtx_dies (c : Nat) (x : CtxState) : (s.setCtx c x).dies = s.dies := rfl
@[simp] theorem State.setCtx_gth (c : Nat) (x : CtxState) : (s.setCtx c x).gth = s.gth := rfl
@[simp] theorem State.setCtx_ksk (c : Nat) (x : CtxState) : (s.setCtx c x).ksk = s.ksk := rfl
@[simp] theorem State.setCtx_pqs (c : Nat) (x : CtxState) : (s.setCtx c x).pqs = s.pqs := rfl
@[simp] theorem State.setCtx_errSeq (c : Nat) (x : CtxState) : (s.setCtx c x).errSeq = s.errSeq := rfl
@[simp] theorem State.setCtx_mem (c : Nat) (x : CtxState) : (s.setCtx c x).mem = s.mem := rfl
@[simp] theorem State.setCtx_alloc (c : Nat) (x : CtxState) : (s.setCtx c x).alloc = s.alloc := rfl
@[simp] theorem State.setCtx_hdg (c : Nat) (x : CtxState) : (s.setCtx c x).hdg = s.hdg := rfl
@[simp] theorem State.setCtx_load (c : Nat) (x : CtxState) : (s.setCtx c x).load = s.load := rfl
@[simp] theorem State.setCtx_lodge (c : Nat) (x : CtxState) : (s.setCtx c x).lodge = s.lodge := rfl
@[simp] theorem State.setCtx_grp (c : Nat) (x : CtxState) : (s.setCtx c x).grp = s.grp := rfl
@[simp] theorem State.setCtx_sup (c : Nat) (x : CtxState) : (s.setCtx c x).sup = s.sup := rfl
@[simp] theorem State.setCtx_power (c : Nat) (x : CtxState) : (s.setCtx c x).power = s.power := rfl
@[simp] theorem State.setCtx_contain (c : Nat) (x : CtxState) : (s.setCtx c x).contain = s.contain := rfl
@[simp] theorem State.setCtx_boot (c : Nat) (x : CtxState) : (s.setCtx c x).boot = s.boot := rfl
@[simp] theorem State.setCtx_fuse (c : Nat) (x : CtxState) : (s.setCtx c x).fuse = s.fuse := rfl
@[simp] theorem State.setCtx_pins (c : Nat) (x : CtxState) : (s.setCtx c x).pins = s.pins := rfl
@[simp] theorem State.setCtx_sideband (c : Nat) (x : CtxState) : (s.setCtx c x).sideband = s.sideband := rfl
@[simp] theorem State.setCtx_pending (c : Nat) (x : CtxState) : (s.setCtx c x).pending = s.pending := rfl

@[simp] theorem State.setLink_ident (p : Nat) (l : Link) : (s.setLink p l).ident = s.ident := rfl
@[simp] theorem State.setLink_now (p : Nat) (l : Link) : (s.setLink p l).now = s.now := rfl
@[simp] theorem State.setLink_fresh (p : Nat) (l : Link) : (s.setLink p l).fresh = s.fresh := rfl
@[simp] theorem State.setLink_ptp (p : Nat) (l : Link) : (s.setLink p l).ptp = s.ptp := rfl
@[simp] theorem State.setLink_regs (p : Nat) (l : Link) : (s.setLink p l).regs = s.regs := rfl
@[simp] theorem State.setLink_born (p : Nat) (l : Link) : (s.setLink p l).born = s.born := rfl
@[simp] theorem State.setLink_latch (p : Nat) (l : Link) : (s.setLink p l).latch = s.latch := rfl
@[simp] theorem State.setLink_readValue (p : Nat) (l : Link) : (s.setLink p l).readValue = s.readValue := rfl
@[simp] theorem State.setLink_readData (p : Nat) (l : Link) : (s.setLink p l).readData = s.readData := rfl
@[simp] theorem State.setLink_readStatus (p : Nat) (l : Link) : (s.setLink p l).readStatus = s.readStatus := rfl
@[simp] theorem State.setLink_outbox (p : Nat) (l : Link) : (s.setLink p l).outbox = s.outbox := rfl
@[simp] theorem State.setLink_hostMem (p : Nat) (l : Link) : (s.setLink p l).hostMem = s.hostMem := rfl
@[simp] theorem State.setLink_bell (p : Nat) (l : Link) : (s.setLink p l).bell = s.bell := rfl
@[simp] theorem State.setLink_ledger (p : Nat) (l : Link) : (s.setLink p l).ledger = s.ledger := rfl
@[simp] theorem State.setLink_hold (p : Nat) (l : Link) : (s.setLink p l).hold = s.hold := rfl
@[simp] theorem State.setLink_tiles (p : Nat) (l : Link) : (s.setLink p l).tiles = s.tiles := rfl
@[simp] theorem State.setLink_dies (p : Nat) (l : Link) : (s.setLink p l).dies = s.dies := rfl
@[simp] theorem State.setLink_gth (p : Nat) (l : Link) : (s.setLink p l).gth = s.gth := rfl
@[simp] theorem State.setLink_ksk (p : Nat) (l : Link) : (s.setLink p l).ksk = s.ksk := rfl
@[simp] theorem State.setLink_pqs (p : Nat) (l : Link) : (s.setLink p l).pqs = s.pqs := rfl
@[simp] theorem State.setLink_errSeq (p : Nat) (l : Link) : (s.setLink p l).errSeq = s.errSeq := rfl
@[simp] theorem State.setLink_mem (p : Nat) (l : Link) : (s.setLink p l).mem = s.mem := rfl
@[simp] theorem State.setLink_alloc (p : Nat) (l : Link) : (s.setLink p l).alloc = s.alloc := rfl
@[simp] theorem State.setLink_hdg (p : Nat) (l : Link) : (s.setLink p l).hdg = s.hdg := rfl
@[simp] theorem State.setLink_load (p : Nat) (l : Link) : (s.setLink p l).load = s.load := rfl
@[simp] theorem State.setLink_lodge (p : Nat) (l : Link) : (s.setLink p l).lodge = s.lodge := rfl
@[simp] theorem State.setLink_ctxs (p : Nat) (l : Link) : (s.setLink p l).ctxs = s.ctxs := rfl
@[simp] theorem State.setLink_sup (p : Nat) (l : Link) : (s.setLink p l).sup = s.sup := rfl
@[simp] theorem State.setLink_power (p : Nat) (l : Link) : (s.setLink p l).power = s.power := rfl
@[simp] theorem State.setLink_contain (p : Nat) (l : Link) : (s.setLink p l).contain = s.contain := rfl
@[simp] theorem State.setLink_boot (p : Nat) (l : Link) : (s.setLink p l).boot = s.boot := rfl
@[simp] theorem State.setLink_fuse (p : Nat) (l : Link) : (s.setLink p l).fuse = s.fuse := rfl
@[simp] theorem State.setLink_pins (p : Nat) (l : Link) : (s.setLink p l).pins = s.pins := rfl
@[simp] theorem State.setLink_sideband (p : Nat) (l : Link) : (s.setLink p l).sideband = s.sideband := rfl
@[simp] theorem State.setLink_pending (p : Nat) (l : Link) : (s.setLink p l).pending = s.pending := rfl

@[simp] theorem State.setSent_ident (h : Nat) (x : SentState) : (s.setSent h x).ident = s.ident := rfl
@[simp] theorem State.setSent_now (h : Nat) (x : SentState) : (s.setSent h x).now = s.now := rfl
@[simp] theorem State.setSent_fresh (h : Nat) (x : SentState) : (s.setSent h x).fresh = s.fresh := rfl
@[simp] theorem State.setSent_ptp (h : Nat) (x : SentState) : (s.setSent h x).ptp = s.ptp := rfl
@[simp] theorem State.setSent_regs (h : Nat) (x : SentState) : (s.setSent h x).regs = s.regs := rfl
@[simp] theorem State.setSent_born (h : Nat) (x : SentState) : (s.setSent h x).born = s.born := rfl
@[simp] theorem State.setSent_latch (h : Nat) (x : SentState) : (s.setSent h x).latch = s.latch := rfl
@[simp] theorem State.setSent_readValue (h : Nat) (x : SentState) : (s.setSent h x).readValue = s.readValue := rfl
@[simp] theorem State.setSent_readData (h : Nat) (x : SentState) : (s.setSent h x).readData = s.readData := rfl
@[simp] theorem State.setSent_readStatus (h : Nat) (x : SentState) : (s.setSent h x).readStatus = s.readStatus := rfl
@[simp] theorem State.setSent_outbox (h : Nat) (x : SentState) : (s.setSent h x).outbox = s.outbox := rfl
@[simp] theorem State.setSent_hostMem (h : Nat) (x : SentState) : (s.setSent h x).hostMem = s.hostMem := rfl
@[simp] theorem State.setSent_bell (h : Nat) (x : SentState) : (s.setSent h x).bell = s.bell := rfl
@[simp] theorem State.setSent_ledger (h : Nat) (x : SentState) : (s.setSent h x).ledger = s.ledger := rfl
@[simp] theorem State.setSent_hold (h : Nat) (x : SentState) : (s.setSent h x).hold = s.hold := rfl
@[simp] theorem State.setSent_tiles (h : Nat) (x : SentState) : (s.setSent h x).tiles = s.tiles := rfl
@[simp] theorem State.setSent_dies (h : Nat) (x : SentState) : (s.setSent h x).dies = s.dies := rfl
@[simp] theorem State.setSent_gth (h : Nat) (x : SentState) : (s.setSent h x).gth = s.gth := rfl
@[simp] theorem State.setSent_ksk (h : Nat) (x : SentState) : (s.setSent h x).ksk = s.ksk := rfl
@[simp] theorem State.setSent_pqs (h : Nat) (x : SentState) : (s.setSent h x).pqs = s.pqs := rfl
@[simp] theorem State.setSent_errSeq (h : Nat) (x : SentState) : (s.setSent h x).errSeq = s.errSeq := rfl
@[simp] theorem State.setSent_mem (h : Nat) (x : SentState) : (s.setSent h x).mem = s.mem := rfl
@[simp] theorem State.setSent_alloc (h : Nat) (x : SentState) : (s.setSent h x).alloc = s.alloc := rfl
@[simp] theorem State.setSent_hdg (h : Nat) (x : SentState) : (s.setSent h x).hdg = s.hdg := rfl
@[simp] theorem State.setSent_load (h : Nat) (x : SentState) : (s.setSent h x).load = s.load := rfl
@[simp] theorem State.setSent_lodge (h : Nat) (x : SentState) : (s.setSent h x).lodge = s.lodge := rfl
@[simp] theorem State.setSent_ctxs (h : Nat) (x : SentState) : (s.setSent h x).ctxs = s.ctxs := rfl
@[simp] theorem State.setSent_grp (h : Nat) (x : SentState) : (s.setSent h x).grp = s.grp := rfl
@[simp] theorem State.setSent_power (h : Nat) (x : SentState) : (s.setSent h x).power = s.power := rfl
@[simp] theorem State.setSent_contain (h : Nat) (x : SentState) : (s.setSent h x).contain = s.contain := rfl
@[simp] theorem State.setSent_boot (h : Nat) (x : SentState) : (s.setSent h x).boot = s.boot := rfl
@[simp] theorem State.setSent_fuse (h : Nat) (x : SentState) : (s.setSent h x).fuse = s.fuse := rfl
@[simp] theorem State.setSent_pins (h : Nat) (x : SentState) : (s.setSent h x).pins = s.pins := rfl
@[simp] theorem State.setSent_sideband (h : Nat) (x : SentState) : (s.setSent h x).sideband = s.sideband := rfl
@[simp] theorem State.setSent_pending (h : Nat) (x : SentState) : (s.setSent h x).pending = s.pending := rfl

@[simp] theorem State.updBell_ident (f : BellState → BellState) : (s.updBell f).ident = s.ident := rfl
@[simp] theorem State.updBell_now (f : BellState → BellState) : (s.updBell f).now = s.now := rfl
@[simp] theorem State.updBell_fresh (f : BellState → BellState) : (s.updBell f).fresh = s.fresh := rfl
@[simp] theorem State.updBell_ptp (f : BellState → BellState) : (s.updBell f).ptp = s.ptp := rfl
@[simp] theorem State.updBell_regs (f : BellState → BellState) : (s.updBell f).regs = s.regs := rfl
@[simp] theorem State.updBell_born (f : BellState → BellState) : (s.updBell f).born = s.born := rfl
@[simp] theorem State.updBell_latch (f : BellState → BellState) : (s.updBell f).latch = s.latch := rfl
@[simp] theorem State.updBell_readValue (f : BellState → BellState) : (s.updBell f).readValue = s.readValue := rfl
@[simp] theorem State.updBell_readData (f : BellState → BellState) : (s.updBell f).readData = s.readData := rfl
@[simp] theorem State.updBell_readStatus (f : BellState → BellState) : (s.updBell f).readStatus = s.readStatus := rfl
@[simp] theorem State.updBell_outbox (f : BellState → BellState) : (s.updBell f).outbox = s.outbox := rfl
@[simp] theorem State.updBell_hostMem (f : BellState → BellState) : (s.updBell f).hostMem = s.hostMem := rfl
@[simp] theorem State.updBell_ledger (f : BellState → BellState) : (s.updBell f).ledger = s.ledger := rfl
@[simp] theorem State.updBell_hold (f : BellState → BellState) : (s.updBell f).hold = s.hold := rfl
@[simp] theorem State.updBell_tiles (f : BellState → BellState) : (s.updBell f).tiles = s.tiles := rfl
@[simp] theorem State.updBell_dies (f : BellState → BellState) : (s.updBell f).dies = s.dies := rfl
@[simp] theorem State.updBell_gth (f : BellState → BellState) : (s.updBell f).gth = s.gth := rfl
@[simp] theorem State.updBell_ksk (f : BellState → BellState) : (s.updBell f).ksk = s.ksk := rfl
@[simp] theorem State.updBell_pqs (f : BellState → BellState) : (s.updBell f).pqs = s.pqs := rfl
@[simp] theorem State.updBell_errSeq (f : BellState → BellState) : (s.updBell f).errSeq = s.errSeq := rfl
@[simp] theorem State.updBell_mem (f : BellState → BellState) : (s.updBell f).mem = s.mem := rfl
@[simp] theorem State.updBell_alloc (f : BellState → BellState) : (s.updBell f).alloc = s.alloc := rfl
@[simp] theorem State.updBell_hdg (f : BellState → BellState) : (s.updBell f).hdg = s.hdg := rfl
@[simp] theorem State.updBell_load (f : BellState → BellState) : (s.updBell f).load = s.load := rfl
@[simp] theorem State.updBell_lodge (f : BellState → BellState) : (s.updBell f).lodge = s.lodge := rfl
@[simp] theorem State.updBell_ctxs (f : BellState → BellState) : (s.updBell f).ctxs = s.ctxs := rfl
@[simp] theorem State.updBell_grp (f : BellState → BellState) : (s.updBell f).grp = s.grp := rfl
@[simp] theorem State.updBell_sup (f : BellState → BellState) : (s.updBell f).sup = s.sup := rfl
@[simp] theorem State.updBell_power (f : BellState → BellState) : (s.updBell f).power = s.power := rfl
@[simp] theorem State.updBell_contain (f : BellState → BellState) : (s.updBell f).contain = s.contain := rfl
@[simp] theorem State.updBell_boot (f : BellState → BellState) : (s.updBell f).boot = s.boot := rfl
@[simp] theorem State.updBell_fuse (f : BellState → BellState) : (s.updBell f).fuse = s.fuse := rfl
@[simp] theorem State.updBell_pins (f : BellState → BellState) : (s.updBell f).pins = s.pins := rfl
@[simp] theorem State.updBell_sideband (f : BellState → BellState) : (s.updBell f).sideband = s.sideband := rfl
@[simp] theorem State.updBell_pending (f : BellState → BellState) : (s.updBell f).pending = s.pending := rfl

@[simp] theorem State.updGrp_ident (f : GroupState → GroupState) : (s.updGrp f).ident = s.ident := rfl
@[simp] theorem State.updGrp_now (f : GroupState → GroupState) : (s.updGrp f).now = s.now := rfl
@[simp] theorem State.updGrp_fresh (f : GroupState → GroupState) : (s.updGrp f).fresh = s.fresh := rfl
@[simp] theorem State.updGrp_ptp (f : GroupState → GroupState) : (s.updGrp f).ptp = s.ptp := rfl
@[simp] theorem State.updGrp_regs (f : GroupState → GroupState) : (s.updGrp f).regs = s.regs := rfl
@[simp] theorem State.updGrp_born (f : GroupState → GroupState) : (s.updGrp f).born = s.born := rfl
@[simp] theorem State.updGrp_latch (f : GroupState → GroupState) : (s.updGrp f).latch = s.latch := rfl
@[simp] theorem State.updGrp_readValue (f : GroupState → GroupState) : (s.updGrp f).readValue = s.readValue := rfl
@[simp] theorem State.updGrp_readData (f : GroupState → GroupState) : (s.updGrp f).readData = s.readData := rfl
@[simp] theorem State.updGrp_readStatus (f : GroupState → GroupState) : (s.updGrp f).readStatus = s.readStatus := rfl
@[simp] theorem State.updGrp_outbox (f : GroupState → GroupState) : (s.updGrp f).outbox = s.outbox := rfl
@[simp] theorem State.updGrp_hostMem (f : GroupState → GroupState) : (s.updGrp f).hostMem = s.hostMem := rfl
@[simp] theorem State.updGrp_bell (f : GroupState → GroupState) : (s.updGrp f).bell = s.bell := rfl
@[simp] theorem State.updGrp_ledger (f : GroupState → GroupState) : (s.updGrp f).ledger = s.ledger := rfl
@[simp] theorem State.updGrp_hold (f : GroupState → GroupState) : (s.updGrp f).hold = s.hold := rfl
@[simp] theorem State.updGrp_tiles (f : GroupState → GroupState) : (s.updGrp f).tiles = s.tiles := rfl
@[simp] theorem State.updGrp_dies (f : GroupState → GroupState) : (s.updGrp f).dies = s.dies := rfl
@[simp] theorem State.updGrp_gth (f : GroupState → GroupState) : (s.updGrp f).gth = s.gth := rfl
@[simp] theorem State.updGrp_ksk (f : GroupState → GroupState) : (s.updGrp f).ksk = s.ksk := rfl
@[simp] theorem State.updGrp_pqs (f : GroupState → GroupState) : (s.updGrp f).pqs = s.pqs := rfl
@[simp] theorem State.updGrp_errSeq (f : GroupState → GroupState) : (s.updGrp f).errSeq = s.errSeq := rfl
@[simp] theorem State.updGrp_mem (f : GroupState → GroupState) : (s.updGrp f).mem = s.mem := rfl
@[simp] theorem State.updGrp_alloc (f : GroupState → GroupState) : (s.updGrp f).alloc = s.alloc := rfl
@[simp] theorem State.updGrp_hdg (f : GroupState → GroupState) : (s.updGrp f).hdg = s.hdg := rfl
@[simp] theorem State.updGrp_load (f : GroupState → GroupState) : (s.updGrp f).load = s.load := rfl
@[simp] theorem State.updGrp_lodge (f : GroupState → GroupState) : (s.updGrp f).lodge = s.lodge := rfl
@[simp] theorem State.updGrp_ctxs (f : GroupState → GroupState) : (s.updGrp f).ctxs = s.ctxs := rfl
@[simp] theorem State.updGrp_sup (f : GroupState → GroupState) : (s.updGrp f).sup = s.sup := rfl
@[simp] theorem State.updGrp_power (f : GroupState → GroupState) : (s.updGrp f).power = s.power := rfl
@[simp] theorem State.updGrp_contain (f : GroupState → GroupState) : (s.updGrp f).contain = s.contain := rfl
@[simp] theorem State.updGrp_boot (f : GroupState → GroupState) : (s.updGrp f).boot = s.boot := rfl
@[simp] theorem State.updGrp_fuse (f : GroupState → GroupState) : (s.updGrp f).fuse = s.fuse := rfl
@[simp] theorem State.updGrp_pins (f : GroupState → GroupState) : (s.updGrp f).pins = s.pins := rfl
@[simp] theorem State.updGrp_sideband (f : GroupState → GroupState) : (s.updGrp f).sideband = s.sideband := rfl
@[simp] theorem State.updGrp_pending (f : GroupState → GroupState) : (s.updGrp f).pending = s.pending := rfl

@[simp] theorem State.updLoad_ident (f : LoadState → LoadState) : (s.updLoad f).ident = s.ident := rfl
@[simp] theorem State.updLoad_now (f : LoadState → LoadState) : (s.updLoad f).now = s.now := rfl
@[simp] theorem State.updLoad_fresh (f : LoadState → LoadState) : (s.updLoad f).fresh = s.fresh := rfl
@[simp] theorem State.updLoad_ptp (f : LoadState → LoadState) : (s.updLoad f).ptp = s.ptp := rfl
@[simp] theorem State.updLoad_regs (f : LoadState → LoadState) : (s.updLoad f).regs = s.regs := rfl
@[simp] theorem State.updLoad_born (f : LoadState → LoadState) : (s.updLoad f).born = s.born := rfl
@[simp] theorem State.updLoad_latch (f : LoadState → LoadState) : (s.updLoad f).latch = s.latch := rfl
@[simp] theorem State.updLoad_readValue (f : LoadState → LoadState) : (s.updLoad f).readValue = s.readValue := rfl
@[simp] theorem State.updLoad_readData (f : LoadState → LoadState) : (s.updLoad f).readData = s.readData := rfl
@[simp] theorem State.updLoad_readStatus (f : LoadState → LoadState) : (s.updLoad f).readStatus = s.readStatus := rfl
@[simp] theorem State.updLoad_outbox (f : LoadState → LoadState) : (s.updLoad f).outbox = s.outbox := rfl
@[simp] theorem State.updLoad_hostMem (f : LoadState → LoadState) : (s.updLoad f).hostMem = s.hostMem := rfl
@[simp] theorem State.updLoad_bell (f : LoadState → LoadState) : (s.updLoad f).bell = s.bell := rfl
@[simp] theorem State.updLoad_ledger (f : LoadState → LoadState) : (s.updLoad f).ledger = s.ledger := rfl
@[simp] theorem State.updLoad_hold (f : LoadState → LoadState) : (s.updLoad f).hold = s.hold := rfl
@[simp] theorem State.updLoad_tiles (f : LoadState → LoadState) : (s.updLoad f).tiles = s.tiles := rfl
@[simp] theorem State.updLoad_dies (f : LoadState → LoadState) : (s.updLoad f).dies = s.dies := rfl
@[simp] theorem State.updLoad_gth (f : LoadState → LoadState) : (s.updLoad f).gth = s.gth := rfl
@[simp] theorem State.updLoad_ksk (f : LoadState → LoadState) : (s.updLoad f).ksk = s.ksk := rfl
@[simp] theorem State.updLoad_pqs (f : LoadState → LoadState) : (s.updLoad f).pqs = s.pqs := rfl
@[simp] theorem State.updLoad_errSeq (f : LoadState → LoadState) : (s.updLoad f).errSeq = s.errSeq := rfl
@[simp] theorem State.updLoad_mem (f : LoadState → LoadState) : (s.updLoad f).mem = s.mem := rfl
@[simp] theorem State.updLoad_alloc (f : LoadState → LoadState) : (s.updLoad f).alloc = s.alloc := rfl
@[simp] theorem State.updLoad_hdg (f : LoadState → LoadState) : (s.updLoad f).hdg = s.hdg := rfl
@[simp] theorem State.updLoad_lodge (f : LoadState → LoadState) : (s.updLoad f).lodge = s.lodge := rfl
@[simp] theorem State.updLoad_ctxs (f : LoadState → LoadState) : (s.updLoad f).ctxs = s.ctxs := rfl
@[simp] theorem State.updLoad_grp (f : LoadState → LoadState) : (s.updLoad f).grp = s.grp := rfl
@[simp] theorem State.updLoad_sup (f : LoadState → LoadState) : (s.updLoad f).sup = s.sup := rfl
@[simp] theorem State.updLoad_power (f : LoadState → LoadState) : (s.updLoad f).power = s.power := rfl
@[simp] theorem State.updLoad_contain (f : LoadState → LoadState) : (s.updLoad f).contain = s.contain := rfl
@[simp] theorem State.updLoad_boot (f : LoadState → LoadState) : (s.updLoad f).boot = s.boot := rfl
@[simp] theorem State.updLoad_fuse (f : LoadState → LoadState) : (s.updLoad f).fuse = s.fuse := rfl
@[simp] theorem State.updLoad_pins (f : LoadState → LoadState) : (s.updLoad f).pins = s.pins := rfl
@[simp] theorem State.updLoad_sideband (f : LoadState → LoadState) : (s.updLoad f).sideband = s.sideband := rfl
@[simp] theorem State.updLoad_pending (f : LoadState → LoadState) : (s.updLoad f).pending = s.pending := rfl

@[simp] theorem State.updBoot_ident (f : BootState → BootState) : (s.updBoot f).ident = s.ident := rfl
@[simp] theorem State.updBoot_now (f : BootState → BootState) : (s.updBoot f).now = s.now := rfl
@[simp] theorem State.updBoot_fresh (f : BootState → BootState) : (s.updBoot f).fresh = s.fresh := rfl
@[simp] theorem State.updBoot_ptp (f : BootState → BootState) : (s.updBoot f).ptp = s.ptp := rfl
@[simp] theorem State.updBoot_regs (f : BootState → BootState) : (s.updBoot f).regs = s.regs := rfl
@[simp] theorem State.updBoot_born (f : BootState → BootState) : (s.updBoot f).born = s.born := rfl
@[simp] theorem State.updBoot_latch (f : BootState → BootState) : (s.updBoot f).latch = s.latch := rfl
@[simp] theorem State.updBoot_readValue (f : BootState → BootState) : (s.updBoot f).readValue = s.readValue := rfl
@[simp] theorem State.updBoot_readData (f : BootState → BootState) : (s.updBoot f).readData = s.readData := rfl
@[simp] theorem State.updBoot_readStatus (f : BootState → BootState) : (s.updBoot f).readStatus = s.readStatus := rfl
@[simp] theorem State.updBoot_outbox (f : BootState → BootState) : (s.updBoot f).outbox = s.outbox := rfl
@[simp] theorem State.updBoot_hostMem (f : BootState → BootState) : (s.updBoot f).hostMem = s.hostMem := rfl
@[simp] theorem State.updBoot_bell (f : BootState → BootState) : (s.updBoot f).bell = s.bell := rfl
@[simp] theorem State.updBoot_ledger (f : BootState → BootState) : (s.updBoot f).ledger = s.ledger := rfl
@[simp] theorem State.updBoot_hold (f : BootState → BootState) : (s.updBoot f).hold = s.hold := rfl
@[simp] theorem State.updBoot_tiles (f : BootState → BootState) : (s.updBoot f).tiles = s.tiles := rfl
@[simp] theorem State.updBoot_dies (f : BootState → BootState) : (s.updBoot f).dies = s.dies := rfl
@[simp] theorem State.updBoot_gth (f : BootState → BootState) : (s.updBoot f).gth = s.gth := rfl
@[simp] theorem State.updBoot_ksk (f : BootState → BootState) : (s.updBoot f).ksk = s.ksk := rfl
@[simp] theorem State.updBoot_pqs (f : BootState → BootState) : (s.updBoot f).pqs = s.pqs := rfl
@[simp] theorem State.updBoot_errSeq (f : BootState → BootState) : (s.updBoot f).errSeq = s.errSeq := rfl
@[simp] theorem State.updBoot_mem (f : BootState → BootState) : (s.updBoot f).mem = s.mem := rfl
@[simp] theorem State.updBoot_alloc (f : BootState → BootState) : (s.updBoot f).alloc = s.alloc := rfl
@[simp] theorem State.updBoot_hdg (f : BootState → BootState) : (s.updBoot f).hdg = s.hdg := rfl
@[simp] theorem State.updBoot_load (f : BootState → BootState) : (s.updBoot f).load = s.load := rfl
@[simp] theorem State.updBoot_lodge (f : BootState → BootState) : (s.updBoot f).lodge = s.lodge := rfl
@[simp] theorem State.updBoot_ctxs (f : BootState → BootState) : (s.updBoot f).ctxs = s.ctxs := rfl
@[simp] theorem State.updBoot_grp (f : BootState → BootState) : (s.updBoot f).grp = s.grp := rfl
@[simp] theorem State.updBoot_sup (f : BootState → BootState) : (s.updBoot f).sup = s.sup := rfl
@[simp] theorem State.updBoot_power (f : BootState → BootState) : (s.updBoot f).power = s.power := rfl
@[simp] theorem State.updBoot_contain (f : BootState → BootState) : (s.updBoot f).contain = s.contain := rfl
@[simp] theorem State.updBoot_fuse (f : BootState → BootState) : (s.updBoot f).fuse = s.fuse := rfl
@[simp] theorem State.updBoot_pins (f : BootState → BootState) : (s.updBoot f).pins = s.pins := rfl
@[simp] theorem State.updBoot_sideband (f : BootState → BootState) : (s.updBoot f).sideband = s.sideband := rfl
@[simp] theorem State.updBoot_pending (f : BootState → BootState) : (s.updBoot f).pending = s.pending := rfl

@[simp] theorem State.updPins_ident (f : PinState → PinState) : (s.updPins f).ident = s.ident := rfl
@[simp] theorem State.updPins_now (f : PinState → PinState) : (s.updPins f).now = s.now := rfl
@[simp] theorem State.updPins_fresh (f : PinState → PinState) : (s.updPins f).fresh = s.fresh := rfl
@[simp] theorem State.updPins_ptp (f : PinState → PinState) : (s.updPins f).ptp = s.ptp := rfl
@[simp] theorem State.updPins_regs (f : PinState → PinState) : (s.updPins f).regs = s.regs := rfl
@[simp] theorem State.updPins_born (f : PinState → PinState) : (s.updPins f).born = s.born := rfl
@[simp] theorem State.updPins_latch (f : PinState → PinState) : (s.updPins f).latch = s.latch := rfl
@[simp] theorem State.updPins_readValue (f : PinState → PinState) : (s.updPins f).readValue = s.readValue := rfl
@[simp] theorem State.updPins_readData (f : PinState → PinState) : (s.updPins f).readData = s.readData := rfl
@[simp] theorem State.updPins_readStatus (f : PinState → PinState) : (s.updPins f).readStatus = s.readStatus := rfl
@[simp] theorem State.updPins_outbox (f : PinState → PinState) : (s.updPins f).outbox = s.outbox := rfl
@[simp] theorem State.updPins_hostMem (f : PinState → PinState) : (s.updPins f).hostMem = s.hostMem := rfl
@[simp] theorem State.updPins_bell (f : PinState → PinState) : (s.updPins f).bell = s.bell := rfl
@[simp] theorem State.updPins_ledger (f : PinState → PinState) : (s.updPins f).ledger = s.ledger := rfl
@[simp] theorem State.updPins_hold (f : PinState → PinState) : (s.updPins f).hold = s.hold := rfl
@[simp] theorem State.updPins_tiles (f : PinState → PinState) : (s.updPins f).tiles = s.tiles := rfl
@[simp] theorem State.updPins_dies (f : PinState → PinState) : (s.updPins f).dies = s.dies := rfl
@[simp] theorem State.updPins_gth (f : PinState → PinState) : (s.updPins f).gth = s.gth := rfl
@[simp] theorem State.updPins_ksk (f : PinState → PinState) : (s.updPins f).ksk = s.ksk := rfl
@[simp] theorem State.updPins_pqs (f : PinState → PinState) : (s.updPins f).pqs = s.pqs := rfl
@[simp] theorem State.updPins_errSeq (f : PinState → PinState) : (s.updPins f).errSeq = s.errSeq := rfl
@[simp] theorem State.updPins_mem (f : PinState → PinState) : (s.updPins f).mem = s.mem := rfl
@[simp] theorem State.updPins_alloc (f : PinState → PinState) : (s.updPins f).alloc = s.alloc := rfl
@[simp] theorem State.updPins_hdg (f : PinState → PinState) : (s.updPins f).hdg = s.hdg := rfl
@[simp] theorem State.updPins_load (f : PinState → PinState) : (s.updPins f).load = s.load := rfl
@[simp] theorem State.updPins_lodge (f : PinState → PinState) : (s.updPins f).lodge = s.lodge := rfl
@[simp] theorem State.updPins_ctxs (f : PinState → PinState) : (s.updPins f).ctxs = s.ctxs := rfl
@[simp] theorem State.updPins_grp (f : PinState → PinState) : (s.updPins f).grp = s.grp := rfl
@[simp] theorem State.updPins_sup (f : PinState → PinState) : (s.updPins f).sup = s.sup := rfl
@[simp] theorem State.updPins_power (f : PinState → PinState) : (s.updPins f).power = s.power := rfl
@[simp] theorem State.updPins_contain (f : PinState → PinState) : (s.updPins f).contain = s.contain := rfl
@[simp] theorem State.updPins_boot (f : PinState → PinState) : (s.updPins f).boot = s.boot := rfl
@[simp] theorem State.updPins_fuse (f : PinState → PinState) : (s.updPins f).fuse = s.fuse := rfl
@[simp] theorem State.updPins_sideband (f : PinState → PinState) : (s.updPins f).sideband = s.sideband := rfl
@[simp] theorem State.updPins_pending (f : PinState → PinState) : (s.updPins f).pending = s.pending := rfl

@[simp] theorem State.updSup_ident (f : SupState → SupState) : (s.updSup f).ident = s.ident := rfl
@[simp] theorem State.updSup_now (f : SupState → SupState) : (s.updSup f).now = s.now := rfl
@[simp] theorem State.updSup_fresh (f : SupState → SupState) : (s.updSup f).fresh = s.fresh := rfl
@[simp] theorem State.updSup_ptp (f : SupState → SupState) : (s.updSup f).ptp = s.ptp := rfl
@[simp] theorem State.updSup_regs (f : SupState → SupState) : (s.updSup f).regs = s.regs := rfl
@[simp] theorem State.updSup_born (f : SupState → SupState) : (s.updSup f).born = s.born := rfl
@[simp] theorem State.updSup_latch (f : SupState → SupState) : (s.updSup f).latch = s.latch := rfl
@[simp] theorem State.updSup_readValue (f : SupState → SupState) : (s.updSup f).readValue = s.readValue := rfl
@[simp] theorem State.updSup_readData (f : SupState → SupState) : (s.updSup f).readData = s.readData := rfl
@[simp] theorem State.updSup_readStatus (f : SupState → SupState) : (s.updSup f).readStatus = s.readStatus := rfl
@[simp] theorem State.updSup_outbox (f : SupState → SupState) : (s.updSup f).outbox = s.outbox := rfl
@[simp] theorem State.updSup_hostMem (f : SupState → SupState) : (s.updSup f).hostMem = s.hostMem := rfl
@[simp] theorem State.updSup_bell (f : SupState → SupState) : (s.updSup f).bell = s.bell := rfl
@[simp] theorem State.updSup_ledger (f : SupState → SupState) : (s.updSup f).ledger = s.ledger := rfl
@[simp] theorem State.updSup_hold (f : SupState → SupState) : (s.updSup f).hold = s.hold := rfl
@[simp] theorem State.updSup_tiles (f : SupState → SupState) : (s.updSup f).tiles = s.tiles := rfl
@[simp] theorem State.updSup_dies (f : SupState → SupState) : (s.updSup f).dies = s.dies := rfl
@[simp] theorem State.updSup_gth (f : SupState → SupState) : (s.updSup f).gth = s.gth := rfl
@[simp] theorem State.updSup_ksk (f : SupState → SupState) : (s.updSup f).ksk = s.ksk := rfl
@[simp] theorem State.updSup_pqs (f : SupState → SupState) : (s.updSup f).pqs = s.pqs := rfl
@[simp] theorem State.updSup_errSeq (f : SupState → SupState) : (s.updSup f).errSeq = s.errSeq := rfl
@[simp] theorem State.updSup_mem (f : SupState → SupState) : (s.updSup f).mem = s.mem := rfl
@[simp] theorem State.updSup_alloc (f : SupState → SupState) : (s.updSup f).alloc = s.alloc := rfl
@[simp] theorem State.updSup_hdg (f : SupState → SupState) : (s.updSup f).hdg = s.hdg := rfl
@[simp] theorem State.updSup_load (f : SupState → SupState) : (s.updSup f).load = s.load := rfl
@[simp] theorem State.updSup_lodge (f : SupState → SupState) : (s.updSup f).lodge = s.lodge := rfl
@[simp] theorem State.updSup_ctxs (f : SupState → SupState) : (s.updSup f).ctxs = s.ctxs := rfl
@[simp] theorem State.updSup_grp (f : SupState → SupState) : (s.updSup f).grp = s.grp := rfl
@[simp] theorem State.updSup_power (f : SupState → SupState) : (s.updSup f).power = s.power := rfl
@[simp] theorem State.updSup_contain (f : SupState → SupState) : (s.updSup f).contain = s.contain := rfl
@[simp] theorem State.updSup_boot (f : SupState → SupState) : (s.updSup f).boot = s.boot := rfl
@[simp] theorem State.updSup_fuse (f : SupState → SupState) : (s.updSup f).fuse = s.fuse := rfl
@[simp] theorem State.updSup_pins (f : SupState → SupState) : (s.updSup f).pins = s.pins := rfl
@[simp] theorem State.updSup_sideband (f : SupState → SupState) : (s.updSup f).sideband = s.sideband := rfl
@[simp] theorem State.updSup_pending (f : SupState → SupState) : (s.updSup f).pending = s.pending := rfl

@[simp] theorem State.useFree_ident : s.useFree.ident = s.ident := rfl
@[simp] theorem State.useFree_now : s.useFree.now = s.now := rfl
@[simp] theorem State.useFree_ptp : s.useFree.ptp = s.ptp := rfl
@[simp] theorem State.useFree_regs : s.useFree.regs = s.regs := rfl
@[simp] theorem State.useFree_born : s.useFree.born = s.born := rfl
@[simp] theorem State.useFree_latch : s.useFree.latch = s.latch := rfl
@[simp] theorem State.useFree_readValue : s.useFree.readValue = s.readValue := rfl
@[simp] theorem State.useFree_readData : s.useFree.readData = s.readData := rfl
@[simp] theorem State.useFree_readStatus : s.useFree.readStatus = s.readStatus := rfl
@[simp] theorem State.useFree_outbox : s.useFree.outbox = s.outbox := rfl
@[simp] theorem State.useFree_hostMem : s.useFree.hostMem = s.hostMem := rfl
@[simp] theorem State.useFree_bell : s.useFree.bell = s.bell := rfl
@[simp] theorem State.useFree_ledger : s.useFree.ledger = s.ledger := rfl
@[simp] theorem State.useFree_hold : s.useFree.hold = s.hold := rfl
@[simp] theorem State.useFree_tiles : s.useFree.tiles = s.tiles := rfl
@[simp] theorem State.useFree_dies : s.useFree.dies = s.dies := rfl
@[simp] theorem State.useFree_gth : s.useFree.gth = s.gth := rfl
@[simp] theorem State.useFree_ksk : s.useFree.ksk = s.ksk := rfl
@[simp] theorem State.useFree_pqs : s.useFree.pqs = s.pqs := rfl
@[simp] theorem State.useFree_errSeq : s.useFree.errSeq = s.errSeq := rfl
@[simp] theorem State.useFree_mem : s.useFree.mem = s.mem := rfl
@[simp] theorem State.useFree_alloc : s.useFree.alloc = s.alloc := rfl
@[simp] theorem State.useFree_hdg : s.useFree.hdg = s.hdg := rfl
@[simp] theorem State.useFree_load : s.useFree.load = s.load := rfl
@[simp] theorem State.useFree_lodge : s.useFree.lodge = s.lodge := rfl
@[simp] theorem State.useFree_ctxs : s.useFree.ctxs = s.ctxs := rfl
@[simp] theorem State.useFree_grp : s.useFree.grp = s.grp := rfl
@[simp] theorem State.useFree_sup : s.useFree.sup = s.sup := rfl
@[simp] theorem State.useFree_power : s.useFree.power = s.power := rfl
@[simp] theorem State.useFree_contain : s.useFree.contain = s.contain := rfl
@[simp] theorem State.useFree_boot : s.useFree.boot = s.boot := rfl
@[simp] theorem State.useFree_fuse : s.useFree.fuse = s.fuse := rfl
@[simp] theorem State.useFree_pins : s.useFree.pins = s.pins := rfl
@[simp] theorem State.useFree_sideband : s.useFree.sideband = s.sideband := rfl
@[simp] theorem State.useFree_pending : s.useFree.pending = s.pending := rfl

@[simp] theorem State.send_ident (m : OutMsg) : (s.send m).ident = s.ident := rfl
@[simp] theorem State.send_now (m : OutMsg) : (s.send m).now = s.now := rfl
@[simp] theorem State.send_fresh (m : OutMsg) : (s.send m).fresh = s.fresh := rfl
@[simp] theorem State.send_ptp (m : OutMsg) : (s.send m).ptp = s.ptp := rfl
@[simp] theorem State.send_regs (m : OutMsg) : (s.send m).regs = s.regs := rfl
@[simp] theorem State.send_born (m : OutMsg) : (s.send m).born = s.born := rfl
@[simp] theorem State.send_latch (m : OutMsg) : (s.send m).latch = s.latch := rfl
@[simp] theorem State.send_readValue (m : OutMsg) : (s.send m).readValue = s.readValue := rfl
@[simp] theorem State.send_readData (m : OutMsg) : (s.send m).readData = s.readData := rfl
@[simp] theorem State.send_readStatus (m : OutMsg) : (s.send m).readStatus = s.readStatus := rfl
@[simp] theorem State.send_hostMem (m : OutMsg) : (s.send m).hostMem = s.hostMem := rfl
@[simp] theorem State.send_bell (m : OutMsg) : (s.send m).bell = s.bell := rfl
@[simp] theorem State.send_ledger (m : OutMsg) : (s.send m).ledger = s.ledger := rfl
@[simp] theorem State.send_hold (m : OutMsg) : (s.send m).hold = s.hold := rfl
@[simp] theorem State.send_tiles (m : OutMsg) : (s.send m).tiles = s.tiles := rfl
@[simp] theorem State.send_dies (m : OutMsg) : (s.send m).dies = s.dies := rfl
@[simp] theorem State.send_gth (m : OutMsg) : (s.send m).gth = s.gth := rfl
@[simp] theorem State.send_ksk (m : OutMsg) : (s.send m).ksk = s.ksk := rfl
@[simp] theorem State.send_pqs (m : OutMsg) : (s.send m).pqs = s.pqs := rfl
@[simp] theorem State.send_errSeq (m : OutMsg) : (s.send m).errSeq = s.errSeq := rfl
@[simp] theorem State.send_mem (m : OutMsg) : (s.send m).mem = s.mem := rfl
@[simp] theorem State.send_alloc (m : OutMsg) : (s.send m).alloc = s.alloc := rfl
@[simp] theorem State.send_hdg (m : OutMsg) : (s.send m).hdg = s.hdg := rfl
@[simp] theorem State.send_load (m : OutMsg) : (s.send m).load = s.load := rfl
@[simp] theorem State.send_lodge (m : OutMsg) : (s.send m).lodge = s.lodge := rfl
@[simp] theorem State.send_ctxs (m : OutMsg) : (s.send m).ctxs = s.ctxs := rfl
@[simp] theorem State.send_grp (m : OutMsg) : (s.send m).grp = s.grp := rfl
@[simp] theorem State.send_sup (m : OutMsg) : (s.send m).sup = s.sup := rfl
@[simp] theorem State.send_power (m : OutMsg) : (s.send m).power = s.power := rfl
@[simp] theorem State.send_contain (m : OutMsg) : (s.send m).contain = s.contain := rfl
@[simp] theorem State.send_boot (m : OutMsg) : (s.send m).boot = s.boot := rfl
@[simp] theorem State.send_fuse (m : OutMsg) : (s.send m).fuse = s.fuse := rfl
@[simp] theorem State.send_pins (m : OutMsg) : (s.send m).pins = s.pins := rfl
@[simp] theorem State.send_sideband (m : OutMsg) : (s.send m).sideband = s.sideband := rfl
@[simp] theorem State.send_pending (m : OutMsg) : (s.send m).pending = s.pending := rfl

end Sys2Proof.Machine
end

