-- ==== Sys2Proof/Laws/Tab.lean ====
section
/-!
SUPPORT. Sparse tables and memories: a read after a write, and the canonical form that every operation keeps.
-/
namespace Sys2Proof.Machine

variable {α : Type}

@[simp] theorem Tab.get_nil (d : Nat → α) (k : Nat) : Tab.get d [] k = d k := rfl

theorem Tab.get_put_same [DecidableEq α] (d : Nat → α) (m : Tab α) (k : Nat) (v : α) (hm : Tab.wf d m = true) :
    Tab.get d (Tab.put d m k v) k = v := by
  have key : ∀ (m : Tab α) (lo : Nat), Tab.wfFrom d lo m = true → Tab.get d (Tab.put d m k v) k = v ∧
      (k < lo → Tab.get d m k = d k) := by
    intro m
    induction m with
    | nil =>
      intro lo _
      refine ⟨?_, fun _ => rfl⟩
      unfold Tab.put
      split
      · rename_i h; simp [h]
      · simp [Tab.get]
    | cons e t ih =>
      obtain ⟨j, w⟩ := e
      intro lo h
      simp only [Tab.wfFrom, Bool.and_eq_true, decide_eq_true_eq] at h
      obtain ⟨⟨hlo, _⟩, ht⟩ := h
      have iht := ih (j + 1) ht
      refine ⟨?_, ?_⟩
      · unfold Tab.put
        split
        · rename_i hk
          split
          · rename_i hv
            have : ¬ j = k := by omega
            simp [Tab.get, this, iht.2 (by omega), hv]
          · simp [Tab.get]
        · split
          · rename_i hk
            subst hk
            split
            · rename_i hv
              simp [iht.2 (by omega), hv]
            · simp [Tab.get]
          · have : ¬ j = k := by omega
            simp [Tab.get, this, iht.1]
      · intro hk
        have : ¬ j = k := by omega
        simp [Tab.get, this, iht.2 (by omega)]
  exact (key m 0 hm).1

theorem Tab.get_put_other [DecidableEq α] (d : Nat → α) (m : Tab α) (k j : Nat) (v : α) (h : j ≠ k) :
    Tab.get d (Tab.put d m k v) j = Tab.get d m j := by
  induction m with
  | nil =>
    unfold Tab.put
    split
    · rfl
    · simp [Tab.get, Ne.symm h]
  | cons e t ih =>
    obtain ⟨i, w⟩ := e
    unfold Tab.put
    split
    · split
      · rfl
      · simp [Tab.get, Ne.symm h]
    · split
      · rename_i hk
        subst hk
        split <;> simp [Tab.get, Ne.symm h]
      · simp [Tab.get, ih]

theorem Tab.wfFrom_mono [DecidableEq α] (d : Nat → α) (m : Tab α) (a b : Nat) (hab : a ≤ b)
    (h : Tab.wfFrom d b m = true) : Tab.wfFrom d a m = true := by
  cases m with
  | nil => rfl
  | cons e t =>
    obtain ⟨j, v⟩ := e
    simp only [Tab.wfFrom, Bool.and_eq_true, decide_eq_true_eq] at h ⊢
    exact ⟨⟨by omega, h.1.2⟩, h.2⟩

theorem Tab.put_wfFrom [DecidableEq α] (d : Nat → α) (m : Tab α) (lo k : Nat) (v : α) (hk : lo ≤ k)
    (h : Tab.wfFrom d lo m = true) : Tab.wfFrom d lo (Tab.put d m k v) = true := by
  induction m generalizing lo with
  | nil =>
    unfold Tab.put
    split
    · rfl
    · rename_i hv
      simp [Tab.wfFrom, hk, hv]
  | cons e t ih =>
    obtain ⟨j, w⟩ := e
    simp only [Tab.wfFrom, Bool.and_eq_true, decide_eq_true_eq] at h
    unfold Tab.put
    split
    · rename_i hkj
      split
      · simp [Tab.wfFrom, h]
      · rename_i hv
        simp only [Tab.wfFrom, Bool.and_eq_true, decide_eq_true_eq]
        exact ⟨⟨hk, hv⟩, ⟨by omega, h.1.2⟩, h.2⟩
    · split
      · rename_i hkj
        subst hkj
        split
        · exact Tab.wfFrom_mono d t lo (k + 1) (by omega) h.2
        · rename_i hv
          simp only [Tab.wfFrom, Bool.and_eq_true, decide_eq_true_eq]
          exact ⟨⟨hk, hv⟩, h.2⟩
      · rename_i h1 h2
        simp only [Tab.wfFrom, Bool.and_eq_true, decide_eq_true_eq]
        exact ⟨h.1, ih (j + 1) (by omega) h.2⟩

/-- A write keeps the canonical form. -/
theorem Tab.put_wf [DecidableEq α] (d : Nat → α) (m : Tab α) (k : Nat) (v : α) (h : Tab.wf d m = true) :
    Tab.wf d (Tab.put d m k v) = true :=
  Tab.put_wfFrom d m 0 k v (Nat.zero_le k) h

theorem Tab.keep_wfFrom [DecidableEq α] (d : Nat → α) (p : Nat → Bool) (m : Tab α) (lo : Nat)
    (h : Tab.wfFrom d lo m = true) : Tab.wfFrom d lo (Tab.keep p m) = true := by
  induction m generalizing lo with
  | nil => rfl
  | cons e t ih =>
    obtain ⟨j, w⟩ := e
    simp only [Tab.wfFrom, Bool.and_eq_true, decide_eq_true_eq] at h
    have ht := ih (j + 1) h.2
    unfold Tab.keep at ht ⊢
    rw [List.filter_cons]
    split
    · simp only [Tab.wfFrom, Bool.and_eq_true, decide_eq_true_eq]
      exact ⟨h.1, ht⟩
    · exact Tab.wfFrom_mono d _ lo (j + 1) (by omega) ht

/-- Dropping entries keeps the canonical form. -/
theorem Tab.keep_wf [DecidableEq α] (d : Nat → α) (p : Nat → Bool) (m : Tab α) (h : Tab.wf d m = true) :
    Tab.wf d (Tab.keep p m) = true :=
  Tab.keep_wfFrom d p m 0 h

/-- Dropping entries by key and value keeps the canonical form. -/
theorem Tab.filter_wfFrom [DecidableEq α] (d : Nat → α) (p : Nat × α → Bool) (m : Tab α) (lo : Nat)
    (h : Tab.wfFrom d lo m = true) : Tab.wfFrom d lo (m.filter p) = true := by
  induction m generalizing lo with
  | nil => rfl
  | cons e t ih =>
    obtain ⟨j, w⟩ := e
    simp only [Tab.wfFrom, Bool.and_eq_true, decide_eq_true_eq] at h
    have ht := ih (j + 1) h.2
    rw [List.filter_cons]
    split
    · simp only [Tab.wfFrom, Bool.and_eq_true, decide_eq_true_eq]
      exact ⟨h.1, ht⟩
    · exact Tab.wfFrom_mono d _ lo (j + 1) (by omega) ht

theorem Tab.filter_wf [DecidableEq α] (d : Nat → α) (p : Nat × α → Bool) (m : Tab α) (h : Tab.wf d m = true) :
    Tab.wf d (m.filter p) = true :=
  Tab.filter_wfFrom d p m 0 h

/-- Changing every listed value keeps the canonical form. -/
theorem Tab.mapV_wfFrom [DecidableEq α] (d : α) (f : Nat → α → α) (m : Tab α) (lo : Nat)
    (h : Tab.wfFrom (fun _ => d) lo m = true) : Tab.wfFrom (fun _ => d) lo (Tab.mapV d f m) = true := by
  induction m generalizing lo with
  | nil => rfl
  | cons e t ih =>
    obtain ⟨j, w⟩ := e
    simp only [Tab.wfFrom, Bool.and_eq_true, decide_eq_true_eq] at h
    have ht := ih (j + 1) h.2
    unfold Tab.mapV at ht ⊢
    rw [List.map_cons, List.filter_cons]
    split
    · rename_i hd
      simp only [Tab.wfFrom, Bool.and_eq_true, decide_eq_true_eq]
      exact ⟨⟨h.1.1, by simpa using hd⟩, ht⟩
    · exact Tab.wfFrom_mono _ _ lo (j + 1) (by omega) ht

theorem Tab.mapV_wf [DecidableEq α] (d : α) (f : Nat → α → α) (m : Tab α) (h : Tab.wf (fun _ => d) m = true) :
    Tab.wf (fun _ => d) (Tab.mapV d f m) = true :=
  Tab.mapV_wfFrom d f m 0 h

/-! ## Memories -/

theorem writeByte_wf (m : List Host.Cell) (a : Nat) (b : Byte) (h : Memory.wf m = true) :
    Memory.wf (writeByte m a b) = true :=
  Tab.put_wf byteDefault m a b h

theorem readByte_writeByte_same (m : List Host.Cell) (a : Nat) (b : Byte) (h : Memory.wf m = true) :
    readByte (writeByte m a b) a = b :=
  Tab.get_put_same byteDefault m a b h

theorem readByte_writeByte_other (m : List Host.Cell) (a k : Nat) (b : Byte) (h : k ≠ a) :
    readByte (writeByte m a b) k = readByte m k :=
  Tab.get_put_other byteDefault m a k b h

theorem writeBytes_wf (bs : List Byte) (m : List Host.Cell) (a : Nat) (h : Memory.wf m = true) :
    Memory.wf (writeBytes m a bs) = true := by
  induction bs generalizing m a with
  | nil => exact h
  | cons b bs ih => exact ih _ _ (writeByte_wf m a b h)

/-- A write leaves every byte outside it alone. -/
theorem readByte_writeBytes_outside (bs : List Byte) (m : List Host.Cell) (a k : Nat)
    (h : k < a ∨ a + bs.length ≤ k) : readByte (writeBytes m a bs) k = readByte m k := by
  induction bs generalizing m a with
  | nil => rfl
  | cons b bs ih =>
    simp only [List.length_cons] at h
    show readByte (writeBytes (writeByte m a b) (a + 1) bs) k = readByte m k
    rw [ih _ _ (by omega)]
    exact readByte_writeByte_other m a k b (by omega)

/-- A write puts its bytes where it says. -/
theorem readByte_writeBytes_inside (bs : List Byte) (m : List Host.Cell) (a i : Nat) (hm : Memory.wf m = true)
    (h : i < bs.length) : readByte (writeBytes m a bs) (a + i) = bs[i] := by
  induction bs generalizing m a i with
  | nil => simp at h
  | cons b bs ih =>
    show readByte (writeBytes (writeByte m a b) (a + 1) bs) (a + i) = _
    cases i with
    | zero =>
      rw [readByte_writeBytes_outside bs _ (a + 1) (a + 0) (by omega)]
      exact readByte_writeByte_same m a b hm
    | succ n =>
      have := ih (writeByte m a b) (a + 1) n (writeByte_wf m a b hm) (by simpa using h)
      rw [show a + (n + 1) = a + 1 + n by omega, this]
      rfl

theorem zeroBytes_wf (m : List Host.Cell) (a n : Nat) (h : Memory.wf m = true) : Memory.wf (zeroBytes m a n) = true :=
  Tab.keep_wf byteDefault _ m h

end Sys2Proof.Machine
end

