-- ==== Sys2Proof/Laws/Get.lean ====
section
/-!
SUPPORT. Reading registers and the indexed parts of the state after a write of one of them.
-/
namespace Sys2Proof.Machine

variable (s : State)

/-! ## Registers -/

theorem State.canonical_regs (h : s.canonical = true) : Tab.wf (regReset s.ident) s.regs = true := by
  simp only [State.canonical, Bool.and_eq_true] at h
  tauto

theorem State.canonical_hostMem (h : s.canonical = true) : Memory.wf s.hostMem = true := by
  simp only [State.canonical, Bool.and_eq_true] at h
  tauto
theorem State.canonical_hbm (h : s.canonical = true) : Memory.wf s.mem.hbm = true := by
  simp only [State.canonical, Bool.and_eq_true] at h
  tauto
theorem State.canonical_spiNor (h : s.canonical = true) : Memory.wf s.mem.spiNor = true := by
  simp only [State.canonical, Bool.and_eq_true] at h
  tauto

theorem State.reg_setReg_same (a : Nat) (v : Word) (h : Tab.wf (regReset s.ident) s.regs = true) :
    (s.setReg a v).reg a = v :=
  Tab.get_put_same _ _ a v h

@[simp] theorem State.reg_setReg_other (a b : Nat) (v : Word) (h : b ≠ a) : (s.setReg a v).reg b = s.reg b :=
  Tab.get_put_other _ _ a b v h

@[simp] theorem State.reg_setRegN_other (a v b : Nat) (h : b ≠ a) : (s.setRegN a v).reg b = s.reg b :=
  s.reg_setReg_other a b _ h

@[simp] theorem State.reg_count_other (a n b : Nat) (h : b ≠ a) : (s.count a n).reg b = s.reg b :=
  s.reg_setReg_other a b _ h

@[simp] theorem State.reg_setBits_other (a b : Nat) (m : Word) (h : b ≠ a) : (s.setBits a m).reg b = s.reg b :=
  s.reg_setReg_other a b _ h

@[simp] theorem State.reg_clrBits_other (a b : Nat) (m : Word) (h : b ≠ a) : (s.clrBits a m).reg b = s.reg b :=
  s.reg_setReg_other a b _ h

theorem State.setReg_wf (a : Nat) (v : Word) (h : Tab.wf (regReset s.ident) s.regs = true) :
    Tab.wf (regReset (s.setReg a v).ident) (s.setReg a v).regs = true :=
  Tab.put_wf _ _ a v h

theorem State.reg_count_same (a n : Nat) (h : Tab.wf (regReset s.ident) s.regs = true) :
    (s.count a n).reg a = satAdd (s.reg a) n :=
  s.reg_setReg_same a _ h

theorem State.reg_setBits_same (a : Nat) (m : Word) (h : Tab.wf (regReset s.ident) s.regs = true) :
    (s.setBits a m).reg a = s.reg a ||| m :=
  s.reg_setReg_same a _ h

/-! ## Indexed parts -/

theorem State.tile_setTile_same (k : Nat) (x : Tile) (h : Tab.wf (fun _ => Tile.blank) s.tiles = true) : (s.setTile k x).tile k = x :=
  Tab.get_put_same _ _ k x h
@[simp] theorem State.tile_setTile_other (k j : Nat) (x : Tile) (h : j ≠ k) : (s.setTile k x).tile j = s.tile j :=
  Tab.get_put_other _ _ k j x h
theorem State.canonical_tile (h : s.canonical = true) : Tab.wf (fun _ => Tile.blank) s.tiles = true := by
  simp only [State.canonical, Bool.and_eq_true] at h
  tauto

theorem State.die_setDie_same (k : Nat) (x : DieCtr) (h : Tab.wf (fun _ => DieCtr.zero) s.dies = true) : (s.setDie k x).die k = x :=
  Tab.get_put_same _ _ k x h
@[simp] theorem State.die_setDie_other (k j : Nat) (x : DieCtr) (h : j ≠ k) : (s.setDie k x).die j = s.die j :=
  Tab.get_put_other _ _ k j x h
theorem State.canonical_die (h : s.canonical = true) : Tab.wf (fun _ => DieCtr.zero) s.dies = true := by
  simp only [State.canonical, Bool.and_eq_true] at h
  tauto

theorem State.cam_setCam_same (k : Nat) (x : CamState) (h : Tab.wf (fun _ => CamState.init) s.gth.cams = true) : (s.setCam k x).cam k = x :=
  Tab.get_put_same _ _ k x h
@[simp] theorem State.cam_setCam_other (k j : Nat) (x : CamState) (h : j ≠ k) : (s.setCam k x).cam j = s.cam j :=
  Tab.get_put_other _ _ k j x h
theorem State.canonical_cam (h : s.canonical = true) : Tab.wf (fun _ => CamState.init) s.gth.cams = true := by
  simp only [State.canonical, Bool.and_eq_true] at h
  tauto

theorem State.kiosk_setKiosk_same (k : Nat) (x : KskState) (h : Tab.wf (fun _ => KskState.init) s.ksk = true) : (s.setKiosk k x).kiosk k = x :=
  Tab.get_put_same _ _ k x h
@[simp] theorem State.kiosk_setKiosk_other (k j : Nat) (x : KskState) (h : j ≠ k) : (s.setKiosk k x).kiosk j = s.kiosk j :=
  Tab.get_put_other _ _ k j x h
theorem State.canonical_kiosk (h : s.canonical = true) : Tab.wf (fun _ => KskState.init) s.ksk = true := by
  simp only [State.canonical, Bool.and_eq_true] at h
  tauto

theorem State.pq_setPq_same (k : Nat) (x : PqState) (h : Tab.wf (fun _ => PqState.empty) s.pqs = true) : (s.setPq k x).pq k = x :=
  Tab.get_put_same _ _ k x h
@[simp] theorem State.pq_setPq_other (k j : Nat) (x : PqState) (h : j ≠ k) : (s.setPq k x).pq j = s.pq j :=
  Tab.get_put_other _ _ k j x h
theorem State.canonical_pq (h : s.canonical = true) : Tab.wf (fun _ => PqState.empty) s.pqs = true := by
  simp only [State.canonical, Bool.and_eq_true] at h
  tauto

theorem State.hedge_setHedge_same (k : Nat) (x : HdgState) (h : Tab.wf (fun _ => HdgState.empty) s.hdg = true) : (s.setHedge k x).hedge k = x :=
  Tab.get_put_same _ _ k x h
@[simp] theorem State.hedge_setHedge_other (k j : Nat) (x : HdgState) (h : j ≠ k) : (s.setHedge k x).hedge j = s.hedge j :=
  Tab.get_put_other _ _ k j x h
theorem State.canonical_hedge (h : s.canonical = true) : Tab.wf (fun _ => HdgState.empty) s.hdg = true := by
  simp only [State.canonical, Bool.and_eq_true] at h
  tauto

theorem State.core_setCore_same (k : Nat) (x : CoreState) (h : Tab.wf (fun _ => CoreState.reset) s.lodge.cores = true) : (s.setCore k x).core k = x :=
  Tab.get_put_same _ _ k x h
@[simp] theorem State.core_setCore_other (k j : Nat) (x : CoreState) (h : j ≠ k) : (s.setCore k x).core j = s.core j :=
  Tab.get_put_other _ _ k j x h
theorem State.canonical_core (h : s.canonical = true) : Tab.wf (fun _ => CoreState.reset) s.lodge.cores = true := by
  simp only [State.canonical, Bool.and_eq_true] at h
  tauto

theorem State.task_setTask_same (k : Nat) (x : TaskState) (h : Tab.wf (fun _ => TaskState.free) s.lodge.tasks = true) : (s.setTask k x).task k = x :=
  Tab.get_put_same _ _ k x h
@[simp] theorem State.task_setTask_other (k j : Nat) (x : TaskState) (h : j ≠ k) : (s.setTask k x).task j = s.task j :=
  Tab.get_put_other _ _ k j x h
theorem State.canonical_task (h : s.canonical = true) : Tab.wf (fun _ => TaskState.free) s.lodge.tasks = true := by
  simp only [State.canonical, Bool.and_eq_true] at h
  tauto

theorem State.ctx_setCtx_same (k : Nat) (x : CtxState) (h : Tab.wf (fun _ => CtxState.empty) s.ctxs = true) : (s.setCtx k x).ctx k = x :=
  Tab.get_put_same _ _ k x h
@[simp] theorem State.ctx_setCtx_other (k j : Nat) (x : CtxState) (h : j ≠ k) : (s.setCtx k x).ctx j = s.ctx j :=
  Tab.get_put_other _ _ k j x h
theorem State.canonical_ctx (h : s.canonical = true) : Tab.wf (fun _ => CtxState.empty) s.ctxs = true := by
  simp only [State.canonical, Bool.and_eq_true] at h
  tauto

theorem State.link_setLink_same (k : Nat) (x : Link) (h : Tab.wf (fun _ => Link.init) s.grp.links = true) : (s.setLink k x).link k = x :=
  Tab.get_put_same _ _ k x h
@[simp] theorem State.link_setLink_other (k j : Nat) (x : Link) (h : j ≠ k) : (s.setLink k x).link j = s.link j :=
  Tab.get_put_other _ _ k j x h
theorem State.canonical_link (h : s.canonical = true) : Tab.wf (fun _ => Link.init) s.grp.links = true := by
  simp only [State.canonical, Bool.and_eq_true] at h
  tauto

theorem State.sent_setSent_same (k : Nat) (x : SentState) (h : Tab.wf (fun _ => SentState.init) s.sup.sent = true) : (s.setSent k x).sent k = x :=
  Tab.get_put_same _ _ k x h
@[simp] theorem State.sent_setSent_other (k j : Nat) (x : SentState) (h : j ≠ k) : (s.setSent k x).sent j = s.sent j :=
  Tab.get_put_other _ _ k j x h
theorem State.canonical_sent (h : s.canonical = true) : Tab.wf (fun _ => SentState.init) s.sup.sent = true := by
  simp only [State.canonical, Bool.and_eq_true] at h
  tauto

/-! ## Reads that other updates leave alone -/

@[simp] theorem State.setReg_tile_frame (k : Nat) (b : Nat) (v : Word) : (s.setReg b v).tile k = s.tile k := rfl
@[simp] theorem State.setReg_cam_frame (k : Nat) (b : Nat) (v : Word) : (s.setReg b v).cam k = s.cam k := rfl
@[simp] theorem State.setReg_pq_frame (k : Nat) (b : Nat) (v : Word) : (s.setReg b v).pq k = s.pq k := rfl
@[simp] theorem State.setReg_hedge_frame (k : Nat) (b : Nat) (v : Word) : (s.setReg b v).hedge k = s.hedge k := rfl
@[simp] theorem State.setReg_core_frame (k : Nat) (b : Nat) (v : Word) : (s.setReg b v).core k = s.core k := rfl
@[simp] theorem State.setReg_task_frame (k : Nat) (b : Nat) (v : Word) : (s.setReg b v).task k = s.task k := rfl
@[simp] theorem State.setReg_ctx_frame (k : Nat) (b : Nat) (v : Word) : (s.setReg b v).ctx k = s.ctx k := rfl
@[simp] theorem State.setReg_link_frame (k : Nat) (b : Nat) (v : Word) : (s.setReg b v).link k = s.link k := rfl
@[simp] theorem State.setReg_sent_frame (k : Nat) (b : Nat) (v : Word) : (s.setReg b v).sent k = s.sent k := rfl
@[simp] theorem State.setReg_kiosk_frame (k : Nat) (b : Nat) (v : Word) : (s.setReg b v).kiosk k = s.kiosk k := rfl
@[simp] theorem State.setReg_die_frame (k : Nat) (b : Nat) (v : Word) : (s.setReg b v).die k = s.die k := rfl
@[simp] theorem State.setRegN_tile_frame (k : Nat) (b v : Nat) : (s.setRegN b v).tile k = s.tile k := rfl
@[simp] theorem State.setRegN_cam_frame (k : Nat) (b v : Nat) : (s.setRegN b v).cam k = s.cam k := rfl
@[simp] theorem State.setRegN_pq_frame (k : Nat) (b v : Nat) : (s.setRegN b v).pq k = s.pq k := rfl
@[simp] theorem State.setRegN_hedge_frame (k : Nat) (b v : Nat) : (s.setRegN b v).hedge k = s.hedge k := rfl
@[simp] theorem State.setRegN_core_frame (k : Nat) (b v : Nat) : (s.setRegN b v).core k = s.core k := rfl
@[simp] theorem State.setRegN_task_frame (k : Nat) (b v : Nat) : (s.setRegN b v).task k = s.task k := rfl
@[simp] theorem State.setRegN_ctx_frame (k : Nat) (b v : Nat) : (s.setRegN b v).ctx k = s.ctx k := rfl
@[simp] theorem State.setRegN_link_frame (k : Nat) (b v : Nat) : (s.setRegN b v).link k = s.link k := rfl
@[simp] theorem State.setRegN_sent_frame (k : Nat) (b v : Nat) : (s.setRegN b v).sent k = s.sent k := rfl
@[simp] theorem State.setRegN_kiosk_frame (k : Nat) (b v : Nat) : (s.setRegN b v).kiosk k = s.kiosk k := rfl
@[simp] theorem State.setRegN_die_frame (k : Nat) (b v : Nat) : (s.setRegN b v).die k = s.die k := rfl
@[simp] theorem State.count_tile_frame (k : Nat) (b n : Nat) : (s.count b n).tile k = s.tile k := rfl
@[simp] theorem State.count_cam_frame (k : Nat) (b n : Nat) : (s.count b n).cam k = s.cam k := rfl
@[simp] theorem State.count_pq_frame (k : Nat) (b n : Nat) : (s.count b n).pq k = s.pq k := rfl
@[simp] theorem State.count_hedge_frame (k : Nat) (b n : Nat) : (s.count b n).hedge k = s.hedge k := rfl
@[simp] theorem State.count_core_frame (k : Nat) (b n : Nat) : (s.count b n).core k = s.core k := rfl
@[simp] theorem State.count_task_frame (k : Nat) (b n : Nat) : (s.count b n).task k = s.task k := rfl
@[simp] theorem State.count_ctx_frame (k : Nat) (b n : Nat) : (s.count b n).ctx k = s.ctx k := rfl
@[simp] theorem State.count_link_frame (k : Nat) (b n : Nat) : (s.count b n).link k = s.link k := rfl
@[simp] theorem State.count_sent_frame (k : Nat) (b n : Nat) : (s.count b n).sent k = s.sent k := rfl
@[simp] theorem State.count_kiosk_frame (k : Nat) (b n : Nat) : (s.count b n).kiosk k = s.kiosk k := rfl
@[simp] theorem State.count_die_frame (k : Nat) (b n : Nat) : (s.count b n).die k = s.die k := rfl
@[simp] theorem State.setBits_tile_frame (k : Nat) (b : Nat) (m : Word) : (s.setBits b m).tile k = s.tile k := rfl
@[simp] theorem State.setBits_cam_frame (k : Nat) (b : Nat) (m : Word) : (s.setBits b m).cam k = s.cam k := rfl
@[simp] theorem State.setBits_pq_frame (k : Nat) (b : Nat) (m : Word) : (s.setBits b m).pq k = s.pq k := rfl
@[simp] theorem State.setBits_hedge_frame (k : Nat) (b : Nat) (m : Word) : (s.setBits b m).hedge k = s.hedge k := rfl
@[simp] theorem State.setBits_core_frame (k : Nat) (b : Nat) (m : Word) : (s.setBits b m).core k = s.core k := rfl
@[simp] theorem State.setBits_task_frame (k : Nat) (b : Nat) (m : Word) : (s.setBits b m).task k = s.task k := rfl
@[simp] theorem State.setBits_ctx_frame (k : Nat) (b : Nat) (m : Word) : (s.setBits b m).ctx k = s.ctx k := rfl
@[simp] theorem State.setBits_link_frame (k : Nat) (b : Nat) (m : Word) : (s.setBits b m).link k = s.link k := rfl
@[simp] theorem State.setBits_sent_frame (k : Nat) (b : Nat) (m : Word) : (s.setBits b m).sent k = s.sent k := rfl
@[simp] theorem State.setBits_kiosk_frame (k : Nat) (b : Nat) (m : Word) : (s.setBits b m).kiosk k = s.kiosk k := rfl
@[simp] theorem State.setBits_die_frame (k : Nat) (b : Nat) (m : Word) : (s.setBits b m).die k = s.die k := rfl
@[simp] theorem State.clrBits_tile_frame (k : Nat) (b : Nat) (m : Word) : (s.clrBits b m).tile k = s.tile k := rfl
@[simp] theorem State.clrBits_cam_frame (k : Nat) (b : Nat) (m : Word) : (s.clrBits b m).cam k = s.cam k := rfl
@[simp] theorem State.clrBits_pq_frame (k : Nat) (b : Nat) (m : Word) : (s.clrBits b m).pq k = s.pq k := rfl
@[simp] theorem State.clrBits_hedge_frame (k : Nat) (b : Nat) (m : Word) : (s.clrBits b m).hedge k = s.hedge k := rfl
@[simp] theorem State.clrBits_core_frame (k : Nat) (b : Nat) (m : Word) : (s.clrBits b m).core k = s.core k := rfl
@[simp] theorem State.clrBits_task_frame (k : Nat) (b : Nat) (m : Word) : (s.clrBits b m).task k = s.task k := rfl
@[simp] theorem State.clrBits_ctx_frame (k : Nat) (b : Nat) (m : Word) : (s.clrBits b m).ctx k = s.ctx k := rfl
@[simp] theorem State.clrBits_link_frame (k : Nat) (b : Nat) (m : Word) : (s.clrBits b m).link k = s.link k := rfl
@[simp] theorem State.clrBits_sent_frame (k : Nat) (b : Nat) (m : Word) : (s.clrBits b m).sent k = s.sent k := rfl
@[simp] theorem State.clrBits_kiosk_frame (k : Nat) (b : Nat) (m : Word) : (s.clrBits b m).kiosk k = s.kiosk k := rfl
@[simp] theorem State.clrBits_die_frame (k : Nat) (b : Nat) (m : Word) : (s.clrBits b m).die k = s.die k := rfl
@[simp] theorem State.setTile_reg_frame (a : Nat) (b : Nat) (t : Tile) : (s.setTile b t).reg a = s.reg a := rfl
@[simp] theorem State.setTile_cam_frame (k : Nat) (b : Nat) (t : Tile) : (s.setTile b t).cam k = s.cam k := rfl
@[simp] theorem State.setTile_pq_frame (k : Nat) (b : Nat) (t : Tile) : (s.setTile b t).pq k = s.pq k := rfl
@[simp] theorem State.setTile_hedge_frame (k : Nat) (b : Nat) (t : Tile) : (s.setTile b t).hedge k = s.hedge k := rfl
@[simp] theorem State.setTile_core_frame (k : Nat) (b : Nat) (t : Tile) : (s.setTile b t).core k = s.core k := rfl
@[simp] theorem State.setTile_task_frame (k : Nat) (b : Nat) (t : Tile) : (s.setTile b t).task k = s.task k := rfl
@[simp] theorem State.setTile_ctx_frame (k : Nat) (b : Nat) (t : Tile) : (s.setTile b t).ctx k = s.ctx k := rfl
@[simp] theorem State.setTile_link_frame (k : Nat) (b : Nat) (t : Tile) : (s.setTile b t).link k = s.link k := rfl
@[simp] theorem State.setTile_sent_frame (k : Nat) (b : Nat) (t : Tile) : (s.setTile b t).sent k = s.sent k := rfl
@[simp] theorem State.setTile_kiosk_frame (k : Nat) (b : Nat) (t : Tile) : (s.setTile b t).kiosk k = s.kiosk k := rfl
@[simp] theorem State.setTile_die_frame (k : Nat) (b : Nat) (t : Tile) : (s.setTile b t).die k = s.die k := rfl
@[simp] theorem State.setCam_reg_frame (a : Nat) (n : Nat) (c : CamState) : (s.setCam n c).reg a = s.reg a := rfl
@[simp] theorem State.setCam_tile_frame (k : Nat) (n : Nat) (c : CamState) : (s.setCam n c).tile k = s.tile k := rfl
@[simp] theorem State.setCam_pq_frame (k : Nat) (n : Nat) (c : CamState) : (s.setCam n c).pq k = s.pq k := rfl
@[simp] theorem State.setCam_hedge_frame (k : Nat) (n : Nat) (c : CamState) : (s.setCam n c).hedge k = s.hedge k := rfl
@[simp] theorem State.setCam_core_frame (k : Nat) (n : Nat) (c : CamState) : (s.setCam n c).core k = s.core k := rfl
@[simp] theorem State.setCam_task_frame (k : Nat) (n : Nat) (c : CamState) : (s.setCam n c).task k = s.task k := rfl
@[simp] theorem State.setCam_ctx_frame (k : Nat) (n : Nat) (c : CamState) : (s.setCam n c).ctx k = s.ctx k := rfl
@[simp] theorem State.setCam_link_frame (k : Nat) (n : Nat) (c : CamState) : (s.setCam n c).link k = s.link k := rfl
@[simp] theorem State.setCam_sent_frame (k : Nat) (n : Nat) (c : CamState) : (s.setCam n c).sent k = s.sent k := rfl
@[simp] theorem State.setCam_kiosk_frame (k : Nat) (n : Nat) (c : CamState) : (s.setCam n c).kiosk k = s.kiosk k := rfl
@[simp] theorem State.setCam_die_frame (k : Nat) (n : Nat) (c : CamState) : (s.setCam n c).die k = s.die k := rfl
@[simp] theorem State.setPq_reg_frame (a : Nat) (q : Nat) (p : PqState) : (s.setPq q p).reg a = s.reg a := rfl
@[simp] theorem State.setPq_tile_frame (k : Nat) (q : Nat) (p : PqState) : (s.setPq q p).tile k = s.tile k := rfl
@[simp] theorem State.setPq_cam_frame (k : Nat) (q : Nat) (p : PqState) : (s.setPq q p).cam k = s.cam k := rfl
@[simp] theorem State.setPq_hedge_frame (k : Nat) (q : Nat) (p : PqState) : (s.setPq q p).hedge k = s.hedge k := rfl
@[simp] theorem State.setPq_core_frame (k : Nat) (q : Nat) (p : PqState) : (s.setPq q p).core k = s.core k := rfl
@[simp] theorem State.setPq_task_frame (k : Nat) (q : Nat) (p : PqState) : (s.setPq q p).task k = s.task k := rfl
@[simp] theorem State.setPq_ctx_frame (k : Nat) (q : Nat) (p : PqState) : (s.setPq q p).ctx k = s.ctx k := rfl
@[simp] theorem State.setPq_link_frame (k : Nat) (q : Nat) (p : PqState) : (s.setPq q p).link k = s.link k := rfl
@[simp] theorem State.setPq_sent_frame (k : Nat) (q : Nat) (p : PqState) : (s.setPq q p).sent k = s.sent k := rfl
@[simp] theorem State.setPq_kiosk_frame (k : Nat) (q : Nat) (p : PqState) : (s.setPq q p).kiosk k = s.kiosk k := rfl
@[simp] theorem State.setPq_die_frame (k : Nat) (q : Nat) (p : PqState) : (s.setPq q p).die k = s.die k := rfl
@[simp] theorem State.setHedge_reg_frame (a : Nat) (h : Nat) (x : HdgState) : (s.setHedge h x).reg a = s.reg a := rfl
@[simp] theorem State.setHedge_tile_frame (k : Nat) (h : Nat) (x : HdgState) : (s.setHedge h x).tile k = s.tile k := rfl
@[simp] theorem State.setHedge_cam_frame (k : Nat) (h : Nat) (x : HdgState) : (s.setHedge h x).cam k = s.cam k := rfl
@[simp] theorem State.setHedge_pq_frame (k : Nat) (h : Nat) (x : HdgState) : (s.setHedge h x).pq k = s.pq k := rfl
@[simp] theorem State.setHedge_core_frame (k : Nat) (h : Nat) (x : HdgState) : (s.setHedge h x).core k = s.core k := rfl
@[simp] theorem State.setHedge_task_frame (k : Nat) (h : Nat) (x : HdgState) : (s.setHedge h x).task k = s.task k := rfl
@[simp] theorem State.setHedge_ctx_frame (k : Nat) (h : Nat) (x : HdgState) : (s.setHedge h x).ctx k = s.ctx k := rfl
@[simp] theorem State.setHedge_link_frame (k : Nat) (h : Nat) (x : HdgState) : (s.setHedge h x).link k = s.link k := rfl
@[simp] theorem State.setHedge_sent_frame (k : Nat) (h : Nat) (x : HdgState) : (s.setHedge h x).sent k = s.sent k := rfl
@[simp] theorem State.setHedge_kiosk_frame (k : Nat) (h : Nat) (x : HdgState) : (s.setHedge h x).kiosk k = s.kiosk k := rfl
@[simp] theorem State.setHedge_die_frame (k : Nat) (h : Nat) (x : HdgState) : (s.setHedge h x).die k = s.die k := rfl
@[simp] theorem State.setCore_reg_frame (a : Nat) (c : Nat) (x : CoreState) : (s.setCore c x).reg a = s.reg a := rfl
@[simp] theorem State.setCore_tile_frame (k : Nat) (c : Nat) (x : CoreState) : (s.setCore c x).tile k = s.tile k := rfl
@[simp] theorem State.setCore_cam_frame (k : Nat) (c : Nat) (x : CoreState) : (s.setCore c x).cam k = s.cam k := rfl
@[simp] theorem State.setCore_pq_frame (k : Nat) (c : Nat) (x : CoreState) : (s.setCore c x).pq k = s.pq k := rfl
@[simp] theorem State.setCore_hedge_frame (k : Nat) (c : Nat) (x : CoreState) : (s.setCore c x).hedge k = s.hedge k := rfl
@[simp] theorem State.setCore_ctx_frame (k : Nat) (c : Nat) (x : CoreState) : (s.setCore c x).ctx k = s.ctx k := rfl
@[simp] theorem State.setCore_link_frame (k : Nat) (c : Nat) (x : CoreState) : (s.setCore c x).link k = s.link k := rfl
@[simp] theorem State.setCore_sent_frame (k : Nat) (c : Nat) (x : CoreState) : (s.setCore c x).sent k = s.sent k := rfl
@[simp] theorem State.setCore_kiosk_frame (k : Nat) (c : Nat) (x : CoreState) : (s.setCore c x).kiosk k = s.kiosk k := rfl
@[simp] theorem State.setCore_die_frame (k : Nat) (c : Nat) (x : CoreState) : (s.setCore c x).die k = s.die k := rfl
@[simp] theorem State.setTask_reg_frame (a : Nat) (j : Nat) (x : TaskState) : (s.setTask j x).reg a = s.reg a := rfl
@[simp] theorem State.setTask_tile_frame (k : Nat) (j : Nat) (x : TaskState) : (s.setTask j x).tile k = s.tile k := rfl
@[simp] theorem State.setTask_cam_frame (k : Nat) (j : Nat) (x : TaskState) : (s.setTask j x).cam k = s.cam k := rfl
@[simp] theorem State.setTask_pq_frame (k : Nat) (j : Nat) (x : TaskState) : (s.setTask j x).pq k = s.pq k := rfl
@[simp] theorem State.setTask_hedge_frame (k : Nat) (j : Nat) (x : TaskState) : (s.setTask j x).hedge k = s.hedge k := rfl
@[simp] theorem State.setTask_ctx_frame (k : Nat) (j : Nat) (x : TaskState) : (s.setTask j x).ctx k = s.ctx k := rfl
@[simp] theorem State.setTask_link_frame (k : Nat) (j : Nat) (x : TaskState) : (s.setTask j x).link k = s.link k := rfl
@[simp] theorem State.setTask_sent_frame (k : Nat) (j : Nat) (x : TaskState) : (s.setTask j x).sent k = s.sent k := rfl
@[simp] theorem State.setTask_kiosk_frame (k : Nat) (j : Nat) (x : TaskState) : (s.setTask j x).kiosk k = s.kiosk k := rfl
@[simp] theorem State.setTask_die_frame (k : Nat) (j : Nat) (x : TaskState) : (s.setTask j x).die k = s.die k := rfl
@[simp] theorem State.setCtx_reg_frame (a : Nat) (c : Nat) (x : CtxState) : (s.setCtx c x).reg a = s.reg a := rfl
@[simp] theorem State.setCtx_tile_frame (k : Nat) (c : Nat) (x : CtxState) : (s.setCtx c x).tile k = s.tile k := rfl
@[simp] theorem State.setCtx_cam_frame (k : Nat) (c : Nat) (x : CtxState) : (s.setCtx c x).cam k = s.cam k := rfl
@[simp] theorem State.setCtx_pq_frame (k : Nat) (c : Nat) (x : CtxState) : (s.setCtx c x).pq k = s.pq k := rfl
@[simp] theorem State.setCtx_hedge_frame (k : Nat) (c : Nat) (x : CtxState) : (s.setCtx c x).hedge k = s.hedge k := rfl
@[simp] theorem State.setCtx_core_frame (k : Nat) (c : Nat) (x : CtxState) : (s.setCtx c x).core k = s.core k := rfl
@[simp] theorem State.setCtx_task_frame (k : Nat) (c : Nat) (x : CtxState) : (s.setCtx c x).task k = s.task k := rfl
@[simp] theorem State.setCtx_link_frame (k : Nat) (c : Nat) (x : CtxState) : (s.setCtx c x).link k = s.link k := rfl
@[simp] theorem State.setCtx_sent_frame (k : Nat) (c : Nat) (x : CtxState) : (s.setCtx c x).sent k = s.sent k := rfl
@[simp] theorem State.setCtx_kiosk_frame (k : Nat) (c : Nat) (x : CtxState) : (s.setCtx c x).kiosk k = s.kiosk k := rfl
@[simp] theorem State.setCtx_die_frame (k : Nat) (c : Nat) (x : CtxState) : (s.setCtx c x).die k = s.die k := rfl
@[simp] theorem State.setLink_reg_frame (a : Nat) (p : Nat) (l : Link) : (s.setLink p l).reg a = s.reg a := rfl
@[simp] theorem State.setLink_tile_frame (k : Nat) (p : Nat) (l : Link) : (s.setLink p l).tile k = s.tile k := rfl
@[simp] theorem State.setLink_cam_frame (k : Nat) (p : Nat) (l : Link) : (s.setLink p l).cam k = s.cam k := rfl
@[simp] theorem State.setLink_pq_frame (k : Nat) (p : Nat) (l : Link) : (s.setLink p l).pq k = s.pq k := rfl
@[simp] theorem State.setLink_hedge_frame (k : Nat) (p : Nat) (l : Link) : (s.setLink p l).hedge k = s.hedge k := rfl
@[simp] theorem State.setLink_core_frame (k : Nat) (p : Nat) (l : Link) : (s.setLink p l).core k = s.core k := rfl
@[simp] theorem State.setLink_task_frame (k : Nat) (p : Nat) (l : Link) : (s.setLink p l).task k = s.task k := rfl
@[simp] theorem State.setLink_ctx_frame (k : Nat) (p : Nat) (l : Link) : (s.setLink p l).ctx k = s.ctx k := rfl
@[simp] theorem State.setLink_sent_frame (k : Nat) (p : Nat) (l : Link) : (s.setLink p l).sent k = s.sent k := rfl
@[simp] theorem State.setLink_kiosk_frame (k : Nat) (p : Nat) (l : Link) : (s.setLink p l).kiosk k = s.kiosk k := rfl
@[simp] theorem State.setLink_die_frame (k : Nat) (p : Nat) (l : Link) : (s.setLink p l).die k = s.die k := rfl
@[simp] theorem State.setSent_reg_frame (a : Nat) (h : Nat) (x : SentState) : (s.setSent h x).reg a = s.reg a := rfl
@[simp] theorem State.setSent_tile_frame (k : Nat) (h : Nat) (x : SentState) : (s.setSent h x).tile k = s.tile k := rfl
@[simp] theorem State.setSent_cam_frame (k : Nat) (h : Nat) (x : SentState) : (s.setSent h x).cam k = s.cam k := rfl
@[simp] theorem State.setSent_pq_frame (k : Nat) (h : Nat) (x : SentState) : (s.setSent h x).pq k = s.pq k := rfl
@[simp] theorem State.setSent_hedge_frame (k : Nat) (h : Nat) (x : SentState) : (s.setSent h x).hedge k = s.hedge k := rfl
@[simp] theorem State.setSent_core_frame (k : Nat) (h : Nat) (x : SentState) : (s.setSent h x).core k = s.core k := rfl
@[simp] theorem State.setSent_task_frame (k : Nat) (h : Nat) (x : SentState) : (s.setSent h x).task k = s.task k := rfl
@[simp] theorem State.setSent_ctx_frame (k : Nat) (h : Nat) (x : SentState) : (s.setSent h x).ctx k = s.ctx k := rfl
@[simp] theorem State.setSent_link_frame (k : Nat) (h : Nat) (x : SentState) : (s.setSent h x).link k = s.link k := rfl
@[simp] theorem State.setSent_kiosk_frame (k : Nat) (h : Nat) (x : SentState) : (s.setSent h x).kiosk k = s.kiosk k := rfl
@[simp] theorem State.setSent_die_frame (k : Nat) (h : Nat) (x : SentState) : (s.setSent h x).die k = s.die k := rfl
@[simp] theorem State.updBell_reg_frame (a : Nat) (f : BellState → BellState) : (s.updBell f).reg a = s.reg a := rfl
@[simp] theorem State.updBell_tile_frame (k : Nat) (f : BellState → BellState) : (s.updBell f).tile k = s.tile k := rfl
@[simp] theorem State.updBell_cam_frame (k : Nat) (f : BellState → BellState) : (s.updBell f).cam k = s.cam k := rfl
@[simp] theorem State.updBell_pq_frame (k : Nat) (f : BellState → BellState) : (s.updBell f).pq k = s.pq k := rfl
@[simp] theorem State.updBell_hedge_frame (k : Nat) (f : BellState → BellState) : (s.updBell f).hedge k = s.hedge k := rfl
@[simp] theorem State.updBell_core_frame (k : Nat) (f : BellState → BellState) : (s.updBell f).core k = s.core k := rfl
@[simp] theorem State.updBell_task_frame (k : Nat) (f : BellState → BellState) : (s.updBell f).task k = s.task k := rfl
@[simp] theorem State.updBell_ctx_frame (k : Nat) (f : BellState → BellState) : (s.updBell f).ctx k = s.ctx k := rfl
@[simp] theorem State.updBell_link_frame (k : Nat) (f : BellState → BellState) : (s.updBell f).link k = s.link k := rfl
@[simp] theorem State.updBell_sent_frame (k : Nat) (f : BellState → BellState) : (s.updBell f).sent k = s.sent k := rfl
@[simp] theorem State.updBell_kiosk_frame (k : Nat) (f : BellState → BellState) : (s.updBell f).kiosk k = s.kiosk k := rfl
@[simp] theorem State.updBell_die_frame (k : Nat) (f : BellState → BellState) : (s.updBell f).die k = s.die k := rfl
@[simp] theorem State.updGrp_reg_frame (a : Nat) (f : GroupState → GroupState) : (s.updGrp f).reg a = s.reg a := rfl
@[simp] theorem State.updGrp_tile_frame (k : Nat) (f : GroupState → GroupState) : (s.updGrp f).tile k = s.tile k := rfl
@[simp] theorem State.updGrp_cam_frame (k : Nat) (f : GroupState → GroupState) : (s.updGrp f).cam k = s.cam k := rfl
@[simp] theorem State.updGrp_pq_frame (k : Nat) (f : GroupState → GroupState) : (s.updGrp f).pq k = s.pq k := rfl
@[simp] theorem State.updGrp_hedge_frame (k : Nat) (f : GroupState → GroupState) : (s.updGrp f).hedge k = s.hedge k := rfl
@[simp] theorem State.updGrp_core_frame (k : Nat) (f : GroupState → GroupState) : (s.updGrp f).core k = s.core k := rfl
@[simp] theorem State.updGrp_task_frame (k : Nat) (f : GroupState → GroupState) : (s.updGrp f).task k = s.task k := rfl
@[simp] theorem State.updGrp_ctx_frame (k : Nat) (f : GroupState → GroupState) : (s.updGrp f).ctx k = s.ctx k := rfl
@[simp] theorem State.updGrp_sent_frame (k : Nat) (f : GroupState → GroupState) : (s.updGrp f).sent k = s.sent k := rfl
@[simp] theorem State.updGrp_kiosk_frame (k : Nat) (f : GroupState → GroupState) : (s.updGrp f).kiosk k = s.kiosk k := rfl
@[simp] theorem State.updGrp_die_frame (k : Nat) (f : GroupState → GroupState) : (s.updGrp f).die k = s.die k := rfl
@[simp] theorem State.updLoad_reg_frame (a : Nat) (f : LoadState → LoadState) : (s.updLoad f).reg a = s.reg a := rfl
@[simp] theorem State.updLoad_tile_frame (k : Nat) (f : LoadState → LoadState) : (s.updLoad f).tile k = s.tile k := rfl
@[simp] theorem State.updLoad_cam_frame (k : Nat) (f : LoadState → LoadState) : (s.updLoad f).cam k = s.cam k := rfl
@[simp] theorem State.updLoad_pq_frame (k : Nat) (f : LoadState → LoadState) : (s.updLoad f).pq k = s.pq k := rfl
@[simp] theorem State.updLoad_hedge_frame (k : Nat) (f : LoadState → LoadState) : (s.updLoad f).hedge k = s.hedge k := rfl
@[simp] theorem State.updLoad_core_frame (k : Nat) (f : LoadState → LoadState) : (s.updLoad f).core k = s.core k := rfl
@[simp] theorem State.updLoad_task_frame (k : Nat) (f : LoadState → LoadState) : (s.updLoad f).task k = s.task k := rfl
@[simp] theorem State.updLoad_ctx_frame (k : Nat) (f : LoadState → LoadState) : (s.updLoad f).ctx k = s.ctx k := rfl
@[simp] theorem State.updLoad_link_frame (k : Nat) (f : LoadState → LoadState) : (s.updLoad f).link k = s.link k := rfl
@[simp] theorem State.updLoad_sent_frame (k : Nat) (f : LoadState → LoadState) : (s.updLoad f).sent k = s.sent k := rfl
@[simp] theorem State.updLoad_kiosk_frame (k : Nat) (f : LoadState → LoadState) : (s.updLoad f).kiosk k = s.kiosk k := rfl
@[simp] theorem State.updLoad_die_frame (k : Nat) (f : LoadState → LoadState) : (s.updLoad f).die k = s.die k := rfl
@[simp] theorem State.updBoot_reg_frame (a : Nat) (f : BootState → BootState) : (s.updBoot f).reg a = s.reg a := rfl
@[simp] theorem State.updBoot_tile_frame (k : Nat) (f : BootState → BootState) : (s.updBoot f).tile k = s.tile k := rfl
@[simp] theorem State.updBoot_cam_frame (k : Nat) (f : BootState → BootState) : (s.updBoot f).cam k = s.cam k := rfl
@[simp] theorem State.updBoot_pq_frame (k : Nat) (f : BootState → BootState) : (s.updBoot f).pq k = s.pq k := rfl
@[simp] theorem State.updBoot_hedge_frame (k : Nat) (f : BootState → BootState) : (s.updBoot f).hedge k = s.hedge k := rfl
@[simp] theorem State.updBoot_core_frame (k : Nat) (f : BootState → BootState) : (s.updBoot f).core k = s.core k := rfl
@[simp] theorem State.updBoot_task_frame (k : Nat) (f : BootState → BootState) : (s.updBoot f).task k = s.task k := rfl
@[simp] theorem State.updBoot_ctx_frame (k : Nat) (f : BootState → BootState) : (s.updBoot f).ctx k = s.ctx k := rfl
@[simp] theorem State.updBoot_link_frame (k : Nat) (f : BootState → BootState) : (s.updBoot f).link k = s.link k := rfl
@[simp] theorem State.updBoot_sent_frame (k : Nat) (f : BootState → BootState) : (s.updBoot f).sent k = s.sent k := rfl
@[simp] theorem State.updBoot_kiosk_frame (k : Nat) (f : BootState → BootState) : (s.updBoot f).kiosk k = s.kiosk k := rfl
@[simp] theorem State.updBoot_die_frame (k : Nat) (f : BootState → BootState) : (s.updBoot f).die k = s.die k := rfl
@[simp] theorem State.updPins_reg_frame (a : Nat) (f : PinState → PinState) : (s.updPins f).reg a = s.reg a := rfl
@[simp] theorem State.updPins_tile_frame (k : Nat) (f : PinState → PinState) : (s.updPins f).tile k = s.tile k := rfl
@[simp] theorem State.updPins_cam_frame (k : Nat) (f : PinState → PinState) : (s.updPins f).cam k = s.cam k := rfl
@[simp] theorem State.updPins_pq_frame (k : Nat) (f : PinState → PinState) : (s.updPins f).pq k = s.pq k := rfl
@[simp] theorem State.updPins_hedge_frame (k : Nat) (f : PinState → PinState) : (s.updPins f).hedge k = s.hedge k := rfl
@[simp] theorem State.updPins_core_frame (k : Nat) (f : PinState → PinState) : (s.updPins f).core k = s.core k := rfl
@[simp] theorem State.updPins_task_frame (k : Nat) (f : PinState → PinState) : (s.updPins f).task k = s.task k := rfl
@[simp] theorem State.updPins_ctx_frame (k : Nat) (f : PinState → PinState) : (s.updPins f).ctx k = s.ctx k := rfl
@[simp] theorem State.updPins_link_frame (k : Nat) (f : PinState → PinState) : (s.updPins f).link k = s.link k := rfl
@[simp] theorem State.updPins_sent_frame (k : Nat) (f : PinState → PinState) : (s.updPins f).sent k = s.sent k := rfl
@[simp] theorem State.updPins_kiosk_frame (k : Nat) (f : PinState → PinState) : (s.updPins f).kiosk k = s.kiosk k := rfl
@[simp] theorem State.updPins_die_frame (k : Nat) (f : PinState → PinState) : (s.updPins f).die k = s.die k := rfl
@[simp] theorem State.updSup_reg_frame (a : Nat) (f : SupState → SupState) : (s.updSup f).reg a = s.reg a := rfl
@[simp] theorem State.updSup_tile_frame (k : Nat) (f : SupState → SupState) : (s.updSup f).tile k = s.tile k := rfl
@[simp] theorem State.updSup_cam_frame (k : Nat) (f : SupState → SupState) : (s.updSup f).cam k = s.cam k := rfl
@[simp] theorem State.updSup_pq_frame (k : Nat) (f : SupState → SupState) : (s.updSup f).pq k = s.pq k := rfl
@[simp] theorem State.updSup_hedge_frame (k : Nat) (f : SupState → SupState) : (s.updSup f).hedge k = s.hedge k := rfl
@[simp] theorem State.updSup_core_frame (k : Nat) (f : SupState → SupState) : (s.updSup f).core k = s.core k := rfl
@[simp] theorem State.updSup_task_frame (k : Nat) (f : SupState → SupState) : (s.updSup f).task k = s.task k := rfl
@[simp] theorem State.updSup_ctx_frame (k : Nat) (f : SupState → SupState) : (s.updSup f).ctx k = s.ctx k := rfl
@[simp] theorem State.updSup_link_frame (k : Nat) (f : SupState → SupState) : (s.updSup f).link k = s.link k := rfl
@[simp] theorem State.updSup_kiosk_frame (k : Nat) (f : SupState → SupState) : (s.updSup f).kiosk k = s.kiosk k := rfl
@[simp] theorem State.updSup_die_frame (k : Nat) (f : SupState → SupState) : (s.updSup f).die k = s.die k := rfl
@[simp] theorem State.send_reg_frame (a : Nat) (m : OutMsg) : (s.send m).reg a = s.reg a := rfl
@[simp] theorem State.send_tile_frame (k : Nat) (m : OutMsg) : (s.send m).tile k = s.tile k := rfl
@[simp] theorem State.send_cam_frame (k : Nat) (m : OutMsg) : (s.send m).cam k = s.cam k := rfl
@[simp] theorem State.send_pq_frame (k : Nat) (m : OutMsg) : (s.send m).pq k = s.pq k := rfl
@[simp] theorem State.send_hedge_frame (k : Nat) (m : OutMsg) : (s.send m).hedge k = s.hedge k := rfl
@[simp] theorem State.send_core_frame (k : Nat) (m : OutMsg) : (s.send m).core k = s.core k := rfl
@[simp] theorem State.send_task_frame (k : Nat) (m : OutMsg) : (s.send m).task k = s.task k := rfl
@[simp] theorem State.send_ctx_frame (k : Nat) (m : OutMsg) : (s.send m).ctx k = s.ctx k := rfl
@[simp] theorem State.send_link_frame (k : Nat) (m : OutMsg) : (s.send m).link k = s.link k := rfl
@[simp] theorem State.send_sent_frame (k : Nat) (m : OutMsg) : (s.send m).sent k = s.sent k := rfl
@[simp] theorem State.send_kiosk_frame (k : Nat) (m : OutMsg) : (s.send m).kiosk k = s.kiosk k := rfl
@[simp] theorem State.send_die_frame (k : Nat) (m : OutMsg) : (s.send m).die k = s.die k := rfl

@[simp] theorem State.updBell_bell (f : BellState → BellState) : (s.updBell f).bell = f s.bell := rfl
@[simp] theorem State.updGrp_grp (f : GroupState → GroupState) : (s.updGrp f).grp = f s.grp := rfl
@[simp] theorem State.updLoad_load (f : LoadState → LoadState) : (s.updLoad f).load = f s.load := rfl
@[simp] theorem State.updBoot_boot (f : BootState → BootState) : (s.updBoot f).boot = f s.boot := rfl
@[simp] theorem State.updPins_pins (f : PinState → PinState) : (s.updPins f).pins = f s.pins := rfl
@[simp] theorem State.updSup_sup (f : SupState → SupState) : (s.updSup f).sup = f s.sup := rfl
@[simp] theorem State.send_outbox (m : OutMsg) : (s.send m).outbox = s.outbox ++ [m] := rfl

end Sys2Proof.Machine
end

