-- ==== Sys2Proof/Laws/Frame.lean ====
section
/-!
SUPPORT. What an operation leaves alone. `Frame w s t` says that `t` differs from `s` at most in the fields of the set `w`
(bit `k` of `w` stands for field `k` of `State`, in their order), that the identity of the part and the queue are the same,
and that `t` is canonical where `s` is.
-/
namespace Sys2Proof.Machine

structure Frame (w : Nat) (s t : State) : Prop where
  ident : t.ident = s.ident
  pending : t.pending = s.pending
  canonical : s.canonical = true → t.canonical = true
  now : w / 2 % 2 = 0 → t.now = s.now
  fresh : w / 4 % 2 = 0 → t.fresh = s.fresh
  ptp : w / 8 % 2 = 0 → t.ptp = s.ptp
  regs : w / 16 % 2 = 0 → t.regs = s.regs
  born : w / 32 % 2 = 0 → t.born = s.born
  latch : w / 64 % 2 = 0 → t.latch = s.latch
  readValue : w / 128 % 2 = 0 → t.readValue = s.readValue
  readData : w / 256 % 2 = 0 → t.readData = s.readData
  readStatus : w / 512 % 2 = 0 → t.readStatus = s.readStatus
  outbox : w / 1024 % 2 = 0 → t.outbox = s.outbox
  hostMem : w / 2048 % 2 = 0 → t.hostMem = s.hostMem
  bell : w / 4096 % 2 = 0 → t.bell = s.bell
  ledger : w / 8192 % 2 = 0 → t.ledger = s.ledger
  hold : w / 16384 % 2 = 0 → t.hold = s.hold
  tiles : w / 32768 % 2 = 0 → t.tiles = s.tiles
  dies : w / 65536 % 2 = 0 → t.dies = s.dies
  gth : w / 131072 % 2 = 0 → t.gth = s.gth
  ksk : w / 262144 % 2 = 0 → t.ksk = s.ksk
  pqs : w / 524288 % 2 = 0 → t.pqs = s.pqs
  errSeq : w / 1048576 % 2 = 0 → t.errSeq = s.errSeq
  mem : w / 2097152 % 2 = 0 → t.mem = s.mem
  alloc : w / 4194304 % 2 = 0 → t.alloc = s.alloc
  hdg : w / 8388608 % 2 = 0 → t.hdg = s.hdg
  load : w / 16777216 % 2 = 0 → t.load = s.load
  lodge : w / 33554432 % 2 = 0 → t.lodge = s.lodge
  ctxs : w / 67108864 % 2 = 0 → t.ctxs = s.ctxs
  grp : w / 134217728 % 2 = 0 → t.grp = s.grp
  sup : w / 268435456 % 2 = 0 → t.sup = s.sup
  power : w / 536870912 % 2 = 0 → t.power = s.power
  contain : w / 1073741824 % 2 = 0 → t.contain = s.contain
  boot : w / 2147483648 % 2 = 0 → t.boot = s.boot
  fuse : w / 4294967296 % 2 = 0 → t.fuse = s.fuse
  pins : w / 8589934592 % 2 = 0 → t.pins = s.pins
  sideband : w / 17179869184 % 2 = 0 → t.sideband = s.sideband

theorem Frame.refl (w : Nat) (s : State) : Frame w s s :=
  by constructor <;> first | exact rfl | exact id | exact fun _ => rfl

theorem bit_zero_sub (w v i : Nat) (h : v &&& w = v) (hi : w / 2 ^ i % 2 = 0) : v / 2 ^ i % 2 = 0 := by
  have e : ∀ x : Nat, x / 2 ^ i % 2 = 0 ↔ x.testBit i = false := fun x => by
    rw [Nat.testBit_eq_decide_div_mod_eq]
    simp
  rw [e] at hi ⊢
  rw [← h, Nat.testBit_and, hi, Bool.and_false]

theorem Frame.step (w v : Nat) (a s t : State) (h : Frame w a s) (g : Frame v s t) (hv : v &&& w = v) : Frame w a t :=
  ⟨g.ident.trans h.ident, g.pending.trans h.pending, fun c => g.canonical (h.canonical c),
   fun k => (g.now (bit_zero_sub w v 1 hv k)).trans (h.now k),
   fun k => (g.fresh (bit_zero_sub w v 2 hv k)).trans (h.fresh k),
   fun k => (g.ptp (bit_zero_sub w v 3 hv k)).trans (h.ptp k),
   fun k => (g.regs (bit_zero_sub w v 4 hv k)).trans (h.regs k),
   fun k => (g.born (bit_zero_sub w v 5 hv k)).trans (h.born k),
   fun k => (g.latch (bit_zero_sub w v 6 hv k)).trans (h.latch k),
   fun k => (g.readValue (bit_zero_sub w v 7 hv k)).trans (h.readValue k),
   fun k => (g.readData (bit_zero_sub w v 8 hv k)).trans (h.readData k),
   fun k => (g.readStatus (bit_zero_sub w v 9 hv k)).trans (h.readStatus k),
   fun k => (g.outbox (bit_zero_sub w v 10 hv k)).trans (h.outbox k),
   fun k => (g.hostMem (bit_zero_sub w v 11 hv k)).trans (h.hostMem k),
   fun k => (g.bell (bit_zero_sub w v 12 hv k)).trans (h.bell k),
   fun k => (g.ledger (bit_zero_sub w v 13 hv k)).trans (h.ledger k),
   fun k => (g.hold (bit_zero_sub w v 14 hv k)).trans (h.hold k),
   fun k => (g.tiles (bit_zero_sub w v 15 hv k)).trans (h.tiles k),
   fun k => (g.dies (bit_zero_sub w v 16 hv k)).trans (h.dies k),
   fun k => (g.gth (bit_zero_sub w v 17 hv k)).trans (h.gth k),
   fun k => (g.ksk (bit_zero_sub w v 18 hv k)).trans (h.ksk k),
   fun k => (g.pqs (bit_zero_sub w v 19 hv k)).trans (h.pqs k),
   fun k => (g.errSeq (bit_zero_sub w v 20 hv k)).trans (h.errSeq k),
   fun k => (g.mem (bit_zero_sub w v 21 hv k)).trans (h.mem k),
   fun k => (g.alloc (bit_zero_sub w v 22 hv k)).trans (h.alloc k),
   fun k => (g.hdg (bit_zero_sub w v 23 hv k)).trans (h.hdg k),
   fun k => (g.load (bit_zero_sub w v 24 hv k)).trans (h.load k),
   fun k => (g.lodge (bit_zero_sub w v 25 hv k)).trans (h.lodge k),
   fun k => (g.ctxs (bit_zero_sub w v 26 hv k)).trans (h.ctxs k),
   fun k => (g.grp (bit_zero_sub w v 27 hv k)).trans (h.grp k),
   fun k => (g.sup (bit_zero_sub w v 28 hv k)).trans (h.sup k),
   fun k => (g.power (bit_zero_sub w v 29 hv k)).trans (h.power k),
   fun k => (g.contain (bit_zero_sub w v 30 hv k)).trans (h.contain k),
   fun k => (g.boot (bit_zero_sub w v 31 hv k)).trans (h.boot k),
   fun k => (g.fuse (bit_zero_sub w v 32 hv k)).trans (h.fuse k),
   fun k => (g.pins (bit_zero_sub w v 33 hv k)).trans (h.pins k),
   fun k => (g.sideband (bit_zero_sub w v 34 hv k)).trans (h.sideband k)⟩

theorem Frame.foldl {α : Type} (w : Nat) (a : State) (f : State → α → State) (l : List α) (s : State) (h : Frame w a s)
    (hf : ∀ t x, Frame w a t → Frame w a (f t x)) : Frame w a (l.foldl f s) := by
  induction l generalizing s with
  | nil => exact h
  | cons x xs ih => exact ih _ (hf _ _ h)

theorem Frame.foldl_fst {α β : Type} (w : Nat) (a : State) (f : State × β → α → State × β) (l : List α) (r : State × β)
    (h : Frame w a r.1) (hf : ∀ q x, Frame w a q.1 → Frame w a (f q x).1) : Frame w a (l.foldl f r).1 := by
  induction l generalizing r with
  | nil => exact h
  | cons x xs ih => exact ih _ (hf _ _ h)

theorem Frame.of_pair {β : Type} {w : Nat} {a t : State} {p : State × β} {r : β} (e : p = (t, r)) (h : Frame w a p.1) :
    Frame w a t := by
  rw [e] at h
  exact h

theorem Frame.ite {w : Nat} {a s t : State} {c : Prop} [Decidable c] (hs : Frame w a s) (ht : Frame w a t) :
    Frame w a (if c then s else t) := by
  split
  · exact hs
  · exact ht

theorem bit_mask_sub (u v w : Nat) (h : u &&& v = u) (hw : v &&& w = v) : u &&& w = u := by
  rw [← h, Nat.and_assoc, hw]

/-- The command completes, within the fields of `w`. -/
def Completes (w : Nat) (s : State) (o : Host.Outcome State Fault Refusal) : Prop := ∃ t, o = .next t ∧ Frame w s t

theorem Completes.intro (w : Nat) (s t : State) (h : Frame w s t) : Completes w s (.next t) := ⟨t, rfl, h⟩

theorem Completes.step (w v : Nat) (a s : State) (o : Host.Outcome State Fault Refusal) (h : Frame w a s)
    (g : Completes v s o) (hv : v &&& w = v) : Completes w a o :=
  g.elim fun t k => ⟨t, k.1, Frame.step w v a s t h k.2 hv⟩

/-! ## Writing one field -/

theorem Frame.set_now (w : Nat) (a s : State) (v : Nat) (h : Frame w a s) (hw : w / 2 % 2 = 1) :
    Frame w a { s with now := v } := by
  refine Frame.step w w a s _ h ?_ (Nat.and_self w)
  constructor
  all_goals first | exact rfl | exact id | exact fun _ => rfl | exact fun k => absurd (hw.symm.trans k) Nat.one_ne_zero

theorem Frame.set_fresh (w : Nat) (a s : State) (v : Nat) (h : Frame w a s) (hw : w / 4 % 2 = 1) :
    Frame w a { s with fresh := v } := by
  refine Frame.step w w a s _ h ?_ (Nat.and_self w)
  constructor
  all_goals first | exact rfl | exact id | exact fun _ => rfl | exact fun k => absurd (hw.symm.trans k) Nat.one_ne_zero

theorem Frame.set_ptp (w : Nat) (a s : State) (v : PtpState) (h : Frame w a s) (hw : w / 8 % 2 = 1) :
    Frame w a { s with ptp := v } := by
  refine Frame.step w w a s _ h ?_ (Nat.and_self w)
  constructor
  all_goals first | exact rfl | exact id | exact fun _ => rfl | exact fun k => absurd (hw.symm.trans k) Nat.one_ne_zero

theorem Frame.set_regs (w : Nat) (a s : State) (v : Tab Word) (h : Frame w a s) (hw : w / 16 % 2 = 1)
    (hv : s.canonical = true → Tab.wf (regReset s.ident) v = true) : Frame w a { s with regs := v } := by
  refine Frame.step w w a s _ h ?_ (Nat.and_self w)
  constructor
  case canonical =>
    intro c
    have hv := hv c
    simp only [State.canonical, Bool.and_eq_true] at c ⊢
    simp_all
  all_goals first | exact rfl | exact id | exact fun _ => rfl | exact fun k => absurd (hw.symm.trans k) Nat.one_ne_zero

theorem Frame.set_born (w : Nat) (a s : State) (v : Tab Word) (h : Frame w a s) (hw : w / 32 % 2 = 1) :
    Frame w a { s with born := v } := by
  refine Frame.step w w a s _ h ?_ (Nat.and_self w)
  constructor
  all_goals first | exact rfl | exact id | exact fun _ => rfl | exact fun k => absurd (hw.symm.trans k) Nat.one_ne_zero

theorem Frame.set_latch (w : Nat) (a s : State) (v : Tab Word) (h : Frame w a s) (hw : w / 64 % 2 = 1) :
    Frame w a { s with latch := v } := by
  refine Frame.step w w a s _ h ?_ (Nat.and_self w)
  constructor
  all_goals first | exact rfl | exact id | exact fun _ => rfl | exact fun k => absurd (hw.symm.trans k) Nat.one_ne_zero

theorem Frame.set_readValue (w : Nat) (a s : State) (v : DWord) (h : Frame w a s) (hw : w / 128 % 2 = 1) :
    Frame w a { s with readValue := v } := by
  refine Frame.step w w a s _ h ?_ (Nat.and_self w)
  constructor
  all_goals first | exact rfl | exact id | exact fun _ => rfl | exact fun k => absurd (hw.symm.trans k) Nat.one_ne_zero

theorem Frame.set_readData (w : Nat) (a s : State) (v : List Byte) (h : Frame w a s) (hw : w / 256 % 2 = 1) :
    Frame w a { s with readData := v } := by
  refine Frame.step w w a s _ h ?_ (Nat.and_self w)
  constructor
  all_goals first | exact rfl | exact id | exact fun _ => rfl | exact fun k => absurd (hw.symm.trans k) Nat.one_ne_zero

theorem Frame.set_readStatus (w : Nat) (a s : State) (v : Nat) (h : Frame w a s) (hw : w / 512 % 2 = 1) :
    Frame w a { s with readStatus := v } := by
  refine Frame.step w w a s _ h ?_ (Nat.and_self w)
  constructor
  all_goals first | exact rfl | exact id | exact fun _ => rfl | exact fun k => absurd (hw.symm.trans k) Nat.one_ne_zero

theorem Frame.set_outbox (w : Nat) (a s : State) (v : List OutMsg) (h : Frame w a s) (hw : w / 1024 % 2 = 1) :
    Frame w a { s with outbox := v } := by
  refine Frame.step w w a s _ h ?_ (Nat.and_self w)
  constructor
  all_goals first | exact rfl | exact id | exact fun _ => rfl | exact fun k => absurd (hw.symm.trans k) Nat.one_ne_zero

theorem Frame.set_hostMem (w : Nat) (a s : State) (v : List Host.Cell) (h : Frame w a s) (hw : w / 2048 % 2 = 1)
    (hv : s.canonical = true → Memory.wf v = true) : Frame w a { s with hostMem := v } := by
  refine Frame.step w w a s _ h ?_ (Nat.and_self w)
  constructor
  case canonical =>
    intro c
    have hv := hv c
    simp only [State.canonical, Bool.and_eq_true] at c ⊢
    simp_all
  all_goals first | exact rfl | exact id | exact fun _ => rfl | exact fun k => absurd (hw.symm.trans k) Nat.one_ne_zero

theorem Frame.set_bell (w : Nat) (a s : State) (v : BellState) (h : Frame w a s) (hw : w / 4096 % 2 = 1) :
    Frame w a { s with bell := v } := by
  refine Frame.step w w a s _ h ?_ (Nat.and_self w)
  constructor
  all_goals first | exact rfl | exact id | exact fun _ => rfl | exact fun k => absurd (hw.symm.trans k) Nat.one_ne_zero

theorem Frame.set_ledger (w : Nat) (a s : State) (v : LedgerState) (h : Frame w a s) (hw : w / 8192 % 2 = 1) :
    Frame w a { s with ledger := v } := by
  refine Frame.step w w a s _ h ?_ (Nat.and_self w)
  constructor
  all_goals first | exact rfl | exact id | exact fun _ => rfl | exact fun k => absurd (hw.symm.trans k) Nat.one_ne_zero

theorem Frame.set_hold (w : Nat) (a s : State) (v : HoldState) (h : Frame w a s) (hw : w / 16384 % 2 = 1) :
    Frame w a { s with hold := v } := by
  refine Frame.step w w a s _ h ?_ (Nat.and_self w)
  constructor
  all_goals first | exact rfl | exact id | exact fun _ => rfl | exact fun k => absurd (hw.symm.trans k) Nat.one_ne_zero

theorem Frame.set_tiles (w : Nat) (a s : State) (v : Tab Tile) (h : Frame w a s) (hw : w / 32768 % 2 = 1)
    (hv : s.canonical = true → Tab.wf (fun _ => Tile.blank) v = true) : Frame w a { s with tiles := v } := by
  refine Frame.step w w a s _ h ?_ (Nat.and_self w)
  constructor
  case canonical =>
    intro c
    have hv := hv c
    simp only [State.canonical, Bool.and_eq_true] at c ⊢
    simp_all
  all_goals first | exact rfl | exact id | exact fun _ => rfl | exact fun k => absurd (hw.symm.trans k) Nat.one_ne_zero

theorem Frame.set_dies (w : Nat) (a s : State) (v : Tab DieCtr) (h : Frame w a s) (hw : w / 65536 % 2 = 1)
    (hv : s.canonical = true → Tab.wf (fun _ => DieCtr.zero) v = true) : Frame w a { s with dies := v } := by
  refine Frame.step w w a s _ h ?_ (Nat.and_self w)
  constructor
  case canonical =>
    intro c
    have hv := hv c
    simp only [State.canonical, Bool.and_eq_true] at c ⊢
    simp_all
  all_goals first | exact rfl | exact id | exact fun _ => rfl | exact fun k => absurd (hw.symm.trans k) Nat.one_ne_zero

theorem Frame.set_gth (w : Nat) (a s : State) (v : GthState) (h : Frame w a s) (hw : w / 131072 % 2 = 1)
    (hv0 : v.cams = s.gth.cams) : Frame w a { s with gth := v } := by
  refine Frame.step w w a s _ h ?_ (Nat.and_self w)
  constructor
  case canonical =>
    intro c
    simp only [State.canonical, Bool.and_eq_true] at c ⊢
    simp_all
  all_goals first | exact rfl | exact id | exact fun _ => rfl | exact fun k => absurd (hw.symm.trans k) Nat.one_ne_zero

theorem Frame.set_gth' (w : Nat) (a s : State) (v : GthState) (h : Frame w a s) (hw : w / 131072 % 2 = 1)
    (hv : s.canonical = true → Tab.wf (fun _ => CamState.init) v.cams = true) : Frame w a { s with gth := v } := by
  refine Frame.step w w a s _ h ?_ (Nat.and_self w)
  constructor
  case canonical =>
    intro c
    have hv := hv c
    simp only [State.canonical, Bool.and_eq_true] at c ⊢
    simp_all
  all_goals first | exact rfl | exact id | exact fun _ => rfl | exact fun k => absurd (hw.symm.trans k) Nat.one_ne_zero

theorem Frame.set_ksk (w : Nat) (a s : State) (v : Tab KskState) (h : Frame w a s) (hw : w / 262144 % 2 = 1)
    (hv : s.canonical = true → Tab.wf (fun _ => KskState.init) v = true) : Frame w a { s with ksk := v } := by
  refine Frame.step w w a s _ h ?_ (Nat.and_self w)
  constructor
  case canonical =>
    intro c
    have hv := hv c
    simp only [State.canonical, Bool.and_eq_true] at c ⊢
    simp_all
  all_goals first | exact rfl | exact id | exact fun _ => rfl | exact fun k => absurd (hw.symm.trans k) Nat.one_ne_zero

theorem Frame.set_pqs (w : Nat) (a s : State) (v : Tab PqState) (h : Frame w a s) (hw : w / 524288 % 2 = 1)
    (hv : s.canonical = true → Tab.wf (fun _ => PqState.empty) v = true) : Frame w a { s with pqs := v } := by
  refine Frame.step w w a s _ h ?_ (Nat.and_self w)
  constructor
  case canonical =>
    intro c
    have hv := hv c
    simp only [State.canonical, Bool.and_eq_true] at c ⊢
    simp_all
  all_goals first | exact rfl | exact id | exact fun _ => rfl | exact fun k => absurd (hw.symm.trans k) Nat.one_ne_zero

theorem Frame.set_errSeq (w : Nat) (a s : State) (v : Nat) (h : Frame w a s) (hw : w / 1048576 % 2 = 1) :
    Frame w a { s with errSeq := v } := by
  refine Frame.step w w a s _ h ?_ (Nat.and_self w)
  constructor
  all_goals first | exact rfl | exact id | exact fun _ => rfl | exact fun k => absurd (hw.symm.trans k) Nat.one_ne_zero

theorem Frame.set_mem (w : Nat) (a s : State) (v : MemState) (h : Frame w a s) (hw : w / 2097152 % 2 = 1)
    (hv0 : v.hbm = s.mem.hbm) (hv1 : v.spiNor = s.mem.spiNor) : Frame w a { s with mem := v } := by
  refine Frame.step w w a s _ h ?_ (Nat.and_self w)
  constructor
  case canonical =>
    intro c
    simp only [State.canonical, Bool.and_eq_true] at c ⊢
    simp_all
  all_goals first | exact rfl | exact id | exact fun _ => rfl | exact fun k => absurd (hw.symm.trans k) Nat.one_ne_zero

theorem Frame.set_mem' (w : Nat) (a s : State) (v : MemState) (h : Frame w a s) (hw : w / 2097152 % 2 = 1)
    (hv : s.canonical = true → Memory.wf v.hbm = true ∧ Memory.wf v.spiNor = true) : Frame w a { s with mem := v } := by
  refine Frame.step w w a s _ h ?_ (Nat.and_self w)
  constructor
  case canonical =>
    intro c
    have hv := hv c
    simp only [State.canonical, Bool.and_eq_true] at c ⊢
    simp_all
  all_goals first | exact rfl | exact id | exact fun _ => rfl | exact fun k => absurd (hw.symm.trans k) Nat.one_ne_zero

theorem Frame.set_alloc (w : Nat) (a s : State) (v : AllocState) (h : Frame w a s) (hw : w / 4194304 % 2 = 1) :
    Frame w a { s with alloc := v } := by
  refine Frame.step w w a s _ h ?_ (Nat.and_self w)
  constructor
  all_goals first | exact rfl | exact id | exact fun _ => rfl | exact fun k => absurd (hw.symm.trans k) Nat.one_ne_zero

theorem Frame.set_hdg (w : Nat) (a s : State) (v : Tab HdgState) (h : Frame w a s) (hw : w / 8388608 % 2 = 1)
    (hv : s.canonical = true → Tab.wf (fun _ => HdgState.empty) v = true) : Frame w a { s with hdg := v } := by
  refine Frame.step w w a s _ h ?_ (Nat.and_self w)
  constructor
  case canonical =>
    intro c
    have hv := hv c
    simp only [State.canonical, Bool.and_eq_true] at c ⊢
    simp_all
  all_goals first | exact rfl | exact id | exact fun _ => rfl | exact fun k => absurd (hw.symm.trans k) Nat.one_ne_zero

theorem Frame.set_load (w : Nat) (a s : State) (v : LoadState) (h : Frame w a s) (hw : w / 16777216 % 2 = 1) :
    Frame w a { s with load := v } := by
  refine Frame.step w w a s _ h ?_ (Nat.and_self w)
  constructor
  all_goals first | exact rfl | exact id | exact fun _ => rfl | exact fun k => absurd (hw.symm.trans k) Nat.one_ne_zero

theorem Frame.set_lodge (w : Nat) (a s : State) (v : LodgeState) (h : Frame w a s) (hw : w / 33554432 % 2 = 1)
    (hv0 : v.cores = s.lodge.cores) (hv1 : v.tasks = s.lodge.tasks) : Frame w a { s with lodge := v } := by
  refine Frame.step w w a s _ h ?_ (Nat.and_self w)
  constructor
  case canonical =>
    intro c
    simp only [State.canonical, Bool.and_eq_true] at c ⊢
    simp_all
  all_goals first | exact rfl | exact id | exact fun _ => rfl | exact fun k => absurd (hw.symm.trans k) Nat.one_ne_zero

theorem Frame.set_lodge' (w : Nat) (a s : State) (v : LodgeState) (h : Frame w a s) (hw : w / 33554432 % 2 = 1)
    (hv : s.canonical = true → Tab.wf (fun _ => CoreState.reset) v.cores = true ∧ Tab.wf (fun _ => TaskState.free) v.tasks = true) : Frame w a { s with lodge := v } := by
  refine Frame.step w w a s _ h ?_ (Nat.and_self w)
  constructor
  case canonical =>
    intro c
    have hv := hv c
    simp only [State.canonical, Bool.and_eq_true] at c ⊢
    simp_all
  all_goals first | exact rfl | exact id | exact fun _ => rfl | exact fun k => absurd (hw.symm.trans k) Nat.one_ne_zero

theorem Frame.set_ctxs (w : Nat) (a s : State) (v : Tab CtxState) (h : Frame w a s) (hw : w / 67108864 % 2 = 1)
    (hv : s.canonical = true → Tab.wf (fun _ => CtxState.empty) v = true) : Frame w a { s with ctxs := v } := by
  refine Frame.step w w a s _ h ?_ (Nat.and_self w)
  constructor
  case canonical =>
    intro c
    have hv := hv c
    simp only [State.canonical, Bool.and_eq_true] at c ⊢
    simp_all
  all_goals first | exact rfl | exact id | exact fun _ => rfl | exact fun k => absurd (hw.symm.trans k) Nat.one_ne_zero

theorem Frame.set_grp (w : Nat) (a s : State) (v : GroupState) (h : Frame w a s) (hw : w / 134217728 % 2 = 1)
    (hv0 : v.links = s.grp.links) : Frame w a { s with grp := v } := by
  refine Frame.step w w a s _ h ?_ (Nat.and_self w)
  constructor
  case canonical =>
    intro c
    simp only [State.canonical, Bool.and_eq_true] at c ⊢
    simp_all
  all_goals first | exact rfl | exact id | exact fun _ => rfl | exact fun k => absurd (hw.symm.trans k) Nat.one_ne_zero

theorem Frame.set_grp' (w : Nat) (a s : State) (v : GroupState) (h : Frame w a s) (hw : w / 134217728 % 2 = 1)
    (hv : s.canonical = true → Tab.wf (fun _ => Link.init) v.links = true) : Frame w a { s with grp := v } := by
  refine Frame.step w w a s _ h ?_ (Nat.and_self w)
  constructor
  case canonical =>
    intro c
    have hv := hv c
    simp only [State.canonical, Bool.and_eq_true] at c ⊢
    simp_all
  all_goals first | exact rfl | exact id | exact fun _ => rfl | exact fun k => absurd (hw.symm.trans k) Nat.one_ne_zero

theorem Frame.set_sup (w : Nat) (a s : State) (v : SupState) (h : Frame w a s) (hw : w / 268435456 % 2 = 1)
    (hv0 : v.sent = s.sup.sent) : Frame w a { s with sup := v } := by
  refine Frame.step w w a s _ h ?_ (Nat.and_self w)
  constructor
  case canonical =>
    intro c
    simp only [State.canonical, Bool.and_eq_true] at c ⊢
    simp_all
  all_goals first | exact rfl | exact id | exact fun _ => rfl | exact fun k => absurd (hw.symm.trans k) Nat.one_ne_zero

theorem Frame.set_sup' (w : Nat) (a s : State) (v : SupState) (h : Frame w a s) (hw : w / 268435456 % 2 = 1)
    (hv : s.canonical = true → Tab.wf (fun _ => SentState.init) v.sent = true) : Frame w a { s with sup := v } := by
  refine Frame.step w w a s _ h ?_ (Nat.and_self w)
  constructor
  case canonical =>
    intro c
    have hv := hv c
    simp only [State.canonical, Bool.and_eq_true] at c ⊢
    simp_all
  all_goals first | exact rfl | exact id | exact fun _ => rfl | exact fun k => absurd (hw.symm.trans k) Nat.one_ne_zero

theorem Frame.set_power (w : Nat) (a s : State) (v : PowerState) (h : Frame w a s) (hw : w / 536870912 % 2 = 1) :
    Frame w a { s with power := v } := by
  refine Frame.step w w a s _ h ?_ (Nat.and_self w)
  constructor
  all_goals first | exact rfl | exact id | exact fun _ => rfl | exact fun k => absurd (hw.symm.trans k) Nat.one_ne_zero

theorem Frame.set_contain (w : Nat) (a s : State) (v : ContainState) (h : Frame w a s) (hw : w / 1073741824 % 2 = 1) :
    Frame w a { s with contain := v } := by
  refine Frame.step w w a s _ h ?_ (Nat.and_self w)
  constructor
  all_goals first | exact rfl | exact id | exact fun _ => rfl | exact fun k => absurd (hw.symm.trans k) Nat.one_ne_zero

theorem Frame.set_boot (w : Nat) (a s : State) (v : BootState) (h : Frame w a s) (hw : w / 2147483648 % 2 = 1) :
    Frame w a { s with boot := v } := by
  refine Frame.step w w a s _ h ?_ (Nat.and_self w)
  constructor
  all_goals first | exact rfl | exact id | exact fun _ => rfl | exact fun k => absurd (hw.symm.trans k) Nat.one_ne_zero

theorem Frame.set_fuse (w : Nat) (a s : State) (v : FuseState) (h : Frame w a s) (hw : w / 4294967296 % 2 = 1) :
    Frame w a { s with fuse := v } := by
  refine Frame.step w w a s _ h ?_ (Nat.and_self w)
  constructor
  all_goals first | exact rfl | exact id | exact fun _ => rfl | exact fun k => absurd (hw.symm.trans k) Nat.one_ne_zero

theorem Frame.set_pins (w : Nat) (a s : State) (v : PinState) (h : Frame w a s) (hw : w / 8589934592 % 2 = 1) :
    Frame w a { s with pins := v } := by
  refine Frame.step w w a s _ h ?_ (Nat.and_self w)
  constructor
  all_goals first | exact rfl | exact id | exact fun _ => rfl | exact fun k => absurd (hw.symm.trans k) Nat.one_ne_zero

theorem Frame.set_sideband (w : Nat) (a s : State) (v : List (Nat × Nat × Nat)) (h : Frame w a s) (hw : w / 17179869184 % 2 = 1) :
    Frame w a { s with sideband := v } := by
  refine Frame.step w w a s _ h ?_ (Nat.and_self w)
  constructor
  all_goals first | exact rfl | exact id | exact fun _ => rfl | exact fun k => absurd (hw.symm.trans k) Nat.one_ne_zero

end Sys2Proof.Machine
end

