-- ==== Sys2Proof/Laws/F_Ops.lean ====
section
/-!
SUPPORT. Frames of the operations of Machine/Ops.lean.
-/
namespace Sys2Proof.Machine

set_option linter.unusedTactic false
set_option linter.unreachableTactic false
set_option linter.unusedVariables false

theorem State.useFree_frame (s : State) : Frame 4 s (State.useFree s) := by
  unfold State.useFree
  try dsimp only
  repeat' first
    | with_reducible apply Frame.refl
    | with_reducible assumption
    | apply Eq.refl
    | with_reducible apply Frame.foldl
    | with_reducible apply Frame.foldl_fst
    | split
    | with_reducible apply Frame.ite
    | with_reducible apply Frame.set_fresh
    | intro _
    | dsimp only
theorem State.useFree_step (w0 : Nat) (a0 : State) (s : State) (h0 : Frame w0 a0 s) (hw : 4 &&& w0 = 4) : Frame w0 a0 (State.useFree s) :=
  Frame.step _ _ _ _ _ h0 (State.useFree_frame s) hw

theorem State.send_frame (s : State) (m : OutMsg) : Frame 1024 s (State.send s m) := by
  unfold State.send
  try dsimp only
  repeat' first
    | with_reducible apply Frame.refl
    | with_reducible assumption
    | apply Eq.refl
    | with_reducible apply Frame.foldl
    | with_reducible apply Frame.foldl_fst
    | split
    | with_reducible apply Frame.ite
    | with_reducible apply Frame.set_outbox
    | intro _
    | dsimp only
theorem State.send_step (w0 : Nat) (a0 : State) (s : State) (m : OutMsg) (h0 : Frame w0 a0 s) (hw : 1024 &&& w0 = 1024) : Frame w0 a0 (State.send s m) :=
  Frame.step _ _ _ _ _ h0 (State.send_frame s m) hw

theorem State.hostWrite_frame (s : State) (a : Nat) (bs : List Byte) : Frame 3072 s (State.hostWrite s a bs) := by
  unfold State.hostWrite
  try dsimp only
  repeat' first
    | with_reducible apply Frame.refl
    | with_reducible assumption
    | apply Eq.refl
    | with_reducible exact fun c => writeBytes_wf _ _ _ (State.canonical_hostMem _ c)
    | with_reducible apply State.send_step
    | with_reducible apply Frame.foldl
    | with_reducible apply Frame.foldl_fst
    | split
    | with_reducible apply Frame.ite
    | with_reducible apply Frame.set_hostMem
    | intro _
    | dsimp only
theorem State.hostWrite_step (w0 : Nat) (a0 : State) (s : State) (a : Nat) (bs : List Byte) (h0 : Frame w0 a0 s) (hw : 3072 &&& w0 = 3072) : Frame w0 a0 (State.hostWrite s a bs) :=
  Frame.step _ _ _ _ _ h0 (State.hostWrite_frame s a bs) hw

end Sys2Proof.Machine
end

