-- ==== Sys2Proof/Laws/F_Operands.lean ====
section
/-!
SUPPORT. Frames of the operations of Machine/Operands.lean.
-/
namespace Sys2Proof.Machine

set_option linter.unusedTactic false
set_option linter.unreachableTactic false
set_option linter.unusedVariables false

theorem State.setReg_frame (s : State) (a : Nat) (v : Word) : Frame 16 s (State.setReg s a v) := by
  unfold State.setReg
  try dsimp only
  repeat' first
    | with_reducible apply Frame.refl
    | with_reducible assumption
    | apply Eq.refl
    | with_reducible exact fun c => Tab.put_wf _ _ _ _ (State.canonical_regs _ c)
    | with_reducible exact fun c => Tab.mapV_wf _ _ _ (State.canonical_regs _ c)
    | with_reducible exact fun c => Tab.filter_wf _ _ _ (State.canonical_regs _ c)
    | with_reducible apply Frame.foldl
    | with_reducible apply Frame.foldl_fst
    | split
    | with_reducible apply Frame.ite
    | with_reducible apply Frame.set_regs
    | intro _
    | dsimp only
theorem State.setReg_step (w0 : Nat) (a0 : State) (s : State) (a : Nat) (v : Word) (h0 : Frame w0 a0 s) (hw : 16 &&& w0 = 16) : Frame w0 a0 (State.setReg s a v) :=
  Frame.step _ _ _ _ _ h0 (State.setReg_frame s a v) hw

theorem State.setRegN_frame (s : State) (a : Nat) (v : Nat) : Frame 16 s (State.setRegN s a v) := by
  unfold State.setRegN
  try dsimp only
  repeat' first
    | with_reducible apply Frame.refl
    | with_reducible assumption
    | apply Eq.refl
    | with_reducible apply State.setReg_step
    | with_reducible apply Frame.foldl
    | with_reducible apply Frame.foldl_fst
    | split
    | with_reducible apply Frame.ite
    | intro _
    | dsimp only
theorem State.setRegN_step (w0 : Nat) (a0 : State) (s : State) (a : Nat) (v : Nat) (h0 : Frame w0 a0 s) (hw : 16 &&& w0 = 16) : Frame w0 a0 (State.setRegN s a v) :=
  Frame.step _ _ _ _ _ h0 (State.setRegN_frame s a v) hw

theorem State.setReg64_frame (s : State) (a : Nat) (v : Nat) : Frame 16 s (State.setReg64 s a v) := by
  unfold State.setReg64
  try dsimp only
  repeat' first
    | with_reducible apply Frame.refl
    | with_reducible assumption
    | apply Eq.refl
    | with_reducible apply State.setRegN_step
    | with_reducible apply Frame.foldl
    | with_reducible apply Frame.foldl_fst
    | split
    | with_reducible apply Frame.ite
    | intro _
    | dsimp only
theorem State.setReg64_step (w0 : Nat) (a0 : State) (s : State) (a : Nat) (v : Nat) (h0 : Frame w0 a0 s) (hw : 16 &&& w0 = 16) : Frame w0 a0 (State.setReg64 s a v) :=
  Frame.step _ _ _ _ _ h0 (State.setReg64_frame s a v) hw

theorem State.setReg48_frame (s : State) (a : Nat) (v : W48) : Frame 16 s (State.setReg48 s a v) := by
  unfold State.setReg48
  try dsimp only
  repeat' first
    | with_reducible apply Frame.refl
    | with_reducible assumption
    | apply Eq.refl
    | with_reducible apply State.setReg64_step
    | with_reducible apply Frame.foldl
    | with_reducible apply Frame.foldl_fst
    | split
    | with_reducible apply Frame.ite
    | intro _
    | dsimp only
theorem State.setReg48_step (w0 : Nat) (a0 : State) (s : State) (a : Nat) (v : W48) (h0 : Frame w0 a0 s) (hw : 16 &&& w0 = 16) : Frame w0 a0 (State.setReg48 s a v) :=
  Frame.step _ _ _ _ _ h0 (State.setReg48_frame s a v) hw

theorem State.setBorn_frame (s : State) (a : Nat) (v : Word) : Frame 32 s (State.setBorn s a v) := by
  unfold State.setBorn
  try dsimp only
  repeat' first
    | with_reducible apply Frame.refl
    | with_reducible assumption
    | apply Eq.refl
    | with_reducible apply Frame.foldl
    | with_reducible apply Frame.foldl_fst
    | split
    | with_reducible apply Frame.ite
    | with_reducible apply Frame.set_born
    | intro _
    | dsimp only
theorem State.setBorn_step (w0 : Nat) (a0 : State) (s : State) (a : Nat) (v : Word) (h0 : Frame w0 a0 s) (hw : 32 &&& w0 = 32) : Frame w0 a0 (State.setBorn s a v) :=
  Frame.step _ _ _ _ _ h0 (State.setBorn_frame s a v) hw

theorem State.count_frame (s : State) (a : Nat) (n : Nat) : Frame 48 s (State.count s a n) := by
  unfold State.count
  try dsimp only
  repeat' first
    | with_reducible apply Frame.refl
    | with_reducible assumption
    | apply Eq.refl
    | with_reducible apply State.setBorn_step
    | with_reducible apply State.setReg_step
    | with_reducible apply Frame.foldl
    | with_reducible apply Frame.foldl_fst
    | split
    | with_reducible apply Frame.ite
    | intro _
    | dsimp only
theorem State.count_step (w0 : Nat) (a0 : State) (s : State) (a : Nat) (n : Nat) (h0 : Frame w0 a0 s) (hw : 48 &&& w0 = 48) : Frame w0 a0 (State.count s a n) :=
  Frame.step _ _ _ _ _ h0 (State.count_frame s a n) hw

theorem State.addReg_frame (s : State) (a : Nat) (n : Nat) : Frame 16 s (State.addReg s a n) := by
  unfold State.addReg
  try dsimp only
  repeat' first
    | with_reducible apply Frame.refl
    | with_reducible assumption
    | apply Eq.refl
    | with_reducible apply State.setRegN_step
    | with_reducible apply Frame.foldl
    | with_reducible apply Frame.foldl_fst
    | split
    | with_reducible apply Frame.ite
    | intro _
    | dsimp only
theorem State.addReg_step (w0 : Nat) (a0 : State) (s : State) (a : Nat) (n : Nat) (h0 : Frame w0 a0 s) (hw : 16 &&& w0 = 16) : Frame w0 a0 (State.addReg s a n) :=
  Frame.step _ _ _ _ _ h0 (State.addReg_frame s a n) hw

theorem State.setBits_frame (s : State) (a : Nat) (m : Word) : Frame 48 s (State.setBits s a m) := by
  unfold State.setBits
  try dsimp only
  repeat' first
    | with_reducible apply Frame.refl
    | with_reducible assumption
    | apply Eq.refl
    | with_reducible apply State.setBorn_step
    | with_reducible apply State.setReg_step
    | with_reducible apply Frame.foldl
    | with_reducible apply Frame.foldl_fst
    | split
    | with_reducible apply Frame.ite
    | intro _
    | dsimp only
theorem State.setBits_step (w0 : Nat) (a0 : State) (s : State) (a : Nat) (m : Word) (h0 : Frame w0 a0 s) (hw : 48 &&& w0 = 48) : Frame w0 a0 (State.setBits s a m) :=
  Frame.step _ _ _ _ _ h0 (State.setBits_frame s a m) hw

theorem State.clrBits_frame (s : State) (a : Nat) (m : Word) : Frame 16 s (State.clrBits s a m) := by
  unfold State.clrBits
  try dsimp only
  repeat' first
    | with_reducible apply Frame.refl
    | with_reducible assumption
    | apply Eq.refl
    | with_reducible apply State.setReg_step
    | with_reducible apply Frame.foldl
    | with_reducible apply Frame.foldl_fst
    | split
    | with_reducible apply Frame.ite
    | intro _
    | dsimp only
theorem State.clrBits_step (w0 : Nat) (a0 : State) (s : State) (a : Nat) (m : Word) (h0 : Frame w0 a0 s) (hw : 16 &&& w0 = 16) : Frame w0 a0 (State.clrBits s a m) :=
  Frame.step _ _ _ _ _ h0 (State.clrBits_frame s a m) hw

theorem State.maxReg_frame (s : State) (a : Nat) (v : Nat) : Frame 16 s (State.maxReg s a v) := by
  unfold State.maxReg
  try dsimp only
  repeat' first
    | with_reducible apply Frame.refl
    | with_reducible assumption
    | apply Eq.refl
    | with_reducible apply State.setRegN_step
    | with_reducible apply Frame.foldl
    | with_reducible apply Frame.foldl_fst
    | split
    | with_reducible apply Frame.ite
    | intro _
    | dsimp only
theorem State.maxReg_step (w0 : Nat) (a0 : State) (s : State) (a : Nat) (v : Nat) (h0 : Frame w0 a0 s) (hw : 16 &&& w0 = 16) : Frame w0 a0 (State.maxReg s a v) :=
  Frame.step _ _ _ _ _ h0 (State.maxReg_frame s a v) hw

theorem State.minReg_frame (s : State) (a : Nat) (v : Nat) : Frame 16 s (State.minReg s a v) := by
  unfold State.minReg
  try dsimp only
  repeat' first
    | with_reducible apply Frame.refl
    | with_reducible assumption
    | apply Eq.refl
    | with_reducible apply State.setRegN_step
    | with_reducible apply Frame.foldl
    | with_reducible apply Frame.foldl_fst
    | split
    | with_reducible apply Frame.ite
    | intro _
    | dsimp only
theorem State.minReg_step (w0 : Nat) (a0 : State) (s : State) (a : Nat) (v : Nat) (h0 : Frame w0 a0 s) (hw : 16 &&& w0 = 16) : Frame w0 a0 (State.minReg s a v) :=
  Frame.step _ _ _ _ _ h0 (State.minReg_frame s a v) hw

theorem State.plainWrite_frame (s : State) (a : Nat) (v : Word) : Frame 16 s (State.plainWrite s a v) := by
  unfold State.plainWrite
  try dsimp only
  repeat' first
    | with_reducible apply Frame.refl
    | with_reducible assumption
    | apply Eq.refl
    | with_reducible apply State.setReg_step
    | with_reducible apply Frame.foldl
    | with_reducible apply Frame.foldl_fst
    | split
    | with_reducible apply Frame.ite
    | intro _
    | dsimp only
theorem State.plainWrite_step (w0 : Nat) (a0 : State) (s : State) (a : Nat) (v : Word) (h0 : Frame w0 a0 s) (hw : 16 &&& w0 = 16) : Frame w0 a0 (State.plainWrite s a v) :=
  Frame.step _ _ _ _ _ h0 (State.plainWrite_frame s a v) hw

theorem State.plainReadEffect_frame (s : State) (a : Nat) : Frame 16 s (State.plainReadEffect s a) := by
  unfold State.plainReadEffect
  try dsimp only
  repeat' first
    | with_reducible apply Frame.refl
    | with_reducible assumption
    | apply Eq.refl
    | with_reducible apply State.setReg_step
    | with_reducible apply Frame.foldl
    | with_reducible apply Frame.foldl_fst
    | split
    | with_reducible apply Frame.ite
    | intro _
    | dsimp only
theorem State.plainReadEffect_step (w0 : Nat) (a0 : State) (s : State) (a : Nat) (h0 : Frame w0 a0 s) (hw : 16 &&& w0 = 16) : Frame w0 a0 (State.plainReadEffect s a) :=
  Frame.step _ _ _ _ _ h0 (State.plainReadEffect_frame s a) hw

theorem State.setTile_frame (s : State) (k : Nat) (t : Tile) : Frame 32768 s (State.setTile s k t) := by
  unfold State.setTile
  try dsimp only
  repeat' first
    | with_reducible apply Frame.refl
    | with_reducible assumption
    | apply Eq.refl
    | with_reducible exact fun c => Tab.put_wf _ _ _ _ (State.canonical_tile _ c)
    | with_reducible exact fun c => Tab.mapV_wf _ _ _ (State.canonical_tile _ c)
    | with_reducible exact fun c => Tab.filter_wf _ _ _ (State.canonical_tile _ c)
    | with_reducible apply Frame.foldl
    | with_reducible apply Frame.foldl_fst
    | split
    | with_reducible apply Frame.ite
    | with_reducible apply Frame.set_tiles
    | intro _
    | dsimp only
theorem State.setTile_step (w0 : Nat) (a0 : State) (s : State) (k : Nat) (t : Tile) (h0 : Frame w0 a0 s) (hw : 32768 &&& w0 = 32768) : Frame w0 a0 (State.setTile s k t) :=
  Frame.step _ _ _ _ _ h0 (State.setTile_frame s k t) hw

theorem State.setDie_frame (s : State) (d : Nat) (c : DieCtr) : Frame 65536 s (State.setDie s d c) := by
  unfold State.setDie
  try dsimp only
  repeat' first
    | with_reducible apply Frame.refl
    | with_reducible assumption
    | apply Eq.refl
    | with_reducible exact fun c => Tab.put_wf _ _ _ _ (State.canonical_die _ c)
    | with_reducible exact fun c => Tab.mapV_wf _ _ _ (State.canonical_die _ c)
    | with_reducible exact fun c => Tab.filter_wf _ _ _ (State.canonical_die _ c)
    | with_reducible apply Frame.foldl
    | with_reducible apply Frame.foldl_fst
    | split
    | with_reducible apply Frame.ite
    | with_reducible apply Frame.set_dies
    | intro _
    | dsimp only
theorem State.setDie_step (w0 : Nat) (a0 : State) (s : State) (d : Nat) (c : DieCtr) (h0 : Frame w0 a0 s) (hw : 65536 &&& w0 = 65536) : Frame w0 a0 (State.setDie s d c) :=
  Frame.step _ _ _ _ _ h0 (State.setDie_frame s d c) hw

theorem State.setCam_frame (s : State) (n : Nat) (c : CamState) : Frame 131072 s (State.setCam s n c) := by
  unfold State.setCam
  try dsimp only
  repeat' first
    | with_reducible apply Frame.refl
    | with_reducible assumption
    | apply Eq.refl
    | with_reducible exact fun c => Tab.put_wf _ _ _ _ (State.canonical_cam _ c)
    | with_reducible exact fun c => Tab.mapV_wf _ _ _ (State.canonical_cam _ c)
    | with_reducible exact fun c => Tab.filter_wf _ _ _ (State.canonical_cam _ c)
    | with_reducible apply Frame.foldl
    | with_reducible apply Frame.foldl_fst
    | split
    | with_reducible apply Frame.ite
    | (with_reducible apply Frame.set_gth; rotate_left; apply Eq.refl; apply Eq.refl)
    | with_reducible apply Frame.set_gth'
    | intro _
    | dsimp only
theorem State.setCam_step (w0 : Nat) (a0 : State) (s : State) (n : Nat) (c : CamState) (h0 : Frame w0 a0 s) (hw : 131072 &&& w0 = 131072) : Frame w0 a0 (State.setCam s n c) :=
  Frame.step _ _ _ _ _ h0 (State.setCam_frame s n c) hw

theorem State.setKiosk_frame (s : State) (h : Nat) (k : KskState) : Frame 262144 s (State.setKiosk s h k) := by
  unfold State.setKiosk
  try dsimp only
  repeat' first
    | with_reducible apply Frame.refl
    | with_reducible assumption
    | apply Eq.refl
    | with_reducible exact fun c => Tab.put_wf _ _ _ _ (State.canonical_kiosk _ c)
    | with_reducible exact fun c => Tab.mapV_wf _ _ _ (State.canonical_kiosk _ c)
    | with_reducible exact fun c => Tab.filter_wf _ _ _ (State.canonical_kiosk _ c)
    | with_reducible apply Frame.foldl
    | with_reducible apply Frame.foldl_fst
    | split
    | with_reducible apply Frame.ite
    | with_reducible apply Frame.set_ksk
    | intro _
    | dsimp only
theorem State.setKiosk_step (w0 : Nat) (a0 : State) (s : State) (h : Nat) (k : KskState) (h0 : Frame w0 a0 s) (hw : 262144 &&& w0 = 262144) : Frame w0 a0 (State.setKiosk s h k) :=
  Frame.step _ _ _ _ _ h0 (State.setKiosk_frame s h k) hw

theorem State.setPq_frame (s : State) (q : Nat) (p : PqState) : Frame 524288 s (State.setPq s q p) := by
  unfold State.setPq
  try dsimp only
  repeat' first
    | with_reducible apply Frame.refl
    | with_reducible assumption
    | apply Eq.refl
    | with_reducible exact fun c => Tab.put_wf _ _ _ _ (State.canonical_pq _ c)
    | with_reducible exact fun c => Tab.mapV_wf _ _ _ (State.canonical_pq _ c)
    | with_reducible exact fun c => Tab.filter_wf _ _ _ (State.canonical_pq _ c)
    | with_reducible apply Frame.foldl
    | with_reducible apply Frame.foldl_fst
    | split
    | with_reducible apply Frame.ite
    | with_reducible apply Frame.set_pqs
    | intro _
    | dsimp only
theorem State.setPq_step (w0 : Nat) (a0 : State) (s : State) (q : Nat) (p : PqState) (h0 : Frame w0 a0 s) (hw : 524288 &&& w0 = 524288) : Frame w0 a0 (State.setPq s q p) :=
  Frame.step _ _ _ _ _ h0 (State.setPq_frame s q p) hw

theorem State.setHedge_frame (s : State) (h : Nat) (x : HdgState) : Frame 8388608 s (State.setHedge s h x) := by
  unfold State.setHedge
  try dsimp only
  repeat' first
    | with_reducible apply Frame.refl
    | with_reducible assumption
    | apply Eq.refl
    | with_reducible exact fun c => Tab.put_wf _ _ _ _ (State.canonical_hedge _ c)
    | with_reducible exact fun c => Tab.mapV_wf _ _ _ (State.canonical_hedge _ c)
    | with_reducible exact fun c => Tab.filter_wf _ _ _ (State.canonical_hedge _ c)
    | with_reducible apply Frame.foldl
    | with_reducible apply Frame.foldl_fst
    | split
    | with_reducible apply Frame.ite
    | with_reducible apply Frame.set_hdg
    | intro _
    | dsimp only
theorem State.setHedge_step (w0 : Nat) (a0 : State) (s : State) (h : Nat) (x : HdgState) (h0 : Frame w0 a0 s) (hw : 8388608 &&& w0 = 8388608) : Frame w0 a0 (State.setHedge s h x) :=
  Frame.step _ _ _ _ _ h0 (State.setHedge_frame s h x) hw

theorem State.setCore_frame (s : State) (c : Nat) (x : CoreState) : Frame 33554432 s (State.setCore s c x) := by
  unfold State.setCore
  try dsimp only
  repeat' first
    | with_reducible apply Frame.refl
    | with_reducible assumption
    | apply Eq.refl
    | with_reducible exact fun c => ⟨id (State.canonical_core _ c), id (State.canonical_task _ c)⟩
    | with_reducible exact fun c => ⟨id (State.canonical_core _ c), Tab.put_wf _ _ _ _ (State.canonical_task _ c)⟩
    | with_reducible exact fun c => ⟨Tab.put_wf _ _ _ _ (State.canonical_core _ c), id (State.canonical_task _ c)⟩
    | with_reducible exact fun c => ⟨Tab.put_wf _ _ _ _ (State.canonical_core _ c), Tab.put_wf _ _ _ _ (State.canonical_task _ c)⟩
    | with_reducible exact fun c => ⟨Tab.mapV_wf _ _ _ (State.canonical_core _ c), id (State.canonical_task _ c)⟩
    | with_reducible exact fun c => ⟨Tab.mapV_wf _ _ _ (State.canonical_core _ c), Tab.put_wf _ _ _ _ (State.canonical_task _ c)⟩
    | with_reducible apply Frame.foldl
    | with_reducible apply Frame.foldl_fst
    | split
    | with_reducible apply Frame.ite
    | (with_reducible apply Frame.set_lodge; rotate_left; apply Eq.refl; apply Eq.refl; apply Eq.refl)
    | with_reducible apply Frame.set_lodge'
    | intro _
    | dsimp only
theorem State.setCore_step (w0 : Nat) (a0 : State) (s : State) (c : Nat) (x : CoreState) (h0 : Frame w0 a0 s) (hw : 33554432 &&& w0 = 33554432) : Frame w0 a0 (State.setCore s c x) :=
  Frame.step _ _ _ _ _ h0 (State.setCore_frame s c x) hw

theorem State.setTask_frame (s : State) (k : Nat) (x : TaskState) : Frame 33554432 s (State.setTask s k x) := by
  unfold State.setTask
  try dsimp only
  repeat' first
    | with_reducible apply Frame.refl
    | with_reducible assumption
    | apply Eq.refl
    | with_reducible exact fun c => ⟨id (State.canonical_core _ c), id (State.canonical_task _ c)⟩
    | with_reducible exact fun c => ⟨id (State.canonical_core _ c), Tab.put_wf _ _ _ _ (State.canonical_task _ c)⟩
    | with_reducible exact fun c => ⟨Tab.put_wf _ _ _ _ (State.canonical_core _ c), id (State.canonical_task _ c)⟩
    | with_reducible exact fun c => ⟨Tab.put_wf _ _ _ _ (State.canonical_core _ c), Tab.put_wf _ _ _ _ (State.canonical_task _ c)⟩
    | with_reducible exact fun c => ⟨Tab.mapV_wf _ _ _ (State.canonical_core _ c), id (State.canonical_task _ c)⟩
    | with_reducible exact fun c => ⟨Tab.mapV_wf _ _ _ (State.canonical_core _ c), Tab.put_wf _ _ _ _ (State.canonical_task _ c)⟩
    | with_reducible apply Frame.foldl
    | with_reducible apply Frame.foldl_fst
    | split
    | with_reducible apply Frame.ite
    | (with_reducible apply Frame.set_lodge; rotate_left; apply Eq.refl; apply Eq.refl; apply Eq.refl)
    | with_reducible apply Frame.set_lodge'
    | intro _
    | dsimp only
theorem State.setTask_step (w0 : Nat) (a0 : State) (s : State) (k : Nat) (x : TaskState) (h0 : Frame w0 a0 s) (hw : 33554432 &&& w0 = 33554432) : Frame w0 a0 (State.setTask s k x) :=
  Frame.step _ _ _ _ _ h0 (State.setTask_frame s k x) hw

theorem State.setL2Line_frame (s : State) (h : Nat) (k : Nat) (l : Option L2Line) : Frame 33554432 s (State.setL2Line s h k l) := by
  unfold State.setL2Line
  try dsimp only
  repeat' first
    | with_reducible apply Frame.refl
    | with_reducible assumption
    | apply Eq.refl
    | with_reducible exact fun c => ⟨id (State.canonical_core _ c), id (State.canonical_task _ c)⟩
    | with_reducible exact fun c => ⟨id (State.canonical_core _ c), Tab.put_wf _ _ _ _ (State.canonical_task _ c)⟩
    | with_reducible exact fun c => ⟨Tab.put_wf _ _ _ _ (State.canonical_core _ c), id (State.canonical_task _ c)⟩
    | with_reducible exact fun c => ⟨Tab.put_wf _ _ _ _ (State.canonical_core _ c), Tab.put_wf _ _ _ _ (State.canonical_task _ c)⟩
    | with_reducible exact fun c => ⟨Tab.mapV_wf _ _ _ (State.canonical_core _ c), id (State.canonical_task _ c)⟩
    | with_reducible exact fun c => ⟨Tab.mapV_wf _ _ _ (State.canonical_core _ c), Tab.put_wf _ _ _ _ (State.canonical_task _ c)⟩
    | with_reducible apply Frame.foldl
    | with_reducible apply Frame.foldl_fst
    | split
    | with_reducible apply Frame.ite
    | (with_reducible apply Frame.set_lodge; rotate_left; apply Eq.refl; apply Eq.refl; apply Eq.refl)
    | with_reducible apply Frame.set_lodge'
    | intro _
    | dsimp only
theorem State.setL2Line_step (w0 : Nat) (a0 : State) (s : State) (h : Nat) (k : Nat) (l : Option L2Line) (h0 : Frame w0 a0 s) (hw : 33554432 &&& w0 = 33554432) : Frame w0 a0 (State.setL2Line s h k l) :=
  Frame.step _ _ _ _ _ h0 (State.setL2Line_frame s h k l) hw

theorem State.setCtx_frame (s : State) (c : Nat) (x : CtxState) : Frame 67108864 s (State.setCtx s c x) := by
  unfold State.setCtx
  try dsimp only
  repeat' first
    | with_reducible apply Frame.refl
    | with_reducible assumption
    | apply Eq.refl
    | with_reducible exact fun c => Tab.put_wf _ _ _ _ (State.canonical_ctx _ c)
    | with_reducible exact fun c => Tab.mapV_wf _ _ _ (State.canonical_ctx _ c)
    | with_reducible exact fun c => Tab.filter_wf _ _ _ (State.canonical_ctx _ c)
    | with_reducible apply Frame.foldl
    | with_reducible apply Frame.foldl_fst
    | split
    | with_reducible apply Frame.ite
    | with_reducible apply Frame.set_ctxs
    | intro _
    | dsimp only
theorem State.setCtx_step (w0 : Nat) (a0 : State) (s : State) (c : Nat) (x : CtxState) (h0 : Frame w0 a0 s) (hw : 67108864 &&& w0 = 67108864) : Frame w0 a0 (State.setCtx s c x) :=
  Frame.step _ _ _ _ _ h0 (State.setCtx_frame s c x) hw

theorem State.setLink_frame (s : State) (p : Nat) (l : Link) : Frame 134217728 s (State.setLink s p l) := by
  unfold State.setLink
  try dsimp only
  repeat' first
    | with_reducible apply Frame.refl
    | with_reducible assumption
    | apply Eq.refl
    | with_reducible exact fun c => Tab.put_wf _ _ _ _ (State.canonical_link _ c)
    | with_reducible exact fun c => Tab.mapV_wf _ _ _ (State.canonical_link _ c)
    | with_reducible exact fun c => Tab.filter_wf _ _ _ (State.canonical_link _ c)
    | with_reducible apply Frame.foldl
    | with_reducible apply Frame.foldl_fst
    | split
    | with_reducible apply Frame.ite
    | (with_reducible apply Frame.set_grp; rotate_left; apply Eq.refl; apply Eq.refl)
    | with_reducible apply Frame.set_grp'
    | intro _
    | dsimp only
theorem State.setLink_step (w0 : Nat) (a0 : State) (s : State) (p : Nat) (l : Link) (h0 : Frame w0 a0 s) (hw : 134217728 &&& w0 = 134217728) : Frame w0 a0 (State.setLink s p l) :=
  Frame.step _ _ _ _ _ h0 (State.setLink_frame s p l) hw

theorem State.setSent_frame (s : State) (h : Nat) (x : SentState) : Frame 268435456 s (State.setSent s h x) := by
  unfold State.setSent
  try dsimp only
  repeat' first
    | with_reducible apply Frame.refl
    | with_reducible assumption
    | apply Eq.refl
    | with_reducible exact fun c => Tab.put_wf _ _ _ _ (State.canonical_sent _ c)
    | with_reducible exact fun c => Tab.mapV_wf _ _ _ (State.canonical_sent _ c)
    | with_reducible exact fun c => Tab.filter_wf _ _ _ (State.canonical_sent _ c)
    | with_reducible apply Frame.foldl
    | with_reducible apply Frame.foldl_fst
    | split
    | with_reducible apply Frame.ite
    | (with_reducible apply Frame.set_sup; rotate_left; apply Eq.refl; apply Eq.refl)
    | with_reducible apply Frame.set_sup'
    | intro _
    | dsimp only
theorem State.setSent_step (w0 : Nat) (a0 : State) (s : State) (h : Nat) (x : SentState) (h0 : Frame w0 a0 s) (hw : 268435456 &&& w0 = 268435456) : Frame w0 a0 (State.setSent s h x) :=
  Frame.step _ _ _ _ _ h0 (State.setSent_frame s h x) hw

theorem State.onTile_frame (s : State) (k : Nat) (f : Tile → Tile) : Frame 32768 s (State.onTile s k f) := by
  unfold State.onTile
  try dsimp only
  repeat' first
    | with_reducible apply Frame.refl
    | with_reducible assumption
    | apply Eq.refl
    | with_reducible apply State.setTile_step
    | with_reducible apply Frame.foldl
    | with_reducible apply Frame.foldl_fst
    | split
    | with_reducible apply Frame.ite
    | intro _
    | dsimp only
theorem State.onTile_step (w0 : Nat) (a0 : State) (s : State) (k : Nat) (f : Tile → Tile) (h0 : Frame w0 a0 s) (hw : 32768 &&& w0 = 32768) : Frame w0 a0 (State.onTile s k f) :=
  Frame.step _ _ _ _ _ h0 (State.onTile_frame s k f) hw

theorem State.onPq_frame (s : State) (q : Nat) (f : PqState → PqState) : Frame 524288 s (State.onPq s q f) := by
  unfold State.onPq
  try dsimp only
  repeat' first
    | with_reducible apply Frame.refl
    | with_reducible assumption
    | apply Eq.refl
    | with_reducible apply State.setPq_step
    | with_reducible apply Frame.foldl
    | with_reducible apply Frame.foldl_fst
    | split
    | with_reducible apply Frame.ite
    | intro _
    | dsimp only
theorem State.onPq_step (w0 : Nat) (a0 : State) (s : State) (q : Nat) (f : PqState → PqState) (h0 : Frame w0 a0 s) (hw : 524288 &&& w0 = 524288) : Frame w0 a0 (State.onPq s q f) :=
  Frame.step _ _ _ _ _ h0 (State.onPq_frame s q f) hw

end Sys2Proof.Machine
end

