-- ==== Sys2Proof/Laws/F_QueueOps.lean ====
section
/-!
SUPPORT. Frames of the operations of Machine/QueueOps.lean.
-/
namespace Sys2Proof.Machine

set_option linter.unusedTactic false
set_option linter.unreachableTactic false
set_option linter.unusedVariables false

theorem State.msix_frame (s : State) (v : Nat) : Frame 1072 s (State.msix s v) := by
  unfold State.msix
  try dsimp only
  repeat' first
    | with_reducible apply Frame.refl
    | with_reducible assumption
    | apply Eq.refl
    | with_reducible apply State.setBits_step
    | with_reducible apply State.send_step
    | with_reducible apply Frame.foldl
    | with_reducible apply Frame.foldl_fst
    | split
    | with_reducible apply Frame.ite
    | intro _
    | dsimp only
theorem State.msix_step (w0 : Nat) (a0 : State) (s : State) (v : Nat) (h0 : Frame w0 a0 s) (hw : 1072 &&& w0 = 1072) : Frame w0 a0 (State.msix s v) :=
  Frame.step _ _ _ _ _ h0 (State.msix_frame s v) hw

theorem State.coreNotice_frame (s : State) (c : Nat) (src : BitVec 16) : Frame 33555456 s (State.coreNotice s c src) := by
  unfold State.coreNotice
  try dsimp only
  repeat' first
    | with_reducible apply Frame.refl
    | with_reducible assumption
    | apply Eq.refl
    | with_reducible apply State.send_step
    | with_reducible apply State.setCore_step
    | with_reducible apply Frame.foldl
    | with_reducible apply Frame.foldl_fst
    | split
    | with_reducible apply Frame.ite
    | intro _
    | dsimp only
theorem State.coreNotice_step (w0 : Nat) (a0 : State) (s : State) (c : Nat) (src : BitVec 16) (h0 : Frame w0 a0 s) (hw : 33555456 &&& w0 = 33555456) : Frame w0 a0 (State.coreNotice s c src) :=
  Frame.step _ _ _ _ _ h0 (State.coreNotice_frame s c src) hw

theorem State.raiseErrNotice_frame (s : State) : Frame 1072 s (State.raiseErrNotice s) := by
  unfold State.raiseErrNotice
  try dsimp only
  repeat' first
    | with_reducible apply Frame.refl
    | with_reducible assumption
    | apply Eq.refl
    | with_reducible apply State.msix_step
    | with_reducible apply State.setBits_step
    | with_reducible apply Frame.foldl
    | with_reducible apply Frame.foldl_fst
    | split
    | with_reducible apply Frame.ite
    | intro _
    | dsimp only
theorem State.raiseErrNotice_step (w0 : Nat) (a0 : State) (s : State) (h0 : Frame w0 a0 s) (hw : 1072 &&& w0 = 1072) : Frame w0 a0 (State.raiseErrNotice s) :=
  Frame.step _ _ _ _ _ h0 (State.raiseErrNotice_frame s) hw

theorem State.afterOcc_frame (s : State) (q : Nat) (p : PqState) : Frame 524304 s (State.afterOcc s q p).1 := by
  unfold State.afterOcc
  try dsimp only
  repeat' first
    | with_reducible apply Frame.refl
    | with_reducible assumption
    | apply Eq.refl
    | with_reducible apply State.maxReg_step
    | with_reducible apply State.setPq_step
    | with_reducible apply Frame.foldl
    | with_reducible apply Frame.foldl_fst
    | split
    | with_reducible apply Frame.ite
    | intro _
    | dsimp only
theorem State.afterOcc_step (w0 : Nat) (a0 : State) (s : State) (q : Nat) (p : PqState) (h0 : Frame w0 a0 s) (hw : 524304 &&& w0 = 524304) : Frame w0 a0 (State.afterOcc s q p).1 :=
  Frame.step _ _ _ _ _ h0 (State.afterOcc_frame s q p) hw

theorem State.emit_frame (s : State) (e : ErrInfo) : Frame 1573936 s (State.emit s e) := by
  unfold State.emit
  extract_lets o r src p src2 s1 s2
  have h1 : Frame 1573936 s s1 := Frame.set_errSeq _ _ _ _ (Frame.step _ _ _ _ _ (Frame.refl _ _) (State.afterOcc_frame s qError p) rfl) rfl
  have h2 : Frame 1573936 s s2 := Frame.step _ 48 _ _ _ h1 (State.count_frame s1 (aPq qError + 0x24) r.lost) rfl
  generalize r.res = x
  cases x
  · exact Frame.step _ _ _ _ _ h2 (State.raiseErrNotice_frame s2) rfl
  all_goals exact h2
theorem State.emit_step (w0 : Nat) (a0 : State) (s : State) (e : ErrInfo) (h0 : Frame w0 a0 s) (hw : 1573936 &&& w0 = 1573936) : Frame w0 a0 (State.emit s e) :=
  Frame.step _ _ _ _ _ h0 (State.emit_frame s e) hw

theorem State.pqLost_frame (s : State) (q : Nat) (n : Nat) : Frame 1573936 s (State.pqLost s q n) := by
  unfold State.pqLost
  try dsimp only
  repeat' first
    | with_reducible apply Frame.refl
    | with_reducible assumption
    | apply Eq.refl
    | with_reducible apply State.count_step
    | with_reducible apply State.emit_step
    | with_reducible apply Frame.foldl
    | with_reducible apply Frame.foldl_fst
    | split
    | with_reducible apply Frame.ite
    | intro _
    | dsimp only
theorem State.pqLost_step (w0 : Nat) (a0 : State) (s : State) (q : Nat) (n : Nat) (h0 : Frame w0 a0 s) (hw : 1573936 &&& w0 = 1573936) : Frame w0 a0 (State.pqLost s q n) :=
  Frame.step _ _ _ _ _ h0 (State.pqLost_frame s q n) hw

theorem State.pqRefused_frame (s : State) (q : Nat) : Frame 1573936 s (State.pqRefused s q) := by
  unfold State.pqRefused
  try dsimp only
  repeat' first
    | with_reducible apply Frame.refl
    | with_reducible assumption
    | apply Eq.refl
    | with_reducible apply State.count_step
    | with_reducible apply State.emit_step
    | with_reducible apply Frame.foldl
    | with_reducible apply Frame.foldl_fst
    | split
    | with_reducible apply Frame.ite
    | intro _
    | dsimp only
theorem State.pqRefused_step (w0 : Nat) (a0 : State) (s : State) (q : Nat) (h0 : Frame w0 a0 s) (hw : 1573936 &&& w0 = 1573936) : Frame w0 a0 (State.pqRefused s q) :=
  Frame.step _ _ _ _ _ h0 (State.pqRefused_frame s q) hw

theorem State.sigAdd_frame (s : State) (k : Nat) (n : Nat) : Frame 1573936 s (State.sigAdd s k n).1 := by
  unfold State.sigAdd
  try dsimp only
  repeat' first
    | with_reducible apply Frame.refl
    | with_reducible assumption
    | apply Eq.refl
    | with_reducible apply State.setRegN_step
    | with_reducible apply State.emit_step
    | with_reducible apply Frame.foldl
    | with_reducible apply Frame.foldl_fst
    | split
    | with_reducible apply Frame.ite
    | intro _
    | dsimp only
theorem State.sigAdd_step (w0 : Nat) (a0 : State) (s : State) (k : Nat) (n : Nat) (h0 : Frame w0 a0 s) (hw : 1573936 &&& w0 = 1573936) : Frame w0 a0 (State.sigAdd s k n).1 :=
  Frame.step _ _ _ _ _ h0 (State.sigAdd_frame s k n) hw

theorem State.sigFuel_frame (x0 : Nat) (x1 : State) (x2 : Nat) (x3 : Nat) : Frame 35128368 x1 (State.sigFuel x0 x1 x2 x3) := by
  induction x0 generalizing x1 x2 x3 with
  | zero => exact Frame.refl _ _
  | succ f ih =>
    unfold State.sigFuel
    dsimp only
    repeat' first
      | with_reducible exact Frame.refl _ _
      | with_reducible assumption
      | with_reducible refine Frame.step _ _ _ _ _ ?_ (ih _ _ _) rfl
      | with_reducible apply State.sigAdd_step
      | with_reducible apply State.msix_step
      | with_reducible apply State.coreNotice_step
      | apply Eq.refl
      | split
theorem State.sigFuel_step (w0 : Nat) (a0 : State) (x0 : Nat) (x1 : State) (x2 : Nat) (x3 : Nat) (h0 : Frame w0 a0 x1) (hw : 35128368 &&& w0 = 35128368) : Frame w0 a0 (State.sigFuel x0 x1 x2 x3) :=
  Frame.step _ _ _ _ _ h0 (State.sigFuel_frame x0 x1 x2 x3) hw

theorem State.signal_frame (s : State) (k : Nat) (n : Nat) : Frame 35128368 s (State.signal s k n) := by
  unfold State.signal
  try dsimp only
  repeat' first
    | with_reducible apply Frame.refl
    | with_reducible assumption
    | apply Eq.refl
    | with_reducible apply State.sigFuel_step
    | with_reducible apply Frame.foldl
    | with_reducible apply Frame.foldl_fst
    | split
    | with_reducible apply Frame.ite
    | intro _
    | dsimp only
theorem State.signal_step (w0 : Nat) (a0 : State) (s : State) (k : Nat) (n : Nat) (h0 : Frame w0 a0 s) (hw : 35128368 &&& w0 = 35128368) : Frame w0 a0 (State.signal s k n) :=
  Frame.step _ _ _ _ _ h0 (State.signal_frame s k n) hw

theorem State.sigTake_frame (s : State) (k : Nat) : Frame 16 s (State.sigTake s k).1 := by
  unfold State.sigTake
  try dsimp only
  repeat' first
    | with_reducible apply Frame.refl
    | with_reducible assumption
    | apply Eq.refl
    | with_reducible apply State.setRegN_step
    | with_reducible apply Frame.foldl
    | with_reducible apply Frame.foldl_fst
    | split
    | with_reducible apply Frame.ite
    | intro _
    | dsimp only
theorem State.sigTake_step (w0 : Nat) (a0 : State) (s : State) (k : Nat) (h0 : Frame w0 a0 s) (hw : 16 &&& w0 = 16) : Frame w0 a0 (State.sigTake s k).1 :=
  Frame.step _ _ _ _ _ h0 (State.sigTake_frame s k) hw

theorem State.raiseNotice_frame (s : State) (q : Nat) : Frame 35128368 s (State.raiseNotice s q) := by
  unfold State.raiseNotice
  try dsimp only
  repeat' first
    | with_reducible apply Frame.refl
    | with_reducible assumption
    | apply Eq.refl
    | with_reducible apply State.setBits_step
    | with_reducible apply State.msix_step
    | with_reducible apply State.coreNotice_step
    | with_reducible apply State.signal_step
    | with_reducible apply Frame.foldl
    | with_reducible apply Frame.foldl_fst
    | split
    | with_reducible apply Frame.ite
    | intro _
    | dsimp only
theorem State.raiseNotice_step (w0 : Nat) (a0 : State) (s : State) (q : Nat) (h0 : Frame w0 a0 s) (hw : 35128368 &&& w0 = 35128368) : Frame w0 a0 (State.raiseNotice s q) :=
  Frame.step _ _ _ _ _ h0 (State.raiseNotice_frame s q) hw

theorem State.pqChanged_frame (s : State) (q : Nat) (p : PqState) : Frame 35128368 s (State.pqChanged s q p) := by
  unfold State.pqChanged
  try dsimp only
  repeat' first
    | with_reducible apply Frame.refl
    | with_reducible assumption
    | apply Eq.refl
    | with_reducible apply State.afterOcc_step
    | (with_reducible refine Frame.of_pair (by with_reducible assumption) (State.afterOcc_step _ _ _ _ _ ?_ ?_))
    | with_reducible apply State.raiseNotice_step
    | with_reducible apply Frame.foldl
    | with_reducible apply Frame.foldl_fst
    | split
    | with_reducible apply Frame.ite
    | intro _
    | dsimp only
theorem State.pqChanged_step (w0 : Nat) (a0 : State) (s : State) (q : Nat) (p : PqState) (h0 : Frame w0 a0 s) (hw : 35128368 &&& w0 = 35128368) : Frame w0 a0 (State.pqChanged s q p) :=
  Frame.step _ _ _ _ _ h0 (State.pqChanged_frame s q p) hw

theorem State.settle_frame (s : State) (q : Nat) (o : Offer) (r : OfferOut) : Frame 35128368 s (State.settle s q o r) := by
  unfold State.settle
  try dsimp only
  repeat' first
    | with_reducible apply Frame.refl
    | with_reducible assumption
    | apply Eq.refl
    | with_reducible apply State.count_step
    | with_reducible apply State.pqChanged_step
    | with_reducible apply State.pqLost_step
    | with_reducible apply State.raiseNotice_step
    | with_reducible apply State.pqRefused_step
    | with_reducible apply Frame.foldl
    | with_reducible apply Frame.foldl_fst
    | split
    | with_reducible apply Frame.ite
    | intro _
    | dsimp only
theorem State.settle_step (w0 : Nat) (a0 : State) (s : State) (q : Nat) (o : Offer) (r : OfferOut) (h0 : Frame w0 a0 s) (hw : 35128368 &&& w0 = 35128368) : Frame w0 a0 (State.settle s q o r) :=
  Frame.step _ _ _ _ _ h0 (State.settle_frame s q o r) hw

theorem State.offer_frame (s : State) (q : Nat) (o : Offer) : Frame 35128368 s (State.offer s q o).1 := by
  unfold State.offer
  try dsimp only
  repeat' first
    | with_reducible apply Frame.refl
    | with_reducible assumption
    | apply Eq.refl
    | with_reducible apply State.onPq_step
    | with_reducible apply State.settle_step
    | with_reducible apply Frame.foldl
    | with_reducible apply Frame.foldl_fst
    | split
    | with_reducible apply Frame.ite
    | intro _
    | dsimp only
theorem State.offer_step (w0 : Nat) (a0 : State) (s : State) (q : Nat) (o : Offer) (h0 : Frame w0 a0 s) (hw : 35128368 &&& w0 = 35128368) : Frame w0 a0 (State.offer s q o).1 :=
  Frame.step _ _ _ _ _ h0 (State.offer_frame s q o) hw

theorem State.hostPush_frame (s : State) (q : Nat) (o : Offer) : Frame 35128368 s (State.hostPush s q o) := by
  unfold State.hostPush
  try dsimp only
  repeat' first
    | with_reducible apply Frame.refl
    | with_reducible assumption
    | apply Eq.refl
    | with_reducible apply State.settle_step
    | with_reducible apply Frame.foldl
    | with_reducible apply Frame.foldl_fst
    | split
    | with_reducible apply Frame.ite
    | intro _
    | dsimp only
theorem State.hostPush_step (w0 : Nat) (a0 : State) (s : State) (q : Nat) (o : Offer) (h0 : Frame w0 a0 s) (hw : 35128368 &&& w0 = 35128368) : Frame w0 a0 (State.hostPush s q o) :=
  Frame.step _ _ _ _ _ h0 (State.hostPush_frame s q o) hw

theorem State.tryHeld_frame (s : State) (q : Nat) (x2 : Nat) (x3 : List Offer) : Frame 35128368 s (State.tryHeld s q x2 x3) := by
  induction x2 generalizing x3 with
  | zero => exact Frame.refl _ _
  | succ n ih =>
    unfold State.tryHeld
    dsimp only
    repeat' first
      | with_reducible exact Frame.refl _ _
      | with_reducible exact ih _
      | with_reducible apply State.settle_step
      | apply Eq.refl
      | split
theorem State.tryHeld_step (w0 : Nat) (a0 : State) (s : State) (q : Nat) (x2 : Nat) (x3 : List Offer) (h0 : Frame w0 a0 s) (hw : 35128368 &&& w0 = 35128368) : Frame w0 a0 (State.tryHeld s q x2 x3) :=
  Frame.step _ _ _ _ _ h0 (State.tryHeld_frame s q x2 x3) hw

theorem State.deliver_frame (s : State) (q : Nat) (i : QItem) : Frame 524288 s (State.deliver s q i).1 := by
  unfold State.deliver
  try dsimp only
  repeat' first
    | with_reducible apply Frame.refl
    | with_reducible assumption
    | apply Eq.refl
    | with_reducible apply State.onPq_step
    | with_reducible apply Frame.foldl
    | with_reducible apply Frame.foldl_fst
    | split
    | with_reducible apply Frame.ite
    | intro _
    | dsimp only
theorem State.deliver_step (w0 : Nat) (a0 : State) (s : State) (q : Nat) (i : QItem) (h0 : Frame w0 a0 s) (hw : 524288 &&& w0 = 524288) : Frame w0 a0 (State.deliver s q i).1 :=
  Frame.step _ _ _ _ _ h0 (State.deliver_frame s q i) hw

theorem State.popItem_frame (s : State) (q : Nat) : Frame 35128368 s (State.popItem s q).1 := by
  unfold State.popItem
  try dsimp only
  repeat' first
    | with_reducible apply Frame.refl
    | with_reducible assumption
    | apply Eq.refl
    | with_reducible apply State.deliver_step
    | (with_reducible refine Frame.of_pair (by with_reducible assumption) (State.deliver_step _ _ _ _ _ ?_ ?_))
    | with_reducible apply State.pqChanged_step
    | with_reducible apply Frame.foldl
    | with_reducible apply Frame.foldl_fst
    | split
    | with_reducible apply Frame.ite
    | intro _
    | dsimp only
theorem State.popItem_step (w0 : Nat) (a0 : State) (s : State) (q : Nat) (h0 : Frame w0 a0 s) (hw : 35128368 &&& w0 = 35128368) : Frame w0 a0 (State.popItem s q).1 :=
  Frame.step _ _ _ _ _ h0 (State.popItem_frame s q) hw

theorem State.pqFlushAll_frame (s : State) (q : Nat) : Frame 35128368 s (State.pqFlushAll s q) := by
  unfold State.pqFlushAll
  try dsimp only
  repeat' first
    | with_reducible apply Frame.refl
    | with_reducible assumption
    | apply Eq.refl
    | with_reducible apply State.count_step
    | with_reducible apply State.pqChanged_step
    | with_reducible apply Frame.foldl
    | with_reducible apply Frame.foldl_fst
    | split
    | with_reducible apply Frame.ite
    | intro _
    | dsimp only
theorem State.pqFlushAll_step (w0 : Nat) (a0 : State) (s : State) (q : Nat) (h0 : Frame w0 a0 s) (hw : 35128368 &&& w0 = 35128368) : Frame w0 a0 (State.pqFlushAll s q) :=
  Frame.step _ _ _ _ _ h0 (State.pqFlushAll_frame s q) hw

theorem State.pqResetAll_frame (s : State) (q : Nat) : Frame 35128368 s (State.pqResetAll s q) := by
  unfold State.pqResetAll
  try dsimp only
  repeat' first
    | with_reducible apply Frame.refl
    | with_reducible assumption
    | apply Eq.refl
    | with_reducible apply State.pqLost_step
    | with_reducible apply State.setBits_step
    | with_reducible apply State.pqChanged_step
    | with_reducible apply Frame.foldl
    | with_reducible apply Frame.foldl_fst
    | split
    | with_reducible apply Frame.ite
    | intro _
    | dsimp only
theorem State.pqResetAll_step (w0 : Nat) (a0 : State) (s : State) (q : Nat) (h0 : Frame w0 a0 s) (hw : 35128368 &&& w0 = 35128368) : Frame w0 a0 (State.pqResetAll s q) :=
  Frame.step _ _ _ _ _ h0 (State.pqResetAll_frame s q) hw

theorem State.pqDisableAll_frame (s : State) (q : Nat) : Frame 35128368 s (State.pqDisableAll s q) := by
  unfold State.pqDisableAll
  try dsimp only
  repeat' first
    | with_reducible apply Frame.refl
    | with_reducible assumption
    | apply Eq.refl
    | with_reducible apply State.pqFlushAll_step
    | with_reducible apply State.onPq_step
    | with_reducible apply State.clrBits_step
    | with_reducible apply Frame.foldl
    | with_reducible apply Frame.foldl_fst
    | split
    | with_reducible apply Frame.ite
    | intro _
    | dsimp only
theorem State.pqDisableAll_step (w0 : Nat) (a0 : State) (s : State) (q : Nat) (h0 : Frame w0 a0 s) (hw : 35128368 &&& w0 = 35128368) : Frame w0 a0 (State.pqDisableAll s q) :=
  Frame.step _ _ _ _ _ h0 (State.pqDisableAll_frame s q) hw

end Sys2Proof.Machine
end

