-- ==== Sys2Proof/Laws/F_BellOps.lean ====
section
/-!
SUPPORT. Frames of the operations of Machine/BellOps.lean.
-/
namespace Sys2Proof.Machine

set_option linter.unusedTactic false
set_option linter.unreachableTactic false
set_option linter.unusedVariables false

theorem State.setLoadState_frame (s : State) (v : Nat) : Frame 16 s (State.setLoadState s v) := by
  unfold State.setLoadState
  try dsimp only
  repeat' first
    | with_reducible apply Frame.refl
    | with_reducible assumption
    | apply Eq.refl
    | with_reducible apply State.setReg_step
    | with_reducible apply Frame.foldl
    | with_reducible apply Frame.foldl_fst
    | split
    | with_reducible apply Frame.ite
    | intro _
    | dsimp only
theorem State.setLoadState_step (w0 : Nat) (a0 : State) (s : State) (v : Nat) (h0 : Frame w0 a0 s) (hw : 16 &&& w0 = 16) : Frame w0 a0 (State.setLoadState s v) :=
  Frame.step _ _ _ _ _ h0 (State.setLoadState_frame s v) hw

theorem State.cfgIgnored_frame (s : State) : Frame 48 s (State.cfgIgnored s) := by
  unfold State.cfgIgnored
  try dsimp only
  repeat' first
    | with_reducible apply Frame.refl
    | with_reducible assumption
    | apply Eq.refl
    | with_reducible apply State.setBits_step
    | with_reducible apply Frame.foldl
    | with_reducible apply Frame.foldl_fst
    | split
    | with_reducible apply Frame.ite
    | intro _
    | dsimp only
theorem State.cfgIgnored_step (w0 : Nat) (a0 : State) (s : State) (h0 : Frame w0 a0 s) (hw : 48 &&& w0 = 48) : Frame w0 a0 (State.cfgIgnored s) :=
  Frame.step _ _ _ _ _ h0 (State.cfgIgnored_frame s) hw

theorem State.updBell_frame (s : State) (f : BellState → BellState) : Frame 4096 s (State.updBell s f) := by
  unfold State.updBell
  try dsimp only
  repeat' first
    | with_reducible apply Frame.refl
    | with_reducible assumption
    | apply Eq.refl
    | with_reducible apply Frame.foldl
    | with_reducible apply Frame.foldl_fst
    | split
    | with_reducible apply Frame.ite
    | with_reducible apply Frame.set_bell
    | intro _
    | dsimp only
theorem State.updBell_step (w0 : Nat) (a0 : State) (s : State) (f : BellState → BellState) (h0 : Frame w0 a0 s) (hw : 4096 &&& w0 = 4096) : Frame w0 a0 (State.updBell s f) :=
  Frame.step _ _ _ _ _ h0 (State.updBell_frame s f) hw

theorem State.updBand_frame (s : State) (n : W48) (f : BandRec → BandRec) : Frame 4096 s (State.updBand s n f) := by
  unfold State.updBand
  try dsimp only
  repeat' first
    | with_reducible apply Frame.refl
    | with_reducible assumption
    | apply Eq.refl
    | with_reducible apply State.updBell_step
    | with_reducible apply Frame.foldl
    | with_reducible apply Frame.foldl_fst
    | split
    | with_reducible apply Frame.ite
    | intro _
    | dsimp only
theorem State.updBand_step (w0 : Nat) (a0 : State) (s : State) (n : W48) (f : BandRec → BandRec) (h0 : Frame w0 a0 s) (hw : 4096 &&& w0 = 4096) : Frame w0 a0 (State.updBand s n f) :=
  Frame.step _ _ _ _ _ h0 (State.updBand_frame s n f) hw

theorem State.closeRun_frame (s : State) (byTime : Bool) (r : Run) : Frame 8240 s (State.closeRun s byTime r) := by
  unfold State.closeRun
  try dsimp only
  repeat' first
    | with_reducible apply Frame.refl
    | with_reducible assumption
    | apply Eq.refl
    | with_reducible apply State.setRegN_step
    | with_reducible apply State.count_step
    | with_reducible apply Frame.foldl
    | with_reducible apply Frame.foldl_fst
    | split
    | with_reducible apply Frame.ite
    | with_reducible apply Frame.set_ledger
    | intro _
    | dsimp only
theorem State.closeRun_step (w0 : Nat) (a0 : State) (s : State) (byTime : Bool) (r : Run) (h0 : Frame w0 a0 s) (hw : 8240 &&& w0 = 8240) : Frame w0 a0 (State.closeRun s byTime r) :=
  Frame.step _ _ _ _ _ h0 (State.closeRun_frame s byTime r) hw

theorem State.closeRuns_frame (s : State) (old : List (Run × Bool)) (new : List (Run × Bool)) : Frame 8240 s (State.closeRuns s old new) := by
  unfold State.closeRuns
  try dsimp only
  repeat' first
    | with_reducible apply Frame.refl
    | with_reducible assumption
    | apply Eq.refl
    | with_reducible apply State.closeRun_step
    | with_reducible apply Frame.foldl
    | with_reducible apply Frame.foldl_fst
    | split
    | with_reducible apply Frame.ite
    | intro _
    | dsimp only
theorem State.closeRuns_step (w0 : Nat) (a0 : State) (s : State) (old : List (Run × Bool)) (new : List (Run × Bool)) (h0 : Frame w0 a0 s) (hw : 8240 &&& w0 = 8240) : Frame w0 a0 (State.closeRuns s old new) :=
  Frame.step _ _ _ _ _ h0 (State.closeRuns_frame s old new) hw

theorem State.checkFull_frame (s : State) : Frame 1582128 s (State.checkFull s) := by
  unfold State.checkFull
  try dsimp only
  repeat' first
    | with_reducible apply Frame.refl
    | with_reducible assumption
    | apply Eq.refl
    | with_reducible apply State.emit_step
    | with_reducible apply Frame.foldl
    | with_reducible apply Frame.foldl_fst
    | split
    | with_reducible apply Frame.ite
    | with_reducible apply Frame.set_ledger
    | intro _
    | dsimp only
theorem State.checkFull_step (w0 : Nat) (a0 : State) (s : State) (h0 : Frame w0 a0 s) (hw : 1582128 &&& w0 = 1582128) : Frame w0 a0 (State.checkFull s) :=
  Frame.step _ _ _ _ _ h0 (State.checkFull_frame s) hw

theorem State.ledgerBand_frame (s : State) (b : BandRec) (v : Verdict) : Frame 1582128 s (State.ledgerBand s b v) := by
  unfold State.ledgerBand
  try dsimp only
  repeat' first
    | with_reducible apply Frame.refl
    | with_reducible assumption
    | apply Eq.refl
    | with_reducible apply State.checkFull_step
    | with_reducible apply State.closeRuns_step
    | with_reducible apply Frame.foldl
    | with_reducible apply Frame.foldl_fst
    | split
    | with_reducible apply Frame.ite
    | with_reducible apply Frame.set_ledger
    | intro _
    | dsimp only
theorem State.ledgerBand_step (w0 : Nat) (a0 : State) (s : State) (b : BandRec) (v : Verdict) (h0 : Frame w0 a0 s) (hw : 1582128 &&& w0 = 1582128) : Frame w0 a0 (State.ledgerBand s b v) :=
  Frame.step _ _ _ _ _ h0 (State.ledgerBand_frame s b v) hw

theorem State.finaliseList_frame (x0 : State) (x1 : List BandRec) : Frame 1586224 x0 (State.finaliseList x0 x1) := by
  induction x1 generalizing x0 with
  | nil => exact Frame.set_bell _ _ _ _ (Frame.refl _ _) rfl
  | cons b bs ih =>
    unfold State.finaliseList
    split
    · exact Frame.step _ _ _ _ _ (State.ledgerBand_step _ _ _ _ _ (Frame.refl _ _) rfl) (ih _) rfl
    · exact Frame.set_bell _ _ _ _ (Frame.refl _ _) rfl
theorem State.finaliseList_step (w0 : Nat) (a0 : State) (x0 : State) (x1 : List BandRec) (h0 : Frame w0 a0 x0) (hw : 1586224 &&& w0 = 1586224) : Frame w0 a0 (State.finaliseList x0 x1) :=
  Frame.step _ _ _ _ _ h0 (State.finaliseList_frame x0 x1) hw

theorem State.finalise_frame (s : State) : Frame 1586224 s (State.finalise s) := by
  unfold State.finalise
  try dsimp only
  repeat' first
    | with_reducible apply Frame.refl
    | with_reducible assumption
    | apply Eq.refl
    | with_reducible apply State.finaliseList_step
    | with_reducible apply Frame.foldl
    | with_reducible apply Frame.foldl_fst
    | split
    | with_reducible apply Frame.ite
    | intro _
    | dsimp only
theorem State.finalise_step (w0 : Nat) (a0 : State) (s : State) (h0 : Frame w0 a0 s) (hw : 1586224 &&& w0 = 1586224) : Frame w0 a0 (State.finalise s) :=
  Frame.step _ _ _ _ _ h0 (State.finalise_frame s) hw

theorem State.closeAllRuns_frame (s : State) : Frame 1582128 s (State.closeAllRuns s) := by
  unfold State.closeAllRuns
  try dsimp only
  repeat' first
    | with_reducible apply Frame.refl
    | with_reducible assumption
    | apply Eq.refl
    | with_reducible apply State.checkFull_step
    | with_reducible apply State.closeRuns_step
    | with_reducible apply Frame.foldl
    | with_reducible apply Frame.foldl_fst
    | split
    | with_reducible apply Frame.ite
    | with_reducible apply Frame.set_ledger
    | intro _
    | dsimp only
theorem State.closeAllRuns_step (w0 : Nat) (a0 : State) (s : State) (h0 : Frame w0 a0 s) (hw : 1582128 &&& w0 = 1582128) : Frame w0 a0 (State.closeAllRuns s) :=
  Frame.step _ _ _ _ _ h0 (State.closeAllRuns_frame s) hw

theorem State.verdictWhere_frame (s : State) (p : BandRec → Bool) (v : Verdict) : Frame 4096 s (State.verdictWhere s p v) := by
  unfold State.verdictWhere
  try dsimp only
  repeat' first
    | with_reducible apply Frame.refl
    | with_reducible assumption
    | apply Eq.refl
    | with_reducible apply State.updBell_step
    | with_reducible apply Frame.foldl
    | with_reducible apply Frame.foldl_fst
    | split
    | with_reducible apply Frame.ite
    | intro _
    | dsimp only
theorem State.verdictWhere_step (w0 : Nat) (a0 : State) (s : State) (p : BandRec → Bool) (v : Verdict) (h0 : Frame w0 a0 s) (hw : 4096 &&& w0 = 4096) : Frame w0 a0 (State.verdictWhere s p v) :=
  Frame.step _ _ _ _ _ h0 (State.verdictWhere_frame s p v) hw

theorem State.closeMissing_frame (s : State) (n : Nat) (t : OpenTick) (bad : Bool) : Frame 135216 s (State.closeMissing s n t bad) := by
  unfold State.closeMissing
  try dsimp only
  repeat' first
    | with_reducible apply Frame.refl
    | with_reducible assumption
    | apply Eq.refl
    | with_reducible apply State.count_step
    | with_reducible apply State.setCam_step
    | with_reducible apply State.updBand_step
    | with_reducible apply Frame.foldl
    | with_reducible apply Frame.foldl_fst
    | split
    | with_reducible apply Frame.ite
    | intro _
    | dsimp only
theorem State.closeMissing_step (w0 : Nat) (a0 : State) (s : State) (n : Nat) (t : OpenTick) (bad : Bool) (h0 : Frame w0 a0 s) (hw : 135216 &&& w0 = 135216) : Frame w0 a0 (State.closeMissing s n t bad) :=
  Frame.step _ _ _ _ _ h0 (State.closeMissing_frame s n t bad) hw

theorem State.dropLines_frame (s : State) (b : W48) : Frame 131072 s (State.dropLines s b) := by
  unfold State.dropLines
  try dsimp only
  repeat' first
    | with_reducible apply Frame.refl
    | with_reducible assumption
    | apply Eq.refl
    | with_reducible exact fun c => Tab.put_wf _ _ _ _ (State.canonical_cam _ c)
    | with_reducible exact fun c => Tab.mapV_wf _ _ _ (State.canonical_cam _ c)
    | with_reducible exact fun c => Tab.filter_wf _ _ _ (State.canonical_cam _ c)
    | with_reducible apply Frame.foldl
    | with_reducible apply Frame.foldl_fst
    | split
    | with_reducible apply Frame.ite
    | (with_reducible apply Frame.set_gth; rotate_left; apply Eq.refl; apply Eq.refl)
    | with_reducible apply Frame.set_gth'
    | intro _
    | dsimp only
theorem State.dropLines_step (w0 : Nat) (a0 : State) (s : State) (b : W48) (h0 : Frame w0 a0 s) (hw : 131072 &&& w0 = 131072) : Frame w0 a0 (State.dropLines s b) :=
  Frame.step _ _ _ _ _ h0 (State.dropLines_frame s b) hw

theorem State.pushSend_frame (s : State) (x : SendItem) : Frame 4096 s (State.pushSend s x) := by
  unfold State.pushSend
  try dsimp only
  repeat' first
    | with_reducible apply Frame.refl
    | with_reducible assumption
    | apply Eq.refl
    | with_reducible apply State.updBell_step
    | with_reducible apply Frame.foldl
    | with_reducible apply Frame.foldl_fst
    | split
    | with_reducible apply Frame.ite
    | intro _
    | dsimp only
theorem State.pushSend_step (w0 : Nat) (a0 : State) (s : State) (x : SendItem) (h0 : Frame w0 a0 s) (hw : 4096 &&& w0 = 4096) : Frame w0 a0 (State.pushSend s x) :=
  Frame.step _ _ _ _ _ h0 (State.pushSend_frame s x) hw

theorem State.setGrpState_frame (s : State) (v : Nat) : Frame 16 s (State.setGrpState s v) := by
  unfold State.setGrpState
  try dsimp only
  repeat' first
    | with_reducible apply Frame.refl
    | with_reducible assumption
    | apply Eq.refl
    | with_reducible apply State.setReg_step
    | with_reducible apply Frame.foldl
    | with_reducible apply Frame.foldl_fst
    | split
    | with_reducible apply Frame.ite
    | intro _
    | dsimp only
theorem State.setGrpState_step (w0 : Nat) (a0 : State) (s : State) (v : Nat) (h0 : Frame w0 a0 s) (hw : 16 &&& w0 = 16) : Frame w0 a0 (State.setGrpState s v) :=
  Frame.step _ _ _ _ _ h0 (State.setGrpState_frame s v) hw

theorem State.sendFlit_frame (s : State) (p : Nat) (ty : BitVec 4) (body : BitVec 560) : Frame 134218752 s (State.sendFlit s p ty body) := by
  unfold State.sendFlit
  try dsimp only
  repeat' first
    | with_reducible apply Frame.refl
    | with_reducible assumption
    | apply Eq.refl
    | with_reducible apply State.send_step
    | with_reducible apply State.setLink_step
    | with_reducible apply Frame.foldl
    | with_reducible apply Frame.foldl_fst
    | split
    | with_reducible apply Frame.ite
    | intro _
    | dsimp only
theorem State.sendFlit_step (w0 : Nat) (a0 : State) (s : State) (p : Nat) (ty : BitVec 4) (body : BitVec 560) (h0 : Frame w0 a0 s) (hw : 134218752 &&& w0 = 134218752) : Frame w0 a0 (State.sendFlit s p ty body) :=
  Frame.step _ _ _ _ _ h0 (State.sendFlit_frame s p ty body) hw

theorem State.sendMsg_frame (s : State) (k : MsgKind) (fields : List Nat) : Frame 134218756 s (State.sendMsg s k fields) := by
  unfold State.sendMsg
  try dsimp only
  repeat' first
    | with_reducible apply Frame.refl
    | with_reducible assumption
    | apply Eq.refl
    | with_reducible apply State.sendFlit_step
    | with_reducible apply State.useFree_step
    | with_reducible apply State.send_step
    | with_reducible apply Frame.foldl
    | with_reducible apply Frame.foldl_fst
    | split
    | with_reducible apply Frame.ite
    | intro _
    | dsimp only
theorem State.sendMsg_step (w0 : Nat) (a0 : State) (s : State) (k : MsgKind) (fields : List Nat) (h0 : Frame w0 a0 s) (hw : 134218756 &&& w0 = 134218756) : Frame w0 a0 (State.sendMsg s k fields) :=
  Frame.step _ _ _ _ _ h0 (State.sendMsg_frame s k fields) hw

theorem State.sendBell_frame (s : State) (m : BellMsg) : Frame 134218756 s (State.sendBell s m) := by
  unfold State.sendBell
  try dsimp only
  repeat' first
    | with_reducible apply Frame.refl
    | with_reducible assumption
    | apply Eq.refl
    | with_reducible apply State.sendMsg_step
    | with_reducible apply Frame.foldl
    | with_reducible apply Frame.foldl_fst
    | split
    | with_reducible apply Frame.ite
    | intro _
    | dsimp only
theorem State.sendBell_step (w0 : Nat) (a0 : State) (s : State) (m : BellMsg) (h0 : Frame w0 a0 s) (hw : 134218756 &&& w0 = 134218756) : Frame w0 a0 (State.sendBell s m) :=
  Frame.step _ _ _ _ _ h0 (State.sendBell_frame s m) hw

theorem State.holdUpdate_frame (s : State) : Frame 16384 s (State.holdUpdate s) := by
  unfold State.holdUpdate
  try dsimp only
  repeat' first
    | with_reducible apply Frame.refl
    | with_reducible assumption
    | apply Eq.refl
    | with_reducible apply Frame.foldl
    | with_reducible apply Frame.foldl_fst
    | split
    | with_reducible apply Frame.ite
    | with_reducible apply Frame.set_hold
    | intro _
    | dsimp only
theorem State.holdUpdate_step (w0 : Nat) (a0 : State) (s : State) (h0 : Frame w0 a0 s) (hw : 16384 &&& w0 = 16384) : Frame w0 a0 (State.holdUpdate s) :=
  Frame.step _ _ _ _ _ h0 (State.holdUpdate_frame s) hw

theorem State.clearHolds_frame (s : State) : Frame 32768 s (State.clearHolds s) := by
  unfold State.clearHolds
  try dsimp only
  repeat' first
    | with_reducible apply Frame.refl
    | with_reducible assumption
    | apply Eq.refl
    | with_reducible exact fun c => Tab.put_wf _ _ _ _ (State.canonical_tile _ c)
    | with_reducible exact fun c => Tab.mapV_wf _ _ _ (State.canonical_tile _ c)
    | with_reducible exact fun c => Tab.filter_wf _ _ _ (State.canonical_tile _ c)
    | with_reducible apply Frame.foldl
    | with_reducible apply Frame.foldl_fst
    | split
    | with_reducible apply Frame.ite
    | with_reducible apply Frame.set_tiles
    | intro _
    | dsimp only
theorem State.clearHolds_step (w0 : Nat) (a0 : State) (s : State) (h0 : Frame w0 a0 s) (hw : 32768 &&& w0 = 32768) : Frame w0 a0 (State.clearHolds s) :=
  Frame.step _ _ _ _ _ h0 (State.clearHolds_frame s) hw

theorem State.badRecord_frame (s : State) (b : BandRec) (n : Nat) : Frame 1573936 s (State.badRecord s b n) := by
  unfold State.badRecord
  try dsimp only
  repeat' first
    | with_reducible apply Frame.refl
    | with_reducible assumption
    | apply Eq.refl
    | with_reducible apply State.emit_step
    | with_reducible apply Frame.foldl
    | with_reducible apply Frame.foldl_fst
    | split
    | with_reducible apply Frame.ite
    | intro _
    | dsimp only
theorem State.badRecord_step (w0 : Nat) (a0 : State) (s : State) (b : BandRec) (n : Nat) (h0 : Frame w0 a0 s) (hw : 1573936 &&& w0 = 1573936) : Frame w0 a0 (State.badRecord s b n) :=
  Frame.step _ _ _ _ _ h0 (State.badRecord_frame s b n) hw

theorem State.badRecords_frame (s : State) (b : BandRec) : Frame 1573936 s (State.badRecords s b) := by
  unfold State.badRecords
  try dsimp only
  repeat' first
    | with_reducible apply Frame.refl
    | with_reducible assumption
    | apply Eq.refl
    | with_reducible apply State.badRecord_step
    | with_reducible apply Frame.foldl
    | with_reducible apply Frame.foldl_fst
    | split
    | with_reducible apply Frame.ite
    | intro _
    | dsimp only
theorem State.badRecords_step (w0 : Nat) (a0 : State) (s : State) (b : BandRec) (h0 : Frame w0 a0 s) (hw : 1573936 &&& w0 = 1573936) : Frame w0 a0 (State.badRecords s b) :=
  Frame.step _ _ _ _ _ h0 (State.badRecords_frame s b) hw

theorem State.cutAssembly_frame (s : State) (b : BandRec) : Frame 1709104 s (State.cutAssembly s b) := by
  unfold State.cutAssembly
  try dsimp only
  repeat' first
    | with_reducible apply Frame.refl
    | with_reducible assumption
    | apply Eq.refl
    | with_reducible apply State.dropLines_step
    | with_reducible apply State.updBand_step
    | with_reducible apply State.setReg48_step
    | with_reducible apply State.badRecords_step
    | with_reducible apply Frame.foldl
    | with_reducible apply Frame.foldl_fst
    | split
    | with_reducible apply Frame.ite
    | intro _
    | dsimp only
theorem State.cutAssembly_step (w0 : Nat) (a0 : State) (s : State) (b : BandRec) (h0 : Frame w0 a0 s) (hw : 1709104 &&& w0 = 1709104) : Frame w0 a0 (State.cutAssembly s b) :=
  Frame.step _ _ _ _ _ h0 (State.cutAssembly_frame s b) hw

theorem State.dropAssembly_frame (s : State) (v : Verdict) : Frame 1717296 s (State.dropAssembly s v) := by
  unfold State.dropAssembly
  try dsimp only
  repeat' first
    | with_reducible apply Frame.refl
    | with_reducible assumption
    | apply Eq.refl
    | with_reducible apply State.verdictWhere_step
    | with_reducible apply State.finalise_step
    | with_reducible apply State.cutAssembly_step
    | with_reducible apply Frame.foldl
    | with_reducible apply Frame.foldl_fst
    | split
    | with_reducible apply Frame.ite
    | intro _
    | dsimp only
theorem State.dropAssembly_step (w0 : Nat) (a0 : State) (s : State) (v : Verdict) (h0 : Frame w0 a0 s) (hw : 1717296 &&& w0 = 1717296) : Frame w0 a0 (State.dropAssembly s v) :=
  Frame.step _ _ _ _ _ h0 (State.dropAssembly_frame s v) hw

theorem State.dropWaiting_frame (s : State) (b : BandRec) (v : Verdict) : Frame 1717296 s (State.dropWaiting s b v) := by
  unfold State.dropWaiting
  try dsimp only
  repeat' first
    | with_reducible apply Frame.refl
    | with_reducible assumption
    | apply Eq.refl
    | with_reducible apply State.finalise_step
    | with_reducible apply State.badRecords_step
    | with_reducible apply State.dropLines_step
    | with_reducible apply State.verdictWhere_step
    | with_reducible apply Frame.foldl
    | with_reducible apply Frame.foldl_fst
    | split
    | with_reducible apply Frame.ite
    | intro _
    | dsimp only
theorem State.dropWaiting_step (w0 : Nat) (a0 : State) (s : State) (b : BandRec) (v : Verdict) (h0 : Frame w0 a0 s) (hw : 1717296 &&& w0 = 1717296) : Frame w0 a0 (State.dropWaiting s b v) :=
  Frame.step _ _ _ _ _ h0 (State.dropWaiting_frame s b v) hw

theorem State.closeReversal_frame (s : State) : Frame 135803956 s (State.closeReversal s) := by
  unfold State.closeReversal
  try dsimp only
  repeat' first
    | with_reducible apply Frame.refl
    | with_reducible assumption
    | apply Eq.refl
    | with_reducible apply State.finalise_step
    | with_reducible apply State.verdictWhere_step
    | with_reducible apply State.updBell_step
    | with_reducible apply State.sendBell_step
    | with_reducible apply Frame.foldl
    | with_reducible apply Frame.foldl_fst
    | split
    | with_reducible apply Frame.ite
    | intro _
    | dsimp only
theorem State.closeReversal_step (w0 : Nat) (a0 : State) (s : State) (h0 : Frame w0 a0 s) (hw : 135803956 &&& w0 = 135803956) : Frame w0 a0 (State.closeReversal s) :=
  Frame.step _ _ _ _ _ h0 (State.closeReversal_frame s) hw

theorem State.maybeDrain_frame (s : State) : Frame 135803956 s (State.maybeDrain s) := by
  unfold State.maybeDrain
  try dsimp only
  repeat' first
    | with_reducible apply Frame.refl
    | with_reducible assumption
    | apply Eq.refl
    | with_reducible apply State.closeReversal_step
    | with_reducible apply State.pushSend_step
    | with_reducible apply State.updBell_step
    | with_reducible apply Frame.foldl
    | with_reducible apply Frame.foldl_fst
    | split
    | with_reducible apply Frame.ite
    | intro _
    | dsimp only
theorem State.maybeDrain_step (w0 : Nat) (a0 : State) (s : State) (h0 : Frame w0 a0 s) (hw : 135803956 &&& w0 = 135803956) : Frame w0 a0 (State.maybeDrain s) :=
  Frame.step _ _ _ _ _ h0 (State.maybeDrain_frame s) hw

theorem State.endStreamAt_frame (s : State) (last : W48) : Frame 135803956 s (State.endStreamAt s last) := by
  unfold State.endStreamAt
  try dsimp only
  repeat' first
    | with_reducible apply Frame.refl
    | with_reducible assumption
    | apply Eq.refl
    | with_reducible apply State.maybeDrain_step
    | with_reducible apply State.updBell_step
    | with_reducible apply Frame.foldl
    | with_reducible apply Frame.foldl_fst
    | split
    | with_reducible apply Frame.ite
    | intro _
    | dsimp only
theorem State.endStreamAt_step (w0 : Nat) (a0 : State) (s : State) (last : W48) (h0 : Frame w0 a0 s) (hw : 135803956 &&& w0 = 135803956) : Frame w0 a0 (State.endStreamAt s last) :=
  Frame.step _ _ _ _ _ h0 (State.endStreamAt_frame s last) hw

theorem State.endStream_frame (s : State) : Frame 135803956 s (State.endStream s) := by
  unfold State.endStream
  try dsimp only
  repeat' first
    | with_reducible apply Frame.refl
    | with_reducible assumption
    | apply Eq.refl
    | with_reducible apply State.endStreamAt_step
    | with_reducible apply Frame.foldl
    | with_reducible apply Frame.foldl_fst
    | split
    | with_reducible apply Frame.ite
    | intro _
    | dsimp only
theorem State.endStream_step (w0 : Nat) (a0 : State) (s : State) (h0 : Frame w0 a0 s) (hw : 135803956 &&& w0 = 135803956) : Frame w0 a0 (State.endStream s) :=
  Frame.step _ _ _ _ _ h0 (State.endStream_frame s) hw

theorem State.abortStream_frame (s : State) : Frame 135935028 s (State.abortStream s) := by
  unfold State.abortStream
  try dsimp only
  repeat' first
    | with_reducible apply Frame.refl
    | with_reducible assumption
    | apply Eq.refl
    | with_reducible apply State.endStreamAt_step
    | with_reducible apply State.dropAssembly_step
    | with_reducible apply State.dropWaiting_step
    | with_reducible apply State.endStream_step
    | with_reducible apply Frame.foldl
    | with_reducible apply Frame.foldl_fst
    | split
    | with_reducible apply Frame.ite
    | intro _
    | dsimp only
theorem State.abortStream_step (w0 : Nat) (a0 : State) (s : State) (h0 : Frame w0 a0 s) (hw : 135935028 &&& w0 = 135935028) : Frame w0 a0 (State.abortStream s) :=
  Frame.step _ _ _ _ _ h0 (State.abortStream_frame s) hw

theorem State.closeInterval_frame (s : State) : Frame 4112 s (State.closeInterval s) := by
  unfold State.closeInterval
  try dsimp only
  repeat' first
    | with_reducible apply Frame.refl
    | with_reducible assumption
    | apply Eq.refl
    | with_reducible apply State.updBell_step
    | with_reducible apply State.maxReg_step
    | with_reducible apply State.setRegN_step
    | with_reducible apply Frame.foldl
    | with_reducible apply Frame.foldl_fst
    | split
    | with_reducible apply Frame.ite
    | intro _
    | dsimp only
theorem State.closeInterval_step (w0 : Nat) (a0 : State) (s : State) (h0 : Frame w0 a0 s) (hw : 4112 &&& w0 = 4112) : Frame w0 a0 (State.closeInterval s) :=
  Frame.step _ _ _ _ _ h0 (State.closeInterval_frame s) hw

theorem State.completeDrain_frame (s : State) : Frame 135803952 s (State.completeDrain s) := by
  unfold State.completeDrain
  try dsimp only
  repeat' first
    | with_reducible apply Frame.refl
    | with_reducible assumption
    | apply Eq.refl
    | with_reducible exact fun c => Tab.put_wf _ _ _ _ (State.canonical_link _ c)
    | with_reducible exact fun c => Tab.mapV_wf _ _ _ (State.canonical_link _ c)
    | with_reducible exact fun c => Tab.filter_wf _ _ _ (State.canonical_link _ c)
    | with_reducible apply State.closeInterval_step
    | with_reducible apply State.updBell_step
    | with_reducible apply State.clrBits_step
    | with_reducible apply State.closeAllRuns_step
    | with_reducible apply Frame.foldl
    | with_reducible apply Frame.foldl_fst
    | split
    | with_reducible apply Frame.ite
    | (with_reducible apply Frame.set_grp; rotate_left; apply Eq.refl; apply Eq.refl)
    | with_reducible apply Frame.set_grp'
    | intro _
    | dsimp only
theorem State.completeDrain_step (w0 : Nat) (a0 : State) (s : State) (h0 : Frame w0 a0 s) (hw : 135803952 &&& w0 = 135803952) : Frame w0 a0 (State.completeDrain s) :=
  Frame.step _ _ _ _ _ h0 (State.completeDrain_frame s) hw

theorem State.lowerSlot_frame (s : State) (code : Nat) (slot : Nat) : Frame 1073745936 s (State.lowerSlot s code slot) := by
  unfold State.lowerSlot
  try dsimp only
  repeat' first
    | with_reducible apply Frame.refl
    | with_reducible assumption
    | apply Eq.refl
    | with_reducible apply State.updBell_step
    | with_reducible apply State.setRegN_step
    | with_reducible apply Frame.foldl
    | with_reducible apply Frame.foldl_fst
    | split
    | with_reducible apply Frame.ite
    | with_reducible apply Frame.set_contain
    | intro _
    | dsimp only
theorem State.lowerSlot_step (w0 : Nat) (a0 : State) (s : State) (code : Nat) (slot : Nat) (h0 : Frame w0 a0 s) (hw : 1073745936 &&& w0 = 1073745936) : Frame w0 a0 (State.lowerSlot s code slot) :=
  Frame.step _ _ _ _ _ h0 (State.lowerSlot_frame s code slot) hw

theorem State.containBy_frame (s : State) (code : Nat) (slot : Nat) : Frame 1073795120 s (State.containBy s code slot) := by
  unfold State.containBy
  try dsimp only
  repeat' first
    | with_reducible apply Frame.refl
    | with_reducible assumption
    | apply Eq.refl
    | with_reducible apply State.setReg_step
    | with_reducible apply State.lowerSlot_step
    | with_reducible apply State.count_step
    | with_reducible apply State.setReg48_step
    | with_reducible apply State.holdUpdate_step
    | with_reducible apply State.clearHolds_step
    | with_reducible apply State.verdictWhere_step
    | with_reducible apply State.setGrpState_step
    | with_reducible apply State.setRegN_step
    | with_reducible apply Frame.foldl
    | with_reducible apply Frame.foldl_fst
    | split
    | with_reducible apply Frame.ite
    | with_reducible apply Frame.set_contain
    | intro _
    | dsimp only
theorem State.containBy_step (w0 : Nat) (a0 : State) (s : State) (code : Nat) (slot : Nat) (h0 : Frame w0 a0 s) (hw : 1073795120 &&& w0 = 1073795120) : Frame w0 a0 (State.containBy s code slot) :=
  Frame.step _ _ _ _ _ h0 (State.containBy_frame s code slot) hw

theorem State.startContain_frame (s : State) (code : Nat) : Frame 1208013876 s (State.startContain s code) := by
  unfold State.startContain
  try dsimp only
  repeat' first
    | with_reducible apply Frame.refl
    | with_reducible assumption
    | apply Eq.refl
    | with_reducible apply State.containBy_step
    | with_reducible apply State.sendMsg_step
    | with_reducible apply Frame.foldl
    | with_reducible apply Frame.foldl_fst
    | split
    | with_reducible apply Frame.ite
    | intro _
    | dsimp only
theorem State.startContain_step (w0 : Nat) (a0 : State) (s : State) (code : Nat) (h0 : Frame w0 a0 s) (hw : 1208013876 &&& w0 = 1208013876) : Frame w0 a0 (State.startContain s code) :=
  Frame.step _ _ _ _ _ h0 (State.startContain_frame s code) hw

theorem State.faultContain_frame (s : State) (e : ErrInfo) : Frame 1209586740 s (State.faultContain s e) := by
  unfold State.faultContain
  try dsimp only
  repeat' first
    | with_reducible apply Frame.refl
    | with_reducible assumption
    | apply Eq.refl
    | with_reducible apply State.startContain_step
    | with_reducible apply State.emit_step
    | with_reducible apply Frame.foldl
    | with_reducible apply Frame.foldl_fst
    | split
    | with_reducible apply Frame.ite
    | intro _
    | dsimp only
theorem State.faultContain_step (w0 : Nat) (a0 : State) (s : State) (e : ErrInfo) (h0 : Frame w0 a0 s) (hw : 1209586740 &&& w0 = 1209586740) : Frame w0 a0 (State.faultContain s e) :=
  Frame.step _ _ _ _ _ h0 (State.faultContain_frame s e) hw

end Sys2Proof.Machine
end

