-- ==== Sys2Proof/Laws/F_MemOps.lean ====
section
/-!
SUPPORT. Frames of the operations of Machine/MemOps.lean.
-/
namespace Sys2Proof.Machine

set_option linter.unusedTactic false
set_option linter.unreachableTactic false
set_option linter.unusedVariables false

theorem State.setPoison_frame (s : State) (w : MemWord) : Frame 2129920 s (State.setPoison s w) := by
  unfold State.setPoison
  try dsimp only
  repeat' first
    | with_reducible apply Frame.refl
    | with_reducible assumption
    | apply Eq.refl
    | with_reducible exact fun c => ⟨writeBytes_wf _ _ _ (State.canonical_hbm _ c), id (State.canonical_spiNor _ c)⟩
    | with_reducible exact fun c => ⟨writeBytes_wf _ _ _ (State.canonical_hbm _ c), writeBytes_wf _ _ _ (State.canonical_spiNor _ c)⟩
    | with_reducible exact fun c => ⟨writeBytes_wf _ _ _ (State.canonical_hbm _ c), zeroBytes_wf _ _ _ (State.canonical_spiNor _ c)⟩
    | with_reducible exact fun c => ⟨zeroBytes_wf _ _ _ (State.canonical_hbm _ c), id (State.canonical_spiNor _ c)⟩
    | with_reducible exact fun c => ⟨zeroBytes_wf _ _ _ (State.canonical_hbm _ c), writeBytes_wf _ _ _ (State.canonical_spiNor _ c)⟩
    | with_reducible exact fun c => ⟨zeroBytes_wf _ _ _ (State.canonical_hbm _ c), zeroBytes_wf _ _ _ (State.canonical_spiNor _ c)⟩
    | with_reducible exact fun c => ⟨id (State.canonical_hbm _ c), id (State.canonical_spiNor _ c)⟩
    | with_reducible exact fun c => ⟨id (State.canonical_hbm _ c), writeBytes_wf _ _ _ (State.canonical_spiNor _ c)⟩
    | with_reducible exact fun c => ⟨id (State.canonical_hbm _ c), zeroBytes_wf _ _ _ (State.canonical_spiNor _ c)⟩
    | with_reducible apply State.onTile_step
    | with_reducible apply Frame.foldl
    | with_reducible apply Frame.foldl_fst
    | split
    | with_reducible apply Frame.ite
    | (with_reducible apply Frame.set_mem; rotate_left; apply Eq.refl; apply Eq.refl; apply Eq.refl)
    | with_reducible apply Frame.set_mem'
    | intro _
    | dsimp only
theorem State.setPoison_step (w0 : Nat) (a0 : State) (s : State) (w : MemWord) (h0 : Frame w0 a0 s) (hw : 2129920 &&& w0 = 2129920) : Frame w0 a0 (State.setPoison s w) :=
  Frame.step _ _ _ _ _ h0 (State.setPoison_frame s w) hw

theorem State.findUe_frame (s : State) (w : MemWord) : Frame 2129968 s (State.findUe s w).1 := by
  unfold State.findUe
  try dsimp only
  repeat' first
    | with_reducible apply Frame.refl
    | with_reducible assumption
    | apply Eq.refl
    | with_reducible apply State.count_step
    | with_reducible apply State.setPoison_step
    | with_reducible apply Frame.foldl
    | with_reducible apply Frame.foldl_fst
    | split
    | with_reducible apply Frame.ite
    | intro _
    | dsimp only
theorem State.findUe_step (w0 : Nat) (a0 : State) (s : State) (w : MemWord) (h0 : Frame w0 a0 s) (hw : 2129968 &&& w0 = 2129968) : Frame w0 a0 (State.findUe s w).1 :=
  Frame.step _ _ _ _ _ h0 (State.findUe_frame s w) hw

theorem State.ceCount_frame (s : State) (w : MemWord) : Frame 3671088 s (State.ceCount s w) := by
  unfold State.ceCount
  try dsimp only
  repeat' first
    | with_reducible apply Frame.refl
    | with_reducible assumption
    | apply Eq.refl
    | with_reducible exact fun c => ⟨writeBytes_wf _ _ _ (State.canonical_hbm _ c), id (State.canonical_spiNor _ c)⟩
    | with_reducible exact fun c => ⟨writeBytes_wf _ _ _ (State.canonical_hbm _ c), writeBytes_wf _ _ _ (State.canonical_spiNor _ c)⟩
    | with_reducible exact fun c => ⟨writeBytes_wf _ _ _ (State.canonical_hbm _ c), zeroBytes_wf _ _ _ (State.canonical_spiNor _ c)⟩
    | with_reducible exact fun c => ⟨zeroBytes_wf _ _ _ (State.canonical_hbm _ c), id (State.canonical_spiNor _ c)⟩
    | with_reducible exact fun c => ⟨zeroBytes_wf _ _ _ (State.canonical_hbm _ c), writeBytes_wf _ _ _ (State.canonical_spiNor _ c)⟩
    | with_reducible exact fun c => ⟨zeroBytes_wf _ _ _ (State.canonical_hbm _ c), zeroBytes_wf _ _ _ (State.canonical_spiNor _ c)⟩
    | with_reducible exact fun c => ⟨id (State.canonical_hbm _ c), id (State.canonical_spiNor _ c)⟩
    | with_reducible exact fun c => ⟨id (State.canonical_hbm _ c), writeBytes_wf _ _ _ (State.canonical_spiNor _ c)⟩
    | with_reducible exact fun c => ⟨id (State.canonical_hbm _ c), zeroBytes_wf _ _ _ (State.canonical_spiNor _ c)⟩
    | with_reducible apply State.count_step
    | with_reducible apply State.emit_step
    | with_reducible apply Frame.foldl
    | with_reducible apply Frame.foldl_fst
    | split
    | with_reducible apply Frame.ite
    | (with_reducible apply Frame.set_mem; rotate_left; apply Eq.refl; apply Eq.refl; apply Eq.refl)
    | with_reducible apply Frame.set_mem'
    | intro _
    | dsimp only
theorem State.ceCount_step (w0 : Nat) (a0 : State) (s : State) (w : MemWord) (h0 : Frame w0 a0 s) (hw : 3671088 &&& w0 = 3671088) : Frame w0 a0 (State.ceCount s w) :=
  Frame.step _ _ _ _ _ h0 (State.ceCount_frame s w) hw

theorem State.correct_frame (s : State) (w : MemWord) : Frame 3671088 s (State.correct s w) := by
  unfold State.correct
  try dsimp only
  repeat' first
    | with_reducible apply Frame.refl
    | with_reducible assumption
    | apply Eq.refl
    | with_reducible exact fun c => ⟨writeBytes_wf _ _ _ (State.canonical_hbm _ c), id (State.canonical_spiNor _ c)⟩
    | with_reducible exact fun c => ⟨writeBytes_wf _ _ _ (State.canonical_hbm _ c), writeBytes_wf _ _ _ (State.canonical_spiNor _ c)⟩
    | with_reducible exact fun c => ⟨writeBytes_wf _ _ _ (State.canonical_hbm _ c), zeroBytes_wf _ _ _ (State.canonical_spiNor _ c)⟩
    | with_reducible exact fun c => ⟨zeroBytes_wf _ _ _ (State.canonical_hbm _ c), id (State.canonical_spiNor _ c)⟩
    | with_reducible exact fun c => ⟨zeroBytes_wf _ _ _ (State.canonical_hbm _ c), writeBytes_wf _ _ _ (State.canonical_spiNor _ c)⟩
    | with_reducible exact fun c => ⟨zeroBytes_wf _ _ _ (State.canonical_hbm _ c), zeroBytes_wf _ _ _ (State.canonical_spiNor _ c)⟩
    | with_reducible exact fun c => ⟨id (State.canonical_hbm _ c), id (State.canonical_spiNor _ c)⟩
    | with_reducible exact fun c => ⟨id (State.canonical_hbm _ c), writeBytes_wf _ _ _ (State.canonical_spiNor _ c)⟩
    | with_reducible exact fun c => ⟨id (State.canonical_hbm _ c), zeroBytes_wf _ _ _ (State.canonical_spiNor _ c)⟩
    | with_reducible apply State.ceCount_step
    | with_reducible apply Frame.foldl
    | with_reducible apply Frame.foldl_fst
    | split
    | with_reducible apply Frame.ite
    | (with_reducible apply Frame.set_mem; rotate_left; apply Eq.refl; apply Eq.refl; apply Eq.refl)
    | with_reducible apply Frame.set_mem'
    | intro _
    | dsimp only
theorem State.correct_step (w0 : Nat) (a0 : State) (s : State) (w : MemWord) (h0 : Frame w0 a0 s) (hw : 3671088 &&& w0 = 3671088) : Frame w0 a0 (State.correct s w) :=
  Frame.step _ _ _ _ _ h0 (State.correct_frame s w) hw

theorem State.cancelRow_frame (s : State) (w : MemWord) : Frame 2097152 s (State.cancelRow s w) := by
  unfold State.cancelRow
  try dsimp only
  repeat' first
    | with_reducible apply Frame.refl
    | with_reducible assumption
    | apply Eq.refl
    | with_reducible exact fun c => ⟨writeBytes_wf _ _ _ (State.canonical_hbm _ c), id (State.canonical_spiNor _ c)⟩
    | with_reducible exact fun c => ⟨writeBytes_wf _ _ _ (State.canonical_hbm _ c), writeBytes_wf _ _ _ (State.canonical_spiNor _ c)⟩
    | with_reducible exact fun c => ⟨writeBytes_wf _ _ _ (State.canonical_hbm _ c), zeroBytes_wf _ _ _ (State.canonical_spiNor _ c)⟩
    | with_reducible exact fun c => ⟨zeroBytes_wf _ _ _ (State.canonical_hbm _ c), id (State.canonical_spiNor _ c)⟩
    | with_reducible exact fun c => ⟨zeroBytes_wf _ _ _ (State.canonical_hbm _ c), writeBytes_wf _ _ _ (State.canonical_spiNor _ c)⟩
    | with_reducible exact fun c => ⟨zeroBytes_wf _ _ _ (State.canonical_hbm _ c), zeroBytes_wf _ _ _ (State.canonical_spiNor _ c)⟩
    | with_reducible exact fun c => ⟨id (State.canonical_hbm _ c), id (State.canonical_spiNor _ c)⟩
    | with_reducible exact fun c => ⟨id (State.canonical_hbm _ c), writeBytes_wf _ _ _ (State.canonical_spiNor _ c)⟩
    | with_reducible exact fun c => ⟨id (State.canonical_hbm _ c), zeroBytes_wf _ _ _ (State.canonical_spiNor _ c)⟩
    | with_reducible apply Frame.foldl
    | with_reducible apply Frame.foldl_fst
    | split
    | with_reducible apply Frame.ite
    | (with_reducible apply Frame.set_mem; rotate_left; apply Eq.refl; apply Eq.refl; apply Eq.refl)
    | with_reducible apply Frame.set_mem'
    | intro _
    | dsimp only
theorem State.cancelRow_step (w0 : Nat) (a0 : State) (s : State) (w : MemWord) (h0 : Frame w0 a0 s) (hw : 2097152 &&& w0 = 2097152) : Frame w0 a0 (State.cancelRow s w) :=
  Frame.step _ _ _ _ _ h0 (State.cancelRow_frame s w) hw

theorem State.fillOne_frame (s : State) (k : Nat) (b : Nat) : Frame 2097152 s (State.fillOne s k b) := by
  unfold State.fillOne
  try dsimp only
  repeat' first
    | with_reducible apply Frame.refl
    | with_reducible assumption
    | apply Eq.refl
    | with_reducible exact fun c => ⟨writeBytes_wf _ _ _ (State.canonical_hbm _ c), id (State.canonical_spiNor _ c)⟩
    | with_reducible exact fun c => ⟨writeBytes_wf _ _ _ (State.canonical_hbm _ c), writeBytes_wf _ _ _ (State.canonical_spiNor _ c)⟩
    | with_reducible exact fun c => ⟨writeBytes_wf _ _ _ (State.canonical_hbm _ c), zeroBytes_wf _ _ _ (State.canonical_spiNor _ c)⟩
    | with_reducible exact fun c => ⟨zeroBytes_wf _ _ _ (State.canonical_hbm _ c), id (State.canonical_spiNor _ c)⟩
    | with_reducible exact fun c => ⟨zeroBytes_wf _ _ _ (State.canonical_hbm _ c), writeBytes_wf _ _ _ (State.canonical_spiNor _ c)⟩
    | with_reducible exact fun c => ⟨zeroBytes_wf _ _ _ (State.canonical_hbm _ c), zeroBytes_wf _ _ _ (State.canonical_spiNor _ c)⟩
    | with_reducible exact fun c => ⟨id (State.canonical_hbm _ c), id (State.canonical_spiNor _ c)⟩
    | with_reducible exact fun c => ⟨id (State.canonical_hbm _ c), writeBytes_wf _ _ _ (State.canonical_spiNor _ c)⟩
    | with_reducible exact fun c => ⟨id (State.canonical_hbm _ c), zeroBytes_wf _ _ _ (State.canonical_spiNor _ c)⟩
    | with_reducible apply Frame.foldl
    | with_reducible apply Frame.foldl_fst
    | split
    | with_reducible apply Frame.ite
    | (with_reducible apply Frame.set_mem; rotate_left; apply Eq.refl; apply Eq.refl; apply Eq.refl)
    | with_reducible apply Frame.set_mem'
    | intro _
    | dsimp only
theorem State.fillOne_step (w0 : Nat) (a0 : State) (s : State) (k : Nat) (b : Nat) (h0 : Frame w0 a0 s) (hw : 2097152 &&& w0 = 2097152) : Frame w0 a0 (State.fillOne s k b) :=
  Frame.step _ _ _ _ _ h0 (State.fillOne_frame s k b) hw

theorem State.putRow_frame (s : State) (w : MemWord) (bs : List Byte) : Frame 36077568 s (State.putRow s w bs) := by
  unfold State.putRow
  split
  · exact State.onTile_step _ _ _ _ _ (Frame.refl _ _) rfl
  · extract_lets f src
    have h : Frame 36077568 s f := State.fillOne_step _ _ _ _ _ (Frame.refl _ _) rfl
    exact Frame.set_mem' _ _ f _ h rfl (fun c => ⟨writeBytes_wf _ _ _ (State.canonical_hbm f c), State.canonical_spiNor f c⟩)
  · rename_i w _ _
    extract_lets src s1
    have h : Frame 36077568 s s1 := Frame.set_mem _ _ _ _ (Frame.refl _ _) rfl rfl rfl
    clear_value s1
    split
    · exact State.setKiosk_step _ _ _ _ _ h rfl
    · exact Frame.set_gth _ _ _ _ h rfl rfl
    · split
      · exact Frame.set_lodge _ _ _ _ h rfl rfl rfl
      · split
        · exact State.setL2Line_step _ _ _ _ _ _ h rfl
        · exact h
    · exact h
theorem State.putRow_step (w0 : Nat) (a0 : State) (s : State) (w : MemWord) (bs : List Byte) (h0 : Frame w0 a0 s) (hw : 36077568 &&& w0 = 36077568) : Frame w0 a0 (State.putRow s w bs) :=
  Frame.step _ _ _ _ _ h0 (State.putRow_frame s w bs) hw

theorem State.eccFind_frame (s : State) (w : MemWord) (e : Ecc) : Frame 3703856 s (State.eccFind s w e) := by
  unfold State.eccFind
  try dsimp only
  repeat' first
    | with_reducible apply Frame.refl
    | with_reducible assumption
    | apply Eq.refl
    | with_reducible apply State.count_step
    | with_reducible apply State.findUe_step
    | (with_reducible refine Frame.of_pair (by with_reducible assumption) (State.findUe_step _ _ _ _ ?_ ?_))
    | with_reducible apply State.correct_step
    | with_reducible apply Frame.foldl
    | with_reducible apply Frame.foldl_fst
    | split
    | with_reducible apply Frame.ite
    | intro _
    | dsimp only
theorem State.eccFind_step (w0 : Nat) (a0 : State) (s : State) (w : MemWord) (e : Ecc) (h0 : Frame w0 a0 s) (hw : 3703856 &&& w0 = 3703856) : Frame w0 a0 (State.eccFind s w e) :=
  Frame.step _ _ _ _ _ h0 (State.eccFind_frame s w e) hw

theorem State.writeParity_frame (s : State) (e : Ecc) : Frame 48 s (State.writeParity s e) := by
  unfold State.writeParity
  try dsimp only
  repeat' first
    | with_reducible apply Frame.refl
    | with_reducible assumption
    | apply Eq.refl
    | with_reducible apply State.count_step
    | with_reducible apply Frame.foldl
    | with_reducible apply Frame.foldl_fst
    | split
    | with_reducible apply Frame.ite
    | intro _
    | dsimp only
theorem State.writeParity_step (w0 : Nat) (a0 : State) (s : State) (e : Ecc) (h0 : Frame w0 a0 s) (hw : 48 &&& w0 = 48) : Frame w0 a0 (State.writeParity s e) :=
  Frame.step _ _ _ _ _ h0 (State.writeParity_frame s e) hw

theorem State.fillPending_frame (s : State) (k : Nat) : Frame 1573936 s (State.fillPending s k) := by
  unfold State.fillPending
  try dsimp only
  repeat' first
    | with_reducible apply Frame.refl
    | with_reducible assumption
    | apply Eq.refl
    | with_reducible apply State.count_step
    | with_reducible apply State.emit_step
    | with_reducible apply Frame.foldl
    | with_reducible apply Frame.foldl_fst
    | split
    | with_reducible apply Frame.ite
    | intro _
    | dsimp only
theorem State.fillPending_step (w0 : Nat) (a0 : State) (s : State) (k : Nat) (h0 : Frame w0 a0 s) (hw : 1573936 &&& w0 = 1573936) : Frame w0 a0 (State.fillPending s k) :=
  Frame.step _ _ _ _ _ h0 (State.fillPending_frame s k) hw

theorem State.hbmRead_frame (s : State) (a : Nat) (n : Nat) : Frame 1573936 s (State.hbmRead s a n).1 := by
  unfold State.hbmRead
  try dsimp only
  repeat' first
    | with_reducible apply Frame.refl
    | with_reducible assumption
    | apply Eq.refl
    | with_reducible apply State.fillPending_step
    | with_reducible apply Frame.foldl
    | with_reducible apply Frame.foldl_fst
    | split
    | with_reducible apply Frame.ite
    | intro _
    | dsimp only
theorem State.hbmRead_step (w0 : Nat) (a0 : State) (s : State) (a : Nat) (n : Nat) (h0 : Frame w0 a0 s) (hw : 1573936 &&& w0 = 1573936) : Frame w0 a0 (State.hbmRead s a n).1 :=
  Frame.step _ _ _ _ _ h0 (State.hbmRead_frame s a n) hw

theorem State.hbmWrite_frame (s : State) (a : Nat) (bs : List Byte) : Frame 2097152 s (State.hbmWrite s a bs) := by
  unfold State.hbmWrite
  try dsimp only
  repeat' first
    | with_reducible apply Frame.refl
    | with_reducible assumption
    | apply Eq.refl
    | with_reducible exact fun c => ⟨writeBytes_wf _ _ _ (State.canonical_hbm _ c), id (State.canonical_spiNor _ c)⟩
    | with_reducible exact fun c => ⟨writeBytes_wf _ _ _ (State.canonical_hbm _ c), writeBytes_wf _ _ _ (State.canonical_spiNor _ c)⟩
    | with_reducible exact fun c => ⟨writeBytes_wf _ _ _ (State.canonical_hbm _ c), zeroBytes_wf _ _ _ (State.canonical_spiNor _ c)⟩
    | with_reducible exact fun c => ⟨zeroBytes_wf _ _ _ (State.canonical_hbm _ c), id (State.canonical_spiNor _ c)⟩
    | with_reducible exact fun c => ⟨zeroBytes_wf _ _ _ (State.canonical_hbm _ c), writeBytes_wf _ _ _ (State.canonical_spiNor _ c)⟩
    | with_reducible exact fun c => ⟨zeroBytes_wf _ _ _ (State.canonical_hbm _ c), zeroBytes_wf _ _ _ (State.canonical_spiNor _ c)⟩
    | with_reducible exact fun c => ⟨id (State.canonical_hbm _ c), id (State.canonical_spiNor _ c)⟩
    | with_reducible exact fun c => ⟨id (State.canonical_hbm _ c), writeBytes_wf _ _ _ (State.canonical_spiNor _ c)⟩
    | with_reducible exact fun c => ⟨id (State.canonical_hbm _ c), zeroBytes_wf _ _ _ (State.canonical_spiNor _ c)⟩
    | with_reducible apply State.fillOne_step
    | with_reducible apply State.cancelRow_step
    | with_reducible apply Frame.foldl
    | with_reducible apply Frame.foldl_fst
    | split
    | with_reducible apply Frame.ite
    | (with_reducible apply Frame.set_mem; rotate_left; apply Eq.refl; apply Eq.refl; apply Eq.refl)
    | with_reducible apply Frame.set_mem'
    | intro _
    | dsimp only
theorem State.hbmWrite_step (w0 : Nat) (a0 : State) (s : State) (a : Nat) (bs : List Byte) (h0 : Frame w0 a0 s) (hw : 2097152 &&& w0 = 2097152) : Frame w0 a0 (State.hbmWrite s a bs) :=
  Frame.step _ _ _ _ _ h0 (State.hbmWrite_frame s a bs) hw

end Sys2Proof.Machine
end

