-- ==== Sys2Proof/Laws/F_HedgeOps.lean ====
section
/-!
SUPPORT. Frames of the operations of Machine/HedgeOps.lean.
-/
namespace Sys2Proof.Machine

set_option linter.unusedTactic false
set_option linter.unreachableTactic false
set_option linter.unusedVariables false

theorem State.closeGates_frame (s : State) (n : Nat) : Frame 8388608 s (State.closeGates s n) := by
  unfold State.closeGates
  try dsimp only
  repeat' first
    | with_reducible apply Frame.refl
    | with_reducible assumption
    | apply Eq.refl
    | with_reducible apply State.setHedge_step
    | with_reducible apply Frame.foldl
    | with_reducible apply Frame.foldl_fst
    | split
    | with_reducible apply Frame.ite
    | intro _
    | dsimp only
theorem State.closeGates_step (w0 : Nat) (a0 : State) (s : State) (n : Nat) (h0 : Frame w0 a0 s) (hw : 8388608 &&& w0 = 8388608) : Frame w0 a0 (State.closeGates s n) :=
  Frame.step _ _ _ _ _ h0 (State.closeGates_frame s n) hw

theorem State.openGates_frame (s : State) (n : Nat) : Frame 8388608 s (State.openGates s n) := by
  unfold State.openGates
  try dsimp only
  repeat' first
    | with_reducible apply Frame.refl
    | with_reducible assumption
    | apply Eq.refl
    | with_reducible apply State.setHedge_step
    | with_reducible apply Frame.foldl
    | with_reducible apply Frame.foldl_fst
    | split
    | with_reducible apply Frame.ite
    | intro _
    | dsimp only
theorem State.openGates_step (w0 : Nat) (a0 : State) (s : State) (n : Nat) (h0 : Frame w0 a0 s) (hw : 8388608 &&& w0 = 8388608) : Frame w0 a0 (State.openGates s n) :=
  Frame.step _ _ _ _ _ h0 (State.openGates_frame s n) hw

theorem State.hdgError_frame (s : State) (h : Nat) (m : Nat) (a : Nat) (code : Nat) : Frame 1573936 s (State.hdgError s h m a code) := by
  unfold State.hdgError
  try dsimp only
  repeat' first
    | with_reducible apply Frame.refl
    | with_reducible assumption
    | apply Eq.refl
    | with_reducible apply State.count_step
    | with_reducible apply State.emit_step
    | with_reducible apply Frame.foldl
    | with_reducible apply Frame.foldl_fst
    | split
    | with_reducible apply Frame.ite
    | intro _
    | dsimp only
theorem State.hdgError_step (w0 : Nat) (a0 : State) (s : State) (h : Nat) (m : Nat) (a : Nat) (code : Nat) (h0 : Frame w0 a0 s) (hw : 1573936 &&& w0 = 1573936) : Frame w0 a0 (State.hdgError s h m a code) :=
  Frame.step _ _ _ _ _ h0 (State.hdgError_frame s h m a code) hw

theorem State.hdgNoPath_frame (s : State) (h : Nat) (m : Nat) (a : Nat) : Frame 1573936 s (State.hdgNoPath s h m a) := by
  unfold State.hdgNoPath
  try dsimp only
  repeat' first
    | with_reducible apply Frame.refl
    | with_reducible assumption
    | apply Eq.refl
    | with_reducible apply State.hdgError_step
    | with_reducible apply State.count_step
    | with_reducible apply Frame.foldl
    | with_reducible apply Frame.foldl_fst
    | split
    | with_reducible apply Frame.ite
    | intro _
    | dsimp only
theorem State.hdgNoPath_step (w0 : Nat) (a0 : State) (s : State) (h : Nat) (m : Nat) (a : Nat) (h0 : Frame w0 a0 s) (hw : 1573936 &&& w0 = 1573936) : Frame w0 a0 (State.hdgNoPath s h m a) :=
  Frame.step _ _ _ _ _ h0 (State.hdgNoPath_frame s h m a) hw

theorem State.hdgGated_frame (s : State) (h : Nat) (m : Nat) (t : Nat) (g : Nat) : Frame 9962544 s (State.hdgGated s h m t g) := by
  unfold State.hdgGated
  try dsimp only
  repeat' first
    | with_reducible apply Frame.refl
    | with_reducible assumption
    | apply Eq.refl
    | with_reducible apply State.count_step
    | with_reducible apply State.emit_step
    | with_reducible apply State.setHedge_step
    | with_reducible apply Frame.foldl
    | with_reducible apply Frame.foldl_fst
    | split
    | with_reducible apply Frame.ite
    | intro _
    | dsimp only
theorem State.hdgGated_step (w0 : Nat) (a0 : State) (s : State) (h : Nat) (m : Nat) (t : Nat) (g : Nat) (h0 : Frame w0 a0 s) (hw : 9962544 &&& w0 = 9962544) : Frame w0 a0 (State.hdgGated s h m t g) :=
  Frame.step _ _ _ _ _ h0 (State.hdgGated_frame s h m t g) hw

theorem State.hdgLocal_frame (s : State) (h : Nat) (m : Nat) (a : Nat) (n : Nat) (write : Bool) (xkzq : Bool) : Frame 9962544 s (State.hdgLocal s h m a n write xkzq).1 := by
  unfold State.hdgLocal
  try dsimp only
  repeat' first
    | with_reducible apply Frame.refl
    | with_reducible assumption
    | apply Eq.refl
    | with_reducible apply State.hdgNoPath_step
    | with_reducible apply State.hdgError_step
    | with_reducible apply State.hdgGated_step
    | with_reducible apply Frame.foldl
    | with_reducible apply Frame.foldl_fst
    | split
    | with_reducible apply Frame.ite
    | intro _
    | dsimp only
theorem State.hdgLocal_step (w0 : Nat) (a0 : State) (s : State) (h : Nat) (m : Nat) (a : Nat) (n : Nat) (write : Bool) (xkzq : Bool) (h0 : Frame w0 a0 s) (hw : 9962544 &&& w0 = 9962544) : Frame w0 a0 (State.hdgLocal s h m a n write xkzq).1 :=
  Frame.step _ _ _ _ _ h0 (State.hdgLocal_frame s h m a n write xkzq) hw

theorem State.hdgCheck_frame (s : State) (h : Nat) (m : Nat) (a : Nat) (n : Nat) (write : Bool) (xkzq : Bool) : Frame 9962544 s (State.hdgCheck s h m a n write xkzq).1 := by
  unfold State.hdgCheck
  try dsimp only
  repeat' first
    | with_reducible apply Frame.refl
    | with_reducible assumption
    | apply Eq.refl
    | with_reducible apply State.hdgLocal_step
    | (with_reducible refine Frame.of_pair (by with_reducible assumption) (State.hdgLocal_step _ _ _ _ _ _ _ _ _ ?_ ?_))
    | with_reducible apply Frame.foldl
    | with_reducible apply Frame.foldl_fst
    | split
    | with_reducible apply Frame.ite
    | intro _
    | dsimp only
theorem State.hdgCheck_step (w0 : Nat) (a0 : State) (s : State) (h : Nat) (m : Nat) (a : Nat) (n : Nat) (write : Bool) (xkzq : Bool) (h0 : Frame w0 a0 s) (hw : 9962544 &&& w0 = 9962544) : Frame w0 a0 (State.hdgCheck s h m a n write xkzq).1 :=
  Frame.step _ _ _ _ _ h0 (State.hdgCheck_frame s h m a n write xkzq) hw

theorem State.updHedge_frame (s : State) (h : Nat) (f : HdgState → HdgState) : Frame 8388608 s (State.updHedge s h f) := by
  unfold State.updHedge
  try dsimp only
  repeat' first
    | with_reducible apply Frame.refl
    | with_reducible assumption
    | apply Eq.refl
    | with_reducible apply State.setHedge_step
    | with_reducible apply Frame.foldl
    | with_reducible apply Frame.foldl_fst
    | split
    | with_reducible apply Frame.ite
    | intro _
    | dsimp only
theorem State.updHedge_step (w0 : Nat) (a0 : State) (s : State) (h : Nat) (f : HdgState → HdgState) (h0 : Frame w0 a0 s) (hw : 8388608 &&& w0 = 8388608) : Frame w0 a0 (State.updHedge s h f) :=
  Frame.step _ _ _ _ _ h0 (State.updHedge_frame s h f) hw

theorem State.noteHeld_frame (s : State) (w : Nat × Nat × Nat × Nat) : Frame 8388656 s (State.noteHeld s w) := by
  unfold State.noteHeld
  try dsimp only
  repeat' first
    | with_reducible apply Frame.refl
    | with_reducible assumption
    | apply Eq.refl
    | with_reducible apply State.updHedge_step
    | with_reducible apply State.count_step
    | with_reducible apply Frame.foldl
    | with_reducible apply Frame.foldl_fst
    | split
    | with_reducible apply Frame.ite
    | intro _
    | dsimp only
theorem State.noteHeld_step (w0 : Nat) (a0 : State) (s : State) (w : Nat × Nat × Nat × Nat) (h0 : Frame w0 a0 s) (hw : 8388656 &&& w0 = 8388656) : Frame w0 a0 (State.noteHeld s w) :=
  Frame.step _ _ _ _ _ h0 (State.noteHeld_frame s w) hw

theorem State.hdgAccess_frame (s : State) (h : Nat) (m : Nat) (a : Nat) (n : Nat) (write : Bool) (xkzq : Bool) : Frame 9962544 s (State.hdgAccess s h m a n write xkzq).1 := by
  unfold State.hdgAccess
  try dsimp only
  repeat' first
    | with_reducible apply Frame.refl
    | with_reducible assumption
    | apply Eq.refl
    | with_reducible apply State.updHedge_step
    | with_reducible apply State.hdgCheck_step
    | (with_reducible refine Frame.of_pair (by with_reducible assumption) (State.hdgCheck_step _ _ _ _ _ _ _ _ _ ?_ ?_))
    | with_reducible apply Frame.foldl
    | with_reducible apply Frame.foldl_fst
    | split
    | with_reducible apply Frame.ite
    | intro _
    | dsimp only
theorem State.hdgAccess_step (w0 : Nat) (a0 : State) (s : State) (h : Nat) (m : Nat) (a : Nat) (n : Nat) (write : Bool) (xkzq : Bool) (h0 : Frame w0 a0 s) (hw : 9962544 &&& w0 = 9962544) : Frame w0 a0 (State.hdgAccess s h m a n write xkzq).1 :=
  Frame.step _ _ _ _ _ h0 (State.hdgAccess_frame s h m a n write xkzq) hw

theorem State.orWait_frame (s : State) (t : State) : ∀ w0 a0, Frame w0 a0 s → Frame w0 a0 t → 8388656 &&& w0 = 8388656 → Frame w0 a0 (State.orWait s t) := by
  intro w0 a0 h g hw
  unfold State.orWait
  split
  · exact State.noteHeld_step _ _ _ _ h hw
  · exact g

theorem State.hdgForget_frame (s : State) (h : Nat) : Frame 8388608 s (State.hdgForget s h) := by
  unfold State.hdgForget
  try dsimp only
  repeat' first
    | with_reducible apply Frame.refl
    | with_reducible assumption
    | apply Eq.refl
    | with_reducible apply State.updHedge_step
    | with_reducible apply Frame.foldl
    | with_reducible apply Frame.foldl_fst
    | split
    | with_reducible apply Frame.ite
    | intro _
    | dsimp only
theorem State.hdgForget_step (w0 : Nat) (a0 : State) (s : State) (h : Nat) (h0 : Frame w0 a0 s) (hw : 8388608 &&& w0 = 8388608) : Frame w0 a0 (State.hdgForget s h) :=
  Frame.step _ _ _ _ _ h0 (State.hdgForget_frame s h) hw

end Sys2Proof.Machine
end

