-- ==== Sys2Proof/Laws/F_Phys.lean ====
section
/-!
SUPPORT. Frames of the operations of Machine/Phys.lean.
-/
namespace Sys2Proof.Machine

set_option linter.unusedTactic false
set_option linter.unreachableTactic false
set_option linter.unusedVariables false

theorem State.physRead_frame (s : State) (h : Nat) (a : Nat) (n : Nat) : Frame 1573936 s (State.physRead s h a n).1 := by
  unfold State.physRead
  try dsimp only
  repeat' first
    | with_reducible apply Frame.refl
    | with_reducible assumption
    | apply Eq.refl
    | with_reducible apply State.hbmRead_step
    | (with_reducible refine Frame.of_pair (by with_reducible assumption) (State.hbmRead_step _ _ _ _ _ ?_ ?_))
    | with_reducible apply Frame.foldl
    | with_reducible apply Frame.foldl_fst
    | split
    | with_reducible apply Frame.ite
    | intro _
    | dsimp only
theorem State.physRead_step (w0 : Nat) (a0 : State) (s : State) (h : Nat) (a : Nat) (n : Nat) (h0 : Frame w0 a0 s) (hw : 1573936 &&& w0 = 1573936) : Frame w0 a0 (State.physRead s h a n).1 :=
  Frame.step _ _ _ _ _ h0 (State.physRead_frame s h a n) hw

theorem State.scratchWrite_frame (s0 : State) (h : Nat) (o : Nat) (bs : List Byte) : Frame 35651584 s0 (State.scratchWrite s0 h o bs) := by
  unfold State.scratchWrite
  extract_lets s src l gone src2
  have h : Frame 35651584 s0 s := Frame.foldl _ _ _ _ _ (Frame.refl _ _) (fun t i h => State.cancelRow_step _ _ _ _ h rfl)
  exact Frame.set_mem 35651584 s0 { s with lodge := l } { s.mem with hubPoison := s.mem.hubPoison.filter (fun w => !(gone w)) }
    (Frame.set_lodge 35651584 s0 s l h rfl rfl rfl) rfl rfl rfl
theorem State.scratchWrite_step (w0 : Nat) (a0 : State) (s0 : State) (h : Nat) (o : Nat) (bs : List Byte) (h0 : Frame w0 a0 s0) (hw : 35651584 &&& w0 = 35651584) : Frame w0 a0 (State.scratchWrite s0 h o bs) :=
  Frame.step _ _ _ _ _ h0 (State.scratchWrite_frame s0 h o bs) hw

theorem State.physWrite_frame (s : State) (h : Nat) (a : Nat) (bs : List Byte) : Frame 35654656 s (State.physWrite s h a bs).1 := by
  unfold State.physWrite
  try dsimp only
  repeat' first
    | with_reducible apply Frame.refl
    | with_reducible assumption
    | apply Eq.refl
    | with_reducible apply State.hbmWrite_step
    | with_reducible apply State.scratchWrite_step
    | with_reducible apply State.hostWrite_step
    | with_reducible apply Frame.foldl
    | with_reducible apply Frame.foldl_fst
    | split
    | with_reducible apply Frame.ite
    | intro _
    | dsimp only
theorem State.physWrite_step (w0 : Nat) (a0 : State) (s : State) (h : Nat) (a : Nat) (bs : List Byte) (h0 : Frame w0 a0 s) (hw : 35654656 &&& w0 = 35654656) : Frame w0 a0 (State.physWrite s h a bs).1 :=
  Frame.step _ _ _ _ _ h0 (State.physWrite_frame s h a bs) hw

theorem State.throughL2_frame (s : State) (h : Nat) (m : Nat) (pa : Nat) (pbmt : Nat) (n : Nat) (write : Bool) : Frame 9962544 s (State.throughL2 s h m pa pbmt n write).1 := by
  unfold State.throughL2
  try dsimp only
  repeat' first
    | with_reducible apply Frame.refl
    | with_reducible assumption
    | apply Eq.refl
    | with_reducible apply State.hdgAccess_step
    | (with_reducible refine Frame.of_pair (by with_reducible assumption) (State.hdgAccess_step _ _ _ _ _ _ _ _ _ ?_ ?_))
    | with_reducible apply Frame.foldl
    | with_reducible apply Frame.foldl_fst
    | split
    | with_reducible apply Frame.ite
    | intro _
    | dsimp only
theorem State.throughL2_step (w0 : Nat) (a0 : State) (s : State) (h : Nat) (m : Nat) (pa : Nat) (pbmt : Nat) (n : Nat) (write : Bool) (h0 : Frame w0 a0 s) (hw : 9962544 &&& w0 = 9962544) : Frame w0 a0 (State.throughL2 s h m pa pbmt n write).1 :=
  Frame.step _ _ _ _ _ h0 (State.throughL2_frame s h m pa pbmt n write) hw

theorem State.hostqRead_frame (s : State) (h : Nat) (a : Nat) (n : Nat) : Frame 9962544 s (State.hostqRead s h a n).1 := by
  unfold State.hostqRead
  try dsimp only
  repeat' first
    | with_reducible apply Frame.refl
    | with_reducible assumption
    | apply Eq.refl
    | with_reducible apply State.hdgAccess_step
    | (with_reducible refine Frame.of_pair (by with_reducible assumption) (State.hdgAccess_step _ _ _ _ _ _ _ _ _ ?_ ?_))
    | with_reducible apply State.physRead_step
    | (with_reducible refine Frame.of_pair (by with_reducible assumption) (State.physRead_step _ _ _ _ _ _ ?_ ?_))
    | with_reducible apply Frame.foldl
    | with_reducible apply Frame.foldl_fst
    | split
    | with_reducible apply Frame.ite
    | intro _
    | dsimp only
theorem State.hostqRead_step (w0 : Nat) (a0 : State) (s : State) (h : Nat) (a : Nat) (n : Nat) (h0 : Frame w0 a0 s) (hw : 9962544 &&& w0 = 9962544) : Frame w0 a0 (State.hostqRead s h a n).1 :=
  Frame.step _ _ _ _ _ h0 (State.hostqRead_frame s h a n) hw

theorem State.hostqWrite_frame (s : State) (h : Nat) (a : Nat) (bs : List Byte) : Frame 45616176 s (State.hostqWrite s h a bs) := by
  unfold State.hostqWrite
  try dsimp only
  repeat' first
    | with_reducible apply Frame.refl
    | with_reducible assumption
    | apply Eq.refl
    | with_reducible apply State.hdgAccess_step
    | (with_reducible refine Frame.of_pair (by with_reducible assumption) (State.hdgAccess_step _ _ _ _ _ _ _ _ _ ?_ ?_))
    | with_reducible apply State.physWrite_step
    | (with_reducible refine Frame.of_pair (by with_reducible assumption) (State.physWrite_step _ _ _ _ _ _ ?_ ?_))
    | with_reducible apply Frame.foldl
    | with_reducible apply Frame.foldl_fst
    | split
    | with_reducible apply Frame.ite
    | intro _
    | dsimp only
theorem State.hostqWrite_step (w0 : Nat) (a0 : State) (s : State) (h : Nat) (a : Nat) (bs : List Byte) (h0 : Frame w0 a0 s) (hw : 45616176 &&& w0 = 45616176) : Frame w0 a0 (State.hostqWrite s h a bs) :=
  Frame.step _ _ _ _ _ h0 (State.hostqWrite_frame s h a bs) hw

theorem State.tableRead_frame (s : State) (h : Nat) (m : Nat) (pa : Nat) : Frame 9962544 s (State.tableRead s h m pa).1 := by
  unfold State.tableRead
  try dsimp only
  repeat' first
    | with_reducible apply Frame.refl
    | with_reducible assumption
    | apply Eq.refl
    | with_reducible apply State.throughL2_step
    | (with_reducible refine Frame.of_pair (by with_reducible assumption) (State.throughL2_step _ _ _ _ _ _ _ _ _ ?_ ?_))
    | with_reducible apply State.physRead_step
    | (with_reducible refine Frame.of_pair (by with_reducible assumption) (State.physRead_step _ _ _ _ _ _ ?_ ?_))
    | with_reducible apply Frame.foldl
    | with_reducible apply Frame.foldl_fst
    | split
    | with_reducible apply Frame.ite
    | intro _
    | dsimp only
theorem State.tableRead_step (w0 : Nat) (a0 : State) (s : State) (h : Nat) (m : Nat) (pa : Nat) (h0 : Frame w0 a0 s) (hw : 9962544 &&& w0 = 9962544) : Frame w0 a0 (State.tableRead s h m pa).1 :=
  Frame.step _ _ _ _ _ h0 (State.tableRead_frame s h m pa) hw

theorem State.walk_frame (s : State) (h : Nat) (va : Nat) (a : Acc) (x4 : Nat) (x5 : Nat) : Frame 9962544 s (State.walk s h va a x4 x5).1 := by
  induction x4 generalizing s x5 with
  | zero =>
    unfold State.walk
    try dsimp only
    repeat' first
      | with_reducible apply Frame.refl
      | with_reducible assumption
      | apply Eq.refl
      | with_reducible apply State.hostqRead_step
      | with_reducible apply State.tableRead_step
      | with_reducible apply Frame.foldl
      | split
      | dsimp only
  | succ f ih =>
    unfold State.walk
    try dsimp only
    repeat' first
      | with_reducible apply Frame.refl
      | with_reducible assumption
      | apply Eq.refl
      | with_reducible refine Frame.step _ _ _ _ _ ?_ (ih _ _) (Eq.refl _)
      | with_reducible apply State.hostqRead_step
      | with_reducible apply State.tableRead_step
      | with_reducible apply Frame.foldl
      | split
      | dsimp only
theorem State.walk_step (w0 : Nat) (a0 : State) (s : State) (h : Nat) (va : Nat) (a : Acc) (x4 : Nat) (x5 : Nat) (h0 : Frame w0 a0 s) (hw : 9962544 &&& w0 = 9962544) : Frame w0 a0 (State.walk s h va a x4 x5).1 :=
  Frame.step _ _ _ _ _ h0 (State.walk_frame s h va a x4 x5) hw

theorem State.translate_frame (s : State) (h : Nat) (root : Nat) (va : Nat) (a : Acc) : Frame 9962544 s (State.translate s h root va a).1 := by
  unfold State.translate
  try dsimp only
  repeat' first
    | with_reducible apply Frame.refl
    | with_reducible assumption
    | apply Eq.refl
    | with_reducible apply State.walk_step
    | (with_reducible refine Frame.of_pair (by with_reducible assumption) (State.walk_step _ _ _ _ _ _ _ _ ?_ ?_))
    | with_reducible apply Frame.foldl
    | with_reducible apply Frame.foldl_fst
    | split
    | with_reducible apply Frame.ite
    | intro _
    | dsimp only
theorem State.translate_step (w0 : Nat) (a0 : State) (s : State) (h : Nat) (root : Nat) (va : Nat) (a : Acc) (h0 : Frame w0 a0 s) (hw : 9962544 &&& w0 = 9962544) : Frame w0 a0 (State.translate s h root va a).1 :=
  Frame.step _ _ _ _ _ h0 (State.translate_frame s h root va a) hw

theorem State.translateFor_frame (s : State) (h : Nat) (ctx : Nat) (va : Nat) (a : Acc) : Frame 9962544 s (State.translateFor s h ctx va a).1 := by
  unfold State.translateFor
  try dsimp only
  repeat' first
    | with_reducible apply Frame.refl
    | with_reducible assumption
    | apply Eq.refl
    | with_reducible apply State.translate_step
    | (with_reducible refine Frame.of_pair (by with_reducible assumption) (State.translate_step _ _ _ _ _ _ _ ?_ ?_))
    | with_reducible apply Frame.foldl
    | with_reducible apply Frame.foldl_fst
    | split
    | with_reducible apply Frame.ite
    | intro _
    | dsimp only
theorem State.translateFor_step (w0 : Nat) (a0 : State) (s : State) (h : Nat) (ctx : Nat) (va : Nat) (a : Acc) (h0 : Frame w0 a0 s) (hw : 9962544 &&& w0 = 9962544) : Frame w0 a0 (State.translateFor s h ctx va a).1 :=
  Frame.step _ _ _ _ _ h0 (State.translateFor_frame s h ctx va a) hw

theorem State.readVirt_frame (s : State) (h : Nat) (ctx : Nat) (va : Nat) (n : Nat) : Frame 9962544 s (State.readVirt s h ctx va n).1 := by
  unfold State.readVirt
  try dsimp only
  repeat' first
    | with_reducible apply Frame.refl
    | with_reducible assumption
    | apply Eq.refl
    | with_reducible apply State.translateFor_step
    | (with_reducible refine Frame.of_pair (by with_reducible assumption) (State.translateFor_step _ _ _ _ _ _ _ ?_ ?_))
    | with_reducible apply State.hostqRead_step
    | (with_reducible refine Frame.of_pair (by with_reducible assumption) (State.hostqRead_step _ _ _ _ _ _ ?_ ?_))
    | with_reducible apply Frame.foldl
    | with_reducible apply Frame.foldl_fst
    | split
    | with_reducible apply Frame.ite
    | intro _
    | dsimp only
theorem State.readVirt_step (w0 : Nat) (a0 : State) (s : State) (h : Nat) (ctx : Nat) (va : Nat) (n : Nat) (h0 : Frame w0 a0 s) (hw : 9962544 &&& w0 = 9962544) : Frame w0 a0 (State.readVirt s h ctx va n).1 :=
  Frame.step _ _ _ _ _ h0 (State.readVirt_frame s h ctx va n) hw

theorem State.fenceWrite_frame (s : State) (h : Nat) (ctx : Nat) (va : Nat) (v : Nat) : Frame 45616176 s (State.fenceWrite s h ctx va v) := by
  unfold State.fenceWrite
  try dsimp only
  repeat' first
    | with_reducible apply Frame.refl
    | with_reducible assumption
    | apply Eq.refl
    | with_reducible apply State.translateFor_step
    | (with_reducible refine Frame.of_pair (by with_reducible assumption) (State.translateFor_step _ _ _ _ _ _ _ ?_ ?_))
    | with_reducible apply State.hostqWrite_step
    | with_reducible apply State.hostqRead_step
    | (with_reducible refine Frame.of_pair (by with_reducible assumption) (State.hostqRead_step _ _ _ _ _ _ ?_ ?_))
    | with_reducible apply Frame.foldl
    | with_reducible apply Frame.foldl_fst
    | split
    | with_reducible apply Frame.ite
    | intro _
    | dsimp only
theorem State.fenceWrite_step (w0 : Nat) (a0 : State) (s : State) (h : Nat) (ctx : Nat) (va : Nat) (v : Nat) (h0 : Frame w0 a0 s) (hw : 45616176 &&& w0 = 45616176) : Frame w0 a0 (State.fenceWrite s h ctx va v) :=
  Frame.step _ _ _ _ _ h0 (State.fenceWrite_frame s h ctx va v) hw

end Sys2Proof.Machine
end

