-- ==== Sys2Proof/Laws/F_AllocOps.lean ====
section
/-!
SUPPORT. Frames of the operations of Machine/AllocOps.lean.
-/
namespace Sys2Proof.Machine

set_option linter.unusedTactic false
set_option linter.unreachableTactic false
set_option linter.unusedVariables false

theorem State.allocRefuse_frame (s : State) (ctx : Nat) (status : Nat) : Frame 5768240 s (State.allocRefuse s ctx status) := by
  unfold State.allocRefuse
  try dsimp only
  repeat' first
    | with_reducible apply Frame.refl
    | with_reducible assumption
    | apply Eq.refl
    | with_reducible apply State.count_step
    | with_reducible apply State.emit_step
    | with_reducible apply Frame.foldl
    | with_reducible apply Frame.foldl_fst
    | split
    | with_reducible apply Frame.ite
    | with_reducible apply Frame.set_alloc
    | intro _
    | dsimp only
theorem State.allocRefuse_step (w0 : Nat) (a0 : State) (s : State) (ctx : Nat) (status : Nat) (h0 : Frame w0 a0 s) (hw : 5768240 &&& w0 = 5768240) : Frame w0 a0 (State.allocRefuse s ctx status) :=
  Frame.step _ _ _ _ _ h0 (State.allocRefuse_frame s ctx status) hw

theorem State.charge_frame (s : State) (ctx : Nat) (n : Nat) : Frame 16 s (State.charge s ctx n) := by
  unfold State.charge
  try dsimp only
  repeat' first
    | with_reducible apply Frame.refl
    | with_reducible assumption
    | apply Eq.refl
    | with_reducible apply State.setReg64_step
    | with_reducible apply Frame.foldl
    | with_reducible apply Frame.foldl_fst
    | split
    | with_reducible apply Frame.ite
    | intro _
    | dsimp only
theorem State.charge_step (w0 : Nat) (a0 : State) (s : State) (ctx : Nat) (n : Nat) (h0 : Frame w0 a0 s) (hw : 16 &&& w0 = 16) : Frame w0 a0 (State.charge s ctx n) :=
  Frame.step _ _ _ _ _ h0 (State.charge_frame s ctx n) hw

theorem State.allocate_frame (s : State) (ctx : Nat) (len : Nat) (al : Nat) : Frame 5768244 s (State.allocate s ctx len al).1 := by
  unfold State.allocate
  try dsimp only
  repeat' first
    | with_reducible apply Frame.refl
    | with_reducible assumption
    | apply Eq.refl
    | with_reducible apply State.allocRefuse_step
    | with_reducible apply State.useFree_step
    | with_reducible apply State.charge_step
    | with_reducible apply Frame.foldl
    | with_reducible apply Frame.foldl_fst
    | split
    | with_reducible apply Frame.ite
    | with_reducible apply Frame.set_alloc
    | intro _
    | dsimp only
theorem State.allocate_step (w0 : Nat) (a0 : State) (s : State) (ctx : Nat) (len : Nat) (al : Nat) (h0 : Frame w0 a0 s) (hw : 5768244 &&& w0 = 5768244) : Frame w0 a0 (State.allocate s ctx len al).1 :=
  Frame.step _ _ _ _ _ h0 (State.allocate_frame s ctx len al) hw

theorem State.release_frame (s : State) (a : Nat) : Frame 4194320 s (State.release s a) := by
  unfold State.release
  try dsimp only
  repeat' first
    | with_reducible apply Frame.refl
    | with_reducible assumption
    | apply Eq.refl
    | with_reducible apply State.setReg64_step
    | with_reducible apply Frame.foldl
    | with_reducible apply Frame.foldl_fst
    | split
    | with_reducible apply Frame.ite
    | with_reducible apply Frame.set_alloc
    | intro _
    | dsimp only
theorem State.release_step (w0 : Nat) (a0 : State) (s : State) (a : Nat) (h0 : Frame w0 a0 s) (hw : 4194320 &&& w0 = 4194320) : Frame w0 a0 (State.release s a) :=
  Frame.step _ _ _ _ _ h0 (State.release_frame s a) hw

theorem State.freeAlloc_frame (s : State) (ctx : Nat) (a : Nat) : Frame 5768240 s (State.freeAlloc s ctx a).1 := by
  unfold State.freeAlloc
  try dsimp only
  repeat' first
    | with_reducible apply Frame.refl
    | with_reducible assumption
    | apply Eq.refl
    | with_reducible apply State.release_step
    | with_reducible apply State.allocRefuse_step
    | with_reducible apply Frame.foldl
    | with_reducible apply Frame.foldl_fst
    | split
    | with_reducible apply Frame.ite
    | intro _
    | dsimp only
theorem State.freeAlloc_step (w0 : Nat) (a0 : State) (s : State) (ctx : Nat) (a : Nat) (h0 : Frame w0 a0 s) (hw : 5768240 &&& w0 = 5768240) : Frame w0 a0 (State.freeAlloc s ctx a).1 :=
  Frame.step _ _ _ _ _ h0 (State.freeAlloc_frame s ctx a) hw

theorem State.forgetRange_frame (s : State) (a : Nat) (n : Nat) : Frame 35651584 s (State.forgetRange s a n) := by
  unfold State.forgetRange
  extract_lets inside keep l2 hit src src2
  exact Frame.set_mem 35651584 s { s with lodge := { s.lodge with l2 := l2 } } _ (Frame.set_lodge 35651584 s s _ (Frame.refl _ _) rfl rfl rfl) rfl rfl rfl
theorem State.forgetRange_step (w0 : Nat) (a0 : State) (s : State) (a : Nat) (n : Nat) (h0 : Frame w0 a0 s) (hw : 35651584 &&& w0 = 35651584) : Frame w0 a0 (State.forgetRange s a n) :=
  Frame.step _ _ _ _ _ h0 (State.forgetRange_frame s a n) hw

theorem State.zeroDone_frame (s : State) (a : Nat) : Frame 39845888 s (State.zeroDone s a) := by
  unfold State.zeroDone
  extract_lets n src s1 s2
  have h1 : Frame 39845888 s s1 := Frame.set_alloc _ _ _ _ (Frame.refl _ _) rfl
  have h : Frame 39845888 s s2 := State.forgetRange_step _ _ _ _ _ h1 rfl
  clear_value s2
  split
  · exact Frame.refl _ _
  · split
    · exact Frame.set_mem' _ _ s2 _ h rfl (fun c => ⟨zeroBytes_wf _ _ _ (State.canonical_hbm _ c), State.canonical_spiNor _ c⟩)
    · exact Frame.set_lodge _ _ s2 _ h rfl rfl rfl
    · exact h
theorem State.zeroDone_step (w0 : Nat) (a0 : State) (s : State) (a : Nat) (h0 : Frame w0 a0 s) (hw : 39845888 &&& w0 = 39845888) : Frame w0 a0 (State.zeroDone s a) :=
  Frame.step _ _ _ _ _ h0 (State.zeroDone_frame s a) hw

theorem State.putLeaf_frame (s : State) (c : Nat) (vpn : Nat) (leaf : Nat) (x4 : Nat) (x5 : Nat) : Frame 37227568 s (State.putLeaf s c vpn leaf x4 x5) := by
  induction x4 generalizing s x5 with
  | zero =>
    unfold State.putLeaf
    try dsimp only
    repeat' first
      | with_reducible apply Frame.refl
      | with_reducible assumption
      | apply Eq.refl
      | with_reducible apply State.physRead_step
      | with_reducible apply State.physWrite_step
      | with_reducible apply Frame.foldl
      | split
      | dsimp only
  | succ f ih =>
    unfold State.putLeaf
    try dsimp only
    repeat' first
      | with_reducible apply Frame.refl
      | with_reducible assumption
      | apply Eq.refl
      | with_reducible refine Frame.step _ _ _ _ _ ?_ (ih _ _) (Eq.refl _)
      | with_reducible apply State.physRead_step
      | with_reducible apply State.physWrite_step
      | with_reducible apply Frame.foldl
      | split
      | dsimp only
theorem State.putLeaf_step (w0 : Nat) (a0 : State) (s : State) (c : Nat) (vpn : Nat) (leaf : Nat) (x4 : Nat) (x5 : Nat) (h0 : Frame w0 a0 s) (hw : 37227568 &&& w0 = 37227568) : Frame w0 a0 (State.putLeaf s c vpn leaf x4 x5) :=
  Frame.step _ _ _ _ _ h0 (State.putLeaf_frame s c vpn leaf x4 x5) hw

theorem State.mapPages_frame (s : State) (c : Nat) (nc : Bool) (vpn : Nat) (x4 : Nat) : Frame 37227568 s (State.mapPages s c nc vpn x4) := by
  induction x4 generalizing s vpn with
  | zero =>
    unfold State.mapPages
    try dsimp only
    repeat' first
      | with_reducible apply Frame.refl
      | with_reducible assumption
      | apply Eq.refl
      | with_reducible apply State.putLeaf_step
      | with_reducible apply Frame.foldl
      | split
      | dsimp only
  | succ f ih =>
    unfold State.mapPages
    try dsimp only
    repeat' first
      | with_reducible apply Frame.refl
      | with_reducible assumption
      | apply Eq.refl
      | with_reducible refine Frame.step _ _ _ _ _ ?_ (ih _ _) (Eq.refl _)
      | with_reducible apply State.putLeaf_step
      | with_reducible apply Frame.foldl
      | split
      | dsimp only
theorem State.mapPages_step (w0 : Nat) (a0 : State) (s : State) (c : Nat) (nc : Bool) (vpn : Nat) (x4 : Nat) (h0 : Frame w0 a0 s) (hw : 37227568 &&& w0 = 37227568) : Frame w0 a0 (State.mapPages s c nc vpn x4) :=
  Frame.step _ _ _ _ _ h0 (State.mapPages_frame s c nc vpn x4) hw

theorem State.unmapPages_frame (s : State) (c : Nat) (vpn : Nat) (x3 : Nat) : Frame 37227568 s (State.unmapPages s c vpn x3) := by
  induction x3 generalizing s vpn with
  | zero =>
    unfold State.unmapPages
    try dsimp only
    repeat' first
      | with_reducible apply Frame.refl
      | with_reducible assumption
      | apply Eq.refl
      | with_reducible apply State.putLeaf_step
      | with_reducible apply Frame.foldl
      | split
      | dsimp only
  | succ f ih =>
    unfold State.unmapPages
    try dsimp only
    repeat' first
      | with_reducible apply Frame.refl
      | with_reducible assumption
      | apply Eq.refl
      | with_reducible refine Frame.step _ _ _ _ _ ?_ (ih _ _) (Eq.refl _)
      | with_reducible apply State.putLeaf_step
      | with_reducible apply Frame.foldl
      | split
      | dsimp only
theorem State.unmapPages_step (w0 : Nat) (a0 : State) (s : State) (c : Nat) (vpn : Nat) (x3 : Nat) (h0 : Frame w0 a0 s) (hw : 37227568 &&& w0 = 37227568) : Frame w0 a0 (State.unmapPages s c vpn x3) :=
  Frame.step _ _ _ _ _ h0 (State.unmapPages_frame s c vpn x3) hw

theorem State.freeAll_frame (s : State) (c : Nat) : Frame 41421872 s (State.freeAll s c) := by
  unfold State.freeAll
  try dsimp only
  repeat' first
    | with_reducible apply Frame.refl
    | with_reducible assumption
    | apply Eq.refl
    | with_reducible apply State.release_step
    | with_reducible apply State.unmapPages_step
    | with_reducible apply Frame.foldl
    | with_reducible apply Frame.foldl_fst
    | split
    | with_reducible apply Frame.ite
    | intro _
    | dsimp only
theorem State.freeAll_step (w0 : Nat) (a0 : State) (s : State) (c : Nat) (h0 : Frame w0 a0 s) (hw : 41421872 &&& w0 = 41421872) : Frame w0 a0 (State.freeAll s c) :=
  Frame.step _ _ _ _ _ h0 (State.freeAll_frame s c) hw

end Sys2Proof.Machine
end

