-- ==== Sys2Proof/Laws/F_LodgeMem.lean ====
section
/-!
SUPPORT. Frames of the operations of Machine/LodgeMem.lean.
-/
namespace Sys2Proof.Machine

set_option linter.unusedTactic false
set_option linter.unreachableTactic false
set_option linter.unusedVariables false

theorem State.clearL2Poison_frame (s : State) (h : Nat) (a : Nat) (n : Nat) : Frame 2097152 s (State.clearL2Poison s h a n) := by
  unfold State.clearL2Poison
  try dsimp only
  repeat' first
    | with_reducible apply Frame.refl
    | with_reducible assumption
    | apply Eq.refl
    | with_reducible exact fun c => ⟨writeBytes_wf _ _ _ (State.canonical_hbm _ c), id (State.canonical_spiNor _ c)⟩
    | with_reducible exact fun c => ⟨writeBytes_wf _ _ _ (State.canonical_hbm _ c), writeBytes_wf _ _ _ (State.canonical_spiNor _ c)⟩
    | with_reducible exact fun c => ⟨writeBytes_wf _ _ _ (State.canonical_hbm _ c), zeroBytes_wf _ _ _ (State.canonical_spiNor _ c)⟩
    | with_reducible exact fun c => ⟨zeroBytes_wf _ _ _ (State.canonical_hbm _ c), id (State.canonical_spiNor _ c)⟩
    | with_reducible exact fun c => ⟨zeroBytes_wf _ _ _ (State.canonical_hbm _ c), writeBytes_wf _ _ _ (State.canonical_spiNor _ c)⟩
    | with_reducible exact fun c => ⟨zeroBytes_wf _ _ _ (State.canonical_hbm _ c), zeroBytes_wf _ _ _ (State.canonical_spiNor _ c)⟩
    | with_reducible exact fun c => ⟨id (State.canonical_hbm _ c), id (State.canonical_spiNor _ c)⟩
    | with_reducible exact fun c => ⟨id (State.canonical_hbm _ c), writeBytes_wf _ _ _ (State.canonical_spiNor _ c)⟩
    | with_reducible exact fun c => ⟨id (State.canonical_hbm _ c), zeroBytes_wf _ _ _ (State.canonical_spiNor _ c)⟩
    | with_reducible apply Frame.foldl
    | with_reducible apply Frame.foldl_fst
    | split
    | with_reducible apply Frame.ite
    | (with_reducible apply Frame.set_mem; rotate_left; apply Eq.refl; apply Eq.refl; apply Eq.refl)
    | with_reducible apply Frame.set_mem'
    | intro _
    | dsimp only
theorem State.clearL2Poison_step (w0 : Nat) (a0 : State) (s : State) (h : Nat) (a : Nat) (n : Nat) (h0 : Frame w0 a0 s) (hw : 2097152 &&& w0 = 2097152) : Frame w0 a0 (State.clearL2Poison s h a n) :=
  Frame.step _ _ _ _ _ h0 (State.clearL2Poison_frame s h a n) hw

theorem State.l2Fill_frame (s : State) (h : Nat) (k : Nat) : Frame 37258288 s (State.l2Fill s h k) := by
  unfold State.l2Fill
  try dsimp only
  repeat' first
    | with_reducible apply Frame.refl
    | with_reducible assumption
    | apply Eq.refl
    | with_reducible apply State.hbmRead_step
    | (with_reducible refine Frame.of_pair (by with_reducible assumption) (State.hbmRead_step _ _ _ _ _ ?_ ?_))
    | with_reducible apply State.setL2Line_step
    | with_reducible apply State.setPoison_step
    | with_reducible apply Frame.foldl
    | with_reducible apply Frame.foldl_fst
    | split
    | with_reducible apply Frame.ite
    | intro _
    | dsimp only
theorem State.l2Fill_step (w0 : Nat) (a0 : State) (s : State) (h : Nat) (k : Nat) (h0 : Frame w0 a0 s) (hw : 37258288 &&& w0 = 37258288) : Frame w0 a0 (State.l2Fill s h k) :=
  Frame.step _ _ _ _ _ h0 (State.l2Fill_frame s h k) hw

theorem State.l2Clean_frame (s : State) (h : Nat) (k : Nat) : Frame 35684352 s (State.l2Clean s h k) := by
  unfold State.l2Clean
  try dsimp only
  repeat' first
    | with_reducible apply Frame.refl
    | with_reducible assumption
    | apply Eq.refl
    | with_reducible apply State.setL2Line_step
    | with_reducible apply State.hbmWrite_step
    | with_reducible apply State.setPoison_step
    | with_reducible apply Frame.foldl
    | with_reducible apply Frame.foldl_fst
    | split
    | with_reducible apply Frame.ite
    | intro _
    | dsimp only
theorem State.l2Clean_step (w0 : Nat) (a0 : State) (s : State) (h : Nat) (k : Nat) (h0 : Frame w0 a0 s) (hw : 35684352 &&& w0 = 35684352) : Frame w0 a0 (State.l2Clean s h k) :=
  Frame.step _ _ _ _ _ h0 (State.l2Clean_frame s h k) hw

theorem State.l2Drop_frame (s : State) (h : Nat) (k : Nat) : Frame 35651584 s (State.l2Drop s h k) := by
  unfold State.l2Drop
  try dsimp only
  repeat' first
    | with_reducible apply Frame.refl
    | with_reducible assumption
    | apply Eq.refl
    | with_reducible apply State.clearL2Poison_step
    | with_reducible apply State.setL2Line_step
    | with_reducible apply State.cancelRow_step
    | with_reducible apply Frame.foldl
    | with_reducible apply Frame.foldl_fst
    | split
    | with_reducible apply Frame.ite
    | intro _
    | dsimp only
theorem State.l2Drop_step (w0 : Nat) (a0 : State) (s : State) (h : Nat) (k : Nat) (h0 : Frame w0 a0 s) (hw : 35651584 &&& w0 = 35651584) : Frame w0 a0 (State.l2Drop s h k) :=
  Frame.step _ _ _ _ _ h0 (State.l2Drop_frame s h k) hw

theorem State.l2Flush_frame (s : State) (h : Nat) (k : Nat) : Frame 35684352 s (State.l2Flush s h k) := by
  unfold State.l2Flush
  try dsimp only
  repeat' first
    | with_reducible apply Frame.refl
    | with_reducible assumption
    | apply Eq.refl
    | with_reducible apply State.l2Drop_step
    | with_reducible apply State.l2Clean_step
    | with_reducible apply Frame.foldl
    | with_reducible apply Frame.foldl_fst
    | split
    | with_reducible apply Frame.ite
    | intro _
    | dsimp only
theorem State.l2Flush_step (w0 : Nat) (a0 : State) (s : State) (h : Nat) (k : Nat) (h0 : Frame w0 a0 s) (hw : 35684352 &&& w0 = 35684352) : Frame w0 a0 (State.l2Flush s h k) :=
  Frame.step _ _ _ _ _ h0 (State.l2Flush_frame s h k) hw

theorem State.l2FlushAll_frame (s : State) (h : Nat) : Frame 35684352 s (State.l2FlushAll s h) := by
  unfold State.l2FlushAll
  try dsimp only
  repeat' first
    | with_reducible apply Frame.refl
    | with_reducible assumption
    | apply Eq.refl
    | with_reducible apply State.l2Flush_step
    | with_reducible apply Frame.foldl
    | with_reducible apply Frame.foldl_fst
    | split
    | with_reducible apply Frame.ite
    | intro _
    | dsimp only
theorem State.l2FlushAll_step (w0 : Nat) (a0 : State) (s : State) (h : Nat) (h0 : Frame w0 a0 s) (hw : 35684352 &&& w0 = 35684352) : Frame w0 a0 (State.l2FlushAll s h) :=
  Frame.step _ _ _ _ _ h0 (State.l2FlushAll_frame s h) hw

theorem State.l2Evict_frame (s : State) (h : Nat) : Frame 35684356 s (State.l2Evict s h) := by
  unfold State.l2Evict
  try dsimp only
  repeat' first
    | with_reducible apply Frame.refl
    | with_reducible assumption
    | apply Eq.refl
    | with_reducible apply State.useFree_step
    | with_reducible apply State.l2Flush_step
    | with_reducible apply Frame.foldl
    | with_reducible apply Frame.foldl_fst
    | split
    | with_reducible apply Frame.ite
    | intro _
    | dsimp only
theorem State.l2Evict_step (w0 : Nat) (a0 : State) (s : State) (h : Nat) (h0 : Frame w0 a0 s) (hw : 35684356 &&& w0 = 35684356) : Frame w0 a0 (State.l2Evict s h) :=
  Frame.step _ _ _ _ _ h0 (State.l2Evict_frame s h) hw

theorem State.memRead_frame (s : State) (h : Nat) (pa : Nat) (pbmt : Nat) (n : Nat) : Frame 37258288 s (State.memRead s h pa pbmt n).1 := by
  unfold State.memRead
  try dsimp only
  repeat' first
    | with_reducible apply Frame.refl
    | with_reducible assumption
    | apply Eq.refl
    | with_reducible apply State.l2Fill_step
    | with_reducible apply State.physRead_step
    | (with_reducible refine Frame.of_pair (by with_reducible assumption) (State.physRead_step _ _ _ _ _ _ ?_ ?_))
    | with_reducible apply Frame.foldl
    | with_reducible apply Frame.foldl_fst
    | split
    | with_reducible apply Frame.ite
    | intro _
    | dsimp only
theorem State.memRead_step (w0 : Nat) (a0 : State) (s : State) (h : Nat) (pa : Nat) (pbmt : Nat) (n : Nat) (h0 : Frame w0 a0 s) (hw : 37258288 &&& w0 = 37258288) : Frame w0 a0 (State.memRead s h pa pbmt n).1 :=
  Frame.step _ _ _ _ _ h0 (State.memRead_frame s h pa pbmt n) hw

theorem State.memWrite_frame (s : State) (h : Nat) (pa : Nat) (cached : Bool) (bs : List Byte) : Frame 37260336 s (State.memWrite s h pa cached bs) := by
  unfold State.memWrite
  try dsimp only
  repeat' first
    | with_reducible apply Frame.refl
    | with_reducible assumption
    | apply Eq.refl
    | with_reducible apply State.l2Fill_step
    | with_reducible apply State.clearL2Poison_step
    | with_reducible apply State.setL2Line_step
    | with_reducible apply State.cancelRow_step
    | with_reducible apply State.physWrite_step
    | (with_reducible refine Frame.of_pair (by with_reducible assumption) (State.physWrite_step _ _ _ _ _ _ ?_ ?_))
    | with_reducible apply Frame.foldl
    | with_reducible apply Frame.foldl_fst
    | split
    | with_reducible apply Frame.ite
    | intro _
    | dsimp only
theorem State.memWrite_step (w0 : Nat) (a0 : State) (s : State) (h : Nat) (pa : Nat) (cached : Bool) (bs : List Byte) (h0 : Frame w0 a0 s) (hw : 37260336 &&& w0 = 37260336) : Frame w0 a0 (State.memWrite s h pa cached bs) :=
  Frame.step _ _ _ _ _ h0 (State.memWrite_frame s h pa cached bs) hw

theorem State.breakResv_frame (s : State) (c : Nat) (pa : Nat) (n : Nat) : Frame 33554432 s (State.breakResv s c pa n) := by
  unfold State.breakResv
  try dsimp only
  repeat' first
    | with_reducible apply Frame.refl
    | with_reducible assumption
    | apply Eq.refl
    | with_reducible exact fun c => ⟨id (State.canonical_core _ c), id (State.canonical_task _ c)⟩
    | with_reducible exact fun c => ⟨id (State.canonical_core _ c), Tab.put_wf _ _ _ _ (State.canonical_task _ c)⟩
    | with_reducible exact fun c => ⟨Tab.put_wf _ _ _ _ (State.canonical_core _ c), id (State.canonical_task _ c)⟩
    | with_reducible exact fun c => ⟨Tab.put_wf _ _ _ _ (State.canonical_core _ c), Tab.put_wf _ _ _ _ (State.canonical_task _ c)⟩
    | with_reducible exact fun c => ⟨Tab.mapV_wf _ _ _ (State.canonical_core _ c), id (State.canonical_task _ c)⟩
    | with_reducible exact fun c => ⟨Tab.mapV_wf _ _ _ (State.canonical_core _ c), Tab.put_wf _ _ _ _ (State.canonical_task _ c)⟩
    | with_reducible apply Frame.foldl
    | with_reducible apply Frame.foldl_fst
    | split
    | with_reducible apply Frame.ite
    | (with_reducible apply Frame.set_lodge; rotate_left; apply Eq.refl; apply Eq.refl; apply Eq.refl)
    | with_reducible apply Frame.set_lodge'
    | intro _
    | dsimp only
theorem State.breakResv_step (w0 : Nat) (a0 : State) (s : State) (c : Nat) (pa : Nat) (n : Nat) (h0 : Frame w0 a0 s) (hw : 33554432 &&& w0 = 33554432) : Frame w0 a0 (State.breakResv s c pa n) :=
  Frame.step _ _ _ _ _ h0 (State.breakResv_frame s c pa n) hw

theorem State.coreWrite_frame (s : State) (c : Nat) (pa : Nat) (cached : Bool) (bs : List Byte) : Frame 37260336 s (State.coreWrite s c pa cached bs) := by
  unfold State.coreWrite
  try dsimp only
  repeat' first
    | with_reducible apply Frame.refl
    | with_reducible assumption
    | apply Eq.refl
    | with_reducible apply State.breakResv_step
    | with_reducible apply State.memWrite_step
    | with_reducible apply Frame.foldl
    | with_reducible apply Frame.foldl_fst
    | split
    | with_reducible apply Frame.ite
    | intro _
    | dsimp only
theorem State.coreWrite_step (w0 : Nat) (a0 : State) (s : State) (c : Nat) (pa : Nat) (cached : Bool) (bs : List Byte) (h0 : Frame w0 a0 s) (hw : 37260336 &&& w0 = 37260336) : Frame w0 a0 (State.coreWrite s c pa cached bs) :=
  Frame.step _ _ _ _ _ h0 (State.coreWrite_frame s c pa cached bs) hw

theorem State.sbDrainOne_frame (s : State) (c : Nat) : Frame 37260336 s (State.sbDrainOne s c) := by
  unfold State.sbDrainOne
  try dsimp only
  repeat' first
    | with_reducible apply Frame.refl
    | with_reducible assumption
    | apply Eq.refl
    | with_reducible apply State.coreWrite_step
    | with_reducible apply State.setCore_step
    | with_reducible apply Frame.foldl
    | with_reducible apply Frame.foldl_fst
    | split
    | with_reducible apply Frame.ite
    | intro _
    | dsimp only
theorem State.sbDrainOne_step (w0 : Nat) (a0 : State) (s : State) (c : Nat) (h0 : Frame w0 a0 s) (hw : 37260336 &&& w0 = 37260336) : Frame w0 a0 (State.sbDrainOne s c) :=
  Frame.step _ _ _ _ _ h0 (State.sbDrainOne_frame s c) hw

theorem State.sbDrainN_frame (x0 : Nat) (x1 : State) (x2 : Nat) : Frame 37260336 x1 (State.sbDrainN x0 x1 x2) := by
  induction x0 generalizing x1 x2 with
  | zero =>
    unfold State.sbDrainN
    try dsimp only
    repeat' first
      | with_reducible apply Frame.refl
      | with_reducible assumption
      | apply Eq.refl
      | with_reducible apply State.sbDrainOne_step
      | with_reducible apply Frame.foldl
      | split
      | dsimp only
  | succ f ih =>
    unfold State.sbDrainN
    try dsimp only
    repeat' first
      | with_reducible apply Frame.refl
      | with_reducible assumption
      | apply Eq.refl
      | with_reducible refine Frame.step _ _ _ _ _ ?_ (ih _ _) (Eq.refl _)
      | with_reducible apply State.sbDrainOne_step
      | with_reducible apply Frame.foldl
      | split
      | dsimp only
theorem State.sbDrainN_step (w0 : Nat) (a0 : State) (x0 : Nat) (x1 : State) (x2 : Nat) (h0 : Frame w0 a0 x1) (hw : 37260336 &&& w0 = 37260336) : Frame w0 a0 (State.sbDrainN x0 x1 x2) :=
  Frame.step _ _ _ _ _ h0 (State.sbDrainN_frame x0 x1 x2) hw

theorem State.sbDrain_frame (s : State) (c : Nat) : Frame 37260336 s (State.sbDrain s c) := by
  unfold State.sbDrain
  try dsimp only
  repeat' first
    | with_reducible apply Frame.refl
    | with_reducible assumption
    | apply Eq.refl
    | with_reducible apply State.sbDrainN_step
    | with_reducible apply Frame.foldl
    | with_reducible apply Frame.foldl_fst
    | split
    | with_reducible apply Frame.ite
    | intro _
    | dsimp only
theorem State.sbDrain_step (w0 : Nat) (a0 : State) (s : State) (c : Nat) (h0 : Frame w0 a0 s) (hw : 37260336 &&& w0 = 37260336) : Frame w0 a0 (State.sbDrain s c) :=
  Frame.step _ _ _ _ _ h0 (State.sbDrain_frame s c) hw

theorem State.sbMayDrain_frame (s : State) (c : Nat) : Frame 37260340 s (State.sbMayDrain s c) := by
  unfold State.sbMayDrain
  try dsimp only
  repeat' first
    | with_reducible apply Frame.refl
    | with_reducible assumption
    | apply Eq.refl
    | with_reducible apply State.sbDrainOne_step
    | with_reducible apply State.useFree_step
    | with_reducible apply Frame.foldl
    | with_reducible apply Frame.foldl_fst
    | split
    | with_reducible apply Frame.ite
    | intro _
    | dsimp only
theorem State.sbMayDrain_step (w0 : Nat) (a0 : State) (s : State) (c : Nat) (h0 : Frame w0 a0 s) (hw : 37260340 &&& w0 = 37260340) : Frame w0 a0 (State.sbMayDrain s c) :=
  Frame.step _ _ _ _ _ h0 (State.sbMayDrain_frame s c) hw

theorem State.corePoison_frame (s : State) (c : Nat) (w : MemWord) : Frame 1573936 s (State.corePoison s c w) := by
  unfold State.corePoison
  try dsimp only
  repeat' first
    | with_reducible apply Frame.refl
    | with_reducible assumption
    | apply Eq.refl
    | with_reducible apply State.emit_step
    | with_reducible apply Frame.foldl
    | with_reducible apply Frame.foldl_fst
    | split
    | with_reducible apply Frame.ite
    | intro _
    | dsimp only
theorem State.corePoison_step (w0 : Nat) (a0 : State) (s : State) (c : Nat) (w : MemWord) (h0 : Frame w0 a0 s) (hw : 1573936 &&& w0 = 1573936) : Frame w0 a0 (State.corePoison s c w) :=
  Frame.step _ _ _ _ _ h0 (State.corePoison_frame s c w) hw

theorem State.coreHedge_frame (s : State) (c : Nat) (pa : Nat) (pbmt : Nat) (n : Nat) (write : Bool) : Frame 9962544 s (State.coreHedge s c pa pbmt n write).1 := by
  unfold State.coreHedge
  try dsimp only
  repeat' first
    | with_reducible apply Frame.refl
    | with_reducible assumption
    | apply Eq.refl
    | with_reducible apply State.throughL2_step
    | (with_reducible refine Frame.of_pair (by with_reducible assumption) (State.throughL2_step _ _ _ _ _ _ _ _ _ ?_ ?_))
    | with_reducible apply Frame.foldl
    | with_reducible apply Frame.foldl_fst
    | split
    | with_reducible apply Frame.ite
    | intro _
    | dsimp only
theorem State.coreHedge_step (w0 : Nat) (a0 : State) (s : State) (c : Nat) (pa : Nat) (pbmt : Nat) (n : Nat) (write : Bool) (h0 : Frame w0 a0 s) (hw : 9962544 &&& w0 = 9962544) : Frame w0 a0 (State.coreHedge s c pa pbmt n write).1 :=
  Frame.step _ _ _ _ _ h0 (State.coreHedge_frame s c pa pbmt n write) hw

theorem State.coreRead_frame (s : State) (c : Nat) (pa : Nat) (pbmt : Nat) (n : Nat) (e : Ecc) : Frame 45646896 s (State.coreRead s c pa pbmt n e).1 := by
  unfold State.coreRead
  try dsimp only
  repeat' first
    | with_reducible apply Frame.refl
    | with_reducible assumption
    | apply Eq.refl
    | with_reducible apply State.coreHedge_step
    | (with_reducible refine Frame.of_pair (by with_reducible assumption) (State.coreHedge_step _ _ _ _ _ _ _ _ ?_ ?_))
    | with_reducible apply State.eccFind_step
    | with_reducible apply State.memRead_step
    | (with_reducible refine Frame.of_pair (by with_reducible assumption) (State.memRead_step _ _ _ _ _ _ _ ?_ ?_))
    | with_reducible apply State.corePoison_step
    | with_reducible apply Frame.foldl
    | with_reducible apply Frame.foldl_fst
    | split
    | with_reducible apply Frame.ite
    | intro _
    | dsimp only
theorem State.coreRead_step (w0 : Nat) (a0 : State) (s : State) (c : Nat) (pa : Nat) (pbmt : Nat) (n : Nat) (e : Ecc) (h0 : Frame w0 a0 s) (hw : 45646896 &&& w0 = 45646896) : Frame w0 a0 (State.coreRead s c pa pbmt n e).1 :=
  Frame.step _ _ _ _ _ h0 (State.coreRead_frame s c pa pbmt n e) hw

theorem State.coreStore_frame (s : State) (c : Nat) (pa : Nat) (pbmt : Nat) (n : Nat) (v : DWord) : Frame 45648944 s (State.coreStore s c pa pbmt n v).1 := by
  unfold State.coreStore
  try dsimp only
  repeat' first
    | with_reducible apply Frame.refl
    | with_reducible assumption
    | apply Eq.refl
    | with_reducible apply State.coreHedge_step
    | (with_reducible refine Frame.of_pair (by with_reducible assumption) (State.coreHedge_step _ _ _ _ _ _ _ _ ?_ ?_))
    | with_reducible apply State.setCore_step
    | with_reducible apply State.coreWrite_step
    | with_reducible apply State.sbDrain_step
    | with_reducible apply Frame.foldl
    | with_reducible apply Frame.foldl_fst
    | split
    | with_reducible apply Frame.ite
    | intro _
    | dsimp only
theorem State.coreStore_step (w0 : Nat) (a0 : State) (s : State) (c : Nat) (pa : Nat) (pbmt : Nat) (n : Nat) (v : DWord) (h0 : Frame w0 a0 s) (hw : 45648944 &&& w0 = 45648944) : Frame w0 a0 (State.coreStore s c pa pbmt n v).1 :=
  Frame.step _ _ _ _ _ h0 (State.coreStore_frame s c pa pbmt n v) hw

end Sys2Proof.Machine
end

