-- ==== Sys2Proof/Laws/F_TileOps.lean ====
section
/-!
SUPPORT. Frames of the operations of Machine/TileOps.lean.
-/
namespace Sys2Proof.Machine

set_option linter.unusedTactic false
set_option linter.unreachableTactic false
set_option linter.unusedVariables false

theorem State.tileCond_frame (s : State) (k : Nat) (code : Nat) (d0 : Nat) (d1 : Nat) (d2 : Nat) : Frame 32768 s (State.tileCond s k code d0 d1 d2) := by
  unfold State.tileCond
  try dsimp only
  repeat' first
    | with_reducible apply Frame.refl
    | with_reducible assumption
    | apply Eq.refl
    | with_reducible apply State.setTile_step
    | with_reducible apply Frame.foldl
    | with_reducible apply Frame.foldl_fst
    | split
    | with_reducible apply Frame.ite
    | intro _
    | dsimp only
theorem State.tileCond_step (w0 : Nat) (a0 : State) (s : State) (k : Nat) (code : Nat) (d0 : Nat) (d1 : Nat) (d2 : Nat) (h0 : Frame w0 a0 s) (hw : 32768 &&& w0 = 32768) : Frame w0 a0 (State.tileCond s k code d0 d1 d2) :=
  Frame.step _ _ _ _ _ h0 (State.tileCond_frame s k code d0 d1 d2) hw

theorem State.raiseTile_frame (s : State) (k : Nat) (c : FaultCond) : Frame 1209586740 s (State.raiseTile s k c) := by
  unfold State.raiseTile
  try dsimp only
  repeat' first
    | with_reducible apply Frame.refl
    | with_reducible assumption
    | apply Eq.refl
    | with_reducible apply State.setTile_step
    | with_reducible apply State.setBits_step
    | with_reducible apply State.setRegN_step
    | with_reducible apply State.faultContain_step
    | with_reducible apply State.count_step
    | with_reducible apply Frame.foldl
    | with_reducible apply Frame.foldl_fst
    | split
    | with_reducible apply Frame.ite
    | intro _
    | dsimp only
theorem State.raiseTile_step (w0 : Nat) (a0 : State) (s : State) (k : Nat) (c : FaultCond) (h0 : Frame w0 a0 s) (hw : 1209586740 &&& w0 = 1209586740) : Frame w0 a0 (State.raiseTile s k c) :=
  Frame.step _ _ _ _ _ h0 (State.raiseTile_frame s k c) hw

theorem State.tileFault_frame (s : State) (k : Nat) (code : Nat) (d0 : Nat) (d1 : Nat) (d2 : Nat) : Frame 1209586740 s (State.tileFault s k code d0 d1 d2) := by
  unfold State.tileFault
  try dsimp only
  repeat' first
    | with_reducible apply Frame.refl
    | with_reducible assumption
    | apply Eq.refl
    | with_reducible apply State.raiseTile_step
    | with_reducible apply Frame.foldl
    | with_reducible apply Frame.foldl_fst
    | split
    | with_reducible apply Frame.ite
    | intro _
    | dsimp only
theorem State.tileFault_step (w0 : Nat) (a0 : State) (s : State) (k : Nat) (code : Nat) (d0 : Nat) (d1 : Nat) (d2 : Nat) (h0 : Frame w0 a0 s) (hw : 1209586740 &&& w0 = 1209586740) : Frame w0 a0 (State.tileFault s k code d0 d1 d2) :=
  Frame.step _ _ _ _ _ h0 (State.tileFault_frame s k code d0 d1 d2) hw

theorem State.emitFaults_frame (s : State) : Frame 1209586740 s (State.emitFaults s) := by
  unfold State.emitFaults
  try dsimp only
  repeat' first
    | with_reducible apply Frame.refl
    | with_reducible assumption
    | apply Eq.refl
    | with_reducible apply State.raiseTile_step
    | with_reducible apply Frame.foldl
    | with_reducible apply Frame.foldl_fst
    | split
    | with_reducible apply Frame.ite
    | intro _
    | dsimp only
theorem State.emitFaults_step (w0 : Nat) (a0 : State) (s : State) (h0 : Frame w0 a0 s) (hw : 1209586740 &&& w0 = 1209586740) : Frame w0 a0 (State.emitFaults s) :=
  Frame.step _ _ _ _ _ h0 (State.emitFaults_frame s) hw

theorem State.queueEntry_frame (s : State) (k : Nat) (q : Nat) (f : Flight) (checkIdx : Bool) : Frame 49152 s (State.queueEntry s k q f checkIdx) := by
  unfold State.queueEntry
  try dsimp only
  repeat' first
    | with_reducible apply Frame.refl
    | with_reducible assumption
    | apply Eq.refl
    | with_reducible apply State.tileCond_step
    | with_reducible apply State.holdUpdate_step
    | with_reducible apply State.setTile_step
    | with_reducible apply Frame.foldl
    | with_reducible apply Frame.foldl_fst
    | split
    | with_reducible apply Frame.ite
    | intro _
    | dsimp only
theorem State.queueEntry_step (w0 : Nat) (a0 : State) (s : State) (k : Nat) (q : Nat) (f : Flight) (checkIdx : Bool) (h0 : Frame w0 a0 s) (hw : 49152 &&& w0 = 49152) : Frame w0 a0 (State.queueEntry s k q f checkIdx) :=
  Frame.step _ _ _ _ _ h0 (State.queueEntry_frame s k q f checkIdx) hw

theorem State.queueBounds_frame (s : State) (k : Nat) : Frame 32768 s (State.queueBounds s k) := by
  unfold State.queueBounds
  try dsimp only
  repeat' first
    | with_reducible apply Frame.refl
    | with_reducible assumption
    | apply Eq.refl
    | with_reducible apply State.onTile_step
    | with_reducible apply State.tileCond_step
    | with_reducible apply Frame.foldl
    | with_reducible apply Frame.foldl_fst
    | split
    | with_reducible apply Frame.ite
    | intro _
    | dsimp only
theorem State.queueBounds_step (w0 : Nat) (a0 : State) (s : State) (k : Nat) (h0 : Frame w0 a0 s) (hw : 32768 &&& w0 = 32768) : Frame w0 a0 (State.queueBounds s k) :=
  Frame.step _ _ _ _ _ h0 (State.queueBounds_frame s k) hw

theorem State.feedCk_frame (s : State) (k : Nat) : Frame 49152 s (State.feedCk s k) := by
  unfold State.feedCk
  try dsimp only
  repeat' first
    | with_reducible apply Frame.refl
    | with_reducible assumption
    | apply Eq.refl
    | with_reducible apply State.queueEntry_step
    | with_reducible apply State.onTile_step
    | with_reducible apply Frame.foldl
    | with_reducible apply Frame.foldl_fst
    | split
    | with_reducible apply Frame.ite
    | intro _
    | dsimp only
theorem State.feedCk_step (w0 : Nat) (a0 : State) (s : State) (k : Nat) (h0 : Frame w0 a0 s) (hw : 49152 &&& w0 = 49152) : Frame w0 a0 (State.feedCk s k) :=
  Frame.step _ _ _ _ _ h0 (State.feedCk_frame s k) hw

theorem State.cancelTileRow_frame (s : State) (k : Nat) (row : Nat) : Frame 2097152 s (State.cancelTileRow s k row) := by
  unfold State.cancelTileRow
  try dsimp only
  repeat' first
    | with_reducible apply Frame.refl
    | with_reducible assumption
    | apply Eq.refl
    | with_reducible exact fun c => ⟨writeBytes_wf _ _ _ (State.canonical_hbm _ c), id (State.canonical_spiNor _ c)⟩
    | with_reducible exact fun c => ⟨writeBytes_wf _ _ _ (State.canonical_hbm _ c), writeBytes_wf _ _ _ (State.canonical_spiNor _ c)⟩
    | with_reducible exact fun c => ⟨writeBytes_wf _ _ _ (State.canonical_hbm _ c), zeroBytes_wf _ _ _ (State.canonical_spiNor _ c)⟩
    | with_reducible exact fun c => ⟨zeroBytes_wf _ _ _ (State.canonical_hbm _ c), id (State.canonical_spiNor _ c)⟩
    | with_reducible exact fun c => ⟨zeroBytes_wf _ _ _ (State.canonical_hbm _ c), writeBytes_wf _ _ _ (State.canonical_spiNor _ c)⟩
    | with_reducible exact fun c => ⟨zeroBytes_wf _ _ _ (State.canonical_hbm _ c), zeroBytes_wf _ _ _ (State.canonical_spiNor _ c)⟩
    | with_reducible exact fun c => ⟨id (State.canonical_hbm _ c), id (State.canonical_spiNor _ c)⟩
    | with_reducible exact fun c => ⟨id (State.canonical_hbm _ c), writeBytes_wf _ _ _ (State.canonical_spiNor _ c)⟩
    | with_reducible exact fun c => ⟨id (State.canonical_hbm _ c), zeroBytes_wf _ _ _ (State.canonical_spiNor _ c)⟩
    | with_reducible apply Frame.foldl
    | with_reducible apply Frame.foldl_fst
    | split
    | with_reducible apply Frame.ite
    | (with_reducible apply Frame.set_mem; rotate_left; apply Eq.refl; apply Eq.refl; apply Eq.refl)
    | with_reducible apply Frame.set_mem'
    | intro _
    | dsimp only
theorem State.cancelTileRow_step (w0 : Nat) (a0 : State) (s : State) (k : Nat) (row : Nat) (h0 : Frame w0 a0 s) (hw : 2097152 &&& w0 = 2097152) : Frame w0 a0 (State.cancelTileRow s k row) :=
  Frame.step _ _ _ _ _ h0 (State.cancelTileRow_frame s k row) hw

theorem State.toKiosk_frame (s : State) (k : Nat) (f : Flight) : Frame 262144 s (State.toKiosk s k f) := by
  unfold State.toKiosk
  try dsimp only
  repeat' first
    | with_reducible apply Frame.refl
    | with_reducible assumption
    | apply Eq.refl
    | with_reducible apply State.setKiosk_step
    | with_reducible apply Frame.foldl
    | with_reducible apply Frame.foldl_fst
    | split
    | with_reducible apply Frame.ite
    | intro _
    | dsimp only
theorem State.toKiosk_step (w0 : Nat) (a0 : State) (s : State) (k : Nat) (f : Flight) (h0 : Frame w0 a0 s) (hw : 262144 &&& w0 = 262144) : Frame w0 a0 (State.toKiosk s k f) :=
  Frame.step _ _ _ _ _ h0 (State.toKiosk_frame s k f) hw

theorem State.linkOut_frame (s : State) (k : Nat) (f : Flight) : Frame 294912 s (State.linkOut s k f) := by
  unfold State.linkOut
  try dsimp only
  repeat' first
    | with_reducible apply Frame.refl
    | with_reducible assumption
    | apply Eq.refl
    | with_reducible apply State.onTile_step
    | with_reducible apply State.toKiosk_step
    | with_reducible apply Frame.foldl
    | with_reducible apply Frame.foldl_fst
    | split
    | with_reducible apply Frame.ite
    | intro _
    | dsimp only
theorem State.linkOut_step (w0 : Nat) (a0 : State) (s : State) (k : Nat) (f : Flight) (h0 : Frame w0 a0 s) (hw : 294912 &&& w0 = 294912) : Frame w0 a0 (State.linkOut s k f) :=
  Frame.step _ _ _ _ _ h0 (State.linkOut_frame s k f) hw

theorem State.bringBack_frame (s : State) (k : Nat) (r : TileRun) : Frame 17182261248 s (State.bringBack s k r) := by
  unfold State.bringBack
  try dsimp only
  repeat' first
    | with_reducible apply Frame.refl
    | with_reducible assumption
    | apply Eq.refl
    | with_reducible apply State.setTile_step
    | with_reducible apply State.cancelTileRow_step
    | with_reducible apply State.hbmWrite_step
    | with_reducible apply State.linkOut_step
    | with_reducible apply Frame.foldl
    | with_reducible apply Frame.foldl_fst
    | split
    | with_reducible apply Frame.ite
    | with_reducible apply Frame.set_sideband
    | intro _
    | dsimp only
theorem State.bringBack_step (w0 : Nat) (a0 : State) (s : State) (k : Nat) (r : TileRun) (h0 : Frame w0 a0 s) (hw : 17182261248 &&& w0 = 17182261248) : Frame w0 a0 (State.bringBack s k r) :=
  Frame.step _ _ _ _ _ h0 (State.bringBack_frame s k r) hw

theorem State.lacking_frame (s : State) (k : Nat) (m : Nat) (qs : List Nat) (credit : Bool) : Frame 32768 s (State.lacking s k m qs credit) := by
  unfold State.lacking
  try dsimp only
  repeat' first
    | with_reducible apply Frame.refl
    | with_reducible assumption
    | apply Eq.refl
    | with_reducible apply State.tileCond_step
    | with_reducible apply State.setTile_step
    | with_reducible apply Frame.foldl
    | with_reducible apply Frame.foldl_fst
    | split
    | with_reducible apply Frame.ite
    | intro _
    | dsimp only
theorem State.lacking_step (w0 : Nat) (a0 : State) (s : State) (k : Nat) (m : Nat) (qs : List Nat) (credit : Bool) (h0 : Frame w0 a0 s) (hw : 32768 &&& w0 = 32768) : Frame w0 a0 (State.lacking s k m qs credit) :=
  Frame.step _ _ _ _ _ h0 (State.lacking_frame s k m qs credit) hw

theorem State.runCounted_frame (s : State) (k : Nat) (m : Nat) (cost : Nat) (f : TEnv → Nat → TileRun → StepRes) : Frame 17182261248 s (State.runCounted s k m cost f) := by
  unfold State.runCounted
  try dsimp only
  repeat' first
    | with_reducible apply Frame.refl
    | with_reducible assumption
    | apply Eq.refl
    | with_reducible apply State.bringBack_step
    | with_reducible apply State.lacking_step
    | with_reducible apply State.tileCond_step
    | with_reducible apply Frame.foldl
    | with_reducible apply Frame.foldl_fst
    | split
    | with_reducible apply Frame.ite
    | intro _
    | dsimp only
theorem State.runCounted_step (w0 : Nat) (a0 : State) (s : State) (k : Nat) (m : Nat) (cost : Nat) (f : TEnv → Nat → TileRun → StepRes) (h0 : Frame w0 a0 s) (hw : 17182261248 &&& w0 = 17182261248) : Frame w0 a0 (State.runCounted s k m cost f) :=
  Frame.step _ _ _ _ _ h0 (State.runCounted_frame s k m cost f) hw

theorem State.runOne_frame (s : State) (k : Nat) (f : TEnv → TileRun → StepRes) : Frame 17182261248 s (State.runOne s k f) := by
  unfold State.runOne
  try dsimp only
  repeat' first
    | with_reducible apply Frame.refl
    | with_reducible assumption
    | apply Eq.refl
    | with_reducible apply State.runCounted_step
    | with_reducible apply Frame.foldl
    | with_reducible apply Frame.foldl_fst
    | split
    | with_reducible apply Frame.ite
    | intro _
    | dsimp only
theorem State.runOne_step (w0 : Nat) (a0 : State) (s : State) (k : Nat) (f : TEnv → TileRun → StepRes) (h0 : Frame w0 a0 s) (hw : 17182261248 &&& w0 = 17182261248) : Frame w0 a0 (State.runOne s k f) :=
  Frame.step _ _ _ _ _ h0 (State.runOne_frame s k f) hw

theorem State.issue_frame (s : State) (k : Nat) (mine : TOp → Bool) (run : TInst → State → State) : ∀ w0 a0, Frame w0 a0 s → (∀ i t, Frame w0 a0 t → Frame w0 a0 (run i t)) → 32768 &&& w0 = 32768 → Frame w0 a0 (State.issue s k mine run) := by
  intro w0 a0 h hr hw
  unfold State.issue
  dsimp only
  have hf : ∀ w, Frame w0 a0 (s.tileCond k 0x0208 w 0 0) := fun w => Frame.step _ 32768 _ _ _ h (State.tileCond_frame _ _ _ _ _ _)
    (bit_mask_sub _ _ _ (by decide) hw)
  split
  · exact h
  · split
    · exact hf _
    · split
      · exact hf _
      · split
        · exact hf _
        · split
          · exact h
          · split
            · refine Frame.step _ 32768 _ _ _ h ?_ ?_
              · apply State.setTile_frame
              · exact bit_mask_sub _ _ _ (by decide) hw
            · exact hr _ _ h

theorem State.tileRead_frame (s : State) (t : TileLoc) (w : Nat) (e : Ecc) : Frame 3703856 s (State.tileRead s t w e) := by
  unfold State.tileRead
  try dsimp only
  repeat' first
    | with_reducible apply Frame.refl
    | with_reducible assumption
    | apply Eq.refl
    | with_reducible apply State.eccFind_step
    | with_reducible apply Frame.foldl
    | with_reducible apply Frame.foldl_fst
    | split
    | with_reducible apply Frame.ite
    | intro _
    | dsimp only
theorem State.tileRead_step (w0 : Nat) (a0 : State) (s : State) (t : TileLoc) (w : Nat) (e : Ecc) (h0 : Frame w0 a0 s) (hw : 3703856 &&& w0 = 3703856) : Frame w0 a0 (State.tileRead s t w e) :=
  Frame.step _ _ _ _ _ h0 (State.tileRead_frame s t w e) hw

end Sys2Proof.Machine
end

