-- ==== Sys2Proof/Laws/F_StrobeOps.lean ====
section
/-!
SUPPORT. Frames of the operations of Machine/StrobeOps.lean.
-/
namespace Sys2Proof.Machine

set_option linter.unusedTactic false
set_option linter.unreachableTactic false
set_option linter.unusedVariables false

theorem State.setStrobes_frame (s : State) (m : Nat) (l : List Strobe) : Frame 131072 s (State.setStrobes s m l) := by
  unfold State.setStrobes
  try dsimp only
  repeat' first
    | with_reducible apply Frame.refl
    | with_reducible assumption
    | apply Eq.refl
    | with_reducible exact fun c => Tab.put_wf _ _ _ _ (State.canonical_cam _ c)
    | with_reducible exact fun c => Tab.mapV_wf _ _ _ (State.canonical_cam _ c)
    | with_reducible exact fun c => Tab.filter_wf _ _ _ (State.canonical_cam _ c)
    | with_reducible apply Frame.foldl
    | with_reducible apply Frame.foldl_fst
    | split
    | with_reducible apply Frame.ite
    | (with_reducible apply Frame.set_gth; rotate_left; apply Eq.refl; apply Eq.refl)
    | with_reducible apply Frame.set_gth'
    | intro _
    | dsimp only
theorem State.setStrobes_step (w0 : Nat) (a0 : State) (s : State) (m : Nat) (l : List Strobe) (h0 : Frame w0 a0 s) (hw : 131072 &&& w0 = 131072) : Frame w0 a0 (State.setStrobes s m l) :=
  Frame.step _ _ _ _ _ h0 (State.setStrobes_frame s m l) hw

theorem State.strobePin_frame (s : State) (h : W48) (m : Nat) : Frame 132096 s (State.strobePin s h m) := by
  unfold State.strobePin
  try dsimp only
  repeat' first
    | with_reducible apply Frame.refl
    | with_reducible assumption
    | apply Eq.refl
    | with_reducible apply State.setStrobes_step
    | with_reducible apply State.send_step
    | with_reducible apply Frame.foldl
    | with_reducible apply Frame.foldl_fst
    | split
    | with_reducible apply Frame.ite
    | intro _
    | dsimp only
theorem State.strobePin_step (w0 : Nat) (a0 : State) (s : State) (h : W48) (m : Nat) (h0 : Frame w0 a0 s) (hw : 132096 &&& w0 = 132096) : Frame w0 a0 (State.strobePin s h m) :=
  Frame.step _ _ _ _ _ h0 (State.strobePin_frame s h m) hw

theorem State.strobesAll_frame (s : State) : Frame 132096 s (State.strobesAll s) := by
  unfold State.strobesAll
  try dsimp only
  repeat' first
    | with_reducible apply Frame.refl
    | with_reducible assumption
    | apply Eq.refl
    | with_reducible apply State.strobePin_step
    | with_reducible apply Frame.foldl
    | with_reducible apply Frame.foldl_fst
    | split
    | with_reducible apply Frame.ite
    | intro _
    | dsimp only
theorem State.strobesAll_step (w0 : Nat) (a0 : State) (s : State) (h0 : Frame w0 a0 s) (hw : 132096 &&& w0 = 132096) : Frame w0 a0 (State.strobesAll s) :=
  Frame.step _ _ _ _ _ h0 (State.strobesAll_frame s) hw

theorem State.schedStrobe_frame (s : State) (first : W48) (last : W48) (m : Nat) : Frame 131120 s (State.schedStrobe s first last m).1 := by
  unfold State.schedStrobe
  try dsimp only
  repeat' first
    | with_reducible apply Frame.refl
    | with_reducible assumption
    | apply Eq.refl
    | with_reducible apply State.count_step
    | with_reducible apply State.setStrobes_step
    | with_reducible apply Frame.foldl
    | with_reducible apply Frame.foldl_fst
    | split
    | with_reducible apply Frame.ite
    | intro _
    | dsimp only
theorem State.schedStrobe_step (w0 : Nat) (a0 : State) (s : State) (first : W48) (last : W48) (m : Nat) (h0 : Frame w0 a0 s) (hw : 131120 &&& w0 = 131120) : Frame w0 a0 (State.schedStrobe s first last m).1 :=
  Frame.step _ _ _ _ _ h0 (State.schedStrobe_frame s first last m) hw

theorem State.schedMask_frame (s : State) (h : Nat) (mask : Nat) (first : W48) (last : W48) : Frame 131120 s (State.schedMask s h mask first last).1 := by
  unfold State.schedMask
  try dsimp only
  repeat' first
    | with_reducible apply Frame.refl
    | with_reducible assumption
    | apply Eq.refl
    | with_reducible apply State.schedStrobe_step
    | (with_reducible refine Frame.of_pair (by with_reducible assumption) (State.schedStrobe_step _ _ _ _ _ _ ?_ ?_))
    | with_reducible apply Frame.foldl
    | with_reducible apply Frame.foldl_fst
    | split
    | with_reducible apply Frame.ite
    | intro _
    | dsimp only
theorem State.schedMask_step (w0 : Nat) (a0 : State) (s : State) (h : Nat) (mask : Nat) (first : W48) (last : W48) (h0 : Frame w0 a0 s) (hw : 131120 &&& w0 = 131120) : Frame w0 a0 (State.schedMask s h mask first last).1 :=
  Frame.step _ _ _ _ _ h0 (State.schedMask_frame s h mask first last) hw

theorem execStrobeTimeEnd_frame (m : Cam) (s : State) : Completes 132096 s (execStrobeTimeEnd m s) := by
  unfold execStrobeTimeEnd
  try dsimp only
  repeat' first
    | with_reducible apply Completes.intro
    | with_reducible apply Frame.refl
    | with_reducible assumption
    | apply Eq.refl
    | with_reducible apply State.strobePin_step
    | with_reducible apply Frame.foldl
    | with_reducible apply Frame.foldl_fst
    | split
    | with_reducible apply Frame.ite
    | intro _
    | dsimp only
theorem execStrobeTimeEnd_after (w0 : Nat) (a0 : State) (m : Cam) (s : State) (h0 : Frame w0 a0 s) (hw : 132096 &&& w0 = 132096) : Completes w0 a0 (execStrobeTimeEnd m s) :=
  Completes.step _ _ _ _ _ h0 (execStrobeTimeEnd_frame m s) hw

theorem State.markGo_frame (s : State) (h : Nat) (mask : Nat) : Frame 131120 s (State.markGo s h mask) := by
  unfold State.markGo
  try dsimp only
  repeat' first
    | with_reducible apply Frame.refl
    | with_reducible assumption
    | apply Eq.refl
    | with_reducible apply State.schedMask_step
    | (with_reducible refine Frame.of_pair (by with_reducible assumption) (State.schedMask_step _ _ _ _ _ _ _ ?_ ?_))
    | with_reducible apply Frame.foldl
    | with_reducible apply Frame.foldl_fst
    | split
    | with_reducible apply Frame.ite
    | intro _
    | dsimp only
theorem State.markGo_step (w0 : Nat) (a0 : State) (s : State) (h : Nat) (mask : Nat) (h0 : Frame w0 a0 s) (hw : 131120 &&& w0 = 131120) : Frame w0 a0 (State.markGo s h mask) :=
  Frame.step _ _ _ _ _ h0 (State.markGo_frame s h mask) hw

theorem execGthMarkReqGo_frame (h : Hub) (mask : BitVec 8) (s : State) : Completes 131120 s (execGthMarkReqGo h mask s) := by
  unfold execGthMarkReqGo
  try dsimp only
  repeat' first
    | with_reducible apply Completes.intro
    | with_reducible apply Frame.refl
    | with_reducible assumption
    | apply Eq.refl
    | with_reducible apply State.markGo_step
    | with_reducible apply Frame.foldl
    | with_reducible apply Frame.foldl_fst
    | split
    | with_reducible apply Frame.ite
    | intro _
    | dsimp only
theorem execGthMarkReqGo_after (w0 : Nat) (a0 : State) (h : Hub) (mask : BitVec 8) (s : State) (h0 : Frame w0 a0 s) (hw : 131120 &&& w0 = 131120) : Completes w0 a0 (execGthMarkReqGo h mask s) :=
  Completes.step _ _ _ _ _ h0 (execGthMarkReqGo_frame h mask s) hw

end Sys2Proof.Machine
end

