-- ==== Sys2Proof/Laws/F_Ticks.lean ====
section
/-!
SUPPORT. Frames of the operations of Machine/Ticks.lean.
-/
namespace Sys2Proof.Machine

set_option linter.unusedTactic false
set_option linter.unreachableTactic false
set_option linter.unusedVariables false

theorem State.camTick_frame (s : State) (frameStart : Bool) (o : OpenTick) (n : Nat) : Frame 136240 s (State.camTick s frameStart o n) := by
  unfold State.camTick
  try dsimp only
  repeat' first
    | with_reducible apply Frame.refl
    | with_reducible assumption
    | apply Eq.refl
    | with_reducible apply State.send_step
    | with_reducible apply State.setCam_step
    | with_reducible apply State.closeMissing_step
    | with_reducible apply Frame.foldl
    | with_reducible apply Frame.foldl_fst
    | split
    | with_reducible apply Frame.ite
    | intro _
    | dsimp only
theorem State.camTick_step (w0 : Nat) (a0 : State) (s : State) (frameStart : Bool) (o : OpenTick) (n : Nat) (h0 : Frame w0 a0 s) (hw : 136240 &&& w0 = 136240) : Frame w0 a0 (State.camTick s frameStart o n) :=
  Frame.step _ _ _ _ _ h0 (State.camTick_frame s frameStart o n) hw

theorem State.bandTick_frame (s : State) (st : Stamp) : Frame 4096 s (State.bandTick s st) := by
  unfold State.bandTick
  try dsimp only
  repeat' first
    | with_reducible apply Frame.refl
    | with_reducible assumption
    | apply Eq.refl
    | with_reducible apply State.updBell_step
    | with_reducible apply State.updBand_step
    | with_reducible apply Frame.foldl
    | with_reducible apply Frame.foldl_fst
    | split
    | with_reducible apply Frame.ite
    | intro _
    | dsimp only
theorem State.bandTick_step (w0 : Nat) (a0 : State) (s : State) (st : Stamp) (h0 : Frame w0 a0 s) (hw : 4096 &&& w0 = 4096) : Frame w0 a0 (State.bandTick s st) :=
  Frame.step _ _ _ _ _ h0 (State.bandTick_frame s st) hw

theorem State.bandFull_frame (s : State) : Frame 4112 s (State.bandFull s) := by
  unfold State.bandFull
  try dsimp only
  repeat' first
    | with_reducible apply Frame.refl
    | with_reducible assumption
    | apply Eq.refl
    | with_reducible apply State.setReg48_step
    | with_reducible apply State.updBand_step
    | with_reducible apply Frame.foldl
    | with_reducible apply Frame.foldl_fst
    | split
    | with_reducible apply Frame.ite
    | intro _
    | dsimp only
theorem State.bandFull_step (w0 : Nat) (a0 : State) (s : State) (h0 : Frame w0 a0 s) (hw : 4112 &&& w0 = 4112) : Frame w0 a0 (State.bandFull s) :=
  Frame.step _ _ _ _ _ h0 (State.bandFull_frame s) hw

theorem State.applyTick_frame (s : State) (line : W48) (pos : W48) : Frame 136240 s (State.applyTick s line pos) := by
  unfold State.applyTick
  try dsimp only
  repeat' first
    | with_reducible apply Frame.refl
    | with_reducible assumption
    | apply Eq.refl
    | with_reducible exact fun c => Tab.put_wf _ _ _ _ (State.canonical_cam _ c)
    | with_reducible exact fun c => Tab.mapV_wf _ _ _ (State.canonical_cam _ c)
    | with_reducible exact fun c => Tab.filter_wf _ _ _ (State.canonical_cam _ c)
    | with_reducible apply State.bandTick_step
    | with_reducible apply State.camTick_step
    | with_reducible apply State.updBell_step
    | with_reducible apply State.setReg48_step
    | with_reducible apply State.send_step
    | with_reducible apply State.bandFull_step
    | with_reducible apply Frame.foldl
    | with_reducible apply Frame.foldl_fst
    | split
    | with_reducible apply Frame.ite
    | (with_reducible apply Frame.set_gth; rotate_left; apply Eq.refl; apply Eq.refl)
    | with_reducible apply Frame.set_gth'
    | intro _
    | dsimp only
theorem State.applyTick_step (w0 : Nat) (a0 : State) (s : State) (line : W48) (pos : W48) (h0 : Frame w0 a0 s) (hw : 136240 &&& w0 = 136240) : Frame w0 a0 (State.applyTick s line pos) :=
  Frame.step _ _ _ _ _ h0 (State.applyTick_frame s line pos) hw

theorem State.driveBell_frame (s : State) (slot : Nat) : Frame 134218752 s (State.driveBell s slot) := by
  unfold State.driveBell
  try dsimp only
  repeat' first
    | with_reducible apply Frame.refl
    | with_reducible assumption
    | apply Eq.refl
    | with_reducible exact fun c => Tab.put_wf _ _ _ _ (State.canonical_link _ c)
    | with_reducible exact fun c => Tab.mapV_wf _ _ _ (State.canonical_link _ c)
    | with_reducible exact fun c => Tab.filter_wf _ _ _ (State.canonical_link _ c)
    | with_reducible apply State.send_step
    | with_reducible apply Frame.foldl
    | with_reducible apply Frame.foldl_fst
    | split
    | with_reducible apply Frame.ite
    | (with_reducible apply Frame.set_grp; rotate_left; apply Eq.refl; apply Eq.refl)
    | with_reducible apply Frame.set_grp'
    | intro _
    | dsimp only
theorem State.driveBell_step (w0 : Nat) (a0 : State) (s : State) (slot : Nat) (h0 : Frame w0 a0 s) (hw : 134218752 &&& w0 = 134218752) : Frame w0 a0 (State.driveBell s slot) :=
  Frame.step _ _ _ _ _ h0 (State.driveBell_frame s slot) hw

theorem State.issueTick_frame (s : State) : Frame 134353972 s (State.issueTick s) := by
  unfold State.issueTick
  try dsimp only
  repeat' first
    | with_reducible apply Frame.refl
    | with_reducible assumption
    | apply Eq.refl
    | with_reducible exact fun c => Tab.put_wf _ _ _ _ (State.canonical_link _ c)
    | with_reducible exact fun c => Tab.mapV_wf _ _ _ (State.canonical_link _ c)
    | with_reducible exact fun c => Tab.filter_wf _ _ _ (State.canonical_link _ c)
    | with_reducible apply State.sendMsg_step
    | with_reducible apply State.driveBell_step
    | with_reducible apply State.applyTick_step
    | with_reducible apply Frame.foldl
    | with_reducible apply Frame.foldl_fst
    | split
    | with_reducible apply Frame.ite
    | (with_reducible apply Frame.set_grp; rotate_left; apply Eq.refl; apply Eq.refl)
    | with_reducible apply Frame.set_grp'
    | intro _
    | dsimp only
theorem State.issueTick_step (w0 : Nat) (a0 : State) (s : State) (h0 : Frame w0 a0 s) (hw : 134353972 &&& w0 = 134353972) : Frame w0 a0 (State.issueTick s) :=
  Frame.step _ _ _ _ _ h0 (State.issueTick_frame s) hw

theorem State.issueTicks_frame (s : State) (x1 : Nat) : Frame 134353972 s (State.issueTicks s x1) := by
  induction x1 generalizing s with
  | zero => exact Frame.refl _ _
  | succ n ih =>
    unfold State.issueTicks
    split
    · exact Frame.step _ _ _ _ _ (State.issueTick_frame _) (ih _) rfl
    · exact ih _
theorem State.issueTicks_step (w0 : Nat) (a0 : State) (s : State) (x1 : Nat) (h0 : Frame w0 a0 s) (hw : 134353972 &&& w0 = 134353972) : Frame w0 a0 (State.issueTicks s x1) :=
  Frame.step _ _ _ _ _ h0 (State.issueTicks_frame s x1) hw

theorem State.drainAcc_frame (s : State) : Frame 134353972 s (State.drainAcc s) := by
  unfold State.drainAcc
  try dsimp only
  repeat' first
    | with_reducible apply Frame.refl
    | with_reducible assumption
    | apply Eq.refl
    | with_reducible apply State.updBell_step
    | with_reducible apply State.issueTicks_step
    | with_reducible apply Frame.foldl
    | with_reducible apply Frame.foldl_fst
    | split
    | with_reducible apply Frame.ite
    | intro _
    | dsimp only
theorem State.drainAcc_step (w0 : Nat) (a0 : State) (s : State) (h0 : Frame w0 a0 s) (hw : 134353972 &&& w0 = 134353972) : Frame w0 a0 (State.drainAcc s) :=
  Frame.step _ _ _ _ _ h0 (State.drainAcc_frame s) hw

end Sys2Proof.Machine
end

