-- ==== Sys2Proof/Laws/F_Tasks.lean ====
section
/-!
SUPPORT. Frames of the operations of Machine/Tasks.lean.
-/
namespace Sys2Proof.Machine

set_option linter.unusedTactic false
set_option linter.unreachableTactic false
set_option linter.unusedVariables false

theorem State.setTaskSt_frame (s : State) (k : Nat) (st : Nat) (code : Nat) (exit : Word) : Frame 33554448 s (State.setTaskSt s k st code exit) := by
  unfold State.setTaskSt
  try dsimp only
  repeat' first
    | with_reducible apply Frame.refl
    | with_reducible assumption
    | apply Eq.refl
    | with_reducible apply State.setReg_step
    | with_reducible apply State.setRegN_step
    | with_reducible apply State.setTask_step
    | with_reducible apply Frame.foldl
    | with_reducible apply Frame.foldl_fst
    | split
    | with_reducible apply Frame.ite
    | intro _
    | dsimp only
theorem State.setTaskSt_step (w0 : Nat) (a0 : State) (s : State) (k : Nat) (st : Nat) (code : Nat) (exit : Word) (h0 : Frame w0 a0 s) (hw : 33554448 &&& w0 = 33554448) : Frame w0 a0 (State.setTaskSt s k st code exit) :=
  Frame.step _ _ _ _ _ h0 (State.setTaskSt_frame s k st code exit) hw

theorem State.addReg64_frame (s : State) (a : Nat) (n : Nat) : Frame 16 s (State.addReg64 s a n) := by
  unfold State.addReg64
  try dsimp only
  repeat' first
    | with_reducible apply Frame.refl
    | with_reducible assumption
    | apply Eq.refl
    | with_reducible apply State.setReg64_step
    | with_reducible apply Frame.foldl
    | with_reducible apply Frame.foldl_fst
    | split
    | with_reducible apply Frame.ite
    | intro _
    | dsimp only
theorem State.addReg64_step (w0 : Nat) (a0 : State) (s : State) (a : Nat) (n : Nat) (h0 : Frame w0 a0 s) (hw : 16 &&& w0 = 16) : Frame w0 a0 (State.addReg64 s a n) :=
  Frame.step _ _ _ _ _ h0 (State.addReg64_frame s a n) hw

theorem State.raiseVtime_frame (s : State) (c : Nat) : Frame 16 s (State.raiseVtime s c) := by
  unfold State.raiseVtime
  try dsimp only
  repeat' first
    | with_reducible apply Frame.refl
    | with_reducible assumption
    | apply Eq.refl
    | with_reducible apply State.setReg64_step
    | with_reducible apply Frame.foldl
    | with_reducible apply Frame.foldl_fst
    | split
    | with_reducible apply Frame.ite
    | intro _
    | dsimp only
theorem State.raiseVtime_step (w0 : Nat) (a0 : State) (s : State) (c : Nat) (h0 : Frame w0 a0 s) (hw : 16 &&& w0 = 16) : Frame w0 a0 (State.raiseVtime s c) :=
  Frame.step _ _ _ _ _ h0 (State.raiseVtime_frame s c) hw

theorem State.abandonWait_frame (s : State) (c : Nat) : Frame 34078720 s (State.abandonWait s c) := by
  unfold State.abandonWait
  try dsimp only
  repeat' first
    | with_reducible apply Frame.refl
    | with_reducible assumption
    | apply Eq.refl
    | with_reducible apply State.onPq_step
    | with_reducible apply State.setCore_step
    | with_reducible apply Frame.foldl
    | with_reducible apply Frame.foldl_fst
    | split
    | with_reducible apply Frame.ite
    | intro _
    | dsimp only
theorem State.abandonWait_step (w0 : Nat) (a0 : State) (s : State) (c : Nat) (h0 : Frame w0 a0 s) (hw : 34078720 &&& w0 = 34078720) : Frame w0 a0 (State.abandonWait s c) :=
  Frame.step _ _ _ _ _ h0 (State.abandonWait_frame s c) hw

theorem State.beginOff_frame (s : State) (n : Nat) : Frame 545259520 s (State.beginOff s n) := by
  unfold State.beginOff
  try dsimp only
  repeat' first
    | with_reducible apply Frame.refl
    | with_reducible assumption
    | apply Eq.refl
    | with_reducible apply State.closeGates_step
    | with_reducible apply Frame.foldl
    | with_reducible apply Frame.foldl_fst
    | split
    | with_reducible apply Frame.ite
    | with_reducible apply Frame.set_power
    | intro _
    | dsimp only
theorem State.beginOff_step (w0 : Nat) (a0 : State) (s : State) (n : Nat) (h0 : Frame w0 a0 s) (hw : 545259520 &&& w0 = 545259520) : Frame w0 a0 (State.beginOff s n) :=
  Frame.step _ _ _ _ _ h0 (State.beginOff_frame s n) hw

theorem State.beginOn_frame (s : State) (n : Nat) : Frame 536870912 s (State.beginOn s n) := by
  unfold State.beginOn
  try dsimp only
  repeat' first
    | with_reducible apply Frame.refl
    | with_reducible assumption
    | apply Eq.refl
    | with_reducible apply Frame.foldl
    | with_reducible apply Frame.foldl_fst
    | split
    | with_reducible apply Frame.ite
    | with_reducible apply Frame.set_power
    | intro _
    | dsimp only
theorem State.beginOn_step (w0 : Nat) (a0 : State) (s : State) (n : Nat) (h0 : Frame w0 a0 s) (hw : 536870912 &&& w0 = 536870912) : Frame w0 a0 (State.beginOn s n) :=
  Frame.step _ _ _ _ _ h0 (State.beginOn_frame s n) hw

theorem State.freeCore_frame (s : State) (c : Nat) : Frame 579338240 s (State.freeCore s c) := by
  unfold State.freeCore
  try dsimp only
  repeat' first
    | with_reducible apply Frame.refl
    | with_reducible assumption
    | apply Eq.refl
    | with_reducible apply State.abandonWait_step
    | with_reducible apply State.setCore_step
    | with_reducible apply State.beginOff_step
    | with_reducible apply Frame.foldl
    | with_reducible apply Frame.foldl_fst
    | split
    | with_reducible apply Frame.ite
    | intro _
    | dsimp only
theorem State.freeCore_step (w0 : Nat) (a0 : State) (s : State) (c : Nat) (h0 : Frame w0 a0 s) (hw : 579338240 &&& w0 = 579338240) : Frame w0 a0 (State.freeCore s c) :=
  Frame.step _ _ _ _ _ h0 (State.freeCore_frame s c) hw

theorem State.endEntry_frame (s : State) (o : Nat × Nat × Nat) (st : Nat) (code : Nat) (exit : Word) (ns : Nat) : Frame 67108864 s (State.endEntry s o st code exit ns) := by
  unfold State.endEntry
  try dsimp only
  repeat' first
    | with_reducible apply Frame.refl
    | with_reducible assumption
    | apply Eq.refl
    | with_reducible apply State.setCtx_step
    | with_reducible apply Frame.foldl
    | with_reducible apply Frame.foldl_fst
    | split
    | with_reducible apply Frame.ite
    | intro _
    | dsimp only
theorem State.endEntry_step (w0 : Nat) (a0 : State) (s : State) (o : Nat × Nat × Nat) (st : Nat) (code : Nat) (exit : Word) (ns : Nat) (h0 : Frame w0 a0 s) (hw : 67108864 &&& w0 = 67108864) : Frame w0 a0 (State.endEntry s o st code exit ns) :=
  Frame.step _ _ _ _ _ h0 (State.endEntry_frame s o st code exit ns) hw

theorem State.endTask_frame (s : State) (k : Nat) (st : Nat) (code : Nat) (exit : Word) : Frame 649628720 s (State.endTask s k st code exit) := by
  unfold State.endTask
  try dsimp only
  repeat' first
    | with_reducible apply Frame.refl
    | with_reducible assumption
    | apply Eq.refl
    | with_reducible apply State.sbDrain_step
    | with_reducible apply State.fenceWrite_step
    | with_reducible apply State.signal_step
    | with_reducible apply State.setReg_step
    | with_reducible apply State.setTaskSt_step
    | with_reducible apply State.count_step
    | with_reducible apply State.addReg64_step
    | with_reducible apply State.setTask_step
    | with_reducible apply State.freeCore_step
    | with_reducible apply State.endEntry_step
    | with_reducible apply Frame.foldl
    | with_reducible apply Frame.foldl_fst
    | split
    | with_reducible apply Frame.ite
    | intro _
    | dsimp only
theorem State.endTask_step (w0 : Nat) (a0 : State) (s : State) (k : Nat) (st : Nat) (code : Nat) (exit : Word) (h0 : Frame w0 a0 s) (hw : 649628720 &&& w0 = 649628720) : Frame w0 a0 (State.endTask s k st code exit) :=
  Frame.step _ _ _ _ _ h0 (State.endTask_frame s k st code exit) hw

theorem State.taskGo_frame (s : State) (k : Nat) : Frame 649628720 s (State.taskGo s k) := by
  unfold State.taskGo
  try dsimp only
  repeat' first
    | with_reducible apply Frame.refl
    | with_reducible assumption
    | apply Eq.refl
    | with_reducible exact fun c => ⟨id (State.canonical_core _ c), id (State.canonical_task _ c)⟩
    | with_reducible exact fun c => ⟨id (State.canonical_core _ c), Tab.put_wf _ _ _ _ (State.canonical_task _ c)⟩
    | with_reducible exact fun c => ⟨Tab.put_wf _ _ _ _ (State.canonical_core _ c), id (State.canonical_task _ c)⟩
    | with_reducible exact fun c => ⟨Tab.put_wf _ _ _ _ (State.canonical_core _ c), Tab.put_wf _ _ _ _ (State.canonical_task _ c)⟩
    | with_reducible exact fun c => ⟨Tab.mapV_wf _ _ _ (State.canonical_core _ c), id (State.canonical_task _ c)⟩
    | with_reducible exact fun c => ⟨Tab.mapV_wf _ _ _ (State.canonical_core _ c), Tab.put_wf _ _ _ _ (State.canonical_task _ c)⟩
    | with_reducible apply State.raiseVtime_step
    | with_reducible apply State.setTaskSt_step
    | with_reducible apply State.setTask_step
    | with_reducible apply State.endTask_step
    | with_reducible apply Frame.foldl
    | with_reducible apply Frame.foldl_fst
    | split
    | with_reducible apply Frame.ite
    | (with_reducible apply Frame.set_lodge; rotate_left; apply Eq.refl; apply Eq.refl; apply Eq.refl)
    | with_reducible apply Frame.set_lodge'
    | intro _
    | dsimp only
theorem State.taskGo_step (w0 : Nat) (a0 : State) (s : State) (k : Nat) (h0 : Frame w0 a0 s) (hw : 649628720 &&& w0 = 649628720) : Frame w0 a0 (State.taskGo s k) :=
  Frame.step _ _ _ _ _ h0 (State.taskGo_frame s k) hw

theorem State.takeWaits_frame (s : State) (x1 : List Nat) : ∀ u_, State.takeWaits s x1 = some u_ → Frame 16 s u_ := by
  intro u_ h
  induction x1 generalizing s with
  | nil => exact Option.some.inj h ▸ Frame.refl _ _
  | cons o os ih =>
    unfold State.takeWaits at h
    split at h
    · exact Frame.step _ _ _ _ _ (State.setRegN_frame _ _ _) (ih _ h) rfl
    · cases h

theorem State.setCtxSt_frame (s : State) (c : Nat) (v : Nat) : Frame 16 s (State.setCtxSt s c v) := by
  unfold State.setCtxSt
  try dsimp only
  repeat' first
    | with_reducible apply Frame.refl
    | with_reducible assumption
    | apply Eq.refl
    | with_reducible apply State.setReg_step
    | with_reducible apply Frame.foldl
    | with_reducible apply Frame.foldl_fst
    | split
    | with_reducible apply Frame.ite
    | intro _
    | dsimp only
theorem State.setCtxSt_step (w0 : Nat) (a0 : State) (s : State) (c : Nat) (v : Nat) (h0 : Frame w0 a0 s) (hw : 16 &&& w0 = 16) : Frame w0 a0 (State.setCtxSt s c v) :=
  Frame.step _ _ _ _ _ h0 (State.setCtxSt_frame s c v) hw

theorem State.unstart_frame (s : State) (k : Nat) (c : Nat) : Frame 579338256 s (State.unstart s k c) := by
  unfold State.unstart
  try dsimp only
  repeat' first
    | with_reducible apply Frame.refl
    | with_reducible assumption
    | apply Eq.refl
    | with_reducible apply State.setRegN_step
    | with_reducible apply State.addReg64_step
    | with_reducible apply State.setTask_step
    | with_reducible apply State.freeCore_step
    | with_reducible apply Frame.foldl
    | with_reducible apply Frame.foldl_fst
    | split
    | with_reducible apply Frame.ite
    | intro _
    | dsimp only
theorem State.unstart_step (w0 : Nat) (a0 : State) (s : State) (k : Nat) (c : Nat) (h0 : Frame w0 a0 s) (hw : 579338256 &&& w0 = 579338256) : Frame w0 a0 (State.unstart s k c) :=
  Frame.step _ _ _ _ _ h0 (State.unstart_frame s k c) hw

theorem State.cancelIdle_frame (s : State) (k : Nat) (faulting : Bool) : Frame 649628720 s (State.cancelIdle s k faulting) := by
  unfold State.cancelIdle
  try dsimp only
  repeat' first
    | with_reducible apply Frame.refl
    | with_reducible assumption
    | apply Eq.refl
    | with_reducible apply State.endTask_step
    | with_reducible apply Frame.foldl
    | with_reducible apply Frame.foldl_fst
    | split
    | with_reducible apply Frame.ite
    | intro _
    | dsimp only
theorem State.cancelIdle_step (w0 : Nat) (a0 : State) (s : State) (k : Nat) (faulting : Bool) (h0 : Frame w0 a0 s) (hw : 649628720 &&& w0 = 649628720) : Frame w0 a0 (State.cancelIdle s k faulting) :=
  Frame.step _ _ _ _ _ h0 (State.cancelIdle_frame s k faulting) hw

theorem State.cancelTask_frame (s : State) (k : Nat) (faulting : Bool) : Frame 649628720 s (State.cancelTask s k faulting) := by
  unfold State.cancelTask
  try dsimp only
  repeat' first
    | with_reducible apply Frame.refl
    | with_reducible assumption
    | apply Eq.refl
    | with_reducible apply State.cancelIdle_step
    | with_reducible apply State.unstart_step
    | with_reducible apply State.setTask_step
    | with_reducible apply Frame.foldl
    | with_reducible apply Frame.foldl_fst
    | split
    | with_reducible apply Frame.ite
    | intro _
    | dsimp only
theorem State.cancelTask_step (w0 : Nat) (a0 : State) (s : State) (k : Nat) (faulting : Bool) (h0 : Frame w0 a0 s) (hw : 649628720 &&& w0 = 649628720) : Frame w0 a0 (State.cancelTask s k faulting) :=
  Frame.step _ _ _ _ _ h0 (State.cancelTask_frame s k faulting) hw

theorem State.discardEntries_frame (s : State) (c : Nat) : Frame 649628720 s (State.discardEntries s c) := by
  unfold State.discardEntries
  try dsimp only
  repeat' first
    | with_reducible apply Frame.refl
    | with_reducible assumption
    | apply Eq.refl
    | with_reducible apply State.cancelTask_step
    | with_reducible apply State.setCtx_step
    | with_reducible apply Frame.foldl
    | with_reducible apply Frame.foldl_fst
    | split
    | with_reducible apply Frame.ite
    | intro _
    | dsimp only
theorem State.discardEntries_step (w0 : Nat) (a0 : State) (s : State) (c : Nat) (h0 : Frame w0 a0 s) (hw : 649628720 &&& w0 = 649628720) : Frame w0 a0 (State.discardEntries s c) :=
  Frame.step _ _ _ _ _ h0 (State.discardEntries_frame s c) hw

theorem State.putLine_frame (s : State) (a : Nat) (l : Line) : Frame 16 s (State.putLine s a l) := by
  unfold State.putLine
  try dsimp only
  repeat' first
    | with_reducible apply Frame.refl
    | with_reducible assumption
    | apply Eq.refl
    | with_reducible apply State.setReg_step
    | with_reducible apply Frame.foldl
    | with_reducible apply Frame.foldl_fst
    | split
    | with_reducible apply Frame.ite
    | intro _
    | dsimp only
theorem State.putLine_step (w0 : Nat) (a0 : State) (s : State) (a : Nat) (l : Line) (h0 : Frame w0 a0 s) (hw : 16 &&& w0 = 16) : Frame w0 a0 (State.putLine s a l) :=
  Frame.step _ _ _ _ _ h0 (State.putLine_frame s a l) hw

theorem State.ctxFault_frame (s : State) (c : Nat) (e : ErrInfo) : Frame 649628720 s (State.ctxFault s c e) := by
  unfold State.ctxFault
  try dsimp only
  repeat' first
    | with_reducible apply Frame.refl
    | with_reducible assumption
    | apply Eq.refl
    | with_reducible apply State.emit_step
    | with_reducible apply State.discardEntries_step
    | with_reducible apply State.count_step
    | with_reducible apply State.putLine_step
    | with_reducible apply State.setReg_step
    | with_reducible apply Frame.foldl
    | with_reducible apply Frame.foldl_fst
    | split
    | with_reducible apply Frame.ite
    | intro _
    | dsimp only
theorem State.ctxFault_step (w0 : Nat) (a0 : State) (s : State) (c : Nat) (e : ErrInfo) (h0 : Frame w0 a0 s) (hw : 649628720 &&& w0 = 649628720) : Frame w0 a0 (State.ctxFault s c e) :=
  Frame.step _ _ _ _ _ h0 (State.ctxFault_frame s c e) hw

theorem State.taskFault_frame (s : State) (k : Nat) (c : Nat) (mepc : DWord) (mcause : DWord) (mtval : DWord) : Frame 649628720 s (State.taskFault s k c mepc mcause mtval) := by
  unfold State.taskFault
  try dsimp only
  repeat' first
    | with_reducible apply Frame.refl
    | with_reducible assumption
    | apply Eq.refl
    | with_reducible apply State.ctxFault_step
    | with_reducible apply State.endTask_step
    | with_reducible apply Frame.foldl
    | with_reducible apply Frame.foldl_fst
    | split
    | with_reducible apply Frame.ite
    | intro _
    | dsimp only
theorem State.taskFault_step (w0 : Nat) (a0 : State) (s : State) (k : Nat) (c : Nat) (mepc : DWord) (mcause : DWord) (mtval : DWord) (h0 : Frame w0 a0 s) (hw : 649628720 &&& w0 = 649628720) : Frame w0 a0 (State.taskFault s k c mepc mcause mtval) :=
  Frame.step _ _ _ _ _ h0 (State.taskFault_frame s k c mepc mcause mtval) hw

theorem State.copyChunk_frame (s : State) (k : Nat) (c : Nat) : Frame 33554432 s (State.copyChunk s k c) := by
  unfold State.copyChunk
  try dsimp only
  repeat' first
    | with_reducible apply Frame.refl
    | with_reducible assumption
    | apply Eq.refl
    | with_reducible apply State.setCore_step
    | with_reducible apply Frame.foldl
    | with_reducible apply Frame.foldl_fst
    | split
    | with_reducible apply Frame.ite
    | intro _
    | dsimp only
theorem State.copyChunk_step (w0 : Nat) (a0 : State) (s : State) (k : Nat) (c : Nat) (h0 : Frame w0 a0 s) (hw : 33554432 &&& w0 = 33554432) : Frame w0 a0 (State.copyChunk s k c) :=
  Frame.step _ _ _ _ _ h0 (State.copyChunk_frame s k c) hw

theorem State.startOn_frame (s : State) (k : Nat) (c : Nat) : Frame 33554448 s (State.startOn s k c) := by
  unfold State.startOn
  try dsimp only
  repeat' first
    | with_reducible apply Frame.refl
    | with_reducible assumption
    | apply Eq.refl
    | with_reducible apply State.setTask_step
    | with_reducible apply State.setCore_step
    | with_reducible apply State.setTaskSt_step
    | with_reducible apply State.addReg64_step
    | with_reducible apply State.copyChunk_step
    | with_reducible apply Frame.foldl
    | with_reducible apply Frame.foldl_fst
    | split
    | with_reducible apply Frame.ite
    | intro _
    | dsimp only
theorem State.startOn_step (w0 : Nat) (a0 : State) (s : State) (k : Nat) (c : Nat) (h0 : Frame w0 a0 s) (hw : 33554448 &&& w0 = 33554448) : Frame w0 a0 (State.startOn s k c) :=
  Frame.step _ _ _ _ _ h0 (State.startOn_frame s k c) hw

theorem State.dispatchOne_frame (s : State) (h : Nat) : Frame 33554448 s (State.dispatchOne s h) := by
  unfold State.dispatchOne
  split
  · exact Frame.refl _ _
  · split
    · rename_i h
      exact State.startOn_step _ _ _ _ _ (Frame.step _ _ _ _ _ (Frame.refl _ _) (State.takeWaits_frame _ _ _ h) rfl) rfl
    · exact Frame.refl _ _
theorem State.dispatchOne_step (w0 : Nat) (a0 : State) (s : State) (h : Nat) (h0 : Frame w0 a0 s) (hw : 33554448 &&& w0 = 33554448) : Frame w0 a0 (State.dispatchOne s h) :=
  Frame.step _ _ _ _ _ h0 (State.dispatchOne_frame s h) hw

theorem State.suspendTask_frame (s : State) (k : Nat) : Frame 34078736 s (State.suspendTask s k) := by
  unfold State.suspendTask
  try dsimp only
  repeat' first
    | with_reducible apply Frame.refl
    | with_reducible assumption
    | apply Eq.refl
    | with_reducible apply State.setTaskSt_step
    | with_reducible apply State.abandonWait_step
    | with_reducible apply Frame.foldl
    | with_reducible apply Frame.foldl_fst
    | split
    | with_reducible apply Frame.ite
    | intro _
    | dsimp only
theorem State.suspendTask_step (w0 : Nat) (a0 : State) (s : State) (k : Nat) (h0 : Frame w0 a0 s) (hw : 34078736 &&& w0 = 34078736) : Frame w0 a0 (State.suspendTask s k) :=
  Frame.step _ _ _ _ _ h0 (State.suspendTask_frame s k) hw

theorem State.suspendAll_frame (s : State) : Frame 34078736 s (State.suspendAll s) := by
  unfold State.suspendAll
  try dsimp only
  repeat' first
    | with_reducible apply Frame.refl
    | with_reducible assumption
    | apply Eq.refl
    | with_reducible apply State.suspendTask_step
    | with_reducible apply Frame.foldl
    | with_reducible apply Frame.foldl_fst
    | split
    | with_reducible apply Frame.ite
    | intro _
    | dsimp only
theorem State.suspendAll_step (w0 : Nat) (a0 : State) (s : State) (h0 : Frame w0 a0 s) (hw : 34078736 &&& w0 = 34078736) : Frame w0 a0 (State.suspendAll s) :=
  Frame.step _ _ _ _ _ h0 (State.suspendAll_frame s) hw

theorem State.resumeTask_frame (s : State) (k : Nat) : Frame 33554448 s (State.resumeTask s k) := by
  unfold State.resumeTask
  try dsimp only
  repeat' first
    | with_reducible apply Frame.refl
    | with_reducible assumption
    | apply Eq.refl
    | with_reducible apply State.setTaskSt_step
    | with_reducible apply State.copyChunk_step
    | with_reducible apply Frame.foldl
    | with_reducible apply Frame.foldl_fst
    | split
    | with_reducible apply Frame.ite
    | intro _
    | dsimp only
theorem State.resumeTask_step (w0 : Nat) (a0 : State) (s : State) (k : Nat) (h0 : Frame w0 a0 s) (hw : 33554448 &&& w0 = 33554448) : Frame w0 a0 (State.resumeTask s k) :=
  Frame.step _ _ _ _ _ h0 (State.resumeTask_frame s k) hw

theorem State.resumeAll_frame (s : State) : Frame 33554448 s (State.resumeAll s) := by
  unfold State.resumeAll
  try dsimp only
  repeat' first
    | with_reducible apply Frame.refl
    | with_reducible assumption
    | apply Eq.refl
    | with_reducible apply State.resumeTask_step
    | with_reducible apply Frame.foldl
    | with_reducible apply Frame.foldl_fst
    | split
    | with_reducible apply Frame.ite
    | intro _
    | dsimp only
theorem State.resumeAll_step (w0 : Nat) (a0 : State) (s : State) (h0 : Frame w0 a0 s) (hw : 33554448 &&& w0 = 33554448) : Frame w0 a0 (State.resumeAll s) :=
  Frame.step _ _ _ _ _ h0 (State.resumeAll_frame s) hw

theorem State.cancelDone_frame (s : State) (k : Nat) : Frame 649628720 s (State.cancelDone s k) := by
  unfold State.cancelDone
  try dsimp only
  repeat' first
    | with_reducible apply Frame.refl
    | with_reducible assumption
    | apply Eq.refl
    | with_reducible apply State.emit_step
    | with_reducible apply State.endTask_step
    | with_reducible apply Frame.foldl
    | with_reducible apply Frame.foldl_fst
    | split
    | with_reducible apply Frame.ite
    | intro _
    | dsimp only
theorem State.cancelDone_step (w0 : Nat) (a0 : State) (s : State) (k : Nat) (h0 : Frame w0 a0 s) (hw : 649628720 &&& w0 = 649628720) : Frame w0 a0 (State.cancelDone s k) :=
  Frame.step _ _ _ _ _ h0 (State.cancelDone_frame s k) hw

theorem State.startKernel_frame (s : State) (x : Kern) (bytes : List Byte) : Frame 649628720 s (State.startKernel s x bytes) := by
  unfold State.startKernel
  try dsimp only
  repeat' first
    | with_reducible apply Frame.refl
    | with_reducible assumption
    | apply Eq.refl
    | with_reducible apply State.physWrite_step
    | (with_reducible refine Frame.of_pair (by with_reducible assumption) (State.physWrite_step _ _ _ _ _ _ ?_ ?_))
    | with_reducible apply State.setReg64_step
    | with_reducible apply State.setRegN_step
    | with_reducible apply State.setTask_step
    | with_reducible apply State.taskGo_step
    | with_reducible apply Frame.foldl
    | with_reducible apply Frame.foldl_fst
    | split
    | with_reducible apply Frame.ite
    | intro _
    | dsimp only
theorem State.startKernel_step (w0 : Nat) (a0 : State) (s : State) (x : Kern) (bytes : List Byte) (h0 : Frame w0 a0 s) (hw : 649628720 &&& w0 = 649628720) : Frame w0 a0 (State.startKernel s x bytes) :=
  Frame.step _ _ _ _ _ h0 (State.startKernel_frame s x bytes) hw

theorem State.startKernels_frame (s : State) (im : Image) (gen : BitVec 2) : Frame 649628720 s (State.startKernels s im gen) := by
  unfold State.startKernels
  try dsimp only
  repeat' first
    | with_reducible apply Frame.refl
    | with_reducible assumption
    | apply Eq.refl
    | with_reducible apply State.startKernel_step
    | with_reducible apply Frame.foldl
    | with_reducible apply Frame.foldl_fst
    | split
    | with_reducible apply Frame.ite
    | intro _
    | dsimp only
theorem State.startKernels_step (w0 : Nat) (a0 : State) (s : State) (im : Image) (gen : BitVec 2) (h0 : Frame w0 a0 s) (hw : 649628720 &&& w0 = 649628720) : Frame w0 a0 (State.startKernels s im gen) :=
  Frame.step _ _ _ _ _ h0 (State.startKernels_frame s im gen) hw

theorem State.stopKernels_frame (s : State) (gen : BitVec 2) : Frame 35128368 s (State.stopKernels s gen) := by
  unfold State.stopKernels
  try dsimp only
  repeat' first
    | with_reducible apply Frame.refl
    | with_reducible assumption
    | apply Eq.refl
    | with_reducible apply State.setTask_step
    | with_reducible apply State.signal_step
    | with_reducible apply Frame.foldl
    | with_reducible apply Frame.foldl_fst
    | split
    | with_reducible apply Frame.ite
    | intro _
    | dsimp only
theorem State.stopKernels_step (w0 : Nat) (a0 : State) (s : State) (gen : BitVec 2) (h0 : Frame w0 a0 s) (hw : 35128368 &&& w0 = 35128368) : Frame w0 a0 (State.stopKernels s gen) :=
  Frame.step _ _ _ _ _ h0 (State.stopKernels_frame s gen) hw

theorem State.writeTask_frame (s : State) (k : Nat) (word : Nat) (v : Word) : Frame 16 s (State.writeTask s k word v) := by
  unfold State.writeTask
  try dsimp only
  repeat' first
    | with_reducible apply Frame.refl
    | with_reducible assumption
    | apply Eq.refl
    | with_reducible apply State.setReg_step
    | with_reducible apply Frame.foldl
    | with_reducible apply Frame.foldl_fst
    | split
    | with_reducible apply Frame.ite
    | intro _
    | dsimp only
theorem State.writeTask_step (w0 : Nat) (a0 : State) (s : State) (k : Nat) (word : Nat) (v : Word) (h0 : Frame w0 a0 s) (hw : 16 &&& w0 = 16) : Frame w0 a0 (State.writeTask s k word v) :=
  Frame.step _ _ _ _ _ h0 (State.writeTask_frame s k word v) hw

theorem execLdgTaskRecordWrite_frame (h : Hub) (slot : Slot) (word : Fin 16) (v : Word) (s : State) : Completes 16 s (execLdgTaskRecordWrite h slot word v s) := by
  unfold execLdgTaskRecordWrite
  try dsimp only
  repeat' first
    | with_reducible apply Completes.intro
    | with_reducible apply Frame.refl
    | with_reducible assumption
    | apply Eq.refl
    | with_reducible apply State.writeTask_step
    | with_reducible apply Frame.foldl
    | with_reducible apply Frame.foldl_fst
    | split
    | with_reducible apply Frame.ite
    | intro _
    | dsimp only
theorem execLdgTaskRecordWrite_after (w0 : Nat) (a0 : State) (h : Hub) (slot : Slot) (word : Fin 16) (v : Word) (s : State) (h0 : Frame w0 a0 s) (hw : 16 &&& w0 = 16) : Completes w0 a0 (execLdgTaskRecordWrite h slot word v s) :=
  Completes.step _ _ _ _ _ h0 (execLdgTaskRecordWrite_frame h slot word v s) hw

theorem execLdgTaskGo_frame (h : Hub) (slot : Slot) (s : State) : Completes 649628720 s (execLdgTaskGo h slot s) := by
  unfold execLdgTaskGo
  try dsimp only
  repeat' first
    | with_reducible apply Completes.intro
    | with_reducible apply Frame.refl
    | with_reducible assumption
    | apply Eq.refl
    | with_reducible apply State.taskGo_step
    | with_reducible apply Frame.foldl
    | with_reducible apply Frame.foldl_fst
    | split
    | with_reducible apply Frame.ite
    | intro _
    | dsimp only
theorem execLdgTaskGo_after (w0 : Nat) (a0 : State) (h : Hub) (slot : Slot) (s : State) (h0 : Frame w0 a0 s) (hw : 649628720 &&& w0 = 649628720) : Completes w0 a0 (execLdgTaskGo h slot s) :=
  Completes.step _ _ _ _ _ h0 (execLdgTaskGo_frame h slot s) hw

theorem State.writeCancel_frame (s : State) (k : Nat) : Frame 649628720 s (State.writeCancel s k) := by
  unfold State.writeCancel
  try dsimp only
  repeat' first
    | with_reducible apply Frame.refl
    | with_reducible assumption
    | apply Eq.refl
    | with_reducible apply State.setTask_step
    | with_reducible apply State.cancelTask_step
    | with_reducible apply Frame.foldl
    | with_reducible apply Frame.foldl_fst
    | split
    | with_reducible apply Frame.ite
    | intro _
    | dsimp only
theorem State.writeCancel_step (w0 : Nat) (a0 : State) (s : State) (k : Nat) (h0 : Frame w0 a0 s) (hw : 649628720 &&& w0 = 649628720) : Frame w0 a0 (State.writeCancel s k) :=
  Frame.step _ _ _ _ _ h0 (State.writeCancel_frame s k) hw

theorem execLdgTaskCancel_frame (h : Hub) (slot : Slot) (s : State) : Completes 649628720 s (execLdgTaskCancel h slot s) := by
  unfold execLdgTaskCancel
  try dsimp only
  repeat' first
    | with_reducible apply Completes.intro
    | with_reducible apply Frame.refl
    | with_reducible assumption
    | apply Eq.refl
    | with_reducible apply State.writeCancel_step
    | with_reducible apply Frame.foldl
    | with_reducible apply Frame.foldl_fst
    | split
    | with_reducible apply Frame.ite
    | intro _
    | dsimp only
theorem execLdgTaskCancel_after (w0 : Nat) (a0 : State) (h : Hub) (slot : Slot) (s : State) (h0 : Frame w0 a0 s) (hw : 649628720 &&& w0 = 649628720) : Completes w0 a0 (execLdgTaskCancel h slot s) :=
  Completes.step _ _ _ _ _ h0 (execLdgTaskCancel_frame h slot s) hw

theorem execTaskStart_frame (h : Hub) (s : State) : Completes 33554448 s (execTaskStart h s) := by
  unfold execTaskStart
  try dsimp only
  repeat' first
    | with_reducible apply Completes.intro
    | with_reducible apply Frame.refl
    | with_reducible assumption
    | apply Eq.refl
    | with_reducible apply State.dispatchOne_step
    | with_reducible apply Frame.foldl
    | with_reducible apply Frame.foldl_fst
    | split
    | with_reducible apply Frame.ite
    | intro _
    | dsimp only
theorem execTaskStart_after (w0 : Nat) (a0 : State) (h : Hub) (s : State) (h0 : Frame w0 a0 s) (hw : 33554448 &&& w0 = 33554448) : Completes w0 a0 (execTaskStart h s) :=
  Completes.step _ _ _ _ _ h0 (execTaskStart_frame h s) hw

theorem execTaskCancelComplete_frame (h : Hub) (slot : Slot) (s : State) : Completes 649628720 s (execTaskCancelComplete h slot s) := by
  unfold execTaskCancelComplete
  try dsimp only
  repeat' first
    | with_reducible apply Completes.intro
    | with_reducible apply Frame.refl
    | with_reducible assumption
    | apply Eq.refl
    | with_reducible apply State.cancelDone_step
    | with_reducible apply Frame.foldl
    | with_reducible apply Frame.foldl_fst
    | split
    | with_reducible apply Frame.ite
    | intro _
    | dsimp only
theorem execTaskCancelComplete_after (w0 : Nat) (a0 : State) (h : Hub) (slot : Slot) (s : State) (h0 : Frame w0 a0 s) (hw : 649628720 &&& w0 = 649628720) : Completes w0 a0 (execTaskCancelComplete h slot s) :=
  Completes.step _ _ _ _ _ h0 (execTaskCancelComplete_frame h slot s) hw

theorem execKernelStopTimeout_frame (h : Hub) (slot : Slot) (s : State) : Completes 649628720 s (execKernelStopTimeout h slot s) := by
  unfold execKernelStopTimeout
  try dsimp only
  repeat' first
    | with_reducible apply Completes.intro
    | with_reducible apply Frame.refl
    | with_reducible assumption
    | apply Eq.refl
    | with_reducible apply State.cancelTask_step
    | with_reducible apply Frame.foldl
    | with_reducible apply Frame.foldl_fst
    | split
    | with_reducible apply Frame.ite
    | intro _
    | dsimp only
theorem execKernelStopTimeout_after (w0 : Nat) (a0 : State) (h : Hub) (slot : Slot) (s : State) (h0 : Frame w0 a0 s) (hw : 649628720 &&& w0 = 649628720) : Completes w0 a0 (execKernelStopTimeout h slot s) :=
  Completes.step _ _ _ _ _ h0 (execKernelStopTimeout_frame h slot s) hw

end Sys2Proof.Machine
end

