-- ==== Sys2Proof/Laws/F_PqOps.lean ====
section
/-!
SUPPORT. Frames of the operations of Machine/PqOps.lean.
-/
namespace Sys2Proof.Machine

set_option linter.unusedTactic false
set_option linter.unreachableTactic false
set_option linter.unusedVariables false

theorem State.writeCfgPlain_frame (s : State) (q : Nat) (v : Word) : Frame 35128368 s (State.writeCfgPlain s q v) := by
  unfold State.writeCfgPlain
  try dsimp only
  repeat' first
    | with_reducible apply Frame.refl
    | with_reducible assumption
    | apply Eq.refl
    | with_reducible apply State.pqDisableAll_step
    | with_reducible apply State.setReg_step
    | with_reducible apply State.setBits_step
    | with_reducible apply Frame.foldl
    | with_reducible apply Frame.foldl_fst
    | split
    | with_reducible apply Frame.ite
    | intro _
    | dsimp only
theorem State.writeCfgPlain_step (w0 : Nat) (a0 : State) (s : State) (q : Nat) (v : Word) (h0 : Frame w0 a0 s) (hw : 35128368 &&& w0 = 35128368) : Frame w0 a0 (State.writeCfgPlain s q v) :=
  Frame.step _ _ _ _ _ h0 (State.writeCfgPlain_frame s q v) hw

theorem State.writePqCfg_frame (s : State) (q : Nat) (v : Word) : Frame 35128368 s (State.writePqCfg s q v) := by
  unfold State.writePqCfg
  try dsimp only
  repeat' first
    | with_reducible apply Frame.refl
    | with_reducible assumption
    | apply Eq.refl
    | with_reducible apply State.setReg_step
    | with_reducible apply State.setBits_step
    | with_reducible apply State.writeCfgPlain_step
    | with_reducible apply Frame.foldl
    | with_reducible apply Frame.foldl_fst
    | split
    | with_reducible apply Frame.ite
    | intro _
    | dsimp only
theorem State.writePqCfg_step (w0 : Nat) (a0 : State) (s : State) (q : Nat) (v : Word) (h0 : Frame w0 a0 s) (hw : 35128368 &&& w0 = 35128368) : Frame w0 a0 (State.writePqCfg s q v) :=
  Frame.step _ _ _ _ _ h0 (State.writePqCfg_frame s q v) hw

theorem State.ledgerSetting_frame (s : State) (a : Nat) (v : Word) : Frame 524336 s (State.ledgerSetting s a v) := by
  unfold State.ledgerSetting
  try dsimp only
  repeat' first
    | with_reducible apply Frame.refl
    | with_reducible assumption
    | apply Eq.refl
    | with_reducible apply State.plainWrite_step
    | with_reducible apply State.setBits_step
    | with_reducible apply State.onPq_step
    | with_reducible apply Frame.foldl
    | with_reducible apply Frame.foldl_fst
    | split
    | with_reducible apply Frame.ite
    | intro _
    | dsimp only
theorem State.ledgerSetting_step (w0 : Nat) (a0 : State) (s : State) (a : Nat) (v : Word) (h0 : Frame w0 a0 s) (hw : 524336 &&& w0 = 524336) : Frame w0 a0 (State.ledgerSetting s a v) :=
  Frame.step _ _ _ _ _ h0 (State.ledgerSetting_frame s a v) hw

theorem State.writePqSetting_frame (s : State) (q : Nat) (o : Nat) (v : Word) : Frame 524336 s (State.writePqSetting s q o v) := by
  unfold State.writePqSetting
  try dsimp only
  repeat' first
    | with_reducible apply Frame.refl
    | with_reducible assumption
    | apply Eq.refl
    | with_reducible apply State.ledgerSetting_step
    | with_reducible apply State.plainWrite_step
    | with_reducible apply Frame.foldl
    | with_reducible apply Frame.foldl_fst
    | split
    | with_reducible apply Frame.ite
    | intro _
    | dsimp only
theorem State.writePqSetting_step (w0 : Nat) (a0 : State) (s : State) (q : Nat) (o : Nat) (v : Word) (h0 : Frame w0 a0 s) (hw : 524336 &&& w0 = 524336) : Frame w0 a0 (State.writePqSetting s q o v) :=
  Frame.step _ _ _ _ _ h0 (State.writePqSetting_frame s q o v) hw

theorem State.poisonHead_frame (s : State) (q : Nat) : Frame 524288 s (State.poisonHead s q) := by
  unfold State.poisonHead
  try dsimp only
  repeat' first
    | with_reducible apply Frame.refl
    | with_reducible assumption
    | apply Eq.refl
    | with_reducible apply State.onPq_step
    | with_reducible apply Frame.foldl
    | with_reducible apply Frame.foldl_fst
    | split
    | with_reducible apply Frame.ite
    | intro _
    | dsimp only
theorem State.poisonHead_step (w0 : Nat) (a0 : State) (s : State) (q : Nat) (h0 : Frame w0 a0 s) (hw : 524288 &&& w0 = 524288) : Frame w0 a0 (State.poisonHead s q) :=
  Frame.step _ _ _ _ _ h0 (State.poisonHead_frame s q) hw

theorem State.popWith_frame (s : State) (q : Nat) (ue : Bool) : Frame 35128368 s (State.popWith s q ue).1 := by
  unfold State.popWith
  try dsimp only
  repeat' first
    | with_reducible apply Frame.refl
    | with_reducible assumption
    | apply Eq.refl
    | with_reducible apply State.popItem_step
    | (with_reducible refine Frame.of_pair (by with_reducible assumption) (State.popItem_step _ _ _ _ ?_ ?_))
    | with_reducible apply State.poisonHead_step
    | with_reducible apply Frame.foldl
    | with_reducible apply Frame.foldl_fst
    | split
    | with_reducible apply Frame.ite
    | intro _
    | dsimp only
theorem State.popWith_step (w0 : Nat) (a0 : State) (s : State) (q : Nat) (ue : Bool) (h0 : Frame w0 a0 s) (hw : 35128368 &&& w0 = 35128368) : Frame w0 a0 (State.popWith s q ue).1 :=
  Frame.step _ _ _ _ _ h0 (State.popWith_frame s q ue) hw

theorem State.deliverHost_frame (s : State) (q : Nat) (ue : Bool) : Frame 45616176 s (State.deliverHost s q ue) := by
  unfold State.deliverHost
  try dsimp only
  repeat' first
    | with_reducible apply Frame.refl
    | with_reducible assumption
    | apply Eq.refl
    | with_reducible apply State.popWith_step
    | (with_reducible refine Frame.of_pair (by with_reducible assumption) (State.popWith_step _ _ _ _ _ ?_ ?_))
    | with_reducible apply State.pqLost_step
    | with_reducible apply State.hostqWrite_step
    | with_reducible apply State.setRegN_step
    | with_reducible apply Frame.foldl
    | with_reducible apply Frame.foldl_fst
    | split
    | with_reducible apply Frame.ite
    | intro _
    | dsimp only
theorem State.deliverHost_step (w0 : Nat) (a0 : State) (s : State) (q : Nat) (ue : Bool) (h0 : Frame w0 a0 s) (hw : 45616176 &&& w0 = 45616176) : Frame w0 a0 (State.deliverHost s q ue) :=
  Frame.step _ _ _ _ _ h0 (State.deliverHost_frame s q ue) hw

theorem State.writeHostHead_frame (s : State) (q : Nat) (v : Word) : Frame 16 s (State.writeHostHead s q v) := by
  unfold State.writeHostHead
  try dsimp only
  repeat' first
    | with_reducible apply Frame.refl
    | with_reducible assumption
    | apply Eq.refl
    | with_reducible apply State.setReg_step
    | with_reducible apply Frame.foldl
    | with_reducible apply Frame.foldl_fst
    | split
    | with_reducible apply Frame.ite
    | intro _
    | dsimp only
theorem State.writeHostHead_step (w0 : Nat) (a0 : State) (s : State) (q : Nat) (v : Word) (h0 : Frame w0 a0 s) (hw : 16 &&& w0 = 16) : Frame w0 a0 (State.writeHostHead s q v) :=
  Frame.step _ _ _ _ _ h0 (State.writeHostHead_frame s q v) hw

end Sys2Proof.Machine
end

