-- ==== Sys2Proof/Laws/F_HostOps.lean ====
section
/-!
SUPPORT. Frames of the operations of Machine/HostOps.lean.
-/
namespace Sys2Proof.Machine

set_option linter.unusedTactic false
set_option linter.unreachableTactic false
set_option linter.unusedVariables false

theorem State.retireKq_frame (s : State) (c : Nat) (rd : Nat) (v : DWord) (code : Nat) : Frame 33554432 s (State.retireKq s c rd v code) := by
  unfold State.retireKq
  try dsimp only
  repeat' first
    | with_reducible apply Frame.refl
    | with_reducible assumption
    | apply Eq.refl
    | with_reducible apply State.setCore_step
    | with_reducible apply Frame.foldl
    | with_reducible apply Frame.foldl_fst
    | split
    | with_reducible apply Frame.ite
    | intro _
    | dsimp only
theorem State.retireKq_step (w0 : Nat) (a0 : State) (s : State) (c : Nat) (rd : Nat) (v : DWord) (code : Nat) (h0 : Frame w0 a0 s) (hw : 33554432 &&& w0 = 33554432) : Frame w0 a0 (State.retireKq s c rd v code) :=
  Frame.step _ _ _ _ _ h0 (State.retireKq_frame s c rd v code) hw

theorem State.finishWait_frame (s : State) (c : Nat) (code : Nat) : Frame 33554432 s (State.finishWait s c code) := by
  unfold State.finishWait
  try dsimp only
  repeat' first
    | with_reducible apply Frame.refl
    | with_reducible assumption
    | apply Eq.refl
    | with_reducible apply State.retireKq_step
    | with_reducible apply Frame.foldl
    | with_reducible apply Frame.foldl_fst
    | split
    | with_reducible apply Frame.ite
    | intro _
    | dsimp only
theorem State.finishWait_step (w0 : Nat) (a0 : State) (s : State) (c : Nat) (code : Nat) (h0 : Frame w0 a0 s) (hw : 33554432 &&& w0 = 33554432) : Frame w0 a0 (State.finishWait s c code) :=
  Frame.step _ _ _ _ _ h0 (State.finishWait_frame s c code) hw

theorem State.serveHeld_frame (s : State) (q : Nat) : Frame 35128368 s (State.serveHeld s q) := by
  unfold State.serveHeld
  try dsimp only
  repeat' first
    | with_reducible apply Frame.refl
    | with_reducible assumption
    | apply Eq.refl
    | with_reducible apply State.tryHeld_step
    | with_reducible apply State.finishWait_step
    | with_reducible apply Frame.foldl
    | with_reducible apply Frame.foldl_fst
    | split
    | with_reducible apply Frame.ite
    | intro _
    | dsimp only
theorem State.serveHeld_step (w0 : Nat) (a0 : State) (s : State) (q : Nat) (h0 : Frame w0 a0 s) (hw : 35128368 &&& w0 = 35128368) : Frame w0 a0 (State.serveHeld s q) :=
  Frame.step _ _ _ _ _ h0 (State.serveHeld_frame s q) hw

theorem State.refuseHeld_frame (x0 : Nat) (x1 : State) (x2 : Nat) : Frame 35128368 x1 (State.refuseHeld x0 x1 x2) := by
  induction x0 generalizing x1 with
  | zero => exact Frame.refl _ _
  | succ n ih => exact Frame.step _ _ _ _ _ (State.serveHeld_frame _ _) (ih _) rfl
theorem State.refuseHeld_step (w0 : Nat) (a0 : State) (x0 : Nat) (x1 : State) (x2 : Nat) (h0 : Frame w0 a0 x1) (hw : 35128368 &&& w0 = 35128368) : Frame w0 a0 (State.refuseHeld x0 x1 x2) :=
  Frame.step _ _ _ _ _ h0 (State.refuseHeld_frame x0 x1 x2) hw

theorem State.disableQueue_frame (s : State) (q : Nat) : Frame 35128368 s (State.disableQueue s q) := by
  unfold State.disableQueue
  try dsimp only
  repeat' first
    | with_reducible apply Frame.refl
    | with_reducible assumption
    | apply Eq.refl
    | with_reducible apply State.pqDisableAll_step
    | with_reducible apply State.refuseHeld_step
    | with_reducible apply Frame.foldl
    | with_reducible apply Frame.foldl_fst
    | split
    | with_reducible apply Frame.ite
    | intro _
    | dsimp only
theorem State.disableQueue_step (w0 : Nat) (a0 : State) (s : State) (q : Nat) (h0 : Frame w0 a0 s) (hw : 35128368 &&& w0 = 35128368) : Frame w0 a0 (State.disableQueue s q) :=
  Frame.step _ _ _ _ _ h0 (State.disableQueue_frame s q) hw

theorem State.writeOwn_frame (s : State) (c : Nat) (queues : Bool) (w : Nat) (v : Word) : Frame 48 s (State.writeOwn s c queues w v) := by
  unfold State.writeOwn
  try dsimp only
  repeat' first
    | with_reducible apply Frame.refl
    | with_reducible assumption
    | apply Eq.refl
    | with_reducible apply State.setReg_step
    | with_reducible apply State.setBits_step
    | with_reducible apply Frame.foldl
    | with_reducible apply Frame.foldl_fst
    | split
    | with_reducible apply Frame.ite
    | intro _
    | dsimp only
theorem State.writeOwn_step (w0 : Nat) (a0 : State) (s : State) (c : Nat) (queues : Bool) (w : Nat) (v : Word) (h0 : Frame w0 a0 s) (hw : 48 &&& w0 = 48) : Frame w0 a0 (State.writeOwn s c queues w v) :=
  Frame.step _ _ _ _ _ h0 (State.writeOwn_frame s c queues w v) hw

theorem State.ringFault_frame (s : State) (c : Nat) (r : Nat) (va : Nat) : Frame 649628720 s (State.ringFault s c r va) := by
  unfold State.ringFault
  try dsimp only
  repeat' first
    | with_reducible apply Frame.refl
    | with_reducible assumption
    | apply Eq.refl
    | with_reducible apply State.ctxFault_step
    | with_reducible apply Frame.foldl
    | with_reducible apply Frame.foldl_fst
    | split
    | with_reducible apply Frame.ite
    | intro _
    | dsimp only
theorem State.ringFault_step (w0 : Nat) (a0 : State) (s : State) (c : Nat) (r : Nat) (va : Nat) (h0 : Frame w0 a0 s) (hw : 649628720 &&& w0 = 649628720) : Frame w0 a0 (State.ringFault s c r va) :=
  Frame.step _ _ _ _ _ h0 (State.ringFault_frame s c r va) hw

theorem State.fetchEntry_frame (s : State) (c : Nat) (r : Nat) : Frame 649628720 s (State.fetchEntry s c r) := by
  unfold State.fetchEntry
  try dsimp only
  repeat' first
    | with_reducible apply Frame.refl
    | with_reducible assumption
    | apply Eq.refl
    | with_reducible apply State.readVirt_step
    | (with_reducible refine Frame.of_pair (by with_reducible assumption) (State.readVirt_step _ _ _ _ _ _ _ ?_ ?_))
    | with_reducible apply State.ringFault_step
    | with_reducible apply State.setRegN_step
    | with_reducible apply State.setCtx_step
    | with_reducible apply State.emit_step
    | with_reducible apply Frame.foldl
    | with_reducible apply Frame.foldl_fst
    | split
    | with_reducible apply Frame.ite
    | intro _
    | dsimp only
theorem State.fetchEntry_step (w0 : Nat) (a0 : State) (s : State) (c : Nat) (r : Nat) (h0 : Frame w0 a0 s) (hw : 649628720 &&& w0 = 649628720) : Frame w0 a0 (State.fetchEntry s c r) :=
  Frame.step _ _ _ _ _ h0 (State.fetchEntry_frame s c r) hw

theorem State.updEntry_frame (s : State) (c : Nat) (r : Nat) (i : Word) (f : REntry → REntry) : Frame 67108864 s (State.updEntry s c r i f) := by
  unfold State.updEntry
  try dsimp only
  repeat' first
    | with_reducible apply Frame.refl
    | with_reducible assumption
    | apply Eq.refl
    | with_reducible apply State.setCtx_step
    | with_reducible apply Frame.foldl
    | with_reducible apply Frame.foldl_fst
    | split
    | with_reducible apply Frame.ite
    | intro _
    | dsimp only
theorem State.updEntry_step (w0 : Nat) (a0 : State) (s : State) (c : Nat) (r : Nat) (i : Word) (f : REntry → REntry) (h0 : Frame w0 a0 s) (hw : 67108864 &&& w0 = 67108864) : Frame w0 a0 (State.updEntry s c r i f) :=
  Frame.step _ _ _ _ _ h0 (State.updEntry_frame s c r i f) hw

theorem State.hostWait_frame (s : State) (o : Nat) : Frame 16 s (State.hostWait s o).1 := by
  unfold State.hostWait
  try dsimp only
  repeat' first
    | with_reducible apply Frame.refl
    | with_reducible assumption
    | apply Eq.refl
    | with_reducible apply State.sigTake_step
    | (with_reducible refine Frame.of_pair (by with_reducible assumption) (State.sigTake_step _ _ _ _ ?_ ?_))
    | with_reducible apply Frame.foldl
    | with_reducible apply Frame.foldl_fst
    | split
    | with_reducible apply Frame.ite
    | intro _
    | dsimp only
theorem State.hostWait_step (w0 : Nat) (a0 : State) (s : State) (o : Nat) (h0 : Frame w0 a0 s) (hw : 16 &&& w0 = 16) : Frame w0 a0 (State.hostWait s o).1 :=
  Frame.step _ _ _ _ _ h0 (State.hostWait_frame s o) hw

theorem State.grantRing_frame (s : State) (o : Nat) : Frame 67108880 s (State.grantRing s o) := by
  unfold State.grantRing
  try dsimp only
  repeat' first
    | with_reducible apply Frame.refl
    | with_reducible assumption
    | apply Eq.refl
    | with_reducible apply State.updEntry_step
    | with_reducible apply State.sigTake_step
    | (with_reducible refine Frame.of_pair (by with_reducible assumption) (State.sigTake_step _ _ _ _ ?_ ?_))
    | with_reducible apply Frame.foldl
    | with_reducible apply Frame.foldl_fst
    | split
    | with_reducible apply Frame.ite
    | intro _
    | dsimp only
theorem State.grantRing_step (w0 : Nat) (a0 : State) (s : State) (o : Nat) (h0 : Frame w0 a0 s) (hw : 67108880 &&& w0 = 67108880) : Frame w0 a0 (State.grantRing s o) :=
  Frame.step _ _ _ _ _ h0 (State.grantRing_frame s o) hw

theorem State.pollFence_frame (s : State) (c : Nat) (e : REntry) : Frame 649628720 s (State.pollFence s c e) := by
  unfold State.pollFence
  try dsimp only
  repeat' first
    | with_reducible apply Frame.refl
    | with_reducible assumption
    | apply Eq.refl
    | with_reducible apply State.readVirt_step
    | (with_reducible refine Frame.of_pair (by with_reducible assumption) (State.readVirt_step _ _ _ _ _ _ _ ?_ ?_))
    | with_reducible apply State.ringFault_step
    | with_reducible apply State.updEntry_step
    | with_reducible apply Frame.foldl
    | with_reducible apply Frame.foldl_fst
    | split
    | with_reducible apply Frame.ite
    | intro _
    | dsimp only
theorem State.pollFence_step (w0 : Nat) (a0 : State) (s : State) (c : Nat) (e : REntry) (h0 : Frame w0 a0 s) (hw : 649628720 &&& w0 = 649628720) : Frame w0 a0 (State.pollFence s c e) :=
  Frame.step _ _ _ _ _ h0 (State.pollFence_frame s c e) hw

theorem State.entryTask_frame (s : State) (c : Nat) (e : REntry) : Frame 649628720 s (State.entryTask s c e) := by
  unfold State.entryTask
  try dsimp only
  repeat' first
    | with_reducible apply Frame.refl
    | with_reducible assumption
    | apply Eq.refl
    | with_reducible apply State.updEntry_step
    | with_reducible apply State.setRegN_step
    | with_reducible apply State.taskGo_step
    | with_reducible apply State.setTask_step
    | with_reducible apply Frame.foldl
    | with_reducible apply Frame.foldl_fst
    | split
    | with_reducible apply Frame.ite
    | intro _
    | dsimp only
theorem State.entryTask_step (w0 : Nat) (a0 : State) (s : State) (c : Nat) (e : REntry) (h0 : Frame w0 a0 s) (hw : 649628720 &&& w0 = 649628720) : Frame w0 a0 (State.entryTask s c e) :=
  Frame.step _ _ _ _ _ h0 (State.entryTask_frame s c e) hw

theorem State.completeEntry_frame (s : State) (c : Nat) (r : Nat) (i : Word) : Frame 102237236 s (State.completeEntry s c r i) := by
  unfold State.completeEntry
  try dsimp only
  repeat' first
    | with_reducible apply Frame.refl
    | with_reducible assumption
    | apply Eq.refl
    | with_reducible apply State.count_step
    | with_reducible apply State.setCtx_step
    | with_reducible apply State.settle_step
    | with_reducible apply State.useFree_step
    | with_reducible apply Frame.foldl
    | with_reducible apply Frame.foldl_fst
    | split
    | with_reducible apply Frame.ite
    | intro _
    | dsimp only
theorem State.completeEntry_step (w0 : Nat) (a0 : State) (s : State) (c : Nat) (r : Nat) (i : Word) (h0 : Frame w0 a0 s) (hw : 102237236 &&& w0 = 102237236) : Frame w0 a0 (State.completeEntry s c r i) :=
  Frame.step _ _ _ _ _ h0 (State.completeEntry_frame s c r i) hw

theorem State.cancelEntry_frame (s : State) (c : Nat) (e : REntry) : Frame 649628720 s (State.cancelEntry s c e) := by
  unfold State.cancelEntry
  try dsimp only
  repeat' first
    | with_reducible apply Frame.refl
    | with_reducible assumption
    | apply Eq.refl
    | with_reducible apply State.cancelTask_step
    | with_reducible apply State.updEntry_step
    | with_reducible apply Frame.foldl
    | with_reducible apply Frame.foldl_fst
    | split
    | with_reducible apply Frame.ite
    | intro _
    | dsimp only
theorem State.cancelEntry_step (w0 : Nat) (a0 : State) (s : State) (c : Nat) (e : REntry) (h0 : Frame w0 a0 s) (hw : 649628720 &&& w0 = 649628720) : Frame w0 a0 (State.cancelEntry s c e) :=
  Frame.step _ _ _ _ _ h0 (State.cancelEntry_frame s c e) hw

theorem State.cancelWhere_frame (s : State) (c : Nat) (p : REntry → Bool) : Frame 649628720 s (State.cancelWhere s c p) := by
  unfold State.cancelWhere
  try dsimp only
  repeat' first
    | with_reducible apply Frame.refl
    | with_reducible assumption
    | apply Eq.refl
    | with_reducible apply State.cancelEntry_step
    | with_reducible apply Frame.foldl
    | with_reducible apply Frame.foldl_fst
    | split
    | with_reducible apply Frame.ite
    | intro _
    | dsimp only
theorem State.cancelWhere_step (w0 : Nat) (a0 : State) (s : State) (c : Nat) (p : REntry → Bool) (h0 : Frame w0 a0 s) (hw : 649628720 &&& w0 = 649628720) : Frame w0 a0 (State.cancelWhere s c p) :=
  Frame.step _ _ _ _ _ h0 (State.cancelWhere_frame s c p) hw

theorem State.endWaits_frame (s : State) (o : Nat) : Frame 649628720 s (State.endWaits s o) := by
  unfold State.endWaits
  try dsimp only
  repeat' first
    | with_reducible apply Frame.refl
    | with_reducible assumption
    | apply Eq.refl
    | with_reducible apply State.finishWait_step
    | with_reducible apply State.cancelTask_step
    | with_reducible apply State.updEntry_step
    | with_reducible apply Frame.foldl
    | with_reducible apply Frame.foldl_fst
    | split
    | with_reducible apply Frame.ite
    | intro _
    | dsimp only
theorem State.endWaits_step (w0 : Nat) (a0 : State) (s : State) (o : Nat) (h0 : Frame w0 a0 s) (hw : 649628720 &&& w0 = 649628720) : Frame w0 a0 (State.endWaits s o) :=
  Frame.step _ _ _ _ _ h0 (State.endWaits_frame s o) hw

theorem State.writeSigCfg_frame (s : State) (o : Nat) (v : Word) : Frame 649628720 s (State.writeSigCfg s o v) := by
  unfold State.writeSigCfg
  try dsimp only
  repeat' first
    | with_reducible apply Frame.refl
    | with_reducible assumption
    | apply Eq.refl
    | with_reducible apply State.setReg_step
    | with_reducible apply State.setRegN_step
    | with_reducible apply State.endWaits_step
    | with_reducible apply Frame.foldl
    | with_reducible apply Frame.foldl_fst
    | split
    | with_reducible apply Frame.ite
    | intro _
    | dsimp only
theorem State.writeSigCfg_step (w0 : Nat) (a0 : State) (s : State) (o : Nat) (v : Word) (h0 : Frame w0 a0 s) (hw : 649628720 &&& w0 = 649628720) : Frame w0 a0 (State.writeSigCfg s o v) :=
  Frame.step _ _ _ _ _ h0 (State.writeSigCfg_frame s o v) hw

theorem State.beginDestroy_frame (s : State) (c : Nat) : Frame 649628720 s (State.beginDestroy s c) := by
  unfold State.beginDestroy
  try dsimp only
  repeat' first
    | with_reducible apply Frame.refl
    | with_reducible assumption
    | apply Eq.refl
    | with_reducible apply State.setCtxSt_step
    | with_reducible apply State.setCtx_step
    | with_reducible apply State.cancelTask_step
    | with_reducible apply Frame.foldl
    | with_reducible apply Frame.foldl_fst
    | split
    | with_reducible apply Frame.ite
    | intro _
    | dsimp only
theorem State.beginDestroy_step (w0 : Nat) (a0 : State) (s : State) (c : Nat) (h0 : Frame w0 a0 s) (hw : 649628720 &&& w0 = 649628720) : Frame w0 a0 (State.beginDestroy s c) :=
  Frame.step _ _ _ _ _ h0 (State.beginDestroy_frame s c) hw

theorem State.dropObjects_frame (s : State) (c : Nat) : Frame 649628720 s (State.dropObjects s c) := by
  unfold State.dropObjects
  try dsimp only
  repeat' first
    | with_reducible apply Frame.refl
    | with_reducible assumption
    | apply Eq.refl
    | with_reducible apply State.disableQueue_step
    | with_reducible apply State.writeSigCfg_step
    | with_reducible apply Frame.foldl
    | with_reducible apply Frame.foldl_fst
    | split
    | with_reducible apply Frame.ite
    | intro _
    | dsimp only
theorem State.dropObjects_step (w0 : Nat) (a0 : State) (s : State) (c : Nat) (h0 : Frame w0 a0 s) (hw : 649628720 &&& w0 = 649628720) : Frame w0 a0 (State.dropObjects s c) :=
  Frame.step _ _ _ _ _ h0 (State.dropObjects_frame s c) hw

theorem State.clearCtx_frame (s : State) (c : Nat) : Frame 67108880 s (State.clearCtx s c) := by
  unfold State.clearCtx
  try dsimp only
  repeat' first
    | with_reducible apply Frame.refl
    | with_reducible assumption
    | apply Eq.refl
    | with_reducible apply State.setReg_step
    | with_reducible apply State.setCtx_step
    | with_reducible apply State.setCtxSt_step
    | with_reducible apply Frame.foldl
    | with_reducible apply Frame.foldl_fst
    | split
    | with_reducible apply Frame.ite
    | intro _
    | dsimp only
theorem State.clearCtx_step (w0 : Nat) (a0 : State) (s : State) (c : Nat) (h0 : Frame w0 a0 s) (hw : 67108880 &&& w0 = 67108880) : Frame w0 a0 (State.clearCtx s c) :=
  Frame.step _ _ _ _ _ h0 (State.clearCtx_frame s c) hw

theorem State.endDestroy_frame (s : State) (c : Nat) : Frame 653823024 s (State.endDestroy s c) := by
  unfold State.endDestroy
  try dsimp only
  repeat' first
    | with_reducible apply Frame.refl
    | with_reducible assumption
    | apply Eq.refl
    | with_reducible apply State.clearCtx_step
    | with_reducible apply State.freeAll_step
    | with_reducible apply State.dropObjects_step
    | with_reducible apply Frame.foldl
    | with_reducible apply Frame.foldl_fst
    | split
    | with_reducible apply Frame.ite
    | intro _
    | dsimp only
theorem State.endDestroy_step (w0 : Nat) (a0 : State) (s : State) (c : Nat) (h0 : Frame w0 a0 s) (hw : 653823024 &&& w0 = 653823024) : Frame w0 a0 (State.endDestroy s c) :=
  Frame.step _ _ _ _ _ h0 (State.endDestroy_frame s c) hw

end Sys2Proof.Machine
end

