-- ==== Sys2Proof/Laws/F_Terrace.lean ====
section
/-!
SUPPORT. Frames of the operations of Machine/Terrace.lean.
-/
namespace Sys2Proof.Machine

set_option linter.unusedTactic false
set_option linter.unreachableTactic false
set_option linter.unusedVariables false

theorem State.arrive_frame (s : State) (k : Nat) (i : Nat) (f : Flight) (d : Nat) : Frame 32768 s (State.arrive s k i f d) := by
  unfold State.arrive
  try dsimp only
  repeat' first
    | with_reducible apply Frame.refl
    | with_reducible assumption
    | apply Eq.refl
    | with_reducible apply State.onTile_step
    | with_reducible apply State.tileCond_step
    | with_reducible apply Frame.foldl
    | with_reducible apply Frame.foldl_fst
    | split
    | with_reducible apply Frame.ite
    | intro _
    | dsimp only
theorem State.arrive_step (w0 : Nat) (a0 : State) (s : State) (k : Nat) (i : Nat) (f : Flight) (d : Nat) (h0 : Frame w0 a0 s) (hw : 32768 &&& w0 = 32768) : Frame w0 a0 (State.arrive s k i f d) :=
  Frame.step _ _ _ _ _ h0 (State.arrive_frame s k i f d) hw

theorem State.moveToken_frame (s : State) (k : Nat) (i : Nat) (out : Nat) (k' : Nat) (i' : Nat) (f : Flight) (tok : Token) (cross : Bool) : Frame 32768 s (State.moveToken s k i out k' i' f tok cross) := by
  unfold State.moveToken
  try dsimp only
  repeat' first
    | with_reducible apply Frame.refl
    | with_reducible assumption
    | apply Eq.refl
    | with_reducible apply State.onTile_step
    | with_reducible apply State.arrive_step
    | with_reducible apply Frame.foldl
    | with_reducible apply Frame.foldl_fst
    | split
    | with_reducible apply Frame.ite
    | intro _
    | dsimp only
theorem State.moveToken_step (w0 : Nat) (a0 : State) (s : State) (k : Nat) (i : Nat) (out : Nat) (k' : Nat) (i' : Nat) (f : Flight) (tok : Token) (cross : Bool) (h0 : Frame w0 a0 s) (hw : 32768 &&& w0 = 32768) : Frame w0 a0 (State.moveToken s k i out k' i' f tok cross) :=
  Frame.step _ _ _ _ _ h0 (State.moveToken_frame s k i out k' i' f tok cross) hw

theorem State.creditBack_frame (s : State) (f : Flight) : Frame 17179869184 s (State.creditBack s f) := by
  unfold State.creditBack
  try dsimp only
  repeat' first
    | with_reducible apply Frame.refl
    | with_reducible assumption
    | apply Eq.refl
    | with_reducible apply Frame.foldl
    | with_reducible apply Frame.foldl_fst
    | split
    | with_reducible apply Frame.ite
    | with_reducible apply Frame.set_sideband
    | intro _
    | dsimp only
theorem State.creditBack_step (w0 : Nat) (a0 : State) (s : State) (f : Flight) (h0 : Frame w0 a0 s) (hw : 17179869184 &&& w0 = 17179869184) : Frame w0 a0 (State.creditBack s f) :=
  Frame.step _ _ _ _ _ h0 (State.creditBack_frame s f) hw

theorem State.gateItem_frame (s : State) (k : Nat) (i : Nat) (f : Flight) (e : SwEntry) : Frame 17215030320 s (State.gateItem s k i f e) := by
  unfold State.gateItem
  try dsimp only
  repeat' first
    | with_reducible apply Frame.refl
    | with_reducible assumption
    | apply Eq.refl
    | with_reducible apply State.creditBack_step
    | with_reducible apply State.onTile_step
    | with_reducible apply State.tileCond_step
    | with_reducible apply State.offer_step
    | (with_reducible refine Frame.of_pair (by with_reducible assumption) (State.offer_step _ _ _ _ _ ?_ ?_))
    | with_reducible apply Frame.foldl
    | with_reducible apply Frame.foldl_fst
    | split
    | with_reducible apply Frame.ite
    | intro _
    | dsimp only
theorem State.gateItem_step (w0 : Nat) (a0 : State) (s : State) (k : Nat) (i : Nat) (f : Flight) (e : SwEntry) (h0 : Frame w0 a0 s) (hw : 17215030320 &&& w0 = 17215030320) : Frame w0 a0 (State.gateItem s k i f e) :=
  Frame.step _ _ _ _ _ h0 (State.gateItem_frame s k i f e) hw

theorem State.noEntry_frame (s : State) (k : Nat) (i : Nat) (f : Flight) : Frame 32768 s (State.noEntry s k i f) := by
  unfold State.noEntry
  try dsimp only
  repeat' first
    | with_reducible apply Frame.refl
    | with_reducible assumption
    | apply Eq.refl
    | with_reducible apply State.onTile_step
    | with_reducible apply State.tileCond_step
    | with_reducible apply Frame.foldl
    | with_reducible apply Frame.foldl_fst
    | split
    | with_reducible apply Frame.ite
    | intro _
    | dsimp only
theorem State.noEntry_step (w0 : Nat) (a0 : State) (s : State) (k : Nat) (i : Nat) (f : Flight) (h0 : Frame w0 a0 s) (hw : 32768 &&& w0 = 32768) : Frame w0 a0 (State.noEntry s k i f) :=
  Frame.step _ _ _ _ _ h0 (State.noEntry_frame s k i f) hw

theorem State.hop_frame (s : State) (k : Nat) (i : Nat) (u : BitVec 560) : Frame 17215292464 s (State.hop s k i u) := by
  unfold State.hop
  try dsimp only
  repeat' first
    | with_reducible apply Frame.refl
    | with_reducible assumption
    | apply Eq.refl
    | with_reducible apply State.noEntry_step
    | with_reducible apply State.onTile_step
    | with_reducible apply State.moveToken_step
    | with_reducible apply State.toKiosk_step
    | with_reducible apply State.creditBack_step
    | with_reducible apply State.tileCond_step
    | with_reducible apply State.gateItem_step
    | with_reducible apply Frame.foldl
    | with_reducible apply Frame.foldl_fst
    | split
    | with_reducible apply Frame.ite
    | intro _
    | dsimp only
theorem State.hop_step (w0 : Nat) (a0 : State) (s : State) (k : Nat) (i : Nat) (u : BitVec 560) (h0 : Frame w0 a0 s) (hw : 17215292464 &&& w0 = 17215292464) : Frame w0 a0 (State.hop s k i u) :=
  Frame.step _ _ _ _ _ h0 (State.hop_frame s k i u) hw

theorem execTokenHop_frame (t : TileLoc) (from_ : Src) (upset : BitVec 560) (s : State) : Completes 17215292464 s (execTokenHop t from_ upset s) := by
  unfold execTokenHop
  try dsimp only
  repeat' first
    | with_reducible apply Completes.intro
    | with_reducible apply Frame.refl
    | with_reducible assumption
    | apply Eq.refl
    | with_reducible apply State.hop_step
    | with_reducible apply Frame.foldl
    | with_reducible apply Frame.foldl_fst
    | split
    | with_reducible apply Frame.ite
    | intro _
    | dsimp only
theorem execTokenHop_after (w0 : Nat) (a0 : State) (t : TileLoc) (from_ : Src) (upset : BitVec 560) (s : State) (h0 : Frame w0 a0 s) (hw : 17215292464 &&& w0 = 17215292464) : Completes w0 a0 (execTokenHop t from_ upset s) :=
  Completes.step _ _ _ _ _ h0 (execTokenHop_frame t from_ upset s) hw

theorem State.enqueue_frame (s : State) (k : Nat) (i : Nat) : Frame 49152 s (State.enqueue s k i) := by
  unfold State.enqueue
  try dsimp only
  repeat' first
    | with_reducible apply Frame.refl
    | with_reducible assumption
    | apply Eq.refl
    | with_reducible apply State.onTile_step
    | with_reducible apply State.queueEntry_step
    | with_reducible apply Frame.foldl
    | with_reducible apply Frame.foldl_fst
    | split
    | with_reducible apply Frame.ite
    | intro _
    | dsimp only
theorem State.enqueue_step (w0 : Nat) (a0 : State) (s : State) (k : Nat) (i : Nat) (h0 : Frame w0 a0 s) (hw : 49152 &&& w0 = 49152) : Frame w0 a0 (State.enqueue s k i) :=
  Frame.step _ _ _ _ _ h0 (State.enqueue_frame s k i) hw

theorem execTokenEnqueue_frame (t : TileLoc) (from_ : Src) (s : State) : Completes 49152 s (execTokenEnqueue t from_ s) := by
  unfold execTokenEnqueue
  try dsimp only
  repeat' first
    | with_reducible apply Completes.intro
    | with_reducible apply Frame.refl
    | with_reducible assumption
    | apply Eq.refl
    | with_reducible apply State.enqueue_step
    | with_reducible apply Frame.foldl
    | with_reducible apply Frame.foldl_fst
    | split
    | with_reducible apply Frame.ite
    | intro _
    | dsimp only
theorem execTokenEnqueue_after (w0 : Nat) (a0 : State) (t : TileLoc) (from_ : Src) (s : State) (h0 : Frame w0 a0 s) (hw : 49152 &&& w0 = 49152) : Completes w0 a0 (execTokenEnqueue t from_ s) :=
  Completes.step _ _ _ _ _ h0 (execTokenEnqueue_frame t from_ s) hw

theorem State.giveCredit_frame (s : State) (k : Nat) (key : Nat) : Frame 557056 s (State.giveCredit s k key) := by
  unfold State.giveCredit
  try dsimp only
  repeat' first
    | with_reducible apply Frame.refl
    | with_reducible assumption
    | apply Eq.refl
    | with_reducible apply State.onPq_step
    | with_reducible apply State.onTile_step
    | with_reducible apply Frame.foldl
    | with_reducible apply Frame.foldl_fst
    | split
    | with_reducible apply Frame.ite
    | intro _
    | dsimp only
theorem State.giveCredit_step (w0 : Nat) (a0 : State) (s : State) (k : Nat) (key : Nat) (h0 : Frame w0 a0 s) (hw : 557056 &&& w0 = 557056) : Frame w0 a0 (State.giveCredit s k key) :=
  Frame.step _ _ _ _ _ h0 (State.giveCredit_frame s k key) hw

theorem execCreditReturn_frame (t : TileLoc) (route : BitVec 10) (s : State) : Completes 17180426240 s (execCreditReturn t route s) := by
  unfold execCreditReturn
  try dsimp only
  repeat' first
    | with_reducible apply Completes.intro
    | with_reducible apply Frame.refl
    | with_reducible assumption
    | apply Eq.refl
    | with_reducible apply State.giveCredit_step
    | with_reducible apply Frame.foldl
    | with_reducible apply Frame.foldl_fst
    | split
    | with_reducible apply Frame.ite
    | with_reducible apply Frame.set_sideband
    | intro _
    | dsimp only
theorem execCreditReturn_after (w0 : Nat) (a0 : State) (t : TileLoc) (route : BitVec 10) (s : State) (h0 : Frame w0 a0 s) (hw : 17180426240 &&& w0 = 17180426240) : Completes w0 a0 (execCreditReturn t route s) :=
  Completes.step _ _ _ _ _ h0 (execCreditReturn_frame t route s) hw

theorem State.onDie_frame (s : State) (d : Nat) (f : Tile → Tile) : Frame 32768 s (State.onDie s d f) := by
  unfold State.onDie
  try dsimp only
  repeat' first
    | with_reducible apply Frame.refl
    | with_reducible assumption
    | apply Eq.refl
    | with_reducible exact fun c => Tab.put_wf _ _ _ _ (State.canonical_tile _ c)
    | with_reducible exact fun c => Tab.mapV_wf _ _ _ (State.canonical_tile _ c)
    | with_reducible exact fun c => Tab.filter_wf _ _ _ (State.canonical_tile _ c)
    | with_reducible apply Frame.foldl
    | with_reducible apply Frame.foldl_fst
    | split
    | with_reducible apply Frame.ite
    | with_reducible apply Frame.set_tiles
    | intro _
    | dsimp only
theorem State.onDie_step (w0 : Nat) (a0 : State) (s : State) (d : Nat) (f : Tile → Tile) (h0 : Frame w0 a0 s) (hw : 32768 &&& w0 = 32768) : Frame w0 a0 (State.onDie s d f) :=
  Frame.step _ _ _ _ _ h0 (State.onDie_frame s d f) hw

theorem State.terSnap_frame (s : State) (d : Nat) : Frame 98304 s (State.terSnap s d) := by
  unfold State.terSnap
  try dsimp only
  repeat' first
    | with_reducible apply Frame.refl
    | with_reducible assumption
    | apply Eq.refl
    | with_reducible apply State.setDie_step
    | with_reducible apply State.onDie_step
    | with_reducible apply Frame.foldl
    | with_reducible apply Frame.foldl_fst
    | split
    | with_reducible apply Frame.ite
    | intro _
    | dsimp only
theorem State.terSnap_step (w0 : Nat) (a0 : State) (s : State) (d : Nat) (h0 : Frame w0 a0 s) (hw : 98304 &&& w0 = 98304) : Frame w0 a0 (State.terSnap s d) :=
  Frame.step _ _ _ _ _ h0 (State.terSnap_frame s d) hw

theorem State.terClear_frame (s : State) (d : Nat) : Frame 98304 s (State.terClear s d) := by
  unfold State.terClear
  try dsimp only
  repeat' first
    | with_reducible apply Frame.refl
    | with_reducible assumption
    | apply Eq.refl
    | with_reducible apply State.setDie_step
    | with_reducible apply State.onDie_step
    | with_reducible apply Frame.foldl
    | with_reducible apply Frame.foldl_fst
    | split
    | with_reducible apply Frame.ite
    | intro _
    | dsimp only
theorem State.terClear_step (w0 : Nat) (a0 : State) (s : State) (d : Nat) (h0 : Frame w0 a0 s) (hw : 98304 &&& w0 = 98304) : Frame w0 a0 (State.terClear s d) :=
  Frame.step _ _ _ _ _ h0 (State.terClear_frame s d) hw

theorem execTerCtrlSnap_frame (d : Die) (s : State) : Completes 98304 s (execTerCtrlSnap d s) := by
  unfold execTerCtrlSnap
  try dsimp only
  repeat' first
    | with_reducible apply Completes.intro
    | with_reducible apply Frame.refl
    | with_reducible assumption
    | apply Eq.refl
    | with_reducible apply State.terSnap_step
    | with_reducible apply Frame.foldl
    | with_reducible apply Frame.foldl_fst
    | split
    | with_reducible apply Frame.ite
    | intro _
    | dsimp only
theorem execTerCtrlSnap_after (w0 : Nat) (a0 : State) (d : Die) (s : State) (h0 : Frame w0 a0 s) (hw : 98304 &&& w0 = 98304) : Completes w0 a0 (execTerCtrlSnap d s) :=
  Completes.step _ _ _ _ _ h0 (execTerCtrlSnap_frame d s) hw

theorem execTerCtrlClear_frame (d : Die) (s : State) : Completes 98304 s (execTerCtrlClear d s) := by
  unfold execTerCtrlClear
  try dsimp only
  repeat' first
    | with_reducible apply Completes.intro
    | with_reducible apply Frame.refl
    | with_reducible assumption
    | apply Eq.refl
    | with_reducible apply State.terClear_step
    | with_reducible apply Frame.foldl
    | with_reducible apply Frame.foldl_fst
    | split
    | with_reducible apply Frame.ite
    | intro _
    | dsimp only
theorem execTerCtrlClear_after (w0 : Nat) (a0 : State) (d : Die) (s : State) (h0 : Frame w0 a0 s) (hw : 98304 &&& w0 = 98304) : Completes w0 a0 (execTerCtrlClear d s) :=
  Completes.step _ _ _ _ _ h0 (execTerCtrlClear_frame d s) hw

end Sys2Proof.Machine
end

