-- ==== Sys2Proof/Laws/F_PrmOps.lean ====
section
/-!
SUPPORT. Frames of the operations of Machine/PrmOps.lean.
-/
namespace Sys2Proof.Machine

set_option linter.unusedTactic false
set_option linter.unreachableTactic false
set_option linter.unusedVariables false

theorem State.sendNak_frame (s : State) (p : Nat) : Frame 1024 s (State.sendNak s p) := by
  unfold State.sendNak
  try dsimp only
  repeat' first
    | with_reducible apply Frame.refl
    | with_reducible assumption
    | apply Eq.refl
    | with_reducible apply State.send_step
    | with_reducible apply Frame.foldl
    | with_reducible apply Frame.foldl_fst
    | split
    | with_reducible apply Frame.ite
    | intro _
    | dsimp only
theorem State.sendNak_step (w0 : Nat) (a0 : State) (s : State) (p : Nat) (h0 : Frame w0 a0 s) (hw : 1024 &&& w0 = 1024) : Frame w0 a0 (State.sendNak s p) :=
  Frame.step _ _ _ _ _ h0 (State.sendNak_frame s p) hw

theorem State.resendFrom_frame (s : State) (p : Nat) (n : BitVec 12) : Frame 1072 s (State.resendFrom s p n) := by
  unfold State.resendFrom
  try dsimp only
  repeat' first
    | with_reducible apply Frame.refl
    | with_reducible assumption
    | apply Eq.refl
    | with_reducible apply State.send_step
    | with_reducible apply State.count_step
    | with_reducible apply Frame.foldl
    | with_reducible apply Frame.foldl_fst
    | split
    | with_reducible apply Frame.ite
    | intro _
    | dsimp only
theorem State.resendFrom_step (w0 : Nat) (a0 : State) (s : State) (p : Nat) (n : BitVec 12) (h0 : Frame w0 a0 s) (hw : 1072 &&& w0 = 1072) : Frame w0 a0 (State.resendFrom s p n) :=
  Frame.step _ _ _ _ _ h0 (State.resendFrom_frame s p n) hw

theorem State.sendToken_frame (s : State) (p : Nat) (t : Token) : Frame 134218800 s (State.sendToken s p t) := by
  unfold State.sendToken
  try dsimp only
  repeat' first
    | with_reducible apply Frame.refl
    | with_reducible assumption
    | apply Eq.refl
    | with_reducible apply State.count_step
    | with_reducible apply State.sendFlit_step
    | with_reducible apply Frame.foldl
    | with_reducible apply Frame.foldl_fst
    | split
    | with_reducible apply Frame.ite
    | intro _
    | dsimp only
theorem State.sendToken_step (w0 : Nat) (a0 : State) (s : State) (p : Nat) (t : Token) (h0 : Frame w0 a0 s) (hw : 134218800 &&& w0 = 134218800) : Frame w0 a0 (State.sendToken s p t) :=
  Frame.step _ _ _ _ _ h0 (State.sendToken_frame s p t) hw

theorem State.takeToken_frame (s : State) (p : Nat) (f : Flit) : Frame 1209586740 s (State.takeToken s p f) := by
  unfold State.takeToken
  try dsimp only
  repeat' first
    | with_reducible apply Frame.refl
    | with_reducible assumption
    | apply Eq.refl
    | with_reducible apply State.faultContain_step
    | with_reducible apply State.setLink_step
    | with_reducible apply Frame.foldl
    | with_reducible apply Frame.foldl_fst
    | split
    | with_reducible apply Frame.ite
    | intro _
    | dsimp only
theorem State.takeToken_step (w0 : Nat) (a0 : State) (s : State) (p : Nat) (f : Flit) (h0 : Frame w0 a0 s) (hw : 1209586740 &&& w0 = 1209586740) : Frame w0 a0 (State.takeToken s p f) :=
  Frame.step _ _ _ _ _ h0 (State.takeToken_frame s p f) hw

theorem State.forwardMsg_frame (s : State) (p : Nat) (b : BitVec 560) : Frame 134218752 s (State.forwardMsg s p b) := by
  unfold State.forwardMsg
  try dsimp only
  repeat' first
    | with_reducible apply Frame.refl
    | with_reducible assumption
    | apply Eq.refl
    | with_reducible apply State.sendFlit_step
    | with_reducible apply Frame.foldl
    | with_reducible apply Frame.foldl_fst
    | split
    | with_reducible apply Frame.ite
    | intro _
    | dsimp only
theorem State.forwardMsg_step (w0 : Nat) (a0 : State) (s : State) (p : Nat) (b : BitVec 560) (h0 : Frame w0 a0 s) (hw : 134218752 &&& w0 = 134218752) : Frame w0 a0 (State.forwardMsg s p b) :=
  Frame.step _ _ _ _ _ h0 (State.forwardMsg_frame s p b) hw

theorem State.goodFlit_frame (s : State) (p : Nat) (f : Flit) : Frame 1209586740 s (State.goodFlit s p f) := by
  unfold State.goodFlit
  try dsimp only
  repeat' first
    | with_reducible apply Frame.refl
    | with_reducible assumption
    | apply Eq.refl
    | with_reducible apply State.setReg_step
    | with_reducible apply State.setLink_step
    | with_reducible apply State.resendFrom_step
    | with_reducible apply State.forwardMsg_step
    | with_reducible apply State.takeToken_step
    | with_reducible apply Frame.foldl
    | with_reducible apply Frame.foldl_fst
    | split
    | with_reducible apply Frame.ite
    | intro _
    | dsimp only
theorem State.goodFlit_step (w0 : Nat) (a0 : State) (s : State) (p : Nat) (f : Flit) (h0 : Frame w0 a0 s) (hw : 1209586740 &&& w0 = 1209586740) : Frame w0 a0 (State.goodFlit s p f) :=
  Frame.step _ _ _ _ _ h0 (State.goodFlit_frame s p f) hw

theorem State.receiveFlit_frame (s : State) (p : Nat) (f : Flit) : Frame 1209586740 s (State.receiveFlit s p f) := by
  unfold State.receiveFlit
  try dsimp only
  repeat' first
    | with_reducible apply Frame.refl
    | with_reducible assumption
    | apply Eq.refl
    | with_reducible apply State.goodFlit_step
    | with_reducible apply State.sendNak_step
    | with_reducible apply State.count_step
    | with_reducible apply Frame.foldl
    | with_reducible apply Frame.foldl_fst
    | split
    | with_reducible apply Frame.ite
    | intro _
    | dsimp only
theorem State.receiveFlit_step (w0 : Nat) (a0 : State) (s : State) (p : Nat) (f : Flit) (h0 : Frame w0 a0 s) (hw : 1209586740 &&& w0 = 1209586740) : Frame w0 a0 (State.receiveFlit s p f) :=
  Frame.step _ _ _ _ _ h0 (State.receiveFlit_frame s p f) hw

theorem State.deliverToken_frame (s : State) (e : Nat) (t : Token) : Frame 32768 s (State.deliverToken s e t) := by
  unfold State.deliverToken
  try dsimp only
  repeat' first
    | with_reducible apply Frame.refl
    | with_reducible assumption
    | apply Eq.refl
    | with_reducible apply State.onTile_step
    | with_reducible apply Frame.foldl
    | with_reducible apply Frame.foldl_fst
    | split
    | with_reducible apply Frame.ite
    | intro _
    | dsimp only
theorem State.deliverToken_step (w0 : Nat) (a0 : State) (s : State) (e : Nat) (t : Token) (h0 : Frame w0 a0 s) (hw : 32768 &&& w0 = 32768) : Frame w0 a0 (State.deliverToken s e t) :=
  Frame.step _ _ _ _ _ h0 (State.deliverToken_frame s e t) hw

theorem State.lateToken_frame (s : State) (p : Nat) (x : RxTok) : Frame 1209586740 s (State.lateToken s p x) := by
  unfold State.lateToken
  try dsimp only
  repeat' first
    | with_reducible apply Frame.refl
    | with_reducible assumption
    | apply Eq.refl
    | with_reducible apply State.useFree_step
    | with_reducible apply State.faultContain_step
    | with_reducible apply State.count_step
    | with_reducible apply Frame.foldl
    | with_reducible apply Frame.foldl_fst
    | split
    | with_reducible apply Frame.ite
    | intro _
    | dsimp only
theorem State.lateToken_step (w0 : Nat) (a0 : State) (s : State) (p : Nat) (x : RxTok) (h0 : Frame w0 a0 s) (hw : 1209586740 &&& w0 = 1209586740) : Frame w0 a0 (State.lateToken s p x) :=
  Frame.step _ _ _ _ _ h0 (State.lateToken_frame s p x) hw

theorem State.releaseToken_frame (s : State) (p : Nat) : Frame 1209586740 s (State.releaseToken s p) := by
  unfold State.releaseToken
  try dsimp only
  repeat' first
    | with_reducible apply Frame.refl
    | with_reducible assumption
    | apply Eq.refl
    | with_reducible apply State.setLink_step
    | with_reducible apply State.lateToken_step
    | with_reducible apply State.faultContain_step
    | with_reducible apply State.deliverToken_step
    | with_reducible apply State.sendToken_step
    | with_reducible apply Frame.foldl
    | with_reducible apply Frame.foldl_fst
    | split
    | with_reducible apply Frame.ite
    | intro _
    | dsimp only
theorem State.releaseToken_step (w0 : Nat) (a0 : State) (s : State) (p : Nat) (h0 : Frame w0 a0 s) (hw : 1209586740 &&& w0 = 1209586740) : Frame w0 a0 (State.releaseToken s p) :=
  Frame.step _ _ _ _ _ h0 (State.releaseToken_frame s p) hw

theorem State.linkDown_frame (s : State) (p : Nat) (asked : Bool) : Frame 1209586740 s (State.linkDown s p asked) := by
  unfold State.linkDown
  try dsimp only
  repeat' first
    | with_reducible apply Frame.refl
    | with_reducible assumption
    | apply Eq.refl
    | with_reducible exact fun c => Tab.put_wf _ _ _ _ (State.canonical_link _ c)
    | with_reducible exact fun c => Tab.mapV_wf _ _ _ (State.canonical_link _ c)
    | with_reducible exact fun c => Tab.filter_wf _ _ _ (State.canonical_link _ c)
    | with_reducible apply State.setReg_step
    | with_reducible apply State.setLink_step
    | with_reducible apply State.emit_step
    | with_reducible apply State.startContain_step
    | with_reducible apply Frame.foldl
    | with_reducible apply Frame.foldl_fst
    | split
    | with_reducible apply Frame.ite
    | (with_reducible apply Frame.set_grp; rotate_left; apply Eq.refl; apply Eq.refl)
    | with_reducible apply Frame.set_grp'
    | intro _
    | dsimp only
theorem State.linkDown_step (w0 : Nat) (a0 : State) (s : State) (p : Nat) (asked : Bool) (h0 : Frame w0 a0 s) (hw : 1209586740 &&& w0 = 1209586740) : Frame w0 a0 (State.linkDown s p asked) :=
  Frame.step _ _ _ _ _ h0 (State.linkDown_frame s p asked) hw

end Sys2Proof.Machine
end

