-- ==== Sys2Proof/Laws/F_Queues.lean ====
section
/-!
SUPPORT. Frames of the operations of Machine/Queues.lean.
-/
namespace Sys2Proof.Machine

set_option linter.unusedTactic false
set_option linter.unreachableTactic false
set_option linter.unusedVariables false

theorem execPqItemOffer_frame (q : QIx) (o : Offer) (s : State) : Completes 35128368 s (execPqItemOffer q o s) := by
  unfold execPqItemOffer
  try dsimp only
  repeat' first
    | with_reducible apply Completes.intro
    | with_reducible apply Frame.refl
    | with_reducible assumption
    | apply Eq.refl
    | with_reducible apply State.hostPush_step
    | with_reducible apply State.offer_step
    | (with_reducible refine Frame.of_pair (by with_reducible assumption) (State.offer_step _ _ _ _ _ ?_ ?_))
    | with_reducible apply Frame.foldl
    | with_reducible apply Frame.foldl_fst
    | split
    | with_reducible apply Frame.ite
    | intro _
    | dsimp only
theorem execPqItemOffer_after (w0 : Nat) (a0 : State) (q : QIx) (o : Offer) (s : State) (h0 : Frame w0 a0 s) (hw : 35128368 &&& w0 = 35128368) : Completes w0 a0 (execPqItemOffer q o s) :=
  Completes.step _ _ _ _ _ h0 (execPqItemOffer_frame q o s) hw

theorem State.pushGo_frame (s : State) (q : Nat) (v : BitVec 5) : Frame 35128368 s (State.pushGo s q v) := by
  unfold State.pushGo
  try dsimp only
  repeat' first
    | with_reducible apply Frame.refl
    | with_reducible assumption
    | apply Eq.refl
    | with_reducible apply State.hostPush_step
    | with_reducible apply Frame.foldl
    | with_reducible apply Frame.foldl_fst
    | split
    | with_reducible apply Frame.ite
    | intro _
    | dsimp only
theorem State.pushGo_step (w0 : Nat) (a0 : State) (s : State) (q : Nat) (v : BitVec 5) (h0 : Frame w0 a0 s) (hw : 35128368 &&& w0 = 35128368) : Frame w0 a0 (State.pushGo s q v) :=
  Frame.step _ _ _ _ _ h0 (State.pushGo_frame s q v) hw

theorem execPqPushGo_frame (q : QIx) (v : BitVec 5) (s : State) : Completes 35128368 s (execPqPushGo q v s) := by
  unfold execPqPushGo
  try dsimp only
  repeat' first
    | with_reducible apply Completes.intro
    | with_reducible apply Frame.refl
    | with_reducible assumption
    | apply Eq.refl
    | with_reducible apply State.pushGo_step
    | with_reducible apply Frame.foldl
    | with_reducible apply Frame.foldl_fst
    | split
    | with_reducible apply Frame.ite
    | intro _
    | dsimp only
theorem execPqPushGo_after (w0 : Nat) (a0 : State) (q : QIx) (v : BitVec 5) (s : State) (h0 : Frame w0 a0 s) (hw : 35128368 &&& w0 = 35128368) : Completes w0 a0 (execPqPushGo q v s) :=
  Completes.step _ _ _ _ _ h0 (execPqPushGo_frame q v s) hw

theorem execPqBackpressureAccept_frame (q : QIx) (s : State) : Completes 35128368 s (execPqBackpressureAccept q s) := by
  unfold execPqBackpressureAccept
  try dsimp only
  repeat' first
    | with_reducible apply Completes.intro
    | with_reducible apply Frame.refl
    | with_reducible assumption
    | apply Eq.refl
    | with_reducible apply State.serveHeld_step
    | with_reducible apply Frame.foldl
    | with_reducible apply Frame.foldl_fst
    | split
    | with_reducible apply Frame.ite
    | intro _
    | dsimp only
theorem execPqBackpressureAccept_after (w0 : Nat) (a0 : State) (q : QIx) (s : State) (h0 : Frame w0 a0 s) (hw : 35128368 &&& w0 = 35128368) : Completes w0 a0 (execPqBackpressureAccept q s) :=
  Completes.step _ _ _ _ _ h0 (execPqBackpressureAccept_frame q s) hw

theorem State.popRead_frame (s : State) (q : Nat) (ue : Bool) : Frame 35128496 s (State.popRead s q ue) := by
  unfold State.popRead
  try dsimp only
  repeat' first
    | with_reducible apply Frame.refl
    | with_reducible assumption
    | apply Eq.refl
    | with_reducible apply State.popWith_step
    | (with_reducible refine Frame.of_pair (by with_reducible assumption) (State.popWith_step _ _ _ _ _ ?_ ?_))
    | with_reducible apply State.onPq_step
    | with_reducible apply Frame.foldl
    | with_reducible apply Frame.foldl_fst
    | split
    | with_reducible apply Frame.ite
    | with_reducible apply Frame.set_readValue
    | intro _
    | dsimp only
theorem State.popRead_step (w0 : Nat) (a0 : State) (s : State) (q : Nat) (ue : Bool) (h0 : Frame w0 a0 s) (hw : 35128496 &&& w0 = 35128496) : Frame w0 a0 (State.popRead s q ue) :=
  Frame.step _ _ _ _ _ h0 (State.popRead_frame s q ue) hw

theorem execPqPop_frame (q : QIx) (ue : Bool) (s : State) : Completes 35128496 s (execPqPop q ue s) := by
  unfold execPqPop
  try dsimp only
  repeat' first
    | with_reducible apply Completes.intro
    | with_reducible apply Frame.refl
    | with_reducible assumption
    | apply Eq.refl
    | with_reducible apply State.popRead_step
    | with_reducible apply Frame.foldl
    | with_reducible apply Frame.foldl_fst
    | split
    | with_reducible apply Frame.ite
    | intro _
    | dsimp only
theorem execPqPop_after (w0 : Nat) (a0 : State) (q : QIx) (ue : Bool) (s : State) (h0 : Frame w0 a0 s) (hw : 35128496 &&& w0 = 35128496) : Completes w0 a0 (execPqPop q ue s) :=
  Completes.step _ _ _ _ _ h0 (execPqPop_frame q ue s) hw

theorem State.writePqCtrl_frame (s : State) (q : Nat) (flush : Bool) (reset : Bool) : Frame 35128368 s (State.writePqCtrl s q flush reset) := by
  unfold State.writePqCtrl
  try dsimp only
  repeat' first
    | with_reducible apply Frame.refl
    | with_reducible assumption
    | apply Eq.refl
    | with_reducible apply State.cfgIgnored_step
    | with_reducible apply State.pqResetAll_step
    | with_reducible apply State.pqFlushAll_step
    | with_reducible apply Frame.foldl
    | with_reducible apply Frame.foldl_fst
    | split
    | with_reducible apply Frame.ite
    | intro _
    | dsimp only
theorem State.writePqCtrl_step (w0 : Nat) (a0 : State) (s : State) (q : Nat) (flush : Bool) (reset : Bool) (h0 : Frame w0 a0 s) (hw : 35128368 &&& w0 = 35128368) : Frame w0 a0 (State.writePqCtrl s q flush reset) :=
  Frame.step _ _ _ _ _ h0 (State.writePqCtrl_frame s q flush reset) hw

theorem execPqFlush_frame (q : QIx) (s : State) : Completes 35128368 s (execPqFlush q s) := by
  unfold execPqFlush
  try dsimp only
  repeat' first
    | with_reducible apply Completes.intro
    | with_reducible apply Frame.refl
    | with_reducible assumption
    | apply Eq.refl
    | with_reducible apply State.writePqCtrl_step
    | with_reducible apply Frame.foldl
    | with_reducible apply Frame.foldl_fst
    | split
    | with_reducible apply Frame.ite
    | intro _
    | dsimp only
theorem execPqFlush_after (w0 : Nat) (a0 : State) (q : QIx) (s : State) (h0 : Frame w0 a0 s) (hw : 35128368 &&& w0 = 35128368) : Completes w0 a0 (execPqFlush q s) :=
  Completes.step _ _ _ _ _ h0 (execPqFlush_frame q s) hw

theorem execPqReset_frame (q : QIx) (s : State) : Completes 35128368 s (execPqReset q s) := by
  unfold execPqReset
  try dsimp only
  repeat' first
    | with_reducible apply Completes.intro
    | with_reducible apply Frame.refl
    | with_reducible assumption
    | apply Eq.refl
    | with_reducible apply State.writePqCtrl_step
    | with_reducible apply Frame.foldl
    | with_reducible apply Frame.foldl_fst
    | split
    | with_reducible apply Frame.ite
    | intro _
    | dsimp only
theorem execPqReset_after (w0 : Nat) (a0 : State) (q : QIx) (s : State) (h0 : Frame w0 a0 s) (hw : 35128368 &&& w0 = 35128368) : Completes w0 a0 (execPqReset q s) :=
  Completes.step _ _ _ _ _ h0 (execPqReset_frame q s) hw

theorem State.pqCfgWrite_frame (s : State) (q : Nat) (v : Word) : Frame 35128368 s (State.pqCfgWrite s q v) := by
  unfold State.pqCfgWrite
  try dsimp only
  repeat' first
    | with_reducible apply Frame.refl
    | with_reducible assumption
    | apply Eq.refl
    | with_reducible apply State.disableQueue_step
    | with_reducible apply State.writePqCfg_step
    | with_reducible apply Frame.foldl
    | with_reducible apply Frame.foldl_fst
    | split
    | with_reducible apply Frame.ite
    | intro _
    | dsimp only
theorem State.pqCfgWrite_step (w0 : Nat) (a0 : State) (s : State) (q : Nat) (v : Word) (h0 : Frame w0 a0 s) (hw : 35128368 &&& w0 = 35128368) : Frame w0 a0 (State.pqCfgWrite s q v) :=
  Frame.step _ _ _ _ _ h0 (State.pqCfgWrite_frame s q v) hw

theorem execPqEnable_frame (q : QIx) (cfg : Word) (s : State) : Completes 35128368 s (execPqEnable q cfg s) := by
  unfold execPqEnable
  try dsimp only
  repeat' first
    | with_reducible apply Completes.intro
    | with_reducible apply Frame.refl
    | with_reducible assumption
    | apply Eq.refl
    | with_reducible apply State.pqCfgWrite_step
    | with_reducible apply Frame.foldl
    | with_reducible apply Frame.foldl_fst
    | split
    | with_reducible apply Frame.ite
    | intro _
    | dsimp only
theorem execPqEnable_after (w0 : Nat) (a0 : State) (q : QIx) (cfg : Word) (s : State) (h0 : Frame w0 a0 s) (hw : 35128368 &&& w0 = 35128368) : Completes w0 a0 (execPqEnable q cfg s) :=
  Completes.step _ _ _ _ _ h0 (execPqEnable_frame q cfg s) hw

theorem execPqDisable_frame (q : QIx) (s : State) : Completes 35128368 s (execPqDisable q s) := by
  unfold execPqDisable
  try dsimp only
  repeat' first
    | with_reducible apply Completes.intro
    | with_reducible apply Frame.refl
    | with_reducible assumption
    | apply Eq.refl
    | with_reducible apply State.pqCfgWrite_step
    | with_reducible apply Frame.foldl
    | with_reducible apply Frame.foldl_fst
    | split
    | with_reducible apply Frame.ite
    | intro _
    | dsimp only
theorem execPqDisable_after (w0 : Nat) (a0 : State) (q : QIx) (s : State) (h0 : Frame w0 a0 s) (hw : 35128368 &&& w0 = 35128368) : Completes w0 a0 (execPqDisable q s) :=
  Completes.step _ _ _ _ _ h0 (execPqDisable_frame q s) hw

theorem State.ptrMismatch_frame (s : State) (q : Nat) (cs : List (BitVec 16 × BitVec 16)) : Frame 35128368 s (State.ptrMismatch s q cs) := by
  unfold State.ptrMismatch
  try dsimp only
  repeat' first
    | with_reducible apply Frame.refl
    | with_reducible assumption
    | apply Eq.refl
    | with_reducible apply State.emit_step
    | with_reducible apply State.pqResetAll_step
    | with_reducible apply Frame.foldl
    | with_reducible apply Frame.foldl_fst
    | split
    | with_reducible apply Frame.ite
    | intro _
    | dsimp only
theorem State.ptrMismatch_step (w0 : Nat) (a0 : State) (s : State) (q : Nat) (cs : List (BitVec 16 × BitVec 16)) (h0 : Frame w0 a0 s) (hw : 35128368 &&& w0 = 35128368) : Frame w0 a0 (State.ptrMismatch s q cs) :=
  Frame.step _ _ _ _ _ h0 (State.ptrMismatch_frame s q cs) hw

theorem execQueuePtrMismatch_frame (q : QIx) (copies : List (BitVec 16 × BitVec 16)) (s : State) : Completes 35128368 s (execQueuePtrMismatch q copies s) := by
  unfold execQueuePtrMismatch
  try dsimp only
  repeat' first
    | with_reducible apply Completes.intro
    | with_reducible apply Frame.refl
    | with_reducible assumption
    | apply Eq.refl
    | with_reducible apply State.ptrMismatch_step
    | with_reducible apply Frame.foldl
    | with_reducible apply Frame.foldl_fst
    | split
    | with_reducible apply Frame.ite
    | intro _
    | dsimp only
theorem execQueuePtrMismatch_after (w0 : Nat) (a0 : State) (q : QIx) (copies : List (BitVec 16 × BitVec 16)) (s : State) (h0 : Frame w0 a0 s) (hw : 35128368 &&& w0 = 35128368) : Completes w0 a0 (execQueuePtrMismatch q copies s) :=
  Completes.step _ _ _ _ _ h0 (execQueuePtrMismatch_frame q copies s) hw

theorem State.sinkDeliver_frame (s : State) (q : Nat) (ue : Bool) : Frame 35161136 s (State.sinkDeliver s q ue) := by
  unfold State.sinkDeliver
  try dsimp only
  repeat' first
    | with_reducible apply Frame.refl
    | with_reducible assumption
    | apply Eq.refl
    | with_reducible apply State.popWith_step
    | (with_reducible refine Frame.of_pair (by with_reducible assumption) (State.popWith_step _ _ _ _ _ ?_ ?_))
    | with_reducible apply State.pqLost_step
    | with_reducible apply State.onPq_step
    | with_reducible apply State.onTile_step
    | with_reducible apply Frame.foldl
    | with_reducible apply Frame.foldl_fst
    | split
    | with_reducible apply Frame.ite
    | intro _
    | dsimp only
theorem State.sinkDeliver_step (w0 : Nat) (a0 : State) (s : State) (q : Nat) (ue : Bool) (h0 : Frame w0 a0 s) (hw : 35161136 &&& w0 = 35161136) : Frame w0 a0 (State.sinkDeliver s q ue) :=
  Frame.step _ _ _ _ _ h0 (State.sinkDeliver_frame s q ue) hw

theorem execSink1Delivery_frame (q : QIx) (ue : Bool) (s : State) : Completes 35161136 s (execSink1Delivery q ue s) := by
  unfold execSink1Delivery
  try dsimp only
  repeat' first
    | with_reducible apply Completes.intro
    | with_reducible apply Frame.refl
    | with_reducible assumption
    | apply Eq.refl
    | with_reducible apply State.sinkDeliver_step
    | with_reducible apply Frame.foldl
    | with_reducible apply Frame.foldl_fst
    | split
    | with_reducible apply Frame.ite
    | intro _
    | dsimp only
theorem execSink1Delivery_after (w0 : Nat) (a0 : State) (q : QIx) (ue : Bool) (s : State) (h0 : Frame w0 a0 s) (hw : 35161136 &&& w0 = 35161136) : Completes w0 a0 (execSink1Delivery q ue s) :=
  Completes.step _ _ _ _ _ h0 (execSink1Delivery_frame q ue s) hw

theorem execSink2HostWrite_frame (q : QIx) (ue : Bool) (s : State) : Completes 45616176 s (execSink2HostWrite q ue s) := by
  unfold execSink2HostWrite
  try dsimp only
  repeat' first
    | with_reducible apply Completes.intro
    | with_reducible apply Frame.refl
    | with_reducible assumption
    | apply Eq.refl
    | with_reducible refine State.orWait_frame _ _ _ _ ?_ ?_ ?_
    | with_reducible apply State.deliverHost_step
    | with_reducible apply Frame.foldl
    | with_reducible apply Frame.foldl_fst
    | split
    | with_reducible apply Frame.ite
    | intro _
    | dsimp only
theorem execSink2HostWrite_after (w0 : Nat) (a0 : State) (q : QIx) (ue : Bool) (s : State) (h0 : Frame w0 a0 s) (hw : 45616176 &&& w0 = 45616176) : Completes w0 a0 (execSink2HostWrite q ue s) :=
  Completes.step _ _ _ _ _ h0 (execSink2HostWrite_frame q ue s) hw

theorem execHostHeadWrite_frame (q : QIx) (v : Word) (s : State) : Completes 16 s (execHostHeadWrite q v s) := by
  unfold execHostHeadWrite
  try dsimp only
  repeat' first
    | with_reducible apply Completes.intro
    | with_reducible apply Frame.refl
    | with_reducible assumption
    | apply Eq.refl
    | with_reducible apply State.writeHostHead_step
    | with_reducible apply Frame.foldl
    | with_reducible apply Frame.foldl_fst
    | split
    | with_reducible apply Frame.ite
    | intro _
    | dsimp only
theorem execHostHeadWrite_after (w0 : Nat) (a0 : State) (q : QIx) (v : Word) (s : State) (h0 : Frame w0 a0 s) (hw : 16 &&& w0 = 16) : Completes w0 a0 (execHostHeadWrite q v s) :=
  Completes.step _ _ _ _ _ h0 (execHostHeadWrite_frame q v s) hw

theorem execSigSignal_frame (o : SigIx) (n : BitVec 16) (s : State) : Completes 35128368 s (execSigSignal o n s) := by
  unfold execSigSignal
  try dsimp only
  repeat' first
    | with_reducible apply Completes.intro
    | with_reducible apply Frame.refl
    | with_reducible assumption
    | apply Eq.refl
    | with_reducible apply State.signal_step
    | with_reducible apply Frame.foldl
    | with_reducible apply Frame.foldl_fst
    | split
    | with_reducible apply Frame.ite
    | intro _
    | dsimp only
theorem execSigSignal_after (w0 : Nat) (a0 : State) (o : SigIx) (n : BitVec 16) (s : State) (h0 : Frame w0 a0 s) (hw : 35128368 &&& w0 = 35128368) : Completes w0 a0 (execSigSignal o n s) :=
  Completes.step _ _ _ _ _ h0 (execSigSignal_frame o n s) hw

theorem State.tryWait_frame (s : State) (o : Nat) : Frame 144 s (State.tryWait s o) := by
  unfold State.tryWait
  try dsimp only
  repeat' first
    | with_reducible apply Frame.refl
    | with_reducible assumption
    | apply Eq.refl
    | with_reducible apply State.hostWait_step
    | (with_reducible refine Frame.of_pair (by with_reducible assumption) (State.hostWait_step _ _ _ _ ?_ ?_))
    | with_reducible apply Frame.foldl
    | with_reducible apply Frame.foldl_fst
    | split
    | with_reducible apply Frame.ite
    | with_reducible apply Frame.set_readValue
    | intro _
    | dsimp only
theorem State.tryWait_step (w0 : Nat) (a0 : State) (s : State) (o : Nat) (h0 : Frame w0 a0 s) (hw : 144 &&& w0 = 144) : Frame w0 a0 (State.tryWait s o) :=
  Frame.step _ _ _ _ _ h0 (State.tryWait_frame s o) hw

theorem execSigTrywait_frame (o : SigIx) (s : State) : Completes 144 s (execSigTrywait o s) := by
  unfold execSigTrywait
  try dsimp only
  repeat' first
    | with_reducible apply Completes.intro
    | with_reducible apply Frame.refl
    | with_reducible assumption
    | apply Eq.refl
    | with_reducible apply State.tryWait_step
    | with_reducible apply Frame.foldl
    | with_reducible apply Frame.foldl_fst
    | split
    | with_reducible apply Frame.ite
    | intro _
    | dsimp only
theorem execSigTrywait_after (w0 : Nat) (a0 : State) (o : SigIx) (s : State) (h0 : Frame w0 a0 s) (hw : 144 &&& w0 = 144) : Completes w0 a0 (execSigTrywait o s) :=
  Completes.step _ _ _ _ _ h0 (execSigTrywait_frame o s) hw

theorem State.writeSigCount_frame (s : State) (o : Nat) (v : Word) : Frame 16 s (State.writeSigCount s o v) := by
  unfold State.writeSigCount
  try dsimp only
  repeat' first
    | with_reducible apply Frame.refl
    | with_reducible assumption
    | apply Eq.refl
    | with_reducible apply State.setRegN_step
    | with_reducible apply Frame.foldl
    | with_reducible apply Frame.foldl_fst
    | split
    | with_reducible apply Frame.ite
    | intro _
    | dsimp only
theorem State.writeSigCount_step (w0 : Nat) (a0 : State) (s : State) (o : Nat) (v : Word) (h0 : Frame w0 a0 s) (hw : 16 &&& w0 = 16) : Frame w0 a0 (State.writeSigCount s o v) :=
  Frame.step _ _ _ _ _ h0 (State.writeSigCount_frame s o v) hw

theorem execSigCountWrite_frame (o : SigIx) (v : Word) (s : State) : Completes 16 s (execSigCountWrite o v s) := by
  unfold execSigCountWrite
  try dsimp only
  repeat' first
    | with_reducible apply Completes.intro
    | with_reducible apply Frame.refl
    | with_reducible assumption
    | apply Eq.refl
    | with_reducible apply State.writeSigCount_step
    | with_reducible apply Frame.foldl
    | with_reducible apply Frame.foldl_fst
    | split
    | with_reducible apply Frame.ite
    | intro _
    | dsimp only
theorem execSigCountWrite_after (w0 : Nat) (a0 : State) (o : SigIx) (v : Word) (s : State) (h0 : Frame w0 a0 s) (hw : 16 &&& w0 = 16) : Completes w0 a0 (execSigCountWrite o v s) :=
  Completes.step _ _ _ _ _ h0 (execSigCountWrite_frame o v s) hw

theorem execSigCfgWrite_frame (o : SigIx) (v : Word) (s : State) : Completes 649628720 s (execSigCfgWrite o v s) := by
  unfold execSigCfgWrite
  try dsimp only
  repeat' first
    | with_reducible apply Completes.intro
    | with_reducible apply Frame.refl
    | with_reducible assumption
    | apply Eq.refl
    | with_reducible apply State.writeSigCfg_step
    | with_reducible apply Frame.foldl
    | with_reducible apply Frame.foldl_fst
    | split
    | with_reducible apply Frame.ite
    | intro _
    | dsimp only
theorem execSigCfgWrite_after (w0 : Nat) (a0 : State) (o : SigIx) (v : Word) (s : State) (h0 : Frame w0 a0 s) (hw : 649628720 &&& w0 = 649628720) : Completes w0 a0 (execSigCfgWrite o v s) :=
  Completes.step _ _ _ _ _ h0 (execSigCfgWrite_frame o v s) hw

end Sys2Proof.Machine
end

