-- ==== Sys2Proof/Laws/F_Sequencer.lean ====
section
/-!
SUPPORT. Frames of the operations of Machine/Sequencer.lean.
-/
namespace Sys2Proof.Machine

set_option linter.unusedTactic false
set_option linter.unreachableTactic false
set_option linter.unusedVariables false

theorem State.change_frame (s : State) (k : Nat) (f : Tile → Tile) : Frame 17182261248 s (State.change s k f) := by
  unfold State.change
  try dsimp only
  repeat' first
    | with_reducible apply Frame.refl
    | with_reducible assumption
    | apply Eq.refl
    | with_reducible apply State.runOne_step
    | with_reducible apply Frame.foldl
    | with_reducible apply Frame.foldl_fst
    | split
    | with_reducible apply Frame.ite
    | intro _
    | dsimp only
theorem State.change_step (w0 : Nat) (a0 : State) (s : State) (k : Nat) (f : Tile → Tile) (h0 : Frame w0 a0 s) (hw : 17182261248 &&& w0 = 17182261248) : Frame w0 a0 (State.change s k f) :=
  Frame.step _ _ _ _ _ h0 (State.change_frame s k f) hw

theorem execTNop_frame (t : TileLoc) (s : State) : Completes 17182261248 s (execTNop t s) := by
  unfold execTNop
  try dsimp only
  repeat' first
    | with_reducible apply Completes.intro
    | with_reducible apply Frame.refl
    | with_reducible assumption
    | apply Eq.refl
    | with_reducible refine State.issue_frame _ _ _ _ _ _ ?_ ?_ ?_
    | with_reducible apply State.change_step
    | with_reducible apply Frame.foldl
    | with_reducible apply Frame.foldl_fst
    | split
    | with_reducible apply Frame.ite
    | intro _
    | dsimp only
theorem execTNop_after (w0 : Nat) (a0 : State) (t : TileLoc) (s : State) (h0 : Frame w0 a0 s) (hw : 17182261248 &&& w0 = 17182261248) : Completes w0 a0 (execTNop t s) :=
  Completes.step _ _ _ _ _ h0 (execTNop_frame t s) hw

theorem execTCset_frame (t : TileLoc) (s : State) : Completes 17182261248 s (execTCset t s) := by
  unfold execTCset
  try dsimp only
  repeat' first
    | with_reducible apply Completes.intro
    | with_reducible apply Frame.refl
    | with_reducible assumption
    | apply Eq.refl
    | with_reducible refine State.issue_frame _ _ _ _ _ _ ?_ ?_ ?_
    | with_reducible apply State.change_step
    | with_reducible apply Frame.foldl
    | with_reducible apply Frame.foldl_fst
    | split
    | with_reducible apply Frame.ite
    | intro _
    | dsimp only
theorem execTCset_after (w0 : Nat) (a0 : State) (t : TileLoc) (s : State) (h0 : Frame w0 a0 s) (hw : 17182261248 &&& w0 = 17182261248) : Completes w0 a0 (execTCset t s) :=
  Completes.step _ _ _ _ _ h0 (execTCset_frame t s) hw

theorem execTLoop_frame (t : TileLoc) (s : State) : Completes 32768 s (execTLoop t s) := by
  unfold execTLoop
  try dsimp only
  repeat' first
    | with_reducible apply Completes.intro
    | with_reducible apply Frame.refl
    | with_reducible assumption
    | apply Eq.refl
    | with_reducible refine State.issue_frame _ _ _ _ _ _ ?_ ?_ ?_
    | with_reducible apply State.onTile_step
    | with_reducible apply Frame.foldl
    | with_reducible apply Frame.foldl_fst
    | split
    | with_reducible apply Frame.ite
    | intro _
    | dsimp only
theorem execTLoop_after (w0 : Nat) (a0 : State) (t : TileLoc) (s : State) (h0 : Frame w0 a0 s) (hw : 32768 &&& w0 = 32768) : Completes w0 a0 (execTLoop t s) :=
  Completes.step _ _ _ _ _ h0 (execTLoop_frame t s) hw

theorem execTJmp_frame (t : TileLoc) (s : State) : Completes 32768 s (execTJmp t s) := by
  unfold execTJmp
  try dsimp only
  repeat' first
    | with_reducible apply Completes.intro
    | with_reducible apply Frame.refl
    | with_reducible assumption
    | apply Eq.refl
    | with_reducible refine State.issue_frame _ _ _ _ _ _ ?_ ?_ ?_
    | with_reducible apply State.onTile_step
    | with_reducible apply Frame.foldl
    | with_reducible apply Frame.foldl_fst
    | split
    | with_reducible apply Frame.ite
    | intro _
    | dsimp only
theorem execTJmp_after (w0 : Nat) (a0 : State) (t : TileLoc) (s : State) (h0 : Frame w0 a0 s) (hw : 32768 &&& w0 = 32768) : Completes w0 a0 (execTJmp t s) :=
  Completes.step _ _ _ _ _ h0 (execTJmp_frame t s) hw

theorem execTWaitck_frame (t : TileLoc) (s : State) : Completes 32768 s (execTWaitck t s) := by
  unfold execTWaitck
  try dsimp only
  repeat' first
    | with_reducible apply Completes.intro
    | with_reducible apply Frame.refl
    | with_reducible assumption
    | apply Eq.refl
    | with_reducible refine State.issue_frame _ _ _ _ _ _ ?_ ?_ ?_
    | with_reducible apply State.onTile_step
    | with_reducible apply Frame.foldl
    | with_reducible apply Frame.foldl_fst
    | split
    | with_reducible apply Frame.ite
    | intro _
    | dsimp only
theorem execTWaitck_after (w0 : Nat) (a0 : State) (t : TileLoc) (s : State) (h0 : Frame w0 a0 s) (hw : 32768 &&& w0 = 32768) : Completes w0 a0 (execTWaitck t s) :=
  Completes.step _ _ _ _ _ h0 (execTWaitck_frame t s) hw

theorem execTAset_frame (t : TileLoc) (s : State) : Completes 17182261248 s (execTAset t s) := by
  unfold execTAset
  try dsimp only
  repeat' first
    | with_reducible apply Completes.intro
    | with_reducible apply Frame.refl
    | with_reducible assumption
    | apply Eq.refl
    | with_reducible refine State.issue_frame _ _ _ _ _ _ ?_ ?_ ?_
    | with_reducible apply State.change_step
    | with_reducible apply Frame.foldl
    | with_reducible apply Frame.foldl_fst
    | split
    | with_reducible apply Frame.ite
    | intro _
    | dsimp only
theorem execTAset_after (w0 : Nat) (a0 : State) (t : TileLoc) (s : State) (h0 : Frame w0 a0 s) (hw : 17182261248 &&& w0 = 17182261248) : Completes w0 a0 (execTAset t s) :=
  Completes.step _ _ _ _ _ h0 (execTAset_frame t s) hw

theorem execTAadd_frame (t : TileLoc) (s : State) : Completes 17182261248 s (execTAadd t s) := by
  unfold execTAadd
  try dsimp only
  repeat' first
    | with_reducible apply Completes.intro
    | with_reducible apply Frame.refl
    | with_reducible assumption
    | apply Eq.refl
    | with_reducible refine State.issue_frame _ _ _ _ _ _ ?_ ?_ ?_
    | with_reducible apply State.change_step
    | with_reducible apply Frame.foldl
    | with_reducible apply Frame.foldl_fst
    | split
    | with_reducible apply Frame.ite
    | intro _
    | dsimp only
theorem execTAadd_after (w0 : Nat) (a0 : State) (t : TileLoc) (s : State) (h0 : Frame w0 a0 s) (hw : 17182261248 &&& w0 = 17182261248) : Completes w0 a0 (execTAadd t s) :=
  Completes.step _ _ _ _ _ h0 (execTAadd_frame t s) hw

theorem execTRset_frame (t : TileLoc) (s : State) : Completes 17182261248 s (execTRset t s) := by
  unfold execTRset
  try dsimp only
  repeat' first
    | with_reducible apply Completes.intro
    | with_reducible apply Frame.refl
    | with_reducible assumption
    | apply Eq.refl
    | with_reducible refine State.issue_frame _ _ _ _ _ _ ?_ ?_ ?_
    | with_reducible apply State.change_step
    | with_reducible apply Frame.foldl
    | with_reducible apply Frame.foldl_fst
    | split
    | with_reducible apply Frame.ite
    | intro _
    | dsimp only
theorem execTRset_after (w0 : Nat) (a0 : State) (t : TileLoc) (s : State) (h0 : Frame w0 a0 s) (hw : 17182261248 &&& w0 = 17182261248) : Completes w0 a0 (execTRset t s) :=
  Completes.step _ _ _ _ _ h0 (execTRset_frame t s) hw

theorem State.waitqRun_frame (s : State) (k : Nat) (q : Nat) (n : Nat) : Frame 17182261248 s (State.waitqRun s k q n) := by
  unfold State.waitqRun
  try dsimp only
  repeat' first
    | with_reducible apply Frame.refl
    | with_reducible assumption
    | apply Eq.refl
    | with_reducible apply State.change_step
    | with_reducible apply State.lacking_step
    | with_reducible apply Frame.foldl
    | with_reducible apply Frame.foldl_fst
    | split
    | with_reducible apply Frame.ite
    | intro _
    | dsimp only
theorem State.waitqRun_step (w0 : Nat) (a0 : State) (s : State) (k : Nat) (q : Nat) (n : Nat) (h0 : Frame w0 a0 s) (hw : 17182261248 &&& w0 = 17182261248) : Frame w0 a0 (State.waitqRun s k q n) :=
  Frame.step _ _ _ _ _ h0 (State.waitqRun_frame s k q n) hw

theorem execTWaitq_frame (t : TileLoc) (s : State) : Completes 17182261248 s (execTWaitq t s) := by
  unfold execTWaitq
  try dsimp only
  repeat' first
    | with_reducible apply Completes.intro
    | with_reducible apply Frame.refl
    | with_reducible assumption
    | apply Eq.refl
    | with_reducible refine State.issue_frame _ _ _ _ _ _ ?_ ?_ ?_
    | with_reducible apply State.waitqRun_step
    | with_reducible apply Frame.foldl
    | with_reducible apply Frame.foldl_fst
    | split
    | with_reducible apply Frame.ite
    | intro _
    | dsimp only
theorem execTWaitq_after (w0 : Nat) (a0 : State) (t : TileLoc) (s : State) (h0 : Frame w0 a0 s) (hw : 17182261248 &&& w0 = 17182261248) : Completes w0 a0 (execTWaitq t s) :=
  Completes.step _ _ _ _ _ h0 (execTWaitq_frame t s) hw

theorem State.recvRun_frame (s : State) (k : Nat) (q : Nat) (b : Nat) : Frame 17182261248 s (State.recvRun s k q b) := by
  unfold State.recvRun
  try dsimp only
  repeat' first
    | with_reducible apply Frame.refl
    | with_reducible assumption
    | apply Eq.refl
    | with_reducible apply State.runOne_step
    | with_reducible apply Frame.foldl
    | with_reducible apply Frame.foldl_fst
    | split
    | with_reducible apply Frame.ite
    | intro _
    | dsimp only
theorem State.recvRun_step (w0 : Nat) (a0 : State) (s : State) (k : Nat) (q : Nat) (b : Nat) (h0 : Frame w0 a0 s) (hw : 17182261248 &&& w0 = 17182261248) : Frame w0 a0 (State.recvRun s k q b) :=
  Frame.step _ _ _ _ _ h0 (State.recvRun_frame s k q b) hw

theorem execTRecv_frame (t : TileLoc) (s : State) : Completes 17182261248 s (execTRecv t s) := by
  unfold execTRecv
  try dsimp only
  repeat' first
    | with_reducible apply Completes.intro
    | with_reducible apply Frame.refl
    | with_reducible assumption
    | apply Eq.refl
    | with_reducible refine State.issue_frame _ _ _ _ _ _ ?_ ?_ ?_
    | with_reducible apply State.recvRun_step
    | with_reducible apply Frame.foldl
    | with_reducible apply Frame.foldl_fst
    | split
    | with_reducible apply Frame.ite
    | intro _
    | dsimp only
theorem execTRecv_after (w0 : Nat) (a0 : State) (t : TileLoc) (s : State) (h0 : Frame w0 a0 s) (hw : 17182261248 &&& w0 = 17182261248) : Completes w0 a0 (execTRecv t s) :=
  Completes.step _ _ _ _ _ h0 (execTRecv_frame t s) hw

theorem State.dropRun_frame (s : State) (k : Nat) (q : Nat) (n : Nat) : Frame 17182261248 s (State.dropRun s k q n) := by
  unfold State.dropRun
  try dsimp only
  repeat' first
    | with_reducible apply Frame.refl
    | with_reducible assumption
    | apply Eq.refl
    | with_reducible apply State.runCounted_step
    | with_reducible apply Frame.foldl
    | with_reducible apply Frame.foldl_fst
    | split
    | with_reducible apply Frame.ite
    | intro _
    | dsimp only
theorem State.dropRun_step (w0 : Nat) (a0 : State) (s : State) (k : Nat) (q : Nat) (n : Nat) (h0 : Frame w0 a0 s) (hw : 17182261248 &&& w0 = 17182261248) : Frame w0 a0 (State.dropRun s k q n) :=
  Frame.step _ _ _ _ _ h0 (State.dropRun_frame s k q n) hw

theorem execTDrop_frame (t : TileLoc) (s : State) : Completes 17182261248 s (execTDrop t s) := by
  unfold execTDrop
  try dsimp only
  repeat' first
    | with_reducible apply Completes.intro
    | with_reducible apply Frame.refl
    | with_reducible assumption
    | apply Eq.refl
    | with_reducible refine State.issue_frame _ _ _ _ _ _ ?_ ?_ ?_
    | with_reducible apply State.dropRun_step
    | with_reducible apply Frame.foldl
    | with_reducible apply Frame.foldl_fst
    | split
    | with_reducible apply Frame.ite
    | intro _
    | dsimp only
theorem execTDrop_after (w0 : Nat) (a0 : State) (t : TileLoc) (s : State) (h0 : Frame w0 a0 s) (hw : 17182261248 &&& w0 = 17182261248) : Completes w0 a0 (execTDrop t s) :=
  Completes.step _ _ _ _ _ h0 (execTDrop_frame t s) hw

theorem State.sendRun_frame (s : State) (k : Nat) (b : Nat) (route : BitVec 10) : Frame 17182261248 s (State.sendRun s k b route) := by
  unfold State.sendRun
  try dsimp only
  repeat' first
    | with_reducible apply Frame.refl
    | with_reducible assumption
    | apply Eq.refl
    | with_reducible apply State.runOne_step
    | with_reducible apply Frame.foldl
    | with_reducible apply Frame.foldl_fst
    | split
    | with_reducible apply Frame.ite
    | intro _
    | dsimp only
theorem State.sendRun_step (w0 : Nat) (a0 : State) (s : State) (k : Nat) (b : Nat) (route : BitVec 10) (h0 : Frame w0 a0 s) (hw : 17182261248 &&& w0 = 17182261248) : Frame w0 a0 (State.sendRun s k b route) :=
  Frame.step _ _ _ _ _ h0 (State.sendRun_frame s k b route) hw

theorem execTSend_frame (t : TileLoc) (s : State) : Completes 17182261248 s (execTSend t s) := by
  unfold execTSend
  try dsimp only
  repeat' first
    | with_reducible apply Completes.intro
    | with_reducible apply Frame.refl
    | with_reducible assumption
    | apply Eq.refl
    | with_reducible refine State.issue_frame _ _ _ _ _ _ ?_ ?_ ?_
    | with_reducible apply State.sendRun_step
    | with_reducible apply Frame.foldl
    | with_reducible apply Frame.foldl_fst
    | split
    | with_reducible apply Frame.ite
    | intro _
    | dsimp only
theorem execTSend_after (w0 : Nat) (a0 : State) (t : TileLoc) (s : State) (h0 : Frame w0 a0 s) (hw : 17182261248 &&& w0 = 17182261248) : Completes w0 a0 (execTSend t s) :=
  Completes.step _ _ _ _ _ h0 (execTSend_frame t s) hw

theorem State.fwdRun_frame (s : State) (k : Nat) (q : Nat) (n : Nat) (route : BitVec 10) : Frame 17182261248 s (State.fwdRun s k q n route) := by
  unfold State.fwdRun
  try dsimp only
  repeat' first
    | with_reducible apply Frame.refl
    | with_reducible assumption
    | apply Eq.refl
    | with_reducible apply State.runCounted_step
    | with_reducible apply Frame.foldl
    | with_reducible apply Frame.foldl_fst
    | split
    | with_reducible apply Frame.ite
    | intro _
    | dsimp only
theorem State.fwdRun_step (w0 : Nat) (a0 : State) (s : State) (k : Nat) (q : Nat) (n : Nat) (route : BitVec 10) (h0 : Frame w0 a0 s) (hw : 17182261248 &&& w0 = 17182261248) : Frame w0 a0 (State.fwdRun s k q n route) :=
  Frame.step _ _ _ _ _ h0 (State.fwdRun_frame s k q n route) hw

theorem execTFwd_frame (t : TileLoc) (s : State) : Completes 17182261248 s (execTFwd t s) := by
  unfold execTFwd
  try dsimp only
  repeat' first
    | with_reducible apply Completes.intro
    | with_reducible apply Frame.refl
    | with_reducible assumption
    | apply Eq.refl
    | with_reducible refine State.issue_frame _ _ _ _ _ _ ?_ ?_ ?_
    | with_reducible apply State.fwdRun_step
    | with_reducible apply Frame.foldl
    | with_reducible apply Frame.foldl_fst
    | split
    | with_reducible apply Frame.ite
    | intro _
    | dsimp only
theorem execTFwd_after (w0 : Nat) (a0 : State) (t : TileLoc) (s : State) (h0 : Frame w0 a0 s) (hw : 17182261248 &&& w0 = 17182261248) : Completes w0 a0 (execTFwd t s) :=
  Completes.step _ _ _ _ _ h0 (execTFwd_frame t s) hw

theorem execTPset_frame (t : TileLoc) (s : State) : Completes 17182261248 s (execTPset t s) := by
  unfold execTPset
  try dsimp only
  repeat' first
    | with_reducible apply Completes.intro
    | with_reducible apply Frame.refl
    | with_reducible assumption
    | apply Eq.refl
    | with_reducible refine State.issue_frame _ _ _ _ _ _ ?_ ?_ ?_
    | with_reducible apply State.change_step
    | with_reducible apply Frame.foldl
    | with_reducible apply Frame.foldl_fst
    | split
    | with_reducible apply Frame.ite
    | intro _
    | dsimp only
theorem execTPset_after (w0 : Nat) (a0 : State) (t : TileLoc) (s : State) (h0 : Frame w0 a0 s) (hw : 17182261248 &&& w0 = 17182261248) : Completes w0 a0 (execTPset t s) :=
  Completes.step _ _ _ _ _ h0 (execTPset_frame t s) hw

theorem execTPimm_frame (t : TileLoc) (s : State) : Completes 17182261248 s (execTPimm t s) := by
  unfold execTPimm
  try dsimp only
  repeat' first
    | with_reducible apply Completes.intro
    | with_reducible apply Frame.refl
    | with_reducible assumption
    | apply Eq.refl
    | with_reducible refine State.issue_frame _ _ _ _ _ _ ?_ ?_ ?_
    | with_reducible apply State.change_step
    | with_reducible apply Frame.foldl
    | with_reducible apply Frame.foldl_fst
    | split
    | with_reducible apply Frame.ite
    | intro _
    | dsimp only
theorem execTPimm_after (w0 : Nat) (a0 : State) (t : TileLoc) (s : State) (h0 : Frame w0 a0 s) (hw : 17182261248 &&& w0 = 17182261248) : Completes w0 a0 (execTPimm t s) :=
  Completes.step _ _ _ _ _ h0 (execTPimm_frame t s) hw

theorem execTPcnt_frame (t : TileLoc) (s : State) : Completes 17182261248 s (execTPcnt t s) := by
  unfold execTPcnt
  try dsimp only
  repeat' first
    | with_reducible apply Completes.intro
    | with_reducible apply Frame.refl
    | with_reducible assumption
    | apply Eq.refl
    | with_reducible refine State.issue_frame _ _ _ _ _ _ ?_ ?_ ?_
    | with_reducible apply State.change_step
    | with_reducible apply Frame.foldl
    | with_reducible apply Frame.foldl_fst
    | split
    | with_reducible apply Frame.ite
    | intro _
    | dsimp only
theorem execTPcnt_after (w0 : Nat) (a0 : State) (t : TileLoc) (s : State) (h0 : Frame w0 a0 s) (hw : 17182261248 &&& w0 = 17182261248) : Completes w0 a0 (execTPcnt t s) :=
  Completes.step _ _ _ _ _ h0 (execTPcnt_frame t s) hw

theorem execTPlog_frame (t : TileLoc) (s : State) : Completes 17182261248 s (execTPlog t s) := by
  unfold execTPlog
  try dsimp only
  repeat' first
    | with_reducible apply Completes.intro
    | with_reducible apply Frame.refl
    | with_reducible assumption
    | apply Eq.refl
    | with_reducible refine State.issue_frame _ _ _ _ _ _ ?_ ?_ ?_
    | with_reducible apply State.change_step
    | with_reducible apply Frame.foldl
    | with_reducible apply Frame.foldl_fst
    | split
    | with_reducible apply Frame.ite
    | intro _
    | dsimp only
theorem execTPlog_after (w0 : Nat) (a0 : State) (t : TileLoc) (s : State) (h0 : Frame w0 a0 s) (hw : 17182261248 &&& w0 = 17182261248) : Completes w0 a0 (execTPlog t s) :=
  Completes.step _ _ _ _ _ h0 (execTPlog_frame t s) hw

theorem execTSel_frame (t : TileLoc) (s : State) : Completes 17182261248 s (execTSel t s) := by
  unfold execTSel
  try dsimp only
  repeat' first
    | with_reducible apply Completes.intro
    | with_reducible apply Frame.refl
    | with_reducible assumption
    | apply Eq.refl
    | with_reducible refine State.issue_frame _ _ _ _ _ _ ?_ ?_ ?_
    | with_reducible apply State.change_step
    | with_reducible apply Frame.foldl
    | with_reducible apply Frame.foldl_fst
    | split
    | with_reducible apply Frame.ite
    | intro _
    | dsimp only
theorem execTSel_after (w0 : Nat) (a0 : State) (t : TileLoc) (s : State) (h0 : Frame w0 a0 s) (hw : 17182261248 &&& w0 = 17182261248) : Completes w0 a0 (execTSel t s) :=
  Completes.step _ _ _ _ _ h0 (execTSel_frame t s) hw

theorem execTHreq_frame (t : TileLoc) (s : State) : Completes 17182277632 s (execTHreq t s) := by
  unfold execTHreq
  try dsimp only
  repeat' first
    | with_reducible apply Completes.intro
    | with_reducible apply Frame.refl
    | with_reducible assumption
    | apply Eq.refl
    | with_reducible refine State.issue_frame _ _ _ _ _ _ ?_ ?_ ?_
    | with_reducible apply State.holdUpdate_step
    | with_reducible apply State.change_step
    | with_reducible apply Frame.foldl
    | with_reducible apply Frame.foldl_fst
    | split
    | with_reducible apply Frame.ite
    | intro _
    | dsimp only
theorem execTHreq_after (w0 : Nat) (a0 : State) (t : TileLoc) (s : State) (h0 : Frame w0 a0 s) (hw : 17182277632 &&& w0 = 17182277632) : Completes w0 a0 (execTHreq t s) :=
  Completes.step _ _ _ _ _ h0 (execTHreq_frame t s) hw

theorem State.beginStep_frame (s : State) (k : Nat) (m : BitVec 8) : Frame 17182261248 s (State.beginStep s k m) := by
  unfold State.beginStep
  try dsimp only
  repeat' first
    | with_reducible apply Frame.refl
    | with_reducible assumption
    | apply Eq.refl
    | with_reducible apply State.tileCond_step
    | with_reducible apply State.setTile_step
    | with_reducible apply State.bringBack_step
    | with_reducible apply Frame.foldl
    | with_reducible apply Frame.foldl_fst
    | split
    | with_reducible apply Frame.ite
    | intro _
    | dsimp only
theorem State.beginStep_step (w0 : Nat) (a0 : State) (s : State) (k : Nat) (m : BitVec 8) (h0 : Frame w0 a0 s) (hw : 17182261248 &&& w0 = 17182261248) : Frame w0 a0 (State.beginStep s k m) :=
  Frame.step _ _ _ _ _ h0 (State.beginStep_frame s k m) hw

theorem execTBegin_frame (t : TileLoc) (s : State) : Completes 17182261248 s (execTBegin t s) := by
  unfold execTBegin
  try dsimp only
  repeat' first
    | with_reducible apply Completes.intro
    | with_reducible apply Frame.refl
    | with_reducible assumption
    | apply Eq.refl
    | with_reducible refine State.issue_frame _ _ _ _ _ _ ?_ ?_ ?_
    | with_reducible apply State.beginStep_step
    | with_reducible apply Frame.foldl
    | with_reducible apply Frame.foldl_fst
    | split
    | with_reducible apply Frame.ite
    | intro _
    | dsimp only
theorem execTBegin_after (w0 : Nat) (a0 : State) (t : TileLoc) (s : State) (h0 : Frame w0 a0 s) (hw : 17182261248 &&& w0 = 17182261248) : Completes w0 a0 (execTBegin t s) :=
  Completes.step _ _ _ _ _ h0 (execTBegin_frame t s) hw

theorem State.bendStep_frame (s : State) (k : Nat) (m : BitVec 8) : Frame 17182261248 s (State.bendStep s k m) := by
  unfold State.bendStep
  try dsimp only
  repeat' first
    | with_reducible apply Frame.refl
    | with_reducible assumption
    | apply Eq.refl
    | with_reducible apply State.tileCond_step
    | with_reducible apply State.setTile_step
    | with_reducible apply State.bringBack_step
    | with_reducible apply Frame.foldl
    | with_reducible apply Frame.foldl_fst
    | split
    | with_reducible apply Frame.ite
    | intro _
    | dsimp only
theorem State.bendStep_step (w0 : Nat) (a0 : State) (s : State) (k : Nat) (m : BitVec 8) (h0 : Frame w0 a0 s) (hw : 17182261248 &&& w0 = 17182261248) : Frame w0 a0 (State.bendStep s k m) :=
  Frame.step _ _ _ _ _ h0 (State.bendStep_frame s k m) hw

theorem execTBend_frame (t : TileLoc) (s : State) : Completes 17182261248 s (execTBend t s) := by
  unfold execTBend
  try dsimp only
  repeat' first
    | with_reducible apply Completes.intro
    | with_reducible apply Frame.refl
    | with_reducible assumption
    | apply Eq.refl
    | with_reducible refine State.issue_frame _ _ _ _ _ _ ?_ ?_ ?_
    | with_reducible apply State.bendStep_step
    | with_reducible apply Frame.foldl
    | with_reducible apply Frame.foldl_fst
    | split
    | with_reducible apply Frame.ite
    | intro _
    | dsimp only
theorem execTBend_after (w0 : Nat) (a0 : State) (t : TileLoc) (s : State) (h0 : Frame w0 a0 s) (hw : 17182261248 &&& w0 = 17182261248) : Completes w0 a0 (execTBend t s) :=
  Completes.step _ _ _ _ _ h0 (execTBend_frame t s) hw

theorem execTHalt_frame (t : TileLoc) (s : State) : Completes 32768 s (execTHalt t s) := by
  unfold execTHalt
  try dsimp only
  repeat' first
    | with_reducible apply Completes.intro
    | with_reducible apply Frame.refl
    | with_reducible assumption
    | apply Eq.refl
    | with_reducible refine State.issue_frame _ _ _ _ _ _ ?_ ?_ ?_
    | with_reducible apply State.onTile_step
    | with_reducible apply Frame.foldl
    | with_reducible apply Frame.foldl_fst
    | split
    | with_reducible apply Frame.ite
    | intro _
    | dsimp only
theorem execTHalt_after (w0 : Nat) (a0 : State) (t : TileLoc) (s : State) (h0 : Frame w0 a0 s) (hw : 32768 &&& w0 = 32768) : Completes w0 a0 (execTHalt t s) :=
  Completes.step _ _ _ _ _ h0 (execTHalt_frame t s) hw

theorem execTileSwapComplete_frame (t : TileLoc) (s : State) : Completes 32768 s (execTileSwapComplete t s) := by
  unfold execTileSwapComplete
  try dsimp only
  repeat' first
    | with_reducible apply Completes.intro
    | with_reducible apply Frame.refl
    | with_reducible assumption
    | apply Eq.refl
    | with_reducible apply State.setTile_step
    | with_reducible apply State.tileCond_step
    | with_reducible apply Frame.foldl
    | with_reducible apply Frame.foldl_fst
    | split
    | with_reducible apply Frame.ite
    | intro _
    | dsimp only
theorem execTileSwapComplete_after (w0 : Nat) (a0 : State) (t : TileLoc) (s : State) (h0 : Frame w0 a0 s) (hw : 32768 &&& w0 = 32768) : Completes w0 a0 (execTileSwapComplete t s) :=
  Completes.step _ _ _ _ _ h0 (execTileSwapComplete_frame t s) hw

end Sys2Proof.Machine
end

