-- ==== Sys2Proof/Laws/F_Compute.lean ====
section
/-!
SUPPORT. Frames of the operations of Machine/Compute.lean.
-/
namespace Sys2Proof.Machine

set_option linter.unusedTactic false
set_option linter.unreachableTactic false
set_option linter.unusedVariables false

theorem State.reading_frame (s : State) (t : TileLoc) (w : Option Nat) (e : Ecc) (run : State → State) : ∀ w0 a0, Frame w0 a0 s → (∀ t, Frame w0 a0 t → Frame w0 a0 (run t)) → 3703856 &&& w0 = 3703856 → Frame w0 a0 (State.reading s t w e run) := by
  intro w0 a0 h hr hw
  unfold State.reading
  split
  · split
    · exact hr _ h
    · exact hr _ (Frame.step _ 3703856 _ _ _ h (State.tileRead_step _ _ _ _ _ _ (Frame.refl _ _) rfl) hw)
  · exact hr _ h

theorem State.macRun_frame (s : State) (k : Nat) (q : Nat) (n : Nat) (w4 : Bool) : Frame 17182261248 s (State.macRun s k q n w4) := by
  unfold State.macRun
  try dsimp only
  repeat' first
    | with_reducible apply Frame.refl
    | with_reducible assumption
    | apply Eq.refl
    | with_reducible apply State.runCounted_step
    | with_reducible apply Frame.foldl
    | with_reducible apply Frame.foldl_fst
    | split
    | with_reducible apply Frame.ite
    | intro _
    | dsimp only
theorem State.macRun_step (w0 : Nat) (a0 : State) (s : State) (k : Nat) (q : Nat) (n : Nat) (w4 : Bool) (h0 : Frame w0 a0 s) (hw : 17182261248 &&& w0 = 17182261248) : Frame w0 a0 (State.macRun s k q n w4) :=
  Frame.step _ _ _ _ _ h0 (State.macRun_frame s k q n w4) hw

theorem execFireMac_frame (r : TileRead) (s : State) : Completes 17183835184 s (execFireMac r s) := by
  unfold execFireMac
  try dsimp only
  repeat' first
    | with_reducible apply Completes.intro
    | with_reducible apply Frame.refl
    | with_reducible assumption
    | apply Eq.refl
    | with_reducible refine State.issue_frame _ _ _ _ _ _ ?_ ?_ ?_
    | with_reducible refine State.reading_frame _ _ _ _ _ _ _ ?_ ?_ ?_
    | with_reducible apply State.macRun_step
    | with_reducible apply Frame.foldl
    | with_reducible apply Frame.foldl_fst
    | split
    | with_reducible apply Frame.ite
    | intro _
    | dsimp only
theorem execFireMac_after (w0 : Nat) (a0 : State) (r : TileRead) (s : State) (h0 : Frame w0 a0 s) (hw : 17183835184 &&& w0 = 17183835184) : Completes w0 a0 (execFireMac r s) :=
  Completes.step _ _ _ _ _ h0 (execFireMac_frame r s) hw

theorem State.accRun_frame (s : State) (k : Nat) (q : Nat) (n : Nat) : Frame 17182261248 s (State.accRun s k q n) := by
  unfold State.accRun
  try dsimp only
  repeat' first
    | with_reducible apply Frame.refl
    | with_reducible assumption
    | apply Eq.refl
    | with_reducible apply State.runCounted_step
    | with_reducible apply Frame.foldl
    | with_reducible apply Frame.foldl_fst
    | split
    | with_reducible apply Frame.ite
    | intro _
    | dsimp only
theorem State.accRun_step (w0 : Nat) (a0 : State) (s : State) (k : Nat) (q : Nat) (n : Nat) (h0 : Frame w0 a0 s) (hw : 17182261248 &&& w0 = 17182261248) : Frame w0 a0 (State.accRun s k q n) :=
  Frame.step _ _ _ _ _ h0 (State.accRun_frame s k q n) hw

theorem execTAcc_frame (t : TileLoc) (s : State) : Completes 17182261248 s (execTAcc t s) := by
  unfold execTAcc
  try dsimp only
  repeat' first
    | with_reducible apply Completes.intro
    | with_reducible apply Frame.refl
    | with_reducible assumption
    | apply Eq.refl
    | with_reducible refine State.issue_frame _ _ _ _ _ _ ?_ ?_ ?_
    | with_reducible apply State.accRun_step
    | with_reducible apply Frame.foldl
    | with_reducible apply Frame.foldl_fst
    | split
    | with_reducible apply Frame.ite
    | intro _
    | dsimp only
theorem execTAcc_after (w0 : Nat) (a0 : State) (t : TileLoc) (s : State) (h0 : Frame w0 a0 s) (hw : 17182261248 &&& w0 = 17182261248) : Completes w0 a0 (execTAcc t s) :=
  Completes.step _ _ _ _ _ h0 (execTAcc_frame t s) hw

theorem State.drainRun_frame (s : State) (k : Nat) (route : BitVec 10) (n : Nat) (raw : Bool) : Frame 17182261248 s (State.drainRun s k route n raw) := by
  unfold State.drainRun
  try dsimp only
  repeat' first
    | with_reducible apply Frame.refl
    | with_reducible assumption
    | apply Eq.refl
    | with_reducible apply State.runCounted_step
    | with_reducible apply Frame.foldl
    | with_reducible apply Frame.foldl_fst
    | split
    | with_reducible apply Frame.ite
    | intro _
    | dsimp only
theorem State.drainRun_step (w0 : Nat) (a0 : State) (s : State) (k : Nat) (route : BitVec 10) (n : Nat) (raw : Bool) (h0 : Frame w0 a0 s) (hw : 17182261248 &&& w0 = 17182261248) : Frame w0 a0 (State.drainRun s k route n raw) :=
  Frame.step _ _ _ _ _ h0 (State.drainRun_frame s k route n raw) hw

theorem execTDrain_frame (t : TileLoc) (s : State) : Completes 17182261248 s (execTDrain t s) := by
  unfold execTDrain
  try dsimp only
  repeat' first
    | with_reducible apply Completes.intro
    | with_reducible apply Frame.refl
    | with_reducible assumption
    | apply Eq.refl
    | with_reducible refine State.issue_frame _ _ _ _ _ _ ?_ ?_ ?_
    | with_reducible apply State.drainRun_step
    | with_reducible apply Frame.foldl
    | with_reducible apply Frame.foldl_fst
    | split
    | with_reducible apply Frame.ite
    | intro _
    | dsimp only
theorem execTDrain_after (w0 : Nat) (a0 : State) (t : TileLoc) (s : State) (h0 : Frame w0 a0 s) (hw : 17182261248 &&& w0 = 17182261248) : Completes w0 a0 (execTDrain t s) :=
  Completes.step _ _ _ _ _ h0 (execTDrain_frame t s) hw

theorem State.ldscRun_frame (s : State) (k : Nat) (q : Nat) (n : Nat) : Frame 17182261248 s (State.ldscRun s k q n) := by
  unfold State.ldscRun
  try dsimp only
  repeat' first
    | with_reducible apply Frame.refl
    | with_reducible assumption
    | apply Eq.refl
    | with_reducible apply State.runCounted_step
    | with_reducible apply Frame.foldl
    | with_reducible apply Frame.foldl_fst
    | split
    | with_reducible apply Frame.ite
    | intro _
    | dsimp only
theorem State.ldscRun_step (w0 : Nat) (a0 : State) (s : State) (k : Nat) (q : Nat) (n : Nat) (h0 : Frame w0 a0 s) (hw : 17182261248 &&& w0 = 17182261248) : Frame w0 a0 (State.ldscRun s k q n) :=
  Frame.step _ _ _ _ _ h0 (State.ldscRun_frame s k q n) hw

theorem execTLdsc_frame (t : TileLoc) (s : State) : Completes 17182261248 s (execTLdsc t s) := by
  unfold execTLdsc
  try dsimp only
  repeat' first
    | with_reducible apply Completes.intro
    | with_reducible apply Frame.refl
    | with_reducible assumption
    | apply Eq.refl
    | with_reducible refine State.issue_frame _ _ _ _ _ _ ?_ ?_ ?_
    | with_reducible apply State.ldscRun_step
    | with_reducible apply Frame.foldl
    | with_reducible apply Frame.foldl_fst
    | split
    | with_reducible apply Frame.ite
    | intro _
    | dsimp only
theorem execTLdsc_after (w0 : Nat) (a0 : State) (t : TileLoc) (s : State) (h0 : Frame w0 a0 s) (hw : 17182261248 &&& w0 = 17182261248) : Completes w0 a0 (execTLdsc t s) :=
  Completes.step _ _ _ _ _ h0 (execTLdsc_frame t s) hw

theorem State.rqhRun_frame (s : State) (k : Nat) (route : BitVec 10) (n : Nat) : Frame 17182261252 s (State.rqhRun s k route n) := by
  unfold State.rqhRun
  try dsimp only
  repeat' first
    | with_reducible apply Frame.refl
    | with_reducible assumption
    | apply Eq.refl
    | with_reducible apply State.useFree_step
    | with_reducible apply State.runCounted_step
    | with_reducible apply Frame.foldl
    | with_reducible apply Frame.foldl_fst
    | split
    | with_reducible apply Frame.ite
    | intro _
    | dsimp only
theorem State.rqhRun_step (w0 : Nat) (a0 : State) (s : State) (k : Nat) (route : BitVec 10) (n : Nat) (h0 : Frame w0 a0 s) (hw : 17182261252 &&& w0 = 17182261252) : Frame w0 a0 (State.rqhRun s k route n) :=
  Frame.step _ _ _ _ _ h0 (State.rqhRun_frame s k route n) hw

theorem execTRqh_frame (r : TileRead) (s : State) : Completes 17183835188 s (execTRqh r s) := by
  unfold execTRqh
  try dsimp only
  repeat' first
    | with_reducible apply Completes.intro
    | with_reducible apply Frame.refl
    | with_reducible assumption
    | apply Eq.refl
    | with_reducible refine State.issue_frame _ _ _ _ _ _ ?_ ?_ ?_
    | with_reducible refine State.reading_frame _ _ _ _ _ _ _ ?_ ?_ ?_
    | with_reducible apply State.rqhRun_step
    | with_reducible apply Frame.foldl
    | with_reducible apply Frame.foldl_fst
    | split
    | with_reducible apply Frame.ite
    | intro _
    | dsimp only
theorem execTRqh_after (w0 : Nat) (a0 : State) (r : TileRead) (s : State) (h0 : Frame w0 a0 s) (hw : 17183835188 &&& w0 = 17183835188) : Completes w0 a0 (execTRqh r s) :=
  Completes.step _ _ _ _ _ h0 (execTRqh_frame r s) hw

theorem State.fountain_frame (s : State) (k : Nat) (mode : Nat) (q : Nat) (n : Nat) (ob : Nat) : Frame 17182261252 s (State.fountain s k mode q n ob) := by
  unfold State.fountain
  try dsimp only
  repeat' first
    | with_reducible apply Frame.refl
    | with_reducible assumption
    | apply Eq.refl
    | with_reducible apply State.useFree_step
    | with_reducible apply State.runCounted_step
    | with_reducible apply Frame.foldl
    | with_reducible apply Frame.foldl_fst
    | split
    | with_reducible apply Frame.ite
    | intro _
    | dsimp only
theorem State.fountain_step (w0 : Nat) (a0 : State) (s : State) (k : Nat) (mode : Nat) (q : Nat) (n : Nat) (ob : Nat) (h0 : Frame w0 a0 s) (hw : 17182261252 &&& w0 = 17182261252) : Frame w0 a0 (State.fountain s k mode q n ob) :=
  Frame.step _ _ _ _ _ h0 (State.fountain_frame s k mode q n ob) hw

theorem execFountain_frame (t : TileLoc) (mode : Nat) (e : Ecc) (s : State) : Frame 17183835188 s (execFountain t mode e s) := by
  unfold execFountain
  try dsimp only
  repeat' first
    | with_reducible apply Frame.refl
    | with_reducible assumption
    | apply Eq.refl
    | with_reducible refine State.issue_frame _ _ _ _ _ _ ?_ ?_ ?_
    | with_reducible refine State.reading_frame _ _ _ _ _ _ _ ?_ ?_ ?_
    | with_reducible apply State.fountain_step
    | with_reducible apply Frame.foldl
    | with_reducible apply Frame.foldl_fst
    | split
    | with_reducible apply Frame.ite
    | intro _
    | dsimp only
theorem execFountain_step (w0 : Nat) (a0 : State) (t : TileLoc) (mode : Nat) (e : Ecc) (s : State) (h0 : Frame w0 a0 s) (hw : 17183835188 &&& w0 = 17183835188) : Frame w0 a0 (execFountain t mode e s) :=
  Frame.step _ _ _ _ _ h0 (execFountain_frame t mode e s) hw

theorem execFireExp_frame (r : TileRead) (s : State) : Completes 17183835188 s (execFireExp r s) := by
  unfold execFireExp
  try dsimp only
  repeat' first
    | with_reducible apply Completes.intro
    | with_reducible apply Frame.refl
    | with_reducible assumption
    | apply Eq.refl
    | with_reducible apply execFountain_step
    | with_reducible apply Frame.foldl
    | with_reducible apply Frame.foldl_fst
    | split
    | with_reducible apply Frame.ite
    | intro _
    | dsimp only
theorem execFireExp_after (w0 : Nat) (a0 : State) (r : TileRead) (s : State) (h0 : Frame w0 a0 s) (hw : 17183835188 &&& w0 = 17183835188) : Completes w0 a0 (execFireExp r s) :=
  Completes.step _ _ _ _ _ h0 (execFireExp_frame r s) hw

theorem execFireRecip_frame (r : TileRead) (s : State) : Completes 17183835188 s (execFireRecip r s) := by
  unfold execFireRecip
  try dsimp only
  repeat' first
    | with_reducible apply Completes.intro
    | with_reducible apply Frame.refl
    | with_reducible assumption
    | apply Eq.refl
    | with_reducible apply execFountain_step
    | with_reducible apply Frame.foldl
    | with_reducible apply Frame.foldl_fst
    | split
    | with_reducible apply Frame.ite
    | intro _
    | dsimp only
theorem execFireRecip_after (w0 : Nat) (a0 : State) (r : TileRead) (s : State) (h0 : Frame w0 a0 s) (hw : 17183835188 &&& w0 = 17183835188) : Completes w0 a0 (execFireRecip r s) :=
  Completes.step _ _ _ _ _ h0 (execFireRecip_frame r s) hw

theorem execFireRsqrt_frame (r : TileRead) (s : State) : Completes 17183835188 s (execFireRsqrt r s) := by
  unfold execFireRsqrt
  try dsimp only
  repeat' first
    | with_reducible apply Completes.intro
    | with_reducible apply Frame.refl
    | with_reducible assumption
    | apply Eq.refl
    | with_reducible apply execFountain_step
    | with_reducible apply Frame.foldl
    | with_reducible apply Frame.foldl_fst
    | split
    | with_reducible apply Frame.ite
    | intro _
    | dsimp only
theorem execFireRsqrt_after (w0 : Nat) (a0 : State) (r : TileRead) (s : State) (h0 : Frame w0 a0 s) (hw : 17183835188 &&& w0 = 17183835188) : Completes w0 a0 (execFireRsqrt r s) :=
  Completes.step _ _ _ _ _ h0 (execFireRsqrt_frame r s) hw

theorem execFireSigmoid_frame (r : TileRead) (s : State) : Completes 17183835188 s (execFireSigmoid r s) := by
  unfold execFireSigmoid
  try dsimp only
  repeat' first
    | with_reducible apply Completes.intro
    | with_reducible apply Frame.refl
    | with_reducible assumption
    | apply Eq.refl
    | with_reducible apply execFountain_step
    | with_reducible apply Frame.foldl
    | with_reducible apply Frame.foldl_fst
    | split
    | with_reducible apply Frame.ite
    | intro _
    | dsimp only
theorem execFireSigmoid_after (w0 : Nat) (a0 : State) (r : TileRead) (s : State) (h0 : Frame w0 a0 s) (hw : 17183835188 &&& w0 = 17183835188) : Completes w0 a0 (execFireSigmoid r s) :=
  Completes.step _ _ _ _ _ h0 (execFireSigmoid_frame r s) hw

theorem execFireTanh_frame (r : TileRead) (s : State) : Completes 17183835188 s (execFireTanh r s) := by
  unfold execFireTanh
  try dsimp only
  repeat' first
    | with_reducible apply Completes.intro
    | with_reducible apply Frame.refl
    | with_reducible assumption
    | apply Eq.refl
    | with_reducible apply execFountain_step
    | with_reducible apply Frame.foldl
    | with_reducible apply Frame.foldl_fst
    | split
    | with_reducible apply Frame.ite
    | intro _
    | dsimp only
theorem execFireTanh_after (w0 : Nat) (a0 : State) (r : TileRead) (s : State) (h0 : Frame w0 a0 s) (hw : 17183835188 &&& w0 = 17183835188) : Completes w0 a0 (execFireTanh r s) :=
  Completes.step _ _ _ _ _ h0 (execFireTanh_frame r s) hw

theorem execFireLog2_frame (r : TileRead) (s : State) : Completes 17183835188 s (execFireLog2 r s) := by
  unfold execFireLog2
  try dsimp only
  repeat' first
    | with_reducible apply Completes.intro
    | with_reducible apply Frame.refl
    | with_reducible assumption
    | apply Eq.refl
    | with_reducible apply execFountain_step
    | with_reducible apply Frame.foldl
    | with_reducible apply Frame.foldl_fst
    | split
    | with_reducible apply Frame.ite
    | intro _
    | dsimp only
theorem execFireLog2_after (w0 : Nat) (a0 : State) (r : TileRead) (s : State) (h0 : Frame w0 a0 s) (hw : 17183835188 &&& w0 = 17183835188) : Completes w0 a0 (execFireLog2 r s) :=
  Completes.step _ _ _ _ _ h0 (execFireLog2_frame r s) hw

theorem execFireAdd_frame (r : TileRead) (s : State) : Completes 17183835188 s (execFireAdd r s) := by
  unfold execFireAdd
  try dsimp only
  repeat' first
    | with_reducible apply Completes.intro
    | with_reducible apply Frame.refl
    | with_reducible assumption
    | apply Eq.refl
    | with_reducible apply execFountain_step
    | with_reducible apply Frame.foldl
    | with_reducible apply Frame.foldl_fst
    | split
    | with_reducible apply Frame.ite
    | intro _
    | dsimp only
theorem execFireAdd_after (w0 : Nat) (a0 : State) (r : TileRead) (s : State) (h0 : Frame w0 a0 s) (hw : 17183835188 &&& w0 = 17183835188) : Completes w0 a0 (execFireAdd r s) :=
  Completes.step _ _ _ _ _ h0 (execFireAdd_frame r s) hw

theorem execFireMul_frame (r : TileRead) (s : State) : Completes 17183835188 s (execFireMul r s) := by
  unfold execFireMul
  try dsimp only
  repeat' first
    | with_reducible apply Completes.intro
    | with_reducible apply Frame.refl
    | with_reducible assumption
    | apply Eq.refl
    | with_reducible apply execFountain_step
    | with_reducible apply Frame.foldl
    | with_reducible apply Frame.foldl_fst
    | split
    | with_reducible apply Frame.ite
    | intro _
    | dsimp only
theorem execFireMul_after (w0 : Nat) (a0 : State) (r : TileRead) (s : State) (h0 : Frame w0 a0 s) (hw : 17183835188 &&& w0 = 17183835188) : Completes w0 a0 (execFireMul r s) :=
  Completes.step _ _ _ _ _ h0 (execFireMul_frame r s) hw

theorem execFireMax_frame (r : TileRead) (s : State) : Completes 17183835188 s (execFireMax r s) := by
  unfold execFireMax
  try dsimp only
  repeat' first
    | with_reducible apply Completes.intro
    | with_reducible apply Frame.refl
    | with_reducible assumption
    | apply Eq.refl
    | with_reducible apply execFountain_step
    | with_reducible apply Frame.foldl
    | with_reducible apply Frame.foldl_fst
    | split
    | with_reducible apply Frame.ite
    | intro _
    | dsimp only
theorem execFireMax_after (w0 : Nat) (a0 : State) (r : TileRead) (s : State) (h0 : Frame w0 a0 s) (hw : 17183835188 &&& w0 = 17183835188) : Completes w0 a0 (execFireMax r s) :=
  Completes.step _ _ _ _ _ h0 (execFireMax_frame r s) hw

theorem State.dwRun_frame (s : State) (k : Nat) (mode : Nat) (size : Nat) (q : Nat) (n : Nat) (ob : Nat) : Frame 17182261248 s (State.dwRun s k mode size q n ob) := by
  unfold State.dwRun
  try dsimp only
  repeat' first
    | with_reducible apply Frame.refl
    | with_reducible assumption
    | apply Eq.refl
    | with_reducible apply State.runCounted_step
    | with_reducible apply Frame.foldl
    | with_reducible apply Frame.foldl_fst
    | split
    | with_reducible apply Frame.ite
    | intro _
    | dsimp only
theorem State.dwRun_step (w0 : Nat) (a0 : State) (s : State) (k : Nat) (mode : Nat) (size : Nat) (q : Nat) (n : Nat) (ob : Nat) (h0 : Frame w0 a0 s) (hw : 17182261248 &&& w0 = 17182261248) : Frame w0 a0 (State.dwRun s k mode size q n ob) :=
  Frame.step _ _ _ _ _ h0 (State.dwRun_frame s k mode size q n ob) hw

theorem execDepthwise_frame (t : TileLoc) (mode : Nat) (size : Nat) (e : Ecc) (s : State) : Frame 17183835184 s (execDepthwise t mode size e s) := by
  unfold execDepthwise
  try dsimp only
  repeat' first
    | with_reducible apply Frame.refl
    | with_reducible assumption
    | apply Eq.refl
    | with_reducible refine State.issue_frame _ _ _ _ _ _ ?_ ?_ ?_
    | with_reducible refine State.reading_frame _ _ _ _ _ _ _ ?_ ?_ ?_
    | with_reducible apply State.dwRun_step
    | with_reducible apply Frame.foldl
    | with_reducible apply Frame.foldl_fst
    | split
    | with_reducible apply Frame.ite
    | intro _
    | dsimp only
theorem execDepthwise_step (w0 : Nat) (a0 : State) (t : TileLoc) (mode : Nat) (size : Nat) (e : Ecc) (s : State) (h0 : Frame w0 a0 s) (hw : 17183835184 &&& w0 = 17183835184) : Frame w0 a0 (execDepthwise t mode size e s) :=
  Frame.step _ _ _ _ _ h0 (execDepthwise_frame t mode size e s) hw

theorem execFireDw3_frame (r : TileRead) (s : State) : Completes 17183835184 s (execFireDw3 r s) := by
  unfold execFireDw3
  try dsimp only
  repeat' first
    | with_reducible apply Completes.intro
    | with_reducible apply Frame.refl
    | with_reducible assumption
    | apply Eq.refl
    | with_reducible apply execDepthwise_step
    | with_reducible apply Frame.foldl
    | with_reducible apply Frame.foldl_fst
    | split
    | with_reducible apply Frame.ite
    | intro _
    | dsimp only
theorem execFireDw3_after (w0 : Nat) (a0 : State) (r : TileRead) (s : State) (h0 : Frame w0 a0 s) (hw : 17183835184 &&& w0 = 17183835184) : Completes w0 a0 (execFireDw3 r s) :=
  Completes.step _ _ _ _ _ h0 (execFireDw3_frame r s) hw

theorem execFireDw5_frame (r : TileRead) (s : State) : Completes 17183835184 s (execFireDw5 r s) := by
  unfold execFireDw5
  try dsimp only
  repeat' first
    | with_reducible apply Completes.intro
    | with_reducible apply Frame.refl
    | with_reducible assumption
    | apply Eq.refl
    | with_reducible apply execDepthwise_step
    | with_reducible apply Frame.foldl
    | with_reducible apply Frame.foldl_fst
    | split
    | with_reducible apply Frame.ite
    | intro _
    | dsimp only
theorem execFireDw5_after (w0 : Nat) (a0 : State) (r : TileRead) (s : State) (h0 : Frame w0 a0 s) (hw : 17183835184 &&& w0 = 17183835184) : Completes w0 a0 (execFireDw5 r s) :=
  Completes.step _ _ _ _ _ h0 (execFireDw5_frame r s) hw

theorem State.port_frame (s : State) (k : Nat) (mode : Nat) (q : Nat) (d : Nat) (n : Nat) (bg : Bool) : Frame 17182261248 s (State.port s k mode q d n bg) := by
  unfold State.port
  try dsimp only
  repeat' first
    | with_reducible apply Frame.refl
    | with_reducible assumption
    | apply Eq.refl
    | with_reducible apply State.setTile_step
    | with_reducible apply State.runCounted_step
    | with_reducible apply Frame.foldl
    | with_reducible apply Frame.foldl_fst
    | split
    | with_reducible apply Frame.ite
    | intro _
    | dsimp only
theorem State.port_step (w0 : Nat) (a0 : State) (s : State) (k : Nat) (mode : Nat) (q : Nat) (d : Nat) (n : Nat) (bg : Bool) (h0 : Frame w0 a0 s) (hw : 17182261248 &&& w0 = 17182261248) : Frame w0 a0 (State.port s k mode q d n bg) :=
  Frame.step _ _ _ _ _ h0 (State.port_frame s k mode q d n bg) hw

theorem execCistern_frame (t : TileLoc) (mode : Nat) (e : Ecc) (s : State) : Frame 17183835184 s (execCistern t mode e s) := by
  unfold execCistern
  try dsimp only
  repeat' first
    | with_reducible apply Frame.refl
    | with_reducible assumption
    | apply Eq.refl
    | with_reducible refine State.issue_frame _ _ _ _ _ _ ?_ ?_ ?_
    | with_reducible refine State.reading_frame _ _ _ _ _ _ _ ?_ ?_ ?_
    | with_reducible apply State.port_step
    | with_reducible apply Frame.foldl
    | with_reducible apply Frame.foldl_fst
    | split
    | with_reducible apply Frame.ite
    | intro _
    | dsimp only
theorem execCistern_step (w0 : Nat) (a0 : State) (t : TileLoc) (mode : Nat) (e : Ecc) (s : State) (h0 : Frame w0 a0 s) (hw : 17183835184 &&& w0 = 17183835184) : Frame w0 a0 (execCistern t mode e s) :=
  Frame.step _ _ _ _ _ h0 (execCistern_frame t mode e s) hw

theorem execFireWrite_frame (t : TileLoc) (s : State) : Completes 17183835184 s (execFireWrite t s) := by
  unfold execFireWrite
  try dsimp only
  repeat' first
    | with_reducible apply Completes.intro
    | with_reducible apply Frame.refl
    | with_reducible assumption
    | apply Eq.refl
    | with_reducible apply execCistern_step
    | with_reducible apply Frame.foldl
    | with_reducible apply Frame.foldl_fst
    | split
    | with_reducible apply Frame.ite
    | intro _
    | dsimp only
theorem execFireWrite_after (w0 : Nat) (a0 : State) (t : TileLoc) (s : State) (h0 : Frame w0 a0 s) (hw : 17183835184 &&& w0 = 17183835184) : Completes w0 a0 (execFireWrite t s) :=
  Completes.step _ _ _ _ _ h0 (execFireWrite_frame t s) hw

theorem execFireWin0_frame (r : TileRead) (s : State) : Completes 17183835184 s (execFireWin0 r s) := by
  unfold execFireWin0
  try dsimp only
  repeat' first
    | with_reducible apply Completes.intro
    | with_reducible apply Frame.refl
    | with_reducible assumption
    | apply Eq.refl
    | with_reducible apply execCistern_step
    | with_reducible apply Frame.foldl
    | with_reducible apply Frame.foldl_fst
    | split
    | with_reducible apply Frame.ite
    | intro _
    | dsimp only
theorem execFireWin0_after (w0 : Nat) (a0 : State) (r : TileRead) (s : State) (h0 : Frame w0 a0 s) (hw : 17183835184 &&& w0 = 17183835184) : Completes w0 a0 (execFireWin0 r s) :=
  Completes.step _ _ _ _ _ h0 (execFireWin0_frame r s) hw

theorem execFireWin1_frame (r : TileRead) (s : State) : Completes 17183835184 s (execFireWin1 r s) := by
  unfold execFireWin1
  try dsimp only
  repeat' first
    | with_reducible apply Completes.intro
    | with_reducible apply Frame.refl
    | with_reducible assumption
    | apply Eq.refl
    | with_reducible apply execCistern_step
    | with_reducible apply Frame.foldl
    | with_reducible apply Frame.foldl_fst
    | split
    | with_reducible apply Frame.ite
    | intro _
    | dsimp only
theorem execFireWin1_after (w0 : Nat) (a0 : State) (r : TileRead) (s : State) (h0 : Frame w0 a0 s) (hw : 17183835184 &&& w0 = 17183835184) : Completes w0 a0 (execFireWin1 r s) :=
  Completes.step _ _ _ _ _ h0 (execFireWin1_frame r s) hw

theorem execFireRead_frame (r : TileRead) (s : State) : Completes 17183835184 s (execFireRead r s) := by
  unfold execFireRead
  try dsimp only
  repeat' first
    | with_reducible apply Completes.intro
    | with_reducible apply Frame.refl
    | with_reducible assumption
    | apply Eq.refl
    | with_reducible apply execCistern_step
    | with_reducible apply Frame.foldl
    | with_reducible apply Frame.foldl_fst
    | split
    | with_reducible apply Frame.ite
    | intro _
    | dsimp only
theorem execFireRead_after (w0 : Nat) (a0 : State) (r : TileRead) (s : State) (h0 : Frame w0 a0 s) (hw : 17183835184 &&& w0 = 17183835184) : Completes w0 a0 (execFireRead r s) :=
  Completes.step _ _ _ _ _ h0 (execFireRead_frame r s) hw

theorem State.mrdRun_frame (s : State) (k : Nat) (d : Nat) (q : Nat) (n : Nat) (bg : Bool) : Frame 17182261248 s (State.mrdRun s k d q n bg) := by
  unfold State.mrdRun
  try dsimp only
  repeat' first
    | with_reducible apply Frame.refl
    | with_reducible assumption
    | apply Eq.refl
    | with_reducible apply State.port_step
    | with_reducible apply Frame.foldl
    | with_reducible apply Frame.foldl_fst
    | split
    | with_reducible apply Frame.ite
    | intro _
    | dsimp only
theorem State.mrdRun_step (w0 : Nat) (a0 : State) (s : State) (k : Nat) (d : Nat) (q : Nat) (n : Nat) (bg : Bool) (h0 : Frame w0 a0 s) (hw : 17182261248 &&& w0 = 17182261248) : Frame w0 a0 (State.mrdRun s k d q n bg) :=
  Frame.step _ _ _ _ _ h0 (State.mrdRun_frame s k d q n bg) hw

theorem execTMrd_frame (t : TileLoc) (s : State) : Completes 17182261248 s (execTMrd t s) := by
  unfold execTMrd
  try dsimp only
  repeat' first
    | with_reducible apply Completes.intro
    | with_reducible apply Frame.refl
    | with_reducible assumption
    | apply Eq.refl
    | with_reducible refine State.issue_frame _ _ _ _ _ _ ?_ ?_ ?_
    | with_reducible apply State.mrdRun_step
    | with_reducible apply Frame.foldl
    | with_reducible apply Frame.foldl_fst
    | split
    | with_reducible apply Frame.ite
    | intro _
    | dsimp only
theorem execTMrd_after (w0 : Nat) (a0 : State) (t : TileLoc) (s : State) (h0 : Frame w0 a0 s) (hw : 17182261248 &&& w0 = 17182261248) : Completes w0 a0 (execTMrd t s) :=
  Completes.step _ _ _ _ _ h0 (execTMrd_frame t s) hw

theorem State.mwrRun_frame (s : State) (k : Nat) (d : Nat) (q : Nat) (n : Nat) (bg : Bool) : Frame 17182261248 s (State.mwrRun s k d q n bg) := by
  unfold State.mwrRun
  try dsimp only
  repeat' first
    | with_reducible apply Frame.refl
    | with_reducible assumption
    | apply Eq.refl
    | with_reducible apply State.port_step
    | with_reducible apply Frame.foldl
    | with_reducible apply Frame.foldl_fst
    | split
    | with_reducible apply Frame.ite
    | intro _
    | dsimp only
theorem State.mwrRun_step (w0 : Nat) (a0 : State) (s : State) (k : Nat) (d : Nat) (q : Nat) (n : Nat) (bg : Bool) (h0 : Frame w0 a0 s) (hw : 17182261248 &&& w0 = 17182261248) : Frame w0 a0 (State.mwrRun s k d q n bg) :=
  Frame.step _ _ _ _ _ h0 (State.mwrRun_frame s k d q n bg) hw

theorem execTMwr_frame (r : TileRead) (s : State) : Completes 17182261296 s (execTMwr r s) := by
  unfold execTMwr
  try dsimp only
  repeat' first
    | with_reducible apply Completes.intro
    | with_reducible apply Frame.refl
    | with_reducible assumption
    | apply Eq.refl
    | with_reducible refine State.issue_frame _ _ _ _ _ _ ?_ ?_ ?_
    | with_reducible apply State.mwrRun_step
    | with_reducible apply State.writeParity_step
    | with_reducible apply Frame.foldl
    | with_reducible apply Frame.foldl_fst
    | split
    | with_reducible apply Frame.ite
    | intro _
    | dsimp only
theorem execTMwr_after (w0 : Nat) (a0 : State) (r : TileRead) (s : State) (h0 : Frame w0 a0 s) (hw : 17182261296 &&& w0 = 17182261296) : Completes w0 a0 (execTMwr r s) :=
  Completes.step _ _ _ _ _ h0 (execTMwr_frame r s) hw

theorem State.jobStep_frame (s : State) (k : Nat) (i : Nat) : Frame 17182261248 s (State.jobStep s k i).1 := by
  unfold State.jobStep
  try dsimp only
  repeat' first
    | with_reducible apply Frame.refl
    | with_reducible assumption
    | apply Eq.refl
    | with_reducible apply State.bringBack_step
    | with_reducible apply State.tileCond_step
    | with_reducible apply Frame.foldl
    | with_reducible apply Frame.foldl_fst
    | split
    | with_reducible apply Frame.ite
    | intro _
    | dsimp only
theorem State.jobStep_step (w0 : Nat) (a0 : State) (s : State) (k : Nat) (i : Nat) (h0 : Frame w0 a0 s) (hw : 17182261248 &&& w0 = 17182261248) : Frame w0 a0 (State.jobStep s k i).1 :=
  Frame.step _ _ _ _ _ h0 (State.jobStep_frame s k i) hw

theorem State.jobsTick_frame (s : State) (k : Nat) : Frame 17182261248 s (State.jobsTick s k).1 := by
  unfold State.jobsTick
  try dsimp only
  repeat' first
    | with_reducible apply Frame.refl
    | with_reducible assumption
    | apply Eq.refl
    | with_reducible apply State.jobStep_step
    | (with_reducible refine Frame.of_pair (by with_reducible assumption) (State.jobStep_step _ _ _ _ _ ?_ ?_))
    | with_reducible apply State.onTile_step
    | with_reducible apply Frame.foldl
    | with_reducible apply Frame.foldl_fst
    | split
    | with_reducible apply Frame.ite
    | intro _
    | dsimp only
theorem State.jobsTick_step (w0 : Nat) (a0 : State) (s : State) (k : Nat) (h0 : Frame w0 a0 s) (hw : 17182261248 &&& w0 = 17182261248) : Frame w0 a0 (State.jobsTick s k).1 :=
  Frame.step _ _ _ _ _ h0 (State.jobsTick_frame s k) hw

theorem State.cellarFault_frame (s : State) (k : Nat) (code : Nat) (addr : Nat) (names : Nat) (d1 : Nat) : Frame 1209586740 s (State.cellarFault s k code addr names d1) := by
  unfold State.cellarFault
  try dsimp only
  repeat' first
    | with_reducible apply Frame.refl
    | with_reducible assumption
    | apply Eq.refl
    | with_reducible apply State.faultContain_step
    | with_reducible apply Frame.foldl
    | with_reducible apply Frame.foldl_fst
    | split
    | with_reducible apply Frame.ite
    | intro _
    | dsimp only
theorem State.cellarFault_step (w0 : Nat) (a0 : State) (s : State) (k : Nat) (code : Nat) (addr : Nat) (names : Nat) (d1 : Nat) (h0 : Frame w0 a0 s) (hw : 1209586740 &&& w0 = 1209586740) : Frame w0 a0 (State.cellarFault s k code addr names d1) :=
  Frame.step _ _ _ _ _ h0 (State.cellarFault_frame s k code addr names d1) hw

theorem State.deliverRead_frame (s : State) (k : Nat) (rd : HbmRead) (sgn : Bool) (ls : List Line) : Frame 32768 s (State.deliverRead s k rd sgn ls) := by
  unfold State.deliverRead
  try dsimp only
  repeat' first
    | with_reducible apply Frame.refl
    | with_reducible assumption
    | apply Eq.refl
    | with_reducible apply State.onTile_step
    | with_reducible apply Frame.foldl
    | with_reducible apply Frame.foldl_fst
    | split
    | with_reducible apply Frame.ite
    | intro _
    | dsimp only
theorem State.deliverRead_step (w0 : Nat) (a0 : State) (s : State) (k : Nat) (rd : HbmRead) (sgn : Bool) (ls : List Line) (h0 : Frame w0 a0 s) (hw : 32768 &&& w0 = 32768) : Frame w0 a0 (State.deliverRead s k rd sgn ls) :=
  Frame.step _ _ _ _ _ h0 (State.deliverRead_frame s k rd sgn ls) hw

theorem execHbmReadResponse_frame (t : TileLoc) (e : Ecc) (s : State) : Completes 1211683892 s (execHbmReadResponse t e s) := by
  unfold execHbmReadResponse
  try dsimp only
  repeat' first
    | with_reducible apply Completes.intro
    | with_reducible apply Frame.refl
    | with_reducible assumption
    | apply Eq.refl
    | with_reducible apply State.setTile_step
    | with_reducible apply State.hbmRead_step
    | (with_reducible refine Frame.of_pair (by with_reducible assumption) (State.hbmRead_step _ _ _ _ _ ?_ ?_))
    | with_reducible apply State.eccFind_step
    | with_reducible apply State.deliverRead_step
    | with_reducible apply State.cellarFault_step
    | with_reducible apply Frame.foldl
    | with_reducible apply Frame.foldl_fst
    | split
    | with_reducible apply Frame.ite
    | intro _
    | dsimp only
theorem execHbmReadResponse_after (w0 : Nat) (a0 : State) (t : TileLoc) (e : Ecc) (s : State) (h0 : Frame w0 a0 s) (hw : 1211683892 &&& w0 = 1211683892) : Completes w0 a0 (execHbmReadResponse t e s) :=
  Completes.step _ _ _ _ _ h0 (execHbmReadResponse_frame t e s) hw

theorem State.gateInRun_frame (s : State) (k : Nat) (n : Nat) (ob : Nat) : Frame 17182261248 s (State.gateInRun s k n ob) := by
  unfold State.gateInRun
  try dsimp only
  repeat' first
    | with_reducible apply Frame.refl
    | with_reducible assumption
    | apply Eq.refl
    | with_reducible apply State.runCounted_step
    | with_reducible apply Frame.foldl
    | with_reducible apply Frame.foldl_fst
    | split
    | with_reducible apply Frame.ite
    | intro _
    | dsimp only
theorem State.gateInRun_step (w0 : Nat) (a0 : State) (s : State) (k : Nat) (n : Nat) (ob : Nat) (h0 : Frame w0 a0 s) (hw : 17182261248 &&& w0 = 17182261248) : Frame w0 a0 (State.gateInRun s k n ob) :=
  Frame.step _ _ _ _ _ h0 (State.gateInRun_frame s k n ob) hw

theorem State.gateOutRun_frame (s : State) (k : Nat) (q : Nat) (n : Nat) : Frame 17182261248 s (State.gateOutRun s k q n) := by
  unfold State.gateOutRun
  try dsimp only
  repeat' first
    | with_reducible apply Frame.refl
    | with_reducible assumption
    | apply Eq.refl
    | with_reducible apply State.runCounted_step
    | with_reducible apply Frame.foldl
    | with_reducible apply Frame.foldl_fst
    | split
    | with_reducible apply Frame.ite
    | intro _
    | dsimp only
theorem State.gateOutRun_step (w0 : Nat) (a0 : State) (s : State) (k : Nat) (q : Nat) (n : Nat) (h0 : Frame w0 a0 s) (hw : 17182261248 &&& w0 = 17182261248) : Frame w0 a0 (State.gateOutRun s k q n) :=
  Frame.step _ _ _ _ _ h0 (State.gateOutRun_frame s k q n) hw

theorem execFireIn_frame (t : TileLoc) (s : State) : Completes 17182261248 s (execFireIn t s) := by
  unfold execFireIn
  try dsimp only
  repeat' first
    | with_reducible apply Completes.intro
    | with_reducible apply Frame.refl
    | with_reducible assumption
    | apply Eq.refl
    | with_reducible refine State.issue_frame _ _ _ _ _ _ ?_ ?_ ?_
    | with_reducible apply State.gateInRun_step
    | with_reducible apply Frame.foldl
    | with_reducible apply Frame.foldl_fst
    | split
    | with_reducible apply Frame.ite
    | intro _
    | dsimp only
theorem execFireIn_after (w0 : Nat) (a0 : State) (t : TileLoc) (s : State) (h0 : Frame w0 a0 s) (hw : 17182261248 &&& w0 = 17182261248) : Completes w0 a0 (execFireIn t s) :=
  Completes.step _ _ _ _ _ h0 (execFireIn_frame t s) hw

theorem execFireOut_frame (t : TileLoc) (s : State) : Completes 17182261248 s (execFireOut t s) := by
  unfold execFireOut
  try dsimp only
  repeat' first
    | with_reducible apply Completes.intro
    | with_reducible apply Frame.refl
    | with_reducible assumption
    | apply Eq.refl
    | with_reducible refine State.issue_frame _ _ _ _ _ _ ?_ ?_ ?_
    | with_reducible apply State.gateOutRun_step
    | with_reducible apply Frame.foldl
    | with_reducible apply Frame.foldl_fst
    | split
    | with_reducible apply Frame.ite
    | intro _
    | dsimp only
theorem execFireOut_after (w0 : Nat) (a0 : State) (t : TileLoc) (s : State) (h0 : Frame w0 a0 s) (hw : 17182261248 &&& w0 = 17182261248) : Completes w0 a0 (execFireOut t s) :=
  Completes.step _ _ _ _ _ h0 (execFireOut_frame t s) hw

theorem State.fireOn_frame (s : State) (k : Nat) (mode : Nat) (q : Nat) (n : Nat) (ob : Nat) (w4 : Bool) (bg : Bool) : Frame 17182261252 s (State.fireOn s k mode q n ob w4 bg) := by
  unfold State.fireOn
  try dsimp only
  repeat' first
    | with_reducible apply Frame.refl
    | with_reducible assumption
    | apply Eq.refl
    | with_reducible apply State.gateInRun_step
    | with_reducible apply State.gateOutRun_step
    | with_reducible apply State.macRun_step
    | with_reducible apply State.port_step
    | with_reducible apply State.fountain_step
    | with_reducible apply State.dwRun_step
    | with_reducible apply Frame.foldl
    | with_reducible apply Frame.foldl_fst
    | split
    | with_reducible apply Frame.ite
    | intro _
    | dsimp only
theorem State.fireOn_step (w0 : Nat) (a0 : State) (s : State) (k : Nat) (mode : Nat) (q : Nat) (n : Nat) (ob : Nat) (w4 : Bool) (bg : Bool) (h0 : Frame w0 a0 s) (hw : 17182261252 &&& w0 = 17182261252) : Frame w0 a0 (State.fireOn s k mode q n ob w4 bg) :=
  Frame.step _ _ _ _ _ h0 (State.fireOn_frame s k mode q n ob w4 bg) hw

theorem State.runOn_frame (s : State) (k : Nat) (o : TOp) : Frame 17182261252 s (State.runOn s k o) := by
  unfold State.runOn
  try dsimp only
  repeat' first
    | with_reducible apply Frame.refl
    | with_reducible assumption
    | apply Eq.refl
    | with_reducible apply State.waitqRun_step
    | with_reducible apply State.recvRun_step
    | with_reducible apply State.dropRun_step
    | with_reducible apply State.sendRun_step
    | with_reducible apply State.fwdRun_step
    | with_reducible apply State.ldscRun_step
    | with_reducible apply State.fireOn_step
    | with_reducible apply State.accRun_step
    | with_reducible apply State.drainRun_step
    | with_reducible apply State.rqhRun_step
    | with_reducible apply State.mrdRun_step
    | with_reducible apply State.mwrRun_step
    | with_reducible apply State.beginStep_step
    | with_reducible apply State.bendStep_step
    | with_reducible apply Frame.foldl
    | with_reducible apply Frame.foldl_fst
    | split
    | with_reducible apply Frame.ite
    | intro _
    | dsimp only
theorem State.runOn_step (w0 : Nat) (a0 : State) (s : State) (k : Nat) (o : TOp) (h0 : Frame w0 a0 s) (hw : 17182261252 &&& w0 = 17182261252) : Frame w0 a0 (State.runOn s k o) :=
  Frame.step _ _ _ _ _ h0 (State.runOn_frame s k o) hw

theorem State.goOn_frame (s : State) (k : Nat) : Frame 17182261252 s (State.goOn s k) := by
  unfold State.goOn
  try dsimp only
  repeat' first
    | with_reducible apply Frame.refl
    | with_reducible assumption
    | apply Eq.refl
    | with_reducible apply State.runOn_step
    | with_reducible apply Frame.foldl
    | with_reducible apply Frame.foldl_fst
    | split
    | with_reducible apply Frame.ite
    | intro _
    | dsimp only
theorem State.goOn_step (w0 : Nat) (a0 : State) (s : State) (k : Nat) (h0 : Frame w0 a0 s) (hw : 17182261252 &&& w0 = 17182261252) : Frame w0 a0 (State.goOn s k) :=
  Frame.step _ _ _ _ _ h0 (State.goOn_frame s k) hw

end Sys2Proof.Machine
end

