-- ==== Sys2Proof/Laws/F_LoadCheck.lean ====
section
/-!
SUPPORT. Frames of the operations of Machine/LoadCheck.lean.
-/
namespace Sys2Proof.Machine

set_option linter.unusedTactic false
set_option linter.unreachableTactic false
set_option linter.unusedVariables false

theorem State.imageBytes_frame (s : State) : Frame 1573936 s (State.imageBytes s).1 := by
  unfold State.imageBytes
  try dsimp only
  repeat' first
    | with_reducible apply Frame.refl
    | with_reducible assumption
    | apply Eq.refl
    | with_reducible apply State.hdgError_step
    | with_reducible apply State.physRead_step
    | (with_reducible refine Frame.of_pair (by with_reducible assumption) (State.physRead_step _ _ _ _ _ _ ?_ ?_))
    | with_reducible apply Frame.foldl
    | with_reducible apply Frame.foldl_fst
    | split
    | with_reducible apply Frame.ite
    | intro _
    | dsimp only
theorem State.imageBytes_step (w0 : Nat) (a0 : State) (s : State) (h0 : Frame w0 a0 s) (hw : 1573936 &&& w0 = 1573936) : Frame w0 a0 (State.imageBytes s).1 :=
  Frame.step _ _ _ _ _ h0 (State.imageBytes_frame s) hw

theorem State.applyPqEntry_frame (s : State) (a : Nat) (v : Word) : Frame 35128368 s (State.applyPqEntry s a v) := by
  unfold State.applyPqEntry
  try dsimp only
  repeat' first
    | with_reducible apply Frame.refl
    | with_reducible assumption
    | apply Eq.refl
    | with_reducible apply State.pqCfgWrite_step
    | with_reducible apply State.writePqSetting_step
    | with_reducible apply Frame.foldl
    | with_reducible apply Frame.foldl_fst
    | split
    | with_reducible apply Frame.ite
    | intro _
    | dsimp only
theorem State.applyPqEntry_step (w0 : Nat) (a0 : State) (s : State) (a : Nat) (v : Word) (h0 : Frame w0 a0 s) (hw : 35128368 &&& w0 = 35128368) : Frame w0 a0 (State.applyPqEntry s a v) :=
  Frame.step _ _ _ _ _ h0 (State.applyPqEntry_frame s a v) hw

theorem pqTrialSettings_frame (s : State) (i : Image) : Frame 35128368 s (pqTrialSettings s i) := by
  unfold pqTrialSettings
  try dsimp only
  repeat' first
    | with_reducible apply Frame.refl
    | with_reducible assumption
    | apply Eq.refl
    | with_reducible apply State.applyPqEntry_step
    | with_reducible apply Frame.foldl
    | with_reducible apply Frame.foldl_fst
    | split
    | with_reducible apply Frame.ite
    | intro _
    | dsimp only
theorem pqTrialSettings_step (w0 : Nat) (a0 : State) (s : State) (i : Image) (h0 : Frame w0 a0 s) (hw : 35128368 &&& w0 = 35128368) : Frame w0 a0 (pqTrialSettings s i) :=
  Frame.step _ _ _ _ _ h0 (pqTrialSettings_frame s i) hw

end Sys2Proof.Machine
end

