-- ==== Sys2Proof/Laws/F_GthOps.lean ====
section
/-!
SUPPORT. Frames of the operations of Machine/GthOps.lean.
-/
namespace Sys2Proof.Machine

set_option linter.unusedTactic false
set_option linter.unreachableTactic false
set_option linter.unusedVariables false

theorem State.writeFf_frame (s : State) (n : Nat) (c : Nat) (v : Word) : Frame 131072 s (State.writeFf s n c v) := by
  unfold State.writeFf
  try dsimp only
  repeat' first
    | with_reducible apply Frame.refl
    | with_reducible assumption
    | apply Eq.refl
    | with_reducible exact fun c => Tab.put_wf _ _ _ _ (State.canonical_cam _ c)
    | with_reducible exact fun c => Tab.mapV_wf _ _ _ (State.canonical_cam _ c)
    | with_reducible exact fun c => Tab.filter_wf _ _ _ (State.canonical_cam _ c)
    | with_reducible apply Frame.foldl
    | with_reducible apply Frame.foldl_fst
    | split
    | with_reducible apply Frame.ite
    | (with_reducible apply Frame.set_gth; rotate_left; apply Eq.refl; apply Eq.refl)
    | with_reducible apply Frame.set_gth'
    | intro _
    | dsimp only
theorem State.writeFf_step (w0 : Nat) (a0 : State) (s : State) (n : Nat) (c : Nat) (v : Word) (h0 : Frame w0 a0 s) (hw : 131072 &&& w0 = 131072) : Frame w0 a0 (State.writeFf s n c v) :=
  Frame.step _ _ _ _ _ h0 (State.writeFf_frame s n c v) hw

end Sys2Proof.Machine
end

