-- ==== Sys2Proof/Laws/F_KioskOps.lean ====
section
/-!
SUPPORT. Frames of the operations of Machine/KioskOps.lean.
-/
namespace Sys2Proof.Machine

set_option linter.unusedTactic false
set_option linter.unreachableTactic false
set_option linter.unusedVariables false

theorem State.updKiosk_frame (s : State) (h : Nat) (f : KskState → KskState) : Frame 262144 s (State.updKiosk s h f) := by
  unfold State.updKiosk
  try dsimp only
  repeat' first
    | with_reducible apply Frame.refl
    | with_reducible assumption
    | apply Eq.refl
    | with_reducible apply State.setKiosk_step
    | with_reducible apply Frame.foldl
    | with_reducible apply Frame.foldl_fst
    | split
    | with_reducible apply Frame.ite
    | intro _
    | dsimp only
theorem State.updKiosk_step (w0 : Nat) (a0 : State) (s : State) (h : Nat) (f : KskState → KskState) (h0 : Frame w0 a0 s) (hw : 262144 &&& w0 = 262144) : Frame w0 a0 (State.updKiosk s h f) :=
  Frame.step _ _ _ _ _ h0 (State.updKiosk_frame s h f) hw

theorem State.kskEnter_frame (s : State) (h : Nat) (b : W48) : Frame 262144 s (State.kskEnter s h b) := by
  unfold State.kskEnter
  try dsimp only
  repeat' first
    | with_reducible apply Frame.refl
    | with_reducible assumption
    | apply Eq.refl
    | with_reducible apply State.updKiosk_step
    | with_reducible apply Frame.foldl
    | with_reducible apply Frame.foldl_fst
    | split
    | with_reducible apply Frame.ite
    | intro _
    | dsimp only
theorem State.kskEnter_step (w0 : Nat) (a0 : State) (s : State) (h : Nat) (b : W48) (h0 : Frame w0 a0 s) (hw : 262144 &&& w0 = 262144) : Frame w0 a0 (State.kskEnter s h b) :=
  Frame.step _ _ _ _ _ h0 (State.kskEnter_frame s h b) hw

theorem State.scoreSum_frame (s : State) (sum : ℤ) : Frame 4 s (State.scoreSum s sum).1 := by
  unfold State.scoreSum
  try dsimp only
  repeat' first
    | with_reducible apply Frame.refl
    | with_reducible assumption
    | apply Eq.refl
    | with_reducible apply State.useFree_step
    | with_reducible apply Frame.foldl
    | with_reducible apply Frame.foldl_fst
    | split
    | with_reducible apply Frame.ite
    | intro _
    | dsimp only
theorem State.scoreSum_step (w0 : Nat) (a0 : State) (s : State) (sum : ℤ) (h0 : Frame w0 a0 s) (hw : 4 &&& w0 = 4) : Frame w0 a0 (State.scoreSum s sum).1 :=
  Frame.step _ _ _ _ _ h0 (State.scoreSum_frame s sum) hw

theorem State.record_frame (s : State) (h : Nat) (c : Comp) (tail : Bool) (splitAfter : Bool) : Frame 35521588 s (State.record s h c tail splitAfter) := by
  unfold State.record
  try dsimp only
  repeat' first
    | with_reducible apply Frame.refl
    | with_reducible assumption
    | apply Eq.refl
    | with_reducible apply State.schedMask_step
    | (with_reducible refine Frame.of_pair (by with_reducible assumption) (State.schedMask_step _ _ _ _ _ _ _ ?_ ?_))
    | with_reducible apply State.scoreSum_step
    | (with_reducible refine Frame.of_pair (by with_reducible assumption) (State.scoreSum_step _ _ _ _ ?_ ?_))
    | with_reducible apply State.updKiosk_step
    | with_reducible apply State.count_step
    | with_reducible apply State.offer_step
    | (with_reducible refine Frame.of_pair (by with_reducible assumption) (State.offer_step _ _ _ _ _ ?_ ?_))
    | with_reducible apply Frame.foldl
    | with_reducible apply Frame.foldl_fst
    | split
    | with_reducible apply Frame.ite
    | intro _
    | dsimp only
theorem State.record_step (w0 : Nat) (a0 : State) (s : State) (h : Nat) (c : Comp) (tail : Bool) (splitAfter : Bool) (h0 : Frame w0 a0 s) (hw : 35521588 &&& w0 = 35521588) : Frame w0 a0 (State.record s h c tail splitAfter) :=
  Frame.step _ _ _ _ _ h0 (State.record_frame s h c tail splitAfter) hw

theorem State.closeComp_frame (s : State) (h : Nat) (tail : Bool) (splitAfter : Bool) (c : Comp) : Frame 35521588 s (State.closeComp s h tail splitAfter c) := by
  unfold State.closeComp
  try dsimp only
  repeat' first
    | with_reducible apply Frame.refl
    | with_reducible assumption
    | apply Eq.refl
    | with_reducible apply State.count_step
    | with_reducible apply State.record_step
    | with_reducible apply Frame.foldl
    | with_reducible apply Frame.foldl_fst
    | split
    | with_reducible apply Frame.ite
    | intro _
    | dsimp only
theorem State.closeComp_step (w0 : Nat) (a0 : State) (s : State) (h : Nat) (tail : Bool) (splitAfter : Bool) (c : Comp) (h0 : Frame w0 a0 s) (hw : 35521588 &&& w0 = 35521588) : Frame w0 a0 (State.closeComp s h tail splitAfter c) :=
  Frame.step _ _ _ _ _ h0 (State.closeComp_frame s h tail splitAfter c) hw

theorem State.closeWhere_frame (s : State) (h : Nat) (tail : Bool) (p : Comp → Bool) : Frame 35521588 s (State.closeWhere s h tail p) := by
  unfold State.closeWhere
  try dsimp only
  repeat' first
    | with_reducible apply Frame.refl
    | with_reducible assumption
    | apply Eq.refl
    | with_reducible apply State.closeComp_step
    | with_reducible apply State.setKiosk_step
    | with_reducible apply Frame.foldl
    | with_reducible apply Frame.foldl_fst
    | split
    | with_reducible apply Frame.ite
    | intro _
    | dsimp only
theorem State.closeWhere_step (w0 : Nat) (a0 : State) (s : State) (h : Nat) (tail : Bool) (p : Comp → Bool) (h0 : Frame w0 a0 s) (hw : 35521588 &&& w0 = 35521588) : Frame w0 a0 (State.closeWhere s h tail p) :=
  Frame.step _ _ _ _ _ h0 (State.closeWhere_frame s h tail p) hw

theorem State.closeTail_frame (s : State) (h : Nat) : Frame 35521588 s (State.closeTail s h) := by
  unfold State.closeTail
  try dsimp only
  repeat' first
    | with_reducible apply Frame.refl
    | with_reducible assumption
    | apply Eq.refl
    | with_reducible apply State.closeWhere_step
    | with_reducible apply Frame.foldl
    | with_reducible apply Frame.foldl_fst
    | split
    | with_reducible apply Frame.ite
    | intro _
    | dsimp only
theorem State.closeTail_step (w0 : Nat) (a0 : State) (s : State) (h : Nat) (h0 : Frame w0 a0 s) (hw : 35521588 &&& w0 = 35521588) : Frame w0 a0 (State.closeTail s h) :=
  Frame.step _ _ _ _ _ h0 (State.closeTail_frame s h) hw

theorem State.closeTails_frame (s : State) : Frame 35521588 s (State.closeTails s) := by
  unfold State.closeTails
  try dsimp only
  repeat' first
    | with_reducible apply Frame.refl
    | with_reducible assumption
    | apply Eq.refl
    | with_reducible apply State.closeTail_step
    | with_reducible apply Frame.foldl
    | with_reducible apply Frame.foldl_fst
    | split
    | with_reducible apply Frame.ite
    | intro _
    | dsimp only
theorem State.closeTails_step (w0 : Nat) (a0 : State) (s : State) (h0 : Frame w0 a0 s) (hw : 35521588 &&& w0 = 35521588) : Frame w0 a0 (State.closeTails s) :=
  Frame.step _ _ _ _ _ h0 (State.closeTails_frame s) hw

theorem State.kioskEnd_frame (s : State) (h : Nat) : Frame 35521588 s (State.kioskEnd s h) := by
  unfold State.kioskEnd
  try dsimp only
  repeat' first
    | with_reducible apply Frame.refl
    | with_reducible assumption
    | apply Eq.refl
    | with_reducible apply State.updKiosk_step
    | with_reducible apply State.closeTail_step
    | with_reducible apply Frame.foldl
    | with_reducible apply Frame.foldl_fst
    | split
    | with_reducible apply Frame.ite
    | intro _
    | dsimp only
theorem State.kioskEnd_step (w0 : Nat) (a0 : State) (s : State) (h : Nat) (h0 : Frame w0 a0 s) (hw : 35521588 &&& w0 = 35521588) : Frame w0 a0 (State.kioskEnd s h) :=
  Frame.step _ _ _ _ _ h0 (State.kioskEnd_frame s h) hw

end Sys2Proof.Machine
end

