-- ==== Sys2Proof/Laws/F_Glilan.lean ====
section
/-!
SUPPORT. Frames of the operations of Machine/Glilan.lean.
-/
namespace Sys2Proof.Machine

set_option linter.unusedTactic false
set_option linter.unreachableTactic false
set_option linter.unusedVariables false

theorem State.updLoad_frame (s : State) (f : LoadState → LoadState) : Frame 16777216 s (State.updLoad s f) := by
  unfold State.updLoad
  try dsimp only
  repeat' first
    | with_reducible apply Frame.refl
    | with_reducible assumption
    | apply Eq.refl
    | with_reducible apply Frame.foldl
    | with_reducible apply Frame.foldl_fst
    | split
    | with_reducible apply Frame.ite
    | with_reducible apply Frame.set_load
    | intro _
    | dsimp only
theorem State.updLoad_step (w0 : Nat) (a0 : State) (s : State) (f : LoadState → LoadState) (h0 : Frame w0 a0 s) (hw : 16777216 &&& w0 = 16777216) : Frame w0 a0 (State.updLoad s f) :=
  Frame.step _ _ _ _ _ h0 (State.updLoad_frame s f) hw

theorem State.setLoadCode_frame (s : State) (c : Nat) : Frame 16 s (State.setLoadCode s c) := by
  unfold State.setLoadCode
  try dsimp only
  repeat' first
    | with_reducible apply Frame.refl
    | with_reducible assumption
    | apply Eq.refl
    | with_reducible apply State.setReg_step
    | with_reducible apply Frame.foldl
    | with_reducible apply Frame.foldl_fst
    | split
    | with_reducible apply Frame.ite
    | intro _
    | dsimp only
theorem State.setLoadCode_step (w0 : Nat) (a0 : State) (s : State) (c : Nat) (h0 : Frame w0 a0 s) (hw : 16 &&& w0 = 16) : Frame w0 a0 (State.setLoadCode s c) :=
  Frame.step _ _ _ _ _ h0 (State.setLoadCode_frame s c) hw

theorem State.loadRecord_frame (s : State) (r : Refuse) : Frame 1573936 s (State.loadRecord s r) := by
  unfold State.loadRecord
  try dsimp only
  repeat' first
    | with_reducible apply Frame.refl
    | with_reducible assumption
    | apply Eq.refl
    | with_reducible apply State.setLoadCode_step
    | with_reducible apply State.emit_step
    | with_reducible apply Frame.foldl
    | with_reducible apply Frame.foldl_fst
    | split
    | with_reducible apply Frame.ite
    | intro _
    | dsimp only
theorem State.loadRecord_step (w0 : Nat) (a0 : State) (s : State) (r : Refuse) (h0 : Frame w0 a0 s) (hw : 1573936 &&& w0 = 1573936) : Frame w0 a0 (State.loadRecord s r) :=
  Frame.step _ _ _ _ _ h0 (State.loadRecord_frame s r) hw

theorem State.refuseLoad_frame (s : State) (r : Refuse) : Frame 18351152 s (State.refuseLoad s r) := by
  unfold State.refuseLoad
  try dsimp only
  repeat' first
    | with_reducible apply Frame.refl
    | with_reducible assumption
    | apply Eq.refl
    | with_reducible apply State.updLoad_step
    | with_reducible apply State.setLoadState_step
    | with_reducible apply State.loadRecord_step
    | with_reducible apply Frame.foldl
    | with_reducible apply Frame.foldl_fst
    | split
    | with_reducible apply Frame.ite
    | intro _
    | dsimp only
theorem State.refuseLoad_step (w0 : Nat) (a0 : State) (s : State) (r : Refuse) (h0 : Frame w0 a0 s) (hw : 18351152 &&& w0 = 18351152) : Frame w0 a0 (State.refuseLoad s r) :=
  Frame.step _ _ _ _ _ h0 (State.refuseLoad_frame s r) hw

theorem State.dropShadows_frame (s : State) : Frame 32768 s (State.dropShadows s) := by
  unfold State.dropShadows
  try dsimp only
  repeat' first
    | with_reducible apply Frame.refl
    | with_reducible assumption
    | apply Eq.refl
    | with_reducible exact fun c => Tab.put_wf _ _ _ _ (State.canonical_tile _ c)
    | with_reducible exact fun c => Tab.mapV_wf _ _ _ (State.canonical_tile _ c)
    | with_reducible exact fun c => Tab.filter_wf _ _ _ (State.canonical_tile _ c)
    | with_reducible apply Frame.foldl
    | with_reducible apply Frame.foldl_fst
    | split
    | with_reducible apply Frame.ite
    | with_reducible apply Frame.set_tiles
    | intro _
    | dsimp only
theorem State.dropShadows_step (w0 : Nat) (a0 : State) (s : State) (h0 : Frame w0 a0 s) (hw : 32768 &&& w0 = 32768) : Frame w0 a0 (State.dropShadows s) :=
  Frame.step _ _ _ _ _ h0 (State.dropShadows_frame s) hw

theorem State.endLoad_frame (s : State) : Frame 16810000 s (State.endLoad s) := by
  unfold State.endLoad
  try dsimp only
  repeat' first
    | with_reducible apply Frame.refl
    | with_reducible assumption
    | apply Eq.refl
    | with_reducible apply State.setLoadState_step
    | with_reducible apply State.dropShadows_step
    | with_reducible apply Frame.foldl
    | with_reducible apply Frame.foldl_fst
    | split
    | with_reducible apply Frame.ite
    | with_reducible apply Frame.set_load
    | intro _
    | dsimp only
theorem State.endLoad_step (w0 : Nat) (a0 : State) (s : State) (h0 : Frame w0 a0 s) (hw : 16810000 &&& w0 = 16810000) : Frame w0 a0 (State.endLoad s) :=
  Frame.step _ _ _ _ _ h0 (State.endLoad_frame s) hw

theorem State.loadGo_frame (s : State) (mode : Bool) : Frame 18351152 s (State.loadGo s mode) := by
  unfold State.loadGo
  try dsimp only
  repeat' first
    | with_reducible apply Frame.refl
    | with_reducible assumption
    | apply Eq.refl
    | with_reducible apply State.setReg_step
    | with_reducible apply State.loadRecord_step
    | with_reducible apply State.refuseLoad_step
    | with_reducible apply State.setLoadState_step
    | with_reducible apply State.setRegN_step
    | with_reducible apply Frame.foldl
    | with_reducible apply Frame.foldl_fst
    | split
    | with_reducible apply Frame.ite
    | with_reducible apply Frame.set_load
    | intro _
    | dsimp only
theorem State.loadGo_step (w0 : Nat) (a0 : State) (s : State) (mode : Bool) (h0 : Frame w0 a0 s) (hw : 18351152 &&& w0 = 18351152) : Frame w0 a0 (State.loadGo s mode) :=
  Frame.step _ _ _ _ _ h0 (State.loadGo_frame s mode) hw

theorem execLoadGo_frame (mode : Bool) (s : State) : Completes 18351152 s (execLoadGo mode s) := by
  unfold execLoadGo
  try dsimp only
  repeat' first
    | with_reducible apply Completes.intro
    | with_reducible apply Frame.refl
    | with_reducible assumption
    | apply Eq.refl
    | with_reducible apply State.loadGo_step
    | with_reducible apply Frame.foldl
    | with_reducible apply Frame.foldl_fst
    | split
    | with_reducible apply Frame.ite
    | intro _
    | dsimp only
theorem execLoadGo_after (w0 : Nat) (a0 : State) (mode : Bool) (s : State) (h0 : Frame w0 a0 s) (hw : 18351152 &&& w0 = 18351152) : Completes w0 a0 (execLoadGo mode s) :=
  Completes.step _ _ _ _ _ h0 (execLoadGo_frame mode s) hw

theorem execLoadAbort_frame (s : State) : Completes 16810000 s (execLoadAbort s) := by
  unfold execLoadAbort
  try dsimp only
  repeat' first
    | with_reducible apply Completes.intro
    | with_reducible apply Frame.refl
    | with_reducible assumption
    | apply Eq.refl
    | with_reducible apply State.endLoad_step
    | with_reducible apply Frame.foldl
    | with_reducible apply Frame.foldl_fst
    | split
    | with_reducible apply Frame.ite
    | intro _
    | dsimp only
theorem execLoadAbort_after (w0 : Nat) (a0 : State) (s : State) (h0 : Frame w0 a0 s) (hw : 16810000 &&& w0 = 16810000) : Completes w0 a0 (execLoadAbort s) :=
  Completes.step _ _ _ _ _ h0 (execLoadAbort_frame s) hw

theorem State.applyHubEntry_frame (s : State) (h : Nat) (a : Nat) (v : Word) : Frame 35259440 s (State.applyHubEntry s h a v) := by
  unfold State.applyHubEntry
  try dsimp only
  repeat' first
    | with_reducible apply Frame.refl
    | with_reducible assumption
    | apply Eq.refl
    | with_reducible apply State.applyPqEntry_step
    | with_reducible apply State.writeFf_step
    | with_reducible apply State.setReg_step
    | with_reducible apply Frame.foldl
    | with_reducible apply Frame.foldl_fst
    | split
    | with_reducible apply Frame.ite
    | intro _
    | dsimp only
theorem State.applyHubEntry_step (w0 : Nat) (a0 : State) (s : State) (h : Nat) (a : Nat) (v : Word) (h0 : Frame w0 a0 s) (hw : 35259440 &&& w0 = 35259440) : Frame w0 a0 (State.applyHubEntry s h a v) :=
  Frame.step _ _ _ _ _ h0 (State.applyHubEntry_frame s h a v) hw

theorem State.applyHub_frame (s : State) (i : Image) (h : Nat) (p : Nat → Bool) : Frame 35259440 s (State.applyHub s i h p) := by
  unfold State.applyHub
  try dsimp only
  repeat' first
    | with_reducible apply Frame.refl
    | with_reducible assumption
    | apply Eq.refl
    | with_reducible apply State.applyHubEntry_step
    | with_reducible apply Frame.foldl
    | with_reducible apply Frame.foldl_fst
    | split
    | with_reducible apply Frame.ite
    | intro _
    | dsimp only
theorem State.applyHub_step (w0 : Nat) (a0 : State) (s : State) (i : Image) (h : Nat) (p : Nat → Bool) (h0 : Frame w0 a0 s) (hw : 35259440 &&& w0 = 35259440) : Frame w0 a0 (State.applyHub s i h p) :=
  Frame.step _ _ _ _ _ h0 (State.applyHub_frame s i h p) hw

theorem State.loadBed_frame (s : State) (b : Nat) : Frame 536870960 s (State.loadBed s b) := by
  unfold State.loadBed
  try dsimp only
  repeat' first
    | with_reducible apply Frame.refl
    | with_reducible assumption
    | apply Eq.refl
    | with_reducible apply State.beginOn_step
    | with_reducible apply State.setBits_step
    | with_reducible apply Frame.foldl
    | with_reducible apply Frame.foldl_fst
    | split
    | with_reducible apply Frame.ite
    | intro _
    | dsimp only
theorem State.loadBed_step (w0 : Nat) (a0 : State) (s : State) (b : Nat) (h0 : Frame w0 a0 s) (hw : 536870960 &&& w0 = 536870960) : Frame w0 a0 (State.loadBed s b) :=
  Frame.step _ _ _ _ _ h0 (State.loadBed_frame s b) hw

theorem State.reportArmed_frame (s : State) : Frame 134218756 s (State.reportArmed s) := by
  unfold State.reportArmed
  try dsimp only
  repeat' first
    | with_reducible apply Frame.refl
    | with_reducible assumption
    | apply Eq.refl
    | with_reducible apply State.sendMsg_step
    | with_reducible apply Frame.foldl
    | with_reducible apply Frame.foldl_fst
    | split
    | with_reducible apply Frame.ite
    | intro _
    | dsimp only
theorem State.reportArmed_step (w0 : Nat) (a0 : State) (s : State) (h0 : Frame w0 a0 s) (hw : 134218756 &&& w0 = 134218756) : Frame w0 a0 (State.reportArmed s) :=
  Frame.step _ _ _ _ _ h0 (State.reportArmed_frame s) hw

theorem State.armAt_frame (s : State) (n : W48) : Frame 16777216 s (State.armAt s n) := by
  unfold State.armAt
  try dsimp only
  repeat' first
    | with_reducible apply Frame.refl
    | with_reducible assumption
    | apply Eq.refl
    | with_reducible apply State.updLoad_step
    | with_reducible apply Frame.foldl
    | with_reducible apply Frame.foldl_fst
    | split
    | with_reducible apply Frame.ite
    | intro _
    | dsimp only
theorem State.armAt_step (w0 : Nat) (a0 : State) (s : State) (n : W48) (h0 : Frame w0 a0 s) (hw : 16777216 &&& w0 = 16777216) : Frame w0 a0 (State.armAt s n) :=
  Frame.step _ _ _ _ _ h0 (State.armAt_frame s n) hw

theorem State.tryArm_frame (s : State) : Frame 150995972 s (State.tryArm s) := by
  unfold State.tryArm
  try dsimp only
  repeat' first
    | with_reducible apply Frame.refl
    | with_reducible assumption
    | apply Eq.refl
    | with_reducible apply State.updLoad_step
    | with_reducible apply State.sendMsg_step
    | with_reducible apply State.armAt_step
    | with_reducible apply Frame.foldl
    | with_reducible apply Frame.foldl_fst
    | split
    | with_reducible apply Frame.ite
    | intro _
    | dsimp only
theorem State.tryArm_step (w0 : Nat) (a0 : State) (s : State) (h0 : Frame w0 a0 s) (hw : 150995972 &&& w0 = 150995972) : Frame w0 a0 (State.tryArm s) :=
  Frame.step _ _ _ _ _ h0 (State.tryArm_frame s) hw

theorem State.writeRows_frame (s : State) (w : Nat → MemWord) (r : Nat) (data : List Byte) : Frame 36077568 s (State.writeRows s w r data) := by
  unfold State.writeRows
  try dsimp only
  repeat' first
    | with_reducible apply Frame.refl
    | with_reducible assumption
    | apply Eq.refl
    | with_reducible apply State.putRow_step
    | with_reducible apply State.cancelRow_step
    | with_reducible apply Frame.foldl
    | with_reducible apply Frame.foldl_fst
    | split
    | with_reducible apply Frame.ite
    | intro _
    | dsimp only
theorem State.writeRows_step (w0 : Nat) (a0 : State) (s : State) (w : Nat → MemWord) (r : Nat) (data : List Byte) (h0 : Frame w0 a0 s) (hw : 36077568 &&& w0 = 36077568) : Frame w0 a0 (State.writeRows s w r data) :=
  Frame.step _ _ _ _ _ h0 (State.writeRows_frame s w r data) hw

theorem State.writeHubStores_frame (s : State) (i : Image) : Frame 36077568 s (State.writeHubStores s i) := by
  unfold State.writeHubStores
  try dsimp only
  repeat' first
    | with_reducible apply Frame.refl
    | with_reducible assumption
    | apply Eq.refl
    | with_reducible apply State.writeRows_step
    | with_reducible apply Frame.foldl
    | with_reducible apply Frame.foldl_fst
    | split
    | with_reducible apply Frame.ite
    | intro _
    | dsimp only
theorem State.writeHubStores_step (w0 : Nat) (a0 : State) (s : State) (i : Image) (h0 : Frame w0 a0 s) (hw : 36077568 &&& w0 = 36077568) : Frame w0 a0 (State.writeHubStores s i) :=
  Frame.step _ _ _ _ _ h0 (State.writeHubStores_frame s i) hw

theorem State.finishDelivery_frame (s : State) (i : Image) : Frame 187073556 s (State.finishDelivery s i) := by
  unfold State.finishDelivery
  try dsimp only
  repeat' first
    | with_reducible apply Frame.refl
    | with_reducible assumption
    | apply Eq.refl
    | with_reducible apply State.hbmWrite_step
    | with_reducible apply State.writeHubStores_step
    | with_reducible apply State.tryArm_step
    | with_reducible apply State.reportArmed_step
    | with_reducible apply State.setLoadState_step
    | with_reducible apply Frame.foldl
    | with_reducible apply Frame.foldl_fst
    | split
    | with_reducible apply Frame.ite
    | intro _
    | dsimp only
theorem State.finishDelivery_step (w0 : Nat) (a0 : State) (s : State) (i : Image) (h0 : Frame w0 a0 s) (hw : 187073556 &&& w0 = 187073556) : Frame w0 a0 (State.finishDelivery s i) :=
  Frame.step _ _ _ _ _ h0 (State.finishDelivery_frame s i) hw

theorem State.acceptLoad_frame (s : State) (i : Image) : Frame 723944500 s (State.acceptLoad s i) := by
  unfold State.acceptLoad
  try dsimp only
  repeat' first
    | with_reducible apply Frame.refl
    | with_reducible assumption
    | apply Eq.refl
    | with_reducible apply State.updLoad_step
    | with_reducible apply State.setLoadState_step
    | with_reducible apply State.loadBed_step
    | with_reducible apply State.finishDelivery_step
    | with_reducible apply Frame.foldl
    | with_reducible apply Frame.foldl_fst
    | split
    | with_reducible apply Frame.ite
    | intro _
    | dsimp only
theorem State.acceptLoad_step (w0 : Nat) (a0 : State) (s : State) (i : Image) (h0 : Frame w0 a0 s) (hw : 723944500 &&& w0 = 723944500) : Frame w0 a0 (State.acceptLoad s i) :=
  Frame.step _ _ _ _ _ h0 (State.acceptLoad_frame s i) hw

theorem State.verifyLoad_frame (s : State) : Frame 725517364 s (State.verifyLoad s) := by
  unfold State.verifyLoad
  try dsimp only
  repeat' first
    | with_reducible apply Frame.refl
    | with_reducible assumption
    | apply Eq.refl
    | with_reducible apply State.imageBytes_step
    | (with_reducible refine Frame.of_pair (by with_reducible assumption) (State.imageBytes_step _ _ _ ?_ ?_))
    | with_reducible apply State.refuseLoad_step
    | with_reducible apply State.clrBits_step
    | with_reducible apply State.setBits_step
    | with_reducible apply State.acceptLoad_step
    | with_reducible apply Frame.foldl
    | with_reducible apply Frame.foldl_fst
    | split
    | with_reducible apply Frame.ite
    | intro _
    | dsimp only
theorem State.verifyLoad_step (w0 : Nat) (a0 : State) (s : State) (h0 : Frame w0 a0 s) (hw : 725517364 &&& w0 = 725517364) : Frame w0 a0 (State.verifyLoad s) :=
  Frame.step _ _ _ _ _ h0 (State.verifyLoad_frame s) hw

theorem execLoadVerifyComplete_frame (s : State) : Completes 725517364 s (execLoadVerifyComplete s) := by
  unfold execLoadVerifyComplete
  try dsimp only
  repeat' first
    | with_reducible apply Completes.intro
    | with_reducible apply Frame.refl
    | with_reducible assumption
    | apply Eq.refl
    | with_reducible apply State.verifyLoad_step
    | with_reducible apply Frame.foldl
    | with_reducible apply Frame.foldl_fst
    | split
    | with_reducible apply Frame.ite
    | intro _
    | dsimp only
theorem execLoadVerifyComplete_after (w0 : Nat) (a0 : State) (s : State) (h0 : Frame w0 a0 s) (hw : 725517364 &&& w0 = 725517364) : Completes w0 a0 (execLoadVerifyComplete s) :=
  Completes.step _ _ _ _ _ h0 (execLoadVerifyComplete_frame s) hw

theorem State.deliverTile_frame (s : State) (i : Image) (t : TileLoc) : Frame 52854800 s (State.deliverTile s i t) := by
  unfold State.deliverTile
  try dsimp only
  repeat' first
    | with_reducible apply Frame.refl
    | with_reducible assumption
    | apply Eq.refl
    | with_reducible apply State.writeRows_step
    | with_reducible apply State.onTile_step
    | with_reducible apply State.updLoad_step
    | with_reducible apply State.setRegN_step
    | with_reducible apply Frame.foldl
    | with_reducible apply Frame.foldl_fst
    | split
    | with_reducible apply Frame.ite
    | intro _
    | dsimp only
theorem State.deliverTile_step (w0 : Nat) (a0 : State) (s : State) (i : Image) (t : TileLoc) (h0 : Frame w0 a0 s) (hw : 52854800 &&& w0 = 52854800) : Frame w0 a0 (State.deliverTile s i t) :=
  Frame.step _ _ _ _ _ h0 (State.deliverTile_frame s i t) hw

theorem State.trellis_frame (s : State) (t : TileLoc) : Frame 187073556 s (State.trellis s t) := by
  unfold State.trellis
  try dsimp only
  repeat' first
    | with_reducible apply Frame.refl
    | with_reducible assumption
    | apply Eq.refl
    | with_reducible apply State.deliverTile_step
    | with_reducible apply State.finishDelivery_step
    | with_reducible apply Frame.foldl
    | with_reducible apply Frame.foldl_fst
    | split
    | with_reducible apply Frame.ite
    | intro _
    | dsimp only
theorem State.trellis_step (w0 : Nat) (a0 : State) (s : State) (t : TileLoc) (h0 : Frame w0 a0 s) (hw : 187073556 &&& w0 = 187073556) : Frame w0 a0 (State.trellis s t) :=
  Frame.step _ _ _ _ _ h0 (State.trellis_frame s t) hw

theorem execTrellisDelivery_frame (t : TileLoc) (s : State) : Completes 187073556 s (execTrellisDelivery t s) := by
  unfold execTrellisDelivery
  try dsimp only
  repeat' first
    | with_reducible apply Completes.intro
    | with_reducible apply Frame.refl
    | with_reducible assumption
    | apply Eq.refl
    | with_reducible apply State.trellis_step
    | with_reducible apply Frame.foldl
    | with_reducible apply Frame.foldl_fst
    | split
    | with_reducible apply Frame.ite
    | intro _
    | dsimp only
theorem execTrellisDelivery_after (w0 : Nat) (a0 : State) (t : TileLoc) (s : State) (h0 : Frame w0 a0 s) (hw : 187073556 &&& w0 = 187073556) : Completes w0 a0 (execTrellisDelivery t s) :=
  Completes.step _ _ _ _ _ h0 (execTrellisDelivery_frame t s) hw

theorem State.bellFields_frame (s : State) (h : Header) : Frame 16 s (State.bellFields s h) := by
  unfold State.bellFields
  try dsimp only
  repeat' first
    | with_reducible apply Frame.refl
    | with_reducible assumption
    | apply Eq.refl
    | with_reducible apply State.setRegN_step
    | with_reducible apply Frame.foldl
    | with_reducible apply Frame.foldl_fst
    | split
    | with_reducible apply Frame.ite
    | intro _
    | dsimp only
theorem State.bellFields_step (w0 : Nat) (a0 : State) (s : State) (h : Header) (h0 : Frame w0 a0 s) (hw : 16 &&& w0 = 16) : Frame w0 a0 (State.bellFields s h) :=
  Frame.step _ _ _ _ _ h0 (State.bellFields_frame s h) hw

theorem State.setDigest_frame (s : State) (d : BitVec 256) : Frame 16 s (State.setDigest s d) := by
  unfold State.setDigest
  try dsimp only
  repeat' first
    | with_reducible apply Frame.refl
    | with_reducible assumption
    | apply Eq.refl
    | with_reducible apply State.setRegN_step
    | with_reducible apply Frame.foldl
    | with_reducible apply Frame.foldl_fst
    | split
    | with_reducible apply Frame.ite
    | intro _
    | dsimp only
theorem State.setDigest_step (w0 : Nat) (a0 : State) (s : State) (d : BitVec 256) (h0 : Frame w0 a0 s) (hw : 16 &&& w0 = 16) : Frame w0 a0 (State.setDigest s d) :=
  Frame.step _ _ _ _ _ h0 (State.setDigest_frame s d) hw

theorem State.commitImage_frame (s : State) (i : Image) : Frame 16810000 s (State.commitImage s i) := by
  unfold State.commitImage
  extract_lets g old s1 a b s2 s3 sw tiles
  have h1 : Frame 16810000 s s1 := State.setReg_step _ _ _ _ _ (Frame.refl _ _) rfl
  have h2 : Frame 16810000 s s2 := by
    show Frame 16810000 s (if s.ident.hasHbm then (s1.setReg64 aHubImgActiveBase b).setReg64 aHubImgStageBase a else s1)
    split
    · exact State.setReg64_step _ _ _ _ _ (State.setReg64_step _ _ _ _ _ h1 rfl) rfl
    · exact h1
  have h3 : Frame 16810000 s s3 := State.clrBits_step _ _ _ _ _ (State.setDigest_step _ _ _ _ h2 rfl) rfl
  have h4 : Frame 16810000 s { s3 with load := { LoadState.empty with active := some i, bytesDone := old.bytesDone } } :=
    Frame.set_load _ _ _ _ h3 rfl
  exact Frame.set_tiles 16810000 s { s3 with load := { LoadState.empty with active := some i, bytesDone := old.bytesDone } } tiles h4 rfl
    (fun c => Tab.mapV_wf _ _ _ (State.canonical_tile s3 c))
theorem State.commitImage_step (w0 : Nat) (a0 : State) (s : State) (i : Image) (h0 : Frame w0 a0 s) (hw : 16810000 &&& w0 = 16810000) : Frame w0 a0 (State.commitImage s i) :=
  Frame.step _ _ _ _ _ h0 (State.commitImage_frame s i) hw

theorem State.takeShadows_frame (s : State) (g : BitVec 2) : Frame 32768 s (State.takeShadows s g) := by
  unfold State.takeShadows
  try dsimp only
  repeat' first
    | with_reducible apply Frame.refl
    | with_reducible assumption
    | apply Eq.refl
    | with_reducible exact fun c => Tab.put_wf _ _ _ _ (State.canonical_tile _ c)
    | with_reducible exact fun c => Tab.mapV_wf _ _ _ (State.canonical_tile _ c)
    | with_reducible exact fun c => Tab.filter_wf _ _ _ (State.canonical_tile _ c)
    | with_reducible apply Frame.foldl
    | with_reducible apply Frame.foldl_fst
    | split
    | with_reducible apply Frame.ite
    | with_reducible apply Frame.set_tiles
    | intro _
    | dsimp only
theorem State.takeShadows_step (w0 : Nat) (a0 : State) (s : State) (g : BitVec 2) (h0 : Frame w0 a0 s) (hw : 32768 &&& w0 = 32768) : Frame w0 a0 (State.takeShadows s g) :=
  Frame.step _ _ _ _ _ h0 (State.takeShadows_frame s g) hw

theorem State.activateCold_frame (s : State) : Frame 666537008 s (State.activateCold s) := by
  unfold State.activateCold
  try dsimp only
  repeat' first
    | with_reducible apply Frame.refl
    | with_reducible assumption
    | apply Eq.refl
    | with_reducible apply State.bellFields_step
    | with_reducible apply State.takeShadows_step
    | with_reducible apply State.applyHub_step
    | with_reducible apply State.startKernels_step
    | with_reducible apply State.commitImage_step
    | with_reducible apply Frame.foldl
    | with_reducible apply Frame.foldl_fst
    | split
    | with_reducible apply Frame.ite
    | intro _
    | dsimp only
theorem State.activateCold_step (w0 : Nat) (a0 : State) (s : State) (h0 : Frame w0 a0 s) (hw : 666537008 &&& w0 = 666537008) : Frame w0 a0 (State.activateCold s) :=
  Frame.step _ _ _ _ _ h0 (State.activateCold_frame s) hw

theorem State.activate_frame (s : State) : Frame 666537008 s (State.activate s) := by
  unfold State.activate
  try dsimp only
  repeat' first
    | with_reducible apply Frame.refl
    | with_reducible assumption
    | apply Eq.refl
    | with_reducible apply State.activateCold_step
    | with_reducible apply Frame.foldl
    | with_reducible apply Frame.foldl_fst
    | split
    | with_reducible apply Frame.ite
    | intro _
    | dsimp only
theorem State.activate_step (w0 : Nat) (a0 : State) (s : State) (h0 : Frame w0 a0 s) (hw : 666537008 &&& w0 = 666537008) : Frame w0 a0 (State.activate s) :=
  Frame.step _ _ _ _ _ h0 (State.activate_frame s) hw

theorem execActivation_frame (s : State) : Completes 666537008 s (execActivation s) := by
  unfold execActivation
  try dsimp only
  repeat' first
    | with_reducible apply Completes.intro
    | with_reducible apply Frame.refl
    | with_reducible assumption
    | apply Eq.refl
    | with_reducible apply State.activate_step
    | with_reducible apply Frame.foldl
    | with_reducible apply Frame.foldl_fst
    | split
    | with_reducible apply Frame.ite
    | intro _
    | dsimp only
theorem execActivation_after (w0 : Nat) (a0 : State) (s : State) (h0 : Frame w0 a0 s) (hw : 666537008 &&& w0 = 666537008) : Completes w0 a0 (execActivation s) :=
  Completes.step _ _ _ _ _ h0 (execActivation_frame s) hw

theorem State.endDrain_frame (s : State) : Frame 801029172 s (State.endDrain s) := by
  unfold State.endDrain
  try dsimp only
  repeat' first
    | with_reducible apply Frame.refl
    | with_reducible assumption
    | apply Eq.refl
    | with_reducible apply State.completeDrain_step
    | with_reducible apply State.kioskEnd_step
    | with_reducible apply State.activateCold_step
    | with_reducible apply Frame.foldl
    | with_reducible apply Frame.foldl_fst
    | split
    | with_reducible apply Frame.ite
    | intro _
    | dsimp only
theorem State.endDrain_step (w0 : Nat) (a0 : State) (s : State) (h0 : Frame w0 a0 s) (hw : 801029172 &&& w0 = 801029172) : Frame w0 a0 (State.endDrain s) :=
  Frame.step _ _ _ _ _ h0 (State.endDrain_frame s) hw

theorem State.wantSwap_frame (s : State) (w : Option W48) : Frame 150995972 s (State.wantSwap s w) := by
  unfold State.wantSwap
  try dsimp only
  repeat' first
    | with_reducible apply Frame.refl
    | with_reducible assumption
    | apply Eq.refl
    | with_reducible apply State.tryArm_step
    | with_reducible apply State.updLoad_step
    | with_reducible apply Frame.foldl
    | with_reducible apply Frame.foldl_fst
    | split
    | with_reducible apply Frame.ite
    | intro _
    | dsimp only
theorem State.wantSwap_step (w0 : Nat) (a0 : State) (s : State) (w : Option W48) (h0 : Frame w0 a0 s) (hw : 150995972 &&& w0 = 150995972) : Frame w0 a0 (State.wantSwap s w) :=
  Frame.step _ _ _ _ _ h0 (State.wantSwap_frame s w) hw

theorem execSwapNow_frame (s : State) : Completes 150995972 s (execSwapNow s) := by
  unfold execSwapNow
  try dsimp only
  repeat' first
    | with_reducible apply Completes.intro
    | with_reducible apply Frame.refl
    | with_reducible assumption
    | apply Eq.refl
    | with_reducible apply State.wantSwap_step
    | with_reducible apply Frame.foldl
    | with_reducible apply Frame.foldl_fst
    | split
    | with_reducible apply Frame.ite
    | intro _
    | dsimp only
theorem execSwapNow_after (w0 : Nat) (a0 : State) (s : State) (h0 : Frame w0 a0 s) (hw : 150995972 &&& w0 = 150995972) : Completes w0 a0 (execSwapNow s) :=
  Completes.step _ _ _ _ _ h0 (execSwapNow_frame s) hw

theorem State.writeSwapBand_frame (s : State) (hi : Word) : Frame 150995988 s (State.writeSwapBand s hi) := by
  unfold State.writeSwapBand
  try dsimp only
  repeat' first
    | with_reducible apply Frame.refl
    | with_reducible assumption
    | apply Eq.refl
    | with_reducible apply State.wantSwap_step
    | with_reducible apply State.setReg64_step
    | with_reducible apply Frame.foldl
    | with_reducible apply Frame.foldl_fst
    | split
    | with_reducible apply Frame.ite
    | intro _
    | dsimp only
theorem State.writeSwapBand_step (w0 : Nat) (a0 : State) (s : State) (hi : Word) (h0 : Frame w0 a0 s) (hw : 150995988 &&& w0 = 150995988) : Frame w0 a0 (State.writeSwapBand s hi) :=
  Frame.step _ _ _ _ _ h0 (State.writeSwapBand_frame s hi) hw

theorem execHubSwapBandWrite_frame (hi : Word) (s : State) : Completes 150995988 s (execHubSwapBandWrite hi s) := by
  unfold execHubSwapBandWrite
  try dsimp only
  repeat' first
    | with_reducible apply Completes.intro
    | with_reducible apply Frame.refl
    | with_reducible assumption
    | apply Eq.refl
    | with_reducible apply State.writeSwapBand_step
    | with_reducible apply Frame.foldl
    | with_reducible apply Frame.foldl_fst
    | split
    | with_reducible apply Frame.ite
    | intro _
    | dsimp only
theorem execHubSwapBandWrite_after (w0 : Nat) (a0 : State) (hi : Word) (s : State) (h0 : Frame w0 a0 s) (hw : 150995988 &&& w0 = 150995988) : Completes w0 a0 (execHubSwapBandWrite hi s) :=
  Completes.step _ _ _ _ _ h0 (execHubSwapBandWrite_frame hi s) hw

theorem State.sentEoc_frame (s : State) (h : Nat) : Frame 52036656 s (State.sentEoc s h) := by
  unfold State.sentEoc
  try dsimp only
  repeat' first
    | with_reducible apply Frame.refl
    | with_reducible assumption
    | apply Eq.refl
    | with_reducible apply State.setLoadState_step
    | with_reducible apply State.setReg48_step
    | with_reducible apply State.applyHub_step
    | with_reducible apply State.updLoad_step
    | with_reducible apply Frame.foldl
    | with_reducible apply Frame.foldl_fst
    | split
    | with_reducible apply Frame.ite
    | intro _
    | dsimp only
theorem State.sentEoc_step (w0 : Nat) (a0 : State) (s : State) (h : Nat) (h0 : Frame w0 a0 s) (hw : 52036656 &&& w0 = 52036656) : Frame w0 a0 (State.sentEoc s h) :=
  Frame.step _ _ _ _ _ h0 (State.sentEoc_frame s h) hw

theorem State.kioskSwap_frame (s : State) (h : Nat) : Frame 52298804 s (State.kioskSwap s h) := by
  unfold State.kioskSwap
  try dsimp only
  repeat' first
    | with_reducible apply Frame.refl
    | with_reducible assumption
    | apply Eq.refl
    | with_reducible apply State.applyHub_step
    | with_reducible apply State.updLoad_step
    | with_reducible apply State.closeTail_step
    | with_reducible apply State.updKiosk_step
    | with_reducible apply Frame.foldl
    | with_reducible apply Frame.foldl_fst
    | split
    | with_reducible apply Frame.ite
    | intro _
    | dsimp only
theorem State.kioskSwap_step (w0 : Nat) (a0 : State) (s : State) (h : Nat) (h0 : Frame w0 a0 s) (hw : 52298804 &&& w0 = 52298804) : Frame w0 a0 (State.kioskSwap s h) :=
  Frame.step _ _ _ _ _ h0 (State.kioskSwap_frame s h) hw

theorem State.openWindow_frame (s : State) : Frame 666405936 s (State.openWindow s) := by
  unfold State.openWindow
  try dsimp only
  repeat' first
    | with_reducible apply Frame.refl
    | with_reducible assumption
    | apply Eq.refl
    | with_reducible apply State.startKernels_step
    | with_reducible apply State.setBits_step
    | with_reducible apply State.updLoad_step
    | with_reducible apply Frame.foldl
    | with_reducible apply Frame.foldl_fst
    | split
    | with_reducible apply Frame.ite
    | intro _
    | dsimp only
theorem State.openWindow_step (w0 : Nat) (a0 : State) (s : State) (h0 : Frame w0 a0 s) (hw : 666405936 &&& w0 = 666405936) : Frame w0 a0 (State.openWindow s) :=
  Frame.step _ _ _ _ _ h0 (State.openWindow_frame s) hw

theorem State.closeWindow_frame (s : State) : Frame 666799156 s (State.closeWindow s) := by
  unfold State.closeWindow
  try dsimp only
  repeat' first
    | with_reducible apply Frame.refl
    | with_reducible assumption
    | apply Eq.refl
    | with_reducible apply State.kioskSwap_step
    | with_reducible apply State.startKernels_step
    | with_reducible apply State.stopKernels_step
    | with_reducible apply State.commitImage_step
    | with_reducible apply State.bellFields_step
    | with_reducible apply Frame.foldl
    | with_reducible apply Frame.foldl_fst
    | split
    | with_reducible apply Frame.ite
    | intro _
    | dsimp only
theorem State.closeWindow_step (w0 : Nat) (a0 : State) (s : State) (h0 : Frame w0 a0 s) (hw : 666799156 &&& w0 = 666799156) : Frame w0 a0 (State.closeWindow s) :=
  Frame.step _ _ _ _ _ h0 (State.closeWindow_frame s) hw

theorem execChangeoverWindowClose_frame (s : State) : Completes 666799156 s (execChangeoverWindowClose s) := by
  unfold execChangeoverWindowClose
  try dsimp only
  repeat' first
    | with_reducible apply Completes.intro
    | with_reducible apply Frame.refl
    | with_reducible assumption
    | apply Eq.refl
    | with_reducible apply State.closeWindow_step
    | with_reducible apply Frame.foldl
    | with_reducible apply Frame.foldl_fst
    | split
    | with_reducible apply Frame.ite
    | intro _
    | dsimp only
theorem execChangeoverWindowClose_after (w0 : Nat) (a0 : State) (s : State) (h0 : Frame w0 a0 s) (hw : 666799156 &&& w0 = 666799156) : Completes w0 a0 (execChangeoverWindowClose s) :=
  Completes.step _ _ _ _ _ h0 (execChangeoverWindowClose_frame s) hw

theorem State.forceSwap_frame (s : State) : Frame 666799156 s (State.forceSwap s) := by
  unfold State.forceSwap
  try dsimp only
  repeat' first
    | with_reducible apply Frame.refl
    | with_reducible assumption
    | apply Eq.refl
    | with_reducible apply State.takeShadows_step
    | with_reducible apply State.applyHub_step
    | with_reducible apply State.closeWindow_step
    | with_reducible apply Frame.foldl
    | with_reducible apply Frame.foldl_fst
    | split
    | with_reducible apply Frame.ite
    | intro _
    | dsimp only
theorem State.forceSwap_step (w0 : Nat) (a0 : State) (s : State) (h0 : Frame w0 a0 s) (hw : 666799156 &&& w0 = 666799156) : Frame w0 a0 (State.forceSwap s) :=
  Frame.step _ _ _ _ _ h0 (State.forceSwap_frame s) hw

end Sys2Proof.Machine
end

