-- ==== Sys2Proof/Laws/F_Bell.lean ====
section
/-!
SUPPORT. Frames of the operations of Machine/Bell.lean.
-/
namespace Sys2Proof.Machine

set_option linter.unusedTactic false
set_option linter.unreachableTactic false
set_option linter.unusedVariables false

theorem State.beginReversal_frame (s : State) : Frame 135935028 s (State.beginReversal s) := by
  unfold State.beginReversal
  try dsimp only
  repeat' first
    | with_reducible apply Frame.refl
    | with_reducible assumption
    | apply Eq.refl
    | with_reducible apply State.updBell_step
    | with_reducible apply State.emit_step
    | with_reducible apply State.count_step
    | with_reducible apply State.maybeDrain_step
    | with_reducible apply State.cutAssembly_step
    | with_reducible apply State.updBand_step
    | with_reducible apply Frame.foldl
    | with_reducible apply Frame.foldl_fst
    | split
    | with_reducible apply Frame.ite
    | intro _
    | dsimp only
theorem State.beginReversal_step (w0 : Nat) (a0 : State) (s : State) (h0 : Frame w0 a0 s) (hw : 135935028 &&& w0 = 135935028) : Frame w0 a0 (State.beginReversal s) :=
  Frame.step _ _ _ _ _ h0 (State.beginReversal_frame s) hw

theorem State.reversalCheck_frame (s : State) : Frame 135935028 s (State.reversalCheck s) := by
  unfold State.reversalCheck
  try dsimp only
  repeat' first
    | with_reducible apply Frame.refl
    | with_reducible assumption
    | apply Eq.refl
    | with_reducible apply State.beginReversal_step
    | with_reducible apply Frame.foldl
    | with_reducible apply Frame.foldl_fst
    | split
    | with_reducible apply Frame.ite
    | intro _
    | dsimp only
theorem State.reversalCheck_step (w0 : Nat) (a0 : State) (s : State) (h0 : Frame w0 a0 s) (hw : 135935028 &&& w0 = 135935028) : Frame w0 a0 (State.reversalCheck s) :=
  Frame.step _ _ _ _ _ h0 (State.reversalCheck_frame s) hw

theorem State.fell_frame (s : State) : Frame 135935028 s (State.fell s) := by
  unfold State.fell
  try dsimp only
  repeat' first
    | with_reducible apply Frame.refl
    | with_reducible assumption
    | apply Eq.refl
    | with_reducible apply State.updBell_step
    | with_reducible apply State.reversalCheck_step
    | with_reducible apply Frame.foldl
    | with_reducible apply Frame.foldl_fst
    | split
    | with_reducible apply Frame.ite
    | intro _
    | dsimp only
theorem State.fell_step (w0 : Nat) (a0 : State) (s : State) (h0 : Frame w0 a0 s) (hw : 135935028 &&& w0 = 135935028) : Frame w0 a0 (State.fell s) :=
  Frame.step _ _ _ _ _ h0 (State.fell_frame s) hw

theorem State.rose_frame (s : State) : Frame 135935028 s (State.rose s) := by
  unfold State.rose
  try dsimp only
  repeat' first
    | with_reducible apply Frame.refl
    | with_reducible assumption
    | apply Eq.refl
    | with_reducible apply State.updBell_step
    | with_reducible apply State.setReg48_step
    | with_reducible apply State.drainAcc_step
    | with_reducible apply State.strobesAll_step
    | with_reducible apply State.closeReversal_step
    | with_reducible apply Frame.foldl
    | with_reducible apply Frame.foldl_fst
    | split
    | with_reducible apply Frame.ite
    | intro _
    | dsimp only
theorem State.rose_step (w0 : Nat) (a0 : State) (s : State) (h0 : Frame w0 a0 s) (hw : 135935028 &&& w0 = 135935028) : Frame w0 a0 (State.rose s) :=
  Frame.step _ _ _ _ _ h0 (State.rose_frame s) hw

theorem State.encCount_frame (s : State) (n : Nat) (aLeads : Bool) : Frame 135935028 s (State.encCount s n aLeads) := by
  unfold State.encCount
  try dsimp only
  repeat' first
    | with_reducible apply Frame.refl
    | with_reducible assumption
    | apply Eq.refl
    | with_reducible apply State.setReg48_step
    | with_reducible apply State.fell_step
    | with_reducible apply State.rose_step
    | with_reducible apply State.reversalCheck_step
    | with_reducible apply Frame.foldl
    | with_reducible apply Frame.foldl_fst
    | split
    | with_reducible apply Frame.ite
    | intro _
    | dsimp only
theorem State.encCount_step (w0 : Nat) (a0 : State) (s : State) (n : Nat) (aLeads : Bool) (h0 : Frame w0 a0 s) (hw : 135935028 &&& w0 = 135935028) : Frame w0 a0 (State.encCount s n aLeads) :=
  Frame.step _ _ _ _ _ h0 (State.encCount_frame s n aLeads) hw

theorem execEncoderCount_frame (n : Enc) (aLeads : Bool) (s : State) : Completes 135935028 s (execEncoderCount n aLeads s) := by
  unfold execEncoderCount
  try dsimp only
  repeat' first
    | with_reducible apply Completes.intro
    | with_reducible apply Frame.refl
    | with_reducible assumption
    | apply Eq.refl
    | with_reducible apply State.encCount_step
    | with_reducible apply Frame.foldl
    | with_reducible apply Frame.foldl_fst
    | split
    | with_reducible apply Frame.ite
    | intro _
    | dsimp only
theorem execEncoderCount_after (w0 : Nat) (a0 : State) (n : Enc) (aLeads : Bool) (s : State) (h0 : Frame w0 a0 s) (hw : 135935028 &&& w0 = 135935028) : Completes w0 a0 (execEncoderCount n aLeads s) :=
  Completes.step _ _ _ _ _ h0 (execEncoderCount_frame n aLeads s) hw

theorem State.zPulse_frame (s : State) (n : Nat) : Frame 4144 s (State.zPulse s n) := by
  unfold State.zPulse
  try dsimp only
  repeat' first
    | with_reducible apply Frame.refl
    | with_reducible assumption
    | apply Eq.refl
    | with_reducible apply State.count_step
    | with_reducible apply State.updBell_step
    | with_reducible apply Frame.foldl
    | with_reducible apply Frame.foldl_fst
    | split
    | with_reducible apply Frame.ite
    | intro _
    | dsimp only
theorem State.zPulse_step (w0 : Nat) (a0 : State) (s : State) (n : Nat) (h0 : Frame w0 a0 s) (hw : 4144 &&& w0 = 4144) : Frame w0 a0 (State.zPulse s n) :=
  Frame.step _ _ _ _ _ h0 (State.zPulse_frame s n) hw

theorem execEncZPulse_frame (n : Enc) (s : State) : Completes 4144 s (execEncZPulse n s) := by
  unfold execEncZPulse
  try dsimp only
  repeat' first
    | with_reducible apply Completes.intro
    | with_reducible apply Frame.refl
    | with_reducible assumption
    | apply Eq.refl
    | with_reducible apply State.zPulse_step
    | with_reducible apply Frame.foldl
    | with_reducible apply Frame.foldl_fst
    | split
    | with_reducible apply Frame.ite
    | intro _
    | dsimp only
theorem execEncZPulse_after (w0 : Nat) (a0 : State) (n : Enc) (s : State) (h0 : Frame w0 a0 s) (hw : 4144 &&& w0 = 4144) : Completes w0 a0 (execEncZPulse n s) :=
  Completes.step _ _ _ _ _ h0 (execEncZPulse_frame n s) hw

theorem execInternalTimerTick_frame (s : State) : Completes 134353972 s (execInternalTimerTick s) := by
  unfold execInternalTimerTick
  try dsimp only
  repeat' first
    | with_reducible apply Completes.intro
    | with_reducible apply Frame.refl
    | with_reducible assumption
    | apply Eq.refl
    | with_reducible apply State.issueTick_step
    | with_reducible apply State.updBell_step
    | with_reducible apply Frame.foldl
    | with_reducible apply Frame.foldl_fst
    | split
    | with_reducible apply Frame.ite
    | intro _
    | dsimp only
theorem execInternalTimerTick_after (w0 : Nat) (a0 : State) (s : State) (h0 : Frame w0 a0 s) (hw : 134353972 &&& w0 = 134353972) : Completes w0 a0 (execInternalTimerTick s) :=
  Completes.step _ _ _ _ _ h0 (execInternalTimerTick_frame s) hw

theorem State.openStream_frame (s : State) : Frame 1073877040 s (State.openStream s) := by
  unfold State.openStream
  extract_lets s1 due line s2 cams src c src2
  have h1 : Frame 1073877040 s s1 := State.setReg48_step _ _ _ _ _ (State.setBits_step _ _ _ _ _ (Frame.refl _ _) rfl) rfl
  have h2 : Frame 1073877040 s s2 := State.updBell_step _ _ _ _ h1 rfl
  have h3 : s2.canonical = true → Tab.wf (fun _ => CamState.init) cams = true :=
    fun c => Tab.mapV_wf _ (fun _ c => c.newStream) _ (State.canonical_cam s2 c)
  exact Frame.set_contain 1073877040 s { s2 with gth := { s2.gth with cams := cams, bandIdx := [] } } c
    (Frame.set_gth' 1073877040 s s2 _ h2 rfl h3) rfl
theorem State.openStream_step (w0 : Nat) (a0 : State) (s : State) (h0 : Frame w0 a0 s) (hw : 1073877040 &&& w0 = 1073877040) : Frame w0 a0 (State.openStream s) :=
  Frame.step _ _ _ _ _ h0 (State.openStream_frame s) hw

theorem State.runSet_frame (s : State) : Frame 1874500660 s (State.runSet s) := by
  unfold State.runSet
  try dsimp only
  repeat' first
    | with_reducible apply Frame.refl
    | with_reducible assumption
    | apply Eq.refl
    | with_reducible exact fun c => Tab.put_wf _ _ _ _ (State.canonical_link _ c)
    | with_reducible exact fun c => Tab.mapV_wf _ _ _ (State.canonical_link _ c)
    | with_reducible exact fun c => Tab.filter_wf _ _ _ (State.canonical_link _ c)
    | with_reducible apply State.activate_step
    | with_reducible apply State.cfgIgnored_step
    | with_reducible apply State.setGrpState_step
    | with_reducible apply State.sendMsg_step
    | with_reducible apply State.setReg48_step
    | with_reducible apply State.openStream_step
    | with_reducible apply Frame.foldl
    | with_reducible apply Frame.foldl_fst
    | split
    | with_reducible apply Frame.ite
    | (with_reducible apply Frame.set_grp; rotate_left; apply Eq.refl; apply Eq.refl)
    | with_reducible apply Frame.set_grp'
    | intro _
    | dsimp only
theorem State.runSet_step (w0 : Nat) (a0 : State) (s : State) (h0 : Frame w0 a0 s) (hw : 1874500660 &&& w0 = 1874500660) : Frame w0 a0 (State.runSet s) :=
  Frame.step _ _ _ _ _ h0 (State.runSet_frame s) hw

theorem execBelRunSet_frame (s : State) : Completes 1874500660 s (execBelRunSet s) := by
  unfold execBelRunSet
  try dsimp only
  repeat' first
    | with_reducible apply Completes.intro
    | with_reducible apply Frame.refl
    | with_reducible assumption
    | apply Eq.refl
    | with_reducible apply State.runSet_step
    | with_reducible apply Frame.foldl
    | with_reducible apply Frame.foldl_fst
    | split
    | with_reducible apply Frame.ite
    | intro _
    | dsimp only
theorem execBelRunSet_after (w0 : Nat) (a0 : State) (s : State) (h0 : Frame w0 a0 s) (hw : 1874500660 &&& w0 = 1874500660) : Completes w0 a0 (execBelRunSet s) :=
  Completes.step _ _ _ _ _ h0 (execBelRunSet_frame s) hw

theorem State.streamWrite_frame (s : State) (aborted : Bool) (f : State → State) : ∀ w0 a0, Frame w0 a0 s → (∀ t, Frame w0 a0 t → Frame w0 a0 (f t)) → 134218804 &&& w0 = 134218804 → Frame w0 a0 (State.streamWrite s aborted f) := by
  intro w0 a0 h hf hw
  unfold State.streamWrite
  split
  · exact Frame.step _ 48 _ _ _ h (State.cfgIgnored_frame _) (bit_mask_sub _ _ _ (by decide) hw)
  · split
    · refine hf _ (Frame.step _ 134218804 _ _ _ h ?_ hw)
      exact State.sendMsg_step _ _ _ _ _ (Frame.refl _ _) rfl
    · exact hf _ h

theorem State.writeEos_frame (s : State) : Frame 135803956 s (State.writeEos s) := by
  unfold State.writeEos
  try dsimp only
  repeat' first
    | with_reducible apply Frame.refl
    | with_reducible assumption
    | apply Eq.refl
    | with_reducible refine State.streamWrite_frame _ _ _ _ _ ?_ ?_ ?_
    | with_reducible apply State.endStream_step
    | with_reducible apply Frame.foldl
    | with_reducible apply Frame.foldl_fst
    | split
    | with_reducible apply Frame.ite
    | intro _
    | dsimp only
theorem State.writeEos_step (w0 : Nat) (a0 : State) (s : State) (h0 : Frame w0 a0 s) (hw : 135803956 &&& w0 = 135803956) : Frame w0 a0 (State.writeEos s) :=
  Frame.step _ _ _ _ _ h0 (State.writeEos_frame s) hw

theorem State.writeAbort_frame (s : State) : Frame 135935028 s (State.writeAbort s) := by
  unfold State.writeAbort
  try dsimp only
  repeat' first
    | with_reducible apply Frame.refl
    | with_reducible assumption
    | apply Eq.refl
    | with_reducible refine State.streamWrite_frame _ _ _ _ _ ?_ ?_ ?_
    | with_reducible apply State.abortStream_step
    | with_reducible apply Frame.foldl
    | with_reducible apply Frame.foldl_fst
    | split
    | with_reducible apply Frame.ite
    | intro _
    | dsimp only
theorem State.writeAbort_step (w0 : Nat) (a0 : State) (s : State) (h0 : Frame w0 a0 s) (hw : 135935028 &&& w0 = 135935028) : Frame w0 a0 (State.writeAbort s) :=
  Frame.step _ _ _ _ _ h0 (State.writeAbort_frame s) hw

theorem execBelRunClear_frame (s : State) : Completes 135803956 s (execBelRunClear s) := by
  unfold execBelRunClear
  try dsimp only
  repeat' first
    | with_reducible apply Completes.intro
    | with_reducible apply Frame.refl
    | with_reducible assumption
    | apply Eq.refl
    | with_reducible apply State.writeEos_step
    | with_reducible apply Frame.foldl
    | with_reducible apply Frame.foldl_fst
    | split
    | with_reducible apply Frame.ite
    | intro _
    | dsimp only
theorem execBelRunClear_after (w0 : Nat) (a0 : State) (s : State) (h0 : Frame w0 a0 s) (hw : 135803956 &&& w0 = 135803956) : Completes w0 a0 (execBelRunClear s) :=
  Completes.step _ _ _ _ _ h0 (execBelRunClear_frame s) hw

theorem execBelEos_frame (s : State) : Completes 135803956 s (execBelEos s) := by
  unfold execBelEos
  try dsimp only
  repeat' first
    | with_reducible apply Completes.intro
    | with_reducible apply Frame.refl
    | with_reducible assumption
    | apply Eq.refl
    | with_reducible apply State.writeEos_step
    | with_reducible apply Frame.foldl
    | with_reducible apply Frame.foldl_fst
    | split
    | with_reducible apply Frame.ite
    | intro _
    | dsimp only
theorem execBelEos_after (w0 : Nat) (a0 : State) (s : State) (h0 : Frame w0 a0 s) (hw : 135803956 &&& w0 = 135803956) : Completes w0 a0 (execBelEos s) :=
  Completes.step _ _ _ _ _ h0 (execBelEos_frame s) hw

theorem execBelAbort_frame (s : State) : Completes 135935028 s (execBelAbort s) := by
  unfold execBelAbort
  try dsimp only
  repeat' first
    | with_reducible apply Completes.intro
    | with_reducible apply Frame.refl
    | with_reducible assumption
    | apply Eq.refl
    | with_reducible apply State.writeAbort_step
    | with_reducible apply Frame.foldl
    | with_reducible apply Frame.foldl_fst
    | split
    | with_reducible apply Frame.ite
    | intro _
    | dsimp only
theorem execBelAbort_after (w0 : Nat) (a0 : State) (s : State) (h0 : Frame w0 a0 s) (hw : 135935028 &&& w0 = 135935028) : Completes w0 a0 (execBelAbort s) :=
  Completes.step _ _ _ _ _ h0 (execBelAbort_frame s) hw

theorem State.writeSource_frame (s : State) (src : Nat) (encSel : Nat) (dir : Bool) : Frame 4144 s (State.writeSource s src encSel dir) := by
  unfold State.writeSource
  try dsimp only
  repeat' first
    | with_reducible apply Frame.refl
    | with_reducible assumption
    | apply Eq.refl
    | with_reducible apply State.cfgIgnored_step
    | with_reducible apply State.setReg_step
    | with_reducible apply State.updBell_step
    | with_reducible apply Frame.foldl
    | with_reducible apply Frame.foldl_fst
    | split
    | with_reducible apply Frame.ite
    | intro _
    | dsimp only
theorem State.writeSource_step (w0 : Nat) (a0 : State) (s : State) (src : Nat) (encSel : Nat) (dir : Bool) (h0 : Frame w0 a0 s) (hw : 4144 &&& w0 = 4144) : Frame w0 a0 (State.writeSource s src encSel dir) :=
  Frame.step _ _ _ _ _ h0 (State.writeSource_frame s src encSel dir) hw

theorem execBelCtrlConfigWrite_frame (src : BitVec 2) (encSel : BitVec 2) (encDir : Bool) (s : State) : Completes 4144 s (execBelCtrlConfigWrite src encSel encDir s) := by
  unfold execBelCtrlConfigWrite
  try dsimp only
  repeat' first
    | with_reducible apply Completes.intro
    | with_reducible apply Frame.refl
    | with_reducible assumption
    | apply Eq.refl
    | with_reducible apply State.writeSource_step
    | with_reducible apply Frame.foldl
    | with_reducible apply Frame.foldl_fst
    | split
    | with_reducible apply Frame.ite
    | intro _
    | dsimp only
theorem execBelCtrlConfigWrite_after (w0 : Nat) (a0 : State) (src : BitVec 2) (encSel : BitVec 2) (encDir : Bool) (s : State) (h0 : Frame w0 a0 s) (hw : 4144 &&& w0 = 4144) : Completes w0 a0 (execBelCtrlConfigWrite src encSel encDir s) :=
  Completes.step _ _ _ _ _ h0 (execBelCtrlConfigWrite_frame src encSel encDir s) hw

theorem State.writeEncDiv_frame (s : State) (v : Word) : Frame 16 s (State.writeEncDiv s v) := by
  unfold State.writeEncDiv
  try dsimp only
  repeat' first
    | with_reducible apply Frame.refl
    | with_reducible assumption
    | apply Eq.refl
    | with_reducible apply State.setRegN_step
    | with_reducible apply Frame.foldl
    | with_reducible apply Frame.foldl_fst
    | split
    | with_reducible apply Frame.ite
    | intro _
    | dsimp only
theorem State.writeEncDiv_step (w0 : Nat) (a0 : State) (s : State) (v : Word) (h0 : Frame w0 a0 s) (hw : 16 &&& w0 = 16) : Frame w0 a0 (State.writeEncDiv s v) :=
  Frame.step _ _ _ _ _ h0 (State.writeEncDiv_frame s v) hw

theorem execBelEncDivWrite_frame (v : Word) (s : State) : Completes 16 s (execBelEncDivWrite v s) := by
  unfold execBelEncDivWrite
  try dsimp only
  repeat' first
    | with_reducible apply Completes.intro
    | with_reducible apply Frame.refl
    | with_reducible assumption
    | apply Eq.refl
    | with_reducible apply State.writeEncDiv_step
    | with_reducible apply Frame.foldl
    | with_reducible apply Frame.foldl_fst
    | split
    | with_reducible apply Frame.ite
    | intro _
    | dsimp only
theorem execBelEncDivWrite_after (w0 : Nat) (a0 : State) (v : Word) (s : State) (h0 : Frame w0 a0 s) (hw : 16 &&& w0 = 16) : Completes w0 a0 (execBelEncDivWrite v s) :=
  Completes.step _ _ _ _ _ h0 (execBelEncDivWrite_frame v s) hw

theorem State.writeRevHyst_frame (s : State) (v : Word) : Frame 135935028 s (State.writeRevHyst s v) := by
  unfold State.writeRevHyst
  try dsimp only
  repeat' first
    | with_reducible apply Frame.refl
    | with_reducible assumption
    | apply Eq.refl
    | with_reducible apply State.reversalCheck_step
    | with_reducible apply State.setRegN_step
    | with_reducible apply Frame.foldl
    | with_reducible apply Frame.foldl_fst
    | split
    | with_reducible apply Frame.ite
    | intro _
    | dsimp only
theorem State.writeRevHyst_step (w0 : Nat) (a0 : State) (s : State) (v : Word) (h0 : Frame w0 a0 s) (hw : 135935028 &&& w0 = 135935028) : Frame w0 a0 (State.writeRevHyst s v) :=
  Frame.step _ _ _ _ _ h0 (State.writeRevHyst_frame s v) hw

theorem execBelRevHystWrite_frame (v : Word) (s : State) : Completes 135935028 s (execBelRevHystWrite v s) := by
  unfold execBelRevHystWrite
  try dsimp only
  repeat' first
    | with_reducible apply Completes.intro
    | with_reducible apply Frame.refl
    | with_reducible assumption
    | apply Eq.refl
    | with_reducible apply State.writeRevHyst_step
    | with_reducible apply Frame.foldl
    | with_reducible apply Frame.foldl_fst
    | split
    | with_reducible apply Frame.ite
    | intro _
    | dsimp only
theorem execBelRevHystWrite_after (w0 : Nat) (a0 : State) (v : Word) (s : State) (h0 : Frame w0 a0 s) (hw : 135935028 &&& w0 = 135935028) : Completes w0 a0 (execBelRevHystWrite v s) :=
  Completes.step _ _ _ _ _ h0 (execBelRevHystWrite_frame v s) hw

theorem State.writeTimerPeriod_frame (s : State) (v : Word) : Frame 4112 s (State.writeTimerPeriod s v) := by
  unfold State.writeTimerPeriod
  try dsimp only
  repeat' first
    | with_reducible apply Frame.refl
    | with_reducible assumption
    | apply Eq.refl
    | with_reducible apply State.updBell_step
    | with_reducible apply State.setRegN_step
    | with_reducible apply Frame.foldl
    | with_reducible apply Frame.foldl_fst
    | split
    | with_reducible apply Frame.ite
    | intro _
    | dsimp only
theorem State.writeTimerPeriod_step (w0 : Nat) (a0 : State) (s : State) (v : Word) (h0 : Frame w0 a0 s) (hw : 4112 &&& w0 = 4112) : Frame w0 a0 (State.writeTimerPeriod s v) :=
  Frame.step _ _ _ _ _ h0 (State.writeTimerPeriod_frame s v) hw

theorem execBelTimerPeriodWrite_frame (v : Word) (s : State) : Completes 4112 s (execBelTimerPeriodWrite v s) := by
  unfold execBelTimerPeriodWrite
  try dsimp only
  repeat' first
    | with_reducible apply Completes.intro
    | with_reducible apply Frame.refl
    | with_reducible assumption
    | apply Eq.refl
    | with_reducible apply State.writeTimerPeriod_step
    | with_reducible apply Frame.foldl
    | with_reducible apply Frame.foldl_fst
    | split
    | with_reducible apply Frame.ite
    | intro _
    | dsimp only
theorem execBelTimerPeriodWrite_after (w0 : Nat) (a0 : State) (v : Word) (s : State) (h0 : Frame w0 a0 s) (hw : 4112 &&& w0 = 4112) : Completes w0 a0 (execBelTimerPeriodWrite v s) :=
  Completes.step _ _ _ _ _ h0 (execBelTimerPeriodWrite_frame v s) hw

theorem State.writeCloseMs_frame (s : State) (v : Word) : Frame 16 s (State.writeCloseMs s v) := by
  unfold State.writeCloseMs
  try dsimp only
  repeat' first
    | with_reducible apply Frame.refl
    | with_reducible assumption
    | apply Eq.refl
    | with_reducible apply State.setRegN_step
    | with_reducible apply Frame.foldl
    | with_reducible apply Frame.foldl_fst
    | split
    | with_reducible apply Frame.ite
    | intro _
    | dsimp only
theorem State.writeCloseMs_step (w0 : Nat) (a0 : State) (s : State) (v : Word) (h0 : Frame w0 a0 s) (hw : 16 &&& w0 = 16) : Frame w0 a0 (State.writeCloseMs s v) :=
  Frame.step _ _ _ _ _ h0 (State.writeCloseMs_frame s v) hw

theorem execLdgCloseMsWrite_frame (v : Word) (s : State) : Completes 16 s (execLdgCloseMsWrite v s) := by
  unfold execLdgCloseMsWrite
  try dsimp only
  repeat' first
    | with_reducible apply Completes.intro
    | with_reducible apply Frame.refl
    | with_reducible assumption
    | apply Eq.refl
    | with_reducible apply State.writeCloseMs_step
    | with_reducible apply Frame.foldl
    | with_reducible apply Frame.foldl_fst
    | split
    | with_reducible apply Frame.ite
    | intro _
    | dsimp only
theorem execLdgCloseMsWrite_after (w0 : Nat) (a0 : State) (v : Word) (s : State) (h0 : Frame w0 a0 s) (hw : 16 &&& w0 = 16) : Completes w0 a0 (execLdgCloseMsWrite v s) :=
  Completes.step _ _ _ _ _ h0 (execLdgCloseMsWrite_frame v s) hw

theorem execCameraLineWaitExpiry_frame (n : Cam) (s : State) : Completes 135216 s (execCameraLineWaitExpiry n s) := by
  unfold execCameraLineWaitExpiry
  try dsimp only
  repeat' first
    | with_reducible apply Completes.intro
    | with_reducible apply Frame.refl
    | with_reducible assumption
    | apply Eq.refl
    | with_reducible apply State.closeMissing_step
    | with_reducible apply State.setCam_step
    | with_reducible apply Frame.foldl
    | with_reducible apply Frame.foldl_fst
    | split
    | with_reducible apply Frame.ite
    | intro _
    | dsimp only
theorem execCameraLineWaitExpiry_after (w0 : Nat) (a0 : State) (n : Cam) (s : State) (h0 : Frame w0 a0 s) (hw : 135216 &&& w0 = 135216) : Completes w0 a0 (execCameraLineWaitExpiry n s) :=
  Completes.step _ _ _ _ _ h0 (execCameraLineWaitExpiry_frame n s) hw

theorem State.endExpiry_frame (s : State) (n : Nat) : Frame 135216 s (State.endExpiry s n) := by
  unfold State.endExpiry
  try dsimp only
  repeat' first
    | with_reducible apply Frame.refl
    | with_reducible assumption
    | apply Eq.refl
    | with_reducible apply State.closeMissing_step
    | with_reducible apply State.setCam_step
    | with_reducible apply Frame.foldl
    | with_reducible apply Frame.foldl_fst
    | split
    | with_reducible apply Frame.ite
    | intro _
    | dsimp only
theorem State.endExpiry_step (w0 : Nat) (a0 : State) (s : State) (n : Nat) (h0 : Frame w0 a0 s) (hw : 135216 &&& w0 = 135216) : Frame w0 a0 (State.endExpiry s n) :=
  Frame.step _ _ _ _ _ h0 (State.endExpiry_frame s n) hw

theorem State.closeTicks_frame (s : State) (b : W48) : Frame 135216 s (State.closeTicks s b) := by
  unfold State.closeTicks
  try dsimp only
  repeat' first
    | with_reducible apply Frame.refl
    | with_reducible assumption
    | apply Eq.refl
    | with_reducible apply State.closeMissing_step
    | with_reducible apply Frame.foldl
    | with_reducible apply Frame.foldl_fst
    | split
    | with_reducible apply Frame.ite
    | intro _
    | dsimp only
theorem State.closeTicks_step (w0 : Nat) (a0 : State) (s : State) (b : W48) (h0 : Frame w0 a0 s) (hw : 135216 &&& w0 = 135216) : Frame w0 a0 (State.closeTicks s b) :=
  Frame.step _ _ _ _ _ h0 (State.closeTicks_frame s b) hw

theorem State.gapRecords_frame (s : State) (b : BandRec) : Frame 1705008 s (State.gapRecords s b) := by
  unfold State.gapRecords
  try dsimp only
  repeat' first
    | with_reducible apply Frame.refl
    | with_reducible assumption
    | apply Eq.refl
    | with_reducible apply State.badRecord_step
    | with_reducible apply State.emit_step
    | with_reducible apply State.setCam_step
    | with_reducible apply Frame.foldl
    | with_reducible apply Frame.foldl_fst
    | split
    | with_reducible apply Frame.ite
    | intro _
    | dsimp only
theorem State.gapRecords_step (w0 : Nat) (a0 : State) (s : State) (b : BandRec) (h0 : Frame w0 a0 s) (hw : 1705008 &&& w0 = 1705008) : Frame w0 a0 (State.gapRecords s b) :=
  Frame.step _ _ _ _ _ h0 (State.gapRecords_frame s b) hw

theorem State.ledgerResume_frame (s : State) : Frame 8192 s (State.ledgerResume s) := by
  unfold State.ledgerResume
  try dsimp only
  repeat' first
    | with_reducible apply Frame.refl
    | with_reducible assumption
    | apply Eq.refl
    | with_reducible apply Frame.foldl
    | with_reducible apply Frame.foldl_fst
    | split
    | with_reducible apply Frame.ite
    | with_reducible apply Frame.set_ledger
    | intro _
    | dsimp only
theorem State.ledgerResume_step (w0 : Nat) (a0 : State) (s : State) (h0 : Frame w0 a0 s) (hw : 8192 &&& w0 = 8192) : Frame w0 a0 (State.ledgerResume s) :=
  Frame.step _ _ _ _ _ h0 (State.ledgerResume_frame s) hw

theorem State.nextInterval_frame (s : State) : Frame 4112 s (State.nextInterval s) := by
  unfold State.nextInterval
  try dsimp only
  repeat' first
    | with_reducible apply Frame.refl
    | with_reducible assumption
    | apply Eq.refl
    | with_reducible apply State.updBell_step
    | with_reducible apply State.closeInterval_step
    | with_reducible apply Frame.foldl
    | with_reducible apply Frame.foldl_fst
    | split
    | with_reducible apply Frame.ite
    | intro _
    | dsimp only
theorem State.nextInterval_step (w0 : Nat) (a0 : State) (s : State) (h0 : Frame w0 a0 s) (hw : 4112 &&& w0 = 4112) : Frame w0 a0 (State.nextInterval s) :=
  Frame.step _ _ _ _ _ h0 (State.nextInterval_frame s) hw

theorem State.judgedRegs_frame (s : State) (j : Judged) : Frame 48 s (State.judgedRegs s j) := by
  unfold State.judgedRegs
  try dsimp only
  repeat' first
    | with_reducible apply Frame.refl
    | with_reducible assumption
    | apply Eq.refl
    | with_reducible apply State.minReg_step
    | with_reducible apply State.setRegN_step
    | with_reducible apply State.setBits_step
    | with_reducible apply State.count_step
    | with_reducible apply Frame.foldl
    | with_reducible apply Frame.foldl_fst
    | split
    | with_reducible apply Frame.ite
    | intro _
    | dsimp only
theorem State.judgedRegs_step (w0 : Nat) (a0 : State) (s : State) (j : Judged) (h0 : Frame w0 a0 s) (hw : 48 &&& w0 = 48) : Frame w0 a0 (State.judgedRegs s j) :=
  Frame.step _ _ _ _ _ h0 (State.judgedRegs_frame s j) hw

theorem State.rescaleAt_frame (s : State) (b : W48) : Frame 131088 s (State.rescaleAt s b) := by
  unfold State.rescaleAt
  try dsimp only
  repeat' first
    | with_reducible apply Frame.refl
    | with_reducible assumption
    | apply Eq.refl
    | with_reducible apply State.setCam_step
    | with_reducible apply State.setReg_step
    | with_reducible apply Frame.foldl
    | with_reducible apply Frame.foldl_fst
    | split
    | with_reducible apply Frame.ite
    | intro _
    | dsimp only
theorem State.rescaleAt_step (w0 : Nat) (a0 : State) (s : State) (b : W48) (h0 : Frame w0 a0 s) (hw : 131088 &&& w0 = 131088) : Frame w0 a0 (State.rescaleAt s b) :=
  Frame.step _ _ _ _ _ h0 (State.rescaleAt_frame s b) hw

theorem State.admitBand_frame (s : State) (b : BandRec) : Frame 666541104 s (State.admitBand s b) := by
  unfold State.admitBand
  try dsimp only
  repeat' first
    | with_reducible apply Frame.refl
    | with_reducible assumption
    | apply Eq.refl
    | with_reducible apply State.updBand_step
    | with_reducible apply State.pushSend_step
    | with_reducible apply State.updBell_step
    | with_reducible apply State.rescaleAt_step
    | with_reducible apply State.openWindow_step
    | with_reducible apply Frame.foldl
    | with_reducible apply Frame.foldl_fst
    | split
    | with_reducible apply Frame.ite
    | intro _
    | dsimp only
theorem State.admitBand_step (w0 : Nat) (a0 : State) (s : State) (b : BandRec) (h0 : Frame w0 a0 s) (hw : 666541104 &&& w0 = 666541104) : Frame w0 a0 (State.admitBand s b) :=
  Frame.step _ _ _ _ _ h0 (State.admitBand_frame s b) hw

theorem State.shedBand_frame (s : State) (b : BandRec) (v : Verdict) : Frame 1717296 s (State.shedBand s b v) := by
  unfold State.shedBand
  try dsimp only
  repeat' first
    | with_reducible apply Frame.refl
    | with_reducible assumption
    | apply Eq.refl
    | with_reducible apply State.finalise_step
    | with_reducible apply State.dropLines_step
    | with_reducible apply State.verdictWhere_step
    | with_reducible apply Frame.foldl
    | with_reducible apply Frame.foldl_fst
    | split
    | with_reducible apply Frame.ite
    | intro _
    | dsimp only
theorem State.shedBand_step (w0 : Nat) (a0 : State) (s : State) (b : BandRec) (v : Verdict) (h0 : Frame w0 a0 s) (hw : 1717296 &&& w0 = 1717296) : Frame w0 a0 (State.shedBand s b v) :=
  Frame.step _ _ _ _ _ h0 (State.shedBand_frame s b v) hw

theorem State.rang_frame (s : State) (band : Bool) : Frame 16781312 s (State.rang s band) := by
  unfold State.rang
  try dsimp only
  repeat' first
    | with_reducible apply Frame.refl
    | with_reducible assumption
    | apply Eq.refl
    | with_reducible apply State.updBell_step
    | with_reducible apply State.updLoad_step
    | with_reducible apply Frame.foldl
    | with_reducible apply Frame.foldl_fst
    | split
    | with_reducible apply Frame.ite
    | intro _
    | dsimp only
theorem State.rang_step (w0 : Nat) (a0 : State) (s : State) (band : Bool) (h0 : Frame w0 a0 s) (hw : 16781312 &&& w0 = 16781312) : Frame w0 a0 (State.rang s band) :=
  Frame.step _ _ _ _ _ h0 (State.rang_frame s band) hw

theorem State.groupBell_frame (s : State) (m : BellMsg) : Frame 134218756 s (State.groupBell s m) := by
  unfold State.groupBell
  try dsimp only
  repeat' first
    | with_reducible apply Frame.refl
    | with_reducible assumption
    | apply Eq.refl
    | with_reducible exact fun c => Tab.put_wf _ _ _ _ (State.canonical_link _ c)
    | with_reducible exact fun c => Tab.mapV_wf _ _ _ (State.canonical_link _ c)
    | with_reducible exact fun c => Tab.filter_wf _ _ _ (State.canonical_link _ c)
    | with_reducible apply State.sendBell_step
    | with_reducible apply Frame.foldl
    | with_reducible apply Frame.foldl_fst
    | split
    | with_reducible apply Frame.ite
    | (with_reducible apply Frame.set_grp; rotate_left; apply Eq.refl; apply Eq.refl)
    | with_reducible apply Frame.set_grp'
    | intro _
    | dsimp only
theorem State.groupBell_step (w0 : Nat) (a0 : State) (s : State) (m : BellMsg) (h0 : Frame w0 a0 s) (hw : 134218756 &&& w0 = 134218756) : Frame w0 a0 (State.groupBell s m) :=
  Frame.step _ _ _ _ _ h0 (State.groupBell_frame s m) hw

theorem State.groupStart_frame (s : State) (b : W48) : Frame 1207959552 s (State.groupStart s b) := by
  unfold State.groupStart
  split
  · extract_lets src c src2 g
    split
    · exact Frame.set_grp 1207959552 s { s with contain := c } g (Frame.set_contain 1207959552 s s c (Frame.refl _ _) rfl) rfl rfl
    · exact Frame.refl _ _
  · exact Frame.refl _ _
theorem State.groupStart_step (w0 : Nat) (a0 : State) (s : State) (b : W48) (h0 : Frame w0 a0 s) (hw : 1207959552 &&& w0 = 1207959552) : Frame w0 a0 (State.groupStart s b) :=
  Frame.step _ _ _ _ _ h0 (State.groupStart_frame s b) hw

theorem State.ringBand_frame (s : State) (b0 : BandRec) : Frame 1874508852 s (State.ringBand s b0) := by
  unfold State.ringBand
  try dsimp only
  repeat' first
    | with_reducible apply Frame.refl
    | with_reducible assumption
    | apply Eq.refl
    | with_reducible apply State.closeTicks_step
    | with_reducible apply State.groupStart_step
    | with_reducible apply State.gapRecords_step
    | with_reducible apply State.ledgerResume_step
    | with_reducible apply State.nextInterval_step
    | with_reducible apply State.shedBand_step
    | with_reducible apply State.judgedRegs_step
    | with_reducible apply State.groupBell_step
    | with_reducible apply State.admitBand_step
    | with_reducible apply State.maybeDrain_step
    | with_reducible apply State.rang_step
    | with_reducible apply Frame.foldl
    | with_reducible apply Frame.foldl_fst
    | split
    | with_reducible apply Frame.ite
    | intro _
    | dsimp only
theorem State.ringBand_step (w0 : Nat) (a0 : State) (s : State) (b0 : BandRec) (h0 : Frame w0 a0 s) (hw : 1874508852 &&& w0 = 1874508852) : Frame w0 a0 (State.ringBand s b0) :=
  Frame.step _ _ _ _ _ h0 (State.ringBand_frame s b0) hw

theorem State.bandBell_frame (s : State) : Frame 1874508852 s (State.bandBell s) := by
  unfold State.bandBell
  try dsimp only
  repeat' first
    | with_reducible apply Frame.refl
    | with_reducible assumption
    | apply Eq.refl
    | with_reducible apply State.updBell_step
    | with_reducible apply State.ringBand_step
    | with_reducible apply Frame.foldl
    | with_reducible apply Frame.foldl_fst
    | split
    | with_reducible apply Frame.ite
    | intro _
    | dsimp only
theorem State.bandBell_step (w0 : Nat) (a0 : State) (s : State) (h0 : Frame w0 a0 s) (hw : 1874508852 &&& w0 = 1874508852) : Frame w0 a0 (State.bandBell s) :=
  Frame.step _ _ _ _ _ h0 (State.bandBell_frame s) hw

theorem State.endBell_frame (s : State) : Frame 1874508852 s (State.endBell s) := by
  unfold State.endBell
  try dsimp only
  repeat' first
    | with_reducible apply Frame.refl
    | with_reducible assumption
    | apply Eq.refl
    | with_reducible apply State.updBell_step
    | with_reducible apply State.ringBand_step
    | with_reducible apply Frame.foldl
    | with_reducible apply Frame.foldl_fst
    | split
    | with_reducible apply Frame.ite
    | intro _
    | dsimp only
theorem State.endBell_step (w0 : Nat) (a0 : State) (s : State) (h0 : Frame w0 a0 s) (hw : 1874508852 &&& w0 = 1874508852) : Frame w0 a0 (State.endBell s) :=
  Frame.step _ _ _ _ _ h0 (State.endBell_frame s) hw

theorem State.closeWaits_frame (s : State) : Frame 1874508852 s (State.closeWaits s) := by
  unfold State.closeWaits
  try dsimp only
  repeat' first
    | with_reducible apply Frame.refl
    | with_reducible assumption
    | apply Eq.refl
    | with_reducible apply State.endBell_step
    | with_reducible apply State.endExpiry_step
    | with_reducible apply Frame.foldl
    | with_reducible apply Frame.foldl_fst
    | split
    | with_reducible apply Frame.ite
    | intro _
    | dsimp only
theorem State.closeWaits_step (w0 : Nat) (a0 : State) (s : State) (h0 : Frame w0 a0 s) (hw : 1874508852 &&& w0 = 1874508852) : Frame w0 a0 (State.closeWaits s) :=
  Frame.step _ _ _ _ _ h0 (State.closeWaits_frame s) hw

theorem execBandBell_frame (s : State) : Completes 1874508852 s (execBandBell s) := by
  unfold execBandBell
  try dsimp only
  repeat' first
    | with_reducible apply Completes.intro
    | with_reducible apply Frame.refl
    | with_reducible assumption
    | apply Eq.refl
    | with_reducible apply State.bandBell_step
    | with_reducible apply Frame.foldl
    | with_reducible apply Frame.foldl_fst
    | split
    | with_reducible apply Frame.ite
    | intro _
    | dsimp only
theorem execBandBell_after (w0 : Nat) (a0 : State) (s : State) (h0 : Frame w0 a0 s) (hw : 1874508852 &&& w0 = 1874508852) : Completes w0 a0 (execBandBell s) :=
  Completes.step _ _ _ _ _ h0 (execBandBell_frame s) hw

theorem State.idleBell_frame (s : State) : Frame 151008308 s (State.idleBell s) := by
  unfold State.idleBell
  try dsimp only
  repeat' first
    | with_reducible apply Frame.refl
    | with_reducible assumption
    | apply Eq.refl
    | with_reducible apply State.pushSend_step
    | with_reducible apply State.count_step
    | with_reducible apply State.useFree_step
    | with_reducible apply State.ledgerResume_step
    | with_reducible apply State.rang_step
    | with_reducible apply State.groupBell_step
    | with_reducible apply Frame.foldl
    | with_reducible apply Frame.foldl_fst
    | split
    | with_reducible apply Frame.ite
    | intro _
    | dsimp only
theorem State.idleBell_step (w0 : Nat) (a0 : State) (s : State) (h0 : Frame w0 a0 s) (hw : 151008308 &&& w0 = 151008308) : Frame w0 a0 (State.idleBell s) :=
  Frame.step _ _ _ _ _ h0 (State.idleBell_frame s) hw

theorem execIdleBell_frame (s : State) : Completes 151008308 s (execIdleBell s) := by
  unfold execIdleBell
  try dsimp only
  repeat' first
    | with_reducible apply Completes.intro
    | with_reducible apply Frame.refl
    | with_reducible assumption
    | apply Eq.refl
    | with_reducible apply State.idleBell_step
    | with_reducible apply Frame.foldl
    | with_reducible apply Frame.foldl_fst
    | split
    | with_reducible apply Frame.ite
    | intro _
    | dsimp only
theorem execIdleBell_after (w0 : Nat) (a0 : State) (s : State) (h0 : Frame w0 a0 s) (hw : 151008308 &&& w0 = 151008308) : Completes w0 a0 (execIdleBell s) :=
  Completes.step _ _ _ _ _ h0 (execIdleBell_frame s) hw

theorem State.drainBell_frame (s : State) : Frame 151008308 s (State.drainBell s) := by
  unfold State.drainBell
  try dsimp only
  repeat' first
    | with_reducible apply Frame.refl
    | with_reducible assumption
    | apply Eq.refl
    | with_reducible apply State.updBell_step
    | with_reducible apply State.count_step
    | with_reducible apply State.useFree_step
    | with_reducible apply State.ledgerResume_step
    | with_reducible apply State.rang_step
    | with_reducible apply State.groupBell_step
    | with_reducible apply State.pushSend_step
    | with_reducible apply Frame.foldl
    | with_reducible apply Frame.foldl_fst
    | split
    | with_reducible apply Frame.ite
    | intro _
    | dsimp only
theorem State.drainBell_step (w0 : Nat) (a0 : State) (s : State) (h0 : Frame w0 a0 s) (hw : 151008308 &&& w0 = 151008308) : Frame w0 a0 (State.drainBell s) :=
  Frame.step _ _ _ _ _ h0 (State.drainBell_frame s) hw

theorem execDrainBell_frame (s : State) : Completes 151008308 s (execDrainBell s) := by
  unfold execDrainBell
  try dsimp only
  repeat' first
    | with_reducible apply Completes.intro
    | with_reducible apply Frame.refl
    | with_reducible assumption
    | apply Eq.refl
    | with_reducible apply State.drainBell_step
    | with_reducible apply Frame.foldl
    | with_reducible apply Frame.foldl_fst
    | split
    | with_reducible apply Frame.ite
    | intro _
    | dsimp only
theorem execDrainBell_after (w0 : Nat) (a0 : State) (s : State) (h0 : Frame w0 a0 s) (hw : 151008308 &&& w0 = 151008308) : Completes w0 a0 (execDrainBell s) :=
  Completes.step _ _ _ _ _ h0 (execDrainBell_frame s) hw

theorem execDrainComplete_frame (s : State) : Completes 801029172 s (execDrainComplete s) := by
  unfold execDrainComplete
  try dsimp only
  repeat' first
    | with_reducible apply Completes.intro
    | with_reducible apply Frame.refl
    | with_reducible assumption
    | apply Eq.refl
    | with_reducible apply State.endDrain_step
    | with_reducible apply Frame.foldl
    | with_reducible apply Frame.foldl_fst
    | split
    | with_reducible apply Frame.ite
    | intro _
    | dsimp only
theorem execDrainComplete_after (w0 : Nat) (a0 : State) (s : State) (h0 : Frame w0 a0 s) (hw : 801029172 &&& w0 = 801029172) : Completes w0 a0 (execDrainComplete s) :=
  Completes.step _ _ _ _ _ h0 (execDrainComplete_frame s) hw

theorem execDrainTimeout_frame (s : State) : Completes 1209586740 s (execDrainTimeout s) := by
  unfold execDrainTimeout
  try dsimp only
  repeat' first
    | with_reducible apply Completes.intro
    | with_reducible apply Frame.refl
    | with_reducible assumption
    | apply Eq.refl
    | with_reducible apply State.faultContain_step
    | with_reducible apply Frame.foldl
    | with_reducible apply Frame.foldl_fst
    | split
    | with_reducible apply Frame.ite
    | intro _
    | dsimp only
theorem execDrainTimeout_after (w0 : Nat) (a0 : State) (s : State) (h0 : Frame w0 a0 s) (hw : 1209586740 &&& w0 = 1209586740) : Completes w0 a0 (execDrainTimeout s) :=
  Completes.step _ _ _ _ _ h0 (execDrainTimeout_frame s) hw

theorem State.setFrozen_frame (s : State) (v : Bool) (edges : List (Nat × Bool)) : Frame 16384 s (State.setFrozen s v edges) := by
  unfold State.setFrozen
  try dsimp only
  repeat' first
    | with_reducible apply Frame.refl
    | with_reducible assumption
    | apply Eq.refl
    | with_reducible apply Frame.foldl
    | with_reducible apply Frame.foldl_fst
    | split
    | with_reducible apply Frame.ite
    | with_reducible apply Frame.set_hold
    | intro _
    | dsimp only
theorem State.setFrozen_step (w0 : Nat) (a0 : State) (s : State) (v : Bool) (edges : List (Nat × Bool)) (h0 : Frame w0 a0 s) (hw : 16384 &&& w0 = 16384) : Frame w0 a0 (State.setFrozen s v edges) :=
  Frame.step _ _ _ _ _ h0 (State.setFrozen_frame s v edges) hw

theorem State.holdEdge_frame (s : State) (up : Bool) : Frame 16384 s (State.holdEdge s up) := by
  unfold State.holdEdge
  try dsimp only
  repeat' first
    | with_reducible apply Frame.refl
    | with_reducible assumption
    | apply Eq.refl
    | with_reducible apply State.setFrozen_step
    | with_reducible apply Frame.foldl
    | with_reducible apply Frame.foldl_fst
    | split
    | with_reducible apply Frame.ite
    | intro _
    | dsimp only
theorem State.holdEdge_step (w0 : Nat) (a0 : State) (s : State) (up : Bool) (h0 : Frame w0 a0 s) (hw : 16384 &&& w0 = 16384) : Frame w0 a0 (State.holdEdge s up) :=
  Frame.step _ _ _ _ _ h0 (State.holdEdge_frame s up) hw

theorem execHoldFreeze_frame (s : State) : Completes 16384 s (execHoldFreeze s) := by
  unfold execHoldFreeze
  try dsimp only
  repeat' first
    | with_reducible apply Completes.intro
    | with_reducible apply Frame.refl
    | with_reducible assumption
    | apply Eq.refl
    | with_reducible apply State.holdEdge_step
    | with_reducible apply Frame.foldl
    | with_reducible apply Frame.foldl_fst
    | split
    | with_reducible apply Frame.ite
    | intro _
    | dsimp only
theorem execHoldFreeze_after (w0 : Nat) (a0 : State) (s : State) (h0 : Frame w0 a0 s) (hw : 16384 &&& w0 = 16384) : Completes w0 a0 (execHoldFreeze s) :=
  Completes.step _ _ _ _ _ h0 (execHoldFreeze_frame s) hw

theorem execHoldResume_frame (s : State) : Completes 16384 s (execHoldResume s) := by
  unfold execHoldResume
  try dsimp only
  repeat' first
    | with_reducible apply Completes.intro
    | with_reducible apply Frame.refl
    | with_reducible assumption
    | apply Eq.refl
    | with_reducible apply State.holdEdge_step
    | with_reducible apply Frame.foldl
    | with_reducible apply Frame.foldl_fst
    | split
    | with_reducible apply Frame.ite
    | intro _
    | dsimp only
theorem execHoldResume_after (w0 : Nat) (a0 : State) (s : State) (h0 : Frame w0 a0 s) (hw : 16384 &&& w0 = 16384) : Completes w0 a0 (execHoldResume s) :=
  Completes.step _ _ _ _ _ h0 (execHoldResume_frame s) hw

theorem execHoldTimeout_frame (s : State) : Completes 1209586740 s (execHoldTimeout s) := by
  unfold execHoldTimeout
  try dsimp only
  repeat' first
    | with_reducible apply Completes.intro
    | with_reducible apply Frame.refl
    | with_reducible assumption
    | apply Eq.refl
    | with_reducible apply State.setBits_step
    | with_reducible apply State.tileFault_step
    | with_reducible apply Frame.foldl
    | with_reducible apply Frame.foldl_fst
    | split
    | with_reducible apply Frame.ite
    | intro _
    | dsimp only
theorem execHoldTimeout_after (w0 : Nat) (a0 : State) (s : State) (h0 : Frame w0 a0 s) (hw : 1209586740 &&& w0 = 1209586740) : Completes w0 a0 (execHoldTimeout s) :=
  Completes.step _ _ _ _ _ h0 (execHoldTimeout_frame s) hw

theorem State.bandLeaves_frame (s : State) (n : W48) : Frame 1586224 s (State.bandLeaves s n) := by
  unfold State.bandLeaves
  try dsimp only
  repeat' first
    | with_reducible apply Frame.refl
    | with_reducible assumption
    | apply Eq.refl
    | with_reducible apply State.finalise_step
    | with_reducible apply State.verdictWhere_step
    | with_reducible apply Frame.foldl
    | with_reducible apply Frame.foldl_fst
    | split
    | with_reducible apply Frame.ite
    | intro _
    | dsimp only
theorem State.bandLeaves_step (w0 : Nat) (a0 : State) (s : State) (n : W48) (h0 : Frame w0 a0 s) (hw : 1586224 &&& w0 = 1586224) : Frame w0 a0 (State.bandLeaves s n) :=
  Frame.step _ _ _ _ _ h0 (State.bandLeaves_frame s n) hw

theorem execBandLeavesLastStage_frame (b : W48) (s : State) : Completes 1586224 s (execBandLeavesLastStage b s) := by
  unfold execBandLeavesLastStage
  try dsimp only
  repeat' first
    | with_reducible apply Completes.intro
    | with_reducible apply Frame.refl
    | with_reducible assumption
    | apply Eq.refl
    | with_reducible apply State.bandLeaves_step
    | with_reducible apply Frame.foldl
    | with_reducible apply Frame.foldl_fst
    | split
    | with_reducible apply Frame.ite
    | intro _
    | dsimp only
theorem execBandLeavesLastStage_after (w0 : Nat) (a0 : State) (b : W48) (s : State) (h0 : Frame w0 a0 s) (hw : 1586224 &&& w0 = 1586224) : Completes w0 a0 (execBandLeavesLastStage b s) :=
  Completes.step _ _ _ _ _ h0 (execBandLeavesLastStage_frame b s) hw

theorem execLedgerRunTimeLimit_frame (s : State) : Completes 1582128 s (execLedgerRunTimeLimit s) := by
  unfold execLedgerRunTimeLimit
  try dsimp only
  repeat' first
    | with_reducible apply Completes.intro
    | with_reducible apply Frame.refl
    | with_reducible assumption
    | apply Eq.refl
    | with_reducible apply State.checkFull_step
    | with_reducible apply State.closeRuns_step
    | with_reducible apply Frame.foldl
    | with_reducible apply Frame.foldl_fst
    | split
    | with_reducible apply Frame.ite
    | with_reducible apply Frame.set_ledger
    | intro _
    | dsimp only
theorem execLedgerRunTimeLimit_after (w0 : Nat) (a0 : State) (s : State) (h0 : Frame w0 a0 s) (hw : 1582128 &&& w0 = 1582128) : Completes w0 a0 (execLedgerRunTimeLimit s) :=
  Completes.step _ _ _ _ _ h0 (execLedgerRunTimeLimit_frame s) hw

theorem execCloseNow_frame (s : State) : Completes 8192 s (execCloseNow s) := by
  unfold execCloseNow
  try dsimp only
  repeat' first
    | with_reducible apply Completes.intro
    | with_reducible apply Frame.refl
    | with_reducible assumption
    | apply Eq.refl
    | with_reducible apply Frame.foldl
    | with_reducible apply Frame.foldl_fst
    | split
    | with_reducible apply Frame.ite
    | with_reducible apply Frame.set_ledger
    | intro _
    | dsimp only
theorem execCloseNow_after (w0 : Nat) (a0 : State) (s : State) (h0 : Frame w0 a0 s) (hw : 8192 &&& w0 = 8192) : Completes w0 a0 (execCloseNow s) :=
  Completes.step _ _ _ _ _ h0 (execCloseNow_frame s) hw

theorem execLedgerEntryEnqueue_frame (s : State) : Completes 35136560 s (execLedgerEntryEnqueue s) := by
  unfold execLedgerEntryEnqueue
  try dsimp only
  repeat' first
    | with_reducible apply Completes.intro
    | with_reducible apply Frame.refl
    | with_reducible assumption
    | apply Eq.refl
    | with_reducible apply State.offer_step
    | (with_reducible refine Frame.of_pair (by with_reducible assumption) (State.offer_step _ _ _ _ _ ?_ ?_))
    | with_reducible apply Frame.foldl
    | with_reducible apply Frame.foldl_fst
    | split
    | with_reducible apply Frame.ite
    | with_reducible apply Frame.set_ledger
    | intro _
    | dsimp only
theorem execLedgerEntryEnqueue_after (w0 : Nat) (a0 : State) (s : State) (h0 : Frame w0 a0 s) (hw : 35136560 &&& w0 = 35136560) : Completes w0 a0 (execLedgerEntryEnqueue s) :=
  Completes.step _ _ _ _ _ h0 (execLedgerEntryEnqueue_frame s) hw

end Sys2Proof.Machine
end

