-- ==== Sys2Proof/Laws/F_Gatehouse.lean ====
section
/-!
SUPPORT. Frames of the operations of Machine/Gatehouse.lean.
-/
namespace Sys2Proof.Machine

set_option linter.unusedTactic false
set_option linter.unreachableTactic false
set_option linter.unusedVariables false

theorem State.updCam_frame (s : State) (n : Nat) (f : CamState → CamState) : Frame 131072 s (State.updCam s n f) := by
  unfold State.updCam
  try dsimp only
  repeat' first
    | with_reducible apply Frame.refl
    | with_reducible assumption
    | apply Eq.refl
    | with_reducible apply State.setCam_step
    | with_reducible apply Frame.foldl
    | with_reducible apply Frame.foldl_fst
    | split
    | with_reducible apply Frame.ite
    | intro _
    | dsimp only
theorem State.updCam_step (w0 : Nat) (a0 : State) (s : State) (n : Nat) (f : CamState → CamState) (h0 : Frame w0 a0 s) (hw : 131072 &&& w0 = 131072) : Frame w0 a0 (State.updCam s n f) :=
  Frame.step _ _ _ _ _ h0 (State.updCam_frame s n f) hw

theorem State.camStop_frame (s : State) (n : Nat) : Frame 135216 s (State.camStop s n) := by
  unfold State.camStop
  try dsimp only
  repeat' first
    | with_reducible apply Frame.refl
    | with_reducible assumption
    | apply Eq.refl
    | with_reducible apply State.updCam_step
    | with_reducible apply State.closeMissing_step
    | with_reducible apply Frame.foldl
    | with_reducible apply Frame.foldl_fst
    | split
    | with_reducible apply Frame.ite
    | intro _
    | dsimp only
theorem State.camStop_step (w0 : Nat) (a0 : State) (s : State) (n : Nat) (h0 : Frame w0 a0 s) (hw : 135216 &&& w0 = 135216) : Frame w0 a0 (State.camStop s n) :=
  Frame.step _ _ _ _ _ h0 (State.camStop_frame s n) hw

theorem State.disablePort_frame (s : State) (n : Nat) : Frame 135216 s (State.disablePort s n) := by
  unfold State.disablePort
  try dsimp only
  repeat' first
    | with_reducible apply Frame.refl
    | with_reducible assumption
    | apply Eq.refl
    | with_reducible apply State.camStop_step
    | with_reducible apply State.clrBits_step
    | with_reducible apply Frame.foldl
    | with_reducible apply Frame.foldl_fst
    | split
    | with_reducible apply Frame.ite
    | intro _
    | dsimp only
theorem State.disablePort_step (w0 : Nat) (a0 : State) (s : State) (n : Nat) (h0 : Frame w0 a0 s) (hw : 135216 &&& w0 = 135216) : Frame w0 a0 (State.disablePort s n) :=
  Frame.step _ _ _ _ _ h0 (State.disablePort_frame s n) hw

theorem execCamPortDisable_frame (n : Cam) (s : State) : Completes 135216 s (execCamPortDisable n s) := by
  unfold execCamPortDisable
  try dsimp only
  repeat' first
    | with_reducible apply Completes.intro
    | with_reducible apply Frame.refl
    | with_reducible assumption
    | apply Eq.refl
    | with_reducible apply State.disablePort_step
    | with_reducible apply Frame.foldl
    | with_reducible apply Frame.foldl_fst
    | split
    | with_reducible apply Frame.ite
    | intro _
    | dsimp only
theorem execCamPortDisable_after (w0 : Nat) (a0 : State) (n : Cam) (s : State) (h0 : Frame w0 a0 s) (hw : 135216 &&& w0 = 135216) : Completes w0 a0 (execCamPortDisable n s) :=
  Completes.step _ _ _ _ _ h0 (execCamPortDisable_frame n s) hw

theorem State.loseLink_frame (s : State) (n : Nat) : Frame 131072 s (State.loseLink s n) := by
  unfold State.loseLink
  try dsimp only
  repeat' first
    | with_reducible apply Frame.refl
    | with_reducible assumption
    | apply Eq.refl
    | with_reducible apply State.updCam_step
    | with_reducible apply Frame.foldl
    | with_reducible apply Frame.foldl_fst
    | split
    | with_reducible apply Frame.ite
    | intro _
    | dsimp only
theorem State.loseLink_step (w0 : Nat) (a0 : State) (s : State) (n : Nat) (h0 : Frame w0 a0 s) (hw : 131072 &&& w0 = 131072) : Frame w0 a0 (State.loseLink s n) :=
  Frame.step _ _ _ _ _ h0 (State.loseLink_frame s n) hw

theorem execLinkLockLoss_frame (n : Cam) (s : State) : Completes 131072 s (execLinkLockLoss n s) := by
  unfold execLinkLockLoss
  try dsimp only
  repeat' first
    | with_reducible apply Completes.intro
    | with_reducible apply Frame.refl
    | with_reducible assumption
    | apply Eq.refl
    | with_reducible apply State.loseLink_step
    | with_reducible apply Frame.foldl
    | with_reducible apply Frame.foldl_fst
    | split
    | with_reducible apply Frame.ite
    | intro _
    | dsimp only
theorem execLinkLockLoss_after (w0 : Nat) (a0 : State) (n : Cam) (s : State) (h0 : Frame w0 a0 s) (hw : 131072 &&& w0 = 131072) : Completes w0 a0 (execLinkLockLoss n s) :=
  Completes.step _ _ _ _ _ h0 (execLinkLockLoss_frame n s) hw

theorem execGthLinkTimeout_frame (n : Cam) (s : State) : Completes 131072 s (execGthLinkTimeout n s) := by
  unfold execGthLinkTimeout
  try dsimp only
  repeat' first
    | with_reducible apply Completes.intro
    | with_reducible apply Frame.refl
    | with_reducible assumption
    | apply Eq.refl
    | with_reducible apply State.loseLink_step
    | with_reducible apply Frame.foldl
    | with_reducible apply Frame.foldl_fst
    | split
    | with_reducible apply Frame.ite
    | intro _
    | dsimp only
theorem execGthLinkTimeout_after (w0 : Nat) (a0 : State) (n : Cam) (s : State) (h0 : Frame w0 a0 s) (hw : 131072 &&& w0 = 131072) : Completes w0 a0 (execGthLinkTimeout n s) :=
  Completes.step _ _ _ _ _ h0 (execGthLinkTimeout_frame n s) hw

theorem State.linkUp_frame (s : State) (n : Nat) (speed : Nat) : Frame 131088 s (State.linkUp s n speed) := by
  unfold State.linkUp
  try dsimp only
  repeat' first
    | with_reducible apply Frame.refl
    | with_reducible assumption
    | apply Eq.refl
    | with_reducible apply State.updCam_step
    | with_reducible apply State.setReg_step
    | with_reducible apply Frame.foldl
    | with_reducible apply Frame.foldl_fst
    | split
    | with_reducible apply Frame.ite
    | intro _
    | dsimp only
theorem State.linkUp_step (w0 : Nat) (a0 : State) (s : State) (n : Nat) (speed : Nat) (h0 : Frame w0 a0 s) (hw : 131088 &&& w0 = 131088) : Frame w0 a0 (State.linkUp s n speed) :=
  Frame.step _ _ _ _ _ h0 (State.linkUp_frame s n speed) hw

theorem execLinkReturn_frame (n : Cam) (speed : BitVec 3) (s : State) : Completes 131088 s (execLinkReturn n speed s) := by
  unfold execLinkReturn
  try dsimp only
  repeat' first
    | with_reducible apply Completes.intro
    | with_reducible apply Frame.refl
    | with_reducible assumption
    | apply Eq.refl
    | with_reducible apply State.linkUp_step
    | with_reducible apply Frame.foldl
    | with_reducible apply Frame.foldl_fst
    | split
    | with_reducible apply Frame.ite
    | intro _
    | dsimp only
theorem execLinkReturn_after (w0 : Nat) (a0 : State) (n : Cam) (speed : BitVec 3) (s : State) (h0 : Frame w0 a0 s) (hw : 131088 &&& w0 = 131088) : Completes w0 a0 (execLinkReturn n speed s) :=
  Completes.step _ _ _ _ _ h0 (execLinkReturn_frame n speed s) hw

theorem State.nextFrameLine_frame (s : State) (n : Nat) (o : Option OpenTick) : Frame 131072 s (State.nextFrameLine s n o) := by
  unfold State.nextFrameLine
  try dsimp only
  repeat' first
    | with_reducible apply Frame.refl
    | with_reducible assumption
    | apply Eq.refl
    | with_reducible apply State.updCam_step
    | with_reducible apply Frame.foldl
    | with_reducible apply Frame.foldl_fst
    | split
    | with_reducible apply Frame.ite
    | intro _
    | dsimp only
theorem State.nextFrameLine_step (w0 : Nat) (a0 : State) (s : State) (n : Nat) (o : Option OpenTick) (h0 : Frame w0 a0 s) (hw : 131072 &&& w0 = 131072) : Frame w0 a0 (State.nextFrameLine s n o) :=
  Frame.step _ _ _ _ _ h0 (State.nextFrameLine_frame s n o) hw

theorem State.strayLine_frame (s : State) (n : Nat) : Frame 48 s (State.strayLine s n) := by
  unfold State.strayLine
  try dsimp only
  repeat' first
    | with_reducible apply Frame.refl
    | with_reducible assumption
    | apply Eq.refl
    | with_reducible apply State.count_step
    | with_reducible apply Frame.foldl
    | with_reducible apply Frame.foldl_fst
    | split
    | with_reducible apply Frame.ite
    | intro _
    | dsimp only
theorem State.strayLine_step (w0 : Nat) (a0 : State) (s : State) (n : Nat) (h0 : Frame w0 a0 s) (hw : 48 &&& w0 = 48) : Frame w0 a0 (State.strayLine s n) :=
  Frame.step _ _ _ _ _ h0 (State.strayLine_frame s n) hw

theorem State.storeLine_frame (s : State) (n : Nat) (o : OpenTick) (px : List (BitVec 12)) : Frame 135168 s (State.storeLine s n o px) := by
  unfold State.storeLine
  try dsimp only
  repeat' first
    | with_reducible apply Frame.refl
    | with_reducible assumption
    | apply Eq.refl
    | with_reducible apply State.updCam_step
    | with_reducible apply State.updBand_step
    | with_reducible apply Frame.foldl
    | with_reducible apply Frame.foldl_fst
    | split
    | with_reducible apply Frame.ite
    | intro _
    | dsimp only
theorem State.storeLine_step (w0 : Nat) (a0 : State) (s : State) (n : Nat) (o : OpenTick) (px : List (BitVec 12)) (h0 : Frame w0 a0 s) (hw : 135168 &&& w0 = 135168) : Frame w0 a0 (State.storeLine s n o px) :=
  Frame.step _ _ _ _ _ h0 (State.storeLine_frame s n o px) hw

theorem State.lineArrives_frame (s : State) (n : Nat) (px : List (BitVec 12)) (broken : Bool) : Frame 135216 s (State.lineArrives s n px broken) := by
  unfold State.lineArrives
  try dsimp only
  repeat' first
    | with_reducible apply Frame.refl
    | with_reducible assumption
    | apply Eq.refl
    | with_reducible apply State.count_step
    | with_reducible apply State.nextFrameLine_step
    | with_reducible apply State.strayLine_step
    | with_reducible apply State.closeMissing_step
    | with_reducible apply State.updBand_step
    | with_reducible apply State.storeLine_step
    | with_reducible apply Frame.foldl
    | with_reducible apply Frame.foldl_fst
    | split
    | with_reducible apply Frame.ite
    | intro _
    | dsimp only
theorem State.lineArrives_step (w0 : Nat) (a0 : State) (s : State) (n : Nat) (px : List (BitVec 12)) (broken : Bool) (h0 : Frame w0 a0 s) (hw : 135216 &&& w0 = 135216) : Frame w0 a0 (State.lineArrives s n px broken) :=
  Frame.step _ _ _ _ _ h0 (State.lineArrives_frame s n px broken) hw

theorem State.streamPacket_frame (s : State) (n : Nat) (p : CxpPacket) : Frame 135216 s (State.streamPacket s n p) := by
  unfold State.streamPacket
  try dsimp only
  repeat' first
    | with_reducible apply Frame.refl
    | with_reducible assumption
    | apply Eq.refl
    | with_reducible apply State.updCam_step
    | with_reducible apply State.strayLine_step
    | with_reducible apply State.lineArrives_step
    | with_reducible apply Frame.foldl
    | with_reducible apply Frame.foldl_fst
    | split
    | with_reducible apply Frame.ite
    | intro _
    | dsimp only
theorem State.streamPacket_step (w0 : Nat) (a0 : State) (s : State) (n : Nat) (p : CxpPacket) (h0 : Frame w0 a0 s) (hw : 135216 &&& w0 = 135216) : Frame w0 a0 (State.streamPacket s n p) :=
  Frame.step _ _ _ _ _ h0 (State.streamPacket_frame s n p) hw

theorem execCxpStreamPacket_frame (n : Cam) (p : CxpPacket) (s : State) : Completes 135216 s (execCxpStreamPacket n p s) := by
  unfold execCxpStreamPacket
  try dsimp only
  repeat' first
    | with_reducible apply Completes.intro
    | with_reducible apply Frame.refl
    | with_reducible assumption
    | apply Eq.refl
    | with_reducible apply State.streamPacket_step
    | with_reducible apply Frame.foldl
    | with_reducible apply Frame.foldl_fst
    | split
    | with_reducible apply Frame.ite
    | intro _
    | dsimp only
theorem execCxpStreamPacket_after (w0 : Nat) (a0 : State) (n : Cam) (p : CxpPacket) (s : State) (h0 : Frame w0 a0 s) (hw : 135216 &&& w0 = 135216) : Completes w0 a0 (execCxpStreamPacket n p s) :=
  Completes.step _ _ _ _ _ h0 (execCxpStreamPacket_frame n p s) hw

theorem execCxpControlPacket_frame (n : Cam) (bytes : List Byte) (s : State) : Completes 131072 s (execCxpControlPacket n bytes s) := by
  unfold execCxpControlPacket
  try dsimp only
  repeat' first
    | with_reducible apply Completes.intro
    | with_reducible apply Frame.refl
    | with_reducible assumption
    | apply Eq.refl
    | with_reducible apply State.updCam_step
    | with_reducible apply Frame.foldl
    | with_reducible apply Frame.foldl_fst
    | split
    | with_reducible apply Frame.ite
    | intro _
    | dsimp only
theorem execCxpControlPacket_after (w0 : Nat) (a0 : State) (n : Cam) (bytes : List Byte) (s : State) (h0 : Frame w0 a0 s) (hw : 131072 &&& w0 = 131072) : Completes w0 a0 (execCxpControlPacket n bytes s) :=
  Completes.step _ _ _ _ _ h0 (execCxpControlPacket_frame n bytes s) hw

theorem State.setMains_frame (s : State) (h : Nat) (m : MainsState) : Frame 131072 s (State.setMains s h m) := by
  unfold State.setMains
  try dsimp only
  repeat' first
    | with_reducible apply Frame.refl
    | with_reducible assumption
    | apply Eq.refl
    | with_reducible exact fun c => Tab.put_wf _ _ _ _ (State.canonical_cam _ c)
    | with_reducible exact fun c => Tab.mapV_wf _ _ _ (State.canonical_cam _ c)
    | with_reducible exact fun c => Tab.filter_wf _ _ _ (State.canonical_cam _ c)
    | with_reducible apply Frame.foldl
    | with_reducible apply Frame.foldl_fst
    | split
    | with_reducible apply Frame.ite
    | (with_reducible apply Frame.set_gth; rotate_left; apply Eq.refl; apply Eq.refl)
    | with_reducible apply Frame.set_gth'
    | intro _
    | dsimp only
theorem State.setMains_step (w0 : Nat) (a0 : State) (s : State) (h : Nat) (m : MainsState) (h0 : Frame w0 a0 s) (hw : 131072 &&& w0 = 131072) : Frame w0 a0 (State.setMains s h m) :=
  Frame.step _ _ _ _ _ h0 (State.setMains_frame s h m) hw

theorem State.mainsEdge_frame (s : State) (h : Nat) : Frame 131120 s (State.mainsEdge s h) := by
  unfold State.mainsEdge
  try dsimp only
  repeat' first
    | with_reducible apply Frame.refl
    | with_reducible assumption
    | apply Eq.refl
    | with_reducible apply State.setMains_step
    | with_reducible apply State.setRegN_step
    | with_reducible apply State.setBits_step
    | with_reducible apply Frame.foldl
    | with_reducible apply Frame.foldl_fst
    | split
    | with_reducible apply Frame.ite
    | intro _
    | dsimp only
theorem State.mainsEdge_step (w0 : Nat) (a0 : State) (s : State) (h : Nat) (h0 : Frame w0 a0 s) (hw : 131120 &&& w0 = 131120) : Frame w0 a0 (State.mainsEdge s h) :=
  Frame.step _ _ _ _ _ h0 (State.mainsEdge_frame s h) hw

theorem execMainsRefEdge_frame (h : Hub) (s : State) : Completes 131120 s (execMainsRefEdge h s) := by
  unfold execMainsRefEdge
  try dsimp only
  repeat' first
    | with_reducible apply Completes.intro
    | with_reducible apply Frame.refl
    | with_reducible assumption
    | apply Eq.refl
    | with_reducible apply State.mainsEdge_step
    | with_reducible apply Frame.foldl
    | with_reducible apply Frame.foldl_fst
    | split
    | with_reducible apply Frame.ite
    | intro _
    | dsimp only
theorem execMainsRefEdge_after (w0 : Nat) (a0 : State) (h : Hub) (s : State) (h0 : Frame w0 a0 s) (hw : 131120 &&& w0 = 131120) : Completes w0 a0 (execMainsRefEdge h s) :=
  Completes.step _ _ _ _ _ h0 (execMainsRefEdge_frame h s) hw

theorem execFlkLockLoss_frame (h : Hub) (s : State) : Completes 131088 s (execFlkLockLoss h s) := by
  unfold execFlkLockLoss
  try dsimp only
  repeat' first
    | with_reducible apply Completes.intro
    | with_reducible apply Frame.refl
    | with_reducible assumption
    | apply Eq.refl
    | with_reducible apply State.setMains_step
    | with_reducible apply State.clrBits_step
    | with_reducible apply Frame.foldl
    | with_reducible apply Frame.foldl_fst
    | split
    | with_reducible apply Frame.ite
    | intro _
    | dsimp only
theorem execFlkLockLoss_after (w0 : Nat) (a0 : State) (h : Hub) (s : State) (h0 : Frame w0 a0 s) (hw : 131088 &&& w0 = 131088) : Completes w0 a0 (execFlkLockLoss h s) :=
  Completes.step _ _ _ _ _ h0 (execFlkLockLoss_frame h s) hw

theorem execGthFfWrite_frame (n : Cam) (c : Fin 8192) (v : Word) (s : State) : Completes 131072 s (execGthFfWrite n c v s) := by
  unfold execGthFfWrite
  try dsimp only
  repeat' first
    | with_reducible apply Completes.intro
    | with_reducible apply Frame.refl
    | with_reducible assumption
    | apply Eq.refl
    | with_reducible apply State.writeFf_step
    | with_reducible apply Frame.foldl
    | with_reducible apply Frame.foldl_fst
    | split
    | with_reducible apply Frame.ite
    | intro _
    | dsimp only
theorem execGthFfWrite_after (w0 : Nat) (a0 : State) (n : Cam) (c : Fin 8192) (v : Word) (s : State) (h0 : Frame w0 a0 s) (hw : 131072 &&& w0 = 131072) : Completes w0 a0 (execGthFfWrite n c v s) :=
  Completes.step _ _ _ _ _ h0 (execGthFfWrite_frame n c v s) hw

theorem State.writeBank_frame (s : State) (n : Nat) (bank : Bool) : Frame 131088 s (State.writeBank s n bank) := by
  unfold State.writeBank
  try dsimp only
  repeat' first
    | with_reducible apply Frame.refl
    | with_reducible assumption
    | apply Eq.refl
    | with_reducible apply State.updCam_step
    | with_reducible apply State.setReg_step
    | with_reducible apply Frame.foldl
    | with_reducible apply Frame.foldl_fst
    | split
    | with_reducible apply Frame.ite
    | intro _
    | dsimp only
theorem State.writeBank_step (w0 : Nat) (a0 : State) (s : State) (n : Nat) (bank : Bool) (h0 : Frame w0 a0 s) (hw : 131088 &&& w0 = 131088) : Frame w0 a0 (State.writeBank s n bank) :=
  Frame.step _ _ _ _ _ h0 (State.writeBank_frame s n bank) hw

theorem execFfBankWrite_frame (n : Cam) (bank : Bool) (s : State) : Completes 131088 s (execFfBankWrite n bank s) := by
  unfold execFfBankWrite
  try dsimp only
  repeat' first
    | with_reducible apply Completes.intro
    | with_reducible apply Frame.refl
    | with_reducible assumption
    | apply Eq.refl
    | with_reducible apply State.writeBank_step
    | with_reducible apply Frame.foldl
    | with_reducible apply Frame.foldl_fst
    | split
    | with_reducible apply Frame.ite
    | intro _
    | dsimp only
theorem execFfBankWrite_after (w0 : Nat) (a0 : State) (n : Cam) (bank : Bool) (s : State) (h0 : Frame w0 a0 s) (hw : 131088 &&& w0 = 131088) : Completes w0 a0 (execFfBankWrite n bank s) :=
  Completes.step _ _ _ _ _ h0 (execFfBankWrite_frame n bank s) hw

theorem State.armRescale_frame (s : State) (n : Nat) (hi : Word) : Frame 131072 s (State.armRescale s n hi) := by
  unfold State.armRescale
  try dsimp only
  repeat' first
    | with_reducible apply Frame.refl
    | with_reducible assumption
    | apply Eq.refl
    | with_reducible apply State.updCam_step
    | with_reducible apply Frame.foldl
    | with_reducible apply Frame.foldl_fst
    | split
    | with_reducible apply Frame.ite
    | intro _
    | dsimp only
theorem State.armRescale_step (w0 : Nat) (a0 : State) (s : State) (n : Nat) (hi : Word) (h0 : Frame w0 a0 s) (hw : 131072 &&& w0 = 131072) : Frame w0 a0 (State.armRescale s n hi) :=
  Frame.step _ _ _ _ _ h0 (State.armRescale_frame s n hi) hw

theorem execGthRescaleBandWrite_frame (n : Cam) (hi : Word) (s : State) : Completes 131072 s (execGthRescaleBandWrite n hi s) := by
  unfold execGthRescaleBandWrite
  try dsimp only
  repeat' first
    | with_reducible apply Completes.intro
    | with_reducible apply Frame.refl
    | with_reducible assumption
    | apply Eq.refl
    | with_reducible apply State.armRescale_step
    | with_reducible apply Frame.foldl
    | with_reducible apply Frame.foldl_fst
    | split
    | with_reducible apply Frame.ite
    | intro _
    | dsimp only
theorem execGthRescaleBandWrite_after (w0 : Nat) (a0 : State) (n : Cam) (hi : Word) (s : State) (h0 : Frame w0 a0 s) (hw : 131072 &&& w0 = 131072) : Completes w0 a0 (execGthRescaleBandWrite n hi s) :=
  Completes.step _ _ _ _ _ h0 (execGthRescaleBandWrite_frame n hi s) hw

theorem State.markSub_frame (s : State) (n : Nat) (line : W48) : Frame 131072 s (State.markSub s n line) := by
  unfold State.markSub
  try dsimp only
  repeat' first
    | with_reducible apply Frame.refl
    | with_reducible assumption
    | apply Eq.refl
    | with_reducible exact fun c => Tab.put_wf _ _ _ _ (State.canonical_cam _ c)
    | with_reducible exact fun c => Tab.mapV_wf _ _ _ (State.canonical_cam _ c)
    | with_reducible exact fun c => Tab.filter_wf _ _ _ (State.canonical_cam _ c)
    | with_reducible apply Frame.foldl
    | with_reducible apply Frame.foldl_fst
    | split
    | with_reducible apply Frame.ite
    | (with_reducible apply Frame.set_gth; rotate_left; apply Eq.refl; apply Eq.refl)
    | with_reducible apply Frame.set_gth'
    | intro _
    | dsimp only
theorem State.markSub_step (w0 : Nat) (a0 : State) (s : State) (n : Nat) (line : W48) (h0 : Frame w0 a0 s) (hw : 131072 &&& w0 = 131072) : Frame w0 a0 (State.markSub s n line) :=
  Frame.step _ _ _ _ _ h0 (State.markSub_frame s n line) hw

theorem State.corrected_frame (s : State) (n : Nat) (line : W48) (r : List Byte × Nat × Option (Nat × Nat × Nat)) : Frame 48 s (State.corrected s n line r).1 := by
  unfold State.corrected
  try dsimp only
  repeat' first
    | with_reducible apply Frame.refl
    | with_reducible assumption
    | apply Eq.refl
    | with_reducible apply State.count_step
    | with_reducible apply Frame.foldl
    | with_reducible apply Frame.foldl_fst
    | split
    | with_reducible apply Frame.ite
    | intro _
    | dsimp only
theorem State.corrected_step (w0 : Nat) (a0 : State) (s : State) (n : Nat) (line : W48) (r : List Byte × Nat × Option (Nat × Nat × Nat)) (h0 : Frame w0 a0 s) (hw : 48 &&& w0 = 48) : Frame w0 a0 (State.corrected s n line r).1 :=
  Frame.step _ _ _ _ _ h0 (State.corrected_frame s n line r) hw

theorem State.readLine_frame (s : State) (n : Nat) (b : W48) (line : W48) : Frame 131120 s (State.readLine s n b line).1 := by
  unfold State.readLine
  try dsimp only
  repeat' first
    | with_reducible apply Frame.refl
    | with_reducible assumption
    | apply Eq.refl
    | with_reducible apply State.corrected_step
    | (with_reducible refine Frame.of_pair (by with_reducible assumption) (State.corrected_step _ _ _ _ _ _ ?_ ?_))
    | with_reducible apply State.markSub_step
    | with_reducible apply Frame.foldl
    | with_reducible apply Frame.foldl_fst
    | split
    | with_reducible apply Frame.ite
    | intro _
    | dsimp only
theorem State.readLine_step (w0 : Nat) (a0 : State) (s : State) (n : Nat) (b : W48) (line : W48) (h0 : Frame w0 a0 s) (hw : 131120 &&& w0 = 131120) : Frame w0 a0 (State.readLine s n b line).1 :=
  Frame.step _ _ _ _ _ h0 (State.readLine_frame s n b line) hw

theorem State.readLines_frame (s : State) (n : Nat) (b : W48) (first : W48) (x4 : Nat) : Frame 131120 s (State.readLines s n b first x4).1 := by
  induction x4 with
  | zero => exact Frame.refl _ _
  | succ k ih => exact State.readLine_step _ _ _ _ _ _ ih rfl
theorem State.readLines_step (w0 : Nat) (a0 : State) (s : State) (n : Nat) (b : W48) (first : W48) (x4 : Nat) (h0 : Frame w0 a0 s) (hw : 131120 &&& w0 = 131120) : Frame w0 a0 (State.readLines s n b first x4).1 :=
  Frame.step _ _ _ _ _ h0 (State.readLines_frame s n b first x4) hw

theorem State.inject_frame (s : State) (r : GRoute) (gen : BitVec 2) (at_ : Nat) (x : Nat × Nat × Line) : Frame 32768 s (State.inject s r gen at_ x) := by
  unfold State.inject
  try dsimp only
  repeat' first
    | with_reducible apply Frame.refl
    | with_reducible assumption
    | apply Eq.refl
    | with_reducible apply State.onTile_step
    | with_reducible apply Frame.foldl
    | with_reducible apply Frame.foldl_fst
    | split
    | with_reducible apply Frame.ite
    | intro _
    | dsimp only
theorem State.inject_step (w0 : Nat) (a0 : State) (s : State) (r : GRoute) (gen : BitVec 2) (at_ : Nat) (x : Nat × Nat × Line) (h0 : Frame w0 a0 s) (hw : 32768 &&& w0 = 32768) : Frame w0 a0 (State.inject s r gen at_ x) :=
  Frame.step _ _ _ _ _ h0 (State.inject_frame s r gen at_ x) hw

theorem State.queueOut_frame (s : State) (h : Nat) (xs : List Sending) : Frame 131072 s (State.queueOut s h xs) := by
  unfold State.queueOut
  try dsimp only
  repeat' first
    | with_reducible apply Frame.refl
    | with_reducible assumption
    | apply Eq.refl
    | with_reducible exact fun c => Tab.put_wf _ _ _ _ (State.canonical_cam _ c)
    | with_reducible exact fun c => Tab.mapV_wf _ _ _ (State.canonical_cam _ c)
    | with_reducible exact fun c => Tab.filter_wf _ _ _ (State.canonical_cam _ c)
    | with_reducible apply Frame.foldl
    | with_reducible apply Frame.foldl_fst
    | split
    | with_reducible apply Frame.ite
    | (with_reducible apply Frame.set_gth; rotate_left; apply Eq.refl; apply Eq.refl)
    | with_reducible apply Frame.set_gth'
    | intro _
    | dsimp only
theorem State.queueOut_step (w0 : Nat) (a0 : State) (s : State) (h : Nat) (xs : List Sending) (h0 : Frame w0 a0 s) (hw : 131072 &&& w0 = 131072) : Frame w0 a0 (State.queueOut s h xs) :=
  Frame.step _ _ _ _ _ h0 (State.queueOut_frame s h xs) hw

theorem State.eocGone_frame (s : State) (h : Nat) : Frame 52036656 s (State.eocGone s h) := by
  unfold State.eocGone
  try dsimp only
  repeat' first
    | with_reducible apply Frame.refl
    | with_reducible assumption
    | apply Eq.refl
    | with_reducible exact fun c => Tab.put_wf _ _ _ _ (State.canonical_cam _ c)
    | with_reducible exact fun c => Tab.mapV_wf _ _ _ (State.canonical_cam _ c)
    | with_reducible exact fun c => Tab.filter_wf _ _ _ (State.canonical_cam _ c)
    | with_reducible apply State.updCam_step
    | with_reducible apply State.sentEoc_step
    | with_reducible apply Frame.foldl
    | with_reducible apply Frame.foldl_fst
    | split
    | with_reducible apply Frame.ite
    | (with_reducible apply Frame.set_gth; rotate_left; apply Eq.refl; apply Eq.refl)
    | with_reducible apply Frame.set_gth'
    | intro _
    | dsimp only
theorem State.eocGone_step (w0 : Nat) (a0 : State) (s : State) (h : Nat) (h0 : Frame w0 a0 s) (hw : 52036656 &&& w0 = 52036656) : Frame w0 a0 (State.eocGone s h) :=
  Frame.step _ _ _ _ _ h0 (State.eocGone_frame s h) hw

theorem State.queueEoc_frame (s : State) (h : Nat) : Frame 52036656 s (State.queueEoc s h) := by
  unfold State.queueEoc
  try dsimp only
  repeat' first
    | with_reducible apply Frame.refl
    | with_reducible assumption
    | apply Eq.refl
    | with_reducible apply State.eocGone_step
    | with_reducible apply State.queueOut_step
    | with_reducible apply Frame.foldl
    | with_reducible apply Frame.foldl_fst
    | split
    | with_reducible apply Frame.ite
    | intro _
    | dsimp only
theorem State.queueEoc_step (w0 : Nat) (a0 : State) (s : State) (h : Nat) (h0 : Frame w0 a0 s) (hw : 52036656 &&& w0 = 52036656) : Frame w0 a0 (State.queueEoc s h) :=
  Frame.step _ _ _ _ _ h0 (State.queueEoc_frame s h) hw

theorem State.eocAfter_frame (s : State) (h : Nat) (b : W48) : Frame 52036656 s (State.eocAfter s h b) := by
  unfold State.eocAfter
  try dsimp only
  repeat' first
    | with_reducible apply Frame.refl
    | with_reducible assumption
    | apply Eq.refl
    | with_reducible apply State.queueEoc_step
    | with_reducible apply Frame.foldl
    | with_reducible apply Frame.foldl_fst
    | split
    | with_reducible apply Frame.ite
    | intro _
    | dsimp only
theorem State.eocAfter_step (w0 : Nat) (a0 : State) (s : State) (h : Nat) (b : W48) (h0 : Frame w0 a0 s) (hw : 52036656 &&& w0 = 52036656) : Frame w0 a0 (State.eocAfter s h b) :=
  Frame.step _ _ _ _ _ h0 (State.eocAfter_frame s h b) hw

theorem State.sendOne_frame (s : State) (x : Sending) : Frame 32768 s (State.sendOne s x).1 := by
  unfold State.sendOne
  try dsimp only
  repeat' first
    | with_reducible apply Frame.refl
    | with_reducible assumption
    | apply Eq.refl
    | with_reducible apply State.inject_step
    | with_reducible apply Frame.foldl
    | with_reducible apply Frame.foldl_fst
    | split
    | with_reducible apply Frame.ite
    | intro _
    | dsimp only
theorem State.sendOne_step (w0 : Nat) (a0 : State) (s : State) (x : Sending) (h0 : Frame w0 a0 s) (hw : 32768 &&& w0 = 32768) : Frame w0 a0 (State.sendOne s x).1 :=
  Frame.step _ _ _ _ _ h0 (State.sendOne_frame s x) hw

theorem State.sendCk_frame (s : State) (gone : List (Nat × BitVec 10)) (x2 : List Sending) : Frame 32768 s (State.sendCk s gone x2).1 := by
  induction x2 generalizing s gone with
  | nil => exact Frame.refl _ _
  | cons x xs ih =>
    unfold State.sendCk
    split
    · exact ih _ _
    · exact Frame.step _ _ _ _ _ (State.sendOne_step _ _ _ _ (Frame.refl _ _) rfl) (ih _ _) rfl
theorem State.sendCk_step (w0 : Nat) (a0 : State) (s : State) (gone : List (Nat × BitVec 10)) (x2 : List Sending) (h0 : Frame w0 a0 s) (hw : 32768 &&& w0 = 32768) : Frame w0 a0 (State.sendCk s gone x2).1 :=
  Frame.step _ _ _ _ _ h0 (State.sendCk_frame s gone x2) hw

theorem State.gthCk_frame (s : State) (h : Nat) : Frame 52069424 s (State.gthCk s h) := by
  unfold State.gthCk
  try dsimp only
  repeat' first
    | with_reducible apply Frame.refl
    | with_reducible assumption
    | apply Eq.refl
    | with_reducible exact fun c => Tab.put_wf _ _ _ _ (State.canonical_cam _ c)
    | with_reducible exact fun c => Tab.mapV_wf _ _ _ (State.canonical_cam _ c)
    | with_reducible exact fun c => Tab.filter_wf _ _ _ (State.canonical_cam _ c)
    | with_reducible apply State.sendCk_step
    | (with_reducible refine Frame.of_pair (by with_reducible assumption) (State.sendCk_step _ _ _ _ _ ?_ ?_))
    | with_reducible apply State.eocGone_step
    | with_reducible apply Frame.foldl
    | with_reducible apply Frame.foldl_fst
    | split
    | with_reducible apply Frame.ite
    | (with_reducible apply Frame.set_gth; rotate_left; apply Eq.refl; apply Eq.refl)
    | with_reducible apply Frame.set_gth'
    | intro _
    | dsimp only
theorem State.gthCk_step (w0 : Nat) (a0 : State) (s : State) (h : Nat) (h0 : Frame w0 a0 s) (hw : 52069424 &&& w0 = 52069424) : Frame w0 a0 (State.gthCk s h) :=
  Frame.step _ _ _ _ _ h0 (State.gthCk_frame s h) hw

theorem State.popSend_frame (s : State) (h : Nat) : Frame 4096 s (State.popSend s h) := by
  unfold State.popSend
  try dsimp only
  repeat' first
    | with_reducible apply Frame.refl
    | with_reducible assumption
    | apply Eq.refl
    | with_reducible apply State.updBell_step
    | with_reducible apply Frame.foldl
    | with_reducible apply Frame.foldl_fst
    | split
    | with_reducible apply Frame.ite
    | intro _
    | dsimp only
theorem State.popSend_step (w0 : Nat) (a0 : State) (s : State) (h : Nat) (h0 : Frame w0 a0 s) (hw : 4096 &&& w0 = 4096) : Frame w0 a0 (State.popSend s h) :=
  Frame.step _ _ _ _ _ h0 (State.popSend_frame s h) hw

theorem State.dropHubLines_frame (s : State) (h : Nat) (b : W48) : Frame 131072 s (State.dropHubLines s h b) := by
  unfold State.dropHubLines
  try dsimp only
  repeat' first
    | with_reducible apply Frame.refl
    | with_reducible assumption
    | apply Eq.refl
    | with_reducible apply State.updCam_step
    | with_reducible apply Frame.foldl
    | with_reducible apply Frame.foldl_fst
    | split
    | with_reducible apply Frame.ite
    | intro _
    | dsimp only
theorem State.dropHubLines_step (w0 : Nat) (a0 : State) (s : State) (h : Nat) (b : W48) (h0 : Frame w0 a0 s) (hw : 131072 &&& w0 = 131072) : Frame w0 a0 (State.dropHubLines s h b) :=
  Frame.step _ _ _ _ _ h0 (State.dropHubLines_frame s h b) hw

theorem State.readBand_frame (s : State) (h : Nat) (b : BandRec) : Frame 131120 s (State.readBand s h b).1 := by
  unfold State.readBand
  try dsimp only
  repeat' first
    | with_reducible apply Frame.refl
    | with_reducible assumption
    | apply Eq.refl
    | with_reducible apply State.readLines_step
    | (with_reducible refine Frame.of_pair (by with_reducible assumption) (State.readLines_step _ _ _ _ _ _ _ ?_ ?_))
    | with_reducible apply Frame.foldl
    | with_reducible apply Frame.foldl_fst
    | split
    | with_reducible apply Frame.ite
    | intro _
    | dsimp only
theorem State.readBand_step (w0 : Nat) (a0 : State) (s : State) (h : Nat) (b : BandRec) (h0 : Frame w0 a0 s) (hw : 131120 &&& w0 = 131120) : Frame w0 a0 (State.readBand s h b).1 :=
  Frame.step _ _ _ _ _ h0 (State.readBand_frame s h b) hw

theorem State.gthResidue_frame (s : State) (h : Nat) (b : BandRec) (d0 : Nat) (d1 : Nat) (found : Nat) (expected : Nat) : Frame 1209717812 s (State.gthResidue s h b d0 d1 found expected) := by
  unfold State.gthResidue
  try dsimp only
  repeat' first
    | with_reducible apply Frame.refl
    | with_reducible assumption
    | apply Eq.refl
    | with_reducible apply State.faultContain_step
    | with_reducible apply State.dropHubLines_step
    | with_reducible apply Frame.foldl
    | with_reducible apply Frame.foldl_fst
    | split
    | with_reducible apply Frame.ite
    | intro _
    | dsimp only
theorem State.gthResidue_step (w0 : Nat) (a0 : State) (s : State) (h : Nat) (b : BandRec) (d0 : Nat) (d1 : Nat) (found : Nat) (expected : Nat) (h0 : Frame w0 a0 s) (hw : 1209717812 &&& w0 = 1209717812) : Frame w0 a0 (State.gthResidue s h b d0 d1 found expected) :=
  Frame.step _ _ _ _ _ h0 (State.gthResidue_frame s h b d0 d1 found expected) hw

theorem State.sendBodies_frame (s : State) (h : Nat) (b : BandRec) (rows : List (Nat × List (List Byte))) (bodies : List (GRoute × RouteBody)) : Frame 52036656 s (State.sendBodies s h b rows bodies) := by
  unfold State.sendBodies
  try dsimp only
  repeat' first
    | with_reducible apply Frame.refl
    | with_reducible assumption
    | apply Eq.refl
    | with_reducible exact fun c => Tab.put_wf _ _ _ _ (State.canonical_cam _ c)
    | with_reducible exact fun c => Tab.mapV_wf _ _ _ (State.canonical_cam _ c)
    | with_reducible exact fun c => Tab.filter_wf _ _ _ (State.canonical_cam _ c)
    | with_reducible apply State.queueOut_step
    | with_reducible apply State.count_step
    | with_reducible apply State.updCam_step
    | with_reducible apply State.eocAfter_step
    | with_reducible apply State.dropHubLines_step
    | with_reducible apply Frame.foldl
    | with_reducible apply Frame.foldl_fst
    | split
    | with_reducible apply Frame.ite
    | (with_reducible apply Frame.set_gth; rotate_left; apply Eq.refl; apply Eq.refl)
    | with_reducible apply Frame.set_gth'
    | intro _
    | dsimp only
theorem State.sendBodies_step (w0 : Nat) (a0 : State) (s : State) (h : Nat) (b : BandRec) (rows : List (Nat × List (List Byte))) (bodies : List (GRoute × RouteBody)) (h0 : Frame w0 a0 s) (hw : 52036656 &&& w0 = 52036656) : Frame w0 a0 (State.sendBodies s h b rows bodies) :=
  Frame.step _ _ _ _ _ h0 (State.sendBodies_frame s h b rows bodies) hw

theorem State.sendBand_frame (s : State) (h : Nat) (b : BandRec) : Frame 1260049460 s (State.sendBand s h b) := by
  unfold State.sendBand
  try dsimp only
  repeat' first
    | with_reducible apply Frame.refl
    | with_reducible assumption
    | apply Eq.refl
    | with_reducible apply State.readBand_step
    | (with_reducible refine Frame.of_pair (by with_reducible assumption) (State.readBand_step _ _ _ _ _ ?_ ?_))
    | with_reducible apply State.gthResidue_step
    | with_reducible apply State.sendBodies_step
    | with_reducible apply Frame.foldl
    | with_reducible apply Frame.foldl_fst
    | split
    | with_reducible apply Frame.ite
    | intro _
    | dsimp only
theorem State.sendBand_step (w0 : Nat) (a0 : State) (s : State) (h : Nat) (b : BandRec) (h0 : Frame w0 a0 s) (hw : 1260049460 &&& w0 = 1260049460) : Frame w0 a0 (State.sendBand s h b) :=
  Frame.step _ _ _ _ _ h0 (State.sendBand_frame s h b) hw

theorem State.engineRead_frame (s : State) (h : Hub) (e : Ecc) : Frame 3703856 s (State.engineRead s h e) := by
  unfold State.engineRead
  try dsimp only
  repeat' first
    | with_reducible apply Frame.refl
    | with_reducible assumption
    | apply Eq.refl
    | with_reducible apply State.eccFind_step
    | with_reducible apply Frame.foldl
    | with_reducible apply Frame.foldl_fst
    | split
    | with_reducible apply Frame.ite
    | intro _
    | dsimp only
theorem State.engineRead_step (w0 : Nat) (a0 : State) (s : State) (h : Hub) (e : Ecc) (h0 : Frame w0 a0 s) (hw : 3703856 &&& w0 = 3703856) : Frame w0 a0 (State.engineRead s h e) :=
  Frame.step _ _ _ _ _ h0 (State.engineRead_frame s h e) hw

theorem State.sendItem_frame (s : State) (h : Hub) (upset : Bool) (e : Ecc) (x : SendItem) : Frame 1262146612 s (State.sendItem s h upset e x) := by
  unfold State.sendItem
  try dsimp only
  repeat' first
    | with_reducible apply Frame.refl
    | with_reducible assumption
    | apply Eq.refl
    | with_reducible apply State.popSend_step
    | with_reducible apply State.queueOut_step
    | with_reducible apply State.faultContain_step
    | with_reducible apply State.dropHubLines_step
    | with_reducible apply State.engineRead_step
    | with_reducible apply State.sendBand_step
    | with_reducible apply Frame.foldl
    | with_reducible apply Frame.foldl_fst
    | split
    | with_reducible apply Frame.ite
    | intro _
    | dsimp only
theorem State.sendItem_step (w0 : Nat) (a0 : State) (s : State) (h : Hub) (upset : Bool) (e : Ecc) (x : SendItem) (h0 : Frame w0 a0 s) (hw : 1262146612 &&& w0 = 1262146612) : Frame w0 a0 (State.sendItem s h upset e x) :=
  Frame.step _ _ _ _ _ h0 (State.sendItem_frame s h upset e x) hw

theorem execGatehouseSendBand_frame (h : Hub) (r : SendRead) (s : State) : Completes 1262146612 s (execGatehouseSendBand h r s) := by
  unfold execGatehouseSendBand
  try dsimp only
  repeat' first
    | with_reducible apply Completes.intro
    | with_reducible apply Frame.refl
    | with_reducible assumption
    | apply Eq.refl
    | with_reducible apply State.queueEoc_step
    | with_reducible apply State.sendItem_step
    | with_reducible apply Frame.foldl
    | with_reducible apply Frame.foldl_fst
    | split
    | with_reducible apply Frame.ite
    | intro _
    | dsimp only
theorem execGatehouseSendBand_after (w0 : Nat) (a0 : State) (h : Hub) (r : SendRead) (s : State) (h0 : Frame w0 a0 s) (hw : 1262146612 &&& w0 = 1262146612) : Completes w0 a0 (execGatehouseSendBand h r s) :=
  Completes.step _ _ _ _ _ h0 (execGatehouseSendBand_frame h r s) hw

end Sys2Proof.Machine
end

