-- ==== Sys2Proof/Laws/F_Kiosk.lean ====
section
/-!
SUPPORT. Frames of the operations of Machine/Kiosk.lean.
-/
namespace Sys2Proof.Machine

set_option linter.unusedTactic false
set_option linter.unreachableTactic false
set_option linter.unusedVariables false

theorem State.enterBand_frame (s : State) (h : Nat) (n : Nat) (b : W48) : Frame 262144 s (State.enterBand s h n b) := by
  unfold State.enterBand
  try dsimp only
  repeat' first
    | with_reducible apply Frame.refl
    | with_reducible assumption
    | apply Eq.refl
    | with_reducible apply State.kskEnter_step
    | with_reducible apply State.setKiosk_step
    | with_reducible apply Frame.foldl
    | with_reducible apply Frame.foldl_fst
    | split
    | with_reducible apply Frame.ite
    | intro _
    | dsimp only
theorem State.enterBand_step (w0 : Nat) (a0 : State) (s : State) (h : Nat) (n : Nat) (b : W48) (h0 : Frame w0 a0 s) (hw : 262144 &&& w0 = 262144) : Frame w0 a0 (State.enterBand s h n b) :=
  Frame.step _ _ _ _ _ h0 (State.enterBand_frame s h n b) hw

theorem State.joinRow_frame (s : State) (h : Nat) (n : Nat) (b : W48) (line : W48) (row : List (List NetOut)) : Frame 35521588 s (State.joinRow s h n b line row) := by
  unfold State.joinRow
  try dsimp only
  repeat' first
    | with_reducible apply Frame.refl
    | with_reducible assumption
    | apply Eq.refl
    | with_reducible apply State.setKiosk_step
    | with_reducible apply State.count_step
    | with_reducible apply State.closeComp_step
    | with_reducible apply Frame.foldl
    | with_reducible apply Frame.foldl_fst
    | split
    | with_reducible apply Frame.ite
    | intro _
    | dsimp only
theorem State.joinRow_step (w0 : Nat) (a0 : State) (s : State) (h : Nat) (n : Nat) (b : W48) (line : W48) (row : List (List NetOut)) (h0 : Frame w0 a0 s) (hw : 35521588 &&& w0 = 35521588) : Frame w0 a0 (State.joinRow s h n b line row) :=
  Frame.step _ _ _ _ _ h0 (State.joinRow_frame s h n b line row) hw

theorem State.kskResidue_frame (s : State) (h : Nat) (b : W48) (x : Nat × Nat × Nat × Nat) : Frame 1209586740 s (State.kskResidue s h b x) := by
  unfold State.kskResidue
  try dsimp only
  repeat' first
    | with_reducible apply Frame.refl
    | with_reducible assumption
    | apply Eq.refl
    | with_reducible apply State.faultContain_step
    | with_reducible apply Frame.foldl
    | with_reducible apply Frame.foldl_fst
    | split
    | with_reducible apply Frame.ite
    | intro _
    | dsimp only
theorem State.kskResidue_step (w0 : Nat) (a0 : State) (s : State) (h : Nat) (b : W48) (x : Nat × Nat × Nat × Nat) (h0 : Frame w0 a0 s) (hw : 1209586740 &&& w0 = 1209586740) : Frame w0 a0 (State.kskResidue s h b x) :=
  Frame.step _ _ _ _ _ h0 (State.kskResidue_frame s h b x) hw

theorem State.frameRowOut_frame (s : State) (h : Nat) (n : Nat) (b : W48) (o : ℤ) (row : List (List NetOut)) : Frame 35521588 s (State.frameRowOut s h n b o row) := by
  unfold State.frameRowOut
  try dsimp only
  repeat' first
    | with_reducible apply Frame.refl
    | with_reducible assumption
    | apply Eq.refl
    | with_reducible apply State.joinRow_step
    | with_reducible apply State.closeWhere_step
    | with_reducible apply Frame.foldl
    | with_reducible apply Frame.foldl_fst
    | split
    | with_reducible apply Frame.ite
    | intro _
    | dsimp only
theorem State.frameRowOut_step (w0 : Nat) (a0 : State) (s : State) (h : Nat) (n : Nat) (b : W48) (o : ℤ) (row : List (List NetOut)) (h0 : Frame w0 a0 s) (hw : 35521588 &&& w0 = 35521588) : Frame w0 a0 (State.frameRowOut s h n b o row) :=
  Frame.step _ _ _ _ _ h0 (State.frameRowOut_frame s h n b o row) hw

theorem State.rowScored_frame (s : State) (h : Nat) (n : Nat) (b : W48) (o : ℤ) : Frame 1243534388 s (State.rowScored s h n b o) := by
  unfold State.rowScored
  try dsimp only
  repeat' first
    | with_reducible apply Frame.refl
    | with_reducible assumption
    | apply Eq.refl
    | with_reducible apply State.kskResidue_step
    | with_reducible apply State.joinRow_step
    | with_reducible apply State.frameRowOut_step
    | with_reducible apply State.updKiosk_step
    | with_reducible apply Frame.foldl
    | with_reducible apply Frame.foldl_fst
    | split
    | with_reducible apply Frame.ite
    | intro _
    | dsimp only
theorem State.rowScored_step (w0 : Nat) (a0 : State) (s : State) (h : Nat) (n : Nat) (b : W48) (o : ℤ) (h0 : Frame w0 a0 s) (hw : 1243534388 &&& w0 = 1243534388) : Frame w0 a0 (State.rowScored s h n b o) :=
  Frame.step _ _ _ _ _ h0 (State.rowScored_frame s h n b o) hw

theorem State.readRow_frame (s : State) (h : Hub) (n : Nat) (b : W48) (o : ℤ) (e : Ecc) (upset : Bool) : Frame 1245631540 s (State.readRow s h n b o e upset) := by
  unfold State.readRow
  try dsimp only
  repeat' first
    | with_reducible apply Frame.refl
    | with_reducible assumption
    | apply Eq.refl
    | with_reducible apply State.eccFind_step
    | with_reducible apply State.faultContain_step
    | with_reducible apply State.rowScored_step
    | with_reducible apply State.kskResidue_step
    | with_reducible apply Frame.foldl
    | with_reducible apply Frame.foldl_fst
    | split
    | with_reducible apply Frame.ite
    | intro _
    | dsimp only
theorem State.readRow_step (w0 : Nat) (a0 : State) (s : State) (h : Hub) (n : Nat) (b : W48) (o : ℤ) (e : Ecc) (upset : Bool) (h0 : Frame w0 a0 s) (hw : 1245631540 &&& w0 = 1245631540) : Frame w0 a0 (State.readRow s h n b o e upset) :=
  Frame.step _ _ _ _ _ h0 (State.readRow_frame s h n b o e upset) hw

theorem State.emitRow_frame (s : State) (h : Hub) (n : Nat) (b : W48) (e : Ecc) (upset : Bool) : Frame 1245631540 s (State.emitRow s h n b e upset) := by
  unfold State.emitRow
  try dsimp only
  repeat' first
    | with_reducible apply Frame.refl
    | with_reducible assumption
    | apply Eq.refl
    | with_reducible apply State.enterBand_step
    | with_reducible apply State.updKiosk_step
    | with_reducible apply State.readRow_step
    | with_reducible apply Frame.foldl
    | with_reducible apply Frame.foldl_fst
    | split
    | with_reducible apply Frame.ite
    | intro _
    | dsimp only
theorem State.emitRow_step (w0 : Nat) (a0 : State) (s : State) (h : Hub) (n : Nat) (b : W48) (e : Ecc) (upset : Bool) (h0 : Frame w0 a0 s) (hw : 1245631540 &&& w0 = 1245631540) : Frame w0 a0 (State.emitRow s h n b e upset) :=
  Frame.step _ _ _ _ _ h0 (State.emitRow_frame s h n b e upset) hw

theorem State.kioskRow_frame (s : State) (h : Hub) (n : Nat) (e : Ecc) (upset : Bool) : Frame 1245631540 s (State.kioskRow s h n e upset) := by
  unfold State.kioskRow
  try dsimp only
  repeat' first
    | with_reducible apply Frame.refl
    | with_reducible assumption
    | apply Eq.refl
    | with_reducible apply State.emitRow_step
    | with_reducible apply Frame.foldl
    | with_reducible apply Frame.foldl_fst
    | split
    | with_reducible apply Frame.ite
    | intro _
    | dsimp only
theorem State.kioskRow_step (w0 : Nat) (a0 : State) (s : State) (h : Hub) (n : Nat) (e : Ecc) (upset : Bool) (h0 : Frame w0 a0 s) (hw : 1245631540 &&& w0 = 1245631540) : Frame w0 a0 (State.kioskRow s h n e upset) :=
  Frame.step _ _ _ _ _ h0 (State.kioskRow_frame s h n e upset) hw

theorem execKioskRow_frame (h : Hub) (r : RowRead) (s : State) : Completes 1245631540 s (execKioskRow h r s) := by
  unfold execKioskRow
  try dsimp only
  repeat' first
    | with_reducible apply Completes.intro
    | with_reducible apply Frame.refl
    | with_reducible assumption
    | apply Eq.refl
    | with_reducible apply State.kioskRow_step
    | with_reducible apply Frame.foldl
    | with_reducible apply Frame.foldl_fst
    | split
    | with_reducible apply Frame.ite
    | intro _
    | dsimp only
theorem execKioskRow_after (w0 : Nat) (a0 : State) (h : Hub) (r : RowRead) (s : State) (h0 : Frame w0 a0 s) (hw : 1245631540 &&& w0 = 1245631540) : Completes w0 a0 (execKioskRow h r s) :=
  Completes.step _ _ _ _ _ h0 (execKioskRow_frame h r s) hw

theorem State.kskToken_frame (s : State) (h : Nat) (n : Nat) (t : Token) : ∀ u_, State.kskToken s h n t = some u_ → Frame 52298804 s u_ := by
  unfold State.kskToken
  dsimp only
  intro u_ e
  repeat' split at e
  all_goals first
    | (cases e; done)
    | (cases e
       repeat' first
         | with_reducible exact Frame.refl _ _
         | apply Eq.refl
         | with_reducible apply State.setKiosk_step
         | with_reducible apply State.updKiosk_step
         | with_reducible apply State.kioskEnd_step
         | with_reducible apply State.kioskSwap_step
         | split)

theorem State.kskFront_frame (s : State) (h : Nat) (t : Token) : ∀ u_, State.kskFront s h t = some u_ → Frame 1260311604 s u_ := by
  unfold State.kskFront
  intro u_ e
  split at e
  · cases e
    exact State.faultContain_step _ _ _ _ (Frame.refl _ _) rfl
  · split at e
    · exact Frame.step _ _ _ _ _ (Frame.refl _ _) (State.kskToken_frame _ _ _ _ _ e) rfl
    · cases e
      exact Frame.refl _ _

theorem State.kskEnterCk_frame (s : State) (h : Nat) (gone : List (Nat × BitVec 10)) (x3 : List (Nat × Flight)) : Frame 1260311604 s (State.kskEnterCk s h gone x3).1 := by
  induction x3 generalizing s gone with
  | nil => exact Frame.refl _ _
  | cons x xs ih =>
    unfold State.kskEnterCk
    extract_lets route a r
    refine Frame.step 1260311604 1260311604 s (a.getD s) _ ?_ (ih _ _) rfl
    rcases ha : a with _ | u
    · exact Frame.refl _ _
    · refine Frame.step _ _ _ _ _ (Frame.refl _ _) (State.kskFront_frame s h x.2.tok u ?_) rfl
      revert ha
      show (if _ then none else s.kskFront h x.2.tok) = some u → _
      split
      · intro k; cases k
      · exact id
theorem State.kskEnterCk_step (w0 : Nat) (a0 : State) (s : State) (h : Nat) (gone : List (Nat × BitVec 10)) (x3 : List (Nat × Flight)) (h0 : Frame w0 a0 s) (hw : 1260311604 &&& w0 = 1260311604) : Frame w0 a0 (State.kskEnterCk s h gone x3).1 :=
  Frame.step _ _ _ _ _ h0 (State.kskEnterCk_frame s h gone x3) hw

theorem State.kskCk_frame (s : State) (h : Nat) : Frame 1260311604 s (State.kskCk s h) := by
  unfold State.kskCk
  try dsimp only
  repeat' first
    | with_reducible apply Frame.refl
    | with_reducible assumption
    | apply Eq.refl
    | with_reducible apply State.kskEnterCk_step
    | (with_reducible refine Frame.of_pair (by with_reducible assumption) (State.kskEnterCk_step _ _ _ _ _ _ ?_ ?_))
    | with_reducible apply State.updKiosk_step
    | with_reducible apply Frame.foldl
    | with_reducible apply Frame.foldl_fst
    | split
    | with_reducible apply Frame.ite
    | intro _
    | dsimp only
theorem State.kskCk_step (w0 : Nat) (a0 : State) (s : State) (h : Nat) (h0 : Frame w0 a0 s) (hw : 1260311604 &&& w0 = 1260311604) : Frame w0 a0 (State.kskCk s h) :=
  Frame.step _ _ _ _ _ h0 (State.kskCk_frame s h) hw

end Sys2Proof.Machine
end

