-- ==== Sys2Proof/Laws/F_Memory.lean ====
section
/-!
SUPPORT. Frames of the operations of Machine/Memory.lean.
-/
namespace Sys2Proof.Machine

set_option linter.unusedTactic false
set_option linter.unreachableTactic false
set_option linter.unusedVariables false

theorem State.takeSlot_frame (s : State) (w : MemWord) (scrub : Bool) : Frame 2097152 s (State.takeSlot s w scrub) := by
  unfold State.takeSlot
  try dsimp only
  repeat' first
    | with_reducible apply Frame.refl
    | with_reducible assumption
    | apply Eq.refl
    | with_reducible exact fun c => ⟨writeBytes_wf _ _ _ (State.canonical_hbm _ c), id (State.canonical_spiNor _ c)⟩
    | with_reducible exact fun c => ⟨writeBytes_wf _ _ _ (State.canonical_hbm _ c), writeBytes_wf _ _ _ (State.canonical_spiNor _ c)⟩
    | with_reducible exact fun c => ⟨writeBytes_wf _ _ _ (State.canonical_hbm _ c), zeroBytes_wf _ _ _ (State.canonical_spiNor _ c)⟩
    | with_reducible exact fun c => ⟨zeroBytes_wf _ _ _ (State.canonical_hbm _ c), id (State.canonical_spiNor _ c)⟩
    | with_reducible exact fun c => ⟨zeroBytes_wf _ _ _ (State.canonical_hbm _ c), writeBytes_wf _ _ _ (State.canonical_spiNor _ c)⟩
    | with_reducible exact fun c => ⟨zeroBytes_wf _ _ _ (State.canonical_hbm _ c), zeroBytes_wf _ _ _ (State.canonical_spiNor _ c)⟩
    | with_reducible exact fun c => ⟨id (State.canonical_hbm _ c), id (State.canonical_spiNor _ c)⟩
    | with_reducible exact fun c => ⟨id (State.canonical_hbm _ c), writeBytes_wf _ _ _ (State.canonical_spiNor _ c)⟩
    | with_reducible exact fun c => ⟨id (State.canonical_hbm _ c), zeroBytes_wf _ _ _ (State.canonical_spiNor _ c)⟩
    | with_reducible apply Frame.foldl
    | with_reducible apply Frame.foldl_fst
    | split
    | with_reducible apply Frame.ite
    | (with_reducible apply Frame.set_mem; rotate_left; apply Eq.refl; apply Eq.refl; apply Eq.refl)
    | with_reducible apply Frame.set_mem'
    | intro _
    | dsimp only
theorem State.takeSlot_step (w0 : Nat) (a0 : State) (s : State) (w : MemWord) (scrub : Bool) (h0 : Frame w0 a0 s) (hw : 2097152 &&& w0 = 2097152) : Frame w0 a0 (State.takeSlot s w scrub) :=
  Frame.step _ _ _ _ _ h0 (State.takeSlot_frame s w scrub) hw

theorem State.endPass_frame (s : State) : Frame 2097200 s (State.endPass s) := by
  unfold State.endPass
  try dsimp only
  repeat' first
    | with_reducible apply Frame.refl
    | with_reducible assumption
    | apply Eq.refl
    | with_reducible exact fun c => ⟨writeBytes_wf _ _ _ (State.canonical_hbm _ c), id (State.canonical_spiNor _ c)⟩
    | with_reducible exact fun c => ⟨writeBytes_wf _ _ _ (State.canonical_hbm _ c), writeBytes_wf _ _ _ (State.canonical_spiNor _ c)⟩
    | with_reducible exact fun c => ⟨writeBytes_wf _ _ _ (State.canonical_hbm _ c), zeroBytes_wf _ _ _ (State.canonical_spiNor _ c)⟩
    | with_reducible exact fun c => ⟨zeroBytes_wf _ _ _ (State.canonical_hbm _ c), id (State.canonical_spiNor _ c)⟩
    | with_reducible exact fun c => ⟨zeroBytes_wf _ _ _ (State.canonical_hbm _ c), writeBytes_wf _ _ _ (State.canonical_spiNor _ c)⟩
    | with_reducible exact fun c => ⟨zeroBytes_wf _ _ _ (State.canonical_hbm _ c), zeroBytes_wf _ _ _ (State.canonical_spiNor _ c)⟩
    | with_reducible exact fun c => ⟨id (State.canonical_hbm _ c), id (State.canonical_spiNor _ c)⟩
    | with_reducible exact fun c => ⟨id (State.canonical_hbm _ c), writeBytes_wf _ _ _ (State.canonical_spiNor _ c)⟩
    | with_reducible exact fun c => ⟨id (State.canonical_hbm _ c), zeroBytes_wf _ _ _ (State.canonical_spiNor _ c)⟩
    | with_reducible apply State.setRegN_step
    | with_reducible apply State.setBits_step
    | with_reducible apply Frame.foldl
    | with_reducible apply Frame.foldl_fst
    | split
    | with_reducible apply Frame.ite
    | (with_reducible apply Frame.set_mem; rotate_left; apply Eq.refl; apply Eq.refl; apply Eq.refl)
    | with_reducible apply Frame.set_mem'
    | intro _
    | dsimp only
theorem State.endPass_step (w0 : Nat) (a0 : State) (s : State) (h0 : Frame w0 a0 s) (hw : 2097200 &&& w0 = 2097200) : Frame w0 a0 (State.endPass s) :=
  Frame.step _ _ _ _ _ h0 (State.endPass_frame s) hw

theorem State.passRead_frame (s : State) (w : MemWord) : Frame 2097200 s (State.passRead s w) := by
  unfold State.passRead
  try dsimp only
  repeat' first
    | with_reducible apply Frame.refl
    | with_reducible assumption
    | apply Eq.refl
    | with_reducible exact fun c => ⟨writeBytes_wf _ _ _ (State.canonical_hbm _ c), id (State.canonical_spiNor _ c)⟩
    | with_reducible exact fun c => ⟨writeBytes_wf _ _ _ (State.canonical_hbm _ c), writeBytes_wf _ _ _ (State.canonical_spiNor _ c)⟩
    | with_reducible exact fun c => ⟨writeBytes_wf _ _ _ (State.canonical_hbm _ c), zeroBytes_wf _ _ _ (State.canonical_spiNor _ c)⟩
    | with_reducible exact fun c => ⟨zeroBytes_wf _ _ _ (State.canonical_hbm _ c), id (State.canonical_spiNor _ c)⟩
    | with_reducible exact fun c => ⟨zeroBytes_wf _ _ _ (State.canonical_hbm _ c), writeBytes_wf _ _ _ (State.canonical_spiNor _ c)⟩
    | with_reducible exact fun c => ⟨zeroBytes_wf _ _ _ (State.canonical_hbm _ c), zeroBytes_wf _ _ _ (State.canonical_spiNor _ c)⟩
    | with_reducible exact fun c => ⟨id (State.canonical_hbm _ c), id (State.canonical_spiNor _ c)⟩
    | with_reducible exact fun c => ⟨id (State.canonical_hbm _ c), writeBytes_wf _ _ _ (State.canonical_spiNor _ c)⟩
    | with_reducible exact fun c => ⟨id (State.canonical_hbm _ c), zeroBytes_wf _ _ _ (State.canonical_spiNor _ c)⟩
    | with_reducible apply State.endPass_step
    | with_reducible apply Frame.foldl
    | with_reducible apply Frame.foldl_fst
    | split
    | with_reducible apply Frame.ite
    | (with_reducible apply Frame.set_mem; rotate_left; apply Eq.refl; apply Eq.refl; apply Eq.refl)
    | with_reducible apply Frame.set_mem'
    | intro _
    | dsimp only
theorem State.passRead_step (w0 : Nat) (a0 : State) (s : State) (w : MemWord) (h0 : Frame w0 a0 s) (hw : 2097200 &&& w0 = 2097200) : Frame w0 a0 (State.passRead s w) :=
  Frame.step _ _ _ _ _ h0 (State.passRead_frame s w) hw

theorem State.passCk_frame (s : State) : Frame 48 s (State.passCk s) := by
  unfold State.passCk
  try dsimp only
  repeat' first
    | with_reducible apply Frame.refl
    | with_reducible assumption
    | apply Eq.refl
    | with_reducible apply State.setBits_step
    | with_reducible apply Frame.foldl
    | with_reducible apply Frame.foldl_fst
    | split
    | with_reducible apply Frame.ite
    | intro _
    | dsimp only
theorem State.passCk_step (w0 : Nat) (a0 : State) (s : State) (h0 : Frame w0 a0 s) (hw : 48 &&& w0 = 48) : Frame w0 a0 (State.passCk s) :=
  Frame.step _ _ _ _ _ h0 (State.passCk_frame s) hw

theorem State.latentUe_frame (s : State) (w : MemWord) : Frame 3703856 s (State.latentUe s w) := by
  unfold State.latentUe
  try dsimp only
  repeat' first
    | with_reducible apply Frame.refl
    | with_reducible assumption
    | apply Eq.refl
    | with_reducible apply State.findUe_step
    | (with_reducible refine Frame.of_pair (by with_reducible assumption) (State.findUe_step _ _ _ _ ?_ ?_))
    | with_reducible apply State.emit_step
    | with_reducible apply Frame.foldl
    | with_reducible apply Frame.foldl_fst
    | split
    | with_reducible apply Frame.ite
    | intro _
    | dsimp only
theorem State.latentUe_step (w0 : Nat) (a0 : State) (s : State) (w : MemWord) (h0 : Frame w0 a0 s) (hw : 3703856 &&& w0 = 3703856) : Frame w0 a0 (State.latentUe s w) :=
  Frame.step _ _ _ _ _ h0 (State.latentUe_frame s w) hw

theorem State.scrubFound_frame (s : State) (w : MemWord) (e : Ecc) : Frame 3703856 s (State.scrubFound s w e) := by
  unfold State.scrubFound
  try dsimp only
  repeat' first
    | with_reducible apply Frame.refl
    | with_reducible assumption
    | apply Eq.refl
    | with_reducible apply State.correct_step
    | with_reducible apply State.latentUe_step
    | with_reducible apply State.count_step
    | with_reducible apply Frame.foldl
    | with_reducible apply Frame.foldl_fst
    | split
    | with_reducible apply Frame.ite
    | intro _
    | dsimp only
theorem State.scrubFound_step (w0 : Nat) (a0 : State) (s : State) (w : MemWord) (e : Ecc) (h0 : Frame w0 a0 s) (hw : 3703856 &&& w0 = 3703856) : Frame w0 a0 (State.scrubFound s w e) :=
  Frame.step _ _ _ _ _ h0 (State.scrubFound_frame s w e) hw

theorem State.scrub_frame (s : State) (w : MemWord) (e : Ecc) : Frame 3703856 s (State.scrub s w e) := by
  unfold State.scrub
  try dsimp only
  repeat' first
    | with_reducible apply Frame.refl
    | with_reducible assumption
    | apply Eq.refl
    | with_reducible apply State.passRead_step
    | with_reducible apply State.takeSlot_step
    | with_reducible apply State.scrubFound_step
    | with_reducible apply Frame.foldl
    | with_reducible apply Frame.foldl_fst
    | split
    | with_reducible apply Frame.ite
    | intro _
    | dsimp only
theorem State.scrub_step (w0 : Nat) (a0 : State) (s : State) (w : MemWord) (e : Ecc) (h0 : Frame w0 a0 s) (hw : 3703856 &&& w0 = 3703856) : Frame w0 a0 (State.scrub s w e) :=
  Frame.step _ _ _ _ _ h0 (State.scrub_frame s w e) hw

theorem execScrubRead_frame (w : MemWord) (e : Ecc) (s : State) : Completes 3703856 s (execScrubRead w e s) := by
  unfold execScrubRead
  try dsimp only
  repeat' first
    | with_reducible apply Completes.intro
    | with_reducible apply Frame.refl
    | with_reducible assumption
    | apply Eq.refl
    | with_reducible apply State.scrub_step
    | with_reducible apply Frame.foldl
    | with_reducible apply Frame.foldl_fst
    | split
    | with_reducible apply Frame.ite
    | intro _
    | dsimp only
theorem execScrubRead_after (w0 : Nat) (a0 : State) (w : MemWord) (e : Ecc) (s : State) (h0 : Frame w0 a0 s) (hw : 3703856 &&& w0 = 3703856) : Completes w0 a0 (execScrubRead w e s) :=
  Completes.step _ _ _ _ _ h0 (execScrubRead_frame w e s) hw

theorem State.writePassMs_frame (s : State) (v : Word) : Frame 16 s (State.writePassMs s v) := by
  unfold State.writePassMs
  try dsimp only
  repeat' first
    | with_reducible apply Frame.refl
    | with_reducible assumption
    | apply Eq.refl
    | with_reducible apply State.setRegN_step
    | with_reducible apply Frame.foldl
    | with_reducible apply Frame.foldl_fst
    | split
    | with_reducible apply Frame.ite
    | intro _
    | dsimp only
theorem State.writePassMs_step (w0 : Nat) (a0 : State) (s : State) (v : Word) (h0 : Frame w0 a0 s) (hw : 16 &&& w0 = 16) : Frame w0 a0 (State.writePassMs s v) :=
  Frame.step _ _ _ _ _ h0 (State.writePassMs_frame s v) hw

theorem execGkpPassMsWrite_frame (v : Word) (s : State) : Completes 16 s (execGkpPassMsWrite v s) := by
  unfold execGkpPassMsWrite
  try dsimp only
  repeat' first
    | with_reducible apply Completes.intro
    | with_reducible apply Frame.refl
    | with_reducible assumption
    | apply Eq.refl
    | with_reducible apply State.writePassMs_step
    | with_reducible apply Frame.foldl
    | with_reducible apply Frame.foldl_fst
    | split
    | with_reducible apply Frame.ite
    | intro _
    | dsimp only
theorem execGkpPassMsWrite_after (w0 : Nat) (a0 : State) (v : Word) (s : State) (h0 : Frame w0 a0 s) (hw : 16 &&& w0 = 16) : Completes w0 a0 (execGkpPassMsWrite v s) :=
  Completes.step _ _ _ _ _ h0 (execGkpPassMsWrite_frame v s) hw

theorem State.doWriteBack_frame (s : State) : Frame 36077568 s (State.doWriteBack s) := by
  unfold State.doWriteBack
  try dsimp only
  repeat' first
    | with_reducible apply Frame.refl
    | with_reducible assumption
    | apply Eq.refl
    | with_reducible exact fun c => ⟨writeBytes_wf _ _ _ (State.canonical_hbm _ c), id (State.canonical_spiNor _ c)⟩
    | with_reducible exact fun c => ⟨writeBytes_wf _ _ _ (State.canonical_hbm _ c), writeBytes_wf _ _ _ (State.canonical_spiNor _ c)⟩
    | with_reducible exact fun c => ⟨writeBytes_wf _ _ _ (State.canonical_hbm _ c), zeroBytes_wf _ _ _ (State.canonical_spiNor _ c)⟩
    | with_reducible exact fun c => ⟨zeroBytes_wf _ _ _ (State.canonical_hbm _ c), id (State.canonical_spiNor _ c)⟩
    | with_reducible exact fun c => ⟨zeroBytes_wf _ _ _ (State.canonical_hbm _ c), writeBytes_wf _ _ _ (State.canonical_spiNor _ c)⟩
    | with_reducible exact fun c => ⟨zeroBytes_wf _ _ _ (State.canonical_hbm _ c), zeroBytes_wf _ _ _ (State.canonical_spiNor _ c)⟩
    | with_reducible exact fun c => ⟨id (State.canonical_hbm _ c), id (State.canonical_spiNor _ c)⟩
    | with_reducible exact fun c => ⟨id (State.canonical_hbm _ c), writeBytes_wf _ _ _ (State.canonical_spiNor _ c)⟩
    | with_reducible exact fun c => ⟨id (State.canonical_hbm _ c), zeroBytes_wf _ _ _ (State.canonical_spiNor _ c)⟩
    | with_reducible apply State.takeSlot_step
    | with_reducible apply State.setPoison_step
    | with_reducible apply State.putRow_step
    | with_reducible apply Frame.foldl
    | with_reducible apply Frame.foldl_fst
    | split
    | with_reducible apply Frame.ite
    | (with_reducible apply Frame.set_mem; rotate_left; apply Eq.refl; apply Eq.refl; apply Eq.refl)
    | with_reducible apply Frame.set_mem'
    | intro _
    | dsimp only
theorem State.doWriteBack_step (w0 : Nat) (a0 : State) (s : State) (h0 : Frame w0 a0 s) (hw : 36077568 &&& w0 = 36077568) : Frame w0 a0 (State.doWriteBack s) :=
  Frame.step _ _ _ _ _ h0 (State.doWriteBack_frame s) hw

theorem execWriteBack_frame (s : State) : Completes 36077568 s (execWriteBack s) := by
  unfold execWriteBack
  try dsimp only
  repeat' first
    | with_reducible apply Completes.intro
    | with_reducible apply Frame.refl
    | with_reducible assumption
    | apply Eq.refl
    | with_reducible apply State.doWriteBack_step
    | with_reducible apply Frame.foldl
    | with_reducible apply Frame.foldl_fst
    | split
    | with_reducible apply Frame.ite
    | intro _
    | dsimp only
theorem execWriteBack_after (w0 : Nat) (a0 : State) (s : State) (h0 : Frame w0 a0 s) (hw : 36077568 &&& w0 = 36077568) : Completes w0 a0 (execWriteBack s) :=
  Completes.step _ _ _ _ _ h0 (execWriteBack_frame s) hw

theorem State.repairGo_frame (s : State) : Frame 2097152 s (State.repairGo s) := by
  unfold State.repairGo
  try dsimp only
  repeat' first
    | with_reducible apply Frame.refl
    | with_reducible assumption
    | apply Eq.refl
    | with_reducible exact fun c => ⟨writeBytes_wf _ _ _ (State.canonical_hbm _ c), id (State.canonical_spiNor _ c)⟩
    | with_reducible exact fun c => ⟨writeBytes_wf _ _ _ (State.canonical_hbm _ c), writeBytes_wf _ _ _ (State.canonical_spiNor _ c)⟩
    | with_reducible exact fun c => ⟨writeBytes_wf _ _ _ (State.canonical_hbm _ c), zeroBytes_wf _ _ _ (State.canonical_spiNor _ c)⟩
    | with_reducible exact fun c => ⟨zeroBytes_wf _ _ _ (State.canonical_hbm _ c), id (State.canonical_spiNor _ c)⟩
    | with_reducible exact fun c => ⟨zeroBytes_wf _ _ _ (State.canonical_hbm _ c), writeBytes_wf _ _ _ (State.canonical_spiNor _ c)⟩
    | with_reducible exact fun c => ⟨zeroBytes_wf _ _ _ (State.canonical_hbm _ c), zeroBytes_wf _ _ _ (State.canonical_spiNor _ c)⟩
    | with_reducible exact fun c => ⟨id (State.canonical_hbm _ c), id (State.canonical_spiNor _ c)⟩
    | with_reducible exact fun c => ⟨id (State.canonical_hbm _ c), writeBytes_wf _ _ _ (State.canonical_spiNor _ c)⟩
    | with_reducible exact fun c => ⟨id (State.canonical_hbm _ c), zeroBytes_wf _ _ _ (State.canonical_spiNor _ c)⟩
    | with_reducible apply Frame.foldl
    | with_reducible apply Frame.foldl_fst
    | split
    | with_reducible apply Frame.ite
    | (with_reducible apply Frame.set_mem; rotate_left; apply Eq.refl; apply Eq.refl; apply Eq.refl)
    | with_reducible apply Frame.set_mem'
    | intro _
    | dsimp only
theorem State.repairGo_step (w0 : Nat) (a0 : State) (s : State) (h0 : Frame w0 a0 s) (hw : 2097152 &&& w0 = 2097152) : Frame w0 a0 (State.repairGo s) :=
  Frame.step _ _ _ _ _ h0 (State.repairGo_frame s) hw

theorem execGkpRepairGo_frame (s : State) : Completes 2097152 s (execGkpRepairGo s) := by
  unfold execGkpRepairGo
  try dsimp only
  repeat' first
    | with_reducible apply Completes.intro
    | with_reducible apply Frame.refl
    | with_reducible assumption
    | apply Eq.refl
    | with_reducible apply State.repairGo_step
    | with_reducible apply Frame.foldl
    | with_reducible apply Frame.foldl_fst
    | split
    | with_reducible apply Frame.ite
    | intro _
    | dsimp only
theorem execGkpRepairGo_after (w0 : Nat) (a0 : State) (s : State) (h0 : Frame w0 a0 s) (hw : 2097152 &&& w0 = 2097152) : Completes w0 a0 (execGkpRepairGo s) :=
  Completes.step _ _ _ _ _ h0 (execGkpRepairGo_frame s) hw

theorem State.doRepair_frame (s : State) : Frame 36077568 s (State.doRepair s) := by
  unfold State.doRepair
  try dsimp only
  repeat' first
    | with_reducible apply Frame.refl
    | with_reducible assumption
    | apply Eq.refl
    | with_reducible exact fun c => ⟨writeBytes_wf _ _ _ (State.canonical_hbm _ c), id (State.canonical_spiNor _ c)⟩
    | with_reducible exact fun c => ⟨writeBytes_wf _ _ _ (State.canonical_hbm _ c), writeBytes_wf _ _ _ (State.canonical_spiNor _ c)⟩
    | with_reducible exact fun c => ⟨writeBytes_wf _ _ _ (State.canonical_hbm _ c), zeroBytes_wf _ _ _ (State.canonical_spiNor _ c)⟩
    | with_reducible exact fun c => ⟨zeroBytes_wf _ _ _ (State.canonical_hbm _ c), id (State.canonical_spiNor _ c)⟩
    | with_reducible exact fun c => ⟨zeroBytes_wf _ _ _ (State.canonical_hbm _ c), writeBytes_wf _ _ _ (State.canonical_spiNor _ c)⟩
    | with_reducible exact fun c => ⟨zeroBytes_wf _ _ _ (State.canonical_hbm _ c), zeroBytes_wf _ _ _ (State.canonical_spiNor _ c)⟩
    | with_reducible exact fun c => ⟨id (State.canonical_hbm _ c), id (State.canonical_spiNor _ c)⟩
    | with_reducible exact fun c => ⟨id (State.canonical_hbm _ c), writeBytes_wf _ _ _ (State.canonical_spiNor _ c)⟩
    | with_reducible exact fun c => ⟨id (State.canonical_hbm _ c), zeroBytes_wf _ _ _ (State.canonical_spiNor _ c)⟩
    | with_reducible apply State.takeSlot_step
    | with_reducible apply State.putRow_step
    | with_reducible apply State.cancelRow_step
    | with_reducible apply Frame.foldl
    | with_reducible apply Frame.foldl_fst
    | split
    | with_reducible apply Frame.ite
    | (with_reducible apply Frame.set_mem; rotate_left; apply Eq.refl; apply Eq.refl; apply Eq.refl)
    | with_reducible apply Frame.set_mem'
    | intro _
    | dsimp only
theorem State.doRepair_step (w0 : Nat) (a0 : State) (s : State) (h0 : Frame w0 a0 s) (hw : 36077568 &&& w0 = 36077568) : Frame w0 a0 (State.doRepair s) :=
  Frame.step _ _ _ _ _ h0 (State.doRepair_frame s) hw

theorem execRepairWrite_frame (s : State) : Completes 36077568 s (execRepairWrite s) := by
  unfold execRepairWrite
  try dsimp only
  repeat' first
    | with_reducible apply Completes.intro
    | with_reducible apply Frame.refl
    | with_reducible assumption
    | apply Eq.refl
    | with_reducible apply State.doRepair_step
    | with_reducible apply Frame.foldl
    | with_reducible apply Frame.foldl_fst
    | split
    | with_reducible apply Frame.ite
    | intro _
    | dsimp only
theorem execRepairWrite_after (w0 : Nat) (a0 : State) (s : State) (h0 : Frame w0 a0 s) (hw : 36077568 &&& w0 = 36077568) : Completes w0 a0 (execRepairWrite s) :=
  Completes.step _ _ _ _ _ h0 (execRepairWrite_frame s) hw

theorem execFillBlock_frame (k : Stack) (s : State) : Completes 2097152 s (execFillBlock k s) := by
  unfold execFillBlock
  try dsimp only
  repeat' first
    | with_reducible apply Completes.intro
    | with_reducible apply Frame.refl
    | with_reducible assumption
    | apply Eq.refl
    | with_reducible apply State.fillOne_step
    | with_reducible apply Frame.foldl
    | with_reducible apply Frame.foldl_fst
    | split
    | with_reducible apply Frame.ite
    | intro _
    | dsimp only
theorem execFillBlock_after (w0 : Nat) (a0 : State) (k : Stack) (s : State) (h0 : Frame w0 a0 s) (hw : 2097152 &&& w0 = 2097152) : Completes w0 a0 (execFillBlock k s) :=
  Completes.step _ _ _ _ _ h0 (execFillBlock_frame k s) hw

theorem State.answerAlloc_frame (s : State) (item : Line) : Frame 39322676 s (State.answerAlloc s item) := by
  unfold State.answerAlloc
  try dsimp only
  repeat' first
    | with_reducible apply Frame.refl
    | with_reducible assumption
    | apply Eq.refl
    | with_reducible apply State.allocate_step
    | (with_reducible refine Frame.of_pair (by with_reducible assumption) (State.allocate_step _ _ _ _ _ _ ?_ ?_))
    | with_reducible apply State.freeAlloc_step
    | (with_reducible refine Frame.of_pair (by with_reducible assumption) (State.freeAlloc_step _ _ _ _ _ ?_ ?_))
    | with_reducible apply State.useFree_step
    | with_reducible apply State.offer_step
    | (with_reducible refine Frame.of_pair (by with_reducible assumption) (State.offer_step _ _ _ _ _ ?_ ?_))
    | with_reducible apply Frame.foldl
    | with_reducible apply Frame.foldl_fst
    | split
    | with_reducible apply Frame.ite
    | intro _
    | dsimp only
theorem State.answerAlloc_step (w0 : Nat) (a0 : State) (s : State) (item : Line) (h0 : Frame w0 a0 s) (hw : 39322676 &&& w0 = 39322676) : Frame w0 a0 (State.answerAlloc s item) :=
  Frame.step _ _ _ _ _ h0 (State.answerAlloc_frame s item) hw

theorem State.allocRequest_frame (s : State) (q : Nat) : Frame 39322676 s (State.allocRequest s q) := by
  unfold State.allocRequest
  try dsimp only
  repeat' first
    | with_reducible apply Frame.refl
    | with_reducible assumption
    | apply Eq.refl
    | with_reducible apply State.popWith_step
    | (with_reducible refine Frame.of_pair (by with_reducible assumption) (State.popWith_step _ _ _ _ _ ?_ ?_))
    | with_reducible apply State.answerAlloc_step
    | with_reducible apply Frame.foldl
    | with_reducible apply Frame.foldl_fst
    | split
    | with_reducible apply Frame.ite
    | intro _
    | dsimp only
theorem State.allocRequest_step (w0 : Nat) (a0 : State) (s : State) (q : Nat) (h0 : Frame w0 a0 s) (hw : 39322676 &&& w0 = 39322676) : Frame w0 a0 (State.allocRequest s q) :=
  Frame.step _ _ _ _ _ h0 (State.allocRequest_frame s q) hw

theorem execAllocRequest_frame (q : QIx) (s : State) : Completes 39322676 s (execAllocRequest q s) := by
  unfold execAllocRequest
  try dsimp only
  repeat' first
    | with_reducible apply Completes.intro
    | with_reducible apply Frame.refl
    | with_reducible assumption
    | apply Eq.refl
    | with_reducible apply State.allocRequest_step
    | with_reducible apply Frame.foldl
    | with_reducible apply Frame.foldl_fst
    | split
    | with_reducible apply Frame.ite
    | intro _
    | dsimp only
theorem execAllocRequest_after (w0 : Nat) (a0 : State) (q : QIx) (s : State) (h0 : Frame w0 a0 s) (hw : 39322676 &&& w0 = 39322676) : Completes w0 a0 (execAllocRequest q s) :=
  Completes.step _ _ _ _ _ h0 (execAllocRequest_frame q s) hw

theorem execZeroingComplete_frame (addr : Nat) (s : State) : Completes 39845888 s (execZeroingComplete addr s) := by
  unfold execZeroingComplete
  try dsimp only
  repeat' first
    | with_reducible apply Completes.intro
    | with_reducible apply Frame.refl
    | with_reducible assumption
    | apply Eq.refl
    | with_reducible apply State.zeroDone_step
    | with_reducible apply Frame.foldl
    | with_reducible apply Frame.foldl_fst
    | split
    | with_reducible apply Frame.ite
    | intro _
    | dsimp only
theorem execZeroingComplete_after (w0 : Nat) (a0 : State) (addr : Nat) (s : State) (h0 : Frame w0 a0 s) (hw : 39845888 &&& w0 = 39845888) : Completes w0 a0 (execZeroingComplete addr s) :=
  Completes.step _ _ _ _ _ h0 (execZeroingComplete_frame addr s) hw

end Sys2Proof.Machine
end

