-- ==== Sys2Proof/Laws/F_Hedge.lean ====
section
/-!
SUPPORT. Frames of the operations of Machine/Hedge.lean.
-/
namespace Sys2Proof.Machine

set_option linter.unusedTactic false
set_option linter.unreachableTactic false
set_option linter.unusedVariables false

theorem State.writeWinCtl_frame (s : State) (h : Nat) (w : Nat) (v : Word) : Frame 48 s (State.writeWinCtl s h w v) := by
  unfold State.writeWinCtl
  try dsimp only
  repeat' first
    | with_reducible apply Frame.refl
    | with_reducible assumption
    | apply Eq.refl
    | with_reducible apply State.clrBits_step
    | with_reducible apply State.setBits_step
    | with_reducible apply State.plainWrite_step
    | with_reducible apply Frame.foldl
    | with_reducible apply Frame.foldl_fst
    | split
    | with_reducible apply Frame.ite
    | intro _
    | dsimp only
theorem State.writeWinCtl_step (w0 : Nat) (a0 : State) (s : State) (h : Nat) (w : Nat) (v : Word) (h0 : Frame w0 a0 s) (hw : 48 &&& w0 = 48) : Frame w0 a0 (State.writeWinCtl s h w v) :=
  Frame.step _ _ _ _ _ h0 (State.writeWinCtl_frame s h w v) hw

theorem State.writeWinAddr_frame (s : State) (h : Nat) (w : Nat) (o : Nat) (v : Word) : Frame 16 s (State.writeWinAddr s h w o v) := by
  unfold State.writeWinAddr
  try dsimp only
  repeat' first
    | with_reducible apply Frame.refl
    | with_reducible assumption
    | apply Eq.refl
    | with_reducible apply State.plainWrite_step
    | with_reducible apply Frame.foldl
    | with_reducible apply Frame.foldl_fst
    | split
    | with_reducible apply Frame.ite
    | intro _
    | dsimp only
theorem State.writeWinAddr_step (w0 : Nat) (a0 : State) (s : State) (h : Nat) (w : Nat) (o : Nat) (v : Word) (h0 : Frame w0 a0 s) (hw : 16 &&& w0 = 16) : Frame w0 a0 (State.writeWinAddr s h w o v) :=
  Frame.step _ _ _ _ _ h0 (State.writeWinAddr_frame s h w o v) hw

theorem execHdgWinEnable_frame (h : Hub) (w : Fin 16) (v : Word) (s : State) : Completes 48 s (execHdgWinEnable h w v s) := by
  unfold execHdgWinEnable
  try dsimp only
  repeat' first
    | with_reducible apply Completes.intro
    | with_reducible apply Frame.refl
    | with_reducible assumption
    | apply Eq.refl
    | with_reducible apply State.writeWinCtl_step
    | with_reducible apply Frame.foldl
    | with_reducible apply Frame.foldl_fst
    | split
    | with_reducible apply Frame.ite
    | intro _
    | dsimp only
theorem execHdgWinEnable_after (w0 : Nat) (a0 : State) (h : Hub) (w : Fin 16) (v : Word) (s : State) (h0 : Frame w0 a0 s) (hw : 48 &&& w0 = 48) : Completes w0 a0 (execHdgWinEnable h w v s) :=
  Completes.step _ _ _ _ _ h0 (execHdgWinEnable_frame h w v s) hw

theorem execHdgCtrlLocked_frame (h : Hub) (s : State) : Completes 48 s (execHdgCtrlLocked h s) := by
  unfold execHdgCtrlLocked
  try dsimp only
  repeat' first
    | with_reducible apply Completes.intro
    | with_reducible apply Frame.refl
    | with_reducible assumption
    | apply Eq.refl
    | with_reducible apply State.setBits_step
    | with_reducible apply Frame.foldl
    | with_reducible apply Frame.foldl_fst
    | split
    | with_reducible apply Frame.ite
    | intro _
    | dsimp only
theorem execHdgCtrlLocked_after (w0 : Nat) (a0 : State) (h : Hub) (s : State) (h0 : Frame w0 a0 s) (hw : 48 &&& w0 = 48) : Completes w0 a0 (execHdgCtrlLocked h s) :=
  Completes.step _ _ _ _ _ h0 (execHdgCtrlLocked_frame h s) hw

theorem State.writeHdgCfg_frame (s : State) (h : Nat) (o : Nat) (v : Word) : Frame 48 s (State.writeHdgCfg s h o v) := by
  unfold State.writeHdgCfg
  try dsimp only
  repeat' first
    | with_reducible apply Frame.refl
    | with_reducible assumption
    | apply Eq.refl
    | with_reducible apply State.setBits_step
    | with_reducible apply State.plainWrite_step
    | with_reducible apply Frame.foldl
    | with_reducible apply Frame.foldl_fst
    | split
    | with_reducible apply Frame.ite
    | intro _
    | dsimp only
theorem State.writeHdgCfg_step (w0 : Nat) (a0 : State) (s : State) (h : Nat) (o : Nat) (v : Word) (h0 : Frame w0 a0 s) (hw : 48 &&& w0 = 48) : Frame w0 a0 (State.writeHdgCfg s h o v) :=
  Frame.step _ _ _ _ _ h0 (State.writeHdgCfg_frame s h o v) hw

end Sys2Proof.Machine
end

