-- ==== Sys2Proof/Laws/F_Host.lean ====
section
/-!
SUPPORT. Frames of the operations of Machine/Host.lean.
-/
namespace Sys2Proof.Machine

set_option linter.unusedTactic false
set_option linter.unreachableTactic false
set_option linter.unusedVariables false

theorem State.answer_frame (s : State) (v : DWord) (status : Nat) : Frame 640 s (State.answer s v status) := by
  exact Frame.set_readStatus 640 s { s with readValue := v } status (Frame.set_readValue 640 s s v (Frame.refl _ _) rfl) rfl
theorem State.answer_step (w0 : Nat) (a0 : State) (s : State) (v : DWord) (status : Nat) (h0 : Frame w0 a0 s) (hw : 640 &&& w0 = 640) : Frame w0 a0 (State.answer s v status) :=
  Frame.step _ _ _ _ _ h0 (State.answer_frame s v status) hw

theorem State.badAccess_frame (s : State) (off : Nat) (be : Nat) (write : Bool) : Frame 1574576 s (State.badAccess s off be write) := by
  unfold State.badAccess
  try dsimp only
  repeat' first
    | with_reducible apply Frame.refl
    | with_reducible assumption
    | apply Eq.refl
    | with_reducible apply State.count_step
    | with_reducible apply State.emit_step
    | with_reducible apply State.answer_step
    | with_reducible apply Frame.foldl
    | with_reducible apply Frame.foldl_fst
    | split
    | with_reducible apply Frame.ite
    | intro _
    | dsimp only
theorem State.badAccess_step (w0 : Nat) (a0 : State) (s : State) (off : Nat) (be : Nat) (write : Bool) (h0 : Frame w0 a0 s) (hw : 1574576 &&& w0 = 1574576) : Frame w0 a0 (State.badAccess s off be write) :=
  Frame.step _ _ _ _ _ h0 (State.badAccess_frame s off be write) hw

theorem execBar0MisalignedAccess_frame (off : BitVec 25) (be : BitVec 8) (write : Bool) (s : State) : Completes 1574576 s (execBar0MisalignedAccess off be write s) := by
  unfold execBar0MisalignedAccess
  try dsimp only
  repeat' first
    | with_reducible apply Completes.intro
    | with_reducible apply Frame.refl
    | with_reducible assumption
    | apply Eq.refl
    | with_reducible apply State.badAccess_step
    | with_reducible apply Frame.foldl
    | with_reducible apply Frame.foldl_fst
    | split
    | with_reducible apply Frame.ite
    | intro _
    | dsimp only
theorem execBar0MisalignedAccess_after (w0 : Nat) (a0 : State) (off : BitVec 25) (be : BitVec 8) (write : Bool) (s : State) (h0 : Frame w0 a0 s) (hw : 1574576 &&& w0 = 1574576) : Completes w0 a0 (execBar0MisalignedAccess off be write s) :=
  Completes.step _ _ _ _ _ h0 (execBar0MisalignedAccess_frame off be write s) hw

theorem State.hostPoison_frame (s : State) (w : Nat) : Frame 1573936 s (State.hostPoison s w) := by
  unfold State.hostPoison
  try dsimp only
  repeat' first
    | with_reducible apply Frame.refl
    | with_reducible assumption
    | apply Eq.refl
    | with_reducible apply State.emit_step
    | with_reducible apply Frame.foldl
    | with_reducible apply Frame.foldl_fst
    | split
    | with_reducible apply Frame.ite
    | intro _
    | dsimp only
theorem State.hostPoison_step (w0 : Nat) (a0 : State) (s : State) (w : Nat) (h0 : Frame w0 a0 s) (hw : 1573936 &&& w0 = 1573936) : Frame w0 a0 (State.hostPoison s w) :=
  Frame.step _ _ _ _ _ h0 (State.hostPoison_frame s w) hw

theorem State.bar2Read_frame (s : State) (a : Nat) (n : Nat) (e : Ecc) : Frame 3704756 s (State.bar2Read s a n e) := by
  unfold State.bar2Read
  try dsimp only
  repeat' first
    | with_reducible apply Frame.refl
    | with_reducible assumption
    | apply Eq.refl
    | with_reducible apply State.eccFind_step
    | with_reducible apply State.answer_step
    | with_reducible apply State.useFree_step
    | with_reducible apply State.hostPoison_step
    | with_reducible apply State.hbmRead_step
    | (with_reducible refine Frame.of_pair (by with_reducible assumption) (State.hbmRead_step _ _ _ _ _ ?_ ?_))
    | with_reducible apply Frame.foldl
    | with_reducible apply Frame.foldl_fst
    | split
    | with_reducible apply Frame.ite
    | with_reducible apply Frame.set_readData
    | intro _
    | dsimp only
theorem State.bar2Read_step (w0 : Nat) (a0 : State) (s : State) (a : Nat) (n : Nat) (e : Ecc) (h0 : Frame w0 a0 s) (hw : 3704756 &&& w0 = 3704756) : Frame w0 a0 (State.bar2Read s a n e) :=
  Frame.step _ _ _ _ _ h0 (State.bar2Read_frame s a n e) hw

theorem State.bar2_frame (s : State) (off : Nat) (write : Bool) (n : Nat) (data : Line) (e : Ecc) : Frame 12093364 s (State.bar2 s off write n data e) := by
  unfold State.bar2
  try dsimp only
  repeat' first
    | with_reducible apply Frame.refl
    | with_reducible assumption
    | apply Eq.refl
    | with_reducible apply State.answer_step
    | with_reducible apply State.noteHeld_step
    | with_reducible apply State.hdgCheck_step
    | (with_reducible refine Frame.of_pair (by with_reducible assumption) (State.hdgCheck_step _ _ _ _ _ _ _ _ _ ?_ ?_))
    | with_reducible apply State.hbmWrite_step
    | with_reducible apply State.writeParity_step
    | with_reducible apply State.bar2Read_step
    | with_reducible apply Frame.foldl
    | with_reducible apply Frame.foldl_fst
    | split
    | with_reducible apply Frame.ite
    | with_reducible apply Frame.set_readData
    | intro _
    | dsimp only
theorem State.bar2_step (w0 : Nat) (a0 : State) (s : State) (off : Nat) (write : Bool) (n : Nat) (data : Line) (e : Ecc) (h0 : Frame w0 a0 s) (hw : 12093364 &&& w0 = 12093364) : Frame w0 a0 (State.bar2 s off write n data e) :=
  Frame.step _ _ _ _ _ h0 (State.bar2_frame s off write n data e) hw

theorem execBar2Access_frame (off : DWord) (write : Bool) (bytes : Fin 65) (r : LineRead) (s : State) : Completes 12093364 s (execBar2Access off write bytes r s) := by
  unfold execBar2Access
  try dsimp only
  repeat' first
    | with_reducible apply Completes.intro
    | with_reducible apply Frame.refl
    | with_reducible assumption
    | apply Eq.refl
    | with_reducible apply State.bar2_step
    | with_reducible apply Frame.foldl
    | with_reducible apply Frame.foldl_fst
    | split
    | with_reducible apply Frame.ite
    | intro _
    | dsimp only
theorem execBar2Access_after (w0 : Nat) (a0 : State) (off : DWord) (write : Bool) (bytes : Fin 65) (r : LineRead) (s : State) (h0 : Frame w0 a0 s) (hw : 12093364 &&& w0 = 12093364) : Completes w0 a0 (execBar2Access off write bytes r s) :=
  Completes.step _ _ _ _ _ h0 (execBar2Access_frame off write bytes r s) hw

theorem State.atomic_frame (s : State) (bar : Nat) (off : Nat) (k : AtomicKind) (n : Nat) (a : Nat) (b : Nat) : Frame 12060340 s (State.atomic s bar off k n a b) := by
  unfold State.atomic
  try dsimp only
  repeat' first
    | with_reducible apply Frame.refl
    | with_reducible assumption
    | apply Eq.refl
    | with_reducible apply State.answer_step
    | with_reducible apply State.noteHeld_step
    | with_reducible apply State.hdgCheck_step
    | (with_reducible refine Frame.of_pair (by with_reducible assumption) (State.hdgCheck_step _ _ _ _ _ _ _ _ _ ?_ ?_))
    | with_reducible apply State.useFree_step
    | with_reducible apply State.hostPoison_step
    | with_reducible apply State.hbmRead_step
    | (with_reducible refine Frame.of_pair (by with_reducible assumption) (State.hbmRead_step _ _ _ _ _ ?_ ?_))
    | with_reducible apply State.hbmWrite_step
    | with_reducible apply Frame.foldl
    | with_reducible apply Frame.foldl_fst
    | split
    | with_reducible apply Frame.ite
    | intro _
    | dsimp only
theorem State.atomic_step (w0 : Nat) (a0 : State) (s : State) (bar : Nat) (off : Nat) (k : AtomicKind) (n : Nat) (a : Nat) (b : Nat) (h0 : Frame w0 a0 s) (hw : 12060340 &&& w0 = 12060340) : Frame w0 a0 (State.atomic s bar off k n a b) :=
  Frame.step _ _ _ _ _ h0 (State.atomic_frame s bar off k n a b) hw

theorem execAtomicop_frame (bar : Fin 5) (off : DWord) (k : AtomicKind) (wide : Bool) (a : DWord) (b : DWord) (s : State) : Completes 12060340 s (execAtomicop bar off k wide a b s) := by
  unfold execAtomicop
  try dsimp only
  repeat' first
    | with_reducible apply Completes.intro
    | with_reducible apply Frame.refl
    | with_reducible assumption
    | apply Eq.refl
    | with_reducible apply State.atomic_step
    | with_reducible apply Frame.foldl
    | with_reducible apply Frame.foldl_fst
    | split
    | with_reducible apply Frame.ite
    | intro _
    | dsimp only
theorem execAtomicop_after (w0 : Nat) (a0 : State) (bar : Fin 5) (off : DWord) (k : AtomicKind) (wide : Bool) (a : DWord) (b : DWord) (s : State) (h0 : Frame w0 a0 s) (hw : 12060340 &&& w0 = 12060340) : Completes w0 a0 (execAtomicop bar off k wide a b s) :=
  Completes.step _ _ _ _ _ h0 (execAtomicop_frame bar off k wide a b s) hw

theorem State.writeBar2Base_frame (s : State) (hi : Word) : Frame 16 s (State.writeBar2Base s hi) := by
  unfold State.writeBar2Base
  try dsimp only
  repeat' first
    | with_reducible apply Frame.refl
    | with_reducible assumption
    | apply Eq.refl
    | with_reducible apply State.setReg64_step
    | with_reducible apply Frame.foldl
    | with_reducible apply Frame.foldl_fst
    | split
    | with_reducible apply Frame.ite
    | intro _
    | dsimp only
theorem State.writeBar2Base_step (w0 : Nat) (a0 : State) (s : State) (hi : Word) (h0 : Frame w0 a0 s) (hw : 16 &&& w0 = 16) : Frame w0 a0 (State.writeBar2Base s hi) :=
  Frame.step _ _ _ _ _ h0 (State.writeBar2Base_frame s hi) hw

theorem execHubBar2BaseWrite_frame (hi : Word) (s : State) : Completes 16 s (execHubBar2BaseWrite hi s) := by
  unfold execHubBar2BaseWrite
  try dsimp only
  repeat' first
    | with_reducible apply Completes.intro
    | with_reducible apply Frame.refl
    | with_reducible assumption
    | apply Eq.refl
    | with_reducible apply State.writeBar2Base_step
    | with_reducible apply Frame.foldl
    | with_reducible apply Frame.foldl_fst
    | split
    | with_reducible apply Frame.ite
    | intro _
    | dsimp only
theorem execHubBar2BaseWrite_after (w0 : Nat) (a0 : State) (hi : Word) (s : State) (h0 : Frame w0 a0 s) (hw : 16 &&& w0 = 16) : Completes w0 a0 (execHubBar2BaseWrite hi s) :=
  Completes.step _ _ _ _ _ h0 (execHubBar2BaseWrite_frame hi s) hw

theorem State.unmask_frame (s : State) (v : Nat) : Frame 1040 s (State.unmask s v) := by
  unfold State.unmask
  try dsimp only
  repeat' first
    | with_reducible apply Frame.refl
    | with_reducible assumption
    | apply Eq.refl
    | with_reducible apply State.clrBits_step
    | with_reducible apply State.send_step
    | with_reducible apply Frame.foldl
    | with_reducible apply Frame.foldl_fst
    | split
    | with_reducible apply Frame.ite
    | intro _
    | dsimp only
theorem State.unmask_step (w0 : Nat) (a0 : State) (s : State) (v : Nat) (h0 : Frame w0 a0 s) (hw : 1040 &&& w0 = 1040) : Frame w0 a0 (State.unmask s v) :=
  Frame.step _ _ _ _ _ h0 (State.unmask_frame s v) hw

theorem execMsixUnmask_frame (v : Fin 2048) (s : State) : Completes 1040 s (execMsixUnmask v s) := by
  unfold execMsixUnmask
  try dsimp only
  repeat' first
    | with_reducible apply Completes.intro
    | with_reducible apply Frame.refl
    | with_reducible assumption
    | apply Eq.refl
    | with_reducible apply State.unmask_step
    | with_reducible apply Frame.foldl
    | with_reducible apply Frame.foldl_fst
    | split
    | with_reducible apply Frame.ite
    | intro _
    | dsimp only
theorem execMsixUnmask_after (w0 : Nat) (a0 : State) (v : Fin 2048) (s : State) (h0 : Frame w0 a0 s) (hw : 1040 &&& w0 = 1040) : Completes w0 a0 (execMsixUnmask v s) :=
  Completes.step _ _ _ _ _ h0 (execMsixUnmask_frame v s) hw

theorem State.dbReject_frame (s : State) (c : Nat) : Frame 48 s (State.dbReject s c) := by
  unfold State.dbReject
  try dsimp only
  repeat' first
    | with_reducible apply Frame.refl
    | with_reducible assumption
    | apply Eq.refl
    | with_reducible apply State.count_step
    | with_reducible apply Frame.foldl
    | with_reducible apply Frame.foldl_fst
    | split
    | with_reducible apply Frame.ite
    | intro _
    | dsimp only
theorem State.dbReject_step (w0 : Nat) (a0 : State) (s : State) (c : Nat) (h0 : Frame w0 a0 s) (hw : 48 &&& w0 = 48) : Frame w0 a0 (State.dbReject s c) :=
  Frame.step _ _ _ _ _ h0 (State.dbReject_frame s c) hw

theorem State.noteRang_frame (s : State) (c : Nat) (r : Nat) : Frame 67108864 s (State.noteRang s c r) := by
  unfold State.noteRang
  try dsimp only
  repeat' first
    | with_reducible apply Frame.refl
    | with_reducible assumption
    | apply Eq.refl
    | with_reducible apply State.setCtx_step
    | with_reducible apply Frame.foldl
    | with_reducible apply Frame.foldl_fst
    | split
    | with_reducible apply Frame.ite
    | intro _
    | dsimp only
theorem State.noteRang_step (w0 : Nat) (a0 : State) (s : State) (c : Nat) (r : Nat) (h0 : Frame w0 a0 s) (hw : 67108864 &&& w0 = 67108864) : Frame w0 a0 (State.noteRang s c r) :=
  Frame.step _ _ _ _ _ h0 (State.noteRang_frame s c r) hw

theorem State.unring_frame (s : State) (c : Nat) : Frame 48 s (State.unring s c) := by
  unfold State.unring
  try dsimp only
  repeat' first
    | with_reducible apply Frame.refl
    | with_reducible assumption
    | apply Eq.refl
    | with_reducible apply State.setReg_step
    | with_reducible apply State.dbReject_step
    | with_reducible apply Frame.foldl
    | with_reducible apply Frame.foldl_fst
    | split
    | with_reducible apply Frame.ite
    | intro _
    | dsimp only
theorem State.unring_step (w0 : Nat) (a0 : State) (s : State) (c : Nat) (h0 : Frame w0 a0 s) (hw : 48 &&& w0 = 48) : Frame w0 a0 (State.unring s c) :=
  Frame.step _ _ _ _ _ h0 (State.unring_frame s c) hw

theorem State.doorbell_frame (s : State) (c : Nat) (r : Nat) (v : Word) : Frame 68682800 s (State.doorbell s c r v) := by
  unfold State.doorbell
  try dsimp only
  repeat' first
    | with_reducible apply Frame.refl
    | with_reducible assumption
    | apply Eq.refl
    | with_reducible apply State.dbReject_step
    | with_reducible apply State.setReg_step
    | with_reducible apply State.noteRang_step
    | with_reducible apply State.emit_step
    | with_reducible apply Frame.foldl
    | with_reducible apply Frame.foldl_fst
    | split
    | with_reducible apply Frame.ite
    | intro _
    | dsimp only
theorem State.doorbell_step (w0 : Nat) (a0 : State) (s : State) (c : Nat) (r : Nat) (v : Word) (h0 : Frame w0 a0 s) (hw : 68682800 &&& w0 = 68682800) : Frame w0 a0 (State.doorbell s c r v) :=
  Frame.step _ _ _ _ _ h0 (State.doorbell_frame s c r v) hw

theorem execDbTail_frame (c : Ctx) (r : Ring) (v : Word) (s : State) : Completes 68682800 s (execDbTail c r v s) := by
  unfold execDbTail
  try dsimp only
  repeat' first
    | with_reducible apply Completes.intro
    | with_reducible apply Frame.refl
    | with_reducible assumption
    | apply Eq.refl
    | with_reducible apply State.doorbell_step
    | with_reducible apply Frame.foldl
    | with_reducible apply Frame.foldl_fst
    | split
    | with_reducible apply Frame.ite
    | intro _
    | dsimp only
theorem execDbTail_after (w0 : Nat) (a0 : State) (c : Ctx) (r : Ring) (v : Word) (s : State) (h0 : Frame w0 a0 s) (hw : 68682800 &&& w0 = 68682800) : Completes w0 a0 (execDbTail c r v s) :=
  Completes.step _ _ _ _ _ h0 (execDbTail_frame c r v s) hw

theorem execDbCancelTag_frame (c : Ctx) (tag : Word) (s : State) : Completes 649628720 s (execDbCancelTag c tag s) := by
  unfold execDbCancelTag
  try dsimp only
  repeat' first
    | with_reducible apply Completes.intro
    | with_reducible apply Frame.refl
    | with_reducible assumption
    | apply Eq.refl
    | with_reducible apply State.dbReject_step
    | with_reducible apply State.cancelWhere_step
    | with_reducible apply Frame.foldl
    | with_reducible apply Frame.foldl_fst
    | split
    | with_reducible apply Frame.ite
    | intro _
    | dsimp only
theorem execDbCancelTag_after (w0 : Nat) (a0 : State) (c : Ctx) (tag : Word) (s : State) (h0 : Frame w0 a0 s) (hw : 649628720 &&& w0 = 649628720) : Completes w0 a0 (execDbCancelTag c tag s) :=
  Completes.step _ _ _ _ _ h0 (execDbCancelTag_frame c tag s) hw

theorem State.sigwinSignal_frame (s : State) (c : Nat) (o : Nat) (n : Nat) : Frame 35128368 s (State.sigwinSignal s c o n) := by
  unfold State.sigwinSignal
  try dsimp only
  repeat' first
    | with_reducible apply Frame.refl
    | with_reducible assumption
    | apply Eq.refl
    | with_reducible apply State.dbReject_step
    | with_reducible apply State.signal_step
    | with_reducible apply Frame.foldl
    | with_reducible apply Frame.foldl_fst
    | split
    | with_reducible apply Frame.ite
    | intro _
    | dsimp only
theorem State.sigwinSignal_step (w0 : Nat) (a0 : State) (s : State) (c : Nat) (o : Nat) (n : Nat) (h0 : Frame w0 a0 s) (hw : 35128368 &&& w0 = 35128368) : Frame w0 a0 (State.sigwinSignal s c o n) :=
  Frame.step _ _ _ _ _ h0 (State.sigwinSignal_frame s c o n) hw

theorem execSigwinWrite_frame (c : Ctx) (o : SigIx) (n : BitVec 16) (s : State) : Completes 35128368 s (execSigwinWrite c o n s) := by
  unfold execSigwinWrite
  try dsimp only
  repeat' first
    | with_reducible apply Completes.intro
    | with_reducible apply Frame.refl
    | with_reducible assumption
    | apply Eq.refl
    | with_reducible apply State.sigwinSignal_step
    | with_reducible apply Frame.foldl
    | with_reducible apply Frame.foldl_fst
    | split
    | with_reducible apply Frame.ite
    | intro _
    | dsimp only
theorem execSigwinWrite_after (w0 : Nat) (a0 : State) (c : Ctx) (o : SigIx) (n : BitVec 16) (s : State) (h0 : Frame w0 a0 s) (hw : 35128368 &&& w0 = 35128368) : Completes w0 a0 (execSigwinWrite c o n s) :=
  Completes.step _ _ _ _ _ h0 (execSigwinWrite_frame c o n s) hw

theorem State.sigwinWait_frame (s : State) (c : Nat) (o : Nat) : Frame 688 s (State.sigwinWait s c o) := by
  unfold State.sigwinWait
  try dsimp only
  repeat' first
    | with_reducible apply Frame.refl
    | with_reducible assumption
    | apply Eq.refl
    | with_reducible apply State.answer_step
    | with_reducible apply State.dbReject_step
    | with_reducible apply State.tryWait_step
    | with_reducible apply Frame.foldl
    | with_reducible apply Frame.foldl_fst
    | split
    | with_reducible apply Frame.ite
    | intro _
    | dsimp only
theorem State.sigwinWait_step (w0 : Nat) (a0 : State) (s : State) (c : Nat) (o : Nat) (h0 : Frame w0 a0 s) (hw : 688 &&& w0 = 688) : Frame w0 a0 (State.sigwinWait s c o) :=
  Frame.step _ _ _ _ _ h0 (State.sigwinWait_frame s c o) hw

theorem execSigwinRead_frame (c : Ctx) (o : SigIx) (s : State) : Completes 688 s (execSigwinRead c o s) := by
  unfold execSigwinRead
  try dsimp only
  repeat' first
    | with_reducible apply Completes.intro
    | with_reducible apply Frame.refl
    | with_reducible assumption
    | apply Eq.refl
    | with_reducible apply State.sigwinWait_step
    | with_reducible apply Frame.foldl
    | with_reducible apply Frame.foldl_fst
    | split
    | with_reducible apply Frame.ite
    | intro _
    | dsimp only
theorem execSigwinRead_after (w0 : Nat) (a0 : State) (c : Ctx) (o : SigIx) (s : State) (h0 : Frame w0 a0 s) (hw : 688 &&& w0 = 688) : Completes w0 a0 (execSigwinRead c o s) :=
  Completes.step _ _ _ _ _ h0 (execSigwinRead_frame c o s) hw

theorem State.zeroWords_frame (s : State) (a : Nat) (n : Nat) : Frame 16 s (State.zeroWords s a n) := by
  unfold State.zeroWords
  try dsimp only
  repeat' first
    | with_reducible apply Frame.refl
    | with_reducible assumption
    | apply Eq.refl
    | with_reducible apply State.setReg_step
    | with_reducible apply Frame.foldl
    | with_reducible apply Frame.foldl_fst
    | split
    | with_reducible apply Frame.ite
    | intro _
    | dsimp only
theorem State.zeroWords_step (w0 : Nat) (a0 : State) (s : State) (a : Nat) (n : Nat) (h0 : Frame w0 a0 s) (hw : 16 &&& w0 = 16) : Frame w0 a0 (State.zeroWords s a n) :=
  Frame.step _ _ _ _ _ h0 (State.zeroWords_frame s a n) hw

theorem State.activateCtx_frame (s : State) (c : Nat) : Frame 16 s (State.activateCtx s c) := by
  unfold State.activateCtx
  try dsimp only
  repeat' first
    | with_reducible apply Frame.refl
    | with_reducible assumption
    | apply Eq.refl
    | with_reducible apply State.zeroWords_step
    | with_reducible apply State.setReg_step
    | with_reducible apply Frame.foldl
    | with_reducible apply Frame.foldl_fst
    | split
    | with_reducible apply Frame.ite
    | intro _
    | dsimp only
theorem State.activateCtx_step (w0 : Nat) (a0 : State) (s : State) (c : Nat) (h0 : Frame w0 a0 s) (hw : 16 &&& w0 = 16) : Frame w0 a0 (State.activateCtx s c) :=
  Frame.step _ _ _ _ _ h0 (State.activateCtx_frame s c) hw

theorem State.createCtx_frame (s : State) (c : Nat) : Frame 16 s (State.createCtx s c) := by
  unfold State.createCtx
  try dsimp only
  repeat' first
    | with_reducible apply Frame.refl
    | with_reducible assumption
    | apply Eq.refl
    | with_reducible apply State.activateCtx_step
    | with_reducible apply State.clrBits_step
    | with_reducible apply State.zeroWords_step
    | with_reducible apply Frame.foldl
    | with_reducible apply Frame.foldl_fst
    | split
    | with_reducible apply Frame.ite
    | intro _
    | dsimp only
theorem State.createCtx_step (w0 : Nat) (a0 : State) (s : State) (c : Nat) (h0 : Frame w0 a0 s) (hw : 16 &&& w0 = 16) : Frame w0 a0 (State.createCtx s c) :=
  Frame.step _ _ _ _ _ h0 (State.createCtx_frame s c) hw

theorem execCtxCreate_frame (c : Ctx) (s : State) : Completes 16 s (execCtxCreate c s) := by
  unfold execCtxCreate
  try dsimp only
  repeat' first
    | with_reducible apply Completes.intro
    | with_reducible apply Frame.refl
    | with_reducible assumption
    | apply Eq.refl
    | with_reducible apply State.createCtx_step
    | with_reducible apply Frame.foldl
    | with_reducible apply Frame.foldl_fst
    | split
    | with_reducible apply Frame.ite
    | intro _
    | dsimp only
theorem execCtxCreate_after (w0 : Nat) (a0 : State) (c : Ctx) (s : State) (h0 : Frame w0 a0 s) (hw : 16 &&& w0 = 16) : Completes w0 a0 (execCtxCreate c s) :=
  Completes.step _ _ _ _ _ h0 (execCtxCreate_frame c s) hw

theorem State.destroyCtx_frame (s : State) (c : Nat) : Frame 649628720 s (State.destroyCtx s c) := by
  unfold State.destroyCtx
  try dsimp only
  repeat' first
    | with_reducible apply Frame.refl
    | with_reducible assumption
    | apply Eq.refl
    | with_reducible apply State.beginDestroy_step
    | with_reducible apply State.unring_step
    | with_reducible apply Frame.foldl
    | with_reducible apply Frame.foldl_fst
    | split
    | with_reducible apply Frame.ite
    | intro _
    | dsimp only
theorem State.destroyCtx_step (w0 : Nat) (a0 : State) (s : State) (c : Nat) (h0 : Frame w0 a0 s) (hw : 649628720 &&& w0 = 649628720) : Frame w0 a0 (State.destroyCtx s c) :=
  Frame.step _ _ _ _ _ h0 (State.destroyCtx_frame s c) hw

theorem execCtxDestroy_frame (c : Ctx) (s : State) : Completes 649628720 s (execCtxDestroy c s) := by
  unfold execCtxDestroy
  try dsimp only
  repeat' first
    | with_reducible apply Completes.intro
    | with_reducible apply Frame.refl
    | with_reducible assumption
    | apply Eq.refl
    | with_reducible apply State.destroyCtx_step
    | with_reducible apply Frame.foldl
    | with_reducible apply Frame.foldl_fst
    | split
    | with_reducible apply Frame.ite
    | intro _
    | dsimp only
theorem execCtxDestroy_after (w0 : Nat) (a0 : State) (c : Ctx) (s : State) (h0 : Frame w0 a0 s) (hw : 649628720 &&& w0 = 649628720) : Completes w0 a0 (execCtxDestroy c s) :=
  Completes.step _ _ _ _ _ h0 (execCtxDestroy_frame c s) hw

theorem execCtxDestroyComplete_frame (c : Ctx) (s : State) : Completes 653823024 s (execCtxDestroyComplete c s) := by
  unfold execCtxDestroyComplete
  try dsimp only
  repeat' first
    | with_reducible apply Completes.intro
    | with_reducible apply Frame.refl
    | with_reducible assumption
    | apply Eq.refl
    | with_reducible apply State.endDestroy_step
    | with_reducible apply Frame.foldl
    | with_reducible apply Frame.foldl_fst
    | split
    | with_reducible apply Frame.ite
    | intro _
    | dsimp only
theorem execCtxDestroyComplete_after (w0 : Nat) (a0 : State) (c : Ctx) (s : State) (h0 : Frame w0 a0 s) (hw : 653823024 &&& w0 = 653823024) : Completes w0 a0 (execCtxDestroyComplete c s) :=
  Completes.step _ _ _ _ _ h0 (execCtxDestroyComplete_frame c s) hw

theorem State.resetTaskCore_frame (s : State) (k : Nat) : Frame 37260336 s (State.resetTaskCore s k) := by
  unfold State.resetTaskCore
  try dsimp only
  repeat' first
    | with_reducible apply Frame.refl
    | with_reducible assumption
    | apply Eq.refl
    | with_reducible apply State.setCore_step
    | with_reducible apply State.abandonWait_step
    | with_reducible apply State.sbDrain_step
    | with_reducible apply State.setTaskSt_step
    | with_reducible apply State.setTask_step
    | with_reducible apply Frame.foldl
    | with_reducible apply Frame.foldl_fst
    | split
    | with_reducible apply Frame.ite
    | intro _
    | dsimp only
theorem State.resetTaskCore_step (w0 : Nat) (a0 : State) (s : State) (k : Nat) (h0 : Frame w0 a0 s) (hw : 37260336 &&& w0 = 37260336) : Frame w0 a0 (State.resetTaskCore s k) :=
  Frame.step _ _ _ _ _ h0 (State.resetTaskCore_frame s k) hw

theorem State.resetLate_frame (s : State) (k : Nat) : Frame 649628720 s (State.resetLate s k) := by
  unfold State.resetLate
  try dsimp only
  repeat' first
    | with_reducible apply Frame.refl
    | with_reducible assumption
    | apply Eq.refl
    | with_reducible apply State.endTask_step
    | with_reducible apply State.setCore_step
    | with_reducible apply State.abandonWait_step
    | with_reducible apply State.sbDrain_step
    | with_reducible apply Frame.foldl
    | with_reducible apply Frame.foldl_fst
    | split
    | with_reducible apply Frame.ite
    | intro _
    | dsimp only
theorem State.resetLate_step (w0 : Nat) (a0 : State) (s : State) (k : Nat) (h0 : Frame w0 a0 s) (hw : 649628720 &&& w0 = 649628720) : Frame w0 a0 (State.resetLate s k) :=
  Frame.step _ _ _ _ _ h0 (State.resetLate_frame s k) hw

theorem State.escalateRing_frame (s : State) (c : Nat) : Frame 649628720 s (State.escalateRing s c) := by
  unfold State.escalateRing
  try dsimp only
  repeat' first
    | with_reducible apply Frame.refl
    | with_reducible assumption
    | apply Eq.refl
    | with_reducible apply State.emit_step
    | with_reducible apply State.setBits_step
    | with_reducible apply State.resetLate_step
    | with_reducible apply Frame.foldl
    | with_reducible apply Frame.foldl_fst
    | split
    | with_reducible apply Frame.ite
    | intro _
    | dsimp only
theorem State.escalateRing_step (w0 : Nat) (a0 : State) (s : State) (c : Nat) (h0 : Frame w0 a0 s) (hw : 649628720 &&& w0 = 649628720) : Frame w0 a0 (State.escalateRing s c) :=
  Frame.step _ _ _ _ _ h0 (State.escalateRing_frame s c) hw

theorem State.escalate_frame (s : State) (c : Nat) : Frame 653823024 s (State.escalate s c) := by
  unfold State.escalate
  try dsimp only
  repeat' first
    | with_reducible apply Frame.refl
    | with_reducible assumption
    | apply Eq.refl
    | with_reducible apply State.resetTaskCore_step
    | with_reducible apply State.pqResetAll_step
    | with_reducible apply State.setBits_step
    | with_reducible apply State.endDestroy_step
    | with_reducible apply State.emit_step
    | with_reducible apply Frame.foldl
    | with_reducible apply Frame.foldl_fst
    | split
    | with_reducible apply Frame.ite
    | intro _
    | dsimp only
theorem State.escalate_step (w0 : Nat) (a0 : State) (s : State) (c : Nat) (h0 : Frame w0 a0 s) (hw : 653823024 &&& w0 = 653823024) : Frame w0 a0 (State.escalate s c) :=
  Frame.step _ _ _ _ _ h0 (State.escalate_frame s c) hw

theorem execCtxDestroyEscalated_frame (c : Ctx) (s : State) : Completes 653823024 s (execCtxDestroyEscalated c s) := by
  unfold execCtxDestroyEscalated
  try dsimp only
  repeat' first
    | with_reducible apply Completes.intro
    | with_reducible apply Frame.refl
    | with_reducible assumption
    | apply Eq.refl
    | with_reducible apply State.escalate_step
    | with_reducible apply State.escalateRing_step
    | with_reducible apply Frame.foldl
    | with_reducible apply Frame.foldl_fst
    | split
    | with_reducible apply Frame.ite
    | intro _
    | dsimp only
theorem execCtxDestroyEscalated_after (w0 : Nat) (a0 : State) (c : Ctx) (s : State) (h0 : Frame w0 a0 s) (hw : 653823024 &&& w0 = 653823024) : Completes w0 a0 (execCtxDestroyEscalated c s) :=
  Completes.step _ _ _ _ _ h0 (execCtxDestroyEscalated_frame c s) hw

theorem State.clearFault_frame (s : State) (c : Nat) : Frame 16 s (State.clearFault s c) := by
  unfold State.clearFault
  try dsimp only
  repeat' first
    | with_reducible apply Frame.refl
    | with_reducible assumption
    | apply Eq.refl
    | with_reducible apply State.activateCtx_step
    | with_reducible apply State.setRegN_step
    | with_reducible apply Frame.foldl
    | with_reducible apply Frame.foldl_fst
    | split
    | with_reducible apply Frame.ite
    | intro _
    | dsimp only
theorem State.clearFault_step (w0 : Nat) (a0 : State) (s : State) (c : Nat) (h0 : Frame w0 a0 s) (hw : 16 &&& w0 = 16) : Frame w0 a0 (State.clearFault s c) :=
  Frame.step _ _ _ _ _ h0 (State.clearFault_frame s c) hw

theorem execCtxClearFault_frame (c : Ctx) (s : State) : Completes 16 s (execCtxClearFault c s) := by
  unfold execCtxClearFault
  try dsimp only
  repeat' first
    | with_reducible apply Completes.intro
    | with_reducible apply Frame.refl
    | with_reducible assumption
    | apply Eq.refl
    | with_reducible apply State.clearFault_step
    | with_reducible apply Frame.foldl
    | with_reducible apply Frame.foldl_fst
    | split
    | with_reducible apply Frame.ite
    | intro _
    | dsimp only
theorem execCtxClearFault_after (w0 : Nat) (a0 : State) (c : Ctx) (s : State) (h0 : Frame w0 a0 s) (hw : 16 &&& w0 = 16) : Completes w0 a0 (execCtxClearFault c s) :=
  Completes.step _ _ _ _ _ h0 (execCtxClearFault_frame c s) hw

theorem State.tlbInv_frame (s : State) (c : Nat) : Frame 48 s (State.tlbInv s c) := by
  unfold State.tlbInv
  try dsimp only
  repeat' first
    | with_reducible apply Frame.refl
    | with_reducible assumption
    | apply Eq.refl
    | with_reducible apply State.setBits_step
    | with_reducible apply Frame.foldl
    | with_reducible apply Frame.foldl_fst
    | split
    | with_reducible apply Frame.ite
    | intro _
    | dsimp only
theorem State.tlbInv_step (w0 : Nat) (a0 : State) (s : State) (c : Nat) (h0 : Frame w0 a0 s) (hw : 48 &&& w0 = 48) : Frame w0 a0 (State.tlbInv s c) :=
  Frame.step _ _ _ _ _ h0 (State.tlbInv_frame s c) hw

theorem execCtxTlbInv_frame (c : Ctx) (s : State) : Completes 48 s (execCtxTlbInv c s) := by
  unfold execCtxTlbInv
  try dsimp only
  repeat' first
    | with_reducible apply Completes.intro
    | with_reducible apply Frame.refl
    | with_reducible assumption
    | apply Eq.refl
    | with_reducible apply State.tlbInv_step
    | with_reducible apply Frame.foldl
    | with_reducible apply Frame.foldl_fst
    | split
    | with_reducible apply Frame.ite
    | intro _
    | dsimp only
theorem execCtxTlbInv_after (w0 : Nat) (a0 : State) (c : Ctx) (s : State) (h0 : Frame w0 a0 s) (hw : 48 &&& w0 = 48) : Completes w0 a0 (execCtxTlbInv c s) :=
  Completes.step _ _ _ _ _ h0 (execCtxTlbInv_frame c s) hw

theorem execTlbInvComplete_frame (c : Ctx) (s : State) : Completes 16 s (execTlbInvComplete c s) := by
  unfold execTlbInvComplete
  try dsimp only
  repeat' first
    | with_reducible apply Completes.intro
    | with_reducible apply Frame.refl
    | with_reducible assumption
    | apply Eq.refl
    | with_reducible apply State.clrBits_step
    | with_reducible apply Frame.foldl
    | with_reducible apply Frame.foldl_fst
    | split
    | with_reducible apply Frame.ite
    | intro _
    | dsimp only
theorem execTlbInvComplete_after (w0 : Nat) (a0 : State) (c : Ctx) (s : State) (h0 : Frame w0 a0 s) (hw : 16 &&& w0 = 16) : Completes w0 a0 (execTlbInvComplete c s) :=
  Completes.step _ _ _ _ _ h0 (execTlbInvComplete_frame c s) hw

theorem execCtxOwnWrite_frame (c : Ctx) (queues : Bool) (word : Fin 16) (v : Word) (s : State) : Completes 48 s (execCtxOwnWrite c queues word v s) := by
  unfold execCtxOwnWrite
  try dsimp only
  repeat' first
    | with_reducible apply Completes.intro
    | with_reducible apply Frame.refl
    | with_reducible assumption
    | apply Eq.refl
    | with_reducible apply State.writeOwn_step
    | with_reducible apply Frame.foldl
    | with_reducible apply Frame.foldl_fst
    | split
    | with_reducible apply Frame.ite
    | intro _
    | dsimp only
theorem execCtxOwnWrite_after (w0 : Nat) (a0 : State) (c : Ctx) (queues : Bool) (word : Fin 16) (v : Word) (s : State) (h0 : Frame w0 a0 s) (hw : 48 &&& w0 = 48) : Completes w0 a0 (execCtxOwnWrite c queues word v s) :=
  Completes.step _ _ _ _ _ h0 (execCtxOwnWrite_frame c queues word v s) hw

theorem State.disableRing_frame (s : State) (c : Nat) (r : Nat) : Frame 649628720 s (State.disableRing s c r) := by
  unfold State.disableRing
  try dsimp only
  repeat' first
    | with_reducible apply Frame.refl
    | with_reducible assumption
    | apply Eq.refl
    | with_reducible apply State.cancelWhere_step
    | with_reducible apply State.setTask_step
    | with_reducible apply State.clrBits_step
    | with_reducible apply Frame.foldl
    | with_reducible apply Frame.foldl_fst
    | split
    | with_reducible apply Frame.ite
    | intro _
    | dsimp only
theorem State.disableRing_step (w0 : Nat) (a0 : State) (s : State) (c : Nat) (r : Nat) (h0 : Frame w0 a0 s) (hw : 649628720 &&& w0 = 649628720) : Frame w0 a0 (State.disableRing s c r) :=
  Frame.step _ _ _ _ _ h0 (State.disableRing_frame s c r) hw

theorem execRingDisable_frame (c : Ctx) (r : Ring) (s : State) : Completes 649628720 s (execRingDisable c r s) := by
  unfold execRingDisable
  try dsimp only
  repeat' first
    | with_reducible apply Completes.intro
    | with_reducible apply Frame.refl
    | with_reducible assumption
    | apply Eq.refl
    | with_reducible apply State.disableRing_step
    | with_reducible apply Frame.foldl
    | with_reducible apply Frame.foldl_fst
    | split
    | with_reducible apply Frame.ite
    | intro _
    | dsimp only
theorem execRingDisable_after (w0 : Nat) (a0 : State) (c : Ctx) (r : Ring) (s : State) (h0 : Frame w0 a0 s) (hw : 649628720 &&& w0 = 649628720) : Completes w0 a0 (execRingDisable c r s) :=
  Completes.step _ _ _ _ _ h0 (execRingDisable_frame c r s) hw

theorem execRingEntryFetch_frame (c : Ctx) (r : Ring) (s : State) : Completes 649628720 s (execRingEntryFetch c r s) := by
  unfold execRingEntryFetch
  try dsimp only
  repeat' first
    | with_reducible apply Completes.intro
    | with_reducible apply Frame.refl
    | with_reducible assumption
    | apply Eq.refl
    | with_reducible refine State.orWait_frame _ _ _ _ ?_ ?_ ?_
    | with_reducible apply State.fetchEntry_step
    | with_reducible apply Frame.foldl
    | with_reducible apply Frame.foldl_fst
    | split
    | with_reducible apply Frame.ite
    | intro _
    | dsimp only
theorem execRingEntryFetch_after (w0 : Nat) (a0 : State) (c : Ctx) (r : Ring) (s : State) (h0 : Frame w0 a0 s) (hw : 649628720 &&& w0 = 649628720) : Completes w0 a0 (execRingEntryFetch c r s) :=
  Completes.step _ _ _ _ _ h0 (execRingEntryFetch_frame c r s) hw

theorem State.ringStart_frame (s : State) (c : Nat) (r : Nat) (op : Nat) (f : State → REntry → State) : ∀ w0 a0, Frame w0 a0 s → (∀ t e, Frame w0 a0 t → Frame w0 a0 (f t e)) → Frame w0 a0 (State.ringStart s c r op f) := by
  intro w0 a0 h hf
  unfold State.ringStart
  split
  · split
    · exact hf _ _ h
    · exact h
  · exact h

theorem State.entryDone_frame (s : State) (c : Nat) (e : REntry) : Frame 67108864 s (State.entryDone s c e) := by
  unfold State.entryDone
  try dsimp only
  repeat' first
    | with_reducible apply Frame.refl
    | with_reducible assumption
    | apply Eq.refl
    | with_reducible apply State.updEntry_step
    | with_reducible apply Frame.foldl
    | with_reducible apply Frame.foldl_fst
    | split
    | with_reducible apply Frame.ite
    | intro _
    | dsimp only
theorem State.entryDone_step (w0 : Nat) (a0 : State) (s : State) (c : Nat) (e : REntry) (h0 : Frame w0 a0 s) (hw : 67108864 &&& w0 = 67108864) : Frame w0 a0 (State.entryDone s c e) :=
  Frame.step _ _ _ _ _ h0 (State.entryDone_frame s c e) hw

theorem execRingNop_frame (c : Ctx) (r : Ring) (s : State) : Completes 67108864 s (execRingNop c r s) := by
  unfold execRingNop
  try dsimp only
  repeat' first
    | with_reducible apply Completes.intro
    | with_reducible apply Frame.refl
    | with_reducible assumption
    | apply Eq.refl
    | with_reducible refine State.ringStart_frame _ _ _ _ _ _ _ ?_ ?_
    | with_reducible apply State.entryDone_step
    | with_reducible apply Frame.foldl
    | with_reducible apply Frame.foldl_fst
    | split
    | with_reducible apply Frame.ite
    | intro _
    | dsimp only
theorem execRingNop_after (w0 : Nat) (a0 : State) (c : Ctx) (r : Ring) (s : State) (h0 : Frame w0 a0 s) (hw : 67108864 &&& w0 = 67108864) : Completes w0 a0 (execRingNop c r s) :=
  Completes.step _ _ _ _ _ h0 (execRingNop_frame c r s) hw

theorem execRingTask_frame (c : Ctx) (r : Ring) (s : State) : Completes 649628720 s (execRingTask c r s) := by
  unfold execRingTask
  try dsimp only
  repeat' first
    | with_reducible apply Completes.intro
    | with_reducible apply Frame.refl
    | with_reducible assumption
    | apply Eq.refl
    | with_reducible refine State.ringStart_frame _ _ _ _ _ _ _ ?_ ?_
    | with_reducible apply State.entryTask_step
    | with_reducible apply Frame.foldl
    | with_reducible apply Frame.foldl_fst
    | split
    | with_reducible apply Frame.ite
    | intro _
    | dsimp only
theorem execRingTask_after (w0 : Nat) (a0 : State) (c : Ctx) (r : Ring) (s : State) (h0 : Frame w0 a0 s) (hw : 649628720 &&& w0 = 649628720) : Completes w0 a0 (execRingTask c r s) :=
  Completes.step _ _ _ _ _ h0 (execRingTask_frame c r s) hw

theorem execRingCopy_frame (c : Ctx) (r : Ring) (s : State) : Completes 649628720 s (execRingCopy c r s) := by
  unfold execRingCopy
  try dsimp only
  repeat' first
    | with_reducible apply Completes.intro
    | with_reducible apply Frame.refl
    | with_reducible assumption
    | apply Eq.refl
    | with_reducible refine State.ringStart_frame _ _ _ _ _ _ _ ?_ ?_
    | with_reducible apply State.entryTask_step
    | with_reducible apply Frame.foldl
    | with_reducible apply Frame.foldl_fst
    | split
    | with_reducible apply Frame.ite
    | intro _
    | dsimp only
theorem execRingCopy_after (w0 : Nat) (a0 : State) (c : Ctx) (r : Ring) (s : State) (h0 : Frame w0 a0 s) (hw : 649628720 &&& w0 = 649628720) : Completes w0 a0 (execRingCopy c r s) :=
  Completes.step _ _ _ _ _ h0 (execRingCopy_frame c r s) hw

theorem execRingSignal_frame (c : Ctx) (r : Ring) (s : State) : Completes 102237232 s (execRingSignal c r s) := by
  unfold execRingSignal
  try dsimp only
  repeat' first
    | with_reducible apply Completes.intro
    | with_reducible apply Frame.refl
    | with_reducible assumption
    | apply Eq.refl
    | with_reducible refine State.ringStart_frame _ _ _ _ _ _ _ ?_ ?_
    | with_reducible apply State.entryDone_step
    | with_reducible apply State.signal_step
    | with_reducible apply Frame.foldl
    | with_reducible apply Frame.foldl_fst
    | split
    | with_reducible apply Frame.ite
    | intro _
    | dsimp only
theorem execRingSignal_after (w0 : Nat) (a0 : State) (c : Ctx) (r : Ring) (s : State) (h0 : Frame w0 a0 s) (hw : 102237232 &&& w0 = 102237232) : Completes w0 a0 (execRingSignal c r s) :=
  Completes.step _ _ _ _ _ h0 (execRingSignal_frame c r s) hw

theorem State.waitSig_frame (s : State) (c : Nat) (e : REntry) : Frame 67108880 s (State.waitSig s c e) := by
  unfold State.waitSig
  try dsimp only
  repeat' first
    | with_reducible apply Frame.refl
    | with_reducible assumption
    | apply Eq.refl
    | with_reducible apply State.entryDone_step
    | with_reducible apply State.sigTake_step
    | (with_reducible refine Frame.of_pair (by with_reducible assumption) (State.sigTake_step _ _ _ _ ?_ ?_))
    | with_reducible apply State.updEntry_step
    | with_reducible apply Frame.foldl
    | with_reducible apply Frame.foldl_fst
    | split
    | with_reducible apply Frame.ite
    | intro _
    | dsimp only
theorem State.waitSig_step (w0 : Nat) (a0 : State) (s : State) (c : Nat) (e : REntry) (h0 : Frame w0 a0 s) (hw : 67108880 &&& w0 = 67108880) : Frame w0 a0 (State.waitSig s c e) :=
  Frame.step _ _ _ _ _ h0 (State.waitSig_frame s c e) hw

theorem execRingWaitSig_frame (c : Ctx) (r : Ring) (s : State) : Completes 67108880 s (execRingWaitSig c r s) := by
  unfold execRingWaitSig
  try dsimp only
  repeat' first
    | with_reducible apply Completes.intro
    | with_reducible apply Frame.refl
    | with_reducible assumption
    | apply Eq.refl
    | with_reducible refine State.ringStart_frame _ _ _ _ _ _ _ ?_ ?_
    | with_reducible apply State.waitSig_step
    | with_reducible apply Frame.foldl
    | with_reducible apply Frame.foldl_fst
    | split
    | with_reducible apply Frame.ite
    | intro _
    | dsimp only
theorem execRingWaitSig_after (w0 : Nat) (a0 : State) (c : Ctx) (r : Ring) (s : State) (h0 : Frame w0 a0 s) (hw : 67108880 &&& w0 = 67108880) : Completes w0 a0 (execRingWaitSig c r s) :=
  Completes.step _ _ _ _ _ h0 (execRingWaitSig_frame c r s) hw

theorem execRingWaitGrant_frame (o : SigIx) (s : State) : Completes 67108880 s (execRingWaitGrant o s) := by
  unfold execRingWaitGrant
  try dsimp only
  repeat' first
    | with_reducible apply Completes.intro
    | with_reducible apply Frame.refl
    | with_reducible assumption
    | apply Eq.refl
    | with_reducible apply State.grantRing_step
    | with_reducible apply Frame.foldl
    | with_reducible apply Frame.foldl_fst
    | split
    | with_reducible apply Frame.ite
    | intro _
    | dsimp only
theorem execRingWaitGrant_after (w0 : Nat) (a0 : State) (o : SigIx) (s : State) (h0 : Frame w0 a0 s) (hw : 67108880 &&& w0 = 67108880) : Completes w0 a0 (execRingWaitGrant o s) :=
  Completes.step _ _ _ _ _ h0 (execRingWaitGrant_frame o s) hw

theorem execRingWaitFence_frame (c : Ctx) (r : Ring) (s : State) : Completes 649628720 s (execRingWaitFence c r s) := by
  unfold execRingWaitFence
  try dsimp only
  repeat' first
    | with_reducible apply Completes.intro
    | with_reducible apply Frame.refl
    | with_reducible assumption
    | apply Eq.refl
    | with_reducible refine State.orWait_frame _ _ _ _ ?_ ?_ ?_
    | with_reducible refine State.ringStart_frame _ _ _ _ _ _ _ ?_ ?_
    | with_reducible apply State.pollFence_step
    | with_reducible apply Frame.foldl
    | with_reducible apply Frame.foldl_fst
    | split
    | with_reducible apply Frame.ite
    | intro _
    | dsimp only
theorem execRingWaitFence_after (w0 : Nat) (a0 : State) (c : Ctx) (r : Ring) (s : State) (h0 : Frame w0 a0 s) (hw : 649628720 &&& w0 = 649628720) : Completes w0 a0 (execRingWaitFence c r s) :=
  Completes.step _ _ _ _ _ h0 (execRingWaitFence_frame c r s) hw

theorem execFencePoll_frame (c : Ctx) (r : Ring) (s : State) : Completes 649628720 s (execFencePoll c r s) := by
  unfold execFencePoll
  try dsimp only
  repeat' first
    | with_reducible apply Completes.intro
    | with_reducible apply Frame.refl
    | with_reducible assumption
    | apply Eq.refl
    | with_reducible refine State.orWait_frame _ _ _ _ ?_ ?_ ?_
    | with_reducible apply State.pollFence_step
    | with_reducible apply Frame.foldl
    | with_reducible apply Frame.foldl_fst
    | split
    | with_reducible apply Frame.ite
    | intro _
    | dsimp only
theorem execFencePoll_after (w0 : Nat) (a0 : State) (c : Ctx) (r : Ring) (s : State) (h0 : Frame w0 a0 s) (hw : 649628720 &&& w0 = 649628720) : Completes w0 a0 (execFencePoll c r s) :=
  Completes.step _ _ _ _ _ h0 (execFencePoll_frame c r s) hw

theorem execRingWriteFence_frame (c : Ctx) (r : Ring) (s : State) : Completes 112725040 s (execRingWriteFence c r s) := by
  unfold execRingWriteFence
  try dsimp only
  repeat' first
    | with_reducible apply Completes.intro
    | with_reducible apply Frame.refl
    | with_reducible assumption
    | apply Eq.refl
    | with_reducible refine State.orWait_frame _ _ _ _ ?_ ?_ ?_
    | with_reducible refine State.ringStart_frame _ _ _ _ _ _ _ ?_ ?_
    | with_reducible apply State.entryDone_step
    | with_reducible apply State.fenceWrite_step
    | with_reducible apply Frame.foldl
    | with_reducible apply Frame.foldl_fst
    | split
    | with_reducible apply Frame.ite
    | intro _
    | dsimp only
theorem execRingWriteFence_after (w0 : Nat) (a0 : State) (c : Ctx) (r : Ring) (s : State) (h0 : Frame w0 a0 s) (hw : 112725040 &&& w0 = 112725040) : Completes w0 a0 (execRingWriteFence c r s) :=
  Completes.step _ _ _ _ _ h0 (execRingWriteFence_frame c r s) hw

theorem execEntryComplete_frame (c : Ctx) (r : Ring) (index : Word) (s : State) : Completes 102237236 s (execEntryComplete c r index s) := by
  unfold execEntryComplete
  try dsimp only
  repeat' first
    | with_reducible apply Completes.intro
    | with_reducible apply Frame.refl
    | with_reducible assumption
    | apply Eq.refl
    | with_reducible apply State.completeEntry_step
    | with_reducible apply Frame.foldl
    | with_reducible apply Frame.foldl_fst
    | split
    | with_reducible apply Frame.ite
    | intro _
    | dsimp only
theorem execEntryComplete_after (w0 : Nat) (a0 : State) (c : Ctx) (r : Ring) (index : Word) (s : State) (h0 : Frame w0 a0 s) (hw : 102237236 &&& w0 = 102237236) : Completes w0 a0 (execEntryComplete c r index s) :=
  Completes.step _ _ _ _ _ h0 (execEntryComplete_frame c r index s) hw

end Sys2Proof.Machine
end

