-- ==== Sys2Proof/Laws/F_Groups.lean ====
section
/-!
SUPPORT. Frames of the operations of Machine/Groups.lean.
-/
namespace Sys2Proof.Machine

set_option linter.unusedTactic false
set_option linter.unreachableTactic false
set_option linter.unusedVariables false

theorem execFlitReceive_frame (p : Port) (f : Flit) (s : State) : Completes 1209586740 s (execFlitReceive p f s) := by
  unfold execFlitReceive
  try dsimp only
  repeat' first
    | with_reducible apply Completes.intro
    | with_reducible apply Frame.refl
    | with_reducible assumption
    | apply Eq.refl
    | with_reducible apply State.receiveFlit_step
    | with_reducible apply Frame.foldl
    | with_reducible apply Frame.foldl_fst
    | split
    | with_reducible apply Frame.ite
    | intro _
    | dsimp only
theorem execFlitReceive_after (w0 : Nat) (a0 : State) (p : Port) (f : Flit) (s : State) (h0 : Frame w0 a0 s) (hw : 1209586740 &&& w0 = 1209586740) : Completes w0 a0 (execFlitReceive p f s) :=
  Completes.step _ _ _ _ _ h0 (execFlitReceive_frame p f s) hw

theorem execPromenadeTokenRelease_frame (p : Port) (s : State) : Completes 1209586740 s (execPromenadeTokenRelease p s) := by
  unfold execPromenadeTokenRelease
  try dsimp only
  repeat' first
    | with_reducible apply Completes.intro
    | with_reducible apply Frame.refl
    | with_reducible assumption
    | apply Eq.refl
    | with_reducible apply State.releaseToken_step
    | with_reducible apply Frame.foldl
    | with_reducible apply Frame.foldl_fst
    | split
    | with_reducible apply Frame.ite
    | intro _
    | dsimp only
theorem execPromenadeTokenRelease_after (w0 : Nat) (a0 : State) (p : Port) (s : State) (h0 : Frame w0 a0 s) (hw : 1209586740 &&& w0 = 1209586740) : Completes w0 a0 (execPromenadeTokenRelease p s) :=
  Completes.step _ _ _ _ _ h0 (execPromenadeTokenRelease_frame p s) hw

theorem execPrmLinkDown_frame (p : Port) (s : State) : Completes 1209586740 s (execPrmLinkDown p s) := by
  unfold execPrmLinkDown
  try dsimp only
  repeat' first
    | with_reducible apply Completes.intro
    | with_reducible apply Frame.refl
    | with_reducible assumption
    | apply Eq.refl
    | with_reducible apply State.linkDown_step
    | with_reducible apply Frame.foldl
    | with_reducible apply Frame.foldl_fst
    | split
    | with_reducible apply Frame.ite
    | intro _
    | dsimp only
theorem execPrmLinkDown_after (w0 : Nat) (a0 : State) (p : Port) (s : State) (h0 : Frame w0 a0 s) (hw : 1209586740 &&& w0 = 1209586740) : Completes w0 a0 (execPrmLinkDown p s) :=
  Completes.step _ _ _ _ _ h0 (execPrmLinkDown_frame p s) hw

theorem State.recal_frame (s : State) (p : Nat) : Frame 1209586740 s (State.recal s p) := by
  unfold State.recal
  try dsimp only
  repeat' first
    | with_reducible apply Frame.refl
    | with_reducible assumption
    | apply Eq.refl
    | with_reducible apply State.linkDown_step
    | with_reducible apply Frame.foldl
    | with_reducible apply Frame.foldl_fst
    | split
    | with_reducible apply Frame.ite
    | intro _
    | dsimp only
theorem State.recal_step (w0 : Nat) (a0 : State) (s : State) (p : Nat) (h0 : Frame w0 a0 s) (hw : 1209586740 &&& w0 = 1209586740) : Frame w0 a0 (State.recal s p) :=
  Frame.step _ _ _ _ _ h0 (State.recal_frame s p) hw

theorem execRecal_frame (p : Port) (s : State) : Completes 1209586740 s (execRecal p s) := by
  unfold execRecal
  try dsimp only
  repeat' first
    | with_reducible apply Completes.intro
    | with_reducible apply Frame.refl
    | with_reducible assumption
    | apply Eq.refl
    | with_reducible apply State.recal_step
    | with_reducible apply Frame.foldl
    | with_reducible apply Frame.foldl_fst
    | split
    | with_reducible apply Frame.ite
    | intro _
    | dsimp only
theorem execRecal_after (w0 : Nat) (a0 : State) (p : Port) (s : State) (h0 : Frame w0 a0 s) (hw : 1209586740 &&& w0 = 1209586740) : Completes w0 a0 (execRecal p s) :=
  Completes.step _ _ _ _ _ h0 (execRecal_frame p s) hw

theorem State.updGrp_frame (s : State) (f : GroupState → GroupState) : ∀ w0 a0, Frame w0 a0 s → w0 / 134217728 % 2 = 1 → (s.canonical = true → Tab.wf (fun _ => Link.init) (f s.grp).links = true) → Frame w0 a0 (State.updGrp s f) := by
  intro w0 a0 h hw hv
  exact Frame.set_grp' w0 a0 s _ h hw hv

theorem State.offsetEpisode_frame (s : State) (ns : ℤ) : Frame 1573944 s (State.offsetEpisode s ns) := by
  unfold State.offsetEpisode
  try dsimp only
  repeat' first
    | with_reducible apply Frame.refl
    | with_reducible assumption
    | apply Eq.refl
    | with_reducible apply State.emit_step
    | with_reducible apply Frame.foldl
    | with_reducible apply Frame.foldl_fst
    | split
    | with_reducible apply Frame.ite
    | with_reducible apply Frame.set_ptp
    | intro _
    | dsimp only
theorem State.offsetEpisode_step (w0 : Nat) (a0 : State) (s : State) (ns : ℤ) (h0 : Frame w0 a0 s) (hw : 1573944 &&& w0 = 1573944) : Frame w0 a0 (State.offsetEpisode s ns) :=
  Frame.step _ _ _ _ _ h0 (State.offsetEpisode_frame s ns) hw

theorem State.ptpMessage_frame (s : State) (ck : Nat) (time : Nat) : Frame 1573944 s (State.ptpMessage s ck time) := by
  unfold State.ptpMessage
  try dsimp only
  repeat' first
    | with_reducible apply Frame.refl
    | with_reducible assumption
    | apply Eq.refl
    | with_reducible apply State.offsetEpisode_step
    | with_reducible apply State.setRegN_step
    | with_reducible apply Frame.foldl
    | with_reducible apply Frame.foldl_fst
    | split
    | with_reducible apply Frame.ite
    | intro _
    | dsimp only
theorem State.ptpMessage_step (w0 : Nat) (a0 : State) (s : State) (ck : Nat) (time : Nat) (h0 : Frame w0 a0 s) (hw : 1573944 &&& w0 = 1573944) : Frame w0 a0 (State.ptpMessage s ck time) :=
  Frame.step _ _ _ _ _ h0 (State.ptpMessage_frame s ck time) hw

theorem execMsgPtp_frame (grpCk : DWord) (time : DWord) (s : State) : Completes 1573944 s (execMsgPtp grpCk time s) := by
  unfold execMsgPtp
  try dsimp only
  repeat' first
    | with_reducible apply Completes.intro
    | with_reducible apply Frame.refl
    | with_reducible assumption
    | apply Eq.refl
    | with_reducible apply State.ptpMessage_step
    | with_reducible apply Frame.foldl
    | with_reducible apply Frame.foldl_fst
    | split
    | with_reducible apply Frame.ite
    | intro _
    | dsimp only
theorem execMsgPtp_after (w0 : Nat) (a0 : State) (grpCk : DWord) (time : DWord) (s : State) (h0 : Frame w0 a0 s) (hw : 1573944 &&& w0 = 1573944) : Completes w0 a0 (execMsgPtp grpCk time s) :=
  Completes.step _ _ _ _ _ h0 (execMsgPtp_frame grpCk time s) hw

theorem State.ptpBroadcast_frame (s : State) : Frame 134218756 s (State.ptpBroadcast s) := by
  unfold State.ptpBroadcast
  try dsimp only
  repeat' first
    | with_reducible apply Frame.refl
    | with_reducible assumption
    | apply Eq.refl
    | (with_reducible refine State.updGrp_frame _ _ _ _ ?_ ?_ ?_; rotate_left; apply Eq.refl; intro c; apply State.canonical_link _ c)
    | with_reducible apply State.sendMsg_step
    | with_reducible apply Frame.foldl
    | with_reducible apply Frame.foldl_fst
    | split
    | with_reducible apply Frame.ite
    | intro _
    | dsimp only
theorem State.ptpBroadcast_step (w0 : Nat) (a0 : State) (s : State) (h0 : Frame w0 a0 s) (hw : 134218756 &&& w0 = 134218756) : Frame w0 a0 (State.ptpBroadcast s) :=
  Frame.step _ _ _ _ _ h0 (State.ptpBroadcast_frame s) hw

theorem execPtpBroadcastTimer_frame (s : State) : Completes 134218756 s (execPtpBroadcastTimer s) := by
  unfold execPtpBroadcastTimer
  try dsimp only
  repeat' first
    | with_reducible apply Completes.intro
    | with_reducible apply Frame.refl
    | with_reducible assumption
    | apply Eq.refl
    | with_reducible apply State.ptpBroadcast_step
    | with_reducible apply Frame.foldl
    | with_reducible apply Frame.foldl_fst
    | split
    | with_reducible apply Frame.ite
    | intro _
    | dsimp only
theorem execPtpBroadcastTimer_after (w0 : Nat) (a0 : State) (s : State) (h0 : Frame w0 a0 s) (hw : 134218756 &&& w0 = 134218756) : Completes w0 a0 (execPtpBroadcastTimer s) :=
  Completes.step _ _ _ _ _ h0 (execPtpBroadcastTimer_frame s) hw

theorem State.groupFault_frame (s : State) (e : ErrInfo) : Frame 1209586740 s (State.groupFault s e) := by
  unfold State.groupFault
  try dsimp only
  repeat' first
    | with_reducible apply Frame.refl
    | with_reducible assumption
    | apply Eq.refl
    | with_reducible apply State.faultContain_step
    | with_reducible apply Frame.foldl
    | with_reducible apply Frame.foldl_fst
    | split
    | with_reducible apply Frame.ite
    | intro _
    | dsimp only
theorem State.groupFault_step (w0 : Nat) (a0 : State) (s : State) (e : ErrInfo) (h0 : Frame w0 a0 s) (hw : 1209586740 &&& w0 = 1209586740) : Frame w0 a0 (State.groupFault s e) :=
  Frame.step _ _ _ _ _ h0 (State.groupFault_frame s e) hw

theorem State.bellMismatch_frame (s : State) (mask : Nat) : Frame 1209586740 s (State.bellMismatch s mask) := by
  unfold State.bellMismatch
  try dsimp only
  repeat' first
    | with_reducible apply Frame.refl
    | with_reducible assumption
    | apply Eq.refl
    | with_reducible apply State.faultContain_step
    | with_reducible apply State.count_step
    | with_reducible apply Frame.foldl
    | with_reducible apply Frame.foldl_fst
    | split
    | with_reducible apply Frame.ite
    | intro _
    | dsimp only
theorem State.bellMismatch_step (w0 : Nat) (a0 : State) (s : State) (mask : Nat) (h0 : Frame w0 a0 s) (hw : 1209586740 &&& w0 = 1209586740) : Frame w0 a0 (State.bellMismatch s mask) :=
  Frame.step _ _ _ _ _ h0 (State.bellMismatch_frame s mask) hw

theorem State.remoteFault_frame (s : State) (code : Nat) (slot : Nat) : Frame 1075369008 s (State.remoteFault s code slot) := by
  unfold State.remoteFault
  try dsimp only
  repeat' first
    | with_reducible apply Frame.refl
    | with_reducible assumption
    | apply Eq.refl
    | with_reducible apply State.lowerSlot_step
    | with_reducible apply State.containBy_step
    | with_reducible apply State.emit_step
    | with_reducible apply Frame.foldl
    | with_reducible apply Frame.foldl_fst
    | split
    | with_reducible apply Frame.ite
    | intro _
    | dsimp only
theorem State.remoteFault_step (w0 : Nat) (a0 : State) (s : State) (code : Nat) (slot : Nat) (h0 : Frame w0 a0 s) (hw : 1075369008 &&& w0 = 1075369008) : Frame w0 a0 (State.remoteFault s code slot) :=
  Frame.step _ _ _ _ _ h0 (State.remoteFault_frame s code slot) hw

theorem execMsgFault_frame (code : BitVec 16) (m : Member) (_grpCk : DWord) (_holding : Bool) (s : State) : Completes 1075369008 s (execMsgFault code m _grpCk _holding s) := by
  unfold execMsgFault
  try dsimp only
  repeat' first
    | with_reducible apply Completes.intro
    | with_reducible apply Frame.refl
    | with_reducible assumption
    | apply Eq.refl
    | with_reducible apply State.remoteFault_step
    | with_reducible apply Frame.foldl
    | with_reducible apply Frame.foldl_fst
    | split
    | with_reducible apply Frame.ite
    | intro _
    | dsimp only
theorem execMsgFault_after (w0 : Nat) (a0 : State) (code : BitVec 16) (m : Member) (_grpCk : DWord) (_holding : Bool) (s : State) (h0 : Frame w0 a0 s) (hw : 1075369008 &&& w0 = 1075369008) : Completes w0 a0 (execMsgFault code m _grpCk _holding s) :=
  Completes.step _ _ _ _ _ h0 (execMsgFault_frame code m _grpCk _holding s) hw

theorem State.messageTimeout_frame (s : State) (kind : Nat) : Frame 1209586740 s (State.messageTimeout s kind) := by
  unfold State.messageTimeout
  try dsimp only
  repeat' first
    | with_reducible apply Frame.refl
    | with_reducible assumption
    | apply Eq.refl
    | with_reducible apply State.groupFault_step
    | with_reducible apply Frame.foldl
    | with_reducible apply Frame.foldl_fst
    | split
    | with_reducible apply Frame.ite
    | intro _
    | dsimp only
theorem State.messageTimeout_step (w0 : Nat) (a0 : State) (s : State) (kind : Nat) (h0 : Frame w0 a0 s) (hw : 1209586740 &&& w0 = 1209586740) : Frame w0 a0 (State.messageTimeout s kind) :=
  Frame.step _ _ _ _ _ h0 (State.messageTimeout_frame s kind) hw

theorem execControlMessageTimeout_frame (kind : Fin 16) (s : State) : Completes 1209586740 s (execControlMessageTimeout kind s) := by
  unfold execControlMessageTimeout
  try dsimp only
  repeat' first
    | with_reducible apply Completes.intro
    | with_reducible apply Frame.refl
    | with_reducible assumption
    | apply Eq.refl
    | with_reducible apply State.messageTimeout_step
    | with_reducible apply Frame.foldl
    | with_reducible apply Frame.foldl_fst
    | split
    | with_reducible apply Frame.ite
    | intro _
    | dsimp only
theorem execControlMessageTimeout_after (w0 : Nat) (a0 : State) (kind : Fin 16) (s : State) (h0 : Frame w0 a0 s) (hw : 1209586740 &&& w0 = 1209586740) : Completes w0 a0 (execControlMessageTimeout kind s) :=
  Completes.step _ _ _ _ _ h0 (execControlMessageTimeout_frame kind s) hw

theorem State.fillStamp_frame (s : State) (old : W48) (m : TickMsg) : Frame 135168 s (State.fillStamp s old m) := by
  unfold State.fillStamp
  try dsimp only
  repeat' first
    | with_reducible apply Frame.refl
    | with_reducible assumption
    | apply Eq.refl
    | with_reducible exact fun c => Tab.put_wf _ _ _ _ (State.canonical_cam _ c)
    | with_reducible exact fun c => Tab.mapV_wf _ _ _ (State.canonical_cam _ c)
    | with_reducible exact fun c => Tab.filter_wf _ _ _ (State.canonical_cam _ c)
    | with_reducible apply State.updBell_step
    | with_reducible apply Frame.foldl
    | with_reducible apply Frame.foldl_fst
    | split
    | with_reducible apply Frame.ite
    | (with_reducible apply Frame.set_gth; rotate_left; apply Eq.refl; apply Eq.refl)
    | with_reducible apply Frame.set_gth'
    | intro _
    | dsimp only
theorem State.fillStamp_step (w0 : Nat) (a0 : State) (s : State) (old : W48) (m : TickMsg) (h0 : Frame w0 a0 s) (hw : 135168 &&& w0 = 135168) : Frame w0 a0 (State.fillStamp s old m) :=
  Frame.step _ _ _ _ _ h0 (State.fillStamp_frame s old m) hw

theorem State.tickMessage_frame (s : State) (m : TickMsg) : Frame 134353920 s (State.tickMessage s m) := by
  unfold State.tickMessage
  split
  · exact Frame.refl _ _
  · extract_lets s1
    have h1 : Frame 134353920 s s1 := State.strobesAll_step _ _ _ (State.updGrp_frame _ _ _ _ (Frame.refl _ _) rfl (fun c => State.canonical_link s c)) rfl
    clear_value s1
    split
    · refine State.updGrp_frame _ _ _ _ ?_ rfl ?_
      · cases ‹Pulse›.applied with
        | none => exact h1
        | some l => exact State.fillStamp_step _ _ _ _ _ h1 rfl
      · exact fun c => State.canonical_link _ c
    · exact State.updGrp_frame _ _ _ _ h1 rfl (fun c => State.canonical_link s1 c)
theorem State.tickMessage_step (w0 : Nat) (a0 : State) (s : State) (m : TickMsg) (h0 : Frame w0 a0 s) (hw : 134353920 &&& w0 = 134353920) : Frame w0 a0 (State.tickMessage s m) :=
  Frame.step _ _ _ _ _ h0 (State.tickMessage_frame s m) hw

theorem execMsgTick_frame (slot : DWord) (line : W48) (pos : W48) (hwm : W48) (s : State) : Completes 134353920 s (execMsgTick slot line pos hwm s) := by
  unfold execMsgTick
  try dsimp only
  repeat' first
    | with_reducible apply Completes.intro
    | with_reducible apply Frame.refl
    | with_reducible assumption
    | apply Eq.refl
    | with_reducible apply State.tickMessage_step
    | with_reducible apply Frame.foldl
    | with_reducible apply Frame.foldl_fst
    | split
    | with_reducible apply Frame.ite
    | intro _
    | dsimp only
theorem execMsgTick_after (w0 : Nat) (a0 : State) (slot : DWord) (line : W48) (pos : W48) (hwm : W48) (s : State) (h0 : Frame w0 a0 s) (hw : 134353920 &&& w0 = 134353920) : Completes w0 a0 (execMsgTick slot line pos hwm s) :=
  Completes.step _ _ _ _ _ h0 (execMsgTick_frame slot line pos hwm s) hw

theorem execBellInEdge_frame (s : State) : Completes 134217728 s (execBellInEdge s) := by
  unfold execBellInEdge
  try dsimp only
  repeat' first
    | with_reducible apply Completes.intro
    | with_reducible apply Frame.refl
    | with_reducible assumption
    | apply Eq.refl
    | (with_reducible refine State.updGrp_frame _ _ _ _ ?_ ?_ ?_; rotate_left; apply Eq.refl; intro c; apply State.canonical_link _ c)
    | with_reducible apply Frame.foldl
    | with_reducible apply Frame.foldl_fst
    | split
    | with_reducible apply Frame.ite
    | intro _
    | dsimp only
theorem execBellInEdge_after (w0 : Nat) (a0 : State) (s : State) (h0 : Frame w0 a0 s) (hw : 134217728 &&& w0 = 134217728) : Completes w0 a0 (execBellInEdge s) :=
  Completes.step _ _ _ _ _ h0 (execBellInEdge_frame s) hw

theorem State.groupTick_frame (s : State) : Frame 134353968 s (State.groupTick s) := by
  unfold State.groupTick
  try dsimp only
  repeat' first
    | with_reducible apply Frame.refl
    | with_reducible assumption
    | apply Eq.refl
    | (with_reducible refine State.updGrp_frame _ _ _ _ ?_ ?_ ?_; rotate_left; apply Eq.refl; intro c; apply State.canonical_link _ c)
    | with_reducible apply State.applyTick_step
    | with_reducible apply Frame.foldl
    | with_reducible apply Frame.foldl_fst
    | split
    | with_reducible apply Frame.ite
    | intro _
    | dsimp only
theorem State.groupTick_step (w0 : Nat) (a0 : State) (s : State) (h0 : Frame w0 a0 s) (hw : 134353968 &&& w0 = 134353968) : Frame w0 a0 (State.groupTick s) :=
  Frame.step _ _ _ _ _ h0 (State.groupTick_frame s) hw

theorem execGroupTickApply_frame (s : State) : Completes 134353968 s (execGroupTickApply s) := by
  unfold execGroupTickApply
  try dsimp only
  repeat' first
    | with_reducible apply Completes.intro
    | with_reducible apply Frame.refl
    | with_reducible assumption
    | apply Eq.refl
    | with_reducible apply State.groupTick_step
    | with_reducible apply Frame.foldl
    | with_reducible apply Frame.foldl_fst
    | split
    | with_reducible apply Frame.ite
    | intro _
    | dsimp only
theorem execGroupTickApply_after (w0 : Nat) (a0 : State) (s : State) (h0 : Frame w0 a0 s) (hw : 134353968 &&& w0 = 134353968) : Completes w0 a0 (execGroupTickApply s) :=
  Completes.step _ _ _ _ _ h0 (execGroupTickApply_frame s) hw

theorem State.tickMismatch_frame (s : State) : Frame 1209586740 s (State.tickMismatch s) := by
  unfold State.tickMismatch
  try dsimp only
  repeat' first
    | with_reducible apply Frame.refl
    | with_reducible assumption
    | apply Eq.refl
    | with_reducible apply State.bellMismatch_step
    | (with_reducible refine State.updGrp_frame _ _ _ _ ?_ ?_ ?_; rotate_left; apply Eq.refl; intro c; apply State.canonical_link _ c)
    | with_reducible apply Frame.foldl
    | with_reducible apply Frame.foldl_fst
    | split
    | with_reducible apply Frame.ite
    | intro _
    | dsimp only
theorem State.tickMismatch_step (w0 : Nat) (a0 : State) (s : State) (h0 : Frame w0 a0 s) (hw : 1209586740 &&& w0 = 1209586740) : Frame w0 a0 (State.tickMismatch s) :=
  Frame.step _ _ _ _ _ h0 (State.tickMismatch_frame s) hw

theorem execTickMismatchTimeout_frame (s : State) : Completes 1209586740 s (execTickMismatchTimeout s) := by
  unfold execTickMismatchTimeout
  try dsimp only
  repeat' first
    | with_reducible apply Completes.intro
    | with_reducible apply Frame.refl
    | with_reducible assumption
    | apply Eq.refl
    | with_reducible apply State.tickMismatch_step
    | with_reducible apply Frame.foldl
    | with_reducible apply Frame.foldl_fst
    | split
    | with_reducible apply Frame.ite
    | intro _
    | dsimp only
theorem execTickMismatchTimeout_after (w0 : Nat) (a0 : State) (s : State) (h0 : Frame w0 a0 s) (hw : 1209586740 &&& w0 = 1209586740) : Completes w0 a0 (execTickMismatchTimeout s) :=
  Completes.step _ _ _ _ _ h0 (execTickMismatchTimeout_frame s) hw

theorem State.followReversal_frame (s : State) (m : BellMsg) : Frame 1717296 s (State.followReversal s m) := by
  unfold State.followReversal
  try dsimp only
  repeat' first
    | with_reducible apply Frame.refl
    | with_reducible assumption
    | apply Eq.refl
    | with_reducible apply State.dropAssembly_step
    | with_reducible apply State.finalise_step
    | with_reducible apply State.verdictWhere_step
    | with_reducible apply Frame.foldl
    | with_reducible apply Frame.foldl_fst
    | split
    | with_reducible apply Frame.ite
    | intro _
    | dsimp only
theorem State.followReversal_step (w0 : Nat) (a0 : State) (s : State) (m : BellMsg) (h0 : Frame w0 a0 s) (hw : 1717296 &&& w0 = 1717296) : Frame w0 a0 (State.followReversal s m) :=
  Frame.step _ _ _ _ _ h0 (State.followReversal_frame s m) hw

theorem State.bellMessage_frame (s : State) (m : BellMsg) : Frame 1209726004 s (State.bellMessage s m) := by
  unfold State.bellMessage
  try dsimp only
  repeat' first
    | with_reducible apply Frame.refl
    | with_reducible assumption
    | apply Eq.refl
    | with_reducible apply State.followReversal_step
    | with_reducible apply State.bellMismatch_step
    | (with_reducible refine State.updGrp_frame _ _ _ _ ?_ ?_ ?_; rotate_left; apply Eq.refl; intro c; apply State.canonical_link _ c)
    | with_reducible apply Frame.foldl
    | with_reducible apply Frame.foldl_fst
    | split
    | with_reducible apply Frame.ite
    | intro _
    | dsimp only
theorem State.bellMessage_step (w0 : Nat) (a0 : State) (s : State) (m : BellMsg) (h0 : Frame w0 a0 s) (hw : 1209726004 &&& w0 = 1209726004) : Frame w0 a0 (State.bellMessage s m) :=
  Frame.step _ _ _ _ _ h0 (State.bellMessage_frame s m) hw

theorem execMsgBell_frame (m : BellMsg) (s : State) : Completes 1209726004 s (execMsgBell m s) := by
  unfold execMsgBell
  try dsimp only
  repeat' first
    | with_reducible apply Completes.intro
    | with_reducible apply Frame.refl
    | with_reducible assumption
    | apply Eq.refl
    | with_reducible apply State.bellMessage_step
    | with_reducible apply Frame.foldl
    | with_reducible apply Frame.foldl_fst
    | split
    | with_reducible apply Frame.ite
    | intro _
    | dsimp only
theorem execMsgBell_after (w0 : Nat) (a0 : State) (m : BellMsg) (s : State) (h0 : Frame w0 a0 s) (hw : 1209726004 &&& w0 = 1209726004) : Completes w0 a0 (execMsgBell m s) :=
  Completes.step _ _ _ _ _ h0 (execMsgBell_frame m s) hw

theorem State.driveGhold_frame (s : State) : Frame 134217728 s (State.driveGhold s) := by
  unfold State.driveGhold
  try dsimp only
  repeat' first
    | with_reducible apply Frame.refl
    | with_reducible assumption
    | apply Eq.refl
    | (with_reducible refine State.updGrp_frame _ _ _ _ ?_ ?_ ?_; rotate_left; apply Eq.refl; intro c; apply State.canonical_link _ c)
    | with_reducible apply Frame.foldl
    | with_reducible apply Frame.foldl_fst
    | split
    | with_reducible apply Frame.ite
    | intro _
    | dsimp only
theorem State.driveGhold_step (w0 : Nat) (a0 : State) (s : State) (h0 : Frame w0 a0 s) (hw : 134217728 &&& w0 = 134217728) : Frame w0 a0 (State.driveGhold s) :=
  Frame.step _ _ _ _ _ h0 (State.driveGhold_frame s) hw

theorem State.gholdEdge_frame (s : State) (low : Bool) : Frame 134217728 s (State.gholdEdge s low) := by
  unfold State.gholdEdge
  try dsimp only
  repeat' first
    | with_reducible apply Frame.refl
    | with_reducible assumption
    | apply Eq.refl
    | (with_reducible refine State.updGrp_frame _ _ _ _ ?_ ?_ ?_; rotate_left; apply Eq.refl; intro c; apply State.canonical_link _ c)
    | with_reducible apply Frame.foldl
    | with_reducible apply Frame.foldl_fst
    | split
    | with_reducible apply Frame.ite
    | intro _
    | dsimp only
theorem State.gholdEdge_step (w0 : Nat) (a0 : State) (s : State) (low : Bool) (h0 : Frame w0 a0 s) (hw : 134217728 &&& w0 = 134217728) : Frame w0 a0 (State.gholdEdge s low) :=
  Frame.step _ _ _ _ _ h0 (State.gholdEdge_frame s low) hw

theorem execGholdNFall_frame (s : State) : Completes 134217728 s (execGholdNFall s) := by
  unfold execGholdNFall
  try dsimp only
  repeat' first
    | with_reducible apply Completes.intro
    | with_reducible apply Frame.refl
    | with_reducible assumption
    | apply Eq.refl
    | with_reducible apply State.gholdEdge_step
    | with_reducible apply Frame.foldl
    | with_reducible apply Frame.foldl_fst
    | split
    | with_reducible apply Frame.ite
    | intro _
    | dsimp only
theorem execGholdNFall_after (w0 : Nat) (a0 : State) (s : State) (h0 : Frame w0 a0 s) (hw : 134217728 &&& w0 = 134217728) : Completes w0 a0 (execGholdNFall s) :=
  Completes.step _ _ _ _ _ h0 (execGholdNFall_frame s) hw

theorem execGholdNRise_frame (s : State) : Completes 134217728 s (execGholdNRise s) := by
  unfold execGholdNRise
  try dsimp only
  repeat' first
    | with_reducible apply Completes.intro
    | with_reducible apply Frame.refl
    | with_reducible assumption
    | apply Eq.refl
    | with_reducible apply State.gholdEdge_step
    | with_reducible apply Frame.foldl
    | with_reducible apply Frame.foldl_fst
    | split
    | with_reducible apply Frame.ite
    | intro _
    | dsimp only
theorem execGholdNRise_after (w0 : Nat) (a0 : State) (s : State) (h0 : Frame w0 a0 s) (hw : 134217728 &&& w0 = 134217728) : Completes w0 a0 (execGholdNRise s) :=
  Completes.step _ _ _ _ _ h0 (execGholdNRise_frame s) hw

theorem State.gholdApply_frame (s : State) (low : Bool) : Frame 134234112 s (State.gholdApply s low) := by
  unfold State.gholdApply
  try dsimp only
  repeat' first
    | with_reducible apply Frame.refl
    | with_reducible assumption
    | apply Eq.refl
    | (with_reducible refine State.updGrp_frame _ _ _ _ ?_ ?_ ?_; rotate_left; apply Eq.refl; intro c; apply State.canonical_link _ c)
    | with_reducible apply State.setFrozen_step
    | with_reducible apply Frame.foldl
    | with_reducible apply Frame.foldl_fst
    | split
    | with_reducible apply Frame.ite
    | intro _
    | dsimp only
theorem State.gholdApply_step (w0 : Nat) (a0 : State) (s : State) (low : Bool) (h0 : Frame w0 a0 s) (hw : 134234112 &&& w0 = 134234112) : Frame w0 a0 (State.gholdApply s low) :=
  Frame.step _ _ _ _ _ h0 (State.gholdApply_frame s low) hw

theorem execGroupFreeze_frame (s : State) : Completes 134234112 s (execGroupFreeze s) := by
  unfold execGroupFreeze
  try dsimp only
  repeat' first
    | with_reducible apply Completes.intro
    | with_reducible apply Frame.refl
    | with_reducible assumption
    | apply Eq.refl
    | with_reducible apply State.gholdApply_step
    | with_reducible apply Frame.foldl
    | with_reducible apply Frame.foldl_fst
    | split
    | with_reducible apply Frame.ite
    | intro _
    | dsimp only
theorem execGroupFreeze_after (w0 : Nat) (a0 : State) (s : State) (h0 : Frame w0 a0 s) (hw : 134234112 &&& w0 = 134234112) : Completes w0 a0 (execGroupFreeze s) :=
  Completes.step _ _ _ _ _ h0 (execGroupFreeze_frame s) hw

theorem execGroupResume_frame (s : State) : Completes 134234112 s (execGroupResume s) := by
  unfold execGroupResume
  try dsimp only
  repeat' first
    | with_reducible apply Completes.intro
    | with_reducible apply Frame.refl
    | with_reducible assumption
    | apply Eq.refl
    | with_reducible apply State.gholdApply_step
    | with_reducible apply Frame.foldl
    | with_reducible apply Frame.foldl_fst
    | split
    | with_reducible apply Frame.ite
    | intro _
    | dsimp only
theorem execGroupResume_after (w0 : Nat) (a0 : State) (s : State) (h0 : Frame w0 a0 s) (hw : 134234112 &&& w0 = 134234112) : Completes w0 a0 (execGroupResume s) :=
  Completes.step _ _ _ _ _ h0 (execGroupResume_frame s) hw

theorem State.gholdStuck_frame (s : State) : Frame 1209586740 s (State.gholdStuck s) := by
  unfold State.gholdStuck
  try dsimp only
  repeat' first
    | with_reducible apply Frame.refl
    | with_reducible assumption
    | apply Eq.refl
    | with_reducible apply State.faultContain_step
    | with_reducible apply Frame.foldl
    | with_reducible apply Frame.foldl_fst
    | split
    | with_reducible apply Frame.ite
    | intro _
    | dsimp only
theorem State.gholdStuck_step (w0 : Nat) (a0 : State) (s : State) (h0 : Frame w0 a0 s) (hw : 1209586740 &&& w0 = 1209586740) : Frame w0 a0 (State.gholdStuck s) :=
  Frame.step _ _ _ _ _ h0 (State.gholdStuck_frame s) hw

theorem execGholdStuck_frame (s : State) : Completes 1209586740 s (execGholdStuck s) := by
  unfold execGholdStuck
  try dsimp only
  repeat' first
    | with_reducible apply Completes.intro
    | with_reducible apply Frame.refl
    | with_reducible assumption
    | apply Eq.refl
    | with_reducible apply State.gholdStuck_step
    | with_reducible apply Frame.foldl
    | with_reducible apply Frame.foldl_fst
    | split
    | with_reducible apply Frame.ite
    | intro _
    | dsimp only
theorem execGholdStuck_after (w0 : Nat) (a0 : State) (s : State) (h0 : Frame w0 a0 s) (hw : 1209586740 &&& w0 = 1209586740) : Completes w0 a0 (execGholdStuck s) :=
  Completes.step _ _ _ _ _ h0 (execGholdStuck_frame s) hw

theorem State.startForming_frame (s : State) : Frame 134218772 s (State.startForming s) := by
  unfold State.startForming
  extract_lets h s1 s2 links
  have h1 : Frame 134218772 s s1 := State.setReg_step _ _ _ _ _ (State.useFree_step _ _ _ (Frame.refl _ _) rfl) rfl
  have h2 : Frame 134218772 s s2 := Frame.foldl _ _ _ _ _ h1 (fun t k e => State.setRegN_step _ _ _ _ _ e rfl)
  have h3 : s2.canonical = true → Tab.wf (fun _ => Link.init) links = true :=
    fun c => Tab.mapV_wf _ (fun _ l => { l with trips := [] }) _ (State.canonical_link s2 c)
  exact State.sendMsg_step _ _ _ _ _ (State.updGrp_frame _ _ _ _ h2 rfl h3) rfl
theorem State.startForming_step (w0 : Nat) (a0 : State) (s : State) (h0 : Frame w0 a0 s) (hw : 134218772 &&& w0 = 134218772) : Frame w0 a0 (State.startForming s) :=
  Frame.step _ _ _ _ _ h0 (State.startForming_frame s) hw

theorem State.form_frame (s : State) : Frame 134218772 s (State.form s) := by
  unfold State.form
  try dsimp only
  repeat' first
    | with_reducible apply Frame.refl
    | with_reducible assumption
    | apply Eq.refl
    | with_reducible apply State.startForming_step
    | with_reducible apply Frame.foldl
    | with_reducible apply Frame.foldl_fst
    | split
    | with_reducible apply Frame.ite
    | intro _
    | dsimp only
theorem State.form_step (w0 : Nat) (a0 : State) (s : State) (h0 : Frame w0 a0 s) (hw : 134218772 &&& w0 = 134218772) : Frame w0 a0 (State.form s) :=
  Frame.step _ _ _ _ _ h0 (State.form_frame s) hw

theorem execGrpForm_frame (s : State) : Completes 134218772 s (execGrpForm s) := by
  unfold execGrpForm
  try dsimp only
  repeat' first
    | with_reducible apply Completes.intro
    | with_reducible apply Frame.refl
    | with_reducible assumption
    | apply Eq.refl
    | with_reducible apply State.form_step
    | with_reducible apply Frame.foldl
    | with_reducible apply Frame.foldl_fst
    | split
    | with_reducible apply Frame.ite
    | intro _
    | dsimp only
theorem execGrpForm_after (w0 : Nat) (a0 : State) (s : State) (h0 : Frame w0 a0 s) (hw : 134218772 &&& w0 = 134218772) : Completes w0 a0 (execGrpForm s) :=
  Completes.step _ _ _ _ _ h0 (execGrpForm_frame s) hw

theorem State.refused_frame (s : State) (ms : List Nat) : Frame 135791664 s (State.refused s ms) := by
  unfold State.refused
  try dsimp only
  repeat' first
    | with_reducible apply Frame.refl
    | with_reducible assumption
    | apply Eq.refl
    | with_reducible apply State.emit_step
    | (with_reducible refine State.updGrp_frame _ _ _ _ ?_ ?_ ?_; rotate_left; apply Eq.refl; intro c; apply State.canonical_link _ c)
    | with_reducible apply State.setGrpState_step
    | with_reducible apply Frame.foldl
    | with_reducible apply Frame.foldl_fst
    | split
    | with_reducible apply Frame.ite
    | intro _
    | dsimp only
theorem State.refused_step (w0 : Nat) (a0 : State) (s : State) (ms : List Nat) (h0 : Frame w0 a0 s) (hw : 135791664 &&& w0 = 135791664) : Frame w0 a0 (State.refused s ms) :=
  Frame.step _ _ _ _ _ h0 (State.refused_frame s ms) hw

theorem State.formed_frame (s : State) (lat : Nat) (ck : Nat) (band : W48) (line : W48) (bellIn : Nat) (ghold : Nat) : Frame 134217744 s (State.formed s lat ck band line bellIn ghold) := by
  unfold State.formed
  try dsimp only
  repeat' first
    | with_reducible apply Frame.refl
    | with_reducible assumption
    | apply Eq.refl
    | with_reducible apply State.setRegN_step
    | with_reducible apply State.setGrpState_step
    | with_reducible apply State.setReg48_step
    | (with_reducible refine State.updGrp_frame _ _ _ _ ?_ ?_ ?_; rotate_left; apply Eq.refl; intro c; apply State.canonical_link _ c)
    | with_reducible apply Frame.foldl
    | with_reducible apply Frame.foldl_fst
    | split
    | with_reducible apply Frame.ite
    | intro _
    | dsimp only
theorem State.formed_step (w0 : Nat) (a0 : State) (s : State) (lat : Nat) (ck : Nat) (band : W48) (line : W48) (bellIn : Nat) (ghold : Nat) (h0 : Frame w0 a0 s) (hw : 134217744 &&& w0 = 134217744) : Frame w0 a0 (State.formed s lat ck band line bellIn ghold) :=
  Frame.step _ _ _ _ _ h0 (State.formed_frame s lat ck band line bellIn ghold) hw

theorem State.restart_frame (s : State) (first : W48) : Frame 134217744 s (State.restart s first) := by
  unfold State.restart
  try dsimp only
  repeat' first
    | with_reducible apply Frame.refl
    | with_reducible assumption
    | apply Eq.refl
    | (with_reducible refine State.updGrp_frame _ _ _ _ ?_ ?_ ?_; rotate_left; apply Eq.refl; intro c; apply State.canonical_link _ c)
    | with_reducible apply State.setGrpState_step
    | with_reducible apply Frame.foldl
    | with_reducible apply Frame.foldl_fst
    | split
    | with_reducible apply Frame.ite
    | intro _
    | dsimp only
theorem State.restart_step (w0 : Nat) (a0 : State) (s : State) (first : W48) (h0 : Frame w0 a0 s) (hw : 134217744 &&& w0 = 134217744) : Frame w0 a0 (State.restart s first) :=
  Frame.step _ _ _ _ _ h0 (State.restart_frame s first) hw

theorem State.endForming_frame (s : State) (late : Bool) : Frame 135791668 s (State.endForming s late) := by
  unfold State.endForming
  try dsimp only
  repeat' first
    | with_reducible apply Frame.refl
    | with_reducible assumption
    | apply Eq.refl
    | with_reducible apply State.setRegN_step
    | with_reducible apply State.refused_step
    | with_reducible apply State.sendMsg_step
    | with_reducible apply State.formed_step
    | with_reducible apply State.restart_step
    | with_reducible apply Frame.foldl
    | with_reducible apply Frame.foldl_fst
    | split
    | with_reducible apply Frame.ite
    | intro _
    | dsimp only
theorem State.endForming_step (w0 : Nat) (a0 : State) (s : State) (late : Bool) (h0 : Frame w0 a0 s) (hw : 135791668 &&& w0 = 135791668) : Frame w0 a0 (State.endForming s late) :=
  Frame.step _ _ _ _ _ h0 (State.endForming_frame s late) hw

theorem State.calibrate_frame (s : State) : Frame 134218772 s (State.calibrate s) := by
  unfold State.calibrate
  try dsimp only
  repeat' first
    | with_reducible apply Frame.refl
    | with_reducible assumption
    | apply Eq.refl
    | with_reducible apply State.setGrpState_step
    | with_reducible apply State.sendMsg_step
    | with_reducible apply Frame.foldl
    | with_reducible apply Frame.foldl_fst
    | split
    | with_reducible apply Frame.ite
    | intro _
    | dsimp only
theorem State.calibrate_step (w0 : Nat) (a0 : State) (s : State) (h0 : Frame w0 a0 s) (hw : 134218772 &&& w0 = 134218772) : Frame w0 a0 (State.calibrate s) :=
  Frame.step _ _ _ _ _ h0 (State.calibrate_frame s) hw

theorem State.helloIn_frame (s : State) : Frame 135791668 s (State.helloIn s) := by
  unfold State.helloIn
  try dsimp only
  repeat' first
    | with_reducible apply Frame.refl
    | with_reducible assumption
    | apply Eq.refl
    | with_reducible apply State.calibrate_step
    | with_reducible apply State.endForming_step
    | with_reducible apply Frame.foldl
    | with_reducible apply Frame.foldl_fst
    | split
    | with_reducible apply Frame.ite
    | intro _
    | dsimp only
theorem State.helloIn_step (w0 : Nat) (a0 : State) (s : State) (h0 : Frame w0 a0 s) (hw : 135791668 &&& w0 = 135791668) : Frame w0 a0 (State.helloIn s) :=
  Frame.step _ _ _ _ _ h0 (State.helloIn_frame s) hw

theorem State.notePeer_frame (s : State) (m : Nat) : Frame 16 s (State.notePeer s m) := by
  unfold State.notePeer
  try dsimp only
  repeat' first
    | with_reducible apply Frame.refl
    | with_reducible assumption
    | apply Eq.refl
    | with_reducible apply State.setRegN_step
    | with_reducible apply Frame.foldl
    | with_reducible apply Frame.foldl_fst
    | split
    | with_reducible apply Frame.ite
    | intro _
    | dsimp only
theorem State.notePeer_step (w0 : Nat) (a0 : State) (s : State) (m : Nat) (h0 : Frame w0 a0 s) (hw : 16 &&& w0 = 16) : Frame w0 a0 (State.notePeer s m) :=
  Frame.step _ _ _ _ _ h0 (State.notePeer_frame s m) hw

theorem State.helloMessage_frame (s : State) (m : Nat) (f : HelloFields) : Frame 135791668 s (State.helloMessage s m f) := by
  unfold State.helloMessage
  try dsimp only
  repeat' first
    | with_reducible apply Frame.refl
    | with_reducible assumption
    | apply Eq.refl
    | with_reducible apply State.startForming_step
    | with_reducible apply State.notePeer_step
    | (with_reducible refine State.updGrp_frame _ _ _ _ ?_ ?_ ?_; rotate_left; apply Eq.refl; intro c; apply State.canonical_link _ c)
    | with_reducible apply State.helloIn_step
    | with_reducible apply Frame.foldl
    | with_reducible apply Frame.foldl_fst
    | split
    | with_reducible apply Frame.ite
    | intro _
    | dsimp only
theorem State.helloMessage_step (w0 : Nat) (a0 : State) (s : State) (m : Nat) (f : HelloFields) (h0 : Frame w0 a0 s) (hw : 135791668 &&& w0 = 135791668) : Frame w0 a0 (State.helloMessage s m f) :=
  Frame.step _ _ _ _ _ h0 (State.helloMessage_frame s m f) hw

theorem execMsgHello_frame (m : Member) (f : HelloFields) (s : State) : Completes 135791668 s (execMsgHello m f s) := by
  unfold execMsgHello
  try dsimp only
  repeat' first
    | with_reducible apply Completes.intro
    | with_reducible apply Frame.refl
    | with_reducible assumption
    | apply Eq.refl
    | with_reducible apply State.helloMessage_step
    | with_reducible apply Frame.foldl
    | with_reducible apply Frame.foldl_fst
    | split
    | with_reducible apply Frame.ite
    | intro _
    | dsimp only
theorem execMsgHello_after (w0 : Nat) (a0 : State) (m : Member) (f : HelloFields) (s : State) (h0 : Frame w0 a0 s) (hw : 135791668 &&& w0 = 135791668) : Completes w0 a0 (execMsgHello m f s) :=
  Completes.step _ _ _ _ _ h0 (execMsgHello_frame m f s) hw

theorem State.calMessage_frame (s : State) (p : Nat) (sent : Nat) : Frame 135791668 s (State.calMessage s p sent) := by
  unfold State.calMessage
  try dsimp only
  repeat' first
    | with_reducible apply Frame.refl
    | with_reducible assumption
    | apply Eq.refl
    | with_reducible apply State.sendMsg_step
    | with_reducible apply State.setLink_step
    | with_reducible apply State.setRegN_step
    | with_reducible apply State.endForming_step
    | with_reducible apply Frame.foldl
    | with_reducible apply Frame.foldl_fst
    | split
    | with_reducible apply Frame.ite
    | intro _
    | dsimp only
theorem State.calMessage_step (w0 : Nat) (a0 : State) (s : State) (p : Nat) (sent : Nat) (h0 : Frame w0 a0 s) (hw : 135791668 &&& w0 = 135791668) : Frame w0 a0 (State.calMessage s p sent) :=
  Frame.step _ _ _ _ _ h0 (State.calMessage_frame s p sent) hw

theorem execMsgCal_frame (p : Port) (sent : DWord) (s : State) : Completes 135791668 s (execMsgCal p sent s) := by
  unfold execMsgCal
  try dsimp only
  repeat' first
    | with_reducible apply Completes.intro
    | with_reducible apply Frame.refl
    | with_reducible assumption
    | apply Eq.refl
    | with_reducible apply State.calMessage_step
    | with_reducible apply Frame.foldl
    | with_reducible apply Frame.foldl_fst
    | split
    | with_reducible apply Frame.ite
    | intro _
    | dsimp only
theorem execMsgCal_after (w0 : Nat) (a0 : State) (p : Port) (sent : DWord) (s : State) (h0 : Frame w0 a0 s) (hw : 135791668 &&& w0 = 135791668) : Completes w0 a0 (execMsgCal p sent s) :=
  Completes.step _ _ _ _ _ h0 (execMsgCal_frame p sent s) hw

theorem State.formedMessage_frame (s : State) (lat : Nat) (ck : Nat) (band : W48) (line : W48) : Frame 134217748 s (State.formedMessage s lat ck band line) := by
  unfold State.formedMessage
  try dsimp only
  repeat' first
    | with_reducible apply Frame.refl
    | with_reducible assumption
    | apply Eq.refl
    | with_reducible apply State.formed_step
    | with_reducible apply State.useFree_step
    | with_reducible apply Frame.foldl
    | with_reducible apply Frame.foldl_fst
    | split
    | with_reducible apply Frame.ite
    | intro _
    | dsimp only
theorem State.formedMessage_step (w0 : Nat) (a0 : State) (s : State) (lat : Nat) (ck : Nat) (band : W48) (line : W48) (h0 : Frame w0 a0 s) (hw : 134217748 &&& w0 = 134217748) : Frame w0 a0 (State.formedMessage s lat ck band line) :=
  Frame.step _ _ _ _ _ h0 (State.formedMessage_frame s lat ck band line) hw

theorem execMsgFormed_frame (lat : Nat) (ckBase : DWord) (bandBase : W48) (lineBase : W48) (s : State) : Completes 134217748 s (execMsgFormed lat ckBase bandBase lineBase s) := by
  unfold execMsgFormed
  try dsimp only
  repeat' first
    | with_reducible apply Completes.intro
    | with_reducible apply Frame.refl
    | with_reducible assumption
    | apply Eq.refl
    | with_reducible apply State.formedMessage_step
    | with_reducible apply Frame.foldl
    | with_reducible apply Frame.foldl_fst
    | split
    | with_reducible apply Frame.ite
    | intro _
    | dsimp only
theorem execMsgFormed_after (w0 : Nat) (a0 : State) (lat : Nat) (ckBase : DWord) (bandBase : W48) (lineBase : W48) (s : State) (h0 : Frame w0 a0 s) (hw : 134217748 &&& w0 = 134217748) : Completes w0 a0 (execMsgFormed lat ckBase bandBase lineBase s) :=
  Completes.step _ _ _ _ _ h0 (execMsgFormed_frame lat ckBase bandBase lineBase s) hw

theorem execMsgRefused_frame (masks : List (BitVec 16)) (s : State) : Completes 135791664 s (execMsgRefused masks s) := by
  unfold execMsgRefused
  try dsimp only
  repeat' first
    | with_reducible apply Completes.intro
    | with_reducible apply Frame.refl
    | with_reducible assumption
    | apply Eq.refl
    | with_reducible apply State.refused_step
    | with_reducible apply Frame.foldl
    | with_reducible apply Frame.foldl_fst
    | split
    | with_reducible apply Frame.ite
    | intro _
    | dsimp only
theorem execMsgRefused_after (w0 : Nat) (a0 : State) (masks : List (BitVec 16)) (s : State) (h0 : Frame w0 a0 s) (hw : 135791664 &&& w0 = 135791664) : Completes w0 a0 (execMsgRefused masks s) :=
  Completes.step _ _ _ _ _ h0 (execMsgRefused_frame masks s) hw

theorem State.startMessage_frame (s : State) (first : W48) : Frame 1208094768 s (State.startMessage s first) := by
  unfold State.startMessage
  try dsimp only
  repeat' first
    | with_reducible apply Frame.refl
    | with_reducible assumption
    | apply Eq.refl
    | with_reducible apply State.restart_step
    | with_reducible apply State.setGrpState_step
    | with_reducible apply State.setReg48_step
    | with_reducible apply State.openStream_step
    | (with_reducible refine State.updGrp_frame _ _ _ _ ?_ ?_ ?_; rotate_left; apply Eq.refl; intro c; apply State.canonical_link _ c)
    | with_reducible apply Frame.foldl
    | with_reducible apply Frame.foldl_fst
    | split
    | with_reducible apply Frame.ite
    | intro _
    | dsimp only
theorem State.startMessage_step (w0 : Nat) (a0 : State) (s : State) (first : W48) (h0 : Frame w0 a0 s) (hw : 1208094768 &&& w0 = 1208094768) : Frame w0 a0 (State.startMessage s first) :=
  Frame.step _ _ _ _ _ h0 (State.startMessage_frame s first) hw

theorem execMsgStart_frame (first : W48) (s : State) : Completes 1208094768 s (execMsgStart first s) := by
  unfold execMsgStart
  try dsimp only
  repeat' first
    | with_reducible apply Completes.intro
    | with_reducible apply Frame.refl
    | with_reducible assumption
    | apply Eq.refl
    | with_reducible apply State.startMessage_step
    | with_reducible apply Frame.foldl
    | with_reducible apply Frame.foldl_fst
    | split
    | with_reducible apply Frame.ite
    | intro _
    | dsimp only
theorem execMsgStart_after (w0 : Nat) (a0 : State) (first : W48) (s : State) (h0 : Frame w0 a0 s) (hw : 1208094768 &&& w0 = 1208094768) : Completes w0 a0 (execMsgStart first s) :=
  Completes.step _ _ _ _ _ h0 (execMsgStart_frame first s) hw

theorem execFormingTimeout_frame (s : State) : Completes 135791668 s (execFormingTimeout s) := by
  unfold execFormingTimeout
  try dsimp only
  repeat' first
    | with_reducible apply Completes.intro
    | with_reducible apply Frame.refl
    | with_reducible assumption
    | apply Eq.refl
    | with_reducible apply State.endForming_step
    | with_reducible apply Frame.foldl
    | with_reducible apply Frame.foldl_fst
    | split
    | with_reducible apply Frame.ite
    | intro _
    | dsimp only
theorem execFormingTimeout_after (w0 : Nat) (a0 : State) (s : State) (h0 : Frame w0 a0 s) (hw : 135791668 &&& w0 = 135791668) : Completes w0 a0 (execFormingTimeout s) :=
  Completes.step _ _ _ _ _ h0 (execFormingTimeout_frame s) hw

theorem State.autoReform_frame (s : State) : Frame 134218772 s (State.autoReform s) := by
  unfold State.autoReform
  try dsimp only
  repeat' first
    | with_reducible apply Frame.refl
    | with_reducible assumption
    | apply Eq.refl
    | with_reducible apply State.startForming_step
    | with_reducible apply Frame.foldl
    | with_reducible apply Frame.foldl_fst
    | split
    | with_reducible apply Frame.ite
    | intro _
    | dsimp only
theorem State.autoReform_step (w0 : Nat) (a0 : State) (s : State) (h0 : Frame w0 a0 s) (hw : 134218772 &&& w0 = 134218772) : Frame w0 a0 (State.autoReform s) :=
  Frame.step _ _ _ _ _ h0 (State.autoReform_frame s) hw

theorem execAutoReform_frame (s : State) : Completes 134218772 s (execAutoReform s) := by
  unfold execAutoReform
  try dsimp only
  repeat' first
    | with_reducible apply Completes.intro
    | with_reducible apply Frame.refl
    | with_reducible assumption
    | apply Eq.refl
    | with_reducible apply State.autoReform_step
    | with_reducible apply Frame.foldl
    | with_reducible apply Frame.foldl_fst
    | split
    | with_reducible apply Frame.ite
    | intro _
    | dsimp only
theorem execAutoReform_after (w0 : Nat) (a0 : State) (s : State) (h0 : Frame w0 a0 s) (hw : 134218772 &&& w0 = 134218772) : Completes w0 a0 (execAutoReform s) :=
  Completes.step _ _ _ _ _ h0 (execAutoReform_frame s) hw

theorem State.dropAfter_frame (s : State) (b : W48) : Frame 135184 s (State.dropAfter s b) := by
  unfold State.dropAfter
  try dsimp only
  repeat' first
    | with_reducible apply Frame.refl
    | with_reducible assumption
    | apply Eq.refl
    | with_reducible apply State.dropLines_step
    | with_reducible apply State.updBell_step
    | with_reducible apply State.setReg48_step
    | with_reducible apply Frame.foldl
    | with_reducible apply Frame.foldl_fst
    | split
    | with_reducible apply Frame.ite
    | intro _
    | dsimp only
theorem State.dropAfter_step (w0 : Nat) (a0 : State) (s : State) (b : W48) (h0 : Frame w0 a0 s) (hw : 135184 &&& w0 = 135184) : Frame w0 a0 (State.dropAfter s b) :=
  Frame.step _ _ _ _ _ h0 (State.dropAfter_frame s b) hw

theorem State.streamEndMessage_frame (s : State) (b : W48) (aborted : Bool) : Frame 135935028 s (State.streamEndMessage s b aborted) := by
  unfold State.streamEndMessage
  try dsimp only
  repeat' first
    | with_reducible apply Frame.refl
    | with_reducible assumption
    | apply Eq.refl
    | with_reducible apply State.dropAfter_step
    | with_reducible apply State.endStreamAt_step
    | with_reducible apply State.dropAssembly_step
    | with_reducible apply State.dropWaiting_step
    | with_reducible apply Frame.foldl
    | with_reducible apply Frame.foldl_fst
    | split
    | with_reducible apply Frame.ite
    | intro _
    | dsimp only
theorem State.streamEndMessage_step (w0 : Nat) (a0 : State) (s : State) (b : W48) (aborted : Bool) (h0 : Frame w0 a0 s) (hw : 135935028 &&& w0 = 135935028) : Frame w0 a0 (State.streamEndMessage s b aborted) :=
  Frame.step _ _ _ _ _ h0 (State.streamEndMessage_frame s b aborted) hw

theorem execMsgStreamEnd_frame (band : W48) (aborted : Bool) (s : State) : Completes 135935028 s (execMsgStreamEnd band aborted s) := by
  unfold execMsgStreamEnd
  try dsimp only
  repeat' first
    | with_reducible apply Completes.intro
    | with_reducible apply Frame.refl
    | with_reducible assumption
    | apply Eq.refl
    | with_reducible apply State.streamEndMessage_step
    | with_reducible apply Frame.foldl
    | with_reducible apply Frame.foldl_fst
    | split
    | with_reducible apply Frame.ite
    | intro _
    | dsimp only
theorem execMsgStreamEnd_after (w0 : Nat) (a0 : State) (band : W48) (aborted : Bool) (s : State) (h0 : Frame w0 a0 s) (hw : 135935028 &&& w0 = 135935028) : Completes w0 a0 (execMsgStreamEnd band aborted s) :=
  Completes.step _ _ _ _ _ h0 (execMsgStreamEnd_frame band aborted s) hw

theorem execMsgArmed_frame (m : Member) (digest : BitVec 256) (s : State) : Completes 150995972 s (execMsgArmed m digest s) := by
  unfold execMsgArmed
  try dsimp only
  repeat' first
    | with_reducible apply Completes.intro
    | with_reducible apply Frame.refl
    | with_reducible assumption
    | apply Eq.refl
    | with_reducible apply State.tryArm_step
    | (with_reducible refine State.updGrp_frame _ _ _ _ ?_ ?_ ?_; rotate_left; apply Eq.refl; intro c; apply State.canonical_link _ c)
    | with_reducible apply Frame.foldl
    | with_reducible apply Frame.foldl_fst
    | split
    | with_reducible apply Frame.ite
    | intro _
    | dsimp only
theorem execMsgArmed_after (w0 : Nat) (a0 : State) (m : Member) (digest : BitVec 256) (s : State) (h0 : Frame w0 a0 s) (hw : 150995972 &&& w0 = 150995972) : Completes w0 a0 (execMsgArmed m digest s) :=
  Completes.step _ _ _ _ _ h0 (execMsgArmed_frame m digest s) hw

theorem execMsgSwap_frame (band : W48) (digest : BitVec 256) (s : State) : Completes 16777216 s (execMsgSwap band digest s) := by
  unfold execMsgSwap
  try dsimp only
  repeat' first
    | with_reducible apply Completes.intro
    | with_reducible apply Frame.refl
    | with_reducible assumption
    | apply Eq.refl
    | with_reducible apply State.updLoad_step
    | with_reducible apply Frame.foldl
    | with_reducible apply Frame.foldl_fst
    | split
    | with_reducible apply Frame.ite
    | intro _
    | dsimp only
theorem execMsgSwap_after (w0 : Nat) (a0 : State) (band : W48) (digest : BitVec 256) (s : State) (h0 : Frame w0 a0 s) (hw : 16777216 &&& w0 = 16777216) : Completes w0 a0 (execMsgSwap band digest s) :=
  Completes.step _ _ _ _ _ h0 (execMsgSwap_frame band digest s) hw

theorem State.leave_frame (s : State) : Frame 134217776 s (State.leave s) := by
  unfold State.leave
  try dsimp only
  repeat' first
    | with_reducible apply Frame.refl
    | with_reducible assumption
    | apply Eq.refl
    | with_reducible apply State.cfgIgnored_step
    | (with_reducible refine State.updGrp_frame _ _ _ _ ?_ ?_ ?_; rotate_left; apply Eq.refl; intro c; apply State.canonical_link _ c)
    | with_reducible apply State.setReg_step
    | with_reducible apply State.clrBits_step
    | with_reducible apply Frame.foldl
    | with_reducible apply Frame.foldl_fst
    | split
    | with_reducible apply Frame.ite
    | intro _
    | dsimp only
theorem State.leave_step (w0 : Nat) (a0 : State) (s : State) (h0 : Frame w0 a0 s) (hw : 134217776 &&& w0 = 134217776) : Frame w0 a0 (State.leave s) :=
  Frame.step _ _ _ _ _ h0 (State.leave_frame s) hw

theorem execGrpLeave_frame (s : State) : Completes 134217776 s (execGrpLeave s) := by
  unfold execGrpLeave
  try dsimp only
  repeat' first
    | with_reducible apply Completes.intro
    | with_reducible apply Frame.refl
    | with_reducible assumption
    | apply Eq.refl
    | with_reducible apply State.leave_step
    | with_reducible apply Frame.foldl
    | with_reducible apply Frame.foldl_fst
    | split
    | with_reducible apply Frame.ite
    | intro _
    | dsimp only
theorem execGrpLeave_after (w0 : Nat) (a0 : State) (s : State) (h0 : Frame w0 a0 s) (hw : 134217776 &&& w0 = 134217776) : Completes w0 a0 (execGrpLeave s) :=
  Completes.step _ _ _ _ _ h0 (execGrpLeave_frame s) hw

theorem State.writePrmMode_frame (s : State) (mode : Bool) : Frame 134217776 s (State.writePrmMode s mode) := by
  unfold State.writePrmMode
  try dsimp only
  repeat' first
    | with_reducible apply Frame.refl
    | with_reducible assumption
    | apply Eq.refl
    | with_reducible apply State.cfgIgnored_step
    | with_reducible apply State.setBits_step
    | (with_reducible refine State.updGrp_frame _ _ _ _ ?_ ?_ ?_; rotate_left; apply Eq.refl; intro c; apply State.canonical_link _ c)
    | with_reducible apply State.setReg_step
    | with_reducible apply State.clrBits_step
    | with_reducible apply Frame.foldl
    | with_reducible apply Frame.foldl_fst
    | split
    | with_reducible apply Frame.ite
    | intro _
    | dsimp only
theorem State.writePrmMode_step (w0 : Nat) (a0 : State) (s : State) (mode : Bool) (h0 : Frame w0 a0 s) (hw : 134217776 &&& w0 = 134217776) : Frame w0 a0 (State.writePrmMode s mode) :=
  Frame.step _ _ _ _ _ h0 (State.writePrmMode_frame s mode) hw

theorem execPrmModeWrite_frame (mode : Bool) (s : State) : Completes 134217776 s (execPrmModeWrite mode s) := by
  unfold execPrmModeWrite
  try dsimp only
  repeat' first
    | with_reducible apply Completes.intro
    | with_reducible apply Frame.refl
    | with_reducible assumption
    | apply Eq.refl
    | with_reducible apply State.writePrmMode_step
    | with_reducible apply Frame.foldl
    | with_reducible apply Frame.foldl_fst
    | split
    | with_reducible apply Frame.ite
    | intro _
    | dsimp only
theorem execPrmModeWrite_after (w0 : Nat) (a0 : State) (mode : Bool) (s : State) (h0 : Frame w0 a0 s) (hw : 134217776 &&& w0 = 134217776) : Completes w0 a0 (execPrmModeWrite mode s) :=
  Completes.step _ _ _ _ _ h0 (execPrmModeWrite_frame mode s) hw

end Sys2Proof.Machine
end

