-- ==== Sys2Proof/Laws/F_Containment.lean ====
section
/-!
SUPPORT. Frames of the operations of Machine/Containment.lean.
-/
namespace Sys2Proof.Machine

set_option linter.unusedTactic false
set_option linter.unreachableTactic false
set_option linter.unusedVariables false

theorem State.kioskFinal_frame (s : State) (h : Nat) : Frame 262144 s (State.kioskFinal s h) := by
  unfold State.kioskFinal
  try dsimp only
  repeat' first
    | with_reducible apply Frame.refl
    | with_reducible assumption
    | apply Eq.refl
    | with_reducible apply State.updKiosk_step
    | with_reducible apply Frame.foldl
    | with_reducible apply Frame.foldl_fst
    | split
    | with_reducible apply Frame.ite
    | intro _
    | dsimp only
theorem State.kioskFinal_step (w0 : Nat) (a0 : State) (s : State) (h : Nat) (h0 : Frame w0 a0 s) (hw : 262144 &&& w0 = 262144) : Frame w0 a0 (State.kioskFinal s h) :=
  Frame.step _ _ _ _ _ h0 (State.kioskFinal_frame s h) hw

theorem State.emptyPipeline_frame (s : State) : Frame 17349645364 s (State.emptyPipeline s) := by
  unfold State.emptyPipeline
  extract_lets tiles pqs live cams links src gth src2 grp s1 s2 s3 ksk
  have e1 : Frame 17349645364 s { s with tiles := tiles } :=
    Frame.set_tiles 17349645364 s s tiles (Frame.refl _ _) rfl (fun c => Tab.mapV_wf _ _ _ (State.canonical_tile s c))
  have e2 : Frame 17349645364 s { s with tiles := tiles, pqs := pqs } :=
    Frame.set_pqs 17349645364 s { s with tiles := tiles } pqs e1 rfl (fun c => Tab.mapV_wf _ _ _ (State.canonical_pq { s with tiles := tiles } c))
  have e3 : Frame 17349645364 s { s with tiles := tiles, pqs := pqs, sideband := [] } :=
    Frame.set_sideband 17349645364 s { s with tiles := tiles, pqs := pqs } [] e2 rfl
  have e4 : Frame 17349645364 s { s with tiles := tiles, pqs := pqs, sideband := [], gth := gth } :=
    Frame.set_gth' 17349645364 s { s with tiles := tiles, pqs := pqs, sideband := [] } gth e3 rfl
      (fun c => show Tab.wf (fun _ => CamState.init) cams = true from
        Tab.mapV_wf _ _ _ (State.canonical_cam { s with tiles := tiles, pqs := pqs, sideband := [] } c))
  have e5 : Frame 17349645364 s s1 :=
    Frame.set_grp' 17349645364 s { s with tiles := tiles, pqs := pqs, sideband := [], gth := gth } grp e4 rfl
      (fun c => show Tab.wf (fun _ => Link.init) links = true from
        Tab.mapV_wf _ _ _ (State.canonical_link { s with tiles := tiles, pqs := pqs, sideband := [], gth := gth } c))
  have e6 : Frame 17349645364 s s3 :=
    State.closeTails_step _ _ _ (State.kioskFinal_step _ _ _ _ (State.kioskFinal_step _ _ _ _ (State.updBell_step _ _ _ _ e5 rfl) rfl) rfl) rfl
  exact Frame.set_ksk 17349645364 s s3 ksk e6 rfl (fun c => Tab.mapV_wf _ _ _ (State.canonical_kiosk s3 c))
theorem State.emptyPipeline_step (w0 : Nat) (a0 : State) (s : State) (h0 : Frame w0 a0 s) (hw : 17349645364 &&& w0 = 17349645364) : Frame w0 a0 (State.emptyPipeline s) :=
  Frame.step _ _ _ _ _ h0 (State.emptyPipeline_frame s) hw

theorem State.restartTiles_frame (s : State) : Frame 666799156 s (State.restartTiles s) := by
  unfold State.restartTiles
  try dsimp only
  repeat' first
    | with_reducible apply Frame.refl
    | with_reducible assumption
    | apply Eq.refl
    | with_reducible exact fun c => Tab.put_wf _ _ _ _ (State.canonical_tile _ c)
    | with_reducible exact fun c => Tab.mapV_wf _ _ _ (State.canonical_tile _ c)
    | with_reducible exact fun c => Tab.filter_wf _ _ _ (State.canonical_tile _ c)
    | with_reducible apply State.forceSwap_step
    | with_reducible apply Frame.foldl
    | with_reducible apply Frame.foldl_fst
    | split
    | with_reducible apply Frame.ite
    | with_reducible apply Frame.set_tiles
    | intro _
    | dsimp only
theorem State.restartTiles_step (w0 : Nat) (a0 : State) (s : State) (h0 : Frame w0 a0 s) (hw : 666799156 &&& w0 = 666799156) : Frame w0 a0 (State.restartTiles s) :=
  Frame.step _ _ _ _ _ h0 (State.restartTiles_frame s) hw

theorem State.noticeCores_frame (s : State) : Frame 33555460 s (State.noticeCores s) := by
  unfold State.noticeCores
  try dsimp only
  repeat' first
    | with_reducible apply Frame.refl
    | with_reducible assumption
    | apply Eq.refl
    | with_reducible apply State.coreNotice_step
    | with_reducible apply State.useFree_step
    | with_reducible apply Frame.foldl
    | with_reducible apply Frame.foldl_fst
    | split
    | with_reducible apply Frame.ite
    | intro _
    | dsimp only
theorem State.noticeCores_step (w0 : Nat) (a0 : State) (s : State) (h0 : Frame w0 a0 s) (hw : 33555460 &&& w0 = 33555460) : Frame w0 a0 (State.noticeCores s) :=
  Frame.step _ _ _ _ _ h0 (State.noticeCores_frame s) hw

theorem State.containDone_frame (s : State) : Frame 19054640180 s (State.containDone s) := by
  unfold State.containDone
  try dsimp only
  repeat' first
    | with_reducible apply Frame.refl
    | with_reducible assumption
    | apply Eq.refl
    | with_reducible apply State.noticeCores_step
    | with_reducible apply State.restartTiles_step
    | with_reducible apply State.emptyPipeline_step
    | with_reducible apply State.finalise_step
    | with_reducible apply State.updBell_step
    | with_reducible apply State.clrBits_step
    | with_reducible apply State.setBits_step
    | with_reducible apply State.endDrain_step
    | with_reducible apply State.maybeDrain_step
    | with_reducible apply Frame.foldl
    | with_reducible apply Frame.foldl_fst
    | split
    | with_reducible apply Frame.ite
    | with_reducible apply Frame.set_contain
    | intro _
    | dsimp only
theorem State.containDone_step (w0 : Nat) (a0 : State) (s : State) (h0 : Frame w0 a0 s) (hw : 19054640180 &&& w0 = 19054640180) : Frame w0 a0 (State.containDone s) :=
  Frame.step _ _ _ _ _ h0 (State.containDone_frame s) hw

theorem execContainmentComplete_frame (s : State) : Completes 19054640180 s (execContainmentComplete s) := by
  unfold execContainmentComplete
  try dsimp only
  repeat' first
    | with_reducible apply Completes.intro
    | with_reducible apply Frame.refl
    | with_reducible assumption
    | apply Eq.refl
    | with_reducible apply State.containDone_step
    | with_reducible apply Frame.foldl
    | with_reducible apply Frame.foldl_fst
    | split
    | with_reducible apply Frame.ite
    | intro _
    | dsimp only
theorem execContainmentComplete_after (w0 : Nat) (a0 : State) (s : State) (h0 : Frame w0 a0 s) (hw : 19054640180 &&& w0 = 19054640180) : Completes w0 a0 (execContainmentComplete s) :=
  Completes.step _ _ _ _ _ h0 (execContainmentComplete_frame s) hw

theorem State.containResume_frame (s : State) : Frame 151000084 s (State.containResume s) := by
  unfold State.containResume
  try dsimp only
  repeat' first
    | with_reducible apply Frame.refl
    | with_reducible assumption
    | apply Eq.refl
    | with_reducible apply State.tryArm_step
    | with_reducible apply State.updBell_step
    | with_reducible apply State.clrBits_step
    | with_reducible apply Frame.foldl
    | with_reducible apply Frame.foldl_fst
    | split
    | with_reducible apply Frame.ite
    | intro _
    | dsimp only
theorem State.containResume_step (w0 : Nat) (a0 : State) (s : State) (h0 : Frame w0 a0 s) (hw : 151000084 &&& w0 = 151000084) : Frame w0 a0 (State.containResume s) :=
  Frame.step _ _ _ _ _ h0 (State.containResume_frame s) hw

theorem execHubContainResume_frame (s : State) : Completes 151000084 s (execHubContainResume s) := by
  unfold execHubContainResume
  try dsimp only
  repeat' first
    | with_reducible apply Completes.intro
    | with_reducible apply Frame.refl
    | with_reducible assumption
    | apply Eq.refl
    | with_reducible apply State.containResume_step
    | with_reducible apply Frame.foldl
    | with_reducible apply Frame.foldl_fst
    | split
    | with_reducible apply Frame.ite
    | intro _
    | dsimp only
theorem execHubContainResume_after (w0 : Nat) (a0 : State) (s : State) (h0 : Frame w0 a0 s) (hw : 151000084 &&& w0 = 151000084) : Completes w0 a0 (execHubContainResume s) :=
  Completes.step _ _ _ _ _ h0 (execHubContainResume_frame s) hw

end Sys2Proof.Machine
end

