-- ==== Sys2Proof/Laws/F_Power.lean ====
section
/-!
SUPPORT. Frames of the operations of Machine/Power.lean.
-/
namespace Sys2Proof.Machine

set_option linter.unusedTactic false
set_option linter.unreachableTactic false
set_option linter.unusedVariables false

theorem State.setDomain_frame (s : State) (a : Nat) (k : Nat) (n : Nat) (v : Bool) : Frame 545259568 s (State.setDomain s a k n v) := by
  unfold State.setDomain
  try dsimp only
  repeat' first
    | with_reducible apply Frame.refl
    | with_reducible assumption
    | apply Eq.refl
    | with_reducible apply State.beginOn_step
    | with_reducible apply State.setBits_step
    | with_reducible apply State.beginOff_step
    | with_reducible apply State.clrBits_step
    | with_reducible apply Frame.foldl
    | with_reducible apply Frame.foldl_fst
    | split
    | with_reducible apply Frame.ite
    | intro _
    | dsimp only
theorem State.setDomain_step (w0 : Nat) (a0 : State) (s : State) (a : Nat) (k : Nat) (n : Nat) (v : Bool) (h0 : Frame w0 a0 s) (hw : 545259568 &&& w0 = 545259568) : Frame w0 a0 (State.setDomain s a k n v) :=
  Frame.step _ _ _ _ _ h0 (State.setDomain_frame s a k n v) hw

theorem State.writeBeds_frame (s : State) (v : Nat) : Frame 545259568 s (State.writeBeds s v) := by
  unfold State.writeBeds
  try dsimp only
  repeat' first
    | with_reducible apply Frame.refl
    | with_reducible assumption
    | apply Eq.refl
    | with_reducible apply State.setBits_step
    | with_reducible apply State.setDomain_step
    | with_reducible apply Frame.foldl
    | with_reducible apply Frame.foldl_fst
    | split
    | with_reducible apply Frame.ite
    | intro _
    | dsimp only
theorem State.writeBeds_step (w0 : Nat) (a0 : State) (s : State) (v : Nat) (h0 : Frame w0 a0 s) (hw : 545259568 &&& w0 = 545259568) : Frame w0 a0 (State.writeBeds s v) :=
  Frame.step _ _ _ _ _ h0 (State.writeBeds_frame s v) hw

theorem execSupPwrBedWrite_frame (v : BitVec 12) (s : State) : Completes 545259568 s (execSupPwrBedWrite v s) := by
  unfold execSupPwrBedWrite
  try dsimp only
  repeat' first
    | with_reducible apply Completes.intro
    | with_reducible apply Frame.refl
    | with_reducible assumption
    | apply Eq.refl
    | with_reducible apply State.writeBeds_step
    | with_reducible apply Frame.foldl
    | with_reducible apply Frame.foldl_fst
    | split
    | with_reducible apply Frame.ite
    | intro _
    | dsimp only
theorem execSupPwrBedWrite_after (w0 : Nat) (a0 : State) (v : BitVec 12) (s : State) (h0 : Frame w0 a0 s) (hw : 545259568 &&& w0 = 545259568) : Completes w0 a0 (execSupPwrBedWrite v s) :=
  Completes.step _ _ _ _ _ h0 (execSupPwrBedWrite_frame v s) hw

theorem State.writeCamPower_frame (s : State) (v : Nat) : Frame 545259568 s (State.writeCamPower s v) := by
  unfold State.writeCamPower
  try dsimp only
  repeat' first
    | with_reducible apply Frame.refl
    | with_reducible assumption
    | apply Eq.refl
    | with_reducible apply State.setDomain_step
    | with_reducible apply Frame.foldl
    | with_reducible apply Frame.foldl_fst
    | split
    | with_reducible apply Frame.ite
    | intro _
    | dsimp only
theorem State.writeCamPower_step (w0 : Nat) (a0 : State) (s : State) (v : Nat) (h0 : Frame w0 a0 s) (hw : 545259568 &&& w0 = 545259568) : Frame w0 a0 (State.writeCamPower s v) :=
  Frame.step _ _ _ _ _ h0 (State.writeCamPower_frame s v) hw

theorem execSupPwrCamWrite_frame (v : BitVec 16) (s : State) : Completes 545259568 s (execSupPwrCamWrite v s) := by
  unfold execSupPwrCamWrite
  try dsimp only
  repeat' first
    | with_reducible apply Completes.intro
    | with_reducible apply Frame.refl
    | with_reducible assumption
    | apply Eq.refl
    | with_reducible apply State.writeCamPower_step
    | with_reducible apply Frame.foldl
    | with_reducible apply Frame.foldl_fst
    | split
    | with_reducible apply Frame.ite
    | intro _
    | dsimp only
theorem execSupPwrCamWrite_after (w0 : Nat) (a0 : State) (v : BitVec 16) (s : State) (h0 : Frame w0 a0 s) (hw : 545259568 &&& w0 = 545259568) : Completes w0 a0 (execSupPwrCamWrite v s) :=
  Completes.step _ _ _ _ _ h0 (execSupPwrCamWrite_frame v s) hw

theorem State.writePrmPower_frame (s : State) (v : Nat) : Frame 545259568 s (State.writePrmPower s v) := by
  unfold State.writePrmPower
  try dsimp only
  repeat' first
    | with_reducible apply Frame.refl
    | with_reducible assumption
    | apply Eq.refl
    | with_reducible apply State.setDomain_step
    | with_reducible apply Frame.foldl
    | with_reducible apply Frame.foldl_fst
    | split
    | with_reducible apply Frame.ite
    | intro _
    | dsimp only
theorem State.writePrmPower_step (w0 : Nat) (a0 : State) (s : State) (v : Nat) (h0 : Frame w0 a0 s) (hw : 545259568 &&& w0 = 545259568) : Frame w0 a0 (State.writePrmPower s v) :=
  Frame.step _ _ _ _ _ h0 (State.writePrmPower_frame s v) hw

theorem execSupPwrPrmWrite_frame (v : BitVec 4) (s : State) : Completes 545259568 s (execSupPwrPrmWrite v s) := by
  unfold execSupPwrPrmWrite
  try dsimp only
  repeat' first
    | with_reducible apply Completes.intro
    | with_reducible apply Frame.refl
    | with_reducible assumption
    | apply Eq.refl
    | with_reducible apply State.writePrmPower_step
    | with_reducible apply Frame.foldl
    | with_reducible apply Frame.foldl_fst
    | split
    | with_reducible apply Frame.ite
    | intro _
    | dsimp only
theorem execSupPwrPrmWrite_after (w0 : Nat) (a0 : State) (v : BitVec 4) (s : State) (h0 : Frame w0 a0 s) (hw : 545259568 &&& w0 = 545259568) : Completes w0 a0 (execSupPwrPrmWrite v s) :=
  Completes.step _ _ _ _ _ h0 (execSupPwrPrmWrite_frame v s) hw

theorem State.losePower_frame (s : State) (n : Nat) : Frame 1245369396 s (State.losePower s n) := by
  unfold State.losePower
  split
  · extract_lets tiles gone src mem
    refine State.holdUpdate_step _ _ _ (Frame.set_mem 1245369396 s { s with tiles := tiles } mem ?_ rfl rfl rfl) rfl
    exact Frame.set_tiles 1245369396 s s tiles (Frame.refl _ _) rfl (fun c => Tab.filter_wf _ _ _ (State.canonical_tile s c))
  · split
    · exact State.setCore_step _ _ _ _ _ (Frame.refl _ _) rfl
    · split
      · exact State.loseLink_step _ _ _ _ (State.camStop_step _ _ _ _ (Frame.refl _ _) rfl) rfl
      · exact State.linkDown_step _ _ _ _ _ (Frame.refl _ _) rfl
theorem State.losePower_step (w0 : Nat) (a0 : State) (s : State) (n : Nat) (h0 : Frame w0 a0 s) (hw : 1245369396 &&& w0 = 1245369396) : Frame w0 a0 (State.losePower s n) :=
  Frame.step _ _ _ _ _ h0 (State.losePower_frame s n) hw

theorem State.powerRemoved_frame (s : State) (n : Nat) : Frame 1782240308 s (State.powerRemoved s n) := by
  unfold State.powerRemoved
  try dsimp only
  repeat' first
    | with_reducible apply Frame.refl
    | with_reducible assumption
    | apply Eq.refl
    | with_reducible apply State.losePower_step
    | with_reducible apply Frame.foldl
    | with_reducible apply Frame.foldl_fst
    | split
    | with_reducible apply Frame.ite
    | with_reducible apply Frame.set_power
    | intro _
    | dsimp only
theorem State.powerRemoved_step (w0 : Nat) (a0 : State) (s : State) (n : Nat) (h0 : Frame w0 a0 s) (hw : 1782240308 &&& w0 = 1782240308) : Frame w0 a0 (State.powerRemoved s n) :=
  Frame.step _ _ _ _ _ h0 (State.powerRemoved_frame s n) hw

theorem execDomainPowerRemoved_frame (d : Domain) (s : State) : Completes 1782240308 s (execDomainPowerRemoved d s) := by
  unfold execDomainPowerRemoved
  try dsimp only
  repeat' first
    | with_reducible apply Completes.intro
    | with_reducible apply Frame.refl
    | with_reducible assumption
    | apply Eq.refl
    | with_reducible apply State.powerRemoved_step
    | with_reducible apply Frame.foldl
    | with_reducible apply Frame.foldl_fst
    | split
    | with_reducible apply Frame.ite
    | intro _
    | dsimp only
theorem execDomainPowerRemoved_after (w0 : Nat) (a0 : State) (d : Domain) (s : State) (h0 : Frame w0 a0 s) (hw : 1782240308 &&& w0 = 1782240308) : Completes w0 a0 (execDomainPowerRemoved d s) :=
  Completes.step _ _ _ _ _ h0 (execDomainPowerRemoved_frame d s) hw

theorem State.powerBack_frame (s : State) (n : Nat) : Frame 536870912 s (State.powerBack s n) := by
  unfold State.powerBack
  try dsimp only
  repeat' first
    | with_reducible apply Frame.refl
    | with_reducible assumption
    | apply Eq.refl
    | with_reducible apply Frame.foldl
    | with_reducible apply Frame.foldl_fst
    | split
    | with_reducible apply Frame.ite
    | with_reducible apply Frame.set_power
    | intro _
    | dsimp only
theorem State.powerBack_step (w0 : Nat) (a0 : State) (s : State) (n : Nat) (h0 : Frame w0 a0 s) (hw : 536870912 &&& w0 = 536870912) : Frame w0 a0 (State.powerBack s n) :=
  Frame.step _ _ _ _ _ h0 (State.powerBack_frame s n) hw

theorem State.bedFilled_frame (s : State) (n : Nat) : Frame 536870912 s (State.bedFilled s n) := by
  unfold State.bedFilled
  try dsimp only
  repeat' first
    | with_reducible apply Frame.refl
    | with_reducible assumption
    | apply Eq.refl
    | with_reducible apply State.powerBack_step
    | with_reducible apply Frame.foldl
    | with_reducible apply Frame.foldl_fst
    | split
    | with_reducible apply Frame.ite
    | intro _
    | dsimp only
theorem State.bedFilled_step (w0 : Nat) (a0 : State) (s : State) (n : Nat) (h0 : Frame w0 a0 s) (hw : 536870912 &&& w0 = 536870912) : Frame w0 a0 (State.bedFilled s n) :=
  Frame.step _ _ _ _ _ h0 (State.bedFilled_frame s n) hw

theorem execBedZeroFillComplete_frame (d : Die) (b : Fin 6) (s : State) : Completes 536870912 s (execBedZeroFillComplete d b s) := by
  unfold execBedZeroFillComplete
  try dsimp only
  repeat' first
    | with_reducible apply Completes.intro
    | with_reducible apply Frame.refl
    | with_reducible assumption
    | apply Eq.refl
    | with_reducible apply State.bedFilled_step
    | with_reducible apply Frame.foldl
    | with_reducible apply Frame.foldl_fst
    | split
    | with_reducible apply Frame.ite
    | intro _
    | dsimp only
theorem execBedZeroFillComplete_after (w0 : Nat) (a0 : State) (d : Die) (b : Fin 6) (s : State) (h0 : Frame w0 a0 s) (hw : 536870912 &&& w0 = 536870912) : Completes w0 a0 (execBedZeroFillComplete d b s) :=
  Completes.step _ _ _ _ _ h0 (execBedZeroFillComplete_frame d b s) hw

theorem State.powerOn_frame (s : State) (n : Nat) : Frame 545259520 s (State.powerOn s n) := by
  unfold State.powerOn
  try dsimp only
  repeat' first
    | with_reducible apply Frame.refl
    | with_reducible assumption
    | apply Eq.refl
    | with_reducible apply State.openGates_step
    | with_reducible apply State.powerBack_step
    | with_reducible apply Frame.foldl
    | with_reducible apply Frame.foldl_fst
    | split
    | with_reducible apply Frame.ite
    | intro _
    | dsimp only
theorem State.powerOn_step (w0 : Nat) (a0 : State) (s : State) (n : Nat) (h0 : Frame w0 a0 s) (hw : 545259520 &&& w0 = 545259520) : Frame w0 a0 (State.powerOn s n) :=
  Frame.step _ _ _ _ _ h0 (State.powerOn_frame s n) hw

theorem execDomainPowerOnComplete_frame (d : Domain) (s : State) : Completes 545259520 s (execDomainPowerOnComplete d s) := by
  unfold execDomainPowerOnComplete
  try dsimp only
  repeat' first
    | with_reducible apply Completes.intro
    | with_reducible apply Frame.refl
    | with_reducible assumption
    | apply Eq.refl
    | with_reducible apply State.powerOn_step
    | with_reducible apply Frame.foldl
    | with_reducible apply Frame.foldl_fst
    | split
    | with_reducible apply Frame.ite
    | intro _
    | dsimp only
theorem execDomainPowerOnComplete_after (w0 : Nat) (a0 : State) (d : Domain) (s : State) (h0 : Frame w0 a0 s) (hw : 545259520 &&& w0 = 545259520) : Completes w0 a0 (execDomainPowerOnComplete d s) :=
  Completes.step _ _ _ _ _ h0 (execDomainPowerOnComplete_frame d s) hw

end Sys2Proof.Machine
end

