-- ==== Sys2Proof/Laws/F_Supply.lean ====
section
/-!
SUPPORT. Frames of the operations of Machine/Supply.lean.
-/
namespace Sys2Proof.Machine

set_option linter.unusedTactic false
set_option linter.unreachableTactic false
set_option linter.unusedVariables false

theorem State.setSupState_frame (s : State) (v : Nat) : Frame 16 s (State.setSupState s v) := by
  unfold State.setSupState
  try dsimp only
  repeat' first
    | with_reducible apply Frame.refl
    | with_reducible assumption
    | apply Eq.refl
    | with_reducible apply State.setReg_step
    | with_reducible apply Frame.foldl
    | with_reducible apply Frame.foldl_fst
    | split
    | with_reducible apply Frame.ite
    | intro _
    | dsimp only
theorem State.setSupState_step (w0 : Nat) (a0 : State) (s : State) (v : Nat) (h0 : Frame w0 a0 s) (hw : 16 &&& w0 = 16) : Frame w0 a0 (State.setSupState s v) :=
  Frame.step _ _ _ _ _ h0 (State.setSupState_frame s v) hw

theorem State.setSupBits_frame (s : State) (m : Word) : Frame 48 s (State.setSupBits s m) := by
  unfold State.setSupBits
  try dsimp only
  repeat' first
    | with_reducible apply Frame.refl
    | with_reducible assumption
    | apply Eq.refl
    | with_reducible apply State.setBits_step
    | with_reducible apply Frame.foldl
    | with_reducible apply Frame.foldl_fst
    | split
    | with_reducible apply Frame.ite
    | intro _
    | dsimp only
theorem State.setSupBits_step (w0 : Nat) (a0 : State) (s : State) (m : Word) (h0 : Frame w0 a0 s) (hw : 48 &&& w0 = 48) : Frame w0 a0 (State.setSupBits s m) :=
  Frame.step _ _ _ _ _ h0 (State.setSupBits_frame s m) hw

theorem State.updSup_frame (s : State) (f : SupState → SupState) : ∀ w0 a0, Frame w0 a0 s → w0 / 268435456 % 2 = 1 → (s.canonical = true → Tab.wf (fun _ => SentState.init) (f s.sup).sent = true) → Frame w0 a0 (State.updSup s f) := by
  intro w0 a0 h hw hv
  exact Frame.set_sup' w0 a0 s _ h hw hv

theorem State.supplyTakes_frame (s : State) (v : Verdict) : Frame 4096 s (State.supplyTakes s v) := by
  unfold State.supplyTakes
  try dsimp only
  repeat' first
    | with_reducible apply Frame.refl
    | with_reducible assumption
    | apply Eq.refl
    | with_reducible apply State.updBell_step
    | with_reducible apply Frame.foldl
    | with_reducible apply Frame.foldl_fst
    | split
    | with_reducible apply Frame.ite
    | intro _
    | dsimp only
theorem State.supplyTakes_step (w0 : Nat) (a0 : State) (s : State) (v : Verdict) (h0 : Frame w0 a0 s) (hw : 4096 &&& w0 = 4096) : Frame w0 a0 (State.supplyTakes s v) :=
  Frame.step _ _ _ _ _ h0 (State.supplyTakes_frame s v) hw

theorem State.noContain_frame (s : State) : Frame 1073741872 s (State.noContain s) := by
  unfold State.noContain
  try dsimp only
  repeat' first
    | with_reducible apply Frame.refl
    | with_reducible assumption
    | apply Eq.refl
    | with_reducible apply State.setBorn_step
    | with_reducible apply State.setReg_step
    | with_reducible apply State.clrBits_step
    | with_reducible apply Frame.foldl
    | with_reducible apply Frame.foldl_fst
    | split
    | with_reducible apply Frame.ite
    | with_reducible apply Frame.set_contain
    | intro _
    | dsimp only
theorem State.noContain_step (w0 : Nat) (a0 : State) (s : State) (h0 : Frame w0 a0 s) (hw : 1073741872 &&& w0 = 1073741872) : Frame w0 a0 (State.noContain s) :=
  Frame.step _ _ _ _ _ h0 (State.noContain_frame s) hw

theorem State.stopStream_frame (s : State) (v : Verdict) : Frame 135935028 s (State.stopStream s v) := by
  unfold State.stopStream
  try dsimp only
  repeat' first
    | with_reducible apply Frame.refl
    | with_reducible assumption
    | apply Eq.refl
    | with_reducible apply State.endStreamAt_step
    | with_reducible apply State.dropAssembly_step
    | with_reducible apply State.maybeDrain_step
    | with_reducible apply Frame.foldl
    | with_reducible apply Frame.foldl_fst
    | split
    | with_reducible apply Frame.ite
    | intro _
    | dsimp only
theorem State.stopStream_step (w0 : Nat) (a0 : State) (s : State) (v : Verdict) (h0 : Frame w0 a0 s) (hw : 135935028 &&& w0 = 135935028) : Frame w0 a0 (State.stopStream s v) :=
  Frame.step _ _ _ _ _ h0 (State.stopStream_frame s v) hw

theorem State.stopped_frame (s : State) : Frame 8589934608 s (State.stopped s) := by
  unfold State.stopped
  try dsimp only
  repeat' first
    | with_reducible apply Frame.refl
    | with_reducible assumption
    | apply Eq.refl
    | with_reducible apply State.setSupState_step
    | with_reducible apply Frame.foldl
    | with_reducible apply Frame.foldl_fst
    | split
    | with_reducible apply Frame.ite
    | with_reducible apply Frame.set_pins
    | intro _
    | dsimp only
theorem State.stopped_step (w0 : Nat) (a0 : State) (s : State) (h0 : Frame w0 a0 s) (hw : 8589934608 &&& w0 = 8589934608) : Frame w0 a0 (State.stopped s) :=
  Frame.step _ _ _ _ _ h0 (State.stopped_frame s) hw

theorem State.orderlyStop_frame (s : State) (code : Nat) (bits_ : Nat) (h : Nat) : Frame 12215530548 s (State.orderlyStop s code bits_ h) := by
  unfold State.orderlyStop
  try dsimp only
  repeat' first
    | with_reducible apply Frame.refl
    | with_reducible assumption
    | apply Eq.refl
    | (with_reducible refine State.updSup_frame _ _ _ _ ?_ ?_ ?_; rotate_left; apply Eq.refl; intro c; apply State.canonical_sent _ c)
    | with_reducible apply State.setSupState_step
    | with_reducible apply State.stopped_step
    | with_reducible apply State.emit_step
    | with_reducible apply State.stopStream_step
    | with_reducible apply State.noContain_step
    | with_reducible apply State.supplyTakes_step
    | with_reducible apply State.sendMsg_step
    | with_reducible apply Frame.foldl
    | with_reducible apply Frame.foldl_fst
    | split
    | with_reducible apply Frame.ite
    | with_reducible apply Frame.set_boot
    | intro _
    | dsimp only
theorem State.orderlyStop_step (w0 : Nat) (a0 : State) (s : State) (code : Nat) (bits_ : Nat) (h : Nat) (h0 : Frame w0 a0 s) (hw : 12215530548 &&& w0 = 12215530548) : Frame w0 a0 (State.orderlyStop s code bits_ h) :=
  Frame.step _ _ _ _ _ h0 (State.orderlyStop_frame s code bits_ h) hw

theorem State.enterWarn_frame (s : State) (h : Nat) (a : Nat) (b : Nat) : Frame 303563824 s (State.enterWarn s h a b) := by
  unfold State.enterWarn
  try dsimp only
  repeat' first
    | with_reducible apply Frame.refl
    | with_reducible assumption
    | apply Eq.refl
    | with_reducible apply State.count_step
    | with_reducible apply State.setSupState_step
    | (with_reducible refine State.updSup_frame _ _ _ _ ?_ ?_ ?_; rotate_left; apply Eq.refl; intro c; apply State.canonical_sent _ c)
    | with_reducible apply State.suspendAll_step
    | with_reducible apply State.emit_step
    | with_reducible apply Frame.foldl
    | with_reducible apply Frame.foldl_fst
    | split
    | with_reducible apply Frame.ite
    | intro _
    | dsimp only
theorem State.enterWarn_step (w0 : Nat) (a0 : State) (s : State) (h : Nat) (a : Nat) (b : Nat) (h0 : Frame w0 a0 s) (hw : 303563824 &&& w0 = 303563824) : Frame w0 a0 (State.enterWarn s h a b) :=
  Frame.step _ _ _ _ _ h0 (State.enterWarn_frame s h a b) hw

theorem State.sampleSupply_frame (s : State) (h : Nat) (ua : Nat) (ub : Nat) : Frame 12249084980 s (State.sampleSupply s h ua ub) := by
  unfold State.sampleSupply
  try dsimp only
  repeat' first
    | with_reducible apply Frame.refl
    | with_reducible assumption
    | apply Eq.refl
    | with_reducible apply State.minReg_step
    | with_reducible apply State.setRegN_step
    | with_reducible apply State.clrBits_step
    | with_reducible apply State.setSent_step
    | with_reducible apply State.orderlyStop_step
    | with_reducible apply State.enterWarn_step
    | with_reducible apply State.setSupBits_step
    | with_reducible apply Frame.foldl
    | with_reducible apply Frame.foldl_fst
    | split
    | with_reducible apply Frame.ite
    | intro _
    | dsimp only
theorem State.sampleSupply_step (w0 : Nat) (a0 : State) (s : State) (h : Nat) (ua : Nat) (ub : Nat) (h0 : Frame w0 a0 s) (hw : 12249084980 &&& w0 = 12249084980) : Frame w0 a0 (State.sampleSupply s h ua ub) :=
  Frame.step _ _ _ _ _ h0 (State.sampleSupply_frame s h ua ub) hw

theorem execVsenseSample_frame (h : Hub) (microvoltA : Nat) (microvoltB : Nat) (s : State) : Completes 12249084980 s (execVsenseSample h microvoltA microvoltB s) := by
  unfold execVsenseSample
  try dsimp only
  repeat' first
    | with_reducible apply Completes.intro
    | with_reducible apply Frame.refl
    | with_reducible assumption
    | apply Eq.refl
    | with_reducible apply State.sampleSupply_step
    | with_reducible apply Frame.foldl
    | with_reducible apply Frame.foldl_fst
    | split
    | with_reducible apply Frame.ite
    | intro _
    | dsimp only
theorem execVsenseSample_after (w0 : Nat) (a0 : State) (h : Hub) (microvoltA : Nat) (microvoltB : Nat) (s : State) (h0 : Frame w0 a0 s) (hw : 12249084980 &&& w0 = 12249084980) : Completes w0 a0 (execVsenseSample h microvoltA microvoltB s) :=
  Completes.step _ _ _ _ _ h0 (execVsenseSample_frame h microvoltA microvoltB s) hw

theorem State.warnClear_frame (s : State) : Frame 301989904 s (State.warnClear s) := by
  unfold State.warnClear
  try dsimp only
  repeat' first
    | with_reducible apply Frame.refl
    | with_reducible assumption
    | apply Eq.refl
    | with_reducible apply State.setSent_step
    | with_reducible apply State.resumeAll_step
    | with_reducible apply State.setSupState_step
    | (with_reducible refine State.updSup_frame _ _ _ _ ?_ ?_ ?_; rotate_left; apply Eq.refl; intro c; apply State.canonical_sent _ c)
    | with_reducible apply Frame.foldl
    | with_reducible apply Frame.foldl_fst
    | split
    | with_reducible apply Frame.ite
    | intro _
    | dsimp only
theorem State.warnClear_step (w0 : Nat) (a0 : State) (s : State) (h0 : Frame w0 a0 s) (hw : 301989904 &&& w0 = 301989904) : Frame w0 a0 (State.warnClear s) :=
  Frame.step _ _ _ _ _ h0 (State.warnClear_frame s) hw

theorem execSupWarnClear_frame (s : State) : Completes 301989904 s (execSupWarnClear s) := by
  unfold execSupWarnClear
  try dsimp only
  repeat' first
    | with_reducible apply Completes.intro
    | with_reducible apply Frame.refl
    | with_reducible assumption
    | apply Eq.refl
    | with_reducible apply State.warnClear_step
    | with_reducible apply Frame.foldl
    | with_reducible apply Frame.foldl_fst
    | split
    | with_reducible apply Frame.ite
    | intro _
    | dsimp only
theorem execSupWarnClear_after (w0 : Nat) (a0 : State) (s : State) (h0 : Frame w0 a0 s) (hw : 301989904 &&& w0 = 301989904) : Completes w0 a0 (execSupWarnClear s) :=
  Completes.step _ _ _ _ _ h0 (execSupWarnClear_frame s) hw

theorem State.supMismatch_frame (s : State) (h : Nat) : Frame 1573936 s (State.supMismatch s h) := by
  unfold State.supMismatch
  try dsimp only
  repeat' first
    | with_reducible apply Frame.refl
    | with_reducible assumption
    | apply Eq.refl
    | with_reducible apply State.emit_step
    | with_reducible apply State.setBits_step
    | with_reducible apply Frame.foldl
    | with_reducible apply Frame.foldl_fst
    | split
    | with_reducible apply Frame.ite
    | intro _
    | dsimp only
theorem State.supMismatch_step (w0 : Nat) (a0 : State) (s : State) (h : Nat) (h0 : Frame w0 a0 s) (hw : 1573936 &&& w0 = 1573936) : Frame w0 a0 (State.supMismatch s h) :=
  Frame.step _ _ _ _ _ h0 (State.supMismatch_frame s h) hw

theorem execSupMismatch_frame (h : Hub) (s : State) : Completes 1573936 s (execSupMismatch h s) := by
  unfold execSupMismatch
  try dsimp only
  repeat' first
    | with_reducible apply Completes.intro
    | with_reducible apply Frame.refl
    | with_reducible assumption
    | apply Eq.refl
    | with_reducible apply State.supMismatch_step
    | with_reducible apply Frame.foldl
    | with_reducible apply Frame.foldl_fst
    | split
    | with_reducible apply Frame.ite
    | intro _
    | dsimp only
theorem execSupMismatch_after (w0 : Nat) (a0 : State) (h : Hub) (s : State) (h0 : Frame w0 a0 s) (hw : 1573936 &&& w0 = 1573936) : Completes w0 a0 (execSupMismatch h s) :=
  Completes.step _ _ _ _ _ h0 (execSupMismatch_frame h s) hw

theorem State.pfailAssert_frame (s : State) (h : Nat) : Frame 12215530548 s (State.pfailAssert s h) := by
  unfold State.pfailAssert
  try dsimp only
  repeat' first
    | with_reducible apply Frame.refl
    | with_reducible assumption
    | apply Eq.refl
    | with_reducible apply State.setBits_step
    | with_reducible apply State.setSent_step
    | with_reducible apply State.orderlyStop_step
    | with_reducible apply Frame.foldl
    | with_reducible apply Frame.foldl_fst
    | split
    | with_reducible apply Frame.ite
    | intro _
    | dsimp only
theorem State.pfailAssert_step (w0 : Nat) (a0 : State) (s : State) (h : Nat) (h0 : Frame w0 a0 s) (hw : 12215530548 &&& w0 = 12215530548) : Frame w0 a0 (State.pfailAssert s h) :=
  Frame.step _ _ _ _ _ h0 (State.pfailAssert_frame s h) hw

theorem execPfailNAssert_frame (h : Hub) (s : State) : Completes 12215530548 s (execPfailNAssert h s) := by
  unfold execPfailNAssert
  try dsimp only
  repeat' first
    | with_reducible apply Completes.intro
    | with_reducible apply Frame.refl
    | with_reducible assumption
    | apply Eq.refl
    | with_reducible apply State.pfailAssert_step
    | with_reducible apply Frame.foldl
    | with_reducible apply Frame.foldl_fst
    | split
    | with_reducible apply Frame.ite
    | intro _
    | dsimp only
theorem execPfailNAssert_after (w0 : Nat) (a0 : State) (h : Hub) (s : State) (h0 : Frame w0 a0 s) (hw : 12215530548 &&& w0 = 12215530548) : Completes w0 a0 (execPfailNAssert h s) :=
  Completes.step _ _ _ _ _ h0 (execPfailNAssert_frame h s) hw

theorem State.marksOff_frame (s : State) : Frame 132096 s (State.marksOff s) := by
  unfold State.marksOff
  try dsimp only
  repeat' first
    | with_reducible apply Frame.refl
    | with_reducible assumption
    | apply Eq.refl
    | with_reducible exact fun c => Tab.put_wf _ _ _ _ (State.canonical_cam _ c)
    | with_reducible exact fun c => Tab.mapV_wf _ _ _ (State.canonical_cam _ c)
    | with_reducible exact fun c => Tab.filter_wf _ _ _ (State.canonical_cam _ c)
    | with_reducible apply State.send_step
    | with_reducible apply Frame.foldl
    | with_reducible apply Frame.foldl_fst
    | split
    | with_reducible apply Frame.ite
    | (with_reducible apply Frame.set_gth; rotate_left; apply Eq.refl; apply Eq.refl)
    | with_reducible apply Frame.set_gth'
    | intro _
    | dsimp only
theorem State.marksOff_step (w0 : Nat) (a0 : State) (s : State) (h0 : Frame w0 a0 s) (hw : 132096 &&& w0 = 132096) : Frame w0 a0 (State.marksOff s) :=
  Frame.step _ _ _ _ _ h0 (State.marksOff_frame s) hw

theorem State.drainCut_frame (s : State) : Frame 934984752 s (State.drainCut s) := by
  unfold State.drainCut
  try dsimp only
  repeat' first
    | with_reducible apply Frame.refl
    | with_reducible assumption
    | apply Eq.refl
    | with_reducible apply State.finalise_step
    | with_reducible apply State.verdictWhere_step
    | with_reducible apply State.closeAllRuns_step
    | with_reducible apply State.marksOff_step
    | with_reducible apply State.endLoad_step
    | with_reducible apply State.cancelTask_step
    | (with_reducible refine State.updSup_frame _ _ _ _ ?_ ?_ ?_; rotate_left; apply Eq.refl; intro c; apply State.canonical_sent _ c)
    | with_reducible apply Frame.foldl
    | with_reducible apply Frame.foldl_fst
    | split
    | with_reducible apply Frame.ite
    | intro _
    | dsimp only
theorem State.drainCut_step (w0 : Nat) (a0 : State) (s : State) (h0 : Frame w0 a0 s) (hw : 934984752 &&& w0 = 934984752) : Frame w0 a0 (State.drainCut s) :=
  Frame.step _ _ _ _ _ h0 (State.drainCut_frame s) hw

theorem execDrainCut_frame (s : State) : Completes 934984752 s (execDrainCut s) := by
  unfold execDrainCut
  try dsimp only
  repeat' first
    | with_reducible apply Completes.intro
    | with_reducible apply Frame.refl
    | with_reducible assumption
    | apply Eq.refl
    | with_reducible apply State.drainCut_step
    | with_reducible apply Frame.foldl
    | with_reducible apply Frame.foldl_fst
    | split
    | with_reducible apply Frame.ite
    | intro _
    | dsimp only
theorem execDrainCut_after (w0 : Nat) (a0 : State) (s : State) (h0 : Frame w0 a0 s) (hw : 934984752 &&& w0 = 934984752) : Completes w0 a0 (execDrainCut s) :=
  Completes.step _ _ _ _ _ h0 (execDrainCut_frame s) hw

theorem State.flushDone_frame (s : State) : Frame 8860468272 s (State.flushDone s) := by
  unfold State.flushDone
  try dsimp only
  repeat' first
    | with_reducible apply Frame.refl
    | with_reducible assumption
    | apply Eq.refl
    | with_reducible exact fun c => ⟨writeBytes_wf _ _ _ (State.canonical_hbm _ c), id (State.canonical_spiNor _ c)⟩
    | with_reducible exact fun c => ⟨writeBytes_wf _ _ _ (State.canonical_hbm _ c), writeBytes_wf _ _ _ (State.canonical_spiNor _ c)⟩
    | with_reducible exact fun c => ⟨writeBytes_wf _ _ _ (State.canonical_hbm _ c), zeroBytes_wf _ _ _ (State.canonical_spiNor _ c)⟩
    | with_reducible exact fun c => ⟨zeroBytes_wf _ _ _ (State.canonical_hbm _ c), id (State.canonical_spiNor _ c)⟩
    | with_reducible exact fun c => ⟨zeroBytes_wf _ _ _ (State.canonical_hbm _ c), writeBytes_wf _ _ _ (State.canonical_spiNor _ c)⟩
    | with_reducible exact fun c => ⟨zeroBytes_wf _ _ _ (State.canonical_hbm _ c), zeroBytes_wf _ _ _ (State.canonical_spiNor _ c)⟩
    | with_reducible exact fun c => ⟨id (State.canonical_hbm _ c), id (State.canonical_spiNor _ c)⟩
    | with_reducible exact fun c => ⟨id (State.canonical_hbm _ c), writeBytes_wf _ _ _ (State.canonical_spiNor _ c)⟩
    | with_reducible exact fun c => ⟨id (State.canonical_hbm _ c), zeroBytes_wf _ _ _ (State.canonical_spiNor _ c)⟩
    | with_reducible apply State.send_step
    | (with_reducible refine State.updSup_frame _ _ _ _ ?_ ?_ ?_; rotate_left; apply Eq.refl; intro c; apply State.canonical_sent _ c)
    | with_reducible apply State.stopped_step
    | with_reducible apply State.setSupBits_step
    | with_reducible apply State.setRegN_step
    | with_reducible apply Frame.foldl
    | with_reducible apply Frame.foldl_fst
    | split
    | with_reducible apply Frame.ite
    | (with_reducible apply Frame.set_mem; rotate_left; apply Eq.refl; apply Eq.refl; apply Eq.refl)
    | with_reducible apply Frame.set_mem'
    | intro _
    | dsimp only
theorem State.flushDone_step (w0 : Nat) (a0 : State) (s : State) (h0 : Frame w0 a0 s) (hw : 8860468272 &&& w0 = 8860468272) : Frame w0 a0 (State.flushDone s) :=
  Frame.step _ _ _ _ _ h0 (State.flushDone_frame s) hw

theorem execFlushComplete_frame (s : State) : Completes 8860468272 s (execFlushComplete s) := by
  unfold execFlushComplete
  try dsimp only
  repeat' first
    | with_reducible apply Completes.intro
    | with_reducible apply Frame.refl
    | with_reducible assumption
    | apply Eq.refl
    | with_reducible apply State.flushDone_step
    | with_reducible apply Frame.foldl
    | with_reducible apply Frame.foldl_fst
    | split
    | with_reducible apply Frame.ite
    | intro _
    | dsimp only
theorem execFlushComplete_after (w0 : Nat) (a0 : State) (s : State) (h0 : Frame w0 a0 s) (hw : 8860468272 &&& w0 = 8860468272) : Completes w0 a0 (execFlushComplete s) :=
  Completes.step _ _ _ _ _ h0 (execFlushComplete_frame s) hw

theorem State.writeThreshold_frame (s : State) (h : Nat) (k : Threshold) (v : Word) : Frame 48 s (State.writeThreshold s h k v) := by
  unfold State.writeThreshold
  try dsimp only
  repeat' first
    | with_reducible apply Frame.refl
    | with_reducible assumption
    | apply Eq.refl
    | with_reducible apply State.setRegN_step
    | with_reducible apply State.setBits_step
    | with_reducible apply Frame.foldl
    | with_reducible apply Frame.foldl_fst
    | split
    | with_reducible apply Frame.ite
    | intro _
    | dsimp only
theorem State.writeThreshold_step (w0 : Nat) (a0 : State) (s : State) (h : Nat) (k : Threshold) (v : Word) (h0 : Frame w0 a0 s) (hw : 48 &&& w0 = 48) : Frame w0 a0 (State.writeThreshold s h k v) :=
  Frame.step _ _ _ _ _ h0 (State.writeThreshold_frame s h k v) hw

theorem execSupThresholdWrite_frame (h : Hub) (k : Threshold) (v : Word) (s : State) : Completes 48 s (execSupThresholdWrite h k v s) := by
  unfold execSupThresholdWrite
  try dsimp only
  repeat' first
    | with_reducible apply Completes.intro
    | with_reducible apply Frame.refl
    | with_reducible assumption
    | apply Eq.refl
    | with_reducible apply State.writeThreshold_step
    | with_reducible apply Frame.foldl
    | with_reducible apply Frame.foldl_fst
    | split
    | with_reducible apply Frame.ite
    | intro _
    | dsimp only
theorem execSupThresholdWrite_after (w0 : Nat) (a0 : State) (h : Hub) (k : Threshold) (v : Word) (s : State) (h0 : Frame w0 a0 s) (hw : 48 &&& w0 = 48) : Completes w0 a0 (execSupThresholdWrite h k v s) :=
  Completes.step _ _ _ _ _ h0 (execSupThresholdWrite_frame h k v s) hw

theorem State.writeDrainUs_frame (s : State) (v : Nat) : Frame 16 s (State.writeDrainUs s v) := by
  unfold State.writeDrainUs
  try dsimp only
  repeat' first
    | with_reducible apply Frame.refl
    | with_reducible assumption
    | apply Eq.refl
    | with_reducible apply State.setRegN_step
    | with_reducible apply Frame.foldl
    | with_reducible apply Frame.foldl_fst
    | split
    | with_reducible apply Frame.ite
    | intro _
    | dsimp only
theorem State.writeDrainUs_step (w0 : Nat) (a0 : State) (s : State) (v : Nat) (h0 : Frame w0 a0 s) (hw : 16 &&& w0 = 16) : Frame w0 a0 (State.writeDrainUs s v) :=
  Frame.step _ _ _ _ _ h0 (State.writeDrainUs_frame s v) hw

theorem execSupDrainUsWrite_frame (v : Word) (s : State) : Completes 16 s (execSupDrainUsWrite v s) := by
  unfold execSupDrainUsWrite
  try dsimp only
  repeat' first
    | with_reducible apply Completes.intro
    | with_reducible apply Frame.refl
    | with_reducible assumption
    | apply Eq.refl
    | with_reducible apply State.writeDrainUs_step
    | with_reducible apply Frame.foldl
    | with_reducible apply Frame.foldl_fst
    | split
    | with_reducible apply Frame.ite
    | intro _
    | dsimp only
theorem execSupDrainUsWrite_after (w0 : Nat) (a0 : State) (v : Word) (s : State) (h0 : Frame w0 a0 s) (hw : 16 &&& w0 = 16) : Completes w0 a0 (execSupDrainUsWrite v s) :=
  Completes.step _ _ _ _ _ h0 (execSupDrainUsWrite_frame v s) hw

theorem State.flushAck_frame (s : State) (slot : Nat) : Frame 268435456 s (State.flushAck s slot) := by
  unfold State.flushAck
  try dsimp only
  repeat' first
    | with_reducible apply Frame.refl
    | with_reducible assumption
    | apply Eq.refl
    | (with_reducible refine State.updSup_frame _ _ _ _ ?_ ?_ ?_; rotate_left; apply Eq.refl; intro c; apply State.canonical_sent _ c)
    | with_reducible apply Frame.foldl
    | with_reducible apply Frame.foldl_fst
    | split
    | with_reducible apply Frame.ite
    | intro _
    | dsimp only
theorem State.flushAck_step (w0 : Nat) (a0 : State) (s : State) (slot : Nat) (h0 : Frame w0 a0 s) (hw : 268435456 &&& w0 = 268435456) : Frame w0 a0 (State.flushAck s slot) :=
  Frame.step _ _ _ _ _ h0 (State.flushAck_frame s slot) hw

theorem execSupFlushAck_frame (slot : BitVec 2) (s : State) : Completes 268435456 s (execSupFlushAck slot s) := by
  unfold execSupFlushAck
  try dsimp only
  repeat' first
    | with_reducible apply Completes.intro
    | with_reducible apply Frame.refl
    | with_reducible assumption
    | apply Eq.refl
    | with_reducible apply State.flushAck_step
    | with_reducible apply Frame.foldl
    | with_reducible apply Frame.foldl_fst
    | split
    | with_reducible apply Frame.ite
    | intro _
    | dsimp only
theorem execSupFlushAck_after (w0 : Nat) (a0 : State) (slot : BitVec 2) (s : State) (h0 : Frame w0 a0 s) (hw : 268435456 &&& w0 = 268435456) : Completes w0 a0 (execSupFlushAck slot s) :=
  Completes.step _ _ _ _ _ h0 (execSupFlushAck_frame slot s) hw

theorem State.sampleTemp_frame (s : State) (i : Nat) (t : BitVec 16) : Frame 8591508528 s (State.sampleTemp s i t) := by
  unfold State.sampleTemp
  try dsimp only
  repeat' first
    | with_reducible apply Frame.refl
    | with_reducible assumption
    | apply Eq.refl
    | with_reducible apply State.setRegN_step
    | with_reducible apply State.emit_step
    | with_reducible apply Frame.foldl
    | with_reducible apply Frame.foldl_fst
    | split
    | with_reducible apply Frame.ite
    | with_reducible apply Frame.set_pins
    | intro _
    | dsimp only
theorem State.sampleTemp_step (w0 : Nat) (a0 : State) (s : State) (i : Nat) (t : BitVec 16) (h0 : Frame w0 a0 s) (hw : 8591508528 &&& w0 = 8591508528) : Frame w0 a0 (State.sampleTemp s i t) :=
  Frame.step _ _ _ _ _ h0 (State.sampleTemp_frame s i t) hw

theorem execTemperatureSample_frame (slot : Fin 4) (t : BitVec 16) (s : State) : Completes 8591508528 s (execTemperatureSample slot t s) := by
  unfold execTemperatureSample
  try dsimp only
  repeat' first
    | with_reducible apply Completes.intro
    | with_reducible apply Frame.refl
    | with_reducible assumption
    | apply Eq.refl
    | with_reducible apply State.sampleTemp_step
    | with_reducible apply Frame.foldl
    | with_reducible apply Frame.foldl_fst
    | split
    | with_reducible apply Frame.ite
    | intro _
    | dsimp only
theorem execTemperatureSample_after (w0 : Nat) (a0 : State) (slot : Fin 4) (t : BitVec 16) (s : State) (h0 : Frame w0 a0 s) (hw : 8591508528 &&& w0 = 8591508528) : Completes w0 a0 (execTemperatureSample slot t s) :=
  Completes.step _ _ _ _ _ h0 (execTemperatureSample_frame slot t s) hw

theorem State.thermalTrip_frame (s : State) : Frame 12215530548 s (State.thermalTrip s) := by
  unfold State.thermalTrip
  try dsimp only
  repeat' first
    | with_reducible apply Frame.refl
    | with_reducible assumption
    | apply Eq.refl
    | with_reducible apply State.orderlyStop_step
    | with_reducible apply Frame.foldl
    | with_reducible apply Frame.foldl_fst
    | split
    | with_reducible apply Frame.ite
    | intro _
    | dsimp only
theorem State.thermalTrip_step (w0 : Nat) (a0 : State) (s : State) (h0 : Frame w0 a0 s) (hw : 12215530548 &&& w0 = 12215530548) : Frame w0 a0 (State.thermalTrip s) :=
  Frame.step _ _ _ _ _ h0 (State.thermalTrip_frame s) hw

theorem execThermalTrip_frame (s : State) : Completes 12215530548 s (execThermalTrip s) := by
  unfold execThermalTrip
  try dsimp only
  repeat' first
    | with_reducible apply Completes.intro
    | with_reducible apply Frame.refl
    | with_reducible assumption
    | apply Eq.refl
    | with_reducible apply State.thermalTrip_step
    | with_reducible apply Frame.foldl
    | with_reducible apply Frame.foldl_fst
    | split
    | with_reducible apply Frame.ite
    | intro _
    | dsimp only
theorem execThermalTrip_after (w0 : Nat) (a0 : State) (s : State) (h0 : Frame w0 a0 s) (hw : 12215530548 &&& w0 = 12215530548) : Completes w0 a0 (execThermalTrip s) :=
  Completes.step _ _ _ _ _ h0 (execThermalTrip_frame s) hw

end Sys2Proof.Machine
end

