-- ==== Sys2Proof/Laws/F_Fuses.lean ====
section
/-!
SUPPORT. Frames of the operations of Machine/Fuses.lean.
-/
namespace Sys2Proof.Machine

set_option linter.unusedTactic false
set_option linter.unreachableTactic false
set_option linter.unusedVariables false

theorem State.fuseCmd_frame (s : State) (v : Word) : Frame 4294967312 s (State.fuseCmd s v) := by
  unfold State.fuseCmd
  try dsimp only
  repeat' first
    | with_reducible apply Frame.refl
    | with_reducible assumption
    | apply Eq.refl
    | with_reducible apply State.setReg_step
    | with_reducible apply Frame.foldl
    | with_reducible apply Frame.foldl_fst
    | split
    | with_reducible apply Frame.ite
    | with_reducible apply Frame.set_fuse
    | intro _
    | dsimp only
theorem State.fuseCmd_step (w0 : Nat) (a0 : State) (s : State) (v : Word) (h0 : Frame w0 a0 s) (hw : 4294967312 &&& w0 = 4294967312) : Frame w0 a0 (State.fuseCmd s v) :=
  Frame.step _ _ _ _ _ h0 (State.fuseCmd_frame s v) hw

theorem execHubFuseCmd_frame (v : Word) (s : State) : Completes 4294967312 s (execHubFuseCmd v s) := by
  unfold execHubFuseCmd
  try dsimp only
  repeat' first
    | with_reducible apply Completes.intro
    | with_reducible apply Frame.refl
    | with_reducible assumption
    | apply Eq.refl
    | with_reducible apply State.fuseCmd_step
    | with_reducible apply Frame.foldl
    | with_reducible apply Frame.foldl_fst
    | split
    | with_reducible apply Frame.ite
    | intro _
    | dsimp only
theorem execHubFuseCmd_after (w0 : Nat) (a0 : State) (v : Word) (s : State) (h0 : Frame w0 a0 s) (hw : 4294967312 &&& w0 = 4294967312) : Completes w0 a0 (execHubFuseCmd v s) :=
  Completes.step _ _ _ _ _ h0 (execHubFuseCmd_frame v s) hw

theorem State.fuseDone_frame (s : State) (good : Bool) : Frame 4294967312 s (State.fuseDone s good) := by
  unfold State.fuseDone
  try dsimp only
  repeat' first
    | with_reducible apply Frame.refl
    | with_reducible assumption
    | apply Eq.refl
    | with_reducible apply State.setReg_step
    | with_reducible apply Frame.foldl
    | with_reducible apply Frame.foldl_fst
    | split
    | with_reducible apply Frame.ite
    | with_reducible apply Frame.set_fuse
    | intro _
    | dsimp only
theorem State.fuseDone_step (w0 : Nat) (a0 : State) (s : State) (good : Bool) (h0 : Frame w0 a0 s) (hw : 4294967312 &&& w0 = 4294967312) : Frame w0 a0 (State.fuseDone s good) :=
  Frame.step _ _ _ _ _ h0 (State.fuseDone_frame s good) hw

theorem execFuseOperationComplete_frame (good : Bool) (s : State) : Completes 4294967312 s (execFuseOperationComplete good s) := by
  unfold execFuseOperationComplete
  try dsimp only
  repeat' first
    | with_reducible apply Completes.intro
    | with_reducible apply Frame.refl
    | with_reducible assumption
    | apply Eq.refl
    | with_reducible apply State.fuseDone_step
    | with_reducible apply Frame.foldl
    | with_reducible apply Frame.foldl_fst
    | split
    | with_reducible apply Frame.ite
    | intro _
    | dsimp only
theorem execFuseOperationComplete_after (w0 : Nat) (a0 : State) (good : Bool) (s : State) (h0 : Frame w0 a0 s) (hw : 4294967312 &&& w0 = 4294967312) : Completes w0 a0 (execFuseOperationComplete good s) :=
  Completes.step _ _ _ _ _ h0 (execFuseOperationComplete_frame good s) hw

end Sys2Proof.Machine
end

