-- ==== Sys2Proof/Laws/F_Boot.lean ====
section
/-!
SUPPORT. Frames of the operations of Machine/Boot.lean.
-/
namespace Sys2Proof.Machine

set_option linter.unusedTactic false
set_option linter.unreachableTactic false
set_option linter.unusedVariables false

theorem State.deviceReset_frame (s : State) : Frame 34359735416 s (State.deviceReset s) := by
  unfold State.deviceReset
  extract_lets r src mem src1 sup src2 fuse src3 pins src4 boot src5 ptp s1 s2 s3
  have q : s.canonical = true → s3.canonical = true := by
    intro c
    have c1 := State.canonical_hostMem s c
    have c2 := State.canonical_spiNor s c
    simp only [State.canonical, Bool.and_eq_true] at c ⊢
    simp_all [s3, s2, s1, mem, sup, r, State.reset]
    exact ⟨⟨⟨⟨⟨⟨⟨⟨⟨⟨⟨⟨rfl, rfl⟩, rfl⟩, rfl⟩, rfl⟩, rfl⟩, rfl⟩, rfl⟩, rfl⟩, rfl⟩, rfl⟩, rfl⟩, rfl⟩
  refine State.send_step _ _ _ _ ?_ rfl
  constructor
  case canonical => exact q
  all_goals first
    | exact rfl
    | exact fun h => absurd h (by decide)
    | exact fun _ => rfl
theorem State.deviceReset_step (w0 : Nat) (a0 : State) (s : State) (h0 : Frame w0 a0 s) (hw : 34359735416 &&& w0 = 34359735416) : Frame w0 a0 (State.deviceReset s) :=
  Frame.step _ _ _ _ _ h0 (State.deviceReset_frame s) hw

theorem execDeviceReset_frame (_byPwrgood : Bool) (s : State) : Completes 34359735416 s (execDeviceReset _byPwrgood s) := by
  unfold execDeviceReset
  try dsimp only
  repeat' first
    | with_reducible apply Completes.intro
    | with_reducible apply Frame.refl
    | with_reducible assumption
    | apply Eq.refl
    | with_reducible apply State.deviceReset_step
    | with_reducible apply Frame.foldl
    | with_reducible apply Frame.foldl_fst
    | split
    | with_reducible apply Frame.ite
    | intro _
    | dsimp only
theorem execDeviceReset_after (w0 : Nat) (a0 : State) (_byPwrgood : Bool) (s : State) (h0 : Frame w0 a0 s) (hw : 34359735416 &&& w0 = 34359735416) : Completes w0 a0 (execDeviceReset _byPwrgood s) :=
  Completes.step _ _ _ _ _ h0 (execDeviceReset_frame _byPwrgood s) hw

theorem execFunctionLevelReset_frame (s : State) : Completes 34359735416 s (execFunctionLevelReset s) := by
  unfold execFunctionLevelReset
  try dsimp only
  repeat' first
    | with_reducible apply Completes.intro
    | with_reducible apply Frame.refl
    | with_reducible assumption
    | apply Eq.refl
    | with_reducible apply State.deviceReset_step
    | with_reducible apply Frame.foldl
    | with_reducible apply Frame.foldl_fst
    | split
    | with_reducible apply Frame.ite
    | intro _
    | dsimp only
theorem execFunctionLevelReset_after (w0 : Nat) (a0 : State) (s : State) (h0 : Frame w0 a0 s) (hw : 34359735416 &&& w0 = 34359735416) : Completes w0 a0 (execFunctionLevelReset s) :=
  Completes.step _ _ _ _ _ h0 (execFunctionLevelReset_frame s) hw

theorem execHubBootReset_frame (s : State) : Completes 34359735416 s (execHubBootReset s) := by
  unfold execHubBootReset
  try dsimp only
  repeat' first
    | with_reducible apply Completes.intro
    | with_reducible apply Frame.refl
    | with_reducible assumption
    | apply Eq.refl
    | with_reducible apply State.deviceReset_step
    | with_reducible apply Frame.foldl
    | with_reducible apply Frame.foldl_fst
    | split
    | with_reducible apply Frame.ite
    | intro _
    | dsimp only
theorem execHubBootReset_after (w0 : Nat) (a0 : State) (s : State) (h0 : Frame w0 a0 s) (hw : 34359735416 &&& w0 = 34359735416) : Completes w0 a0 (execHubBootReset s) :=
  Completes.step _ _ _ _ _ h0 (execHubBootReset_frame s) hw

theorem State.updBoot_frame (s : State) (f : BootState → BootState) : Frame 2147483648 s (State.updBoot s f) := by
  unfold State.updBoot
  try dsimp only
  repeat' first
    | with_reducible apply Frame.refl
    | with_reducible assumption
    | apply Eq.refl
    | with_reducible apply Frame.foldl
    | with_reducible apply Frame.foldl_fst
    | split
    | with_reducible apply Frame.ite
    | with_reducible apply Frame.set_boot
    | intro _
    | dsimp only
theorem State.updBoot_step (w0 : Nat) (a0 : State) (s : State) (f : BootState → BootState) (h0 : Frame w0 a0 s) (hw : 2147483648 &&& w0 = 2147483648) : Frame w0 a0 (State.updBoot s f) :=
  Frame.step _ _ _ _ _ h0 (State.updBoot_frame s f) hw

theorem execPerst_frame (s : State) : Completes 2147483664 s (execPerst s) := by
  unfold execPerst
  try dsimp only
  repeat' first
    | with_reducible apply Completes.intro
    | with_reducible apply Frame.refl
    | with_reducible assumption
    | apply Eq.refl
    | with_reducible apply State.setReg_step
    | with_reducible apply State.updBoot_step
    | with_reducible apply Frame.foldl
    | with_reducible apply Frame.foldl_fst
    | split
    | with_reducible apply Frame.ite
    | intro _
    | dsimp only
theorem execPerst_after (w0 : Nat) (a0 : State) (s : State) (h0 : Frame w0 a0 s) (hw : 2147483664 &&& w0 = 2147483664) : Completes w0 a0 (execPerst s) :=
  Completes.step _ _ _ _ _ h0 (execPerst_frame s) hw

theorem State.linkReturned_frame (s : State) (width : Nat) (speed : Nat) : Frame 2147483664 s (State.linkReturned s width speed) := by
  unfold State.linkReturned
  try dsimp only
  repeat' first
    | with_reducible apply Frame.refl
    | with_reducible assumption
    | apply Eq.refl
    | with_reducible apply State.setRegN_step
    | with_reducible apply State.updBoot_step
    | with_reducible apply Frame.foldl
    | with_reducible apply Frame.foldl_fst
    | split
    | with_reducible apply Frame.ite
    | intro _
    | dsimp only
theorem State.linkReturned_step (w0 : Nat) (a0 : State) (s : State) (width : Nat) (speed : Nat) (h0 : Frame w0 a0 s) (hw : 2147483664 &&& w0 = 2147483664) : Frame w0 a0 (State.linkReturned s width speed) :=
  Frame.step _ _ _ _ _ h0 (State.linkReturned_frame s width speed) hw

theorem execPcieLinkReturn_frame (width : BitVec 5) (speed : BitVec 3) (s : State) : Completes 2147483664 s (execPcieLinkReturn width speed s) := by
  unfold execPcieLinkReturn
  try dsimp only
  repeat' first
    | with_reducible apply Completes.intro
    | with_reducible apply Frame.refl
    | with_reducible assumption
    | apply Eq.refl
    | with_reducible apply State.linkReturned_step
    | with_reducible apply Frame.foldl
    | with_reducible apply Frame.foldl_fst
    | split
    | with_reducible apply Frame.ite
    | intro _
    | dsimp only
theorem execPcieLinkReturn_after (w0 : Nat) (a0 : State) (width : BitVec 5) (speed : BitVec 3) (s : State) (h0 : Frame w0 a0 s) (hw : 2147483664 &&& w0 = 2147483664) : Completes w0 a0 (execPcieLinkReturn width speed s) :=
  Completes.step _ _ _ _ _ h0 (execPcieLinkReturn_frame width speed s) hw

theorem State.setBootState_frame (s : State) (v : Nat) : Frame 16 s (State.setBootState s v) := by
  unfold State.setBootState
  try dsimp only
  repeat' first
    | with_reducible apply Frame.refl
    | with_reducible assumption
    | apply Eq.refl
    | with_reducible apply State.setReg_step
    | with_reducible apply Frame.foldl
    | with_reducible apply Frame.foldl_fst
    | split
    | with_reducible apply Frame.ite
    | intro _
    | dsimp only
theorem State.setBootState_step (w0 : Nat) (a0 : State) (s : State) (v : Nat) (h0 : Frame w0 a0 s) (hw : 16 &&& w0 = 16) : Frame w0 a0 (State.setBootState s v) :=
  Frame.step _ _ _ _ _ h0 (State.setBootState_frame s v) hw

theorem State.bootFail_frame (s : State) (code : Nat) (detail : Nat) : Frame 2147483664 s (State.bootFail s code detail) := by
  unfold State.bootFail
  try dsimp only
  repeat' first
    | with_reducible apply Frame.refl
    | with_reducible assumption
    | apply Eq.refl
    | with_reducible apply State.updBoot_step
    | with_reducible apply State.setReg_step
    | with_reducible apply Frame.foldl
    | with_reducible apply Frame.foldl_fst
    | split
    | with_reducible apply Frame.ite
    | intro _
    | dsimp only
theorem State.bootFail_step (w0 : Nat) (a0 : State) (s : State) (code : Nat) (detail : Nat) (h0 : Frame w0 a0 s) (hw : 2147483664 &&& w0 = 2147483664) : Frame w0 a0 (State.bootFail s code detail) :=
  Frame.step _ _ _ _ _ h0 (State.bootFail_frame s code detail) hw

theorem State.spiFail_frame (s : State) (code : Nat) : Frame 2147483696 s (State.spiFail s code) := by
  unfold State.spiFail
  try dsimp only
  repeat' first
    | with_reducible apply Frame.refl
    | with_reducible assumption
    | apply Eq.refl
    | with_reducible apply State.updBoot_step
    | with_reducible apply State.setBits_step
    | with_reducible apply State.bootFail_step
    | with_reducible apply Frame.foldl
    | with_reducible apply Frame.foldl_fst
    | split
    | with_reducible apply Frame.ite
    | intro _
    | dsimp only
theorem State.spiFail_step (w0 : Nat) (a0 : State) (s : State) (code : Nat) (h0 : Frame w0 a0 s) (hw : 2147483696 &&& w0 = 2147483696) : Frame w0 a0 (State.spiFail s code) :=
  Frame.step _ _ _ _ _ h0 (State.spiFail_frame s code) hw

theorem State.zeroFill_frame (s : State) : Frame 36077568 s (State.zeroFill s) := by
  unfold State.zeroFill
  extract_lets tiles ksk cams src gth src2 lodge src3 mem s1
  have e1 : Frame 36077568 s s1 := Frame.set_ksk 36077568 s { s with tiles := tiles } ksk
    (Frame.set_tiles 36077568 s s tiles (Frame.refl _ _) rfl (fun c => Tab.mapV_wf _ _ _ (State.canonical_tile s c))) rfl
    (fun c => Tab.mapV_wf _ _ _ (State.canonical_kiosk { s with tiles := tiles } c))
  have e2 : Frame 36077568 s { s1 with gth := gth } := Frame.set_gth' 36077568 s s1 gth e1 rfl
    (fun c => show Tab.wf (fun _ => CamState.init) cams = true from Tab.mapV_wf _ _ _ (State.canonical_cam s1 c))
  exact Frame.set_mem 36077568 s { s1 with gth := gth, lodge := lodge } mem (Frame.set_lodge 36077568 s { s1 with gth := gth } lodge e2 rfl rfl rfl) rfl rfl rfl
theorem State.zeroFill_step (w0 : Nat) (a0 : State) (s : State) (h0 : Frame w0 a0 s) (hw : 36077568 &&& w0 = 36077568) : Frame w0 a0 (State.zeroFill s) :=
  Frame.step _ _ _ _ _ h0 (State.zeroFill_frame s) hw

theorem State.release__frame (s : State) (src : BitVec 2) : Frame 6478528528 s (State.release_ s src) := by
  unfold State.release_
  try dsimp only
  repeat' first
    | with_reducible apply Frame.refl
    | with_reducible assumption
    | apply Eq.refl
    | with_reducible apply State.updBoot_step
    | with_reducible apply State.zeroFill_step
    | with_reducible apply State.bootFail_step
    | with_reducible apply State.setRegN_step
    | with_reducible apply Frame.foldl
    | with_reducible apply Frame.foldl_fst
    | split
    | with_reducible apply Frame.ite
    | with_reducible apply Frame.set_fuse
    | intro _
    | dsimp only
theorem State.release__step (w0 : Nat) (a0 : State) (s : State) (src : BitVec 2) (h0 : Frame w0 a0 s) (hw : 6478528528 &&& w0 = 6478528528) : Frame w0 a0 (State.release_ s src) :=
  Frame.step _ _ _ _ _ h0 (State.release__frame s src) hw

theorem execResetRelease_frame (bootSrc : BitVec 2) (s : State) : Completes 6478528528 s (execResetRelease bootSrc s) := by
  unfold execResetRelease
  try dsimp only
  repeat' first
    | with_reducible apply Completes.intro
    | with_reducible apply Frame.refl
    | with_reducible assumption
    | apply Eq.refl
    | with_reducible apply State.release__step
    | with_reducible apply Frame.foldl
    | with_reducible apply Frame.foldl_fst
    | split
    | with_reducible apply Frame.ite
    | intro _
    | dsimp only
theorem execResetRelease_after (w0 : Nat) (a0 : State) (bootSrc : BitVec 2) (s : State) (h0 : Frame w0 a0 s) (hw : 6478528528 &&& w0 = 6478528528) : Completes w0 a0 (execResetRelease bootSrc s) :=
  Completes.step _ _ _ _ _ h0 (execResetRelease_frame bootSrc s) hw

theorem State.bpbThresholds_frame (s : State) (h : Nat) : Frame 48 s (State.bpbThresholds s h) := by
  unfold State.bpbThresholds
  try dsimp only
  repeat' first
    | with_reducible apply Frame.refl
    | with_reducible assumption
    | apply Eq.refl
    | with_reducible apply State.setRegN_step
    | with_reducible apply State.setBits_step
    | with_reducible apply Frame.foldl
    | with_reducible apply Frame.foldl_fst
    | split
    | with_reducible apply Frame.ite
    | intro _
    | dsimp only
theorem State.bpbThresholds_step (w0 : Nat) (a0 : State) (s : State) (h : Nat) (h0 : Frame w0 a0 s) (hw : 48 &&& w0 = 48) : Frame w0 a0 (State.bpbThresholds s h) :=
  Frame.step _ _ _ _ _ h0 (State.bpbThresholds_frame s h) hw

theorem State.setPool_frame (s : State) : Frame 4194304 s (State.setPool s) := by
  unfold State.setPool
  try dsimp only
  repeat' first
    | with_reducible apply Frame.refl
    | with_reducible assumption
    | apply Eq.refl
    | with_reducible apply Frame.foldl
    | with_reducible apply Frame.foldl_fst
    | split
    | with_reducible apply Frame.ite
    | with_reducible apply Frame.set_alloc
    | intro _
    | dsimp only
theorem State.setPool_step (w0 : Nat) (a0 : State) (s : State) (h0 : Frame w0 a0 s) (hw : 4194304 &&& w0 = 4194304) : Frame w0 a0 (State.setPool s) :=
  Frame.step _ _ _ _ _ h0 (State.setPool_frame s) hw

theorem State.applyBpb_frame (s : State) (b : List Byte) : Frame 2151678000 s (State.applyBpb s b) := by
  unfold State.applyBpb
  try dsimp only
  repeat' first
    | with_reducible apply Frame.refl
    | with_reducible assumption
    | apply Eq.refl
    | with_reducible apply State.updBoot_step
    | with_reducible apply State.bpbThresholds_step
    | with_reducible apply State.setPool_step
    | with_reducible apply State.writeDrainUs_step
    | with_reducible apply Frame.foldl
    | with_reducible apply Frame.foldl_fst
    | split
    | with_reducible apply Frame.ite
    | intro _
    | dsimp only
theorem State.applyBpb_step (w0 : Nat) (a0 : State) (s : State) (b : List Byte) (h0 : Frame w0 a0 s) (hw : 2151678000 &&& w0 = 2151678000) : Frame w0 a0 (State.applyBpb s b) :=
  Frame.step _ _ _ _ _ h0 (State.applyBpb_frame s b) hw

theorem State.bpbRead_frame (s : State) (timeout : Bool) : Frame 2151678000 s (State.bpbRead s timeout) := by
  unfold State.bpbRead
  try dsimp only
  repeat' first
    | with_reducible apply Frame.refl
    | with_reducible assumption
    | apply Eq.refl
    | with_reducible apply State.applyBpb_step
    | with_reducible apply State.bootFail_step
    | with_reducible apply State.spiFail_step
    | with_reducible apply Frame.foldl
    | with_reducible apply Frame.foldl_fst
    | split
    | with_reducible apply Frame.ite
    | intro _
    | dsimp only
theorem State.bpbRead_step (w0 : Nat) (a0 : State) (s : State) (timeout : Bool) (h0 : Frame w0 a0 s) (hw : 2151678000 &&& w0 = 2151678000) : Frame w0 a0 (State.bpbRead s timeout) :=
  Frame.step _ _ _ _ _ h0 (State.bpbRead_frame s timeout) hw

theorem execBpbReadComplete_frame (timeout : Bool) (s : State) : Completes 2151678000 s (execBpbReadComplete timeout s) := by
  unfold execBpbReadComplete
  try dsimp only
  repeat' first
    | with_reducible apply Completes.intro
    | with_reducible apply Frame.refl
    | with_reducible assumption
    | apply Eq.refl
    | with_reducible apply State.bpbRead_step
    | with_reducible apply Frame.foldl
    | with_reducible apply Frame.foldl_fst
    | split
    | with_reducible apply Frame.ite
    | intro _
    | dsimp only
theorem execBpbReadComplete_after (w0 : Nat) (a0 : State) (timeout : Bool) (s : State) (h0 : Frame w0 a0 s) (hw : 2151678000 &&& w0 = 2151678000) : Completes w0 a0 (execBpbReadComplete timeout s) :=
  Completes.step _ _ _ _ _ h0 (execBpbReadComplete_frame timeout s) hw

theorem State.trained_frame (s : State) (failed : BitVec 8) : Frame 2147483664 s (State.trained s failed) := by
  unfold State.trained
  try dsimp only
  repeat' first
    | with_reducible apply Frame.refl
    | with_reducible assumption
    | apply Eq.refl
    | with_reducible apply State.bootFail_step
    | with_reducible apply State.updBoot_step
    | with_reducible apply Frame.foldl
    | with_reducible apply Frame.foldl_fst
    | split
    | with_reducible apply Frame.ite
    | intro _
    | dsimp only
theorem State.trained_step (w0 : Nat) (a0 : State) (s : State) (failed : BitVec 8) (h0 : Frame w0 a0 s) (hw : 2147483664 &&& w0 = 2147483664) : Frame w0 a0 (State.trained s failed) :=
  Frame.step _ _ _ _ _ h0 (State.trained_frame s failed) hw

theorem execHbmTrainingComplete_frame (failed : BitVec 8) (s : State) : Completes 2147483664 s (execHbmTrainingComplete failed s) := by
  unfold execHbmTrainingComplete
  try dsimp only
  repeat' first
    | with_reducible apply Completes.intro
    | with_reducible apply Frame.refl
    | with_reducible assumption
    | apply Eq.refl
    | with_reducible apply State.trained_step
    | with_reducible apply Frame.foldl
    | with_reducible apply Frame.foldl_fst
    | split
    | with_reducible apply Frame.ite
    | intro _
    | dsimp only
theorem execHbmTrainingComplete_after (w0 : Nat) (a0 : State) (failed : BitVec 8) (s : State) (h0 : Frame w0 a0 s) (hw : 2147483664 &&& w0 = 2147483664) : Completes w0 a0 (execHbmTrainingComplete failed s) :=
  Completes.step _ _ _ _ _ h0 (execHbmTrainingComplete_frame failed s) hw

theorem State.bootChunk_frame (s : State) (len : Nat) : Frame 2147483696 s (State.bootChunk s len) := by
  unfold State.bootChunk
  try dsimp only
  repeat' first
    | with_reducible apply Frame.refl
    | with_reducible assumption
    | apply Eq.refl
    | with_reducible apply State.setBits_step
    | with_reducible apply State.updBoot_step
    | with_reducible apply Frame.foldl
    | with_reducible apply Frame.foldl_fst
    | split
    | with_reducible apply Frame.ite
    | intro _
    | dsimp only
theorem State.bootChunk_step (w0 : Nat) (a0 : State) (s : State) (len : Nat) (h0 : Frame w0 a0 s) (hw : 2147483696 &&& w0 = 2147483696) : Frame w0 a0 (State.bootChunk s len) :=
  Frame.step _ _ _ _ _ h0 (State.bootChunk_frame s len) hw

theorem execHubBootChunk_frame (len : BitVec 12) (s : State) : Completes 2147483696 s (execHubBootChunk len s) := by
  unfold execHubBootChunk
  try dsimp only
  repeat' first
    | with_reducible apply Completes.intro
    | with_reducible apply Frame.refl
    | with_reducible assumption
    | apply Eq.refl
    | with_reducible apply State.bootChunk_step
    | with_reducible apply Frame.foldl
    | with_reducible apply Frame.foldl_fst
    | split
    | with_reducible apply Frame.ite
    | intro _
    | dsimp only
theorem execHubBootChunk_after (w0 : Nat) (a0 : State) (len : BitVec 12) (s : State) (h0 : Frame w0 a0 s) (hw : 2147483696 &&& w0 = 2147483696) : Completes w0 a0 (execHubBootChunk len s) :=
  Completes.step _ _ _ _ _ h0 (execHubBootChunk_frame len s) hw

theorem State.firmwareVerified_frame (s : State) : Frame 2147483696 s (State.firmwareVerified s) := by
  unfold State.firmwareVerified
  try dsimp only
  repeat' first
    | with_reducible apply Frame.refl
    | with_reducible assumption
    | apply Eq.refl
    | with_reducible apply State.updBoot_step
    | with_reducible apply State.bootFail_step
    | with_reducible apply State.spiFail_step
    | with_reducible apply Frame.foldl
    | with_reducible apply Frame.foldl_fst
    | split
    | with_reducible apply Frame.ite
    | intro _
    | dsimp only
theorem State.firmwareVerified_step (w0 : Nat) (a0 : State) (s : State) (h0 : Frame w0 a0 s) (hw : 2147483696 &&& w0 = 2147483696) : Frame w0 a0 (State.firmwareVerified s) :=
  Frame.step _ _ _ _ _ h0 (State.firmwareVerified_frame s) hw

theorem execFirmwareVerifyComplete_frame (s : State) : Completes 2147483696 s (execFirmwareVerifyComplete s) := by
  unfold execFirmwareVerifyComplete
  try dsimp only
  repeat' first
    | with_reducible apply Completes.intro
    | with_reducible apply Frame.refl
    | with_reducible assumption
    | apply Eq.refl
    | with_reducible apply State.firmwareVerified_step
    | with_reducible apply Frame.foldl
    | with_reducible apply Frame.foldl_fst
    | split
    | with_reducible apply Frame.ite
    | intro _
    | dsimp only
theorem execFirmwareVerifyComplete_after (w0 : Nat) (a0 : State) (s : State) (h0 : Frame w0 a0 s) (hw : 2147483696 &&& w0 = 2147483696) : Completes w0 a0 (execFirmwareVerifyComplete s) :=
  Completes.step _ _ _ _ _ h0 (execFirmwareVerifyComplete_frame s) hw

theorem State.eraseSlot_frame (s : State) (k : Nat) : Frame 270532608 s (State.eraseSlot s k) := by
  unfold State.eraseSlot
  try dsimp only
  repeat' first
    | with_reducible apply Frame.refl
    | with_reducible assumption
    | apply Eq.refl
    | with_reducible exact fun c => ⟨writeBytes_wf _ _ _ (State.canonical_hbm _ c), id (State.canonical_spiNor _ c)⟩
    | with_reducible exact fun c => ⟨writeBytes_wf _ _ _ (State.canonical_hbm _ c), writeBytes_wf _ _ _ (State.canonical_spiNor _ c)⟩
    | with_reducible exact fun c => ⟨writeBytes_wf _ _ _ (State.canonical_hbm _ c), zeroBytes_wf _ _ _ (State.canonical_spiNor _ c)⟩
    | with_reducible exact fun c => ⟨zeroBytes_wf _ _ _ (State.canonical_hbm _ c), id (State.canonical_spiNor _ c)⟩
    | with_reducible exact fun c => ⟨zeroBytes_wf _ _ _ (State.canonical_hbm _ c), writeBytes_wf _ _ _ (State.canonical_spiNor _ c)⟩
    | with_reducible exact fun c => ⟨zeroBytes_wf _ _ _ (State.canonical_hbm _ c), zeroBytes_wf _ _ _ (State.canonical_spiNor _ c)⟩
    | with_reducible exact fun c => ⟨id (State.canonical_hbm _ c), id (State.canonical_spiNor _ c)⟩
    | with_reducible exact fun c => ⟨id (State.canonical_hbm _ c), writeBytes_wf _ _ _ (State.canonical_spiNor _ c)⟩
    | with_reducible exact fun c => ⟨id (State.canonical_hbm _ c), zeroBytes_wf _ _ _ (State.canonical_spiNor _ c)⟩
    | (with_reducible refine State.updSup_frame _ _ _ _ ?_ ?_ ?_; rotate_left; apply Eq.refl; intro c; apply State.canonical_sent _ c)
    | with_reducible apply Frame.foldl
    | with_reducible apply Frame.foldl_fst
    | split
    | with_reducible apply Frame.ite
    | (with_reducible apply Frame.set_mem; rotate_left; apply Eq.refl; apply Eq.refl; apply Eq.refl)
    | with_reducible apply Frame.set_mem'
    | intro _
    | dsimp only
theorem State.eraseSlot_step (w0 : Nat) (a0 : State) (s : State) (k : Nat) (h0 : Frame w0 a0 s) (hw : 270532608 &&& w0 = 270532608) : Frame w0 a0 (State.eraseSlot s k) :=
  Frame.step _ _ _ _ _ h0 (State.eraseSlot_frame s k) hw

theorem State.sweepFlushes_frame (s : State) : Frame 270532656 s (State.sweepFlushes s) := by
  unfold State.sweepFlushes
  try dsimp only
  repeat' first
    | with_reducible apply Frame.refl
    | with_reducible assumption
    | apply Eq.refl
    | with_reducible apply State.setRegN_step
    | with_reducible apply State.eraseSlot_step
    | with_reducible apply State.setSupBits_step
    | with_reducible apply Frame.foldl
    | with_reducible apply Frame.foldl_fst
    | split
    | with_reducible apply Frame.ite
    | intro _
    | dsimp only
theorem State.sweepFlushes_step (w0 : Nat) (a0 : State) (s : State) (h0 : Frame w0 a0 s) (hw : 270532656 &&& w0 = 270532656) : Frame w0 a0 (State.sweepFlushes s) :=
  Frame.step _ _ _ _ _ h0 (State.sweepFlushes_frame s) hw

theorem State.firmwareStart_frame (s : State) : Frame 2451570740 s (State.firmwareStart s) := by
  unfold State.firmwareStart
  try dsimp only
  repeat' first
    | with_reducible apply Frame.refl
    | with_reducible assumption
    | apply Eq.refl
    | with_reducible apply State.hbmWrite_step
    | with_reducible apply State.setBits_step
    | with_reducible apply State.writeHdgCfg_step
    | with_reducible apply State.setCore_step
    | with_reducible apply State.useFree_step
    | with_reducible apply State.sweepFlushes_step
    | with_reducible apply State.updBoot_step
    | with_reducible apply Frame.foldl
    | with_reducible apply Frame.foldl_fst
    | split
    | with_reducible apply Frame.ite
    | intro _
    | dsimp only
theorem State.firmwareStart_step (w0 : Nat) (a0 : State) (s : State) (h0 : Frame w0 a0 s) (hw : 2451570740 &&& w0 = 2451570740) : Frame w0 a0 (State.firmwareStart s) :=
  Frame.step _ _ _ _ _ h0 (State.firmwareStart_frame s) hw

theorem execFirmwareStart_frame (s : State) : Completes 2451570740 s (execFirmwareStart s) := by
  unfold execFirmwareStart
  try dsimp only
  repeat' first
    | with_reducible apply Completes.intro
    | with_reducible apply Frame.refl
    | with_reducible assumption
    | apply Eq.refl
    | with_reducible apply State.firmwareStart_step
    | with_reducible apply Frame.foldl
    | with_reducible apply Frame.foldl_fst
    | split
    | with_reducible apply Frame.ite
    | intro _
    | dsimp only
theorem execFirmwareStart_after (w0 : Nat) (a0 : State) (s : State) (h0 : Frame w0 a0 s) (hw : 2451570740 &&& w0 = 2451570740) : Completes w0 a0 (execFirmwareStart s) :=
  Completes.step _ _ _ _ _ h0 (execFirmwareStart_frame s) hw

theorem execCapabilityPublish_frame (s : State) : Completes 2147483648 s (execCapabilityPublish s) := by
  unfold execCapabilityPublish
  try dsimp only
  repeat' first
    | with_reducible apply Completes.intro
    | with_reducible apply Frame.refl
    | with_reducible assumption
    | apply Eq.refl
    | with_reducible apply State.updBoot_step
    | with_reducible apply Frame.foldl
    | with_reducible apply Frame.foldl_fst
    | split
    | with_reducible apply Frame.ite
    | intro _
    | dsimp only
theorem execCapabilityPublish_after (w0 : Nat) (a0 : State) (s : State) (h0 : Frame w0 a0 s) (hw : 2147483648 &&& w0 = 2147483648) : Completes w0 a0 (execCapabilityPublish s) :=
  Completes.step _ _ _ _ _ h0 (execCapabilityPublish_frame s) hw

theorem State.bootReady_frame (s : State) : Frame 2149580816 s (State.bootReady s) := by
  unfold State.bootReady
  try dsimp only
  repeat' first
    | with_reducible apply Frame.refl
    | with_reducible assumption
    | apply Eq.refl
    | with_reducible exact fun c => ⟨writeBytes_wf _ _ _ (State.canonical_hbm _ c), id (State.canonical_spiNor _ c)⟩
    | with_reducible exact fun c => ⟨writeBytes_wf _ _ _ (State.canonical_hbm _ c), writeBytes_wf _ _ _ (State.canonical_spiNor _ c)⟩
    | with_reducible exact fun c => ⟨writeBytes_wf _ _ _ (State.canonical_hbm _ c), zeroBytes_wf _ _ _ (State.canonical_spiNor _ c)⟩
    | with_reducible exact fun c => ⟨zeroBytes_wf _ _ _ (State.canonical_hbm _ c), id (State.canonical_spiNor _ c)⟩
    | with_reducible exact fun c => ⟨zeroBytes_wf _ _ _ (State.canonical_hbm _ c), writeBytes_wf _ _ _ (State.canonical_spiNor _ c)⟩
    | with_reducible exact fun c => ⟨zeroBytes_wf _ _ _ (State.canonical_hbm _ c), zeroBytes_wf _ _ _ (State.canonical_spiNor _ c)⟩
    | with_reducible exact fun c => ⟨id (State.canonical_hbm _ c), id (State.canonical_spiNor _ c)⟩
    | with_reducible exact fun c => ⟨id (State.canonical_hbm _ c), writeBytes_wf _ _ _ (State.canonical_spiNor _ c)⟩
    | with_reducible exact fun c => ⟨id (State.canonical_hbm _ c), zeroBytes_wf _ _ _ (State.canonical_spiNor _ c)⟩
    | with_reducible apply State.setBootState_step
    | with_reducible apply State.updBoot_step
    | with_reducible apply Frame.foldl
    | with_reducible apply Frame.foldl_fst
    | split
    | with_reducible apply Frame.ite
    | (with_reducible apply Frame.set_mem; rotate_left; apply Eq.refl; apply Eq.refl; apply Eq.refl)
    | with_reducible apply Frame.set_mem'
    | intro _
    | dsimp only
theorem State.bootReady_step (w0 : Nat) (a0 : State) (s : State) (h0 : Frame w0 a0 s) (hw : 2149580816 &&& w0 = 2149580816) : Frame w0 a0 (State.bootReady s) :=
  Frame.step _ _ _ _ _ h0 (State.bootReady_frame s) hw

theorem execBootReady_frame (s : State) : Completes 2149580816 s (execBootReady s) := by
  unfold execBootReady
  try dsimp only
  repeat' first
    | with_reducible apply Completes.intro
    | with_reducible apply Frame.refl
    | with_reducible assumption
    | apply Eq.refl
    | with_reducible apply State.bootReady_step
    | with_reducible apply Frame.foldl
    | with_reducible apply Frame.foldl_fst
    | split
    | with_reducible apply Frame.ite
    | intro _
    | dsimp only
theorem execBootReady_after (w0 : Nat) (a0 : State) (s : State) (h0 : Frame w0 a0 s) (hw : 2149580816 &&& w0 = 2149580816) : Completes w0 a0 (execBootReady s) :=
  Completes.step _ _ _ _ _ h0 (execBootReady_frame s) hw

end Sys2Proof.Machine
end

