-- ==== Sys2Proof/Laws/F_Pins.lean ====
section
/-!
SUPPORT. Frames of the operations of Machine/Pins.lean.
-/
namespace Sys2Proof.Machine

set_option linter.unusedTactic false
set_option linter.unreachableTactic false
set_option linter.unusedVariables false

theorem State.updPins_frame (s : State) (f : PinState → PinState) : Frame 8589934592 s (State.updPins s f) := by
  unfold State.updPins
  try dsimp only
  repeat' first
    | with_reducible apply Frame.refl
    | with_reducible assumption
    | apply Eq.refl
    | with_reducible apply Frame.foldl
    | with_reducible apply Frame.foldl_fst
    | split
    | with_reducible apply Frame.ite
    | with_reducible apply Frame.set_pins
    | intro _
    | dsimp only
theorem State.updPins_step (w0 : Nat) (a0 : State) (s : State) (f : PinState → PinState) (h0 : Frame w0 a0 s) (hw : 8589934592 &&& w0 = 8589934592) : Frame w0 a0 (State.updPins s f) :=
  Frame.step _ _ _ _ _ h0 (State.updPins_frame s f) hw

theorem State.writePin_frame (s : State) (k : Nat) (v : Word) : Frame 8589934608 s (State.writePin s k v) := by
  unfold State.writePin
  try dsimp only
  repeat' first
    | with_reducible apply Frame.refl
    | with_reducible assumption
    | apply Eq.refl
    | with_reducible apply State.updPins_step
    | with_reducible apply State.setReg_step
    | with_reducible apply Frame.foldl
    | with_reducible apply Frame.foldl_fst
    | split
    | with_reducible apply Frame.ite
    | intro _
    | dsimp only
theorem State.writePin_step (w0 : Nat) (a0 : State) (s : State) (k : Nat) (v : Word) (h0 : Frame w0 a0 s) (hw : 8589934608 &&& w0 = 8589934608) : Frame w0 a0 (State.writePin s k v) :=
  Frame.step _ _ _ _ _ h0 (State.writePin_frame s k v) hw

theorem execPinFuncWrite_frame (k : Pin) (v : Word) (s : State) : Completes 8589934608 s (execPinFuncWrite k v s) := by
  unfold execPinFuncWrite
  try dsimp only
  repeat' first
    | with_reducible apply Completes.intro
    | with_reducible apply Frame.refl
    | with_reducible assumption
    | apply Eq.refl
    | with_reducible apply State.writePin_step
    | with_reducible apply Frame.foldl
    | with_reducible apply Frame.foldl_fst
    | split
    | with_reducible apply Frame.ite
    | intro _
    | dsimp only
theorem execPinFuncWrite_after (w0 : Nat) (a0 : State) (k : Pin) (v : Word) (s : State) (h0 : Frame w0 a0 s) (hw : 8589934608 &&& w0 = 8589934608) : Completes w0 a0 (execPinFuncWrite k v s) :=
  Completes.step _ _ _ _ _ h0 (execPinFuncWrite_frame k v s) hw

theorem State.pinSwitchEnd_frame (s : State) (k : Nat) : Frame 8589934592 s (State.pinSwitchEnd s k) := by
  unfold State.pinSwitchEnd
  try dsimp only
  repeat' first
    | with_reducible apply Frame.refl
    | with_reducible assumption
    | apply Eq.refl
    | with_reducible apply State.updPins_step
    | with_reducible apply Frame.foldl
    | with_reducible apply Frame.foldl_fst
    | split
    | with_reducible apply Frame.ite
    | intro _
    | dsimp only
theorem State.pinSwitchEnd_step (w0 : Nat) (a0 : State) (s : State) (k : Nat) (h0 : Frame w0 a0 s) (hw : 8589934592 &&& w0 = 8589934592) : Frame w0 a0 (State.pinSwitchEnd s k) :=
  Frame.step _ _ _ _ _ h0 (State.pinSwitchEnd_frame s k) hw

theorem execPinSwitchEnd_frame (k : Pin) (s : State) : Completes 8589934592 s (execPinSwitchEnd k s) := by
  unfold execPinSwitchEnd
  try dsimp only
  repeat' first
    | with_reducible apply Completes.intro
    | with_reducible apply Frame.refl
    | with_reducible assumption
    | apply Eq.refl
    | with_reducible apply State.pinSwitchEnd_step
    | with_reducible apply Frame.foldl
    | with_reducible apply Frame.foldl_fst
    | split
    | with_reducible apply Frame.ite
    | intro _
    | dsimp only
theorem execPinSwitchEnd_after (w0 : Nat) (a0 : State) (k : Pin) (s : State) (h0 : Frame w0 a0 s) (hw : 8589934592 &&& w0 = 8589934592) : Completes w0 a0 (execPinSwitchEnd k s) :=
  Completes.step _ _ _ _ _ h0 (execPinSwitchEnd_frame k s) hw

theorem State.ppsEdge_frame (s : State) : Frame 8589935616 s (State.ppsEdge s) := by
  unfold State.ppsEdge
  try dsimp only
  repeat' first
    | with_reducible apply Frame.refl
    | with_reducible assumption
    | apply Eq.refl
    | with_reducible apply State.updPins_step
    | with_reducible apply State.send_step
    | with_reducible apply Frame.foldl
    | with_reducible apply Frame.foldl_fst
    | split
    | with_reducible apply Frame.ite
    | intro _
    | dsimp only
theorem State.ppsEdge_step (w0 : Nat) (a0 : State) (s : State) (h0 : Frame w0 a0 s) (hw : 8589935616 &&& w0 = 8589935616) : Frame w0 a0 (State.ppsEdge s) :=
  Frame.step _ _ _ _ _ h0 (State.ppsEdge_frame s) hw

theorem execPpsOut_frame (s : State) : Completes 8589935616 s (execPpsOut s) := by
  unfold execPpsOut
  try dsimp only
  repeat' first
    | with_reducible apply Completes.intro
    | with_reducible apply Frame.refl
    | with_reducible assumption
    | apply Eq.refl
    | with_reducible apply State.ppsEdge_step
    | with_reducible apply Frame.foldl
    | with_reducible apply Frame.foldl_fst
    | split
    | with_reducible apply Frame.ite
    | intro _
    | dsimp only
theorem execPpsOut_after (w0 : Nat) (a0 : State) (s : State) (h0 : Frame w0 a0 s) (hw : 8589935616 &&& w0 = 8589935616) : Completes w0 a0 (execPpsOut s) :=
  Completes.step _ _ _ _ _ h0 (execPpsOut_frame s) hw

theorem execTestLogicReset_frame (s : State) : Completes 10737418240 s (execTestLogicReset s) := by
  unfold execTestLogicReset
  try dsimp only
  repeat' first
    | with_reducible apply Completes.intro
    | with_reducible apply Frame.refl
    | with_reducible assumption
    | apply Eq.refl
    | with_reducible apply State.updBoot_step
    | with_reducible apply State.updPins_step
    | with_reducible apply Frame.foldl
    | with_reducible apply Frame.foldl_fst
    | split
    | with_reducible apply Frame.ite
    | intro _
    | dsimp only
theorem execTestLogicReset_after (w0 : Nat) (a0 : State) (s : State) (h0 : Frame w0 a0 s) (hw : 10737418240 &&& w0 = 10737418240) : Completes w0 a0 (execTestLogicReset s) :=
  Completes.step _ _ _ _ _ h0 (execTestLogicReset_frame s) hw

theorem State.tapHolds_frame (s : State) (i : Nat) : Frame 34359735416 s (State.tapHolds s i) := by
  unfold State.tapHolds
  try dsimp only
  repeat' first
    | with_reducible apply Frame.refl
    | with_reducible assumption
    | apply Eq.refl
    | with_reducible apply State.deviceReset_step
    | with_reducible apply State.updBoot_step
    | with_reducible apply State.updPins_step
    | with_reducible apply Frame.foldl
    | with_reducible apply Frame.foldl_fst
    | split
    | with_reducible apply Frame.ite
    | intro _
    | dsimp only
theorem State.tapHolds_step (w0 : Nat) (a0 : State) (s : State) (i : Nat) (h0 : Frame w0 a0 s) (hw : 34359735416 &&& w0 = 34359735416) : Frame w0 a0 (State.tapHolds s i) :=
  Frame.step _ _ _ _ _ h0 (State.tapHolds_frame s i) hw

theorem execExtest_frame (s : State) : Completes 34359735416 s (execExtest s) := by
  unfold execExtest
  try dsimp only
  repeat' first
    | with_reducible apply Completes.intro
    | with_reducible apply Frame.refl
    | with_reducible assumption
    | apply Eq.refl
    | with_reducible apply State.tapHolds_step
    | with_reducible apply Frame.foldl
    | with_reducible apply Frame.foldl_fst
    | split
    | with_reducible apply Frame.ite
    | intro _
    | dsimp only
theorem execExtest_after (w0 : Nat) (a0 : State) (s : State) (h0 : Frame w0 a0 s) (hw : 34359735416 &&& w0 = 34359735416) : Completes w0 a0 (execExtest s) :=
  Completes.step _ _ _ _ _ h0 (execExtest_frame s) hw

theorem execClamp_frame (s : State) : Completes 34359735416 s (execClamp s) := by
  unfold execClamp
  try dsimp only
  repeat' first
    | with_reducible apply Completes.intro
    | with_reducible apply Frame.refl
    | with_reducible assumption
    | apply Eq.refl
    | with_reducible apply State.tapHolds_step
    | with_reducible apply Frame.foldl
    | with_reducible apply Frame.foldl_fst
    | split
    | with_reducible apply Frame.ite
    | intro _
    | dsimp only
theorem execClamp_after (w0 : Nat) (a0 : State) (s : State) (h0 : Frame w0 a0 s) (hw : 34359735416 &&& w0 = 34359735416) : Completes w0 a0 (execClamp s) :=
  Completes.step _ _ _ _ _ h0 (execClamp_frame s) hw

theorem execIdcode_frame (s : State) : Completes 8589934592 s (execIdcode s) := by
  unfold execIdcode
  try dsimp only
  repeat' first
    | with_reducible apply Completes.intro
    | with_reducible apply Frame.refl
    | with_reducible assumption
    | apply Eq.refl
    | with_reducible apply State.updPins_step
    | with_reducible apply Frame.foldl
    | with_reducible apply Frame.foldl_fst
    | split
    | with_reducible apply Frame.ite
    | intro _
    | dsimp only
theorem execIdcode_after (w0 : Nat) (a0 : State) (s : State) (h0 : Frame w0 a0 s) (hw : 8589934592 &&& w0 = 8589934592) : Completes w0 a0 (execIdcode s) :=
  Completes.step _ _ _ _ _ h0 (execIdcode_frame s) hw

theorem execBypass_frame (s : State) : Completes 8589934592 s (execBypass s) := by
  unfold execBypass
  try dsimp only
  repeat' first
    | with_reducible apply Completes.intro
    | with_reducible apply Frame.refl
    | with_reducible assumption
    | apply Eq.refl
    | with_reducible apply State.updPins_step
    | with_reducible apply Frame.foldl
    | with_reducible apply Frame.foldl_fst
    | split
    | with_reducible apply Frame.ite
    | intro _
    | dsimp only
theorem execBypass_after (w0 : Nat) (a0 : State) (s : State) (h0 : Frame w0 a0 s) (hw : 8589934592 &&& w0 = 8589934592) : Completes w0 a0 (execBypass s) :=
  Completes.step _ _ _ _ _ h0 (execBypass_frame s) hw

theorem execSamplePreload_frame (preload : Option (BitVec 64)) (s : State) : Completes 8589934596 s (execSamplePreload preload s) := by
  unfold execSamplePreload
  try dsimp only
  repeat' first
    | with_reducible apply Completes.intro
    | with_reducible apply Frame.refl
    | with_reducible assumption
    | apply Eq.refl
    | with_reducible apply State.updPins_step
    | with_reducible apply State.useFree_step
    | with_reducible apply Frame.foldl
    | with_reducible apply Frame.foldl_fst
    | split
    | with_reducible apply Frame.ite
    | intro _
    | dsimp only
theorem execSamplePreload_after (w0 : Nat) (a0 : State) (preload : Option (BitVec 64)) (s : State) (h0 : Frame w0 a0 s) (hw : 8589934596 &&& w0 = 8589934596) : Completes w0 a0 (execSamplePreload preload s) :=
  Completes.step _ _ _ _ _ h0 (execSamplePreload_frame preload s) hw

theorem execPtpServoUpdate_frame (locked : Bool) (offsetNs : ℤ) (s : State) : Completes 1573944 s (execPtpServoUpdate locked offsetNs s) := by
  unfold execPtpServoUpdate
  try dsimp only
  repeat' first
    | with_reducible apply Completes.intro
    | with_reducible apply Frame.refl
    | with_reducible assumption
    | apply Eq.refl
    | with_reducible apply State.offsetEpisode_step
    | with_reducible apply Frame.foldl
    | with_reducible apply Frame.foldl_fst
    | split
    | with_reducible apply Frame.ite
    | with_reducible apply Frame.set_ptp
    | intro _
    | dsimp only
theorem execPtpServoUpdate_after (w0 : Nat) (a0 : State) (locked : Bool) (offsetNs : ℤ) (s : State) (h0 : Frame w0 a0 s) (hw : 1573944 &&& w0 = 1573944) : Completes w0 a0 (execPtpServoUpdate locked offsetNs s) :=
  Completes.step _ _ _ _ _ h0 (execPtpServoUpdate_frame locked offsetNs s) hw

theorem execEncoderLos_frame (n : Enc) (lost : Bool) (s : State) : Completes 48 s (execEncoderLos n lost s) := by
  unfold execEncoderLos
  try dsimp only
  repeat' first
    | with_reducible apply Completes.intro
    | with_reducible apply Frame.refl
    | with_reducible assumption
    | apply Eq.refl
    | with_reducible apply State.setBits_step
    | with_reducible apply State.clrBits_step
    | with_reducible apply Frame.foldl
    | with_reducible apply Frame.foldl_fst
    | split
    | with_reducible apply Frame.ite
    | intro _
    | dsimp only
theorem execEncoderLos_after (w0 : Nat) (a0 : State) (n : Enc) (lost : Bool) (s : State) (h0 : Frame w0 a0 s) (hw : 48 &&& w0 = 48) : Completes w0 a0 (execEncoderLos n lost s) :=
  Completes.step _ _ _ _ _ h0 (execEncoderLos_frame n lost s) hw

end Sys2Proof.Machine
end

