-- ==== Sys2Proof/Laws/F_LodgeRegs.lean ====
section
/-!
SUPPORT. Frames of the operations of Machine/LodgeRegs.lean.
-/
namespace Sys2Proof.Machine

set_option linter.unusedTactic false
set_option linter.unreachableTactic false
set_option linter.unusedVariables false

theorem State.writeCorePwr_frame (s : State) (h : Nat) (v : Nat) : Frame 545259568 s (State.writeCorePwr s h v) := by
  unfold State.writeCorePwr
  try dsimp only
  repeat' first
    | with_reducible apply Frame.refl
    | with_reducible assumption
    | apply Eq.refl
    | with_reducible apply State.setDomain_step
    | with_reducible apply Frame.foldl
    | with_reducible apply Frame.foldl_fst
    | split
    | with_reducible apply Frame.ite
    | intro _
    | dsimp only
theorem State.writeCorePwr_step (w0 : Nat) (a0 : State) (s : State) (h : Nat) (v : Nat) (h0 : Frame w0 a0 s) (hw : 545259568 &&& w0 = 545259568) : Frame w0 a0 (State.writeCorePwr s h v) :=
  Frame.step _ _ _ _ _ h0 (State.writeCorePwr_frame s h v) hw

theorem State.flushWay_frame (s : State) (h : Nat) (k : Nat) : Frame 35684356 s (State.flushWay s h k) := by
  unfold State.flushWay
  try dsimp only
  repeat' first
    | with_reducible apply Frame.refl
    | with_reducible assumption
    | apply Eq.refl
    | with_reducible apply State.l2Flush_step
    | with_reducible apply State.useFree_step
    | with_reducible apply Frame.foldl
    | with_reducible apply Frame.foldl_fst
    | split
    | with_reducible apply Frame.ite
    | intro _
    | dsimp only
theorem State.flushWay_step (w0 : Nat) (a0 : State) (s : State) (h : Nat) (k : Nat) (h0 : Frame w0 a0 s) (hw : 35684356 &&& w0 = 35684356) : Frame w0 a0 (State.flushWay s h k) :=
  Frame.step _ _ _ _ _ h0 (State.flushWay_frame s h k) hw

theorem State.zeroWay_frame (s : State) (h : Nat) (k : Nat) : Frame 35651584 s (State.zeroWay s h k) := by
  unfold State.zeroWay
  try dsimp only
  repeat' first
    | with_reducible apply Frame.refl
    | with_reducible assumption
    | apply Eq.refl
    | with_reducible exact fun c => ⟨id (State.canonical_core _ c), id (State.canonical_task _ c)⟩
    | with_reducible exact fun c => ⟨id (State.canonical_core _ c), Tab.put_wf _ _ _ _ (State.canonical_task _ c)⟩
    | with_reducible exact fun c => ⟨Tab.put_wf _ _ _ _ (State.canonical_core _ c), id (State.canonical_task _ c)⟩
    | with_reducible exact fun c => ⟨Tab.put_wf _ _ _ _ (State.canonical_core _ c), Tab.put_wf _ _ _ _ (State.canonical_task _ c)⟩
    | with_reducible exact fun c => ⟨Tab.mapV_wf _ _ _ (State.canonical_core _ c), id (State.canonical_task _ c)⟩
    | with_reducible exact fun c => ⟨Tab.mapV_wf _ _ _ (State.canonical_core _ c), Tab.put_wf _ _ _ _ (State.canonical_task _ c)⟩
    | with_reducible apply State.clearL2Poison_step
    | with_reducible apply Frame.foldl
    | with_reducible apply Frame.foldl_fst
    | split
    | with_reducible apply Frame.ite
    | (with_reducible apply Frame.set_lodge; rotate_left; apply Eq.refl; apply Eq.refl; apply Eq.refl)
    | with_reducible apply Frame.set_lodge'
    | intro _
    | dsimp only
theorem State.zeroWay_step (w0 : Nat) (a0 : State) (s : State) (h : Nat) (k : Nat) (h0 : Frame w0 a0 s) (hw : 35651584 &&& w0 = 35651584) : Frame w0 a0 (State.zeroWay s h k) :=
  Frame.step _ _ _ _ _ h0 (State.zeroWay_frame s h k) hw

theorem State.writeL2Lock_frame (s : State) (h : Nat) (v : Nat) : Frame 35684404 s (State.writeL2Lock s h v) := by
  unfold State.writeL2Lock
  try dsimp only
  repeat' first
    | with_reducible apply Frame.refl
    | with_reducible assumption
    | apply Eq.refl
    | with_reducible apply State.setBits_step
    | with_reducible apply State.zeroWay_step
    | with_reducible apply State.flushWay_step
    | with_reducible apply Frame.foldl
    | with_reducible apply Frame.foldl_fst
    | split
    | with_reducible apply Frame.ite
    | intro _
    | dsimp only
theorem State.writeL2Lock_step (w0 : Nat) (a0 : State) (s : State) (h : Nat) (v : Nat) (h0 : Frame w0 a0 s) (hw : 35684404 &&& w0 = 35684404) : Frame w0 a0 (State.writeL2Lock s h v) :=
  Frame.step _ _ _ _ _ h0 (State.writeL2Lock_frame s h v) hw

theorem execLdgCorePwrWrite_frame (h : Hub) (v : BitVec 4) (s : State) : Completes 545259568 s (execLdgCorePwrWrite h v s) := by
  unfold execLdgCorePwrWrite
  try dsimp only
  repeat' first
    | with_reducible apply Completes.intro
    | with_reducible apply Frame.refl
    | with_reducible assumption
    | apply Eq.refl
    | with_reducible apply State.writeCorePwr_step
    | with_reducible apply Frame.foldl
    | with_reducible apply Frame.foldl_fst
    | split
    | with_reducible apply Frame.ite
    | intro _
    | dsimp only
theorem execLdgCorePwrWrite_after (w0 : Nat) (a0 : State) (h : Hub) (v : BitVec 4) (s : State) (h0 : Frame w0 a0 s) (hw : 545259568 &&& w0 = 545259568) : Completes w0 a0 (execLdgCorePwrWrite h v s) :=
  Completes.step _ _ _ _ _ h0 (execLdgCorePwrWrite_frame h v s) hw

theorem execLdgL2LockWrite_frame (h : Hub) (v : BitVec 16) (s : State) : Completes 35684404 s (execLdgL2LockWrite h v s) := by
  unfold execLdgL2LockWrite
  try dsimp only
  repeat' first
    | with_reducible apply Completes.intro
    | with_reducible apply Frame.refl
    | with_reducible assumption
    | apply Eq.refl
    | with_reducible apply State.writeL2Lock_step
    | with_reducible apply Frame.foldl
    | with_reducible apply Frame.foldl_fst
    | split
    | with_reducible apply Frame.ite
    | intro _
    | dsimp only
theorem execLdgL2LockWrite_after (w0 : Nat) (a0 : State) (h : Hub) (v : BitVec 16) (s : State) (h0 : Frame w0 a0 s) (hw : 35684404 &&& w0 = 35684404) : Completes w0 a0 (execLdgL2LockWrite h v s) :=
  Completes.step _ _ _ _ _ h0 (execLdgL2LockWrite_frame h v s) hw

end Sys2Proof.Machine
end

