-- ==== Sys2Proof/Laws/F_Registers.lean ====
section
/-!
SUPPORT. Frames of the operations of Machine/Registers.lean.
-/
namespace Sys2Proof.Machine

set_option linter.unusedTactic false
set_option linter.unreachableTactic false
set_option linter.unusedVariables false

theorem State.writeBelCtrl_frame (s : State) (v : Word) : Frame 1874508852 s (State.writeBelCtrl s v) := by
  unfold State.writeBelCtrl
  try dsimp only
  repeat' first
    | with_reducible apply Frame.refl
    | with_reducible assumption
    | apply Eq.refl
    | with_reducible apply State.writeSource_step
    | with_reducible apply State.setReg_step
    | with_reducible apply State.runSet_step
    | with_reducible apply State.writeAbort_step
    | with_reducible apply State.writeEos_step
    | with_reducible apply Frame.foldl
    | with_reducible apply Frame.foldl_fst
    | split
    | with_reducible apply Frame.ite
    | intro _
    | dsimp only
theorem State.writeBelCtrl_step (w0 : Nat) (a0 : State) (s : State) (v : Word) (h0 : Frame w0 a0 s) (hw : 1874508852 &&& w0 = 1874508852) : Frame w0 a0 (State.writeBelCtrl s v) :=
  Frame.step _ _ _ _ _ h0 (State.writeBelCtrl_frame s v) hw

theorem State.closeNow_frame (s : State) : Frame 8192 s (State.closeNow s) := by
  unfold State.closeNow
  try dsimp only
  repeat' first
    | with_reducible apply Frame.refl
    | with_reducible assumption
    | apply Eq.refl
    | with_reducible apply Frame.foldl
    | with_reducible apply Frame.foldl_fst
    | split
    | with_reducible apply Frame.ite
    | with_reducible apply Frame.set_ledger
    | intro _
    | dsimp only
theorem State.closeNow_step (w0 : Nat) (a0 : State) (s : State) (h0 : Frame w0 a0 s) (hw : 8192 &&& w0 = 8192) : Frame w0 a0 (State.closeNow s) :=
  Frame.step _ _ _ _ _ h0 (State.closeNow_frame s) hw

theorem State.writeBel_frame (s : State) (a : Nat) (v : Word) : Frame 1874508852 s (State.writeBel s a v) := by
  unfold State.writeBel
  try dsimp only
  repeat' first
    | with_reducible apply Frame.refl
    | with_reducible assumption
    | apply Eq.refl
    | with_reducible apply State.writeBelCtrl_step
    | with_reducible apply State.writeEncDiv_step
    | with_reducible apply State.writeRevHyst_step
    | with_reducible apply State.writeTimerPeriod_step
    | with_reducible apply State.closeNow_step
    | with_reducible apply State.writeCloseMs_step
    | with_reducible apply State.plainWrite_step
    | with_reducible apply Frame.foldl
    | with_reducible apply Frame.foldl_fst
    | split
    | with_reducible apply Frame.ite
    | intro _
    | dsimp only
theorem State.writeBel_step (w0 : Nat) (a0 : State) (s : State) (a : Nat) (v : Word) (h0 : Frame w0 a0 s) (hw : 1874508852 &&& w0 = 1874508852) : Frame w0 a0 (State.writeBel s a v) :=
  Frame.step _ _ _ _ _ h0 (State.writeBel_frame s a v) hw

theorem State.writeLoadCtrl_frame (s : State) (v : Word) : Frame 152601652 s (State.writeLoadCtrl s v) := by
  unfold State.writeLoadCtrl
  try dsimp only
  repeat' first
    | with_reducible apply Frame.refl
    | with_reducible assumption
    | apply Eq.refl
    | with_reducible apply State.setReg_step
    | with_reducible apply State.endLoad_step
    | with_reducible apply State.loadGo_step
    | with_reducible apply State.wantSwap_step
    | with_reducible apply Frame.foldl
    | with_reducible apply Frame.foldl_fst
    | split
    | with_reducible apply Frame.ite
    | intro _
    | dsimp only
theorem State.writeLoadCtrl_step (w0 : Nat) (a0 : State) (s : State) (v : Word) (h0 : Frame w0 a0 s) (hw : 152601652 &&& w0 = 152601652) : Frame w0 a0 (State.writeLoadCtrl s v) :=
  Frame.step _ _ _ _ _ h0 (State.writeLoadCtrl_frame s v) hw

theorem State.writeLatch_frame (s : State) (a : Nat) (v : Word) : Frame 64 s (State.writeLatch s a v) := by
  unfold State.writeLatch
  try dsimp only
  repeat' first
    | with_reducible apply Frame.refl
    | with_reducible assumption
    | apply Eq.refl
    | with_reducible apply Frame.foldl
    | with_reducible apply Frame.foldl_fst
    | split
    | with_reducible apply Frame.ite
    | with_reducible apply Frame.set_latch
    | intro _
    | dsimp only
theorem State.writeLatch_step (w0 : Nat) (a0 : State) (s : State) (a : Nat) (v : Word) (h0 : Frame w0 a0 s) (hw : 64 &&& w0 = 64) : Frame w0 a0 (State.writeLatch s a v) :=
  Frame.step _ _ _ _ _ h0 (State.writeLatch_frame s a v) hw

theorem State.writePq_frame (s : State) (q : Nat) (o : Nat) (v : Word) : Frame 35128368 s (State.writePq s q o v) := by
  unfold State.writePq
  try dsimp only
  repeat' first
    | with_reducible apply Frame.refl
    | with_reducible assumption
    | apply Eq.refl
    | with_reducible apply State.pqCfgWrite_step
    | with_reducible apply State.writePqSetting_step
    | with_reducible apply State.writePqCtrl_step
    | with_reducible apply State.onPq_step
    | with_reducible apply State.pushGo_step
    | with_reducible apply State.writeHostHead_step
    | with_reducible apply State.plainWrite_step
    | with_reducible apply Frame.foldl
    | with_reducible apply Frame.foldl_fst
    | split
    | with_reducible apply Frame.ite
    | intro _
    | dsimp only
theorem State.writePq_step (w0 : Nat) (a0 : State) (s : State) (q : Nat) (o : Nat) (v : Word) (h0 : Frame w0 a0 s) (hw : 35128368 &&& w0 = 35128368) : Frame w0 a0 (State.writePq s q o v) :=
  Frame.step _ _ _ _ _ h0 (State.writePq_frame s q o v) hw

theorem State.writeSig_frame (s : State) (a : Nat) (v : Word) : Frame 649628720 s (State.writeSig s a v) := by
  unfold State.writeSig
  try dsimp only
  repeat' first
    | with_reducible apply Frame.refl
    | with_reducible assumption
    | apply Eq.refl
    | with_reducible apply State.writeSigCount_step
    | with_reducible apply State.signal_step
    | with_reducible apply State.writeSigCfg_step
    | with_reducible apply Frame.foldl
    | with_reducible apply Frame.foldl_fst
    | split
    | with_reducible apply Frame.ite
    | intro _
    | dsimp only
theorem State.writeSig_step (w0 : Nat) (a0 : State) (s : State) (a : Nat) (v : Word) (h0 : Frame w0 a0 s) (hw : 649628720 &&& w0 = 649628720) : Frame w0 a0 (State.writeSig s a v) :=
  Frame.step _ _ _ _ _ h0 (State.writeSig_frame s a v) hw

theorem State.writePtRoot_frame (s : State) (c : Nat) (a : Nat) (v : Word) : Frame 67108880 s (State.writePtRoot s c a v) := by
  unfold State.writePtRoot
  try dsimp only
  repeat' first
    | with_reducible apply Frame.refl
    | with_reducible assumption
    | apply Eq.refl
    | with_reducible apply State.setCtx_step
    | with_reducible apply State.plainWrite_step
    | with_reducible apply Frame.foldl
    | with_reducible apply Frame.foldl_fst
    | split
    | with_reducible apply Frame.ite
    | intro _
    | dsimp only
theorem State.writePtRoot_step (w0 : Nat) (a0 : State) (s : State) (c : Nat) (a : Nat) (v : Word) (h0 : Frame w0 a0 s) (hw : 67108880 &&& w0 = 67108880) : Frame w0 a0 (State.writePtRoot s c a v) :=
  Frame.step _ _ _ _ _ h0 (State.writePtRoot_frame s c a v) hw

theorem State.writeRing_frame (s : State) (c : Nat) (r : Nat) (o : Nat) (v : Word) : Frame 649628720 s (State.writeRing s c r o v) := by
  unfold State.writeRing
  try dsimp only
  repeat' first
    | with_reducible apply Frame.refl
    | with_reducible assumption
    | apply Eq.refl
    | with_reducible apply State.disableRing_step
    | with_reducible apply State.plainWrite_step
    | with_reducible apply Frame.foldl
    | with_reducible apply Frame.foldl_fst
    | split
    | with_reducible apply Frame.ite
    | intro _
    | dsimp only
theorem State.writeRing_step (w0 : Nat) (a0 : State) (s : State) (c : Nat) (r : Nat) (o : Nat) (v : Word) (h0 : Frame w0 a0 s) (hw : 649628720 &&& w0 = 649628720) : Frame w0 a0 (State.writeRing s c r o v) :=
  Frame.step _ _ _ _ _ h0 (State.writeRing_frame s c r o v) hw

theorem State.writeCtx_frame (s : State) (a : Nat) (v : Word) : Frame 649628720 s (State.writeCtx s a v) := by
  unfold State.writeCtx
  try dsimp only
  repeat' first
    | with_reducible apply Frame.refl
    | with_reducible assumption
    | apply Eq.refl
    | with_reducible apply State.createCtx_step
    | with_reducible apply State.destroyCtx_step
    | with_reducible apply State.clearFault_step
    | with_reducible apply State.writePtRoot_step
    | with_reducible apply State.tlbInv_step
    | with_reducible apply State.writeOwn_step
    | with_reducible apply State.writeRing_step
    | with_reducible apply State.plainWrite_step
    | with_reducible apply Frame.foldl
    | with_reducible apply Frame.foldl_fst
    | split
    | with_reducible apply Frame.ite
    | intro _
    | dsimp only
theorem State.writeCtx_step (w0 : Nat) (a0 : State) (s : State) (a : Nat) (v : Word) (h0 : Frame w0 a0 s) (hw : 649628720 &&& w0 = 649628720) : Frame w0 a0 (State.writeCtx s a v) :=
  Frame.step _ _ _ _ _ h0 (State.writeCtx_frame s a v) hw

theorem State.writeCamCtrl_frame (s : State) (n : Nat) (v : Word) : Frame 135216 s (State.writeCamCtrl s n v) := by
  unfold State.writeCamCtrl
  try dsimp only
  repeat' first
    | with_reducible apply Frame.refl
    | with_reducible assumption
    | apply Eq.refl
    | with_reducible apply State.disablePort_step
    | with_reducible apply State.plainWrite_step
    | with_reducible apply State.writeBank_step
    | with_reducible apply Frame.foldl
    | with_reducible apply Frame.foldl_fst
    | split
    | with_reducible apply Frame.ite
    | intro _
    | dsimp only
theorem State.writeCamCtrl_step (w0 : Nat) (a0 : State) (s : State) (n : Nat) (v : Word) (h0 : Frame w0 a0 s) (hw : 135216 &&& w0 = 135216) : Frame w0 a0 (State.writeCamCtrl s n v) :=
  Frame.step _ _ _ _ _ h0 (State.writeCamCtrl_frame s n v) hw

theorem State.writeCam_frame (s : State) (n : Nat) (o : Nat) (v : Word) : Frame 135280 s (State.writeCam s n o v) := by
  unfold State.writeCam
  try dsimp only
  repeat' first
    | with_reducible apply Frame.refl
    | with_reducible assumption
    | apply Eq.refl
    | with_reducible apply State.writeCamCtrl_step
    | with_reducible apply State.writeLatch_step
    | with_reducible apply State.armRescale_step
    | with_reducible apply State.plainWrite_step
    | with_reducible apply Frame.foldl
    | with_reducible apply Frame.foldl_fst
    | split
    | with_reducible apply Frame.ite
    | intro _
    | dsimp only
theorem State.writeCam_step (w0 : Nat) (a0 : State) (s : State) (n : Nat) (o : Nat) (v : Word) (h0 : Frame w0 a0 s) (hw : 135280 &&& w0 = 135280) : Frame w0 a0 (State.writeCam s n o v) :=
  Frame.step _ _ _ _ _ h0 (State.writeCam_frame s n o v) hw

theorem State.writeGth_frame (s : State) (a : Nat) (v : Word) : Frame 135280 s (State.writeGth s a v) := by
  unfold State.writeGth
  try dsimp only
  repeat' first
    | with_reducible apply Frame.refl
    | with_reducible assumption
    | apply Eq.refl
    | with_reducible apply State.writeCam_step
    | with_reducible apply State.markGo_step
    | with_reducible apply State.writeFf_step
    | with_reducible apply State.plainWrite_step
    | with_reducible apply Frame.foldl
    | with_reducible apply Frame.foldl_fst
    | split
    | with_reducible apply Frame.ite
    | intro _
    | dsimp only
theorem State.writeGth_step (w0 : Nat) (a0 : State) (s : State) (a : Nat) (v : Word) (h0 : Frame w0 a0 s) (hw : 135280 &&& w0 = 135280) : Frame w0 a0 (State.writeGth s a v) :=
  Frame.step _ _ _ _ _ h0 (State.writeGth_frame s a v) hw

theorem State.writeGkp_frame (s : State) (a : Nat) (v : Word) : Frame 2097168 s (State.writeGkp s a v) := by
  unfold State.writeGkp
  try dsimp only
  repeat' first
    | with_reducible apply Frame.refl
    | with_reducible assumption
    | apply Eq.refl
    | with_reducible exact fun c => ⟨writeBytes_wf _ _ _ (State.canonical_hbm _ c), id (State.canonical_spiNor _ c)⟩
    | with_reducible exact fun c => ⟨writeBytes_wf _ _ _ (State.canonical_hbm _ c), writeBytes_wf _ _ _ (State.canonical_spiNor _ c)⟩
    | with_reducible exact fun c => ⟨writeBytes_wf _ _ _ (State.canonical_hbm _ c), zeroBytes_wf _ _ _ (State.canonical_spiNor _ c)⟩
    | with_reducible exact fun c => ⟨zeroBytes_wf _ _ _ (State.canonical_hbm _ c), id (State.canonical_spiNor _ c)⟩
    | with_reducible exact fun c => ⟨zeroBytes_wf _ _ _ (State.canonical_hbm _ c), writeBytes_wf _ _ _ (State.canonical_spiNor _ c)⟩
    | with_reducible exact fun c => ⟨zeroBytes_wf _ _ _ (State.canonical_hbm _ c), zeroBytes_wf _ _ _ (State.canonical_spiNor _ c)⟩
    | with_reducible exact fun c => ⟨id (State.canonical_hbm _ c), id (State.canonical_spiNor _ c)⟩
    | with_reducible exact fun c => ⟨id (State.canonical_hbm _ c), writeBytes_wf _ _ _ (State.canonical_spiNor _ c)⟩
    | with_reducible exact fun c => ⟨id (State.canonical_hbm _ c), zeroBytes_wf _ _ _ (State.canonical_spiNor _ c)⟩
    | with_reducible apply State.writePassMs_step
    | with_reducible apply State.repairGo_step
    | with_reducible apply State.plainWrite_step
    | with_reducible apply Frame.foldl
    | with_reducible apply Frame.foldl_fst
    | split
    | with_reducible apply Frame.ite
    | (with_reducible apply Frame.set_mem; rotate_left; apply Eq.refl; apply Eq.refl; apply Eq.refl)
    | with_reducible apply Frame.set_mem'
    | intro _
    | dsimp only
theorem State.writeGkp_step (w0 : Nat) (a0 : State) (s : State) (a : Nat) (v : Word) (h0 : Frame w0 a0 s) (hw : 2097168 &&& w0 = 2097168) : Frame w0 a0 (State.writeGkp s a v) :=
  Frame.step _ _ _ _ _ h0 (State.writeGkp_frame s a v) hw

theorem State.writeTer_frame (s : State) (a : Nat) (v : Word) : Frame 98320 s (State.writeTer s a v) := by
  unfold State.writeTer
  try dsimp only
  repeat' first
    | with_reducible apply Frame.refl
    | with_reducible assumption
    | apply Eq.refl
    | with_reducible apply State.terSnap_step
    | with_reducible apply State.terClear_step
    | with_reducible apply State.plainWrite_step
    | with_reducible apply Frame.foldl
    | with_reducible apply Frame.foldl_fst
    | split
    | with_reducible apply Frame.ite
    | intro _
    | dsimp only
theorem State.writeTer_step (w0 : Nat) (a0 : State) (s : State) (a : Nat) (v : Word) (h0 : Frame w0 a0 s) (hw : 98320 &&& w0 = 98320) : Frame w0 a0 (State.writeTer s a v) :=
  Frame.step _ _ _ _ _ h0 (State.writeTer_frame s a v) hw

theorem State.writeGrpCtrl_frame (s : State) (v : Word) : Frame 134218804 s (State.writeGrpCtrl s v) := by
  unfold State.writeGrpCtrl
  try dsimp only
  repeat' first
    | with_reducible apply Frame.refl
    | with_reducible assumption
    | apply Eq.refl
    | with_reducible apply State.writePrmMode_step
    | with_reducible apply State.setReg_step
    | with_reducible apply State.leave_step
    | with_reducible apply State.form_step
    | with_reducible apply Frame.foldl
    | with_reducible apply Frame.foldl_fst
    | split
    | with_reducible apply Frame.ite
    | intro _
    | dsimp only
theorem State.writeGrpCtrl_step (w0 : Nat) (a0 : State) (s : State) (v : Word) (h0 : Frame w0 a0 s) (hw : 134218804 &&& w0 = 134218804) : Frame w0 a0 (State.writeGrpCtrl s v) :=
  Frame.step _ _ _ _ _ h0 (State.writeGrpCtrl_frame s v) hw

theorem State.writePortCtrl_frame (s : State) (p : Nat) (v : Word) : Frame 1209586740 s (State.writePortCtrl s p v) := by
  unfold State.writePortCtrl
  try dsimp only
  repeat' first
    | with_reducible apply Frame.refl
    | with_reducible assumption
    | apply Eq.refl
    | with_reducible apply State.setReg_step
    | with_reducible apply State.linkDown_step
    | with_reducible apply State.recal_step
    | with_reducible apply Frame.foldl
    | with_reducible apply Frame.foldl_fst
    | split
    | with_reducible apply Frame.ite
    | intro _
    | dsimp only
theorem State.writePortCtrl_step (w0 : Nat) (a0 : State) (s : State) (p : Nat) (v : Word) (h0 : Frame w0 a0 s) (hw : 1209586740 &&& w0 = 1209586740) : Frame w0 a0 (State.writePortCtrl s p v) :=
  Frame.step _ _ _ _ _ h0 (State.writePortCtrl_frame s p v) hw

theorem State.writePrm_frame (s : State) (a : Nat) (v : Word) : Frame 1209586740 s (State.writePrm s a v) := by
  unfold State.writePrm
  try dsimp only
  repeat' first
    | with_reducible apply Frame.refl
    | with_reducible assumption
    | apply Eq.refl
    | with_reducible apply State.writeGrpCtrl_step
    | with_reducible apply State.writePortCtrl_step
    | with_reducible apply State.plainWrite_step
    | with_reducible apply Frame.foldl
    | with_reducible apply Frame.foldl_fst
    | split
    | with_reducible apply Frame.ite
    | intro _
    | dsimp only
theorem State.writePrm_step (w0 : Nat) (a0 : State) (s : State) (a : Nat) (v : Word) (h0 : Frame w0 a0 s) (hw : 1209586740 &&& w0 = 1209586740) : Frame w0 a0 (State.writePrm s a v) :=
  Frame.step _ _ _ _ _ h0 (State.writePrm_frame s a v) hw

theorem State.writeHdg_frame (s : State) (a : Nat) (v : Word) : Frame 48 s (State.writeHdg s a v) := by
  unfold State.writeHdg
  try dsimp only
  repeat' first
    | with_reducible apply Frame.refl
    | with_reducible assumption
    | apply Eq.refl
    | with_reducible apply State.writeHdgCfg_step
    | with_reducible apply State.writeWinCtl_step
    | with_reducible apply State.writeWinAddr_step
    | with_reducible apply State.plainWrite_step
    | with_reducible apply Frame.foldl
    | with_reducible apply Frame.foldl_fst
    | split
    | with_reducible apply Frame.ite
    | intro _
    | dsimp only
theorem State.writeHdg_step (w0 : Nat) (a0 : State) (s : State) (a : Nat) (v : Word) (h0 : Frame w0 a0 s) (hw : 48 &&& w0 = 48) : Frame w0 a0 (State.writeHdg s a v) :=
  Frame.step _ _ _ _ _ h0 (State.writeHdg_frame s a v) hw

theorem State.writeLodge_frame (s : State) (a : Nat) (v : Word) : Frame 649628724 s (State.writeLodge s a v) := by
  unfold State.writeLodge
  try dsimp only
  repeat' first
    | with_reducible apply Frame.refl
    | with_reducible assumption
    | apply Eq.refl
    | with_reducible apply State.writeCorePwr_step
    | with_reducible apply State.writeL2Lock_step
    | with_reducible apply State.taskGo_step
    | with_reducible apply State.writeCancel_step
    | with_reducible apply State.writeTask_step
    | with_reducible apply State.plainWrite_step
    | with_reducible apply Frame.foldl
    | with_reducible apply Frame.foldl_fst
    | split
    | with_reducible apply Frame.ite
    | intro _
    | dsimp only
theorem State.writeLodge_step (w0 : Nat) (a0 : State) (s : State) (a : Nat) (v : Word) (h0 : Frame w0 a0 s) (hw : 649628724 &&& w0 = 649628724) : Frame w0 a0 (State.writeLodge s a v) :=
  Frame.step _ _ _ _ _ h0 (State.writeLodge_frame s a v) hw

theorem State.writeSup_frame (s : State) (h : Nat) (o : Nat) (v : Word) : Frame 48 s (State.writeSup s h o v) := by
  unfold State.writeSup
  try dsimp only
  repeat' first
    | with_reducible apply Frame.refl
    | with_reducible assumption
    | apply Eq.refl
    | with_reducible apply State.writeThreshold_step
    | with_reducible apply State.writeDrainUs_step
    | with_reducible apply State.plainWrite_step
    | with_reducible apply Frame.foldl
    | with_reducible apply Frame.foldl_fst
    | split
    | with_reducible apply Frame.ite
    | intro _
    | dsimp only
theorem State.writeSup_step (w0 : Nat) (a0 : State) (s : State) (h : Nat) (o : Nat) (v : Word) (h0 : Frame w0 a0 s) (hw : 48 &&& w0 = 48) : Frame w0 a0 (State.writeSup s h o v) :=
  Frame.step _ _ _ _ _ h0 (State.writeSup_frame s h o v) hw

theorem State.writePins_frame (s : State) (a : Nat) (v : Word) : Frame 8589934608 s (State.writePins s a v) := by
  unfold State.writePins
  try dsimp only
  repeat' first
    | with_reducible apply Frame.refl
    | with_reducible assumption
    | apply Eq.refl
    | with_reducible apply State.writePin_step
    | with_reducible apply State.plainWrite_step
    | with_reducible apply Frame.foldl
    | with_reducible apply Frame.foldl_fst
    | split
    | with_reducible apply Frame.ite
    | intro _
    | dsimp only
theorem State.writePins_step (w0 : Nat) (a0 : State) (s : State) (a : Nat) (v : Word) (h0 : Frame w0 a0 s) (hw : 8589934608 &&& w0 = 8589934608) : Frame w0 a0 (State.writePins s a v) :=
  Frame.step _ _ _ _ _ h0 (State.writePins_frame s a v) hw

theorem State.writeBootData_frame (s : State) (a : Nat) (v : Word) : Frame 16 s (State.writeBootData s a v) := by
  unfold State.writeBootData
  try dsimp only
  repeat' first
    | with_reducible apply Frame.refl
    | with_reducible assumption
    | apply Eq.refl
    | with_reducible apply State.clrBits_step
    | with_reducible apply State.setReg_step
    | with_reducible apply Frame.foldl
    | with_reducible apply Frame.foldl_fst
    | split
    | with_reducible apply Frame.ite
    | intro _
    | dsimp only
theorem State.writeBootData_step (w0 : Nat) (a0 : State) (s : State) (a : Nat) (v : Word) (h0 : Frame w0 a0 s) (hw : 16 &&& w0 = 16) : Frame w0 a0 (State.writeBootData s a v) :=
  Frame.step _ _ _ _ _ h0 (State.writeBootData_frame s a v) hw

theorem State.writeHub_frame (s : State) (a : Nat) (v : Word) : Frame 34359735420 s (State.writeHub s a v) := by
  unfold State.writeHub
  repeat' first
    | with_reducible apply Frame.refl
    | with_reducible assumption
    | apply Eq.refl
    | with_reducible apply State.writeLoadCtrl_step
    | with_reducible apply State.writeLatch_step
    | with_reducible apply State.writeSwapBand_step
    | with_reducible apply State.writeBar2Base_step
    | with_reducible apply State.writeSup_step
    | with_reducible apply State.writeBeds_step
    | with_reducible apply State.writeCamPower_step
    | with_reducible apply State.writePrmPower_step
    | with_reducible apply State.flushAck_step
    | with_reducible apply State.writePins_step
    | with_reducible apply State.deviceReset_step
    | with_reducible apply State.bootChunk_step
    | with_reducible apply State.containResume_step
    | with_reducible apply State.fuseCmd_step
    | with_reducible apply State.setReg_step
    | with_reducible apply State.writeBootData_step
    | with_reducible apply State.setBits_step
    | with_reducible apply State.unmask_step
    | with_reducible apply State.plainWrite_step
    | with_reducible apply Frame.ite
theorem State.writeHub_step (w0 : Nat) (a0 : State) (s : State) (a : Nat) (v : Word) (h0 : Frame w0 a0 s) (hw : 34359735420 &&& w0 = 34359735420) : Frame w0 a0 (State.writeHub s a v) :=
  Frame.step _ _ _ _ _ h0 (State.writeHub_frame s a v) hw

theorem State.writeWord_frame (s : State) (a : Nat) (v : Word) : Frame 34359737468 s (State.writeWord s a v) := by
  unfold State.writeWord
  try dsimp only
  repeat' first
    | with_reducible apply Frame.refl
    | with_reducible assumption
    | apply Eq.refl
    | with_reducible apply State.writePq_step
    | with_reducible apply State.writeBel_step
    | with_reducible apply State.writeHub_step
    | with_reducible apply State.writeCtx_step
    | with_reducible apply State.writeSig_step
    | with_reducible apply State.writeGth_step
    | with_reducible apply State.writePrm_step
    | with_reducible apply State.writeHdg_step
    | with_reducible apply State.writeLodge_step
    | with_reducible apply State.writeGkp_step
    | with_reducible apply State.writeTer_step
    | with_reducible apply State.plainWrite_step
    | with_reducible apply Frame.foldl
    | with_reducible apply Frame.foldl_fst
    | split
    | with_reducible apply Frame.ite
    | intro _
    | dsimp only
theorem State.writeWord_step (w0 : Nat) (a0 : State) (s : State) (a : Nat) (v : Word) (h0 : Frame w0 a0 s) (hw : 34359737468 &&& w0 = 34359737468) : Frame w0 a0 (State.writeWord s a v) :=
  Frame.step _ _ _ _ _ h0 (State.writeWord_frame s a v) hw

theorem State.writeReg_frame (s : State) (a : Nat) (wide : Bool) (v : DWord) : Frame 34359737468 s (State.writeReg s a wide v) := by
  unfold State.writeReg
  try dsimp only
  repeat' first
    | with_reducible apply Frame.refl
    | with_reducible assumption
    | apply Eq.refl
    | with_reducible apply State.writeWord_step
    | with_reducible apply Frame.foldl
    | with_reducible apply Frame.foldl_fst
    | split
    | with_reducible apply Frame.ite
    | intro _
    | dsimp only
theorem State.writeReg_step (w0 : Nat) (a0 : State) (s : State) (a : Nat) (wide : Bool) (v : DWord) (h0 : Frame w0 a0 s) (hw : 34359737468 &&& w0 = 34359737468) : Frame w0 a0 (State.writeReg s a wide v) :=
  Frame.step _ _ _ _ _ h0 (State.writeReg_frame s a wide v) hw

theorem State.readWord_frame (s : State) (a : Nat) : Frame 20 s (State.readWord s a).1 := by
  unfold State.readWord
  try dsimp only
  repeat' first
    | with_reducible apply Frame.refl
    | with_reducible assumption
    | apply Eq.refl
    | with_reducible apply State.hostWait_step
    | (with_reducible refine Frame.of_pair (by with_reducible assumption) (State.hostWait_step _ _ _ _ ?_ ?_))
    | with_reducible apply State.plainReadEffect_step
    | with_reducible apply State.useFree_step
    | with_reducible apply Frame.foldl
    | with_reducible apply Frame.foldl_fst
    | split
    | with_reducible apply Frame.ite
    | intro _
    | dsimp only
theorem State.readWord_step (w0 : Nat) (a0 : State) (s : State) (a : Nat) (h0 : Frame w0 a0 s) (hw : 20 &&& w0 = 20) : Frame w0 a0 (State.readWord s a).1 :=
  Frame.step _ _ _ _ _ h0 (State.readWord_frame s a) hw

theorem State.readWide_frame (s : State) (a : Nat) (wide : Bool) : Frame 35128500 s (State.readWide s a wide).1 := by
  unfold State.readWide
  try dsimp only
  repeat' first
    | with_reducible apply Frame.refl
    | with_reducible assumption
    | apply Eq.refl
    | with_reducible apply State.popRead_step
    | with_reducible apply State.readWord_step
    | (with_reducible refine Frame.of_pair (by with_reducible assumption) (State.readWord_step _ _ _ _ ?_ ?_))
    | with_reducible apply Frame.foldl
    | with_reducible apply Frame.foldl_fst
    | split
    | with_reducible apply Frame.ite
    | intro _
    | dsimp only
theorem State.readWide_step (w0 : Nat) (a0 : State) (s : State) (a : Nat) (wide : Bool) (h0 : Frame w0 a0 s) (hw : 35128500 &&& w0 = 35128500) : Frame w0 a0 (State.readWide s a wide).1 :=
  Frame.step _ _ _ _ _ h0 (State.readWide_frame s a wide) hw

theorem State.readVia_frame (s : State) (h : Nat) (a : Nat) (wide : Bool) : Frame 35128500 s (State.readVia s h a wide).1 := by
  unfold State.readVia
  try dsimp only
  repeat' first
    | with_reducible apply Frame.refl
    | with_reducible assumption
    | apply Eq.refl
    | with_reducible apply State.readWide_step
    | (with_reducible refine Frame.of_pair (by with_reducible assumption) (State.readWide_step _ _ _ _ _ ?_ ?_))
    | with_reducible apply Frame.foldl
    | with_reducible apply Frame.foldl_fst
    | split
    | with_reducible apply Frame.ite
    | intro _
    | dsimp only
theorem State.readVia_step (w0 : Nat) (a0 : State) (s : State) (h : Nat) (a : Nat) (wide : Bool) (h0 : Frame w0 a0 s) (hw : 35128500 &&& w0 = 35128500) : Frame w0 a0 (State.readVia s h a wide).1 :=
  Frame.step _ _ _ _ _ h0 (State.readVia_frame s h a wide) hw

theorem State.hostWriteReg_frame (s : State) (a : Nat) (wide : Bool) (v : DWord) : Frame 34359738108 s (State.hostWriteReg s a wide v) := by
  unfold State.hostWriteReg
  try dsimp only
  repeat' first
    | with_reducible apply Frame.refl
    | with_reducible assumption
    | apply Eq.refl
    | with_reducible apply State.badAccess_step
    | with_reducible apply State.noteHeld_step
    | with_reducible apply State.hdgCheck_step
    | (with_reducible refine Frame.of_pair (by with_reducible assumption) (State.hdgCheck_step _ _ _ _ _ _ _ _ _ ?_ ?_))
    | with_reducible apply State.writeReg_step
    | with_reducible apply Frame.foldl
    | with_reducible apply Frame.foldl_fst
    | split
    | with_reducible apply Frame.ite
    | intro _
    | dsimp only
theorem State.hostWriteReg_step (w0 : Nat) (a0 : State) (s : State) (a : Nat) (wide : Bool) (v : DWord) (h0 : Frame w0 a0 s) (hw : 34359738108 &&& w0 = 34359738108) : Frame w0 a0 (State.hostWriteReg s a wide v) :=
  Frame.step _ _ _ _ _ h0 (State.hostWriteReg_frame s a wide v) hw

theorem State.refusalsRead_frame (s : State) : Frame 4194304 s (State.refusalsRead s) := by
  unfold State.refusalsRead
  try dsimp only
  repeat' first
    | with_reducible apply Frame.refl
    | with_reducible assumption
    | apply Eq.refl
    | with_reducible apply Frame.foldl
    | with_reducible apply Frame.foldl_fst
    | split
    | with_reducible apply Frame.ite
    | with_reducible apply Frame.set_alloc
    | intro _
    | dsimp only
theorem State.refusalsRead_step (w0 : Nat) (a0 : State) (s : State) (h0 : Frame w0 a0 s) (hw : 4194304 &&& w0 = 4194304) : Frame w0 a0 (State.refusalsRead s) :=
  Frame.step _ _ _ _ _ h0 (State.refusalsRead_frame s) hw

theorem State.hostReadReg_frame (s : State) (a : Nat) (wide : Bool) : Frame 47711924 s (State.hostReadReg s a wide) := by
  unfold State.hostReadReg
  try dsimp only
  repeat' first
    | with_reducible apply Frame.refl
    | with_reducible assumption
    | apply Eq.refl
    | with_reducible apply State.badAccess_step
    | with_reducible apply State.answer_step
    | with_reducible apply State.noteHeld_step
    | with_reducible apply State.hdgCheck_step
    | (with_reducible refine Frame.of_pair (by with_reducible assumption) (State.hdgCheck_step _ _ _ _ _ _ _ _ _ ?_ ?_))
    | with_reducible apply State.readVia_step
    | (with_reducible refine Frame.of_pair (by with_reducible assumption) (State.readVia_step _ _ _ _ _ _ ?_ ?_))
    | with_reducible apply State.refusalsRead_step
    | with_reducible apply Frame.foldl
    | with_reducible apply Frame.foldl_fst
    | split
    | with_reducible apply Frame.ite
    | intro _
    | dsimp only
theorem State.hostReadReg_step (w0 : Nat) (a0 : State) (s : State) (a : Nat) (wide : Bool) (h0 : Frame w0 a0 s) (hw : 47711924 &&& w0 = 47711924) : Frame w0 a0 (State.hostReadReg s a wide) :=
  Frame.step _ _ _ _ _ h0 (State.hostReadReg_frame s a wide) hw

theorem execPairedLowWordWrite_frame (r : PairedReg) (v : Word) (s : State) : Completes 64 s (execPairedLowWordWrite r v s) := by
  unfold execPairedLowWordWrite
  try dsimp only
  repeat' first
    | with_reducible apply Completes.intro
    | with_reducible apply Frame.refl
    | with_reducible assumption
    | apply Eq.refl
    | with_reducible apply State.writeLatch_step
    | with_reducible apply Frame.foldl
    | with_reducible apply Frame.foldl_fst
    | split
    | with_reducible apply Frame.ite
    | intro _
    | dsimp only
theorem execPairedLowWordWrite_after (w0 : Nat) (a0 : State) (r : PairedReg) (v : Word) (s : State) (h0 : Frame w0 a0 s) (hw : 64 &&& w0 = 64) : Completes w0 a0 (execPairedLowWordWrite r v s) :=
  Completes.step _ _ _ _ _ h0 (execPairedLowWordWrite_frame r v s) hw

theorem execRegisterWrite_frame (off : BitVec 25) (wide : Bool) (v : DWord) (s : State) : Completes 34359738108 s (execRegisterWrite off wide v s) := by
  unfold execRegisterWrite
  try dsimp only
  repeat' first
    | with_reducible apply Completes.intro
    | with_reducible apply Frame.refl
    | with_reducible assumption
    | apply Eq.refl
    | with_reducible apply State.hostWriteReg_step
    | with_reducible apply Frame.foldl
    | with_reducible apply Frame.foldl_fst
    | split
    | with_reducible apply Frame.ite
    | intro _
    | dsimp only
theorem execRegisterWrite_after (w0 : Nat) (a0 : State) (off : BitVec 25) (wide : Bool) (v : DWord) (s : State) (h0 : Frame w0 a0 s) (hw : 34359738108 &&& w0 = 34359738108) : Completes w0 a0 (execRegisterWrite off wide v s) :=
  Completes.step _ _ _ _ _ h0 (execRegisterWrite_frame off wide v s) hw

theorem execReadToClear_frame (off : BitVec 25) (wide : Bool) (s : State) : Completes 47711924 s (execReadToClear off wide s) := by
  unfold execReadToClear
  try dsimp only
  repeat' first
    | with_reducible apply Completes.intro
    | with_reducible apply Frame.refl
    | with_reducible assumption
    | apply Eq.refl
    | with_reducible apply State.hostReadReg_step
    | with_reducible apply Frame.foldl
    | with_reducible apply Frame.foldl_fst
    | split
    | with_reducible apply Frame.ite
    | intro _
    | dsimp only
theorem execReadToClear_after (w0 : Nat) (a0 : State) (off : BitVec 25) (wide : Bool) (s : State) (h0 : Frame w0 a0 s) (hw : 47711924 &&& w0 = 47711924) : Completes w0 a0 (execReadToClear off wide s) :=
  Completes.step _ _ _ _ _ h0 (execReadToClear_frame off wide s) hw

end Sys2Proof.Machine
end

