-- ==== Sys2Proof/Laws/F_Bus.lean ====
section
/-!
SUPPORT. Frames of the operations of Machine/Bus.lean.
-/
namespace Sys2Proof.Machine

set_option linter.unusedTactic false
set_option linter.unreachableTactic false
set_option linter.unusedVariables false

theorem State.regBeatsWrite_frame (s : State) (wide : Bool) (x2 : Nat) (x3 : Nat) (x4 : List Byte) : Frame 34359737468 s (State.regBeatsWrite s wide x2 x3 x4) := by
  induction x2 generalizing s x3 x4 with
  | zero => exact Frame.refl _ _
  | succ n ih => exact Frame.step _ _ _ _ _ (State.writeReg_frame _ _ _ _) (ih _ _ _) rfl
theorem State.regBeatsWrite_step (w0 : Nat) (a0 : State) (s : State) (wide : Bool) (x2 : Nat) (x3 : Nat) (x4 : List Byte) (h0 : Frame w0 a0 s) (hw : 34359737468 &&& w0 = 34359737468) : Frame w0 a0 (State.regBeatsWrite s wide x2 x3 x4) :=
  Frame.step _ _ _ _ _ h0 (State.regBeatsWrite_frame s wide x2 x3 x4) hw

theorem State.regBeatsRead_frame (s : State) (h : Nat) (wide : Bool) (x3 : Nat) (x4 : Nat) : Frame 35128500 s (State.regBeatsRead s h wide x3 x4).1 := by
  induction x3 generalizing s x4 with
  | zero => exact Frame.refl _ _
  | succ n ih => exact Frame.step _ _ _ _ _ (State.readVia_frame _ _ _ _) (ih _ _) rfl
theorem State.regBeatsRead_step (w0 : Nat) (a0 : State) (s : State) (h : Nat) (wide : Bool) (x3 : Nat) (x4 : Nat) (h0 : Frame w0 a0 s) (hw : 35128500 &&& w0 = 35128500) : Frame w0 a0 (State.regBeatsRead s h wide x3 x4).1 :=
  Frame.step _ _ _ _ _ h0 (State.regBeatsRead_frame s h wide x3 x4) hw

theorem State.busRegWrite_frame (s : State) (a : Nat) (bs : List Byte) : Frame 34359738108 s (State.busRegWrite s a bs) := by
  unfold State.busRegWrite
  try dsimp only
  repeat' first
    | with_reducible apply Frame.refl
    | with_reducible assumption
    | apply Eq.refl
    | with_reducible apply State.regBeatsWrite_step
    | with_reducible apply State.badAccess_step
    | with_reducible apply Frame.foldl
    | with_reducible apply Frame.foldl_fst
    | split
    | with_reducible apply Frame.ite
    | intro _
    | dsimp only
theorem State.busRegWrite_step (w0 : Nat) (a0 : State) (s : State) (a : Nat) (bs : List Byte) (h0 : Frame w0 a0 s) (hw : 34359738108 &&& w0 = 34359738108) : Frame w0 a0 (State.busRegWrite s a bs) :=
  Frame.step _ _ _ _ _ h0 (State.busRegWrite_frame s a bs) hw

theorem State.busRegRead_frame (s : State) (h : Nat) (a : Nat) (n : Nat) : Frame 35129012 s (State.busRegRead s h a n).1 := by
  unfold State.busRegRead
  try dsimp only
  repeat' first
    | with_reducible apply Frame.refl
    | with_reducible assumption
    | apply Eq.refl
    | with_reducible apply State.regBeatsRead_step
    | (with_reducible refine Frame.of_pair (by with_reducible assumption) (State.regBeatsRead_step _ _ _ _ _ _ _ ?_ ?_))
    | with_reducible apply State.badAccess_step
    | with_reducible apply Frame.foldl
    | with_reducible apply Frame.foldl_fst
    | split
    | with_reducible apply Frame.ite
    | intro _
    | dsimp only
theorem State.busRegRead_step (w0 : Nat) (a0 : State) (s : State) (h : Nat) (a : Nat) (n : Nat) (h0 : Frame w0 a0 s) (hw : 35129012 &&& w0 = 35129012) : Frame w0 a0 (State.busRegRead s h a n).1 :=
  Frame.step _ _ _ _ _ h0 (State.busRegRead_frame s h a n) hw

theorem State.busRead_frame (s : State) (h : Nat) (pa : Nat) (n : Nat) : Frame 35129012 s (State.busRead s h pa n).1 := by
  unfold State.busRead
  try dsimp only
  repeat' first
    | with_reducible apply Frame.refl
    | with_reducible assumption
    | apply Eq.refl
    | with_reducible apply State.busRegRead_step
    | (with_reducible refine Frame.of_pair (by with_reducible assumption) (State.busRegRead_step _ _ _ _ _ _ ?_ ?_))
    | with_reducible apply State.physRead_step
    | (with_reducible refine Frame.of_pair (by with_reducible assumption) (State.physRead_step _ _ _ _ _ _ ?_ ?_))
    | with_reducible apply Frame.foldl
    | with_reducible apply Frame.foldl_fst
    | split
    | with_reducible apply Frame.ite
    | intro _
    | dsimp only
theorem State.busRead_step (w0 : Nat) (a0 : State) (s : State) (h : Nat) (pa : Nat) (n : Nat) (h0 : Frame w0 a0 s) (hw : 35129012 &&& w0 = 35129012) : Frame w0 a0 (State.busRead s h pa n).1 :=
  Frame.step _ _ _ _ _ h0 (State.busRead_frame s h pa n) hw

theorem State.busWrite_frame (s : State) (h : Nat) (pa : Nat) (bs : List Byte) : Frame 34359738108 s (State.busWrite s h pa bs).1 := by
  unfold State.busWrite
  try dsimp only
  repeat' first
    | with_reducible apply Frame.refl
    | with_reducible assumption
    | apply Eq.refl
    | with_reducible apply State.busRegWrite_step
    | with_reducible apply State.physWrite_step
    | (with_reducible refine Frame.of_pair (by with_reducible assumption) (State.physWrite_step _ _ _ _ _ _ ?_ ?_))
    | with_reducible apply Frame.foldl
    | with_reducible apply Frame.foldl_fst
    | split
    | with_reducible apply Frame.ite
    | intro _
    | dsimp only
theorem State.busWrite_step (w0 : Nat) (a0 : State) (s : State) (h : Nat) (pa : Nat) (bs : List Byte) (h0 : Frame w0 a0 s) (hw : 34359738108 &&& w0 = 34359738108) : Frame w0 a0 (State.busWrite s h pa bs).1 :=
  Frame.step _ _ _ _ _ h0 (State.busWrite_frame s h pa bs) hw

end Sys2Proof.Machine
end

