-- ==== Sys2Proof/Laws/F_HedgeTraffic.lean ====
section
/-!
SUPPORT. Frames of the operations of Machine/HedgeTraffic.lean.
-/
namespace Sys2Proof.Machine

set_option linter.unusedTactic false
set_option linter.unreachableTactic false
set_option linter.unusedVariables false

theorem State.breakLock_frame (s : State) (h : Nat) (t : Nat) (n : Nat) : Frame 9962544 s (State.breakLock s h t n) := by
  unfold State.breakLock
  try dsimp only
  repeat' first
    | with_reducible apply Frame.refl
    | with_reducible assumption
    | apply Eq.refl
    | with_reducible apply State.updHedge_step
    | with_reducible apply State.emit_step
    | with_reducible apply State.setBits_step
    | with_reducible apply Frame.foldl
    | with_reducible apply Frame.foldl_fst
    | split
    | with_reducible apply Frame.ite
    | intro _
    | dsimp only
theorem State.breakLock_step (w0 : Nat) (a0 : State) (s : State) (h : Nat) (t : Nat) (n : Nat) (h0 : Frame w0 a0 s) (hw : 9962544 &&& w0 = 9962544) : Frame w0 a0 (State.breakLock s h t n) :=
  Frame.step _ _ _ _ _ h0 (State.breakLock_frame s h t n) hw

theorem State.lockTaken_frame (s : State) (h : Nat) (m : Nat) (t : Nat) : Frame 8388656 s (State.lockTaken s h m t) := by
  unfold State.lockTaken
  try dsimp only
  repeat' first
    | with_reducible apply Frame.refl
    | with_reducible assumption
    | apply Eq.refl
    | with_reducible apply State.updHedge_step
    | with_reducible apply State.count_step
    | with_reducible apply Frame.foldl
    | with_reducible apply Frame.foldl_fst
    | split
    | with_reducible apply Frame.ite
    | intro _
    | dsimp only
theorem State.lockTaken_step (w0 : Nat) (a0 : State) (s : State) (h : Nat) (m : Nat) (t : Nat) (h0 : Frame w0 a0 s) (hw : 8388656 &&& w0 = 8388656) : Frame w0 a0 (State.lockTaken s h m t) :=
  Frame.step _ _ _ _ _ h0 (State.lockTaken_frame s h m t) hw

theorem State.lockStep_frame (s : State) (h : Nat) (x : HTxn) : Frame 9962544 s (State.lockStep s h x).1 := by
  unfold State.lockStep
  try dsimp only
  repeat' first
    | with_reducible apply Frame.refl
    | with_reducible assumption
    | apply Eq.refl
    | with_reducible apply State.updHedge_step
    | with_reducible apply State.lockTaken_step
    | with_reducible apply State.breakLock_step
    | with_reducible apply Frame.foldl
    | with_reducible apply Frame.foldl_fst
    | split
    | with_reducible apply Frame.ite
    | intro _
    | dsimp only
theorem State.lockStep_step (w0 : Nat) (a0 : State) (s : State) (h : Nat) (x : HTxn) (h0 : Frame w0 a0 s) (hw : 9962544 &&& w0 = 9962544) : Frame w0 a0 (State.lockStep s h x).1 :=
  Frame.step _ _ _ _ _ h0 (State.lockStep_frame s h x) hw

theorem State.serve_frame (s : State) (h : Nat) (x : HTxn) : Frame 34359738108 s (State.serve s h x).1 := by
  unfold State.serve
  try dsimp only
  repeat' first
    | with_reducible apply Frame.refl
    | with_reducible assumption
    | apply Eq.refl
    | with_reducible apply State.hdgLocal_step
    | (with_reducible refine Frame.of_pair (by with_reducible assumption) (State.hdgLocal_step _ _ _ _ _ _ _ _ _ ?_ ?_))
    | with_reducible apply State.updHedge_step
    | with_reducible apply State.busWrite_step
    | (with_reducible refine Frame.of_pair (by with_reducible assumption) (State.busWrite_step _ _ _ _ _ _ ?_ ?_))
    | with_reducible apply State.hdgError_step
    | with_reducible apply State.busRead_step
    | (with_reducible refine Frame.of_pair (by with_reducible assumption) (State.busRead_step _ _ _ _ _ _ ?_ ?_))
    | with_reducible apply Frame.foldl
    | with_reducible apply Frame.foldl_fst
    | split
    | with_reducible apply Frame.ite
    | intro _
    | dsimp only
theorem State.serve_step (w0 : Nat) (a0 : State) (s : State) (h : Nat) (x : HTxn) (h0 : Frame w0 a0 s) (hw : 34359738108 &&& w0 = 34359738108) : Frame w0 a0 (State.serve s h x).1 :=
  Frame.step _ _ _ _ _ h0 (State.serve_frame s h x) hw

theorem State.countHeld_frame (s : State) (h : Nat) (m : Nat) (t : Nat) (x4 : TxnState) : Frame 48 s (State.countHeld s h m t x4) := by
  unfold State.countHeld
  try dsimp only
  repeat' first
    | with_reducible apply Frame.refl
    | with_reducible assumption
    | apply Eq.refl
    | with_reducible apply State.count_step
    | with_reducible apply Frame.foldl
    | with_reducible apply Frame.foldl_fst
    | split
    | with_reducible apply Frame.ite
    | intro _
    | dsimp only
theorem State.countHeld_step (w0 : Nat) (a0 : State) (s : State) (h : Nat) (m : Nat) (t : Nat) (x4 : TxnState) (h0 : Frame w0 a0 s) (hw : 48 &&& w0 = 48) : Frame w0 a0 (State.countHeld s h m t x4) :=
  Frame.step _ _ _ _ _ h0 (State.countHeld_frame s h m t x4) hw

theorem State.addTxn_frame (s : State) (h : Nat) (x : HTxn) : Frame 8388608 s (State.addTxn s h x) := by
  unfold State.addTxn
  try dsimp only
  repeat' first
    | with_reducible apply Frame.refl
    | with_reducible assumption
    | apply Eq.refl
    | with_reducible apply State.updHedge_step
    | with_reducible apply Frame.foldl
    | with_reducible apply Frame.foldl_fst
    | split
    | with_reducible apply Frame.ite
    | intro _
    | dsimp only
theorem State.addTxn_step (w0 : Nat) (a0 : State) (s : State) (h : Nat) (x : HTxn) (h0 : Frame w0 a0 s) (hw : 8388608 &&& w0 = 8388608) : Frame w0 a0 (State.addTxn s h x) :=
  Frame.step _ _ _ _ _ h0 (State.addTxn_frame s h x) hw

theorem State.txnOf_frame (s : State) (h : Nat) (r : HReq) (org : Option (Nat × Nat)) : Frame 9962544 s (State.txnOf s h r org).1 := by
  unfold State.txnOf
  try dsimp only
  repeat' first
    | with_reducible apply Frame.refl
    | with_reducible assumption
    | apply Eq.refl
    | with_reducible apply State.hdgLocal_step
    | (with_reducible refine Frame.of_pair (by with_reducible assumption) (State.hdgLocal_step _ _ _ _ _ _ _ _ _ ?_ ?_))
    | with_reducible apply State.countHeld_step
    | with_reducible apply Frame.foldl
    | with_reducible apply Frame.foldl_fst
    | split
    | with_reducible apply Frame.ite
    | intro _
    | dsimp only
theorem State.txnOf_step (w0 : Nat) (a0 : State) (s : State) (h : Nat) (r : HReq) (org : Option (Nat × Nat)) (h0 : Frame w0 a0 s) (hw : 9962544 &&& w0 = 9962544) : Frame w0 a0 (State.txnOf s h r org).1 :=
  Frame.step _ _ _ _ _ h0 (State.txnOf_frame s h r org) hw

theorem State.crossBack_frame (s : State) (h : Nat) (x : HTxn) : Frame 8388608 s (State.crossBack s h x) := by
  unfold State.crossBack
  try dsimp only
  repeat' first
    | with_reducible apply Frame.refl
    | with_reducible assumption
    | apply Eq.refl
    | with_reducible apply State.updHedge_step
    | with_reducible apply Frame.foldl
    | with_reducible apply Frame.foldl_fst
    | split
    | with_reducible apply Frame.ite
    | intro _
    | dsimp only
theorem State.crossBack_step (w0 : Nat) (a0 : State) (s : State) (h : Nat) (x : HTxn) (h0 : Frame w0 a0 s) (hw : 8388608 &&& w0 = 8388608) : Frame w0 a0 (State.crossBack s h x) :=
  Frame.step _ _ _ _ _ h0 (State.crossBack_frame s h x) hw

theorem State.arriveTxn_frame (s : State) (h : Nat) (r : HReq) (org : Option (Nat × Nat)) : Frame 9962544 s (State.arriveTxn s h r org) := by
  unfold State.arriveTxn
  try dsimp only
  repeat' first
    | with_reducible apply Frame.refl
    | with_reducible assumption
    | apply Eq.refl
    | with_reducible apply State.txnOf_step
    | (with_reducible refine Frame.of_pair (by with_reducible assumption) (State.txnOf_step _ _ _ _ _ _ ?_ ?_))
    | with_reducible apply State.crossBack_step
    | with_reducible apply State.addTxn_step
    | with_reducible apply Frame.foldl
    | with_reducible apply Frame.foldl_fst
    | split
    | with_reducible apply Frame.ite
    | intro _
    | dsimp only
theorem State.arriveTxn_step (w0 : Nat) (a0 : State) (s : State) (h : Nat) (r : HReq) (org : Option (Nat × Nat)) (h0 : Frame w0 a0 s) (hw : 9962544 &&& w0 = 9962544) : Frame w0 a0 (State.arriveTxn s h r org) :=
  Frame.step _ _ _ _ _ h0 (State.arriveTxn_frame s h r org) hw

theorem State.request_frame (s : State) (h : Nat) (r : HReq) : Frame 9962544 s (State.request s h r) := by
  unfold State.request
  try dsimp only
  repeat' first
    | with_reducible apply Frame.refl
    | with_reducible assumption
    | apply Eq.refl
    | with_reducible apply State.arriveTxn_step
    | with_reducible apply Frame.foldl
    | with_reducible apply Frame.foldl_fst
    | split
    | with_reducible apply Frame.ite
    | intro _
    | dsimp only
theorem State.request_step (w0 : Nat) (a0 : State) (s : State) (h : Nat) (r : HReq) (h0 : Frame w0 a0 s) (hw : 9962544 &&& w0 = 9962544) : Frame w0 a0 (State.request s h r) :=
  Frame.step _ _ _ _ _ h0 (State.request_frame s h r) hw

theorem execHedgeRequest_frame (h : Hub) (r : HReq) (s : State) : Completes 9962544 s (execHedgeRequest h r s) := by
  unfold execHedgeRequest
  try dsimp only
  repeat' first
    | with_reducible apply Completes.intro
    | with_reducible apply Frame.refl
    | with_reducible assumption
    | apply Eq.refl
    | with_reducible apply State.request_step
    | with_reducible apply Frame.foldl
    | with_reducible apply Frame.foldl_fst
    | split
    | with_reducible apply Frame.ite
    | intro _
    | dsimp only
theorem execHedgeRequest_after (w0 : Nat) (a0 : State) (h : Hub) (r : HReq) (s : State) (h0 : Frame w0 a0 s) (hw : 9962544 &&& w0 = 9962544) : Completes w0 a0 (execHedgeRequest h r s) :=
  Completes.step _ _ _ _ _ h0 (execHedgeRequest_frame h r s) hw

theorem State.setTxn_frame (s : State) (h : Nat) (i : Nat) (f : HTxn → HTxn) : Frame 8388608 s (State.setTxn s h i f) := by
  unfold State.setTxn
  try dsimp only
  repeat' first
    | with_reducible apply Frame.refl
    | with_reducible assumption
    | apply Eq.refl
    | with_reducible apply State.updHedge_step
    | with_reducible apply Frame.foldl
    | with_reducible apply Frame.foldl_fst
    | split
    | with_reducible apply Frame.ite
    | intro _
    | dsimp only
theorem State.setTxn_step (w0 : Nat) (a0 : State) (s : State) (h : Nat) (i : Nat) (f : HTxn → HTxn) (h0 : Frame w0 a0 s) (hw : 8388608 &&& w0 = 8388608) : Frame w0 a0 (State.setTxn s h i f) :=
  Frame.step _ _ _ _ _ h0 (State.setTxn_frame s h i f) hw

theorem State.doneAt_frame (s : State) (h : Nat) (i : Nat) (x : HTxn) (r : Nat × Nat × Line) : Frame 8388608 s (State.doneAt s h i x r) := by
  unfold State.doneAt
  try dsimp only
  repeat' first
    | with_reducible apply Frame.refl
    | with_reducible assumption
    | apply Eq.refl
    | with_reducible apply State.crossBack_step
    | with_reducible apply State.updHedge_step
    | with_reducible apply State.setTxn_step
    | with_reducible apply Frame.foldl
    | with_reducible apply Frame.foldl_fst
    | split
    | with_reducible apply Frame.ite
    | intro _
    | dsimp only
theorem State.doneAt_step (w0 : Nat) (a0 : State) (s : State) (h : Nat) (i : Nat) (x : HTxn) (r : Nat × Nat × Line) (h0 : Frame w0 a0 s) (hw : 8388608 &&& w0 = 8388608) : Frame w0 a0 (State.doneAt s h i x r) :=
  Frame.step _ _ _ _ _ h0 (State.doneAt_frame s h i x r) hw

theorem State.crossAt_frame (s : State) (h : Nat) (i : Nat) (x : HTxn) : Frame 9962544 s (State.crossAt s h i x) := by
  unfold State.crossAt
  try dsimp only
  repeat' first
    | with_reducible apply Frame.refl
    | with_reducible assumption
    | apply Eq.refl
    | with_reducible apply State.hdgLocal_step
    | (with_reducible refine Frame.of_pair (by with_reducible assumption) (State.hdgLocal_step _ _ _ _ _ _ _ _ _ ?_ ?_))
    | with_reducible apply State.doneAt_step
    | with_reducible apply State.arriveTxn_step
    | with_reducible apply State.setTxn_step
    | with_reducible apply Frame.foldl
    | with_reducible apply Frame.foldl_fst
    | split
    | with_reducible apply Frame.ite
    | intro _
    | dsimp only
theorem State.crossAt_step (w0 : Nat) (a0 : State) (s : State) (h : Nat) (i : Nat) (x : HTxn) (h0 : Frame w0 a0 s) (hw : 9962544 &&& w0 = 9962544) : Frame w0 a0 (State.crossAt s h i x) :=
  Frame.step _ _ _ _ _ h0 (State.crossAt_frame s h i x) hw

theorem State.grantAt_frame (s : State) (h : Nat) (i : Nat) (x : HTxn) : Frame 34359738108 s (State.grantAt s h i x) := by
  unfold State.grantAt
  try dsimp only
  repeat' first
    | with_reducible apply Frame.refl
    | with_reducible assumption
    | apply Eq.refl
    | with_reducible apply State.lockStep_step
    | (with_reducible refine Frame.of_pair (by with_reducible assumption) (State.lockStep_step _ _ _ _ _ ?_ ?_))
    | with_reducible apply State.doneAt_step
    | with_reducible apply State.crossAt_step
    | with_reducible apply State.serve_step
    | (with_reducible refine Frame.of_pair (by with_reducible assumption) (State.serve_step _ _ _ _ _ ?_ ?_))
    | with_reducible apply State.updHedge_step
    | with_reducible apply Frame.foldl
    | with_reducible apply Frame.foldl_fst
    | split
    | with_reducible apply Frame.ite
    | intro _
    | dsimp only
theorem State.grantAt_step (w0 : Nat) (a0 : State) (s : State) (h : Nat) (i : Nat) (x : HTxn) (h0 : Frame w0 a0 s) (hw : 34359738108 &&& w0 = 34359738108) : Frame w0 a0 (State.grantAt s h i x) :=
  Frame.step _ _ _ _ _ h0 (State.grantAt_frame s h i x) hw

theorem State.grantOne_frame (s : State) (h : Nat) (t : Nat) : Frame 34359738108 s (State.grantOne s h t) := by
  unfold State.grantOne
  try dsimp only
  repeat' first
    | with_reducible apply Frame.refl
    | with_reducible assumption
    | apply Eq.refl
    | with_reducible apply State.grantAt_step
    | with_reducible apply Frame.foldl
    | with_reducible apply Frame.foldl_fst
    | split
    | with_reducible apply Frame.ite
    | intro _
    | dsimp only
theorem State.grantOne_step (w0 : Nat) (a0 : State) (s : State) (h : Nat) (t : Nat) (h0 : Frame w0 a0 s) (hw : 34359738108 &&& w0 = 34359738108) : Frame w0 a0 (State.grantOne s h t) :=
  Frame.step _ _ _ _ _ h0 (State.grantOne_frame s h t) hw

theorem State.hedgeCk_frame (s : State) : Frame 34359738108 s (State.hedgeCk s) := by
  unfold State.hedgeCk
  try dsimp only
  repeat' first
    | with_reducible apply Frame.refl
    | with_reducible assumption
    | apply Eq.refl
    | with_reducible apply State.hdgForget_step
    | with_reducible apply State.grantOne_step
    | with_reducible apply Frame.foldl
    | with_reducible apply Frame.foldl_fst
    | split
    | with_reducible apply Frame.ite
    | intro _
    | dsimp only
theorem State.hedgeCk_step (w0 : Nat) (a0 : State) (s : State) (h0 : Frame w0 a0 s) (hw : 34359738108 &&& w0 = 34359738108) : Frame w0 a0 (State.hedgeCk s) :=
  Frame.step _ _ _ _ _ h0 (State.hedgeCk_frame s) hw

theorem State.respond_frame (s : State) (h : Nat) (m : Nat) (id : BitVec 5) : Frame 8389248 s (State.respond s h m id) := by
  unfold State.respond
  try dsimp only
  repeat' first
    | with_reducible apply Frame.refl
    | with_reducible assumption
    | apply Eq.refl
    | with_reducible apply State.updHedge_step
    | with_reducible apply State.answer_step
    | with_reducible apply Frame.foldl
    | with_reducible apply Frame.foldl_fst
    | split
    | with_reducible apply Frame.ite
    | intro _
    | dsimp only
theorem State.respond_step (w0 : Nat) (a0 : State) (s : State) (h : Nat) (m : Nat) (id : BitVec 5) (h0 : Frame w0 a0 s) (hw : 8389248 &&& w0 = 8389248) : Frame w0 a0 (State.respond s h m id) :=
  Frame.step _ _ _ _ _ h0 (State.respond_frame s h m id) hw

theorem execHedgeResponse_frame (h : Hub) (m : Master) (id : BitVec 5) (s : State) : Completes 8389248 s (execHedgeResponse h m id s) := by
  unfold execHedgeResponse
  try dsimp only
  repeat' first
    | with_reducible apply Completes.intro
    | with_reducible apply Frame.refl
    | with_reducible assumption
    | apply Eq.refl
    | with_reducible apply State.respond_step
    | with_reducible apply Frame.foldl
    | with_reducible apply Frame.foldl_fst
    | split
    | with_reducible apply Frame.ite
    | intro _
    | dsimp only
theorem execHedgeResponse_after (w0 : Nat) (a0 : State) (h : Hub) (m : Master) (id : BitVec 5) (s : State) (h0 : Frame w0 a0 s) (hw : 8389248 &&& w0 = 8389248) : Completes w0 a0 (execHedgeResponse h m id s) :=
  Completes.step _ _ _ _ _ h0 (execHedgeResponse_frame h m id s) hw

theorem State.releaseAt_frame (h : Nat) (m : Nat) (s : State) (i : Nat) : Frame 8388656 s (State.releaseAt h m s i) := by
  unfold State.releaseAt
  try dsimp only
  repeat' first
    | with_reducible apply Frame.refl
    | with_reducible assumption
    | apply Eq.refl
    | with_reducible apply State.setTxn_step
    | with_reducible apply State.countHeld_step
    | with_reducible apply Frame.foldl
    | with_reducible apply Frame.foldl_fst
    | split
    | with_reducible apply Frame.ite
    | intro _
    | dsimp only
theorem State.releaseAt_step (w0 : Nat) (a0 : State) (h : Nat) (m : Nat) (s : State) (i : Nat) (h0 : Frame w0 a0 s) (hw : 8388656 &&& w0 = 8388656) : Frame w0 a0 (State.releaseAt h m s i) :=
  Frame.step _ _ _ _ _ h0 (State.releaseAt_frame h m s i) hw

theorem State.releaseHeld_frame (s : State) (h : Nat) (m : Nat) : Frame 8388656 s (State.releaseHeld s h m) := by
  unfold State.releaseHeld
  try dsimp only
  repeat' first
    | with_reducible apply Frame.refl
    | with_reducible assumption
    | apply Eq.refl
    | with_reducible apply State.releaseAt_step
    | with_reducible apply Frame.foldl
    | with_reducible apply Frame.foldl_fst
    | split
    | with_reducible apply Frame.ite
    | intro _
    | dsimp only
theorem State.releaseHeld_step (w0 : Nat) (a0 : State) (s : State) (h : Nat) (m : Nat) (h0 : Frame w0 a0 s) (hw : 8388656 &&& w0 = 8388656) : Frame w0 a0 (State.releaseHeld s h m) :=
  Frame.step _ _ _ _ _ h0 (State.releaseHeld_frame s h m) hw

theorem execHoldbackRelease_frame (h : Hub) (m : Master) (s : State) : Completes 8388656 s (execHoldbackRelease h m s) := by
  unfold execHoldbackRelease
  try dsimp only
  repeat' first
    | with_reducible apply Completes.intro
    | with_reducible apply Frame.refl
    | with_reducible assumption
    | apply Eq.refl
    | with_reducible apply State.releaseHeld_step
    | with_reducible apply Frame.foldl
    | with_reducible apply Frame.foldl_fst
    | split
    | with_reducible apply Frame.ite
    | intro _
    | dsimp only
theorem execHoldbackRelease_after (w0 : Nat) (a0 : State) (h : Hub) (m : Master) (s : State) (h0 : Frame w0 a0 s) (hw : 8388656 &&& w0 = 8388656) : Completes w0 a0 (execHoldbackRelease h m s) :=
  Completes.step _ _ _ _ _ h0 (execHoldbackRelease_frame h m s) hw

theorem State.lockTimeout_frame (s : State) (h : Nat) (t : Nat) : Frame 9962544 s (State.lockTimeout s h t) := by
  unfold State.lockTimeout
  try dsimp only
  repeat' first
    | with_reducible apply Frame.refl
    | with_reducible assumption
    | apply Eq.refl
    | with_reducible apply State.breakLock_step
    | with_reducible apply Frame.foldl
    | with_reducible apply Frame.foldl_fst
    | split
    | with_reducible apply Frame.ite
    | intro _
    | dsimp only
theorem State.lockTimeout_step (w0 : Nat) (a0 : State) (s : State) (h : Nat) (t : Nat) (h0 : Frame w0 a0 s) (hw : 9962544 &&& w0 = 9962544) : Frame w0 a0 (State.lockTimeout s h t) :=
  Frame.step _ _ _ _ _ h0 (State.lockTimeout_frame s h t) hw

theorem execLockTimeout_frame (h : Hub) (t : Target) (s : State) : Completes 9962544 s (execLockTimeout h t s) := by
  unfold execLockTimeout
  try dsimp only
  repeat' first
    | with_reducible apply Completes.intro
    | with_reducible apply Frame.refl
    | with_reducible assumption
    | apply Eq.refl
    | with_reducible apply State.lockTimeout_step
    | with_reducible apply Frame.foldl
    | with_reducible apply Frame.foldl_fst
    | split
    | with_reducible apply Frame.ite
    | intro _
    | dsimp only
theorem execLockTimeout_after (w0 : Nat) (a0 : State) (h : Hub) (t : Target) (s : State) (h0 : Frame w0 a0 s) (hw : 9962544 &&& w0 = 9962544) : Completes w0 a0 (execLockTimeout h t s) :=
  Completes.step _ _ _ _ _ h0 (execLockTimeout_frame h t s) hw

end Sys2Proof.Machine
end

