-- ==== Sys2Proof/Laws/F_LodgeCsr.lean ====
section
/-!
SUPPORT. Frames of the operations of Machine/LodgeCsr.lean.
-/
namespace Sys2Proof.Machine

set_option linter.unusedTactic false
set_option linter.unreachableTactic false
set_option linter.unusedVariables false

theorem State.updCore_frame (s : State) (c : Nat) (f : CoreState → CoreState) : Frame 33554432 s (State.updCore s c f) := by
  unfold State.updCore
  try dsimp only
  repeat' first
    | with_reducible apply Frame.refl
    | with_reducible assumption
    | apply Eq.refl
    | with_reducible apply State.setCore_step
    | with_reducible apply Frame.foldl
    | with_reducible apply Frame.foldl_fst
    | split
    | with_reducible apply Frame.ite
    | intro _
    | dsimp only
theorem State.updCore_step (w0 : Nat) (a0 : State) (s : State) (c : Nat) (f : CoreState → CoreState) (h0 : Frame w0 a0 s) (hw : 33554432 &&& w0 = 33554432) : Frame w0 a0 (State.updCore s c f) :=
  Frame.step _ _ _ _ _ h0 (State.updCore_frame s c f) hw

theorem State.csrWrite_frame (s : State) (c : Nat) (n : Nat) (v : DWord) : Frame 33554432 s (State.csrWrite s c n v) := by
  unfold State.csrWrite
  try dsimp only
  repeat' first
    | with_reducible apply Frame.refl
    | with_reducible assumption
    | apply Eq.refl
    | with_reducible apply State.setCore_step
    | with_reducible apply Frame.foldl
    | with_reducible apply Frame.foldl_fst
    | split
    | with_reducible apply Frame.ite
    | intro _
    | dsimp only
theorem State.csrWrite_step (w0 : Nat) (a0 : State) (s : State) (c : Nat) (n : Nat) (v : DWord) (h0 : Frame w0 a0 s) (hw : 33554432 &&& w0 = 33554432) : Frame w0 a0 (State.csrWrite s c n v) :=
  Frame.step _ _ _ _ _ h0 (State.csrWrite_frame s c n v) hw

theorem State.exception_frame (s : State) (c : Nat) (cause : Nat) (tval : DWord) : Frame 649628720 s (State.exception s c cause tval) := by
  unfold State.exception
  try dsimp only
  repeat' first
    | with_reducible apply Frame.refl
    | with_reducible assumption
    | apply Eq.refl
    | with_reducible apply State.taskFault_step
    | with_reducible apply State.setCore_step
    | with_reducible apply Frame.foldl
    | with_reducible apply Frame.foldl_fst
    | split
    | with_reducible apply Frame.ite
    | intro _
    | dsimp only
theorem State.exception_step (w0 : Nat) (a0 : State) (s : State) (c : Nat) (cause : Nat) (tval : DWord) (h0 : Frame w0 a0 s) (hw : 649628720 &&& w0 = 649628720) : Frame w0 a0 (State.exception s c cause tval) :=
  Frame.step _ _ _ _ _ h0 (State.exception_frame s c cause tval) hw

theorem State.takeIrq_frame (s : State) (c : Nat) (k : Nat) : Frame 33554432 s (State.takeIrq s c k) := by
  unfold State.takeIrq
  try dsimp only
  repeat' first
    | with_reducible apply Frame.refl
    | with_reducible assumption
    | apply Eq.refl
    | with_reducible apply State.setCore_step
    | with_reducible apply Frame.foldl
    | with_reducible apply Frame.foldl_fst
    | split
    | with_reducible apply Frame.ite
    | intro _
    | dsimp only
theorem State.takeIrq_step (w0 : Nat) (a0 : State) (s : State) (c : Nat) (k : Nat) (h0 : Frame w0 a0 s) (hw : 33554432 &&& w0 = 33554432) : Frame w0 a0 (State.takeIrq s c k) :=
  Frame.step _ _ _ _ _ h0 (State.takeIrq_frame s c k) hw

theorem State.coreXlate_frame (s : State) (c : Nat) (priv : Nat) (va : Nat) (write : Bool) (exec : Bool) : Frame 9962544 s (State.coreXlate s c priv va write exec).1 := by
  unfold State.coreXlate
  try dsimp only
  repeat' first
    | with_reducible apply Frame.refl
    | with_reducible assumption
    | apply Eq.refl
    | with_reducible apply State.translate_step
    | (with_reducible refine Frame.of_pair (by with_reducible assumption) (State.translate_step _ _ _ _ _ _ _ ?_ ?_))
    | with_reducible apply State.corePoison_step
    | with_reducible apply Frame.foldl
    | with_reducible apply Frame.foldl_fst
    | split
    | with_reducible apply Frame.ite
    | intro _
    | dsimp only
theorem State.coreXlate_step (w0 : Nat) (a0 : State) (s : State) (c : Nat) (priv : Nat) (va : Nat) (write : Bool) (exec : Bool) (h0 : Frame w0 a0 s) (hw : 9962544 &&& w0 = 9962544) : Frame w0 a0 (State.coreXlate s c priv va write exec).1 :=
  Frame.step _ _ _ _ _ h0 (State.coreXlate_frame s c priv va write exec) hw

theorem State.dataAt_frame (s : State) (c : Nat) (va : Nat) (n : Nat) (write : Bool) : Frame 9962544 s (State.dataAt s c va n write).1 := by
  unfold State.dataAt
  try dsimp only
  repeat' first
    | with_reducible apply Frame.refl
    | with_reducible assumption
    | apply Eq.refl
    | with_reducible apply State.coreXlate_step
    | (with_reducible refine Frame.of_pair (by with_reducible assumption) (State.coreXlate_step _ _ _ _ _ _ _ _ ?_ ?_))
    | with_reducible apply Frame.foldl
    | with_reducible apply Frame.foldl_fst
    | split
    | with_reducible apply Frame.ite
    | intro _
    | dsimp only
theorem State.dataAt_step (w0 : Nat) (a0 : State) (s : State) (c : Nat) (va : Nat) (n : Nat) (write : Bool) (h0 : Frame w0 a0 s) (hw : 9962544 &&& w0 = 9962544) : Frame w0 a0 (State.dataAt s c va n write).1 :=
  Frame.step _ _ _ _ _ h0 (State.dataAt_frame s c va n write) hw

theorem State.coreGet_frame (s : State) (c : Nat) (pa : Nat) (pb : Nat) (n : Nat) (e : Ecc) : Frame 45647540 s (State.coreGet s c pa pb n e).1 := by
  unfold State.coreGet
  try dsimp only
  repeat' first
    | with_reducible apply Frame.refl
    | with_reducible assumption
    | apply Eq.refl
    | with_reducible apply State.coreHedge_step
    | (with_reducible refine Frame.of_pair (by with_reducible assumption) (State.coreHedge_step _ _ _ _ _ _ _ _ ?_ ?_))
    | with_reducible apply State.busRegRead_step
    | (with_reducible refine Frame.of_pair (by with_reducible assumption) (State.busRegRead_step _ _ _ _ _ _ ?_ ?_))
    | with_reducible apply State.coreRead_step
    | (with_reducible refine Frame.of_pair (by with_reducible assumption) (State.coreRead_step _ _ _ _ _ _ _ _ ?_ ?_))
    | with_reducible apply Frame.foldl
    | with_reducible apply Frame.foldl_fst
    | split
    | with_reducible apply Frame.ite
    | intro _
    | dsimp only
theorem State.coreGet_step (w0 : Nat) (a0 : State) (s : State) (c : Nat) (pa : Nat) (pb : Nat) (n : Nat) (e : Ecc) (h0 : Frame w0 a0 s) (hw : 45647540 &&& w0 = 45647540) : Frame w0 a0 (State.coreGet s c pa pb n e).1 :=
  Frame.step _ _ _ _ _ h0 (State.coreGet_frame s c pa pb n e) hw

theorem State.corePut_frame (s : State) (c : Nat) (pa : Nat) (pb : Nat) (n : Nat) (v : DWord) : Frame 34359738108 s (State.corePut s c pa pb n v).1 := by
  unfold State.corePut
  try dsimp only
  repeat' first
    | with_reducible apply Frame.refl
    | with_reducible assumption
    | apply Eq.refl
    | with_reducible apply State.coreHedge_step
    | (with_reducible refine Frame.of_pair (by with_reducible assumption) (State.coreHedge_step _ _ _ _ _ _ _ _ ?_ ?_))
    | with_reducible apply State.busRegWrite_step
    | with_reducible apply State.sbDrain_step
    | with_reducible apply State.coreStore_step
    | (with_reducible refine Frame.of_pair (by with_reducible assumption) (State.coreStore_step _ _ _ _ _ _ _ _ ?_ ?_))
    | with_reducible apply Frame.foldl
    | with_reducible apply Frame.foldl_fst
    | split
    | with_reducible apply Frame.ite
    | intro _
    | dsimp only
theorem State.corePut_step (w0 : Nat) (a0 : State) (s : State) (c : Nat) (pa : Nat) (pb : Nat) (n : Nat) (v : DWord) (h0 : Frame w0 a0 s) (hw : 34359738108 &&& w0 = 34359738108) : Frame w0 a0 (State.corePut s c pa pb n v).1 :=
  Frame.step _ _ _ _ _ h0 (State.corePut_frame s c pa pb n v) hw

theorem State.corePutNow_frame (s : State) (c : Nat) (pa : Nat) (pb : Nat) (bs : List Byte) : Frame 34359738108 s (State.corePutNow s c pa pb bs).1 := by
  unfold State.corePutNow
  try dsimp only
  repeat' first
    | with_reducible apply Frame.refl
    | with_reducible assumption
    | apply Eq.refl
    | with_reducible apply State.coreHedge_step
    | (with_reducible refine Frame.of_pair (by with_reducible assumption) (State.coreHedge_step _ _ _ _ _ _ _ _ ?_ ?_))
    | with_reducible apply State.busRegWrite_step
    | with_reducible apply State.coreWrite_step
    | with_reducible apply Frame.foldl
    | with_reducible apply Frame.foldl_fst
    | split
    | with_reducible apply Frame.ite
    | intro _
    | dsimp only
theorem State.corePutNow_step (w0 : Nat) (a0 : State) (s : State) (c : Nat) (pa : Nat) (pb : Nat) (bs : List Byte) (h0 : Frame w0 a0 s) (hw : 34359738108 &&& w0 = 34359738108) : Frame w0 a0 (State.corePutNow s c pa pb bs).1 :=
  Frame.step _ _ _ _ _ h0 (State.corePutNow_frame s c pa pb bs) hw

theorem State.loadVa_frame (s : State) (c : Nat) (va : Nat) (n : Nat) (e : Ecc) : Frame 45647540 s (State.loadVa s c va n e).1 := by
  unfold State.loadVa
  try dsimp only
  repeat' first
    | with_reducible apply Frame.refl
    | with_reducible assumption
    | apply Eq.refl
    | with_reducible apply State.dataAt_step
    | (with_reducible refine Frame.of_pair (by with_reducible assumption) (State.dataAt_step _ _ _ _ _ _ _ ?_ ?_))
    | with_reducible apply State.coreGet_step
    | (with_reducible refine Frame.of_pair (by with_reducible assumption) (State.coreGet_step _ _ _ _ _ _ _ _ ?_ ?_))
    | with_reducible apply Frame.foldl
    | with_reducible apply Frame.foldl_fst
    | split
    | with_reducible apply Frame.ite
    | intro _
    | dsimp only
theorem State.loadVa_step (w0 : Nat) (a0 : State) (s : State) (c : Nat) (va : Nat) (n : Nat) (e : Ecc) (h0 : Frame w0 a0 s) (hw : 45647540 &&& w0 = 45647540) : Frame w0 a0 (State.loadVa s c va n e).1 :=
  Frame.step _ _ _ _ _ h0 (State.loadVa_frame s c va n e) hw

theorem State.storeVa_frame (s : State) (c : Nat) (va : Nat) (n : Nat) (v : DWord) : Frame 34359738108 s (State.storeVa s c va n v).1 := by
  unfold State.storeVa
  try dsimp only
  repeat' first
    | with_reducible apply Frame.refl
    | with_reducible assumption
    | apply Eq.refl
    | with_reducible apply State.dataAt_step
    | (with_reducible refine Frame.of_pair (by with_reducible assumption) (State.dataAt_step _ _ _ _ _ _ _ ?_ ?_))
    | with_reducible apply State.corePut_step
    | (with_reducible refine Frame.of_pair (by with_reducible assumption) (State.corePut_step _ _ _ _ _ _ _ _ ?_ ?_))
    | with_reducible apply Frame.foldl
    | with_reducible apply Frame.foldl_fst
    | split
    | with_reducible apply Frame.ite
    | intro _
    | dsimp only
theorem State.storeVa_step (w0 : Nat) (a0 : State) (s : State) (c : Nat) (va : Nat) (n : Nat) (v : DWord) (h0 : Frame w0 a0 s) (hw : 34359738108 &&& w0 = 34359738108) : Frame w0 a0 (State.storeVa s c va n v).1 :=
  Frame.step _ _ _ _ _ h0 (State.storeVa_frame s c va n v) hw

theorem Frame.opt_ite {α : Type} (w : Nat) (s : State) (c : Prop) [Decidable c] (a b : Option (State × α))
    (ha : ∀ r, a = some r → Frame w s r.1) (hb : ∀ r, b = some r → Frame w s r.1) :
    ∀ r, (if c then a else b) = some r → Frame w s r.1 := by
  split
  · exact ha
  · exact hb
theorem Frame.opt_some {α : Type} (w : Nat) (s t : State) (v : α) (h : Frame w s t) :
    ∀ r, some (t, v) = some r → Frame w s r.1 := fun _ e => Option.some.inj e ▸ h
theorem State.csrRead_frame (s : State) (c n : Nat) : ∀ r : State × DWord, s.csrRead c n = some r → Frame 33554436 s r.1 := by
  unfold State.csrRead
  dsimp only
  repeat' first
    | with_reducible apply Frame.opt_ite
    | with_reducible apply Frame.opt_some
    | with_reducible apply Frame.refl
    | with_reducible apply State.useFree_step
    | with_reducible apply State.setCore_step
    | apply Eq.refl
  intro r h
  cases h
theorem State.csrRead_step (w0 : Nat) (a0 s : State) (c n : Nat) (r : State × DWord) (e : s.csrRead c n = some r)
    (h : Frame w0 a0 s) (hw : 33554436 &&& w0 = 33554436) : Frame w0 a0 r.1 :=
  Frame.step _ _ _ _ _ h (State.csrRead_frame s c n r e) hw
end Sys2Proof.Machine
end

