-- ==== Sys2Proof/Laws/F_Porter.lean ====
section
/-!
SUPPORT. Frames of the operations of Machine/Porter.lean.
-/
namespace Sys2Proof.Machine

set_option linter.unusedTactic false
set_option linter.unreachableTactic false
set_option linter.unusedVariables false

theorem State.porterPiece_frame (xl : XlateFn) (c : Nat) (n : Nat) (s : State) (x : Xfer) : ∀ w0 a0, Frame w0 a0 s → (∀ t va w, Frame w0 a0 t → Frame w0 a0 (xl t va w).1) → 34359738108 &&& w0 = 34359738108 → Frame w0 a0 (State.porterPiece xl c n s x).1 := by
  intro w0 a0 h hx hw
  unfold State.porterPiece
  dsimp only
  have hp : ∀ t w, Frame w0 a0 t → Frame w0 a0 (t.corePoison c w) := fun t w k =>
    Frame.step _ 34359738108 _ _ _ k (State.corePoison_step _ _ _ _ _ (Frame.refl _ _) rfl) hw
  have h1 := hx s x.src false h
  generalize xl s x.src false = a at h1 ⊢
  split
  · exact h1
  · exact h1
  · exact hp _ _ h1
  · rename_i pa pb _
    have h2 : Frame w0 a0 (a.1.coreGet c pa pb n .clean).1 :=
      Frame.step _ 34359738108 _ _ _ h1 (State.coreGet_step _ _ _ _ _ _ _ _ (Frame.refl _ _) rfl) hw
    generalize a.1.coreGet c pa pb n .clean = r at h2 ⊢
    split
    · exact h2
    · have h3 := hx r.1 x.dst true h2
      generalize xl r.1 x.dst true = b at h3 ⊢
      split
      · exact h3
      · exact h3
      · exact hp _ _ h3
      · exact Frame.step _ 34359738108 _ _ _ h3 (State.corePutNow_step _ _ _ _ _ _ _ (Frame.refl _ _) rfl) hw

theorem State.porterMove_frame (xl : XlateFn) (c : Nat) (x2 : Nat) (x3 : State) (x4 : Xfer) : ∀ w0 a0, Frame w0 a0 x3 → (∀ t va w, Frame w0 a0 t → Frame w0 a0 (xl t va w).1) → 34359738108 &&& w0 = 34359738108 → Frame w0 a0 (State.porterMove xl c x2 x3 x4).1 := by
  intro w0 a0 h hx hw
  induction x2 generalizing x3 x4 with
  | zero => exact h
  | succ f ih =>
    unfold State.porterMove
    split
    · exact h
    · dsimp only
      have h1 := State.porterPiece_frame xl c (min x4.len (min (64 - x4.src % 64) (64 - x4.dst % 64))) x3 x4 w0 a0 h hx hw
      generalize State.porterPiece xl c (min x4.len (min (64 - x4.src % 64) (64 - x4.dst % 64))) x3 x4 = r at h1 ⊢
      split
      · exact ih _ _ h1
      · exact h1

theorem State.startPorter_frame (s : State) (c : Nat) (len : Nat) : Frame 34359738108 s (State.startPorter s c len).1 := by
  unfold State.startPorter
  try dsimp only
  repeat' first
    | with_reducible apply Frame.refl
    | with_reducible assumption
    | apply Eq.refl
    | with_reducible apply State.setCore_step
    | with_reducible apply State.coreXlate_step
    | (with_reducible refine Frame.of_pair (by with_reducible assumption) (State.coreXlate_step _ _ _ _ _ _ _ _ ?_ ?_))
    | with_reducible refine State.porterMove_frame _ _ _ _ _ _ _ ?_ ?_ ?_
    | with_reducible apply State.sbDrain_step
    | with_reducible apply State.updCore_step
    | with_reducible apply State.exception_step
    | with_reducible apply Frame.foldl
    | with_reducible apply Frame.foldl_fst
    | split
    | with_reducible apply Frame.ite
    | intro _
    | dsimp only
theorem State.startPorter_step (w0 : Nat) (a0 : State) (s : State) (c : Nat) (len : Nat) (h0 : Frame w0 a0 s) (hw : 34359738108 &&& w0 = 34359738108) : Frame w0 a0 (State.startPorter s c len).1 :=
  Frame.step _ _ _ _ _ h0 (State.startPorter_frame s c len) hw

theorem State.moveChunk_frame (s : State) (k : Nat) (c : Nat) (x : DWord × DWord × Nat) : Frame 34359738108 s (State.moveChunk s k c x) := by
  unfold State.moveChunk
  try dsimp only
  repeat' first
    | with_reducible apply Frame.refl
    | with_reducible assumption
    | apply Eq.refl
    | with_reducible apply State.translateFor_step
    | (with_reducible refine Frame.of_pair (by with_reducible assumption) (State.translateFor_step _ _ _ _ _ _ _ ?_ ?_))
    | with_reducible refine State.porterMove_frame _ _ _ _ _ _ _ ?_ ?_ ?_
    | with_reducible apply State.setTask_step
    | with_reducible apply State.endTask_step
    | with_reducible apply State.taskFault_step
    | with_reducible apply Frame.foldl
    | with_reducible apply Frame.foldl_fst
    | split
    | with_reducible apply Frame.ite
    | intro _
    | dsimp only
theorem State.moveChunk_step (w0 : Nat) (a0 : State) (s : State) (k : Nat) (c : Nat) (x : DWord × DWord × Nat) (h0 : Frame w0 a0 s) (hw : 34359738108 &&& w0 = 34359738108) : Frame w0 a0 (State.moveChunk s k c x) :=
  Frame.step _ _ _ _ _ h0 (State.moveChunk_frame s k c x) hw

theorem State.nextChunk_frame (s : State) (k : Nat) (c : Nat) : Frame 34078736 s (State.nextChunk s k c) := by
  unfold State.nextChunk
  try dsimp only
  repeat' first
    | with_reducible apply Frame.refl
    | with_reducible assumption
    | apply Eq.refl
    | with_reducible apply State.suspendTask_step
    | with_reducible apply State.copyChunk_step
    | with_reducible apply Frame.foldl
    | with_reducible apply Frame.foldl_fst
    | split
    | with_reducible apply Frame.ite
    | intro _
    | dsimp only
theorem State.nextChunk_step (w0 : Nat) (a0 : State) (s : State) (k : Nat) (c : Nat) (h0 : Frame w0 a0 s) (hw : 34078736 &&& w0 = 34078736) : Frame w0 a0 (State.nextChunk s k c) :=
  Frame.step _ _ _ _ _ h0 (State.nextChunk_frame s k c) hw

theorem State.porterComplete_frame (s : State) (c : Nat) : Frame 34359738108 s (State.porterComplete s c) := by
  unfold State.porterComplete
  try dsimp only
  repeat' first
    | with_reducible apply Frame.refl
    | with_reducible assumption
    | apply Eq.refl
    | with_reducible apply State.updCore_step
    | with_reducible apply State.nextChunk_step
    | with_reducible apply State.moveChunk_step
    | with_reducible apply State.suspendTask_step
    | with_reducible apply Frame.foldl
    | with_reducible apply Frame.foldl_fst
    | split
    | with_reducible apply Frame.ite
    | intro _
    | dsimp only
theorem State.porterComplete_step (w0 : Nat) (a0 : State) (s : State) (c : Nat) (h0 : Frame w0 a0 s) (hw : 34359738108 &&& w0 = 34359738108) : Frame w0 a0 (State.porterComplete s c) :=
  Frame.step _ _ _ _ _ h0 (State.porterComplete_frame s c) hw

theorem execPorterComplete_frame (c : Core) (s : State) : Completes 34359738108 s (execPorterComplete c s) := by
  unfold execPorterComplete
  try dsimp only
  repeat' first
    | with_reducible apply Completes.intro
    | with_reducible apply Frame.refl
    | with_reducible assumption
    | apply Eq.refl
    | with_reducible refine State.orWait_frame _ _ _ _ ?_ ?_ ?_
    | with_reducible apply State.porterComplete_step
    | with_reducible apply Frame.foldl
    | with_reducible apply Frame.foldl_fst
    | split
    | with_reducible apply Frame.ite
    | intro _
    | dsimp only
theorem execPorterComplete_after (w0 : Nat) (a0 : State) (c : Core) (s : State) (h0 : Frame w0 a0 s) (hw : 34359738108 &&& w0 = 34359738108) : Completes w0 a0 (execPorterComplete c s) :=
  Completes.step _ _ _ _ _ h0 (execPorterComplete_frame c s) hw

end Sys2Proof.Machine
end

