-- ==== Sys2Proof/Laws/F_Xkzq.lean ====
section
/-!
SUPPORT. Frames of the operations of Machine/Xkzq.lean.
-/
namespace Sys2Proof.Machine

set_option linter.unusedTactic false
set_option linter.unreachableTactic false
set_option linter.unusedVariables false

theorem State.retire_frame (s : State) (c : Nat) (len : Nat) (rd : Nat) (v : DWord) : Frame 33554432 s (State.retire s c len rd v) := by
  unfold State.retire
  try dsimp only
  repeat' first
    | with_reducible apply Frame.refl
    | with_reducible assumption
    | apply Eq.refl
    | with_reducible apply State.updCore_step
    | with_reducible apply Frame.foldl
    | with_reducible apply Frame.foldl_fst
    | split
    | with_reducible apply Frame.ite
    | intro _
    | dsimp only
theorem State.retire_step (w0 : Nat) (a0 : State) (s : State) (c : Nat) (len : Nat) (rd : Nat) (v : DWord) (h0 : Frame w0 a0 s) (hw : 33554432 &&& w0 = 33554432) : Frame w0 a0 (State.retire s c len rd v) :=
  Frame.step _ _ _ _ _ h0 (State.retire_frame s c len rd v) hw

theorem State.illegal_frame (s : State) (c : Nat) (w : Nat) : Frame 649628720 s (State.illegal s c w) := by
  unfold State.illegal
  try dsimp only
  repeat' first
    | with_reducible apply Frame.refl
    | with_reducible assumption
    | apply Eq.refl
    | with_reducible apply State.exception_step
    | with_reducible apply Frame.foldl
    | with_reducible apply Frame.foldl_fst
    | split
    | with_reducible apply Frame.ite
    | intro _
    | dsimp only
theorem State.illegal_step (w0 : Nat) (a0 : State) (s : State) (c : Nat) (w : Nat) (h0 : Frame w0 a0 s) (hw : 649628720 &&& w0 = 649628720) : Frame w0 a0 (State.illegal s c w) :=
  Frame.step _ _ _ _ _ h0 (State.illegal_frame s c w) hw

theorem State.kqCode_frame (s : State) (c : Nat) (queue : Bool) (write : Bool) (o : Nat) : Frame 9962544 s (State.kqCode s c queue write o).1 := by
  unfold State.kqCode
  try dsimp only
  repeat' first
    | with_reducible apply Frame.refl
    | with_reducible assumption
    | apply Eq.refl
    | with_reducible apply State.hdgAccess_step
    | (with_reducible refine Frame.of_pair (by with_reducible assumption) (State.hdgAccess_step _ _ _ _ _ _ _ _ _ ?_ ?_))
    | with_reducible apply Frame.foldl
    | with_reducible apply Frame.foldl_fst
    | split
    | with_reducible apply Frame.ite
    | intro _
    | dsimp only
theorem State.kqCode_step (w0 : Nat) (a0 : State) (s : State) (c : Nat) (queue : Bool) (write : Bool) (o : Nat) (h0 : Frame w0 a0 s) (hw : 9962544 &&& w0 = 9962544) : Frame w0 a0 (State.kqCode s c queue write o).1 :=
  Frame.step _ _ _ _ _ h0 (State.kqCode_frame s c queue write o) hw

theorem State.kqPush_frame (s : State) (c : Nat) (rd : Nat) (rs1 : Nat) (rs2 : Nat) : Frame 649629364 s (State.kqPush s c rd rs1 rs2) := by
  unfold State.kqPush
  try dsimp only
  repeat' first
    | with_reducible apply Frame.refl
    | with_reducible assumption
    | apply Eq.refl
    | with_reducible apply State.loadVa_step
    | (with_reducible refine Frame.of_pair (by with_reducible assumption) (State.loadVa_step _ _ _ _ _ _ _ ?_ ?_))
    | with_reducible apply State.sbDrain_step
    | with_reducible apply State.exception_step
    | with_reducible apply State.kqCode_step
    | (with_reducible refine Frame.of_pair (by with_reducible assumption) (State.kqCode_step _ _ _ _ _ _ _ ?_ ?_))
    | with_reducible apply State.retireKq_step
    | with_reducible apply State.offer_step
    | (with_reducible refine Frame.of_pair (by with_reducible assumption) (State.offer_step _ _ _ _ _ ?_ ?_))
    | with_reducible apply State.updCore_step
    | with_reducible apply Frame.foldl
    | with_reducible apply Frame.foldl_fst
    | split
    | with_reducible apply Frame.ite
    | intro _
    | dsimp only
theorem State.kqPush_step (w0 : Nat) (a0 : State) (s : State) (c : Nat) (rd : Nat) (rs1 : Nat) (rs2 : Nat) (h0 : Frame w0 a0 s) (hw : 649629364 &&& w0 = 649629364) : Frame w0 a0 (State.kqPush s c rd rs1 rs2) :=
  Frame.step _ _ _ _ _ h0 (State.kqPush_frame s c rd rs1 rs2) hw

theorem State.kqPop_frame (s : State) (c : Nat) (rd : Nat) (rs1 : Nat) (rs2 : Nat) (ue : Bool) : Frame 34359738108 s (State.kqPop s c rd rs1 rs2 ue) := by
  unfold State.kqPop
  try dsimp only
  repeat' first
    | with_reducible apply Frame.refl
    | with_reducible assumption
    | apply Eq.refl
    | with_reducible apply State.dataAt_step
    | (with_reducible refine Frame.of_pair (by with_reducible assumption) (State.dataAt_step _ _ _ _ _ _ _ ?_ ?_))
    | with_reducible apply State.exception_step
    | with_reducible apply State.kqCode_step
    | (with_reducible refine Frame.of_pair (by with_reducible assumption) (State.kqCode_step _ _ _ _ _ _ _ ?_ ?_))
    | with_reducible apply State.retireKq_step
    | with_reducible apply State.coreHedge_step
    | (with_reducible refine Frame.of_pair (by with_reducible assumption) (State.coreHedge_step _ _ _ _ _ _ _ _ ?_ ?_))
    | with_reducible apply State.popWith_step
    | (with_reducible refine Frame.of_pair (by with_reducible assumption) (State.popWith_step _ _ _ _ _ ?_ ?_))
    | with_reducible apply State.onPq_step
    | with_reducible apply State.corePutNow_step
    | (with_reducible refine Frame.of_pair (by with_reducible assumption) (State.corePutNow_step _ _ _ _ _ _ _ ?_ ?_))
    | with_reducible apply State.sbDrain_step
    | with_reducible apply Frame.foldl
    | with_reducible apply Frame.foldl_fst
    | split
    | with_reducible apply Frame.ite
    | intro _
    | dsimp only
theorem State.kqPop_step (w0 : Nat) (a0 : State) (s : State) (c : Nat) (rd : Nat) (rs1 : Nat) (rs2 : Nat) (ue : Bool) (h0 : Frame w0 a0 s) (hw : 34359738108 &&& w0 = 34359738108) : Frame w0 a0 (State.kqPop s c rd rs1 rs2 ue) :=
  Frame.step _ _ _ _ _ h0 (State.kqPop_frame s c rd rs1 rs2 ue) hw

theorem State.kqSig_frame (s : State) (c : Nat) (rd : Nat) (rs1 : Nat) (rs2 : Nat) : Frame 45648944 s (State.kqSig s c rd rs1 rs2) := by
  unfold State.kqSig
  try dsimp only
  repeat' first
    | with_reducible apply Frame.refl
    | with_reducible assumption
    | apply Eq.refl
    | with_reducible apply State.kqCode_step
    | (with_reducible refine Frame.of_pair (by with_reducible assumption) (State.kqCode_step _ _ _ _ _ _ _ ?_ ?_))
    | with_reducible apply State.sbDrain_step
    | with_reducible apply State.retireKq_step
    | with_reducible apply State.signal_step
    | with_reducible apply Frame.foldl
    | with_reducible apply Frame.foldl_fst
    | split
    | with_reducible apply Frame.ite
    | intro _
    | dsimp only
theorem State.kqSig_step (w0 : Nat) (a0 : State) (s : State) (c : Nat) (rd : Nat) (rs1 : Nat) (rs2 : Nat) (h0 : Frame w0 a0 s) (hw : 45648944 &&& w0 = 45648944) : Frame w0 a0 (State.kqSig s c rd rs1 rs2) :=
  Frame.step _ _ _ _ _ h0 (State.kqSig_frame s c rd rs1 rs2) hw

theorem State.kqWait_frame (s : State) (c : Nat) (rd : Nat) (rs1 : Nat) (rs2 : Nat) : Frame 43516976 s (State.kqWait s c rd rs1 rs2) := by
  unfold State.kqWait
  try dsimp only
  repeat' first
    | with_reducible apply Frame.refl
    | with_reducible assumption
    | apply Eq.refl
    | with_reducible apply State.kqCode_step
    | (with_reducible refine Frame.of_pair (by with_reducible assumption) (State.kqCode_step _ _ _ _ _ _ _ ?_ ?_))
    | with_reducible apply State.retireKq_step
    | with_reducible apply State.sigTake_step
    | (with_reducible refine Frame.of_pair (by with_reducible assumption) (State.sigTake_step _ _ _ _ ?_ ?_))
    | with_reducible apply State.updCore_step
    | with_reducible apply Frame.foldl
    | with_reducible apply Frame.foldl_fst
    | split
    | with_reducible apply Frame.ite
    | intro _
    | dsimp only
theorem State.kqWait_step (w0 : Nat) (a0 : State) (s : State) (c : Nat) (rd : Nat) (rs1 : Nat) (rs2 : Nat) (h0 : Frame w0 a0 s) (hw : 43516976 &&& w0 = 43516976) : Frame w0 a0 (State.kqWait s c rd rs1 rs2) :=
  Frame.step _ _ _ _ _ h0 (State.kqWait_frame s c rd rs1 rs2) hw

theorem execKqPush_frame (c : Core) (rd : Fin 32) (rs1 : Fin 32) (rs2 : Fin 32) (s : State) : Completes 649629364 s (execKqPush c rd rs1 rs2 s) := by
  unfold execKqPush
  try dsimp only
  repeat' first
    | with_reducible apply Completes.intro
    | with_reducible apply Frame.refl
    | with_reducible assumption
    | apply Eq.refl
    | with_reducible refine State.orWait_frame _ _ _ _ ?_ ?_ ?_
    | with_reducible apply State.kqPush_step
    | with_reducible apply Frame.foldl
    | with_reducible apply Frame.foldl_fst
    | split
    | with_reducible apply Frame.ite
    | intro _
    | dsimp only
theorem execKqPush_after (w0 : Nat) (a0 : State) (c : Core) (rd : Fin 32) (rs1 : Fin 32) (rs2 : Fin 32) (s : State) (h0 : Frame w0 a0 s) (hw : 649629364 &&& w0 = 649629364) : Completes w0 a0 (execKqPush c rd rs1 rs2 s) :=
  Completes.step _ _ _ _ _ h0 (execKqPush_frame c rd rs1 rs2 s) hw

theorem execKqPop_frame (c : Core) (rd : Fin 32) (rs1 : Fin 32) (rs2 : Fin 32) (ue : Bool) (s : State) : Completes 34359738108 s (execKqPop c rd rs1 rs2 ue s) := by
  unfold execKqPop
  try dsimp only
  repeat' first
    | with_reducible apply Completes.intro
    | with_reducible apply Frame.refl
    | with_reducible assumption
    | apply Eq.refl
    | with_reducible refine State.orWait_frame _ _ _ _ ?_ ?_ ?_
    | with_reducible apply State.kqPop_step
    | with_reducible apply Frame.foldl
    | with_reducible apply Frame.foldl_fst
    | split
    | with_reducible apply Frame.ite
    | intro _
    | dsimp only
theorem execKqPop_after (w0 : Nat) (a0 : State) (c : Core) (rd : Fin 32) (rs1 : Fin 32) (rs2 : Fin 32) (ue : Bool) (s : State) (h0 : Frame w0 a0 s) (hw : 34359738108 &&& w0 = 34359738108) : Completes w0 a0 (execKqPop c rd rs1 rs2 ue s) :=
  Completes.step _ _ _ _ _ h0 (execKqPop_frame c rd rs1 rs2 ue s) hw

theorem execKqSig_frame (c : Core) (rd : Fin 32) (rs1 : Fin 32) (rs2 : Fin 32) (s : State) : Completes 45648944 s (execKqSig c rd rs1 rs2 s) := by
  unfold execKqSig
  try dsimp only
  repeat' first
    | with_reducible apply Completes.intro
    | with_reducible apply Frame.refl
    | with_reducible assumption
    | apply Eq.refl
    | with_reducible refine State.orWait_frame _ _ _ _ ?_ ?_ ?_
    | with_reducible apply State.kqSig_step
    | with_reducible apply Frame.foldl
    | with_reducible apply Frame.foldl_fst
    | split
    | with_reducible apply Frame.ite
    | intro _
    | dsimp only
theorem execKqSig_after (w0 : Nat) (a0 : State) (c : Core) (rd : Fin 32) (rs1 : Fin 32) (rs2 : Fin 32) (s : State) (h0 : Frame w0 a0 s) (hw : 45648944 &&& w0 = 45648944) : Completes w0 a0 (execKqSig c rd rs1 rs2 s) :=
  Completes.step _ _ _ _ _ h0 (execKqSig_frame c rd rs1 rs2 s) hw

theorem execKqWait_frame (c : Core) (rd : Fin 32) (rs1 : Fin 32) (rs2 : Fin 32) (s : State) : Completes 43516976 s (execKqWait c rd rs1 rs2 s) := by
  unfold execKqWait
  try dsimp only
  repeat' first
    | with_reducible apply Completes.intro
    | with_reducible apply Frame.refl
    | with_reducible assumption
    | apply Eq.refl
    | with_reducible refine State.orWait_frame _ _ _ _ ?_ ?_ ?_
    | with_reducible apply State.kqWait_step
    | with_reducible apply Frame.foldl
    | with_reducible apply Frame.foldl_fst
    | split
    | with_reducible apply Frame.ite
    | intro _
    | dsimp only
theorem execKqWait_after (w0 : Nat) (a0 : State) (c : Core) (rd : Fin 32) (rs1 : Fin 32) (rs2 : Fin 32) (s : State) (h0 : Frame w0 a0 s) (hw : 43516976 &&& w0 = 43516976) : Completes w0 a0 (execKqWait c rd rs1 rs2 s) :=
  Completes.step _ _ _ _ _ h0 (execKqWait_frame c rd rs1 rs2 s) hw

theorem State.waitGrant_frame (s : State) (o : Nat) : Frame 33554448 s (State.waitGrant s o) := by
  unfold State.waitGrant
  try dsimp only
  repeat' first
    | with_reducible apply Frame.refl
    | with_reducible assumption
    | apply Eq.refl
    | with_reducible apply State.finishWait_step
    | with_reducible apply State.sigTake_step
    | (with_reducible refine Frame.of_pair (by with_reducible assumption) (State.sigTake_step _ _ _ _ ?_ ?_))
    | with_reducible apply Frame.foldl
    | with_reducible apply Frame.foldl_fst
    | split
    | with_reducible apply Frame.ite
    | intro _
    | dsimp only
theorem State.waitGrant_step (w0 : Nat) (a0 : State) (s : State) (o : Nat) (h0 : Frame w0 a0 s) (hw : 33554448 &&& w0 = 33554448) : Frame w0 a0 (State.waitGrant s o) :=
  Frame.step _ _ _ _ _ h0 (State.waitGrant_frame s o) hw

theorem execKqWaitGrant_frame (o : SigIx) (s : State) : Completes 33554448 s (execKqWaitGrant o s) := by
  unfold execKqWaitGrant
  try dsimp only
  repeat' first
    | with_reducible apply Completes.intro
    | with_reducible apply Frame.refl
    | with_reducible assumption
    | apply Eq.refl
    | with_reducible apply State.waitGrant_step
    | with_reducible apply Frame.foldl
    | with_reducible apply Frame.foldl_fst
    | split
    | with_reducible apply Frame.ite
    | intro _
    | dsimp only
theorem execKqWaitGrant_after (w0 : Nat) (a0 : State) (o : SigIx) (s : State) (h0 : Frame w0 a0 s) (hw : 33554448 &&& w0 = 33554448) : Completes w0 a0 (execKqWaitGrant o s) :=
  Completes.step _ _ _ _ _ h0 (execKqWaitGrant_frame o s) hw

theorem State.waitTimeout_frame (s : State) (c : Nat) : Frame 33554432 s (State.waitTimeout s c) := by
  unfold State.waitTimeout
  try dsimp only
  repeat' first
    | with_reducible apply Frame.refl
    | with_reducible assumption
    | apply Eq.refl
    | with_reducible apply State.finishWait_step
    | with_reducible apply Frame.foldl
    | with_reducible apply Frame.foldl_fst
    | split
    | with_reducible apply Frame.ite
    | intro _
    | dsimp only
theorem State.waitTimeout_step (w0 : Nat) (a0 : State) (s : State) (c : Nat) (h0 : Frame w0 a0 s) (hw : 33554432 &&& w0 = 33554432) : Frame w0 a0 (State.waitTimeout s c) :=
  Frame.step _ _ _ _ _ h0 (State.waitTimeout_frame s c) hw

theorem execKqWaitTimeout_frame (c : Core) (s : State) : Completes 33554432 s (execKqWaitTimeout c s) := by
  unfold execKqWaitTimeout
  try dsimp only
  repeat' first
    | with_reducible apply Completes.intro
    | with_reducible apply Frame.refl
    | with_reducible assumption
    | apply Eq.refl
    | with_reducible apply State.waitTimeout_step
    | with_reducible apply Frame.foldl
    | with_reducible apply Frame.foldl_fst
    | split
    | with_reducible apply Frame.ite
    | intro _
    | dsimp only
theorem execKqWaitTimeout_after (w0 : Nat) (a0 : State) (c : Core) (s : State) (h0 : Frame w0 a0 s) (hw : 33554432 &&& w0 = 33554432) : Completes w0 a0 (execKqWaitTimeout c s) :=
  Completes.step _ _ _ _ _ h0 (execKqWaitTimeout_frame c s) hw

theorem State.irqAbandon_frame (s : State) (c : Nat) : Frame 34078720 s (State.irqAbandon s c) := by
  unfold State.irqAbandon
  try dsimp only
  repeat' first
    | with_reducible apply Frame.refl
    | with_reducible assumption
    | apply Eq.refl
    | with_reducible apply State.takeIrq_step
    | with_reducible apply State.abandonWait_step
    | with_reducible apply Frame.foldl
    | with_reducible apply Frame.foldl_fst
    | split
    | with_reducible apply Frame.ite
    | intro _
    | dsimp only
theorem State.irqAbandon_step (w0 : Nat) (a0 : State) (s : State) (c : Nat) (h0 : Frame w0 a0 s) (hw : 34078720 &&& w0 = 34078720) : Frame w0 a0 (State.irqAbandon s c) :=
  Frame.step _ _ _ _ _ h0 (State.irqAbandon_frame s c) hw

theorem execInterruptAbandon_frame (c : Core) (s : State) : Completes 34078720 s (execInterruptAbandon c s) := by
  unfold execInterruptAbandon
  try dsimp only
  repeat' first
    | with_reducible apply Completes.intro
    | with_reducible apply Frame.refl
    | with_reducible assumption
    | apply Eq.refl
    | with_reducible apply State.irqAbandon_step
    | with_reducible apply Frame.foldl
    | with_reducible apply Frame.foldl_fst
    | split
    | with_reducible apply Frame.ite
    | intro _
    | dsimp only
theorem execInterruptAbandon_after (w0 : Nat) (a0 : State) (c : Core) (s : State) (h0 : Frame w0 a0 s) (hw : 34078720 &&& w0 = 34078720) : Completes w0 a0 (execInterruptAbandon c s) :=
  Completes.step _ _ _ _ _ h0 (execInterruptAbandon_frame c s) hw

theorem State.kzirqRead_frame (s : State) (c : Nat) (rd : Nat) : Frame 649628724 s (State.kzirqRead s c rd) := by
  unfold State.kzirqRead
  split
  · exact State.illegal_step _ _ _ _ _ (Frame.refl _ _) rfl
  · split
    · exact State.retire_step _ _ _ _ _ _ _ (State.csrRead_step _ _ _ _ _ _ ‹_› (Frame.refl _ _) rfl) rfl
    · exact Frame.refl _ _
theorem State.kzirqRead_step (w0 : Nat) (a0 : State) (s : State) (c : Nat) (rd : Nat) (h0 : Frame w0 a0 s) (hw : 649628724 &&& w0 = 649628724) : Frame w0 a0 (State.kzirqRead s c rd) :=
  Frame.step _ _ _ _ _ h0 (State.kzirqRead_frame s c rd) hw

theorem execKzirqRead_frame (c : Core) (rd : Fin 32) (s : State) : Completes 649628724 s (execKzirqRead c rd s) := by
  unfold execKzirqRead
  try dsimp only
  repeat' first
    | with_reducible apply Completes.intro
    | with_reducible apply Frame.refl
    | with_reducible assumption
    | apply Eq.refl
    | with_reducible apply State.kzirqRead_step
    | with_reducible apply Frame.foldl
    | with_reducible apply Frame.foldl_fst
    | split
    | with_reducible apply Frame.ite
    | intro _
    | dsimp only
theorem execKzirqRead_after (w0 : Nat) (a0 : State) (c : Core) (rd : Fin 32) (s : State) (h0 : Frame w0 a0 s) (hw : 649628724 &&& w0 = 649628724) : Completes w0 a0 (execKzirqRead c rd s) :=
  Completes.step _ _ _ _ _ h0 (execKzirqRead_frame c rd s) hw

theorem State.porterStart_frame (s : State) (c : Nat) (len : Nat) : Frame 34359738108 s (State.porterStart s c len) := by
  unfold State.porterStart
  try dsimp only
  repeat' first
    | with_reducible apply Frame.refl
    | with_reducible assumption
    | apply Eq.refl
    | with_reducible apply State.startPorter_step
    | (with_reducible refine Frame.of_pair (by with_reducible assumption) (State.startPorter_step _ _ _ _ _ ?_ ?_))
    | with_reducible apply State.retire_step
    | with_reducible apply Frame.foldl
    | with_reducible apply Frame.foldl_fst
    | split
    | with_reducible apply Frame.ite
    | intro _
    | dsimp only
theorem State.porterStart_step (w0 : Nat) (a0 : State) (s : State) (c : Nat) (len : Nat) (h0 : Frame w0 a0 s) (hw : 34359738108 &&& w0 = 34359738108) : Frame w0 a0 (State.porterStart s c len) :=
  Frame.step _ _ _ _ _ h0 (State.porterStart_frame s c len) hw

theorem execPorterStart_frame (c : Core) (len : DWord) (s : State) : Completes 34359738108 s (execPorterStart c len s) := by
  unfold execPorterStart
  try dsimp only
  repeat' first
    | with_reducible apply Completes.intro
    | with_reducible apply Frame.refl
    | with_reducible assumption
    | apply Eq.refl
    | with_reducible refine State.orWait_frame _ _ _ _ ?_ ?_ ?_
    | with_reducible apply State.porterStart_step
    | with_reducible apply Frame.foldl
    | with_reducible apply Frame.foldl_fst
    | split
    | with_reducible apply Frame.ite
    | intro _
    | dsimp only
theorem execPorterStart_after (w0 : Nat) (a0 : State) (c : Core) (len : DWord) (s : State) (h0 : Frame w0 a0 s) (hw : 34359738108 &&& w0 = 34359738108) : Completes w0 a0 (execPorterStart c len s) :=
  Completes.step _ _ _ _ _ h0 (execPorterStart_frame c len s) hw

theorem State.callReturn_frame (s : State) (c : Nat) (qa0 : Option DWord) (a1 : Option DWord) : Frame 33554432 s (State.callReturn s c qa0 a1) := by
  unfold State.callReturn
  try dsimp only
  repeat' first
    | with_reducible apply Frame.refl
    | with_reducible assumption
    | apply Eq.refl
    | with_reducible apply State.retire_step
    | with_reducible apply State.updCore_step
    | with_reducible apply Frame.foldl
    | with_reducible apply Frame.foldl_fst
    | split
    | with_reducible apply Frame.ite
    | intro _
    | dsimp only
theorem State.callReturn_step (w0 : Nat) (a0 : State) (s : State) (c : Nat) (qa0 : Option DWord) (a1 : Option DWord) (h0 : Frame w0 a0 s) (hw : 33554432 &&& w0 = 33554432) : Frame w0 a0 (State.callReturn s c qa0 a1) :=
  Frame.step _ _ _ _ _ h0 (State.callReturn_frame s c qa0 a1) hw

theorem State.callExit_frame (s : State) (c : Nat) (k : Nat) : Frame 649628720 s (State.callExit s c k) := by
  unfold State.callExit
  try dsimp only
  repeat' first
    | with_reducible apply Frame.refl
    | with_reducible assumption
    | apply Eq.refl
    | with_reducible apply State.endTask_step
    | with_reducible apply Frame.foldl
    | with_reducible apply Frame.foldl_fst
    | split
    | with_reducible apply Frame.ite
    | intro _
    | dsimp only
theorem State.callExit_step (w0 : Nat) (a0 : State) (s : State) (c : Nat) (k : Nat) (h0 : Frame w0 a0 s) (hw : 649628720 &&& w0 = 649628720) : Frame w0 a0 (State.callExit s c k) :=
  Frame.step _ _ _ _ _ h0 (State.callExit_frame s c k) hw

theorem State.callAlloc_frame (s : State) (c : Nat) (k : Nat) : Frame 41421876 s (State.callAlloc s c k) := by
  unfold State.callAlloc
  try dsimp only
  repeat' first
    | with_reducible apply Frame.refl
    | with_reducible assumption
    | apply Eq.refl
    | with_reducible apply State.allocate_step
    | (with_reducible refine Frame.of_pair (by with_reducible assumption) (State.allocate_step _ _ _ _ _ _ ?_ ?_))
    | with_reducible apply State.callReturn_step
    | with_reducible apply State.mapPages_step
    | with_reducible apply Frame.foldl
    | with_reducible apply Frame.foldl_fst
    | split
    | with_reducible apply Frame.ite
    | intro _
    | dsimp only
theorem State.callAlloc_step (w0 : Nat) (a0 : State) (s : State) (c : Nat) (k : Nat) (h0 : Frame w0 a0 s) (hw : 41421876 &&& w0 = 41421876) : Frame w0 a0 (State.callAlloc s c k) :=
  Frame.step _ _ _ _ _ h0 (State.callAlloc_frame s c k) hw

theorem State.callFree_frame (s : State) (c : Nat) (k : Nat) : Frame 41421872 s (State.callFree s c k) := by
  unfold State.callFree
  try dsimp only
  repeat' first
    | with_reducible apply Frame.refl
    | with_reducible assumption
    | apply Eq.refl
    | with_reducible apply State.freeAlloc_step
    | (with_reducible refine Frame.of_pair (by with_reducible assumption) (State.freeAlloc_step _ _ _ _ _ ?_ ?_))
    | with_reducible apply State.callReturn_step
    | with_reducible apply State.unmapPages_step
    | with_reducible apply Frame.foldl
    | with_reducible apply Frame.foldl_fst
    | split
    | with_reducible apply Frame.ite
    | intro _
    | dsimp only
theorem State.callFree_step (w0 : Nat) (a0 : State) (s : State) (c : Nat) (k : Nat) (h0 : Frame w0 a0 s) (hw : 41421872 &&& w0 = 41421872) : Frame w0 a0 (State.callFree s c k) :=
  Frame.step _ _ _ _ _ h0 (State.callFree_frame s c k) hw

theorem State.callTime_frame (s : State) (c : Nat) : Frame 33554432 s (State.callTime s c) := by
  unfold State.callTime
  try dsimp only
  repeat' first
    | with_reducible apply Frame.refl
    | with_reducible assumption
    | apply Eq.refl
    | with_reducible apply State.callReturn_step
    | with_reducible apply Frame.foldl
    | with_reducible apply Frame.foldl_fst
    | split
    | with_reducible apply Frame.ite
    | intro _
    | dsimp only
theorem State.callTime_step (w0 : Nat) (a0 : State) (s : State) (c : Nat) (h0 : Frame w0 a0 s) (hw : 33554432 &&& w0 = 33554432) : Frame w0 a0 (State.callTime s c) :=
  Frame.step _ _ _ _ _ h0 (State.callTime_frame s c) hw

theorem State.callBand_frame (s : State) (c : Nat) : Frame 33554432 s (State.callBand s c) := by
  unfold State.callBand
  try dsimp only
  repeat' first
    | with_reducible apply Frame.refl
    | with_reducible assumption
    | apply Eq.refl
    | with_reducible apply State.callReturn_step
    | with_reducible apply Frame.foldl
    | with_reducible apply Frame.foldl_fst
    | split
    | with_reducible apply Frame.ite
    | intro _
    | dsimp only
theorem State.callBand_step (w0 : Nat) (a0 : State) (s : State) (c : Nat) (h0 : Frame w0 a0 s) (hw : 33554432 &&& w0 = 33554432) : Frame w0 a0 (State.callBand s c) :=
  Frame.step _ _ _ _ _ h0 (State.callBand_frame s c) hw

theorem State.taskCall_frame (s : State) (c : Nat) (k : Nat) : Frame 653823028 s (State.taskCall s c k) := by
  unfold State.taskCall
  try dsimp only
  repeat' first
    | with_reducible apply Frame.refl
    | with_reducible assumption
    | apply Eq.refl
    | with_reducible apply State.callExit_step
    | with_reducible apply State.callAlloc_step
    | with_reducible apply State.callFree_step
    | with_reducible apply State.callTime_step
    | with_reducible apply State.callBand_step
    | with_reducible apply State.callReturn_step
    | with_reducible apply Frame.foldl
    | with_reducible apply Frame.foldl_fst
    | split
    | with_reducible apply Frame.ite
    | intro _
    | dsimp only
theorem State.taskCall_step (w0 : Nat) (a0 : State) (s : State) (c : Nat) (k : Nat) (h0 : Frame w0 a0 s) (hw : 653823028 &&& w0 = 653823028) : Frame w0 a0 (State.taskCall s c k) :=
  Frame.step _ _ _ _ _ h0 (State.taskCall_frame s c k) hw

theorem State.callOn_frame (s : State) (c : Nat) (f : State → Nat → State) : ∀ w0 a0, Frame w0 a0 s → (∀ t k, Frame w0 a0 t → Frame w0 a0 (f t k)) → Frame w0 a0 (State.callOn s c f) := by
  intro w0 a0 h hf
  unfold State.callOn
  split
  · exact hf _ _ h
  · exact h

theorem execEcallExit_frame (c : Core) (s : State) : Completes 649628720 s (execEcallExit c s) := by
  unfold execEcallExit
  try dsimp only
  repeat' first
    | with_reducible apply Completes.intro
    | with_reducible apply Frame.refl
    | with_reducible assumption
    | apply Eq.refl
    | with_reducible refine State.callOn_frame _ _ _ _ _ ?_ ?_
    | with_reducible apply State.callExit_step
    | with_reducible apply Frame.foldl
    | with_reducible apply Frame.foldl_fst
    | split
    | with_reducible apply Frame.ite
    | intro _
    | dsimp only
theorem execEcallExit_after (w0 : Nat) (a0 : State) (c : Core) (s : State) (h0 : Frame w0 a0 s) (hw : 649628720 &&& w0 = 649628720) : Completes w0 a0 (execEcallExit c s) :=
  Completes.step _ _ _ _ _ h0 (execEcallExit_frame c s) hw

theorem execEcallAlloc_frame (c : Core) (s : State) : Completes 41421876 s (execEcallAlloc c s) := by
  unfold execEcallAlloc
  try dsimp only
  repeat' first
    | with_reducible apply Completes.intro
    | with_reducible apply Frame.refl
    | with_reducible assumption
    | apply Eq.refl
    | with_reducible refine State.callOn_frame _ _ _ _ _ ?_ ?_
    | with_reducible apply State.callAlloc_step
    | with_reducible apply Frame.foldl
    | with_reducible apply Frame.foldl_fst
    | split
    | with_reducible apply Frame.ite
    | intro _
    | dsimp only
theorem execEcallAlloc_after (w0 : Nat) (a0 : State) (c : Core) (s : State) (h0 : Frame w0 a0 s) (hw : 41421876 &&& w0 = 41421876) : Completes w0 a0 (execEcallAlloc c s) :=
  Completes.step _ _ _ _ _ h0 (execEcallAlloc_frame c s) hw

theorem execEcallFree_frame (c : Core) (s : State) : Completes 41421872 s (execEcallFree c s) := by
  unfold execEcallFree
  try dsimp only
  repeat' first
    | with_reducible apply Completes.intro
    | with_reducible apply Frame.refl
    | with_reducible assumption
    | apply Eq.refl
    | with_reducible refine State.callOn_frame _ _ _ _ _ ?_ ?_
    | with_reducible apply State.callFree_step
    | with_reducible apply Frame.foldl
    | with_reducible apply Frame.foldl_fst
    | split
    | with_reducible apply Frame.ite
    | intro _
    | dsimp only
theorem execEcallFree_after (w0 : Nat) (a0 : State) (c : Core) (s : State) (h0 : Frame w0 a0 s) (hw : 41421872 &&& w0 = 41421872) : Completes w0 a0 (execEcallFree c s) :=
  Completes.step _ _ _ _ _ h0 (execEcallFree_frame c s) hw

theorem execEcallTime_frame (c : Core) (s : State) : Completes 33554432 s (execEcallTime c s) := by
  unfold execEcallTime
  try dsimp only
  repeat' first
    | with_reducible apply Completes.intro
    | with_reducible apply Frame.refl
    | with_reducible assumption
    | apply Eq.refl
    | with_reducible refine State.callOn_frame _ _ _ _ _ ?_ ?_
    | with_reducible apply State.callTime_step
    | with_reducible apply Frame.foldl
    | with_reducible apply Frame.foldl_fst
    | split
    | with_reducible apply Frame.ite
    | intro _
    | dsimp only
theorem execEcallTime_after (w0 : Nat) (a0 : State) (c : Core) (s : State) (h0 : Frame w0 a0 s) (hw : 33554432 &&& w0 = 33554432) : Completes w0 a0 (execEcallTime c s) :=
  Completes.step _ _ _ _ _ h0 (execEcallTime_frame c s) hw

theorem execEcallBand_frame (c : Core) (s : State) : Completes 33554432 s (execEcallBand c s) := by
  unfold execEcallBand
  try dsimp only
  repeat' first
    | with_reducible apply Completes.intro
    | with_reducible apply Frame.refl
    | with_reducible assumption
    | apply Eq.refl
    | with_reducible refine State.callOn_frame _ _ _ _ _ ?_ ?_
    | with_reducible apply State.callBand_step
    | with_reducible apply Frame.foldl
    | with_reducible apply Frame.foldl_fst
    | split
    | with_reducible apply Frame.ite
    | intro _
    | dsimp only
theorem execEcallBand_after (w0 : Nat) (a0 : State) (c : Core) (s : State) (h0 : Frame w0 a0 s) (hw : 33554432 &&& w0 = 33554432) : Completes w0 a0 (execEcallBand c s) :=
  Completes.step _ _ _ _ _ h0 (execEcallBand_frame c s) hw

end Sys2Proof.Machine
end

