-- ==== Sys2Proof/Laws/F_Lodge.lean ====
section
/-!
SUPPORT. Frames of the operations of Machine/Lodge.lean.
-/
namespace Sys2Proof.Machine

set_option linter.unusedTactic false
set_option linter.unreachableTactic false
set_option linter.unusedVariables false

theorem State.icParity_frame (s : State) (c : Nat) (k : Nat) : Frame 33554480 s (State.icParity s c k) := by
  unfold State.icParity
  try dsimp only
  repeat' first
    | with_reducible apply Frame.refl
    | with_reducible assumption
    | apply Eq.refl
    | with_reducible apply State.count_step
    | with_reducible apply State.updCore_step
    | with_reducible apply Frame.foldl
    | with_reducible apply Frame.foldl_fst
    | split
    | with_reducible apply Frame.ite
    | intro _
    | dsimp only
theorem State.icParity_step (w0 : Nat) (a0 : State) (s : State) (c : Nat) (k : Nat) (h0 : Frame w0 a0 s) (hw : 33554480 &&& w0 = 33554480) : Frame w0 a0 (State.icParity s c k) :=
  Frame.step _ _ _ _ _ h0 (State.icParity_frame s c k) hw

theorem State.fetchLine_frame (s : State) (c : Nat) (k : Nat) (pb : Nat) : Frame 45646900 s (State.fetchLine s c k pb).1 := by
  unfold State.fetchLine
  try dsimp only
  repeat' first
    | with_reducible apply Frame.refl
    | with_reducible assumption
    | apply Eq.refl
    | with_reducible apply State.useFree_step
    | with_reducible apply State.coreRead_step
    | (with_reducible refine Frame.of_pair (by with_reducible assumption) (State.coreRead_step _ _ _ _ _ _ _ _ ?_ ?_))
    | with_reducible apply State.updCore_step
    | with_reducible apply Frame.foldl
    | with_reducible apply Frame.foldl_fst
    | split
    | with_reducible apply Frame.ite
    | intro _
    | dsimp only
theorem State.fetchLine_step (w0 : Nat) (a0 : State) (s : State) (c : Nat) (k : Nat) (pb : Nat) (h0 : Frame w0 a0 s) (hw : 45646900 &&& w0 = 45646900) : Frame w0 a0 (State.fetchLine s c k pb).1 :=
  Frame.step _ _ _ _ _ h0 (State.fetchLine_frame s c k pb) hw

theorem State.fetchHalf_frame (s : State) (c : Nat) (va : Nat) (parity : Bool) : Frame 45647540 s (State.fetchHalf s c va parity).1 := by
  unfold State.fetchHalf
  try dsimp only
  repeat' first
    | with_reducible apply Frame.refl
    | with_reducible assumption
    | apply Eq.refl
    | with_reducible apply State.coreXlate_step
    | (with_reducible refine Frame.of_pair (by with_reducible assumption) (State.coreXlate_step _ _ _ _ _ _ _ _ ?_ ?_))
    | with_reducible apply State.fetchLine_step
    | (with_reducible refine Frame.of_pair (by with_reducible assumption) (State.fetchLine_step _ _ _ _ _ _ ?_ ?_))
    | with_reducible apply State.icParity_step
    | with_reducible apply State.coreGet_step
    | (with_reducible refine Frame.of_pair (by with_reducible assumption) (State.coreGet_step _ _ _ _ _ _ _ _ ?_ ?_))
    | with_reducible apply Frame.foldl
    | with_reducible apply Frame.foldl_fst
    | split
    | with_reducible apply Frame.ite
    | intro _
    | dsimp only
theorem State.fetchHalf_step (w0 : Nat) (a0 : State) (s : State) (c : Nat) (va : Nat) (parity : Bool) (h0 : Frame w0 a0 s) (hw : 45647540 &&& w0 = 45647540) : Frame w0 a0 (State.fetchHalf s c va parity).1 :=
  Frame.step _ _ _ _ _ h0 (State.fetchHalf_frame s c va parity) hw

theorem State.orIllegal_frame (s : State) (c : Nat) (len : Nat) (raw : Nat) (rd : Nat) (v : Option DWord) : Frame 649628720 s (State.orIllegal s c len raw rd v) := by
  unfold State.orIllegal
  try dsimp only
  repeat' first
    | with_reducible apply Frame.refl
    | with_reducible assumption
    | apply Eq.refl
    | with_reducible apply State.retire_step
    | with_reducible apply State.illegal_step
    | with_reducible apply Frame.foldl
    | with_reducible apply Frame.foldl_fst
    | split
    | with_reducible apply Frame.ite
    | intro _
    | dsimp only
theorem State.orIllegal_step (w0 : Nat) (a0 : State) (s : State) (c : Nat) (len : Nat) (raw : Nat) (rd : Nat) (v : Option DWord) (h0 : Frame w0 a0 s) (hw : 649628720 &&& w0 = 649628720) : Frame w0 a0 (State.orIllegal s c len raw rd v) :=
  Frame.step _ _ _ _ _ h0 (State.orIllegal_frame s c len raw rd v) hw

theorem State.insnLoad_frame (s : State) (c : Nat) (len : Nat) (raw : Nat) (w : Nat) (e : Ecc) : Frame 649629364 s (State.insnLoad s c len raw w e) := by
  unfold State.insnLoad
  try dsimp only
  repeat' first
    | with_reducible apply Frame.refl
    | with_reducible assumption
    | apply Eq.refl
    | with_reducible apply State.illegal_step
    | with_reducible apply State.loadVa_step
    | (with_reducible refine Frame.of_pair (by with_reducible assumption) (State.loadVa_step _ _ _ _ _ _ _ ?_ ?_))
    | with_reducible apply State.exception_step
    | with_reducible apply State.orIllegal_step
    | with_reducible apply Frame.foldl
    | with_reducible apply Frame.foldl_fst
    | split
    | with_reducible apply Frame.ite
    | intro _
    | dsimp only
theorem State.insnLoad_step (w0 : Nat) (a0 : State) (s : State) (c : Nat) (len : Nat) (raw : Nat) (w : Nat) (e : Ecc) (h0 : Frame w0 a0 s) (hw : 649629364 &&& w0 = 649629364) : Frame w0 a0 (State.insnLoad s c len raw w e) :=
  Frame.step _ _ _ _ _ h0 (State.insnLoad_frame s c len raw w e) hw

theorem State.storeDone_step (w0 : Nat) (a0 : State) (r : State × Option Nat) (c len va : Nat) (h : Frame w0 a0 r.1)
    (hw : 649628720 &&& w0 = 649628720) : Frame w0 a0 (State.storeDone r c len va) := by
  unfold State.storeDone
  split
  · exact Frame.step _ 649628720 _ _ _ h (State.exception_step _ _ _ _ _ _ (Frame.refl _ _) rfl) hw
  · exact Frame.step _ 649628720 _ _ _ h (State.retire_step _ _ _ _ _ _ _ (Frame.refl _ _) rfl) hw

theorem State.insnStore_frame (s : State) (c : Nat) (len : Nat) (raw : Nat) (w : Nat) : Frame 34359738108 s (State.insnStore s c len raw w) := by
  unfold State.insnStore
  dsimp only
  split
  · exact State.illegal_step _ _ _ _ _ (Frame.refl _ _) rfl
  · exact State.storeDone_step _ _ _ _ _ _ (State.storeVa_step _ _ _ _ _ _ _ (Frame.refl _ _) rfl) rfl
theorem State.insnStore_step (w0 : Nat) (a0 : State) (s : State) (c : Nat) (len : Nat) (raw : Nat) (w : Nat) (h0 : Frame w0 a0 s) (hw : 34359738108 &&& w0 = 34359738108) : Frame w0 a0 (State.insnStore s c len raw w) :=
  Frame.step _ _ _ _ _ h0 (State.insnStore_frame s c len raw w) hw

theorem State.insnLr_frame (s : State) (c : Nat) (len : Nat) (w : Nat) (pa : Nat) (pb : Nat) (n : Nat) (va : Nat) (e : Ecc) : Frame 649629364 s (State.insnLr s c len w pa pb n va e) := by
  unfold State.insnLr
  try dsimp only
  repeat' first
    | with_reducible apply Frame.refl
    | with_reducible assumption
    | apply Eq.refl
    | with_reducible apply State.exception_step
    | with_reducible apply State.coreGet_step
    | (with_reducible refine Frame.of_pair (by with_reducible assumption) (State.coreGet_step _ _ _ _ _ _ _ _ ?_ ?_))
    | with_reducible apply State.retire_step
    | with_reducible apply State.updCore_step
    | with_reducible apply Frame.foldl
    | with_reducible apply Frame.foldl_fst
    | split
    | with_reducible apply Frame.ite
    | intro _
    | dsimp only
theorem State.insnLr_step (w0 : Nat) (a0 : State) (s : State) (c : Nat) (len : Nat) (w : Nat) (pa : Nat) (pb : Nat) (n : Nat) (va : Nat) (e : Ecc) (h0 : Frame w0 a0 s) (hw : 649629364 &&& w0 = 649629364) : Frame w0 a0 (State.insnLr s c len w pa pb n va e) :=
  Frame.step _ _ _ _ _ h0 (State.insnLr_frame s c len w pa pb n va e) hw

theorem State.insnSc_frame (s : State) (c : Nat) (len : Nat) (w : Nat) (pa : Nat) (pb : Nat) (n : Nat) (va : Nat) : Frame 34359738108 s (State.insnSc s c len w pa pb n va) := by
  unfold State.insnSc
  try dsimp only
  repeat' first
    | with_reducible apply Frame.refl
    | with_reducible assumption
    | apply Eq.refl
    | with_reducible apply State.exception_step
    | with_reducible apply State.updCore_step
    | with_reducible apply State.retire_step
    | with_reducible apply State.corePutNow_step
    | (with_reducible refine Frame.of_pair (by with_reducible assumption) (State.corePutNow_step _ _ _ _ _ _ _ ?_ ?_))
    | with_reducible apply State.sbDrain_step
    | with_reducible apply Frame.foldl
    | with_reducible apply Frame.foldl_fst
    | split
    | with_reducible apply Frame.ite
    | intro _
    | dsimp only
theorem State.insnSc_step (w0 : Nat) (a0 : State) (s : State) (c : Nat) (len : Nat) (w : Nat) (pa : Nat) (pb : Nat) (n : Nat) (va : Nat) (h0 : Frame w0 a0 s) (hw : 34359738108 &&& w0 = 34359738108) : Frame w0 a0 (State.insnSc s c len w pa pb n va) :=
  Frame.step _ _ _ _ _ h0 (State.insnSc_frame s c len w pa pb n va) hw

theorem State.insnAmo_frame (s : State) (c : Nat) (len : Nat) (raw : Nat) (w : Nat) (pa : Nat) (pb : Nat) (n : Nat) (va : Nat) (e : Ecc) : Frame 34359738108 s (State.insnAmo s c len raw w pa pb n va e) := by
  unfold State.insnAmo
  try dsimp only
  repeat' first
    | with_reducible apply Frame.refl
    | with_reducible assumption
    | apply Eq.refl
    | with_reducible apply State.exception_step
    | with_reducible apply State.coreGet_step
    | (with_reducible refine Frame.of_pair (by with_reducible assumption) (State.coreGet_step _ _ _ _ _ _ _ _ ?_ ?_))
    | with_reducible apply State.sbDrain_step
    | with_reducible apply State.illegal_step
    | with_reducible apply State.corePutNow_step
    | (with_reducible refine Frame.of_pair (by with_reducible assumption) (State.corePutNow_step _ _ _ _ _ _ _ ?_ ?_))
    | with_reducible apply State.retire_step
    | with_reducible apply Frame.foldl
    | with_reducible apply Frame.foldl_fst
    | split
    | with_reducible apply Frame.ite
    | intro _
    | dsimp only
theorem State.insnAmo_step (w0 : Nat) (a0 : State) (s : State) (c : Nat) (len : Nat) (raw : Nat) (w : Nat) (pa : Nat) (pb : Nat) (n : Nat) (va : Nat) (e : Ecc) (h0 : Frame w0 a0 s) (hw : 34359738108 &&& w0 = 34359738108) : Frame w0 a0 (State.insnAmo s c len raw w pa pb n va e) :=
  Frame.step _ _ _ _ _ h0 (State.insnAmo_frame s c len raw w pa pb n va e) hw

theorem State.insnAtomic_frame (s : State) (c : Nat) (len : Nat) (raw : Nat) (w : Nat) (e : Ecc) : Frame 34359738108 s (State.insnAtomic s c len raw w e) := by
  unfold State.insnAtomic
  try dsimp only
  repeat' first
    | with_reducible apply Frame.refl
    | with_reducible assumption
    | apply Eq.refl
    | with_reducible apply State.illegal_step
    | with_reducible apply State.dataAt_step
    | (with_reducible refine Frame.of_pair (by with_reducible assumption) (State.dataAt_step _ _ _ _ _ _ _ ?_ ?_))
    | with_reducible apply State.exception_step
    | with_reducible apply State.insnLr_step
    | with_reducible apply State.insnSc_step
    | with_reducible apply State.insnAmo_step
    | with_reducible apply Frame.foldl
    | with_reducible apply Frame.foldl_fst
    | split
    | with_reducible apply Frame.ite
    | intro _
    | dsimp only
theorem State.insnAtomic_step (w0 : Nat) (a0 : State) (s : State) (c : Nat) (len : Nat) (raw : Nat) (w : Nat) (e : Ecc) (h0 : Frame w0 a0 s) (hw : 34359738108 &&& w0 = 34359738108) : Frame w0 a0 (State.insnAtomic s c len raw w e) :=
  Frame.step _ _ _ _ _ h0 (State.insnAtomic_frame s c len raw w e) hw

theorem State.insnCbo_frame (s : State) (c : Nat) (len : Nat) (raw : Nat) (w : Nat) : Frame 649628720 s (State.insnCbo s c len raw w) := by
  unfold State.insnCbo
  try dsimp only
  repeat' first
    | with_reducible apply Frame.refl
    | with_reducible assumption
    | apply Eq.refl
    | with_reducible apply State.illegal_step
    | with_reducible apply State.coreXlate_step
    | (with_reducible refine Frame.of_pair (by with_reducible assumption) (State.coreXlate_step _ _ _ _ _ _ _ _ ?_ ?_))
    | with_reducible apply State.exception_step
    | with_reducible apply State.sbDrain_step
    | with_reducible apply State.l2Clean_step
    | with_reducible apply State.l2Drop_step
    | with_reducible apply State.l2Flush_step
    | with_reducible apply State.retire_step
    | with_reducible apply Frame.foldl
    | with_reducible apply Frame.foldl_fst
    | split
    | with_reducible apply Frame.ite
    | intro _
    | dsimp only
theorem State.insnCbo_step (w0 : Nat) (a0 : State) (s : State) (c : Nat) (len : Nat) (raw : Nat) (w : Nat) (h0 : Frame w0 a0 s) (hw : 649628720 &&& w0 = 649628720) : Frame w0 a0 (State.insnCbo s c len raw w) :=
  Frame.step _ _ _ _ _ h0 (State.insnCbo_frame s c len raw w) hw

theorem State.insnMiscMem_frame (s : State) (c : Nat) (len : Nat) (raw : Nat) (w : Nat) : Frame 649628720 s (State.insnMiscMem s c len raw w) := by
  unfold State.insnMiscMem
  try dsimp only
  repeat' first
    | with_reducible apply Frame.refl
    | with_reducible assumption
    | apply Eq.refl
    | with_reducible apply State.retire_step
    | with_reducible apply State.sbDrain_step
    | with_reducible apply State.updCore_step
    | with_reducible apply State.insnCbo_step
    | with_reducible apply State.illegal_step
    | with_reducible apply Frame.foldl
    | with_reducible apply Frame.foldl_fst
    | split
    | with_reducible apply Frame.ite
    | intro _
    | dsimp only
theorem State.insnMiscMem_step (w0 : Nat) (a0 : State) (s : State) (c : Nat) (len : Nat) (raw : Nat) (w : Nat) (h0 : Frame w0 a0 s) (hw : 649628720 &&& w0 = 649628720) : Frame w0 a0 (State.insnMiscMem s c len raw w) :=
  Frame.step _ _ _ _ _ h0 (State.insnMiscMem_frame s c len raw w) hw

theorem State.insnCsr_frame (s : State) (c : Nat) (len : Nat) (raw : Nat) (w : Nat) : Frame 34359738108 s (State.insnCsr s c len raw w) := by
  unfold State.insnCsr
  extract_lets n src writes
  split
  · exact State.illegal_step 34359738108 s _ _ _ (Frame.refl _ _) rfl
  · split
    · exact State.illegal_step 34359738108 s _ _ _ (Frame.refl _ _) rfl
    · rename_i r e
      have h : Frame 34359738108 s r.1 := State.csrRead_step _ _ _ _ _ _ e (Frame.refl _ _) rfl
      split
      · exact State.retire_step _ _ _ _ _ _ _ h rfl
      · split
        · dsimp only
          split
          · exact State.retire_step _ _ _ _ _ _ _ (State.startPorter_step _ _ _ _ _ h rfl) rfl
          · exact State.startPorter_step _ _ _ _ _ h rfl
        · exact State.csrWrite_step _ _ _ _ _ _ (State.retire_step _ _ _ _ _ _ _ h rfl) rfl
theorem State.insnCsr_step (w0 : Nat) (a0 : State) (s : State) (c : Nat) (len : Nat) (raw : Nat) (w : Nat) (h0 : Frame w0 a0 s) (hw : 34359738108 &&& w0 = 34359738108) : Frame w0 a0 (State.insnCsr s c len raw w) :=
  Frame.step _ _ _ _ _ h0 (State.insnCsr_frame s c len raw w) hw

theorem State.insnEcall_frame (s : State) (c : Nat) : Frame 653823028 s (State.insnEcall s c) := by
  unfold State.insnEcall
  try dsimp only
  repeat' first
    | with_reducible apply Frame.refl
    | with_reducible assumption
    | apply Eq.refl
    | with_reducible apply State.taskCall_step
    | with_reducible apply State.exception_step
    | with_reducible apply Frame.foldl
    | with_reducible apply Frame.foldl_fst
    | split
    | with_reducible apply Frame.ite
    | intro _
    | dsimp only
theorem State.insnEcall_step (w0 : Nat) (a0 : State) (s : State) (c : Nat) (h0 : Frame w0 a0 s) (hw : 653823028 &&& w0 = 653823028) : Frame w0 a0 (State.insnEcall s c) :=
  Frame.step _ _ _ _ _ h0 (State.insnEcall_frame s c) hw

theorem State.insnPriv_frame (s : State) (c : Nat) (len : Nat) (raw : Nat) (w : Nat) : Frame 653823028 s (State.insnPriv s c len raw w) := by
  unfold State.insnPriv
  try dsimp only
  repeat' first
    | with_reducible apply Frame.refl
    | with_reducible assumption
    | apply Eq.refl
    | with_reducible apply State.illegal_step
    | with_reducible apply State.retire_step
    | with_reducible apply State.sbDrain_step
    | with_reducible apply State.insnEcall_step
    | with_reducible apply State.exception_step
    | with_reducible apply State.updCore_step
    | with_reducible apply Frame.foldl
    | with_reducible apply Frame.foldl_fst
    | split
    | with_reducible apply Frame.ite
    | intro _
    | dsimp only
theorem State.insnPriv_step (w0 : Nat) (a0 : State) (s : State) (c : Nat) (len : Nat) (raw : Nat) (w : Nat) (h0 : Frame w0 a0 s) (hw : 653823028 &&& w0 = 653823028) : Frame w0 a0 (State.insnPriv s c len raw w) :=
  Frame.step _ _ _ _ _ h0 (State.insnPriv_frame s c len raw w) hw

theorem State.insnSystem_frame (s : State) (c : Nat) (len : Nat) (raw : Nat) (w : Nat) : Frame 34359738108 s (State.insnSystem s c len raw w) := by
  unfold State.insnSystem
  try dsimp only
  repeat' first
    | with_reducible apply Frame.refl
    | with_reducible assumption
    | apply Eq.refl
    | with_reducible apply State.insnPriv_step
    | with_reducible apply State.illegal_step
    | with_reducible apply State.insnCsr_step
    | with_reducible apply Frame.foldl
    | with_reducible apply Frame.foldl_fst
    | split
    | with_reducible apply Frame.ite
    | intro _
    | dsimp only
theorem State.insnSystem_step (w0 : Nat) (a0 : State) (s : State) (c : Nat) (len : Nat) (raw : Nat) (w : Nat) (h0 : Frame w0 a0 s) (hw : 34359738108 &&& w0 = 34359738108) : Frame w0 a0 (State.insnSystem s c len raw w) :=
  Frame.step _ _ _ _ _ h0 (State.insnSystem_frame s c len raw w) hw

theorem State.retireF_frame (s : State) (c : Nat) (len : Nat) (rd : Nat) (single : Bool) (v : DWord) : Frame 33554432 s (State.retireF s c len rd single v) := by
  unfold State.retireF
  try dsimp only
  repeat' first
    | with_reducible apply Frame.refl
    | with_reducible assumption
    | apply Eq.refl
    | with_reducible apply State.retire_step
    | with_reducible apply State.updCore_step
    | with_reducible apply Frame.foldl
    | with_reducible apply Frame.foldl_fst
    | split
    | with_reducible apply Frame.ite
    | intro _
    | dsimp only
theorem State.retireF_step (w0 : Nat) (a0 : State) (s : State) (c : Nat) (len : Nat) (rd : Nat) (single : Bool) (v : DWord) (h0 : Frame w0 a0 s) (hw : 33554432 &&& w0 = 33554432) : Frame w0 a0 (State.retireF s c len rd single v) :=
  Frame.step _ _ _ _ _ h0 (State.retireF_frame s c len rd single v) hw

theorem State.insnFp_frame (s : State) (c : Nat) (len : Nat) (raw : Nat) (w : Nat) : Frame 649628720 s (State.insnFp s c len raw w) := by
  unfold State.insnFp
  try dsimp only
  repeat' first
    | with_reducible apply Frame.refl
    | with_reducible assumption
    | apply Eq.refl
    | with_reducible apply State.illegal_step
    | with_reducible apply State.retireF_step
    | with_reducible apply State.retire_step
    | with_reducible apply State.updCore_step
    | with_reducible apply Frame.foldl
    | with_reducible apply Frame.foldl_fst
    | split
    | with_reducible apply Frame.ite
    | intro _
    | dsimp only
theorem State.insnFp_step (w0 : Nat) (a0 : State) (s : State) (c : Nat) (len : Nat) (raw : Nat) (w : Nat) (h0 : Frame w0 a0 s) (hw : 649628720 &&& w0 = 649628720) : Frame w0 a0 (State.insnFp s c len raw w) :=
  Frame.step _ _ _ _ _ h0 (State.insnFp_frame s c len raw w) hw

theorem State.insnFma_frame (s : State) (c : Nat) (len : Nat) (raw : Nat) (w : Nat) : Frame 649628720 s (State.insnFma s c len raw w) := by
  unfold State.insnFma
  try dsimp only
  repeat' first
    | with_reducible apply Frame.refl
    | with_reducible assumption
    | apply Eq.refl
    | with_reducible apply State.illegal_step
    | with_reducible apply State.retireF_step
    | with_reducible apply State.updCore_step
    | with_reducible apply Frame.foldl
    | with_reducible apply Frame.foldl_fst
    | split
    | with_reducible apply Frame.ite
    | intro _
    | dsimp only
theorem State.insnFma_step (w0 : Nat) (a0 : State) (s : State) (c : Nat) (len : Nat) (raw : Nat) (w : Nat) (h0 : Frame w0 a0 s) (hw : 649628720 &&& w0 = 649628720) : Frame w0 a0 (State.insnFma s c len raw w) :=
  Frame.step _ _ _ _ _ h0 (State.insnFma_frame s c len raw w) hw

theorem State.insnFpLoad_frame (s : State) (c : Nat) (len : Nat) (raw : Nat) (w : Nat) (e : Ecc) : Frame 649629364 s (State.insnFpLoad s c len raw w e) := by
  unfold State.insnFpLoad
  try dsimp only
  repeat' first
    | with_reducible apply Frame.refl
    | with_reducible assumption
    | apply Eq.refl
    | with_reducible apply State.illegal_step
    | with_reducible apply State.loadVa_step
    | (with_reducible refine Frame.of_pair (by with_reducible assumption) (State.loadVa_step _ _ _ _ _ _ _ ?_ ?_))
    | with_reducible apply State.exception_step
    | with_reducible apply State.retireF_step
    | with_reducible apply Frame.foldl
    | with_reducible apply Frame.foldl_fst
    | split
    | with_reducible apply Frame.ite
    | intro _
    | dsimp only
theorem State.insnFpLoad_step (w0 : Nat) (a0 : State) (s : State) (c : Nat) (len : Nat) (raw : Nat) (w : Nat) (e : Ecc) (h0 : Frame w0 a0 s) (hw : 649629364 &&& w0 = 649629364) : Frame w0 a0 (State.insnFpLoad s c len raw w e) :=
  Frame.step _ _ _ _ _ h0 (State.insnFpLoad_frame s c len raw w e) hw

theorem State.insnFpStore_frame (s : State) (c : Nat) (len : Nat) (raw : Nat) (w : Nat) : Frame 34359738108 s (State.insnFpStore s c len raw w) := by
  unfold State.insnFpStore
  dsimp only
  split
  · exact State.illegal_step _ _ _ _ _ (Frame.refl _ _) rfl
  · exact State.storeDone_step _ _ _ _ _ _ (State.storeVa_step _ _ _ _ _ _ _ (Frame.refl _ _) rfl) rfl
theorem State.insnFpStore_step (w0 : Nat) (a0 : State) (s : State) (c : Nat) (len : Nat) (raw : Nat) (w : Nat) (h0 : Frame w0 a0 s) (hw : 34359738108 &&& w0 = 34359738108) : Frame w0 a0 (State.insnFpStore s c len raw w) :=
  Frame.step _ _ _ _ _ h0 (State.insnFpStore_frame s c len raw w) hw

theorem State.jump_frame (s : State) (c : Nat) (rd : Nat) (v : DWord) (to_ : DWord) : Frame 33554432 s (State.jump s c rd v to_) := by
  unfold State.jump
  try dsimp only
  repeat' first
    | with_reducible apply Frame.refl
    | with_reducible assumption
    | apply Eq.refl
    | with_reducible apply State.updCore_step
    | with_reducible apply State.retire_step
    | with_reducible apply Frame.foldl
    | with_reducible apply Frame.foldl_fst
    | split
    | with_reducible apply Frame.ite
    | intro _
    | dsimp only
theorem State.jump_step (w0 : Nat) (a0 : State) (s : State) (c : Nat) (rd : Nat) (v : DWord) (to_ : DWord) (h0 : Frame w0 a0 s) (hw : 33554432 &&& w0 = 33554432) : Frame w0 a0 (State.jump s c rd v to_) :=
  Frame.step _ _ _ _ _ h0 (State.jump_frame s c rd v to_) hw

theorem State.insnBranch_frame (s : State) (c : Nat) (len : Nat) (raw : Nat) (w : Nat) : Frame 649628720 s (State.insnBranch s c len raw w) := by
  unfold State.insnBranch
  try dsimp only
  repeat' first
    | with_reducible apply Frame.refl
    | with_reducible assumption
    | apply Eq.refl
    | with_reducible apply State.illegal_step
    | with_reducible apply State.jump_step
    | with_reducible apply State.retire_step
    | with_reducible apply Frame.foldl
    | with_reducible apply Frame.foldl_fst
    | split
    | with_reducible apply Frame.ite
    | intro _
    | dsimp only
theorem State.insnBranch_step (w0 : Nat) (a0 : State) (s : State) (c : Nat) (len : Nat) (raw : Nat) (w : Nat) (h0 : Frame w0 a0 s) (hw : 649628720 &&& w0 = 649628720) : Frame w0 a0 (State.insnBranch s c len raw w) :=
  Frame.step _ _ _ _ _ h0 (State.insnBranch_frame s c len raw w) hw

theorem State.insnJalr_frame (s : State) (c : Nat) (len : Nat) (raw : Nat) (w : Nat) : Frame 649628720 s (State.insnJalr s c len raw w) := by
  unfold State.insnJalr
  try dsimp only
  repeat' first
    | with_reducible apply Frame.refl
    | with_reducible assumption
    | apply Eq.refl
    | with_reducible apply State.illegal_step
    | with_reducible apply State.jump_step
    | with_reducible apply Frame.foldl
    | with_reducible apply Frame.foldl_fst
    | split
    | with_reducible apply Frame.ite
    | intro _
    | dsimp only
theorem State.insnJalr_step (w0 : Nat) (a0 : State) (s : State) (c : Nat) (len : Nat) (raw : Nat) (w : Nat) (h0 : Frame w0 a0 s) (hw : 649628720 &&& w0 = 649628720) : Frame w0 a0 (State.insnJalr s c len raw w) :=
  Frame.step _ _ _ _ _ h0 (State.insnJalr_frame s c len raw w) hw

theorem State.insnXkzq_frame (s : State) (c : Nat) (raw : Nat) (w : Nat) : Frame 34359738108 s (State.insnXkzq s c raw w) := by
  unfold State.insnXkzq
  try dsimp only
  repeat' first
    | with_reducible apply Frame.refl
    | with_reducible assumption
    | apply Eq.refl
    | with_reducible apply State.illegal_step
    | with_reducible apply State.kqPush_step
    | with_reducible apply State.kqPop_step
    | with_reducible apply State.kqSig_step
    | with_reducible apply State.kqWait_step
    | with_reducible apply Frame.foldl
    | with_reducible apply Frame.foldl_fst
    | split
    | with_reducible apply Frame.ite
    | intro _
    | dsimp only
theorem State.insnXkzq_step (w0 : Nat) (a0 : State) (s : State) (c : Nat) (raw : Nat) (w : Nat) (h0 : Frame w0 a0 s) (hw : 34359738108 &&& w0 = 34359738108) : Frame w0 a0 (State.insnXkzq s c raw w) :=
  Frame.step _ _ _ _ _ h0 (State.insnXkzq_frame s c raw w) hw

theorem State.execInsn_frame (s : State) (c : Nat) (len : Nat) (raw : Nat) (w : Nat) (e : Ecc) : Frame 34359738108 s (State.execInsn s c len raw w e) := by
  unfold State.execInsn
  try dsimp only
  repeat' first
    | with_reducible apply Frame.refl
    | with_reducible assumption
    | apply Eq.refl
    | with_reducible apply State.retire_step
    | with_reducible apply State.jump_step
    | with_reducible apply State.insnJalr_step
    | with_reducible apply State.insnBranch_step
    | with_reducible apply State.insnLoad_step
    | with_reducible apply State.insnStore_step
    | with_reducible apply State.orIllegal_step
    | with_reducible apply State.insnMiscMem_step
    | with_reducible apply State.insnSystem_step
    | with_reducible apply State.insnAtomic_step
    | with_reducible apply State.insnFpLoad_step
    | with_reducible apply State.insnFpStore_step
    | with_reducible apply State.insnFma_step
    | with_reducible apply State.insnFp_step
    | with_reducible apply State.insnXkzq_step
    | with_reducible apply State.illegal_step
    | with_reducible apply Frame.foldl
    | with_reducible apply Frame.foldl_fst
    | split
    | with_reducible apply Frame.ite
    | intro _
    | dsimp only
theorem State.execInsn_step (w0 : Nat) (a0 : State) (s : State) (c : Nat) (len : Nat) (raw : Nat) (w : Nat) (e : Ecc) (h0 : Frame w0 a0 s) (hw : 34359738108 &&& w0 = 34359738108) : Frame w0 a0 (State.execInsn s c len raw w e) :=
  Frame.step _ _ _ _ _ h0 (State.execInsn_frame s c len raw w e) hw

theorem State.fetchExec_frame (s : State) (c : Nat) (e : Ecc) : Frame 34359738108 s (State.fetchExec s c e) := by
  unfold State.fetchExec
  try dsimp only
  repeat' first
    | with_reducible apply Frame.refl
    | with_reducible assumption
    | apply Eq.refl
    | with_reducible apply State.fetchHalf_step
    | (with_reducible refine Frame.of_pair (by with_reducible assumption) (State.fetchHalf_step _ _ _ _ _ _ ?_ ?_))
    | with_reducible apply State.exception_step
    | with_reducible apply State.execInsn_step
    | with_reducible apply State.illegal_step
    | with_reducible apply Frame.foldl
    | with_reducible apply Frame.foldl_fst
    | split
    | with_reducible apply Frame.ite
    | intro _
    | dsimp only
theorem State.fetchExec_step (w0 : Nat) (a0 : State) (s : State) (c : Nat) (e : Ecc) (h0 : Frame w0 a0 s) (hw : 34359738108 &&& w0 = 34359738108) : Frame w0 a0 (State.fetchExec s c e) :=
  Frame.step _ _ _ _ _ h0 (State.fetchExec_frame s c e) hw

theorem State.lodgeInstruction_frame (s : State) (c : Nat) (e : Ecc) : Frame 34359738108 s (State.lodgeInstruction s c e) := by
  unfold State.lodgeInstruction
  try dsimp only
  repeat' first
    | with_reducible apply Frame.refl
    | with_reducible assumption
    | apply Eq.refl
    | with_reducible apply State.takeIrq_step
    | with_reducible apply State.fetchExec_step
    | with_reducible apply State.l2Evict_step
    | with_reducible apply State.sbMayDrain_step
    | with_reducible apply Frame.foldl
    | with_reducible apply Frame.foldl_fst
    | split
    | with_reducible apply Frame.ite
    | intro _
    | dsimp only
theorem State.lodgeInstruction_step (w0 : Nat) (a0 : State) (s : State) (c : Nat) (e : Ecc) (h0 : Frame w0 a0 s) (hw : 34359738108 &&& w0 = 34359738108) : Frame w0 a0 (State.lodgeInstruction s c e) :=
  Frame.step _ _ _ _ _ h0 (State.lodgeInstruction_frame s c e) hw

theorem execLodgeInstruction_frame (c : Core) (e : Ecc) (s : State) : Completes 34359738108 s (execLodgeInstruction c e s) := by
  unfold execLodgeInstruction
  try dsimp only
  repeat' first
    | with_reducible apply Completes.intro
    | with_reducible apply Frame.refl
    | with_reducible assumption
    | apply Eq.refl
    | with_reducible refine State.orWait_frame _ _ _ _ ?_ ?_ ?_
    | with_reducible apply State.lodgeInstruction_step
    | with_reducible apply Frame.foldl
    | with_reducible apply Frame.foldl_fst
    | split
    | with_reducible apply Frame.ite
    | intro _
    | dsimp only
theorem execLodgeInstruction_after (w0 : Nat) (a0 : State) (c : Core) (e : Ecc) (s : State) (h0 : Frame w0 a0 s) (hw : 34359738108 &&& w0 = 34359738108) : Completes w0 a0 (execLodgeInstruction c e s) :=
  Completes.step _ _ _ _ _ h0 (execLodgeInstruction_frame c e s) hw

end Sys2Proof.Machine
end

