-- ==== Sys2Proof/Laws/F_Clock.lean ====
section
/-!
SUPPORT. Frames of the operations of Machine/Clock.lean.
-/
namespace Sys2Proof.Machine

set_option linter.unusedTactic false
set_option linter.unreachableTactic false
set_option linter.unusedVariables false

theorem State.tileCk_frame (s : State) (k : Nat) : Frame 17182261252 s (State.tileCk s k) := by
  unfold State.tileCk
  try dsimp only
  repeat' first
    | with_reducible apply Frame.refl
    | with_reducible assumption
    | apply Eq.refl
    | with_reducible apply State.jobsTick_step
    | (with_reducible refine Frame.of_pair (by with_reducible assumption) (State.jobsTick_step _ _ _ _ ?_ ?_))
    | with_reducible apply State.goOn_step
    | with_reducible apply State.onTile_step
    | with_reducible apply Frame.foldl
    | with_reducible apply Frame.foldl_fst
    | split
    | with_reducible apply Frame.ite
    | intro _
    | dsimp only
theorem State.tileCk_step (w0 : Nat) (a0 : State) (s : State) (k : Nat) (h0 : Frame w0 a0 s) (hw : 17182261252 &&& w0 = 17182261252) : Frame w0 a0 (State.tileCk s k) :=
  Frame.step _ _ _ _ _ h0 (State.tileCk_frame s k) hw

theorem State.dieCk_frame (s : State) (d : Nat) : Frame 65536 s (State.dieCk s d) := by
  unfold State.dieCk
  try dsimp only
  repeat' first
    | with_reducible apply Frame.refl
    | with_reducible assumption
    | apply Eq.refl
    | with_reducible apply State.setDie_step
    | with_reducible apply Frame.foldl
    | with_reducible apply Frame.foldl_fst
    | split
    | with_reducible apply Frame.ite
    | intro _
    | dsimp only
theorem State.dieCk_step (w0 : Nat) (a0 : State) (s : State) (d : Nat) (h0 : Frame w0 a0 s) (hw : 65536 &&& w0 = 65536) : Frame w0 a0 (State.dieCk s d) :=
  Frame.step _ _ _ _ _ h0 (State.dieCk_frame s d) hw

theorem State.terraceCk_frame (s : State) : Frame 18391880756 s (State.terraceCk s) := by
  unfold State.terraceCk
  try dsimp only
  repeat' first
    | with_reducible apply Frame.refl
    | with_reducible assumption
    | apply Eq.refl
    | with_reducible exact fun c => Tab.put_wf _ _ _ _ (State.canonical_tile _ c)
    | with_reducible exact fun c => Tab.mapV_wf _ _ _ (State.canonical_tile _ c)
    | with_reducible exact fun c => Tab.filter_wf _ _ _ (State.canonical_tile _ c)
    | with_reducible apply State.tileCk_step
    | with_reducible apply State.feedCk_step
    | with_reducible apply State.emitFaults_step
    | with_reducible apply State.queueBounds_step
    | with_reducible apply State.dieCk_step
    | with_reducible apply Frame.foldl
    | with_reducible apply Frame.foldl_fst
    | split
    | with_reducible apply Frame.ite
    | with_reducible apply Frame.set_tiles
    | intro _
    | dsimp only
theorem State.terraceCk_step (w0 : Nat) (a0 : State) (s : State) (h0 : Frame w0 a0 s) (hw : 18391880756 &&& w0 = 18391880756) : Frame w0 a0 (State.terraceCk s) :=
  Frame.step _ _ _ _ _ h0 (State.terraceCk_frame s) hw

theorem State.holdCk_frame (s : State) : Frame 4096 s (State.holdCk s) := by
  unfold State.holdCk
  try dsimp only
  repeat' first
    | with_reducible apply Frame.refl
    | with_reducible assumption
    | apply Eq.refl
    | with_reducible apply State.updBell_step
    | with_reducible apply Frame.foldl
    | with_reducible apply Frame.foldl_fst
    | split
    | with_reducible apply Frame.ite
    | intro _
    | dsimp only
theorem State.holdCk_step (w0 : Nat) (a0 : State) (s : State) (h0 : Frame w0 a0 s) (hw : 4096 &&& w0 = 4096) : Frame w0 a0 (State.holdCk s) :=
  Frame.step _ _ _ _ _ h0 (State.holdCk_frame s) hw

theorem State.taskCk_frame (s : State) (k : Nat) : Frame 33554432 s (State.taskCk s k) := by
  unfold State.taskCk
  try dsimp only
  repeat' first
    | with_reducible apply Frame.refl
    | with_reducible assumption
    | apply Eq.refl
    | with_reducible apply State.setTask_step
    | with_reducible apply Frame.foldl
    | with_reducible apply Frame.foldl_fst
    | split
    | with_reducible apply Frame.ite
    | intro _
    | dsimp only
theorem State.taskCk_step (w0 : Nat) (a0 : State) (s : State) (k : Nat) (h0 : Frame w0 a0 s) (hw : 33554432 &&& w0 = 33554432) : Frame w0 a0 (State.taskCk s k) :=
  Frame.step _ _ _ _ _ h0 (State.taskCk_frame s k) hw

theorem State.lodgeCk_frame (s : State) : Frame 33554432 s (State.lodgeCk s) := by
  unfold State.lodgeCk
  try dsimp only
  repeat' first
    | with_reducible apply Frame.refl
    | with_reducible assumption
    | apply Eq.refl
    | with_reducible apply State.taskCk_step
    | with_reducible apply Frame.foldl
    | with_reducible apply Frame.foldl_fst
    | split
    | with_reducible apply Frame.ite
    | intro _
    | dsimp only
theorem State.lodgeCk_step (w0 : Nat) (a0 : State) (s : State) (h0 : Frame w0 a0 s) (hw : 33554432 &&& w0 = 33554432) : Frame w0 a0 (State.lodgeCk s) :=
  Frame.step _ _ _ _ _ h0 (State.lodgeCk_frame s) hw

theorem State.hubCk_frame (s : State) (h : Nat) : Frame 1260311604 s (State.hubCk s h) := by
  unfold State.hubCk
  try dsimp only
  repeat' first
    | with_reducible apply Frame.refl
    | with_reducible assumption
    | apply Eq.refl
    | with_reducible apply State.kskCk_step
    | with_reducible apply State.gthCk_step
    | with_reducible apply Frame.foldl
    | with_reducible apply Frame.foldl_fst
    | split
    | with_reducible apply Frame.ite
    | intro _
    | dsimp only
theorem State.hubCk_step (w0 : Nat) (a0 : State) (s : State) (h : Nat) (h0 : Frame w0 a0 s) (hw : 1260311604 &&& w0 = 1260311604) : Frame w0 a0 (State.hubCk s h) :=
  Frame.step _ _ _ _ _ h0 (State.hubCk_frame s h) hw

theorem State.hubsCk_frame (s : State) : Frame 1260311604 s (State.hubsCk s) := by
  unfold State.hubsCk
  try dsimp only
  repeat' first
    | with_reducible apply Frame.refl
    | with_reducible assumption
    | apply Eq.refl
    | with_reducible apply State.hubCk_step
    | with_reducible apply Frame.foldl
    | with_reducible apply Frame.foldl_fst
    | split
    | with_reducible apply Frame.ite
    | intro _
    | dsimp only
theorem State.hubsCk_step (w0 : Nat) (a0 : State) (s : State) (h0 : Frame w0 a0 s) (hw : 1260311604 &&& w0 = 1260311604) : Frame w0 a0 (State.hubsCk s) :=
  Frame.step _ _ _ _ _ h0 (State.hubsCk_frame s) hw

theorem State.clocks_frame (s : State) : Frame 2097194 s (State.clocks s) := by
  unfold State.clocks
  refine Frame.set_mem 2097194 s { s with now := s.now + 1, born := [], ptp := { s.ptp with fifths := s.ptp.fifths + 4 } } _ ?_ rfl rfl rfl
  refine Frame.set_ptp 2097194 s { s with now := s.now + 1, born := [] } _ ?_ rfl
  exact Frame.set_born 2097194 s { s with now := s.now + 1 } _ (Frame.set_now 2097194 s s _ (Frame.refl _ _) rfl) rfl
theorem State.clocks_step (w0 : Nat) (a0 : State) (s : State) (h0 : Frame w0 a0 s) (hw : 2097194 &&& w0 = 2097194) : Frame w0 a0 (State.clocks s) :=
  Frame.step _ _ _ _ _ h0 (State.clocks_frame s) hw

theorem State.tick_frame (s : State) : Frame 34359738110 s (State.tick s) := by
  unfold State.tick
  try dsimp only
  repeat' first
    | with_reducible apply Frame.refl
    | with_reducible assumption
    | apply Eq.refl
    | with_reducible apply State.clocks_step
    | with_reducible apply State.driveGhold_step
    | with_reducible apply State.passCk_step
    | with_reducible apply State.hedgeCk_step
    | with_reducible apply State.hubsCk_step
    | with_reducible apply State.closeWaits_step
    | with_reducible apply State.lodgeCk_step
    | with_reducible apply State.holdCk_step
    | with_reducible apply State.terraceCk_step
    | with_reducible apply Frame.foldl
    | with_reducible apply Frame.foldl_fst
    | split
    | with_reducible apply Frame.ite
    | intro _
    | dsimp only
theorem State.tick_step (w0 : Nat) (a0 : State) (s : State) (h0 : Frame w0 a0 s) (hw : 34359738110 &&& w0 = 34359738110) : Frame w0 a0 (State.tick s) :=
  Frame.step _ _ _ _ _ h0 (State.tick_frame s) hw

end Sys2Proof.Machine
end

