-- ==== Sys2Proof/Laws/F_Dispatch.lean ====
section
/-!
SUPPORT. Frames of the operations of Machine/Dispatch.lean.
-/
namespace Sys2Proof.Machine

set_option linter.unusedTactic false
set_option linter.unreachableTactic false
set_option linter.unusedVariables false

theorem exec_frame (i : Instr) (s : State) : Completes 34359738364 s (exec i s) := by
  unfold exec
  try dsimp only
  repeat' first
    | with_reducible apply Completes.intro
    | with_reducible apply Frame.refl
    | with_reducible assumption
    | apply Eq.refl
    | with_reducible apply execPairedLowWordWrite_after
    | with_reducible apply execRegisterWrite_after
    | with_reducible apply execReadToClear_after
    | with_reducible apply execDeviceReset_after
    | with_reducible apply execFunctionLevelReset_after
    | with_reducible apply execHubBootReset_after
    | with_reducible apply execPerst_after
    | with_reducible apply execResetRelease_after
    | with_reducible apply execHbmTrainingComplete_after
    | with_reducible apply execFirmwareVerifyComplete_after
    | with_reducible apply execFirmwareStart_after
    | with_reducible apply execCapabilityPublish_after
    | with_reducible apply execBootReady_after
    | with_reducible apply execHubBootChunk_after
    | with_reducible apply execEncoderCount_after
    | with_reducible apply execEncZPulse_after
    | with_reducible apply execInternalTimerTick_after
    | with_reducible apply execBelRunSet_after
    | with_reducible apply execBelRunClear_after
    | with_reducible apply execBelEos_after
    | with_reducible apply execBelAbort_after
    | with_reducible apply execBelCtrlConfigWrite_after
    | with_reducible apply execBelEncDivWrite_after
    | with_reducible apply execBelRevHystWrite_after
    | with_reducible apply execBelTimerPeriodWrite_after
    | with_reducible apply execLdgCloseMsWrite_after
    | with_reducible apply execCameraLineWaitExpiry_after
    | with_reducible apply execBandBell_after
    | with_reducible apply execIdleBell_after
    | with_reducible apply execDrainBell_after
    | with_reducible apply execDrainComplete_after
    | with_reducible apply execDrainTimeout_after
    | with_reducible apply execHoldFreeze_after
    | with_reducible apply execHoldResume_after
    | with_reducible apply execHoldTimeout_after
    | with_reducible apply execBandLeavesLastStage_after
    | with_reducible apply execLedgerRunTimeLimit_after
    | with_reducible apply execCloseNow_after
    | with_reducible apply execLedgerEntryEnqueue_after
    | with_reducible apply execTokenHop_after
    | with_reducible apply execTokenEnqueue_after
    | with_reducible apply execCreditReturn_after
    | with_reducible apply execTNop_after
    | with_reducible apply execTCset_after
    | with_reducible apply execTLoop_after
    | with_reducible apply execTJmp_after
    | with_reducible apply execTWaitck_after
    | with_reducible apply execTAset_after
    | with_reducible apply execTAadd_after
    | with_reducible apply execTRset_after
    | with_reducible apply execTWaitq_after
    | with_reducible apply execTRecv_after
    | with_reducible apply execTDrop_after
    | with_reducible apply execTSend_after
    | with_reducible apply execTFwd_after
    | with_reducible apply execTLdsc_after
    | with_reducible apply execTHreq_after
    | with_reducible apply execFireMac_after
    | with_reducible apply execFireExp_after
    | with_reducible apply execFireRecip_after
    | with_reducible apply execFireRsqrt_after
    | with_reducible apply execFireSigmoid_after
    | with_reducible apply execFireTanh_after
    | with_reducible apply execFireLog2_after
    | with_reducible apply execFireAdd_after
    | with_reducible apply execFireMul_after
    | with_reducible apply execFireMax_after
    | with_reducible apply execFireDw3_after
    | with_reducible apply execFireDw5_after
    | with_reducible apply execFireWrite_after
    | with_reducible apply execFireWin0_after
    | with_reducible apply execFireWin1_after
    | with_reducible apply execFireRead_after
    | with_reducible apply execFireIn_after
    | with_reducible apply execFireOut_after
    | with_reducible apply execTAcc_after
    | with_reducible apply execTDrain_after
    | with_reducible apply execTRqh_after
    | with_reducible apply execTMrd_after
    | with_reducible apply execTMwr_after
    | with_reducible apply execTPset_after
    | with_reducible apply execTPimm_after
    | with_reducible apply execTPcnt_after
    | with_reducible apply execTPlog_after
    | with_reducible apply execTSel_after
    | with_reducible apply execTBegin_after
    | with_reducible apply execTBend_after
    | with_reducible apply execTHalt_after
    | with_reducible apply execTileSwapComplete_after
    | with_reducible apply execTerCtrlSnap_after
    | with_reducible apply execTerCtrlClear_after
    | with_reducible apply execHbmReadResponse_after
    | with_reducible apply execCxpStreamPacket_after
    | with_reducible apply execCxpControlPacket_after
    | with_reducible apply execLinkLockLoss_after
    | with_reducible apply execGthLinkTimeout_after
    | with_reducible apply execLinkReturn_after
    | with_reducible apply execCamPortDisable_after
    | with_reducible apply execGatehouseSendBand_after
    | with_reducible apply execMainsRefEdge_after
    | with_reducible apply execFlkLockLoss_after
    | with_reducible apply execGthFfWrite_after
    | with_reducible apply execFfBankWrite_after
    | with_reducible apply execGthRescaleBandWrite_after
    | with_reducible apply execKioskRow_after
    | with_reducible apply execStrobeTimeEnd_after
    | with_reducible apply execGthMarkReqGo_after
    | with_reducible apply execPqItemOffer_after
    | with_reducible apply execPqPushGo_after
    | with_reducible apply execPqBackpressureAccept_after
    | with_reducible apply execPqPop_after
    | with_reducible apply execPqFlush_after
    | with_reducible apply execPqReset_after
    | with_reducible apply execPqEnable_after
    | with_reducible apply execPqDisable_after
    | with_reducible apply execQueuePtrMismatch_after
    | with_reducible apply execSink1Delivery_after
    | with_reducible apply execSink2HostWrite_after
    | with_reducible apply execHostHeadWrite_after
    | with_reducible apply execSigSignal_after
    | with_reducible apply execSigTrywait_after
    | with_reducible apply execSigCountWrite_after
    | with_reducible apply execSigCfgWrite_after
    | with_reducible apply execScrubRead_after
    | with_reducible apply execGkpPassMsWrite_after
    | with_reducible apply execWriteBack_after
    | with_reducible apply execGkpRepairGo_after
    | with_reducible apply execRepairWrite_after
    | with_reducible apply execFillBlock_after
    | with_reducible apply execAllocRequest_after
    | with_reducible apply execZeroingComplete_after
    | with_reducible apply execHedgeRequest_after
    | with_reducible apply execHedgeResponse_after
    | with_reducible apply execHoldbackRelease_after
    | with_reducible apply execLockTimeout_after
    | with_reducible apply execHdgWinEnable_after
    | with_reducible apply execHdgCtrlLocked_after
    | with_reducible apply execDomainPowerRemoved_after
    | with_reducible apply execDomainPowerOnComplete_after
    | with_reducible apply execBedZeroFillComplete_after
    | with_reducible apply execLoadGo_after
    | with_reducible apply execLoadAbort_after
    | with_reducible apply execSwapNow_after
    | with_reducible apply execHubSwapBandWrite_after
    | with_reducible apply execLoadVerifyComplete_after
    | with_reducible apply execTrellisDelivery_after
    | with_reducible apply execActivation_after
    | with_reducible apply execChangeoverWindowClose_after
    | with_reducible apply execHubBar2BaseWrite_after
    | with_reducible apply execLodgeInstruction_after
    | with_reducible apply execKqPush_after
    | with_reducible apply execKqPop_after
    | with_reducible apply execKqSig_after
    | with_reducible apply execKqWait_after
    | with_reducible apply execKqWaitGrant_after
    | with_reducible apply execKqWaitTimeout_after
    | with_reducible apply execInterruptAbandon_after
    | with_reducible apply execPorterStart_after
    | with_reducible apply execPorterComplete_after
    | with_reducible apply execKzirqRead_after
    | with_reducible apply execEcallExit_after
    | with_reducible apply execEcallAlloc_after
    | with_reducible apply execEcallFree_after
    | with_reducible apply execEcallTime_after
    | with_reducible apply execEcallBand_after
    | with_reducible apply execLdgTaskRecordWrite_after
    | with_reducible apply execLdgTaskGo_after
    | with_reducible apply execLdgTaskCancel_after
    | with_reducible apply execTaskStart_after
    | with_reducible apply execTaskCancelComplete_after
    | with_reducible apply execLdgCorePwrWrite_after
    | with_reducible apply execLdgL2LockWrite_after
    | with_reducible apply execKernelStopTimeout_after
    | with_reducible apply execBar0MisalignedAccess_after
    | with_reducible apply execAtomicop_after
    | with_reducible apply execBar2Access_after
    | with_reducible apply execMsixUnmask_after
    | with_reducible apply execDbTail_after
    | with_reducible apply execDbCancelTag_after
    | with_reducible apply execSigwinWrite_after
    | with_reducible apply execSigwinRead_after
    | with_reducible apply execCtxCreate_after
    | with_reducible apply execCtxDestroy_after
    | with_reducible apply execCtxDestroyComplete_after
    | with_reducible apply execCtxDestroyEscalated_after
    | with_reducible apply execCtxClearFault_after
    | with_reducible apply execCtxTlbInv_after
    | with_reducible apply execTlbInvComplete_after
    | with_reducible apply execCtxOwnWrite_after
    | with_reducible apply execRingDisable_after
    | with_reducible apply execRingEntryFetch_after
    | with_reducible apply execRingNop_after
    | with_reducible apply execRingTask_after
    | with_reducible apply execRingSignal_after
    | with_reducible apply execRingWaitSig_after
    | with_reducible apply execRingWaitGrant_after
    | with_reducible apply execRingWaitFence_after
    | with_reducible apply execFencePoll_after
    | with_reducible apply execRingWriteFence_after
    | with_reducible apply execRingCopy_after
    | with_reducible apply execEntryComplete_after
    | with_reducible apply execFlitReceive_after
    | with_reducible apply execPromenadeTokenRelease_after
    | with_reducible apply execPrmLinkDown_after
    | with_reducible apply execMsgHello_after
    | with_reducible apply execMsgCal_after
    | with_reducible apply execMsgFormed_after
    | with_reducible apply execMsgRefused_after
    | with_reducible apply execMsgStart_after
    | with_reducible apply execMsgTick_after
    | with_reducible apply execMsgBell_after
    | with_reducible apply execMsgStreamEnd_after
    | with_reducible apply execMsgArmed_after
    | with_reducible apply execMsgSwap_after
    | with_reducible apply execMsgFault_after
    | with_reducible apply execMsgPtp_after
    | with_reducible apply execPtpBroadcastTimer_after
    | with_reducible apply execControlMessageTimeout_after
    | with_reducible apply execTickMismatchTimeout_after
    | with_reducible apply execBellInEdge_after
    | with_reducible apply execGroupTickApply_after
    | with_reducible apply execGholdNFall_after
    | with_reducible apply execGholdNRise_after
    | with_reducible apply execGroupFreeze_after
    | with_reducible apply execGroupResume_after
    | with_reducible apply execGholdStuck_after
    | with_reducible apply execGrpForm_after
    | with_reducible apply execFormingTimeout_after
    | with_reducible apply execGrpLeave_after
    | with_reducible apply execPrmModeWrite_after
    | with_reducible apply execAutoReform_after
    | with_reducible apply execRecal_after
    | with_reducible apply execVsenseSample_after
    | with_reducible apply execSupWarnClear_after
    | with_reducible apply execSupMismatch_after
    | with_reducible apply execPfailNAssert_after
    | with_reducible apply execDrainCut_after
    | with_reducible apply execFlushComplete_after
    | with_reducible apply execSupThresholdWrite_after
    | with_reducible apply execSupDrainUsWrite_after
    | with_reducible apply execSupFlushAck_after
    | with_reducible apply execSupPwrBedWrite_after
    | with_reducible apply execSupPwrCamWrite_after
    | with_reducible apply execSupPwrPrmWrite_after
    | with_reducible apply execContainmentComplete_after
    | with_reducible apply execHubContainResume_after
    | with_reducible apply execHubFuseCmd_after
    | with_reducible apply execFuseOperationComplete_after
    | with_reducible apply execTemperatureSample_after
    | with_reducible apply execThermalTrip_after
    | with_reducible apply execPinFuncWrite_after
    | with_reducible apply execPinSwitchEnd_after
    | with_reducible apply execPpsOut_after
    | with_reducible apply execTestLogicReset_after
    | with_reducible apply execExtest_after
    | with_reducible apply execClamp_after
    | with_reducible apply execIdcode_after
    | with_reducible apply execBypass_after
    | with_reducible apply execSamplePreload_after
    | with_reducible apply execBpbReadComplete_after
    | with_reducible apply execPcieLinkReturn_after
    | with_reducible apply execPtpServoUpdate_after
    | with_reducible apply execEncoderLos_after
    | with_reducible apply Frame.foldl
    | with_reducible apply Frame.foldl_fst
    | split
    | with_reducible apply Frame.ite
    | intro _
    | dsimp only
theorem exec_after (w0 : Nat) (a0 : State) (i : Instr) (s : State) (h0 : Frame w0 a0 s) (hw : 34359738364 &&& w0 = 34359738364) : Completes w0 a0 (exec i s) :=
  Completes.step _ _ _ _ _ h0 (exec_frame i s) hw

end Sys2Proof.Machine
end

