-- ==== Sys2Proof/Tests/Slice0.lean ====
section
/-!
SUPPORT. The tests: ill-formed commands refused, values of the spec's worked examples, words of Table 3.5, and for every
statement with hypotheses concrete states and operands that meet them, clause by clause.
-/
set_option maxRecDepth 20000
set_option linter.unusedVariables false
set_option Elab.async false
open Sys2Proof Sys2Proof.Machine
namespace Sys2Proof.Tests

/-! ## Well-formedness: one command that each check refuses -/

theorem test_wf_word_access_misaligned : Instr.wellFormed (.registerWrite 2 false 0) = false := by decide
theorem test_wf_pair_access_misaligned : Instr.wellFormed (.registerWrite 4 true 0) = false := by decide
theorem test_wf_narrow_value : Instr.wellFormed (.registerWrite 0 false 0x100000000) = false := by decide
theorem test_wf_read_to_clear_misaligned : Instr.wellFormed (.readToClear 1 false) = false := by decide
theorem test_wf_mac_off_arbor : Instr.wellFormed (.fireMac ⟨⟨0, 4, 5⟩, .clean⟩) = false := by decide
theorem test_wf_exp_off_fountain : Instr.wellFormed (.fireExp ⟨⟨0, 3, 5⟩, .clean⟩) = false := by decide
theorem test_wf_win_off_cistern : Instr.wellFormed (.fireWin0 ⟨⟨0, 2, 0⟩, .clean⟩) = false := by decide
theorem test_wf_in_off_gate : Instr.wellFormed (.fireIn ⟨0, 3, 5⟩) = false := by decide
theorem test_wf_pixel_format : Instr.wellFormed (.cxpStreamPacket 0 ⟨0, 3, [], true, true⟩) = false := by decide
theorem test_wf_request_empty : Instr.wellFormed (.hedgeRequest 0 ⟨1, 0, 0, false, 0, 0, false, false, false⟩) = false := by decide
theorem test_wf_request_over_line : Instr.wellFormed (.hedgeRequest 0 ⟨1, 0, 60, false, 8, 0, false, false, false⟩) = false := by decide
theorem test_wf_lock_and_unlock : Instr.wellFormed (.hedgeRequest 0 ⟨1, 0, 0, false, 8, 0, true, true, false⟩) = false := by decide
theorem test_wf_aligned_as_misaligned : Instr.wellFormed (.bar0MisalignedAccess 4 0x0F false) = false := by decide
theorem test_wf_bar2_empty : Instr.wellFormed (.bar2Access 0 false 0 ⟨0, .clean⟩) = false := by decide
theorem test_wf_atomic_misaligned : Instr.wellFormed (.atomicop 2 4 .swap true 0 0) = false := by decide
theorem test_wf_link_width : Instr.wellFormed (.pcieLinkReturn 3 1) = false := by decide
theorem test_wf_mac_on_arbor : Instr.wellFormed (.fireMac ⟨⟨0, 3, 5⟩, .clean⟩) = true := by decide

/-! ## The words of Table 3.5 (03 R153), some of each group, written out from the table's fields -/

theorem test_word_nop : decodeTile 0x00000000 = some ⟨0, 0, 0, .nop⟩ := by decide
theorem test_word_cset : decodeTile 0b000001_0_0_00_10_0000_0000000000000111 = some ⟨0, 0, 0, .cset 2 7⟩ := by decide
theorem test_word_loop : decodeTile 0b000010_0_0_00_11_000000000000_00000101 = some ⟨0, 0, 0, .loop 3 5⟩ := by decide
theorem test_word_recv : decodeTile 0b001001_1_1_10_101_00000000000000000_11 = some ⟨1, 1, 2, .recv 5 3⟩ := by decide
theorem test_word_fire : decodeTile 0b010000_0_0_00_0011_110_00001111_10_0_1_000 = some ⟨0, 0, 0, .fire 3 6 15 2 0 1⟩ := by decide
theorem test_word_drain : decodeTile 0b010010_0_0_00_1000000001_00000011_1_000 = some ⟨0, 0, 0, .drain 513 3 1⟩ := by decide
theorem test_word_pcnt : decodeTile 0b011010_0_0_00_01_10_11_0000000100000000 = some ⟨0, 0, 0, .pcnt 1 2 3 256⟩ := by decide
theorem test_word_begin : decodeTile 0b011110_0_0_00_11111111_00000000000000 = some ⟨0, 0, 0, .begin_ 255⟩ := by decide
theorem test_word_halt : decodeTile 0b111111_0_0_00_0000000000000000000000 = some ⟨0, 0, 0, .halt⟩ := by decide
theorem test_word_reserved : decodeTile 0b001111_0_0_00_0000000000000000000000 = none := by decide

/-! ## Worked examples of the spec -/

/-- 05 "Worked example: rounding, ties and saturation": uint8, OUT_ZP 128, CLO 0, CHI 255, T 53. -/
def vennor : OutCfg := ⟨true, 128, 0, 255⟩
theorem test_tie_saturates : requant vennor 32640 4194304 0x800000 53 = (255, true) := by decide +kernel
theorem test_below_tie : requant vennor 32639 4194304 0x800000 53 = (255, false) := by decide +kernel
theorem test_tie_even : requant vennor 32384 4194304 0x800000 53 = (254, false) := by decide +kernel
theorem test_negative_tie : requant vennor (-32640) 4194304 0x800000 53 = (0, false) := by decide +kernel
theorem test_negative_saturates : requant vennor (-33152) 4194304 0x800000 53 = (0, true) := by decide +kernel
/-- 05 "Worked example: a camera gain change". -/
theorem test_rescaled : requant vennor 32640 4194304 6710886 53 = (230, false) := by decide +kernel
/-- 05 "Worked example: a residue caught". -/
theorem test_residue : mod7 (-3460) = 5 ∧ mod7 (-3444) = 0 := by decide +kernel
/-- 01 "Worked example: Vennor Line 2 admission": a band admitted at 0, the bell at `t`, `h` ck of holds since. -/
def vennorAt (t h : Nat) : State :=
  { (State.reset.setRegN aBelMinPeriod 974921).setRegN aBelHoldAllow 20000 with
    now := t, bell := { State.reset.bell with admittedAt := some 0, holdSince := h } }
theorem test_admitted : (vennorAt 1000000 30000).judge 0 = .opened 15079 := by decide +kernel
theorem test_shed_for_holds : (vennorAt 1000000 50000).judge 0 = .early 2 4921 := by decide +kernel
theorem test_shed_early : (vennorAt 952381 0).judge 0 = .early 1 22540 := by decide +kernel
/-- 14 R624: the codes of 0.06 V, which is open, and of full scale. -/
theorem test_vsense : vsenseCode 60000 = 204 ∧ vsenseCode 1200000 = 4095 := by decide +kernel

/-! ## States and operands that meet the hypotheses of the statements -/

/-- The state after reset. -/
def w : State := State.reset
/-- `s` with the registers of `l` at their values. -/
def rs (s : State) (l : List (Nat × Word)) : State := l.foldl (fun t e => t.setReg e.1 e.2) s
def okOf (r : StepRes) (d : TileRun) : TileRun := match r with
  | .ok x => x
  | _ => d
def isOk (r : StepRes) : Bool := match r with
  | .ok _ => true
  | _ => false
theorem ok_okOf {x : StepRes} {d : TileRun} (h : isOk x = true) : x = .ok (okOf x d) := by
  cases x <;> first | rfl | cases h
theorem ok_ex {x : StepRes} (h : isOk x = true) : ∃ r, x = .ok r := by
  cases x <;> first | exact ⟨_, rfl⟩ | cases h
def partOf (r : StepRes) (d : TileRun) : TileRun := match r with
  | .part x => x
  | _ => d
def isPart (r : StepRes) : Bool := match r with
  | .part _ => true
  | _ => false
theorem part_partOf {x : StepRes} {d : TileRun} (h : isPart x = true) : x = .part (partOf x d) := by
  cases x <;> first | rfl | cases h
theorem part_ex {x : StepRes} (h : isPart x = true) : ∃ r, x = .part r := by
  cases x <;> first | exact ⟨_, rfl⟩ | cases h
theorem some_getD {α : Type} {x : Option α} {d : α} (h : x.isSome = true) : x = some (x.getD d) := by
  cases x with
  | none => cases h
  | some a => rfl
theorem fst_snd {α β : Type} {x : α × β} {b : β} (h : x.2 = b) : x = (x.1, b) := by
  obtain ⟨a, c⟩ := x; cases h; rfl
theorem fst_fst_snd {α β γ : Type} {x : α × β × γ} {c : γ} (h : x.2.2 = c) : x = (x.1, x.2.1, c) := by
  obtain ⟨a, b, d⟩ := x; cases h; rfl
theorem fst_code_snd {α γ : Type} {x : α × Nat × γ} {n : Nat} (h : x.2.1 = n) : x = (x.1, n, x.2.2) := by
  obtain ⟨a, b, c⟩ := x; cases h; rfl

namespace P00
def lockedPeri : State := w.updHedge 0 (fun x => x.setLock 3 (some ⟨1, 0, 1, 0, false, false⟩))

/-- The hypotheses of `AccessCodes`. -/
theorem witness_AccessCodes :
    (∃ r : RegRow, ∃ old : Word, ∃ v : Word, ∃ i : Nat, i < 32) :=
  ⟨((findRow aBelCtrl).getD (rowRO 0 [] 0)), 0xF0, 0xFFFFFFFF, 4, by decide +kernel⟩

/-- The hypotheses of `RegisterWrites`. -/
theorem witness_RegisterWrites :
    (∃ v : DWord, ∃ x : Nat × Nat, ∃ s : State, s.canonical = true ∧ s.accessWaits 0 mPcie (regBase + aGkpCeLimit) 4 true = none ∧ s.hdgCheck 0 mPcie (regBase + aGkpCeLimit) 4 true false = (s, 0, x) ∧ s.ident.absentAt aGkpCeLimit = false) ∧
    (∃ off : BitVec 25, ∃ wide : Bool, ∃ v : DWord, ∃ s : State, off.toNat % accessBytes wide = 0 ∧ s.ident.absentAt off.toNat = true) ∧
    (∃ off : BitVec 25, ∃ wide : Bool, ∃ v : DWord, ∃ s : State, s.canonical = true ∧ off.toNat % accessBytes wide ≠ 0 ∧ s.reg aHubPcieBadacc ≠ 0) ∧
    (∃ off : BitVec 25, ∃ wide : Bool, ∃ v : DWord, ∃ w : Nat × Nat × Nat × Nat, ∃ s : State, off.toNat % accessBytes wide = 0 ∧ s.ident.absentAt off.toNat = false ∧ s.accessWaits 0 mPcie (regBase + off.toNat) (accessBytes wide) true = some w) ∧
    (∃ x : Nat × Nat, ∃ s : State, s.canonical = true ∧ s.accessWaits 0 mPcie (regBase + aGkpCeCount) 4 false = none ∧ s.hdgCheck 0 mPcie (regBase + aGkpCeCount) 4 false false = (s, 0, x) ∧ s.tilGated 0 aGkpCeCount = false ∧ s.ident.absentAt aGkpCeCount = false) ∧
    (∃ r : PairedReg, ∃ v : Word, ∃ s : State, s.ident.absentAt (pairedAddr r) = false) :=
  ⟨⟨7, ((w.hdgCheck 0 mPcie (regBase + aGkpCeLimit) 4 true false).2.2), w, by decide +kernel⟩,
   ⟨0x110000, false, 7, ({ w with ident := { w.ident with part := 0x4060 } }), by decide +kernel⟩,
   ⟨0x10002, false, 7, (rs w [(aHubPcieBadacc, 1)]), by decide +kernel⟩,
   ⟨0x10004, false, 7, ((0, 5, 3, 3)), lockedPeri, by decide +kernel⟩,
   ⟨((w.hdgCheck 0 mPcie (regBase + aGkpCeCount) 4 false false).2.2), (rs w [(aGkpCeCount, 5)]), by decide +kernel⟩,
   ⟨.hubSwapBand, 9, w, by decide +kernel⟩⟩

end P00

namespace P01
def st0 : Stamp := ⟨0, 0, 0, 0, 0, false⟩
def band5 : BandRec := newBand 5 st0
def flying : BandRec := { band5 with phase := .inFlight }
def waiting_ : BandRec := { band5 with phase := .waiting }
def run1 : Run := newRun band5 (1, ⟨0, 0, 0⟩) 0
/-- RUN is 1 and the stream is in phase `p` with bands `l`. -/
def stream (p : StreamPhase) (l : List BandRec) : State :=
  { rs w [(aBelCtrl, 0x100), (aBelBandNum, 6), (aBelBandLines, 1)] with bell := { w.bell with phase := p, bands := l } }
def holdTile : Tile := { Tile.blank with holdReq := [(0, 1)] }
def below100 : State := { rs w [(aBelEncHwm, 100), (aBelCtrl, 0x100)] with bell := { w.bell with phase := .running } }
def waitRuns (t : Nat) : State := { rs (stream .running [waiting_]) [(aBelBandSet, 1)] with now := t }

/-- The hypotheses of `EncodersAndTicks`. -/
theorem witness_EncodersAndTicks :
    (∃ n : Enc, ∃ a : Bool, ∃ s : State, s.canonical = true ∧ n.val < s.ident.encoders ∧ n.val ≠ s.encSel) ∧
    (∃ n : Enc, ∃ a : Bool, ∃ s : State, s.canonical = true ∧ n.val < s.ident.encoders ∧ n.val = s.encSel ∧ a ≠ s.encDir ∧ w48lt s.hwm (s.encPos n.val + 1) = false ∧ (s.hwm - (s.encPos n.val + 1)).toNat < s.revHyst) ∧
    (∃ n : Enc, ∃ a : Bool, ∃ s : State, s.canonical = true ∧ n.val < s.ident.encoders ∧ n.val = s.encSel ∧ a ≠ s.encDir ∧ s.srcSel = 0 ∧ w48lt s.hwm (s.encPos n.val + 1) = true ∧ s.bell.reversal = none ∧ s.bell.tickAcc + 65536 < s.encDiv) ∧
    (∃ n : Enc, ∃ s : State, n.val < s.ident.encoders ∧ n.val = s.encSel) ∧
    (∃ n : Enc, ∃ s : State, n.val ≠ s.encSel) ∧
    (∃ s : State, s.srcSel = 2 ∧ s.ticksAllowed = true ∧ s.bell.timerDue ≤ s.now) ∧
    (∃ s : State, s.now < s.bell.timerDue) ∧
    (∃ s : State, s.srcSel ≠ 2) ∧
    (∃ n : Cam, ∃ o : OpenTick, ∃ s : State, s.canonical = true ∧ (s.cam n.val).open_.head? = some o ∧ o.at_ + s.camWait < s.now) ∧
    (∃ n : Cam, ∃ o : OpenTick, ∃ s : State, (s.cam n.val).open_.head? = some o ∧ o.at_ + s.camWait = s.now) ∧
    (∃ n : Cam, ∃ o : OpenTick, ∃ s : State, (s.cam n.val).open_.head? = some o ∧ s.now < o.at_ + s.camWait) ∧
    (∃ n : Cam, ∃ s : State, (s.cam n.val).open_ = []) :=
  ⟨⟨1, true, w, by decide +kernel⟩,
   ⟨0, true, (rs w [(aBelEncHwm, 4)]), by decide +kernel⟩,
   ⟨0, true, (rs w [(aBelEncDiv, 0x20000)]), by decide +kernel⟩,
   ⟨0, (rs w [(aBelEncPos 0, 77)]), by decide +kernel⟩,
   ⟨1, w, by decide +kernel⟩,
   ⟨(rs (stream .running []) [(aBelCtrl, 0x102)]), by decide +kernel⟩,
   ⟨({ w with bell := { w.bell with timerDue := 9 } }), by decide +kernel⟩,
   ⟨w, by decide +kernel⟩,
   ⟨2, (⟨9, 1, 0⟩), ({ w with now := 5000000, gth := { w.gth with cams := [(2, { CamState.init with open_ := [⟨9, 1, 0⟩] })] } }), by decide +kernel⟩,
   ⟨2, (⟨9, 1, 0⟩), ({ w with now := 62500, gth := { w.gth with cams := [(2, { CamState.init with open_ := [⟨9, 1, 0⟩] })] } }), by decide +kernel⟩,
   ⟨2, (⟨9, 1, 0⟩), ({ w with now := 62499, gth := { w.gth with cams := [(2, { CamState.init with open_ := [⟨9, 1, 0⟩] })] } }), by decide +kernel⟩,
   ⟨2, w, by decide +kernel⟩⟩

/-- The hypotheses of `BellSettings`. -/
theorem witness_BellSettings :
    (∃ src : BitVec 2, ∃ sel : BitVec 2, ∃ d : Bool, ∃ s : State, s.canonical = true ∧ s.runBit = false) ∧
    (∃ src : BitVec 2, ∃ sel : BitVec 2, ∃ d : Bool, ∃ s : State, s.canonical = true ∧ s.runBit = true) ∧
    (∃ v : Word, ∃ s : State, s.canonical = true) ∧
    (∃ v : Word, ∃ s : State, s.canonical = true ∧ (s.bell.reversal.isSome = true ∨ s.srcSel ≠ 0 ∨ s.ticksAllowed = false ∨ w48le s.hwm s.posP = true ∨ s.below < max 1 (min 65535 v.toNat))) ∧
    (∃ v : Word, ∃ s : State, s.canonical = true ∧ s.bell.reversal = none ∧ s.srcSel = 0 ∧ s.bell.phase = .running ∧ w48le s.hwm s.posP = false ∧ max 1 (min 65535 v.toNat) ≤ s.below) ∧
    (∃ v : Word, ∃ s : State, s.canonical = true) ∧
    (∃ v : Word, ∃ s : State, s.canonical = true) :=
  ⟨⟨3, 2, true, w, by decide +kernel⟩,
   ⟨3, 2, true, (stream .running []), by decide +kernel⟩,
   ⟨0x20000, ({ w with bell := { w.bell with tickAcc := 0x10001 } }), by decide +kernel⟩,
   ⟨0, w, by decide +kernel⟩,
   ⟨7, below100, by decide +kernel⟩,
   ⟨999, ({ w with bell := { w.bell with timerDue := 5000 } }), by decide +kernel⟩,
   ⟨60001, w, by decide +kernel⟩⟩

/-- The hypotheses of `StreamControl`. -/
theorem witness_StreamControl :
    (∃ s : State, s.canonical = true ∧ s.runBit = false ∧ s.activationDue = false ∧ s.mayRun = true ∧ s.grpMode = false) ∧
    (∃ s : State, s.canonical = true ∧ s.runBit = false ∧ s.activationDue = false ∧ s.mayRun = false) ∧
    (∃ c : Instr, ∃ s : State, (c = .belEos ∨ c = .belRunClear) ∧ s.runBit = true ∧ s.grp.running = false ∧ s.bell.phase = .running ∧ s.assembling = none ∧ s.grp.ticks = []) ∧
    (∃ c : Instr, ∃ b : BandRec, ∃ s : State, (c = .belEos ∨ c = .belRunClear) ∧ s.runBit = true ∧ s.grp.running = false ∧ s.bell.phase = .running ∧ s.assembling = some b) ∧
    (∃ b : BandRec, ∃ s : State, s.runBit = true ∧ s.grp.running = false ∧ s.bell.phase = .running ∧ s.assembling = some b) ∧
    (∃ s : State, s.runBit = true ∧ s.grp.running = false ∧ s.bell.phase = .running ∧ s.assembling = none ∧ s.grp.ticks = [] ∧ s.bell.lastBand = none) ∧
    (∃ s : State, s.runBit = false) :=
  ⟨⟨(rs w [(aHubLoadStatus, 0x02000000), (aBelBandLines, 1), (aBelBandSet, 1)]), by decide +kernel⟩,
   ⟨w, by decide +kernel⟩,
   ⟨.belEos, (stream .running []), by decide +kernel⟩,
   ⟨.belEos, band5, (stream .running [band5]), by decide +kernel⟩,
   ⟨band5, (stream .running [band5]), by decide +kernel⟩,
   ⟨(stream .running []), by decide +kernel⟩,
   ⟨w, by decide +kernel⟩⟩

/-- The hypotheses of `AdmissionAndBells`. -/
theorem witness_AdmissionAndBells :
    (∃ s : State, ∃ a : Nat, ∃ n : W48, s.bell.admittedAt = some a ∧ a + s.gatePeriod n + (s.bell.holdSince - s.holdAllow n) ≤ s.now) ∧
    (∃ s : State, ∃ a : Nat, ∃ n : W48, s.bell.admittedAt = some a ∧ s.now < a + s.gatePeriod n + (s.bell.holdSince - s.holdAllow n)) ∧
    (∃ b : BandRec, ∃ s : State, s.nextBell = some b ∧ s.bellDue b = true ∧ s.lastCk b = false) ∧
    (∃ b : BandRec, ∃ s : State, s.nextBell = some b ∧ s.bellDue b = true ∧ s.lastCk b = true) ∧
    (∃ b : BandRec, ∃ s : State, s.nextBell = some b ∧ s.bellDue b = false) ∧
    (∃ b : BandRec, ∃ s : State, s.canonical = true) ∧
    (∃ s : State, s.nextBell = none) ∧
    (∃ s : State, s.canonical = true ∧ (s.bell.phase = .running ∨ s.bell.phase = .ending) ∧ s.inFlight ≠ [] ∧ s.sup.cut = false ∧ s.grp.running = false ∧ max (s.bell.lastTickAt.getD 0) (s.bell.lastIdleAt.getD 0) + max (s.regN aBelIdlePeriod) s.minPeriod ≤ s.now) ∧
    (∃ s : State, s.canonical = true ∧ s.bell.phase = .draining ∧ s.sup.cut = false ∧ s.grp.running = false ∧ s.contain.active = false ∧ s.bell.lastBellAt.all (fun t => decide (t + s.minPeriod ≤ s.now)) = true) ∧
    (∃ s : State, s.canonical = true ∧ s.ledger.full = true ∧ s.ledger.store.length + 512 ≤ 4096) ∧
    (∃ s : State, s.eosThrough = false) ∧
    (∃ s : State, s.eosThrough = true) ∧
    (∃ s : State, s.bell.phase = .draining ∧ s.depthBells + 2 ≤ s.bell.drainBells ∧ s.eosThrough = false ∧ s.contain.active = false ∧ s.sup.t0 = none) ∧
    (∃ s : State, s.canonical = true) :=
  ⟨⟨({ w with now := 5000000, bell := { w.bell with admittedAt := some 10 } }), 10, 7, by decide +kernel⟩,
   ⟨({ rs w [(aBelMinPeriod, 100)] with now := 12, bell := { w.bell with admittedAt := some 10 } }), 10, 7, by decide +kernel⟩,
   ⟨waiting_, ({ stream .running [waiting_] with now := 5000000 }), by decide +kernel⟩,
   ⟨waiting_, (waitRuns 62500), by decide +kernel⟩,
   ⟨waiting_, (waitRuns 62499), by decide +kernel⟩,
   ⟨waiting_, (stream .running [waiting_]), by decide +kernel⟩,
   ⟨w, by decide +kernel⟩,
   ⟨({ stream .running [flying] with now := 5000000 }), by decide +kernel⟩,
   ⟨(stream .draining []), by decide +kernel⟩,
   ⟨({ w with ledger := { w.ledger with full := true } }), by decide +kernel⟩,
   ⟨w, by decide +kernel⟩,
   ⟨(stream .draining []), by decide +kernel⟩,
   ⟨({ stream .draining [flying] with bell := { (stream .draining [flying]).bell with drainBells := 2 } }), by decide +kernel⟩,
   ⟨({ stream .draining [] with ledger := { w.ledger with runs := [run1] } }), by decide +kernel⟩⟩

/-- The hypotheses of `HoldTree`. -/
theorem witness_HoldTree :
    (∃ t0 : Nat, ∃ rest : List (Nat × Bool), ∃ s : State, s.hold.edges = (t0, true) :: rest ∧ t0 + 6 ≤ s.now ∧ s.grp.running = false) ∧
    (∃ t0 : Nat, ∃ rest : List (Nat × Bool), ∃ s : State, s.hold.edges = (t0, false) :: rest ∧ t0 + 6 ≤ s.now ∧ s.grp.running = false) ∧
    (∃ t0 : Nat, ∃ v : Bool, ∃ rest : List (Nat × Bool), ∃ s : State, s.hold.edges = (t0, v) :: rest ∧ s.now < t0 + 6) ∧
    (∃ s : State, s.grp.running = false ∧ s.hold.tree = true ∧ s.hold.roseAt + s.regN aBelHoldWdog ≤ s.now ∧ s.holders ≠ []) ∧
    (∃ s : State, s.holders = []) :=
  ⟨⟨0, [], ({ w with now := 6, hold := { w.hold with edges := [(0, true)] } }), by decide +kernel⟩,
   ⟨0, ([(3, true)]), ({ w with now := 6, hold := { w.hold with edges := [(0, false), (3, true)], frozen := true } }), by decide +kernel⟩,
   ⟨0, true, [], ({ w with now := 5, hold := { w.hold with edges := [(0, true)] } }), by decide +kernel⟩,
   ⟨({ rs w [(aBelHoldWdog, 9)] with now := 9, hold := { w.hold with tree := true }, tiles := [(33, holdTile)] }), by decide +kernel⟩,
   ⟨w, by decide +kernel⟩⟩

/-- The hypotheses of `LedgerWriter`. -/
theorem witness_LedgerWriter :
    (∃ b : BandRec, ∃ s : State, s.inFlight.head? = some b ∧ s.processed b.num = true) ∧
    (∃ n : W48, ∃ s : State, s.processed n = false) ∧
    (∃ n : W48, ∃ s : State, s.inFlight = []) ∧
    (∃ s : State, s.ledger.full = false) ∧
    (∃ s : State, s.ledger.full = true) ∧
    (∃ e : Line, ∃ rest : List Line, ∃ s : State, s.ledger.store = e :: rest ∧ (s.pq qLedger).occ < s.pqDepth qLedger) ∧
    (∃ s : State, s.ledger.store = []) ∧
    (∃ byTime : Bool, ∃ r : Run, ∃ s : State, s.canonical = true ∧ s.ledger.store.length < 4096) ∧
    (∃ byTime : Bool, ∃ r : Run, ∃ s : State, s.canonical = true ∧ 4096 ≤ s.ledger.store.length) :=
  ⟨⟨flying, (stream .running [flying]), by decide +kernel⟩,
   ⟨5, ({ w with bell := { w.bell with sendq := [(0, [⟨.band, 5, 0⟩])] } }), by decide +kernel⟩,
   ⟨5, w, by decide +kernel⟩,
   ⟨({ w with now := 1250000000, ledger := { w.ledger with runs := [run1, { run1 with openedAt := 1250000000 }] } }), by decide +kernel⟩,
   ⟨({ w with ledger := { w.ledger with full := true, runs := [run1] } }), by decide +kernel⟩,
   ⟨7, [8], ({ rs w [(aPq qLedger, 0x80000008), (aPq qLedger + 8, 0)] with ledger := { w.ledger with store := [7, 8] } }), by decide +kernel⟩,
   ⟨w, by decide +kernel⟩,
   ⟨true, run1, (rs w [(aLdgNextSeq, 65535)]), by decide +kernel⟩,
   ⟨true, run1, ({ w with ledger := { w.ledger with store := List.replicate 4096 0 } }), by decide +kernel⟩⟩

end P01

namespace P03
/-- A gate, an arbor, a cistern and a fountain. -/
def gateT : TileLoc := ⟨0, 3, 0⟩
def arborT : TileLoc := ⟨0, 3, 5⟩
def cisternT : TileLoc := ⟨1, 2, 5⟩
def fountainT : TileLoc := ⟨0, 4, 5⟩
/-- A configuration whose first word is `o`, with queue 0 held and 4 deep. -/
def cfgOf (o : TOp) : TileCfg :=
  ⟨1, 0, [], [encodeTile ⟨0, 0, 0, o⟩], 3, List.replicate 8 0x10404, 0, [], []⟩
def tileOf (o : TOp) : Tile := { Tile.blank with cfg := some (cfgOf o), phase := .running }
def one (t : TileLoc) (x : Tile) : State := { w with now := 5, tiles := [(t.key, x)] }
def ready (t : TileLoc) (o : TOp) : State := one t (tileOf o)
/-- A token of kind `k` that came over ROUTE 3 of tile 34. -/
def tokenOf (k fmt : Nat) (p : Line) : Flight := ⟨mkToken (mkTag 0 k fmt 3 false 0) p, 0, 1, none, some (34, 3)⟩
def tok : Flight := tokenOf 0 0 0x102
def withQ (x : Tile) (q : Nat) (l : List Flight) : Tile := x.setQueue q l
def notHeld (x : Tile) : Tile := { x with cfg := x.cfg.map (fun c => { c with iq := List.replicate 8 0x404 }) }
def readyQ (t : TileLoc) (o : TOp) (l : List Flight) : State := one t (withQ (tileOf o) 0 l)
def route7 : SwEntry := ⟨0, 7, 1, 0, 0, 0, 2⟩
def withSw (x : Tile) : Tile := { x with io := { x.io with sw := [route7] } }
def fresh_ (s : State) (t : TileLoc) : TileRun := s.fresh_ t.key
def sSend : State := one arborT (withSw (tileOf (.send 1 7)))
def sFwd : State := one arborT (withSw (withQ (tileOf (.fwd 0 0 7)) 0 [tok]))
def sLdsc : State := readyQ arborT (.ldsc 0 0) [tokenOf 1 0 0]
def sRqh : State := one arborT (withSw { tileOf (.rqh 7 0) with arb := { ArbState.empty with hold := [List.replicate 16 1] } })
def sUn : State := readyQ fountainT (.fire 1 0 0 1 0 0) [tok]
def sBin : State := one fountainT (withQ (withQ (tileOf (.fire 7 0 0 1 0 0)) 0 [tok]) 1 [tok])
def fcols (o : TOp) : State := one fountainT (([0, 1, 2] : List Nat).foldl (fun x q => withQ x q [tok, tok, tok, tok, tok]) (tileOf o))
def sDw3 : State := fcols (.fire 9 0 0 1 0 0)
def sDw5 : State := fcols (.fire 10 0 0 1 0 0)
def sIn : State := one gateT ((withQ (tileOf (.fire 0 0 0 1 0 0)) 8 [tok]))
def sOut : State := readyQ gateT (.fire 1 0 0 0 0 0) [tok]
def marker (k : Nat) : Flight := tokenOf k 0 (markerLine 9 false)
def sBegin : State := readyQ arborT (.begin_ 1) [marker 4]
def sBend : State := readyQ arborT (.bend 1) [marker 5]
def beginRunOf (s : State) (k : Nat) (idle : Bool) : TileRun :=
  (((fresh_ s arborT).popAll (maskQueues 1) s.now).sendMarkers (s.tenv arborT.key) k 9 idle).getD (fresh_ s arborT)
def sSwap : State := one arborT { Tile.blank with phase := .swapping, shadow := some (cfgOf .nop), shadowReady := true }
def stoned (t : TileLoc) (e : List SwEntry) (f : Flight) : State :=
  one t { Tile.blank with io := { TileIo.empty with stones := [(4, [f])], sw := e } }
def hopE : SwEntry := ⟨0, 3, 2, 0, 0, 0, 0⟩
def qE : SwEntry := ⟨0, 3, 4, 1, 0, 0, 0⟩
def rdE : HbmRead := ⟨2, 0, 0, 1, 64, 0, true⟩
def sMac : State := readyQ arborT (.fire 0 0 0 0 0 0) [tokenOf 0 0 5]
def sRaw : State := one arborT (withSw { tileOf (.drain 7 0 1) with arb := ArbState.empty })
def sWr : State := readyQ cisternT (.fire 0 0 0 1 0 0) [tok]
def sMrd : State := ready cisternT (.mrd 0 0 0 0)
def sMwr : State := readyQ cisternT (.mwr 0 0 0 0) [tok]
def busy0 : State := one cisternT { tileOf (.fire 0 0 0 0 0 0) with win := { WinState.empty with jobs := [⟨0, 0, 0, 0, 1, 0, 0, 0⟩] } }
def sEos : State := readyQ arborT (.begin_ 1) [marker 6]
def sEoc : State := one arborT { (withQ (tileOf (.begin_ 1)) 0 [marker 7]) with shadow := some (cfgOf .nop), shadowReady := true }
def hubGate : State := one gateT { tileOf (.fire 0 0 0 1 0 0) with io := { TileIo.empty with stones := [(4, [{ tok with org := none }])], sw := [] } }
def rdF : HbmRead := ⟨2, 0, 0, 1, 64, 0, false⟩
def sHbm : State := { one cisternT { Tile.blank with win := { WinState.empty with reads := [rdF] } } with mem := { w.mem with filled := (List.range 64).map (fun k => (k, 5)) } }
def pix (s : State) (n : Nat) : State := s.setTile fountainT.key { s.tile fountainT.key with win := { (s.tile fountainT.key).win with pos := [(3, n)] } }
def dwW (s : State) : State := s.wordRead fountainT (some (Config.fieldPlace (2 ^ 16 + 64 * ((s.tile fountainT.key).ar 0).toNat) / 8)) .clean

/-- The hypotheses of `SequencerControl`. -/
theorem witness_SequencerControl :
    (∃ t : TileLoc, ∃ s : State, ReadyFor s t.key .nop) ∧
    (∃ t : TileLoc, ∃ c : BitVec 2, ∃ n : BitVec 16, ∃ s : State, ReadyFor s t.key (.cset c n)) ∧
    (∃ t : TileLoc, ∃ c : BitVec 2, ∃ a : BitVec 8, ∃ s : State, ReadyFor s t.key (.loop c a) ∧ ((s.tile t.key).cnt c.toNat).cur ≤ 1) ∧
    (∃ t : TileLoc, ∃ c : BitVec 2, ∃ a : BitVec 8, ∃ s : State, ReadyFor s t.key (.loop c a) ∧ 1 < ((s.tile t.key).cnt c.toNat).cur) ∧
    (∃ t : TileLoc, ∃ a : BitVec 8, ∃ s : State, ReadyFor s t.key (.jmp a)) ∧
    (∃ t : TileLoc, ∃ n : BitVec 16, ∃ s : State, ReadyFor s t.key (.waitck n)) ∧
    (∃ t : TileLoc, ∃ a : BitVec 2, ∃ v : BitVec 16, ∃ s : State, ReadyFor s t.key (.aset a v)) ∧
    (∃ t : TileLoc, ∃ a : BitVec 2, ∃ v : BitVec 16, ∃ s : State, ReadyFor s t.key (.aadd a v)) ∧
    (∃ t : TileLoc, ∃ r : BitVec 10, ∃ s : State, ReadyFor s t.key (.rset r)) ∧
    (∃ t : TileLoc, ∃ s : State, ReadyFor s t.key .halt) ∧
    (∃ t : TileLoc, ∃ p : BitVec 2, ∃ v : BitVec 1, ∃ s : State, ReadyFor s t.key (.pimm p v)) ∧
    (∃ t : TileLoc, ∃ p : BitVec 2, ∃ b : BitVec 2, ∃ c : BitVec 2, ∃ it : BitVec 1, ∃ ix : BitVec 9, ∃ s : State, ReadyFor s t.key (.pset p b c it ix)) ∧
    (∃ t : TileLoc, ∃ p : BitVec 2, ∃ c : BitVec 2, ∃ cmp : BitVec 2, ∃ v : BitVec 16, ∃ s : State, ReadyFor s t.key (.pcnt p c cmp v)) ∧
    (∃ t : TileLoc, ∃ p : BitVec 2, ∃ pa : BitVec 2, ∃ pb : BitVec 2, ∃ fn : BitVec 2, ∃ s : State, ReadyFor s t.key (.plog p pa pb fn)) ∧
    (∃ t : TileLoc, ∃ p : BitVec 2, ∃ ba : BitVec 2, ∃ bb : BitVec 2, ∃ bd : BitVec 2, ∃ s : State, ReadyFor s t.key (.sel p ba bb bd)) :=
  ⟨⟨arborT, (ready arborT .nop), ⟨by decide +kernel, by decide +kernel, by decide +kernel, 0, 0, by decide +kernel⟩⟩,
   ⟨arborT, 3, 65535, (ready arborT (.cset 3 65535)), ⟨by decide +kernel, by decide +kernel, by decide +kernel, 0, 0, by decide +kernel⟩⟩,
   ⟨arborT, 1, 9, (ready arborT (.loop 1 9)), ⟨by decide +kernel, by decide +kernel, by decide +kernel, 0, 0, by decide +kernel⟩, by decide +kernel⟩,
   ⟨arborT, 1, 9, (one arborT ((tileOf (.loop 1 9)).setCnt 1 ⟨4, 2⟩)), ⟨by decide +kernel, by decide +kernel, by decide +kernel, 0, 0, by decide +kernel⟩, by decide +kernel⟩,
   ⟨arborT, 255, (ready arborT (.jmp 255)), ⟨by decide +kernel, by decide +kernel, by decide +kernel, 0, 0, by decide +kernel⟩⟩,
   ⟨arborT, 65535, (ready arborT (.waitck 65535)), ⟨by decide +kernel, by decide +kernel, by decide +kernel, 0, 0, by decide +kernel⟩⟩,
   ⟨arborT, 3, 65535, (ready arborT (.aset 3 65535)), ⟨by decide +kernel, by decide +kernel, by decide +kernel, 0, 0, by decide +kernel⟩⟩,
   ⟨arborT, 3, 2, (one arborT ((tileOf (.aadd 3 2)).setAr 3 65535)), ⟨by decide +kernel, by decide +kernel, by decide +kernel, 0, 0, by decide +kernel⟩⟩,
   ⟨arborT, 1023, (ready arborT (.rset 1023)), ⟨by decide +kernel, by decide +kernel, by decide +kernel, 0, 0, by decide +kernel⟩⟩,
   ⟨arborT, (ready arborT .halt), ⟨by decide +kernel, by decide +kernel, by decide +kernel, 0, 0, by decide +kernel⟩⟩,
   ⟨arborT, 3, 1, (ready arborT (.pimm 3 1)), ⟨by decide +kernel, by decide +kernel, by decide +kernel, 0, 0, by decide +kernel⟩⟩,
   ⟨arborT, 2, 1, 0, 0, 511, (ready arborT (.pset 2 1 0 0 511)), ⟨by decide +kernel, by decide +kernel, by decide +kernel, 0, 0, by decide +kernel⟩⟩,
   ⟨arborT, 2, 1, 3, 1, (ready arborT (.pcnt 2 1 3 1)), ⟨by decide +kernel, by decide +kernel, by decide +kernel, 0, 0, by decide +kernel⟩⟩,
   ⟨arborT, 2, 1, 0, 2, (ready arborT (.plog 2 1 0 2)), ⟨by decide +kernel, by decide +kernel, by decide +kernel, 0, 0, by decide +kernel⟩⟩,
   ⟨arborT, 2, 1, 3, 2, (one arborT ((tileOf (.sel 2 1 3 2)).setBuf 3 tok.tok)), ⟨by decide +kernel, by decide +kernel, by decide +kernel, 0, 0, by decide +kernel⟩⟩⟩

/-- The hypotheses of `SequencerTokens`. -/
theorem witness_SequencerTokens :
    (∃ t : TileLoc, ∃ q : BitVec 3, ∃ n : BitVec 5, ∃ s : State, ReadyFor s t.key (.waitq q n) ∧ n.toNat + 1 ≤ (s.tile t.key).usable q.toNat) ∧
    (∃ t : TileLoc, ∃ q : BitVec 3, ∃ n : BitVec 5, ∃ s : State, ReadyFor s t.key (.waitq q n) ∧ (s.tile t.key).usable q.toNat < n.toNat + 1 ∧ (s.tile t.key).held q.toNat = false) ∧
    (∃ t : TileLoc, ∃ q : BitVec 3, ∃ n : BitVec 5, ∃ s : State, ReadyFor s t.key (.waitq q n) ∧ (s.tile t.key).usable q.toNat < n.toNat + 1 ∧ (s.tile t.key).held q.toNat = true) ∧
    (∃ t : TileLoc, ∃ q : BitVec 3, ∃ b : BitVec 2, ∃ f : Flight, ∃ s : State, ReadyFor s t.key (.recv q b) ∧ UsableHead s t.key q.toNat f) ∧
    (∃ t : TileLoc, ∃ q : BitVec 3, ∃ n : BitVec 5, ∃ f : Flight, ∃ s : State, ReadyFor s t.key (.drop q n) ∧ UsableHead s t.key q.toNat f) ∧
    (∃ t : TileLoc, ∃ b : BitVec 2, ∃ rt : BitVec 10, ∃ r : TileRun, ∃ s : State, ReadyFor s t.key (.send b rt) ∧ (s.fresh_ t.key).send (s.tenv t.key) rt (tagKind ((s.tile t.key).buf b.toNat).tag) (tagFmt ((s.tile t.key).buf b.toNat).tag) (tagLast ((s.tile t.key).buf b.toNat).tag) ((s.tile t.key).buf b.toNat).payload s.now = some r) ∧
    (∃ t : TileLoc, ∃ b : BitVec 2, ∃ rt : BitVec 10, ∃ s : State, ReadyFor s t.key (.send b rt) ∧ (s.tile t.key).creditsFree (s.tile t.key).gen rt = 0) ∧
    (∃ t : TileLoc, ∃ q : BitVec 3, ∃ n : BitVec 8, ∃ rt : BitVec 10, ∃ f : Flight, ∃ r : TileRun, ∃ s : State, ReadyFor s t.key (.fwd q n rt) ∧ UsableHead s t.key q.toNat f ∧ ((s.fresh_ t.key).pop q.toNat s.now).send (s.tenv t.key) rt (tagKind f.tok.tag) (tagFmt f.tok.tag) (tagLast f.tok.tag) f.tok.payload s.now = some r) ∧
    (∃ t : TileLoc, ∃ q : BitVec 3, ∃ n : BitVec 5, ∃ s : State, ReadyFor s t.key (.hreq q n) ∧ s.canonical = true ∧ (s.tile t.key).usable q.toNat < n.toNat + 1) ∧
    (∃ t : TileLoc, ∃ q : BitVec 3, ∃ n : BitVec 5, ∃ s : State, ReadyFor s t.key (.hreq q n) ∧ s.canonical = true ∧ n.toNat + 1 ≤ (s.tile t.key).usable q.toNat) :=
  ⟨⟨arborT, 0, 1, (readyQ arborT (.waitq 0 1) [tok, tok]), ⟨by decide +kernel, by decide +kernel, by decide +kernel, 0, 0, by decide +kernel⟩, by decide +kernel⟩,
   ⟨arborT, 0, 1, (one arborT (notHeld (withQ (tileOf (.waitq 0 1)) 0 [tok]))), ⟨by decide +kernel, by decide +kernel, by decide +kernel, 0, 0, by decide +kernel⟩, by decide +kernel⟩,
   ⟨arborT, 0, 1, (readyQ arborT (.waitq 0 1) [tok]), ⟨by decide +kernel, by decide +kernel, by decide +kernel, 0, 0, by decide +kernel⟩, by decide +kernel⟩,
   ⟨arborT, 0, 3, tok, (readyQ arborT (.recv 0 3) [tok]), ⟨by decide +kernel, by decide +kernel, by decide +kernel, 0, 0, by decide +kernel⟩, by unfold UsableHead; decide +kernel⟩,
   ⟨arborT, 0, 0, tok, (readyQ arborT (.drop 0 0) [tok]), ⟨by decide +kernel, by decide +kernel, by decide +kernel, 0, 0, by decide +kernel⟩, by unfold UsableHead; decide +kernel⟩,
   ⟨arborT, 1, 7, (((fresh_ sSend arborT).send (sSend.tenv arborT.key) 7 0 0 false 0 5).getD (fresh_ sSend arborT)), sSend, ⟨by decide +kernel, by decide +kernel, by decide +kernel, 0, 0, by decide +kernel⟩, some_getD (by decide +kernel)⟩,
   ⟨arborT, 1, 8, (one arborT (withSw (tileOf (.send 1 8)))), ⟨by decide +kernel, by decide +kernel, by decide +kernel, 0, 0, by decide +kernel⟩, by decide +kernel⟩,
   ⟨arborT, 0, 0, 7, tok, (((((fresh_ sFwd arborT).pop 0 5)).send (sFwd.tenv arborT.key) 7 0 0 false 0x102 5).getD (fresh_ sFwd arborT)), sFwd, ⟨by decide +kernel, by decide +kernel, by decide +kernel, 0, 0, by decide +kernel⟩, by unfold UsableHead; decide +kernel, some_getD (by decide +kernel)⟩,
   ⟨arborT, 0, 0, (ready arborT (.hreq 0 0)), ⟨by decide +kernel, by decide +kernel, by decide +kernel, 0, 0, by decide +kernel⟩, by decide +kernel⟩,
   ⟨arborT, 0, 0, (readyQ arborT (.hreq 0 0) [tok]), ⟨by decide +kernel, by decide +kernel, by decide +kernel, 0, 0, by decide +kernel⟩, by decide +kernel⟩⟩

/-- The hypotheses of `Transport`. -/
theorem witness_Transport :
    (∃ r : TileRun, ∃ u : TileRun, ∃ e : TEnv, ∃ rt : BitVec 10, ∃ kind : Nat, ∃ fmt : Nat, ∃ last : Bool, ∃ p : Line, ∃ ck : Nat, r.send e rt kind fmt last p ck = some u) ∧
    (∃ t : TileLoc, ∃ src : Src, ∃ u : BitVec 560, ∃ s : State, (s.tile t.key).ready (srcIx src) s.now = none) ∧
    (∃ t : TileLoc, ∃ src : Src, ∃ u : BitVec 560, ∃ f : Flight, ∃ s : State, s.tileOn t.key = true ∧ (s.tile t.key).ready (srcIx src) s.now = some f ∧ (s.tile t.key).entryOf f = none ∧ (facesHub s.ident t.key && src == .own && f.org.isNone && (s.tile t.key).cfg.isSome) = false) ∧
    (∃ t : TileLoc, ∃ u : BitVec 560, ∃ f : Flight, ∃ s : State, s.tileOn t.key = true ∧ (s.tile t.key).ready 4 s.now = some f ∧ (s.tile t.key).entryOf f = none ∧ facesHub s.ident t.key = true ∧ f.org = none ∧ (s.tile t.key).cfg.isSome = true) ∧
    (∃ t : TileLoc, ∃ src : Src, ∃ u : BitVec 560, ∃ f : Flight, ∃ e : SwEntry, ∃ k : Nat, ∃ i : Nat, ∃ s : State, s.tileOn t.key = true ∧ (s.tile t.key).ready (srcIx src) s.now = some f ∧ (s.tile t.key).entryOf f = some e ∧ e.action < 4 ∧ (s.tile t.key).loses (srcIx src) s.now (outputOf e) = false ∧ neighbour t.key e.action = some (k, i)) ∧
    (∃ t : TileLoc, ∃ src : Src, ∃ f : Flight, ∃ e : SwEntry, ∃ s : State, s.tileOn t.key = true ∧ (s.tile t.key).ready (srcIx src) s.now = some f ∧ (s.tile t.key).entryOf f = some e ∧ e.action = 4 ∧ (s.tile t.key).loses (srcIx src) s.now (outputOf e) = false) ∧
    (∃ t : TileLoc, ∃ rt : BitVec 10, ∃ at_ : Nat, ∃ key : Nat, ∃ rest : List (Nat × Nat × Nat), ∃ s : State, s.sideband = (at_, t.key, key) :: rest ∧ at_ ≤ s.now ∧ key % 1024 = rt.toNat) :=
  ⟨⟨(fresh_ sSend arborT), (((fresh_ sSend arborT).send (sSend.tenv arborT.key) 7 0 0 false 0 5).getD (fresh_ sSend arborT)), (sSend.tenv arborT.key), 7, 0, 0, false, 0, 5, some_getD (by decide +kernel)⟩,
   ⟨arborT, .own, 0, w, by decide +kernel⟩,
   ⟨arborT, .own, 0, tok, (stoned arborT [] tok), by decide +kernel⟩,
   ⟨gateT, 0, ({ tok with org := none }), hubGate, by decide +kernel⟩,
   ⟨arborT, .own, 0, tok, hopE, 102, 0, (stoned arborT [hopE] tok), by decide +kernel⟩,
   ⟨arborT, .own, tok, qE, (stoned arborT [qE] tok), by decide +kernel⟩,
   ⟨arborT, 3, 4, 3, [], ({ one arborT { Tile.blank with io := { TileIo.empty with credits := [(3, 2)] } } with sideband := [(4, arborT.key, 3)] }), by decide +kernel⟩⟩

/-- The hypotheses of `ArborInstructions`. -/
theorem witness_ArborInstructions :
    (∃ t : TileLoc, ∃ x : Ecc, ∃ m : BitVec 4, ∃ q : BitVec 3, ∃ n : BitVec 8, ∃ ob : BitVec 2, ∃ w : BitVec 1, ∃ bg : BitVec 1, ∃ r : TileRun, ∃ s : State, ReadyFor s t.key (.fire m q n ob w bg) ∧ Reads s t (some (8 * (((s.tile t.key).ar 0).toNat % 1024))) x (macStep q.toNat (n.toNat + 1) (w == 1)) r ∧ tileKind t.key = 1) ∧
    (∃ q : Nat, ∃ n : Nat, ∃ e : TEnv, ∃ f : Flight, ∃ r : TileRun, r.t.head q e.now = some f ∧ tagKind f.tok.tag = 0 ∧ 1 ≤ n ∧ n ≤ 4 ∧ tagFmt f.tok.tag = (if numInUns r.t.num then 1 else 0) ∧ r.t.poisonIn ((r.t.ar 0).toNat % 1024) 4 = none) ∧
    (∃ t : TileLoc, ∃ q : BitVec 3, ∃ n : BitVec 8, ∃ f : Flight, ∃ s : State, ReadyFor s t.key (.acc q n) ∧ DataHead s t.key q.toNat f) ∧
    (∃ t : TileLoc, ∃ rt : BitVec 10, ∃ n : BitVec 8, ∃ s : State, ReadyFor s t.key (.drain rt n 0) ∧ (s.tile t.key).residueBad ((s.tile t.key).ar 1).toNat (n.toNat + 1) = none ∧ (s.tile t.key).arb.hold.length < 256) ∧
    (∃ t : TileLoc, ∃ rt : BitVec 10, ∃ n : BitVec 8, ∃ raw : BitVec 1, ∃ r : TileRun, ∃ s : State, ReadyFor s t.key (.drain rt n raw) ∧ drainStep rt (n.toNat + 1) (raw == 1) (s.tenv t.key) 0 (s.fresh_ t.key) = .ok r) ∧
    (∃ t : TileLoc, ∃ q : BitVec 3, ∃ n : BitVec 8, ∃ r : TileRun, ∃ s : State, ReadyFor s t.key (.ldsc q n) ∧ ldscStep q.toNat (s.tenv t.key) 0 (s.fresh_ t.key) = .ok r) ∧
    (∃ t : TileLoc, ∃ x : Ecc, ∃ rt : BitVec 10, ∃ n : BitVec 8, ∃ r : TileRun, ∃ s : State, ReadyFor s t.key (.rqh rt n) ∧ Reads s t (if numBiasEn (s.tile t.key).num then some (8 * numBiasAddr (s.tile t.key).num) else none) x (rqhStep rt (n.toNat + 1)) r) :=
  ⟨⟨arborT, .clean, 0, 0, 0, 0, 0, 0, (okOf (macStep 0 1 false (sMac.tenv arborT.key) 0 (fresh_ (sMac.wordRead arborT (some 0) .clean) arborT)) (fresh_ w arborT)), sMac, ⟨by decide +kernel, by decide +kernel, by decide +kernel, 0, 0, by decide +kernel⟩, ⟨by decide +kernel, ok_ex (by decide +kernel), ok_okOf (by decide +kernel)⟩, by decide +kernel⟩,
   ⟨0, 1, (sMac.tenv arborT.key), (tokenOf 0 0 5), (fresh_ sMac arborT), by decide +kernel⟩,
   ⟨arborT, 0, 0, (tokenOf 0 2 5), (readyQ arborT (.acc 0 0) [tokenOf 0 2 5]), ⟨by decide +kernel, by decide +kernel, by decide +kernel, 0, 0, by decide +kernel⟩, by unfold DataHead; decide +kernel⟩,
   ⟨arborT, 3, 0, (ready arborT (.drain 3 0 0)), ⟨by decide +kernel, by decide +kernel, by decide +kernel, 0, 0, by decide +kernel⟩, by decide +kernel⟩,
   ⟨arborT, 7, 0, 1, (okOf (drainStep 7 1 true (sRaw.tenv arborT.key) 0 (fresh_ sRaw arborT)) (fresh_ w arborT)), sRaw, ⟨by decide +kernel, by decide +kernel, by decide +kernel, 0, 0, by decide +kernel⟩, ok_okOf (by decide +kernel)⟩,
   ⟨arborT, 0, 0, (okOf (ldscStep 0 (sLdsc.tenv arborT.key) 0 (fresh_ sLdsc arborT)) (fresh_ w arborT)), sLdsc, ⟨by decide +kernel, by decide +kernel, by decide +kernel, 0, 0, by decide +kernel⟩, ok_okOf (by decide +kernel)⟩,
   ⟨arborT, .clean, 7, 0, (okOf (rqhStep 7 1 (sRqh.tenv arborT.key) 0 (fresh_ sRqh arborT)) (fresh_ w arborT)), sRqh, ⟨by decide +kernel, by decide +kernel, by decide +kernel, 0, 0, by decide +kernel⟩, ⟨by decide +kernel, ok_ex (by decide +kernel), ok_okOf (by decide +kernel)⟩⟩⟩

/-- The hypotheses of `FountainInstructions`. -/
theorem witness_FountainInstructions :
    (∃ t : TileLoc, ∃ x : Ecc, ∃ q : BitVec 3, ∃ n : BitVec 8, ∃ ob : BitVec 2, ∃ w : BitVec 1, ∃ bg : BitVec 1, ∃ m : BitVec 4, ∃ r : TileRun, ∃ s : State, ReadyFor s t.key (.fire m q n ob w bg) ∧ Reads s t (some ((s.tile t.key).fountainWord m.toNat q.toNat)) x (unaryStep m.toNat q.toNat ob.toNat) r ∧ tileKind t.key = 3 ∧ m.toNat < 6) ∧
    (∃ t : TileLoc, ∃ x : Ecc, ∃ q : BitVec 3, ∃ n : BitVec 8, ∃ ob : BitVec 2, ∃ w : BitVec 1, ∃ bg : BitVec 1, ∃ m : BitVec 4, ∃ r : TileRun, ∃ s : State, ReadyFor s t.key (.fire m q n ob w bg) ∧ Reads s t (some ((s.tile t.key).fountainWord m.toNat q.toNat)) x (binaryStep m.toNat q.toNat ob.toNat) r ∧ tileKind t.key = 3 ∧ 6 ≤ m.toNat ∧ m.toNat < 9) ∧
    (∃ t : TileLoc, ∃ x : Ecc, ∃ q : BitVec 3, ∃ n : BitVec 8, ∃ ob : BitVec 2, ∃ w : BitVec 1, ∃ bg : BitVec 1, ∃ r : TileRun, ∃ s : State, ReadyFor s t.key (.fire 9 q n ob w bg) ∧ Reads s t (some (Config.fieldPlace (2 ^ 16 + 64 * ((s.tile t.key).ar 0).toNat) / 8)) x (dwStep 9 3 q.toNat (n.toNat + 1) ob.toNat) r ∧ tileKind t.key = 3) ∧
    (∃ t : TileLoc, ∃ x : Ecc, ∃ q : BitVec 3, ∃ n : BitVec 8, ∃ ob : BitVec 2, ∃ w : BitVec 1, ∃ bg : BitVec 1, ∃ r : TileRun, ∃ s : State, ReadyFor s t.key (.fire 10 q n ob w bg) ∧ Reads s t (some (Config.fieldPlace (2 ^ 16 + 64 * ((s.tile t.key).ar 0).toNat) / 8)) x (dwStep 10 5 q.toNat (n.toNat + 1) ob.toNat) r ∧ tileKind t.key = 3) ∧
    (∃ t : TileLoc, ∃ x : Ecc, ∃ q : BitVec 3, ∃ n : BitVec 8, ∃ ob : BitVec 2, ∃ w : BitVec 1, ∃ bg : BitVec 1, ∃ m : BitVec 4, ∃ size : Nat, ∃ r : TileRun, ∃ s : State, ReadyFor s t.key (.fire m q n ob w bg) ∧ (∃ r0, dwStep m.toNat size q.toNat (n.toNat + 1) ob.toNat (s.tenv t.key) 0 (s.fresh_ t.key) = .part r0) ∧ dwStep m.toNat size q.toNat (n.toNat + 1) ob.toNat ((s.wordRead t (some (Config.fieldPlace (2 ^ 16 + 64 * ((s.tile t.key).ar 0).toNat) / 8)) x).tenv t.key) 0 ((s.wordRead t (some (Config.fieldPlace (2 ^ 16 + 64 * ((s.tile t.key).ar 0).toNat) / 8)) x).fresh_ t.key) = .part r ∧ s.canonical = true ∧ tileKind t.key = 3 ∧ ((m = 9 ∧ size = 3) ∨ (m = 10 ∧ size = 5))) :=
  ⟨⟨fountainT, .clean, 0, 0, 1, 0, 0, 1, (okOf (unaryStep 1 0 1 (sUn.tenv fountainT.key) 0 (fresh_ sUn fountainT)) (fresh_ w arborT)), sUn, ⟨by decide +kernel, by decide +kernel, by decide +kernel, 0, 0, by decide +kernel⟩, ⟨by decide +kernel, ok_ex (by decide +kernel), ok_okOf (by decide +kernel)⟩, by decide +kernel⟩,
   ⟨fountainT, .clean, 0, 0, 1, 0, 0, 7, (okOf (binaryStep 7 0 1 (sBin.tenv fountainT.key) 0 (fresh_ sBin fountainT)) (fresh_ w arborT)), sBin, ⟨by decide +kernel, by decide +kernel, by decide +kernel, 0, 0, by decide +kernel⟩, ⟨by decide +kernel, ok_ex (by decide +kernel), ok_okOf (by decide +kernel)⟩, by decide +kernel⟩,
   ⟨fountainT, .clean, 0, 0, 1, 0, 0, (okOf (dwStep 9 3 0 1 1 ((pix sDw3 2).tenv fountainT.key) 0 (fresh_ (dwW (pix sDw3 2)) fountainT)) (fresh_ w arborT)), (pix sDw3 2), ⟨by decide +kernel, by decide +kernel, by decide +kernel, 0, 0, by decide +kernel⟩, ⟨by decide +kernel, ok_ex (by decide +kernel), ok_okOf (by decide +kernel)⟩, by decide +kernel⟩,
   ⟨fountainT, .clean, 0, 0, 1, 0, 0, (okOf (dwStep 10 5 0 1 1 ((pix sDw5 4).tenv fountainT.key) 0 (fresh_ (dwW (pix sDw5 4)) fountainT)) (fresh_ w arborT)), (pix sDw5 4), ⟨by decide +kernel, by decide +kernel, by decide +kernel, 0, 0, by decide +kernel⟩, ⟨by decide +kernel, ok_ex (by decide +kernel), ok_okOf (by decide +kernel)⟩, by decide +kernel⟩,
   ⟨fountainT, .clean, 0, 0, 1, 0, 0, 9, 3, (partOf (dwStep 9 3 0 1 1 (sDw3.tenv fountainT.key) 0 (fresh_ (dwW sDw3) fountainT)) (fresh_ w arborT)), sDw3, ⟨by decide +kernel, by decide +kernel, by decide +kernel, 0, 0, by decide +kernel⟩, part_ex (by decide +kernel), part_partOf (by decide +kernel), by decide +kernel⟩⟩

/-- The hypotheses of `CisternAndGateInstructions`. -/
theorem witness_CisternAndGateInstructions :
    (∃ t : TileLoc, ∃ x : Ecc, ∃ m : BitVec 4, ∃ q : BitVec 3, ∃ n : BitVec 8, ∃ ob : BitVec 2, ∃ w : BitVec 1, ∃ s : State, ReadyFor s t.key (.fire m q n ob w 1) ∧ PortFree s t.key (portOf m.toNat) ∧ PortFree (s.wordRead t (if m = 0 then none else s.portWord t.key m.toNat) x) t.key (portOf m.toNat) ∧ s.canonical = true ∧ tileKind t.key = 2 ∧ m.toNat < 4) ∧
    (∃ t : TileLoc, ∃ d : BitVec 3, ∃ q : BitVec 3, ∃ n : BitVec 8, ∃ s : State, ReadyFor s t.key (.mrd d q 1 n) ∧ PortFree s t.key 3) ∧
    (∃ t : TileLoc, ∃ e : Ecc, ∃ d : BitVec 3, ∃ q : BitVec 3, ∃ n : BitVec 8, ∃ s : State, ReadyFor s t.key (.mwr d q 1 n) ∧ PortFree s t.key 3 ∧ s.canonical = true) ∧
    (∃ t : TileLoc, ∃ x : Ecc, ∃ m : BitVec 4, ∃ q : BitVec 3, ∃ n : BitVec 8, ∃ ob : BitVec 2, ∃ w : BitVec 1, ∃ r : TileRun, ∃ s : State, ReadyFor s t.key (.fire m q n ob w 0) ∧ PortFree s t.key (portOf m.toNat) ∧ PortFree (s.wordRead t (if m = 0 then none else s.portWord t.key m.toNat) x) t.key (portOf m.toNat) ∧ Reads s t (if m = 0 then none else s.portWord t.key m.toNat) x (transferStep m.toNat q.toNat ob.toNat ((s.tile t.key).ar 0).toNat (s.tile t.key).seq.rr) r ∧ tileKind t.key = 2 ∧ m.toNat < 4 ∧ s.now % 64 ≠ 63) ∧
    (∃ t : TileLoc, ∃ d : BitVec 3, ∃ q : BitVec 3, ∃ n : BitVec 8, ∃ r : TileRun, ∃ s : State, ReadyFor s t.key (.mrd d q 0 n) ∧ PortFree s t.key 3 ∧ mrdTransfer d.toNat q.toNat (s.tenv t.key) 0 (s.fresh_ t.key) = .ok r ∧ s.now % 64 ≠ 63) ∧
    (∃ t : TileLoc, ∃ e : Ecc, ∃ d : BitVec 3, ∃ q : BitVec 3, ∃ n : BitVec 8, ∃ r : TileRun, ∃ s : State, ReadyFor s t.key (.mwr d q 0 n) ∧ PortFree s t.key 3 ∧ mwrTransfer d.toNat q.toNat (s.tenv t.key) (s.fresh_ t.key) = .ok r ∧ s.canonical = true ∧ s.now % 64 ≠ 63) ∧
    (∃ t : TileLoc, ∃ q : BitVec 3, ∃ n : BitVec 8, ∃ ob : BitVec 2, ∃ w : BitVec 1, ∃ s : State, ReadyFor s t.key (.fire 0 q n ob w 0) ∧ ¬ PortFree s t.key 0 ∧ tileKind t.key = 2) ∧
    (∃ q : Nat, ∃ addr : Nat, ∃ e : TEnv, ∃ f : Flight, ∃ r : TileRun, r.t.head q e.now = some f ∧ tagKind f.tok.tag = 0) ∧
    (∃ t : TileLoc, ∃ q : BitVec 3, ∃ n : BitVec 8, ∃ ob : BitVec 2, ∃ w : BitVec 1, ∃ bg : BitVec 1, ∃ r : TileRun, ∃ s : State, ReadyFor s t.key (.fire 0 q n ob w bg) ∧ gateInStep ob.toNat (s.tenv t.key) 0 (s.fresh_ t.key) = .ok r ∧ tileKind t.key = 0) ∧
    (∃ t : TileLoc, ∃ q : BitVec 3, ∃ n : BitVec 8, ∃ ob : BitVec 2, ∃ w : BitVec 1, ∃ bg : BitVec 1, ∃ f : Flight, ∃ s : State, ReadyFor s t.key (.fire 1 q n ob w bg) ∧ DataHead s t.key q.toNat f ∧ tileKind t.key = 0 ∧ s.linkUpAt t.key = true) :=
  ⟨⟨cisternT, .clean, 3, 0, 9, 0, 0, (ready cisternT (.fire 3 0 9 0 0 1)), ⟨by decide +kernel, by decide +kernel, by decide +kernel, 0, 0, by decide +kernel⟩, by unfold PortFree; decide +kernel, by unfold PortFree; decide +kernel, by decide +kernel⟩,
   ⟨cisternT, 2, 3, 15, (ready cisternT (.mrd 2 3 1 15)), ⟨by decide +kernel, by decide +kernel, by decide +kernel, 0, 0, by decide +kernel⟩, by unfold PortFree; decide +kernel⟩,
   ⟨cisternT, .clean, 2, 3, 15, (ready cisternT (.mwr 2 3 1 15)), ⟨by decide +kernel, by decide +kernel, by decide +kernel, 0, 0, by decide +kernel⟩, by unfold PortFree; decide +kernel, by decide +kernel⟩,
   ⟨cisternT, .clean, 0, 0, 0, 1, 0, (okOf (transferStep 0 0 1 0 0 (sWr.tenv cisternT.key) 0 (fresh_ sWr cisternT)) (fresh_ w cisternT)), sWr, ⟨by decide +kernel, by decide +kernel, by decide +kernel, 0, 0, by decide +kernel⟩, by unfold PortFree; decide +kernel, by unfold PortFree; decide +kernel, ⟨by decide +kernel, ok_ex (by decide +kernel), ok_okOf (by decide +kernel)⟩, by decide +kernel⟩,
   ⟨cisternT, 0, 0, 0, (okOf (mrdTransfer 0 0 (sMrd.tenv cisternT.key) 0 (fresh_ sMrd cisternT)) (fresh_ w cisternT)), sMrd, ⟨by decide +kernel, by decide +kernel, by decide +kernel, 0, 0, by decide +kernel⟩, by unfold PortFree; decide +kernel, ok_okOf (by decide +kernel), by decide +kernel⟩,
   ⟨cisternT, .clean, 0, 0, 0, (okOf (mwrTransfer 0 0 (sMwr.tenv cisternT.key) (fresh_ sMwr cisternT)) (fresh_ w cisternT)), sMwr, ⟨by decide +kernel, by decide +kernel, by decide +kernel, 0, 0, by decide +kernel⟩, by unfold PortFree; decide +kernel, ok_okOf (by decide +kernel), by decide +kernel⟩,
   ⟨cisternT, 0, 0, 0, 0, busy0, ⟨by decide +kernel, by decide +kernel, by decide +kernel, 0, 0, by decide +kernel⟩, by unfold PortFree; decide +kernel, by decide +kernel⟩,
   ⟨0, 0, ((readyQ gateT (.fire 0 0 0 0 0 0) [tok]).tenv gateT.key), tok, (fresh_ (readyQ gateT (.fire 0 0 0 0 0 0) [tok]) gateT), by decide +kernel⟩,
   ⟨gateT, 0, 0, 1, 0, 0, (okOf (gateInStep 1 (sIn.tenv gateT.key) 0 (fresh_ sIn gateT)) (fresh_ w arborT)), sIn, ⟨by decide +kernel, by decide +kernel, by decide +kernel, 0, 0, by decide +kernel⟩, ok_okOf (by decide +kernel), by decide +kernel⟩,
   ⟨gateT, 0, 0, 0, 0, 0, tok, sOut, ⟨by decide +kernel, by decide +kernel, by decide +kernel, 0, 0, by decide +kernel⟩, by unfold DataHead; decide +kernel, by decide +kernel⟩⟩

/-- The hypotheses of `IssueAndBandInstructions`. -/
theorem witness_IssueAndBandInstructions :
    (∃ t : TileLoc, ∃ s : State, s.hold.frozen = true) ∧
    (∃ t : TileLoc, ∃ s : State, ∃ e : Ecc, s.hold.frozen = true) ∧
    (∃ t : TileLoc, ∃ s : State, s.canIssue t.key = true ∧ decodeTile (s.tile t.key).fetch = none) ∧
    (∃ t : TileLoc, ∃ i : TInst, ∃ s : State, s.canIssue t.key = true ∧ (s.tile t.key).pastEnd = false ∧ decodeTile (s.tile t.key).fetch = some i ∧ legal (tileKind t.key) (s.tile t.key) i = true ∧ i.op = .nop ∧ i.ge = 1 ∧ (s.tile t.key).seq.pred.getLsbD i.gi.toNat ≠ (i.gp == 1)) ∧
    (∃ t : TileLoc, ∃ m : BitVec 8, ∃ s : State, ReadyFor s t.key (.begin_ m) ∧ viewStep (s.tile t.key) s.now (fun k => k == 4 || k == 6 || k == 7) none false (maskQueues m) = .wait) ∧
    (∃ t : TileLoc, ∃ m : BitVec 8, ∃ band : W48, ∃ idle : Bool, ∃ r : TileRun, ∃ s : State, ReadyFor s t.key (.begin_ m) ∧ ((s.fresh_ t.key).popAll (maskQueues m) s.now).sendMarkers (s.tenv t.key) 4 band idle = some r ∧ viewStep (s.tile t.key) s.now (fun k => k == 4 || k == 6 || k == 7) none false (maskQueues m) = .all 4 band idle) ∧
    (∃ t : TileLoc, ∃ m : BitVec 8, ∃ band : W48, ∃ idle : Bool, ∃ r : TileRun, ∃ s : State, ReadyFor s t.key (.begin_ m) ∧ ((s.fresh_ t.key).popAll (maskQueues m) s.now).sendMarkers (s.tenv t.key) 6 band false = some r ∧ viewStep (s.tile t.key) s.now (fun k => k == 4 || k == 6 || k == 7) none false (maskQueues m) = .all 6 band idle) ∧
    (∃ t : TileLoc, ∃ m : BitVec 8, ∃ band : W48, ∃ idle : Bool, ∃ r : TileRun, ∃ s : State, ReadyFor s t.key (.begin_ m) ∧ ((s.fresh_ t.key).popAll (maskQueues m) s.now).sendMarkers (s.tenv t.key) 7 band false = some r ∧ viewStep (s.tile t.key) s.now (fun k => k == 4 || k == 6 || k == 7) none false (maskQueues m) = .all 7 band idle ∧ (s.tile t.key).shadowReady = true) ∧
    (∃ t : TileLoc, ∃ m : BitVec 8, ∃ kind : Nat, ∃ band : W48, ∃ idle : Bool, ∃ c : TileCfg, ∃ r : TileRun, ∃ s : State, ReadyFor s t.key (.bend m) ∧ ((s.fresh_ t.key).popAll (maskQueues m) s.now).sendMarkers (s.tenv t.key) 5 band false = some r ∧ (s.tile t.key).cfg = some c ∧ r.t.cfg = some c ∧ viewStep (s.tile t.key) s.now (fun k => k == 5) none false (maskQueues m) = .all kind band idle) ∧
    (∃ t : TileLoc, ∃ s : State, s.canonical = true ∧ (s.tile t.key).phase = .swapping ∧ (s.tile t.key).busy = 0 ∧ s.seqRuns = true ∧ (s.tile t.key).io.q = []) :=
  ⟨⟨arborT, ({ ready arborT .nop with hold := { w.hold with frozen := true } }), by decide +kernel⟩,
   ⟨arborT, ({ ready arborT .nop with hold := { w.hold with frozen := true } }), .clean, by decide +kernel⟩,
   ⟨arborT, (one arborT { tileOf .nop with cfg := some { cfgOf .nop with prog := [0xF0000000] } }), by decide +kernel⟩,
   ⟨arborT, (⟨1, 1, 0, .nop⟩), (one arborT { tileOf .nop with cfg := some { cfgOf .nop with prog := [encodeTile ⟨1, 1, 0, .nop⟩] } }), by decide +kernel⟩,
   ⟨arborT, 1, (ready arborT (.begin_ 1)), ⟨by decide +kernel, by decide +kernel, by decide +kernel, 0, 0, by decide +kernel⟩, by decide +kernel⟩,
   ⟨arborT, 1, 9, false, (beginRunOf sBegin 4 false), sBegin, ⟨by decide +kernel, by decide +kernel, by decide +kernel, 0, 0, by decide +kernel⟩, some_getD (by decide +kernel), by decide +kernel⟩,
   ⟨arborT, 1, 9, false, ((((fresh_ sEos arborT).popAll (maskQueues 1) sEos.now).sendMarkers (sEos.tenv arborT.key) 6 9 false).getD (fresh_ w arborT)), sEos, ⟨by decide +kernel, by decide +kernel, by decide +kernel, 0, 0, by decide +kernel⟩, some_getD (by decide +kernel), by decide +kernel⟩,
   ⟨arborT, 1, 9, false, ((((fresh_ sEoc arborT).popAll (maskQueues 1) sEoc.now).sendMarkers (sEoc.tenv arborT.key) 7 9 false).getD (fresh_ w arborT)), sEoc, ⟨by decide +kernel, by decide +kernel, by decide +kernel, 0, 0, by decide +kernel⟩, some_getD (by decide +kernel), by decide +kernel⟩,
   ⟨arborT, 1, 5, 9, false, (cfgOf (.bend 1)), (beginRunOf sBend 5 false), sBend, ⟨by decide +kernel, by decide +kernel, by decide +kernel, 0, 0, by decide +kernel⟩, some_getD (by decide +kernel), by decide +kernel⟩,
   ⟨arborT, sSwap, by decide +kernel⟩⟩

/-- The hypotheses of `HbmAndCounters`. -/
theorem witness_HbmAndCounters :
    (∃ t : TileLoc, ∃ e : Ecc, ∃ s : State, (s.tile t.key).win.reads = []) ∧
    (∃ t : TileLoc, ∃ e : Ecc, ∃ rd : HbmRead, ∃ rest : List HbmRead, ∃ s : State, (s.tile t.key).win.reads = rd :: rest ∧ rd.early = true) ∧
    (∃ t : TileLoc, ∃ e : Ecc, ∃ rd : HbmRead, ∃ rest : List HbmRead, ∃ ls : List Line, ∃ s : State, (s.tile t.key).win.reads = rd :: rest ∧ rd.early = false ∧ (blocksOf rd.addr rd.bytes).any (fun b => !(s.blockFilled b.1 b.2)) = false ∧ (s.answered t rd rest e).hbmPoisoned rd.addr rd.bytes = none ∧ decodeUnit rd.unit ((s.tile t.key).dline rd.dline).sgn ((s.dropRead t rest).hbmRead rd.addr rd.bytes).2 = some ls) ∧
    (∃ t : TileLoc, ∃ s : State, s.canonical = true ∧ t.die.val < s.ident.dies) ∧
    (∃ t : TileLoc, ∃ s : State, s.canonical = true ∧ t.die.val < s.ident.dies) :=
  ⟨⟨cisternT, .clean, w, by decide +kernel⟩,
   ⟨cisternT, .clean, rdE, [], (one cisternT { tileOf .nop with win := { WinState.empty with reads := [rdE] } }), by decide +kernel⟩,
   ⟨cisternT, .clean, rdF, [], ((decodeUnit rdF.unit false ((sHbm.dropRead cisternT []).hbmRead rdF.addr rdF.bytes).2).getD []), sHbm, by decide +kernel⟩,
   ⟨arborT, (one arborT { Tile.blank with ctr := { TileCtr.zero with firing := 4 } }), by decide +kernel⟩,
   ⟨arborT, (one arborT { Tile.blank with ctr := { TileCtr.zero with firing := 4 } }), by decide +kernel⟩⟩

end P03

namespace P06
/-- Camera port `n` enabled, its link up, in a band set of that one camera; `c` changes what the Gatehouse holds of it. -/
def camOn (n : Nat) (f : CamState → CamState) : State :=
  { rs w [(aCam n, 0xC0000000), (aBelBandSet, BitVec.ofNat 32 (2 ^ n)), (aCam n + 0x30, 1000)] with
    gth := { w.gth with cams := [(n, f { CamState.init with lost := false })] } }
def tick9 : OpenTick := ⟨9, 1, 0⟩
def pkt (last : Bool) (n : Nat) : CxpPacket := { stream := 0, fmt := 0, pixels := List.replicate n 3, last := last, crcGood := true }
def sendS : State := { w with bell := { w.bell with sendq := [(1, [⟨.idle, 5, 0⟩])] } }
def rowK : State := w.setKiosk 0 { KskState.init with band := [(3, 4)], bandIdx := [(3, 1)], rowsIn := [(3, 100)] }
def early100 : State := { rowK with bell := { w.bell with firstLine := 100 } }
def rowT : State := (rowK.enterBand 0 3 1).eccFind (.kiosk 0 (Config.fieldPlace (128 + 16 * 3) / 8)) .clean

/-- The hypotheses of `CameraLinks`. -/
theorem witness_CameraLinks :
    (∃ n : Cam, ∃ s : State, s.canonical = true ∧ n.val < s.ident.camPorts) ∧
    (∃ n : Cam, ∃ s : State, s.canonical = true ∧ n.val < s.ident.camPorts ∧ (s.cam n.val).lost = false ∧ (s.cam n.val).lastPacketAt + usCk (s.regN (aCam n.val + 0x30)) ≤ s.now) ∧
    (∃ n : Cam, ∃ v : BitVec 3, ∃ s : State, s.canonical = true ∧ n.val < s.ident.camPorts ∧ s.domOn (20 + n.val) = true) ∧
    (∃ n : Cam, ∃ s : State, s.canonical = true ∧ n.val < s.ident.camPorts ∧ s.camEn n.val = true ∧ (s.cam n.val).open_ = []) ∧
    (∃ n : Cam, ∃ p : CxpPacket, ∃ s : State, (s.camOff n.val = true ∨ (s.cam n.val).lost = true)) ∧
    (∃ n : Cam, ∃ bytes : List Byte, ∃ s : State, s.canonical = true ∧ n.val < s.ident.camPorts ∧ s.camOff n.val = false ∧ (s.cam n.val).lost = false) :=
  ⟨⟨3, (camOn 3 (fun c => { c with open_ := [tick9] })), by decide +kernel⟩,
   ⟨3, ({ camOn 3 id with now := 1250000 }), by decide +kernel⟩,
   ⟨3, 5, w, by decide +kernel⟩,
   ⟨3, (camOn 3 id), by decide +kernel⟩,
   ⟨3, (pkt true 4), w, by decide +kernel⟩,
   ⟨3, ([1, 2]), (camOn 3 id), by decide +kernel⟩⟩

/-- The hypotheses of `CameraLines`. -/
theorem witness_CameraLines :
    (∃ n : Cam, ∃ p : CxpPacket, ∃ o : OpenTick, ∃ s : State, s.canonical = true ∧ n.val < s.ident.camPorts ∧ s.camOff n.val = false ∧ (s.cam n.val).lost = false ∧ s.sup.t0 = none ∧ (s.cam n.val).partial_ = none ∧ p.stream = 0 ∧ p.last = true ∧ p.crcGood = true ∧ p.fmt.toNat = s.camBpp n.val ∧ p.pixels.length = s.camWidth n.val ∧ s.camFrame n.val = false ∧ s.lineTick n.val = some o ∧ s.bandCams.contains n.val = true) ∧
    (∃ n : Cam, ∃ p : CxpPacket, ∃ o : OpenTick, ∃ s : State, s.canonical = true ∧ n.val < s.ident.camPorts ∧ s.camOff n.val = false ∧ (s.cam n.val).lost = false ∧ s.sup.t0 = none ∧ (s.cam n.val).partial_ = none ∧ p.stream = 0 ∧ p.last = true ∧ p.pixels.length ≠ s.camWidth n.val ∧ s.camFrame n.val = false ∧ s.lineTick n.val = some o) ∧
    (∃ n : Cam, ∃ p : CxpPacket, ∃ s : State, s.canonical = true ∧ n.val < s.ident.camPorts ∧ s.camOff n.val = false ∧ (s.cam n.val).lost = false ∧ s.sup.t0 = none ∧ p.stream = 0 ∧ p.last = false) :=
  ⟨⟨3, (pkt true 16), tick9, (camOn 3 (fun c => { c with open_ := [tick9] })), by decide +kernel⟩,
   ⟨3, (pkt true 15), tick9, (camOn 3 (fun c => { c with open_ := [tick9] })), by decide +kernel⟩,
   ⟨3, (pkt false 4), (camOn 3 (fun c => { c with partial_ := some ([1], false) })), by decide +kernel⟩⟩

/-- The hypotheses of `GatehouseSettings`. -/
theorem witness_GatehouseSettings :
    (∃ n : Cam, ∃ c : Fin 8192, ∃ v : Word, ∃ s : State, n.val < s.ident.camPorts) ∧
    (∃ n : Cam, ∃ s : State, s.canonical = true ∧ n.val < s.ident.camPorts ∧ (s.cam n.val).bankWanted = none) ∧
    (∃ n : Cam, ∃ hi : Word, ∃ s : State, s.canonical = true ∧ n.val < s.ident.camPorts) ∧
    (∃ h : Hub, ∃ s : State, h.val < s.ident.hubs ∧ (s.mains h.val).lastEdge = none) ∧
    (∃ h : Hub, ∃ s : State, s.canonical = true ∧ bit (s.reg (aGth h.val + 4)) 0 = true ∧ 3 * (s.mains h.val).sum ≤ (s.now - (s.mains h.val).accEdge.getD 0) * (s.mains h.val).periods.length) :=
  ⟨⟨3, 8191, 5, w, by decide +kernel⟩,
   ⟨3, (camOn 3 id), by decide +kernel⟩,
   ⟨3, 65535, (rs w [(aCam 3 + 0x14, 7)]), by decide +kernel⟩,
   ⟨1, w, by decide +kernel⟩,
   ⟨1, ({ rs w [(aGth 1 + 4, 1)] with now := 75000000, gth := { w.gth with mains := [(1, ⟨some 0, some 0, [25000000], 1⟩)] } }), by decide +kernel⟩⟩

/-- The hypotheses of `GatehouseAndKiosk`. -/
theorem witness_GatehouseAndKiosk :
    (∃ h : Hub, ∃ u : Bool, ∃ e : Ecc, ∃ s : State, Tab.at_ [] s.bell.sendq h.val = []) ∧
    (∃ h : Hub, ∃ u : Bool, ∃ e : Ecc, ∃ x : SendItem, ∃ rest : List SendItem, ∃ s : State, Tab.at_ [] s.bell.sendq h.val = x :: rest ∧ s.contain.active = false ∧ x.at_ ≤ s.now ∧ h.val < s.ident.hubs ∧ s.hold.frozen = false ∧ Tab.at_ [] s.gth.out h.val = [] ∧ s.eocDue h.val x = false) ∧
    (∃ h : Hub, ∃ u : Bool, ∃ e : Ecc, ∃ x : SendItem, ∃ s : State, s.canonical = true ∧ x.kind = .idle) ∧
    (∃ h : Hub, ∃ n : Cam, ∃ e : Ecc, ∃ u : Bool, ∃ s : State, (s.hold.frozen = true ∨ s.contain.active = true)) ∧
    (∃ h : Hub, ∃ n : Cam, ∃ e : Ecc, ∃ u : Bool, ∃ b : W48, ∃ s : State, RowDue s h n b ∧ (s.enterBand h.val n.val b).rowOffset h.val b (Tab.at_ 0 ((s.enterBand h.val n.val b).kiosk h.val).bandRow n.val) < 0) ∧
    (∃ h : Hub, ∃ n : Cam, ∃ e : Ecc, ∃ b : W48, ∃ s : State, ∃ t : State, RowDue s h n b ∧ 0 ≤ (s.enterBand h.val n.val b).rowOffset h.val b (Tab.at_ 0 ((s.enterBand h.val n.val b).kiosk h.val).bandRow n.val) ∧ t = (s.enterBand h.val n.val b).eccFind (.kiosk h (Config.fieldPlace (128 + 16 * n.val) / 8)) e ∧ t.kioskPoison h.val (kskParams (t.kiosk h.val).store n.val) = none ∧ rowMiss (t.kskNet h.val n.val) = none ∧ t.frameH = 0) ∧
    (∃ m : Cam, ∃ s : State, m.val < 8 * s.ident.hubs) ∧
    (∃ h : Hub, ∃ mask : BitVec 8, ∃ s : State, h.val < s.ident.hubs) :=
  ⟨⟨1, false, .clean, w, by decide +kernel⟩,
   ⟨1, false, .clean, (⟨.idle, 5, 0⟩), [], sendS, by decide +kernel⟩,
   ⟨1, false, .clean, (⟨.idle, 5, 0⟩), sendS, by decide +kernel⟩,
   ⟨1, 3, .clean, false, ({ w with hold := { w.hold with frozen := true } }), by decide +kernel⟩,
   ⟨0, 3, .clean, false, 1, early100, by unfold RowDue; decide +kernel, by decide +kernel⟩,
   ⟨0, 3, .clean, 1, rowK, rowT, by unfold RowDue; decide +kernel, by decide +kernel⟩,
   ⟨3, w, by decide +kernel⟩,
   ⟨0, 255, (rs w [(aGth 0 + 0x1100, 0), (aGth 0 + 0x1108, 9)]), by decide +kernel⟩⟩

end P06

namespace P07
/-- Queue 5 in use, 4 deep. -/
def pqOn (f : PqState → PqState) : State := { rs w [(aPq 5, 0x80000000), (aPq 5 + 8, 4)] with pqs := [(5, f PqState.empty)] }
def off1 : Offer := ⟨7, 3, true, true, 1, 40⟩
def item (d : Line) (p : BitVec 3) : QItem := ⟨d, p, true, true, 1, 40, 0, false⟩
def full5 : State := pqOn (fun p => { p with items := [item 1 0, item 2 0, item 3 0, item 4 0] })
def two : State := pqOn (fun p => { p with items := [item 1 2, item 2 3] })
def sig3 (cnt : Word) (cfg : Word) : State := rs w [(aSig 3, cnt), (aSigCfg 3, cfg)]
def wl9 : State := { rs two [(aPq 5, 0x80800000)] with boot := { w.boot with linkUp := true }, hdg := [(0, { HdgState.empty with locks := [(4, some ⟨1, 3, 2, 0, false, false⟩)] })] }

/-- The hypotheses of `QueueWrites`. -/
theorem witness_QueueWrites :
    (∃ q : QIx, ∃ o : Offer, ∃ s : State, s.canonical = true ∧ q.val < 512 ∧ s.pqPresent q.val = true ∧ s.pqEn q.val = true ∧ (s.pq q.val).openW = [] ∧ (s.pq q.val).dropping = [] ∧ (s.pq q.val).held = [] ∧ o.sop = true ∧ o.eop = true ∧ o.writer ≠ 0x20 ∧ (s.pq q.val).occ < s.pqDepth q.val) ∧
    (∃ q : QIx, ∃ o : Offer, ∃ s : State, s.canonical = true ∧ q.val < 512 ∧ s.pqPresent q.val = true ∧ s.pqEn q.val = true ∧ s.pqOverwrite q.val = false ∧ (s.pq q.val).openW = [] ∧ (s.pq q.val).dropping = [] ∧ (s.pq q.val).held = [] ∧ o.sop = true ∧ o.writer ≠ 0x20 ∧ s.pqDepth q.val ≤ (s.pq q.val).occ) ∧
    (∃ q : QIx, ∃ v : BitVec 5, ∃ s : State, s.canonical = true ∧ q.val < 512 ∧ s.pqPresent q.val = true ∧ s.pqEn q.val = true ∧ (s.pq q.val).openW = [] ∧ (s.pq q.val).dropping = [] ∧ v.getLsbD 3 = true ∧ v.getLsbD 4 = true ∧ (s.pq q.val).occ < s.pqDepth q.val) ∧
    (∃ q : QIx, ∃ s : State, (s.pq q.val).held = []) ∧
    (∃ q : QIx, ∃ o : Offer, ∃ s : State, s.canonical = true ∧ q.val < 512 ∧ s.pqPresent q.val = true ∧ s.pqEn q.val = true ∧ (s.pq q.val).openW = [] ∧ (s.pq q.val).dropping = [] ∧ (s.pq q.val).held = [o] ∧ o.sop = true ∧ o.eop = true ∧ s.pusherOf q.val o = none ∧ (s.pq q.val).occ < s.pqDepth q.val) ∧
    (∃ c : OfferCfg, ∃ p : PqState, ∃ o : Offer, p.items.length ≤ c.depth) :=
  ⟨⟨5, off1, (pqOn (fun p => { p with pushData := 9 })), by decide +kernel⟩,
   ⟨5, off1, full5, by decide +kernel⟩,
   ⟨5, 0x1F, (pqOn (fun p => { p with pushData := 9 })), by decide +kernel⟩,
   ⟨5, (pqOn (fun p => { p with pushData := 9 })), by decide +kernel⟩,
   ⟨5, off1, (pqOn (fun p => { p with held := [off1] })), by decide +kernel⟩,
   ⟨(⟨true, false, 4, false⟩), PqState.empty, off1, by decide +kernel⟩⟩

/-- The hypotheses of `QueueReads`. -/
theorem witness_QueueReads :
    (∃ q : QIx, ∃ ue : Bool, ∃ s : State, s.canonical = true ∧ s.pqPresent q.val = true ∧ headItem (s.pqWhole q.val) (s.pq q.val) = none) ∧
    (∃ q : QIx, ∃ ue : Bool, ∃ i : QItem, ∃ s : State, s.canonical = true ∧ s.pqPresent q.val = true ∧ q.val < 512 ∧ headItem (s.pqWhole q.val) (s.pq q.val) = some i) ∧
    (∃ q : QIx, ∃ s : State, s.canonical = true ∧ s.pqPresent q.val = true ∧ q.val < 512) ∧
    (∃ q : QIx, ∃ s : State, s.canonical = true ∧ s.pqPresent q.val = true ∧ q.val < 512) ∧
    (∃ whole : Bool, ∃ p : PqState, ∃ i : QItem, p.openR = none ∧ headItem whole p = some i) :=
  ⟨⟨5, true, (pqOn (fun p => { p with pushData := 9 })), by decide +kernel⟩,
   ⟨5, true, (item 2 3), two, by decide +kernel⟩,
   ⟨5, two, by decide +kernel⟩,
   ⟨5, two, by decide +kernel⟩,
   ⟨true, (two.pq 5), (item 2 3), by decide +kernel⟩⟩

/-- The hypotheses of `QueueSettingsAndSinks`. -/
theorem witness_QueueSettingsAndSinks :
    (∃ q : QIx, ∃ v : Word, ∃ s : State, s.canonical = true ∧ q.val < 512 ∧ s.pqPresent q.val = true ∧ s.pqEn q.val = false ∧ s.enableOk q.val ((v ||| 0x80000000) &&& pqCfgMask) = true) ∧
    (∃ q : QIx, ∃ v : Word, ∃ s : State, s.canonical = true ∧ q.val < 512 ∧ s.pqPresent q.val = true ∧ s.pqEn q.val = false ∧ s.enableOk q.val ((v ||| 0x80000000) &&& pqCfgMask) = false) ∧
    (∃ q : QIx, ∃ v : Word, ∃ s : State, q.val < 512 ∧ s.pqPresent q.val = true ∧ s.pqEn q.val = true) ∧
    (∃ q : QIx, ∃ v : Word, ∃ s : State, q.val < 512 ∧ s.pqPresent q.val = false) ∧
    (∃ v : Word, ∃ c : Word, ∃ s : State, s.canonical = true ∧ c = (v ||| 0x80000000) &&& 0x30FC0000 ∧ fld c 22 2 % 2 = 0 ∧ s.usedOk qLedger c = true) ∧
    (∃ v : Word, ∃ s : State, s.canonical = true ∧ fld v 22 2 % 2 = 0) ∧
    (∃ q : QIx, ∃ s : State, q.val < 512 ∧ s.pqPresent q.val = true ∧ s.pqEn q.val = true) ∧
    (∃ q : QIx, ∃ v : Word, ∃ s : State, s.canonical = true ∧ s.pqPresent q.val = true ∧ ringUsed (s.hostTail q.val) v.toNat ≤ 2 ^ s.ringLog q.val) ∧
    (∃ q : QIx, ∃ a : BitVec 16 × BitVec 16, ∃ b : BitVec 16 × BitVec 16, ∃ s : State, s.canonical = true ∧ q.val < 512 ∧ s.pqPresent q.val = true ∧ a ≠ b) ∧
    (∃ a : BitVec 16 × BitVec 16, ∃ c : BitVec 16 × BitVec 16, ∃ s : State, s.canonical = true ∧ a ≠ c ∧ s.pqPresent qLedger = true) ∧
    (∃ q : QIx, ∃ u : Bool, ∃ s : State, s.pqSinkKind q.val ≠ 1) ∧
    (∃ q : QIx, ∃ i : QItem, ∃ s : State, s.canonical = true ∧ q.val < 512 ∧ s.pqPresent q.val = true ∧ s.pqEn q.val = true ∧ s.pqSinkKind q.val = 1 ∧ (s.pq q.val).sinkUsed < s.sinkCredits q.val ∧ s.tileOn (s.sinkGate q.val) = true ∧ (s.tile (s.sinkGate q.val)).gen = s.activeGen ∧ (s.tile (s.sinkGate q.val)).stoneFull 4 s.now = false ∧ headItem (s.pqWhole q.val) (s.pq q.val) = some i ∧ i.poison = false) ∧
    (∃ q : QIx, ∃ ue : Bool, ∃ i : QItem, ∃ s : State, s.canonical = true ∧ q.val < 512 ∧ s.pqPresent q.val = true ∧ s.pqEn q.val = true ∧ s.pqSinkKind q.val = 1 ∧ (s.pq q.val).sinkUsed < s.sinkCredits q.val ∧ s.tileOn (s.sinkGate q.val) = true ∧ (s.tile (s.sinkGate q.val)).gen = s.activeGen ∧ (s.tile (s.sinkGate q.val)).stoneFull 4 s.now = false ∧ headItem (s.pqWhole q.val) (s.pq q.val) = some i ∧ (ue || i.poison) = true) ∧
    (∃ q : QIx, ∃ u : Bool, ∃ s : State, s.boot.linkUp = false) ∧
    (∃ q : QIx, ∃ i : QItem, ∃ s : State, s.canonical = true ∧ q.val < 512 ∧ s.pqPresent q.val = true ∧ s.pqEn q.val = true ∧ s.pqSinkKind q.val = 2 ∧ s.boot.linkUp = true ∧ s.ringHasRoom q.val = true ∧ headItem (s.pqWhole q.val) (s.pq q.val) = some i ∧ i.poison = false ∧ (s.deliverHost q.val false).stalled = none) ∧
    (∃ q : QIx, ∃ u : Bool, ∃ w : Nat × Nat × Nat × Nat, ∃ s : State, s.pqPresent q.val = true ∧ s.pqEn q.val = true ∧ s.pqSinkKind q.val = 2 ∧ s.boot.linkUp = true ∧ s.ringHasRoom q.val = true ∧ (s.deliverHost q.val u).stalled = some w) :=
  ⟨⟨5, 0, (rs w [(aPq 5 + 8, 16)]), by decide +kernel⟩,
   ⟨5, 0, w, by decide +kernel⟩,
   ⟨5, 4, (pqOn (fun p => { p with pushData := 9 })), by decide +kernel⟩,
   ⟨300, 0x80000000, ({ w with ident := { w.ident with part := 0x4060 } }), by decide +kernel⟩,
   ⟨0x90040003, 0x10040000, w, by decide +kernel⟩,
   ⟨0x80800000, w, by decide +kernel⟩,
   ⟨5, two, by decide +kernel⟩,
   ⟨5, 0, w, by decide +kernel⟩,
   ⟨5, ((1, 1)), ((1, 2)), two, by decide +kernel⟩,
   ⟨((1, 1)), ((1, 2)), w, by decide +kernel⟩,
   ⟨5, false, two, by decide +kernel⟩,
   ⟨5, (item 2 3), (rs two [(aPq 5, 0x80400000), (aPq 5 + 0x14, 4)]), by decide +kernel⟩,
   ⟨5, true, (item 2 3), (rs two [(aPq 5, 0x80400000), (aPq 5 + 0x14, 4)]), by decide +kernel⟩,
   ⟨5, false, two, by decide +kernel⟩,
   ⟨5, (item 2 3), ({ rs two [(aPq 5, 0x80800000)] with boot := { w.boot with linkUp := true } }), by decide +kernel⟩,
   ⟨5, false, (((wl9.deliverHost 5 false).stalled).getD (0,0,0,0)), wl9, by decide +kernel⟩⟩

/-- The hypotheses of `SignalObjects`. -/
theorem witness_SignalObjects :
    (∃ o : SigIx, ∃ n : BitVec 16, ∃ s : State, s.canonical = true ∧ s.sigEn o.val = true ∧ fld (s.sigCfg o.val) 29 2 = 3 ∧ s.sigCount o.val + n.toNat ≤ s.sigMax o.val) ∧
    (∃ o : SigIx, ∃ n : BitVec 16, ∃ s : State, s.canonical = true ∧ s.sigEn o.val = true ∧ s.sigCount o.val ≠ 0 ∧ s.sigCount o.val + n.toNat ≤ s.sigMax o.val) ∧
    (∃ o : SigIx, ∃ n : BitVec 16, ∃ s : State, s.canonical = true ∧ s.sigEn o.val = true ∧ s.sigCount o.val ≠ 0 ∧ s.sigMax o.val < s.sigCount o.val + n.toNat) ∧
    (∃ o : SigIx, ∃ n : BitVec 16, ∃ s : State, s.sigEn o.val = false) ∧
    (∃ o : SigIx, ∃ s : State, s.canonical = true ∧ s.sigEn o.val = true ∧ s.spareForHost o.val ≠ 0 ∧ s.sigCount o.val ≠ 0) ∧
    (∃ o : SigIx, ∃ s : State, (s.sigEn o.val = false ∨ s.sigCount o.val = 0 ∨ s.spareForHost o.val = 0)) ∧
    (∃ o : SigIx, ∃ v : Word, ∃ s : State, s.canonical = true ∧ s.sigEn o.val = false) ∧
    (∃ o : SigIx, ∃ v : Word, ∃ s : State, s.sigEn o.val = true) ∧
    (∃ o : SigIx, ∃ v : Word, ∃ s : State, s.canonical = true ∧ bit v 31 = true ∧ s.sigCount o.val ≤ fld v 0 16) ∧
    (∃ o : SigIx, ∃ v : Word, ∃ s : State, s.canonical = true ∧ bit v 31 = true ∧ fld v 0 16 < s.sigCount o.val) ∧
    (∃ o : SigIx, ∃ v : Word, ∃ s : State, bit v 31 = false) :=
  ⟨⟨3, 5, (sig3 0 0xE0000010), by decide +kernel⟩,
   ⟨3, 5, (sig3 4 0xE0000010), by decide +kernel⟩,
   ⟨3, 15, (sig3 4 0xE0000010), by decide +kernel⟩,
   ⟨3, 5, w, by decide +kernel⟩,
   ⟨3, (sig3 4 0x80000010), by decide +kernel⟩,
   ⟨3, w, by decide +kernel⟩,
   ⟨3, 65535, (sig3 0 16), by decide +kernel⟩,
   ⟨3, 7, (sig3 4 0x80000010), by decide +kernel⟩,
   ⟨3, 0x80000010, (sig3 4 0), by decide +kernel⟩,
   ⟨3, 0x80000003, (sig3 4 0x80000010), by decide +kernel⟩,
   ⟨3, 0x00000010, (sig3 4 0x80000010), by decide +kernel⟩⟩

end P07

namespace P08
def wT : MemWord := .tile ⟨0, 3, 5⟩ 9
def gkpOn : State := rs w [(aGkpCtrl, 0x80000000)]
def wbS : State := { w with mem := { w.mem with writeBacks := [⟨wT, List.replicate 64 1⟩, ⟨.hbm 3, []⟩] } }
def repairS : State := { rs w [(aGkpRepairLoc, 0x04000000)] with mem := { w.mem with repair := true, repairData := 0x0102 } }
def freed : State := { w with mem := { w.mem with hbm := [(4095, 1), (4096, 7), (8191, 7), (8192, 9)] }, alloc := { w.alloc with zeroing := [(4096, 4096)] } }
/-- Queue 5 holds a request whose reply queue is `q`. -/
def allocItem (q : Nat) : QItem := ⟨lineOf (List.replicate 0x1E 0 ++ leBytes 2 q), 0, true, true, 1, 40, 0, false⟩
def allocQ (q : Nat) : State :=
  { rs w [(aPq 5, 0x80000000), (aPq 5 + 8, 16)] with pqs := [(5, { PqState.empty with items := [allocItem q] })] }
def wE : MemWord := .engine 0 9
def poolS : State := rs { w with alloc := { w.alloc with poolBase := 0x10000000, poolLen := 0x10000000 } } [(aCtxQuota 0, 0x10000)]

/-- The hypotheses of `Groundskeeper`. -/
theorem witness_Groundskeeper :
    (∃ w : MemWord, ∃ s : State, s.canonical = true ∧ bit (s.reg aGkpCtrl) 31 = true ∧ s.wordPresent w = true ∧ s.slotFree w true = true ∧ s.beforeScrub w = false ∧ s.l2Locked w = false ∧ s.isPoisoned w = false) ∧
    (∃ w : MemWord, ∃ s : State, s.canonical = true ∧ bit (s.reg aGkpCtrl) 31 = true ∧ s.wordPresent w = true ∧ s.slotFree w true = true ∧ s.beforeScrub w = false ∧ s.l2Locked w = false ∧ s.isPoisoned w = false) ∧
    (∃ w : MemWord, ∃ e : Ecc, ∃ s : State, bit (s.reg aGkpCtrl) 31 = false) ∧
    (∃ v : Word, ∃ s : State, s.canonical = true) ∧
    (∃ b : WriteBack, ∃ rest : List WriteBack, ∃ s : State, s.mem.writeBacks = b :: rest ∧ s.mayWriteBack b = true) ∧
    (∃ s : State, s.mem.writeBacks.find? s.mayWriteBack = none) ∧
    (∃ s : State, s.mem.repair = true ∧ ((∀ w, s.repairWord = some w → s.slotFree w false = true))) ∧
    (∃ s : State, s.mem.repair = false) ∧
    (∃ k : Nat, ∃ s : State, s.canonical = true ∧ s.mem.repair = true ∧ s.repairWord = some (.hbm k) ∧ 8 * k < s.ident.hbmBytes) :=
  ⟨⟨wE, gkpOn, by decide +kernel⟩,
   ⟨wT, gkpOn, by decide +kernel⟩,
   ⟨wT, .uncorrectable, (rs w [(aGkpCtrl, 0)]), by decide +kernel⟩,
   ⟨10001, w, by decide +kernel⟩,
   ⟨(⟨wT, List.replicate 64 1⟩), ([⟨.hbm 3, []⟩]), wbS, by decide +kernel⟩,
   ⟨w, by decide +kernel⟩,
   ⟨repairS, by decide +kernel⟩,
   ⟨w, by decide +kernel⟩,
   ⟨0, repairS, by decide +kernel⟩⟩

/-- The hypotheses of `DeviceMemory`. -/
theorem witness_DeviceMemory :
    (∃ k : Stack, ∃ s : State, s.boot.trained = false) ∧
    (∃ k : Stack, ∃ s : State, s.boot.trained = true ∧ k.val < s.ident.stacks ∧ Tab.at_ 0 s.mem.filled k.val < 262144 ∧ s.canonical = true ∧ (Tab.at_ [] s.mem.filledEarly k.val).contains (Tab.at_ 0 s.mem.filled k.val) = false) ∧
    (∃ a : Nat, ∃ n : Nat, ∃ d : Nat, ∃ s : State, s.canonical = true ∧ Tab.at_ 0 s.alloc.zeroing a = n ∧ n ≠ 0 ∧ physOf a = .hbm d) ∧
    (∃ q : QIx, ∃ s : State, s.canonical = true ∧ s.pqPresent q.val = true ∧ (s.pq q.val).items = [] ∧ (s.pq q.val).openR = none) ∧
    (∃ q : QIx, ∃ i : QItem, ∃ st : DWord, ∃ s : State, ∃ p : State, s.popWith q.val false = (p, st, some i) ∧ i.poison = false) ∧
    (∃ q : QIx, ∃ i : QItem, ∃ s : State, s.canonical = true ∧ q.val < 512 ∧ s.pqPresent q.val = true ∧ headItem (s.pqWhole q.val) (s.pq q.val) = some i ∧ i.poison = false ∧ 512 ≤ fieldAt (lineBytes i.data) 0x1E 2) ∧
    (∃ s : State, ∃ ctx : Nat, ∃ len : Nat, ∃ al : Nat, ((len = 0 ∨ len % 4096 ≠ 0 ∨ 2 ^ 30 < len))) ∧
    (∃ s : State, ∃ ctx : Nat, ∃ len : Nat, ∃ al : Nat, len ≠ 0 ∧ len % 4096 = 0 ∧ len ≤ 2 ^ 30 ∧ ((al < 12 ∨ 30 < al))) ∧
    (∃ s : State, ∃ ctx : Nat, ∃ len : Nat, ∃ al : Nat, ∃ a : Nat, s.placeFor len (2 ^ al) = some a ∧ s.canonical = true ∧ len ≠ 0 ∧ len % 4096 = 0 ∧ len ≤ 2 ^ 30 ∧ 12 ≤ al ∧ al ≤ 30 ∧ ctx < 64 ∧ s.reg64 (aCtxMemUsed ctx) + len ≤ s.reg64 (aCtxQuota ctx)) ∧
    (∃ s : State, ∃ ctx : Nat, ∃ a : Nat, (Tab.at_ (0, 0) s.alloc.live a).1 = 0) :=
  ⟨⟨3, w, by decide +kernel⟩,
   ⟨3, ({ w with boot := { w.boot with trained := true } }), by decide +kernel⟩,
   ⟨4096, 4096, 4096, freed, by decide +kernel⟩,
   ⟨5, w, by decide +kernel⟩,
   ⟨5, (allocItem 6), (((allocQ 6).popWith 5 false).2.1), (allocQ 6), (((allocQ 6).popWith 5 false).1), by decide +kernel⟩,
   ⟨5, (allocItem 512), (allocQ 512), by decide +kernel⟩,
   ⟨w, 0, 4095, 12, by decide +kernel⟩,
   ⟨w, 0, 4096, 31, by decide +kernel⟩,
   ⟨poolS, 0, 4096, 12, ((poolS.placeFor 4096 (2 ^ 12)).getD 0), some_getD (by decide +kernel), by decide +kernel⟩,
   ⟨w, 0, 4096, by decide +kernel⟩⟩

end P08

namespace P09
def req1 : HReq := { master := 1, id := 3, addr := 64, write := false, bytes := 64, data := 0, lock := false, unlock := false, xkzq := true }
def txn1 (st : TxnState) : HTxn := ⟨req1, 1, st, 0, 15, 9, 0, 0, none⟩
def hdgS (f : HdgState → HdgState) : State := { w with hdg := [(0, f HdgState.empty)] }
def lockH : HLock := ⟨1, 3, 2, 0, false, false⟩
def lockedH : State := { hdgS (fun x => { x with locks := [(1, some lockH)] }) with now := 511 }
/-- Window 2 of hub 0 spans pages 2 to 4. -/
def winS (l : List (Nat × Word)) : State := rs w ([(aWin 0 2, 0x2000), (aWin 0 2 + 8, 0x4000)] ++ l)
def grantS : State := hdgS (fun x => { x with txns := [{ txn1 .waiting with req := { req1 with master := 7 } }, txn1 .waiting] })

/-- The hypotheses of `HedgeRequests`. -/
theorem witness_HedgeRequests :
    (∃ h : Hub, ∃ r : HReq, ∃ s : State, (s.hasMaster h.val r.master.val = false ∨ 32 ≤ s.outstanding h.val r.master.val)) ∧
    (∃ h : Hub, ∃ r : HReq, ∃ s : State, s.canonical = true ∧ s.hasMaster h.val r.master.val = true ∧ s.outstanding h.val r.master.val < 32 ∧ s.portShut h.val r.master.val = false ∧ s.xkzqAbsent r = true) ∧
    (∃ h : Hub, ∃ r : HReq, ∃ s : State, s.hasMaster h.val r.master.val = true ∧ s.outstanding h.val r.master.val < 32 ∧ s.portShut h.val r.master.val = false ∧ s.xkzqAbsent r = false ∧ s.matrixStops h.val r.master.val r.addr.toNat (min r.bytes 64) r.write = true) ∧
    (∃ h : Hub, ∃ r : HReq, ∃ v : Nat, ∃ s : State, s.hasMaster h.val r.master.val = true ∧ s.outstanding h.val r.master.val < 32 ∧ s.portShut h.val r.master.val = false ∧ s.xkzqAbsent r = false ∧ s.matrixStops h.val r.master.val r.addr.toNat (min r.bytes 64) r.write = false ∧ (r.lock && ((s.hedge h.val).heldBy r.master.val).isSome) = false ∧ s.targetOf h.val r.addr.toNat (min r.bytes 64) = some v) ∧
    (∃ h : Nat, ∃ v : Nat, ∃ i : Nat, ∃ y : HTxn, ∃ s : State, s.nextGrant h v = some (i, y)) ∧
    (∃ h : Hub, ∃ m : Master, ∃ id : BitVec 5, ∃ s : State, (s.hedge h.val).txns = []) ∧
    (∃ h : Hub, ∃ x : HTxn, ∃ s : State, s.canonical = true ∧ (s.hedge h.val).txns = [x] ∧ x.st = .granted ∧ x.org = none ∧ (s.hedge (1 - h.val)).txns = []) ∧
    (∃ h : Hub, ∃ m : Master, ∃ s : State, (s.hedge h.val).txns = []) ∧
    (∃ h : Hub, ∃ x : HTxn, ∃ s : State, (s.hedge h.val).txns = [x] ∧ ((x.st = .heldOrder ∨ x.st = .heldLock)) ∧ (s.hedge h.val).heldForLock x.req.master.val x.target = false) ∧
    (∃ h : Hub, ∃ t : Target, ∃ l : HLock, ∃ s : State, (s.hedge h.val).lockOf t.val = some l ∧ ((s.now ≤ l.at_ + 512 ∨ l.done = true))) ∧
    (∃ h : Hub, ∃ t : Target, ∃ l : HLock, ∃ s : State, (s.hedge h.val).lockOf t.val = some l ∧ l.at_ + 512 < s.now ∧ l.done = false) ∧
    (∃ h : Hub, ∃ t : Target, ∃ s : State, (s.hedge h.val).lockOf t.val = none) :=
  ⟨⟨1, ({ req1 with master := 5 }), w, by decide +kernel⟩,
   ⟨0, ({ req1 with addr := 0x20000000000 }), w, by decide +kernel⟩,
   ⟨0, ({ req1 with addr := 0x20000000000, xkzq := false }), w, by decide +kernel⟩,
   ⟨0, ({ req1 with xkzq := false }), (((w).targetOf 0 64 64).getD 9), w, by decide +kernel⟩,
   ⟨0, 1, ((((grantS).nextGrant 0 1).getD (9, txn1 .waiting)).1), ((((grantS).nextGrant 0 1).getD (9, txn1 .waiting)).2), grantS, by decide +kernel⟩,
   ⟨0, 1, 3, w, by decide +kernel⟩,
   ⟨0, (txn1 .granted), (hdgS (fun x => { x with txns := [txn1 .granted] })), by decide +kernel⟩,
   ⟨0, 1, w, by decide +kernel⟩,
   ⟨0, (txn1 .heldLock), (hdgS (fun x => { x with txns := [txn1 .heldLock] })), by decide +kernel⟩,
   ⟨0, 1, lockH, lockedH, by decide +kernel⟩,
   ⟨0, 1, lockH, ({ lockedH with now := 513 }), by decide +kernel⟩,
   ⟨0, 1, w, by decide +kernel⟩⟩

/-- The hypotheses of `HedgeSettings`. -/
theorem witness_HedgeSettings :
    (∃ h : Hub, ∃ w : Fin 16, ∃ v : Word, ∃ s : State, s.canonical = true ∧ h.val < s.ident.hubs ∧ s.winEn h.val w.val = false ∧ bit v 31 = true ∧ s.winRefused h.val w.val = true) ∧
    (∃ h : Hub, ∃ w : Fin 16, ∃ v : Word, ∃ s : State, s.canonical = true ∧ h.val < s.ident.hubs ∧ s.winEn h.val w.val = false ∧ bit v 31 = true ∧ s.winRefused h.val w.val = false ∧ s.ident.absentAt (aWin h.val w.val + 16) = false) ∧
    (∃ h : Hub, ∃ w : Fin 16, ∃ v : Word, ∃ s : State, h.val < s.ident.hubs ∧ s.winEn h.val w.val = true ∧ bit v 31 = true) ∧
    (∃ h : Hub, ∃ w : Fin 16, ∃ v : Word, ∃ s : State, h.val < s.ident.hubs ∧ s.winEn h.val w.val = true ∧ bit v 31 = false) ∧
    (∃ h : Hub, ∃ s : State, s.canonical = true ∧ h.val < s.ident.hubs) ∧
    (∃ h : Nat, ∃ o : Nat, ∃ v : Word, ∃ s : State, s.canonical = true ∧ s.hdgLocked h = true) :=
  ⟨⟨0, 2, 0x80000002, (winS [(aWin 0 3, 0x4000), (aWin 0 3 + 8, 0x5000), (aWin 0 3 + 16, 0x80000001)]), by decide +kernel⟩,
   ⟨0, 2, 0xE0000002, (winS []), by decide +kernel⟩,
   ⟨0, 2, 0xE0000002, (winS [(aWin 0 2 + 16, 0x80000001)]), by decide +kernel⟩,
   ⟨0, 2, 1, (winS [(aWin 0 2 + 16, 0x80000001)]), by decide +kernel⟩,
   ⟨1, w, by decide +kernel⟩,
   ⟨0, 0, 5, (rs w [(aHdg 0, 1)]), by decide +kernel⟩⟩

end P09

namespace P10
def hdr0 : Header :=
  { magic := 0, fmtMajor := 1, fmtMinor := 0, len := 448, sectCount := 1, flags := 0, minFw := 0, reqFeatures := 0, ttDigest := 0,
    predDigest := 0, budget := 100, scrub := 1, holdAllow := 2, linePeriod := 0, bandLines := 4, bandSet := 1, pavilions := 1,
    depthBells := 3, lagLines := 0, slot := 0, size := 0, sigMagic := 0, keySlot := 0, sigR := 0, sigS := 0, digest := 0x0102 }
def img0 : Image :=
  { hdr := hdr0, sections := [], tiles := [], pavs := [], regions := [], stores := [], hub := [], hbm := [], kernels := [],
    group := none }
/-- STATE of the load. -/
def inState (n : Nat) (l : List (Nat × Word)) (f : LoadState → LoadState) : State :=
  { rs w ([(aHubLoadStatus, BitVec.ofNat 32 (n * 2 ^ 28))] ++ l) with load := f w.load }
def staged2 : State := inState 2 [] (fun l => { l with staged := some img0, todo := [101, 102] })
def staged3 (mode : Bool) : State := inState 3 [] (fun l => { l with staged := some img0, mode := mode })
def eocS : State := inState 4 [(aHubLoadCtrl, 1)] (fun l => { l with staged := some img0, windowOpen := true, eocSent := [0, 1], kioskSwapped := [0, 1] })
def badLoad : State := { rs (inState 1 [(aHubLoadLen, 448), (aHubLoadAddr, 0)] id) [(aHubLoadAddr + 4, 0x20)] with boot := { w.boot with trained := true } }
def fmtLoad : State := { inState 1 [] id with fuse := { w.fuse with latched := [(0, 1)] } }
def lateWanted : State := inState 1 [] (fun l => { l with mode := true })
theorem bar2_pow : ∃ k, k < 7 ∧ w.bar2Size = min w.ident.hbmBytes (2 ^ (30 + k)) := by
  unfold State.bar2Size
  rw [if_pos (by decide +kernel)]
  exact ⟨_, by omega, rfl⟩
theorem bar2_not_one : ((1 : Word).toNat + 2 ^ 32 * (1 : Word).toNat) % w.bar2Size ≠ 0 := by
  obtain ⟨k, hk, h⟩ := bar2_pow
  rw [h]
  have : ∀ k < 7, ((1 : Word).toNat + 2 ^ 32 * (1 : Word).toNat) % min w.ident.hbmBytes (2 ^ (30 + k)) ≠ 0 := by decide +kernel
  exact this k hk

/-- The hypotheses of `LoadStarts`. -/
theorem witness_LoadStarts :
    (∃ mode : Bool, ∃ s : State, s.canonical = true ∧ ((s.loadState = 0 ∨ s.loadState = 5 ∨ s.loadState = 6)) ∧ ((mode = true ∨ s.runBit = false))) ∧
    (∃ mode : Bool, ∃ s : State, s.canonical = true ∧ s.loadState ≠ 0 ∧ s.loadState ≠ 5 ∧ s.loadState ≠ 6) ∧
    (∃ s : State, s.canonical = true ∧ ((s.loadState = 0 ∨ s.loadState = 5 ∨ s.loadState = 6)) ∧ s.runBit = true) ∧
    (∃ s : State, s.canonical = true ∧ 1 ≤ s.loadState ∧ s.loadState ≤ 3) ∧
    (∃ s : State, ((s.loadState = 0 ∨ 4 ≤ s.loadState))) :=
  ⟨⟨true, ({ rs w [(aBelCtrl, 0x100)] with load := { w.load with active := some img0 } }), by decide +kernel⟩,
   ⟨true, (staged3 true), by decide +kernel⟩,
   ⟨(rs w [(aBelCtrl, 0x100)]), by decide +kernel⟩,
   ⟨staged2, by decide +kernel⟩,
   ⟨(inState 4 [] id), by decide +kernel⟩⟩

/-- The hypotheses of `LoadSteps`. -/
theorem witness_LoadSteps :
    (∃ s : State, s.loadState ≠ 1) ∧
    (∃ o : Nat, ∃ s : State, s.canonical = true ∧ s.loadState = 1 ∧ s.imageBytes = (s, .inr o)) ∧
    (∃ bs : List Byte, ∃ s : State, ∃ g : State, ∃ u : State, s.loadState = 1 ∧ s.imageBytes = (g, .inl bs) ∧ u = (if s.keysInUse then g.clrBits aHubLoadStatus 0x1000000 else g.setBits aHubLoadStatus 0x1000000)) ∧
    (∃ t : TileLoc, ∃ i : Image, ∃ s : State, s.load.staged = some i ∧ s.loadState = 2 ∧ s.load.todo.contains t.key = true ∧ s.tileOn t.key = true ∧ (s.load.todo.filter (fun j => j != t.key)) ≠ []) ∧
    (∃ t : TileLoc, ∃ i : Image, ∃ s : State, s.load.staged = some i ∧ s.loadState = 2 ∧ s.load.todo.contains t.key = true ∧ s.tileOn t.key = true ∧ (s.load.todo.filter (fun j => j != t.key)) = []) ∧
    (∃ t : TileLoc, ∃ s : State, s.loadState ≠ 2) :=
  ⟨⟨w, by decide +kernel⟩,
   ⟨0, badLoad, by decide +kernel⟩,
   ⟨[], fmtLoad, fmtLoad.imageBytes.1, (if fmtLoad.keysInUse then fmtLoad.clrBits aHubLoadStatus 0x1000000 else fmtLoad.setBits aHubLoadStatus 0x1000000), by decide +kernel⟩,
   ⟨(⟨0, 3, 5⟩), img0, staged2, by decide +kernel⟩,
   ⟨(⟨0, 3, 5⟩), img0, ({ staged2 with load := { staged2.load with todo := [101] } }), by decide +kernel⟩,
   ⟨(⟨0, 3, 5⟩), w, by decide +kernel⟩⟩

/-- The hypotheses of `Activation`. -/
theorem witness_Activation :
    (∃ i : Image, ∃ s : State, s.activationDue = true ∧ s.load.staged = some i) ∧
    (∃ s : State, s.activationDue = false) ∧
    (∃ s : State, s.loadState ≠ 3) ∧
    (∃ s : State, s.loadState = 3 ∧ s.loadMode = true ∧ s.grp.running = false ∧ bit (s.reg aContainStatus) 31 = false) ∧
    (∃ hi : Word, ∃ s : State, s.canonical = true ∧ s.loadState = 0) ∧
    (∃ hi : Word, ∃ s : State, s.canonical = true ∧ s.loadMode = true ∧ 1 ≤ s.loadState ∧ s.loadState ≤ 2 ∧ s.grp.running = false) ∧
    (∃ s : State, s.eocThrough = false) ∧
    (∃ i : Image, ∃ s : State, s.eocThrough = true ∧ s.load.staged = some i) ∧
    (∃ hi : Word, ∃ s : State, s.canonical = true ∧ s.ident.hasHbm = true ∧ ((Tab.at_ 0 s.latch aHubBar2Base).toNat + 2 ^ 32 * hi.toNat) % s.bar2Size = 0) ∧
    (∃ hi : Word, ∃ s : State, ((Tab.at_ 0 s.latch aHubBar2Base).toNat + 2 ^ 32 * hi.toNat) % s.bar2Size ≠ 0) :=
  ⟨⟨img0, (staged3 false), by decide +kernel⟩,
   ⟨(staged3 true), by decide +kernel⟩,
   ⟨w, by decide +kernel⟩,
   ⟨(staged3 true), by decide +kernel⟩,
   ⟨65535, ({ w with latch := [(aHubSwapBand, 7)] }), by decide +kernel⟩,
   ⟨0x10007, lateWanted, by decide +kernel⟩,
   ⟨w, by decide +kernel⟩,
   ⟨img0, eocS, by decide +kernel⟩,
   ⟨0, w, by decide +kernel⟩,
   ⟨1, ({ w with latch := [(aHubBar2Base, 1)] }), bar2_not_one⟩⟩

end P10

namespace P11
def onC (c : Nat) (f : CoreState → CoreState) (s : State) : State := s.setCore c (f (s.core c))
/-- A core that a notice interrupts. -/
def irqC (x : CoreState) : CoreState := { (x.setCsr 0x304 0x800).setCsr 0x300 0x2008 with irq := [5] }
def wt (k : KqKind) (o : Option Offer) : KqWaiting := ⟨k, 4, 6, o, 10, 16⟩
def waitC (k : KqKind) (o : Option Offer) (x : CoreState) : CoreState := { x with wait := some (wt k o) }
/-- Words of HBM at address 0x1000. -/
def hbm (ws : List Nat) (s : State) : State := (s.hbmWrite 0x1000 ((ws.map (leBytes 4)).flatten))
def atPc (x : CoreState) : CoreState := { x with pc := 0x1000 }
def addW : Nat := encR 0 2 1 0 3 0x33
def bsv (e : State × Except Nat (List Byte)) : List Byte := match e.2 with
  | .ok v => v
  | .error _ => []
def regC (l : List (Nat × DWord)) (x : CoreState) : CoreState := l.foldl (fun y e => y.setX e.1 e.2) x
/-- Task `k` runs on core 1 in user mode. -/
def taskS (k : Nat) (f : TaskState → TaskState) (s : State) : State := s.setTask k (f (s.task k))
def runTask (s : State) : State :=
  onC 1 (fun x => { x with task := some 3, priv := 0 }) (taskS 3 (fun t => { t with st := 2, core := some 1 }) (rs s [(aTaskOf 3 + 0x28, 0x00020000)]))
def enPq : State := rs w [(aPq 3, 0x80000000), (aPq 3 + 8, 16)]
def item0 : QItem := ⟨7, 2, true, true, 0x11, 0, 0, false⟩
def fullPq : State := enPq.onPq 3 (fun p => { p with items := List.replicate 16 item0 })
def pushR (s : State) := (s.sbDrain 1).loadVa 1 (s.rs 1 2).toNat 64 .clean
def pushG (s : State) := (pushR s).1.kqCode 1 true true 3
def pushO (s : State) := (pushG s).1.offer 3 (kqOffer 1 (s.rs 1 1) (bsv (pushR s)))
def popD (s : State) := s.dataAt 1 (s.rs 1 2).toNat 64 true
def sigS (n : Nat) : State := rs w [(aSig 6, BitVec.ofNat 32 n), (aSigCfg 6, 0x8000FFFF)]
def sgC (s : State) : State := onC 1 (regC [(1, 6), (2, 3)]) s
def moveR (s : State) := State.porterMove (fun t va w => t.coreXlate 1 (s.core 1).dataPriv va w false) 1 porterFuel (s.sbDrain 1)
      ⟨((s.core 1).getCsr 0x801).toNat, ((s.core 1).getCsr 0x802).toNat, 128⟩
def slotS (st : Nat) (m : Word) : State := rs (taskS 3 (fun t => { t with st := st }) w) [(aTaskOf 3 + 0x28, m)]
def kqO (v a : DWord) (s : State) : State := onC 1 (regC [(1, v), (2, a)]) s
def errOf {α : Type} (e : State × Except Nat α) : Nat := match e.2 with
  | .ok _ => 0
  | .error k => k
def whA (e : State × Where_) : Nat := match e.2 with
  | .at_ a _ => a
  | .bad k => k
def whB (e : State × Where_) : Nat := match e.2 with
  | .at_ _ b => b
  | .bad k => k
def popG (s : State) := (popD s).1.kqCode 1 true false 3
def popH (s : State) := (popG s).1.coreHedge 1 (whA (popD s)) (whB (popD s)) 64 true
def popW (s : State) := (popH s).1.popWith 3 false
def onePq : State := enPq.onPq 3 (fun p => { p with items := [item0] })
def offCore : State := { w with power := { w.power with off := [13] } }
def stalledS : State := { w with hdg := [(0, { HdgState.empty with stall := some (5, 4, 2) })] }
def allocR (s : State) := s.allocate (s.taskCtx 3) (s.rs 1 10).toNat (s.rs 1 11).toNat
def poolT : State := rs { runTask (onC 1 (regC [(10, 4096), (11, 12)]) w) with alloc := { w.alloc with poolLen := 0x10000000 } } [(aCtxQuota 0, 0x10000)]
def sF3 : State := onC 1 atPc (hbm [1] w)
def sF4 : State := onC 1 (fun x => { x with pc := 0x103E }) (w.hbmWrite 0x103E (leBytes 4 addW))
def q3 : State := sF3.useFree.useFree
def q4 : State := sF4.useFree.useFree
theorem quiet {s : State} (h : s.useFree.sbDrainOne 1 = s.useFree)
    (hk : ∀ k, s.useFree.useFree.l2Flush 0 k = s.useFree.useFree) :
    (s.sbMayDrain 1).l2Evict (hubOf 1) = s.useFree.useFree := by
  have h1 : s.sbMayDrain 1 = s.useFree := by
    unfold State.sbMayDrain
    split
    · exact h
    · rfl
  rw [h1]
  unfold State.l2Evict
  split
  · rfl
  · exact hk _
theorem quiet3 : (sF3.sbMayDrain 1).l2Evict (hubOf 1) = q3 := quiet (by decide +kernel) (fun _ => rfl)
theorem quiet4 : (sF4.sbMayDrain 1).l2Evict (hubOf 1) = q4 := quiet (by decide +kernel) (fun _ => rfl)
def f4 : State × Except Nat Nat := q4.fetchHalf 1 (q4.core 1).pc.toNat false
def f4b : State × Except Nat Nat := f4.1.fetchHalf 1 ((q4.core 1).pc.toNat + 2) false

/-- The hypotheses of `LodgeInstructions`. -/
theorem witness_LodgeInstructions :
    (∃ w : Nat × Nat × Nat × Nat, ∃ s : State, ∃ t : State, t.stalled = some w) ∧
    (∃ c : Core, ∃ e : Ecc, ∃ s : State, s.coreRuns c.val = false ∧ s.stalled = none) ∧
    (∃ c : Core, ∃ e : Ecc, ∃ k : Nat, ∃ s : State, s.coreRuns c.val = true ∧ (s.core c.val).nextIrq = some k) ∧
    (∃ c : Core, ∃ e : Ecc, ∃ h : Nat, ∃ w : Nat, ∃ s : State, ∃ u : State, ((s.sbMayDrain c.val).l2Evict (hubOf c.val)).fetchHalf c.val (((s.sbMayDrain c.val).l2Evict (hubOf c.val)).core c.val).pc.toNat (e == .parityOnce || e == .parityTwice) = (u, .ok h) ∧ s.coreRuns c.val = true ∧ (s.core c.val).nextIrq = none ∧ h % 4 ≠ 3 ∧ expandRvc h = some w) ∧
    (∃ c : Core, ∃ e : Ecc, ∃ h : Nat, ∃ g : Nat, ∃ s : State, ∃ u : State, ∃ x : State, ((s.sbMayDrain c.val).l2Evict (hubOf c.val)).fetchHalf c.val (((s.sbMayDrain c.val).l2Evict (hubOf c.val)).core c.val).pc.toNat (e == .parityOnce || e == .parityTwice) = (u, .ok h) ∧ u.fetchHalf c.val ((((s.sbMayDrain c.val).l2Evict (hubOf c.val)).core c.val).pc.toNat + 2) false = (x, .ok g) ∧ s.coreRuns c.val = true ∧ (s.core c.val).nextIrq = none ∧ h % 4 = 3) ∧
    (∃ c : Nat, ∃ w : Nat, ∃ e : Ecc, ∃ v : DWord, ∃ s : State, s.canonical = true ∧ Tab.wf (fun _ => (0 : DWord)) (s.core c).x = true ∧ iOp w = 0x33 ∧ aluOp (iF7 w) (iF3 w) (s.rs c (iRs1 w)) (s.rs c (iRs2 w)) = some v) :=
  ⟨⟨((stalledS.stalled).getD (0, 0, 0, 0)), w, stalledS, by decide +kernel⟩,
   ⟨1, .clean, ({ w with power := { w.power with off := [13] } }), by decide +kernel⟩,
   ⟨1, .clean, 11, (onC 1 irqC w), by decide +kernel⟩,
   ⟨1, .clean, 1, 0x13, sF3, ((q3.fetchHalf 1 (q3.core 1).pc.toNat false).1), (congrArg (fun x : State => x.fetchHalf 1 (x.core 1).pc.toNat false) quiet3).trans (fst_snd (by decide +kernel)), by decide +kernel⟩,
   ⟨1, .clean, (addW % 65536), (addW / 65536), sF4, f4.1, f4b.1, (congrArg (fun x : State => x.fetchHalf 1 (x.core 1).pc.toNat false) quiet4).trans (fst_snd (by decide +kernel)), (congrArg (fun x : State => f4.1.fetchHalf 1 ((x.core 1).pc.toNat + 2) false) quiet4).trans (fst_snd (by decide +kernel)), by decide +kernel⟩,
   ⟨1, addW, .clean, ((onC 1 (regC [(1, 5), (2, 7)]) w).rs 1 1 + (onC 1 (regC [(1, 5), (2, 7)]) w).rs 1 2), (onC 1 (regC [(1, 5), (2, 7)]) w), by decide +kernel⟩⟩

/-- The hypotheses of `LodgeTraps`. -/
theorem witness_LodgeTraps :
    (∃ x : CoreState, ∃ i : Bool, ∃ k : Nat, ∃ v : DWord, Tab.wf csrReset x.csr = true) ∧
    (∃ c : Core, ∃ w : KqWaiting, ∃ k : Nat, ∃ s : State, (s.core c.val).wait = some w ∧ (s.core c.val).nextIrq = some k) ∧
    (∃ c : Core, ∃ w : KqWaiting, ∃ k : Nat, ∃ s : State, s.canonical = true ∧ (s.core c.val).wait = some w ∧ (s.core c.val).nextIrq = some k ∧ Tab.wf csrReset (s.core c.val).csr = true) ∧
    (∃ c : Core, ∃ s : State, (s.core c.val).wait = none) ∧
    (∃ c : Nat, ∃ k : Nat, ∃ n : Nat, ∃ v : DWord, ∃ s : State, (s.core c).task = some k ∧ (s.core c).priv = 0) ∧
    (∃ c : Core, ∃ rd : Fin 32, ∃ q : BitVec 16, ∃ rest : List (BitVec 16), ∃ s : State, s.canonical = true ∧ s.coreRuns c.val = true ∧ (s.core c.val).priv = 3 ∧ (s.core c.val).irq = q :: rest) :=
  ⟨⟨(irqC (w.core 1)), true, 11, 0, by decide +kernel⟩,
   ⟨1, (wt .wait none), 11, (onC 1 (fun x => irqC (waitC .wait none x)) w), by decide +kernel⟩,
   ⟨1, (wt .push (some (kqOffer 1 3 []))), 11, (onC 1 (fun x => irqC (waitC .push (some (kqOffer 1 3 [])) x)) w), by decide +kernel⟩,
   ⟨1, w, by decide +kernel⟩,
   ⟨1, 3, 2, 0, (runTask w), by decide +kernel⟩,
   ⟨1, 5, 5, [6], (onC 1 (fun x => { x with irq := [5, 6] }) w), by decide +kernel⟩⟩

/-- The hypotheses of `XkzqInstructions`. -/
theorem witness_XkzqInstructions :
    (∃ c : Core, ∃ rd : Fin 32, ∃ rs1 : Fin 32, ∃ rs2 : Fin 32, ∃ u : Bool, ∃ s : State, s.coreRuns c.val = false) ∧
    (∃ c : Core, ∃ rd : Fin 32, ∃ rs1 : Fin 32, ∃ rs2 : Fin 32, ∃ k : Nat, ∃ s : State, ∃ r : State, s.coreRuns c.val = true ∧ (s.sbDrain c.val).loadVa c.val (s.rs c.val rs2.val).toNat 64 .clean = (r, .error k)) ∧
    (∃ c : Core, ∃ rd : Fin 32, ∃ rs1 : Fin 32, ∃ rs2 : Fin 32, ∃ bs : List Byte, ∃ q : Nat, ∃ n : Nat, ∃ s : State, ∃ r : State, ∃ g : State, s.coreRuns c.val = true ∧ q = bits (s.rs c.val rs1.val).toNat 0 9 ∧ (s.sbDrain c.val).loadVa c.val (s.rs c.val rs2.val).toNat 64 .clean = (r, .ok bs) ∧ r.kqCode c.val true true q = (g, n) ∧ n ≠ 0) ∧
    (∃ c : Core, ∃ rd : Fin 32, ∃ rs1 : Fin 32, ∃ rs2 : Fin 32, ∃ bs : List Byte, ∃ q : Nat, ∃ n : Nat, ∃ s : State, ∃ r : State, ∃ g : State, ∃ t : State, s.coreRuns c.val = true ∧ q = bits (s.rs c.val rs1.val).toNat 0 9 ∧ (s.sbDrain c.val).loadVa c.val (s.rs c.val rs2.val).toNat 64 .clean = (r, .ok bs) ∧ r.kqCode c.val true true q = (g, n) ∧ n = 0 ∧ g.offer q (kqOffer c.val (s.rs c.val rs1.val) bs) = (t, .accepted)) ∧
    (∃ c : Core, ∃ rd : Fin 32, ∃ rs1 : Fin 32, ∃ rs2 : Fin 32, ∃ bs : List Byte, ∃ q : Nat, ∃ n : Nat, ∃ s : State, ∃ r : State, ∃ g : State, ∃ t : State, s.coreRuns c.val = true ∧ q = bits (s.rs c.val rs1.val).toNat 0 9 ∧ (s.sbDrain c.val).loadVa c.val (s.rs c.val rs2.val).toNat 64 .clean = (r, .ok bs) ∧ r.kqCode c.val true true q = (g, n) ∧ n = 0 ∧ g.offer q (kqOffer c.val (s.rs c.val rs1.val) bs) = (t, .refused)) ∧
    (∃ c : Core, ∃ rd : Fin 32, ∃ rs1 : Fin 32, ∃ rs2 : Fin 32, ∃ bs : List Byte, ∃ q : Nat, ∃ n : Nat, ∃ s : State, ∃ r : State, ∃ g : State, ∃ t : State, s.coreRuns c.val = true ∧ q = bits (s.rs c.val rs1.val).toNat 0 9 ∧ (s.sbDrain c.val).loadVa c.val (s.rs c.val rs2.val).toNat 64 .clean = (r, .ok bs) ∧ r.kqCode c.val true true q = (g, n) ∧ n = 0 ∧ g.offer q (kqOffer c.val (s.rs c.val rs1.val) bs) = (t, .held)) ∧
    (∃ c : Core, ∃ rd : Fin 32, ∃ rs1 : Fin 32, ∃ rs2 : Fin 32, ∃ u : Bool, ∃ pa : Nat, ∃ pb : Nat, ∃ n : Nat, ∃ q : Nat, ∃ s : State, ∃ w : State, ∃ g : State, ∃ h : State, ∃ p : State, ∃ st : DWord, s.coreRuns c.val = true ∧ q = bits (s.rs c.val rs1.val).toNat 0 9 ∧ s.dataAt c.val (s.rs c.val rs2.val).toNat 64 true = (w, .at_ pa pb) ∧ w.kqCode c.val true false q = (g, n) ∧ n ≠ 0) ∧
    (∃ c : Core, ∃ rd : Fin 32, ∃ rs1 : Fin 32, ∃ rs2 : Fin 32, ∃ u : Bool, ∃ pa : Nat, ∃ pb : Nat, ∃ n : Nat, ∃ q : Nat, ∃ s : State, ∃ w : State, ∃ g : State, ∃ h : State, ∃ p : State, ∃ st : DWord, s.coreRuns c.val = true ∧ q = bits (s.rs c.val rs1.val).toNat 0 9 ∧ s.dataAt c.val (s.rs c.val rs2.val).toNat 64 true = (w, .at_ pa pb) ∧ w.kqCode c.val true false q = (g, n) ∧ n = 0 ∧ g.coreHedge c.val pa pb 64 true = (h, 0) ∧ h.popWith q u = (p, st, none)) ∧
    (∃ c : Core, ∃ rd : Fin 32, ∃ rs1 : Fin 32, ∃ rs2 : Fin 32, ∃ u : Bool, ∃ pa : Nat, ∃ pb : Nat, ∃ n : Nat, ∃ q : Nat, ∃ s : State, ∃ w : State, ∃ g : State, ∃ h : State, ∃ p : State, ∃ st : DWord, ∃ i : QItem, s.coreRuns c.val = true ∧ q = bits (s.rs c.val rs1.val).toNat 0 9 ∧ s.dataAt c.val (s.rs c.val rs2.val).toNat 64 true = (w, .at_ pa pb) ∧ w.kqCode c.val true false q = (g, n) ∧ n = 0 ∧ g.coreHedge c.val pa pb 64 true = (h, 0) ∧ h.popWith q u = (p, st, some i)) ∧
    (∃ c : Core, ∃ rd : Fin 32, ∃ rs1 : Fin 32, ∃ rs2 : Fin 32, ∃ u : Bool, ∃ k : Nat, ∃ s : State, ∃ w : State, s.coreRuns c.val = true ∧ s.dataAt c.val (s.rs c.val rs2.val).toNat 64 true = (w, .bad k)) ∧
    (∃ c : Core, ∃ rd : Fin 32, ∃ rs1 : Fin 32, ∃ rs2 : Fin 32, ∃ n : Nat, ∃ o : Nat, ∃ s : State, ∃ g : State, s.coreRuns c.val = true ∧ o = bits (s.rs c.val rs1.val).toNat 0 9 ∧ (s.sbDrain c.val).kqCode c.val false true o = (g, n) ∧ n ≠ 0) ∧
    (∃ c : Core, ∃ rd : Fin 32, ∃ rs1 : Fin 32, ∃ rs2 : Fin 32, ∃ n : Nat, ∃ o : Nat, ∃ s : State, ∃ g : State, s.coreRuns c.val = true ∧ o = bits (s.rs c.val rs1.val).toNat 0 9 ∧ (s.sbDrain c.val).kqCode c.val false true o = (g, n) ∧ n = 0) ∧
    (∃ c : Core, ∃ rd : Fin 32, ∃ rs1 : Fin 32, ∃ rs2 : Fin 32, ∃ n : Nat, ∃ o : Nat, ∃ s : State, ∃ g : State, s.coreRuns c.val = true ∧ o = bits (s.rs c.val rs1.val).toNat 0 9 ∧ s.kqCode c.val false false o = (g, n) ∧ n ≠ 0) ∧
    (∃ c : Core, ∃ rd : Fin 32, ∃ rs1 : Fin 32, ∃ rs2 : Fin 32, ∃ n : Nat, ∃ o : Nat, ∃ s : State, ∃ g : State, s.coreRuns c.val = true ∧ o = bits (s.rs c.val rs1.val).toNat 0 9 ∧ s.kqCode c.val false false o = (g, n) ∧ n = 0 ∧ (g.waitersOn o).length < g.sigCount o) ∧
    (∃ c : Core, ∃ rd : Fin 32, ∃ rs1 : Fin 32, ∃ rs2 : Fin 32, ∃ n : Nat, ∃ o : Nat, ∃ s : State, ∃ g : State, s.coreRuns c.val = true ∧ o = bits (s.rs c.val rs1.val).toNat 0 9 ∧ s.kqCode c.val false false o = (g, n) ∧ n = 0 ∧ g.sigCount o ≤ (g.waitersOn o).length) ∧
    (∃ o : SigIx, ∃ c : Nat, ∃ rest : List Nat, ∃ s : State, s.waitersOn o.val = c :: rest ∧ s.sigEn o.val = true ∧ s.sigCount o.val ≠ 0) ∧
    (∃ o : SigIx, ∃ s : State, (s.waitersOn o.val = [] ∨ s.sigCount o.val = 0)) ∧
    (∃ c : Core, ∃ w : KqWaiting, ∃ s : State, (s.core c.val).wait = some w ∧ w.kind = .wait ∧ w.timeout ≠ 0 ∧ 8 * w.since + 5 * w.timeout ≤ 8 * s.now) ∧
    (∃ c : Core, ∃ w : KqWaiting, ∃ s : State, (s.core c.val).wait = some w ∧ 8 * s.now < 8 * w.since + 5 * w.timeout) :=
  ⟨⟨1, 3, 1, 2, true, ({ w with power := { w.power with off := [13] } }), by decide +kernel⟩,
   ⟨1, 3, 1, 2, (errOf (pushR (kqO 0x180003 0x1004 enPq))), (kqO 0x180003 0x1004 enPq), ((pushR (kqO 0x180003 0x1004 enPq)).1), by decide +kernel⟩,
   ⟨1, 3, 1, 2, (bsv (pushR (onC 1 (fun x => { x with priv := 0 }) (kqO 0x180003 0x1000 enPq)))), 3, ((pushG (onC 1 (fun x => { x with priv := 0 }) (kqO 0x180003 0x1000 enPq))).2), (onC 1 (fun x => { x with priv := 0 }) (kqO 0x180003 0x1000 enPq)), ((pushR (onC 1 (fun x => { x with priv := 0 }) (kqO 0x180003 0x1000 enPq))).1), ((pushG (onC 1 (fun x => { x with priv := 0 }) (kqO 0x180003 0x1000 enPq))).1), by decide +kernel⟩,
   ⟨1, 3, 1, 2, (bsv (pushR (kqO 0x180003 0x1000 enPq))), 3, ((pushG (kqO 0x180003 0x1000 enPq)).2), (kqO 0x180003 0x1000 enPq), ((pushR (kqO 0x180003 0x1000 enPq)).1), ((pushG (kqO 0x180003 0x1000 enPq)).1), ((pushO (kqO 0x180003 0x1000 enPq)).1), by decide +kernel⟩,
   ⟨1, 3, 1, 2, (bsv (pushR (kqO 0x100003 0x1000 enPq))), 3, ((pushG (kqO 0x100003 0x1000 enPq)).2), (kqO 0x100003 0x1000 enPq), ((pushR (kqO 0x100003 0x1000 enPq)).1), ((pushG (kqO 0x100003 0x1000 enPq)).1), ((pushO (kqO 0x100003 0x1000 enPq)).1), by decide +kernel⟩,
   ⟨1, 3, 1, 2, (bsv (pushR (kqO 0x180003 0x1000 fullPq))), 3, ((pushG (kqO 0x180003 0x1000 fullPq)).2), (kqO 0x180003 0x1000 fullPq), ((pushR (kqO 0x180003 0x1000 fullPq)).1), ((pushG (kqO 0x180003 0x1000 fullPq)).1), ((pushO (kqO 0x180003 0x1000 fullPq)).1), by decide +kernel⟩,
   ⟨1, 3, 1, 2, false, (whA (popD (onC 1 (fun x => { x with priv := 0 }) (kqO 0x3 0x1000 enPq)))), (whB (popD (onC 1 (fun x => { x with priv := 0 }) (kqO 0x3 0x1000 enPq)))), ((popG (onC 1 (fun x => { x with priv := 0 }) (kqO 0x3 0x1000 enPq))).2), 3, (onC 1 (fun x => { x with priv := 0 }) (kqO 0x3 0x1000 enPq)), ((popD (onC 1 (fun x => { x with priv := 0 }) (kqO 0x3 0x1000 enPq))).1), ((popG (onC 1 (fun x => { x with priv := 0 }) (kqO 0x3 0x1000 enPq))).1), ((popH (onC 1 (fun x => { x with priv := 0 }) (kqO 0x3 0x1000 enPq))).1), ((popW (onC 1 (fun x => { x with priv := 0 }) (kqO 0x3 0x1000 enPq))).1), ((popW (onC 1 (fun x => { x with priv := 0 }) (kqO 0x3 0x1000 enPq))).2.1), by decide +kernel⟩,
   ⟨1, 3, 1, 2, false, (whA (popD (kqO 0x3 0x1000 enPq))), (whB (popD (kqO 0x3 0x1000 enPq))), ((popG (kqO 0x3 0x1000 enPq)).2), 3, (kqO 0x3 0x1000 enPq), ((popD (kqO 0x3 0x1000 enPq)).1), ((popG (kqO 0x3 0x1000 enPq)).1), ((popH (kqO 0x3 0x1000 enPq)).1), ((popW (kqO 0x3 0x1000 enPq)).1), ((popW (kqO 0x3 0x1000 enPq)).2.1), by decide +kernel⟩,
   ⟨1, 3, 1, 2, false, (whA (popD (kqO 0x3 0x1000 onePq))), (whB (popD (kqO 0x3 0x1000 onePq))), ((popG (kqO 0x3 0x1000 onePq)).2), 3, (kqO 0x3 0x1000 onePq), ((popD (kqO 0x3 0x1000 onePq)).1), ((popG (kqO 0x3 0x1000 onePq)).1), ((popH (kqO 0x3 0x1000 onePq)).1), ((popW (kqO 0x3 0x1000 onePq)).1), ((popW (kqO 0x3 0x1000 onePq)).2.1), item0, by decide +kernel⟩,
   ⟨1, 3, 1, 2, false, (whA (popD (kqO 0x3 0x1004 enPq))), (kqO 0x3 0x1004 enPq), ((popD (kqO 0x3 0x1004 enPq)).1), by decide +kernel⟩,
   ⟨1, 3, 1, 2, ((((sgC w).sbDrain 1).kqCode 1 false true 6).2), 6, (sgC w), ((((sgC w).sbDrain 1).kqCode 1 false true 6).1), by decide +kernel⟩,
   ⟨1, 3, 1, 2, ((((sgC (sigS 3)).sbDrain 1).kqCode 1 false true 6).2), 6, (sgC (sigS 3)), ((((sgC (sigS 3)).sbDrain 1).kqCode 1 false true 6).1), by decide +kernel⟩,
   ⟨1, 3, 1, 2, (((sgC w).kqCode 1 false false 6).2), 6, (sgC w), (((sgC w).kqCode 1 false false 6).1), by decide +kernel⟩,
   ⟨1, 3, 1, 2, (((sgC (sigS 3)).kqCode 1 false false 6).2), 6, (sgC (sigS 3)), (((sgC (sigS 3)).kqCode 1 false false 6).1), by decide +kernel⟩,
   ⟨1, 3, 1, 2, (((sgC (sigS 0)).kqCode 1 false false 6).2), 6, (sgC (sigS 0)), (((sgC (sigS 0)).kqCode 1 false false 6).1), by decide +kernel⟩,
   ⟨6, 1, [2], (onC 1 (waitC .wait none) (onC 2 (waitC .wait none) (sigS 3))), by decide +kernel⟩,
   ⟨6, (onC 1 (waitC .wait none) (sigS 0)), by decide +kernel⟩,
   ⟨1, (wt .wait none), ({ onC 1 (waitC .wait none) w with now := 20 }), by decide +kernel⟩,
   ⟨1, (wt .wait none), ({ onC 1 (waitC .wait none) w with now := 19 }), by decide +kernel⟩⟩

/-- The hypotheses of `PortersAndCalls`. -/
theorem witness_PortersAndCalls :
    (∃ c : Core, ∃ len : DWord, ∃ s : State, s.coreRuns c.val = true ∧ (len.toNat = 0 ∨ 65536 < len.toNat)) ∧
    (∃ c : Core, ∃ len : DWord, ∃ s : State, s.coreRuns c.val = false) ∧
    (∃ c : Core, ∃ len : DWord, ∃ s : State, ∃ m : State, ∃ z : Xfer, s.coreRuns c.val = true ∧ 0 < len.toNat ∧ len.toNat ≤ 65536 ∧ State.porterMove (fun t va w => t.coreXlate c.val (s.core c.val).dataPriv va w false) c.val porterFuel (s.sbDrain c.val) ⟨((s.core c.val).getCsr 0x801).toNat, ((s.core c.val).getCsr 0x802).toNat, len.toNat⟩ = (m, z, .done) ∧ m.canonical = true ∧ m.stalled = none) ∧
    (∃ c : Core, ∃ s : State, s.canonical = true ∧ (s.core c.val).porter = true ∧ s.stalled = none ∧ ((∀ k, (s.core c.val).task = some k → (s.task k).copy = none ∧ s.sup.warnHeld = false))) ∧
    (∃ c : Core, ∃ s : State, (s.core c.val).porter = false ∧ s.stalled = none) ∧
    (∃ c : Core, ∃ k : Nat, ∃ s : State, s.caller c.val = some k) ∧
    (∃ c : Core, ∃ k : Nat, ∃ s : State, s.canonical = true ∧ Tab.wf (fun _ => (0 : DWord)) (s.core c.val).x = true ∧ s.caller c.val = some k) ∧
    (∃ c : Core, ∃ s : State, s.caller c.val = none) ∧
    (∃ c : Nat, ∃ k : Nat, ∃ n : Nat, ∃ s : State, ∃ u : State, s.allocate (s.taskCtx k) (s.rs c 10).toNat (s.rs c 11).toNat = (u, n, 0) ∧ n ≠ 0) ∧
    (∃ c : Nat, ∃ k : Nat, ∃ a : Nat, ∃ s : State, ∃ u : State, s.allocate (s.taskCtx k) (s.rs c 10).toNat (s.rs c 11).toNat = (u, 0, a)) :=
  ⟨⟨1, 65537, w, by decide +kernel⟩,
   ⟨1, 64, offCore, by decide +kernel⟩,
   ⟨1, 128, (onC 1 (fun x => (x.setCsr 0x801 0x1000).setCsr 0x802 0x2000) w), ((moveR (onC 1 (fun x => (x.setCsr 0x801 0x1000).setCsr 0x802 0x2000) w)).1), ((moveR (onC 1 (fun x => (x.setCsr 0x801 0x1000).setCsr 0x802 0x2000) w)).2.1), by decide +kernel⟩,
   ⟨1, (onC 1 (fun x => { x with porter := true }) w), by decide +kernel⟩,
   ⟨1, w, by decide +kernel⟩,
   ⟨1, 3, (runTask w), by decide +kernel⟩,
   ⟨1, 3, (runTask w), by decide +kernel⟩,
   ⟨1, w, by decide +kernel⟩,
   ⟨1, 3, 5, (runTask (onC 1 (regC [(10, 4096), (11, 12)]) w)), (((runTask (onC 1 (regC [(10, 4096), (11, 12)]) w)).allocate ((runTask (onC 1 (regC [(10, 4096), (11, 12)]) w)).taskCtx 3) 4096 12).1), by decide +kernel⟩,
   ⟨1, 3, ((allocR poolT).2.2), poolT, ((allocR poolT).1), fst_code_snd (by decide +kernel)⟩⟩

/-- The hypotheses of `TaskSlots`. -/
theorem witness_TaskSlots :
    (∃ h : Hub, ∃ i : Slot, ∃ w : Fin 16, ∃ v : Word, ∃ s : State, s.canonical = true ∧ h.val < s.ident.hubs ∧ slotFree (s.task (taskKey h i)).st = true) ∧
    (∃ h : Hub, ∃ i : Slot, ∃ w : Fin 16, ∃ v : Word, ∃ s : State, slotFree (s.task (taskKey h i)).st = false) ∧
    (∃ h : Hub, ∃ i : Slot, ∃ s : State, s.canonical = true ∧ h.val < s.ident.hubs ∧ slotFree (s.task (taskKey h i)).st = true ∧ bits (s.taskMask (taskKey h i)) 1 3 ≠ 0 ∧ (s.task (taskKey h i)).cancelAt ≠ some s.now) ∧
    (∃ h : Hub, ∃ i : Slot, ∃ s : State, s.canonical = true ∧ h.val < s.ident.hubs ∧ slotFree (s.task (taskKey h i)).st = true ∧ bits (s.taskMask (taskKey h i)) 1 3 = 0) ∧
    (∃ h : Hub, ∃ i : Slot, ∃ s : State, s.canonical = true ∧ h.val < s.ident.hubs ∧ slotFree (s.task (taskKey h i)).st = true ∧ bits (s.taskMask (taskKey h i)) 1 3 ≠ 0 ∧ (s.task (taskKey h i)).cancelAt = some s.now) ∧
    (∃ h : Hub, ∃ i : Slot, ∃ s : State, (s.task (taskKey h i)).st = 1) ∧
    (∃ h : Hub, ∃ i : Slot, ∃ c : Nat, ∃ s : State, (s.task (taskKey h i)).st = 2 ∧ (s.task (taskKey h i)).core = some c ∧ s.justStarted (taskKey h i) c = true) ∧
    (∃ h : Hub, ∃ i : Slot, ∃ s : State, ((s.task (taskKey h i)).st = 2 ∨ (s.task (taskKey h i)).st = 3) ∧ ((∀ c, (s.task (taskKey h i)).core = some c → s.justStarted (taskKey h i) c = false))) ∧
    (∃ h : Hub, ∃ i : Slot, ∃ s : State, h.val < s.ident.hubs ∧ slotFree (s.task (taskKey h i)).st = true) ∧
    (∃ h : Hub, ∃ i : Slot, ∃ c : Nat, ∃ s : State, ((s.task (taskKey h i)).st = 2 ∨ (s.task (taskKey h i)).st = 3) ∧ (s.task (taskKey h i)).core = some c ∧ (s.task (taskKey h i)).interrupted = true ∧ (s.task (taskKey h i)).faulting = false ∧ (s.core c).porter = false) ∧
    (∃ h : Hub, ∃ i : Slot, ∃ s : State, (s.task (taskKey h i)).interrupted = false) ∧
    (∃ h : Hub, ∃ k : Nat, ∃ c : Nat, ∃ s : State, ∃ u : State, s.nextTask h.val = some k ∧ s.coreFor k = some c ∧ s.takeWaits (s.taskWaits k) = some u) ∧
    (∃ h : Hub, ∃ s : State, s.nextTask h.val = none) ∧
    (∃ h : Hub, ∃ i : Slot, ∃ t0 : Nat, ∃ s : State, (s.task (taskKey h i)).stopAt = some t0 ∧ s.now < t0) ∧
    (∃ h : Hub, ∃ i : Slot, ∃ t0 : Nat, ∃ s : State, (s.task (taskKey h i)).stopAt = some t0 ∧ t0 ≤ s.now ∧ (s.task (taskKey h i)).st = 2 ∧ ((∀ c, (s.task (taskKey h i)).core = some c → s.justStarted (taskKey h i) c = false))) ∧
    (∃ k : Nat, ∃ c : Nat, ∃ s : State, s.canonical = true ∧ Tab.wf (fun _ => (0 : DWord)) (s.core c).x = true ∧ (s.task k).copy = none) ∧
    (∃ c : Nat, ∃ j : Nat, ∃ s : State, ∃ k : Nat, s.coreFor k = some c ∧ c = 4 * (k / 256) + j ∧ j < 4) :=
  ⟨⟨0, 3, 2, 77, w, by decide +kernel⟩,
   ⟨0, 3, 2, 77, (slotS 2 0), by decide +kernel⟩,
   ⟨0, 3, (slotS 0 0x20000), by decide +kernel⟩,
   ⟨0, 3, (slotS 0 0x10000), by decide +kernel⟩,
   ⟨0, 3, (taskS 3 (fun t => { t with cancelAt := some 0 }) (slotS 0 0x20000)), by decide +kernel⟩,
   ⟨0, 3, (slotS 1 0), by decide +kernel⟩,
   ⟨0, 3, 1, (runTask w), by decide +kernel⟩,
   ⟨0, 3, (slotS 3 0), by decide +kernel⟩,
   ⟨0, 3, (slotS 6 0), by decide +kernel⟩,
   ⟨0, 3, 1, (taskS 3 (fun t => { t with interrupted := true }) (runTask w)), by decide +kernel⟩,
   ⟨0, 3, (runTask w), by decide +kernel⟩,
   ⟨0, 3, 1, (slotS 1 0x20000), ((slotS 1 0x20000)), by decide +kernel⟩,
   ⟨0, w, by decide +kernel⟩,
   ⟨0, 3, 5, ({ taskS 3 (fun t => { t with stopAt := some 5 }) (runTask w) with now := 4 }), by decide +kernel⟩,
   ⟨0, 3, 5, ({ taskS 3 (fun t => { t with stopAt := some 5 }) (runTask w) with now := 5 }), by decide +kernel⟩,
   ⟨3, 1, (slotS 1 0x20000), by decide +kernel⟩,
   ⟨1, 1, (slotS 1 0x20000), 3, by decide +kernel⟩⟩

/-- The hypotheses of `LodgeControl`. -/
theorem witness_LodgeControl :
    (∃ h : Hub, ∃ v : BitVec 4, ∃ s : State, h.val < s.ident.hubs ∧ v.toNat % 2 = 0 ∧ s.regN (aLodge h.val) = v.toNat + 1) ∧
    (∃ h : Hub, ∃ k : Nat, ∃ s : State, s.canonical = true ∧ h.val < s.ident.hubs ∧ 1 ≤ k ∧ k ≤ 3 ∧ s.reg (aLodge h.val) = 0xF ∧ s.power.off = [] ∧ s.power.turningOff = []) ∧
    (∃ h : Hub, ∃ v : BitVec 16, ∃ s : State, h.val < s.ident.hubs ∧ ((∀ k < 16, v.getLsbD k = true → s.wayLocked h.val k = true))) ∧
    (∃ h : Hub, ∃ k : Fin 16, ∃ s : State, h.val < s.ident.hubs ∧ s.wayLocked h.val k.val = false) :=
  ⟨⟨0, 14, (rs w [(aLodge 0, 15)]), by decide +kernel⟩,
   ⟨0, 2, (rs w [(aLodge 0, 15)]), by decide +kernel⟩,
   ⟨0, 3, (rs w [(aLodge 0 + 8, 7)]), by decide +kernel⟩,
   ⟨0, 3, (rs w [(aLodge 0 + 8, 7)]), by decide +kernel⟩⟩

end P11

namespace P12
def act (l : List (Nat × Word)) (s : State) : State := rs s ([(aCtxState 2, 1)] ++ l)
def ent (op : Nat) (bs : List Byte) : Line := lineOf ((leBytes 8 (op * 2 ^ 56 + 0x77)) ++ bs)
def re (op : Nat) (bs : List Byte) (p : EntryPhase) : REntry := ⟨3, 9, ent op bs, p, 0, 0, 0, 0⟩
def withE (es : List REntry) (s : State) : State := s.setCtx 2 { s.ctx 2 with entries := es }
/-- One leaf maps the addresses of context 2 to themselves. -/
def mapped (s : State) : State := ((s.hbmWrite 0 (leBytes 8 0x4001)).hbmWrite 0x10000 (leBytes 8 0x4401)).hbmWrite 0x11000 (leBytes 8 0xD7)
def ringS (l : List (Nat × Word)) (s : State) : State := rs s ([(aCtxRing 2 3, 0x1004), (aCtxRing 2 3 + 8, 0x80000000), (aCtxRing 2 3 + 0x10, 5)] ++ l)
def taskIn (c : Nat) (st : Nat) (s : State) : State :=
  (rs s [(aTaskOf 3 + 0x28, BitVec.ofNat 32 (0x20000 + c))]).setTask 3 { TaskState.free with st := st }
def fetchV (s : State) := s.readVirt 0 2 (s.ringVa 2 3 + 64 * (s.ringHead 2 3 % s.ringSize 2 3)) 64
def fenceV (s : State) := s.readVirt 0 2 0x2000 8
def ob (e : State × Option (List Byte)) : List Byte := e.2.getD []
def sg6 (n : Nat) (s : State) : State := rs s [(aSig 6, BitVec.ofNat 32 n), (aSigCfg 6, 0x8000FFFF)]
/-- The target of HBM is locked by master 1 of hub 0. -/
def memLocked (s : State) : State := { s with hdg := [(0, { HdgState.empty with locks := [(1, some ⟨1, 3, 2, 0, false, false⟩)] })] }
def bC (s : State) (n : Nat) (w : Bool) := s.hdgCheck 0 mPcie 64 n w false
def win0 (s : State) : State := rs s [(aWin 0 0 + 8, 0x10000), (aWin 0 0 + 16, 0x80000020)]
def poisonAt0 (s : State) : State := { (s.hbmWrite 0 [1]) with mem := { (s.hbmWrite 0 [1]).mem with hbmPoison := [8] } }
def ntf (p : EntryPhase) : REntry := { re 0 [] p with words := lineOf (leBytes 8 (2 ^ 50 + 0x77)) }
def ntfS (n : Nat) : State := rs (withE [ntf .ready] (ringS [(aCtxRing 2 3 + 8, 0xC0000005), (aCtxPqOwn 2 0, 0x20), (aPq 5, 0x80000000), (aPq 5 + 8, 4)] (act [] w))) []
def fullN (s : State) : State := { s with pqs := [(5, { PqState.empty with items := List.replicate 4 ⟨7, 0, true, true, 1, 40, 0, false⟩ })] }
def w60 : State := { w with ident := { w.ident with part := 0x4060 } }
theorem bar2_64 (s : State) (n : Nat) (h : n ≤ 64) (hi : s.ident = w.ident) (hr : s.reg64 aHubBar2Base = 0) :
    s.bar2Addr 64 n = some 64 := by
  have hb : 2 ^ 30 ≤ s.bar2Size := by
    unfold State.bar2Size
    rw [hi, if_pos (by decide +kernel)]
    exact Nat.le_min.2 ⟨by decide +kernel, Nat.pow_le_pow_right (by decide) (Nat.le_add_right _ _)⟩
  have hm : (2 : Nat) ^ 30 ≤ s.ident.hbmBytes := by rw [hi]; decide +kernel
  unfold State.bar2Addr
  simp only [hr]
  rw [if_pos]
  simp
  omega

/-- The hypotheses of `HostAccess`. -/
theorem witness_HostAccess :
    (∃ off : BitVec 25, ∃ be : BitVec 8, ∃ w : Bool, ∃ s : State, s.canonical = true ∧ s.reg aHubPcieBadacc ≠ 0) ∧
    (∃ off : BitVec 25, ∃ be : BitVec 8, ∃ w : Bool, ∃ s : State, s.canonical = true ∧ s.reg aHubPcieBadacc = 0) ∧
    (∃ off : DWord, ∃ n : Fin 65, ∃ data : Line, ∃ e : Ecc, ∃ s : State, s.bar2Addr off.toNat n.val = none) ∧
    (∃ off : DWord, ∃ n : Fin 65, ∃ data : Line, ∃ e : Ecc, ∃ a : Nat, ∃ p : Nat × Nat, ∃ s : State, ∃ g : State, s.bar2Addr off.toNat n.val = some a ∧ s.accessWaits 0 mPcie a n.val true = none ∧ s.hdgCheck 0 mPcie a n.val true false = (g, 0, p)) ∧
    (∃ off : DWord, ∃ n : Fin 65, ∃ data : Line, ∃ e : Ecc, ∃ a : Nat, ∃ p : Nat × Nat, ∃ s : State, ∃ g : State, s.bar2Addr off.toNat n.val = some a ∧ s.accessWaits 0 mPcie a n.val false = none ∧ s.hdgCheck 0 mPcie a n.val false false = (g, 0, p) ∧ (g.eccFind (.hbm (a / 8)) e).hbmPoisoned a n.val = none) ∧
    (∃ off : DWord, ∃ write : Bool, ∃ n : Fin 65, ∃ data : Line, ∃ e : Ecc, ∃ a : Nat, ∃ w : Nat × Nat × Nat × Nat, ∃ s : State, s.bar2Addr off.toNat n.val = some a ∧ s.accessWaits 0 mPcie a n.val write = some w) ∧
    (∃ off : DWord, ∃ n : Fin 65, ∃ data : Line, ∃ e : Ecc, ∃ a : Nat, ∃ w : Nat, ∃ p : Nat × Nat, ∃ s : State, ∃ g : State, s.bar2Addr off.toNat n.val = some a ∧ s.accessWaits 0 mPcie a n.val false = none ∧ s.hdgCheck 0 mPcie a n.val false false = (g, 0, p) ∧ (g.eccFind (.hbm (a / 8)) e).hbmPoisoned a n.val = some w) ∧
    (∃ off : DWord, ∃ n : Fin 65, ∃ data : Line, ∃ e : Ecc, ∃ a : Nat, ∃ x : Nat, ∃ p : Nat × Nat, ∃ s : State, ∃ g : State, s.bar2Addr off.toNat n.val = some a ∧ x ≠ 0 ∧ s.accessWaits 0 mPcie a n.val true = none ∧ s.hdgCheck 0 mPcie a n.val true false = (g, x, p)) ∧
    (∃ off : DWord, ∃ n : Fin 65, ∃ data : Line, ∃ e : Ecc, ∃ a : Nat, ∃ x : Nat, ∃ p : Nat × Nat, ∃ s : State, ∃ g : State, s.bar2Addr off.toNat n.val = some a ∧ x ≠ 0 ∧ s.accessWaits 0 mPcie a n.val false = none ∧ s.hdgCheck 0 mPcie a n.val false false = (g, x, p)) ∧
    (∃ bar : Fin 5, ∃ off : DWord, ∃ k : AtomicKind, ∃ wide : Bool, ∃ a : DWord, ∃ b : DWord, ∃ s : State, (bar.val ≠ 2 ∨ off.toNat % (if wide then 8 else 4) ≠ 0 ∨ s.bar2Addr off.toNat (if wide then 8 else 4) = none)) ∧
    (∃ off : DWord, ∃ k : AtomicKind, ∃ wide : Bool, ∃ a : DWord, ∃ b : DWord, ∃ n : Nat, ∃ d : Nat, ∃ w : Nat × Nat × Nat × Nat, ∃ s : State, s.bar2Addr off.toNat n = some d ∧ n = (if wide then 8 else 4) ∧ off.toNat % n = 0 ∧ s.accessWaits 0 mPcie d n true = some w) ∧
    (∃ off : DWord, ∃ k : AtomicKind, ∃ wide : Bool, ∃ a : DWord, ∃ b : DWord, ∃ n : Nat, ∃ d : Nat, ∃ x : Nat, ∃ p : Nat × Nat, ∃ s : State, ∃ g : State, s.bar2Addr off.toNat n = some d ∧ n = (if wide then 8 else 4) ∧ off.toNat % n = 0 ∧ s.accessWaits 0 mPcie d n true = none ∧ s.hdgCheck 0 mPcie d n true false = (g, x, p) ∧ x ≠ 0) ∧
    (∃ off : DWord, ∃ k : AtomicKind, ∃ wide : Bool, ∃ a : DWord, ∃ b : DWord, ∃ n : Nat, ∃ d : Nat, ∃ x : Nat, ∃ p : Nat × Nat, ∃ s : State, ∃ g : State, s.bar2Addr off.toNat n = some d ∧ n = (if wide then 8 else 4) ∧ off.toNat % n = 0 ∧ s.accessWaits 0 mPcie d n true = none ∧ s.hdgCheck 0 mPcie d n true false = (g, x, p) ∧ x = 0 ∧ ((s.hedge 0).heldBy mPcie).isSome = true) ∧
    (∃ off : DWord, ∃ k : AtomicKind, ∃ wide : Bool, ∃ a : DWord, ∃ b : DWord, ∃ n : Nat, ∃ d : Nat, ∃ x : Nat, ∃ p : Nat × Nat, ∃ s : State, ∃ g : State, ∃ w : Nat, s.bar2Addr off.toNat n = some d ∧ n = (if wide then 8 else 4) ∧ off.toNat % n = 0 ∧ s.accessWaits 0 mPcie d n true = none ∧ s.hdgCheck 0 mPcie d n true false = (g, x, p) ∧ x = 0 ∧ ((s.hedge 0).heldBy mPcie).isSome = false ∧ g.hbmPoisoned d n = some w) ∧
    (∃ off : DWord, ∃ k : AtomicKind, ∃ wide : Bool, ∃ a : DWord, ∃ b : DWord, ∃ n : Nat, ∃ d : Nat, ∃ x : Nat, ∃ p : Nat × Nat, ∃ s : State, ∃ g : State, ∃ r : State, ∃ bs : List Byte, s.bar2Addr off.toNat n = some d ∧ n = (if wide then 8 else 4) ∧ off.toNat % n = 0 ∧ s.accessWaits 0 mPcie d n true = none ∧ s.hdgCheck 0 mPcie d n true false = (g, x, p) ∧ x = 0 ∧ ((s.hedge 0).heldBy mPcie).isSome = false ∧ g.hbmPoisoned d n = none ∧ g.hbmRead d n = (r, bs)) ∧
    (∃ v : Fin 2048, ∃ s : State, s.canonical = true ∧ bit (s.reg (aMsixPba + 4 * (v.val / 32))) (v.val % 32) = true) ∧
    (∃ v : Fin 2048, ∃ s : State, s.canonical = true ∧ bit (s.reg (aMsixPba + 4 * (v.val / 32))) (v.val % 32) = false) :=
  ⟨⟨3, 255, false, (rs w [(aHubPcieBadacc, 5)]), by decide +kernel⟩,
   ⟨3, 255, false, w, by decide +kernel⟩,
   ⟨0, 1, 0, .clean, w60, by decide +kernel⟩,
   ⟨64, 64, 7, .clean, 64, ((bC (w) 64 true).2.2), w, ((bC (w) 64 true).1), bar2_64 _ _ (by decide) (by decide +kernel) (by decide +kernel), by decide +kernel⟩,
   ⟨64, 64, 7, .clean, 64, ((bC (w) 64 false).2.2), w, ((bC (w) 64 false).1), bar2_64 _ _ (by decide) (by decide +kernel) (by decide +kernel), by decide +kernel⟩,
   ⟨64, false, 64, 7, .clean, 64, (((memLocked w).accessWaits 0 mPcie 64 64 false).getD (0, 0, 0, 0)), (memLocked w), bar2_64 _ _ (by decide) (by decide +kernel) (by decide +kernel), by decide +kernel⟩,
   ⟨64, 64, 7, .clean, 64, 8, ((bC (poisonAt0 w) 64 false).2.2), (poisonAt0 w), ((bC (poisonAt0 w) 64 false).1), bar2_64 _ _ (by decide) (by decide +kernel) (by decide +kernel), by decide +kernel⟩,
   ⟨64, 64, 7, .clean, 64, ((bC (win0 w) 64 true).2.1), ((bC (win0 w) 64 true).2.2), (win0 w), ((bC (win0 w) 64 true).1), bar2_64 _ _ (by decide) (by decide +kernel) (by decide +kernel), by decide +kernel⟩,
   ⟨64, 64, 7, .clean, 64, ((bC (win0 w) 64 false).2.1), ((bC (win0 w) 64 false).2.2), (win0 w), ((bC (win0 w) 64 false).1), bar2_64 _ _ (by decide) (by decide +kernel) (by decide +kernel), by decide +kernel⟩,
   ⟨0, 64, .swap, true, 5, 6, w, by decide +kernel⟩,
   ⟨64, .fetchAdd, true, 5, 6, 8, 64, (((memLocked w).accessWaits 0 mPcie 64 8 true).getD (0, 0, 0, 0)), (memLocked w), bar2_64 _ _ (by decide) (by decide +kernel) (by decide +kernel), by decide +kernel⟩,
   ⟨64, .fetchAdd, true, 5, 6, 8, 64, ((bC (win0 w) 8 true).2.1), ((bC (win0 w) 8 true).2.2), (win0 w), ((bC (win0 w) 8 true).1), bar2_64 _ _ (by decide) (by decide +kernel) (by decide +kernel), by decide +kernel⟩,
   ⟨64, .fetchAdd, true, 5, 6, 8, 64, ((bC ({ w with hdg := [(0, { HdgState.empty with locks := [(1, some ⟨5, 3, 2, 0, false, false⟩)] })] }) 8 true).2.1), ((bC ({ w with hdg := [(0, { HdgState.empty with locks := [(1, some ⟨5, 3, 2, 0, false, false⟩)] })] }) 8 true).2.2), ({ w with hdg := [(0, { HdgState.empty with locks := [(1, some ⟨5, 3, 2, 0, false, false⟩)] })] }), ((bC ({ w with hdg := [(0, { HdgState.empty with locks := [(1, some ⟨5, 3, 2, 0, false, false⟩)] })] }) 8 true).1), bar2_64 _ _ (by decide) (by decide +kernel) (by decide +kernel), by decide +kernel⟩,
   ⟨64, .fetchAdd, true, 5, 6, 8, 64, ((bC (poisonAt0 w) 8 true).2.1), ((bC (poisonAt0 w) 8 true).2.2), (poisonAt0 w), ((bC (poisonAt0 w) 8 true).1), 8, bar2_64 _ _ (by decide) (by decide +kernel) (by decide +kernel), by decide +kernel⟩,
   ⟨64, .fetchAdd, true, 5, 6, 8, 64, ((bC (w) 8 true).2.1), ((bC (w) 8 true).2.2), w, ((bC (w) 8 true).1), (((bC (w) 8 true).1.hbmRead 64 8).1), (((bC (w) 8 true).1.hbmRead 64 8).2), bar2_64 _ _ (by decide) (by decide +kernel) (by decide +kernel), by decide +kernel⟩,
   ⟨37, (rs w [(aMsixPba + 4, 32), (aMsixTable 37 + 12, 1)]), by decide +kernel⟩,
   ⟨37, (rs w [(aMsixTable 37 + 12, 1)]), by decide +kernel⟩⟩

/-- The hypotheses of `Doorbells`. -/
theorem witness_Doorbells :
    (∃ c : Ctx, ∃ r : Ring, ∃ v : Word, ∃ s : State, s.canonical = true ∧ s.destroying c.val = false ∧ ringUsed v.toNat (s.ringTail c.val r.val) ≤ s.ringCredit c.val r.val) ∧
    (∃ c : Ctx, ∃ r : Ring, ∃ v : Word, ∃ s : State, s.canonical = true ∧ s.destroying c.val = false ∧ s.ringCredit c.val r.val < ringUsed v.toNat (s.ringTail c.val r.val) ∧ s.reg (aCtxDbReject c.val) ≠ 0) ∧
    (∃ c : Ctx, ∃ r : Ring, ∃ v : Word, ∃ s : State, s.canonical = true ∧ s.destroying c.val = false ∧ s.ringCredit c.val r.val < ringUsed v.toNat (s.ringTail c.val r.val) ∧ s.reg (aCtxDbReject c.val) = 0) ∧
    (∃ c : Ctx, ∃ r : Ring, ∃ v : Word, ∃ o : SigIx, ∃ n : BitVec 16, ∃ tag : Word, ∃ s : State, s.destroying c.val = true) ∧
    (∃ c : Ctx, ∃ tag : Word, ∃ s : State, s.destroying c.val = false ∧ (∀ e ∈ (s.ctx c.val).entries, eTag e.words ≠ tag)) ∧
    (∃ c : Ctx, ∃ e : REntry, ∃ s : State, s.canonical = true ∧ s.destroying c.val = false ∧ (s.ctx c.val).entries = [e] ∧ ((e.phase = .fetched ∨ e.phase = .waiting))) ∧
    (∃ c : Ctx, ∃ e : REntry, ∃ k : Nat, ∃ s : State, s.destroying c.val = false ∧ (s.ctx c.val).entries = [e] ∧ e.phase = .running ∧ s.liveTasks.find? (fun k => (s.task k).origin == some (c.val, e.ring, e.index.toNat)) = some k) ∧
    (∃ c : Ctx, ∃ o : SigIx, ∃ n : BitVec 16, ∃ s : State, s.destroying c.val = false ∧ s.ownsSig c.val o.val = true) ∧
    (∃ c : Ctx, ∃ o : SigIx, ∃ n : BitVec 16, ∃ s : State, s.canonical = true ∧ s.ownsSig c.val o.val = false) :=
  ⟨⟨2, 3, 9, (ringS [] (act [] w)), by decide +kernel⟩,
   ⟨2, 3, 40, (ringS [(aCtxDbReject 2, 1)] (act [] w)), by decide +kernel⟩,
   ⟨2, 3, 40, (ringS [] (act [] w)), by decide +kernel⟩,
   ⟨2, 3, 5, 6, 7, 8, (rs w [(aCtxState 2, 3)]), by decide +kernel⟩,
   ⟨2, 5, (act [] w), by decide +kernel⟩,
   ⟨2, (re 0 [] .waiting), (withE [re 0 [] .waiting] (act [] w)), by decide +kernel⟩,
   ⟨2, (re 1 [] .running), 3, (withE [re 1 [] .running] ((taskIn 2 2 (act [] w)).setTask 3 { TaskState.free with st := 2, origin := some (2, 3, 9) })), by decide +kernel⟩,
   ⟨2, 6, 4, (rs (act [] w) [(aCtxSigOwn 2 0, 64)]), by decide +kernel⟩,
   ⟨2, 6, 4, (act [] w), by decide +kernel⟩⟩

/-- The hypotheses of `ContextLifecycle`. -/
theorem witness_ContextLifecycle :
    (∃ c : Ctx, ∃ s : State, s.canonical = true ∧ s.ctxSt c.val = 0 ∧ (s.ctx c.val).rootWritten = true) ∧
    (∃ c : Ctx, ∃ s : State, ((s.ctxSt c.val ≠ 0 ∨ (s.ctx c.val).rootWritten = false))) ∧
    (∃ c : Ctx, ∃ s : State, s.canonical = true ∧ ((s.ctxSt c.val = 1 ∨ s.ctxSt c.val = 2)) ∧ s.ctxTasks c.val = [] ∧ (s.ctx c.val).rangAt ≠ s.now) ∧
    (∃ c : Ctx, ∃ r : Ring, ∃ v : Word, ∃ s : State, s.canonical = true ∧ ((s.ctxSt c.val = 1 ∨ s.ctxSt c.val = 2)) ∧ s.ctxTasks c.val = [] ∧ (s.ctx c.val).rangAt = s.now ∧ (s.ctx c.val).rang = [(r.val, v)]) ∧
    (∃ c : Ctx, ∃ s : State, (s.ctxSt c.val = 0 ∨ s.ctxSt c.val = 3)) ∧
    (∃ c : Ctx, ∃ s : State, s.destroying c.val = true ∧ s.ctxTasks c.val = []) ∧
    (∃ c : Ctx, ∃ s : State, s.canonical = true) ∧
    (∃ c : Ctx, ∃ s : State, ((s.destroying c.val = false ∨ s.ctxTasks c.val ≠ []))) ∧
    (∃ c : Ctx, ∃ t0 : Nat, ∃ s : State, (s.ctx c.val).destroyAt = some t0 ∧ s.destroying c.val = true ∧ t0 + msCk 4 ≤ s.now) ∧
    (∃ c : Ctx, ∃ t0 : Nat, ∃ s : State, (s.ctx c.val).destroyAt = some t0 ∧ s.now < t0 + msCk 4) ∧
    (∃ c : Ctx, ∃ s : State, (s.ctx c.val).destroyAt = none ∧ s.lateTasks c.val = []) ∧
    (∃ c : Ctx, ∃ s : State, s.canonical = true ∧ s.ctxSt c.val = 2 ∧ s.ctxTasks c.val = [] ∧ (s.ctx c.val).entries = []) ∧
    (∃ c : Ctx, ∃ s : State, ((s.ctxSt c.val ≠ 2 ∨ s.ctxTasks c.val ≠ [] ∨ (s.ctx c.val).entries ≠ []))) ∧
    (∃ c : Ctx, ∃ s : State, s.canonical = true) ∧
    (∃ c : Ctx, ∃ q : Bool, ∃ w : Fin 16, ∃ v : Word, ∃ s : State, s.canonical = true ∧ ((∀ j < 32, bit v j = true → bit (s.reg (if q then aCtxPqOwn c.val w.val else aCtxSigOwn c.val w.val)) j = false → s.mayOwn c.val q (32 * w.val + j) = true))) ∧
    (∃ c : Ctx, ∃ q : Bool, ∃ w : Fin 16, ∃ v : Word, ∃ j : Nat, ∃ s : State, s.canonical = true ∧ j < 32 ∧ bit v j = true ∧ bit (s.reg (if q then aCtxPqOwn c.val w.val else aCtxSigOwn c.val w.val)) j = false ∧ s.mayOwn c.val q (32 * w.val + j) = false) :=
  ⟨⟨2, (w.setCtx 2 { w.ctx 2 with rootWritten := true }), by decide +kernel⟩,
   ⟨2, w, by decide +kernel⟩,
   ⟨2, ({ withE [re 0 [] .waiting] (act [] w) with now := 1 }), by decide +kernel⟩,
   ⟨2, 3, 6, (rs ((ringS [] (act [] w)).setCtx 2 { w.ctx 2 with rangAt := 0, rang := [(3, 6)] }) [(aCtxRing 2 3 + 0x10, 9)]), by decide +kernel⟩,
   ⟨2, w, by decide +kernel⟩,
   ⟨2, (rs w [(aCtxState 2, 3)]), by decide +kernel⟩,
   ⟨2, (withE [re 0 [] .waiting] (act [] w)), by decide +kernel⟩,
   ⟨2, w, by decide +kernel⟩,
   ⟨2, 0, ({ (rs w [(aCtxState 2, 3)]).setCtx 2 { w.ctx 2 with destroyAt := some 0 } with now := 5000000 }), by decide +kernel⟩,
   ⟨2, 1, ({ (rs w [(aCtxState 2, 3)]).setCtx 2 { w.ctx 2 with destroyAt := some 1 } with now := 5000000 }), by decide +kernel⟩,
   ⟨2, w, by decide +kernel⟩,
   ⟨2, (ringS [] (rs w [(aCtxState 2, 0x07010002)])), by decide +kernel⟩,
   ⟨2, w, by decide +kernel⟩,
   ⟨2, w, by decide +kernel⟩,
   ⟨2, true, 1, 0xFF, w, by decide +kernel⟩,
   ⟨2, true, 1, 0xFF, 3, (rs w [(aCtxPqOwn 4 1, 8)]), by decide +kernel⟩⟩

/-- The hypotheses of `Rings`. -/
theorem witness_Rings :
    (∃ c : Ctx, ∃ r : Ring, ∃ s : State, (s.ctxSt c.val ≠ 1 ∨ s.ringEn c.val r.val = false ∨ s.ringHead c.val r.val = s.ringTail c.val r.val ∨ s.cqFull c.val r.val = true) ∧ s.stalled = none) ∧
    (∃ c : Ctx, ∃ r : Ring, ∃ bs : List Byte, ∃ s : State, ∃ g : State, s.ctxSt c.val = 1 ∧ s.ringEn c.val r.val = true ∧ s.ringHead c.val r.val ≠ s.ringTail c.val r.val ∧ s.cqFull c.val r.val = false ∧ s.readVirt 0 c.val (s.ringVa c.val r.val + 64 * (s.ringHead c.val r.val % s.ringSize c.val r.val)) 64 = (g, some bs) ∧ g.canonical = true ∧ g.stalled = none ∧ g.entryOk c.val r.val (lineOf bs) = true ∧ ((eOp (lineOf bs) = 1 ∨ eOp (lineOf bs) = 6 → eHub (lineOf bs) < s.ident.hubs → (g.freeSlot (eHub (lineOf bs))).isSome = true))) ∧
    (∃ c : Ctx, ∃ r : Ring, ∃ bs : List Byte, ∃ s : State, ∃ g : State, s.ctxSt c.val = 1 ∧ s.ringEn c.val r.val = true ∧ s.ringHead c.val r.val ≠ s.ringTail c.val r.val ∧ s.cqFull c.val r.val = false ∧ s.readVirt 0 c.val (s.ringVa c.val r.val + 64 * (s.ringHead c.val r.val % s.ringSize c.val r.val)) 64 = (g, some bs) ∧ g.canonical = true ∧ g.stalled = none ∧ g.entryOk c.val r.val (lineOf bs) = false) ∧
    (∃ c : Ctx, ∃ r : Ring, ∃ s : State, ∃ g : State, s.ctxSt c.val = 1 ∧ s.ringEn c.val r.val = true ∧ s.ringHead c.val r.val ≠ s.ringTail c.val r.val ∧ s.cqFull c.val r.val = false ∧ s.readVirt 0 c.val (s.ringVa c.val r.val + 64 * (s.ringHead c.val r.val % s.ringSize c.val r.val)) 64 = (g, none)) ∧
    (∃ c : Ctx, ∃ r : Ring, ∃ s : State, s.nextEntry c.val r.val = none ∧ s.stalled = none) ∧
    (∃ c : Ctx, ∃ r : Ring, ∃ e : REntry, ∃ s : State, s.nextEntry c.val r.val = some e ∧ eOp e.words = 0) ∧
    (∃ c : Ctx, ∃ r : Ring, ∃ e : REntry, ∃ s : State, s.nextEntry c.val r.val = some e ∧ eOp e.words = 1) ∧
    (∃ c : Ctx, ∃ r : Ring, ∃ e : REntry, ∃ s : State, s.nextEntry c.val r.val = some e ∧ eOp e.words = 2) ∧
    (∃ c : Ctx, ∃ r : Ring, ∃ e : REntry, ∃ s : State, s.nextEntry c.val r.val = some e ∧ eOp e.words = 4) ∧
    (∃ c : Ctx, ∃ r : Ring, ∃ e : REntry, ∃ s : State, s.nextEntry c.val r.val = some e ∧ eOp e.words = 5) ∧
    (∃ c : Ctx, ∃ r : Ring, ∃ e : REntry, ∃ s : State, s.nextEntry c.val r.val = some e ∧ eOp e.words = 6) ∧
    (∃ c : Ctx, ∃ r : Ring, ∃ e : REntry, ∃ s : State, s.nextEntry c.val r.val = some e ∧ eOp e.words = 3 ∧ (s.sigEn (eObject e.words) = true ∧ s.sigWaiters (eObject e.words) = [] ∧ s.spareForRings (eObject e.words) ≠ 0)) ∧
    (∃ c : Ctx, ∃ r : Ring, ∃ e : REntry, ∃ s : State, s.nextEntry c.val r.val = some e ∧ eOp e.words = 3 ∧ (s.sigEn (eObject e.words) = false ∨ s.sigWaiters (eObject e.words) ≠ [] ∨ s.spareForRings (eObject e.words) = 0)) ∧
    (∃ o : SigIx, ∃ c : Nat, ∃ e : REntry, ∃ rest : List (Nat × REntry), ∃ s : State, s.sigWaiters o.val = (c, e) :: rest ∧ s.sigEn o.val = true ∧ s.spareForRings o.val ≠ 0) ∧
    (∃ o : SigIx, ∃ s : State, s.sigWaiters o.val = []) ∧
    (∃ c : Ctx, ∃ r : Ring, ∃ e : REntry, ∃ bs : List Byte, ∃ s : State, ∃ g : State, (s.ctx c.val).entries = [e] ∧ e.ring = r.val ∧ e.phase = .waiting ∧ eOp e.words = 4 ∧ s.readVirt 0 c.val (eField e.words 8 8) 8 = (g, some bs) ∧ eField e.words 0x10 8 ≤ leNat bs) ∧
    (∃ c : Ctx, ∃ r : Ring, ∃ e : REntry, ∃ bs : List Byte, ∃ s : State, ∃ g : State, (s.ctx c.val).entries = [e] ∧ e.ring = r.val ∧ e.phase = .waiting ∧ eOp e.words = 4 ∧ s.readVirt 0 c.val (eField e.words 8 8) 8 = (g, some bs) ∧ leNat bs < eField e.words 0x10 8) ∧
    (∃ c : Ctx, ∃ r : Ring, ∃ s : State, (s.ctx c.val).entries = []) ∧
    (∃ c : Ctx, ∃ r : Ring, ∃ e : REntry, ∃ s : State, s.canonical = true ∧ (s.ctx c.val).entries = [e] ∧ e.ring = r.val ∧ e.phase = .ready ∧ eNotify e.words = false) ∧
    (∃ c : Ctx, ∃ r : Ring, ∃ e : REntry, ∃ q : Nat, ∃ o : Offer, ∃ s : State, o = ⟨s.completionItem c.val e, 0, true, true, s.free.setWidth 8, ringWriterSrc⟩ ∧ s.canonical = true ∧ (s.ctx c.val).entries = [e] ∧ e.ring = r.val ∧ e.phase = .ready ∧ eNotify e.words = true ∧ s.ringCq c.val r.val = some q ∧ s.ownsPq c.val q = true ∧ (offerStep (s.offerCfg q false) (s.pq q) o).res = .held) ∧
    (∃ c : Ctx, ∃ r : Ring, ∃ e : REntry, ∃ q : Nat, ∃ o : Offer, ∃ s : State, o = ⟨s.completionItem c.val e, 0, true, true, s.free.setWidth 8, ringWriterSrc⟩ ∧ s.canonical = true ∧ (s.ctx c.val).entries = [e] ∧ e.ring = r.val ∧ e.phase = .ready ∧ eNotify e.words = true ∧ s.ringCq c.val r.val = some q ∧ s.ownsPq c.val q = true ∧ (offerStep (s.offerCfg q false) (s.pq q) o).res ≠ .held) ∧
    (∃ c : Ctx, ∃ r : Ring, ∃ s : State, s.canonical = true ∧ s.ringEn c.val r.val = true ∧ (s.ctx c.val).entries = [] ∧ s.ctxTasks c.val = []) ∧
    (∃ c : Ctx, ∃ r : Ring, ∃ s : State, s.ringEn c.val r.val = false) :=
  ⟨⟨2, 3, w, by decide +kernel⟩,
   ⟨2, 3, (ob (fetchV (mapped (ringS [] (act [] w))))), (mapped (ringS [] (act [] w))), ((fetchV (mapped (ringS [] (act [] w)))).1), by decide +kernel⟩,
   ⟨2, 3, (ob (fetchV ((mapped (ringS [] (act [] w))).hbmWrite 0x1000 (leBytes 8 (2 ^ 32))))), ((mapped (ringS [] (act [] w))).hbmWrite 0x1000 (leBytes 8 (2 ^ 32))), ((fetchV ((mapped (ringS [] (act [] w))).hbmWrite 0x1000 (leBytes 8 (2 ^ 32)))).1), by decide +kernel⟩,
   ⟨2, 3, (ringS [] (act [] w)), ((fetchV (ringS [] (act [] w))).1), by decide +kernel⟩,
   ⟨2, 3, w, by decide +kernel⟩,
   ⟨2, 3, (re 0 [] .fetched), (withE [re 0 [] .fetched] (act [] w)), by decide +kernel⟩,
   ⟨2, 3, (re 1 [] .fetched), (withE [re 1 [] .fetched] (act [] w)), by decide +kernel⟩,
   ⟨2, 3, (re 2 [] .fetched), (withE [re 2 [] .fetched] (act [] w)), by decide +kernel⟩,
   ⟨2, 3, (re 4 [] .fetched), (withE [re 4 [] .fetched] (act [] w)), by decide +kernel⟩,
   ⟨2, 3, (re 5 [] .fetched), (withE [re 5 [] .fetched] (act [] w)), by decide +kernel⟩,
   ⟨2, 3, (re 6 [] .fetched), (withE [re 6 [] .fetched] (act [] w)), by decide +kernel⟩,
   ⟨2, 3, (re 3 [6] .fetched), (withE [re 3 [6] .fetched] (sg6 1 (act [] w))), by decide +kernel⟩,
   ⟨2, 3, (re 3 [6] .fetched), (withE [re 3 [6] .fetched] (sg6 0 (act [] w))), by decide +kernel⟩,
   ⟨6, 2, (re 3 [6] .waiting), [], (withE [re 3 [6] .waiting] (sg6 1 (act [] w))), by decide +kernel⟩,
   ⟨6, w, by decide +kernel⟩,
   ⟨2, 3, (re 4 [0, 0x20, 0, 0, 0, 0, 0, 0, 3] .waiting), (ob (fenceV (withE [re 4 [0, 0x20, 0, 0, 0, 0, 0, 0, 3] .waiting] ((mapped (act [] w)).hbmWrite 0x2000 [3])))), (withE [re 4 [0, 0x20, 0, 0, 0, 0, 0, 0, 3] .waiting] ((mapped (act [] w)).hbmWrite 0x2000 [3])), ((fenceV (withE [re 4 [0, 0x20, 0, 0, 0, 0, 0, 0, 3] .waiting] ((mapped (act [] w)).hbmWrite 0x2000 [3]))).1), by decide +kernel⟩,
   ⟨2, 3, (re 4 [0, 0x20, 0, 0, 0, 0, 0, 0, 3] .waiting), (ob (fenceV (withE [re 4 [0, 0x20, 0, 0, 0, 0, 0, 0, 3] .waiting] ((mapped (act [] w)).hbmWrite 0x2000 [2])))), (withE [re 4 [0, 0x20, 0, 0, 0, 0, 0, 0, 3] .waiting] ((mapped (act [] w)).hbmWrite 0x2000 [2])), ((fenceV (withE [re 4 [0, 0x20, 0, 0, 0, 0, 0, 0, 3] .waiting] ((mapped (act [] w)).hbmWrite 0x2000 [2]))).1), by decide +kernel⟩,
   ⟨2, 3, (act [] w), by decide +kernel⟩,
   ⟨2, 3, (re 0 [] .ready), (withE [re 0 [] .ready] (act [] w)), by decide +kernel⟩,
   ⟨2, 3, (ntf .ready), 5, (⟨(fullN (ntfS 0)).completionItem 2 (ntf .ready), 0, true, true, (fullN (ntfS 0)).free.setWidth 8, ringWriterSrc⟩), (fullN (ntfS 0)), rfl, by decide +kernel⟩,
   ⟨2, 3, (ntf .ready), 5, (⟨(ntfS 0).completionItem 2 (ntf .ready), 0, true, true, (ntfS 0).free.setWidth 8, ringWriterSrc⟩), (ntfS 0), rfl, by decide +kernel⟩,
   ⟨2, 3, (ringS [] w), by decide +kernel⟩,
   ⟨2, 3, w, by decide +kernel⟩⟩

end P12

namespace P13
def grpS (l : List (Nat × Word)) (f : GroupState → GroupState) (s : State) : State :=
  let t := rs s ([(aGrpCtrl, 1)] ++ l)
  { t with grp := f t.grp }
def withLink (p : Nat) (f : Link → Link) (s : State) : State := s.setLink p (f (s.link p))
def portOn (s : State) : State := rs s [(aPort 1, 0x80000000)]
def runG (g : GroupState) : GroupState := { g with running := true }
/-- A follower, and a leader, of a running group of four. -/
def follower (f : GroupState → GroupState) : State := grpS [(aGrpState, 0x00040104), (aGrpLat, 0x200000)] (fun g => f (runG g)) w
def leader (f : GroupState → GroupState) : State := grpS [(aGrpState, 0x01040004), (aGrpLat, 0x200000)] (fun g => f (runG g)) w
def phase (n : Nat) (lead : Bool) : State := grpS [(aGrpState, BitVec.ofNat 32 ((if lead then 0x01040000 else 0x00040100) + n))] id w
def hello0 : HelloFields := w.ownHello
def tok1 : Token := mkToken 7 9
def tokFlit (seq : BitVec 12) : Flit := mkFlit 1 seq 3 0 (tokenBody tok1)
def rx1 : RxTok := ⟨0, 0, false, tok1⟩
def routed (l : List DWord) (s : State) : State :=
  { s with load := { s.load with active := some { hdr := { magic := 0, fmtMajor := 1, fmtMinor := 0, len := 448, sectCount := 1, flags := 0, minFw := 0, reqFeatures := 0, ttDigest := 0, predDigest := 0, budget := 100, scrub := 1, holdAllow := 2, linePeriod := 0, bandLines := 4, bandSet := 1, pavilions := 1, depthBells := 3, lagLines := 0, slot := 0, size := 0, sigMagic := 0, keySlot := 0, sigR := 0, sigS := 0, digest := 0x0102 }, sections := [], tiles := [], pavs := [], regions := [], stores := [], hub := [], hbm := [], kernels := [], group := some ⟨0, 4, 1, 1, [], l⟩ } } }
def entryOf (tag : Word) : DWord := BitVec.ofNat 64 ((tagRoute tag).toNat + (tagGen tag).toNat * 1024 + 4096)
def bell0 (d : Decision) : BellMsg := ⟨.band, 5, 100, 1, 0, d, 0⟩
def withRun (s : State) : State := rs s [(aBelCtrl, 0x101)]
def aFlit (ty : BitVec 4) (body : BitVec 560) : Flit := mkFlit ty 0 3 0 body
def rxS (f : Link → Link) (s : State) : State := portOn (withLink 1 f s)
def lowPulse (o : Option W48) (l : List TickMsg) (ph : StreamPhase) : State :=
  { follower (fun g => { g with pulses := [⟨64, 5, o⟩], ticks := l }) with now := 128, bell := { w.bell with phase := ph } }
def clearG (s : State) : State := { s with grp := { s.grp with pulses := [], ticks := [] } }
def st3 : Stamp := ⟨3, 3, 0, 0, 0, false⟩
def rec5 (p : BandPhase) : BandRec := { newBand 5 st3 with phase := p }
def folBands (ph : StreamPhase) (l : List BandRec) : State := { follower id with bell := { w.bell with phase := ph, bands := l } }
def rxIn (x : RxTok) (l : List DWord) : State := portOn (routed l (withLink 1 (fun k => { k with rxBuf := [x] }) { leader id with now := 5000 }))
def grpFault (s : State) : State := { s with contain := { s.contain with active := true, groupCode := some 0x0501, at_ := s.now } }

/-- The hypotheses of `PromenadePorts`. -/
theorem witness_PromenadePorts :
    (∃ p : Port, ∃ f : Flit, ∃ s : State, s.prmOn p.val = false) ∧
    (∃ p : Port, ∃ f : Flit, ∃ s : State, s.canonical = true ∧ s.prmOn p.val = true ∧ flitGood f = false) ∧
    (∃ p : Port, ∃ f : Flit, ∃ s : State, s.canonical = true ∧ s.prmOn p.val = true ∧ flitGood f = true ∧ ((f.ftype = 1 ∨ f.ftype = 2)) ∧ f.seq ≠ (s.link p.val).rxNext) ∧
    (∃ p : Port, ∃ f : Flit, ∃ s : State, s.canonical = true ∧ s.prmOn p.val = true ∧ flitGood f = true ∧ f.ftype = 3 ∧ (∀ g ∈ (s.link p.val).replay, g.seq ≠ f.body.extractLsb' 0 12)) ∧
    (∃ p : Port, ∃ f : Flit, ∃ g : Flit, ∃ s : State, s.canonical = true ∧ s.prmOn p.val = true ∧ flitGood f = true ∧ f.ftype = 3 ∧ (s.link p.val).replay = [g] ∧ g.seq = f.body.extractLsb' 0 12 ∧ 2048 ≤ (f.ack - g.seq).toNat) ∧
    (∃ p : Port, ∃ f : Flit, ∃ s : State, s.canonical = true ∧ s.prmOn p.val = true ∧ flitGood f = true ∧ f.ftype = 2 ∧ f.seq = (s.link p.val).rxNext ∧ f.body.extractLsb' 16 8 = 0) ∧
    (∃ p : Port, ∃ f : Flit, ∃ s : State, s.canonical = true ∧ s.prmOn p.val = true ∧ flitGood f = true ∧ f.ftype = 2 ∧ s.grpMode = true ∧ f.seq = (s.link p.val).rxNext ∧ f.body.extractLsb' 16 8 ≠ 0) ∧
    (∃ p : Port, ∃ f : Flit, ∃ s : State, s.canonical = true ∧ s.prmOn p.val = true ∧ flitGood f = true ∧ f.ftype = 1 ∧ s.grpMode = false ∧ f.seq = (s.link p.val).rxNext) ∧
    (∃ p : Port, ∃ f : Flit, ∃ s : State, s.canonical = true ∧ s.prmOn p.val = true ∧ s.grpMode = true ∧ flitGood f = true ∧ f.ftype = 1 ∧ f.seq = (s.link p.val).rxNext ∧ s.contain.active = false ∧ s.sup.t0 = none ∧ tokenGood (bodyToken f.body) = false) ∧
    (∃ p : Port, ∃ f : Flit, ∃ s : State, s.canonical = true ∧ s.prmOn p.val = true ∧ s.grpMode = true ∧ flitGood f = true ∧ f.ftype = 1 ∧ f.seq = (s.link p.val).rxNext ∧ s.contain.active = false ∧ s.sup.t0 = none ∧ tokenGood (bodyToken f.body) = true ∧ 8192 ≤ (s.link p.val).rxBuf.length) ∧
    (∃ p : Port, ∃ f : Flit, ∃ s : State, s.canonical = true ∧ s.prmOn p.val = true ∧ s.grpMode = true ∧ flitGood f = true ∧ f.ftype = 1 ∧ f.seq = (s.link p.val).rxNext ∧ tokenGood (bodyToken f.body) = true ∧ (s.link p.val).rxBuf.length < 8192) ∧
    (∃ p : Port, ∃ x : RxTok, ∃ rest : List RxTok, ∃ s : State, s.prmOn p.val = true ∧ s.pickToken [] (s.link p.val).rxBuf = some (x, rest) ∧ x.late = false ∧ s.routeEntry x.tok.tag = none ∧ s.contain.active = false ∧ s.sup.t0 = none) ∧
    (∃ p : Port, ∃ x : RxTok, ∃ rest : List RxTok, ∃ s : State, ∃ e : DWord, s.prmOn p.val = true ∧ s.pickToken [] (s.link p.val).rxBuf = some (x, rest) ∧ x.late = false ∧ s.routeEntry x.tok.tag = some e ∧ bits e.toNat 12 1 = 1 ∧ bits e.toNat 13 1 = 0) ∧
    (∃ p : Port, ∃ x : RxTok, ∃ rest : List RxTok, ∃ s : State, ∃ e : DWord, s.prmOn p.val = true ∧ s.pickToken [] (s.link p.val).rxBuf = some (x, rest) ∧ x.late = false ∧ s.routeEntry x.tok.tag = some e ∧ bits e.toNat 12 1 = 0 ∧ bits e.toNat 13 1 = 1 ∧ s.prmOn (bits e.toNat 14 2) = true) ∧
    (∃ p : Port, ∃ x : RxTok, ∃ rest : List RxTok, ∃ s : State, ∃ e : DWord, s.prmOn p.val = true ∧ s.pickToken [] (s.link p.val).rxBuf = some (x, rest) ∧ x.late = false ∧ s.routeEntry x.tok.tag = some e ∧ bits e.toNat 12 1 = 1 ∧ bits e.toNat 13 1 = 1 ∧ s.prmOn (bits e.toNat 14 2) = true) ∧
    (∃ p : Port, ∃ x : RxTok, ∃ rest : List RxTok, ∃ s : State, s.canonical = true ∧ s.prmOn p.val = true ∧ s.contain.active = false ∧ s.sup.t0 = none ∧ s.pickToken [] (s.link p.val).rxBuf = some (x, rest) ∧ x.late = true) ∧
    (∃ p : Port, ∃ s : State, s.prmOn p.val = true ∧ (s.link p.val).rxBuf = []) ∧
    (∃ p : Port, ∃ s : State, (s.now < (s.link p.val).lastGood + 256 ∨ (s.link p.val).up = false)) ∧
    (∃ p : Port, ∃ s : State, s.canonical = true ∧ (s.link p.val).up = true ∧ (s.link p.val).lastGood + 256 ≤ s.now ∧ s.grp.running = true ∧ s.ringPorts.contains p.val = true ∧ s.contain.active = false ∧ s.sup.t0 = none) ∧
    (∃ p : Port, ∃ s : State, s.canonical = true ∧ (s.link p.val).up = true ∧ (s.link p.val).lastGood + 256 ≤ s.now ∧ s.grp.running = false) ∧
    (∃ p : Port, ∃ s : State, (s.prmPresent p.val = false ∨ s.grp.running = false ∨ s.ringPorts.contains p.val = false)) ∧
    (∃ p : Port, ∃ s : State, s.prmPresent p.val = true ∧ s.grp.running = true ∧ s.ringPorts.contains p.val = true) :=
  ⟨⟨1, (tokFlit 0), w, by decide +kernel⟩,
   ⟨1, ({ tokFlit 0 with stamp := 9 }), (portOn (grpS [] id w)), by decide +kernel⟩,
   ⟨1, (tokFlit 5), (portOn (grpS [] id w)), by decide +kernel⟩,
   ⟨1, (aFlit 3 5), (portOn (grpS [] id w)), by decide +kernel⟩,
   ⟨1, (mkFlit 3 0 3 0xFFF 5), (mkFlit 1 5 0 0 0), (rxS (fun l => { l with replay := [mkFlit 1 5 0 0 0] }) (grpS [] id w)), by decide +kernel⟩,
   ⟨1, (aFlit 2 7), (portOn (grpS [] id w)), by decide +kernel⟩,
   ⟨1, (aFlit 2 0x20003), (portOn (grpS [] id w)), by decide +kernel⟩,
   ⟨1, (tokFlit 0), (portOn w), by decide +kernel⟩,
   ⟨1, (aFlit 1 7), (portOn (grpS [] id w)), by decide +kernel⟩,
   ⟨1, (tokFlit 0), (rxS (fun l => { l with rxBuf := List.replicate 8192 rx1 }) (grpS [] id w)), by decide +kernel⟩,
   ⟨1, (tokFlit 0), (portOn (grpS [] id w)), by decide +kernel⟩,
   ⟨1, rx1, [], (rxIn rx1 []), by decide +kernel⟩,
   ⟨1, rx1, [], (rxIn rx1 [entryOf 7]), (entryOf 7), by decide +kernel⟩,
   ⟨1, rx1, [], (rxIn rx1 [entryOf 7 + 4096 + 16384]), (entryOf 7 + 4096 + 16384), by decide +kernel⟩,
   ⟨1, rx1, [], (rxIn rx1 [entryOf 7 + 8192 + 16384]), (entryOf 7 + 8192 + 16384), by decide +kernel⟩,
   ⟨1, ({ rx1 with late := true }), [], (rxIn { rx1 with late := true } [entryOf 7]), by decide +kernel⟩,
   ⟨1, (portOn (grpS [] id w)), by decide +kernel⟩,
   ⟨1, w, by decide +kernel⟩,
   ⟨1, ({ routed [] (rxS (fun l => { l with up := true }) (leader id)) with now := 256 }), by decide +kernel⟩,
   ⟨1, ({ withLink 1 (fun l => { l with up := true }) (portOn (grpS [] id w)) with now := 256 }), by decide +kernel⟩,
   ⟨1, w, by decide +kernel⟩,
   ⟨1, (routed [] (withLink 1 (fun l => { l with up := true }) (leader id))), by decide +kernel⟩⟩

/-- The hypotheses of `GroupForming`. -/
theorem witness_GroupForming :
    (∃ s : State, s.canonical = true ∧ s.hearsMsg = true ∧ ((s.grpPhase = 0 ∨ s.grpPhase = 3 ∨ 5 ≤ s.grpPhase))) ∧
    (∃ s : State, ((s.hearsMsg = false ∨ s.grpPhase = 1 ∨ s.grpPhase = 2 ∨ s.grpPhase = 4))) ∧
    (∃ m : Member, ∃ f : HelloFields, ∃ s : State, s.hearsMsg = true ∧ s.grpPhase = 1 ∧ s.grpLeader = false) ∧
    (∃ m : Member, ∃ f : HelloFields, ∃ s : State, (s.hearsMsg = false ∨ (s.grpPhase ≠ 1 ∧ s.grpPhase ≠ 5))) ∧
    (∃ m : Member, ∃ f : HelloFields, ∃ s : State, s.canonical = true ∧ s.hearsMsg = true ∧ s.grpPhase = 1 ∧ s.grpLeader = true ∧ ((∃ k, k < s.grpSize ∧ k ≠ s.grpSlot ∧ k ≠ m.val ∧ ∀ e ∈ s.grp.hello, e.1 ≠ k))) ∧
    (∃ f : HelloFields, ∃ s : State, s.canonical = true ∧ s.hearsMsg = true ∧ s.grpPhase = 5 ∧ s.grpLeader = false ∧ s.contain.active = false ∧ s.ownHello.slot % 256 ≠ 0) ∧
    (∃ p : Port, ∃ c : DWord, ∃ s : State, s.hearsMsg = true ∧ s.prmPresent p.val = true ∧ s.grpLeader = false ∧ ((s.grpPhase = 1 ∨ s.grpPhase = 2))) ∧
    (∃ p : Port, ∃ c : DWord, ∃ s : State, (s.hearsMsg = false ∨ s.prmPresent p.val = false ∨ (s.grpLeader = true ∧ s.grpPhase ≠ 2) ∨ (s.grpLeader = false ∧ s.grpPhase ≠ 1 ∧ s.grpPhase ≠ 2))) ∧
    (∃ p : Port, ∃ c : DWord, ∃ s : State, s.canonical = true ∧ s.hearsMsg = true ∧ s.prmPresent p.val = true ∧ s.grpLeader = true ∧ s.grpPhase = 2 ∧ (s.link p.val).trips.length < 15) ∧
    (∃ lat : Nat, ∃ ck : DWord, ∃ b : W48, ∃ l : W48, ∃ s : State, s.canonical = true ∧ s.hearsMsg = true ∧ s.grpLeader = false ∧ ((s.grpPhase = 1 ∨ s.grpPhase = 2))) ∧
    (∃ lat : Nat, ∃ ck : DWord, ∃ b : W48, ∃ l : W48, ∃ ms : List (BitVec 16), ∃ s : State, (s.hearsMsg = false ∨ s.grpLeader = true ∨ (s.grpPhase ≠ 1 ∧ s.grpPhase ≠ 2))) ∧
    (∃ ms : List (BitVec 16), ∃ s : State, s.hearsMsg = true ∧ s.grpLeader = false ∧ ((s.grpPhase = 1 ∨ s.grpPhase = 2))) ∧
    (∃ first : W48, ∃ s : State, s.canonical = true ∧ s.hearsMsg = true ∧ s.grpLeader = false ∧ s.grpPhase = 3 ∧ s.runBit = true) ∧
    (∃ first : W48, ∃ s : State, s.canonical = true ∧ s.hearsMsg = true ∧ s.grpLeader = false ∧ s.grpPhase = 3 ∧ s.runBit = false) ∧
    (∃ first : W48, ∃ s : State, (s.hearsMsg = false ∨ s.grpLeader = true ∨ s.grpPhase ≠ 3)) ∧
    (∃ t0 : Nat, ∃ s : State, s.grp.formAt = some t0 ∧ s.grpLeader = true ∧ ((s.grpPhase = 1 ∨ s.grpPhase = 2)) ∧ s.now < t0 + msCk 100) ∧
    (∃ t0 : Nat, ∃ s : State, s.grp.formAt = some t0 ∧ s.grpLeader = true ∧ ((s.grpPhase = 1 ∨ s.grpPhase = 2)) ∧ t0 + msCk 100 ≤ s.now) ∧
    (∃ s : State, s.hearsMsg = true ∧ s.grpLeader = true ∧ s.grpPhase = 5 ∧ bit (s.reg aGrpCtrl) 8 = true ∧ s.contain.active = false ∧ s.inFlight = []) ∧
    (∃ s : State, (s.grpLeader = false ∨ (s.grpPhase ≠ 1 ∧ s.grpPhase ≠ 2))) ∧
    (∃ s : State, (s.hearsMsg = false ∨ s.grpLeader = false ∨ s.grpPhase ≠ 5 ∨ bit (s.reg aGrpCtrl) 8 = false ∨ s.contain.active = true ∨ s.inFlight ≠ [])) :=
  ⟨⟨(grpS [] id w), by decide +kernel⟩,
   ⟨(phase 2 true), by decide +kernel⟩,
   ⟨1, hello0, (phase 1 false), by decide +kernel⟩,
   ⟨1, hello0, w, by decide +kernel⟩,
   ⟨1, hello0, (phase 1 true), by decide +kernel⟩,
   ⟨hello0, (routed [] (phase 5 false)), by decide +kernel⟩,
   ⟨1, 7, (phase 2 false), by decide +kernel⟩,
   ⟨1, 7, w, by decide +kernel⟩,
   ⟨1, 7, (phase 2 true), by decide +kernel⟩,
   ⟨30, 77, 5, 6, (phase 2 false), by decide +kernel⟩,
   ⟨30, 77, 5, 6, ([1, 2]), (phase 2 true), by decide +kernel⟩,
   ⟨([1, 2]), (phase 1 false), by decide +kernel⟩,
   ⟨5, (withRun (phase 3 false)), by decide +kernel⟩,
   ⟨5, (phase 3 false), by decide +kernel⟩,
   ⟨5, (phase 3 true), by decide +kernel⟩,
   ⟨0, ({ phase 1 true with now := 124999999, grp := { (phase 1 true).grp with formAt := some 0 } }), by decide +kernel⟩,
   ⟨0, ({ phase 2 true with now := 125000000, grp := { (phase 2 true).grp with formAt := some 0 } }), by decide +kernel⟩,
   ⟨(rs (phase 5 true) [(aGrpCtrl, 0x101)]), by decide +kernel⟩,
   ⟨w, by decide +kernel⟩,
   ⟨(phase 5 false), by decide +kernel⟩⟩

/-- The hypotheses of `GroupTicksAndBells`. -/
theorem witness_GroupTicksAndBells :
    (∃ s : State, s.isFollower = true ∧ s.srcSel = 1) ∧
    (∃ slot : DWord, ∃ l : W48, ∃ p : W48, ∃ h : W48, ∃ m : W48, ∃ b : BellMsg, ∃ ab : Bool, ∃ d : BitVec 256, ∃ s : State, s.isFollower = false) ∧
    (∃ slot : DWord, ∃ l : W48, ∃ p : W48, ∃ h : W48, ∃ s : State, s.isFollower = true ∧ s.gth.strobes = [] ∧ s.grp.pulses = []) ∧
    (∃ q : Pulse, ∃ m : TickMsg, ∃ u : State, ∃ s : State, s.grp.pulses = [q] ∧ q.applied = none ∧ s.grp.running = true ∧ q.slot + 64 ≤ s.grpCk ∧ u = { s with grp := { s.grp with pulses := [], ticks := [] } } ∧ s.tickFits = true ∧ s.grp.ticks = [m] ∧ m.slot.toNat = q.slot) ∧
    (∃ q : Pulse, ∃ m : TickMsg, ∃ u : State, ∃ s : State, s.grp.pulses = [q] ∧ q.applied = none ∧ s.grp.running = true ∧ q.slot + 64 ≤ s.grpCk ∧ u = { s with grp := { s.grp with pulses := [], ticks := [] } } ∧ s.tickFits = false ∧ s.grp.ticks = [m] ∧ m.slot.toNat = q.slot) ∧
    (∃ q : Pulse, ∃ m : TickMsg, ∃ u : State, ∃ s : State, s.grp.pulses = [q] ∧ q.applied = none ∧ s.grp.running = true ∧ q.slot + 64 ≤ s.grpCk ∧ u = { s with grp := { s.grp with pulses := [], ticks := [] } } ∧ s.tickFits = true ∧ s.grp.ticks = []) ∧
    (∃ q : Pulse, ∃ s : State, s.grp.pulses = [q] ∧ ((s.grpCk < q.slot + 64 ∨ q.applied ≠ none ∨ s.grp.running = false))) ∧
    (∃ s : State, s.isFollower = true ∧ s.srcSel ≠ 1) ∧
    (∃ slot : DWord, ∃ l : W48, ∃ p : W48, ∃ h : W48, ∃ old : W48, ∃ q : Pulse, ∃ s : State, s.isFollower = true ∧ s.gth.strobes = [] ∧ s.grp.pulses = [q] ∧ q.slot = slot.toNat ∧ q.applied = some old) ∧
    (∃ s : State, s.grp.pulses = [] ∧ s.grp.ticks = []) ∧
    (∃ q : Pulse, ∃ s : State, s.grp.running = true ∧ s.grp.pulses = [q] ∧ s.grp.ticks = [] ∧ q.at_ + 2 * s.bcastLat ≤ s.now) ∧
    (∃ m : TickMsg, ∃ s : State, s.grp.running = true ∧ s.grp.pulses = [] ∧ s.grp.ticks = [m] ∧ m.at_ + 2 * s.bcastLat ≤ s.now) ∧
    (∃ own : BellMsg, ∃ m : BellMsg, ∃ rest : List BellMsg, ∃ s : State, s.isFollower = true ∧ m.decision ≠ .reversed ∧ s.grp.ownBells = own :: rest ∧ bellDiff own m = 0) ∧
    (∃ own : BellMsg, ∃ m : BellMsg, ∃ rest : List BellMsg, ∃ s : State, s.isFollower = true ∧ m.decision ≠ .reversed ∧ s.grp.ownBells = own :: rest ∧ bellDiff own m ≠ 0) ∧
    (∃ m : BellMsg, ∃ s : State, s.isFollower = true ∧ m.decision ≠ .reversed ∧ s.grp.ownBells = []) ∧
    (∃ m : BellMsg, ∃ s : State, s.isFollower = true ∧ m.decision = .reversed ∧ s.assembling = none) ∧
    (∃ m : BellMsg, ∃ r : BandRec, ∃ s : State, s.isFollower = true ∧ m.decision = .reversed ∧ s.assembling = some r ∧ r.num = m.band) ∧
    (∃ mask : Nat, ∃ s : State, s.grp.running = true ∧ s.contain.active = false ∧ s.sup.t0 = none) ∧
    (∃ b : W48, ∃ s : State, s.isFollower = true ∧ s.bell.phase = .running ∧ (s.bell.bands.filter (fun r => w48lt b r.num && r.verdict.isNone && r.phase != .inFlight)) = []) ∧
    (∃ b : W48, ∃ r : BandRec, ∃ s : State, s.isFollower = true ∧ ((s.bell.phase = .running ∨ s.bell.phase = .ending)) ∧ (s.bell.bands.filter (fun r => w48lt b r.num && r.verdict.isNone && r.phase != .inFlight)) = [] ∧ s.bell.bands.find? (fun r => r.num == b && r.verdict.isNone) = some r ∧ r.phase = .assembling) ∧
    (∃ b : W48, ∃ r : BandRec, ∃ s : State, s.isFollower = true ∧ ((s.bell.phase = .running ∨ s.bell.phase = .ending)) ∧ (s.bell.bands.filter (fun r => w48lt b r.num && r.verdict.isNone && r.phase != .inFlight)) = [] ∧ s.bell.bands.find? (fun r => r.num == b && r.verdict.isNone) = some r ∧ r.phase = .waiting) ∧
    (∃ m : Member, ∃ d : BitVec 256, ∃ s : State, s.hearsMsg = true ∧ s.grp.running = true ∧ s.load.swapWanted = none) ∧
    (∃ b : W48, ∃ d : BitVec 256, ∃ s : State, (s.loadState ≠ 3 ∨ s.loadMode = false ∨ s.groupDigest ≠ d)) ∧
    (∃ m : Member, ∃ d : BitVec 256, ∃ s : State, (s.hearsMsg = false ∨ s.grp.running = false)) ∧
    (∃ ck : DWord, ∃ time : DWord, ∃ s : State, s.canonical = true ∧ s.isFollower = true ∧ s.ptp.episode = false ∧ 1000 < (((s.ptpAt (s.now - (s.grpCk - ck.toNat))).toNat : Int) - (time.toNat : Int)).natAbs) ∧
    (∃ b : W48, ∃ s : State, s.isFollower = true ∧ s.loadState = 3 ∧ s.loadMode = true) ∧
    (∃ ck : DWord, ∃ time : DWord, ∃ s : State, s.canonical = true ∧ s.isFollower = true ∧ s.ptp.episode = true) ∧
    (∃ t0 : Nat, ∃ s : State, s.grp.lastPtp = some t0 ∧ s.now < t0 + msCk 1000) ∧
    (∃ s : State, s.grp.running = true ∧ s.grpLeader = true ∧ s.grp.lastPtp = none) ∧
    (∃ s : State, (s.grp.running = false ∨ s.grpLeader = false)) :=
  ⟨⟨(withRun (follower id)), by decide +kernel⟩,
   ⟨5, 6, 7, 8, 9, (bell0 .admitted), false, 0, (leader id), by decide +kernel⟩,
   ⟨64, 6, 7, 8, (follower id), by decide +kernel⟩,
   ⟨(⟨64, 5, none⟩), (⟨64, 6, 7, 8, 9⟩), (clearG (lowPulse none [⟨64, 6, 7, 8, 9⟩] .running)), (lowPulse none [⟨64, 6, 7, 8, 9⟩] .running), by decide +kernel⟩,
   ⟨(⟨64, 5, none⟩), (⟨64, 6, 7, 8, 9⟩), (clearG (lowPulse none [⟨64, 6, 7, 8, 9⟩] .closed)), (lowPulse none [⟨64, 6, 7, 8, 9⟩] .closed), by decide +kernel⟩,
   ⟨(⟨64, 5, none⟩), (⟨64, 6, 7, 8, 9⟩), (clearG (lowPulse none [] .running)), (lowPulse none [] .running), by decide +kernel⟩,
   ⟨(⟨64, 5, none⟩), ({ follower (fun g => { g with pulses := [⟨64, 5, none⟩] }) with now := 127 }), by decide +kernel⟩,
   ⟨(follower id), by decide +kernel⟩,
   ⟨64, 6, 7, 8, 3, (⟨64, 5, some 3⟩), ({ lowPulse (some 3) [] .running with gth := { w.gth with stamps := [st3] } }), by decide +kernel⟩,
   ⟨(follower id), by decide +kernel⟩,
   ⟨(⟨64, 5, none⟩), ({ follower (fun g => { g with pulses := [⟨64, 5, none⟩] }) with now := 5 + 4 * 32 }), by decide +kernel⟩,
   ⟨(⟨64, 6, 7, 8, 9⟩), ({ follower (fun g => { g with ticks := [⟨64, 6, 7, 8, 9⟩] }) with now := 200 }), by decide +kernel⟩,
   ⟨(bell0 .admitted), (bell0 .admitted), [], (follower (fun g => { g with ownBells := [bell0 .admitted] })), by decide +kernel⟩,
   ⟨(bell0 .admitted), ({ bell0 .admitted with band := 6 }), [], (follower (fun g => { g with ownBells := [bell0 .admitted] })), by decide +kernel⟩,
   ⟨(bell0 .admitted), (follower id), by decide +kernel⟩,
   ⟨(bell0 .reversed), (follower id), by decide +kernel⟩,
   ⟨(bell0 .reversed), (rec5 .assembling), (folBands .running [rec5 .assembling]), by decide +kernel⟩,
   ⟨3, (follower id), by decide +kernel⟩,
   ⟨5, ({ follower id with bell := { (follower id).bell with phase := .running } }), by decide +kernel⟩,
   ⟨5, (rec5 .assembling), (folBands .running [rec5 .assembling]), by decide +kernel⟩,
   ⟨5, (rec5 .waiting), (folBands .ending [rec5 .waiting]), by decide +kernel⟩,
   ⟨1, 5, (follower id), by decide +kernel⟩,
   ⟨1, 5, (follower id), by decide +kernel⟩,
   ⟨1, 5, w, by decide +kernel⟩,
   ⟨5, 100000, ({ follower id with now := 50 }), by decide +kernel⟩,
   ⟨5, (({ rs (follower id) [(aHubLoadStatus, 0x30000000)] with load := { LoadState.empty with mode := true } } : State)), by decide +kernel⟩,
   ⟨5, 100, ({ follower id with now := 50, ptp := { w.ptp with episode := true } }), by decide +kernel⟩,
   ⟨0, ({ leader (fun g => { g with lastPtp := some 0 }) with now := 1249999999 }), by decide +kernel⟩,
   ⟨(leader id), by decide +kernel⟩,
   ⟨w, by decide +kernel⟩⟩

/-- The hypotheses of `GroupHoldsAndFaults`. -/
theorem witness_GroupHoldsAndFaults :
    (∃ s : State, s.grp.running = true ∧ s.hearsMsg = true ∧ s.grp.gholdLow = false) ∧
    (∃ s : State, s.grp.running = true ∧ s.hearsMsg = true ∧ s.grp.gholdLow = true) ∧
    (∃ b : Nat, ∃ rest : List (Nat × Bool), ∃ s : State, s.grp.gholdEdges = (b, true) :: rest ∧ b + 64 ≤ s.grpCk) ∧
    (∃ b : Nat, ∃ rest : List (Nat × Bool), ∃ s : State, s.grp.gholdEdges = (b, false) :: rest ∧ b + 64 ≤ s.grpCk) ∧
    (∃ b : Nat, ∃ v : Bool, ∃ rest : List (Nat × Bool), ∃ s : State, s.grp.gholdEdges = (b, v) :: rest ∧ s.grpCk < b + 64) ∧
    (∃ s : State, s.grp.running = true ∧ s.grpLeader = true ∧ s.grp.gholdLow = true ∧ s.holdWanted = false ∧ s.contain.active = false ∧ s.grp.gholdSince + s.regN aBelHoldWdog + s.bcastLat ≤ s.now ∧ s.sup.t0 = none) ∧
    (∃ s : State, s.grp.gholdLow = false) ∧
    (∃ code : BitVec 16, ∃ m : Member, ∃ ck : DWord, ∃ h : Bool, ∃ s : State, s.grp.running = true ∧ s.hearsMsg = true ∧ s.contain.active = false ∧ s.contain.groupCode = none ∧ s.sup.t0 = none) ∧
    (∃ code : BitVec 16, ∃ m : Member, ∃ ck : DWord, ∃ h : Bool, ∃ g : BitVec 16, ∃ s : State, s.grp.running = true ∧ s.hearsMsg = true ∧ s.contain.active = true ∧ s.contain.groupCode = some g ∧ s.contain.at_ = s.now ∧ m.val < fld (s.reg aGrpFaultCode) 0 3) ∧
    (∃ code : BitVec 16, ∃ m : Member, ∃ ck : DWord, ∃ h : Bool, ∃ g : BitVec 16, ∃ s : State, s.grp.running = true ∧ s.hearsMsg = true ∧ s.contain.active = true ∧ s.contain.groupCode = some g ∧ ((s.contain.at_ ≠ s.now ∨ fld (s.reg aGrpFaultCode) 0 3 ≤ m.val))) ∧
    (∃ code : BitVec 16, ∃ m : Member, ∃ ck : DWord, ∃ h : Bool, ∃ s : State, (s.grp.running = false ∨ s.hearsMsg = false)) ∧
    (∃ k : Fin 16, ∃ s : State, s.grp.running = false) ∧
    (∃ k : Fin 16, ∃ s : State, (k.val = 0 ∨ 12 < k.val ∨ s.hearsMsg = false ∨ (k = 7 ∧ s.grp.ownBells = []))) ∧
    (∃ k : Fin 16, ∃ s : State, ((k = 7 → ∃ m rest, s.grp.ownBells = m :: rest ∧ m.grpCk.toNat + 2 * s.bcastLat ≤ s.grpCk)) ∧ s.grp.running = true ∧ s.hearsMsg = true ∧ 1 ≤ k.val ∧ k.val ≤ 12 ∧ s.contain.active = false ∧ s.sup.t0 = none) ∧
    (∃ s : State, s.canonical = true ∧ s.ident.prmPorts ≠ 0 ∧ s.grp.running = false ∧ s.runBit = false) ∧
    (∃ s : State, s.canonical = true ∧ s.ident.prmPorts ≠ 0 ∧ ((s.grp.running = true ∨ s.runBit = true))) ∧
    (∃ mode : Bool, ∃ s : State, s.canonical = true ∧ s.ident.prmPorts ≠ 0 ∧ s.grp.running = false ∧ mode ≠ s.grpMode) ∧
    (∃ mode : Bool, ∃ s : State, s.canonical = true ∧ s.ident.prmPorts ≠ 0 ∧ s.grp.running = true ∧ mode ≠ s.grpMode) ∧
    (∃ s : State, s.ident.prmPorts = 0) ∧
    (∃ mode : Bool, ∃ s : State, (mode = s.grpMode ∨ s.ident.prmPorts = 0)) :=
  ⟨⟨(follower id), by decide +kernel⟩,
   ⟨(follower (fun g => { g with gholdLow := true })), by decide +kernel⟩,
   ⟨64, [], ({ follower (fun g => { g with gholdEdges := [(64, true)] }) with now := 128 }), by decide +kernel⟩,
   ⟨64, [], ({ follower (fun g => { g with gholdEdges := [(64, false)] }) with now := 128, hold := { w.hold with frozen := true } }), by decide +kernel⟩,
   ⟨64, true, [], ({ follower (fun g => { g with gholdEdges := [(64, true)] }) with now := 127 }), by decide +kernel⟩,
   ⟨(rs { leader (fun g => { g with gholdLow := true }) with now := 90 } [(aBelHoldWdog, 5)]), by decide +kernel⟩,
   ⟨w, by decide +kernel⟩,
   ⟨0x0503, 1, 5, false, (follower id), by decide +kernel⟩,
   ⟨0x0503, 1, 5, false, 0x0501, (grpFault (rs (follower id) [(aGrpFaultCode, 3)])), by decide +kernel⟩,
   ⟨0x0503, 1, 5, false, 0x0501, (grpFault (follower id)), by decide +kernel⟩,
   ⟨0x0503, 1, 5, false, w, by decide +kernel⟩,
   ⟨3, w, by decide +kernel⟩,
   ⟨0, (leader id), by decide +kernel⟩,
   ⟨6, (follower id), fun h => absurd h (by decide), by decide +kernel⟩,
   ⟨(grpS [(aGrpState, 0x02010003)] id w), by decide +kernel⟩,
   ⟨(follower id), by decide +kernel⟩,
   ⟨true, w, by decide +kernel⟩,
   ⟨false, (leader id), by decide +kernel⟩,
   ⟨({ w with ident := { w.ident with part := 0x4060 } }), by decide +kernel⟩,
   ⟨false, w, by decide +kernel⟩⟩

end P13

namespace P14
def supS (f : SupState → SupState) (s : State) : State := { s with sup := f s.sup }
def bootS (st : BootStep) (f : BootState → BootState) (s : State) : State := { s with boot := f { s.boot with step := st } }
def sentS (f : SentState → SentState) (s : State) : State := s.setSent 0 (f (s.sent 0))
def thr (s : State) : State := rs s [(aSup 0 + 0x14, 2161), (aSup 0 + 0x18, 2389), (aSup 0 + 0x1C, 3072), (aSup 0 + 0x20, 3299)]
def powS (f : PowerState → PowerState) (s : State) : State := { s with power := f s.power }
def fuseS (f : FuseState → FuseState) (s : State) : State := { s with fuse := f s.fuse }
def bpb0 : List Byte := let b := leBytes 4 0x42505A4B ++ List.replicate 248 0; b ++ leBytes 4 (crc32c b).toNat
def yOf (ua ub : Nat) (s : State) : SentState := (s.sent 0).sampled_ (s.levels 0) (vsenseCode ua) (vsenseCode ub) (s.supFilt 0) (fld (s.reg (aSup 0 + 0x24)) 0 12) (fld (s.reg (aSup 0 + 0x2C)) 0 12) s.now
def lowW (n : Nat) : InCnt := { InCnt.zero with lowWarn := n }
def lowF (n : Nat) : InCnt := { InCnt.zero with lowFail := n }
def bootV (p : List Byte) : State := bootS .started (fun b => { b with src := 1, bpbRead := true, chunkEnd := true, package := p }) w

/-- The hypotheses of `SupplyInputs`. -/
theorem witness_SupplyInputs :
    (∃ h : Hub, ∃ k : Threshold, ∃ v : Word, ∃ s : State, s.canonical = true ∧ h.val < s.ident.hubs ∧ ((s.setRegN (aSup h.val + Threshold.off k) (fld v 0 12)).levels h.val).ordered = true) ∧
    (∃ h : Hub, ∃ k : Threshold, ∃ v : Word, ∃ s : State, s.canonical = true ∧ h.val < s.ident.hubs ∧ ((s.setRegN (aSup h.val + Threshold.off k) (fld v 0 12)).levels h.val).ordered = false) ∧
    (∃ v : Word, ∃ s : State, s.canonical = true) ∧
    (∃ h : Hub, ∃ k : Threshold, ∃ v : Word, ∃ ua : Nat, ∃ ub : Nat, ∃ s : State, s.ident.hubs ≤ h.val) ∧
    (∃ k : BitVec 2, ∃ b : Bool, ∃ s : State, Tab.at_ (0, false) s.sup.slots k.toNat = (0, b)) ∧
    (∃ k : BitVec 2, ∃ n : Nat, ∃ b : Bool, ∃ s : State, Tab.at_ (0, false) s.sup.slots k.toNat = (n, b) ∧ n ≠ 0) ∧
    (∃ h : Hub, ∃ ua : Nat, ∃ ub : Nat, ∃ y : SentState, ∃ s : State, s.canonical = true ∧ h.val < s.ident.hubs ∧ s.stopping = false ∧ y = (s.sent h.val).sampled_ (s.levels h.val) (vsenseCode ua) (vsenseCode ub) (s.supFilt h.val) (fld (s.reg (aSup h.val + 0x24)) 0 12) (fld (s.reg (aSup h.val + 0x2C)) 0 12) s.now ∧ y.lowFails (s.supFilt h.val) = false ∧ y.highFails (s.supFilt h.val) = false ∧ ((y.level = 1 → (s.sent h.val).level ≠ 0))) ∧
    (∃ h : Hub, ∃ ua : Nat, ∃ ub : Nat, ∃ y : SentState, ∃ s : State, s.canonical = true ∧ h.val < s.ident.hubs ∧ s.sup.t0 = none ∧ y = (s.sent h.val).sampled_ (s.levels h.val) (vsenseCode ua) (vsenseCode ub) (s.supFilt h.val) (fld (s.reg (aSup h.val + 0x24)) 0 12) (fld (s.reg (aSup h.val + 0x2C)) 0 12) s.now ∧ y.lowFails (s.supFilt h.val) = false ∧ y.highFails (s.supFilt h.val) = false ∧ (s.sent h.val).level = 0 ∧ y.level = 1) ∧
    (∃ h : Hub, ∃ ua : Nat, ∃ ub : Nat, ∃ y : SentState, ∃ s : State, h.val < s.ident.hubs ∧ s.sup.t0 = none ∧ y = (s.sent h.val).sampled_ (s.levels h.val) (vsenseCode ua) (vsenseCode ub) (s.supFilt h.val) (fld (s.reg (aSup h.val + 0x24)) 0 12) (fld (s.reg (aSup h.val + 0x2C)) 0 12) s.now ∧ (y.lowFails (s.supFilt h.val) || y.highFails (s.supFilt h.val)) = true) :=
  ⟨⟨0, .warnLo, 0xF958, (thr w), by decide +kernel⟩,
   ⟨0, .warnLo, 4000, (thr w), by decide +kernel⟩,
   ⟨1001, w, by decide +kernel⟩,
   ⟨1, .warnLo, 4000, 800000, 800000, ({ w with ident := { w.ident with part := 0x4120 } }), by decide +kernel⟩,
   ⟨2, false, w, by decide +kernel⟩,
   ⟨2, 5, false, (supS (fun x => { x with slots := [(2, (5, false))] }) w), by decide +kernel⟩,
   ⟨0, 790000, 790000, (yOf 790000 790000 (thr w)), (thr w), by decide +kernel⟩,
   ⟨0, 650000, 650000, (yOf 650000 650000 (sentS (fun x => { x with a := lowW 7, b := lowW 7 }) (thr w))), (sentS (fun x => { x with a := lowW 7, b := lowW 7 }) (thr w)), by decide +kernel⟩,
   ⟨0, 600000, 600000, (yOf 600000 600000 (sentS (fun x => { x with a := lowF 7, b := lowF 7 }) (thr w))), (sentS (fun x => { x with a := lowF 7, b := lowF 7 }) (thr w)), by decide +kernel⟩⟩

/-- The hypotheses of `SupplyFailure`. -/
theorem witness_SupplyFailure :
    (∃ h : Hub, ∃ s : State, h.val < s.ident.hubs ∧ s.sup.t0 = none) ∧
    (∃ h : Hub, ∃ t0 : Nat, ∃ s : State, h.val < s.ident.hubs ∧ s.sup.t0 = some t0) ∧
    (∃ s : State, ((s.sup.t0 = none ∨ s.sup.cut = true ∨ s.boot.step ≠ .ready ∨ ∀ t0, s.sup.t0 = some t0 → s.now < t0 + usCk s.drainUs))) ∧
    (∃ s : State, s.sup.plan = none) ∧
    (∃ s : State, ((s.sup.warnHeld = false ∨ s.sup.t0 ≠ none))) ∧
    (∃ h : Hub, ∃ s : State, (s.sent h.val).sampled = false ∧ (s.sent h.val).diffSince = none) ∧
    (∃ h : Hub, ∃ s : State, s.canonical = true ∧ h.val < s.ident.hubs ∧ (s.sent h.val).sampled = true ∧ s.regN (aSup h.val + 4) < 205 ∧ bit (s.reg (aSup h.val)) 1 = false) ∧
    (∃ t0 : Nat, ∃ s : State, s.sup.t0 = some t0 ∧ s.sup.cut = false ∧ t0 + usCk s.drainUs ≤ s.now ∧ s.boot.step = .ready) ∧
    (∃ p : FlushPlan, ∃ s : State, s.sup.plan = some p) ∧
    (∃ s : State, s.sup.warnHeld = true ∧ s.sup.t0 = none ∧ ((List.range s.ident.hubs).all (fun h => (s.sent h).okSince.any (fun t => decide (t + msCk (s.regN (aSup h + 0x30)) ≤ s.now)))) = true) ∧
    (∃ h : Hub, ∃ t0 : Nat, ∃ s : State, s.canonical = true ∧ h.val < s.ident.hubs ∧ (s.sent h.val).diffSince = some t0 ∧ (s.sent h.val).sampled = false ∧ t0 + msCk 1 ≤ s.now ∧ bit (s.reg (aSup h.val)) 3 = false) :=
  ⟨⟨1, w, by decide +kernel⟩,
   ⟨1, 5, (supS (fun x => { x with t0 := some 5 }) w), by decide +kernel⟩,
   ⟨w, by decide +kernel⟩,
   ⟨w, by decide +kernel⟩,
   ⟨w, by decide +kernel⟩,
   ⟨0, w, by decide +kernel⟩,
   ⟨0, (sentS (fun x => { x with sampled := true }) (rs w [(aSup 0 + 4, 204)])), by decide +kernel⟩,
   ⟨0, ({ bootS .ready id (supS (fun x => { x with t0 := some 0 }) w) with now := 1000000 }), by decide +kernel⟩,
   ⟨(⟨[], [], 0⟩), (supS (fun x => { x with plan := some ⟨[], [], 0⟩ }) w), by decide +kernel⟩,
   ⟨({ (sentS (fun x => { x with okSince := some 0 }) (supS (fun x => { x with warnHeld := true }) w)).setSent 1 { SentState.init with okSince := some 0 } with now := 10000000000 }), by decide +kernel⟩,
   ⟨0, 5, ({ sentS (fun x => { x with diffSince := some 5 }) w with now := 1250005 }), by decide +kernel⟩⟩

/-- The hypotheses of `PowerDomains`. -/
theorem witness_PowerDomains :
    (∃ v : BitVec 12, ∃ s : State, v.toNat = s.regN aSupPwrBed ∧ s.ident.dies = 2) ∧
    (∃ v : BitVec 16, ∃ s : State, v.toNat = s.regN aSupPwrCam) ∧
    (∃ v : BitVec 4, ∃ s : State, v.toNat = s.regN aSupPwrPrm) ∧
    (∃ d : Domain, ∃ s : State, (s.power.turningOff.contains (domNum d) = false ∨ s.domQuiet (domNum d) = false)) ∧
    (∃ d : Die, ∃ b : Fin 6, ∃ s : State, s.power.turningOn.contains (domNum (.bed d b)) = false) ∧
    (∃ d : Domain, ∃ s : State, 12 ≤ domNum d ∧ s.power.turningOn.contains (domNum d) = false) ∧
    (∃ d : Die, ∃ b : Fin 6, ∃ s : State, s.power.turningOff.contains (domNum (.bed d b)) = true ∧ s.domQuiet (domNum (.bed d b)) = true) ∧
    (∃ c : Core, ∃ s : State, s.power.turningOff.contains (12 + c.val) = true ∧ s.domQuiet (12 + c.val) = true) ∧
    (∃ n : Cam, ∃ s : State, s.power.turningOn.contains (20 + n.val) = true) ∧
    (∃ d : Die, ∃ s : State, s.power.turningOn.contains (6 * d.val) = true) ∧
    (∃ v : BitVec 16, ∃ n : Cam, ∃ s : State, s.canonical = true ∧ n.val < s.ident.camPorts ∧ v.toNat = s.regN aSupPwrCam - 2 ^ n.val ∧ bit (s.reg aSupPwrCam) n.val = true ∧ s.power.off = [] ∧ s.power.turningOff = [] ∧ s.regN aSupPwrCam < 2 ^ 16) ∧
    (∃ v : BitVec 4, ∃ p : Port, ∃ s : State, s.canonical = true ∧ p.val < s.ident.prmPorts ∧ v.toNat = s.regN aSupPwrPrm - 2 ^ p.val ∧ bit (s.reg aSupPwrPrm) p.val = true ∧ s.power.off = [] ∧ s.power.turningOff = [] ∧ s.regN aSupPwrPrm < 2 ^ 4) ∧
    (∃ v : BitVec 12, ∃ d : Die, ∃ b : Fin 6, ∃ s : State, s.canonical = true ∧ s.ident.dies = 2 ∧ v.toNat = s.regN aSupPwrBed - 2 ^ (6 * d.val + b.val) ∧ bit (s.reg aSupPwrBed) (6 * d.val + b.val) = true ∧ s.bedUsed (6 * d.val + b.val) = false ∧ s.power.off = [] ∧ s.power.turningOff = [] ∧ s.regN aSupPwrBed < 2 ^ 12) :=
  ⟨⟨0xFFF, w, by decide +kernel⟩,
   ⟨0xFFFF, w, by decide +kernel⟩,
   ⟨0xF, w, by decide +kernel⟩,
   ⟨(.core 1), w, by decide +kernel⟩,
   ⟨0, 3, w, by decide +kernel⟩,
   ⟨(.core 1), w, by decide +kernel⟩,
   ⟨0, 3, ({ powS (fun x => { x with turningOff := [3] }) w with tiles := [(800, Tile.blank)] }), by decide +kernel⟩,
   ⟨1, (powS (fun x => { x with turningOff := [13] }) w), by decide +kernel⟩,
   ⟨3, (powS (fun x => { x with off := [23], turningOn := [23] }) w), by decide +kernel⟩,
   ⟨1, (powS (fun x => { x with off := [6], turningOn := [6] }) w), by decide +kernel⟩,
   ⟨0xFFF7, 3, w, by decide +kernel⟩,
   ⟨0xD, 1, w, by decide +kernel⟩,
   ⟨0xF7F, 1, 1, w, by decide +kernel⟩⟩

/-- The hypotheses of `ContainmentEnds`. -/
theorem witness_ContainmentEnds :
    (∃ s : State, s.contain.active = true ∧ s.sup.t0 = none) ∧
    (∃ s : State, ((s.contain.active = false ∨ s.sup.t0 ≠ none))) ∧
    (∃ s : State, s.canonical = true ∧ bit (s.reg aContainStatus) 31 = true) ∧
    (∃ s : State, bit (s.reg aContainStatus) 31 = false) :=
  ⟨⟨({ w with contain := { w.contain with active := true } }), by decide +kernel⟩,
   ⟨w, by decide +kernel⟩,
   ⟨(rs w [(aContainStatus, 0x80000000)]), by decide +kernel⟩,
   ⟨w, by decide +kernel⟩⟩

/-- The hypotheses of `Fuses`. -/
theorem witness_Fuses :
    (∃ v : Word, ∃ s : State, fld v 16 16 = 0x5AFE ∧ ((fuseOp v = 1 ∨ fuseOp v = 2)) ∧ s.fuse.op = none ∧ s.fuse.cmdAt = none) ∧
    (∃ v : Word, ∃ u : Word, ∃ t0 : Nat, ∃ s : State, fld v 16 16 = 0x5AFE ∧ ((fuseOp v = 1 ∨ fuseOp v = 2)) ∧ s.fuse.op = none ∧ s.fuse.cmdAt = some (t0, u) ∧ ((u ≠ v ∨ t0 + msCk 1 < s.now))) ∧
    (∃ v : Word, ∃ s : State, ((fld v 16 16 ≠ 0x5AFE ∨ (fuseOp v ≠ 1 ∧ fuseOp v ≠ 2) ∨ s.fuse.op ≠ none))) ∧
    (∃ good : Bool, ∃ s : State, s.fuse.op = none) ∧
    (∃ v : Word, ∃ t0 : Nat, ∃ s : State, s.canonical = true ∧ fld v 16 16 = 0x5AFE ∧ ((fuseOp v = 1 ∨ fuseOp v = 2)) ∧ s.fuse.op = none ∧ s.fuse.cmdAt = some (t0, v) ∧ s.now ≤ t0 + msCk 1) ∧
    (∃ v : Word, ∃ good : Bool, ∃ s : State, s.canonical = true ∧ s.fuse.op = some v) :=
  ⟨⟨0x5AFE0101, w, by decide +kernel⟩,
   ⟨0x5AFE0101, 0x5AFE0201, 5, (fuseS (fun x => { x with cmdAt := some (5, 0x5AFE0201) }) w), by decide +kernel⟩,
   ⟨0x5AFE0301, w, by decide +kernel⟩,
   ⟨true, w, by decide +kernel⟩,
   ⟨0x5AFE0101, 5, ({ fuseS (fun x => { x with cmdAt := some (5, 0x5AFE0101) }) w with now := 1250005 }), by decide +kernel⟩,
   ⟨0x5AFE0101, true, (fuseS (fun x => { x with op := some 0x5AFE0101 }) w), by decide +kernel⟩⟩

/-- The hypotheses of `Resets`. -/
theorem witness_Resets :
    (∃ s : State, s.canonical = true) ∧
    (∃ w : BitVec 5, ∃ v : BitVec 3, ∃ s : State, s.canonical = true ∧ s.boot.step ≠ .held) ∧
    (∃ w : BitVec 5, ∃ v : BitVec 3, ∃ s : State, s.boot.step = .held) :=
  ⟨⟨(rs w [(aBelCtrl, 1)]), by decide +kernel⟩,
   ⟨16, 5, (bootS .started id w), by decide +kernel⟩,
   ⟨16, 5, (bootS .held id w), by decide +kernel⟩⟩

/-- The hypotheses of `BootSteps`. -/
theorem witness_BootSteps :
    (∃ src : BitVec 2, ∃ s : State, s.canonical = true ∧ s.boot.step = .held ∧ s.boot.tapHold = false ∧ src ≠ 3) ∧
    (∃ s : State, s.boot.step = .held ∧ s.boot.tapHold = false) ∧
    (∃ src : BitVec 2, ∃ s : State, (s.boot.tapHold = true ∨ s.boot.step ≠ .held)) ∧
    (∃ s : State, s.boot.step = .started ∧ s.ident.hasHbm = true) ∧
    (∃ f : BitVec 8, ∃ s : State, s.boot.step = .started ∧ s.ident.hasHbm = true ∧ f ≠ 0) ∧
    (∃ f : BitVec 8, ∃ len : BitVec 12, ∃ b : Bool, ∃ s : State, s.boot.step ≠ .started) ∧
    (∃ f : BitVec 8, ∃ s : State, s.ident.hasHbm = false) ∧
    (∃ len : BitVec 12, ∃ s : State, s.boot.step = .started ∧ s.boot.src = 1 ∧ s.boot.chunkEnd = false ∧ s.boot.bpb = []) ∧
    (∃ len : BitVec 12, ∃ s : State, s.boot.step = .started ∧ s.boot.src = 1 ∧ s.boot.chunkEnd = false ∧ s.boot.bpb ≠ []) ∧
    (∃ s : State, s.boot.step = .started ∧ s.boot.src ≠ 1 ∧ s.boot.bpbRead = false ∧ bpbGood (readBytes s.mem.spiNor 0 256) = true) ∧
    (∃ s : State, s.canonical = true ∧ s.boot.step = .started ∧ s.boot.bpbRead = false ∧ s.boot.src = 2) ∧
    (∃ s : State, s.canonical = true ∧ s.boot.step = .started ∧ s.boot.bpbRead = false ∧ s.boot.src = 0) ∧
    (∃ s : State, s.boot.step = .started ∧ s.boot.bpbRead = true ∧ s.boot.verified = false ∧ s.boot.src = 1 ∧ s.boot.chunkEnd = true ∧ s.packageGood s.boot.package = true) ∧
    (∃ s : State, s.boot.step = .started ∧ s.boot.bpbRead = true ∧ s.boot.verified = false ∧ s.boot.src = 1 ∧ s.boot.chunkEnd = true ∧ s.packageGood s.boot.package = false) ∧
    (∃ s : State, s.boot.step = .started ∧ s.boot.verified = true ∧ ((s.ident.hasHbm = false ∨ s.boot.trained = true))) ∧
    (∃ s : State, ((s.boot.verified = false ∨ (s.ident.hasHbm = true ∧ s.boot.trained = false)))) ∧
    (∃ s : State, s.boot.step = .running) ∧
    (∃ s : State, s.boot.step ≠ .running) ∧
    (∃ s : State, ((s.boot.step ≠ .published ∨ s.sup.t0 ≠ none))) ∧
    (∃ s : State, s.canonical = true ∧ s.boot.step = .published ∧ s.sup.t0 = none) :=
  ⟨⟨1, w, by decide +kernel⟩,
   ⟨w, by decide +kernel⟩,
   ⟨1, (bootS .held (fun b => { b with tapHold := true }) w), by decide +kernel⟩,
   ⟨(bootS .started id w), by decide +kernel⟩,
   ⟨3, (bootS .started id w), by decide +kernel⟩,
   ⟨3, 5, true, w, by decide +kernel⟩,
   ⟨3, ({ bootS .started id w with ident := { w.ident with part := 0x4060 } }), by decide +kernel⟩,
   ⟨4095, (bootS .started (fun b => { b with src := 1 }) w), by decide +kernel⟩,
   ⟨4095, (bootS .started (fun b => { b with src := 1, bpb := [1] }) w), by decide +kernel⟩,
   ⟨(bootS .started id { w with mem := { w.mem with spiNor := writeBytes [] 0 bpb0 } }), by decide +kernel⟩,
   ⟨(bootS .started (fun b => { b with src := 2 }) { w with mem := { w.mem with spiNor := writeBytes [] 0 bpb0 } }), by decide +kernel⟩,
   ⟨(bootS .started id w), by decide +kernel⟩,
   ⟨(bootV (List.replicate 128 0)), by decide +kernel⟩,
   ⟨(bootV []), by decide +kernel⟩,
   ⟨(bootS .started (fun b => { b with verified := true, trained := true }) w), by decide +kernel⟩,
   ⟨w, by decide +kernel⟩,
   ⟨(bootS .running id w), by decide +kernel⟩,
   ⟨w, by decide +kernel⟩,
   ⟨w, by decide +kernel⟩,
   ⟨(bootS .published id w), by decide +kernel⟩⟩

end P14

namespace P15
def pinS (f : PinState → PinState) (s : State) : State := { s with pins := f s.pins }

/-- The hypotheses of `PinsAndTestPort`. -/
theorem witness_PinsAndTestPort :
    (∃ k : Pin, ∃ v : Word, ∃ s : State, s.canonical = true ∧ s.pinPresent k.val = true ∧ s.pins.stopped = false ∧ fld v 0 3 < 6 ∧ ((v &&& 0x37 ≠ s.reg (aPinFunc k.val) ∨ s.pinSwitching k.val = true))) ∧
    (∃ k : Pin, ∃ v : Word, ∃ s : State, (6 ≤ fld v 0 3 ∨ s.pins.stopped = true ∨ s.pinPresent k.val = false ∨ (v &&& 0x37 = s.reg (aPinFunc k.val) ∧ s.pinSwitching k.val = false))) ∧
    (∃ k : Pin, ∃ s : State, ((∀ t0, Tab.at_ none s.pins.switching k.val = some t0 → s.now < t0 + 50))) ∧
    (∃ k : Pin, ∃ s : State, ∃ t0 : Nat, Tab.at_ none s.pins.switching k.val = some t0 ∧ t0 + 50 ≤ s.now) :=
  ⟨⟨3, 2, w, by decide +kernel⟩,
   ⟨3, 6, w, by decide +kernel⟩,
   ⟨3, w, by decide +kernel⟩,
   ⟨3, ({ pinS (fun x => { x with switching := [(3, some 0)] }) w with now := 50 }), 0, by decide +kernel⟩⟩

/-- The hypotheses of `TimeAndTemperature`. -/
theorem witness_TimeAndTemperature :
    (∃ s : State, (s.pins.ppsAt.any (fun t => decide (s.ptp.fifths / 5000000000 ≤ t))) = false) ∧
    (∃ locked : Bool, ∃ ns : Int, ∃ s : State, ns.natAbs ≤ 1000) ∧
    (∃ s : State, ((∃ t0, s.pins.ppsAt = some t0 ∧ s.ptp.fifths / 5000000000 ≤ t0))) ∧
    (∃ locked : Bool, ∃ ns : Int, ∃ s : State, 1000 < ns.natAbs) ∧
    (∃ n : Enc, ∃ b : Bool, ∃ s : State, s.ident.encoders ≤ n.val) ∧
    (∃ n : Enc, ∃ s : State, s.canonical = true ∧ n.val < s.ident.encoders) ∧
    (∃ i : Fin 4, ∃ v : BitVec 16, ∃ s : State, s.canonical = true ∧ diePresent s.ident i.val = true ∧ s.pins.alert = true) ∧
    (∃ i : Fin 4, ∃ v : BitVec 16, ∃ s : State, s.canonical = true ∧ diePresent s.ident i.val = true ∧ s.pins.alert = false ∧ s.thermWarn ≤ v.toInt) ∧
    (∃ s : State, ((∀ i t0, i < 4 → Tab.at_ none s.pins.hotSince i = some t0 → s.now < t0 + 1250000))) ∧
    (∃ i : Fin 4, ∃ v : BitVec 16, ∃ s : State, diePresent s.ident i.val = false) ∧
    (∃ i : Fin 4, ∃ s : State, ∃ t0 : Nat, Tab.at_ none s.pins.hotSince i.val = some t0 ∧ t0 + 1250000 ≤ s.now ∧ s.sup.t0 = none) :=
  ⟨⟨({ pinS (fun x => { x with func := [(3, 4)] }) w with ptp := { w.ptp with fifths := 5000000000 } }), by decide +kernel⟩,
   ⟨true, 1000, w, by decide +kernel⟩,
   ⟨(pinS (fun x => { x with func := [(3, 4)], ppsAt := some 0 }) w), by decide +kernel⟩,
   ⟨true, 1001, w, by decide +kernel⟩,
   ⟨2, true, ({ w with ident := { w.ident with part := 0x4060 } }), by decide +kernel⟩,
   ⟨0, w, by decide +kernel⟩,
   ⟨0, 900, (pinS (fun x => { x with alert := true }) w), by decide +kernel⟩,
   ⟨0, 0x7FFF, w, by decide +kernel⟩,
   ⟨w, fun _ _ _ h => nomatch h⟩,
   ⟨1, 900, ({ w with ident := { w.ident with part := 0x4060 } }), by decide +kernel⟩,
   ⟨0, ({ pinS (fun x => { x with hotSince := [(0, some 0)] }) w with now := 1250000 }), 0, by decide +kernel⟩⟩

end P15

namespace P99


/-- The hypotheses of `StepRunsFront`. -/
theorem witness_StepRunsFront :
    (∃ c : Instr, ∃ rest : List Instr, ∃ s : State, s.pending = c :: rest) :=
  ⟨.bypass, [], ({ w with pending := [.bypass] }), by decide +kernel⟩

/-- The hypotheses of `EveryStepCompletes`. -/
theorem witness_EveryStepCompletes :
    (∃ s : State, s.pending = []) ∧
    (∃ s : State, s.pending = [] ∧ s.canonical = true ∧ s.tiles = [] ∧ s.gth.cams = [] ∧ s.gth.out = [] ∧ s.ksk = [] ∧ s.hdg = [] ∧ s.lodge.tasks = [] ∧ s.bell.atEnd = false ∧ s.hold.frozen = false ∧ s.grp.running = false ∧ s.boot.step ≠ .ready) ∧
    (∃ s : State, s.pending = [] ∧ s.canonical = true ∧ s.tiles = [] ∧ s.gth.cams = [] ∧ s.gth.out = [] ∧ s.ksk = [] ∧ s.hdg = [] ∧ s.lodge.tasks = [] ∧ s.bell.atEnd = false ∧ s.hold.frozen = true ∧ s.grp.running = false ∧ s.boot.step ≠ .ready) :=
  ⟨⟨w, by decide +kernel⟩,
   ⟨(rs w [(aGkpCtrl, 0x80000000)]), by decide +kernel⟩,
   ⟨({ w with hold := { w.hold with frozen := true } }), by decide +kernel⟩⟩

end P99

/-- The hypotheses of `StepsKeepCanonical`. -/
theorem witness_StepsKeepCanonical :
    ∃ s t : State, s.canonical = true ∧ step s = .next t :=
  ⟨{ w with pending := [.perst, .bypass] }, _, by decide +kernel, rfl⟩

end Sys2Proof.Tests
end

section
/-!
PROOF. The BEL_ and LDG_ settings (01 R26, R29, R30, R56, R57, R81): what a write of each one stores, the range it is stored
in, and what else it changes.
-/
namespace Sys2Proof.Machine

section Lemmas
variable (s : State)

/-! ## Registers: reads after shared writes -/

theorem State.regN_setRegN_same (a v : Nat) (hs : s.canonical = true) (hv : v < 2 ^ 32) : (s.setRegN a v).regN a = v := by
  unfold State.regN State.setRegN
  rw [s.reg_setReg_same a _ (s.canonical_regs hs), BitVec.toNat_ofNat, Nat.mod_eq_of_lt hv]

theorem State.reg_setReg48_other (a b : Nat) (v : W48) (h : b ≠ a) (h4 : b ≠ a + 4) : (s.setReg48 a v).reg b = s.reg b :=
  (State.reg_setRegN_other _ _ _ _ h4).trans (s.reg_setRegN_other _ _ _ h)

theorem State.reg48_setRegN_other (a v b : Nat) (h : b ≠ a) (h4 : b + 4 ≠ a) : (s.setRegN a v).reg48 b = s.reg48 b := by
  unfold State.reg48 State.reg64
  rw [s.reg_setRegN_other a v b h, s.reg_setRegN_other a v (b + 4) h4]

theorem State.reg_maxReg_other (a v b : Nat) (h : b ≠ a) : (s.maxReg a v).reg b = s.reg b := by
  unfold State.maxReg
  split
  · exact s.reg_setRegN_other a _ b h
  · rfl

theorem State.regsBut_setReg (a : Nat) (v : Word) : RegsBut s (s.setReg a v) [a] := fun b hb =>
  s.reg_setReg_other a b v (by simpa using hb)

theorem State.regsBut_setBits (a : Nat) (m : Word) : RegsBut s (s.setBits a m) [a] := fun b hb =>
  s.reg_setBits_other a b m (by simpa using hb)

/-- A number stored in one register: it reads back, and nothing else changes. -/
theorem State.setRegN_stores (a v : Nat) (hs : s.canonical = true) (hv : v < 2 ^ 32) :
    s.setRegN a v = { s with regs := (s.setRegN a v).regs } ∧ (s.setRegN a v).regN a = v ∧ RegsBut s (s.setRegN a v) [a] :=
  ⟨rfl, s.regN_setRegN_same a v hs hv, s.regsBut_setReg a _⟩

/-! ## An error record leaves the registers below the MSI-X pending bits alone -/

theorem State.reg_msix_low (v b : Nat) (h : b < aMsixPba) : (s.msix v).reg b = s.reg b := by
  unfold State.msix
  split
  · exact s.reg_setBits_other _ b _ (by omega)
  · rfl

theorem State.reg_raiseErrNotice_low (b : Nat) (h : b < aMsixPba) : s.raiseErrNotice.reg b = s.reg b := by
  have hq : b ≠ aPq qError + 0x20 := ne_of_lt (h.trans (by decide))
  unfold State.raiseErrNotice
  dsimp only
  split
  · rfl
  · rw [State.reg_msix_low _ 0 b h, s.reg_setBits_other _ b _ hq]

theorem State.reg_emit_low (e : ErrInfo) (b : Nat) (h : b < aMsixPba) : (s.emit e).reg b = s.reg b := by
  have hhigh : b ≠ aPq qError + 0x2C := ne_of_lt (h.trans (by decide))
  have hlost : b ≠ aPq qError + 0x24 := ne_of_lt (h.trans (by decide))
  unfold State.emit
  extract_lets o r src p src2 s1 s2
  have h1 : s1.reg b = s.reg b := State.reg_maxReg_other _ _ _ b hhigh
  have h2 : s2.reg b = s.reg b := (s1.reg_count_other _ _ b hlost).trans h1
  generalize r.res = x
  cases x with
  | accepted => exact (s2.reg_raiseErrNotice_low b h).trans h2
  | held | refused | discarded => exact h2

theorem State.reg_badRecord_low (r : BandRec) (n b : Nat) (h : b < aMsixPba) : (s.badRecord r n).reg b = s.reg b := by
  unfold State.badRecord
  dsimp only
  split
  · rfl
  · exact s.reg_emit_low _ b h

theorem State.reg_badRecords_low (r : BandRec) (b : Nat) (h : b < aMsixPba) : (s.badRecords r).reg b = s.reg b := by
  unfold State.badRecords
  induction List.range s.ident.camPorts generalizing s with
  | nil => rfl
  | cons n ns ih => exact (ih _).trans (s.reg_badRecord_low r n b h)

/-- A discarded band moves BEL_LINE_NUM and BEL_BAND_NUM on, and no other register below the MSI-X pending bits. -/
theorem State.reg_cutAssembly_low (r : BandRec) (b : Nat) (h : b < aMsixPba)
    (hb : b ∉ [aBelLineNum, aBelLineNum + 4, aBelBandNum, aBelBandNum + 4]) : (s.cutAssembly r).reg b = s.reg b := by
  simp only [List.mem_cons, List.not_mem_nil, or_false, not_or] at hb
  obtain ⟨hl, hl4, hn, hn4⟩ := hb
  unfold State.cutAssembly
  dsimp only
  rw [State.reg_badRecords_low _ _ b h, State.reg_setReg48_other _ _ b _ hn hn4, State.reg_setReg48_other _ _ b _ hl hl4]
  rfl

/-! ## Encoder source, selection and direction (R30) -/

/-- BEL_CTRL with the fields of R30 replaced. -/
def sourceWord (old : Word) (src encSel : Nat) (dir : Bool) : Word :=
  setFld (setFld (setFld old 0 2 src) 4 2 encSel) 6 1 (b2n dir)

theorem fld_sourceWord_src (old : Word) (src encSel : Nat) (dir : Bool) :
    fld (sourceWord old src encSel dir) 0 2 = src % 2 ^ 2 := by
  unfold sourceWord
  rw [fld_setFld_other _ 6 1 _ 0 2 (by decide) (by decide), fld_setFld_other _ 4 2 _ 0 2 (by decide) (by decide),
    fld_setFld_same _ 0 2 src (by decide)]

theorem fld_sourceWord_encSel (old : Word) (src encSel : Nat) (dir : Bool) :
    fld (sourceWord old src encSel dir) 4 2 = encSel % 2 ^ 2 := by
  unfold sourceWord
  rw [fld_setFld_other _ 6 1 _ 4 2 (by decide) (by decide), fld_setFld_same _ 4 2 encSel (by decide)]

theorem bit_sourceWord_dir (old : Word) (src encSel : Nat) (dir : Bool) : bit (sourceWord old src encSel dir) 6 = dir := by
  unfold sourceWord
  rw [bit_setFld _ 6 1 _ 6 (by decide), if_pos (by decide)]
  cases dir <;> rfl

/-- With RUN 0, BEL_CTRL takes the new fields; at most the pending index comparison goes with them. -/
theorem State.writeSource_stopped (src encSel : Nat) (dir : Bool) (hs : s.canonical = true) (hrun : s.runBit = false) :
    s.writeSource src encSel dir =
        { s with regs := (s.writeSource src encSel dir).regs, bell := (s.writeSource src encSel dir).bell } ∧
      (s.writeSource src encSel dir).reg aBelCtrl = sourceWord (s.reg aBelCtrl) src encSel dir ∧
      (s.writeSource src encSel dir).bell.bands = s.bell.bands ∧ RegsBut s (s.writeSource src encSel dir) [aBelCtrl] := by
  have hreg := s.reg_setReg_same aBelCtrl (sourceWord (s.reg aBelCtrl) src encSel dir) (s.canonical_regs hs)
  unfold State.writeSource
  dsimp only
  split
  case isTrue hsame => exact ⟨rfl, hsame.symm, rfl, fun _ _ => rfl⟩
  case isFalse =>
    rw [if_neg (by simp [hrun])]
    split
    · exact ⟨rfl, hreg, rfl, s.regsBut_setReg aBelCtrl _⟩
    · exact ⟨rfl, hreg, rfl, s.regsBut_setReg aBelCtrl _⟩

/-- With RUN 1, a write of the fields of R30 at most sets CFG_IGNORED. -/
theorem State.writeSource_running (src encSel : Nat) (dir : Bool) (hrun : s.runBit = true) :
    s.writeSource src encSel dir = s ∨ s.writeSource src encSel dir = s.cfgIgnored := by
  unfold State.writeSource
  dsimp only
  split
  · exact .inl rfl
  · exact .inr rfl

/-! ## The reversal hysteresis (R56, R57) -/

theorem State.hwm_setRevHyst (v : Nat) : (s.setRegN aBelRevHyst v).hwm = s.hwm :=
  s.reg48_setRegN_other _ v _ (by decide) (by decide)

theorem State.srcSel_setRevHyst (v : Nat) : (s.setRegN aBelRevHyst v).srcSel = s.srcSel := by
  unfold State.srcSel
  rw [s.reg_setRegN_other aBelRevHyst v aBelCtrl (by decide)]

theorem State.posP_setRevHyst (v : Nat) : (s.setRegN aBelRevHyst v).posP = s.posP := by
  unfold State.posP State.encSel State.encPos
  rw [s.reg_setRegN_other aBelRevHyst v aBelCtrl (by decide)]
  exact s.reg48_setRegN_other _ v _ (by show 0x10050 + _ ≠ 0x10014; omega) (by show 0x10050 + _ + 4 ≠ 0x10014; omega)

theorem State.below_setRevHyst (v : Nat) : (s.setRegN aBelRevHyst v).below = s.below := by
  unfold State.below
  rw [s.hwm_setRevHyst, s.posP_setRevHyst]

theorem State.ticksAllowed_setRevHyst (v : Nat) : (s.setRegN aBelRevHyst v).ticksAllowed = s.ticksAllowed := by
  have hlines : (s.setRegN aBelRevHyst v).bandLines = s.bandLines :=
    congrArg BitVec.toNat (s.reg_setRegN_other aBelRevHyst v aBelBandLines (by decide))
  unfold State.ticksAllowed
  rw [hlines]
  rfl

theorem State.revHyst_setRevHyst (v : Nat) (hs : s.canonical = true) (h1 : 1 ≤ v) (hv : v ≤ 65535) :
    (s.setRegN aBelRevHyst v).revHyst = v := by
  unfold State.revHyst
  rw [s.regN_setRegN_same aBelRevHyst v hs (by omega)]
  omega

/-- What begins an episode (R56) once the hysteresis `v` is stored. -/
def State.meetsHyst (v : Nat) : Prop :=
  s.bell.reversal = none ∧ s.srcSel = 0 ∧ s.ticksAllowed = true ∧ w48le s.hwm s.posP = false ∧ v ≤ s.below

theorem State.reversalCheck_setRevHyst (v : Nat) (hs : s.canonical = true) (h1 : 1 ≤ v) (hv : v ≤ 65535) :
    (s.meetsHyst v → (s.setRegN aBelRevHyst v).reversalCheck = (s.setRegN aBelRevHyst v).beginReversal) ∧
    (¬ s.meetsHyst v → (s.setRegN aBelRevHyst v).reversalCheck = s.setRegN aBelRevHyst v) := by
  unfold State.reversalCheck State.meetsHyst
  simp only [s.srcSel_setRevHyst, s.ticksAllowed_setRevHyst, s.hwm_setRevHyst, s.posP_setRevHyst, s.below_setRevHyst,
    s.revHyst_setRevHyst v hs h1 hv, State.setRegN_bell, Bool.and_eq_true, Option.isNone_iff_eq_none, decide_eq_true_eq,
    Bool.not_eq_true', and_assoc]
  exact ⟨fun h => if_pos h, fun h => if_neg h⟩

/-- The drain does not begin while the stream runs. -/
theorem State.maybeDrain_running (h : s.bell.phase = .running) : s.maybeDrain = s := by
  unfold State.maybeDrain
  simp [h]

/-- Discarding the band in assembly keeps the phase of the stream and its reversal episode. -/
theorem State.cutAssembly_stream (r : BandRec) :
    (s.cutAssembly r).bell.phase = s.bell.phase ∧ (s.cutAssembly r).bell.reversal = s.bell.reversal := by
  unfold State.cutAssembly
  extract_lets n pos s1 s2
  rw [(State.badRecords_frame _ r).bell rfl]
  exact ⟨rfl, rfl⟩

/-- In a running stream an episode begins with the distance below H, is counted, and keeps BEL_REV_HYST. -/
theorem State.beginReversal_running (hs : s.canonical = true) (hrun : s.bell.phase = .running) :
    s.beginReversal.bell.reversal = some s.below ∧ s.beginReversal.reg aBelRevHyst = s.reg aBelRevHyst ∧
      s.beginReversal.reg aBelRevCount = satAdd (s.reg aBelRevCount) 1 := by
  unfold State.beginReversal
  extract_lets _ s1
  have hbell : s1.bell = { s.bell with reversal := some s.below } :=
    congrArg (fun b : BellState => { b with reversal := some s.below }) ((State.emit_frame _ _).bell rfl)
  have hhyst : s1.reg aBelRevHyst = s.reg aBelRevHyst :=
    (State.reg_emit_low _ _ aBelRevHyst (by decide)).trans (s.reg_count_other _ _ _ (by decide))
  have hcount : s1.reg aBelRevCount = satAdd (s.reg aBelRevCount) 1 :=
    (State.reg_emit_low _ _ aBelRevCount (by decide)).trans (s.reg_count_same _ 1 (s.canonical_regs hs))
  cases s1.assembling with
  | none => exact ⟨congrArg BellState.reversal hbell, hhyst, hcount⟩
  | some b =>
    obtain ⟨hphase, hrev⟩ := (s1.updBand b.num (fun r => { r with phase := .reversed })).cutAssembly_stream b
    have hphase1 : s1.bell.phase = .running := by rw [hbell]; exact hrun
    dsimp only
    rw [State.maybeDrain_running _ (hphase.trans hphase1)]
    refine ⟨hrev.trans (congrArg BellState.reversal hbell), ?_, ?_⟩
    · exact (State.reg_cutAssembly_low _ b _ (by decide) (by decide)).trans hhyst
    · exact (State.reg_cutAssembly_low _ b _ (by decide) (by decide)).trans hcount

/-! ## The commands -/

theorem State.exec_belCtrlConfigWrite (src sel : BitVec 2) (d : Bool) :
    exec (.belCtrlConfigWrite src sel d) s = .next (s.writeSource src.toNat sel.toNat d) := rfl
theorem State.exec_belEncDivWrite (v : Word) : exec (.belEncDivWrite v) s = .next (s.writeEncDiv v) := rfl
theorem State.exec_belRevHystWrite (v : Word) : exec (.belRevHystWrite v) s = .next (s.writeRevHyst v) := rfl
theorem State.exec_belTimerPeriodWrite (v : Word) : exec (.belTimerPeriodWrite v) s = .next (s.writeTimerPeriod v) := rfl
theorem State.exec_ldgCloseMsWrite (v : Word) : exec (.ldgCloseMsWrite v) s = .next (s.writeCloseMs v) := rfl

theorem State.does_belCtrlConfigWrite_stopped (src sel : BitVec 2) (d : Bool) (hs : s.canonical = true) (hrun : s.runBit = false) :
    Does (.belCtrlConfigWrite src sel d) s (fun t => t = { s with regs := t.regs, bell := t.bell } ∧
      t.srcSel = src.toNat ∧ t.encSel = sel.toNat ∧ t.encDir = d ∧ t.bell.bands = s.bell.bands ∧ RegsBut s t [aBelCtrl]) := by
  obtain ⟨hframe, hctrl, hbands, hregs⟩ := s.writeSource_stopped src.toNat sel.toNat d hs hrun
  refine ⟨_, s.exec_belCtrlConfigWrite src sel d, hframe, ?_, ?_, ?_, hbands, hregs⟩
  · rw [State.srcSel, hctrl, fld_sourceWord_src, Nat.mod_eq_of_lt src.isLt]
  · rw [State.encSel, hctrl, fld_sourceWord_encSel, Nat.mod_eq_of_lt sel.isLt]
  · rw [State.encDir, hctrl, bit_sourceWord_dir]

theorem State.does_belCtrlConfigWrite_running (src sel : BitVec 2) (d : Bool) (hrun : s.runBit = true) :
    Does (.belCtrlConfigWrite src sel d) s (fun t => t = { s with regs := t.regs, born := t.born } ∧
      RegsBut s t [aBelStatus]) := by
  refine ⟨_, s.exec_belCtrlConfigWrite src sel d, ?_⟩
  obtain h | h := s.writeSource_running src.toNat sel.toNat d hrun
  · rw [h]
    exact ⟨rfl, fun _ _ => rfl⟩
  · rw [h]
    exact ⟨rfl, s.regsBut_setBits aBelStatus 0x100⟩

theorem State.does_belRevHystWrite_quiet (v : Word) (hs : s.canonical = true)
    (hq : ¬ s.meetsHyst (max 1 (min 65535 v.toNat))) :
    Does (.belRevHystWrite v) s (fun t => t = { s with regs := t.regs } ∧
      t.regN aBelRevHyst = max 1 (min 65535 v.toNat) ∧ RegsBut s t [aBelRevHyst]) := by
  refine ⟨_, s.exec_belRevHystWrite v, ?_⟩
  rw [State.writeRevHyst, (s.reversalCheck_setRevHyst _ hs (by omega) (by omega)).2 hq]
  exact s.setRegN_stores aBelRevHyst _ hs (by omega)

theorem State.does_belRevHystWrite_begins (v : Word) (hs : s.canonical = true) (hrun : s.bell.phase = .running)
    (hm : s.meetsHyst (max 1 (min 65535 v.toNat))) :
    Does (.belRevHystWrite v) s (fun t => t.bell.reversal = some s.below ∧
      t.regN aBelRevHyst = max 1 (min 65535 v.toNat) ∧ t.reg aBelRevCount = satAdd (s.reg aBelRevCount) 1) := by
  have hcanon := (State.setRegN_frame s aBelRevHyst (max 1 (min 65535 v.toNat))).canonical hs
  obtain ⟨hrev, hhyst, hcount⟩ := State.beginReversal_running _ hcanon hrun
  refine ⟨_, s.exec_belRevHystWrite v, ?_⟩
  rw [State.writeRevHyst, (s.reversalCheck_setRevHyst _ hs (by omega) (by omega)).1 hm]
  refine ⟨hrev.trans (by rw [s.below_setRevHyst]), ?_, hcount.trans ?_⟩
  · rw [State.regN, hhyst]
    exact s.regN_setRegN_same aBelRevHyst _ hs (by omega)
  · rw [s.reg_setRegN_other _ _ _ (by decide)]

theorem State.does_belTimerPeriodWrite (v : Word) (hs : s.canonical = true) :
    Does (.belTimerPeriodWrite v) s (fun t => t = { s with regs := t.regs, bell := t.bell } ∧
      t.regN aBelTimerPeriod = max 1000 v.toNat ∧ t.bell.bands = s.bell.bands ∧ RegsBut s t [aBelTimerPeriod]) := by
  obtain ⟨-, hval, hregs⟩ := s.setRegN_stores aBelTimerPeriod (max 1000 v.toNat) hs (by have := v.isLt; omega)
  exact ⟨_, s.exec_belTimerPeriodWrite v, rfl, hval, rfl, hregs⟩

end Lemmas

/-- Settles O4, command by command: what a write stores, its range by arithmetic, the frame by the register written; a
lowered hysteresis begins a reversal episode exactly where P stands that far below H. -/
theorem bellSettings : Obligations.BellSettings := by
  unfold Obligations.BellSettings
  refine ⟨fun src sel d s => s.does_belCtrlConfigWrite_stopped src sel d,
    fun src sel d s _ => s.does_belCtrlConfigWrite_running src sel d, fun v s hs => ?encDiv, fun v s hs hq => ?quiet,
    fun v s hs hrev hsrc hrun hle hbelow => ?begins, fun v s => s.does_belTimerPeriodWrite v, fun v s hs => ?closeMs⟩
  case encDiv =>
    exact ⟨_, s.exec_belEncDivWrite v, s.setRegN_stores aBelEncDiv _ hs (by have := v.isLt; omega)⟩
  case quiet =>
    refine s.does_belRevHystWrite_quiet v hs fun ⟨hrev, hsrc, hticks, hle, hbelow⟩ => ?_
    obtain h | h | h | h | h := hq
    · simp [hrev] at h
    · exact h hsrc
    · simp [hticks] at h
    · simp [hle] at h
    · omega
  case begins =>
    have hticks : s.ticksAllowed = true := by simp [State.ticksAllowed, hrun]
    exact s.does_belRevHystWrite_begins v hs hrun ⟨hrev, hsrc, hticks, hle, hbelow⟩
  case closeMs =>
    exact ⟨_, s.exec_ldgCloseMsWrite v, s.setRegN_stores aLdgCloseMs _ hs (by omega)⟩

end Sys2Proof.Machine
end

section
/-!
PROOF. LOOP on a ready tile (03 R155): what its step leaves behind. A counter reads back what LOOP stores where the tile's
counter table is in canonical form; canonical states include tiles whose counter table is not, and there it need not.
-/
namespace Sys2Proof.Machine

section Lemmas
variable (s : State)

/-! ## Issue -/

/-- On a tile ready for `o`, the command that names `o` runs it: no guard, fault or other instruction comes first. -/
theorem State.issue_of_ready {k : Nat} {o : TOp} {mine : TOp → Bool} {run : TInst → State → State} {u : State}
    (h : ReadyFor s k o) (hmine : mine o = true) (hrun : ∀ gp gi, run ⟨0, gp, gi, o⟩ s = u) : s.issue k mine run = u := by
  obtain ⟨hissue, hpast, -, gp, gi, hdecode, hlegal⟩ := h
  have hunguarded : ((0 : BitVec 1) = 1) = False := by decide
  simp only [State.issue, hissue, hpast, hdecode, hlegal, hmine, hunguarded, hrun, decide_false, Bool.false_and,
    Bool.true_eq_false, Bool.false_eq_true, if_false]

theorem State.exec_tLoop_of_ready {t : TileLoc} {c : BitVec 2} {a : BitVec 8} (h : ReadyFor s t.key (.loop c a)) :
    exec (.tLoop t) s = .next (s.onTile t.key (fun x => x.loopStep c.toNat a)) :=
  congrArg Host.Outcome.next (s.issue_of_ready h rfl (fun _ _ => rfl))

/-! ## LOOP with a count left -/

theorem Tile.cnt_setCnt_same (x : Tile) (c : Nat) (v : Counter) (h : Tab.wf (fun _ => Counter.init) x.seq.cnt = true) :
    (x.setCnt c v).cnt c = v :=
  Tab.get_put_same _ _ c v h

theorem Tile.loopStep_of_count_left (x : Tile) (c : Nat) (a : BitVec 8) (h : 1 < (x.cnt c).cur) :
    x.loopStep c a = ((x.setCnt c ⟨(x.cnt c).limit, (x.cnt c).cur - 1⟩).jump a).spend 1 true :=
  if_pos (by omega)

/-- The fourth clause of `SequencerControl` where the counters of the tile are in canonical form. -/
theorem State.does_tLoop_of_count_left {t : TileLoc} {c : BitVec 2} {a : BitVec 8} (h : ReadyFor s t.key (.loop c a))
    (hcur : 1 < ((s.tile t.key).cnt c.toNat).cur)
    (hcnt : Tab.wf (fun _ => Counter.init) (s.tile t.key).seq.cnt = true) :
    Does (.tLoop t) s (fun u => u = { s with tiles := u.tiles } ∧ (s.canonical = true →
      (u.tile t.key).pc = a ∧
      (u.tile t.key).cnt c.toNat = ⟨((s.tile t.key).cnt c.toNat).limit, ((s.tile t.key).cnt c.toNat).cur - 1⟩ ∧
      (u.tile t.key).mem = (s.tile t.key).mem ∧ (u.tile t.key).io = (s.tile t.key).io)) := by
  refine ⟨_, s.exec_tLoop_of_ready h, rfl, fun hs => ?_⟩
  rw [State.onTile, s.tile_setTile_same _ _ (s.canonical_tile hs), Tile.loopStep_of_count_left _ _ _ hcur]
  exact ⟨rfl, (s.tile t.key).cnt_setCnt_same _ _ hcnt, rfl, rfl⟩

end Lemmas

/-! ## A counter table that lists a counter twice -/

/-- A tile at a LOOP of counter 0, whose table lists that counter twice: count 2 of limit 1, behind it 5 of 5. -/
def twiceListedTile : Tile :=
  { Tile.blank with
    cfg := some ⟨0, 0, [], [encodeTile ⟨0, 0, 0, .loop 0 0⟩], 0, [], 0, [], []⟩
    phase := .running
    seq := { SeqRegs.init with cnt := [(0, ⟨1, 2⟩), (0, ⟨5, 5⟩)] } }

/-- The machine after reset, with `twiceListedTile` as its tile 0. -/
def twiceListedState : State := { State.reset with tiles := [(0, twiceListedTile)] }

theorem twiceListedState_canonical : twiceListedState.canonical = true := by decide +kernel

theorem twiceListedState_ready : ReadyFor twiceListedState (TileLoc.key ⟨0, 0, 0⟩) (.loop 0 0) :=
  ⟨by decide +kernel, rfl, rfl, 0, 0, by decide +kernel, by decide +kernel⟩

/-- LOOP counts to 1 of 1, the value of a counter that is not listed: its first entry goes and the second one shows. -/
theorem twiceListedState_cnt_after_loop :
    ((twiceListedState.onTile 0 (fun x => x.loopStep 0 0)).tile 0).cnt 0 = ⟨5, 5⟩ := by decide +kernel

/-- Refutes O10, by its fourth clause: `State.canonical` asks nothing of a tile's counter table. In `twiceListedState`, which
is canonical, counter 0 is 2 of 1 before a LOOP and 5 of 5 after it, where the clause says 1 of 1. With the counter table in
canonical form too the clause holds: `State.does_tLoop_of_count_left`. -/
theorem not_sequencerControl : ¬ Obligations.SequencerControl := by
  unfold Obligations.SequencerControl
  intro ⟨_, _, _, hloop, _⟩
  obtain ⟨u, hexec, -, hu⟩ := hloop ⟨0, 0, 0⟩ 0 0 twiceListedState twiceListedState_ready (by decide +kernel)
  obtain ⟨-, hclaimed, -, -⟩ := hu twiceListedState_canonical
  have hnext : twiceListedState.onTile 0 (fun x => x.loopStep 0 0) = u :=
    Host.Outcome.next.inj ((twiceListedState.exec_tLoop_of_ready twiceListedState_ready).symm.trans hexec)
  subst hnext
  have hread : (⟨5, 5⟩ : Counter) = ⟨1, 1⟩ := twiceListedState_cnt_after_loop.symm.trans hclaimed
  exact absurd hread (by decide)

end Sys2Proof.Machine
end

section
/-!
PROOF. The doorbell window (12 R541, R549, R561, R570): a tail, a signal window, a tag to cancel. Each outcome is a branch of
its command; the registers that a rejected doorbell and the record of the first rejection change are apart from a ring's TAIL.
-/
namespace Sys2Proof.Machine

section Lemmas
variable (s : State)

/-! ## Registers that a chain of updates leaves alone -/

theorem RegsBut.trans {s t u : State} {l : List Nat} (hst : RegsBut s t l) (htu : RegsBut t u l) : RegsBut s u l := fun a ha =>
  (htu a ha).trans (hst a ha)

theorem RegsBut.mono {s t : State} {l m : List Nat} (h : RegsBut s t l) (hlm : l ⊆ m) : RegsBut s t m := fun a ha =>
  h a (fun hl => ha (hlm hl))

theorem State.regsBut_count (a n : Nat) : RegsBut s (s.count a n) [a] := fun b hb =>
  s.reg_count_other a n b (by simpa using hb)

theorem State.regsBut_maxReg (a v : Nat) : RegsBut s (s.maxReg a v) [a] := fun b hb =>
  s.reg_maxReg_other a v b (by simpa using hb)

theorem State.regsBut_msix (v : Nat) : RegsBut s (s.msix v) [aMsixPba + 4 * (v / 32)] := by
  unfold State.msix
  split
  · exact s.regsBut_setBits _ _
  · exact fun _ _ => rfl

/-! ## An error record (12 R564): its number, and the registers that it may change -/

/-- The registers that an error record may change: the error queue's status, lost count and high-water mark, and the pending
bits of its MSI-X vector. -/
def emitRegs : List Nat := [aMsixPba, aPq qError + 0x20, aPq qError + 0x24, aPq qError + 0x2C]

theorem State.regsBut_raiseErrNotice : RegsBut s s.raiseErrNotice emitRegs := by
  unfold State.raiseErrNotice
  dsimp only
  split
  · exact fun _ _ => rfl
  · exact ((s.regsBut_setBits _ _).mono (by decide)).trans ((State.regsBut_msix _ 0).mono (by decide))

theorem State.regsBut_emit (e : ErrInfo) : RegsBut s (s.emit e) emitRegs := by
  unfold State.emit
  extract_lets o r src p src2 s1 s2
  have h1 : RegsBut s s1 emitRegs := (State.regsBut_maxReg _ (aPq qError + 0x2C) _).mono (by decide)
  have h2 : RegsBut s s2 emitRegs := h1.trans ((s1.regsBut_count (aPq qError + 0x24) _).mono (by decide))
  generalize r.res = x
  cases x with
  | accepted => exact h2.trans s2.regsBut_raiseErrNotice
  | held | refused | discarded => exact h2

theorem State.emit_errSeq (e : ErrInfo) : (s.emit e).errSeq = (s.errSeq + 1) % 65536 := by
  unfold State.emit
  extract_lets o r src p src2 s1 s2
  generalize r.res = x
  cases x with
  | accepted => exact s2.raiseErrNotice_frame.errSeq (by decide)
  | held | refused | discarded => rfl

/-- The blocks of the contexts lie between the MSI-X bits and the error queue. -/
theorem ctxBlock_notMem_emitRegs (c : Ctx) {a : Nat} (hlo : aCtx c.val ≤ a) (hhi : a < aCtx c.val + 0x400) : a ∉ emitRegs := by
  have hpq : 0x30000 ≤ aPq qError := by decide
  simp only [emitRegs, aMsixPba, aCtx, List.mem_cons, List.not_mem_nil, or_false, not_or] at hlo hhi ⊢
  omega

theorem State.ringTail_emit (e : ErrInfo) (c : Ctx) (r : Ring) : (s.emit e).ringTail c.val r.val = s.ringTail c.val r.val :=
  congrArg BitVec.toNat (s.regsBut_emit e _ (ctxBlock_notMem_emitRegs c (by simp only [aCtxRing]; omega)
    (by simp only [aCtxRing]; omega)))

theorem State.reg_dbReject_emit (e : ErrInfo) (c : Ctx) : (s.emit e).reg (aCtxDbReject c.val) = s.reg (aCtxDbReject c.val) :=
  s.regsBut_emit e _ (ctxBlock_notMem_emitRegs c (by simp only [aCtxDbReject]; omega) (by simp only [aCtxDbReject]; omega))

/-! ## A rejected doorbell counts, and no more (R549, R570) -/

theorem State.reg_dbReject_same (c : Nat) (hs : s.canonical = true) :
    (s.dbReject c).reg (aCtxDbReject c) = satAdd (s.reg (aCtxDbReject c)) 1 :=
  s.reg_count_same _ 1 (s.canonical_regs hs)

theorem State.regsBut_dbReject (c : Nat) : RegsBut s (s.dbReject c) [aCtxDbReject c] := s.regsBut_count _ 1

/-- CTX_DB_REJECT is no register of a ring. -/
theorem State.ringTail_dbReject (c r : Nat) : (s.dbReject c).ringTail c r = s.ringTail c r :=
  congrArg BitVec.toNat (s.regsBut_dbReject c _ (by simp only [aCtxRing, aCtxDbReject, List.mem_singleton]; omega))

theorem State.dbReject_counts (c : Nat) (hs : s.canonical = true) :
    s.dbReject c = { s with regs := (s.dbReject c).regs, born := (s.dbReject c).born } ∧
    (s.dbReject c).reg (aCtxDbReject c) = satAdd (s.reg (aCtxDbReject c)) 1 ∧ RegsBut s (s.dbReject c) [aCtxDbReject c] :=
  ⟨rfl, s.reg_dbReject_same c hs, s.regsBut_dbReject c⟩

/-! ## DB_TAIL (R549) -/

theorem State.exec_dbTail (c : Ctx) (r : Ring) (v : Word) : exec (.dbTail c r v) s = .next (s.doorbell c.val r.val v) := rfl

theorem State.doorbell_destroying {c : Nat} (r : Nat) (v : Word) (hd : s.destroying c = true) : s.doorbell c r v = s.dbReject c :=
  if_pos hd

theorem State.doorbell_accepted {c r : Nat} {v : Word} (hd : s.destroying c = false)
    (hfit : ringUsed v.toNat (s.ringTail c r) ≤ s.ringCredit c r) :
    s.doorbell c r v = (s.noteRang c r).setReg (aCtxRing c r + 0x10) v := by
  rw [State.doorbell, hd, if_neg Bool.false_ne_true, if_pos hfit]

theorem State.doorbell_rejected {c r : Nat} {v : Word} (hd : s.destroying c = false)
    (hover : s.ringCredit c r < ringUsed v.toNat (s.ringTail c r)) :
    s.doorbell c r v = if s.reg (aCtxDbReject c) ≠ 0 then s.dbReject c
      else (s.dbReject c).emit { err 0x0706 with ctx := c, loc := ringLoc, d0 := r } := by
  rw [State.doorbell, hd, if_neg Bool.false_ne_true, if_neg (Nat.not_le.2 hover)]

/-- Only the note of the doorbell (R575) changes in the context. -/
theorem State.noteRang_entries (c r : Nat) (hs : s.canonical = true) : ((s.noteRang c r).ctx c).entries = (s.ctx c).entries := by
  rw [State.noteRang, s.ctx_setCtx_same c _ (s.canonical_ctx hs)]

theorem State.does_dbTail_accepted (c : Ctx) (r : Ring) (v : Word) (hs : s.canonical = true) (hd : s.destroying c.val = false)
    (hfit : ringUsed v.toNat (s.ringTail c.val r.val) ≤ s.ringCredit c.val r.val) :
    Does (.dbTail c r v) s (fun t => t = { s with regs := t.regs, ctxs := t.ctxs } ∧ t.ringTail c.val r.val = v.toNat ∧
      (t.ctx c.val).entries = (s.ctx c.val).entries ∧ (∀ d, d ≠ c.val → t.ctx d = s.ctx d) ∧
      RegsBut s t [aCtxRing c.val r.val + 0x10]) := by
  refine ⟨_, (s.exec_dbTail c r v).trans (congrArg _ (s.doorbell_accepted hd hfit)), rfl, ?_, s.noteRang_entries _ _ hs,
    fun d hdc => s.ctx_setCtx_other _ d _ hdc, (s.noteRang c.val r.val).regsBut_setReg _ v⟩
  exact congrArg BitVec.toNat ((s.noteRang c.val r.val).reg_setReg_same _ v (s.canonical_regs hs))

theorem State.does_dbTail_rejected (c : Ctx) (r : Ring) (v : Word) (hs : s.canonical = true) (hd : s.destroying c.val = false)
    (hover : s.ringCredit c.val r.val < ringUsed v.toNat (s.ringTail c.val r.val)) (hcount : s.reg (aCtxDbReject c.val) ≠ 0) :
    Does (.dbTail c r v) s (fun t => t = { s with regs := t.regs, born := t.born } ∧
      t.ringTail c.val r.val = s.ringTail c.val r.val ∧
      t.reg (aCtxDbReject c.val) = satAdd (s.reg (aCtxDbReject c.val)) 1 ∧ RegsBut s t [aCtxDbReject c.val]) := by
  have hdb := (s.doorbell_rejected hd hover).trans (if_pos hcount)
  exact ⟨_, (s.exec_dbTail c r v).trans (congrArg _ hdb), rfl, s.ringTail_dbReject _ _, (s.dbReject_counts _ hs).2⟩

/-- The first rejection emits a record, whose registers hold neither the count nor TAIL. -/
theorem State.does_dbTail_first_rejected (c : Ctx) (r : Ring) (v : Word) (hs : s.canonical = true)
    (hd : s.destroying c.val = false) (hover : s.ringCredit c.val r.val < ringUsed v.toNat (s.ringTail c.val r.val))
    (hcount : s.reg (aCtxDbReject c.val) = 0) :
    Does (.dbTail c r v) s (fun t => t.ringTail c.val r.val = s.ringTail c.val r.val ∧ t.reg (aCtxDbReject c.val) = 1 ∧
      t.errSeq = (s.errSeq + 1) % 65536 ∧ t.ctxs = s.ctxs) := by
  have hdb := (s.doorbell_rejected hd hover).trans (if_neg (not_not.2 hcount))
  refine ⟨_, (s.exec_dbTail c r v).trans (congrArg _ hdb), ?_, ?_, State.emit_errSeq _ _, (State.emit_frame _ _).ctxs (by decide)⟩
  · rw [State.ringTail_emit, State.ringTail_dbReject]
  · rw [State.reg_dbReject_emit, s.reg_dbReject_same _ hs, hcount]
    rfl

/-! ## CANCEL_TAG (R561) -/

theorem State.exec_dbCancelTag_destroying {c : Ctx} (tag : Word) (hd : s.destroying c.val = true) :
    exec (.dbCancelTag c tag) s = .next (s.dbReject c.val) :=
  congrArg Host.Outcome.next (if_pos hd)

theorem State.exec_dbCancelTag_live {c : Ctx} (tag : Word) (hd : s.destroying c.val = false) :
    exec (.dbCancelTag c tag) s = .next (s.cancelWhere c.val (fun e => eTag e.words == tag)) :=
  congrArg Host.Outcome.next (if_neg (by simp [hd]))

theorem State.cancelWhere_none {c : Nat} {p : REntry → Bool} (h : ∀ e ∈ (s.ctx c).entries, ¬ p e = true) :
    s.cancelWhere c p = s := by
  rw [State.cancelWhere, List.filter_eq_nil_iff.2 h, List.foldl_nil]

theorem State.cancelWhere_only {c : Nat} {p : REntry → Bool} {e : REntry} (h : (s.ctx c).entries = [e]) (hp : p e = true) :
    s.cancelWhere c p = s.cancelEntry c e := by
  rw [State.cancelWhere, h, List.filter_singleton, hp, cond_true, List.foldl_cons, List.foldl_nil]

theorem State.exec_dbCancelTag_only {c : Ctx} {e : REntry} (hd : s.destroying c.val = false)
    (he : (s.ctx c.val).entries = [e]) : exec (.dbCancelTag c (eTag e.words)) s = .next (s.cancelEntry c.val e) :=
  (s.exec_dbCancelTag_live _ hd).trans (congrArg _ (s.cancelWhere_only he (beq_self_eq_true _)))

theorem State.cancelEntry_unstarted (c : Nat) {e : REntry} (h : e.phase = .fetched ∨ e.phase = .waiting) :
    s.cancelEntry c e = s.updEntry c e.ring e.index (fun x => x.done 5 0x0703) := by
  obtain h | h := h <;> rw [State.cancelEntry, h]

theorem State.cancelEntry_running {c k : Nat} {e : REntry} (h : e.phase = .running)
    (hk : s.liveTasks.find? (fun k => (s.task k).origin == some (c, e.ring, e.index.toNat)) = some k) :
    s.cancelEntry c e = s.cancelTask k false := by
  rw [State.cancelEntry, h]
  dsimp only
  rw [hk]

theorem State.entries_updEntry_only {c : Nat} {e : REntry} (f : REntry → REntry) (hs : s.canonical = true)
    (he : (s.ctx c).entries = [e]) : ((s.updEntry c e.ring e.index f).ctx c).entries = [f e] := by
  rw [State.updEntry, s.ctx_setCtx_same _ _ (s.canonical_ctx hs), he]
  simp

theorem State.does_dbCancelTag_unstarted (c : Ctx) (e : REntry) (hs : s.canonical = true) (hd : s.destroying c.val = false)
    (he : (s.ctx c.val).entries = [e]) (hphase : e.phase = .fetched ∨ e.phase = .waiting) :
    Does (.dbCancelTag c (eTag e.words)) s (fun t => t = { s with ctxs := t.ctxs } ∧
      (t.ctx c.val).entries = [{ e with phase := .ready, state := 5, code := 0x0703 }]) :=
  ⟨_, (s.exec_dbCancelTag_only hd he).trans (congrArg _ (s.cancelEntry_unstarted c.val hphase)), rfl,
    s.entries_updEntry_only _ hs he⟩

/-! ## SIGWIN (R541) -/

theorem State.exec_sigwinWrite_rejected {c : Ctx} {o : SigIx} (n : BitVec 16)
    (h : s.destroying c.val = true ∨ s.ownsSig c.val o.val = false) :
    exec (.sigwinWrite c o n) s = .next (s.dbReject c.val) :=
  congrArg Host.Outcome.next (if_pos (by simpa using h))

theorem State.exec_sigwinWrite_owned {c : Ctx} {o : SigIx} (n : BitVec 16) (hd : s.destroying c.val = false)
    (ho : s.ownsSig c.val o.val = true) : exec (.sigwinWrite c o n) s = .next (s.signal o.val n.toNat) :=
  congrArg Host.Outcome.next (if_neg (by simp [hd, ho]))

theorem State.exec_sigwinRead_foreign {c : Ctx} {o : SigIx} (ho : s.ownsSig c.val o.val = false) :
    exec (.sigwinRead c o) s = .next ((s.dbReject c.val).answer 0 0) :=
  congrArg Host.Outcome.next (if_pos (by simp [ho]))

theorem State.exec_sigwinRead_owned {c : Ctx} {o : SigIx} (hd : s.destroying c.val = false)
    (ho : s.ownsSig c.val o.val = true) : exec (.sigwinRead c o) s = .next (s.tryWait o.val) :=
  congrArg Host.Outcome.next (if_neg (by simp [hd, ho]))

theorem State.exec_sigSignal (o : SigIx) (n : BitVec 16) : exec (.sigSignal o n) s = .next (s.signal o.val n.toNat) := rfl
theorem State.exec_sigTrywait (o : SigIx) : exec (.sigTrywait o) s = .next (s.tryWait o.val) := rfl

/-- A wait answers 1 where it took a count, else 0. -/
theorem State.tryWait_readValue (o : Nat) : (s.tryWait o).readValue = 0 ∨ (s.tryWait o).readValue = 1 := by
  unfold State.tryWait
  cases h : (s.hostWait o).2 with
  | false => exact .inl (by simp [h])
  | true => exact .inr (by simp [h])

theorem State.does_sigwinWrite_foreign {c : Ctx} {o : SigIx} (n : BitVec 16) (hs : s.canonical = true)
    (ho : s.ownsSig c.val o.val = false) :
    Does (.sigwinWrite c o n) s (fun t => t = { s with regs := t.regs, born := t.born } ∧
      t.reg (aCtxDbReject c.val) = satAdd (s.reg (aCtxDbReject c.val)) 1 ∧ RegsBut s t [aCtxDbReject c.val]) :=
  ⟨_, s.exec_sigwinWrite_rejected n (.inr ho), s.dbReject_counts c.val hs⟩

theorem State.does_sigwinRead_foreign {c : Ctx} {o : SigIx} (hs : s.canonical = true) (ho : s.ownsSig c.val o.val = false) :
    Does (.sigwinRead c o) s (fun t => t = { s with regs := t.regs, born := t.born, readValue := 0, readStatus := 0 } ∧
      t.reg (aCtxDbReject c.val) = satAdd (s.reg (aCtxDbReject c.val)) 1 ∧ RegsBut s t [aCtxDbReject c.val]) :=
  ⟨_, s.exec_sigwinRead_foreign ho, rfl, s.reg_dbReject_same c.val hs, s.regsBut_dbReject c.val⟩

end Lemmas

/-- Settles O40, command by command: each clause is the branch of its command that the hypotheses choose; the registers that
a rejection and its record change are apart from TAIL. -/
theorem doorbells : Obligations.Doorbells := by
  unfold Obligations.Doorbells
  refine ⟨fun c r v s => s.does_dbTail_accepted c r v, fun c r v s => s.does_dbTail_rejected c r v,
    fun c r v s => s.does_dbTail_first_rejected c r v, fun c r v o n tag s hd => ?destroying, fun c tag s hd hne => ?noEntry,
    fun c e s => s.does_dbCancelTag_unstarted c e, fun c e k s hd he hrun hk => ?running, fun c o n s hd ho => ?owned,
    fun c o n s hs ho => ⟨s.does_sigwinWrite_foreign n hs ho, s.does_sigwinRead_foreign hs ho⟩⟩
  case destroying =>
    exact ⟨(s.exec_dbTail c r v).trans (congrArg _ (s.doorbell_destroying _ _ hd)), s.exec_sigwinWrite_rejected n (.inl hd),
      s.exec_dbCancelTag_destroying tag hd⟩
  case noEntry =>
    have hnone : s.cancelWhere c.val (fun e => eTag e.words == tag) = s := s.cancelWhere_none fun e he => by simp [hne e he]
    exact (s.exec_dbCancelTag_live tag hd).trans (congrArg _ hnone)
  case running =>
    exact (s.exec_dbCancelTag_only hd he).trans (congrArg _ (s.cancelEntry_running hrun hk))
  case owned =>
    exact ⟨s.exec_sigwinWrite_owned n hd ho, s.exec_sigwinRead_owned hd ho, s.exec_sigSignal o n, s.exec_sigTrywait o,
      s.tryWait_readValue o.val⟩

end Sys2Proof.Machine
end

section
/-!
PROOF. The supply sentinel's settings and samples (14 R624–R627, R630, R633, R639). A sample first stores what it measured
(`State.noteSample`); then it leaves the device as it is, begins a warning, or begins the orderly stop.
-/
namespace Sys2Proof.Machine

section Lemmas
variable (s : State)

/-! ## Registers -/

theorem State.regsBut_minReg (a v : Nat) : RegsBut s (s.minReg a v) [a] := by
  unfold State.minReg
  split
  · exact s.regsBut_setReg a _
  · exact fun _ _ => rfl

theorem State.regsOnly_trans {s t u : State} (hst : t = { s with regs := t.regs }) (htu : u = { t with regs := u.regs }) :
    u = { s with regs := u.regs } :=
  htu.trans (congrArg (fun x : State => { x with regs := u.regs }) hst)

/-- Tracking a smallest value changes registers only. -/
theorem State.minReg_regs (a v : Nat) : s.minReg a v = { s with regs := (s.minReg a v).regs } := by
  unfold State.minReg
  split <;> rfl

/-- No register of a sentinel but its first is a SUP_STATUS. -/
theorem aSup_add_ne {o : Nat} (h k : Nat) (hpos : 0 < o) (ho : o < 0x400) : aSup h + o ≠ aSup k := by
  simp only [aSup]
  omega

/-! ## SUP_STATUS.STATE of the present hubs (R629) -/

/-- `State.setSupState` for one hub. -/
def State.putSupState (v : Nat) (s : State) (k : Nat) : State := s.setReg (aSup k) (setFld (s.reg (aSup k)) 28 4 v)

theorem State.setSupState_eq_foldl (v : Nat) : s.setSupState v = (List.range s.ident.hubs).foldl (State.putSupState v) s := rfl

theorem State.canonical_foldl_putSupState (v : Nat) (l : List Nat) (hs : s.canonical = true) :
    (l.foldl (State.putSupState v) s).canonical = true :=
  (Frame.foldl 16 s (State.putSupState v) l s (Frame.refl 16 s) (fun _ _ h => State.setReg_step _ _ _ _ _ h rfl)).canonical hs

theorem State.fld_foldl_putSupState (v : Nat) {k n : Nat} (hs : s.canonical = true) (hk : k < n) :
    fld (((List.range n).foldl (State.putSupState v) s).reg (aSup k)) 28 4 = v % 2 ^ 4 := by
  induction n with
  | zero => exact absurd hk (Nat.not_lt_zero k)
  | succ n ih =>
    rw [List.range_succ, List.foldl_append, List.foldl_cons, List.foldl_nil, State.putSupState]
    obtain hlt | rfl := Nat.lt_succ_iff_lt_or_eq.1 hk
    · rw [State.reg_setReg_other _ _ _ _ (by simp only [aSup]; omega), ih hlt]
    · rw [State.reg_setReg_same _ _ _ (State.canonical_regs _ (s.canonical_foldl_putSupState v _ hs)),
        fld_setFld_same _ 28 4 v (by decide)]

theorem State.fld_setSupState (v : Nat) {h : Nat} (hs : s.canonical = true) (hh : h < s.ident.hubs) :
    fld ((s.setSupState v).reg (aSup h)) 28 4 = v % 2 ^ 4 :=
  s.fld_foldl_putSupState v hs hh

theorem State.reg_setSupState_other (v a : Nat) (h : ∀ k, a ≠ aSup k) : (s.setSupState v).reg a = s.reg a := by
  rw [s.setSupState_eq_foldl]
  exact List.foldlRecOn _ _ (motive := fun t : State => t.reg a = s.reg a) rfl
    (fun t ht k _ => (t.reg_setReg_other _ a _ (h k)).trans ht)

/-- The registers of the two hubs' sentinels lie below those that an error record may change. -/
theorem State.reg_aSup_emit (e : ErrInfo) {h o : Nat} (hh : h < 2) (ho : o < 0x400) :
    (s.emit e).reg (aSup h + o) = s.reg (aSup h + o) :=
  s.reg_emit_low e _ (by simp only [aSup, aMsixPba]; omega)

/-! ## What a sample stores (R624, R625) -/

/-- The codes of both inputs and the smallest codes so far. -/
def State.storeCodes (s : State) (h a b : Nat) : State :=
  (((s.setRegN (aSup h + 4) a).setRegN (aSup h + 8) b).minReg (aSup h + 0xC) a).minReg (aSup h + 0x10) b

theorem State.storeCodes_regs (h a b : Nat) : s.storeCodes h a b = { s with regs := (s.storeCodes h a b).regs } := by
  have hcodes : (s.setRegN (aSup h + 4) a).setRegN (aSup h + 8) b =
      { s with regs := ((s.setRegN (aSup h + 4) a).setRegN (aSup h + 8) b).regs } := rfl
  exact State.regsOnly_trans (State.regsOnly_trans hcodes (State.minReg_regs _ _ a)) (State.minReg_regs _ _ b)

theorem State.storeCodes_frame (h a b : Nat) : Frame 16 s (s.storeCodes h a b) :=
  State.minReg_step _ _ _ _ _ (State.minReg_step _ _ _ _ _ (State.setRegN_step _ _ _ _ _ (s.setRegN_frame _ a) rfl) rfl) rfl

/-- The smallest codes stand in other registers than the codes. -/
theorem State.reg_storeCodes_of_lt (h a b : Nat) {o : Nat} (ho : o < 0xC) :
    (s.storeCodes h a b).reg (aSup h + o) = ((s.setRegN (aSup h + 4) a).setRegN (aSup h + 8) b).reg (aSup h + o) :=
  (State.regsBut_minReg _ _ b _ (by simp; omega)).trans (State.regsBut_minReg _ _ a _ (by simp; omega))

theorem State.regN_storeCodes_a (h a b : Nat) (hs : s.canonical = true) (ha : a < 2 ^ 32) :
    (s.storeCodes h a b).regN (aSup h + 4) = a := by
  rw [State.regN, s.reg_storeCodes_of_lt h a b (by decide), State.reg_setRegN_other _ _ _ _ (by omega)]
  exact s.regN_setRegN_same _ a hs ha

theorem State.regN_storeCodes_b (h a b : Nat) (hs : s.canonical = true) (hb : b < 2 ^ 32) :
    (s.storeCodes h a b).regN (aSup h + 8) = b := by
  rw [State.regN, s.reg_storeCodes_of_lt h a b (by decide)]
  exact State.regN_setRegN_same _ _ b ((State.setRegN_frame s (aSup h + 4) a).canonical hs) hb

theorem vsenseCode_lt (u : Nat) : vsenseCode u < 2 ^ 32 := by
  unfold vsenseCode
  omega

/-- What a sample of `ua` and `ub` makes of hub `h`'s sentinel. -/
def State.sampledSent (s : State) (h ua ub : Nat) : SentState :=
  (s.sent h).sampled_ (s.levels h) (vsenseCode ua) (vsenseCode ub) (s.supFilt h)
    (fld (s.reg (aSup h + 0x24)) 0 12) (fld (s.reg (aSup h + 0x2C)) 0 12) s.now

/-- SUP_STATUS bits whose cause a sample ends: an open input that no longer is, and a mismatch. -/
def SentState.endedBits (x : SentState) (a b : Nat) : Word :=
  (if isOpen a then 0#32 else 2#32) ||| (if isOpen b then 0#32 else 4#32) ||| (if x.diffSince.isSome then 0#32 else 8#32)

/-- A sample up to the question whether the sentinel warns or fails. -/
def State.noteSample (s : State) (h ua ub : Nat) : State :=
  ((s.storeCodes h (vsenseCode ua) (vsenseCode ub)).setSent h (s.sampledSent h ua ub)).clrBits (aSup h)
    ((s.sampledSent h ua ub).endedBits (vsenseCode ua) (vsenseCode ub))

/-- The frame of `State.noteSample`: bits 4 and 28, for `regs` and `sup`. -/
theorem State.noteSample_frame (h ua ub : Nat) : Frame 268435472 s (s.noteSample h ua ub) :=
  have hstored : Frame 268435472 s (s.storeCodes h (vsenseCode ua) (vsenseCode ub)) :=
    Frame.step _ _ _ _ _ (Frame.refl _ s) (s.storeCodes_frame h _ _) rfl
  State.clrBits_step _ _ _ _ _ (State.setSent_step _ _ _ _ _ hstored rfl) rfl

theorem State.noteSample_regs_sup (h ua ub : Nat) :
    s.noteSample h ua ub = { s with regs := (s.noteSample h ua ub).regs, sup := (s.noteSample h ua ub).sup } := by
  have ht := s.storeCodes_regs h (vsenseCode ua) (vsenseCode ub)
  unfold State.noteSample
  generalize s.storeCodes h (vsenseCode ua) (vsenseCode ub) = t at ht ⊢
  generalize hu : (t.setSent h _).clrBits (aSup h) _ = u
  have hut : u = { t with regs := u.regs, sup := u.sup } := by rw [← hu]; rfl
  exact hut.trans (congrArg (fun x : State => { x with regs := u.regs, sup := u.sup }) ht)

theorem State.noteSample_sup (h ua ub : Nat) :
    (s.noteSample h ua ub).sup = { s.sup with sent := (s.noteSample h ua ub).sup.sent } :=
  congrArg (fun x : SupState => { x with sent := (s.noteSample h ua ub).sup.sent })
    ((s.storeCodes_frame h (vsenseCode ua) (vsenseCode ub)).sup rfl)

theorem State.sent_noteSample (h ua ub : Nat) (hs : s.canonical = true) :
    (s.noteSample h ua ub).sent h = s.sampledSent h ua ub := by
  rw [State.noteSample, State.clrBits_sent_frame]
  exact State.sent_setSent_same _ h _ (State.canonical_sent _ ((s.storeCodes_frame h _ _).canonical hs))

/-- Of the registers of hub `h` past SUP_STATUS, the sample writes the codes and the smallest codes. -/
theorem State.reg_noteSample (h ua ub : Nat) {o : Nat} (ho : o ≠ 0) :
    (s.noteSample h ua ub).reg (aSup h + o) = (s.storeCodes h (vsenseCode ua) (vsenseCode ub)).reg (aSup h + o) := by
  rw [State.noteSample, State.reg_clrBits_other _ _ _ _ (by omega), State.setSent_reg_frame]

theorem State.reg_noteSample_other (h ua ub : Nat) {o : Nat} (ho : 0x10 < o) :
    (s.noteSample h ua ub).reg (aSup h + o) = s.reg (aSup h + o) := by
  rw [s.reg_noteSample h ua ub (by omega), State.storeCodes, State.regsBut_minReg _ _ _ _ (by simp; omega),
    State.regsBut_minReg _ _ _ _ (by simp; omega), State.reg_setRegN_other _ _ _ _ (by omega),
    s.reg_setRegN_other _ _ _ (by omega)]

/-! ## The orderly stop and the warning -/

/-- The first cause of a stop sets its time and code (R632); nothing after that changes the sentinel's state. -/
theorem State.orderlyStop_sup (code bits_ h : Nat) (ht0 : s.sup.t0 = none) :
    (s.orderlyStop code bits_ h).sup =
      { s.sup with
        t0 := some s.now
        cause := s.sup.cause ||| BitVec.ofNat 16 bits_
        causeCode := BitVec.ofNat 16 code
        bandT0 := s.bandNum
        timeT0 := s.ptpNs } := by
  have hrun : ¬ s.stopping = true := by simp [State.stopping, ht0]
  unfold State.orderlyStop
  rw [if_neg hrun]
  extract_lets t b s1 s2 s3 src boot v s4
  have h2 : s2.sup = s1.sup := by
    unfold s2
    split
    · exact (s1.setSupState_frame 2).sup rfl
    · exact s1.stopped_frame.sup rfl
  have h3 : s3.sup = s1.sup := ((s2.emit_frame _).sup rfl).trans h2
  have h4 : s4.sup = s3.sup :=
    (((State.stopStream_frame _ v).sup rfl).trans ((State.noContain_frame _).sup rfl)).trans ((s3.supplyTakes_frame v).sup rfl)
  split
  case isTrue =>
    split
    · exact h3
    · exact h3
  case isFalse =>
    split
    · exact ((s4.sendMsg_frame _ _).sup rfl).trans (h4.trans h3)
    · exact h4.trans h3

theorem State.liveTasks_congr {s t : State} (h : t.lodge = s.lodge) : t.liveTasks = s.liveTasks := by
  simp only [State.liveTasks, State.taskKeys, State.task, h]

theorem State.suspendAll_of_no_tasks (h : s.liveTasks = []) : s.suspendAll = s := by
  rw [State.suspendAll, h, List.foldl_nil]

theorem State.enterWarn_held (h a b : Nat) (hw : s.sup.warnHeld = true) : s.enterWarn h a b = s.count (aSup h + 0x34) 1 :=
  if_pos (by simp [hw])

/-- Entering warn outside a stop: the warning is held from here on. -/
theorem State.enterWarn_sup (h a b : Nat) (ht0 : s.sup.t0 = none) :
    (s.enterWarn h a b).sup = { s.sup with warnHeld := true } := by
  have hrun : s.stopping = false := by simp [State.stopping, ht0]
  cases hw : s.sup.warnHeld with
  | true =>
    rw [s.enterWarn_held h a b hw, ← hw]
    rfl
  | false =>
    unfold State.enterWarn
    extract_lets s1 s2
    rw [hw, hrun, if_neg (by simp)]
    have hs2 : s2.sup = { s.sup with warnHeld := true } := (State.setSupState_frame _ 1).sup rfl
    exact ((State.suspendAll_frame _).sup rfl).trans (((State.emit_frame s2 _).sup rfl).trans hs2)

/-- Entering warn with no task to suspend: the count, and where no warning was held, STATE of every hub and one record. -/
theorem State.enterWarn_of_no_tasks (h a b : Nat) (hrun : s.stopping = false) (hw : s.sup.warnHeld = false)
    (hno : s.liveTasks = []) :
    s.enterWarn h a b =
      (((s.count (aSup h + 0x34) 1).updSup (fun x => { x with warnHeld := true })).setSupState 1).emit
        { err 0x0601 with loc := hubLoc h 4, d0 := bothCodes a b, hub := h } := by
  unfold State.enterWarn
  extract_lets s1 s2
  rw [hw, hrun, if_neg (by simp)]
  refine State.suspendAll_of_no_tasks _ ((State.liveTasks_congr ?_).trans hno)
  exact ((State.emit_frame s2 _).lodge rfl).trans ((State.setSupState_frame _ 1).lodge rfl)

theorem State.reg_warnCount_enterWarn (h a b : Nat) (hs : s.canonical = true) (hh : h < 2) (hrun : s.stopping = false)
    (hno : s.liveTasks = []) :
    (s.enterWarn h a b).reg (aSup h + 0x34) = satAdd (s.reg (aSup h + 0x34)) 1 := by
  refine Eq.trans ?_ (s.reg_count_same (aSup h + 0x34) 1 (s.canonical_regs hs))
  cases hw : s.sup.warnHeld with
  | true =>
    rw [s.enterWarn_held h a b hw]
  | false =>
    rw [s.enterWarn_of_no_tasks h a b hrun hw hno, State.reg_aSup_emit _ _ hh (by decide),
      State.reg_setSupState_other _ _ _ (fun k => aSup_add_ne h k (by decide) (by decide))]
    rfl

theorem State.enterWarn_reports (h a b : Nat) (hs : s.canonical = true) (hh : h < 2) (hhub : h < s.ident.hubs)
    (hrun : s.stopping = false) (hw : s.sup.warnHeld = false) (hno : s.liveTasks = []) :
    fld ((s.enterWarn h a b).reg (aSup h)) 28 4 = 1 ∧ (s.enterWarn h a b).errSeq = (s.errSeq + 1) % 65536 := by
  rw [s.enterWarn_of_no_tasks h a b hrun hw hno]
  constructor
  · have hcanon : ((s.count (aSup h + 0x34) 1).updSup (fun x => { x with warnHeld := true })).canonical = true :=
      (State.updSup_frame _ _ 268435456 _ (Frame.refl _ _) rfl (State.canonical_sent _)).canonical
        ((State.count_frame s _ 1).canonical hs)
    exact (congrArg (fld · 28 4) (State.reg_aSup_emit _ _ (o := 0) hh (by decide))).trans
      (State.fld_setSupState _ 1 hcanon hhub)
  · rw [State.emit_errSeq, (State.setSupState_frame _ 1).errSeq rfl]
    rfl

/-! ## The outcomes of a sample -/

theorem State.supRecovered_of_running (h : s.sup.t0 = none) : s.supRecovered = false := by
  simp [State.supRecovered, State.stopping, h]

/-- The sample stored, and what the sentinel makes of it. -/
def State.judgeSample (s : State) (h ua ub : Nat) : State :=
  let low := (s.sampledSent h ua ub).lowFails (s.supFilt h)
  let high := (s.sampledSent h ua ub).highFails (s.supFilt h)
  if low || high then (s.noteSample h ua ub).orderlyStop 0x0602 (b2n low + 2 * b2n high + 8 * h) h
  else if (s.sent h).level < 1 && (s.sampledSent h ua ub).level = 1 then
    (s.noteSample h ua ub).enterWarn h (vsenseCode ua) (vsenseCode ub)
  else s.noteSample h ua ub

theorem State.sampleSupply_eq_judgeSample {h : Nat} (ua ub : Nat) (hh : h < s.ident.hubs) :
    s.sampleSupply h ua ub = if (s.judgeSample h ua ub).supRecovered then (s.judgeSample h ua ub).setSupBits 0x80
      else s.judgeSample h ua ub :=
  if_neg (Nat.not_le.2 hh)

/-- Without a stop under way, nothing has recovered from one (R634). -/
theorem State.sampleSupply_of_no_stop {h ua ub : Nat} (hh : h < s.ident.hubs) (ht0 : (s.judgeSample h ua ub).sup.t0 = none) :
    s.sampleSupply h ua ub = s.judgeSample h ua ub := by
  rw [s.sampleSupply_eq_judgeSample ua ub hh, State.supRecovered_of_running _ ht0, if_neg Bool.false_ne_true]

theorem State.sampleSupply_sup {h : Nat} (ua ub : Nat) (hh : h < s.ident.hubs) :
    (s.sampleSupply h ua ub).sup = (s.judgeSample h ua ub).sup := by
  rw [s.sampleSupply_eq_judgeSample ua ub hh]
  split
  · exact (State.setSupBits_frame _ 0x80).sup rfl
  · rfl

section Judged
variable {h ua ub : Nat}

/-- The sentinel fails: both inputs past a fail threshold, or one of them with the other open (R627). -/
theorem State.judgeSample_fails (hf : ((s.sampledSent h ua ub).lowFails (s.supFilt h) ||
    (s.sampledSent h ua ub).highFails (s.supFilt h)) = true) :
    ∃ bits_, s.judgeSample h ua ub = (s.noteSample h ua ub).orderlyStop 0x0602 bits_ h :=
  ⟨_, if_pos hf⟩

theorem State.judgeSample_not_fails (hlow : (s.sampledSent h ua ub).lowFails (s.supFilt h) = false)
    (hhigh : (s.sampledSent h ua ub).highFails (s.supFilt h) = false) :
    s.judgeSample h ua ub = if (s.sent h).level < 1 && (s.sampledSent h ua ub).level = 1 then
      (s.noteSample h ua ub).enterWarn h (vsenseCode ua) (vsenseCode ub) else s.noteSample h ua ub :=
  if_neg (by simp [hlow, hhigh])

/-- The sample does not put a calm sentinel in warn. -/
theorem State.judgeSample_quiet (hlow : (s.sampledSent h ua ub).lowFails (s.supFilt h) = false)
    (hhigh : (s.sampledSent h ua ub).highFails (s.supFilt h) = false)
    (hold : (s.sampledSent h ua ub).level = 1 → (s.sent h).level ≠ 0) :
    s.judgeSample h ua ub = s.noteSample h ua ub := by
  rw [s.judgeSample_not_fails hlow hhigh]
  refine if_neg ?_
  simp only [Bool.and_eq_true, decide_eq_true_eq]
  exact fun ⟨hlt, h1⟩ => hold h1 (Nat.lt_one_iff.1 hlt)

theorem State.judgeSample_warns (hlow : (s.sampledSent h ua ub).lowFails (s.supFilt h) = false)
    (hhigh : (s.sampledSent h ua ub).highFails (s.supFilt h) = false)
    (hcalm : (s.sent h).level = 0) (hwarn : (s.sampledSent h ua ub).level = 1) :
    s.judgeSample h ua ub = (s.noteSample h ua ub).enterWarn h (vsenseCode ua) (vsenseCode ub) := by
  rw [s.judgeSample_not_fails hlow hhigh]
  exact if_pos (by simp [hcalm, hwarn])

end Judged

/-! ## The commands -/

theorem State.exec_supThresholdWrite {h : Hub} (k : Threshold) (v : Word) (hh : h.val < s.ident.hubs) :
    exec (.supThresholdWrite h k v) s = .next
      (if ((s.setRegN (aSup h.val + Threshold.off k) (fld v 0 12)).levels h.val).ordered then
        s.setRegN (aSup h.val + Threshold.off k) (fld v 0 12) else s.setBits (aSup h.val) 0x10) :=
  congrArg Host.Outcome.next (if_neg (Nat.not_le.2 hh))

theorem State.exec_supDrainUsWrite (v : Word) :
    exec (.supDrainUsWrite v) s = .next (s.setRegN aSupDrainUs (min 1000 v.toNat)) := rfl

theorem State.exec_vsenseSample (h : Hub) (ua ub : Nat) :
    exec (.vsenseSample h ua ub) s = .next (s.sampleSupply h.val ua ub) := rfl

theorem State.exec_supFlushAck (k : BitVec 2) : exec (.supFlushAck k) s = .next (s.flushAck k.toNat) := rfl

/-- The sentinel of an absent hub takes no command. -/
theorem State.exec_sentinel_absent {h : Hub} (k : Threshold) (v : Word) (ua ub : Nat) (hh : s.ident.hubs ≤ h.val) :
    exec (.supThresholdWrite h k v) s = .next s ∧ exec (.vsenseSample h ua ub) s = .next s ∧
      exec (.supMismatch h) s = .next s ∧ exec (.pfailNAssert h) s = .next s :=
  ⟨congrArg Host.Outcome.next (if_pos hh), congrArg Host.Outcome.next (if_pos hh),
    congrArg Host.Outcome.next (if_pos (by simp [hh])), congrArg Host.Outcome.next (if_pos hh)⟩

theorem State.does_supThresholdWrite_ordered {h : Hub} {k : Threshold} {v : Word} (hs : s.canonical = true)
    (hh : h.val < s.ident.hubs) (hord : ((s.setRegN (aSup h.val + Threshold.off k) (fld v 0 12)).levels h.val).ordered = true) :
    Does (.supThresholdWrite h k v) s (fun t => t = { s with regs := t.regs } ∧
      t.regN (aSup h.val + Threshold.off k) = fld v 0 12 ∧ RegsBut s t [aSup h.val + Threshold.off k]) :=
  ⟨_, (s.exec_supThresholdWrite k v hh).trans (congrArg _ (if_pos hord)),
    s.setRegN_stores _ _ hs ((fld_lt v 0 12).trans (by decide))⟩

theorem State.does_supThresholdWrite_disordered {h : Hub} {k : Threshold} {v : Word} (hs : s.canonical = true)
    (hh : h.val < s.ident.hubs)
    (hord : ((s.setRegN (aSup h.val + Threshold.off k) (fld v 0 12)).levels h.val).ordered = false) :
    Does (.supThresholdWrite h k v) s (fun t => t = { s with regs := t.regs, born := t.born } ∧
      t.reg (aSup h.val) = s.reg (aSup h.val) ||| 0x10 ∧ RegsBut s t [aSup h.val]) :=
  ⟨_, (s.exec_supThresholdWrite k v hh).trans (congrArg _ (if_neg (by simp [hord]))), rfl,
    s.reg_setBits_same _ _ (s.canonical_regs hs), s.regsBut_setBits _ _⟩

theorem State.flushAck_unused {k : Nat} {b : Bool} (h : Tab.at_ (0, false) s.sup.slots k = (0, b)) : s.flushAck k = s :=
  if_pos (congrArg Prod.fst h)

theorem State.flushAck_used {k n : Nat} {b : Bool} (h : Tab.at_ (0, false) s.sup.slots k = (n, b)) (hn : n ≠ 0) :
    s.flushAck k = { s with sup := { s.sup with slots := Tab.set_ (0, false) s.sup.slots k (n, true) } } := by
  have hne : ¬ (Tab.at_ (0, false) s.sup.slots k).1 = 0 := by rw [h]; exact hn
  rw [State.flushAck, if_neg hne, h]
  rfl

theorem State.does_vsenseSample_quiet {h : Hub} {ua ub : Nat} (hs : s.canonical = true) (hh : h.val < s.ident.hubs)
    (hrun : s.stopping = false) (hlow : (s.sampledSent h.val ua ub).lowFails (s.supFilt h.val) = false)
    (hhigh : (s.sampledSent h.val ua ub).highFails (s.supFilt h.val) = false)
    (hold : (s.sampledSent h.val ua ub).level = 1 → (s.sent h.val).level ≠ 0) :
    Does (.vsenseSample h ua ub) s (fun t => t = { s with regs := t.regs, sup := t.sup } ∧
      t.regN (aSup h.val + 4) = vsenseCode ua ∧ t.regN (aSup h.val + 8) = vsenseCode ub ∧
      t.sent h.val = s.sampledSent h.val ua ub ∧ t.sup.t0 = s.sup.t0 ∧ t.sup.warnHeld = s.sup.warnHeld) := by
  have hj := s.judgeSample_quiet hlow hhigh hold
  have hsup := s.noteSample_sup h.val ua ub
  have ht0 : (s.noteSample h.val ua ub).sup.t0 = none := by
    rw [hsup]
    exact Option.not_isSome_iff_eq_none.1 (by simpa [State.stopping] using hrun)
  have hnext : s.sampleSupply h.val ua ub = s.noteSample h.val ua ub :=
    (s.sampleSupply_of_no_stop hh (hj ▸ ht0)).trans hj
  refine ⟨_, (s.exec_vsenseSample h ua ub).trans (congrArg _ hnext), s.noteSample_regs_sup h.val ua ub, ?_, ?_,
    s.sent_noteSample h.val ua ub hs, by rw [hsup], by rw [hsup]⟩
  · rw [State.regN, s.reg_noteSample h.val ua ub (by decide)]
    exact s.regN_storeCodes_a _ _ _ hs (vsenseCode_lt ua)
  · rw [State.regN, s.reg_noteSample h.val ua ub (by decide)]
    exact s.regN_storeCodes_b _ _ _ hs (vsenseCode_lt ub)

theorem State.does_vsenseSample_warns {h : Hub} {ua ub : Nat} (hs : s.canonical = true) (hh : h.val < s.ident.hubs)
    (ht0 : s.sup.t0 = none) (hlow : (s.sampledSent h.val ua ub).lowFails (s.supFilt h.val) = false)
    (hhigh : (s.sampledSent h.val ua ub).highFails (s.supFilt h.val) = false)
    (hcalm : (s.sent h.val).level = 0) (hwarn : (s.sampledSent h.val ua ub).level = 1) :
    Does (.vsenseSample h ua ub) s (fun t => t.sup.warnHeld = true ∧ t.sup.t0 = none ∧
      t.sent h.val = s.sampledSent h.val ua ub ∧
      (s.liveTasks = [] → t.reg (aSup h.val + 0x34) = satAdd (s.reg (aSup h.val + 0x34)) 1) ∧
      (s.sup.warnHeld = false → s.liveTasks = [] →
        fld (t.reg (aSup h.val)) 28 4 = 1 ∧ t.errSeq = (s.errSeq + 1) % 65536)) := by
  have hj := s.judgeSample_warns hlow hhigh hcalm hwarn
  have hframe := s.noteSample_frame h.val ua ub
  have hsent := s.sent_noteSample h.val ua ub hs
  have hcount := s.reg_noteSample_other h.val ua ub (o := 0x34) (by decide)
  have hheld : (s.noteSample h.val ua ub).sup.warnHeld = s.sup.warnHeld := by rw [s.noteSample_sup]
  have hnt0 : (s.noteSample h.val ua ub).sup.t0 = none := by rw [s.noteSample_sup]; exact ht0
  generalize s.noteSample h.val ua ub = n at *
  have hcanon := hframe.canonical hs
  have hrun : n.stopping = false := by simp [State.stopping, hnt0]
  have hsup := n.enterWarn_sup h.val (vsenseCode ua) (vsenseCode ub) hnt0
  have hnext : s.sampleSupply h.val ua ub = n.enterWarn h.val (vsenseCode ua) (vsenseCode ub) :=
    (s.sampleSupply_of_no_stop hh (by rw [hj, hsup]; exact hnt0)).trans hj
  refine ⟨_, (s.exec_vsenseSample h ua ub).trans (congrArg _ hnext), by rw [hsup], by rw [hsup]; exact hnt0, ?_, ?_, ?_⟩
  · rw [State.sent, hsup]
    exact hsent
  · intro hno
    rw [n.reg_warnCount_enterWarn _ _ _ hcanon h.isLt hrun ((State.liveTasks_congr (hframe.lodge rfl)).trans hno), hcount]
  · intro hw hno
    rw [← hframe.errSeq rfl]
    exact n.enterWarn_reports _ _ _ hcanon h.isLt (hframe.ident ▸ hh) hrun (hheld.trans hw)
      ((State.liveTasks_congr (hframe.lodge rfl)).trans hno)

theorem State.does_vsenseSample_fails {h : Hub} {ua ub : Nat} (hh : h.val < s.ident.hubs) (ht0 : s.sup.t0 = none)
    (hfails : ((s.sampledSent h.val ua ub).lowFails (s.supFilt h.val) ||
      (s.sampledSent h.val ua ub).highFails (s.supFilt h.val)) = true) :
    Does (.vsenseSample h ua ub) s (fun t => t.sup.t0 = some s.now ∧ t.sup.causeCode = 0x0602) := by
  obtain ⟨bits_, hj⟩ := s.judgeSample_fails hfails
  have hnt0 : (s.noteSample h.val ua ub).sup.t0 = none := by rw [s.noteSample_sup]; exact ht0
  have hsup := s.sampleSupply_sup ua ub hh
  rw [hj, State.orderlyStop_sup _ _ _ _ hnt0, (s.noteSample_frame h.val ua ub).now rfl] at hsup
  exact ⟨_, s.exec_vsenseSample h ua ub, congrArg SupState.t0 hsup, congrArg SupState.causeCode hsup⟩

/-- Each count of an input grows by a sample past its threshold, and any other sample ends it (R625). -/
theorem InCnt.sampled_counts (x : InCnt) (l : Levels) (c : Nat) :
    (x.sampled l c).lowFail = (if c < l.failLo then x.lowFail + 1 else 0) ∧
    (x.sampled l c).highFail = (if l.failHi < c then x.highFail + 1 else 0) ∧
    (x.sampled l c).highWarn = (if l.warnHi < c then x.highWarn + 1 else 0) ∧
    (x.sampled l c).open_ = (if c < 205 then x.open_ + 1 else 0) ∧
    (x.sampled l c).lowWarn = (if 205 ≤ c ∧ c < l.warnLo then x.lowWarn + 1 else 0) := by
  simp [InCnt.sampled, isOpen]

end Lemmas

/-- Settles O47, command by command: a threshold is stored, or sets the bit that R626 calls CFG_IGNORED; a sample, once stored,
is judged in three ways, and each clause on samples is one of them. -/
theorem supplyInputs : Obligations.SupplyInputs := by
  unfold Obligations.SupplyInputs
  refine ⟨fun h k v s => s.does_supThresholdWrite_ordered, fun h k v s => s.does_supThresholdWrite_disordered,
    fun v s hs => ?drain, fun h k v ua ub s => s.exec_sentinel_absent k v ua ub, fun k b s hslot => ?unused,
    fun k n b s hslot hn => ?used, fun h ua ub y s hs hh hrun hy => ?quiet, fun h ua ub y s hs hh ht0 hy => ?warns,
    fun h ua ub y s hh ht0 hy => ?fails, InCnt.sampled_counts⟩
  case drain => exact ⟨_, s.exec_supDrainUsWrite v, s.setRegN_stores aSupDrainUs _ hs (by omega)⟩
  case unused => exact (s.exec_supFlushAck k).trans (congrArg _ (s.flushAck_unused hslot))
  case used => exact ⟨_, s.exec_supFlushAck k, s.flushAck_used hslot hn⟩
  case quiet =>
    subst hy
    exact s.does_vsenseSample_quiet hs hh hrun
  case warns =>
    subst hy
    exact s.does_vsenseSample_warns hs hh ht0
  case fails =>
    subst hy
    exact s.does_vsenseSample_fails hh ht0

end Sys2Proof.Machine
end

section
/-!
PROOF. What holds of every step and of the whole encoder: the words of the sequencer (03 R153), the access codes (00 Table 0.3),
the state after reset, what a step keeps, and a ck that finds nothing at work.
-/
namespace Sys2Proof.Machine

/-! ## Words of the sequencer -/

/-- Each operand stands in its field of Table 3.5, and no two fields overlap. -/
theorem opOf_opBits (o : TOp) : opOf (opBits o).1 (opBits o).2 = some o := by
  cases o <;> simp [opBits, opOf] <;> grind

/-- Settles O9: the opcode and the guard stand in fields of their own, and the operand bits give the operation back. -/
theorem tileEncodingRoundTrip : Obligations.TileEncodingRoundTrip := by
  unfold Obligations.TileEncodingRoundTrip
  intro i
  have hop : (encodeTile i).extractLsb' 26 6 = (opBits i.op).1 := by unfold encodeTile; grind
  have hbits : (encodeTile i).extractLsb' 0 22 = (opBits i.op).2 := by unfold encodeTile; grind
  have hge : (encodeTile i).extractLsb' 25 1 = i.ge := by unfold encodeTile; grind
  have hgp : (encodeTile i).extractLsb' 24 1 = i.gp := by unfold encodeTile; grind
  have hgi : (encodeTile i).extractLsb' 22 2 = i.gi := by unfold encodeTile; grind
  rw [decodeTile, hop, hbits, opOf_opBits, hge, hgp, hgi]
  rfl

/-! ## Access codes -/

theorem RegRow.getLsbD_written (r : RegRow) (old v : Word) {i : Nat} (hi : i < 32) :
    (r.written old v).getLsbD i =
      if r.w1s.getLsbD i && v.getLsbD i then true
      else if r.w1c.getLsbD i && v.getLsbD i then false
      else if r.rw.getLsbD i then v.getLsbD i else old.getLsbD i := by
  simp only [RegRow.written, BitVec.getLsbD_or, BitVec.getLsbD_and, BitVec.getLsbD_not, hi, decide_true, Bool.true_and]
  generalize r.w1s.getLsbD i = w1s, r.w1c.getLsbD i = w1c, r.rw.getLsbD i = rw, v.getLsbD i = new, old.getLsbD i = was
  revert w1s w1c rw new was
  decide

theorem RegRow.getLsbD_afterRead (r : RegRow) (old : Word) {i : Nat} (hi : i < 32) :
    (r.afterRead old).getLsbD i = if r.rc.getLsbD i then r.reset.getLsbD i else old.getLsbD i := by
  simp only [RegRow.afterRead, BitVec.getLsbD_or, BitVec.getLsbD_and, BitVec.getLsbD_not, hi, decide_true, Bool.true_and]
  cases r.rc.getLsbD i <;> simp

/-- Settles O1: both words are made of the masks bit by bit. -/
theorem accessCodes : Obligations.AccessCodes := by
  unfold Obligations.AccessCodes
  exact fun r old v i hi => ⟨r.getLsbD_written old v hi, r.getLsbD_afterRead old hi⟩

/-! ## Reset -/

/-- After reset a register reads the reset value of its row. -/
theorem State.reg_reset (a : Nat) : State.reset.reg a = regReset State.reset.ident a := rfl

/-- The farthest place of a row from its base. -/
def dimsExtent : List (Nat × Nat) → Nat
  | [] => 0
  | (st, n) :: ds => st * (n - 1) + dimsExtent ds

/-- The farthest place within a period of 0x400, over the indexes whose strides are no whole periods. -/
def dimsWithin : List (Nat × Nat) → Nat
  | [] => 0
  | (st, n) :: ds => (if st % 0x400 = 0 then 0 else st * (n - 1)) + dimsWithin ds

/-- A place of a row lies within the row's extent, and some whole periods past a place of one period. -/
theorem dimsHave_bounds (ds : List (Nat × Nat)) (o : Nat) (h : dimsHave ds o = true) :
    o ≤ dimsExtent ds ∧ ∃ m e, e ≤ dimsWithin ds ∧ o = 0x400 * m + e := by
  induction ds generalizing o with
  | nil =>
    obtain rfl : o = 0 := by simpa [dimsHave] using h
    exact ⟨le_rfl, 0, 0, le_rfl, rfl⟩
  | cons d ds ih =>
    obtain ⟨st, n⟩ := d
    simp only [dimsHave, Bool.and_eq_true, decide_eq_true_eq] at h
    obtain ⟨hlt, hrest⟩ := h
    obtain ⟨hext, m, e, he, heq⟩ := ih _ hrest
    have hsplit : o = st * (o / st) + o % st := (Nat.div_add_mod o st).symm
    have hle : st * (o / st) ≤ st * (n - 1) := Nat.mul_le_mul_left _ (by omega)
    refine ⟨by simp only [dimsExtent]; omega, ?_⟩
    by_cases hst : st % 0x400 = 0
    · obtain ⟨p, hp⟩ := Nat.dvd_of_mod_eq_zero hst
      have hperiods : st * (o / st) = 0x400 * (p * (o / st)) := by rw [← Nat.mul_assoc, ← hp]
      exact ⟨p * (o / st) + m, e, by simp only [dimsWithin, if_pos hst]; omega, by omega⟩
    · exact ⟨m, st * (o / st) + e, by simp only [dimsWithin, if_neg hst]; omega, by omega⟩

/-- A row whose reset value has a bit below bit 4 ends before the contexts' blocks, or stands in other places of a period of
0x400 than CTX_STATE. -/
theorem regRows_beside_ctxState : ∀ r ∈ regRows, fld r.reset 0 4 = 0 ∨ r.base + dimsExtent r.dims < 0x20004 ∨
    r.base % 0x400 + dimsWithin r.dims < 4 ∨ (4 < r.base % 0x400 ∧ r.base % 0x400 + dimsWithin r.dims < 0x404) := by
  decide +kernel

theorem ctxSt_reset (c : Nat) : State.reset.ctxSt c = 0 := by
  rw [State.ctxSt, State.reg_reset, regReset]
  split
  · rfl
  split
  case h_2 => rfl
  case h_1 r hr =>
    have hplace := List.find?_some hr
    simp only [Bool.and_eq_true, decide_eq_true_eq] at hplace
    obtain ⟨hbase, hdims⟩ := hplace
    obtain ⟨hext, m, e, he, heq⟩ := dimsHave_bounds _ _ hdims
    obtain h | h | h := regRows_beside_ctxState r (List.mem_of_find?_eq_some hr)
    · exact h
    · simp only [aCtxState, aCtx] at hbase hext
      omega
    · simp only [aCtxState, aCtx] at hbase heq
      omega

/-- Settles O58: register by register; nothing is listed in the tables of queues and tiles. -/
theorem resetState : Obligations.ResetState := by
  unfold Obligations.ResetState
  refine ⟨rfl, by decide +kernel, by decide +kernel, by decide +kernel, by decide +kernel, by decide +kernel, by decide +kernel,
    by decide +kernel, by decide +kernel, by decide +kernel, by decide +kernel, rfl, rfl, fun _ => rfl, ctxSt_reset, fun _ => rfl⟩

/-- Settles O59: every table is empty. -/
theorem resetCanonical : Obligations.ResetCanonical := rfl

/-! ## Steps -/

theorem step_of_empty {s : State} (h : s.pending = []) : step s = .next s.tick := by
  rw [step, h]

theorem step_of_front {c : Instr} {rest : List Instr} {s : State} (h : s.pending = c :: rest) :
    step s = exec c { s with pending := rest } := by
  rw [step, h]

/-- Taking a command from the queue leaves the tables alone. -/
theorem State.canonical_setPending {s : State} (l : List Instr) (h : s.canonical = true) :
    ({ s with pending := l } : State).canonical = true := h

theorem step_frame (s : State) : ∃ t, step s = .next t ∧ Frame 34359738366 { s with pending := s.pending.tail } t := by
  cases h : s.pending with
  | nil =>
    have hs : ({ s with pending := [].tail } : State) = s := by rw [List.tail_nil, ← h]
    exact ⟨s.tick, step_of_empty h, hs ▸ State.tick_step 34359738366 s s (Frame.refl _ s) rfl⟩
  | cons c rest =>
    rw [step_of_front h]
    exact exec_after 34359738366 _ c _ (Frame.refl _ _) rfl

/-- Settles O56: the definition of a step on a queue that is not empty. -/
theorem stepRunsFront : Obligations.StepRunsFront := by
  unfold Obligations.StepRunsFront
  exact fun _ _ _ => step_of_front

/-- Settles O60, from the frame that every command and every ck keep. -/
theorem stepsKeepCanonical : Obligations.StepsKeepCanonical := by
  unfold Obligations.StepsKeepCanonical
  intro s t hs ht
  obtain ⟨u, hu, hframe⟩ := step_frame s
  obtain rfl : u = t := Host.Outcome.next.inj (hu.symm.trans ht)
  exact ⟨hframe.canonical (State.canonical_setPending _ hs), hframe.ident, hframe.pending⟩

/-! ## A ck with nothing at work -/

/-- No tile, camera, Kiosk row, task or Hedge request is at work, no bell waits for the end of the ck, no group runs, and the
Groundskeeper makes no pass. -/
structure State.Quiet (s : State) : Prop where
  tiles : s.tiles = []
  cams : s.gth.cams = []
  out : s.gth.out = []
  ksk : s.ksk = []
  hdg : s.hdg = []
  tasks : s.lodge.tasks = []
  atEnd : s.bell.atEnd = false
  running : s.grp.running = false
  step : s.boot.step ≠ .ready

section Quiet
variable {s : State} (h : s.Quiet)
include h

/-- The counters of the dies are no work. -/
theorem State.Quiet.setDies (d : Tab DieCtr) : ({ s with dies := d } : State).Quiet :=
  ⟨h.tiles, h.cams, h.out, h.ksk, h.hdg, h.tasks, h.atEnd, h.running, h.step⟩

theorem State.Quiet.holdCk : s.holdCk.Quiet := by
  rw [State.holdCk]
  split
  · exact ⟨h.tiles, h.cams, h.out, h.ksk, h.hdg, h.tasks, h.atEnd, h.running, h.step⟩
  · exact h

theorem State.Quiet.lodgeCk : s.lodgeCk = s := by
  rw [State.lodgeCk, State.liveTasks, State.taskKeys, h.tasks]
  rfl

theorem State.Quiet.cam (n : Nat) : s.cam n = CamState.init := by
  rw [State.cam, h.cams]
  rfl

theorem State.Quiet.closeWaits : s.closeWaits = s := by
  have hend : ∀ n, s.endExpiry n = s := fun n => by
    rw [State.endExpiry, h.cam n]
    rfl
  have hfold : (List.range s.ident.camPorts).foldl (fun t n => t.endExpiry n) s = s :=
    List.foldl_fixed' hend _
  rw [State.closeWaits, hfold, State.endBell, h.atEnd]
  rfl

theorem State.Quiet.hubCk (n : Nat) : s.hubCk n = s := by
  have hgth : s.gthCk n = s := by
    rw [State.gthCk, h.out]
    rfl
  have hksk : s.kskCk n = s := by
    rw [State.kskCk, State.kiosk, h.ksk]
    rfl
  rw [State.hubCk, hgth, hksk]

theorem State.Quiet.hubsCk : s.hubsCk = s := List.foldl_fixed' h.hubCk _

theorem State.Quiet.hedge (n : Nat) : s.hedge n = HdgState.empty := by
  rw [State.hedge, h.hdg]
  rfl

theorem State.Quiet.hedgeCk : s.hedgeCk = s := by
  have hgrant : ∀ e : Nat × Nat, s.grantOne e.1 e.2 = s := fun e => by
    rw [State.grantOne, State.nextGrant, h.hedge]
    rfl
  have hforget : ∀ n, s.hdgForget n = s := fun n => by
    rw [State.hdgForget, h.hedge]
    rfl
  rw [State.hedgeCk, List.foldl_fixed' hgrant, hforget, hforget]

theorem State.Quiet.passCk : s.passCk = s := by
  rw [State.passCk, decide_eq_false h.step]
  rfl

theorem State.Quiet.driveGhold : s.driveGhold = s := by
  rw [State.driveGhold, h.running]
  rfl

/-- On the terraces only the counters of the dies go on. -/
theorem State.Quiet.terraceCk : s.terraceCk = (List.range s.ident.dies).foldl (fun t d => t.dieCk d) s := by
  have hkeys : s.tileKeys = [] := by rw [State.tileKeys, h.tiles]; rfl
  have hfaults : s.emitFaults = s := by rw [State.emitFaults, h.tiles]; rfl
  have htiles : ({ s with tiles := Tab.mapV Tile.blank (fun k t => t.endCk (s.die (k / 1536)).snapCk) s.tiles } : State) = s := by
    rw [h.tiles]
    exact congrArg (fun l => { s with tiles := l }) h.tiles.symm
  rw [State.terraceCk]
  simp only [hkeys, List.foldl_nil, ite_self, hfaults, htiles]

end Quiet

/-! ## The counters of the dies -/

theorem State.foldl_dieCk_dies (s : State) (l : List Nat) :
    l.foldl (fun t d => t.dieCk d) s = { s with dies := (l.foldl (fun t d => t.dieCk d) s).dies } := by
  induction l generalizing s with
  | nil => rfl
  | cons d l ih =>
    rw [List.foldl_cons, ih]
    rfl

/-- The dies' counters as a ck leaves them: ELAPSED counts on, HELD too while the machine is frozen. -/
def State.DieCounted (s t : State) (d : Nat) : Prop :=
  (t.die d).elapsed = (s.die d).elapsed + 1 ∧ (t.die d).held = (s.die d).held + b2n s.hold.frozen

theorem State.foldl_dieCk_counts (s : State) (hs : s.canonical = true) (n : Nat) :
    (∀ d, d < n → s.DieCounted ((List.range n).foldl (fun t d => t.dieCk d) s) d) ∧
    ∀ d, n ≤ d → ((List.range n).foldl (fun t d => t.dieCk d) s).die d = s.die d := by
  induction n with
  | zero => exact ⟨fun _ h => absurd h (Nat.not_lt_zero _), fun _ _ => rfl⟩
  | succ n ih =>
    obtain ⟨hbelow, hat⟩ := ih
    have hframe : Frame 65536 s ((List.range n).foldl (fun t d => t.dieCk d) s) :=
      Frame.foldl _ _ _ _ _ (Frame.refl _ _) fun t d h => State.dieCk_step _ _ t d h rfl
    rw [List.range_succ, List.foldl_append, List.foldl_cons, List.foldl_nil]
    generalize (List.range n).foldl (fun t d => t.dieCk d) s = t at *
    have hdies := t.canonical_die (hframe.canonical hs)
    have hheld : t.hold = s.hold := hframe.hold rfl
    constructor
    · intro d hd
      by_cases hdn : d = n
      · subst hdn
        rw [State.DieCounted, State.dieCk, t.die_setDie_same _ _ hdies, hat d le_rfl, hheld]
        exact ⟨rfl, rfl⟩
      · rw [State.DieCounted, State.dieCk, t.die_setDie_other _ _ _ hdn]
        exact hbelow d (by omega)
    · intro d hd
      rw [State.dieCk, t.die_setDie_other _ _ _ (by omega)]
      exact hat d (by omega)

/-- No part of a ck but its clocks counts time. -/
theorem State.tick_now (s : State) : s.tick.now = s.now + 1 := by
  have h := State.terraceCk_step 34359738108 s s (Frame.refl _ s) rfl
  have h := State.lodgeCk_step _ s _ (State.holdCk_step _ s _ h rfl) rfl
  have h := State.hubsCk_step _ s _ (State.closeWaits_step _ s _ h rfl) rfl
  have h := State.passCk_step _ s _ (State.hedgeCk_step _ s _ h rfl) rfl
  exact congrArg (· + 1) ((State.driveGhold_step _ s _ h rfl).now rfl)

/-- A ck with nothing at work: the dies' counters, the held time of the bell, and the clocks go on. -/
theorem State.Quiet.tick {s : State} (h : s.Quiet) :
    s.tick = ((List.range s.ident.dies).foldl (fun t d => t.dieCk d) s).holdCk.clocks := by
  rw [State.tick, h.terraceCk, State.foldl_dieCk_dies]
  have hd := h.setDies ((List.range s.ident.dies).foldl (fun t d => t.dieCk d) s).dies
  generalize ({ s with dies := ((List.range s.ident.dies).foldl (fun t d => t.dieCk d) s).dies } : State) = u at hd
  have hq := hd.holdCk
  rw [hq.lodgeCk, hq.closeWaits, hq.hubsCk, hq.hedgeCk, hq.passCk, hq.driveGhold]

/-- Settles O57: a command completes because its frame says so; a ck has the clocks as its last part. -/
theorem everyStepCompletes : Obligations.EveryStepCompletes := by
  unfold Obligations.EveryStepCompletes
  refine ⟨fun c s => ?command, fun s => ?step, fun s hp => ?empty, fun s hp hs htiles hcams hout hksk hhdg htasks hend hfrozen hgrp hboot => ?running,
    fun s hp hs htiles hcams hout hksk hhdg htasks hend hfrozen hgrp hboot => ?frozen⟩
  case command =>
    obtain ⟨t, ht, -⟩ := exec_frame c s
    exact ⟨t, ht⟩
  case step =>
    obtain ⟨t, ht, -⟩ := step_frame s
    exact ⟨t, ht⟩
  case empty =>
    have hframe := State.tick_frame s
    exact ⟨s.tick, step_of_empty hp, State.tick_now s, rfl, rfl, hframe.pending.trans hp, hframe.ident, hframe.readData rfl⟩
  case running =>
    have hq : s.Quiet := ⟨htiles, hcams, hout, hksk, hhdg, htasks, hend, hgrp, hboot⟩
    have hcount := (s.foldl_dieCk_counts hs s.ident.dies).1
    refine ⟨s.tick, step_of_empty hp, ?_⟩
    rw [hq.tick]
    rw [State.foldl_dieCk_dies] at hcount ⊢
    rw [State.holdCk, if_neg (by simp [hfrozen])]
    refine ⟨rfl, fun d hd => ?_⟩
    have hd := hcount d hd
    rwa [State.DieCounted, hfrozen] at hd
  case frozen =>
    have hq : s.Quiet := ⟨htiles, hcams, hout, hksk, hhdg, htasks, hend, hgrp, hboot⟩
    have hcount := (s.foldl_dieCk_counts hs s.ident.dies).1
    refine ⟨s.tick, step_of_empty hp, ?_⟩
    rw [hq.tick]
    rw [State.foldl_dieCk_dies] at hcount ⊢
    rw [State.holdCk, if_pos hfrozen]
    refine ⟨rfl, fun d hd => ?_⟩
    have hd := hcount d hd
    rwa [State.DieCounted, hfrozen] at hd

end Sys2Proof.Machine
end

section
/-!
PROOF. Register accesses of the host (00 R8, R17, R695; 12 R535), the hold tree (01 R50-R53), encoders and ticks (01 R24-R35) and
the ends of a stream (01 R25, R39-R41).
-/
namespace Sys2Proof.Machine

section Lemmas
variable (s : State)

/-! ## Registers of 48 bits -/

theorem State.reg48_setReg48_same (a : Nat) (v : W48) (hs : s.canonical = true) : (s.setReg48 a v).reg48 a = v := by
  have hlt : v.toNat < 2 ^ 48 := v.isLt
  have hcanon := (s.setRegN_frame a (v.toNat % 2 ^ 32)).canonical hs
  have hlow : ((s.setReg48 a v).reg a).toNat = v.toNat % 2 ^ 32 := by
    rw [State.setReg48, State.setReg64, State.reg_setRegN_other _ _ _ _ (by omega)]
    exact s.regN_setRegN_same a _ hs (Nat.mod_lt _ (by decide))
  have hhigh : ((s.setReg48 a v).reg (a + 4)).toNat = v.toNat / 2 ^ 32 :=
    State.regN_setRegN_same _ (a + 4) _ hcanon (by omega)
  apply BitVec.eq_of_toNat_eq
  rw [State.reg48, State.reg64, hlow, hhigh, BitVec.toNat_ofNat]
  omega

theorem State.reg48_setReg48_other (a b : Nat) (v : W48) (h : b + 4 < a ∨ a + 4 < b) :
    (s.setReg48 a v).reg48 b = s.reg48 b := by
  rw [State.reg48, State.reg64, s.reg_setReg48_other a b v (by omega) (by omega),
    s.reg_setReg48_other a (b + 4) v (by omega) (by omega)]
  rfl

theorem State.regsBut_setReg48 (a : Nat) (v : W48) : RegsBut s (s.setReg48 a v) [a, a + 4] := fun b hb => by
  simp only [List.mem_cons, List.not_mem_nil, or_false, not_or] at hb
  exact s.reg_setReg48_other a b v hb.1 hb.2

theorem State.reg_congr {s t : State} (hi : t.ident = s.ident) (h : t.regs = s.regs) (a : Nat) : t.reg a = s.reg a := by
  rw [State.reg, State.reg, hi, h]

/-- A register pair reads as the registers do. -/
theorem State.reg48_congr {s t : State} {a : Nat} (h : t.reg a = s.reg a) (h4 : t.reg (a + 4) = s.reg (a + 4)) :
    t.reg48 a = s.reg48 a := by
  rw [State.reg48, State.reg64, h, h4]
  rfl

/-! ## Accesses of the host -/

theorem State.exec_registerWrite (off : BitVec 25) (wide : Bool) (v : DWord) :
    exec (.registerWrite off wide v) s = .next (s.hostWriteReg off.toNat wide v) := rfl
theorem State.exec_readToClear (off : BitVec 25) (wide : Bool) :
    exec (.readToClear off wide) s = .next (s.hostReadReg off.toNat wide) := rfl

theorem State.hostWriteReg_misaligned {a : Nat} {wide : Bool} (v : DWord) (h : a % accessBytes wide ≠ 0)
    (hcount : s.reg aHubPcieBadacc ≠ 0) : s.hostWriteReg a wide v = s.count aHubPcieBadacc 1 := by
  rw [State.hostWriteReg, if_pos h, State.badAccess, if_pos rfl, if_pos hcount]

theorem State.hostWriteReg_absent {a : Nat} {wide : Bool} (v : DWord) (h : a % accessBytes wide = 0)
    (habs : s.ident.absentAt a = true) : s.hostWriteReg a wide v = s := by
  rw [State.hostWriteReg, if_neg (not_not.2 h), if_pos habs]

theorem State.hostWriteReg_held {a : Nat} {wide : Bool} {w : Nat × Nat × Nat × Nat} (v : DWord) (h : a % accessBytes wide = 0)
    (habs : s.ident.absentAt a = false) (hw : s.accessWaits 0 mPcie (regBase + a) (accessBytes wide) true = some w) :
    s.hostWriteReg a wide v = s.noteHeld w := by
  rw [State.hostWriteReg, if_neg (not_not.2 h), habs, if_neg Bool.false_ne_true, hw]

theorem State.hostWriteReg_granted {a : Nat} {wide : Bool} {x : Nat × Nat} (v : DWord) (h : a % accessBytes wide = 0)
    (habs : s.ident.absentAt a = false) (hw : s.accessWaits 0 mPcie (regBase + a) (accessBytes wide) true = none)
    (hg : s.hdgCheck 0 mPcie (regBase + a) (accessBytes wide) true false = (s, 0, x)) :
    s.hostWriteReg a wide v = s.writeReg a wide v := by
  rw [State.hostWriteReg, if_neg (not_not.2 h), habs, if_neg Bool.false_ne_true, hw, hg]
  rfl

theorem State.hostReadReg_granted {a : Nat} {wide : Bool} {x : Nat × Nat} (h : a % accessBytes wide = 0)
    (habs : s.ident.absentAt a = false) (hw : s.accessWaits 0 mPcie (regBase + a) (accessBytes wide) false = none)
    (hg : s.hdgCheck 0 mPcie (regBase + a) (accessBytes wide) false false = (s, 0, x)) (htil : s.tilGated 0 a = false)
    (href : readsRefusals a wide = false) :
    s.hostReadReg a wide = (s.readWide a wide).1.answer (s.readWide a wide).2 0 := by
  rw [State.hostReadReg, if_neg (not_not.2 h), habs, if_neg Bool.false_ne_true, hw, hg]
  simp only [ne_eq, not_true_eq_false, if_false, State.readVia, htil, href, Bool.false_eq_true]

/-- GKP_CE_LIMIT has no effect of its own, and every bit of it is RW. -/
theorem State.writeReg_ceLimit (v : DWord) (habs : s.ident.absentAt aGkpCeLimit = false) :
    s.writeReg aGkpCeLimit false v = s.setReg aGkpCeLimit (loWord v) := by
  have hrow : findRow aGkpCeLimit = some (rowRW 0x40001C [] 0xFFFFFFFF 16) := by decide +kernel
  have hword : s.writeWord aGkpCeLimit (loWord v) = s.plainWrite aGkpCeLimit (loWord v) := by
    rw [State.writeWord, habs]
    rfl
  have hbits : ∀ old x : Word, (rowRW 0x40001C [] 0xFFFFFFFF 16).written old x = x := fun old x => by
    have hones : ∀ w : Word, w &&& 0xFFFFFFFF#32 = w := fun _ => BitVec.and_allOnes
    simp [rowRW, RegRow.written, hones]
  have hnone : ∀ x b : Word, x &&& ~~~((rowRW 0x40001C [] 0xFFFFFFFF 16).w1c &&& b) = x := fun x b => by
    simpa [rowRW] using BitVec.and_allOnes (x := x)
  rw [State.writeReg, if_neg Bool.false_ne_true, hword, State.plainWrite, habs, if_neg Bool.false_ne_true, hrow]
  dsimp only
  rw [hnone, hbits]

/-- A read of GKP_CE_COUNT leaves the events of the present ck in it. -/
theorem State.readWide_ceCount (habs : s.ident.absentAt aGkpCeCount = false) :
    s.readWide aGkpCeCount false = (s.setReg aGkpCeCount (s.bornAt aGkpCeCount),
      (s.beforeCk aGkpCeCount (s.reg aGkpCeCount)).zeroExtend 64) := by
  have hrow : findRow aGkpCeCount = some (rowRC 0x400010 [(4, 2)] 0) := by decide +kernel
  have hread : s.readReg aGkpCeCount = s.reg aGkpCeCount := by
    rw [State.readReg, habs]
    rfl
  have hleft : s.plainReadEffect aGkpCeCount = s.setReg aGkpCeCount (s.bornAt aGkpCeCount) := by
    rw [State.plainReadEffect, habs, if_neg Bool.false_ne_true, hrow]
    dsimp only
    rw [if_neg (by decide)]
    split
    case isTrue h => rw [h]; simp [rowRC, RegRow.afterRead]
    case isFalse => rfl
  have hfree : readsFree aGkpCeCount = false := by decide
  have hword : s.readWord aGkpCeCount = (s.setReg aGkpCeCount (s.bornAt aGkpCeCount), s.beforeCk aGkpCeCount (s.reg aGkpCeCount)) := by
    rw [← hleft, ← hread]
    rfl
  rw [State.readWide, if_neg Bool.false_ne_true, hword]
  exact fun _ _ h => absurd h Bool.false_ne_true

theorem State.beforeCk_ceCount (h : s.reg aGkpCeCount ≠ 0xFFFFFFFF) :
    s.beforeCk aGkpCeCount (s.reg aGkpCeCount) = s.reg aGkpCeCount - s.bornAt aGkpCeCount := by
  have hrow : findRow aGkpCeCount = some (rowRC 0x400010 [(4, 2)] 0) := by decide +kernel
  rw [State.beforeCk, hrow]
  by_cases hborn : s.bornAt aGkpCeCount = 0
  · simp [hborn]
  · rw [if_neg (by simp only [Bool.or_eq_true, decide_eq_true_eq, not_or]; exact ⟨hborn, h⟩)]
    exact if_neg (by decide)

theorem State.exec_pairedLowWordWrite (r : PairedReg) (v : Word) (h : s.ident.absentAt (pairedAddr r) = false) :
    exec (.pairedLowWordWrite r v) s = .next (s.writeLatch (pairedAddr r) v) :=
  congrArg Host.Outcome.next (if_neg (by simp [h]))

end Lemmas

/-- Settles O2: an access is misaligned, of an absent unit, held back or granted, and a granted one is the access of its word. -/
theorem registerWrites : Obligations.RegisterWrites := by
  unfold Obligations.RegisterWrites
  refine ⟨fun v x s hs hw hg habs => ?stored, fun off wide v s hal habs => ?absent, fun off wide v s hs hal hcount => ?misaligned,
    fun off wide v w s hal habs hw => ?held, fun x s hs hw hg htil habs => ?cleared, fun r v s habs => ?low⟩
  case stored =>
    have haddr : (BitVec.ofNat 25 aGkpCeLimit).toNat = aGkpCeLimit := by decide
    have hwrite := (s.hostWriteReg_granted v (wide := false) (by decide) habs hw hg).trans (s.writeReg_ceLimit v habs)
    refine ⟨_, (s.exec_registerWrite _ false v).trans (congrArg Host.Outcome.next ((congrArg (s.hostWriteReg · false v) haddr).trans hwrite)), rfl,
      s.reg_setReg_same _ _ (s.canonical_regs hs), s.regsBut_setReg _ _⟩
  case absent => exact congrArg Host.Outcome.next (s.hostWriteReg_absent v hal habs)
  case misaligned =>
    exact ⟨_, congrArg Host.Outcome.next (s.hostWriteReg_misaligned v hal hcount), rfl, s.reg_count_same _ 1 (s.canonical_regs hs),
      s.regsBut_count _ 1⟩
  case held => exact congrArg Host.Outcome.next (s.hostWriteReg_held v hal habs hw)
  case cleared =>
    have haddr : (BitVec.ofNat 25 aGkpCeCount).toNat = aGkpCeCount := by decide
    have hread := s.hostReadReg_granted (wide := false) (by decide) habs hw hg htil (by decide +kernel)
    rw [s.readWide_ceCount habs] at hread
    refine ⟨_, (s.exec_readToClear _ false).trans (congrArg Host.Outcome.next ((congrArg (s.hostReadReg · false) haddr).trans hread)),
      fun hne => ?_, s.reg_setReg_same _ _ (s.canonical_regs hs), s.regsBut_setReg _ _, rfl⟩
    exact congrArg (BitVec.setWidth 64) (s.beforeCk_ceCount hne)
  case low => exact ⟨_, s.exec_pairedLowWordWrite r v habs, rfl⟩

/-! ## The hold tree -/

section Hold
variable (s : State)

theorem State.holdEdge_due {t0 : Nat} {rest : List (Nat × Bool)} {up : Bool} (h : s.hold.edges = (t0, up) :: rest)
    (hdue : t0 + 6 ≤ s.now) (hgrp : s.grp.running = false) : s.holdEdge up = s.setFrozen up rest := by
  rw [State.holdEdge, h]
  dsimp only
  rw [if_pos (by simp [hdue]), hgrp, if_neg Bool.false_ne_true]

theorem State.holdEdge_early {t0 : Nat} {v : Bool} {rest : List (Nat × Bool)} (up : Bool) (h : s.hold.edges = (t0, v) :: rest)
    (hearly : s.now < t0 + 6) : s.holdEdge up = s := by
  rw [State.holdEdge, h]
  exact if_neg (by simp; omega)

end Hold

/-- Settles O7: the oldest edge is due, or comes too early; the watchdog faults the holders in their order. -/
theorem holdTree : Obligations.HoldTree := by
  unfold Obligations.HoldTree
  refine ⟨fun t0 rest s he hdue hgrp => ⟨_, congrArg Host.Outcome.next (s.holdEdge_due he hdue hgrp), rfl⟩,
    fun t0 rest s he hdue hgrp => ⟨_, congrArg Host.Outcome.next (s.holdEdge_due he hdue hgrp), rfl⟩,
    fun t0 v rest s he hearly => ⟨congrArg Host.Outcome.next (s.holdEdge_early true he hearly),
      congrArg Host.Outcome.next (s.holdEdge_early false he hearly)⟩,
    fun s hgrp htree hdue hne => congrArg Host.Outcome.next (if_pos ?_), fun s hnone => congrArg Host.Outcome.next (if_neg ?_)⟩
  · simp [hgrp, htree, hdue, List.isEmpty_eq_false_iff.2 hne]
  · simp [hnone]

/-! ## Streams -/

section Streams
variable (s : State)

/-- The ledger writer takes bands off the list, and no more of the bell. -/
theorem State.finaliseList_bell (l : List BandRec) :
    (s.finaliseList l).bell = { s.bell with bands := (s.finaliseList l).bell.bands } := by
  induction l generalizing s with
  | nil => rfl
  | cons b l ih =>
    rw [State.finaliseList]
    split
    · rw [ih, (s.ledgerBand_frame b _).bell rfl]
    · rfl

theorem State.finalise_bell : s.finalise.bell = { s.bell with bands := s.finalise.bell.bands } := s.finaliseList_bell _

/-- BELL messages leave the bell as it is. -/
theorem State.foldl_sendBell_bell (l : List BandRec) (m : State → BandRec → BellMsg) :
    (l.foldl (fun t r => t.sendBell (m t r)) s).bell = s.bell :=
  (Frame.foldl 134218756 s (fun t r => t.sendBell (m t r)) l s (Frame.refl _ _)
    fun t _ h => State.sendBell_step _ _ t _ h rfl).bell rfl

/-- What a reversal's end keeps of the stream: its phase and its last band. -/
theorem State.closeReversal_stream :
    s.closeReversal.bell.phase = s.bell.phase ∧ s.closeReversal.bell.lastBand = s.bell.lastBand := by
  unfold State.closeReversal
  split
  · exact ⟨rfl, rfl⟩
  extract_lets rev s1
  have h1 : s1.bell.phase = s.bell.phase ∧ s1.bell.lastBand = s.bell.lastBand := by
    unfold s1
    rw [State.finalise_bell]
    exact ⟨rfl, rfl⟩
  split
  · rw [State.foldl_sendBell_bell]
    exact h1
  · exact h1

theorem State.maybeDrain_stream :
    s.maybeDrain.bell.lastBand = s.bell.lastBand ∧
      (s.maybeDrain.bell.phase = s.bell.phase ∨ s.maybeDrain.bell.phase = .draining) := by
  unfold State.maybeDrain
  extract_lets begins s1
  split
  · exact ⟨s.closeReversal_stream.2, .inr rfl⟩
  · exact ⟨rfl, .inl rfl⟩

/-- A stream that ends does so after the band named: it is ending, or draining already. -/
theorem State.endStreamAt_bell (last : W48) :
    (s.endStreamAt last).bell.lastBand = some last ∧ (s.endStreamAt last).bell.phase ≠ .running := by
  obtain ⟨hlast, hphase⟩ := (s.updBell (fun b => { b with phase := .ending, lastBand := some last })).maybeDrain_stream
  refine ⟨hlast, ?_⟩
  unfold State.endStreamAt
  obtain h | h := hphase
  · rw [h]
    exact StreamPhase.noConfusion
  · rw [h]
    exact StreamPhase.noConfusion

theorem State.endStream_assembling {b : BandRec} (hp : s.bell.phase = .running) (h : s.assembling = some b) :
    s.endStream = s.endStreamAt b.num := by
  rw [State.endStream, if_pos hp, h]

theorem State.endStream_between (hp : s.bell.phase = .running) (h : s.assembling = none) (ht : s.grp.ticks = []) :
    s.endStream = s.endStreamAt (s.bandNum - 1) := by
  rw [State.endStream, if_pos hp, h, ht]
  rfl

theorem State.abortStream_assembling {b : BandRec} (hp : s.bell.phase = .running) (h : s.assembling = some b) :
    s.abortStream = (s.dropAssembly ⟨2, 0, 0⟩).endStreamAt (b.num - 1) := by
  rw [State.abortStream, if_pos (by simp [hp]), h]

theorem State.abortStream_between (hp : s.bell.phase = .running) (h : s.assembling = none) (hl : s.bell.lastBand = none) :
    s.abortStream = s.endStream := by
  have hnone : s.bell.bands.find? (fun r => s.bell.lastBand == some r.num && r.phase == .waiting) = none := by simp [hl]
  rw [State.abortStream, if_pos (by simp [hp]), h]
  dsimp only
  rw [hnone]

theorem State.streamWrite_alone (aborted : Bool) (f : State → State) (h : s.grp.running = false) :
    s.streamWrite aborted f = f s := by
  simp [State.streamWrite, h]

theorem State.exec_eos {c : Instr} (hc : c = .belEos ∨ c = .belRunClear) (hrun : s.runBit = true) (hgrp : s.grp.running = false) :
    exec c s = .next s.endStream := by
  have h : s.writeEos = s.endStream := by rw [State.writeEos, if_pos hrun, s.streamWrite_alone _ _ hgrp]
  obtain rfl | rfl := hc
  · exact congrArg Host.Outcome.next h
  · exact congrArg Host.Outcome.next h

theorem State.exec_abort (hrun : s.runBit = true) (hgrp : s.grp.running = false) : exec .belAbort s = .next s.abortStream := by
  have h : s.writeAbort = s.abortStream := by rw [State.writeAbort, if_pos hrun, s.streamWrite_alone _ _ hgrp]
  exact congrArg Host.Outcome.next h

theorem State.activate_not_due (h : s.activationDue = false) : s.activate = s := by
  rw [State.activate, h, if_neg Bool.false_ne_true]

theorem State.runSet_refused (hrun : s.runBit = false) (hact : s.activationDue = false) (hmay : s.mayRun = false) :
    s.runSet = s.cfgIgnored := by
  rw [State.runSet, hrun, if_neg Bool.false_ne_true, s.activate_not_due hact, if_pos hmay]

theorem State.runSet_opens (hrun : s.runBit = false) (hact : s.activationDue = false) (hmay : s.mayRun = true)
    (hgrp : s.grpMode = false) : s.runSet = s.openStream := by
  rw [State.runSet, hrun, if_neg Bool.false_ne_true, s.activate_not_due hact, if_neg (by simp [hmay]), hgrp]
  rfl

/-- H stands at P, RUN reads 1, and the line number is as it was. -/
theorem State.openStream_regs (hs : s.canonical = true) :
    s.openStream.runBit = true ∧ s.openStream.hwm = s.posP ∧ s.openStream.bell.firstLine = s.lineNum := by
  have hcanon : (s.setBits aBelCtrl 0x100).canonical = true := (s.setBits_frame _ _).canonical hs
  have hreg : ∀ a, s.openStream.reg a = ((s.setBits aBelCtrl 0x100).setReg48 aBelEncHwm s.posP).reg a :=
    State.reg_congr rfl rfl
  refine ⟨?_, (State.reg48_congr (hreg _) (hreg _)).trans (State.reg48_setReg48_same _ aBelEncHwm s.posP hcanon), ?_⟩
  · rw [State.runBit, hreg, State.reg_setReg48_other _ _ _ _ (by decide) (by decide),
      s.reg_setBits_same _ _ (s.canonical_regs hs), bit_or]
    exact Bool.or_true _
  · exact (State.reg48_setReg48_other _ aBelEncHwm aBelLineNum s.posP (.inl (by decide))).trans
      (State.reg48_congr (s.reg_setBits_other _ _ _ (by decide)) (s.reg_setBits_other _ _ _ (by decide)))

end Streams

/-- Settles O5: RUN opens or is refused; every end of a stream is `State.endStreamAt` of the band it names. -/
theorem streamControl : Obligations.StreamControl := by
  unfold Obligations.StreamControl
  refine ⟨fun s hs hrun hact hmay hgrp => ?opens, fun s hs hrun hact hmay => ?refused, fun c s hc hrun hgrp hp ha ht => ?eosBetween,
    fun c b s hc hrun hgrp hp ha => ?eosBand, fun b s hrun hgrp hp ha => ?abortBand, fun s hrun hgrp hp ha ht hl => ?abortBetween,
    fun s hrun => ?none_⟩
  case opens =>
    obtain ⟨hbit, hhwm, hline⟩ := s.openStream_regs hs
    exact ⟨_, congrArg Host.Outcome.next (s.runSet_opens hrun hact hmay hgrp), hbit, rfl, rfl, hhwm, hline, rfl, rfl⟩
  case refused =>
    exact ⟨_, congrArg Host.Outcome.next (s.runSet_refused hrun hact hmay), rfl, s.reg_setBits_same _ _ (s.canonical_regs hs),
      s.regsBut_setBits _ _⟩
  case eosBetween =>
    exact ⟨_, (s.exec_eos hc hrun hgrp).trans (congrArg _ (s.endStream_between hp ha ht)), s.endStreamAt_bell _⟩
  case eosBand =>
    exact ⟨_, (s.exec_eos hc hrun hgrp).trans (congrArg _ (s.endStream_assembling hp ha)), s.endStreamAt_bell _⟩
  case abortBand =>
    exact ⟨_, (s.exec_abort hrun hgrp).trans (congrArg _ (s.abortStream_assembling hp ha)), State.endStreamAt_bell _ _⟩
  case abortBetween =>
    exact ⟨_, (s.exec_abort hrun hgrp).trans (congrArg _ ((s.abortStream_between hp ha hl).trans (s.endStream_between hp ha ht))),
      s.endStreamAt_bell _⟩
  case none_ =>
    have hstill : s.writeEos = s ∧ s.writeAbort = s := by simp [State.writeEos, State.writeAbort, hrun]
    exact ⟨congrArg Host.Outcome.next hstill.1, congrArg Host.Outcome.next hstill.1, congrArg Host.Outcome.next hstill.2⟩

/-! ## Encoders, ticks, waits -/

section Encoders
variable (s : State)

theorem State.encPos_setEnc (n : Nat) (p : W48) (hs : s.canonical = true) : (s.setReg48 (aBelEncPos n) p).encPos n = p :=
  s.reg48_setReg48_same _ p hs

/-- BEL_CTRL and the registers of H are no encoder's. -/
theorem State.encSel_setEnc (n : Nat) (p : W48) : (s.setReg48 (aBelEncPos n) p).encSel = s.encSel := by
  rw [State.encSel, State.reg_setReg48_other _ _ _ _ (by simp only [aBelEncPos, aBelCtrl]; omega) (by simp only [aBelEncPos, aBelCtrl]; omega)]
  rfl

theorem State.srcSel_setEnc (n : Nat) (p : W48) : (s.setReg48 (aBelEncPos n) p).srcSel = s.srcSel := by
  rw [State.srcSel, State.reg_setReg48_other _ _ _ _ (by simp only [aBelEncPos, aBelCtrl]; omega) (by simp only [aBelEncPos, aBelCtrl]; omega)]
  rfl

theorem State.hwm_setEnc (n : Nat) (p : W48) (hn : n < 4) : (s.setReg48 (aBelEncPos n) p).hwm = s.hwm :=
  s.reg48_setReg48_other _ _ p (.inr (by simp only [aBelEncPos, aBelEncHwm]; omega))

theorem State.posP_setEnc {n : Nat} (p : W48) (hs : s.canonical = true) (h : n = s.encSel) :
    (s.setReg48 (aBelEncPos n) p).posP = p := by
  rw [State.posP, s.encSel_setEnc, ← h, s.encPos_setEnc n p hs]

theorem State.encDiv_setEnc (n : Nat) (p : W48) : (s.setReg48 (aBelEncPos n) p).encDiv = s.encDiv := by
  rw [State.encDiv, State.regN, State.reg_setReg48_other _ _ _ _ (by simp only [aBelEncPos, aBelEncDiv]; omega)
    (by simp only [aBelEncPos, aBelEncDiv]; omega)]
  rfl

theorem State.lineNum_setEnc (n : Nat) (p : W48) : (s.setReg48 (aBelEncPos n) p).lineNum = s.lineNum :=
  s.reg48_setReg48_other _ _ p (.inl (by simp only [aBelEncPos, aBelLineNum]; omega))

theorem State.revHyst_setEnc (n : Nat) (p : W48) : (s.setReg48 (aBelEncPos n) p).revHyst = s.revHyst := by
  rw [State.revHyst, State.regN, State.reg_setReg48_other _ _ _ _ (by simp only [aBelEncPos, aBelRevHyst]; omega)
    (by simp only [aBelEncPos, aBelRevHyst]; omega)]
  rfl

theorem State.encCount_unselected {n : Nat} (a : Bool) (hn : n < s.ident.encoders) (h : n ≠ s.encSel) :
    s.encCount n a = s.setReg48 (aBelEncPos n) (if a then s.encPos n + 1 else s.encPos n - 1) := by
  have hsel : (n == s.encSel) = false := by simpa using h
  rw [State.encCount, if_neg (Nat.not_le.2 hn)]
  simp [hsel]

/-- A count up of the selected encoder (R24): H follows, or a reversal is looked for. -/
theorem State.encCount_up {n : Nat} {a : Bool} (hn : n < s.ident.encoders) (h : n = s.encSel) (ha : a ≠ s.encDir) :
    s.encCount n a =
      let s1 := s.setReg48 (aBelEncPos n) (s.encPos n + 1)
      if s1.srcSel ≠ 1 && w48lt s1.hwm s1.posP then s1.rose else s1.reversalCheck := by
  have hup : (if (true && s.encDir) = true then !a else a) = true := by
    revert ha
    cases a <;> cases s.encDir <;> simp
  have hsel : (n == s.encSel) = true := beq_iff_eq.2 h
  rw [State.encCount, if_neg (Nat.not_le.2 hn)]
  simp only [hsel, hup, if_true, Bool.not_true, Bool.false_eq_true, if_false]

theorem State.encCount_within {n : Nat} {a : Bool} (hs : s.canonical = true) (hn : n < s.ident.encoders) (hn4 : n < 4)
    (h : n = s.encSel) (ha : a ≠ s.encDir) (hle : w48lt s.hwm (s.encPos n + 1) = false)
    (hnear : (s.hwm - (s.encPos n + 1)).toNat < s.revHyst) :
    s.encCount n a = s.setReg48 (aBelEncPos n) (s.encPos n + 1) := by
  rw [s.encCount_up hn h ha]
  dsimp only
  rw [s.hwm_setEnc n _ hn4, s.posP_setEnc _ hs h, hle, Bool.and_false, if_neg Bool.false_ne_true, State.reversalCheck,
    State.below, s.hwm_setEnc n _ hn4, s.posP_setEnc _ hs h, s.revHyst_setEnc]
  refine if_neg fun hbegins => ?_
  simp only [Bool.and_eq_true, decide_eq_true_eq] at hbegins
  exact Nat.not_le.2 hnear hbegins.2

/-- P passes H with no tick due: H follows and the accumulator takes one count; strobes change neither. -/
theorem State.rose_of_no_tick (hrev : s.bell.reversal = none) (hacc : s.bell.tickAcc + 65536 < s.encDiv) :
    s.rose.regs = (s.setReg48 aBelEncHwm s.posP).regs ∧ s.rose.ident = s.ident ∧
      s.rose.bell = { s.bell with tickAcc := s.bell.tickAcc + 65536 } := by
  unfold State.rose
  extract_lets s1
  have hcr : s1.closeReversal = s1 := by rw [State.closeReversal]; simp [s1, hrev]
  have hdiv : s1.strobesAll.encDiv = s.encDiv := by
    have hreg : s1.strobesAll.reg aBelEncDiv = s.reg aBelEncDiv :=
      (State.reg_congr (State.strobesAll_frame s1).ident ((State.strobesAll_frame s1).regs rfl) _).trans
        (s.reg_setReg48_other aBelEncHwm aBelEncDiv s.posP (by decide) (by decide))
    rw [State.encDiv, State.regN, hreg]
    rfl
  have hbell : s1.strobesAll.bell = { s.bell with tickAcc := s.bell.tickAcc + 65536 } := (State.strobesAll_frame s1).bell rfl
  have hdrain : s1.strobesAll.drainAcc =
      s1.strobesAll.updBell (fun b => { b with tickAcc := b.tickAcc % s1.strobesAll.encDiv }) := by
    rw [State.drainAcc, hdiv, hbell, Nat.div_eq_of_lt hacc, State.issueTicks, ite_self]
  rw [hcr, hdrain]
  refine ⟨(State.strobesAll_frame s1).regs rfl, (State.strobesAll_frame s1).ident, ?_⟩
  rw [State.updBell_bell, hbell, hdiv]
  dsimp only
  rw [Nat.mod_eq_of_lt hacc]

/-! ### What a tick leaves of the timer (R29) -/

theorem State.closeMissing_timerDue (n : Nat) (o : OpenTick) (bad : Bool) :
    (s.closeMissing n o bad).bell.timerDue = s.bell.timerDue := by
  unfold State.closeMissing
  dsimp only
  split <;> rfl

theorem State.bandTick_timerDue (st : Stamp) : (s.bandTick st).bell.timerDue = s.bell.timerDue := by
  unfold State.bandTick
  split <;> rfl

theorem State.camTick_timerDue (f : Bool) (o : OpenTick) (n : Nat) : (s.camTick f o n).bell.timerDue = s.bell.timerDue := by
  unfold State.camTick
  extract_lets live inSet s1 _ s2
  have h1 : s1.bell.timerDue = s.bell.timerDue := by
    unfold s1
    split <;> rfl
  split
  · exact h1
  split
  · exact (s2.closeMissing_timerDue n o false).trans h1
  · exact h1

theorem State.foldl_camTick_timerDue (f : Bool) (o : OpenTick) (l : List Nat) :
    (l.foldl (fun t n => t.camTick f o n) s).bell.timerDue = s.bell.timerDue := by
  induction l generalizing s with
  | nil => rfl
  | cons n l ih => exact (ih _).trans (s.camTick_timerDue f o n)

theorem State.bandFull_timerDue : s.bandFull.bell.timerDue = s.bell.timerDue := by
  unfold State.bandFull
  split
  · rfl
  split <;> rfl

theorem State.applyTick_timerDue (line pos : W48) : (s.applyTick line pos).bell.timerDue = s.bell.timerDue := by
  unfold State.applyTick
  extract_lets st _ s1 s2 band h frameStart o s3 s4 s5
  have h3 : s3.bell.timerDue = s.bell.timerDue :=
    (s2.foldl_camTick_timerDue frameStart o _).trans (s1.bandTick_timerDue st)
  have h5 : s5.bell.timerDue = s.bell.timerDue := by
    unfold s5
    split
    · exact h3
    · exact h3
  exact s5.bandFull_timerDue.trans h5

theorem State.issueTick_timerDue : s.issueTick.bell.timerDue = s.bell.timerDue := by
  unfold State.issueTick
  extract_lets slot line m _ s1 s2 _ s3
  have h2 : s2.bell = s.bell := (s1.sendMsg_frame _ _).bell rfl
  have h3 : s3.bell.timerDue = s.bell.timerDue := s.applyTick_timerDue _ _
  split
  · split
    · rw [(State.driveBell_frame _ slot).bell rfl]
      exact congrArg BellState.timerDue h2
    · exact congrArg BellState.timerDue h2
  · split
    · rw [(State.driveBell_frame _ slot).bell rfl]
      exact h3
    · exact h3

/-! ### Open ticks of a port (R34; 06 R277) -/

theorem State.lineWait_late {n : Cam} {o : OpenTick} (h : (s.cam n.val).open_.head? = some o) (hlate : o.at_ + s.camWait < s.now) :
    exec (.cameraLineWaitExpiry n) s = .next (s.closeMissing n.val o false) := by
  show execCameraLineWaitExpiry n s = _
  rw [execCameraLineWaitExpiry, h]
  exact congrArg Host.Outcome.next (if_pos hlate)

theorem State.lineWait_now {n : Cam} {o : OpenTick} (h : (s.cam n.val).open_.head? = some o) (hnow : o.at_ + s.camWait = s.now) :
    exec (.cameraLineWaitExpiry n) s = .next (s.setCam n.val { s.cam n.val with expires := true }) := by
  show execCameraLineWaitExpiry n s = _
  rw [execCameraLineWaitExpiry, h]
  exact congrArg Host.Outcome.next ((if_neg (by omega)).trans (if_pos hnow))

theorem State.lineWait_early {n : Cam} {o : OpenTick} (h : (s.cam n.val).open_.head? = some o) (hearly : s.now < o.at_ + s.camWait) :
    exec (.cameraLineWaitExpiry n) s = .next s := by
  show execCameraLineWaitExpiry n s = _
  rw [execCameraLineWaitExpiry, h]
  exact congrArg Host.Outcome.next ((if_neg (by omega)).trans (if_neg (by omega)))

theorem State.lineWait_none {n : Cam} (h : (s.cam n.val).open_ = []) : exec (.cameraLineWaitExpiry n) s = .next s := by
  show execCameraLineWaitExpiry n s = _
  rw [execCameraLineWaitExpiry, h]
  rfl

/-- A tick that closes as missing is counted and leaves the port's open ticks (06 R277, R281). -/
theorem State.closeMissing_closes (n : Nat) (o : OpenTick) (bad : Bool) (hs : s.canonical = true) :
    s.closeMissing n o bad =
        { s with
          regs := (s.closeMissing n o bad).regs, born := (s.closeMissing n o bad).born
          gth := (s.closeMissing n o bad).gth, bell := (s.closeMissing n o bad).bell } ∧
      ((s.closeMissing n o bad).cam n).open_ = (s.cam n).open_.filter (fun x => x.line != o.line) ∧
      (s.closeMissing n o bad).reg (aCam n + 0x20) = satAdd (s.reg (aCam n + 0x20)) 1 ∧
      RegsBut s (s.closeMissing n o bad) [aCam n + 0x20] := by
  have hopen := congrArg CamState.open_ (State.cam_setCam_same (s.count (aCam n + 0x20) 1) n
    { s.cam n with open_ := (s.cam n).open_.filter (fun x => x.line != o.line) } (s.canonical_cam hs))
  have hcount := s.reg_count_same (aCam n + 0x20) 1 (s.canonical_regs hs)
  unfold State.closeMissing
  dsimp only
  split
  · exact ⟨rfl, hopen, hcount, s.regsBut_count _ 1⟩
  · exact ⟨rfl, hopen, hcount, s.regsBut_count _ 1⟩

/-! ### Index pulses (R28) -/

theorem State.zPulse_selected {n : Nat} (hn : n < s.ident.encoders) (h : n = s.encSel) :
    s.zPulse n = { s with regs := (s.zPulse n).regs, born := (s.zPulse n).born, bell := (s.zPulse n).bell } ∧
      (s.zPulse n).bell.zRef = some s.posP ∧ (s.zPulse n).bell.bands = s.bell.bands := by
  have hpos : (s.count aBelEncZErr 1).posP = s.posP := by
    have hsel : (s.count aBelEncZErr 1).encSel = s.encSel :=
      congrArg (fld · 4 2) (s.reg_count_other aBelEncZErr 1 aBelCtrl (by decide))
    have hlt : s.encSel < 4 := fld_lt _ 4 2
    rw [State.posP, hsel]
    exact State.reg48_congr (s.reg_count_other _ _ _ (by simp only [aBelEncPos, aBelEncZErr]; omega))
      (s.reg_count_other _ _ _ (by simp only [aBelEncPos, aBelEncZErr]; omega))
  have hgo : ¬ ((decide (s.ident.encoders ≤ n) || decide (n ≠ s.encSel)) = true) := by simp [h ▸ hn, h]
  rw [State.zPulse, if_neg hgo]
  extract_lets want s1 p
  have h1 : s1 = s.count aBelEncZErr 1 ∨ s1 = s := by
    unfold s1
    split
    · split
      · exact .inl rfl
      · exact .inr rfl
    · exact .inr rfl
  unfold p
  obtain h1 | h1 := h1
  · rw [h1]
    exact ⟨rfl, congrArg some hpos, rfl⟩
  · rw [h1]
    exact ⟨rfl, rfl, rfl⟩

theorem State.zPulse_other {n : Nat} (h : n ≠ s.encSel) : s.zPulse n = s := if_pos (by simp [h])

end Encoders

/-- Settles O3: a count of an encoder that is not selected, one below H and one above it; each timer tick and each wait by its
three times. -/
theorem encodersAndTicks : Obligations.EncodersAndTicks := by
  unfold Obligations.EncodersAndTicks
  refine ⟨fun n a s hs hn h => ?other, fun n a s hs hn h ha hle hnear => ?within, fun n a s hs hn h ha hsrc hlt hrev hacc => ?above,
    fun n s hn h => ⟨_, rfl, s.zPulse_selected hn h⟩, fun n s h => congrArg Host.Outcome.next (s.zPulse_other h),
    fun s hsrc hticks hdue => ?timer, fun s hearly => congrArg Host.Outcome.next (if_neg ?early),
    fun s hsrc => congrArg Host.Outcome.next (if_neg ?source),
    fun n o s hs h hlate => ⟨_, s.lineWait_late h hlate, s.closeMissing_closes n.val o false hs⟩, fun n o s => s.lineWait_now,
    fun n o s => s.lineWait_early, fun n s => s.lineWait_none⟩
  case other =>
    exact ⟨_, congrArg Host.Outcome.next (s.encCount_unselected a hn h), rfl, s.encPos_setEnc _ _ hs, s.regsBut_setReg48 _ _⟩
  case within =>
    exact ⟨_, congrArg Host.Outcome.next (s.encCount_within hs hn n.isLt h ha hle hnear), rfl, s.encPos_setEnc _ _ hs,
      s.regsBut_setReg48 _ _⟩
  case above =>
    have hcanon := (s.setReg48_frame (aBelEncPos n.val) (s.encPos n.val + 1)).canonical hs
    have hpos := s.posP_setEnc (s.encPos n.val + 1) hs h
    have hrise : s.encCount n.val a = (s.setReg48 (aBelEncPos n.val) (s.encPos n.val + 1)).rose := by
      rw [s.encCount_up hn h ha]
      exact if_pos (by rw [s.srcSel_setEnc, s.hwm_setEnc _ _ n.isLt, hpos, hlt, hsrc]; rfl)
    have hline := s.lineNum_setEnc n.val (s.encPos n.val + 1)
    have henc := s.encPos_setEnc n.val (s.encPos n.val + 1) hs
    obtain ⟨hregs, hident, hbell⟩ := State.rose_of_no_tick (s.setReg48 (aBelEncPos n.val) (s.encPos n.val + 1)) hrev
      (by rw [s.encDiv_setEnc]; exact hacc)
    refine ⟨_, congrArg Host.Outcome.next hrise, ?_⟩
    rw [State.setReg48_bell] at hbell
    generalize s.setReg48 (aBelEncPos n.val) (s.encPos n.val + 1) = u at *
    have hreg := State.reg_congr (s := u.setReg48 aBelEncHwm u.posP) hident hregs
    refine ⟨?_, ?_, congrArg BellState.tickAcc hbell, ?_, by rw [hbell]⟩
    · exact (State.reg48_congr (hreg _) (hreg _)).trans ((u.reg48_setReg48_same _ _ hcanon).trans hpos)
    · exact (State.reg48_congr (hreg _) (hreg _)).trans ((u.reg48_setReg48_other _ _ _
        (.inl (by simp only [aBelEncPos, aBelEncHwm]; omega))).trans henc)
    · exact (State.reg48_congr (hreg _) (hreg _)).trans ((u.reg48_setReg48_other _ _ _ (.inl (by decide))).trans hline)
  case timer =>
    have hframe := State.issueTick_frame (s.updBell (fun b => { b with timerDue := b.timerDue + max 1000 (s.regN aBelTimerPeriod) }))
    exact ⟨_, congrArg Host.Outcome.next (if_pos (by simp [hsrc, hticks, hdue])), State.issueTick_timerDue _, hframe.now rfl,
      hframe.mem rfl⟩
  case early => simp [hearly]
  case source => simp [hsrc]

end Sys2Proof.Machine
end

section
/-!
PROOF. The terrace: sequencer instructions on queues and tokens (03 R154-R169), transport (03 R131-R146), arbor, cistern and gate
instructions (03 R159-R164; 05), bands and swaps (03 R171-R173), HBM responses and snapshots (04 R226-R231; 03 R182).
-/
namespace Sys2Proof.Machine

/-! ## Sparse tables in any form -/

/-- A value that is not the default reads back, whatever form the table has. -/
theorem Tab.get_put_same_of_ne {α : Type} [DecidableEq α] (d : Nat → α) (m : Tab α) (k : Nat) (v : α) (hv : v ≠ d k) :
    Tab.get d (Tab.put d m k v) k = v := by
  induction m with
  | nil => simp [Tab.put, hv, Tab.get]
  | cons e m ih =>
    obtain ⟨j, w⟩ := e
    rw [Tab.put]
    split
    · simp [Tab.get]
    · split
      · simp [Tab.get]
      · next hjk => simp [Tab.get, Ne.symm hjk, ih]

/-- A value that is not the default is listed. -/
theorem Tab.mem_of_get_ne {α : Type} (d : Nat → α) (m : Tab α) (k : Nat) (h : Tab.get d m k ≠ d k) : (k, Tab.get d m k) ∈ m := by
  induction m with
  | nil => exact absurd rfl h
  | cons e m ih =>
    obtain ⟨j, w⟩ := e
    rw [Tab.get] at h ⊢
    split
    · next hj => exact hj ▸ List.mem_cons_self
    · next hj =>
      rw [if_neg hj] at h
      exact List.mem_cons_of_mem _ (ih h)

theorem Tab.get_of_wfFrom_lt {α : Type} [DecidableEq α] (d : Nat → α) (m : Tab α) {lo k : Nat} (h : Tab.wfFrom d lo m = true)
    (hk : k < lo) : Tab.get d m k = d k := by
  induction m generalizing lo with
  | nil => rfl
  | cons e m ih =>
    obtain ⟨j, w⟩ := e
    simp only [Tab.wfFrom, Bool.and_eq_true, decide_eq_true_eq] at h
    rw [Tab.get, if_neg (by omega)]
    exact ih h.2 (by omega)

/-- Changing every listed value changes every value, where the default stays the default. -/
theorem Tab.get_mapV {α : Type} [DecidableEq α] (d : α) (f : Nat → α → α) (m : Tab α) (k : Nat) (hf : f k d = d)
    (hm : Tab.wf (fun _ => d) m = true) : Tab.at_ d (Tab.mapV d f m) k = f k (Tab.at_ d m k) := by
  have key : ∀ (m : Tab α) (lo : Nat), Tab.wfFrom (fun _ => d) lo m = true →
      Tab.at_ d (Tab.mapV d f m) k = f k (Tab.at_ d m k) := by
    intro m
    induction m with
    | nil => exact fun _ _ => hf.symm
    | cons e m ih =>
      obtain ⟨j, w⟩ := e
      intro lo h
      simp only [Tab.wfFrom, Bool.and_eq_true, decide_eq_true_eq] at h
      obtain ⟨-, hrest⟩ := h
      have ihm := ih _ hrest
      unfold Tab.mapV Tab.at_ at ihm ⊢
      rw [List.map_cons, List.filter_cons]
      by_cases hjk : j = k
      · subst hjk
        have hpast := Tab.get_of_wfFrom_lt _ _ hrest (Nat.lt_succ_self j)
        rw [Tab.get, if_pos rfl]
        split
        · rw [Tab.get, if_pos rfl]
        · next hdef =>
          rw [ihm, hpast, hf]
          simpa using Eq.symm (by simpa using hdef : f j w = d)
      · rw [Tab.get, if_neg hjk]
        split
        · rw [Tab.get, if_neg hjk, ihm]
        · exact ihm
  exact key m 0 hm

section Lemmas
variable (s : State)

/-! ## Runs of a tile -/

theorem State.bringBack_tileOnly (k : Nat) (t : Tile) : s.bringBack k ⟨t, [], [], [], []⟩ = s.setTile k t := by
  rw [State.bringBack]
  simp only [List.append_nil, List.foldl_nil]

theorem State.change_eq (k : Nat) (f : Tile → Tile) : s.change k f = s.setTile k ((f (s.tile k)).after 1) := by
  rw [State.change, State.runOne, State.runCounted]
  dsimp only
  rw [if_neg (by omega)]
  exact s.bringBack_tileOnly k _

/-- The first step of an instruction of `m` steps goes. -/
theorem State.runCounted_ok {k m cost : Nat} {f : TEnv → Nat → TileRun → StepRes} {r : TileRun} (hsteps : (s.tile k).steps = 0)
    (hf : f (s.tenv k) 0 (s.fresh_ k) = .ok r) : s.runCounted k m cost f = s.stepped k m cost r := by
  have hf' : f (s.tenv k) (s.tile k).steps (TileRun.of (s.tile k)) = .ok r := by rw [hsteps]; exact hf
  rw [State.runCounted, hf']
  dsimp only
  rw [hsteps, State.stepped]
  split
  · rfl
  · rfl

theorem State.runCounted_lack {k m cost : Nat} {f : TEnv → Nat → TileRun → StepRes} {qs : List Nat} {credit : Bool}
    (hsteps : (s.tile k).steps = 0) (hf : f (s.tenv k) 0 (s.fresh_ k) = .lack qs credit) :
    s.runCounted k m cost f = s.lacking k m qs credit := by
  have hf' : f (s.tenv k) (s.tile k).steps (TileRun.of (s.tile k)) = .lack qs credit := by rw [hsteps]; exact hf
  rw [State.runCounted, hf']
  dsimp only
  rw [hsteps]
  rfl

theorem State.runOne_ok {k : Nat} {f : TEnv → TileRun → StepRes} {r : TileRun} (hsteps : (s.tile k).steps = 0)
    (hf : f (s.tenv k) (s.fresh_ k) = .ok r) : s.runOne k f = s.stepped k 1 1 r :=
  s.runCounted_ok (f := fun e _ x => f e x) hsteps hf

theorem State.runOne_lack {k : Nat} {f : TEnv → TileRun → StepRes} {qs : List Nat} {credit : Bool}
    (hsteps : (s.tile k).steps = 0) (hf : f (s.tenv k) (s.fresh_ k) = .lack qs credit) : s.runOne k f = s.lacking k 1 qs credit :=
  s.runCounted_lack (f := fun e _ x => f e x) hsteps hf

/-- What a token given to the die link leaves of a tile: all but its queue 8. -/
theorem State.busy_linkOut (k j : Nat) (f : Flight) (hs : s.canonical = true) : ((s.linkOut j f).tile k).busy = (s.tile k).busy := by
  rw [State.linkOut]
  split
  · next i _ _ =>
    by_cases hik : k = i
    · subst hik
      rw [State.onTile, s.tile_setTile_same _ _ (s.canonical_tile hs)]
      rfl
    · rw [State.onTile, s.tile_setTile_other _ _ _ hik]
  · split <;> rfl

theorem State.busy_foldl_linkOut (k j : Nat) (l : List Flight) (hs : s.canonical = true) :
    ((l.foldl (fun t f => t.linkOut j f) s).tile k).busy = (s.tile k).busy := by
  induction l generalizing s with
  | nil => rfl
  | cons f l ih => exact (ih _ ((s.linkOut_frame j f).canonical hs)).trans (s.busy_linkOut k j f hs)

theorem State.busy_bringBack (k : Nat) (r : TileRun) (hs : s.canonical = true) :
    ((s.bringBack k r).tile k).busy = r.t.busy := by
  unfold State.bringBack
  extract_lets s1 s2 s3
  have h1 : s1.canonical = true :=
    (State.setTile_frame ({ s with sideband := s.sideband ++ r.side } : State) k r.t).canonical hs
  have h2 : Frame 2097152 s1 s2 :=
    Frame.foldl _ _ _ _ _ (Frame.refl _ _) fun t row h => State.cancelTileRow_step _ _ t k row h rfl
  have h3 : Frame 2097152 s1 s3 :=
    Frame.foldl _ _ _ _ _ h2 fun t w h => State.hbmWrite_step _ _ t w.1 w.2 h rfl
  have htile : s3.tile k = r.t := by
    rw [State.tile, h3.tiles rfl]
    exact State.tile_setTile_same _ k r.t (State.canonical_tile s hs)
  rw [s3.busy_foldl_linkOut k k r.link (h3.canonical h1), htile]

theorem State.busy_stepped (k m n : Nat) (r : TileRun) (hs : s.canonical = true) : ((s.stepped k m n r).tile k).busy = n := by
  rw [State.stepped, s.busy_bringBack k _ hs]
  split <;> rfl

/-! ## Words that a step reads -/

/-- What a step finds in the words of a tile changes its poison only. -/
theorem State.tile_eccFind_tile (t : TileLoc) (j : Fin 65536) (e : Ecc) (hs : s.canonical = true) :
    (s.eccFind (.tile t j) e).tile t.key = { s.tile t.key with poison := ((s.eccFind (.tile t j) e).tile t.key).poison } := by
  have hue : (s.findUe (.tile t j)).1.tile t.key =
      { s.tile t.key with poison := ((s.findUe (.tile t j)).1.tile t.key).poison } := by
    rw [State.findUe]
    split
    · rfl
    · next hp =>
      have htiles : ((s.setPoison (.tile t j)).count aGkpUeCount 1).tiles =
          (s.onTile t.key (fun x => { x with poison := j.val :: x.poison })).tiles := by
        rw [State.setPoison, if_neg hp]
        rfl
      have htile : ((s.setPoison (.tile t j)).count aGkpUeCount 1).tile t.key =
          { s.tile t.key with poison := j.val :: (s.tile t.key).poison } := by
        rw [State.tile, htiles]
        exact s.tile_setTile_same _ _ (s.canonical_tile hs)
      dsimp only
      rw [htile]
  have hce : (s.correct (.tile t j)).tiles = s.tiles := (s.correct_frame _).tiles rfl
  cases e with
  | clean => rfl
  | correctable =>
    have heq : s.eccFind (.tile t j) .correctable = if s.isPoisoned (.tile t j) then s else s.correct (.tile t j) := rfl
    rw [heq]
    split
    · rfl
    · rw [State.tile, hce]
      rfl
  | uncorrectable => exact hue
  | parityOnce => rfl
  | parityTwice => rfl

/-! ## Queues and tokens -/

/-- The head of a queue as an instruction sees it, of a kind it accepts. -/
theorem withHead_head {k q : Nat} {f : Flight} (credit : Bool) (g : Flight → StepRes) (h : UsableHead s k q f) :
    withHead (s.tenv k) q (s.fresh_ k) credit dataKind g = g f := by
  obtain ⟨hhead, hkind⟩ := h
  have hhead' : (s.fresh_ k).t.head q (s.tenv k).now = some f := hhead
  have hdata : dataKind (tagKind f.tok.tag) = true := by
    rcases hkind with hk | hk | hk <;> rw [hk] <;> rfl
  rw [withHead, hhead']
  exact if_pos hdata

variable {s}

theorem ReadyFor.noSteps {k : Nat} {o : TOp} (h : ReadyFor s k o) : (s.tile k).steps = 0 := h.2.2.1

theorem exec_tWaitq {t : TileLoc} {q : BitVec 3} {n : BitVec 5} (h : ReadyFor s t.key (.waitq q n)) :
    exec (.tWaitq t) s = .next (s.waitqRun t.key q.toNat (n.toNat + 1)) :=
  congrArg Host.Outcome.next (s.issue_of_ready h rfl fun _ _ => rfl)

theorem exec_tSend {t : TileLoc} {b : BitVec 2} {rt : BitVec 10} (h : ReadyFor s t.key (.send b rt)) :
    exec (.tSend t) s = .next (s.sendRun t.key b.toNat rt) :=
  congrArg Host.Outcome.next (s.issue_of_ready h rfl fun _ _ => rfl)

/-- A send from a tile without a credit of the route is not made. -/
theorem TileRun.send_noCredit (r : TileRun) (e : TEnv) {route : BitVec 10} (kind fmt : Nat) (last : Bool) (p : Line) (at_ : Nat)
    (h : r.t.creditsFree r.t.gen route = 0) : r.send e route kind fmt last p at_ = none := if_pos h

/-- The tile after an HREQ for `n` tokens of queue `q`. -/
def Tile.askHold (x : Tile) (q n : Nat) : Tile := if x.usable q < n then { x with holdReq := x.holdReq ++ [(q, n)] } else x

theorem exec_tHreq {t : TileLoc} {q : BitVec 3} {n : BitVec 5} (h : ReadyFor s t.key (.hreq q n)) :
    exec (.tHreq t) s = .next (s.setTile t.key (((s.tile t.key).askHold q.toNat (n.toNat + 1)).after 1)).holdUpdate := by
  refine congrArg Host.Outcome.next (s.issue_of_ready h rfl fun _ _ => ?_)
  exact congrArg State.holdUpdate (s.change_eq t.key (fun x => x.askHold q.toNat (n.toNat + 1)))

theorem State.holdUpdate_eq (s : State) : s.holdUpdate = { s with hold := s.holdUpdate.hold } := by
  rw [State.holdUpdate]
  dsimp only
  split <;> rfl

theorem State.holdUpdate_tree (s : State) : s.holdUpdate.hold.tree = s.holdWanted := by
  rw [State.holdUpdate]
  dsimp only
  split
  · next h => exact h.symm
  · rfl

/-- A tile that requests a hold makes the tree wanted. -/
theorem State.holdWanted_of_tile {k : Nat} (h : (s.tile k).holdReq ≠ []) : s.holdWanted = true := by
  have hne : Tab.get (fun _ => Tile.blank) s.tiles k ≠ Tile.blank := fun hb => h (by rw [State.tile, Tab.at_, hb]; rfl)
  refine List.any_eq_true.mpr ⟨_, Tab.mem_of_get_ne _ _ _ hne, ?_⟩
  simpa [State.tile] using h

end Lemmas

/-- Settles O11, an instruction at a time: the first step of each is the step its definition names. -/
theorem sequencerTokens : Obligations.SequencerTokens := by
  unfold Obligations.SequencerTokens
  refine ⟨fun t q n s h hn => ?waitqGoes, fun t q n s h hn hheld => ?waitqWaits, fun t q n s h hn hheld => ?waitqHeld,
    fun t q b f s h hf => ?recv, fun t q n f s h hf => ?drop, fun t b rt r s h hr => ?send, fun t b rt s h hc => ?sendWaits,
    fun t q n rt f r s h hf hr => ?fwd, fun t q n s hs h hn => ?hreqShort, fun t q n s hs h hn => ?hreqEnough⟩
  case waitqGoes => rw [Changes, exec_tWaitq h, State.waitqRun, if_pos hn, s.change_eq]
  case waitqWaits =>
    rw [exec_tWaitq h, State.waitqRun, if_neg (by omega), State.lacking]
    simp [hheld]
    rfl
  case waitqHeld =>
    rw [exec_tWaitq h, State.waitqRun, if_neg (by omega), State.lacking]
    simp [hheld]
  case recv =>
    refine congrArg Host.Outcome.next (s.issue_of_ready h rfl fun _ _ => ?_)
    exact s.runOne_ok h.noSteps (withHead_head s false _ hf)
  case drop =>
    refine congrArg Host.Outcome.next (s.issue_of_ready h rfl fun _ _ => ?_)
    exact s.runCounted_ok h.noSteps (withHead_head s false _ hf)
  case send =>
    refine (exec_tSend h).trans (congrArg Host.Outcome.next ?_)
    exact s.runOne_ok h.noSteps (congrArg sendStep hr)
  case sendWaits =>
    have hlack : sendBufStep b.toNat rt (s.tenv t.key) (s.fresh_ t.key) = .lack [] true :=
      congrArg sendStep (TileRun.send_noCredit _ _ _ _ _ _ _ hc)
    exact (exec_tSend h).trans (congrArg Host.Outcome.next (s.runOne_lack h.noSteps hlack))
  case fwd =>
    refine congrArg Host.Outcome.next (s.issue_of_ready h rfl fun _ _ => ?_)
    exact s.runCounted_ok h.noSteps ((withHead_head s _ _ hf).trans (congrArg sendStep hr))
  case hreqShort =>
    have hreq : ((s.setTile t.key (((s.tile t.key).askHold q.toNat (n.toNat + 1)).after 1)).tile t.key).holdReq =
        (s.tile t.key).holdReq ++ [(q.toNat, n.toNat + 1)] := by
      rw [s.tile_setTile_same _ _ (s.canonical_tile hs), Tile.askHold, if_pos hn]
      rfl
    refine ⟨_, exec_tHreq h, ?_, ?_, ?_⟩
    · rw [State.holdUpdate_eq]; rfl
    · rw [State.holdUpdate_eq]; exact hreq
    · rw [State.holdUpdate_tree]
      exact State.holdWanted_of_tile (k := t.key) (by rw [hreq]; simp)
  case hreqEnough =>
    refine ⟨_, exec_tHreq h, ?_, ?_⟩
    · rw [State.holdUpdate_eq]; rfl
    · rw [State.holdUpdate_eq]
      exact (s.tile_setTile_same _ _ (s.canonical_tile hs)).trans (by rw [Tile.askHold, if_neg (by omega)])


section Lemmas
variable {s : State}

/-! ## Transport -/

theorem State.hop_ready {k i : Nat} (u : BitVec 560) {f : Flight} (hon : s.tileOn k = true) (hr : (s.tile k).ready i s.now = some f)
    (he : (s.tile k).entryOf f = none) : s.hop k i u = s.noEntry k i f := by
  rw [State.hop, if_neg (by simp [hon])]
  simp only [hr, he]

/-- A token of the hub at the gate that faces it joins queue 8 (notes/assumptions/11.md). -/
theorem State.noEntry_own {k : Nat} {f : Flight} (hhub : facesHub s.ident k = true) (horg : f.org = none)
    (hcfg : (s.tile k).cfg.isSome = true) :
    s.noEntry k 4 f = (s.onTile k (fun t => t.setStone 4 ((t.stone 4).drop 1))).onTile k
      (fun t => t.setQueue 8 (t.queue 8 ++ [{ f with at_ := s.now }])) := by
  rw [State.noEntry]
  simp [hhub, horg, hcfg]

theorem Tile.queue_setQueue_cons (t : Tile) (q : Nat) {l : List Flight} (h : l ≠ []) : (t.setQueue q l).queue q = l :=
  Tab.get_put_same_of_ne _ _ _ _ h

/-- The first credit that has come is the one that is given back. -/
theorem dueCredit_head {now at_ k key r : Nat} (rest : List (Nat × Nat × Nat)) (hat : at_ ≤ now) (hkey : key % 1024 = r) :
    dueCredit now k r ((at_, k, key) :: rest) = some key := by
  simp [dueCredit, hat, hkey]

theorem takeCredit_head {now at_ k key r : Nat} (rest : List (Nat × Nat × Nat)) (hat : at_ ≤ now) (hkey : key % 1024 = r) :
    takeCredit now k r ((at_, k, key) :: rest) = some rest := by
  simp [takeCredit, hat, hkey]

theorem exec_creditReturn {t : TileLoc} {rt : BitVec 10} {at_ key : Nat} {rest : List (Nat × Nat × Nat)}
    (hside : s.sideband = (at_, t.key, key) :: rest) (hat : at_ ≤ s.now) (hkey : key % 1024 = rt.toNat) :
    exec (.creditReturn t rt) s = .next (({ s with sideband := rest } : State).giveCredit t.key key) := by
  have hdue := dueCredit_head (k := t.key) rest hat hkey
  have htake := takeCredit_head (k := t.key) rest hat hkey
  refine congrArg Host.Outcome.next ?_
  rw [hside, List.find?_cons]
  simp only [hdue, htake, Option.isSome_some]

theorem tileKey_lt (t : TileLoc) : t.key < 4096 := by
  rw [TileLoc.key]
  omega

/-- What a send does to the run that makes it. -/
theorem TileRun.send_some {r u : TileRun} {e : TEnv} {rt : BitVec 10} {kind fmt : Nat} {last : Bool} {p : Line} {ck : Nat}
    (h : r.send e rt kind fmt last p ck = some u) :
    r.t.creditsFree r.t.gen rt ≠ 0 ∧ u.side = r.side ∧ u.writes = r.writes ∧ u.t.mem = r.t.mem ∧ u.t.io.q = r.t.io.q ∧
    u.t.io.credits = Tab.set_ 0 r.t.io.credits (routeKey r.t.gen rt) (Tab.at_ 0 r.t.io.credits (routeKey r.t.gen rt) + 1) ∧
    ∃ f : Flight, f.tok.payload = p ∧ tokenGood f.tok = true ∧
      u.t.io.stones = Tab.set_ [] r.t.io.stones 4 (Tab.at_ [] r.t.io.stones 4 ++ [f]) := by
  rw [TileRun.send] at h
  split at h
  · cases h
  · next hfree =>
    obtain rfl := Option.some.inj h
    refine ⟨hfree, rfl, rfl, rfl, rfl, rfl, _, ?_, ?_, rfl⟩
    · rfl
    · exact beq_self_eq_true _

end Lemmas

/-- Settles O12, by the branches of `State.hop` and `State.enqueue`, `dueCredit` and `TileRun.send`. -/
theorem transport : Obligations.Transport := by
  unfold Obligations.Transport
  refine ⟨fun t src u s hr => ?nothing, fun t src u f s hon hr he hown => ?unexpected, fun t u f s hon hr he hhub horg hcfg => ?hub,
    fun t src u f e k i s hon hr he hact hlose hnext => ?hop, fun t src f e s hon hr he hact hlose => ?queue,
    fun t rt at_ key rest s hside hat hkey => ?credit, fun r u e rt kind fmt last p ck h => TileRun.send_some h⟩
  case nothing =>
    constructor
    · refine congrArg Host.Outcome.next ?_
      rw [State.hop]
      simp only [hr, ite_self]
    · refine congrArg Host.Outcome.next ?_
      rw [State.enqueue]
      simp only [hr, ite_self]
  case unexpected =>
    refine congrArg Host.Outcome.next ((State.hop_ready u hon hr he).trans ?_)
    have hsrc : decide (srcIx src = 4) = (src == .own) := by cases src <;> rfl
    rw [State.noEntry]
    simp only [hsrc, hown, Bool.false_eq_true, if_false]
  case hub =>
    refine ⟨_, congrArg Host.Outcome.next ((State.hop_ready u hon hr he).trans (State.noEntry_own hhub horg hcfg)), rfl, fun hs => ?_⟩
    have hs1 : (s.onTile t.key (fun x => x.setStone 4 ((x.stone 4).drop 1))).canonical = true :=
      (State.onTile_frame s t.key _).canonical hs
    rw [State.onTile, State.tile_setTile_same _ _ _ (State.canonical_tile _ hs1), Tile.queue_setQueue_cons _ _ (by simp),
      State.onTile, s.tile_setTile_same _ _ (s.canonical_tile hs)]
    rfl
  case hop =>
    refine congrArg Host.Outcome.next ?_
    rw [State.hop, if_neg (by simp [hon])]
    simp only [hr, he, hlose, hnext, if_neg (show ¬ e.action = 4 by omega), if_pos hact, Bool.false_eq_true, if_false]
  case queue =>
    refine congrArg Host.Outcome.next ?_
    rw [State.enqueue, if_neg (by simp [hon])]
    simp only [hr, he, hlose, hact, ne_eq, not_true_eq_false, Bool.false_eq_true, if_false]
  case credit =>
    refine ⟨_, exec_creditReturn hside hat hkey, ?_, fun hs => ?_⟩
    · rw [State.giveCredit, if_neg (by have := tileKey_lt t; omega)]
      rfl
    · rw [State.giveCredit, if_neg (by have := tileKey_lt t; omega), State.onTile]
      exact congrArg (fun x : Tile => x.io.credits)
        (State.tile_setTile_same ({ s with sideband := rest } : State) t.key _ (State.canonical_tile s hs))

section Lemmas
variable {s : State}

/-! ## Instructions that read a word first -/

theorem State.tile_wordRead (t : TileLoc) (w : Option Nat) (e : Ecc) (hs : s.canonical = true) :
    (s.wordRead t w e).tile t.key = { s.tile t.key with poison := ((s.wordRead t w e).tile t.key).poison } := by
  cases w with
  | none => rfl
  | some w => exact s.tile_eccFind_tile t (Fin.ofNat 65536 w) e hs

theorem State.now_wordRead (t : TileLoc) (w : Option Nat) (e : Ecc) : (s.wordRead t w e).now = s.now := by
  cases w with
  | none => rfl
  | some w => exact (s.eccFind_frame (.tile t (Fin.ofNat 65536 w)) e).now rfl

/-- An instruction that goes in the present ck goes after it has read its word. -/
theorem State.reading_of_busy {t : TileLoc} {w : Option Nat} {e : Ecc} {run : State → State}
    (h : ((run s).tile t.key).busy ≠ 0) : s.reading t w e run = run (s.wordRead t w e) := by
  cases w with
  | none => rfl
  | some w => exact if_neg h

theorem State.reading_stepped {t : TileLoc} {w : Option Nat} {e : Ecc} {run : State → State} {m n : Nat} {r0 r : TileRun}
    (hs : s.canonical = true) (hn : n ≠ 0) (hfirst : run s = s.stepped t.key m n r0)
    (hrun : run (s.wordRead t w e) = (s.wordRead t w e).stepped t.key m n r) :
    s.reading t w e run = (s.wordRead t w e).stepped t.key m n r :=
  (State.reading_of_busy (by rw [hfirst, s.busy_stepped t.key m n r0 hs]; exact hn)).trans hrun

theorem State.steps_wordRead (t : TileLoc) (w : Option Nat) (e : Ecc) (hs : s.canonical = true)
    (h : (s.tile t.key).steps = 0) : ((s.wordRead t w e).tile t.key).steps = 0 := by
  rw [State.tile_wordRead t w e hs]
  exact h

/-! ## Arbors -/

theorem macPer_pos (w4 : Bool) : 1 ≤ macPer w4 := by
  cases w4 <;> decide

theorem State.macRun_ok {k q n : Nat} {w4 : Bool} {r : TileRun} (hsteps : (s.tile k).steps = 0)
    (hf : macStep q n w4 (s.tenv k) 0 (s.fresh_ k) = .ok r) :
    s.macRun k q n w4 = s.stepped k ((n + macPer w4 - 1) / macPer w4) (min (macPer w4) n) r := by
  rw [State.macRun, hsteps, Nat.zero_mul, Nat.sub_zero]
  exact s.runCounted_ok hsteps hf

/-- What a pop leaves of a run. -/
theorem TileRun.pop_eq (r : TileRun) (q at_ : Nat) :
    r.pop q at_ = { r with t := { r.t with io := (r.pop q at_).t.io }, side := (r.pop q at_).side } := by
  rw [TileRun.pop]
  split <;> rfl

/-- The DATA token at the head of a queue. -/
theorem withHead_data {k q : Nat} {f : Flight} (credit : Bool) (g : Flight → StepRes) (h : DataHead s k q f) :
    withHead (s.tenv k) q (s.fresh_ k) credit (fun x => x == 0) g = g f := by
  obtain ⟨hhead, hkind⟩ := h
  have hhead' : (s.fresh_ k).t.head q (s.tenv k).now = some f := hhead
  rw [withHead, hhead']
  exact if_pos (by simp [hkind])

/-- The row that DRAIN takes goes to the holding buffer, which has room for it. -/
theorem drainStep_held {route : BitVec 10} {n : Nat} {e : TEnv} {r : TileRun} (hres : r.t.residueBad (r.t.ar 1).toNat n = none)
    (hroom : r.t.arb.hold.length < 256) :
    drainStep route n false e 0 r = .ok { r with t := { r.t.zeroRow (r.t.ar 1).toNat with
      arb := { (r.t.zeroRow (r.t.ar 1).toNat).arb with hold := r.t.arb.hold ++ [r.t.rowVals (r.t.ar 1).toNat] } } } := by
  have hdrop : r.t.arb.hold.length + 1 - 256 = 0 := by omega
  rw [drainStep]
  simp only [Nat.add_zero, Nat.sub_zero, hres, Bool.false_eq_true, if_false, TileRun.upd, Tile.zeroRow, hdrop,
    List.drop_zero]

end Lemmas

/-- Settles O13, by `runCounted_ok` for the first step and `reading_stepped` where a word is read before it. -/
theorem arborInstructions : Obligations.ArborInstructions := by
  unfold Obligations.ArborInstructions
  refine ⟨fun t x m q n ob w bg r s h hkind hr => ?mac, fun q n e f r hhead hkind hn hn4 hfmt hpoison => ?macRows,
    fun t q n f s h hf => ?acc, fun t rt n s h hres hroom => ?drainHold, fun t rt n raw r s h hr => ?drain,
    fun t q n r s h hr => ?ldsc, fun t x rt n r s h hr => ?rqh⟩
  case mac =>
    obtain ⟨hs, ⟨r0, hfirst⟩, hread⟩ := hr
    have hmine : (tileKind t.key == 1) = true := by rw [hkind]; rfl
    have hlen : n.toNat + 1 + macPer (w == 1) - 1 = n.toNat + macPer (w == 1) := by omega
    have hcost : min (macPer (w == 1)) (n.toNat + 1) ≠ 0 := by have := macPer_pos (w == 1); omega
    have hgo := State.reading_stepped (run := fun u => u.macRun t.key q.toNat (n.toNat + 1) (w == 1)) hs hcost
      (State.macRun_ok h.noSteps hfirst) (State.macRun_ok (State.steps_wordRead _ _ _ hs h.noSteps) hread)
    rw [hlen] at hgo
    exact congrArg Host.Outcome.next (s.issue_of_ready h hmine fun _ _ => hgo)
  case macRows =>
    have hmin : min (macPer false) (n - 0) = n := Nat.min_eq_right hn4
    have hpoison' : r.t.poisonIn r.t.macRow 4 = none := hpoison
    rw [macStep, withHead]
    simp only [hhead, hkind, beq_self_eq_true, if_true, hfmt, ne_eq, not_true_eq_false, if_false, hpoison', Nat.zero_mul,
      Nat.add_zero, hmin]
    rfl
  case acc =>
    refine congrArg Host.Outcome.next (s.issue_of_ready h rfl fun _ _ => ?_)
    refine s.runCounted_ok h.noSteps ((withHead_data false _ hf).trans ?_)
    have har : (((s.fresh_ t.key).pop q.toNat s.now).t).ar 1 = (s.tile t.key).ar 1 := by rw [TileRun.pop_eq]; rfl
    rw [← har]
    rfl
  case drainHold =>
    refine congrArg Host.Outcome.next (s.issue_of_ready h rfl fun _ _ => ?_)
    exact s.runCounted_ok h.noSteps (drainStep_held (r := s.fresh_ t.key) hres hroom)
  case drain =>
    refine congrArg Host.Outcome.next (s.issue_of_ready h rfl fun _ _ => ?_)
    exact s.runCounted_ok h.noSteps hr
  case ldsc =>
    refine congrArg Host.Outcome.next (s.issue_of_ready h rfl fun _ _ => ?_)
    exact s.runCounted_ok h.noSteps hr
  case rqh =>
    obtain ⟨hs, ⟨r0, hfirst⟩, hread⟩ := hr
    have hbusy : ((s.rqhRun t.key rt (n.toNat + 1)).tile t.key).busy = 1 := by
      rw [State.rqhRun, s.runCounted_ok h.noSteps hfirst]
      exact s.busy_stepped _ _ 1 _ hs
    refine congrArg Host.Outcome.next (s.issue_of_ready h rfl fun _ _ => ?_)
    refine (State.reading_of_busy (run := fun u => u.rqhRun t.key rt (n.toNat + 1)) (by rw [hbusy]; decide)).trans ?_
    exact congrArg State.useFree (State.runCounted_ok _ (State.steps_wordRead _ _ _ hs h.noSteps) hread)

section Lemmas
variable {s : State}

/-! ## Cistern ports -/

/-- A transfer in the background: the job goes to its port. -/
theorem State.port_background {k mode q d n : Nat} (h : PortFree s k (portOf mode)) :
    s.port k mode q d n true = s.onTile k (fun x => ({ x with win := { x.win with jobs :=
      x.win.jobs ++ [⟨portOf mode, mode, q, d, n, 0, (x.ar 0).toNat, x.seq.rr⟩] } } : Tile).after 1) := by
  unfold PortFree at h
  rw [State.port]
  simp only [h, Bool.not_true, Bool.false_and, Bool.or_self, Bool.false_eq_true, if_false, if_true]
  rfl

theorem State.port_first {k mode q d n : Nat} (h : PortFree s k (portOf mode)) (hck : s.now % 64 ≠ 63) :
    s.port k mode q d n false = s.runCounted k n 1 (transferStep mode q d ((s.tile k).ar 0).toNat (s.tile k).seq.rr) := by
  have hres : reservedCk s.now = false := beq_false_of_ne hck
  unfold PortFree at h
  rw [State.port]
  simp only [h, hres, Bool.and_false, Bool.or_self, Bool.false_eq_true, if_false]

/-- A port at work makes the instruction wait. -/
theorem State.port_busy {k mode q d n : Nat} {bg : Bool} (h : ¬ PortFree s k (portOf mode)) :
    s.port k mode q d n bg = s.setTile k ((s.tile k).stands .port) := by
  have h' : (s.tile k).win.jobs.any (fun x => x.port == portOf mode) = true := by simpa [PortFree] using h
  rw [State.port]
  simp only [h', Bool.true_or, if_true]
  rfl

/-- The four FIRE commands of a cistern read their word and go to their port. -/
theorem exec_cistern {t : TileLoc} (x : Ecc) {m : BitVec 4} {q : BitVec 3} {n : BitVec 8} {ob : BitVec 2} {w bg : BitVec 1}
    {c : Instr} (h : ReadyFor s t.key (.fire m q n ob w bg)) (hkind : tileKind t.key = 2)
    (hc : [Instr.fireWrite t, .fireWin0 ⟨t, x⟩, .fireWin1 ⟨t, x⟩, .fireRead ⟨t, x⟩][m.toNat]? = some c) :
    exec c s = .next (s.reading t (if m = 0 then none else s.portWord t.key m.toNat) x
      (fun u => u.port t.key m.toNat q.toNat ob.toNat (n.toNat + 1) (bg == 1))) := by
  have hmine : ∀ mode, m.toNat = mode → (tileKind t.key == 2 && m.toNat == mode) = true := fun mode hm => by simp [hkind, hm]
  have hrun : ∀ mode e, m.toNat = mode → execCistern t mode e s = s.reading t (s.portWord t.key mode) e
      (fun u => u.port t.key mode q.toNat ob.toNat (n.toNat + 1) (bg == 1)) :=
    fun mode e hm => s.issue_of_ready h (hmine mode hm) fun _ _ => rfl
  have hlt : m.toNat < 4 := (List.getElem?_eq_some_iff.mp hc).1
  have hcases : m = 0 ∨ m = 1 ∨ m = 2 ∨ m = 3 := by bv_omega
  rcases hcases with rfl | rfl | rfl | rfl <;> obtain rfl := Option.some.inj hc
  · exact congrArg Host.Outcome.next (hrun 0 .clean rfl)
  · exact congrArg Host.Outcome.next (hrun 1 x rfl)
  · exact congrArg Host.Outcome.next (hrun 2 x rfl)
  · exact congrArg Host.Outcome.next (hrun 3 x rfl)

/-- WRITE puts the payload in its row, which is then not poisoned. -/
theorem writeTransfer_first {q addr : Nat} {e : TEnv} {f : Flight} {r : TileRun} (hhead : r.t.head q e.now = some f)
    (hkind : tagKind f.tok.tag = 0) :
    writeTransfer q addr e 0 r = .ok { r.pop q e.now with
      t := { (r.pop q e.now).t with
        mem := writeBytes r.t.mem (64 * r.t.writeRow addr 0) (lineBytes f.tok.payload),
        poison := r.t.poison.filter (fun p => p / 8 != r.t.writeRow addr 0),
        win := { r.t.win with fmt := BitVec.ofNat 3 (tagFmt f.tok.tag) } },
      rows := r.rows ++ [r.t.writeRow addr 0] } := by
  rw [writeTransfer, withHead]
  simp only [hhead, hkind, beq_self_eq_true, if_true, TileRun.upd]
  rw [TileRun.pop_eq]

end Lemmas

/-- Settles O15, by the three outcomes of `State.port` and `reading_of_busy`. -/
theorem cisternAndGateInstructions : Obligations.CisternAndGateInstructions := by
  unfold Obligations.CisternAndGateInstructions
  refine ⟨fun t x m q n ob w s hs h hkind hm hfree hfree' c hc => ?background, fun t d q n s h hfree => ?mrdBackground,
    fun t e d q n s hs h hfree => ?mwrBackground, fun t x m q n ob w r s h hkind hm hck hfree hfree' hr c hc => ?transfer,
    fun t d q n r s h hfree hck hr => ?mrd, fun t e d q n r s hs h hfree hck hr => ?mwr, fun t q n ob w s h hkind hbusy => ?portBusy,
    fun q addr e f r hhead hkind => writeTransfer_first hhead hkind, fun t q n ob w bg r s h hkind hr => ?gateIn,
    fun t q n ob w bg f s h hkind hup hf => ?gateOut⟩
  case background =>
    refine (exec_cistern x h hkind hc).trans (congrArg Host.Outcome.next ?_)
    refine (State.reading_of_busy ?_).trans (State.port_background hfree')
    have hport := State.port_background (q := q.toNat) (d := ob.toNat) (n := n.toNat + 1) hfree
    change ((s.port t.key m.toNat q.toNat ob.toNat (n.toNat + 1) true).tile t.key).busy ≠ 0
    rw [hport, State.onTile, s.tile_setTile_same _ _ (s.canonical_tile hs)]
    exact one_ne_zero
  case mrdBackground =>
    exact congrArg Host.Outcome.next (s.issue_of_ready h rfl fun _ _ => State.port_background (mode := 4) hfree)
  case mwrBackground =>
    refine congrArg Host.Outcome.next (s.issue_of_ready h rfl fun _ _ => ?_)
    have hport := State.port_background (mode := 5) (q := q.toNat) (d := d.toNat) (n := n.toNat + 1) hfree
    have hbusy : ((s.mwrRun t.key d.toNat q.toNat (n.toNat + 1) true).tile t.key).busy = 1 := by
      rw [State.mwrRun, hport, State.onTile, s.tile_setTile_same _ _ (s.canonical_tile hs)]
      rfl
    exact (if_neg (ne_of_eq_of_ne hbusy one_ne_zero)).trans (congrArg (State.writeParity · e) hport)
  case transfer =>
    obtain ⟨hs, ⟨r0, hfirst⟩, hread⟩ := hr
    refine (exec_cistern x h hkind hc).trans (congrArg Host.Outcome.next ?_)
    generalize hw : (if m = 0 then none else s.portWord t.key m.toNat) = word at hfree' hread ⊢
    have htile := State.tile_wordRead (s := s) t word x hs
    refine State.reading_stepped hs one_ne_zero ((State.port_first hfree hck).trans (s.runCounted_ok h.noSteps hfirst)) ?_
    refine (State.port_first hfree' (by rw [State.now_wordRead]; exact hck)).trans ?_
    have har : ((s.wordRead t word x).tile t.key).ar 0 = (s.tile t.key).ar 0 := by rw [htile]; rfl
    have hrr : ((s.wordRead t word x).tile t.key).seq.rr = (s.tile t.key).seq.rr := by rw [htile]
    rw [har, hrr]
    exact State.runCounted_ok _ (State.steps_wordRead _ _ _ hs h.noSteps) hread
  case mrd =>
    refine congrArg Host.Outcome.next (s.issue_of_ready h rfl fun _ _ => ?_)
    exact (State.port_first (mode := 4) hfree hck).trans (s.runCounted_ok h.noSteps hr)
  case mwr =>
    have hport : s.mwrRun t.key d.toNat q.toNat (n.toNat + 1) false = s.stepped t.key (n.toNat + 1) 1 r :=
      (State.port_first (mode := 5) hfree hck).trans (s.runCounted_ok h.noSteps hr)
    have hbusy : ((s.mwrRun t.key d.toNat q.toNat (n.toNat + 1) false).tile t.key).busy = 1 := by
      rw [hport]
      exact s.busy_stepped _ _ 1 _ hs
    refine congrArg Host.Outcome.next (s.issue_of_ready h rfl fun _ _ => ?_)
    exact (if_neg (ne_of_eq_of_ne hbusy one_ne_zero)).trans (congrArg (State.writeParity · e) hport)
  case portBusy =>
    exact (exec_cistern .clean h hkind rfl).trans (congrArg Host.Outcome.next (State.port_busy (mode := 0) hbusy))
  case gateIn =>
    have hmine : (tileKind t.key == 0 && (0 : BitVec 4).toNat == 0) = true := by rw [hkind]; rfl
    refine congrArg Host.Outcome.next (s.issue_of_ready h hmine fun _ _ => ?_)
    exact s.runCounted_ok h.noSteps hr
  case gateOut =>
    have hmine : (tileKind t.key == 0 && (1 : BitVec 4).toNat == 1) = true := by rw [hkind]; rfl
    refine congrArg Host.Outcome.next (s.issue_of_ready h hmine fun _ _ => ?_)
    refine s.runCounted_ok h.noSteps ?_
    have hlink : ((s.fresh_ t.key).pop q.toNat s.now).link = [] := by rw [TileRun.pop_eq]; rfl
    rw [gateOutStep, hup, if_pos rfl, withHead_data false _ hf]
    exact congrArg (fun l => StepRes.ok { (s.fresh_ t.key).pop q.toNat s.now with link := l ++ [{ f with org := none }] }) hlink

section Lemmas
variable {s : State}

/-! ## Issue -/

theorem State.canIssue_frozen (k : Nat) (h : s.hold.frozen = true) : s.canIssue k = false := by
  rw [State.canIssue, State.seqRuns, h]
  rfl

theorem State.issue_stopped {k : Nat} (mine : TOp → Bool) (run : TInst → State → State) (h : s.canIssue k = false) :
    s.issue k mine run = s := if_pos h

theorem State.issue_reserved {k : Nat} (mine : TOp → Bool) (run : TInst → State → State) (h : s.canIssue k = true)
    (hword : decodeTile (s.tile k).fetch = none) : s.issue k mine run = s.tileCond k 0x0208 (s.tile k).fetch.toNat 0 0 := by
  rw [State.issue, if_neg (by simp [h])]
  simp only [hword, ite_self]

theorem State.issue_guardedOut {k : Nat} {mine : TOp → Bool} {run : TInst → State → State} {i : TInst} (h : s.canIssue k = true)
    (hpast : (s.tile k).pastEnd = false) (hword : decodeTile (s.tile k).fetch = some i) (hlegal : legal (tileKind k) (s.tile k) i = true)
    (hop : i.op = .nop) (hmine : mine .nop = true) (hge : i.ge = 1)
    (hguard : (s.tile k).seq.pred.getLsbD i.gi.toNat ≠ (i.gp == 1)) :
    s.issue k mine run = s.setTile k ((s.tile k).advance.spend 1 true) := by
  have hout : (decide (i.ge = 1) && (s.tile k).seq.pred.getLsbD i.gi.toNat != (i.gp == 1)) = true := by
    rw [hge, bne_iff_ne.mpr hguard]
    rfl
  rw [State.issue, if_neg (by simp [h])]
  simp only [hpast, hword, hlegal, hop, hmine, hout, statedLength, Bool.false_eq_true, Bool.true_eq_false, if_false, if_true]

/-! ## Bands -/

theorem exec_tBegin {t : TileLoc} {m : BitVec 8} (h : ReadyFor s t.key (.begin_ m)) :
    exec (.tBegin t) s = .next (s.beginStep t.key m) :=
  congrArg Host.Outcome.next (s.issue_of_ready h rfl fun _ _ => rfl)

theorem exec_tBend {t : TileLoc} {m : BitVec 8} (h : ReadyFor s t.key (.bend m)) :
    exec (.tBend t) s = .next (s.bendStep t.key m) :=
  congrArg Host.Outcome.next (s.issue_of_ready h rfl fun _ _ => rfl)

/-- BEGIN whose markers are there, and whose own markers go out. -/
theorem State.beginStep_all {k kind : Nat} {m : BitVec 8} {band : W48} {idle : Bool} {r : TileRun}
    (hview : viewStep (s.tile k) s.now (fun k => k == 4 || k == 6 || k == 7) none false (maskQueues m) = .all kind band idle)
    (hshadow : (decide (kind = 7) && !(s.tile k).shadowReady) = false)
    (hrun : beginRun (s.tenv k) (maskQueues m) kind band idle (s.fresh_ k) = some r) :
    s.beginStep k m = s.bringBack k r := by
  have hrun' : beginRun (s.tenv k) (maskQueues m) kind band idle (TileRun.of (s.tile k)) = some r := hrun
  rw [State.beginStep]
  simp only [hview, hshadow, hrun', Bool.false_eq_true, if_false]

/-- The end of a band, whose markers are there and whose own markers go out. -/
theorem State.bendStep_all {k kind : Nat} {m : BitVec 8} {band : W48} {idle : Bool} {r : TileRun}
    (hview : viewStep (s.tile k) s.now (fun k => k == 5) none false (maskQueues m) = .all kind band idle)
    (hrun : ((s.fresh_ k).popAll (maskQueues m) s.now).sendMarkers (s.tenv k) 5 band false = some r) :
    s.bendStep k m = s.bringBack k (r.upd (fun t => t.endBand band)) := by
  have hrun' : ((TileRun.of (s.tile k)).popAll (maskQueues m) (s.tenv k).now).sendMarkers (s.tenv k) 5 band false = some r := hrun
  rw [State.bendStep]
  simp only [hview, hrun']

theorem Tile.endBand_cfg {t : Tile} {c : TileCfg} (band : W48) (h : t.cfg = some c) :
    t.endBand band = { (t.jump c.bandEntry).spend 1 true with eob := some band } := by
  rw [Tile.endBand, h]

/-- The tile once its swap is over, before stale tokens leave it. -/
def Tile.swapped (x : Tile) : Tile := { x.start x.shadow (x.gen + 1) with shadow := none, shadowReady := false }

/-- No token waits in a queue: none is stale. -/
theorem Tile.dropStale_empty {x : Tile} (h : x.io.q = []) : x.dropStale = (x, false) := by
  rw [Tile.dropStale]
  simp only [h, List.any_nil, Tab.mapV, List.map_nil, List.filter_nil]
  rw [← h]

theorem exec_tileSwapComplete {t : TileLoc} (hphase : (s.tile t.key).phase = .swapping) (hbusy : (s.tile t.key).busy = 0)
    (hruns : s.seqRuns = true) (hq : (s.tile t.key).io.q = []) :
    exec (.tileSwapComplete t) s = .next (s.setTile t.key (s.tile t.key).swapped) := by
  change execTileSwapComplete t s = _
  have hstale : (s.tile t.key).swapped.dropStale = ((s.tile t.key).swapped, false) := Tile.dropStale_empty hq
  unfold Tile.swapped at hstale
  rw [execTileSwapComplete]
  simp only [hphase, hbusy, hruns, hstale, ne_eq, not_true_eq_false, decide_false, Bool.not_true, Bool.or_self,
    Bool.false_eq_true, if_false]
  rfl

end Lemmas

/-- Settles O16, by the outcomes of `State.issue`, of BEGIN and BEND, and `exec_tileSwapComplete`. -/
theorem issueAndBandInstructions : Obligations.IssueAndBandInstructions := by
  unfold Obligations.IssueAndBandInstructions
  refine ⟨fun t s hfrozen => ?frozen, fun t s h hword => ?reserved, fun t i s h hpast hword hlegal hop hge hguard => ?guarded,
    fun t m s h hview => ?waits, fun t m band idle r s h hview hr => ?band, fun t m band idle r s h hview hr => ?endStream,
    fun t m band idle r s h hview hshadow hr => ?swap, fun t m kind band idle c r s h _ hcfg hview hr => ?bend,
    fun t s hs hphase hbusy hruns hq => ?swapOver⟩
  case frozen =>
    have hstop := State.canIssue_frozen t.key hfrozen
    refine ⟨?_, ?_, fun e => ?_, ?_, ?_, ?_⟩ <;> exact congrArg Host.Outcome.next (State.issue_stopped _ _ hstop)
  case reserved => exact congrArg Host.Outcome.next (State.issue_reserved _ _ h hword)
  case guarded =>
    exact congrArg Host.Outcome.next (State.issue_guardedOut h hpast hword hlegal hop rfl hge hguard)
  case waits =>
    refine (exec_tBegin h).trans (congrArg Host.Outcome.next ?_)
    rw [State.beginStep]
    simp only [hview]
    rfl
  case band =>
    refine (exec_tBegin h).trans (congrArg Host.Outcome.next (State.beginStep_all hview rfl ?_))
    have hr' : ((s.fresh_ t.key).popAll (maskQueues m) (s.tenv t.key).now).sendMarkers (s.tenv t.key) 4 band (4 == 4 && idle) = some r := hr
    rw [beginRun, hr']
    rfl
  case endStream =>
    refine (exec_tBegin h).trans (congrArg Host.Outcome.next (State.beginStep_all hview rfl ?_))
    have hr' : ((s.fresh_ t.key).popAll (maskQueues m) (s.tenv t.key).now).sendMarkers (s.tenv t.key) 6 band (6 == 4 && idle) = some r := hr
    rw [beginRun, hr']
    rfl
  case swap =>
    refine (exec_tBegin h).trans (congrArg Host.Outcome.next (State.beginStep_all hview (by rw [hshadow]; rfl) ?_))
    have hr' : ((s.fresh_ t.key).popAll (maskQueues m) (s.tenv t.key).now).sendMarkers (s.tenv t.key) 7 band (7 == 4 && idle) = some r := hr
    rw [beginRun, hr']
    rfl
  case bend =>
    refine (exec_tBend h).trans (congrArg Host.Outcome.next ((State.bendStep_all hview hr).trans ?_))
    rw [TileRun.upd, Tile.endBand_cfg band hcfg]
  case swapOver =>
    refine ⟨_, exec_tileSwapComplete hphase hbusy hruns hq, rfl, ?_⟩
    rw [s.tile_setTile_same _ _ (s.canonical_tile hs)]
    exact ⟨rfl, rfl, rfl, rfl, rfl⟩

section Lemmas
variable {s : State}

/-! ## Reads of device memory and snapshots -/

/-- A change of every tile of a die that leaves a blank tile blank. -/
theorem State.tile_onDie (t : TileLoc) {f : Tile → Tile} (hf : f Tile.blank = Tile.blank) (hs : s.canonical = true) :
    (s.onDie t.die.val f).tile t.key = f (s.tile t.key) := by
  have hdie : t.key / 1536 = t.die.val := by
    rw [TileLoc.key]
    omega
  have hmap := Tab.get_mapV Tile.blank (fun k x => if k / 1536 = t.die.val then f x else x) s.tiles t.key
    (by rw [hdie, if_pos rfl, hf]) (s.canonical_tile hs)
  exact hmap.trans (if_pos hdie)

theorem exec_terCtrlSnap {d : Die} (h : d.val < s.ident.dies) :
    exec (.terCtrlSnap d) s = .next ((s.onDie d.val Tile.snapCtrs).setDie d.val
      { s.die d.val with elapsedSnap := (s.die d.val).elapsed, heldSnap := (s.die d.val).held, snapCk := true }) :=
  congrArg Host.Outcome.next (if_pos h)

theorem exec_terCtrlClear {d : Die} (h : d.val < s.ident.dies) :
    exec (.terCtrlClear d) s = .next ((s.onDie d.val Tile.clearCtrs).setDie d.val
      { s.die d.val with elapsed := 0, held := 0, snapCk := false }) :=
  congrArg Host.Outcome.next (if_pos h)

end Lemmas

/-- Settles O17, by the branches of the response and `tile_onDie` for the snapshots. -/
theorem hbmAndCounters : Obligations.HbmAndCounters := by
  unfold Obligations.HbmAndCounters
  refine ⟨fun t e s h => ?nothing, fun t e rd rest s h hearly => ?early, fun t e rd rest ls s h hearly hfilled hgood hunit => ?answered,
    fun t s hs hd => ?snap, fun t s hs hd => ?clear⟩
  case nothing =>
    change execHbmReadResponse t e s = _
    rw [execHbmReadResponse]
    simp only [h]
  case early =>
    change execHbmReadResponse t e s = _
    rw [execHbmReadResponse]
    simp only [h, hearly, Bool.true_or, if_true]
    rfl
  case answered =>
    change execHbmReadResponse t e s = _
    have hfilled' : (blocksOf rd.addr rd.bytes).any (fun b => !((s.dropRead t rest).blockFilled b.1 b.2)) = false := hfilled
    unfold State.dropRead HbmRead.bytes at hfilled'
    unfold State.answered State.dropRead HbmRead.bytes at hgood
    unfold State.dropRead HbmRead.bytes at hunit
    rw [execHbmReadResponse]
    simp only [h, hearly, hfilled', hgood, hunit, Bool.or_self, Bool.false_eq_true, if_false]
    rfl
  case snap =>
    have htile := State.tile_onDie t (f := Tile.snapCtrs) rfl hs
    refine ⟨_, exec_terCtrlSnap hd, rfl, ?_, ?_, ?_, ?_⟩
    · exact (congrArg Tile.snap htile :)
    · exact (congrArg Tile.ctr htile :)
    · exact congrArg (fun x : Tile => x.io.hwmSnap) htile
    · exact congrArg DieCtr.elapsedSnap (State.die_setDie_same _ _ _ (s.canonical_die hs))
  case clear =>
    have htile := State.tile_onDie t (f := Tile.clearCtrs) rfl hs
    refine ⟨_, exec_terCtrlClear hd, rfl, ?_, ?_, ?_, ?_⟩
    · exact (congrArg Tile.ctr htile :)
    · exact congrArg (fun x : Tile => x.io.hwm) htile
    · exact (congrArg Tile.snap htile :)
    · exact congrArg DieCtr.elapsed (State.die_setDie_same _ _ _ (s.canonical_die hs))

end Sys2Proof.Machine
end

section
/-!
PROOF. Camera links and lines (06 R276-R285), what the Gatehouse sends and the Kiosk's rows (06 R287-R309).
-/
namespace Sys2Proof.Machine

section Lemmas
variable {s : State}

/-! ## One camera port -/

theorem State.cam_updCam_same (n : Nat) (f : CamState → CamState) (hs : s.canonical = true) :
    (s.updCam n f).cam n = f (s.cam n) := s.cam_setCam_same n _ (s.canonical_cam hs)

theorem State.canonical_updCam (n : Nat) (f : CamState → CamState) (hs : s.canonical = true) : (s.updCam n f).canonical = true :=
  (s.updCam_frame n f).canonical hs

/-- A port that hears its camera: it is there, has power, and its link is up. -/
theorem State.camHears_of {n : Nat} (hn : n < s.ident.camPorts) (hoff : s.camOff n = false) (hlost : (s.cam n).lost = false) :
    s.camHears n = true ∧ s.camEn n = true := by
  rw [State.camOff, Bool.or_eq_false_iff] at hoff
  obtain ⟨hen, hpower⟩ := hoff
  constructor
  · rw [State.camHears, hpower, hlost, decide_eq_true hn]
    rfl
  · simpa using hen

/-! ## Camera lines -/

/-- The port once a stream packet has reached it and a line has ended. -/
def State.lineEnded (s : State) (n : Nat) : State :=
  (s.updCam n (fun c => { c with lastPacketAt := s.now, streamed := true })).updCam n (fun c => { c with partial_ := none })

theorem State.cam_lineEnded (n : Nat) (hs : s.canonical = true) :
    (s.lineEnded n).cam n = { s.cam n with lastPacketAt := s.now, streamed := true, partial_ := none } := by
  rw [State.lineEnded, State.cam_updCam_same n _ (State.canonical_updCam n _ hs), State.cam_updCam_same n _ hs]

theorem State.canonical_lineEnded (n : Nat) (hs : s.canonical = true) : (s.lineEnded n).canonical = true :=
  State.canonical_updCam n _ (State.canonical_updCam n _ hs)

theorem State.lineTick_lineEnded (n : Nat) (hs : s.canonical = true) : (s.lineEnded n).lineTick n = s.lineTick n := by
  rw [State.lineTick, State.cam_lineEnded n hs]
  rfl

/-- A packet of stream 0 at a port that takes lines. -/
theorem State.streamPacket_line {n : Nat} {p : CxpPacket} (hears : s.camHears n = true) (hen : s.camEn n = true)
    (hstop : s.sup.t0 = none) (hstream : p.stream = 0) :
    s.streamPacket n p =
      (let s1 := s.updCam n (fun c => { c with lastPacketAt := s.now, streamed := true })
       let px := ((s.cam n).partial_.getD ([], false)).1 ++ p.pixels
       let broken := ((s.cam n).partial_.getD ([], false)).2 || !p.crcGood || p.fmt.toNat != s.camBpp n
       if p.last then (s1.updCam n (fun c => { c with partial_ := none })).lineArrives n px broken
       else s1.updCam n (fun c => { c with partial_ := some (px, broken) })) := by
  rw [State.streamPacket]
  simp only [hears, hen, hstop, hstream, Bool.true_eq_false, Bool.not_true, Option.isSome_none, Bool.or_self, Bool.false_eq_true,
    ne_eq, not_true_eq_false, if_false]

/-- A packet that is not the last adds its pixels to the line in arrival. -/
theorem State.streamPacket_more {n : Nat} {p : CxpPacket} (hears : s.camHears n = true) (hen : s.camEn n = true)
    (hstop : s.sup.t0 = none) (hstream : p.stream = 0) (hlast : p.last = false) :
    ∃ broken, s.streamPacket n p = (s.updCam n (fun c => { c with lastPacketAt := s.now, streamed := true })).updCam n
      (fun c => { c with partial_ := some (((s.cam n).partial_.getD ([], false)).1 ++ p.pixels, broken) }) := by
  rw [State.streamPacket_line hears hen hstop hstream]
  simp only [hlast, Bool.false_eq_true, if_false]
  exact ⟨_, rfl⟩

/-- The last packet of a line that came whole in it. -/
theorem State.streamPacket_whole {n : Nat} {p : CxpPacket} (hears : s.camHears n = true) (hen : s.camEn n = true)
    (hstop : s.sup.t0 = none) (hstream : p.stream = 0) (hlast : p.last = true) (hpart : (s.cam n).partial_ = none) :
    s.streamPacket n p = (s.lineEnded n).lineArrives n p.pixels (!p.crcGood || p.fmt.toNat != s.camBpp n) := by
  rw [State.streamPacket_line hears hen hstop hstream]
  simp only [hlast, hpart, if_true, Option.getD_none, List.nil_append, Bool.false_or]
  rfl

theorem State.nextFrameLine_single {n : Nat} (o : Option OpenTick) (h : s.camFrame n = false) : s.nextFrameLine n o = s := by
  rw [State.nextFrameLine]
  simp only [h]

theorem CamState.bankAt_eq (c : CamState) (b : W48) (now : Nat) :
    c.bankAt b now = { c with bank := (c.bankAt b now).bank, bankWanted := (c.bankAt b now).bankWanted } := by
  rw [CamState.bankAt]
  split
  · split <;> rfl
  · rfl

/-- The port once a line has taken tick `o`. -/
def CamState.take (c : CamState) (o : OpenTick) : CamState := { c with open_ := c.open_.filter (fun x => x.line != o.line) }
/-- The line of tick `o`, with pixels of `bpp`, as the port stores it at ck `now`. -/
def CamState.lineOf (c : CamState) (o : OpenTick) (px : List (BitVec 12)) (bpp now : Nat) : StoredLine :=
  ⟨o.line, o.band, px, crc32c (pixelBytes bpp px), (c.bankAt o.band now).bank⟩
/-- The port once it has stored that line. -/
def CamState.store (c : CamState) (o : OpenTick) (px : List (BitVec 12)) (bpp now : Nat) : CamState :=
  { c.bankAt o.band now with lines := (c.bankAt o.band now).lines ++ [c.lineOf o px bpp now] }

theorem State.storeLine_eq {n : Nat} (o : OpenTick) (px : List (BitVec 12)) (hin : s.bandCams.contains n = true) :
    s.storeLine n o px = ((s.updCam n (CamState.take · o)).updCam n (CamState.store · o px (s.camBpp n) s.now)).updBand o.band
      (fun b => b.close n) := if_pos hin

/-- A good line takes its tick and is stored (06 R277, R280). -/
theorem State.storeLine_stores {n : Nat} (o : OpenTick) (px : List (BitVec 12)) (hs : s.canonical = true)
    (hin : s.bandCams.contains n = true) :
    s.storeLine n o px = { s with gth := (s.storeLine n o px).gth, bell := (s.storeLine n o px).bell } ∧
    ((s.storeLine n o px).cam n).open_ = (s.cam n).open_.filter (fun x => x.line != o.line) ∧
    ∃ l : StoredLine, ((s.storeLine n o px).cam n).lines = (s.cam n).lines ++ [l] ∧ l.line = o.line ∧ l.band = o.band ∧
      l.pixels = px := by
  have hcam : (s.storeLine n o px).cam n = ((s.cam n).take o).store o px (s.camBpp n) s.now := by
    rw [State.storeLine_eq o px hin, ← State.cam_updCam_same n (CamState.take · o) hs]
    exact State.cam_updCam_same (s := s.updCam n (CamState.take · o)) n (CamState.store · o px (s.camBpp n) s.now)
      (State.canonical_updCam n _ hs)
  rw [hcam, CamState.store, CamState.bankAt_eq]
  refine ⟨?_, rfl, _, rfl, rfl, rfl, rfl⟩
  rw [State.storeLine_eq o px hin]
  rfl

theorem State.lineArrives_good {n : Nat} {px : List (BitVec 12)} {o : OpenTick} (hwidth : px.length = s.camWidth n)
    (hframe : s.camFrame n = false) (htick : s.lineTick n = some o) :
    s.lineArrives n px false = s.storeLine n o px := by
  have hgood : (px.length != s.camWidth n) = false := by simp [hwidth]
  rw [State.lineArrives]
  simp only [hgood, htick, Bool.or_self, Bool.false_eq_true, if_false]
  rw [State.nextFrameLine_single _ hframe]

theorem State.lineArrives_bad {n : Nat} {px : List (BitVec 12)} {broken : Bool} {o : OpenTick} (hwidth : px.length ≠ s.camWidth n)
    (hframe : s.camFrame n = false) (htick : s.lineTick n = some o) :
    s.lineArrives n px broken =
      (((s.count (aCam n + 0x24) 1).updBand o.band (fun b => b.badLine n o.line)).closeMissing n o true) := by
  have hbad : (broken || px.length != s.camWidth n) = true := by simp [hwidth]
  have hframe' : (s.count (aCam n + 0x24) 1).camFrame n = false := by
    rw [State.camFrame, s.reg_count_other _ _ _ (by omega)]
    exact hframe
  rw [State.lineArrives]
  simp only [hbad, htick, if_true]
  rw [State.nextFrameLine_single _ hframe']

theorem State.lines_closeMissing (n : Nat) (o : OpenTick) (bad : Bool) (hs : s.canonical = true) :
    ((s.closeMissing n o bad).cam n).lines = (s.cam n).lines := by
  have hlines := congrArg CamState.lines (State.cam_setCam_same (s.count (aCam n + 0x20) 1) n
    { s.cam n with open_ := (s.cam n).open_.filter (fun x => x.line != o.line) } (s.canonical_cam hs))
  unfold State.closeMissing
  dsimp only
  split <;> exact hlines

/-- The tick of a bad line closes as missing, and the port counts both (06 R278, R281). -/
theorem State.badLine_closes (n : Nat) (o : OpenTick) (hs : s.canonical = true) :
    ∀ t, t = (((s.lineEnded n).count (aCam n + 0x24) 1).updBand o.band (fun b => b.badLine n o.line)).closeMissing n o true →
      t = { s with gth := t.gth, bell := t.bell, regs := t.regs, born := t.born } ∧
      t.reg (aCam n + 0x24) = satAdd (s.reg (aCam n + 0x24)) 1 ∧ t.reg (aCam n + 0x20) = satAdd (s.reg (aCam n + 0x20)) 1 ∧
      (t.cam n).lines = (s.cam n).lines := by
  intro t ht
  have hcan := State.canonical_lineEnded n hs
  have hband : ∀ v, v = ((s.lineEnded n).count (aCam n + 0x24) 1).updBand o.band (fun b => b.badLine n o.line) →
      v.canonical = true ∧ v = { s with gth := v.gth, bell := v.bell, regs := v.regs, born := v.born } := by
    rintro v rfl
    exact ⟨(State.updBand_frame _ o.band _).canonical (((s.lineEnded n).count_frame (aCam n + 0x24) 1).canonical hcan), rfl⟩
  obtain ⟨hcan', hv⟩ := hband _ rfl
  obtain ⟨hclose, -, hmiss, hbut⟩ := State.closeMissing_closes _ n o true hcan'
  have hlines := State.lines_closeMissing n o true hcan'
  rw [← ht] at hclose hmiss hbut hlines
  refine ⟨hclose.trans (congrArg (fun x : State => { x with gth := t.gth, bell := t.bell, regs := t.regs, born := t.born }) hv),
    ?_, ?_, ?_⟩
  · exact (hbut _ (by simp)).trans ((s.lineEnded n).reg_count_same _ 1 ((s.lineEnded n).canonical_regs hcan))
  · exact hmiss.trans (congrArg (satAdd · 1) ((s.lineEnded n).reg_count_other _ 1 _ (by omega)))
  · exact hlines.trans (congrArg CamState.lines (State.cam_lineEnded n hs) :)

end Lemmas

/-! ## A port that is off still hears -/

/-- The reset state with the link of camera 0 up; EN of its port is 0. -/
def idlePort : State := State.reset.setCam 0 { CamState.init with lost := false }

/-- Refutes O18: the link of a port whose EN is 0 is up, so a packet is heard and keeps it up. -/
theorem not_cameraLinks : ¬ Obligations.CameraLinks := by
  unfold Obligations.CameraLinks
  rintro ⟨-, -, -, -, hoff, -⟩
  have hquiet := hoff 0 ⟨0, 0, [], true, true⟩ idlePort (Or.inl (by decide))
  have hstate : idlePort.streamPacket 0 ⟨0, 0, [], true, true⟩ = idlePort := Host.Outcome.next.inj hquiet
  have hheard : ((idlePort.streamPacket 0 ⟨0, 0, [], true, true⟩).cam 0).streamed = true := by decide
  rw [hstate] at hheard
  exact absurd hheard (by decide)

/-- Settles O19: a good line by `storeLine_stores`, a bad one by `closeMissing_closes`. -/
theorem cameraLines : Obligations.CameraLines := by
  unfold Obligations.CameraLines
  refine ⟨fun n p o s hs hn hoff hlost hstop hpart hstream hlast hcrc hfmt hwidth hframe htick hin => ?good,
    fun n p o s hs hn hoff hlost hstop hpart hstream hlast hwidth hframe htick => ?bad,
    fun n p s hs hn hoff hlost hstop hstream hlast => ?more⟩
  case good =>
    obtain ⟨hears, hen⟩ := State.camHears_of hn hoff hlost
    have hwhole := State.streamPacket_whole hears hen hstop hstream hlast hpart
    have hbroken : (!p.crcGood || p.fmt.toNat != s.camBpp n.val) = false := by simp [hcrc, hfmt]
    rw [hbroken, State.lineArrives_good (s := s.lineEnded n.val) hwidth hframe ((State.lineTick_lineEnded _ hs).trans htick)] at hwhole
    obtain ⟨hframe', hopen, hline⟩ := State.storeLine_stores (s := s.lineEnded n.val) o p.pixels (State.canonical_lineEnded _ hs) hin
    rw [State.cam_lineEnded _ hs] at hopen hline
    exact ⟨_, congrArg Host.Outcome.next hwhole, hframe', hopen, hline⟩
  case bad =>
    obtain ⟨hears, hen⟩ := State.camHears_of hn hoff hlost
    have hwhole := State.streamPacket_whole hears hen hstop hstream hlast hpart
    rw [State.lineArrives_bad (s := s.lineEnded n.val) hwidth hframe ((State.lineTick_lineEnded _ hs).trans htick)] at hwhole
    exact ⟨_, congrArg Host.Outcome.next hwhole, State.badLine_closes n.val o hs _ rfl⟩
  case more =>
    obtain ⟨hears, hen⟩ := State.camHears_of hn hoff hlost
    obtain ⟨broken, hpacket⟩ := State.streamPacket_more hears hen hstop hstream hlast
    refine ⟨_, congrArg Host.Outcome.next hpacket, rfl, ?_⟩
    rw [State.cam_updCam_same n.val _ (State.canonical_updCam n.val _ hs)]
    rfl

/-! ## A sending order that is not canonical -/

/-- An item of hub 0's sending order: a band to be sent. -/
def idleItem : SendItem := ⟨.idle, 0, 0⟩

/-- The reset state with two lists of hub 0 in the table of sending orders: it is not canonical, and `State.canonical` says
nothing of it. -/
def twoOrders : State := State.reset.updBell (fun b => { b with sendq := [(0, [idleItem]), (0, [idleItem])] })

/-- Refutes O21: as the first list of hub 0 becomes empty it leaves the table, and the second one shows. -/
theorem not_gatehouseAndKiosk : ¬ Obligations.GatehouseAndKiosk := by
  unfold Obligations.GatehouseAndKiosk
  rintro ⟨-, -, hidle, -⟩
  obtain ⟨-, -, hsend⟩ := hidle 0 false .clean idleItem twoOrders (by decide) rfl
  exact absurd hsend (by decide)

end Sys2Proof.Machine
end

section
/-!
PROOF. Pergola queues (07 R327-R360): items that enter, settings, pointer copies, sinks; signal objects (07 R361-R365).
-/
namespace Sys2Proof.Machine

/-! ## What changes no queue but the error queue -/

/-- Every queue but the error queue is in `t` as it is in `s`. -/
def KeepsPqs (s t : State) : Prop := ∀ q, q ≠ qError → t.pq q = s.pq q

theorem KeepsPqs.refl (s : State) : KeepsPqs s s := fun _ _ => rfl
theorem KeepsPqs.trans {s t u : State} (hst : KeepsPqs s t) (htu : KeepsPqs t u) : KeepsPqs s u := fun q hq =>
  (htu q hq).trans (hst q hq)
theorem KeepsPqs.pq_of_pqs {s t : State} (h : t.pqs = s.pqs) (q : Nat) : t.pq q = s.pq q := by
  rw [State.pq, h]
  rfl
theorem KeepsPqs.of_pqs {s t : State} (h : t.pqs = s.pqs) : KeepsPqs s t := fun q _ => KeepsPqs.pq_of_pqs h q

section Lemmas
variable {s : State}

theorem State.pq_afterOcc (s : State) (q k : Nat) (p : PqState) :
    ∃ above, (s.afterOcc q p).1.pq k = (s.setPq q { p with above := above }).pq k := by
  refine ⟨if s.pqEn q then aboveAfter (s.pqHi q) (s.pqLo q) (s.pq q).occ p.occ p.above else false, ?_⟩
  exact KeepsPqs.pq_of_pqs ((State.maxReg_frame _ (aPq q + 0x2C) p.occ).pqs rfl) k

theorem State.keepsPqs_emit (s : State) (e : ErrInfo) : KeepsPqs s (s.emit e) := by
  intro q hq
  unfold State.emit
  extract_lets o r src p src2 s1 s2
  obtain ⟨above, hocc⟩ := s.pq_afterOcc qError q p
  have h2 : s2.pq q = s.pq q := hocc.trans (s.pq_setPq_other qError q _ hq)
  generalize r.res = x
  cases x with
  | accepted => exact (KeepsPqs.of_pqs (s2.raiseErrNotice_frame.pqs rfl) q hq).trans h2
  | held | refused | discarded => exact h2

theorem State.keepsPqs_msix (s : State) (v : Nat) : KeepsPqs s (s.msix v) := .of_pqs ((s.msix_frame v).pqs rfl)

theorem State.keepsPqs_pqLost (s : State) (q n : Nat) : KeepsPqs s (s.pqLost q n) := by
  rw [State.pqLost]
  dsimp only
  split
  · exact .of_pqs rfl
  · exact KeepsPqs.trans (.of_pqs (s.count_pqs _ _)) (State.keepsPqs_emit _ _)

theorem State.keepsPqs_pqRefused (s : State) (q : Nat) : KeepsPqs s (s.pqRefused q) := by
  rw [State.pqRefused]
  dsimp only
  split
  · exact .of_pqs rfl
  · exact KeepsPqs.trans (.of_pqs (s.count_pqs _ _)) (State.keepsPqs_emit _ _)

theorem State.keepsPqs_sigAdd (s : State) (k n : Nat) : KeepsPqs s (s.sigAdd k n).1 := by
  rw [State.sigAdd]
  split
  · exact .refl s
  · dsimp only
    split
    · exact KeepsPqs.trans (.of_pqs ((s.setRegN_frame _ _).pqs rfl)) (State.keepsPqs_emit _ _)
    · exact .of_pqs rfl

theorem State.keepsPqs_sigFuel (f : Nat) (s : State) (k n : Nat) : KeepsPqs s (State.sigFuel f s k n) := by
  induction f generalizing s k n with
  | zero => exact .refl s
  | succ f ih =>
    rw [State.sigFuel]
    dsimp only
    have hadd := s.keepsPqs_sigAdd k n
    split
    · split
      · exact hadd.trans (State.keepsPqs_msix _ _)
      · exact hadd.trans (.of_pqs rfl)
      · exact hadd.trans (ih _ _ _)
      · exact hadd
    · exact hadd

theorem State.keepsPqs_raiseNotice (s : State) (q : Nat) : KeepsPqs s (s.raiseNotice q) := by
  have hbits : KeepsPqs s (s.setBits (aPq q + 0x20) 0x10) := .of_pqs rfl
  rw [State.raiseNotice]
  dsimp only
  split
  · exact .refl s
  · split
    · exact hbits.trans (State.keepsPqs_msix _ _)
    · exact hbits.trans (.of_pqs rfl)
    · exact hbits.trans (State.keepsPqs_sigFuel _ _ _ _)
    · exact hbits

/-! ## A queue that is brought back -/

/-- A queue brought back with its watermarks: its ABOVE may change, and no other part of it. -/
theorem State.pq_pqChanged (q : Nat) (p : PqState) (hs : s.canonical = true) (hq : q ≠ qError) :
    ∃ above, (s.pqChanged q p).pq q = { p with above := above } := by
  obtain ⟨above, hocc⟩ := s.pq_afterOcc q q p
  have hset := hocc.trans (s.pq_setPq_same q _ (s.canonical_pq hs))
  refine ⟨above, ?_⟩
  rw [State.pqChanged]
  split
  · exact (State.keepsPqs_raiseNotice _ q q hq).trans hset
  · exact hset

/-- An offer brought back: the queue is the one that the offer left, but for its ABOVE. -/
theorem State.pq_settle (q : Nat) (o : Offer) (r : OfferOut) (hs : s.canonical = true) (hq : q ≠ qError) :
    ∃ above, (s.settle q o r).pq q = { r.p with above := above } := by
  obtain ⟨above, hchanged⟩ := State.pq_pqChanged q r.p hs hq
  refine ⟨above, Eq.trans ?_ hchanged⟩
  unfold State.settle
  extract_lets _ p s1 s2
  have hp : p = r.p := if_neg hq
  have h2 : s2.pq q = (s.pqChanged q r.p).pq q := (s1.keepsPqs_pqLost q r.lost q hq).trans (by rw [← hp]; rfl)
  generalize r.res = x
  cases x with
  | accepted =>
    dsimp only
    split
    · exact (s2.keepsPqs_raiseNotice q q hq).trans h2
    · exact h2
  | refused => exact (s2.keepsPqs_pqRefused q q hq).trans h2
  | held | discarded => exact h2

theorem qix_ne_qError {q : QIx} (h : q.val < 512) : q.val ≠ qError := fun he => absurd (he ▸ h) (by decide)

/-! ## Items that enter (R333-R337) -/

/-- A queue with no packet open and none discarded, offered the first item of a packet. -/
theorem offerStep_first {c : OfferCfg} {p : PqState} {o : Offer} (hen : c.en = true) (hopen : p.openW = []) (hdrop : p.dropping = [])
    (hsop : o.sop = true) : offerStep c p o = placeItem c p o o.prio p.nextPkt 0 := by
  have hseen : p.sopSeen o = p := by
    rw [PqState.sopSeen, if_pos hsop, hdrop, List.filter_nil, ← hdrop]
  rw [offerStep]
  simp only [hseen, hen, hsop, hopen, List.find?_nil, Bool.true_eq_false, if_false]

/-- The item finds a place. -/
theorem placeItem_place {c : OfferCfg} {p : PqState} (o : Offer) (pr : BitVec 3) (pkt lost : Nat) (h : p.occ < c.depth) :
    placeItem c p o pr pkt lost = ⟨p.store o pr pkt, .accepted, lost, 0⟩ := if_pos h

/-- The queue is full and does not overwrite: the item waits at its writer. -/
theorem placeItem_full {c : OfferCfg} {p : PqState} (o : Offer) (pr : BitVec 3) (pkt lost : Nat) (h : c.depth ≤ p.occ)
    (hover : c.overwrite = false) (hhost : c.host = false) : placeItem c p o pr pkt lost = ⟨p, .held, lost, 0⟩ := by
  rw [placeItem, if_neg (by omega), if_pos hover, hhost]
  rfl

theorem State.holdsOf_empty {q : Nat} (o : Offer) (h : (s.pq q).held = []) : s.holdsOf q o = false := by
  rw [State.holdsOf, h]
  rfl

theorem exec_pqItemOffer {q : QIx} {o : Offer} (hwriter : o.writer ≠ 0x20) (hheld : (s.pq q.val).held = []) :
    exec (.pqItemOffer q o) s = .next (s.offer q.val o).1 := by
  refine congrArg Host.Outcome.next ?_
  rw [if_neg hwriter, s.holdsOf_empty o hheld]
  rfl

theorem State.offer_settle {q : Nat} {o : Offer} (hpres : s.pqPresent q = true) (hheld : (s.pq q).held = []) {r : OfferOut}
    (hr : offerStep (s.offerCfg q false) (s.pq q) o = r) :
    s.offer q o = (if r.res = .held then (s.settle q o r).onPq q (fun p => { p with held := p.held ++ [o] }) else s.settle q o r,
      r.res) := by
  rw [State.offer, if_neg (by simp [hpres]), if_neg (by simp [s.holdsOf_empty o hheld]), hr]

theorem State.canonical_settle {q : Nat} {o : Offer} {r : OfferOut} (hs : s.canonical = true) : (s.settle q o r).canonical = true :=
  (s.settle_frame q o r).canonical hs

/-- The stored item of an offer. -/
theorem PqState.store_items (p : PqState) (o : Offer) (pr : BitVec 3) (pkt : Nat) :
    (p.store o pr pkt).items = p.items ++ [⟨o.data, pr, o.sop, o.eop, o.writer, o.src, pkt, false⟩] := rfl

/-! ## The held offers of a queue -/

theorem State.serveHeld_none {q : Nat} (h : (s.pq q).held = []) : s.serveHeld q = s := by
  rw [State.serveHeld]
  simp only [h]
  rfl

/-- The only held offer finds a place, and no core waits for it. -/
theorem State.serveHeld_one {q : Nat} {o : Offer} {r : OfferOut} (hs : s.canonical = true) (hq : q ≠ qError)
    (h : (s.pq q).held = [o]) (hr : offerStep (s.offerCfg q false) (s.pq q) o = r) (hres : r.res ≠ .held)
    (hgone : removeOffer o r.p.held = []) (hpusher : s.pusherOf q o = none) :
    s.serveHeld q = s.settle q o { r with p := { r.p with held := [] } } := by
  have htry : s.tryHeld q 1 [o] = s.settle q o { r with p := { r.p with held := [] } } := by
    rw [State.tryHeld]
    simp only [firstHeld, List.foldl_cons, List.foldl_nil, hr, if_neg hres, hgone]
  obtain ⟨above, hpq⟩ := State.pq_settle q o { r with p := { r.p with held := [] } } hs hq
  rw [State.serveHeld]
  simp only [h, List.length_singleton, htry, hpq, List.find?_cons, hpusher, List.contains_nil, Bool.not_false]

/-! ## The depth of a queue -/

theorem PqState.dropPkt_le (p : PqState) (pkt : Nat) : (p.dropPkt pkt).1.items.length ≤ p.items.length :=
  List.length_filter_le _ _

/-- Discarding the packet of a stored item makes room. -/
theorem PqState.dropPkt_lt {p : PqState} {i : QItem} (h : i ∈ p.items) : (p.dropPkt i.pkt).1.items.length < p.items.length :=
  List.length_filter_lt_length_iff_exists.mpr ⟨i, h, by simp⟩

theorem placeItem_depth (c : OfferCfg) (p : PqState) (o : Offer) (pr : BitVec 3) (pkt lost : Nat) (h : p.items.length ≤ c.depth) :
    (placeItem c p o pr pkt lost).p.items.length ≤ c.depth := by
  rw [placeItem]
  split
  · next hroom =>
    rw [PqState.occ] at hroom
    simp only [PqState.store_items, List.length_append, List.length_singleton]
    omega
  · split
    · exact h
    · split
      · exact (p.dropPkt_le pkt).trans h
      · split
        · exact h
        · next victim hvictim =>
          have hlt := PqState.dropPkt_lt (List.mem_of_find?_eq_some hvictim)
          dsimp only
          split
          · exact hlt.le.trans h
          · simp only [PqState.store_items, List.length_append, List.length_singleton]
            omega

theorem PqState.sopSeen_items (p : PqState) (o : Offer) : (p.sopSeen o).items = p.items := by
  rw [PqState.sopSeen]
  split <;> rfl

/-- No offer takes a queue that is within its depth past it (R333, R334). -/
theorem offerStep_depth (c : OfferCfg) (p : PqState) (o : Offer) (h : p.items.length ≤ c.depth) :
    (offerStep c p o).p.items.length ≤ c.depth := by
  have hseen : (p.sopSeen o).items.length ≤ c.depth := by
    rw [PqState.sopSeen_items]
    exact h
  rw [offerStep]
  dsimp only
  split
  · exact hseen
  · split
    · split
      · exact h
      · exact h
      · exact placeItem_depth c p o _ _ _ h
    · split
      · exact placeItem_depth c _ o _ _ _ hseen
      · split
        · exact placeItem_depth c _ o _ _ _ ((List.length_filter_le _ _).trans hseen)
        · exact hseen

end Lemmas

/-- Settles O22, by `pq_settle` and the place that an offer finds (`placeItem_place`, `placeItem_full`, `offerStep_depth`). -/
theorem queueWrites : Obligations.QueueWrites := by
  unfold Obligations.QueueWrites
  refine ⟨fun q o s hs hq hpres hen hopen hdrop hheld hsop _ hwriter hroom => ?place,
    fun q o s hs hq hpres hen hover hopen hdrop hheld hsop hwriter hfull => ?held,
    fun q v s hs hq hpres hen hopen hdrop hsop _ hroom => ?push, fun q s hheld => congrArg Host.Outcome.next (State.serveHeld_none hheld),
    fun q o s hs hq hpres hen hopen hdrop hheld hsop _ hpusher hroom => ?accept, offerStep_depth⟩
  case place =>
    have hstep : offerStep (s.offerCfg q.val false) (s.pq q.val) o = ⟨(s.pq q.val).store o o.prio (s.pq q.val).nextPkt, .accepted, 0, 0⟩ :=
      (offerStep_first hen hopen hdrop hsop).trans (placeItem_place o _ _ _ hroom)
    have hoffer := State.offer_settle hpres hheld hstep
    obtain ⟨above, hpq⟩ := State.pq_settle q.val o ⟨(s.pq q.val).store o o.prio (s.pq q.val).nextPkt, .accepted, 0, 0⟩ hs (qix_ne_qError hq)
    have hframe := s.offer_frame q.val o
    refine ⟨_, exec_pqItemOffer hwriter hheld, hframe.tiles rfl, hframe.mem rfl, hframe.bell rfl,
      ⟨o.data, o.prio, o.sop, o.eop, o.writer, o.src, (s.pq q.val).nextPkt, false⟩, ?_, rfl, rfl, rfl⟩
    · rw [hoffer]
      exact congrArg PqState.items hpq
  case held =>
    have hstep : offerStep (s.offerCfg q.val false) (s.pq q.val) o = ⟨s.pq q.val, .held, 0, 0⟩ :=
      (offerStep_first hen hopen hdrop hsop).trans (placeItem_full o _ _ _ hfull hover rfl)
    obtain ⟨above, hpq⟩ := State.pq_settle q.val o ⟨s.pq q.val, .held, 0, 0⟩ hs (qix_ne_qError hq)
    have hafter : (s.offer q.val o).1.pq q.val =
        { s.pq q.val with above := above, held := [o] } := by
      rw [State.offer_settle hpres hheld hstep]
      refine (State.pq_setPq_same _ _ _ (State.canonical_pq _ (State.canonical_settle hs))).trans ?_
      rw [hpq]
      exact congrArg (fun l => { s.pq q.val with above := above, held := l ++ [o] }) hheld
    refine ⟨_, exec_pqItemOffer hwriter hheld, ?_, ?_⟩
    · rw [hafter]
    · rw [hafter]
  case push =>
    have hstep : offerStep (s.offerCfg q.val true) (s.pq q.val) (s.pushOffer q.val v) =
        ⟨(s.pq q.val).store (s.pushOffer q.val v) (s.pushOffer q.val v).prio (s.pq q.val).nextPkt, .accepted, 0, 0⟩ :=
      (offerStep_first hen hopen hdrop hsop).trans (placeItem_place _ _ _ _ hroom)
    have hpush : exec (.pqPushGo q v) s = .next (s.settle q.val (s.pushOffer q.val v)
        ⟨(s.pq q.val).store (s.pushOffer q.val v) (s.pushOffer q.val v).prio (s.pq q.val).nextPkt, .accepted, 0, 0⟩) := by
      refine congrArg Host.Outcome.next ?_
      rw [State.pushGo, if_pos hpres, State.hostPush, if_neg (by simp [hpres]), hstep]
    obtain ⟨above, hpq⟩ := State.pq_settle q.val (s.pushOffer q.val v)
      ⟨(s.pq q.val).store (s.pushOffer q.val v) (s.pushOffer q.val v).prio (s.pq q.val).nextPkt, .accepted, 0, 0⟩ hs (qix_ne_qError hq)
    exact ⟨_, hpush, (s.settle_frame _ _ _).tiles rfl, (s.settle_frame _ _ _).mem rfl, _, congrArg PqState.items hpq, rfl, rfl⟩
  case accept =>
    have hstep : offerStep (s.offerCfg q.val false) (s.pq q.val) o = ⟨(s.pq q.val).store o o.prio (s.pq q.val).nextPkt, .accepted, 0, 0⟩ :=
      (offerStep_first hen hopen hdrop hsop).trans (placeItem_place o _ _ _ hroom)
    have hgone : removeOffer o ((s.pq q.val).store o o.prio (s.pq q.val).nextPkt).held = [] := by
      change removeOffer o (s.pq q.val).held = []
      rw [hheld]
      exact if_pos rfl
    have hserve := State.serveHeld_one hs (qix_ne_qError hq) hheld hstep (by simp) hgone hpusher
    obtain ⟨above, hpq⟩ := State.pq_settle q.val o
      ⟨{ (s.pq q.val).store o o.prio (s.pq q.val).nextPkt with held := [] }, .accepted, 0, 0⟩ hs (qix_ne_qError hq)
    refine ⟨_, congrArg Host.Outcome.next hserve, congrArg PqState.held hpq, ?_⟩
    exact (congrArg (fun p : PqState => p.items.length) hpq).trans List.length_append

section Lemmas
variable {s : State}

/-! ## Signal objects -/

theorem State.sigMax_lt (k : Nat) : s.sigMax k < 65536 := fld_lt _ 0 16

theorem State.sigCount_setRegN (k n : Nat) (hs : s.canonical = true) (hn : n < 65536) : (s.setRegN (aSig k) n).sigCount k = n := by
  rw [State.sigCount, State.setRegN, s.reg_setReg_same _ _ (s.canonical_regs hs), fld, bits, BitVec.toNat_ofNat]
  omega

theorem State.regsBut_setRegN (a n : Nat) : RegsBut s (s.setRegN a n) [a] := s.regsBut_setReg a _

/-- A signal of an object that is on, within MAX (R361, R364). -/
theorem State.sigAdd_within {k n : Nat} (hen : s.sigEn k = true) (h : s.sigCount k + n ≤ s.sigMax k) :
    s.sigAdd k n = (s.setRegN (aSig k) (s.sigCount k + n), s.sigCount k == 0 && s.sigCount k + n != 0) := by
  rw [State.sigAdd]
  simp only [hen, Bool.true_eq_false, if_false, Nat.min_eq_left h, if_neg (show ¬ s.sigMax k < s.sigCount k + n by omega)]

/-- One past MAX is capped, with a record of the overflow (R364). -/
theorem State.sigAdd_past {k n : Nat} (hen : s.sigEn k = true) (h : s.sigMax k < s.sigCount k + n) :
    s.sigAdd k n = ((s.setRegN (aSig k) (s.sigMax k)).emit
      { err 0x0405 with d0 := k, d1 := s.sigCount k + n - s.sigMax k }, s.sigCount k == 0 && s.sigMax k != 0) := by
  rw [State.sigAdd]
  simp only [hen, Bool.true_eq_false, if_false, Nat.min_eq_right h.le, if_pos h]

/-- A signal that no notice follows. -/
theorem State.signal_quiet {k n : Nat} (h : (s.sigAdd k n).2 = false ∨ fld (s.sigCfg k) 29 2 = 3) : s.signal k n = (s.sigAdd k n).1 := by
  rw [State.signal, State.sigFuel]
  dsimp only
  rcases h with h | h
  · rw [h]
    rfl
  · rw [h]
    exact ite_self _

/-- The count of a signal object is no register that an error record changes. -/
theorem aSig_notMem_emitRegs (o : SigIx) : aSig o.val ∉ emitRegs := by
  have ho := o.isLt
  have hpq : aPq qError = 0x34000 := rfl
  simp only [emitRegs, hpq, aMsixPba, aSig, List.mem_cons, List.not_mem_nil, or_false, not_or]
  omega

theorem State.sigCount_emit (e : ErrInfo) (o : SigIx) : (s.emit e).sigCount o.val = s.sigCount o.val :=
  congrArg (fld · 0 16) (s.regsBut_emit e _ (aSig_notMem_emitRegs o))

theorem State.hostWait_takes {k : Nat} (hen : s.sigEn k = true) (hspare : s.spareForHost k ≠ 0) (hcount : s.sigCount k ≠ 0) :
    s.hostWait k = (s.setRegN (aSig k) (s.sigCount k - 1), true) := by
  rw [State.hostWait, State.sigTake]
  simp only [hen, hspare, hcount, ne_eq, not_false_eq_true, decide_true, Bool.and_self, bne_iff_ne, Bool.true_and, if_true]

theorem State.hostWait_none {k : Nat} (h : s.sigEn k = false ∨ s.sigCount k = 0 ∨ s.spareForHost k = 0) :
    s.hostWait k = (s, false) := by
  rw [State.hostWait, State.sigTake]
  rcases h with h | h | h
  · simp [h]
  · simp [h]
  · simp [h]

/-- A signal within MAX that no notice follows: the count, and nothing else. -/
theorem State.signal_within {o : SigIx} {n : BitVec 16} (hs : s.canonical = true) (hen : s.sigEn o.val = true)
    (hmax : s.sigCount o.val + n.toNat ≤ s.sigMax o.val)
    (hquiet : (s.sigAdd o.val n.toNat).2 = false ∨ fld (s.sigCfg o.val) 29 2 = 3) :
    Does (.sigSignal o n) s (fun t => t = { s with regs := t.regs } ∧ t.sigCount o.val = s.sigCount o.val + n.toNat ∧
      RegsBut s t [aSig o.val]) := by
  have hsignal := State.signal_quiet hquiet
  rw [State.sigAdd_within hen hmax] at hsignal
  exact ⟨_, congrArg Host.Outcome.next hsignal, rfl, State.sigCount_setRegN _ _ hs (hmax.trans_lt (State.sigMax_lt _)),
    State.regsBut_setRegN _ _⟩

/-! ## Settings of a signal object -/

theorem aSigCfg_ne_aSig (k : Nat) : aSig k ≠ aSigCfg k := by
  simp only [aSigCfg]
  omega

theorem bit_sigMask (v : Word) : bit (v &&& 0xE7FFFFFF) 31 = bit v 31 := by
  simp [bit_get]

/-- A field depends on its own bits alone. -/
theorem fld_congr {v w : Word} {lo n : Nat} (h : ∀ i < n, v.getLsbD (lo + i) = w.getLsbD (lo + i)) : fld v lo n = fld w lo n := by
  refine Nat.eq_of_testBit_eq fun i => ?_
  by_cases hi : i < n
  · rw [fld_testBit _ _ _ _ hi, fld_testBit _ _ _ _ hi, h i hi]
  · have hbig : ∀ x : Word, (fld x lo n).testBit i = false := fun x =>
      Nat.testBit_lt_two_pow ((fld_lt x lo n).trans_le (Nat.pow_le_pow_right two_pos (by omega)))
    rw [hbig, hbig]

theorem fld_sigMask (v : Word) : fld (v &&& 0xE7FFFFFF) 0 16 = fld v 0 16 := by
  refine fld_congr fun i hi => ?_
  rw [BitVec.getLsbD_and]
  interval_cases i <;> simp

/-- A write of SIG_CFG that leaves the object on, and its count within MAX. -/
theorem State.writeSigCfg_on {k : Nat} {v : Word} (hon : bit v 31 = true) (h : s.sigCount k ≤ fld v 0 16) :
    s.writeSigCfg k v = s.setReg (aSigCfg k) (v &&& 0xE7FFFFFF) := by
  have hcount : (s.setReg (aSigCfg k) (v &&& 0xE7FFFFFF)).sigCount k = s.sigCount k :=
    congrArg (fld · 0 16) (s.reg_setReg_other _ _ _ (aSigCfg_ne_aSig k))
  rw [State.writeSigCfg]
  simp only [bit_sigMask, fld_sigMask, hon, hcount, if_true, if_neg (show ¬ fld v 0 16 < s.sigCount k by omega)]

/-- One that lowers MAX below the count takes the count down with it (R365). -/
theorem State.writeSigCfg_caps {k : Nat} {v : Word} (hon : bit v 31 = true) (h : fld v 0 16 < s.sigCount k) :
    s.writeSigCfg k v = (s.setReg (aSigCfg k) (v &&& 0xE7FFFFFF)).setRegN (aSig k) (fld v 0 16) := by
  have hcount : (s.setReg (aSigCfg k) (v &&& 0xE7FFFFFF)).sigCount k = s.sigCount k :=
    congrArg (fld · 0 16) (s.reg_setReg_other _ _ _ (aSigCfg_ne_aSig k))
  rw [State.writeSigCfg]
  simp only [bit_sigMask, fld_sigMask, hon, hcount, if_true, if_pos h]

end Lemmas

/-- Settles O25, by the outcomes of `State.sigAdd`, `State.hostWait` and a write of SIG_CFG. -/
theorem signalObjects : Obligations.SignalObjects := by
  unfold Obligations.SignalObjects
  refine ⟨fun o n s hs hen hmode hmax => State.signal_within hs hen hmax (Or.inr hmode),
    fun o n s hs hen hcount hmax => State.signal_within hs hen hmax (Or.inl ?notFromZero),
    fun o n s hs hen hcount hmax => ?past, fun o n s hen => ?off, fun o s hs hen hspare hcount => ?take, fun o s h => ?none,
    fun o v s hs hen => ?write, fun o v s hen => congrArg Host.Outcome.next (if_pos hen), fun o v s hs hon hmax => ?cfg,
    fun o v s hs hon hmax => ?cfgCaps, fun o v s hoff => ?cfgOff⟩
  case notFromZero => rw [State.sigAdd_within hen hmax]; simp [hcount]
  case past =>
    have hadd := State.sigAdd_past (n := n.toNat) hen hmax
    have hquiet : (s.sigAdd o.val n.toNat).2 = false := by rw [hadd]; simp [hcount]
    have hsignal := State.signal_quiet (Or.inl hquiet)
    rw [hadd] at hsignal
    refine ⟨_, congrArg Host.Outcome.next hsignal, ?_, State.emit_errSeq _ _, ?_⟩
    · exact (State.sigCount_emit _ o).trans (State.sigCount_setRegN _ _ hs (State.sigMax_lt _))
    · exact (State.emit_frame _ _).tiles rfl
  case off =>
    have hadd : s.sigAdd o.val n.toNat = (s, false) := if_pos hen
    have hsignal := State.signal_quiet (s := s) (k := o.val) (n := n.toNat) (Or.inl (by rw [hadd]))
    rw [hadd] at hsignal
    exact congrArg Host.Outcome.next hsignal
  case take =>
    have htake : exec (.sigTrywait o) s = .next { s.setRegN (aSig o.val) (s.sigCount o.val - 1) with readValue := 1 } := by
      refine congrArg Host.Outcome.next ?_
      rw [State.tryWait, State.hostWait_takes hen hspare hcount]
      rfl
    have hlt : s.sigCount o.val - 1 < 65536 := (Nat.sub_le _ _).trans_lt (fld_lt _ 0 16)
    exact ⟨_, htake, rfl, State.sigCount_setRegN o.val _ hs hlt, State.regsBut_setRegN (s := s) _ _⟩
  case none =>
    refine congrArg Host.Outcome.next ?_
    rw [State.tryWait, State.hostWait_none h]
    rfl
  case write =>
    have hwrite : exec (.sigCountWrite o v) s = .next (s.setRegN (aSig o.val) (min (fld v 0 16) (s.sigMax o.val))) := by
      refine congrArg Host.Outcome.next ?_
      rw [State.writeSigCount, if_neg (by simp [hen])]
    exact ⟨_, hwrite, rfl, State.sigCount_setRegN _ _ hs ((Nat.min_le_right _ _).trans_lt (State.sigMax_lt _)),
      State.regsBut_setRegN _ _⟩
  case cfg =>
    exact ⟨_, congrArg Host.Outcome.next (State.writeSigCfg_on hon hmax), rfl, s.reg_setReg_same _ _ (s.canonical_regs hs),
      s.regsBut_setReg _ _⟩
  case cfgCaps =>
    have hs' := (s.setReg_frame (aSigCfg o.val) (v &&& 0xE7FFFFFF)).canonical hs
    refine ⟨_, congrArg Host.Outcome.next (State.writeSigCfg_caps hon hmax), rfl, ?_, ?_, ?_⟩
    · exact (State.reg_setReg_other _ _ _ _ (aSigCfg_ne_aSig o.val).symm).trans (s.reg_setReg_same _ _ (s.canonical_regs hs))
    · exact State.sigCount_setRegN _ _ hs' (fld_lt _ 0 16)
    · exact ((s.regsBut_setReg _ _).mono (by simp)).trans ((State.regsBut_setRegN _ _).mono (by simp))
  case cfgOff =>
    refine congrArg Host.Outcome.next ?_
    rw [State.writeSigCfg]
    simp only [bit_sigMask, hoff, Bool.false_eq_true, if_false]

section Lemmas
variable {s : State}

/-! ## Settings of a queue -/

theorem aPq_status_ne (q : Nat) : aPq q ≠ aPq q + 0x20 := by omega

theorem State.pqCfgWrite_off {q : Nat} (v : Word) (h : (decide (q < 512) && s.pqPresent q && s.pqEn q) = false ∨ bit v 31 = true) :
    s.pqCfgWrite q v = s.writePqCfg q v := by
  rw [State.pqCfgWrite]
  refine if_neg ?_
  rcases h with h | h
  · rw [h]
    simp
  · rw [h]
    simp

theorem bit_setEn (v : Word) : bit (v ||| 0x80000000) 31 = true := by
  simp [bit_get]

theorem State.pqEn_eq {q : Nat} (hq : q < 512) : s.pqEn q = bit (s.reg (aPq q)) 31 := by
  rw [State.pqEn, State.pqCfg, if_neg (by omega), if_neg (by omega)]

/-- A write that sets EN of an ordinary queue that is off. -/
theorem exec_pqEnable_off {q : QIx} {v : Word} (hq : q.val < 512) (hpres : s.pqPresent q.val = true) (hoff : s.pqEn q.val = false) :
    exec (.pqEnable q v) s = .next (if s.enableOk q.val ((v ||| 0x80000000) &&& pqCfgMask) then
      s.setReg (aPq q.val) ((v ||| 0x80000000) &&& pqCfgMask)
      else (s.setReg (aPq q.val) ((v ||| 0x80000000) &&& pqCfgMask &&& 0x7FFFFFFF)).setBits (aPq q.val + 0x20) 0x80) := by
  refine congrArg Host.Outcome.next ((State.pqCfgWrite_off _ (Or.inr (bit_setEn v))).trans ?_)
  rw [State.writePqCfg, if_neg (show ¬ q.val = qLedger from hq.ne), if_neg (qix_ne_qError hq), if_pos hpres, State.writeCfgPlain,
    if_neg (by simp [hoff])]
  simp only [bit_setEn, Bool.true_eq_false, if_false]

theorem exec_pqEnable_on {q : QIx} {v : Word} (hq : q.val < 512) (hpres : s.pqPresent q.val = true) (hon : s.pqEn q.val = true) :
    exec (.pqEnable q v) s = .next s := by
  refine congrArg Host.Outcome.next ((State.pqCfgWrite_off _ (Or.inr (bit_setEn v))).trans ?_)
  rw [State.writePqCfg, if_neg (show ¬ q.val = qLedger from hq.ne), if_neg (qix_ne_qError hq), if_pos hpres, State.writeCfgPlain,
    if_pos hon, if_pos (bit_setEn v)]

theorem exec_pqEnable_absent {q : QIx} {v : Word} (hq : q.val < 512) (habs : s.pqPresent q.val = false) :
    exec (.pqEnable q v) s = .next s := by
  refine congrArg Host.Outcome.next ((State.pqCfgWrite_off _ (Or.inr (bit_setEn v))).trans ?_)
  rw [State.writePqCfg, if_neg (show ¬ q.val = qLedger from hq.ne), if_neg (qix_ne_qError hq), if_neg (by simp [habs])]

theorem exec_pqEnable_ledger {v c : Word} (hc : c = (v ||| 0x80000000) &&& 0x30FC0000) (hsink : fld c 22 2 % 2 = 0)
    (hok : s.usedOk qLedger c = true) : exec (.pqEnable 512 v) s = .next (s.setReg (aPq qLedger) c) := by
  refine congrArg Host.Outcome.next ((State.pqCfgWrite_off (q := 512) _ (Or.inr (bit_setEn v))).trans ?_)
  rw [State.writePqCfg, if_pos (show (512 : Nat) = qLedger from rfl)]
  simp only [← hc, hsink, decide_true, Bool.true_and]
  exact if_pos hok

theorem exec_pqEnable_error {v : Word} (hsink : fld v 22 2 % 2 = 0) :
    exec (.pqEnable 513 v) s = .next (s.setReg (aPq qError) (v &&& 0x00C00000)) := by
  have hfld : fld (v ||| 0x80000000) 22 2 = fld v 22 2 := by
    refine fld_congr fun i hi => ?_
    rw [BitVec.getLsbD_or]
    interval_cases i <;> simp
  have hmask : (v ||| 0x80000000) &&& 0x00C00000 = v &&& 0x00C00000 := by
    refine BitVec.eq_of_getLsbD_eq fun i hi => ?_
    rw [BitVec.getLsbD_and, BitVec.getLsbD_and, BitVec.getLsbD_or]
    interval_cases i <;> simp
  refine congrArg Host.Outcome.next ((State.pqCfgWrite_off (q := 513) _ (Or.inl rfl)).trans ?_)
  rw [State.writePqCfg, if_neg (by decide), if_pos (show (513 : Nat) = qError from rfl), hfld, if_pos hsink, hmask]
  rfl

theorem exec_pqDisable_on {q : QIx} (hq : q.val < 512) (hpres : s.pqPresent q.val = true) (hon : s.pqEn q.val = true) :
    exec (.pqDisable q) s = .next (s.disableQueue q.val) := by
  have hoff : bit (s.reg (aPq q.val) &&& 0x7FFFFFFF) 31 = false := by simp [bit_get]
  refine congrArg Host.Outcome.next ?_
  rw [State.pqCfgWrite, if_pos (by rw [hoff, decide_eq_true hq, hpres, hon]; rfl)]

/-! ## Pointer copies (R350, R351) -/

theorem noMajority_same (a c : BitVec 16) : noMajority a a c = false := by
  rw [noMajority, bne_self_eq_false]
  rfl

/-- Copies that agree change nothing. -/
theorem State.ptrMismatch_agree (q : Nat) : s.ptrMismatch q [] = s := by
  rw [State.ptrMismatch]
  simp only [State.ptrCopy, List.getD_nil, noMajority_same, decide_true, Bool.and_self, Bool.or_self, Bool.false_eq_true, if_true,
    if_false, ite_self]

theorem State.ptrMismatch_two {q : Nat} {a b : BitVec 16 × BitVec 16} (hq : q < 512) (hpres : s.pqPresent q = true) (hab : a ≠ b) :
    ∃ e, s.ptrMismatch q [a, b] = (s.pqResetAll q).emit e := by
  rw [State.ptrMismatch]
  simp only [hpres, Bool.true_eq_false, if_false, if_pos hq]
  exact ⟨_, if_neg hab⟩

theorem State.ptrMismatch_ledger {a c : BitVec 16 × BitVec 16} (hac : a ≠ c) (hpres : s.pqPresent qLedger = true) :
    ∃ e, s.ptrMismatch qLedger [a, a, c] = s.emit e := by
  have hcopies : ∀ i d, [a, a, c].getD i d = if i = 0 then a else if i = 1 then a else if i = 2 then c else d := by
    intro i d
    rcases i with _ | _ | _ | i <;> simp
  rw [State.ptrMismatch]
  simp only [hpres, State.ptrCopy, hcopies, noMajority_same, Bool.true_eq_false, if_false, if_true, Bool.or_self, Bool.false_eq_true,
    show ¬ qLedger < 512 by decide, one_ne_zero, show ¬ 2 = 0 by decide, show ¬ 2 = 1 by decide, decide_true, Bool.true_and,
    decide_eq_true_eq, hac]
  exact ⟨_, rfl⟩

theorem State.pq_pqResetAll (q : Nat) (hs : s.canonical = true) (hq : q ≠ qError) : ((s.pqResetAll q).pq q).items = [] := by
  obtain ⟨above, hchanged⟩ := State.pq_pqChanged q (flushStep true (s.pq q)).1 hs hq
  unfold State.pqResetAll
  extract_lets r _ p
  have hp : p = (flushStep true (s.pq q)).1 := if_neg hq
  rw [State.keepsPqs_pqLost _ q _ q hq, hp]
  exact congrArg PqState.items hchanged

/-! ## Pops (R339-R341, R352) -/

/-- The head item leaves the queue. -/
theorem State.popItem_head {q : Nat} {i : QItem} (hs : s.canonical = true) (hq : q ≠ qError)
    (hhead : headItem (s.pqWhole q) (s.pq q) = some i) :
    (s.popItem q).2.2 = some i ∧ ((s.popItem q).1.pq q).items = removeItem i (s.pq q).items ∧
      ((s.popItem q).1.pq q).sinkUsed = (s.pq q).sinkUsed := by
  have hstep : popStep (s.pqWhole q) (s.pq q) = ({ s.pq q with
      items := removeItem i (s.pq q).items, openR := if i.eop then none else if i.sop then some i.pkt else (s.pq q).openR,
      rptr := (s.pq q).rptr + 1 }, some i) := by
    rw [popStep, hhead]
  obtain ⟨above, hchanged⟩ := State.pq_pqChanged q (popStep (s.pqWhole q) (s.pq q)).1 hs hq
  have hdeliver : ∀ t : State, t.deliver q i = (t, i) := fun t => by rw [State.deliver, decide_eq_false hq]; rfl
  have hpop : (s.popItem q).1 = s.pqChanged q (popStep (s.pqWhole q) (s.pq q)).1 ∧ (s.popItem q).2.2 = some i := by
    rw [State.popItem]
    simp only [hstep, hdeliver, and_self]
  rw [hpop.1, hpop.2, hchanged, hstep]
  exact ⟨rfl, rfl, rfl⟩

/-- A predicate that does not see the store error of an item. -/
def PoisonBlind (P : QItem → Bool) : Prop := ∀ i : QItem, P { i with poison := true } = P i

/-- Marking an item whose predecessors `P` rejects leaves the marked item the first that `P` accepts, and it is the marked item
that is then removed. -/
theorem markItem_find {P : QItem → Bool} (hP : PoisonBlind P) {i : QItem} {l : List QItem} (h : l.find? P = some i) :
    (markItem i l).find? P = some { i with poison := true } ∧ removeItem { i with poison := true } (markItem i l) = removeItem i l := by
  have hi : P i = true := List.find?_some h
  have hi' : P { i with poison := true } = true := (hP i).trans hi
  induction l with
  | nil => exact absurd h (by simp)
  | cons j js ih =>
    rw [List.find?_cons] at h
    split at h
    · obtain rfl := Option.some.inj h
      simp [markItem, removeItem, hi']
    · next hj =>
      have hji : j ≠ i := fun he => by rw [he, hi] at hj; exact absurd hj (by decide)
      have hji' : j ≠ { i with poison := true } := fun he => by rw [he, hi'] at hj; exact absurd hj (by decide)
      obtain ⟨hfind, hremove⟩ := ih h
      simp [markItem, removeItem, hji, hji', hj, hfind, hremove]

theorem markItem_foldl {β : Type} (f : β → QItem → β) (hf : ∀ b (j : QItem), f b { j with poison := true } = f b j) (i : QItem)
    (l : List QItem) (b : β) : (markItem i l).foldl f b = l.foldl f b := by
  induction l generalizing b with
  | nil => rfl
  | cons j js ih =>
    rw [markItem]
    split
    · rw [List.foldl_cons, hf, List.foldl_cons]
    · rw [List.foldl_cons, ih, List.foldl_cons]

/-- What the head of a queue is chosen by, where the items are `l`. -/
def headPred (whole : Bool) (p : PqState) (l : List QItem) (i : QItem) : Bool :=
  match p.openR with
  | some k => i.pkt == k
  | none => readable whole p i &&
      i.prio.toNat == l.foldl (fun m j => if readable whole p j = true then max m j.prio.toNat else m) 0

theorem headPred_blind (whole : Bool) (p : PqState) (l : List QItem) : PoisonBlind (headPred whole p l) := by
  intro i
  rw [headPred, headPred]
  split <;> rfl

theorem headItem_eq (whole : Bool) (p : PqState) (l : List QItem) :
    headItem whole { p with items := l } = l.find? (headPred whole p l) := by
  rw [headItem]
  dsimp only
  unfold headPred
  cases p.openR with
  | some k => rfl
  | none =>
    dsimp only
    have hread : readable whole { p with items := l, openR := none } = readable whole p := rfl
    rw [List.find?_filter, List.foldl_filter, hread]
    congr 1
    funext i
    rw [Bool.decide_and, Bool.decide_eq_true, Bool.decide_eq_true]

/-- The head item marked as failing its store ECC is the head item still. -/
theorem headItem_marked {whole : Bool} {p : PqState} {i : QItem} (h : headItem whole p = some i) :
    headItem whole { p with items := markItem i p.items } = some { i with poison := true } ∧
      removeItem { i with poison := true } (markItem i p.items) = removeItem i p.items := by
  have hfind : p.items.find? (headPred whole p p.items) = some i := (headItem_eq whole p p.items).symm.trans h
  have hpred : headPred whole p (markItem i p.items) = headPred whole p p.items := by
    funext j
    rw [headPred, headPred, markItem_foldl _ (fun _ _ => rfl)]
  rw [headItem_eq, hpred]
  exact markItem_find (headPred_blind whole p p.items) hfind

/-- A pop that meets a store error, or an item that already has one. -/
theorem State.popWith_poisoned {q : Nat} {ue : Bool} {i : QItem} (hs : s.canonical = true) (hq : q ≠ qError)
    (hhead : headItem (s.pqWhole q) (s.pq q) = some i) (hbad : (ue || i.poison) = true) :
    (∃ j, (s.popWith q ue).2.2 = some j ∧ j.poison = true) ∧
      ((s.popWith q ue).1.pq q).items = removeItem i (s.pq q).items ∧ ((s.popWith q ue).1.pq q).sinkUsed = (s.pq q).sinkUsed := by
  cases ue with
  | false =>
    obtain ⟨hitem, hitems, hused⟩ := State.popItem_head hs hq hhead
    exact ⟨⟨i, hitem, by simpa using hbad⟩, hitems, hused⟩
  | true =>
    obtain ⟨hmarked, hremove⟩ := headItem_marked hhead
    let s1 := s.setPq q { s.pq q with items := markItem i (s.pq q).items }
    have hpoison : s.poisonHead q = s1 := by rw [State.poisonHead, hhead]; rfl
    have hpq : s1.pq q = { s.pq q with items := markItem i (s.pq q).items } := s.pq_setPq_same q _ (s.canonical_pq hs)
    have hs1 : s1.canonical = true := (s.setPq_frame q _).canonical hs
    have hhead1 : headItem (s1.pqWhole q) (s1.pq q) = some { i with poison := true } := by
      rw [hpq]
      exact hmarked
    obtain ⟨hitem, hitems, hused⟩ := State.popItem_head hs1 hq hhead1
    rw [State.popWith, if_pos rfl, hpoison]
    refine ⟨⟨_, hitem, rfl⟩, ?_, ?_⟩
    · rw [hitems, hpq, hremove]
    · rw [hused, hpq]

/-! ## Sinks (R358-R360; 12 R557) -/

/-- The conditions of a SINK 1 delivery. -/
def State.sink1Goes (s : State) (q : Nat) : Bool :=
  decide (q < 512) && s.pqPresent q && s.pqEn q && s.pqSinkKind q == 1 && decide ((s.pq q).sinkUsed < s.sinkCredits q) &&
    s.tileOn (s.sinkGate q) && (s.tile (s.sinkGate q)).gen == s.activeGen && !((s.tile (s.sinkGate q)).stoneFull 4 s.now)

theorem State.sinkDeliver_good {q : Nat} {i : QItem} (hs : s.canonical = true) (hq : q ≠ qError) (hgo : s.sink1Goes q = true)
    (hhead : headItem (s.pqWhole q) (s.pq q) = some i) (hgood : i.poison = false) :
    ((s.sinkDeliver q false).pq q).sinkUsed = (s.pq q).sinkUsed + 1 ∧
      ((s.sinkDeliver q false).pq q).items = removeItem i (s.pq q).items := by
  obtain ⟨hitem, hitems, hused⟩ := State.popItem_head hs hq hhead
  have hitem' : (s.popWith q false).2.2 = some i := hitem
  have hcan : (s.popWith q false).1.canonical = true := (s.popWith_frame q false).canonical hs
  have hpq : ((s.popWith q false).1.onPq q (fun p => { p with sinkUsed := p.sinkUsed + 1 })).pq q =
      { (s.popWith q false).1.pq q with sinkUsed := ((s.popWith q false).1.pq q).sinkUsed + 1 } :=
    State.pq_setPq_same _ q _ (State.canonical_pq _ hcan)
  have hdeliver : (s.sinkDeliver q false).pq q = ((s.popWith q false).1.onPq q (fun p => { p with sinkUsed := p.sinkUsed + 1 })).pq q := by
    rw [State.sinkDeliver]
    unfold State.sink1Goes at hgo
    simp only [hgo, if_true, hitem', hgood, Bool.false_eq_true, if_false]
    rfl
  rw [hdeliver, hpq]
  exact ⟨congrArg (· + 1) hused, hitems⟩

theorem State.sinkDeliver_poisoned {q : Nat} {ue : Bool} {i : QItem} (hs : s.canonical = true) (hq : q ≠ qError)
    (hgo : s.sink1Goes q = true) (hhead : headItem (s.pqWhole q) (s.pq q) = some i) (hbad : (ue || i.poison) = true) :
    s.sinkDeliver q ue = (s.popWith q ue).1.pqLost q 1 ∧ ((s.sinkDeliver q ue).pq q).sinkUsed = (s.pq q).sinkUsed ∧
      ((s.sinkDeliver q ue).pq q).items = removeItem i (s.pq q).items := by
  obtain ⟨⟨j, hitem, hj⟩, hitems, hused⟩ := State.popWith_poisoned hs hq hhead hbad
  have hdeliver : s.sinkDeliver q ue = (s.popWith q ue).1.pqLost q 1 := by
    rw [State.sinkDeliver]
    unfold State.sink1Goes at hgo
    simp only [hgo, if_true, hitem, hj]
  rw [hdeliver, State.keepsPqs_pqLost _ q 1 q hq]
  exact ⟨rfl, hused, hitems⟩

theorem exec_sink2_goes {q : QIx} {u : Bool} (hpres : s.pqPresent q.val = true) (hen : s.pqEn q.val = true)
    (hsink : s.pqSinkKind q.val = 2) (hlink : s.boot.linkUp = true) (hroom : s.ringHasRoom q.val = true) :
    exec (.sink2HostWrite q u) s = .next (s.orWait (s.deliverHost q.val u)) := by
  refine congrArg Host.Outcome.next (if_pos ?_)
  rw [hpres, hen, hsink, hlink, hroom]
  rfl

/-! ### Host writes -/

theorem State.keepsPqs_hdgError (s : State) (h m a code : Nat) : KeepsPqs s (s.hdgError h m a code) := by
  rw [State.hdgError]
  split
  · exact .of_pqs (s.count_pqs _ _)
  · exact KeepsPqs.trans (.of_pqs (s.count_pqs _ _)) (State.keepsPqs_emit _ _)

theorem State.keepsPqs_hdgNoPath (s : State) (h m a : Nat) : KeepsPqs s (s.hdgNoPath h m a) :=
  KeepsPqs.trans (.of_pqs (s.count_pqs _ _)) (State.keepsPqs_hdgError _ h m a 2)

theorem State.keepsPqs_hdgGated (s : State) (h m t g : Nat) : KeepsPqs s (s.hdgGated h m t g) := by
  rw [State.hdgGated]
  split
  · exact .of_pqs (s.count_pqs _ _)
  · exact KeepsPqs.trans (.of_pqs ((State.setHedge_frame _ _ _).pqs rfl |>.trans (s.count_pqs _ _))) (State.keepsPqs_emit _ _)

theorem State.keepsPqs_hdgLocal (s : State) (h m a n : Nat) (write xkzq : Bool) : KeepsPqs s (s.hdgLocal h m a n write xkzq).1 := by
  rw [State.hdgLocal]
  split
  · exact s.keepsPqs_hdgNoPath h m a
  · split
    · exact s.keepsPqs_hdgNoPath h m a
    · split
      · exact s.keepsPqs_hdgError h m a 5
      · split
        · split
          · exact .refl s
          · exact s.keepsPqs_hdgError h m a 2
        · split
          · exact .refl s
          · split
            · exact .refl s
            · split
              · exact .refl s
              · exact s.keepsPqs_hdgGated _ _ _ _
        · exact .refl s

theorem State.keepsPqs_hdgAccess (s : State) (h m a n : Nat) (write xkzq : Bool) : KeepsPqs s (s.hdgAccess h m a n write xkzq).1 := by
  rw [State.hdgAccess]
  split
  · exact .of_pqs rfl
  · rw [State.hdgCheck]
    dsimp only
    split
    · exact (s.keepsPqs_hdgLocal h m a n write xkzq).trans (State.keepsPqs_hdgLocal _ _ _ _ _ _ _)
    · exact s.keepsPqs_hdgLocal h m a n write xkzq

theorem State.keepsPqs_hostqWrite (s : State) (h a : Nat) (bs : List Byte) : KeepsPqs s (s.hostqWrite h a bs) := by
  rw [State.hostqWrite]
  split
  · exact (s.keepsPqs_hdgAccess _ _ _ _ _ _).trans (.of_pqs ((State.physWrite_frame _ h a bs).pqs rfl))
  · exact s.keepsPqs_hdgAccess _ _ _ _ _ _

/-- A delivery to the host ring takes the head item and moves HOST_TAIL on. -/
theorem State.deliverHost_good {q : Nat} {i : QItem} (hs : s.canonical = true) (hq : q ≠ qError)
    (hhead : headItem (s.pqWhole q) (s.pq q) = some i) (hgood : i.poison = false) :
    ((s.deliverHost q false).pq q).items = removeItem i (s.pq q).items ∧
      (s.deliverHost q false).hostTail q = (s.hostTail q + 1) % 2 ^ 32 := by
  obtain ⟨hitem, hitems, -⟩ := State.popItem_head hs hq hhead
  have hitem' : (s.popWith q false).2.2 = some i := hitem
  have hdeliver : ∃ u, s.deliverHost q false = u.setRegN (aPq q + 0xDC) ((s.hostTail q + 1) % 2 ^ 32) ∧
      KeepsPqs (s.popWith q false).1 u ∧ u.canonical = true := by
    rw [State.deliverHost]
    simp only [hitem', hgood, Bool.false_eq_true, if_false]
    refine ⟨_, rfl, (State.keepsPqs_hostqWrite _ _ _ _).trans (State.keepsPqs_hostqWrite _ _ _ _), ?_⟩
    exact (State.hostqWrite_frame _ _ _ _).canonical ((State.hostqWrite_frame _ _ _ _).canonical ((s.popWith_frame q false).canonical hs))
  obtain ⟨u, hu, hkeeps, hcan⟩ := hdeliver
  rw [hu]
  refine ⟨(congrArg PqState.items (hkeeps q hq)).trans hitems, ?_⟩
  exact State.regN_setRegN_same u _ _ hcan (Nat.mod_lt _ (by decide))

end Lemmas

/-- Settles O24, by what a write of PQ_CFG does (`exec_pqEnable_*`), what the pointer copies show and what a pop takes. -/
theorem queueSettingsAndSinks : Obligations.QueueSettingsAndSinks := by
  unfold Obligations.QueueSettingsAndSinks
  refine ⟨fun q v s hs hq hpres hoff hok => ?enable, fun q v s hs hq hpres hoff hbad => ?refuse,
    fun q v s hq hpres hon => exec_pqEnable_on hq hpres hon, fun q v s hq habs => exec_pqEnable_absent hq habs,
    fun v c s hs hc hsink hok => ?ledger, fun v s hs hsink => ?error, fun q s hq hpres hon => exec_pqDisable_on hq hpres hon,
    fun q v s hs hpres hroom => ?hostHead, fun q s => congrArg Host.Outcome.next (State.ptrMismatch_agree q.val),
    fun q a b s hs hq hpres hab => ?twoCopies, fun a c s hs hac hpres => ?threeCopies, fun q u s hsink => ?noSink,
    fun q i s hs hq hpres hen hsink hused hon hgen hfull hhead hgood => ?sink1,
    fun q ue i s hs hq hpres hen hsink hused hon hgen hfull hhead hbad => ?sink1Poisoned, fun q u s hlink => ?noLink,
    fun q i s hs hq hpres hen hsink hlink hroom hhead hgood hstall => ?sink2,
    fun q u w s hpres hen hsink hlink hroom hstall => ?sink2Waits⟩
  case enable =>
    refine ⟨_, (exec_pqEnable_off hq hpres hoff).trans (congrArg Host.Outcome.next (if_pos hok)), rfl, ?_,
      s.reg_setReg_same _ _ (s.canonical_regs hs), s.regsBut_setReg _ _⟩
    rw [State.pqEn_eq hq, s.reg_setReg_same _ _ (s.canonical_regs hs), bit_and, bit_setEn]
    rfl
  case refuse =>
    have hs1 := (s.setReg_frame (aPq q.val) ((v ||| 0x80000000) &&& pqCfgMask &&& 0x7FFFFFFF)).canonical hs
    refine ⟨_, (exec_pqEnable_off hq hpres hoff).trans (congrArg Host.Outcome.next (if_neg (ne_true_of_eq_false hbad))), rfl, ?_, ?_, ?_⟩
    · rw [State.pqEn_eq hq, State.reg_setBits_other _ _ _ _ (aPq_status_ne q.val), s.reg_setReg_same _ _ (s.canonical_regs hs)]
      simp [bit_get]
    · rw [State.reg_setBits_same _ _ _ (State.canonical_regs _ hs1), bit_or]
      simp [bit_get]
    · exact ((s.regsBut_setReg _ _).mono (by simp)).trans ((State.regsBut_setBits _ _ _).mono (by simp))
  case ledger =>
    exact ⟨_, exec_pqEnable_ledger hc hsink hok, rfl, s.reg_setReg_same _ _ (s.canonical_regs hs), s.regsBut_setReg _ _⟩
  case error =>
    exact ⟨_, exec_pqEnable_error hsink, rfl, s.reg_setReg_same _ _ (s.canonical_regs hs), s.regsBut_setReg _ _⟩
  case hostHead =>
    have hwrite : exec (.hostHeadWrite q v) s = .next (s.setReg (aPq q.val + 0xD8) v) :=
      congrArg Host.Outcome.next (if_pos (by rw [hpres, decide_eq_true hroom]; rfl))
    exact ⟨_, hwrite, rfl, s.reg_setReg_same _ _ (s.canonical_regs hs), s.regsBut_setReg _ _⟩
  case twoCopies =>
    obtain ⟨e, he⟩ := State.ptrMismatch_two hq hpres hab
    refine ⟨_, congrArg Host.Outcome.next he, ?_, ?_, ?_⟩
    · rw [State.keepsPqs_emit _ e _ (qix_ne_qError hq)]
      exact State.pq_pqResetAll q.val hs (qix_ne_qError hq)
    · exact ((State.emit_frame _ e).tiles rfl).trans ((s.pqResetAll_frame q.val).tiles rfl)
    · exact ((State.emit_frame _ e).mem rfl).trans ((s.pqResetAll_frame q.val).mem rfl)
  case threeCopies =>
    obtain ⟨e, he⟩ := State.ptrMismatch_ledger hac hpres
    refine ⟨_, congrArg Host.Outcome.next he, ?_, s.emit_errSeq e⟩
    rw [s.keepsPqs_emit e qLedger (by decide)]
  case noSink =>
    refine congrArg Host.Outcome.next ?_
    rw [State.sinkDeliver]
    exact if_neg (by simp [hsink])
  case sink1 =>
    have hgo : s.sink1Goes q.val = true := by simp [State.sink1Goes, hq, hpres, hen, hsink, hused, hon, hgen, hfull]
    obtain ⟨hcredit, hitems⟩ := State.sinkDeliver_good hs (qix_ne_qError hq) hgo hhead hgood
    exact ⟨_, rfl, hcredit, hitems, (s.sinkDeliver_frame q.val false).mem rfl⟩
  case sink1Poisoned =>
    have hgo : s.sink1Goes q.val = true := by simp [State.sink1Goes, hq, hpres, hen, hsink, hused, hon, hgen, hfull]
    obtain ⟨hlost, hcredit, hitems⟩ := State.sinkDeliver_poisoned hs (qix_ne_qError hq) hgo hhead hbad
    refine ⟨_, rfl, hcredit, hitems, ?_, (s.sinkDeliver_frame q.val ue).mem rfl⟩
    rw [hlost]
    exact ((State.pqLost_frame _ q.val 1).tiles rfl).trans ((s.popWith_frame q.val ue).tiles rfl)
  case noLink =>
    exact congrArg Host.Outcome.next (if_neg (by simp [hlink]))
  case sink2 =>
    obtain ⟨hitems, htail⟩ := State.deliverHost_good hs (qix_ne_qError hq) hhead hgood
    refine ⟨_, (exec_sink2_goes hpres hen hsink hlink hroom).trans ?_, hitems, htail⟩
    rw [State.orWait, hstall]
  case sink2Waits =>
    rw [exec_sink2_goes hpres hen hsink hlink hroom, State.orWait, hstall]

end Sys2Proof.Machine
end

section
/-!
PROOF. Device memory and its allocator (08 R382-R391), requests and locks on the Hedge (09 R418-R441), its settings (09 R421, R427).
-/
namespace Sys2Proof.Machine

/-! ## Bytes of a memory -/

theorem Tab.get_keep {α : Type} (d : Nat → α) (p : Nat → Bool) (m : Tab α) (k : Nat) :
    Tab.get d (Tab.keep p m) k = if p k = true then Tab.get d m k else d k := by
  induction m with
  | nil => simp [Tab.keep, Tab.get]
  | cons e m ih =>
    obtain ⟨j, w⟩ := e
    unfold Tab.keep at ih ⊢
    rw [List.filter_cons]
    by_cases hjk : j = k
    · subst hjk
      by_cases hp : p j = true
      · simp [hp, Tab.get]
      · simp [hp, ih]
    · by_cases hp : p j = true
      · simp [hp, Tab.get, hjk, ih]
      · simp [hp, Tab.get, hjk, ih]

/-- A zeroed range reads 0, and every other byte keeps its value. -/
theorem readByte_zeroBytes (m : List Host.Cell) (a n x : Nat) :
    readByte (zeroBytes m a n) x = if a ≤ x ∧ x < a + n then 0 else readByte m x := by
  rw [readByte, zeroBytes, Tab.get_keep]
  by_cases hx : a ≤ x ∧ x < a + n
  · rw [if_neg (by simp only [Bool.or_eq_true, decide_eq_true_eq]; omega), if_pos hx]
    rfl
  · rw [if_pos (by simp only [Bool.or_eq_true, decide_eq_true_eq]; omega), if_neg hx]
    rfl

section Lemmas
variable {s : State}

/-! ## Fill (R382) -/

theorem fillNorm_le (f n : Nat) (e : List Nat) : n ≤ (fillNorm f n e).1 := by
  induction f generalizing n e with
  | zero => exact le_rfl
  | succ f ih =>
    rw [fillNorm]
    split
    · exact (Nat.le_succ n).trans (ih _ _)
    · exact le_rfl

/-- The next block in order is no longer to be filled. -/
theorem fillNorm_lt (n : Nat) (e : List Nat) : n < (fillNorm (n :: e).length n (n :: e)).1 := by
  rw [List.length_cons, fillNorm, if_pos (by simp)]
  exact fillNorm_le _ _ _

theorem State.fillOne_next {k : Nat} (hearly : (Tab.at_ [] s.mem.filledEarly k).contains (Tab.at_ 0 s.mem.filled k) = false) :
    s.fillOne k (Tab.at_ 0 s.mem.filled k) = { s with mem := (s.fillOne k (Tab.at_ 0 s.mem.filled k)).mem } ∧
      (s.fillOne k (Tab.at_ 0 s.mem.filled k)).blockFilled k (Tab.at_ 0 s.mem.filled k) = true ∧
      (s.fillOne k (Tab.at_ 0 s.mem.filled k)).mem.hbm =
        zeroBytes s.mem.hbm (k * 2 ^ 34 + Tab.at_ 0 s.mem.filled k * 65536) 65536 := by
  have hfresh : s.blockFilled k (Tab.at_ 0 s.mem.filled k) = false := by
    rw [State.blockFilled, hearly, decide_eq_false (Nat.lt_irrefl _)]
    rfl
  have hlt := fillNorm_lt (Tab.at_ 0 s.mem.filled k) (Tab.at_ [] s.mem.filledEarly k)
  rw [State.fillOne, if_neg (ne_true_of_eq_false hfresh)]
  refine ⟨rfl, ?_, rfl⟩
  have hread := Tab.get_put_same_of_ne (fun _ => 0) s.mem.filled k _ (Nat.ne_zero_of_lt hlt)
  rw [State.blockFilled, Bool.or_eq_true]
  exact Or.inl (decide_eq_true (hlt.trans_eq hread.symm))

/-! ## Zeroing (R389) -/

theorem State.zeroDone_hbm {a n d : Nat} (hn : Tab.at_ 0 s.alloc.zeroing a = n) (hpos : n ≠ 0) (ha : physOf a = .hbm d) :
    s.zeroDone a = { s with mem := (s.zeroDone a).mem, alloc := (s.zeroDone a).alloc, lodge := (s.zeroDone a).lodge } ∧
      (s.zeroDone a).mem.hbm = zeroBytes s.mem.hbm d n := by
  rw [State.zeroDone]
  simp only [hn, if_neg hpos, ha]
  exact ⟨rfl, rfl⟩

/-! ## The allocator (R386-R391) -/

theorem State.live_emit (e : ErrInfo) : (s.emit e).alloc = s.alloc := (s.emit_frame e).alloc rfl

/-- A refusal leaves what is allocated. -/
theorem State.live_allocRefuse (ctx status : Nat) : (s.allocRefuse ctx status).alloc.live = s.alloc.live := by
  have hcount : (if ctx < 64 then s.count (aCtxAllocRefused ctx) 1 else s).alloc = s.alloc := by
    split <;> rfl
  unfold State.allocRefuse
  extract_lets s1 src s2
  have h2 : s2.alloc.live = s.alloc.live := (congrArg AllocState.live hcount :)
  split
  · exact h2
  · rw [State.live_emit]
    exact h2

theorem State.keepsPqs_allocRefuse (s : State) (ctx status : Nat) : KeepsPqs s (s.allocRefuse ctx status) := by
  have hcount : (if ctx < 64 then s.count (aCtxAllocRefused ctx) 1 else s).pqs = s.pqs := by
    split <;> rfl
  unfold State.allocRefuse
  extract_lets s1 src s2
  have h2 : KeepsPqs s s2 := .of_pqs hcount
  split
  · exact h2
  · exact h2.trans (s2.keepsPqs_emit _)

theorem State.allocate_badLength {ctx len al : Nat} (h : len = 0 ∨ len % 4096 ≠ 0 ∨ 2 ^ 30 < len) :
    s.allocate ctx len al = (s.allocRefuse ctx 3, 3, 0) := by
  rw [State.allocate]
  exact if_pos (by simp only [Bool.or_eq_true, decide_eq_true_eq]; tauto)

theorem State.goodLength {len : Nat} (hpos : len ≠ 0) (hpage : len % 4096 = 0) (hmax : len ≤ 2 ^ 30) :
    ¬ ((decide (len = 0) || decide (len % 4096 ≠ 0) || decide (2 ^ 30 < len)) = true) := by
  simp only [Bool.or_eq_true, decide_eq_true_eq]
  omega

theorem State.allocate_badAlign {ctx len al : Nat} (hpos : len ≠ 0) (hpage : len % 4096 = 0) (hmax : len ≤ 2 ^ 30)
    (hal : al < 12 ∨ 30 < al) : s.allocate ctx len al = (s.allocRefuse ctx 4, 4, 0) := by
  rw [State.allocate, if_neg (State.goodLength hpos hpage hmax)]
  exact if_pos (by simpa using hal)

/-- A request within the quota that finds a place is granted it. -/
theorem State.allocate_granted {ctx len al a : Nat} (hpos : len ≠ 0) (hpage : len % 4096 = 0) (hmax : len ≤ 2 ^ 30)
    (hlo : 12 ≤ al) (hhi : al ≤ 30) (hctx : ctx < 64) (hquota : s.reg64 (aCtxMemUsed ctx) + len ≤ s.reg64 (aCtxQuota ctx))
    (hplace : s.placeFor len (2 ^ al) = some a) :
    (s.allocate ctx len al).2 = (0, a) ∧
      (s.allocate ctx len al).1.alloc.live = Tab.put (fun _ => (0, 0)) s.alloc.live a (len, ctx) := by
  rw [State.allocate, if_neg (State.goodLength hpos hpage hmax), if_neg (by simp [hlo, hhi]), if_neg (by simp [hctx, hquota])]
  rw [hplace]
  exact ⟨rfl, rfl⟩

theorem State.keepsPqs_allocate (s : State) (ctx len al : Nat) : KeepsPqs s (s.allocate ctx len al).1 := by
  rw [State.allocate]
  dsimp only
  split
  · exact s.keepsPqs_allocRefuse ctx 3
  · split
    · exact s.keepsPqs_allocRefuse ctx 4
    · split
      · exact s.keepsPqs_allocRefuse ctx 5
      · split
        · exact s.keepsPqs_allocRefuse ctx _
        · exact .of_pqs rfl

theorem State.pqs_release (a : Nat) : (s.release a).pqs = s.pqs := (s.release_frame a).pqs rfl

theorem State.keepsPqs_freeAlloc (s : State) (ctx a : Nat) : KeepsPqs s (s.freeAlloc ctx a).1 := by
  rw [State.freeAlloc]
  split
  · exact .of_pqs (State.pqs_release a)
  · exact s.keepsPqs_allocRefuse ctx 6

theorem slice_length (bs : List Byte) (o n : Nat) : (slice bs o n).length = n := by
  simp only [slice, List.length_append, List.length_take, List.length_replicate]
  omega

/-- A slice byte by byte: past the end it is 0. -/
theorem slice_eq_map (bs : List Byte) (o n : Nat) : slice bs o n = (List.range n).map (fun i => bs.getD (o + i) 0) := by
  refine List.ext_getElem? fun i => ?_
  rw [slice]
  by_cases hi : i < n
  · rw [List.getElem?_map, List.getElem?_range hi, Option.map_some]
    by_cases hin : o + i < bs.length
    · rw [List.getElem?_append_left (by simp; omega), List.getElem?_take_of_lt hi, List.getElem?_drop,
        List.getElem?_eq_getElem hin, List.getD_eq_getElem _ _ hin]
    · rw [List.getElem?_append_right (by simp; omega), List.getElem?_replicate, if_pos (by simp; omega),
        List.getD_eq_default _ _ (by omega)]
  · rw [List.getElem?_eq_none (by simp; omega), List.getElem?_eq_none (by simp; omega)]

/-- A field of a slice is a field of what it was cut from. -/
theorem fieldAt_slice (bs : List Byte) (o n a k : Nat) (h : a + k ≤ n) : fieldAt (slice bs o n) a k = fieldAt bs (o + a) k := by
  have hslice : slice (slice bs o n) a k = slice bs (o + a) k := by
    rw [slice_eq_map (slice bs o n), slice_eq_map bs (o + a)]
    refine List.map_congr_left fun i hi => ?_
    have hi' : i < k := List.mem_range.mp hi
    rw [slice_eq_map, List.getD_eq_getElem _ _ (by simp; omega), List.getElem_map, List.getElem_range, Nat.add_assoc]
  rw [fieldAt, hslice, fieldAt]

/-- A request whose reply goes to no queue. -/
theorem State.answerAlloc_noReply {item : Line} (h : 512 ≤ fieldAt (lineBytes item) 0x1E 2) :
    KeepsPqs s (s.answerAlloc item) := by
  have hq : ¬ fieldAt (handleOf item).user 6 2 < 512 := by
    have huser : fieldAt (handleOf item).user 6 2 = fieldAt (lineBytes item) 0x1E 2 := fieldAt_slice _ 0x18 40 6 2 (by decide)
    omega
  rw [State.answerAlloc]
  simp only [if_neg hq]
  split
  · exact s.keepsPqs_allocate _ _ _
  · split
    · exact s.keepsPqs_freeAlloc _ _
    · exact .of_pqs rfl

end Lemmas

/-- Settles O27: the bytes by `readByte_zeroBytes`, the allocator by the branches of `State.allocate`. -/
theorem deviceMemory : Obligations.DeviceMemory := by
  unfold Obligations.DeviceMemory
  refine ⟨fun k s h => ?untrained, fun k s htrained hk hlt _ hearly => ?fill, fun a n d s _ hn hpos ha => ?zeroed,
    fun q s _ _ hitems hopen => ?noRequest, fun q i st s p hpop hgood => ?answers, fun q i s hs hq hpres hhead hgood hreply => ?request,
    fun s ctx len al h => ?badLength, fun s ctx len al hpos hpage hmax hal => ?badAlign,
    fun s ctx len al a _ hpos hpage hmax hlo hhi hctx hquota hplace => ?granted, fun s ctx a h => ?freeNothing⟩
  case untrained => exact congrArg Host.Outcome.next (if_neg (by simp [h]))
  case fill =>
    obtain ⟨hmem, hfilled, hbytes⟩ := State.fillOne_next hearly
    have hgo : exec (.fillBlock k) s = .next (s.fillOne k.val (Tab.at_ 0 s.mem.filled k.val)) :=
      congrArg Host.Outcome.next (if_pos (by simp [htrained, hk, hlt]))
    refine ⟨_, hgo, hmem, hfilled, fun x => ?_⟩
    rw [hbytes, readByte_zeroBytes]
    exact if_congr (by omega) rfl rfl
  case zeroed =>
    obtain ⟨hstate, hbytes⟩ := State.zeroDone_hbm hn hpos ha
    refine ⟨_, rfl, hstate, fun i hi => ?_, fun x hx => ?_⟩
    · rw [hbytes, readByte_zeroBytes, if_pos (by omega)]
    · rw [hbytes, readByte_zeroBytes, if_neg (by omega)]
  case noRequest =>
    have hhead : headItem (s.pqWhole q.val) (s.pq q.val) = none := by
      rw [headItem, hopen, hitems]
      rfl
    refine congrArg Host.Outcome.next ?_
    rw [State.allocRequest, State.popWith, if_neg Bool.false_ne_true, State.popItem, popStep, hhead]
  case answers =>
    refine congrArg Host.Outcome.next ?_
    rw [State.allocRequest, hpop]
    exact if_neg (ne_true_of_eq_false hgood)
  case request =>
    obtain ⟨hitem, hitems, -⟩ := State.popItem_head hs (qix_ne_qError hq) hhead
    have hitem' : (s.popWith q.val false).2.2 = some i := hitem
    have hanswer : s.allocRequest q.val = (s.popWith q.val false).1.answerAlloc i.data := by
      rw [State.allocRequest, hitem']
      exact if_neg (ne_true_of_eq_false hgood)
    have hframe := s.allocRequest_frame q.val
    refine ⟨_, rfl, ?_, hframe.tiles rfl, hframe.hostMem rfl⟩
    rw [hanswer, State.answerAlloc_noReply hreply q.val (qix_ne_qError hq)]
    exact hitems
  case badLength =>
    rw [State.allocate_badLength h]
    exact ⟨rfl, State.live_allocRefuse ctx 3⟩
  case badAlign =>
    rw [State.allocate_badAlign hpos hpage hmax hal]
    exact ⟨rfl, State.live_allocRefuse ctx 4⟩
  case granted =>
    obtain ⟨hanswer, hlive⟩ := State.allocate_granted hpos hpage hmax hlo hhi hctx hquota hplace
    rw [hlive]
    exact ⟨hanswer, Tab.get_put_same_of_ne _ _ _ _ (by simp [hpos]), fun b hb => Tab.get_put_other _ _ _ _ _ hb⟩
  case freeNothing =>
    have hrefuse : s.freeAlloc ctx a = (s.allocRefuse ctx 6, 6) := by
      rw [State.freeAlloc]
      exact if_neg (by simp [h])
    rw [hrefuse]
    exact ⟨rfl, State.live_allocRefuse ctx 6⟩

section Lemmas
variable {s : State}

/-! ## Requests (R428-R433) -/

theorem State.hedge_updHedge_same (h : Nat) (f : HdgState → HdgState) (hs : s.canonical = true) :
    (s.updHedge h f).hedge h = f (s.hedge h) := s.hedge_setHedge_same h _ (s.canonical_hedge hs)

theorem State.request_accepted {h : Nat} {r : HReq} {t : State} {x : HTxn} (hmaster : s.hasMaster h r.master.val = true)
    (hroom : s.outstanding h r.master.val < 32) (hshut : s.portShut h r.master.val = false) (hx : s.txnOf h r none = (t, x))
    (horg : x.org = none) : s.request h r = t.addTxn h x := by
  have hgo : ¬ (decide (s.hasMaster h r.master.val = false) || decide (32 ≤ s.outstanding h r.master.val) ||
      s.portShut h r.master.val) = true := by
    simp [hmaster, hroom, hshut]
  rw [State.request, if_neg hgo, State.arriveTxn, hx]
  dsimp only
  rw [State.crossBack, horg]

/-! ## Arbitration (R428) -/

/-- Of what a scan holds and the next element, the one with the lower key; what it holds where the keys agree. -/
def keepLeast {α : Type} (key : α → Nat) : Option α → α → Option α
  | none, e => some e
  | some b, e => if key e < key b then some e else some b

/-- The element with the least key, as a scan finds it. -/
theorem foldl_least {α : Type} (key : α → Nat) (l : List α) (acc : Option α) (b : α) (h : l.foldl (keepLeast key) acc = some b) :
    (acc = some b ∨ b ∈ l) ∧ (∀ a, acc = some a → key b ≤ key a) ∧ ∀ e ∈ l, key b ≤ key e := by
  induction l generalizing acc with
  | nil =>
    obtain rfl : acc = some b := h
    exact ⟨Or.inl rfl, fun a ha => (Option.some.inj ha) ▸ le_rfl, by simp⟩
  | cons e l ih =>
    rw [List.foldl_cons] at h
    obtain ⟨hfrom, hacc, hall⟩ := ih _ h
    cases acc with
    | none =>
      have he := hacc e rfl
      refine ⟨Or.inr ?_, by simp, fun x hx => ?_⟩
      · rcases hfrom with hb | hb
        · exact (Option.some.inj hb) ▸ List.mem_cons_self
        · exact List.mem_cons_of_mem _ hb
      · rcases List.mem_cons.mp hx with rfl | hx
        · exact he
        · exact hall x hx
    | some a =>
      rw [keepLeast] at hfrom hacc
      split at hacc
      · next hlt =>
        have he := hacc e rfl
        rw [if_pos hlt] at hfrom
        refine ⟨Or.inr ?_, fun a' ha' => (Option.some.inj ha') ▸ he.trans hlt.le, fun x hx => ?_⟩
        · rcases hfrom with hb | hb
          · exact (Option.some.inj hb) ▸ List.mem_cons_self
          · exact List.mem_cons_of_mem _ hb
        · rcases List.mem_cons.mp hx with rfl | hx
          · exact he
          · exact hall x hx
      · next hge =>
        have ha := hacc a rfl
        rw [if_neg hge] at hfrom
        refine ⟨hfrom.imp_right (List.mem_cons_of_mem _), fun a' ha' => (Option.some.inj ha') ▸ ha, fun x hx => ?_⟩
        rcases List.mem_cons.mp hx with rfl | hx
        · omega
        · exact hall x hx

theorem mem_zip_range {α : Type} (l : List α) (i : Nat) (y : α) : (i, y) ∈ (List.range l.length).zip l ↔ l[i]? = some y := by
  rw [List.mem_iff_getElem?]
  constructor
  · rintro ⟨j, hj⟩
    obtain ⟨hrange, hl⟩ := List.getElem?_zip_eq_some.mp hj
    have hji : j = i := by
      obtain ⟨hlt, he⟩ := List.getElem?_eq_some_iff.mp hrange
      rwa [List.getElem_range] at he
    exact hji ▸ hl
  · intro hl
    refine ⟨i, List.getElem?_zip_eq_some.mpr ⟨?_, hl⟩⟩
    exact List.getElem?_range (List.getElem?_eq_some_iff.mp hl).1

theorem State.nextGrant_eq (h v : Nat) : s.nextGrant h v =
    (((List.range (s.hedge h).txns.length).zip (s.hedge h).txns).filter (fun e => (s.hedge h).mayGrant v e.1 e.2)).foldl
      (keepLeast (fun e : Nat × HTxn => s.arbKey h v e.2.req.master.val)) none := by
  unfold State.nextGrant
  dsimp only
  congr 1
  funext m e
  cases m <;> rfl

/-- What a target grants next waits there, and none that may go has a lower key (R428). -/
theorem State.nextGrant_least {h v i : Nat} {y : HTxn} (hgrant : s.nextGrant h v = some (i, y)) :
    (s.hedge h).txns[i]? = some y ∧ (s.hedge h).mayGrant v i y = true ∧
      ∀ (j : Nat) (z : HTxn), (s.hedge h).txns[j]? = some z → (s.hedge h).mayGrant v j z = true →
        s.arbKey h v y.req.master.val ≤ s.arbKey h v z.req.master.val := by
  obtain ⟨hfrom, -, hall⟩ := foldl_least (fun e : Nat × HTxn => s.arbKey h v e.2.req.master.val)
    (((List.range (s.hedge h).txns.length).zip (s.hedge h).txns).filter (fun e => (s.hedge h).mayGrant v e.1 e.2)) none (i, y)
    ((State.nextGrant_eq h v).symm.trans hgrant)
  have hmem := hfrom.resolve_left (by simp)
  obtain ⟨hzip, hmay⟩ := List.mem_filter.mp hmem
  refine ⟨(mem_zip_range _ _ _).mp hzip, hmay, fun j z hj hz => ?_⟩
  exact hall (j, z) (List.mem_filter.mpr ⟨(mem_zip_range _ _ _).mpr hj, hz⟩)

/-! ## Responses, hold-back, locks (R432-R441) -/

theorem HdgState.unlocked_txns (y : HdgState) (x : HTxn) : (y.unlocked x).txns = y.txns := by
  rw [HdgState.unlocked]
  split <;> rfl

/-- The only outstanding request is answered, once it is done. -/
theorem State.respond_only {h : Hub} {x : HTxn} (hs : s.canonical = true) (htxns : (s.hedge h.val).txns = [x]) (hst : x.st = .granted)
    (horg : x.org = none) (hother : (s.hedge (1 - h.val)).txns = []) :
    ∃ u : State, s.respond h.val x.req.master.val x.req.id = u.answer (lineDWord x.data 0) (x.code + 8 * x.source) ∧
      u = { s with hdg := u.hdg } ∧ (u.hedge h.val).txns = [] := by
  have hne : h.val ≠ 1 - h.val := by omega
  have hfind : findAt (fun y => y.req.master.val == x.req.master.val && y.req.id == x.req.id && y.org.isNone) [x] 0 = some (0, x) := by
    rw [findAt, horg]
    simp
  have hperi : (s.hedge h.val).periFirst x = true := by
    rw [HdgState.periFirst, htxns]
    simp
  have hgo : ¬ (decide (x.st ≠ .granted) || !((s.hedge h.val).periFirst x) ||
      !((((s.hedge (1 - h.val)).txns.filter (fun y => y.standsFor x)).all (s.hedge (1 - h.val)).periFirst))) = true := by
    rw [hst, hperi, hother]
    simp
  let s1 := s.updHedge h.val (fun y => ({ y with txns := y.txns.eraseIdx 0 } : HdgState).unlocked x)
  have h1 : (s1.hedge h.val).txns = [] := by
    rw [State.hedge_updHedge_same _ _ hs, HdgState.unlocked_txns, htxns]
    rfl
  rw [State.respond]
  simp only [htxns, hfind]
  rw [if_neg hgo]
  by_cases hx : x.target = tHubx
  · rw [if_pos hx]
    refine ⟨_, rfl, rfl, ?_⟩
    rw [State.updHedge, State.hedge_setHedge_other _ _ _ _ hne]
    exact h1
  · rw [if_neg hx]
    exact ⟨_, rfl, rfl, h1⟩

/-- A held request whose cause has ended joins its target's queue. -/
theorem State.releaseHeld_only {h m : Nat} {x : HTxn} (htxns : (s.hedge h).txns = [x]) (hm : x.req.master.val = m)
    (hst : x.st = .heldOrder ∨ x.st = .heldLock) (hlock : (s.hedge h).heldForLock m x.target = false) :
    s.releaseHeld h m = (s.countHeld h m x.target .waiting).setTxn h 0 (fun y => { y with st := .waiting }) := by
  have hfirst : s.firstState h [] x.req (x.org.map (fun o => o.2)) x.target = .waiting := by
    rw [State.firstState, heldForOrder, List.any_nil, if_neg Bool.false_ne_true, hm, hlock, if_neg Bool.false_ne_true]
  have hheld : (x.req.master.val == m && (x.st == .heldOrder || x.st == .heldLock)) = true := by
    rcases hst with h | h <;> simp [hm, h]
  have hmove : ¬ TxnState.waiting = x.st := by
    rcases hst with h | h <;> simp [h]
  rw [State.releaseHeld, htxns]
  change State.releaseAt h m s 0 = _
  rw [State.releaseAt]
  simp only [htxns, List.getElem?_cons_zero, hheld, if_true, List.take_zero, hfirst, if_neg hmove]

end Lemmas

/-- Settles O28, by the ways a request is accepted, granted (`nextGrant_least`), answered and released. -/
theorem hedgeRequests : Obligations.HedgeRequests := by
  unfold Obligations.HedgeRequests
  refine ⟨fun h r s hno => ?refused, fun h r s hs hmaster hroom hshut habsent => ?absent,
    fun h r s hmaster hroom hshut hxkzq hstop => ?matrix, fun h r v s hmaster hroom hshut hxkzq hgo hlock htarget => ?waits,
    fun h v i y s hgrant => State.nextGrant_least hgrant, fun h m id s htxns => ?noResponse,
    fun h x s hs htxns hst horg hother => ?response, fun h m s htxns => ?noHeld, fun h x s htxns hst hlock => ?released,
    fun h t l s hlock hyoung => ?young, fun h t l s hlock hold hdone => ?old, fun h t s hlock => ?noLock⟩
  case refused =>
    refine congrArg Host.Outcome.next (if_pos ?_)
    rcases hno with hno | hno <;> simp [hno]
  case absent =>
    have hx : s.txnOf h.val r none = (s, ⟨r, noTarget, .granted, 3, 15, 0, 0, 0, none⟩) := if_pos habsent
    refine ⟨_, congrArg Host.Outcome.next (State.request_accepted hmaster hroom hshut hx rfl), rfl, ?_⟩
    rw [State.addTxn, State.hedge_updHedge_same _ _ hs]
  case matrix =>
    refine congrArg Host.Outcome.next (State.request_accepted hmaster hroom hshut ?_ rfl)
    rw [State.txnOf, if_neg (ne_true_of_eq_false hxkzq), if_pos hstop]
  case waits =>
    refine congrArg Host.Outcome.next (State.request_accepted hmaster hroom hshut ?_ rfl)
    rw [State.txnOf, if_neg (ne_true_of_eq_false hxkzq), if_neg (ne_true_of_eq_false hgo), if_neg (ne_true_of_eq_false hlock), htarget]
    rfl
  case noResponse =>
    refine congrArg Host.Outcome.next ?_
    rw [State.respond, htxns]
    rfl
  case response =>
    obtain ⟨u, hrespond, hu, htxns'⟩ := State.respond_only hs htxns hst horg hother
    refine ⟨_, congrArg Host.Outcome.next hrespond, ?_, htxns', rfl⟩
    exact congrArg (fun v : State => { v with readValue := lineDWord x.data 0, readStatus := x.code + 8 * x.source }) hu
  case noHeld =>
    refine congrArg Host.Outcome.next ?_
    rw [State.releaseHeld, htxns]
    rfl
  case released => exact congrArg Host.Outcome.next (State.releaseHeld_only htxns rfl hst hlock)
  case young =>
    refine congrArg Host.Outcome.next ?_
    rw [State.lockTimeout, hlock]
    refine if_neg ?_
    rcases hyoung with hyoung | hyoung
    · simp [Nat.not_lt.mpr hyoung]
    · simp [hyoung]
  case old =>
    refine congrArg Host.Outcome.next ?_
    rw [State.lockTimeout, hlock]
    exact if_pos (by simp [hold, hdone])
  case noLock =>
    refine congrArg Host.Outcome.next ?_
    rw [State.lockTimeout, hlock]

section Lemmas
variable {s : State}

/-! ## Windows and the lock (R421, R427) -/

/-- Every window's control word has an EN bit that a write stores. -/
theorem findRow_winCtl (h : Hub) (w : Fin 16) :
    ∃ r, findRow (aWin h.val w.val + 16) = some r ∧ r.rw.getLsbD 31 = true ∧ r.w1c.getLsbD 31 = false := by
  have hall : ∀ (h : Hub) (w : Fin 16),
      (findRow (aWin h.val w.val + 16)).any (fun r => r.rw.getLsbD 31 && !(r.w1c.getLsbD 31)) = true := by decide +kernel
  have hrow := hall h w
  cases hr : findRow (aWin h.val w.val + 16) with
  | none => rw [hr] at hrow; exact absurd hrow (by decide)
  | some r =>
    rw [hr, Option.any_some, Bool.and_eq_true, Bool.not_eq_true'] at hrow
    exact ⟨r, rfl, hrow⟩

/-- A bit that is RW and not W1C takes a written 1. -/
theorem RegRow.written_one (r : RegRow) (old v : Word) {i : Nat} (hi : i < 32) (hrw : r.rw.getLsbD i = true)
    (hw1c : r.w1c.getLsbD i = false) (hv : v.getLsbD i = true) : (r.written old v).getLsbD i = true := by
  rw [(accessCodes r old v i hi).1, hw1c, hrw, hv]
  simp

/-- A write of a window's control word that sets EN. -/
theorem State.plainWrite_winCtl (h : Hub) (w : Fin 16) (v : Word) (hv : bit v 31 = true)
    (habs : s.ident.absentAt (aWin h.val w.val + 16) = false) :
    ∃ x, s.plainWrite (aWin h.val w.val + 16) v = s.setReg (aWin h.val w.val + 16) x ∧ bit x 31 = true := by
  obtain ⟨r, hrow, hrw, hw1c⟩ := findRow_winCtl h w
  rw [bit_get] at hv
  rw [State.plainWrite, habs, if_neg Bool.false_ne_true, hrow]
  refine ⟨_, rfl, ?_⟩
  rw [bit_get]
  refine r.written_one _ _ (by decide) hrw hw1c ?_
  rw [BitVec.getLsbD_and, BitVec.getLsbD_not, BitVec.getLsbD_and, hv, hw1c]
  rfl

theorem aWin_ne_status (h w : Nat) : aWin h w + 16 ≠ aHdg h + 4 := by
  rw [aWin]
  omega

end Lemmas

/-- Settles O29, by the branches of a write of a window's control word, and the LOCKED bit. -/
theorem hedgeSettings : Obligations.HedgeSettings := by
  unfold Obligations.HedgeSettings
  refine ⟨fun h w v s hs hh hoff hv hrefused => ?refused, fun h w v s hs hh hoff hv hok habs => ?enabled,
    fun h w v s hh hon hv => ?kept, fun h w v s hh hon hv => ?disabled, fun h s hs hh => ?locked,
    fun h o v s _ hlocked => if_pos hlocked⟩
  case refused =>
    have hgo : exec (.hdgWinEnable h w v) s = .next (s.setBits (aHdg h.val + 4) 2) := by
      refine congrArg Host.Outcome.next ((if_pos hh).trans ?_)
      rw [State.writeWinCtl, if_neg (ne_true_of_eq_false hoff), if_pos (by rw [hv, hrefused]; rfl)]
    refine ⟨_, hgo, rfl, ?_, ?_, s.regsBut_setBits _ _⟩
    · exact (congrArg (bit · 31) (s.reg_setBits_other _ _ _ (aWin_ne_status h.val w.val))).trans hoff
    · rw [s.reg_setBits_same _ _ (s.canonical_regs hs), bit_or]
      simp [bit_get]
  case enabled =>
    obtain ⟨x, hwrite, hx⟩ := State.plainWrite_winCtl h w v hv habs
    have hgo : exec (.hdgWinEnable h w v) s = .next (s.setReg (aWin h.val w.val + 16) x) := by
      refine congrArg Host.Outcome.next ((if_pos hh).trans ?_)
      rw [State.writeWinCtl, if_neg (ne_true_of_eq_false hoff), if_neg (by rw [hok]; simp), hwrite]
    refine ⟨_, hgo, rfl, ?_, s.regsBut_setReg _ _⟩
    rw [State.winEn, s.reg_setReg_same _ _ (s.canonical_regs hs)]
    exact hx
  case kept =>
    refine congrArg Host.Outcome.next ((if_pos hh).trans ?_)
    rw [State.writeWinCtl, if_pos hon, if_pos hv]
  case disabled =>
    refine congrArg Host.Outcome.next ((if_pos hh).trans ?_)
    rw [State.writeWinCtl, if_pos hon, if_neg (ne_true_of_eq_false hv)]
  case locked =>
    refine ⟨_, congrArg Host.Outcome.next (if_pos hh), rfl, ?_, s.regsBut_setBits _ _⟩
    rw [State.hdgLocked, s.reg_setBits_same _ _ (s.canonical_regs hs), bit_or]
    simp [bit_get]

end Sys2Proof.Machine
end

section
/-!
PROOF. The image loader: GO and ABORT (10 R464-R468, R493), verification and delivery (10 R468-R473), activation and the changeover
(10 R475-R487; 00 R695).
-/
namespace Sys2Proof.Machine

section Lemmas
variable (s : State)

/-! ## STATE and CODE of the loader -/

theorem State.loadState_congr {s t : State} (h : t.reg aHubLoadStatus = s.reg aHubLoadStatus) : t.loadState = s.loadState := by
  rw [State.loadState, h]
  rfl

theorem State.loadState_setLoadState (v : Nat) (hs : s.canonical = true) (hv : v < 16) : (s.setLoadState v).loadState = v := by
  rw [State.loadState, State.setLoadState, s.reg_setReg_same _ _ (s.canonical_regs hs), fld_setFld_same _ 28 4 v (by decide),
    Nat.mod_eq_of_lt (show v < 2 ^ 4 from hv)]

theorem State.loadState_setLoadCode (c : Nat) (hs : s.canonical = true) : (s.setLoadCode c).loadState = s.loadState := by
  rw [State.loadState, State.setLoadCode, s.reg_setReg_same _ _ (s.canonical_regs hs),
    fld_setFld_other _ 0 16 c 28 4 (by decide) (by decide)]
  rfl

/-- CODE is the low half of the status word. -/
theorem State.loadCode_setLoadCode (c : Nat) (hs : s.canonical = true) (hc : c < 65536) :
    fld ((s.setLoadCode c).reg aHubLoadStatus) 0 16 = c := by
  rw [State.setLoadCode, s.reg_setReg_same _ _ (s.canonical_regs hs), fld_setFld_same _ 0 16 c (by decide),
    Nat.mod_eq_of_lt (show c < 2 ^ 16 from hc)]

theorem State.loadCode_setLoadState (v : Nat) (hs : s.canonical = true) :
    fld ((s.setLoadState v).reg aHubLoadStatus) 0 16 = fld (s.reg aHubLoadStatus) 0 16 := by
  rw [State.setLoadState, s.reg_setReg_same _ _ (s.canonical_regs hs), fld_setFld_other _ 28 4 v 0 16 (by decide) (by decide)]

theorem State.regsBut_setLoadState (v : Nat) : RegsBut s (s.setLoadState v) [aHubLoadStatus] := s.regsBut_setReg _ _

/-! ## The loader's record and the refusal of an image (R468) -/

theorem State.loadRecord_load (r : Refuse) : (s.loadRecord r).load = s.load := (s.loadRecord_frame r).load rfl
theorem State.loadRecord_tiles (r : Refuse) : (s.loadRecord r).tiles = s.tiles := (s.loadRecord_frame r).tiles rfl

theorem State.loadState_loadRecord (r : Refuse) (hs : s.canonical = true) : (s.loadRecord r).loadState = s.loadState :=
  (State.loadState_setLoadCode _ _ ((s.emit_frame _).canonical hs)).trans
    (State.loadState_congr (s.reg_emit_low _ _ (by decide)))

theorem State.loadCode_loadRecord (r : Refuse) (hs : s.canonical = true) (hc : r.code < 65536) :
    fld ((s.loadRecord r).reg aHubLoadStatus) 0 16 = r.code :=
  State.loadCode_setLoadCode _ _ ((s.emit_frame _).canonical hs) hc

theorem State.loadState_refuseLoad (r : Refuse) (hs : s.canonical = true) : (s.refuseLoad r).loadState = 5 :=
  State.loadState_setLoadState _ 5 ((s.loadRecord_frame r).canonical hs) (by decide)

theorem State.loadCode_refuseLoad (r : Refuse) (hs : s.canonical = true) (hc : r.code < 65536) :
    fld ((s.refuseLoad r).reg aHubLoadStatus) 0 16 = r.code :=
  (State.loadCode_setLoadState _ 5 ((s.loadRecord_frame r).canonical hs)).trans (s.loadCode_loadRecord r hs hc)

theorem State.refuseLoad_load (r : Refuse) : (s.refuseLoad r).load = { s.load with staged := none } :=
  congrArg (fun l : LoadState => { l with staged := none }) (s.loadRecord_load r)

theorem State.refuseLoad_tiles (r : Refuse) : (s.refuseLoad r).tiles = s.tiles := s.loadRecord_tiles r

/-! ## GO and ABORT (R464-R468, R493) -/

theorem State.exec_loadGo (mode : Bool) : exec (.loadGo mode) s = .next (s.loadGo mode) := rfl
theorem State.exec_loadAbort : exec .loadAbort s = .next s.endLoad := rfl

/-- The state in which GO looks at the loader: MODE is written. -/
def State.withLoadCtrl (s : State) (mode : Bool) : State := s.setReg aHubLoadCtrl (if mode then 1 else 0)

theorem State.withLoadCtrl_loadState (mode : Bool) : (s.withLoadCtrl mode).loadState = s.loadState :=
  State.loadState_congr (s.reg_setReg_other _ _ _ (by decide))
theorem State.withLoadCtrl_runBit (mode : Bool) : (s.withLoadCtrl mode).runBit = s.runBit :=
  congrArg (bit · 8) (s.reg_setReg_other _ _ _ (by decide))
theorem State.canonical_withLoadCtrl (mode : Bool) (hs : s.canonical = true) : (s.withLoadCtrl mode).canonical = true :=
  (s.setReg_frame _ _).canonical hs

/-- The loader is idle: no load is under way (R464). -/
def State.loaderIdle (s : State) : Bool := s.loadState == 0 || s.loadState == 5 || s.loadState == 6

theorem State.loaderIdle_of (h : s.loadState = 0 ∨ s.loadState = 5 ∨ s.loadState = 6) : s.loaderIdle = true := by
  obtain h | h | h := h <;> rw [State.loaderIdle, h] <;> rfl

/-- The load that GO begins. -/
def State.beginLoad (s : State) (mode : Bool) : State :=
  (({ s with load := { LoadState.empty with active := s.load.active, mode := mode } } : State).setRegN aHubLoadProgress 0).setLoadState 1

theorem State.loadGo_eq (mode : Bool) : s.loadGo mode =
    if !(s.withLoadCtrl mode).loaderIdle then (s.withLoadCtrl mode).loadRecord ⟨0x010E, 0, 0⟩
    else if !mode && (s.withLoadCtrl mode).runBit then (s.withLoadCtrl mode).refuseLoad ⟨0x010E, 0, 0⟩
    else (s.withLoadCtrl mode).beginLoad mode := rfl

theorem State.withLoadCtrl_loaderIdle (mode : Bool) : (s.withLoadCtrl mode).loaderIdle = s.loaderIdle := by
  rw [State.loaderIdle, s.withLoadCtrl_loadState]
  rfl

theorem State.loadGo_idle {mode : Bool} (h : s.loaderIdle = true) (hrun : mode = true ∨ s.runBit = false) :
    s.loadGo mode = (s.withLoadCtrl mode).beginLoad mode := by
  rw [s.loadGo_eq, s.withLoadCtrl_loaderIdle, s.withLoadCtrl_runBit, h]
  obtain rfl | hrun := hrun
  · rfl
  · rw [hrun, Bool.and_false]
    rfl

theorem State.loadGo_busy (mode : Bool) (h : s.loaderIdle = false) :
    s.loadGo mode = (s.withLoadCtrl mode).loadRecord ⟨0x010E, 0, 0⟩ := by
  rw [s.loadGo_eq, s.withLoadCtrl_loaderIdle, h]
  rfl

theorem State.loadGo_stream (h : s.loaderIdle = true) (hrun : s.runBit = true) :
    s.loadGo false = (s.withLoadCtrl false).refuseLoad ⟨0x010E, 0, 0⟩ := by
  rw [s.loadGo_eq, s.withLoadCtrl_loaderIdle, s.withLoadCtrl_runBit, h, hrun]
  rfl

/-- No load is under way that ABORT could end. -/
theorem State.endLoad_none (h : s.loadState = 0 ∨ 4 ≤ s.loadState) : s.endLoad = s := by
  rw [State.endLoad, if_neg]
  simp only [Bool.and_eq_true, decide_eq_true_eq, not_and]
  omega

theorem State.endLoad_underWay (h1 : 1 ≤ s.loadState) (h3 : s.loadState ≤ 3) :
    s.endLoad = { s.dropShadows.setLoadState 6 with load := { LoadState.empty with active := s.load.active } } := by
  rw [State.endLoad, if_pos (by simp [h1, h3])]

end Lemmas

/-- Settles O30, by the three cases of GO and the two of ABORT. -/
theorem loadStarts : Obligations.LoadStarts := by
  unfold Obligations.LoadStarts
  refine ⟨fun mode s hs hidle hrun => ?start, fun mode s hs h0 h5 h6 => ?busy, fun s hs hidle hrun => ?stream,
    fun s hs h1 h3 => ?abort, fun s h => congrArg Host.Outcome.next (s.endLoad_none h)⟩
  case start =>
    refine ⟨_, (s.exec_loadGo mode).trans (congrArg _ (s.loadGo_idle (s.loaderIdle_of hidle) hrun)), rfl, ?_, rfl, rfl, ?_⟩
    · exact State.loadState_setLoadState _ 1
        ((State.setRegN_frame _ aHubLoadProgress 0).canonical (s.canonical_withLoadCtrl mode hs)) (by decide)
    · have hctrl : RegsBut s (s.withLoadCtrl mode) [aHubLoadCtrl] := s.regsBut_setReg _ _
      have hprogress : RegsBut (s.withLoadCtrl mode) (((s.withLoadCtrl mode).beginLoad mode)) [aHubLoadProgress, aHubLoadStatus] :=
        RegsBut.trans (t := ({ s.withLoadCtrl mode with load := { LoadState.empty with active := s.load.active, mode := mode } } :
          State).setRegN aHubLoadProgress 0)
          ((State.regsBut_setReg _ aHubLoadProgress _).mono (by simp)) ((State.regsBut_setLoadState _ 1).mono (by simp))
      exact (hctrl.mono (by simp)).trans (hprogress.mono (by simp))
  case busy =>
    have hbusy : s.loaderIdle = false := by simp [State.loaderIdle, h0, h5, h6]
    have hcanon := s.canonical_withLoadCtrl mode hs
    refine ⟨_, (s.exec_loadGo mode).trans (congrArg _ (s.loadGo_busy mode hbusy)), ?_, State.loadRecord_load _ _,
      State.loadCode_loadRecord _ _ hcanon (by decide), State.loadRecord_tiles _ _⟩
    exact (State.loadState_loadRecord _ _ hcanon).trans (s.withLoadCtrl_loadState mode)
  case stream =>
    have hload := (s.withLoadCtrl false).refuseLoad_load ⟨0x010E, 0, 0⟩
    exact ⟨_, (s.exec_loadGo false).trans (congrArg _ (s.loadGo_stream (s.loaderIdle_of hidle) hrun)),
      State.loadState_refuseLoad _ _ (s.canonical_withLoadCtrl false hs), (congrArg LoadState.active hload :),
      (congrArg LoadState.staged hload :), State.refuseLoad_tiles _ _⟩
  case abort =>
    have hcanon := s.dropShadows_frame.canonical hs
    exact ⟨_, (s.exec_loadAbort).trans (congrArg _ (s.endLoad_underWay h1 h3)), rfl,
      s.dropShadows.loadState_setLoadState 6 hcanon (by decide), rfl, rfl, s.dropShadows.regsBut_setLoadState 6⟩

section Lemmas
variable (s : State)

/-! ## Verification and delivery (R468-R473) -/

theorem State.exec_loadVerifyComplete : exec .loadVerifyComplete s = .next s.verifyLoad := rfl
theorem State.exec_trellisDelivery (t : TileLoc) : exec (.trellisDelivery t) s = .next (s.trellis t) := rfl

theorem State.verifyLoad_other (h : s.loadState ≠ 1) : s.verifyLoad = s := if_pos h

theorem State.verifyLoad_unread {o : Nat} {g : State} (h : s.loadState = 1) (himg : s.imageBytes = (g, .inr o)) :
    s.verifyLoad = g.refuseLoad ⟨0x010C, 0, o⟩ := by
  rw [State.verifyLoad, if_neg (not_not.2 h), himg]

theorem State.deliverTile_todo (i : Image) (t : TileLoc) :
    (s.deliverTile i t).load.todo = s.load.todo.filter (fun j => j != t.key) := by
  unfold State.deliverTile
  extract_lets k g new sw rows s1 early s2 n done
  have h1 : s1.load = s.load :=
    (Frame.foldl 36077568 s _ rows s (Frame.refl _ s) (fun _ _ h => State.writeRows_step _ _ _ _ _ _ h rfl)).load rfl
  exact congrArg (fun l : LoadState => l.todo.filter (fun j => j != t.key)) h1

theorem State.trellis_other (t : TileLoc) (h : s.loadState ≠ 2) : s.trellis t = s := by
  unfold State.trellis
  split
  · rfl
  · rw [if_pos (by simp [h])]

/-- A delivery that may arrive: the load ends with the last one. -/
theorem State.trellis_delivers {t : TileLoc} {i : Image} (hi : s.load.staged = some i) (h2 : s.loadState = 2)
    (htodo : s.load.todo.contains t.key = true) (hon : s.tileOn t.key = true) :
    s.trellis t = if (s.load.todo.filter (fun j => j != t.key)).isEmpty then (s.deliverTile i t).finishDelivery i
      else s.deliverTile i t := by
  have hmay : ¬ (s.loadState ≠ 2 || !(s.load.todo.contains t.key) || !(s.tileOn t.key)) = true := by rw [h2, htodo, hon]; decide
  unfold State.trellis
  rw [hi]
  dsimp only
  rw [if_neg hmay, s.deliverTile_todo]

end Lemmas

/-- Settles O31, by the outcomes of a verification, and by whether a delivery is the last. -/
theorem loadSteps : Obligations.LoadSteps := by
  unfold Obligations.LoadSteps
  refine ⟨fun s h => congrArg Host.Outcome.next (s.verifyLoad_other h), fun o s hs h1 himg => ?unread,
    fun bs s g u h1 himg hu => ?checked, fun t i s hi h2 htodo hon hmore => ?delivered, fun t i s hi h2 htodo hon hlast => ?last,
    fun t s h => congrArg Host.Outcome.next (s.trellis_other t h)⟩
  case unread =>
    have hload := s.refuseLoad_load ⟨0x010C, 0, o⟩
    exact ⟨_, s.exec_loadVerifyComplete.trans (congrArg _ (s.verifyLoad_unread h1 himg)), s.loadState_refuseLoad _ hs,
      (congrArg LoadState.staged hload :), (congrArg LoadState.active hload :), s.refuseLoad_tiles _,
      s.loadCode_refuseLoad _ hs (by decide : (0x010C : Nat) < 65536)⟩
  case checked =>
    subst hu
    refine s.exec_loadVerifyComplete.trans (congrArg Host.Outcome.next ((if_neg (not_not.2 h1)).trans ?_))
    generalize s.imageBytes = r at himg
    subst himg
    rfl
  case delivered =>
    refine ⟨_, (s.exec_trellisDelivery t).trans (congrArg _ ((s.trellis_delivers hi h2 htodo hon).trans (if_neg ?_))), rfl,
      s.deliverTile_todo i t⟩
    rwa [List.isEmpty_iff]
  case last =>
    refine (s.exec_trellisDelivery t).trans (congrArg _ ((s.trellis_delivers hi h2 htodo hon).trans (if_pos ?_)))
    rwa [List.isEmpty_iff]

section Lemmas
variable (s : State)

/-! ## Activation, the swap band and the window (R475, R476, R482-R487) -/

theorem State.exec_activation : exec .activation s = .next s.activate := rfl
theorem State.exec_swapNow : exec .swapNow s = .next (if s.loadState = 3 then s.wantSwap none else s) := rfl
theorem State.exec_hubSwapBandWrite (hi : Word) : exec (.hubSwapBandWrite hi) s = .next (s.writeSwapBand hi) := rfl
theorem State.exec_changeoverWindowClose :
    exec .changeoverWindowClose s = .next (if s.eocThrough then s.closeWindow else s) := rfl
theorem State.exec_hubBar2BaseWrite (hi : Word) : exec (.hubBar2BaseWrite hi) s = .next (s.writeBar2Base hi) := rfl

/-- The loader once image `i` has become the active one. -/
theorem State.commitImage_load (i : Image) :
    (s.commitImage i).load = { LoadState.empty with active := some i, bytesDone := s.load.bytesDone } := rfl

theorem State.startKernels_load (i : Image) (g : BitVec 2) : (s.startKernels i g).load = s.load :=
  (s.startKernels_frame i g).load rfl
theorem State.stopKernels_load (g : BitVec 2) : (s.stopKernels g).load = s.load := (s.stopKernels_frame g).load rfl

theorem State.activateCold_load {i : Image} (hi : s.load.staged = some i) :
    ∃ n, s.activateCold.load = { LoadState.empty with active := some i, bytesDone := n } := by
  rw [State.activateCold, hi]
  exact ⟨_, (State.startKernels_load _ _ _).trans (State.commitImage_load _ _)⟩

theorem State.closeWindow_load {i : Image} (hi : s.load.staged = some i) :
    ∃ n, s.closeWindow.load = { LoadState.empty with active := some i, bytesDone := n } := by
  rw [State.closeWindow, hi]
  exact ⟨_, (State.stopKernels_load _ _).trans (State.commitImage_load _ _)⟩

theorem State.reg64_setReg64_same (a v : Nat) (hs : s.canonical = true) (hv : v < 2 ^ 64) : (s.setReg64 a v).reg64 a = v := by
  have hlow : ((s.setReg64 a v).reg a).toNat = v % 2 ^ 32 := by
    rw [State.setReg64, State.reg_setRegN_other _ _ _ _ (by omega)]
    exact s.regN_setRegN_same a _ hs (Nat.mod_lt _ (by decide))
  have hhigh : ((s.setReg64 a v).reg (a + 4)).toNat = v / 2 ^ 32 :=
    State.regN_setRegN_same _ (a + 4) _ ((s.setRegN_frame a (v % 2 ^ 32)).canonical hs) (by omega)
  rw [State.reg64, hlow, hhigh]
  omega

theorem State.regsBut_setReg64 (a v : Nat) : RegsBut s (s.setReg64 a v) [a, a + 4] :=
  ((s.regsBut_setReg a _).mono (by simp)).trans ((State.regsBut_setReg _ (a + 4) _).mono (by simp))

/-- A swap is wanted of no load but one of MODE 1 that is under way. -/
theorem State.wantSwap_idle (w : Option W48) (h : s.loadState = 0) : s.wantSwap w = s := by
  have hnone : ¬ (s.loadMode && 1 ≤ s.loadState && s.loadState ≤ 3) = true := by simp [h]
  rw [State.wantSwap, if_neg hnone, ite_self]

theorem State.wantSwap_underWay (w : Option W48) (hmode : s.loadMode = true) (h1 : 1 ≤ s.loadState) (h3 : s.loadState ≤ 3)
    (hg : s.grp.running = false) : s.wantSwap w = (s.updLoad (fun l => { l with swapWanted := some w })).tryArm := by
  rw [State.wantSwap, if_neg (by simp [hg]), if_pos (by simp [hmode, h1, h3])]

/-- Nothing is armed before the image is complete. -/
theorem State.tryArm_early (h : s.loadState ≠ 3) : s.tryArm = s := by
  unfold State.tryArm
  split
  · rfl
  · rw [if_pos (by simp [h])]

theorem State.wantSwap_early (w : Option W48) (hmode : s.loadMode = true) (h1 : 1 ≤ s.loadState) (h2 : s.loadState ≤ 2)
    (hg : s.grp.running = false) : s.wantSwap w = s.updLoad (fun l => { l with swapWanted := some w }) := by
  have hearly : (s.updLoad (fun l => { l with swapWanted := some w })).loadState ≠ 3 := ne_of_lt (Nat.lt_succ_of_le h2)
  rw [s.wantSwap_underWay w hmode h1 (by omega) hg, State.tryArm_early _ hearly]

theorem State.tryArm_alone {w : Option W48} (hw : s.load.swapWanted = some w) (h : s.loadState = 3) (hmode : s.loadMode = true)
    (hg : s.grp.running = false) (hc : bit (s.reg aContainStatus) 31 = false) : s.tryArm = s.armAt (w.getD s.bandNum) := by
  rw [State.tryArm, hw]
  dsimp only
  rw [if_neg (by rw [h, hmode, hc]; decide), if_neg (by rw [hg]; exact Bool.false_ne_true)]

/-- The band that a write of the high word gives HUB_SWAP_BAND. -/
def State.swapBandOf (s : State) (hi : Word) : Nat := (s.latched aHubSwapBand).toNat + 2 ^ 32 * (hi.toNat % 65536)

theorem State.swapBandOf_lt (hi : Word) : s.swapBandOf hi < 2 ^ 64 := by
  have hlow : (s.latched aHubSwapBand).toNat < 2 ^ 32 := (s.latched aHubSwapBand).isLt
  have hhigh : hi.toNat % 65536 < 65536 := Nat.mod_lt _ (by decide)
  rw [State.swapBandOf]
  omega

theorem State.loadState_setReg64_swapBand (v : Nat) : (s.setReg64 aHubSwapBand v).loadState = s.loadState :=
  State.loadState_congr (s.regsBut_setReg64 aHubSwapBand v aHubLoadStatus (by decide))

end Lemmas

/-- Settles O32: what becomes active is what `commitImage` makes the loader's image. -/
theorem activation : Obligations.Activation := by
  unfold Obligations.Activation
  refine ⟨fun i s hdue hi => ?due, fun s h => congrArg Host.Outcome.next (if_neg (ne_true_of_eq_false h)),
    fun s h => congrArg Host.Outcome.next (if_neg h), fun s h hmode hg hc => ?now, fun hi s hs h0 => ?band,
    fun hi s hs hmode h1 h2 hg => ?wanted, fun s h => congrArg Host.Outcome.next (if_neg (ne_true_of_eq_false h)),
    fun i s hthrough hi => ?close, fun hi s hs hhbm hmul => ?base, fun hi s hmul => ?ignored⟩
  case due =>
    obtain ⟨n, hload⟩ := s.activateCold_load hi
    exact ⟨_, s.exec_activation.trans (congrArg _ (if_pos hdue)), congrArg LoadState.active hload, congrArg LoadState.staged hload⟩
  case now =>
    rw [s.exec_swapNow, if_pos h, s.wantSwap_underWay none hmode (by omega) (by omega) hg]
    exact congrArg _ (State.tryArm_alone (w := none) _ rfl h hmode hg hc)
  case band =>
    have hgo : s.writeSwapBand hi = s.setReg64 aHubSwapBand (s.swapBandOf hi) :=
      State.wantSwap_idle _ _ ((s.loadState_setReg64_swapBand _).trans h0)
    exact ⟨_, (s.exec_hubSwapBandWrite hi).trans (congrArg _ hgo), rfl, s.reg64_setReg64_same _ _ hs (s.swapBandOf_lt hi),
      s.regsBut_setReg64 _ _⟩
  case wanted =>
    have hstate := s.loadState_setReg64_swapBand (s.swapBandOf hi)
    exact ⟨_, (s.exec_hubSwapBandWrite hi).trans (congrArg _ (State.wantSwap_early (s.setReg64 aHubSwapBand (s.swapBandOf hi)) _
      hmode (hstate.symm ▸ h1) (hstate.trans_le h2) hg)), rfl, rfl⟩
  case close =>
    obtain ⟨n, hload⟩ := s.closeWindow_load hi
    exact ⟨_, s.exec_changeoverWindowClose.trans (congrArg _ (if_pos hthrough)), congrArg LoadState.active hload,
      congrArg LoadState.staged hload, congrArg LoadState.windowOpen hload⟩
  case base =>
    have hlow : (Tab.at_ 0 s.latch aHubBar2Base).toNat < 2 ^ 32 := (Tab.at_ 0 s.latch aHubBar2Base).isLt
    have hhigh : hi.toNat < 2 ^ 32 := hi.isLt
    refine ⟨_, (s.exec_hubBar2BaseWrite hi).trans (congrArg _ (if_pos ?_)), rfl, s.reg64_setReg64_same _ _ hs (by omega),
      s.regsBut_setReg64 _ _⟩
    rw [hhbm, Bool.true_and]
    exact beq_iff_eq.2 hmul
  case ignored =>
    exact congrArg Host.Outcome.next (if_neg (fun h => hmul (beq_iff_eq.1 (Bool.and_eq_true_iff.1 h).2)))

end Sys2Proof.Machine
end

section
/-!
PROOF. Instructions and traps of a Lodge core (11 R494, R505, R513, R523; the RISC-V privileged specification).
-/
namespace Sys2Proof.Machine

section Lemmas

/-! ## Registers and CSRs of a core -/

theorem CoreState.setX_eq (x : CoreState) (r : Nat) (v : DWord) : x.setX r v = { x with x := (x.setX r v).x } := by
  rw [CoreState.setX]
  split <;> rfl

theorem CoreState.csr_setX (x : CoreState) (r : Nat) (v : DWord) : (x.setX r v).csr = x.csr := by
  rw [CoreState.setX]
  split <;> rfl

theorem CoreState.wf_setX (x : CoreState) (r : Nat) (v : DWord) (hx : Tab.wf (fun _ => (0 : DWord)) x.x = true) :
    Tab.wf (fun _ => (0 : DWord)) (x.setX r v).x = true := by
  rw [CoreState.setX]
  split
  · exact hx
  · exact Tab.put_wf _ _ _ _ hx

/-- x0 reads 0 whatever is written; another register reads what was last written. -/
theorem CoreState.getX_setX (x : CoreState) (rd r : Nat) (v : DWord) (hx : Tab.wf (fun _ => (0 : DWord)) x.x = true) :
    (x.setX rd v).getX r = if r = rd ∧ r ≠ 0 then v else x.getX r := by
  by_cases hrd : rd = 0
  · have hnot : ¬ (r = rd ∧ r ≠ 0) := fun h => h.2 (h.1.trans hrd)
    rw [if_neg hnot, CoreState.setX, if_pos hrd]
  · rw [CoreState.setX, if_neg hrd]
    by_cases hr : r = rd
    · have hne : r ≠ 0 := fun h => hrd (hr.symm.trans h)
      rw [if_pos ⟨hr, hne⟩, CoreState.getX, if_neg hne, hr]
      exact Tab.get_put_same _ _ _ _ hx
    · rw [if_neg (fun h => hr h.1), CoreState.getX, CoreState.getX]
      exact congrArg (fun w => if r = 0 then (0 : DWord) else w) (Tab.get_put_other _ _ _ _ _ hr)

theorem CoreState.getCsr_setCsr_same (x : CoreState) (n : Nat) (v : DWord) (hx : Tab.wf csrReset x.csr = true) :
    (x.setCsr n v).getCsr n = v := Tab.get_put_same _ _ _ _ hx

theorem CoreState.getCsr_setCsr_other (x : CoreState) {n m : Nat} (v : DWord) (h : m ≠ n) : (x.setCsr n v).getCsr m = x.getCsr m :=
  Tab.get_put_other _ _ _ _ _ h

theorem CoreState.wf_setCsr (x : CoreState) (n : Nat) (v : DWord) (hx : Tab.wf csrReset x.csr = true) :
    Tab.wf csrReset (x.setCsr n v).csr = true := Tab.put_wf _ _ _ _ hx

/-! ## A core once it has retired an instruction -/

def CoreState.retired (x : CoreState) (len rd : Nat) (v : DWord) : CoreState :=
  { (x.setX rd v).setCsr 0xB02 ((x.setX rd v).getCsr 0xB02 + 1) with pc := x.pc + BitVec.ofNat 64 len }

theorem CoreState.retired_eq (x : CoreState) (len rd : Nat) (v : DWord) : x.retired len rd v =
    { x with pc := x.pc + BitVec.ofNat 64 len, x := (x.retired len rd v).x, csr := (x.retired len rd v).csr } := by
  by_cases h : rd = 0
  · simp only [CoreState.retired, CoreState.setX, if_pos h, CoreState.setCsr]
  · simp only [CoreState.retired, CoreState.setX, if_neg h, CoreState.setCsr]

theorem CoreState.getX_retired (x : CoreState) (len rd r : Nat) (v : DWord) : (x.retired len rd v).getX r = (x.setX rd v).getX r := rfl

theorem CoreState.getCsr_retired (x : CoreState) (len rd : Nat) (v : DWord) {n : Nat} (h : n ≠ 0xB02) :
    (x.retired len rd v).getCsr n = x.getCsr n :=
  ((x.setX rd v).getCsr_setCsr_other _ h).trans (congrArg (Tab.get csrReset · n) (x.csr_setX rd v))

variable (s : State)

theorem State.core_updCore_same (c : Nat) (f : CoreState → CoreState) (hs : s.canonical = true) :
    (s.updCore c f).core c = f (s.core c) := s.core_setCore_same c _ (s.canonical_core hs)

theorem State.core_updCore_other {c d : Nat} (f : CoreState → CoreState) (h : d ≠ c) : (s.updCore c f).core d = s.core d :=
  s.core_setCore_other c d _ h

theorem State.retire_eq (c len rd : Nat) (v : DWord) : s.retire c len rd v = s.updCore c (fun x => x.retired len rd v) := rfl

/-- Retiring an instruction changes what `Retired` says, and no more. -/
theorem State.retired_retire (c len rd : Nat) (v : DWord) (hs : s.canonical = true)
    (hx : Tab.wf (fun _ => (0 : DWord)) (s.core c).x = true) : Retired s (s.retire c len rd v) c len rd v := by
  have hcore : (s.retire c len rd v).core c = (s.core c).retired len rd v := s.core_updCore_same c _ hs
  refine ⟨rfl, fun d hd => s.core_updCore_other _ hd, ?_, fun r => ?_, fun n hn => ?_⟩
  · rw [hcore]
    exact (s.core c).retired_eq len rd v
  · rw [hcore, CoreState.getX_retired, (s.core c).getX_setX rd r v hx]
  · rw [hcore, (s.core c).getCsr_retired len rd v hn]

/-! ## A step that an access holds back (09 R435, R438) -/

theorem State.orWait_done {t : State} (h : t.stalled = none) : s.orWait t = t := by
  rw [State.orWait, h]

theorem State.orWait_held {w : Nat × Nat × Nat × Nat} {t : State} (h : t.stalled = some w) : s.orWait t = s.noteHeld w := by
  rw [State.orWait, h]

/-! ## One instruction (R494) -/

theorem State.exec_lodgeInstruction (c : Core) (e : Ecc) :
    exec (.lodgeInstruction c e) s = .next (s.orWait (s.lodgeInstruction c.val e)) := rfl

theorem State.lodgeInstruction_idle {c : Nat} (e : Ecc) (h : s.coreRuns c = false) : s.lodgeInstruction c e = s := if_pos h

theorem State.lodgeInstruction_irq {c k : Nat} (e : Ecc) (hrun : s.coreRuns c = true) (hk : (s.core c).nextIrq = some k) :
    s.lodgeInstruction c e = s.takeIrq c k := by
  rw [State.lodgeInstruction, if_neg (by rw [hrun]; decide), hk]

theorem State.lodgeInstruction_fetches {c : Nat} (e : Ecc) (hrun : s.coreRuns c = true) (hk : (s.core c).nextIrq = none) :
    s.lodgeInstruction c e = ((s.sbMayDrain c).l2Evict (hubOf c)).fetchExec c e := by
  rw [State.lodgeInstruction, if_neg (by rw [hrun]; decide), hk]

/-- A parcel that is no start of a 32-bit instruction stands for the one it expands to. -/
theorem State.fetchExec_compressed {c h w : Nat} {e : Ecc} {u : State}
    (hfetch : s.fetchHalf c (s.core c).pc.toNat (e == .parityOnce || e == .parityTwice) = (u, .ok h)) (hshort : h % 4 ≠ 3)
    (hw : expandRvc h = some w) : s.fetchExec c e = u.execInsn c 2 h w e := by
  rw [State.fetchExec, hfetch]
  dsimp only
  rw [if_pos hshort, hw]

theorem State.fetchExec_full {c h g : Nat} {e : Ecc} {u x : State}
    (hfetch : s.fetchHalf c (s.core c).pc.toNat (e == .parityOnce || e == .parityTwice) = (u, .ok h)) (hlong : h % 4 = 3)
    (hnext : u.fetchHalf c ((s.core c).pc.toNat + 2) false = (x, .ok g)) :
    s.fetchExec c e = x.execInsn c 4 (h + 65536 * g) (h + 65536 * g) e := by
  rw [State.fetchExec, hfetch]
  dsimp only
  rw [if_neg (not_not.2 hlong), hnext]

/-- A legal register-register operation. -/
theorem State.execInsn_op {c w : Nat} (e : Ecc) {v : DWord} (hop : iOp w = 0x33)
    (hv : aluOp (iF7 w) (iF3 w) (s.rs c (iRs1 w)) (s.rs c (iRs2 w)) = some v) :
    s.execInsn c 4 w w e = s.retire c 4 (iRd w) v := by
  rw [State.execInsn, hop]
  change s.orIllegal c 4 w (iRd w) (aluOp (iF7 w) (iF3 w) (s.rs c (iRs1 w)) (s.rs c (iRs2 w))) = _
  rw [hv]
  rfl

end Lemmas

/-- Settles O33, by what a core does with a command for an instruction. -/
theorem lodgeInstructions : Obligations.LodgeInstructions := by
  unfold Obligations.LodgeInstructions
  refine ⟨fun s t h => s.orWait_done h, fun w s t h => s.orWait_held h, fun c e s hrun hst => ?idle, fun c e k s hrun hk => ?irq,
    fun c e h w s u hrun hk hfetch hshort hw => ?short, fun c e h g s u x hrun hk hfetch hlong hnext => ?long,
    fun c w e v s hs hx hop hv => ?op⟩
  case idle => rw [s.exec_lodgeInstruction, s.lodgeInstruction_idle e hrun, s.orWait_done hst]
  case irq => rw [s.exec_lodgeInstruction, s.lodgeInstruction_irq e hrun hk]
  case short => rw [s.exec_lodgeInstruction, s.lodgeInstruction_fetches e hrun hk, State.fetchExec_compressed _ hfetch hshort hw]
  case long => rw [s.exec_lodgeInstruction, s.lodgeInstruction_fetches e hrun hk, State.fetchExec_full _ hfetch hlong hnext]
  case op =>
    rw [s.execInsn_op e hop hv]
    exact s.retired_retire c 4 (iRd w) v hs hx

section Lemmas

/-! ## Traps (R505, R523) -/

/-- MIE is off after a trap to machine mode. -/
theorem csrBit_trapStatus_mie (st : DWord) (p : Nat) : csrBit (trapStatus st false p) 3 = false := by
  have hlow : (bits st.toNat 3 1 * 128 + p * 2048).testBit 3 = false := by
    rw [Nat.testBit_eq_decide_div_mod_eq]
    exact decide_eq_false (by omega)
  rw [csrBit, trapStatus, if_neg Bool.false_ne_true, BitVec.getLsbD_or, BitVec.getLsbD_and, BitVec.getLsbD_ofNat, hlow,
    show (~~~(0x1888 : DWord)).getLsbD 3 = false by decide]
  simp

/-- MPIE is what MIE was. -/
theorem csrBit_trapStatus_mpie (st : DWord) (p : Nat) : csrBit (trapStatus st false p) 7 = csrBit st 3 := by
  have hbit : (bits st.toNat 3 1 * 128 + p * 2048).testBit 7 = st.getLsbD 3 := by
    rw [BitVec.getLsbD, Nat.testBit_eq_decide_div_mod_eq, Nat.testBit_eq_decide_div_mod_eq, bits]
    exact decide_eq_decide.2 (by omega)
  rw [csrBit, trapStatus, if_neg Bool.false_ne_true, BitVec.getLsbD_or, BitVec.getLsbD_and, BitVec.getLsbD_ofNat, hbit,
    show (~~~(0x1888 : DWord)).getLsbD 7 = false by decide]
  simp [csrBit]

variable (x : CoreState)

/-- The CSRs that a trap to mode S or M writes, one after the other. -/
theorem CoreState.getCsr_trapTo (toS i : Bool) (k : Nat) (v : DWord) (n : Nat) : (x.trapTo toS i k v).getCsr n =
    ((((x.setCsr ((if toS then 0x100 else 0x300) + 0x41) x.pc).setCsr ((if toS then 0x100 else 0x300) + 0x42) (causeWord i k)).setCsr
      ((if toS then 0x100 else 0x300) + 0x43) v).setCsr 0x300 (trapStatus x.mstatus toS x.priv.toNat)).getCsr n := rfl

theorem CoreState.getCsr_trapTo_epc (toS i : Bool) (k : Nat) (v : DWord) (hx : Tab.wf csrReset x.csr = true) :
    (x.trapTo toS i k v).getCsr (if toS then 0x141 else 0x341) = x.pc := by
  rw [x.getCsr_trapTo, CoreState.getCsr_setCsr_other _ _ (by cases toS <;> decide),
    CoreState.getCsr_setCsr_other _ _ (by cases toS <;> decide), CoreState.getCsr_setCsr_other _ _ (by cases toS <;> decide)]
  cases toS <;> exact x.getCsr_setCsr_same _ _ hx

theorem CoreState.getCsr_trapTo_cause (i : Bool) (k : Nat) (v : DWord) (hx : Tab.wf csrReset x.csr = true) :
    (x.trapTo false i k v).getCsr 0x342 = causeWord i k := by
  rw [x.getCsr_trapTo, CoreState.getCsr_setCsr_other _ _ (by decide), CoreState.getCsr_setCsr_other _ _ (by decide)]
  exact CoreState.getCsr_setCsr_same _ _ _ (x.wf_setCsr _ _ hx)

theorem CoreState.getCsr_trapTo_tval (i : Bool) (k : Nat) (v : DWord) (hx : Tab.wf csrReset x.csr = true) :
    (x.trapTo false i k v).getCsr 0x343 = v := by
  rw [x.getCsr_trapTo, CoreState.getCsr_setCsr_other _ _ (by decide)]
  exact CoreState.getCsr_setCsr_same _ _ _ (CoreState.wf_setCsr _ _ _ (x.wf_setCsr _ _ hx))

theorem CoreState.mstatus_trapTo (toS i : Bool) (k : Nat) (v : DWord) (hx : Tab.wf csrReset x.csr = true) :
    (x.trapTo toS i k v).mstatus = trapStatus x.mstatus toS x.priv.toNat :=
  CoreState.getCsr_setCsr_same _ _ _ (CoreState.wf_setCsr _ _ _ (CoreState.wf_setCsr _ _ _ (x.wf_setCsr _ _ hx)))

variable (s : State)

/-! ## A waiting instruction that is abandoned (R505) -/

theorem State.exec_interruptAbandon (c : Core) : exec (.interruptAbandon c) s = .next (s.irqAbandon c.val) := rfl

theorem State.irqAbandon_waiting {c k : Nat} {w : KqWaiting} (hw : (s.core c).wait = some w) (hk : (s.core c).nextIrq = some k) :
    s.irqAbandon c = (s.abandonWait c).takeIrq c k := by
  rw [State.irqAbandon, hw, hk]

theorem State.irqAbandon_idle {c : Nat} (hw : (s.core c).wait = none) : s.irqAbandon c = s := by
  rw [State.irqAbandon, hw]

/-- The state without the offer of a waiting KQ.PUSH. -/
def State.withdraw (s : State) (w : KqWaiting) : State :=
  match w.offer with
  | some o => s.onPq w.obj (fun p => { p with held := removeOffer o p.held })
  | none => s

theorem State.withdraw_eq (w : KqWaiting) : s.withdraw w = { s with pqs := (s.withdraw w).pqs } := by
  unfold State.withdraw
  split <;> rfl

theorem State.items_withdraw (w : KqWaiting) (q : Nat) (hs : s.canonical = true) : ((s.withdraw w).pq q).items = (s.pq q).items := by
  unfold State.withdraw
  split
  · by_cases h : q = w.obj
    · subst h
      exact (congrArg PqState.items (s.pq_setPq_same _ _ (s.canonical_pq hs)) :)
    · exact congrArg PqState.items (s.pq_setPq_other _ _ _ h)
  · rfl

theorem State.abandonWait_waiting {c : Nat} {w : KqWaiting} (hw : (s.core c).wait = some w) :
    s.abandonWait c = (s.withdraw w).setCore c { s.core c with wait := none } := by
  have hcore : (s.withdraw w).core c = s.core c := by rw [s.withdraw_eq w]; rfl
  rw [← hcore, State.abandonWait, hw]
  rfl

theorem State.canonical_withdraw (w : KqWaiting) (hs : s.canonical = true) : (s.withdraw w).canonical = true := by
  unfold State.withdraw
  split
  · exact (s.onPq_frame _ _).canonical hs
  · exact hs

/-! ## Exceptions of tasks, and the notice FIFO (R513, R523) -/

theorem State.exception_task {c k : Nat} (n : Nat) (v : DWord) (hk : (s.core c).task = some k) (hu : (s.core c).priv = 0) :
    s.exception c n v = s.taskFault k c (s.core c).pc (causeWord false n) v := by
  rw [State.exception, hk, hu]
  rfl

theorem State.exec_kzirqRead (c : Core) (rd : Fin 32) :
    exec (.kzirqRead c rd) s = .next (if s.coreRuns c.val then s.kzirqRead c.val rd.val else s) := rfl

/-- Machine mode may read kzirq. -/
theorem CoreState.csrAllowed_kzirq (h : x.priv = 3) : x.csrAllowed 0xFC0 false = true := by
  simp [CoreState.csrAllowed, h, inRange, bits]

/-- The core once its notice FIFO holds `rest`. -/
def CoreState.noticesLeft (x : CoreState) (rest : List (BitVec 16)) : CoreState := { x with irq := rest, irqOver := false }

/-- The word of a kzirq read that finds notice `q`. -/
def kzirqWord (lost : Bool) (q : BitVec 16) : DWord := BitVec.ofNat 64 (2 ^ 31 + b2n lost * 2 ^ 30 + q.toNat)

theorem State.csrRead_kzirq {c : Nat} {q : BitVec 16} {rest : List (BitVec 16)} (h : (s.core c).irq = q :: rest) :
    s.csrRead c 0xFC0 =
      some (s.setCore c ((s.core c).noticesLeft rest), kzirqWord (s.core c).irqOver q) := by
  have hread : s.csrRead c 0xFC0 = some (s.setCore c { s.core c with irq := (s.core c).irq.drop 1, irqOver := false },
      BitVec.ofNat 64 (match (s.core c).irq with
        | [] => b2n (s.core c).irqOver * 2 ^ 30
        | q :: _ => 2 ^ 31 + b2n (s.core c).irqOver * 2 ^ 30 + q.toNat)) := rfl
  rw [hread, h]
  rfl

theorem State.kzirqRead_notice {c : Nat} (rd : Nat) {q : BitVec 16} {rest : List (BitVec 16)} (hp : (s.core c).priv = 3)
    (h : (s.core c).irq = q :: rest) : s.kzirqRead c rd =
      (s.setCore c ((s.core c).noticesLeft rest)).retire c 4 rd (kzirqWord (s.core c).irqOver q) := by
  rw [State.kzirqRead, (s.core c).csrAllowed_kzirq hp, if_neg (by decide), s.csrRead_kzirq h]

end Lemmas

/-- Settles O34, by the CSRs that a trap writes, and by what an abandoned instruction leaves. -/
theorem lodgeTraps : Obligations.LodgeTraps := by
  unfold Obligations.LodgeTraps
  refine ⟨fun x i k v hx => ?trap, fun c w k s hw hk => ?abandon, fun c w k s hs hw hk hx => ?left,
    fun c s hw => congrArg Host.Outcome.next (s.irqAbandon_idle hw), fun c k n v s hk hu => s.exception_task n v hk hu,
    fun c rd q rest s hs hrun hp h => ?notice⟩
  case trap =>
    refine ⟨rfl, x.getCsr_trapTo_epc false i k v hx, x.getCsr_trapTo_cause i k v hx, x.getCsr_trapTo_tval i k v hx, ?_, ?_, rfl, rfl⟩
    · rw [x.mstatus_trapTo false i k v hx, csrBit_trapStatus_mie]
    · rw [x.mstatus_trapTo false i k v hx, csrBit_trapStatus_mpie]
  case abandon => exact congrArg Host.Outcome.next (s.irqAbandon_waiting hw hk)
  case left =>
    have hgo := s.abandonWait_waiting hw
    have hcanonW := s.canonical_withdraw w hs
    have hcanon := (s.abandonWait_frame c.val).canonical hs
    have hcore : (s.abandonWait c.val).core c.val = { s.core c.val with wait := none } := by
      rw [hgo]
      exact (s.withdraw w).core_setCore_same _ _ (State.canonical_core _ hcanonW)
    have htrap : ((s.abandonWait c.val).takeIrq c.val k).core c.val =
        CoreState.trapTo { s.core c.val with wait := none } ((s.core c.val).delegated true k) true k 0 := by
      rw [State.takeIrq, State.core_setCore_same _ _ _ (State.canonical_core _ hcanon), hcore]
      rfl
    refine ⟨_, (s.exec_interruptAbandon c).trans (congrArg _ (s.irqAbandon_waiting hw hk)), ?_, ?_, ?_, ?_, fun q => ?_⟩
    · rw [hgo, s.withdraw_eq w]
      rfl
    · rw [htrap]
      rfl
    · rw [htrap]
      rfl
    · rw [htrap]
      exact CoreState.getCsr_trapTo_epc _ _ true k 0 hx
    · rw [hgo]
      exact s.items_withdraw w q hs
  case notice =>
    have hcanon : (s.setCore c.val ((s.core c.val).noticesLeft rest)).canonical = true :=
      (s.setCore_frame _ _).canonical hs
    have hcore : (s.kzirqRead c.val rd.val).core c.val =
        ((s.core c.val).noticesLeft rest).retired 4 rd.val (kzirqWord (s.core c.val).irqOver q) := by
      rw [s.kzirqRead_notice rd.val hp h, State.retire_eq, State.core_updCore_same _ _ _ hcanon,
        s.core_setCore_same _ _ (s.canonical_core hs)]
    refine ⟨_, (s.exec_kzirqRead c rd).trans (congrArg _ (if_pos hrun)), ?_, ?_, ?_, ?_, fun hx => ?_⟩
    · rw [s.kzirqRead_notice rd.val hp h]
      rfl
    · rw [hcore, CoreState.retired_eq]
      rfl
    · rw [hcore, CoreState.retired_eq]
      rfl
    · rw [hcore]
      rfl
    · rw [hcore, CoreState.getX_retired, CoreState.getX_setX ((s.core c.val).noticesLeft rest) _ _ _ hx]
      by_cases hz : rd.val = 0
      · rw [if_neg (fun h => h.2 hz), if_pos hz, CoreState.getX, if_pos hz]
      · rw [if_pos ⟨rfl, hz⟩, if_neg hz, kzirqWord]
        cases (s.core c.val).irqOver <;> rfl

end Sys2Proof.Machine
end

section
/-!
PROOF. The Xkzq instructions and their waits (11 R502-R506; 07 R363), porter transfers and the calls of a task (11 R509-R511,
R514, R515, R520).
-/
namespace Sys2Proof.Machine

section Lemmas
variable (s : State)

/-! ## Commands of a core that runs -/

theorem State.exec_kqPush (c : Core) (rd rs1 rs2 : Fin 32) (h : s.coreRuns c.val = true) :
    exec (.kqPush c rd rs1 rs2) s = .next (s.orWait (s.kqPush c.val rd.val rs1.val rs2.val)) :=
  congrArg Host.Outcome.next (if_pos h)
theorem State.exec_kqPop (c : Core) (rd rs1 rs2 : Fin 32) (u : Bool) (h : s.coreRuns c.val = true) :
    exec (.kqPop c rd rs1 rs2 u) s = .next (s.orWait (s.kqPop c.val rd.val rs1.val rs2.val u)) :=
  congrArg Host.Outcome.next (if_pos h)
theorem State.exec_kqSig (c : Core) (rd rs1 rs2 : Fin 32) (h : s.coreRuns c.val = true) :
    exec (.kqSig c rd rs1 rs2) s = .next (s.orWait (s.kqSig c.val rd.val rs1.val rs2.val)) :=
  congrArg Host.Outcome.next (if_pos h)
theorem State.exec_kqWait (c : Core) (rd rs1 rs2 : Fin 32) (h : s.coreRuns c.val = true) :
    exec (.kqWait c rd rs1 rs2) s = .next (s.orWait (s.kqWait c.val rd.val rs1.val rs2.val)) :=
  congrArg Host.Outcome.next (if_pos h)

/-! ## KQ.PUSH (R504) -/

theorem State.kqPush_unread {c rd rs1 rs2 k : Nat} {r : State}
    (hload : (s.sbDrain c).loadVa c (s.rs c rs2).toNat 64 .clean = (r, .error k)) :
    s.kqPush c rd rs1 rs2 = r.exception c k (BitVec.ofNat 64 (s.rs c rs2).toNat) := by
  rw [State.kqPush, hload]

/-- The queue's answer decides how KQ.PUSH goes on; `w` is what it waits for where the item is held. -/
def State.pushAnswered (t : State) (c : Nat) (w : KqWaiting) : OfferResult → State
  | .held => t.setCore c (CoreState.waits (t.core c) w)
  | .refused => t.retireKq c w.rd 6 6
  | .accepted => t.retireKq c w.rd 0 0
  | .discarded => t.retireKq c w.rd 0 0

section Push
variable {c rd rs1 rs2 q n : Nat} {bs : List Byte} {r g t : State} (hq : q = bits (s.rs c rs1).toNat 0 9)
  (hload : (s.sbDrain c).loadVa c (s.rs c rs2).toNat 64 .clean = (r, .ok bs)) (hcode : r.kqCode c true true q = (g, n))
include hq hload hcode

theorem State.kqPush_refused (hn : n ≠ 0) : s.kqPush c rd rs1 rs2 = g.retireKq c rd (BitVec.ofNat 64 n) n := by
  subst hq
  rw [State.kqPush, hload]
  dsimp only
  rw [hcode]
  exact if_pos hn

theorem State.kqPush_offers {x : OfferResult} (hn : n = 0) (hoffer : g.offer q (kqOffer c (s.rs c rs1) bs) = (t, x)) :
    s.kqPush c rd rs1 rs2 = t.pushAnswered c ⟨.push, rd, q, some (kqOffer c (s.rs c rs1) bs), s.now, 0⟩ x := by
  subst hq
  rw [State.kqPush, hload]
  dsimp only
  rw [hcode]
  dsimp only
  rw [if_neg (not_not.2 hn), hoffer]
  cases x <;> rfl

end Push

/-! ## KQ.POP (R503) -/

theorem State.kqPop_fault {c rd rs1 rs2 k : Nat} {u : Bool} {w : State}
    (hat : s.dataAt c (s.rs c rs2).toNat 64 true = (w, .bad k)) :
    s.kqPop c rd rs1 rs2 u = w.exception c k (BitVec.ofNat 64 (s.rs c rs2).toNat) := by
  rw [State.kqPop, hat]

section Pop
variable {c rd rs1 rs2 q n pa pb : Nat} {u : Bool} {w g h p : State} {st : DWord} (hq : q = bits (s.rs c rs1).toNat 0 9)
  (hat : s.dataAt c (s.rs c rs2).toNat 64 true = (w, .at_ pa pb)) (hcode : w.kqCode c true false q = (g, n))
include hq hat hcode

theorem State.kqPop_refused (hn : n ≠ 0) : s.kqPop c rd rs1 rs2 u = g.retireKq c rd 0 n := by
  subst hq
  rw [State.kqPop, hat]
  dsimp only
  rw [hcode]
  exact if_pos hn

/-- A pop of an empty queue writes no memory. -/
theorem State.kqPop_none (hn : n = 0) (hh : g.coreHedge c pa pb 64 true = (h, 0)) (hp : h.popWith q u = (p, st, none)) :
    s.kqPop c rd rs1 rs2 u = (p.onPq q (fun y => { y with popStatus := st })).retireKq c rd st 0 := by
  subst hq
  rw [State.kqPop, hat]
  dsimp only
  rw [hcode]
  dsimp only
  rw [if_neg (not_not.2 hn), hh]
  dsimp only
  rw [if_neg (not_not.2 rfl), hp]

theorem State.kqPop_item {i : QItem} (hn : n = 0) (hh : g.coreHedge c pa pb 64 true = (h, 0))
    (hp : h.popWith q u = (p, st, some i)) : s.kqPop c rd rs1 rs2 u = ((((((p.onPq q (fun y => { y with popStatus := st })).onPq
      q (fun y => { y with popData := i.data })).sbDrain c).corePutNow c pa pb (lineBytes i.data)).1).retireKq c rd st 0) := by
  subst hq
  rw [State.kqPop, hat]
  dsimp only
  rw [hcode]
  dsimp only
  rw [if_neg (not_not.2 hn), hh]
  dsimp only
  rw [if_neg (not_not.2 rfl), hp]

end Pop

/-! ## KQ.SIG and KQ.WAIT (R503; 07 R363) -/

theorem State.kqSig_cases {c rd rs1 rs2 n o : Nat} {g : State} (ho : o = bits (s.rs c rs1).toNat 0 9)
    (hcode : (s.sbDrain c).kqCode c false true o = (g, n)) : s.kqSig c rd rs1 rs2 =
      if n ≠ 0 then g.retireKq c rd (BitVec.ofNat 64 n) n else (g.signal o ((s.rs c rs2).toNat % 65536)).retireKq c rd 0 0 := by
  subst ho
  rw [State.kqSig, hcode]

theorem State.kqWait_cases {c rd rs1 rs2 n o : Nat} {g : State} (ho : o = bits (s.rs c rs1).toNat 0 9)
    (hcode : s.kqCode c false false o = (g, n)) : s.kqWait c rd rs1 rs2 =
      if n ≠ 0 then g.retireKq c rd (BitVec.ofNat 64 n) n
      else if (g.waitersOn o).length < g.sigCount o then ((g.sigTake o).1).retireKq c rd 0 0
      else g.setCore c (CoreState.waits (g.core c) ⟨.wait, rd, o, none, s.now, (s.rs c rs2).toNat⟩) := by
  subst ho
  rw [State.kqWait, hcode]
  rfl

/-! ## The end of a wait -/

theorem State.exec_kqWaitTimeout (c : Core) : exec (.kqWaitTimeout c) s = .next (s.waitTimeout c.val) := rfl

theorem State.waitGrant_first {o c : Nat} {rest : List Nat} (hw : s.waitersOn o = c :: rest) (hen : s.sigEn o = true)
    (hcount : s.sigCount o ≠ 0) : s.waitGrant o = ((s.sigTake o).1).finishWait c 0 := by
  rw [State.waitGrant, hw]
  exact if_pos (by simp [hen, hcount])

theorem State.waitGrant_none {o : Nat} (h : s.waitersOn o = [] ∨ s.sigCount o = 0) : s.waitGrant o = s := by
  obtain h | h := h
  · rw [State.waitGrant, h]
  · unfold State.waitGrant
    split
    · rfl
    · exact if_neg (by simp [h])

theorem State.waitTimeout_ends {c : Nat} {w : KqWaiting} (hw : (s.core c).wait = some w) (hk : w.kind = .wait)
    (hne : w.timeout ≠ 0) (hdue : 8 * w.since + 5 * w.timeout ≤ 8 * s.now) :
    s.waitTimeout c = s.retireKq c w.rd (BitVec.ofNat 64 7) 7 := by
  rw [State.waitTimeout, hw]
  dsimp only
  rw [if_pos (by simp [hk, hne, hdue]), State.finishWait, hw]

theorem State.waitTimeout_early {c : Nat} {w : KqWaiting} (hw : (s.core c).wait = some w)
    (h : 8 * s.now < 8 * w.since + 5 * w.timeout) : s.waitTimeout c = s := by
  rw [State.waitTimeout, hw]
  exact if_neg (by simp [Nat.not_le.2 h])

/-- A value that is not the default of one table reads alike in a table of another default. -/
theorem Tab.get_of_ne {α : Type} (d e : Nat → α) (m : Tab α) (k : Nat) (h : Tab.get d m k ≠ d k) :
    Tab.get e m k = Tab.get d m k := by
  induction m with
  | nil => exact absurd rfl h
  | cons x t ih =>
    obtain ⟨j, v⟩ := x
    rw [Tab.get] at h ⊢
    rw [Tab.get]
    split
    case isTrue => rfl
    case isFalse hj => exact ih (by rwa [if_neg hj] at h)

/-- kzqstat holds the code of the instruction that has ended. -/
theorem State.kzqstat_retireKq (c rd code : Nat) (v : DWord) (hs : s.canonical = true) (hcode : BitVec.ofNat 64 code ≠ 0) :
    ((s.retireKq c rd v code).core c).getCsr 0x800 = BitVec.ofNat 64 code := by
  have hcore := s.core_setCore_same c { (s.core c).setX rd v with
    csr := Tab.set_ 0 (Tab.set_ 0 ((s.core c).setX rd v).csr csrKzqstat (BitVec.ofNat 64 code)) csrMinstret
      (Tab.at_ 0 ((s.core c).setX rd v).csr csrMinstret + 1),
    pc := ((s.core c).setX rd v).pc + 4, wait := none } (s.canonical_core hs)
  have hstored : Tab.at_ 0 (Tab.set_ 0 (Tab.set_ 0 ((s.core c).setX rd v).csr csrKzqstat (BitVec.ofNat 64 code)) csrMinstret
      (Tab.at_ 0 ((s.core c).setX rd v).csr csrMinstret + 1)) csrKzqstat = BitVec.ofNat 64 code :=
    (Tab.get_put_other _ _ _ _ _ (by decide)).trans (Tab.get_put_same_of_ne _ _ _ _ hcode)
  refine (congrArg (CoreState.getCsr · 0x800) hcore).trans ?_
  exact (Tab.get_of_ne (fun _ => 0) csrReset _ csrKzqstat (hstored.trans_ne hcode)).trans hstored

theorem State.wait_retireKq (c rd code : Nat) (v : DWord) (hs : s.canonical = true) :
    ((s.retireKq c rd v code).core c).wait = none :=
  congrArg CoreState.wait (s.core_setCore_same c _ (s.canonical_core hs))

end Lemmas

/-- Settles O35, instruction by instruction, by what each of its accesses answers. -/
theorem xkzqInstructions : Obligations.XkzqInstructions := by
  unfold Obligations.XkzqInstructions
  refine ⟨fun c rd rs1 rs2 u s hrun => ?idle, fun c rd rs1 rs2 k s r hrun hload => ?pushFault,
    fun c rd rs1 rs2 bs q n s r g hrun hq hload hcode => ⟨fun hn => ?pushCode, fun t hn ho => ?pushed, fun t hn ho => ?full,
      fun t hn ho => ?held⟩,
    fun c rd rs1 rs2 u pa pb n q s w g h p st hrun hq hat hcode => ⟨fun hn => ?popCode, fun hn hh hp => ?popNone,
      fun i hn hh hp => ?popItem⟩,
    fun c rd rs1 rs2 u k s w hrun hat => ?popFault, fun c rd rs1 rs2 n o s g hrun ho hcode => ⟨fun hn => ?sigCode, fun hn => ?signal⟩,
    fun c rd rs1 rs2 n o s g hrun ho hcode => ⟨fun hn => ?waitCode, fun hn hlt => ?takes, fun hn hle => ?waits⟩,
    fun o c rest s hw hen hcount => congrArg Host.Outcome.next (s.waitGrant_first hw hen hcount),
    fun o s h => congrArg Host.Outcome.next (s.waitGrant_none h), fun c w s hw hk hne hdue => ?timeout,
    fun c w s hw h => congrArg Host.Outcome.next (s.waitTimeout_early hw h)⟩
  case idle =>
    have hnot : ¬ s.coreRuns c.val = true := ne_true_of_eq_false hrun
    exact ⟨congrArg Host.Outcome.next (if_neg hnot), congrArg Host.Outcome.next (if_neg hnot),
      congrArg Host.Outcome.next (if_neg hnot), congrArg Host.Outcome.next (if_neg hnot)⟩
  case pushFault => rw [s.exec_kqPush c rd rs1 rs2 hrun, s.kqPush_unread hload]
  case pushCode => rw [s.exec_kqPush c rd rs1 rs2 hrun, s.kqPush_refused hq hload hcode hn]
  case pushed => rw [s.exec_kqPush c rd rs1 rs2 hrun, s.kqPush_offers hq hload hcode hn ho, State.pushAnswered]
  case full => rw [s.exec_kqPush c rd rs1 rs2 hrun, s.kqPush_offers hq hload hcode hn ho, State.pushAnswered]
  case held => rw [s.exec_kqPush c rd rs1 rs2 hrun, s.kqPush_offers hq hload hcode hn ho, State.pushAnswered]
  case popCode => rw [s.exec_kqPop c rd rs1 rs2 u hrun, s.kqPop_refused hq hat hcode hn]
  case popNone => rw [s.exec_kqPop c rd rs1 rs2 u hrun, s.kqPop_none hq hat hcode hn hh hp]
  case popItem => rw [s.exec_kqPop c rd rs1 rs2 u hrun, s.kqPop_item hq hat hcode hn hh hp]
  case popFault => rw [s.exec_kqPop c rd rs1 rs2 u hrun, s.kqPop_fault hat]
  case sigCode => rw [s.exec_kqSig c rd rs1 rs2 hrun, s.kqSig_cases ho hcode, if_pos hn]
  case signal => rw [s.exec_kqSig c rd rs1 rs2 hrun, s.kqSig_cases ho hcode, if_neg (not_not.2 hn)]
  case waitCode => rw [s.exec_kqWait c rd rs1 rs2 hrun, s.kqWait_cases ho hcode, if_pos hn]
  case takes => rw [s.exec_kqWait c rd rs1 rs2 hrun, s.kqWait_cases ho hcode, if_neg (not_not.2 hn), if_pos hlt]
  case waits => rw [s.exec_kqWait c rd rs1 rs2 hrun, s.kqWait_cases ho hcode, if_neg (not_not.2 hn), if_neg (Nat.not_lt.2 hle)]
  case timeout =>
    refine ⟨_, (s.exec_kqWaitTimeout c).trans (congrArg _ (s.waitTimeout_ends hw hk hne hdue)), rfl, fun hs =>
      ⟨s.wait_retireKq _ _ _ _ hs, fun _ => ?_⟩⟩
    exact s.kzqstat_retireKq c.val w.rd 7 _ hs (by decide)

section Lemmas
variable (s : State)

/-! ## Transfers of a porter (R509-R511) -/

theorem State.exec_porterStart (c : Core) (len : DWord) (h : s.coreRuns c.val = true) :
    exec (.porterStart c len) s = .next (s.orWait (s.porterStart c.val len.toNat)) := congrArg Host.Outcome.next (if_pos h)
theorem State.exec_porterComplete (c : Core) : exec (.porterComplete c) s = .next (s.orWait (s.porterComplete c.val)) := rfl

/-- A length of no transfer is stored, and the instruction retires. -/
theorem State.porterStart_none {c len : Nat} (h : len = 0 ∨ 65536 < len) :
    s.porterStart c len = (s.setCore c ((s.core c).setCsr 0x803 (BitVec.ofNat 64 len))).retire c 4 0 0 := by
  have hno : (decide (len = 0) || decide (65536 < len)) = true := by
    obtain h | h := h
    · rw [decide_eq_true h, Bool.true_or]
    · rw [decide_eq_true h, Bool.or_true]
  rw [State.porterStart, State.startPorter, if_pos hno]
  rfl

/-- The core once its transfer of `len` bytes has begun. -/
def CoreState.moving (x : CoreState) (len : Nat) : CoreState := { x.setCsr 0x803 (BitVec.ofNat 64 len) with porter := true }

theorem State.startPorter_moves {c len : Nat} {m : State} {z : Xfer} (h0 : 0 < len) (hmax : len ≤ 65536)
    (hmove : State.porterMove (fun t va w => t.coreXlate c (s.core c).dataPriv va w false) c porterFuel (s.sbDrain c)
      ⟨((s.core c).getCsr 0x801).toNat, ((s.core c).getCsr 0x802).toNat, len⟩ = (m, z, .done)) :
    s.startPorter c len = (m.updCore c (fun y => y.moving len), true) := by
  have hyes : ¬ (decide (len = 0) || decide (65536 < len)) = true := by
    rw [decide_eq_false (by omega), decide_eq_false (by omega)]
    decide
  rw [State.startPorter, if_neg hyes]
  dsimp only
  rw [hmove]
  rfl

/-- No core runs while its porter moves data. -/
theorem State.coreRuns_moving {c : Nat} (h : (s.core c).porter = true) : s.coreRuns c = false := by
  simp [State.coreRuns, h]

theorem State.porterComplete_idle {c : Nat} (h : (s.core c).porter = false) : s.porterComplete c = s := if_pos h

/-- The core resumes; a task that is no COPY task, and that no warning suspends, goes on. -/
theorem State.porterComplete_resumes {c : Nat} (h : (s.core c).porter = true)
    (htask : ∀ k, (s.core c).task = some k → (s.task k).copy = none ∧ s.sup.warnHeld = false) :
    s.porterComplete c = s.setCore c { s.core c with porter := false } := by
  rw [State.porterComplete, if_neg (by rw [h]; decide)]
  cases hk : (s.core c).task with
  | none => rfl
  | some k =>
    obtain ⟨hcopy, hwarn⟩ := htask k hk
    have hcopy' : ((s.updCore c (fun y => { y with porter := false })).task k).copy = none := hcopy
    dsimp only
    rw [hcopy']
    exact if_neg (ne_true_of_eq_false hwarn)

/-! ## Calls of a task (R514, R515, R520) -/

theorem State.callOn_caller {c k : Nat} (f : State → Nat → State) (h : s.caller c = some k) : s.callOn c f = f s k := by
  rw [State.callOn, h]

theorem State.callOn_none {c : Nat} (f : State → Nat → State) (h : s.caller c = none) : s.callOn c f = s := by
  rw [State.callOn, h]

/-- A call with one result leaves it in a0. -/
theorem State.retired_callReturn (c : Nat) (v : DWord) (hs : s.canonical = true)
    (hx : Tab.wf (fun _ => (0 : DWord)) (s.core c).x = true) : Retired s (s.callReturn c (some v) none) c 4 10 v := by
  have hcanon : (s.updCore c (fun x => x.setX 10 v)).canonical = true := (s.setCore_frame _ _).canonical hs
  have hcore : (s.callReturn c (some v) none).core c = ((s.core c).setX 10 v).retired 4 0 0 :=
    (State.core_updCore_same _ c (fun x => x.retired 4 0 0) hcanon).trans
      (congrArg (CoreState.retired · 4 0 0) (s.core_updCore_same c _ hs))
  refine ⟨rfl, fun d hd => ?_, ?_, fun r => ?_, fun n hn => ?_⟩
  · exact (State.core_updCore_other _ (fun x => x.retired 4 0 0) hd).trans (s.core_updCore_other _ hd)
  · rw [hcore, CoreState.retired_eq, CoreState.setX_eq]
  · rw [hcore, CoreState.getX_retired]
    exact (s.core c).getX_setX 10 r v hx
  · rw [hcore, CoreState.getCsr_retired _ _ _ _ hn]
    exact congrArg (Tab.get csrReset · n) ((s.core c).csr_setX 10 v)

theorem State.callAlloc_refused {c k n : Nat} {u : State}
    (h : s.allocate (s.taskCtx k) (s.rs c 10).toNat (s.rs c 11).toNat = (u, n, 0)) (hn : n ≠ 0) :
    s.callAlloc c k = u.callReturn c (some 0) (some (BitVec.ofNat 64 n)) := by
  rw [State.callAlloc, h]
  exact if_pos hn

theorem State.callAlloc_granted {c k a : Nat} {u : State}
    (h : s.allocate (s.taskCtx k) (s.rs c 10).toNat (s.rs c 11).toNat = (u, 0, a)) :
    s.callAlloc c k = (u.mapPages (s.taskCtx k) ((s.rs c 12).getLsbD 0) (a / 4096) ((s.rs c 10).toNat / 4096)).callReturn c
      (some (BitVec.ofNat 64 a)) (some 0) := by
  rw [State.callAlloc, h]
  exact if_neg (not_not.2 rfl)

end Lemmas

/-- Settles O36, by what a transfer moves and by who calls. -/
theorem portersAndCalls : Obligations.PortersAndCalls := by
  unfold Obligations.PortersAndCalls
  refine ⟨fun c len s hrun hlen => ?stored, fun c len s hrun => congrArg Host.Outcome.next (if_neg (ne_true_of_eq_false hrun)),
    fun c len s m z hrun h0 hmax hmove hm hst => ?moves, fun c s hs hp hst htask => ?resumes, fun c s hp hst => ?idle,
    fun c k s h => ?calls, fun c k s hs hx h => ?results, fun c s h => ?noCaller,
    fun c k n s u h hn => s.callAlloc_refused h hn, fun c k a s u h => s.callAlloc_granted h⟩
  case stored => rw [s.exec_porterStart c len hrun, s.porterStart_none hlen]
  case moves =>
    have hgo : s.porterStart c.val len.toNat = (m.updCore c.val (fun y => y.moving len.toNat)).retire c.val 4 0 0 := by
      rw [State.porterStart, s.startPorter_moves h0 hmax hmove, if_pos rfl]
    have hcanon : (m.updCore c.val (fun y => y.moving len.toNat)).canonical = true := (m.setCore_frame _ _).canonical hm
    have hcore : (s.porterStart c.val len.toNat).core c.val = ((m.core c.val).moving len.toNat).retired 4 0 0 := by
      rw [hgo, State.retire_eq, State.core_updCore_same _ _ _ hcanon, m.core_updCore_same _ _ hm]
    have hporter : ((s.porterStart c.val len.toNat).core c.val).porter = true := by
      rw [hcore]
      rfl
    have hwait : (s.porterStart c.val len.toNat).stalled = none := by
      rw [hgo]
      exact hst
    refine ⟨_, (s.exec_porterStart c len hrun).trans (congrArg _ (s.orWait_done hwait)), ?_, hporter, State.coreRuns_moving _ hporter⟩
    rw [hgo]
    rfl
  case resumes =>
    have hgo := s.porterComplete_resumes hp htask
    have hwait : (s.porterComplete c.val).stalled = none := by
      rw [hgo]
      exact hst
    refine ⟨_, (s.exec_porterComplete c).trans (congrArg _ (s.orWait_done hwait)), ?_, ?_⟩
    · rw [hgo]
      rfl
    · rw [hgo]
      exact s.core_setCore_same _ _ (s.canonical_core hs)
  case idle => rw [s.exec_porterComplete, s.porterComplete_idle hp, s.orWait_done hst]
  case calls =>
    exact ⟨congrArg Host.Outcome.next (s.callOn_caller _ h), congrArg Host.Outcome.next (s.callOn_caller _ h),
      congrArg Host.Outcome.next (s.callOn_caller _ h)⟩
  case results =>
    exact ⟨⟨_, congrArg Host.Outcome.next (s.callOn_caller _ h), s.retired_callReturn c.val _ hs hx⟩,
      ⟨_, congrArg Host.Outcome.next (s.callOn_caller _ h), s.retired_callReturn c.val _ hs hx⟩⟩
  case noCaller =>
    exact ⟨congrArg Host.Outcome.next (s.callOn_none _ h), congrArg Host.Outcome.next (s.callOn_none _ h),
      congrArg Host.Outcome.next (s.callOn_none _ h), congrArg Host.Outcome.next (s.callOn_none _ h),
      congrArg Host.Outcome.next (s.callOn_none _ h)⟩

end Sys2Proof.Machine
end

section
/-!
PROOF. Task slots (11 R498, R517-R521, R528), the power of cores and the locks of ways (11 R495, R497, R525).
-/
namespace Sys2Proof.Machine

section Lemmas
variable (s : State)

/-! ## Slots -/

theorem taskKey_div (h : Hub) (i : Slot) : taskKey h i / 256 = h.val := by
  have hi : i.val < 256 := i.isLt
  rw [taskKey]
  omega

theorem State.exec_ldgTaskRecordWrite (h : Hub) (i : Slot) (w : Fin 16) (v : Word) :
    exec (.ldgTaskRecordWrite h i w v) s = .next (s.writeTask (taskKey h i) w.val v) := rfl
theorem State.exec_ldgTaskGo (h : Hub) (i : Slot) : exec (.ldgTaskGo h i) s = .next (s.taskGo (taskKey h i)) := rfl
theorem State.exec_ldgTaskCancel (h : Hub) (i : Slot) : exec (.ldgTaskCancel h i) s = .next (s.writeCancel (taskKey h i)) := rfl

theorem State.task_setTaskSt (k st code : Nat) (exit : Word) (hk : Tab.wf (fun _ => TaskState.free) s.lodge.tasks = true) :
    (s.setTaskSt k st code exit).task k = { s.task k with st := st } := s.task_setTask_same k _ hk

theorem State.task_setTaskSt_other {k j : Nat} (st code : Nat) (exit : Word) (h : j ≠ k) :
    (s.setTaskSt k st code exit).task j = s.task j := s.task_setTask_other k j _ h

/-- The status word of a slot: its state and its code. -/
theorem State.regN_setTaskSt (k st code : Nat) (exit : Word) (hs : s.canonical = true) (hlt : st * 2 ^ 28 + code < 2 ^ 32) :
    (s.setTaskSt k st code exit).regN (aTaskOf k + 0x40) = st * 2 ^ 28 + code := by
  have hcanon : (s.setTask k { s.task k with st := st }).canonical = true := (s.setTask_frame _ _).canonical hs
  rw [State.regN, State.setTaskSt, State.reg_setReg_other _ _ _ _ (by omega)]
  exact State.regN_setRegN_same _ _ _ hcanon hlt

/-! ## The end of a task (R520) -/

theorem State.freeCore_tasks (c : Nat) : (s.freeCore c).lodge.tasks = s.lodge.tasks := by
  have hwait : (s.abandonWait c).lodge.tasks = s.lodge.tasks := by
    unfold State.abandonWait
    split
    · rfl
    · dsimp only
      split <;> rfl
  have hoff : ∀ u : State, (u.beginOff (12 + c)).lodge = u.lodge := fun u => (u.beginOff_frame _).lodge rfl
  unfold State.freeCore
  dsimp only
  split
  · exact hwait
  · rw [hoff]
    exact hwait

/-- What a task does as it ends, before its slot shows it: stores drained, fence written, DONE_SIG signalled. -/
def State.lastWork (s : State) (k : Nat) : State :=
  let s1 := (match (s.task k).core with
    | some co => s.sbDrain co
    | none => s)
  let s2 := if s.taskFenceAddr k = 0 then s1
    else s1.fenceWrite (k / 256) (s.taskCtx k) (s.taskFenceAddr k) (s.taskFenceValue k)
  if s.taskDoneSig k < 512 then s2.signal (s.taskDoneSig k) 1 else s2

theorem State.canonical_lastWork (k : Nat) (hs : s.canonical = true) : (s.lastWork k).canonical = true := by
  unfold State.lastWork
  extract_lets s1 s2
  have h1 : s1.canonical = true := by
    unfold s1
    split
    · exact (s.sbDrain_frame _).canonical hs
    · exact hs
  have h2 : s2.canonical = true := by
    unfold s2
    split
    · exact h1
    · exact (s1.fenceWrite_frame _ _ _ _).canonical h1
  split
  · exact (s2.signal_frame _ _).canonical h2
  · exact h2

/-- The slot and its status as the task ends. -/
def State.showEnd (s : State) (k st code : Nat) (exit tag : Word) : State :=
  (s.setTaskSt k st code exit).setReg (aTaskOf k + 0x48) tag

/-- What a task that has run for `ns` is charged to its context `c`. -/
def State.chargeCtx (s : State) (c ns run a : Nat) : State :=
  if c < 64 then ((s.addReg64 (aCtxCoreNs c) ns).addReg64 (aCtxVtime c) run).count a 1 else s

/-- A slot with nothing of its last task but its state. -/
def TaskState.vacated (t : TaskState) : TaskState :=
  { t with core := none, origin := none, runCk := 0, copy := none, interrupted := false, faulting := false, krec := none,
           stopAt := none, readyCk := 0, objAt := none }

def State.releaseCore (s : State) : Option Nat → State
  | some c => s.freeCore c
  | none => s

def State.reportEntry (s : State) (st code : Nat) (exit : Word) (ns : Nat) : Option (Nat × Nat × Nat) → State
  | some o => s.endEntry o st code exit ns
  | none => s

/-- The end of a task up to the release of its core. -/
def State.ended (s : State) (k st code : Nat) (exit : Word) : State :=
  let s4 := (s.lastWork k).showEnd k st code exit (s.taskTag k)
  let run := if (s.task k).core.isSome then vtimeRun (s.ctxWeight (s.taskCtx k)) (nsOf (s.task k).runCk) else 0
  let a := if st = 4 then aCtxTasksDone (s.taskCtx k) else aCtxTasksCancelled (s.taskCtx k)
  let s5 := s4.chargeCtx (s.taskCtx k) (nsOf (s.task k).runCk) run a
  s5.setTask k (s5.task k).vacated

theorem State.endTask_eq (k st code : Nat) (exit : Word) : s.endTask k st code exit =
    ((s.ended k st code exit).releaseCore (s.task k).core).reportEntry st code exit (nsOf (s.task k).runCk) (s.task k).origin := by
  cases ho : (s.task k).origin <;> cases hc : (s.task k).core <;>
    simp only [State.endTask, State.ended, State.lastWork, State.showEnd, State.chargeCtx, State.releaseCore, State.reportEntry,
      TaskState.vacated, ho, hc]

theorem State.reg_setReg64_other (a b v : Nat) (h : b ≠ a) (h4 : b ≠ a + 4) : (s.setReg64 a v).reg b = s.reg b :=
  s.regsBut_setReg64 a v b (by simp [h, h4])

theorem State.chargeCtx_lodge (c ns run a : Nat) : (s.chargeCtx c ns run a).lodge = s.lodge := by
  unfold State.chargeCtx
  split <;> rfl

/-- The slots lie above the contexts. -/
theorem State.reg_chargeCtx {c a b : Nat} (ns run : Nat) (ha : c < 64 → a < 0x390000) (hb : 0x390000 ≤ b) :
    (s.chargeCtx c ns run a).reg b = s.reg b := by
  unfold State.chargeCtx
  split
  · next hc =>
    have hne := ha hc
    have hvtime : aCtxVtime c + 4 < 0x390000 := by
      simp only [aCtxVtime, aCtx]
      omega
    have hcore : aCtxCoreNs c + 4 < 0x390000 := by
      simp only [aCtxCoreNs, aCtx]
      omega
    rw [State.reg_count_other _ _ _ _ (by omega), State.addReg64, State.reg_setReg64_other _ _ _ _ (by omega) (by omega),
      State.addReg64, State.reg_setReg64_other _ _ _ _ (by omega) (by omega)]
  · rfl

theorem State.canonical_showEnd (k st code : Nat) (exit tag : Word) (hs : s.canonical = true) :
    (s.showEnd k st code exit tag).canonical = true :=
  (State.setReg_frame _ _ _).canonical ((s.setTaskSt_frame _ _ _ _).canonical hs)

theorem State.regN_showEnd (k st code : Nat) (exit tag : Word) (hs : s.canonical = true) (hlt : st * 2 ^ 28 + code < 2 ^ 32) :
    (s.showEnd k st code exit tag).regN (aTaskOf k + 0x40) = st * 2 ^ 28 + code :=
  (congrArg BitVec.toNat (State.reg_setReg_other _ _ _ _ (by omega))).trans (s.regN_setTaskSt k st code exit hs hlt)

theorem State.task_ended (k st code : Nat) (exit : Word) (hs : s.canonical = true) :
    (s.ended k st code exit).task k = { (s.lastWork k).task k with st := st }.vacated := by
  unfold State.ended
  extract_lets s4 run a s5
  have h3 := s.canonical_lastWork k hs
  have h4 : s4.canonical = true := State.canonical_showEnd _ _ _ _ _ _ h3
  have hlodge : s5.lodge = s4.lodge := s4.chargeCtx_lodge _ _ _ _
  have h5 : Tab.wf (fun _ => TaskState.free) s5.lodge.tasks = true := by
    rw [hlodge]
    exact s4.canonical_task h4
  have htask : s5.task k = { (s.lastWork k).task k with st := st } :=
    (congrArg (fun l : LodgeState => Tab.at_ TaskState.free l.tasks k) hlodge).trans
      (State.task_setTaskSt _ k st code exit (State.canonical_task _ h3))
  rw [s5.task_setTask_same k _ h5, htask]

theorem State.regN_ended (k st code : Nat) (exit : Word) (hs : s.canonical = true) (hlt : st * 2 ^ 28 + code < 2 ^ 32) :
    (s.ended k st code exit).regN (aTaskOf k + 0x40) = st * 2 ^ 28 + code := by
  have hhigh : 0x390000 ≤ aTaskOf k + 0x40 := by
    simp only [aTaskOf, aTask, aLodge]
    omega
  have hreport : s.taskCtx k < 64 → (if st = 4 then aCtxTasksDone (s.taskCtx k) else aCtxTasksCancelled (s.taskCtx k)) < 0x390000 := by
    intro hctx
    split <;> simp only [aCtxTasksDone, aCtxTasksCancelled, aCtx] <;> omega
  exact (congrArg BitVec.toNat (State.reg_chargeCtx _ _ _ hreport hhigh)).trans
    (State.regN_showEnd _ k st code exit _ (s.canonical_lastWork k hs) hlt)

theorem State.releaseCore_tasks (c : Option Nat) : (s.releaseCore c).lodge.tasks = s.lodge.tasks := by
  cases c with
  | none => rfl
  | some c => exact s.freeCore_tasks c

theorem State.reg_releaseCore (c : Option Nat) (a : Nat) : (s.releaseCore c).reg a = s.reg a := by
  cases c with
  | none => rfl
  | some c => exact State.reg_congr (s.freeCore_frame c).ident ((s.freeCore_frame c).regs rfl) a

/-- The slot and the status word that the end of a task leaves. -/
theorem State.endTask_slot (k st code : Nat) (exit : Word) (hs : s.canonical = true) (hlt : st * 2 ^ 28 + code < 2 ^ 32) :
    ((s.endTask k st code exit).task k).st = st ∧ ((s.endTask k st code exit).task k).core = none ∧
    (s.endTask k st code exit).regN (aTaskOf k + 0x40) = st * 2 ^ 28 + code := by
  have htask : ((s.ended k st code exit).releaseCore (s.task k).core).task k = { (s.lastWork k).task k with st := st }.vacated :=
    (congrArg (Tab.at_ TaskState.free · k) (State.releaseCore_tasks _ _)).trans (s.task_ended k st code exit hs)
  have hreg : ((s.ended k st code exit).releaseCore (s.task k).core).regN (aTaskOf k + 0x40) = st * 2 ^ 28 + code :=
    (congrArg BitVec.toNat (State.reg_releaseCore _ _ _)).trans (s.regN_ended k st code exit hs hlt)
  have hst : (((s.ended k st code exit).releaseCore (s.task k).core).task k).st = st := congrArg TaskState.st htask
  have hcore : (((s.ended k st code exit).releaseCore (s.task k).core).task k).core = none := congrArg TaskState.core htask
  rw [s.endTask_eq]
  cases (s.task k).origin with
  | none => exact ⟨hst, hcore, hreg⟩
  | some o => exact ⟨hst, hcore, hreg⟩

theorem State.taskCode_endTask (k st code : Nat) (exit : Word) (hs : s.canonical = true) (hst : st < 16) (hcode : code < 2 ^ 16) :
    fld ((s.endTask k st code exit).reg (aTaskOf k + 0x40)) 0 16 = code := by
  obtain ⟨-, -, hreg⟩ := s.endTask_slot k st code exit hs (by omega)
  rw [State.regN] at hreg
  rw [fld, bits, hreg]
  omega

/-! ## Submission (R517, R519) -/

theorem State.raiseVtime_lodge (c : Nat) : (s.raiseVtime c).lodge = s.lodge := (s.raiseVtime_frame c).lodge rfl

theorem State.raiseVtime_eq (c : Nat) : s.raiseVtime c = { s with regs := (s.raiseVtime c).regs } := by
  unfold State.raiseVtime
  split
  · rfl
  · split <;> rfl

/-- A slot that GO has made PENDING. -/
def State.submitted (s : State) (k : Nat) : State :=
  let s1 := s.raiseVtime (s.taskCtx k)
  let s2 : State := { s1 with lodge := { s1.lodge with nextOrder := s1.lodge.nextOrder + 1 } }
  (s2.setTask k { s2.task k with order := s1.lodge.nextOrder, runCk := 0, readyCk := 0 }).setTaskSt k 1 0 0

theorem State.canonical_submitted (k : Nat) (hs : s.canonical = true) : (s.submitted k).canonical = true := by
  unfold State.submitted
  extract_lets s1 _ s2
  have h2 : s2.canonical = true := (s.raiseVtime_frame _).canonical hs
  exact (State.setTaskSt_frame _ _ _ _ _).canonical ((s2.setTask_frame _ _).canonical h2)

theorem State.submitted_eq (k : Nat) :
    s.submitted k = { s with regs := (s.submitted k).regs, lodge := (s.submitted k).lodge } := by
  unfold State.submitted
  rw [s.raiseVtime_eq (s.taskCtx k)]
  rfl

theorem State.task_submitted (k : Nat) (hs : s.canonical = true) : (s.submitted k).task k =
    { s.task k with order := s.lodge.nextOrder, runCk := 0, readyCk := 0, st := 1 } := by
  unfold State.submitted
  extract_lets s1 _ s2
  have hlodge : s1.lodge = s.lodge := s.raiseVtime_lodge _
  have htask : s2.task k = s.task k := (congrArg (fun l : LodgeState => Tab.at_ TaskState.free l.tasks k) hlodge :)
  have h2 : Tab.wf (fun _ => TaskState.free) s2.lodge.tasks = true := (s1.canonical_task ((s.raiseVtime_frame _).canonical hs) :)
  refine (State.task_setTaskSt _ k 1 0 0 (Tab.put_wf _ _ _ _ h2)).trans ?_
  rw [s2.task_setTask_same k _ h2]
  exact (congrArg (fun x : TaskState => { x with order := s1.lodge.nextOrder, runCk := 0, readyCk := 0, st := 1 }) htask).trans
    (congrArg (fun l : LodgeState => { s.task k with order := l.nextOrder, runCk := 0, readyCk := 0, st := 1 }) hlodge)

theorem State.task_submitted_other {k j : Nat} (h : j ≠ k) : (s.submitted k).task j = s.task j := by
  unfold State.submitted
  extract_lets s1 _ s2
  have hlodge : s1.lodge = s.lodge := s.raiseVtime_lodge _
  rw [State.task_setTaskSt_other _ _ _ _ h, s2.task_setTask_other _ _ _ h]
  exact (congrArg (fun l : LodgeState => Tab.at_ TaskState.free l.tasks j) hlodge :)

theorem State.submitted_lodge (k : Nat) :
    (s.submitted k).lodge.nextOrder = s.lodge.nextOrder + 1 ∧ (s.submitted k).lodge.cores = s.lodge.cores := by
  have hlodge := s.raiseVtime_lodge (s.taskCtx k)
  unfold State.submitted
  rw [← hlodge]
  exact ⟨rfl, rfl⟩

theorem State.taskGo_eq (k : Nat) : s.taskGo k =
    if Machine.slotFree (s.task k).st = false || s.ident.hubs ≤ k / 256 then s
    else if bits (s.taskMask k) 1 3 = 0 then (s.submitted k).endTask k 6 0x0603 0
    else if (s.task k).cancelAt = some s.now then (s.submitted k).endTask k 5 0x0703 0
    else s.submitted k := by
  simp only [State.taskGo, State.submitted]

theorem State.taskGo_busy {k : Nat} (h : Machine.slotFree (s.task k).st = false) : s.taskGo k = s := by
  rw [s.taskGo_eq, if_pos (by simp [h])]

theorem State.taskGo_free {k : Nat} (h : Machine.slotFree (s.task k).st = true) (hh : k / 256 < s.ident.hubs) : s.taskGo k =
    if bits (s.taskMask k) 1 3 = 0 then (s.submitted k).endTask k 6 0x0603 0
    else if (s.task k).cancelAt = some s.now then (s.submitted k).endTask k 5 0x0703 0
    else s.submitted k := by
  rw [s.taskGo_eq, if_neg (by simp [h, hh])]

/-! ## Cancel (R521, R528) -/

theorem State.writeCancel_live {k : Nat} (h : Machine.slotFree (s.task k).st = false) : s.writeCancel k = s.cancelTask k false := by
  rw [State.writeCancel, if_neg (ne_true_of_eq_false h)]

theorem State.writeCancel_free {k : Nat} (h : Machine.slotFree (s.task k).st = true) (hh : k / 256 < s.ident.hubs) :
    s.writeCancel k = s.setTask k { s.task k with cancelAt := some s.now } := by
  rw [State.writeCancel, if_pos h, if_pos hh]

theorem State.cancelTask_pending {k : Nat} (h : (s.task k).st = 1) : s.cancelTask k false = s.endTask k 5 0x0703 0 := by
  rw [State.cancelTask, if_pos h]
  rfl

theorem State.cancelTask_fresh {k c : Nat} (hst : (s.task k).st = 2) (hc : (s.task k).core = some c)
    (hj : s.justStarted k c = true) : s.cancelTask k false = (s.unstart k c).endTask k 5 0x0703 0 := by
  have hfresh : (s.task k).core.filter (fun c => s.justStarted k c) = some c := by rw [hc, Option.filter_some, if_pos hj]
  rw [State.cancelTask, if_neg (by omega), hfresh]
  rfl

theorem State.cancelTask_running {k : Nat} (hst : (s.task k).st = 2 ∨ (s.task k).st = 3)
    (hj : ∀ c, (s.task k).core = some c → s.justStarted k c = false) :
    s.cancelTask k false = s.setTask k { s.task k with interrupted := true } := by
  have hfresh : (s.task k).core.filter (fun c => s.justStarted k c) = none := by
    cases hc : (s.task k).core with
    | none => rfl
    | some c => rw [Option.filter_some, if_neg (ne_true_of_eq_false (hj c hc))]
  rw [State.cancelTask, if_neg (by omega), hfresh, if_neg (by decide), if_pos (by simpa using hst), Bool.false_and, Bool.or_false]

theorem State.cancelDone_ends {k c : Nat} (hst : (s.task k).st = 2 ∨ (s.task k).st = 3) (hc : (s.task k).core = some c)
    (hi : (s.task k).interrupted = true) (hf : (s.task k).faulting = false) (hp : (s.core c).porter = false) :
    s.cancelDone k = (s.emit (s.cancelRecord k c)).endTask k 5 0x0703 0 := by
  have hyes : ((decide ((s.task k).st = 2) || decide ((s.task k).st = 3)) && (s.task k).interrupted && !(s.core c).porter) = true := by
    rw [hi, hp]
    simpa using hst
  rw [State.cancelDone, hc]
  dsimp only
  rw [if_pos hyes, if_neg (by rw [hf]; decide)]
  rfl

theorem State.cancelDone_running {k : Nat} (hi : (s.task k).interrupted = false) : s.cancelDone k = s := by
  unfold State.cancelDone
  dsimp only
  split
  · rfl
  · exact if_neg (by simp [hi])

theorem State.exec_kernelStopTimeout {h : Hub} {i : Slot} {t0 : Nat} (ht : (s.task (taskKey h i)).stopAt = some t0) :
    exec (.kernelStopTimeout h i) s = .next (if t0 ≤ s.now then s.cancelTask (taskKey h i) false else s) := by
  change execKernelStopTimeout h i s = _
  rw [execKernelStopTimeout, ht]

/-! ## Dispatch and start (R498, R518) -/

theorem State.dispatchOne_starts {h k c : Nat} {u : State} (hk : s.nextTask h = some k) (hc : s.coreFor k = some c)
    (hu : s.takeWaits (s.taskWaits k) = some u) : s.dispatchOne h = u.startOn k c := by
  rw [State.dispatchOne, hk]
  dsimp only
  rw [hc, hu]

theorem State.dispatchOne_none {h : Nat} (hk : s.nextTask h = none) : s.dispatchOne h = s := by
  rw [State.dispatchOne, hk]

/-- Core `c` as task `k` finds it. -/
def State.startedCore (s : State) (k c : Nat) : CoreState :=
  let x1 := ((s.core c).setX 10 (BitVec.ofNat 64 (s.taskArg k))).setX 2 (BitVec.ofNat 64 (s.taskStack k))
  { x1 with pc := BitVec.ofNat 64 (s.taskEntry k), priv := 0, task := some k, resv := none,
            csr := Tab.set_ 0 x1.csr csrSatp (s.taskSatp (s.taskCtx k)) }

/-- The state with task `k` placed on core `c`. -/
def State.placed (s : State) (k c : Nat) : State :=
  ((s.setCore c (s.startedCore k c)).setTask k { s.task k with core := some c, startedAt := s.now, runCk := 0 }).setTaskSt k 2 0 0

theorem State.task_placed (k c : Nat) (hs : s.canonical = true) :
    (s.placed k c).task k = { s.task k with core := some c, startedAt := s.now, runCk := 0, st := 2 } := by
  have hk : Tab.wf (fun _ => TaskState.free) (s.setCore c (s.startedCore k c)).lodge.tasks = true := (s.canonical_task hs :)
  rw [State.placed, State.task_setTaskSt _ k 2 0 0 (Tab.put_wf _ _ _ _ hk), State.task_setTask_same _ _ _ hk]

/-- A task that is no COPY task starts with its placing, but for what it charges to its context. -/
theorem State.startOn_lodge {k c : Nat} (hs : s.canonical = true) (hcopy : (s.task k).copy = none) :
    (s.startOn k c).lodge = (s.placed k c).lodge := by
  unfold State.startOn
  extract_lets ctx t x x1 x2 s1 s2 s3
  have hlodge : s3.lodge = (s.placed k c).lodge := by
    unfold s3
    split <;> rfl
  have hnone : (s3.task k).copy = none :=
    (congrArg (fun l : LodgeState => (Tab.at_ TaskState.free l.tasks k).copy) hlodge).trans
      ((congrArg TaskState.copy (s.task_placed k c hs)).trans hcopy)
  rw [State.copyChunk, hnone]
  exact hlodge

theorem State.core_startOn {k c : Nat} (hs : s.canonical = true) (hcopy : (s.task k).copy = none) :
    (s.startOn k c).core c = s.startedCore k c :=
  (congrArg (fun l : LodgeState => Tab.at_ CoreState.reset l.cores c) (s.startOn_lodge hs hcopy)).trans
    (s.core_setCore_same c _ (s.canonical_core hs))

theorem State.task_startOn {k c : Nat} (hs : s.canonical = true) (hcopy : (s.task k).copy = none) :
    (s.startOn k c).task k = { s.task k with core := some c, startedAt := s.now, runCk := 0, st := 2 } :=
  (congrArg (fun l : LodgeState => Tab.at_ TaskState.free l.tasks k) (s.startOn_lodge hs hcopy)).trans (s.task_placed k c hs)

/-- The core that the dispatcher finds is idle, and no core 0. -/
theorem State.coreFor_some {k c : Nat} (h : s.coreFor k = some c) : ∃ j, j ≠ 0 ∧ c = 4 * (k / 256) + j ∧ s.coreIdle c = true := by
  obtain ⟨j, hj, hfound⟩ := List.exists_of_findSome?_eq_some h
  obtain ⟨-, hmay⟩ := List.mem_filter.1 hj
  split at hfound
  case isTrue hidle =>
    have hc := Option.some.inj hfound
    refine ⟨j, ?_, hc.symm, hc ▸ hidle⟩
    rintro rfl
    exact Bool.false_ne_true hmay
  case isFalse => exact absurd hfound nofun

end Lemmas

/-- Settles O37, by what each command does with a slot in each of its states. -/
theorem taskSlots : Obligations.TaskSlots := by
  unfold Obligations.TaskSlots
  refine ⟨fun h i w v s hs hh hfree => ?record, fun h i w v s hbusy => ?busy, fun h i s hs hh hfree hmask hcancel => ?pending,
    fun h i s hs hh hfree hmask => ?noCore, fun h i s hs hh hfree hmask hcancel => ?cancelled, fun h i s hst => ?cancelPending,
    fun h i c s hst hc hj => ?cancelFresh, fun h i s hst hj => ?interrupt, fun h i s hh hfree => ?early,
    fun h i c s hst hc hi hf hp => congrArg Host.Outcome.next (s.cancelDone_ends hst hc hi hf hp),
    fun h i s hi => congrArg Host.Outcome.next (s.cancelDone_running hi),
    fun h k c s u hk hc hu => congrArg Host.Outcome.next (s.dispatchOne_starts hk hc hu),
    fun h s hk => congrArg Host.Outcome.next (s.dispatchOne_none hk), fun h i t0 s ht => ⟨fun hlt => ?running, fun hle hst hj => ?stopped⟩,
    fun k c s hs hx hcopy => ?start, fun c j s k hc hj hlt => ?core⟩
  case record =>
    have hgo : s.writeTask (taskKey h i) w.val v = s.setReg (aTaskOf (taskKey h i) + 4 * w.val) (v &&& taskWordBits w.val) := by
      rw [State.writeTask, if_pos (by rw [taskKey_div, hfree]; simpa using hh)]
    exact ⟨_, (s.exec_ldgTaskRecordWrite h i w v).trans (congrArg _ hgo), rfl, s.reg_setReg_same _ _ (s.canonical_regs hs),
      s.regsBut_setReg _ _⟩
  case busy =>
    refine ⟨congrArg Host.Outcome.next (if_neg ?_), congrArg Host.Outcome.next (s.taskGo_busy hbusy)⟩
    rw [hbusy, Bool.and_false]
    exact Bool.false_ne_true
  case pending =>
    have hgo : s.taskGo (taskKey h i) = s.submitted (taskKey h i) := by
      rw [s.taskGo_free hfree (by rwa [taskKey_div]), if_neg hmask, if_neg hcancel]
    have htask := s.task_submitted (taskKey h i) hs
    obtain ⟨horder, hcores⟩ := s.submitted_lodge (taskKey h i)
    exact ⟨_, (s.exec_ldgTaskGo h i).trans (congrArg _ hgo), s.submitted_eq _, (congrArg TaskState.st htask :),
      (congrArg TaskState.order htask :), horder, hcores, fun j hj => s.task_submitted_other hj⟩
  case noCore =>
    have hgo : s.taskGo (taskKey h i) = (s.submitted (taskKey h i)).endTask (taskKey h i) 6 0x0603 0 := by
      rw [s.taskGo_free hfree (by rwa [taskKey_div]), if_pos hmask]
    have hcanon := s.canonical_submitted (taskKey h i) hs
    obtain ⟨hst, hcore, -⟩ := State.endTask_slot _ (taskKey h i) 6 0x0603 0 hcanon (by decide)
    exact ⟨_, (s.exec_ldgTaskGo h i).trans (congrArg _ hgo), hst, hcore,
      State.taskCode_endTask _ _ 6 0x0603 0 hcanon (by decide) (by decide)⟩
  case cancelled =>
    have hgo : s.taskGo (taskKey h i) = (s.submitted (taskKey h i)).endTask (taskKey h i) 5 0x0703 0 := by
      rw [s.taskGo_free hfree (by rwa [taskKey_div]), if_neg hmask, if_pos hcancel]
    have hcanon := s.canonical_submitted (taskKey h i) hs
    obtain ⟨hst, hcore, -⟩ := State.endTask_slot _ (taskKey h i) 5 0x0703 0 hcanon (by decide)
    exact ⟨_, (s.exec_ldgTaskGo h i).trans (congrArg _ hgo), hst, hcore,
      State.taskCode_endTask _ _ 5 0x0703 0 hcanon (by decide) (by decide)⟩
  case cancelPending =>
    rw [s.exec_ldgTaskCancel, s.writeCancel_live (by rw [hst]; rfl), s.cancelTask_pending hst]
  case cancelFresh =>
    rw [s.exec_ldgTaskCancel, s.writeCancel_live (by rw [hst]; rfl), s.cancelTask_fresh hst hc hj]
  case interrupt =>
    have hlive : slotFree (s.task (taskKey h i)).st = false := by
      obtain hst | hst := hst <;> rw [hst] <;> rfl
    rw [s.exec_ldgTaskCancel, s.writeCancel_live hlive, s.cancelTask_running hst hj]
  case early => exact congrArg Host.Outcome.next (s.writeCancel_free hfree (by rwa [taskKey_div]))
  case running => rw [s.exec_kernelStopTimeout ht, if_neg (by omega)]
  case stopped => rw [s.exec_kernelStopTimeout ht, if_pos hle, s.cancelTask_running (.inl hst) hj]
  case start =>
    have hcore := s.core_startOn (c := c) hs hcopy
    have htask := s.task_startOn (c := c) hs hcopy
    have hx1 := (s.core c).wf_setX 10 (BitVec.ofNat 64 (s.taskArg k)) hx
    refine ⟨?_, ?_, ?_, (congrArg TaskState.st htask :), (congrArg TaskState.core htask :), (s.startOn_frame k c).tiles rfl,
      (s.startOn_frame k c).mem rfl⟩
    · rw [hcore]
      rfl
    · rw [hcore]
      refine (CoreState.getX_setX _ 2 10 _ hx1).trans ((if_neg (by decide)).trans ?_)
      exact ((s.core c).getX_setX 10 10 _ hx).trans (if_pos ⟨rfl, by decide⟩)
    · rw [hcore]
      exact (CoreState.getX_setX _ 2 2 _ hx1).trans (if_pos ⟨rfl, by decide⟩)
  case core =>
    obtain ⟨m, hm, hcm, hidle⟩ := s.coreFor_some hc
    exact ⟨by omega, hidle⟩

section Lemmas
variable (s : State)

/-! ## Core power and way locks (R495, R497, R525) -/

theorem State.exec_ldgCorePwrWrite (h : Hub) (v : BitVec 4) :
    exec (.ldgCorePwrWrite h v) s = .next (s.writeCorePwr h.val v.toNat) := rfl
theorem State.exec_ldgL2LockWrite (h : Hub) (v : BitVec 16) :
    exec (.ldgL2LockWrite h v) s = .next (s.writeL2Lock h.val v.toNat) := rfl

/-- A run over numbers of which one alone acts. -/
theorem foldl_range_one {α : Type} (f : α → Nat → α) (x : α) {n k : Nat} (hk : k < n) (hother : ∀ j, j < n → j ≠ k → f x j = x)
    (hafter : ∀ j, j < n → j ≠ k → f (f x k) j = f x k) : (List.range n).foldl f x = f x k := by
  have hnone : ∀ m, m ≤ k → (List.range m).foldl f x = x := fun m hm =>
    List.foldlRecOn _ _ (motive := (· = x)) rfl (fun y hy j hj => by
      have hlt := List.mem_range.1 hj
      rw [hy]
      exact hother j (by omega) (by omega))
  have hsome : ∀ m, k < m → m ≤ n → (List.range m).foldl f x = f x k := fun m => by
    induction m with
    | zero => exact fun h _ => absurd h (Nat.not_lt_zero k)
    | succ m ih =>
      intro hlt hle
      rw [List.range_succ, List.foldl_append, List.foldl_cons, List.foldl_nil]
      obtain h | rfl := Nat.lt_succ_iff_lt_or_eq.1 hlt
      · rw [ih h (by omega)]
        exact hafter m (by omega) (by omega)
      · rw [hnone k le_rfl]
  exact hsome n hk le_rfl

theorem foldl_range_none {α : Type} (f : α → Nat → α) (x : α) {n : Nat} (h : ∀ j, j < n → f x j = x) :
    (List.range n).foldl f x = x :=
  List.foldlRecOn _ _ (motive := (· = x)) rfl (fun y hy j hj => by
    rw [hy]
    exact h j (List.mem_range.1 hj))

theorem State.setDomain_same {a k n : Nat} {v : Bool} (h : bit (s.reg a) k = v) : s.setDomain a k n v = s := if_pos h

theorem State.setDomain_off {a k n : Nat} (h : bit (s.reg a) k = true) :
    s.setDomain a k n false = (s.clrBits a (1#32 <<< k)).beginOff n := by
  rw [State.setDomain, h, if_neg (by decide), if_neg Bool.false_ne_true]

/-- What a write of LDG_CORE_PWR asks of core `k`: the service core stays on. -/
def askedOn (v k : Nat) : Bool := k == 0 || v / 2 ^ k % 2 == 1

theorem State.writeCorePwr_eq {h : Nat} (v : Nat) (hh : h < s.ident.hubs) : s.writeCorePwr h v =
    (List.range 4).foldl (fun t k => t.setDomain (aLodge h) k (12 + 4 * h + k) (askedOn v k)) s := if_pos hh

/-- The gates of a domain close, and no more. -/
theorem State.closeGates_eq (n : Nat) : ∃ x, s.closeGates n = { s with hdg := x } := by
  unfold State.closeGates
  refine List.foldlRecOn _ _ (motive := fun t : State => ∃ x, t = { s with hdg := x }) ⟨_, rfl⟩ ?_
  rintro t ⟨x, rfl⟩ g -
  dsimp only
  split
  · exact ⟨_, rfl⟩
  · exact ⟨_, rfl⟩

/-- The removal of a domain's power begins: it waits for its unit. -/
theorem State.beginOff_first {n : Nat} (hoff : s.power.off = []) (hturn : s.power.turningOff = []) :
    ∃ x, s.beginOff n = { s with power := { s.power with turningOff := [n] }, hdg := x } := by
  have hon : ¬ s.power.off.contains n = true := by simp [hoff]
  have hnew : ¬ s.power.turningOff.contains n = true := by simp [hturn]
  obtain ⟨x, hx⟩ := State.closeGates_eq { s with power := { s.power with turningOff := [n] } } n
  refine ⟨x, ?_⟩
  rw [State.beginOff, if_neg hon, if_neg hnew, hturn]
  exact hx

theorem askedOn_cleared : ∀ k j : Fin 4, k.val ≠ 0 → askedOn (BitVec.ofNat 4 (15 - 2 ^ k.val)).toNat j.val = decide (j ≠ k) := by decide

theorem bit_cleared : ∀ k j : Fin 4, bit ((0xF : Word) &&& ~~~(1#32 <<< k.val)) j.val = decide (j ≠ k) := by decide

/-- The bits of a register that shows what a write asks for, but for the bit of the service core. -/
theorem bit_asked {w : Word} {v k : Nat} (heven : v % 2 = 0) (hw : w.toNat = v + 1) (hk : k < 4) : bit w k = askedOn v k := by
  rw [bit_get, BitVec.getLsbD, hw, Nat.testBit_eq_decide_div_mod_eq, askedOn]
  interval_cases k
  · simpa using (by omega : (v + 1) % 2 = 1)
  all_goals
    rw [Bool.eq_iff_iff]
    simp only [decide_eq_true_eq, Bool.or_eq_true, beq_iff_eq, OfNat.ofNat_ne_zero, one_ne_zero, false_or]
    omega

/-- One way of LDG_L2_LOCK. -/
def State.lockWay (s : State) (h v k : Nat) : State :=
  if v / 2 ^ k % 2 == 1 && !(s.wayLocked h k) then ((s.flushWay h k).zeroWay h k).setBits (aLodge h + 8) (1#32 <<< k) else s

theorem State.writeL2Lock_eq {h : Nat} (v : Nat) (hh : h < s.ident.hubs) :
    s.writeL2Lock h v = (List.range 16).foldl (fun t k => t.lockWay h v k) s := if_pos hh

theorem State.lockWay_not {h v k : Nat} (hv : (v / 2 ^ k % 2 == 1) = false) : s.lockWay h v k = s := by
  rw [State.lockWay, hv, Bool.false_and, if_neg Bool.false_ne_true]

theorem wayBit_one : ∀ k j : Fin 16, ((1#16 <<< k.val).toNat / 2 ^ j.val % 2 == 1) = decide (j = k) := by decide

end Lemmas

/-- Settles O38, way by way and core by core of a write. -/
theorem lodgeControl : Obligations.LodgeControl := by
  unfold Obligations.LodgeControl
  refine ⟨fun h v s hh heven hreg => ?same, fun h k s hs hh h1 h3 hreg hoff hturn => ?cleared, fun h v s hh hlocked => ?locked,
    fun h k s hh hfree => ?newWay⟩
  case same =>
    rw [s.exec_ldgCorePwrWrite, s.writeCorePwr_eq _ hh,
      foldl_range_none _ s (fun j hj => s.setDomain_same (bit_asked heven hreg hj))]
  case cleared =>
    let K : Fin 4 := ⟨k, by omega⟩
    have hask : ∀ j : Fin 4, askedOn (BitVec.ofNat 4 (15 - 2 ^ k)).toNat j.val = decide (j ≠ K) := fun j =>
      askedOn_cleared K j (by simp only [K]; omega)
    obtain ⟨x, hx⟩ := (s.clrBits (aLodge h.val) (1#32 <<< k)).beginOff_first (n := 12 + 4 * h.val + k) hoff hturn
    have hone : s.setDomain (aLodge h.val) k (12 + 4 * h.val + k) (askedOn (BitVec.ofNat 4 (15 - 2 ^ k)).toNat k) =
        { s.clrBits (aLodge h.val) (1#32 <<< k) with power := { s.power with turningOff := [12 + 4 * h.val + k] }, hdg := x } := by
      have hbit : bit (s.reg (aLodge h.val)) k = true := by
        rw [hreg]
        exact (by decide : ∀ j : Fin 4, bit (0xF : Word) j.val = true) K
      rw [show askedOn (BitVec.ofNat 4 (15 - 2 ^ k)).toNat k = false from (hask K).trans (by simp), s.setDomain_off hbit]
      exact hx
    have hcleared : (s.clrBits (aLodge h.val) (1#32 <<< k)).reg (aLodge h.val) = (0xF : Word) &&& ~~~(1#32 <<< k) := by
      rw [State.clrBits, s.reg_setReg_same _ _ (s.canonical_regs hs), hreg]
    have hgo : s.writeCorePwr h.val (BitVec.ofNat 4 (15 - 2 ^ k)).toNat =
        { s.clrBits (aLodge h.val) (1#32 <<< k) with power := { s.power with turningOff := [12 + 4 * h.val + k] }, hdg := x } := by
      rw [s.writeCorePwr_eq _ hh, ← hone]
      refine foldl_range_one _ s (by omega) (fun j hj hne => s.setDomain_same ?_) (fun j hj hne => State.setDomain_same _ ?_)
      · rw [hreg]
        exact ((by decide : ∀ j : Fin 4, bit (0xF : Word) j.val = true) ⟨j, hj⟩).trans
          ((hask ⟨j, hj⟩).trans (decide_eq_true (fun h => hne (congrArg Fin.val h)))).symm
      · rw [hone]
        exact ((congrArg (bit · j) hcleared).trans (bit_cleared K ⟨j, hj⟩)).trans (hask ⟨j, hj⟩).symm
    refine ⟨_, (s.exec_ldgCorePwrWrite h _).trans (congrArg _ hgo), rfl, ?_, rfl, s.regsBut_setReg _ _⟩
    refine (congrArg BitVec.toNat hcleared).trans ?_
    exact (by decide : ∀ j : Fin 4, ((0xF : Word) &&& ~~~(1#32 <<< j.val)).toNat = 15 - 2 ^ j.val) K
  case locked =>
    rw [s.exec_ldgL2LockWrite, s.writeL2Lock_eq _ hh]
    refine congrArg _ (foldl_range_none _ s (fun j hj => if_neg ?_))
    intro hboth
    obtain ⟨hv, hnot⟩ := Bool.and_eq_true_iff.1 hboth
    have hset : v.getLsbD j = true := by
      rw [BitVec.getLsbD, Nat.testBit_eq_decide_div_mod_eq]
      exact decide_eq_true (beq_iff_eq.1 hv)
    rw [hlocked j hj hset] at hnot
    exact Bool.false_ne_true hnot
  case newWay =>
    have hone : s.lockWay h.val (1#16 <<< k.val).toNat k.val =
        ((s.flushWay h.val k.val).zeroWay h.val k.val).setBits (aLodge h.val + 8) (1#32 <<< k.val) := by
      rw [State.lockWay, if_pos]
      rw [hfree, wayBit_one k k]
      simp
    rw [s.exec_ldgL2LockWrite, s.writeL2Lock_eq _ hh, ← hone]
    have hnot : ∀ (t : State) (j : Nat), j < 16 → j ≠ k.val → t.lockWay h.val (1#16 <<< k.val).toNat j = t := fun t j hj hne =>
      t.lockWay_not ((wayBit_one k ⟨j, hj⟩).trans (decide_eq_false (fun h => hne (congrArg Fin.val h))))
    exact congrArg _ (foldl_range_one _ s k.isLt (fun j hj hne => hnot s j hj hne) (fun j hj hne => hnot _ j hj hne))

end Sys2Proof.Machine
end

section
/-!
PROOF. The PCI Express endpoint (12 R533, R535, R537, R539).
-/
namespace Sys2Proof.Machine

section Lemmas
variable (s : State)

/-! ## Accesses to BAR 0 that are not aligned (R535) -/

theorem State.exec_bar0MisalignedAccess (off : BitVec 25) (be : BitVec 8) (w : Bool) :
    exec (.bar0MisalignedAccess off be w) s = .next (s.badAccess off.toNat be.toNat w) := rfl

theorem State.badAccess_later {off be : Nat} (w : Bool) (h : s.reg aHubPcieBadacc ≠ 0) : s.badAccess off be w =
    if w then s.count aHubPcieBadacc 1 else (s.count aHubPcieBadacc 1).answer 0 0 := by
  rw [State.badAccess, if_pos h]

theorem State.badAccess_first (off be : Nat) (w : Bool) (h : s.reg aHubPcieBadacc = 0) : s.badAccess off be w =
    if w then (s.count aHubPcieBadacc 1).emit { err 0x0704 with loc := hubLoc 0 8, d0 := off, d1 := be }
    else ((s.count aHubPcieBadacc 1).emit { err 0x0704 with loc := hubLoc 0 8, d0 := off, d1 := be }).answer 0 0 := by
  rw [State.badAccess, if_neg (not_not.2 h)]

/-! ## BAR 2 (R537) -/

theorem State.exec_bar2Access (off : DWord) (w : Bool) (n : Fin 65) (data : Line) (e : Ecc) :
    exec (.bar2Access off w n ⟨data, e⟩) s = .next (s.bar2 off.toNat w n.val data e) := rfl

theorem State.bar2_outside {off n : Nat} (w : Bool) (data : Line) (e : Ecc) (h : s.bar2Addr off n = none) :
    s.bar2 off w n data e = if w then s else { s.answer 0 1 with readData := [] } := by
  rw [State.bar2, h]

theorem State.bar2_held {off n a : Nat} {w : Bool} {x : Nat × Nat × Nat × Nat} (data : Line) (e : Ecc)
    (h : s.bar2Addr off n = some a) (hx : s.accessWaits 0 mPcie a n w = some x) : s.bar2 off w n data e = s.noteHeld x := by
  rw [State.bar2, h]
  dsimp only
  rw [hx]

/-- The Hedge's answer decides an access inside BAR 2. -/
theorem State.bar2_inside {off n a x : Nat} {w : Bool} {p : Nat × Nat} {g : State} (data : Line) (e : Ecc)
    (h : s.bar2Addr off n = some a) (hw : s.accessWaits 0 mPcie a n w = none) (hg : s.hdgCheck 0 mPcie a n w false = (g, x, p)) :
    s.bar2 off w n data e =
      if w then (if x = 0 then (g.writeParity e).hbmWrite a ((lineBytes data).take n) else g)
      else if x ≠ 0 then { g.answer 0 (pcieStatus x) with readData := [] }
      else g.bar2Read a n e := by
  rw [State.bar2, h]
  dsimp only
  rw [hw]
  dsimp only
  rw [hg]

theorem State.bar2Read_clean {a n : Nat} {e : Ecc} (h : (s.eccFind (.hbm (a / 8)) e).hbmPoisoned a n = none) :
    (s.bar2Read a n e).readStatus = 0 ∧
    (s.bar2Read a n e).readData = ((s.eccFind (.hbm (a / 8)) e).hbmRead a n).2 := by
  rw [State.bar2Read, h]
  exact ⟨rfl, rfl⟩

theorem State.bar2Read_poisoned {a n w : Nat} {e : Ecc} (h : (s.eccFind (.hbm (a / 8)) e).hbmPoisoned a n = some w) :
    (s.bar2Read a n e).readStatus = 3 := by
  rw [State.bar2Read, h]
  rfl

/-! ## AtomicOps (R533; 09 R437) -/

theorem State.atomic_elsewhere {bar off n : Nat} (k : AtomicKind) (a b : Nat)
    (h : bar ≠ 2 ∨ off % n ≠ 0 ∨ s.bar2Addr off n = none) : s.atomic bar off k n a b = s.answer 0 1 := by
  unfold State.atomic
  split
  case isTrue => rfl
  case isFalse hin =>
    simp only [ne_eq, Bool.or_eq_true, decide_eq_true_eq, not_or, not_not] at hin
    obtain ⟨hbar, hal⟩ := hin
    obtain h | h | h := h
    · exact absurd hbar h
    · exact absurd hal h
    · rw [h]

section Served
variable {off n d : Nat} (k : AtomicKind) (a b : Nat) (hal : off % n = 0) (hd : s.bar2Addr off n = some d)
include hal hd

theorem State.atomic_held {w : Nat × Nat × Nat × Nat} (hw : s.accessWaits 0 mPcie d n true = some w) :
    s.atomic 2 off k n a b = s.noteHeld w := by
  rw [State.atomic, if_neg (by simp [hal]), hd]
  dsimp only
  rw [hw]

theorem State.atomic_granted {x : Nat} {p : Nat × Nat} {g : State} (hw : s.accessWaits 0 mPcie d n true = none)
    (hg : s.hdgCheck 0 mPcie d n true false = (g, x, p)) : s.atomic 2 off k n a b =
      if x ≠ 0 then g.answer 0 (pcieStatus x)
      else if ((s.hedge 0).heldBy mPcie).isSome then s.answer 0 2
      else match g.hbmPoisoned d n with
        | some w => (g.hostPoison w).useFree.answer (g.free.setWidth 64) 3
        | none => ((g.hbmRead d n).1.hbmWrite d (leBytes n (atomicNew k n (leNat (g.hbmRead d n).2) a b))).answer
            (BitVec.ofNat 64 (leNat (g.hbmRead d n).2)) 0 := by
  rw [State.atomic, if_neg (by simp [hal]), hd]
  dsimp only
  rw [hw]
  dsimp only
  rw [hg]
  rfl

end Served

theorem State.hostPoison_mem (w : Nat) : (s.hostPoison w).mem = s.mem := (s.hostPoison_frame w).mem rfl

/-! ## MSI-X (R539) -/

theorem State.exec_msixUnmask (v : Fin 2048) : exec (.msixUnmask v) s = .next (s.unmask v.val) := rfl

/-- A bit that is cleared. -/
theorem bit_andNot_same (x : Word) {i : Nat} (h : i < 32) : bit (x &&& ~~~(1#32 <<< i)) i = false := by
  simp [bit_get, h]

theorem State.regsBut_clrBits (a : Nat) (m : Word) : RegsBut s (s.clrBits a m) [a] := s.regsBut_setReg a _

/-- The vector table and the pending bits lie apart. -/
theorem pba_ne_table (v : Nat) : aMsixPba + 4 * (v / 32) ≠ aMsixTable v + 12 := by
  simp only [aMsixPba, aMsixTable]
  omega

theorem State.pending_clrMask (v : Nat) :
    (s.clrBits (aMsixTable v + 12) 1).reg (aMsixPba + 4 * (v / 32)) = s.reg (aMsixPba + 4 * (v / 32)) :=
  s.reg_clrBits_other _ _ _ (pba_ne_table v)

theorem State.unmask_pending {v : Nat} (hp : bit (s.reg (aMsixPba + 4 * (v / 32))) (v % 32) = true) :
    s.unmask v = ((s.clrBits (aMsixTable v + 12) 1).clrBits (aMsixPba + 4 * (v / 32)) (1#32 <<< (v % 32))).send (.msix v) := by
  rw [State.unmask]
  rw [s.pending_clrMask v, if_pos hp]

theorem State.unmask_quiet {v : Nat} (hp : bit (s.reg (aMsixPba + 4 * (v / 32))) (v % 32) = false) :
    s.unmask v = s.clrBits (aMsixTable v + 12) 1 := by
  rw [State.unmask]
  rw [s.pending_clrMask v, if_neg (ne_true_of_eq_false hp)]

theorem State.bit_clrMask (a : Nat) (hs : s.canonical = true) : bit ((s.clrBits a 1).reg a) 0 = false := by
  rw [State.clrBits, s.reg_setReg_same _ _ (s.canonical_regs hs)]
  exact bit_andNot_same (i := 0) _ (by decide)

end Lemmas

/-- Settles O39, by where an access goes and what the Hedge answers. -/
theorem hostAccess : Obligations.HostAccess := by
  unfold Obligations.HostAccess
  refine ⟨fun off be w s hs hne => ?later, fun off be w s hs h0 => ?first, fun off n data e s h => ?outside,
    fun off n data e a p s g h hw hg => ?write, fun off n data e a p s g h hw hg hclean => ?read,
    fun off write n data e a w s h hw => ?held, fun off n data e a w p s g h hw hg hbad => ?poison,
    fun off n data e a x p s g h hx => ⟨fun hw hg => ?writeErr, fun hw hg => ?readErr⟩, fun bar off k wide a b s h => ?elsewhere,
    fun off k wide a b n d w s hn hal hd hw => ?atomicHeld,
    fun off k wide a b n d x p s g hn hal hd hw hg => ⟨fun hx => ?atomicErr, fun hx hl => ?locked, fun w hx hl hbad => ?atomicPoison,
      fun r bs hx hl hclean hread => ?atomicDone⟩, fun v s hs hp => ?pending, fun v s hs hp => ?quiet⟩
  case later =>
    refine ⟨_, (s.exec_bar0MisalignedAccess off be w).trans (congrArg _ (s.badAccess_later w hne)), ?_⟩
    have hcount := s.reg_count_same aHubPcieBadacc 1 (s.canonical_regs hs)
    cases w with
    | true => exact ⟨rfl, hcount, s.regsBut_count _ _, nofun⟩
    | false => exact ⟨rfl, hcount, s.regsBut_count _ _, fun _ => ⟨rfl, rfl⟩⟩
  case first =>
    refine ⟨_, (s.exec_bar0MisalignedAccess off be w).trans (congrArg _ (s.badAccess_first _ _ w h0)), ?_⟩
    generalize ({ err 0x0704 with loc := hubLoc 0 8, d0 := off.toNat, d1 := be.toNat } : ErrInfo) = x
    have hcount : ((s.count aHubPcieBadacc 1).emit x).reg aHubPcieBadacc = 1 := by
      rw [State.reg_emit_low _ _ _ (by decide), s.reg_count_same _ _ (s.canonical_regs hs), h0]
      decide
    have hseq : ((s.count aHubPcieBadacc 1).emit x).errSeq = (s.errSeq + 1) % 65536 := State.emit_errSeq _ _
    have hframe := (s.count aHubPcieBadacc 1).emit_frame x
    cases w with
    | true => exact ⟨hcount, hseq, hframe.mem rfl, hframe.tiles rfl, nofun⟩
    | false => exact ⟨hcount, hseq, hframe.mem rfl, hframe.tiles rfl, fun _ => ⟨rfl, rfl⟩⟩
  case outside =>
    exact ⟨congrArg Host.Outcome.next (s.bar2_outside true data e h),
      ⟨_, congrArg Host.Outcome.next (s.bar2_outside false data e h), rfl, rfl, rfl⟩⟩
  case write => rw [s.exec_bar2Access, s.bar2_inside data e h hw hg, if_pos rfl, if_pos rfl]
  case read =>
    refine ⟨_, (s.exec_bar2Access off false n data e).trans (congrArg _ (s.bar2_inside data e h hw hg)), ?_⟩
    exact g.bar2Read_clean hclean
  case held => exact congrArg Host.Outcome.next (s.bar2_held data e h hw)
  case poison =>
    refine ⟨_, (s.exec_bar2Access off false n data e).trans (congrArg _ (s.bar2_inside data e h hw hg)), ?_⟩
    exact g.bar2Read_poisoned hbad
  case writeErr => rw [s.exec_bar2Access, s.bar2_inside data e h hw hg, if_pos rfl, if_neg hx]
  case readErr =>
    refine ⟨{ g.answer 0 (pcieStatus x) with readData := [] }, ?_, rfl, rfl⟩
    rw [s.exec_bar2Access, s.bar2_inside data e h hw hg, if_neg Bool.false_ne_true, if_pos hx]
  case elsewhere => exact ⟨_, congrArg Host.Outcome.next (s.atomic_elsewhere k a.toNat b.toNat h), rfl⟩
  case atomicHeld =>
    subst hn
    exact congrArg Host.Outcome.next (s.atomic_held k a.toNat b.toNat hal hd hw)
  case atomicErr =>
    subst hn
    exact congrArg Host.Outcome.next ((s.atomic_granted k a.toNat b.toNat hal hd hw hg).trans (if_pos hx))
  case locked =>
    subst hn
    exact congrArg Host.Outcome.next
      ((s.atomic_granted k a.toNat b.toNat hal hd hw hg).trans ((if_neg (not_not.2 hx)).trans (if_pos hl)))
  case atomicPoison =>
    subst hn
    have hgo := s.atomic_granted k a.toNat b.toNat hal hd hw hg
    rw [if_neg (not_not.2 hx), if_neg (ne_true_of_eq_false hl), hbad] at hgo
    exact ⟨_, congrArg Host.Outcome.next hgo, rfl, g.hostPoison_mem w⟩
  case atomicDone =>
    subst hn
    have hgo := s.atomic_granted k a.toNat b.toNat hal hd hw hg
    rw [if_neg (not_not.2 hx), if_neg (ne_true_of_eq_false hl), hclean, hread] at hgo
    exact congrArg Host.Outcome.next hgo
  case pending =>
    have hs1 : (s.clrBits (aMsixTable v.val + 12) 1).canonical = true := (s.clrBits_frame _ _).canonical hs
    refine ⟨_, (s.exec_msixUnmask v).trans (congrArg _ (s.unmask_pending hp)), rfl, ?_, ?_, ?_⟩
    · exact (congrArg (bit · 0) (State.reg_clrBits_other _ _ _ _ (pba_ne_table v.val).symm)).trans (s.bit_clrMask _ hs)
    · refine (congrArg (bit · (v.val % 32)) (State.reg_setReg_same _ _ _ (State.canonical_regs _ hs1))).trans ?_
      exact bit_andNot_same _ (Nat.mod_lt _ (by decide))
    · exact ((s.regsBut_clrBits _ _).mono (by simp)).trans ((State.regsBut_clrBits (s.clrBits (aMsixTable v.val + 12) 1) _ _).mono (by simp))
  case quiet =>
    exact ⟨_, (s.exec_msixUnmask v).trans (congrArg _ (s.unmask_quiet hp)), rfl, s.bit_clrMask _ hs, s.regsBut_clrBits _ _⟩

end Sys2Proof.Machine
end

section
/-!
PROOF. The life of a context (12 R547, R548, R569-R571, R576).
-/
namespace Sys2Proof.Machine

section Lemmas
variable (s : State)

/-! ## Steps that write registers, and nothing else -/

/-- `t` is `s` but for its registers. -/
def OnlyRegs (s t : State) : Prop := t = { s with regs := t.regs }

theorem OnlyRegs.refl : OnlyRegs s s := rfl

theorem OnlyRegs.trans {s t u : State} (hst : OnlyRegs s t) (htu : OnlyRegs t u) : OnlyRegs s u := by
  rw [OnlyRegs, htu, hst]

theorem OnlyRegs.setReg (a : Nat) (v : Word) : OnlyRegs s (s.setReg a v) := rfl

theorem OnlyRegs.foldl {α : Type} (f : State → α → State) (l : List α) (hf : ∀ t x, OnlyRegs t (f t x)) :
    OnlyRegs s (l.foldl f s) :=
  List.foldlRecOn _ _ (motive := fun t => OnlyRegs s t) (OnlyRegs.refl s) (fun t ht x _ => ht.trans (hf t x))

theorem OnlyRegs.ctx {s t : State} (h : OnlyRegs s t) (c : Nat) : t.ctx c = s.ctx c := by
  rw [h]
  rfl

theorem OnlyRegs.tasks {s t : State} (h : OnlyRegs s t) : t.lodge.tasks = s.lodge.tasks := by
  rw [h]

/-! ## Runs of words that are returned to 0 -/

theorem State.zeroWords_onlyRegs (a n : Nat) : OnlyRegs s (s.zeroWords a n) :=
  OnlyRegs.foldl s _ _ (fun t j => OnlyRegs.setReg t (a + 4 * j) 0)

theorem State.reg_zeroWords_other (a n b : Nat) (h : b < a ∨ a + 4 * n ≤ b) : (s.zeroWords a n).reg b = s.reg b :=
  List.foldlRecOn _ _ (motive := fun t : State => t.reg b = s.reg b) rfl (fun t ht j hj => by
    have hlt := List.mem_range.1 hj
    rw [State.reg_setReg_other _ _ _ _ (by omega), ht])

theorem State.canonical_zeroWords (a n : Nat) (hs : s.canonical = true) : (s.zeroWords a n).canonical = true :=
  (s.zeroWords_frame a n).canonical hs

/-! ## STATE of a context -/

theorem State.ctxSt_setCtxSt (c v : Nat) (hs : s.canonical = true) (hv : v < 16) : (s.setCtxSt c v).ctxSt c = v := by
  rw [State.ctxSt, State.setCtxSt, s.reg_setReg_same _ _ (s.canonical_regs hs), fld_setFld_same _ 0 4 v (by decide),
    Nat.mod_eq_of_lt (show v < 2 ^ 4 from hv)]

/-! ## CREATE and CLEAR_FAULT (R548, R569) -/

theorem State.exec_ctxCreate (c : Ctx) : exec (.ctxCreate c) s = .next (s.createCtx c.val) := rfl
theorem State.exec_ctxClearFault (c : Ctx) : exec (.ctxClearFault c) s = .next (s.clearFault c.val) := rfl

theorem State.activateCtx_onlyRegs (c : Nat) : OnlyRegs s (s.activateCtx c) :=
  (OnlyRegs.setReg s _ _).trans (State.zeroWords_onlyRegs _ _ _)

theorem State.reg_activateCtx_other (c b : Nat) (h : b ≠ aCtxState c) (hb : b < aCtxFaultInfo c) :
    (s.activateCtx c).reg b = s.reg b :=
  (State.reg_zeroWords_other _ _ _ _ (.inl hb)).trans (s.reg_setReg_other _ _ _ h)

/-- An activated context is ACTIVE, with no code of a fault. -/
theorem State.state_activateCtx (c : Nat) (hs : s.canonical = true) :
    (s.activateCtx c).ctxSt c = 1 ∧ fld ((s.activateCtx c).reg (aCtxState c)) 16 16 = 0 := by
  have hreg : (s.activateCtx c).reg (aCtxState c) = setFld (setFld (s.reg (aCtxState c)) 0 4 1) 16 16 0 :=
    (State.reg_zeroWords_other _ _ _ _ (.inl (by simp only [aCtxState, aCtxFaultInfo, aCtx]; omega))).trans
      (s.reg_setReg_same _ _ (s.canonical_regs hs))
  rw [State.ctxSt, hreg]
  refine ⟨?_, fld_setFld_same _ 16 16 0 (by decide)⟩
  rw [fld_setFld_other _ 16 16 0 0 4 (by decide) (by decide), fld_setFld_same _ 0 4 1 (by decide)]
  rfl

/-- A context with its counters zeroed and no escalation. -/
def State.cleanCtx (s : State) (c : Nat) : State := (s.zeroWords (aCtx c + 0x200) 16).clrBits (aCtxState c) 0x200

theorem State.createCtx_root {c : Nat} (h0 : s.ctxSt c = 0) (hroot : (s.ctx c).rootWritten = true) :
    s.createCtx c = (s.cleanCtx c).activateCtx c := by
  rw [State.createCtx, if_pos (by simp [h0, hroot])]
  rfl

theorem State.createCtx_none {c : Nat} (h : s.ctxSt c ≠ 0 ∨ (s.ctx c).rootWritten = false) : s.createCtx c = s := by
  rw [State.createCtx, if_neg]
  simp only [Bool.and_eq_true, decide_eq_true_eq, not_and, Bool.not_eq_true]
  exact fun h0 => h.resolve_left (not_not.2 h0)

theorem State.canonical_cleanCtx (c : Nat) (hs : s.canonical = true) : (s.cleanCtx c).canonical = true :=
  (State.clrBits_frame _ _ _).canonical (s.canonical_zeroWords _ _ hs)

theorem State.reg_cleanCtx_other (c b : Nat) (h : b ≠ aCtxState c) (hb : b < aCtx c + 0x200) : (s.cleanCtx c).reg b = s.reg b :=
  (State.reg_clrBits_other _ _ _ _ h).trans (s.reg_zeroWords_other _ _ _ (.inl hb))

theorem State.ctxRoot_create (c : Nat) : ((s.cleanCtx c).activateCtx c).ctxRoot c = s.ctxRoot c := by
  have hreg : ∀ b, aCtxState c < b → b < aCtx c + 0x200 → ((s.cleanCtx c).activateCtx c).reg b = s.reg b := fun b hlo hhi =>
    (State.reg_activateCtx_other _ _ _ (by omega) (by simp only [aCtxFaultInfo]; omega)).trans
      (s.reg_cleanCtx_other _ _ (by omega) hhi)
  rw [State.ctxRoot, State.reg64, hreg (aCtxPtRoot c) (by simp only [aCtxState, aCtxPtRoot]; omega) (by simp only [aCtxPtRoot]; omega),
    hreg (aCtxPtRoot c + 4) (by simp only [aCtxState, aCtxPtRoot]; omega) (by simp only [aCtxPtRoot]; omega)]
  rfl

/-- HEAD of every ring comes to TAIL. -/
def State.headsToTails (s : State) (c : Nat) : State :=
  (List.range 8).foldl (fun t r => t.setRegN (aCtxRing c r + 0xC) (t.ringTail c r)) s

theorem State.headsToTails_onlyRegs (c : Nat) : OnlyRegs s (s.headsToTails c) :=
  OnlyRegs.foldl s _ _ (fun t _ => OnlyRegs.setReg t _ _)

theorem State.canonical_headsToTails (c : Nat) (hs : s.canonical = true) : (s.headsToTails c).canonical = true :=
  List.foldlRecOn _ _ (motive := fun t : State => t.canonical = true) hs (fun t ht _ _ => (t.setRegN_frame _ _).canonical ht)

/-- Each ring's HEAD, once the rings below `n` have been gone through. -/
theorem State.ringHead_headsToTails (c : Nat) {n r : Nat} (hs : s.canonical = true) (hr : r < n) :
    ((List.range n).foldl (fun t r => t.setRegN (aCtxRing c r + 0xC) (t.ringTail c r)) s).ringHead c r = s.ringTail c r := by
  have htail : ∀ m k, ((List.range m).foldl (fun t r => t.setRegN (aCtxRing c r + 0xC) (t.ringTail c r)) s).ringTail c k =
      s.ringTail c k := fun m k =>
    List.foldlRecOn _ _ (motive := fun t : State => t.ringTail c k = s.ringTail c k) rfl (fun t ht j _ =>
      (congrArg BitVec.toNat (t.reg_setRegN_other _ _ _ (by simp only [aCtxRing]; omega))).trans ht)
  have hcanon : ∀ m, ((List.range m).foldl (fun t r => t.setRegN (aCtxRing c r + 0xC) (t.ringTail c r)) s).canonical = true := fun m =>
    List.foldlRecOn _ _ (motive := fun t : State => t.canonical = true) hs (fun t ht _ _ => (t.setRegN_frame _ _).canonical ht)
  induction n with
  | zero => exact absurd hr (Nat.not_lt_zero r)
  | succ n ih =>
    rw [List.range_succ, List.foldl_append, List.foldl_cons, List.foldl_nil]
    obtain hlt | rfl := Nat.lt_succ_iff_lt_or_eq.1 hr
    · refine (congrArg BitVec.toNat (State.reg_setRegN_other _ _ _ _ ?_)).trans (ih hlt)
      simp only [aCtxRing]
      omega
    · exact (State.regN_setRegN_same _ _ _ (hcanon r) (BitVec.isLt _)).trans (htail r r)

theorem State.clearFault_clears {c : Nat} (h2 : s.ctxSt c = 2) (ht : s.ctxTasks c = []) (he : (s.ctx c).entries = []) :
    s.clearFault c = (s.headsToTails c).activateCtx c := by
  rw [State.clearFault, if_pos (by simp [h2, ht, he])]
  rfl

theorem State.clearFault_none {c : Nat} (h : s.ctxSt c ≠ 2 ∨ s.ctxTasks c ≠ [] ∨ (s.ctx c).entries ≠ []) : s.clearFault c = s := by
  rw [State.clearFault, if_neg]
  simp only [Bool.and_eq_true, decide_eq_true_eq, List.isEmpty_iff, not_and]
  rintro ⟨h2, ht⟩ he
  obtain h | h | h := h
  · exact h h2
  · exact h ht
  · exact h he

/-! ## DESTROY (R570, R571) -/

theorem State.exec_ctxDestroy (c : Ctx) : exec (.ctxDestroy c) s = .next (s.destroyCtx c.val) := rfl

/-- The tasks of a context stand in the task slots and their records. -/
theorem State.ctxTasks_congr {s t : State} (c : Nat) (ht : t.lodge.tasks = s.lodge.tasks)
    (hr : ∀ k, t.reg (aTaskOf k + 0x28) = s.reg (aTaskOf k + 0x28)) : t.ctxTasks c = s.ctxTasks c := by
  have htask : ∀ k, t.task k = s.task k := fun k => congrArg (Tab.at_ TaskState.free · k) ht
  have hlive : t.liveTasks = s.liveTasks := by
    simp only [State.liveTasks, State.taskKeys, ht, htask]
  simp only [State.ctxTasks, hlive, State.taskCtx, hr]

/-- The records of tasks lie above the contexts. -/
theorem aTaskOf_high (k : Nat) : 0x390000 ≤ aTaskOf k := by
  simp only [aTaskOf, aTask, aLodge]
  omega

theorem State.destroyCtx_live {c : Nat} (h : s.ctxSt c = 1 ∨ s.ctxSt c = 2) : s.destroyCtx c = (s.unring c).beginDestroy c := by
  rw [State.destroyCtx, if_pos (by simpa using h)]

theorem State.destroyCtx_other {c : Nat} (h : s.ctxSt c = 0 ∨ s.ctxSt c = 3) : s.destroyCtx c = s := by
  rw [State.destroyCtx, if_neg]
  simp only [Bool.or_eq_true, decide_eq_true_eq]
  omega

theorem State.unring_later {c : Nat} (h : (s.ctx c).rangAt ≠ s.now) : s.unring c = s := by
  rw [State.unring]
  exact if_neg h

/-- A context whose destruction begins. -/
def State.destroyBegun (s : State) (c : Nat) : State :=
  (s.setCtxSt c 3).setCtx c { (s.setCtxSt c 3).ctx c with entries := [], destroyAt := some s.now }

theorem State.beginDestroy_idle {c : Nat} (hc : c < 64) (h : s.ctxTasks c = []) : s.beginDestroy c = s.destroyBegun c := by
  have htasks : (s.destroyBegun c).ctxTasks c = [] := by
    rw [← h]
    refine State.ctxTasks_congr c rfl (fun k => s.reg_setReg_other _ _ _ ?_)
    have := aTaskOf_high k
    simp only [aCtxState, aCtx]
    omega
  rw [State.beginDestroy]
  change List.foldl _ (s.destroyBegun c) ((s.destroyBegun c).ctxTasks c) = _
  rw [htasks]
  rfl

theorem State.ctx_destroyBegun (c : Nat) (hs : s.canonical = true) :
    (s.destroyBegun c).ctx c = { s.ctx c with entries := [], destroyAt := some s.now } :=
  State.ctx_setCtx_same _ _ _ (State.canonical_ctx _ ((s.setReg_frame _ _).canonical hs))

theorem State.reg_destroyBegun_other {c b : Nat} (h : b ≠ aCtxState c) : (s.destroyBegun c).reg b = s.reg b :=
  s.reg_setReg_other _ _ _ h

theorem State.ctxSt_destroyBegun (c : Nat) (hs : s.canonical = true) : (s.destroyBegun c).ctxSt c = 3 :=
  s.ctxSt_setCtxSt c 3 hs (by decide)

/-- A ring once the doorbell of this very ck, which found TAIL at `v`, has been rejected after all. -/
def State.unringOne (s : State) (c r : Nat) (v : Word) : State :=
  ((if ringUsed (s.ringHead c r) v.toNat ≤ ringUsed (s.ringTail c r) v.toNat then s.setReg (aCtxRing c r + 0xC) v
    else s).setReg (aCtxRing c r + 0x10) v).dbReject c

theorem State.unring_one {c r : Nat} {v : Word} (hnow : (s.ctx c).rangAt = s.now) (hr : (s.ctx c).rang = [(r, v)]) :
    s.unring c = s.unringOne c r v := by
  rw [State.unring]
  refine (if_pos hnow).trans ?_
  rw [hr]
  rfl

theorem State.regsBut_unringOne (c r : Nat) (v : Word) :
    RegsBut s (s.unringOne c r v) [aCtxRing c r + 0xC, aCtxRing c r + 0x10, aCtxDbReject c] := by
  have hhead : RegsBut s (if ringUsed (s.ringHead c r) v.toNat ≤ ringUsed (s.ringTail c r) v.toNat then
      s.setReg (aCtxRing c r + 0xC) v else s) [aCtxRing c r + 0xC] := by
    split
    · exact s.regsBut_setReg _ _
    · exact fun _ _ => rfl
  exact (hhead.mono (by simp)).trans (((State.regsBut_setReg _ _ _).mono (by simp)).trans
    ((State.regsBut_dbReject _ c).mono (by simp)))

theorem State.canonical_unringOne (c r : Nat) (v : Word) (hs : s.canonical = true) : (s.unringOne c r v).canonical = true := by
  unfold State.unringOne
  refine (State.count_frame _ _ _).canonical ((State.setReg_frame _ _ _).canonical ?_)
  split
  · exact (s.setReg_frame _ _).canonical hs
  · exact hs

theorem State.tasks_unringOne (c r : Nat) (v : Word) : (s.unringOne c r v).lodge.tasks = s.lodge.tasks := by
  unfold State.unringOne
  split <;> rfl

theorem State.ringTail_unringOne (c r : Nat) (v : Word) (hs : s.canonical = true) :
    (s.unringOne c r v).ringTail c r = v.toNat := by
  have hcanon : ∀ u : State, u.canonical = true → ((u.setReg (aCtxRing c r + 0x10) v).dbReject c).ringTail c r = v.toNat := fun u hu =>
    congrArg BitVec.toNat ((State.regsBut_dbReject _ c _ (by simp only [aCtxRing, aCtxDbReject, List.mem_singleton]; omega)).trans
      (u.reg_setReg_same _ _ (u.canonical_regs hu)))
  unfold State.unringOne
  refine hcanon _ ?_
  split
  · exact (s.setReg_frame _ _).canonical hs
  · exact hs

theorem State.dbReject_unringOne (c r : Nat) (v : Word) (hs : s.canonical = true) :
    (s.unringOne c r v).reg (aCtxDbReject c) = satAdd (s.reg (aCtxDbReject c)) 1 := by
  have hne : aCtxDbReject c ≠ aCtxRing c r + 0xC ∧ aCtxDbReject c ≠ aCtxRing c r + 0x10 := by
    simp only [aCtxRing, aCtxDbReject]
    omega
  unfold State.unringOne
  rw [State.reg_dbReject_same]
  · rw [State.reg_setReg_other _ _ _ _ hne.2]
    split
    · rw [s.reg_setReg_other _ _ _ hne.1]
    · rfl
  · refine (State.setReg_frame _ _ _).canonical ?_
    split
    · exact (s.setReg_frame _ _).canonical hs
    · exact hs

theorem State.ctxTasks_unringOne {c r : Nat} (v : Word) (hc : c < 64) (hr : r < 8) : (s.unringOne c r v).ctxTasks c = s.ctxTasks c := by
  refine State.ctxTasks_congr c (s.tasks_unringOne c r v) (fun k => s.regsBut_unringOne c r v _ ?_)
  have := aTaskOf_high k
  simp only [aCtxRing, aCtxDbReject, aCtx, List.mem_cons, List.not_mem_nil, or_false, not_or]
  omega

/-! ## The end of a destruction (R571) -/

theorem State.clearCtx_free (c : Nat) (hs : s.canonical = true) : (s.clearCtx c).ctxSt c = 0 ∧
    ((s.clearCtx c).ctx c).entries = [] ∧ ((s.clearCtx c).ctx c).destroyAt = none := by
  unfold State.clearCtx
  extract_lets words s1
  have h1 : s1.canonical = true :=
    List.foldlRecOn _ _ (motive := fun t : State => t.canonical = true) hs (fun t ht _ _ => (t.setReg_frame _ _).canonical ht)
  clear_value s1
  have hctx := State.ctx_setCtx_same (s1.setCtxSt c 0) c { s1.ctx c with entries := [], destroyAt := none, rang := [] }
    (State.canonical_ctx _ ((s1.setReg_frame _ _).canonical h1))
  exact ⟨s1.ctxSt_setCtxSt c 0 h1 (by decide), (congrArg CtxState.entries hctx :), (congrArg CtxState.destroyAt hctx :)⟩

/-- Every task of the context has ended, and it is being destroyed. -/
theorem State.exec_ctxDestroyComplete (c : Ctx) : exec (.ctxDestroyComplete c) s =
    .next (if s.destroying c.val && (s.ctxTasks c.val).isEmpty then s.endDestroy c.val else s) := rfl

theorem State.exec_ctxDestroyEscalated_begun {c : Ctx} {t0 : Nat} (h : (s.ctx c.val).destroyAt = some t0) :
    exec (.ctxDestroyEscalated c) s =
      .next (if s.destroying c.val && decide (t0 + msCk 4 ≤ s.now) then s.escalate c.val else s) := by
  change execCtxDestroyEscalated c s = _
  rw [execCtxDestroyEscalated, h]

theorem State.exec_ctxDestroyEscalated_none {c : Ctx} (h : (s.ctx c.val).destroyAt = none) :
    exec (.ctxDestroyEscalated c) s = .next (s.escalateRing c.val) := by
  change execCtxDestroyEscalated c s = _
  rw [execCtxDestroyEscalated, h]

theorem State.escalateRing_none {c : Nat} (h : s.lateTasks c = []) : s.escalateRing c = s := by
  rw [State.escalateRing, h]

/-! ## TLB_BUSY and ownership (R543, R547) -/

theorem State.exec_ctxTlbInv (c : Ctx) : exec (.ctxTlbInv c) s = .next (s.setBits (aCtxState c.val) 0x100) := rfl
theorem State.exec_tlbInvComplete (c : Ctx) : exec (.tlbInvComplete c) s = .next (s.clrBits (aCtxState c.val) 0x100) := rfl
theorem State.exec_ctxOwnWrite (c : Ctx) (q : Bool) (w : Fin 16) (v : Word) :
    exec (.ctxOwnWrite c q w v) s = .next (s.writeOwn c.val q w.val v) := rfl

/-- The ownership word of a context that a write names. -/
def ownReg (c : Nat) (q : Bool) (w : Nat) : Nat := if q then aCtxPqOwn c w else aCtxSigOwn c w

/-- The bits that a write may not set. -/
def State.takenBits (s : State) (c : Nat) (q : Bool) (w : Nat) (v : Word) : List Nat :=
  (List.range 32).filter (fun j => bit v j && !(bit (s.reg (ownReg c q w)) j) && !(s.mayOwn c q (32 * w + j)))

def orBits (l : List Nat) : Word := l.foldl (fun m j => m ||| (1#32 <<< j)) 0

theorem State.writeOwn_eq (c : Nat) (q : Bool) (w : Nat) (v : Word) : s.writeOwn c q w v =
    if (s.takenBits c q w v).isEmpty then s.setReg (ownReg c q w) (v &&& ~~~orBits (s.takenBits c q w v))
    else (s.setReg (ownReg c q w) (v &&& ~~~orBits (s.takenBits c q w v))).setBits (aCtxState c) 0x400 := rfl

theorem bit_one_shiftLeft {i : Nat} (h : i < 32) : bit (1#32 <<< i) i = true := by
  simp [bit_get, h]

/-- The mask of a list has the bit of each of its members. -/
theorem bit_orBits {l : List Nat} {j : Nat} (hj : j ∈ l) (hlt : j < 32) : bit (orBits l) j = true := by
  have hgrow : ∀ (l : List Nat) (m : Word), bit m j = true ∨ j ∈ l → bit (l.foldl (fun m j => m ||| (1#32 <<< j)) m) j = true := by
    intro l
    induction l with
    | nil => exact fun m h => h.resolve_right List.not_mem_nil
    | cons x xs ih =>
      intro m h
      refine ih _ ?_
      rw [bit_or]
      obtain h | h := h
      · exact .inl (by rw [h, Bool.true_or])
      · obtain rfl | h := List.mem_cons.1 h
        · exact .inl (by rw [bit_one_shiftLeft hlt, Bool.or_true])
        · exact .inr h
  exact hgrow l 0 (.inr hj)

theorem ownReg_ne_state (c : Nat) (q : Bool) (w : Nat) : ownReg c q w ≠ aCtxState c := by
  unfold ownReg
  split <;> simp only [aCtxPqOwn, aCtxSigOwn, aCtxState] <;> omega

end Lemmas

/-- Settles O41, by the registers of the context's block and its entry in the table of contexts. -/
theorem contextLifecycle : Obligations.ContextLifecycle := by
  unfold Obligations.ContextLifecycle
  refine ⟨fun c s hs h0 hroot => ?create, fun c s h => congrArg Host.Outcome.next (s.createCtx_none h),
    fun c s hs hst ht hrang => ?destroy, fun c r v s hs hst ht hnow hrang => ?rung,
    fun c s h => congrArg Host.Outcome.next (s.destroyCtx_other h), fun c s hd ht => ?completes, fun c s hs => s.clearCtx_free c.val hs,
    fun c s h => ?incomplete, fun c t0 s hat => ⟨fun hd hdue => ?escalates, fun hearly => ?early⟩, fun c s hat hlate => ?none,
    fun c s hs h2 ht he => ?clear, fun c s h => congrArg Host.Outcome.next (s.clearFault_none h), fun c s hs => ?tlb,
    fun c q w v s hs hmay => ?owns, fun c q w v j s hs hj hv hold hmay => ?taken⟩
  case create =>
    obtain ⟨hact, -⟩ := (s.cleanCtx c.val).state_activateCtx c.val (s.canonical_cleanCtx c.val hs)
    have honly : OnlyRegs s (s.cleanCtx c.val) := (s.zeroWords_onlyRegs _ _).trans (OnlyRegs.setReg _ _ _)
    exact ⟨_, (s.exec_ctxCreate c).trans (congrArg _ (s.createCtx_root h0 hroot)), honly.trans (State.activateCtx_onlyRegs _ _), hact,
      s.ctxRoot_create c.val⟩
  case destroy =>
    have hgo : s.destroyCtx c.val = s.destroyBegun c.val := by
      rw [s.destroyCtx_live hst, s.unring_later hrang, s.beginDestroy_idle c.isLt ht]
    have hctx := s.ctx_destroyBegun c.val hs
    exact ⟨_, (s.exec_ctxDestroy c).trans (congrArg _ hgo), rfl, s.ctxSt_destroyBegun c.val hs,
      (congrArg CtxState.entries hctx :), (congrArg CtxState.destroyAt hctx :), s.regsBut_setReg _ _⟩
  case rung =>
    have hcanon := s.canonical_unringOne c.val r.val v hs
    have htasks : (s.unringOne c.val r.val v).ctxTasks c.val = [] := (s.ctxTasks_unringOne v c.isLt r.isLt).trans ht
    have hgo : s.destroyCtx c.val = (s.unringOne c.val r.val v).destroyBegun c.val := by
      rw [s.destroyCtx_live hst, s.unring_one hnow hrang, State.beginDestroy_idle _ c.isLt htasks]
    refine ⟨_, (s.exec_ctxDestroy c).trans (congrArg _ hgo), State.ctxSt_destroyBegun _ c.val hcanon, ?_, ?_⟩
    · refine (congrArg BitVec.toNat (State.reg_destroyBegun_other _ ?_)).trans (s.ringTail_unringOne c.val r.val v hs)
      simp only [aCtxRing, aCtxState]
      omega
    · refine (State.reg_destroyBegun_other _ ?_).trans (s.dbReject_unringOne c.val r.val v hs)
      simp only [aCtxDbReject, aCtxState]
      omega
  case completes => rw [s.exec_ctxDestroyComplete, if_pos (by simp [hd, ht])]
  case incomplete =>
    rw [s.exec_ctxDestroyComplete, if_neg]
    simp only [Bool.and_eq_true, List.isEmpty_iff, not_and]
    exact fun hd => h.resolve_left (by rw [hd]; decide)
  case escalates => rw [s.exec_ctxDestroyEscalated_begun hat, if_pos (by simp [hd, hdue])]
  case early => rw [s.exec_ctxDestroyEscalated_begun hat, if_neg (by simp [Nat.not_le.2 hearly])]
  case none => rw [s.exec_ctxDestroyEscalated_none hat, s.escalateRing_none hlate]
  case clear =>
    obtain ⟨hact, hcode⟩ := (s.headsToTails c.val).state_activateCtx c.val (s.canonical_headsToTails c.val hs)
    refine ⟨_, (s.exec_ctxClearFault c).trans (congrArg _ (s.clearFault_clears h2 ht he)),
      (s.headsToTails_onlyRegs c.val).trans (State.activateCtx_onlyRegs _ _), hact, hcode, fun r => ?_⟩
    have hr := r.isLt
    refine (congrArg BitVec.toNat (State.reg_activateCtx_other _ _ _ ?_ ?_)).trans (s.ringHead_headsToTails c.val hs r.isLt)
    · simp only [aCtxRing, aCtxState]
      omega
    · simp only [aCtxRing, aCtxFaultInfo]
      omega
  case tlb =>
    refine ⟨⟨_, s.exec_ctxTlbInv c, rfl, ?_, s.regsBut_setBits _ _⟩, ⟨_, s.exec_tlbInvComplete c, rfl, ?_, s.regsBut_clrBits _ _⟩⟩
    · rw [s.reg_setBits_same _ _ (s.canonical_regs hs), bit_or]
      simp [bit_get]
    · rw [State.clrBits, s.reg_setReg_same _ _ (s.canonical_regs hs), bit_and]
      simp [bit_get]
  case owns =>
    have hnone : s.takenBits c.val q w.val v = [] := by
      rw [State.takenBits, List.filter_eq_nil_iff]
      intro j hj htaken
      simp only [Bool.and_eq_true, Bool.not_eq_true'] at htaken
      obtain ⟨⟨hset, hold⟩, hnot⟩ := htaken
      exact Bool.false_ne_true (hnot.symm.trans (hmay j (List.mem_range.1 hj) hset hold))
    have hgo : s.writeOwn c.val q w.val v = s.setReg (ownReg c.val q w.val) v := by
      have hones : v &&& 0xFFFFFFFF#32 = v := BitVec.and_allOnes
      rw [s.writeOwn_eq, hnone]
      simp [orBits, hones]
    exact ⟨_, (s.exec_ctxOwnWrite c q w v).trans (congrArg _ hgo), rfl, s.reg_setReg_same _ _ (s.canonical_regs hs),
      s.regsBut_setReg _ _⟩
  case taken =>
    have hmem : j ∈ s.takenBits c.val q w.val v := by
      refine List.mem_filter.2 ⟨List.mem_range.2 hj, ?_⟩
      rw [hv, hmay, show bit (s.reg (ownReg c.val q w.val)) j = false from hold]
      rfl
    have hgo : s.writeOwn c.val q w.val v =
        (s.setReg (ownReg c.val q w.val) (v &&& ~~~orBits (s.takenBits c.val q w.val v))).setBits (aCtxState c.val) 0x400 := by
      rw [s.writeOwn_eq, if_neg]
      rw [List.isEmpty_iff]
      exact List.ne_nil_of_mem hmem
    have hs1 : (s.setReg (ownReg c.val q w.val) (v &&& ~~~orBits (s.takenBits c.val q w.val v))).canonical = true :=
      (s.setReg_frame _ _).canonical hs
    refine ⟨_, (s.exec_ctxOwnWrite c q w v).trans (congrArg _ hgo), rfl, ?_, ?_, ?_⟩
    · refine (congrArg (bit · j) ((State.reg_setBits_other _ _ _ _ (ownReg_ne_state c.val q w.val)).trans
        (s.reg_setReg_same _ _ (s.canonical_regs hs)))).trans ?_
      rw [bit_and, bit_not _ _ hj, bit_orBits hmem hj, Bool.not_true, Bool.and_false]
    · rw [State.reg_setBits_same _ _ _ (State.canonical_regs _ hs1), bit_or]
      simp [bit_get]
    · exact ((s.regsBut_setReg (ownReg c.val q w.val) _).mono (by simp [ownReg])).trans ((State.regsBut_setBits _ _ _).mono (by simp))

end Sys2Proof.Machine
end

section
/-!
PROOF. Submission rings: entries fetched, started, waiting and completed (12 R549-R556, R571).
-/
namespace Sys2Proof.Machine

section Lemmas
variable (s : State)

/-! ## Fetch (R550, R553) -/

theorem State.exec_ringEntryFetch (c : Ctx) (r : Ring) :
    exec (.ringEntryFetch c r) s = .next (s.orWait (s.fetchEntry c.val r.val)) := rfl

theorem State.fetchEntry_idle {c r : Nat} (h : s.ctxSt c ≠ 1 ∨ s.ringEn c r = false ∨ s.ringHead c r = s.ringTail c r ∨
    s.cqFull c r = true) : s.fetchEntry c r = s := by
  rw [State.fetchEntry, if_pos]
  simp only [ne_eq, Bool.or_eq_true, decide_eq_true_eq, Bool.not_eq_true']
  tauto

/-- Entry `i` of a ring, read as `l`, joins the context's entries and HEAD moves on. -/
def State.entryFetched (s : State) (c r i : Nat) (l : Line) : State :=
  let s1 := s.setRegN (aCtxRing c r + 0xC) ((i + 1) % 2 ^ 32)
  let bad := !(s1.entryOk c r l)
  let e : REntry := ⟨r, BitVec.ofNat 32 i, l, if bad then .ready else .fetched, if bad then 6 else 0,
    if bad then 0x0705 else 0, 0, 0⟩
  let s2 := s1.setCtx c { s1.ctx c with entries := (s1.ctx c).entries ++ [e] }
  if bad then s2.emit { err 0x0705 with ctx := c, loc := ringLoc, d0 := r, d1 := i } else s2

/-- A task entry waits for a slot of its hub. -/
def State.awaitsSlot (s : State) (hubs c r : Nat) (l : Line) : Bool :=
  (eOp l = 1 || eOp l = 6) && s.entryOk c r l && eHub l < hubs && (s.freeSlot (eHub l)).isNone

section Reads
variable {c r : Nat} (hst : s.ctxSt c = 1) (hen : s.ringEn c r = true) (hne : s.ringHead c r ≠ s.ringTail c r)
  (hroom : s.cqFull c r = false)
include hst hen hne hroom

theorem State.fetchEntry_some {bs : List Byte} {g : State}
    (hread : s.readVirt 0 c (s.ringVa c r + 64 * (s.ringHead c r % s.ringSize c r)) 64 = (g, some bs)) :
    s.fetchEntry c r = if g.awaitsSlot s.ident.hubs c r (lineOf bs) then g else g.entryFetched c r (s.ringHead c r) (lineOf bs) := by
  rw [State.fetchEntry, if_neg (by simp [hst, hen, hne, hroom])]
  dsimp only
  rw [hread]
  rfl

theorem State.fetchEntry_none {g : State}
    (hread : s.readVirt 0 c (s.ringVa c r + 64 * (s.ringHead c r % s.ringSize c r)) 64 = (g, none)) :
    s.fetchEntry c r = g.ringFault c r (s.ringVa c r + 64 * (s.ringHead c r % s.ringSize c r)) := by
  rw [State.fetchEntry, if_neg (by simp [hst, hen, hne, hroom])]
  dsimp only
  rw [hread]

end Reads

theorem State.ownsPq_setReg {c q a : Nat} (v : Word) (ha : aCtx c + 0x100 ≤ a) : (s.setReg a v).ownsPq c q = s.ownsPq c q := by
  by_cases hq : q < 512
  · rw [State.ownsPq, State.ownsPq, s.reg_setReg_other _ _ _ (by simp only [aCtxPqOwn]; omega)]
  · rw [State.ownsPq, State.ownsPq, decide_eq_false hq, Bool.false_and, Bool.false_and]

theorem State.ownsSig_setReg {c o a : Nat} (v : Word) (ha : aCtx c + 0x100 ≤ a) : (s.setReg a v).ownsSig c o = s.ownsSig c o := by
  by_cases ho : o < 512
  · rw [State.ownsSig, State.ownsSig, s.reg_setReg_other _ _ _ (by simp only [aCtxSigOwn]; omega)]
  · rw [State.ownsSig, State.ownsSig, decide_eq_false ho, Bool.false_and, Bool.false_and]

/-- Whether an entry is valid does not depend on HEAD. -/
theorem State.entryOk_setHead (c r v : Nat) (l : Line) : (s.setRegN (aCtxRing c r + 0xC) v).entryOk c r l = s.entryOk c r l := by
  have hcq : (s.setRegN (aCtxRing c r + 0xC) v).ringCq c r = s.ringCq c r := by
    have hcfg : (s.setRegN (aCtxRing c r + 0xC) v).ringCfg c r = s.ringCfg c r := s.reg_setRegN_other _ _ _ (by omega)
    rw [State.ringCq, State.ringCq, hcfg]
  have hpq : ∀ q, (s.setRegN (aCtxRing c r + 0xC) v).ownsPq c q = s.ownsPq c q := fun q =>
    s.ownsPq_setReg _ (by simp only [aCtxRing]; omega)
  have hsig : ∀ o, (s.setRegN (aCtxRing c r + 0xC) v).ownsSig c o = s.ownsSig c o := fun o =>
    s.ownsSig_setReg _ (by simp only [aCtxRing]; omega)
  simp only [State.entryOk, State.waitsOk, hcq, hpq, hsig]

/-- An entry of a ring as its fetch leaves it. -/
def REntry.fetchedOf (r i : Nat) (l : Line) : REntry := ⟨r, BitVec.ofNat 32 i, l, .fetched, 0, 0, 0, 0⟩
/-- An entry that is not valid is ready at once (R553). -/
def REntry.invalidOf (r i : Nat) (l : Line) : REntry := ⟨r, BitVec.ofNat 32 i, l, .ready, 6, 0x0705, 0, 0⟩

/-- HEAD moved on, and an entry more. -/
def State.withEntry (s : State) (c r i : Nat) (e : REntry) : State :=
  let s1 := s.setRegN (aCtxRing c r + 0xC) ((i + 1) % 2 ^ 32)
  s1.setCtx c { s1.ctx c with entries := (s1.ctx c).entries ++ [e] }

theorem State.entryFetched_valid {c r i : Nat} {l : Line} (h : s.entryOk c r l = true) :
    s.entryFetched c r i l = s.withEntry c r i (REntry.fetchedOf r i l) := by
  rw [State.entryFetched, s.entryOk_setHead, h]
  rfl

theorem State.entryFetched_invalid {c r i : Nat} {l : Line} (h : s.entryOk c r l = false) :
    s.entryFetched c r i l = (s.withEntry c r i (REntry.invalidOf r i l)).emit
      { err 0x0705 with ctx := c, loc := ringLoc, d0 := r, d1 := i } := by
  rw [State.entryFetched, s.entryOk_setHead, h]
  rfl

theorem State.entries_withEntry (c r i : Nat) (e : REntry) (hs : s.canonical = true) :
    ((s.withEntry c r i e).ctx c).entries = (s.ctx c).entries ++ [e] := by
  have h := State.ctx_setCtx_same (s.setRegN (aCtxRing c r + 0xC) ((i + 1) % 2 ^ 32)) c
    { s.ctx c with entries := (s.ctx c).entries ++ [e] } (State.canonical_ctx _ ((s.setRegN_frame _ _).canonical hs))
  exact (congrArg CtxState.entries h :)

theorem State.ringHead_withEntry (c r i : Nat) (e : REntry) (hs : s.canonical = true) :
    (s.withEntry c r i e).ringHead c r = (i + 1) % 2 ^ 32 :=
  s.regN_setRegN_same (aCtxRing c r + 0xC) _ hs (Nat.mod_lt _ (by decide))

theorem State.stalled_congr {s t : State} (h : t.hdg = s.hdg) : t.stalled = s.stalled := by
  rw [State.stalled, State.stalled, State.hedge, State.hedge, State.hedge, State.hedge, h]

/-! ## Start (R554, R555) -/

theorem State.ringStart_none {c r : Nat} (op : Nat) (f : State → REntry → State) (h : s.nextEntry c r = none) :
    s.ringStart c r op f = s := by
  rw [State.ringStart, h]

theorem State.ringStart_next {c r op : Nat} {e : REntry} (f : State → REntry → State) (h : s.nextEntry c r = some e)
    (hop : eOp e.words = op) : s.ringStart c r op f = f s e := by
  rw [State.ringStart, h]
  exact if_pos hop

theorem State.waitSig_takes {c : Nat} {e : REntry} (hen : s.sigEn (eObject e.words) = true)
    (hfirst : s.sigWaiters (eObject e.words) = []) (hspare : s.spareForRings (eObject e.words) ≠ 0) :
    s.waitSig c e = ((s.sigTake (eObject e.words)).1).entryDone c e := by
  rw [State.waitSig]
  exact if_pos (by simp [hen, hfirst, hspare])

theorem State.waitSig_waits {c : Nat} {e : REntry} (h : s.sigEn (eObject e.words) = false ∨
    s.sigWaiters (eObject e.words) ≠ [] ∨ s.spareForRings (eObject e.words) = 0) :
    s.waitSig c e = s.updEntry c e.ring e.index (fun x => { x with phase := .waiting }) := by
  rw [State.waitSig]
  refine if_neg ?_
  simp only [Bool.and_eq_true, List.isEmpty_iff, bne_iff_ne, ne_eq]
  rintro ⟨⟨hen, hfirst⟩, hspare⟩
  obtain h | h | h := h
  · exact Bool.false_ne_true (h.symm.trans hen)
  · exact h hfirst
  · exact hspare h

theorem State.grantRing_first {o c : Nat} {e : REntry} {rest : List (Nat × REntry)} (h : s.sigWaiters o = (c, e) :: rest)
    (hen : s.sigEn o = true) (hspare : s.spareForRings o ≠ 0) :
    s.grantRing o = ((s.sigTake o).1).updEntry c e.ring e.index (fun x => x.done 4 0) := by
  rw [State.grantRing, h]
  exact if_pos (by simp [hen, hspare])

theorem State.grantRing_none {o : Nat} (h : s.sigWaiters o = []) : s.grantRing o = s := by
  rw [State.grantRing, h]

/-! ## The open fence of a ring (R555) -/

theorem State.ringEntries_one {c r : Nat} {e : REntry} (h : (s.ctx c).entries = [e]) (hr : e.ring = r) :
    s.ringEntries c r = [e] := by
  rw [State.ringEntries, h, List.filter_cons_of_pos (by simp [hr]), List.filter_nil]

theorem State.exec_fencePoll_open {c : Ctx} {r : Ring} {e : REntry} (h : (s.ctx c.val).entries = [e]) (hr : e.ring = r.val)
    (hwait : e.phase = .waiting) (hop : eOp e.words = 4) : exec (.fencePoll c r) s = .next (s.orWait (s.pollFence c.val e)) := by
  change execFencePoll c r s = _
  rw [execFencePoll, s.ringEntries_one h hr, List.find?_cons_of_pos (by simp [hwait, hop])]

theorem State.exec_fencePoll_none {c : Ctx} (r : Ring) (h : (s.ctx c.val).entries = []) : exec (.fencePoll c r) s = .next s := by
  change execFencePoll c r s = _
  rw [execFencePoll, State.ringEntries, h, List.filter_nil, List.find?_nil]

theorem State.pollFence_read {c : Nat} {e : REntry} {bs : List Byte} {g : State}
    (h : s.readVirt 0 c (eField e.words 8 8) 8 = (g, some bs)) : s.pollFence c e =
      if eField e.words 0x10 8 ≤ leNat bs then g.updEntry c e.ring e.index (fun x => x.done 4 0)
      else g.updEntry c e.ring e.index (fun x => { x with phase := .waiting }) := by
  rw [State.pollFence, h]

/-! ## Completion (R556) -/

theorem State.exec_entryComplete (c : Ctx) (r : Ring) (i : Word) :
    exec (.entryComplete c r i) s = .next (s.completeEntry c.val r.val i) := rfl

/-- An entry leaves the context's entries, and is counted. -/
def State.dropEntry (s : State) (c r : Nat) (i : Word) : State :=
  (s.setCtx c { s.ctx c with entries := (s.ctx c).entries.filter (fun d => !(d.ring == r && d.index == i)) }).count
    (aCtxEntriesDone c) 1

theorem State.entries_dropEntry {c r : Nat} {e : REntry} (hs : s.canonical = true) (h : (s.ctx c).entries = [e])
    (hr : e.ring = r) : ((s.dropEntry c r e.index).ctx c).entries = [] := by
  have hctx := s.ctx_setCtx_same c
    { s.ctx c with entries := (s.ctx c).entries.filter (fun d => !(d.ring == r && d.index == e.index)) } (s.canonical_ctx hs)
  refine (congrArg CtxState.entries hctx).trans ?_
  change (s.ctx c).entries.filter _ = []
  rw [h, List.filter_cons_of_neg (by simp [hr]), List.filter_nil]

section Ready
variable {c r : Nat} {e : REntry} (h : (s.ctx c).entries = [e]) (hr : e.ring = r) (hready : e.phase = .ready)
include h hr hready

theorem State.completeEntry_quiet (hn : eNotify e.words = false) : s.completeEntry c r e.index = s.dropEntry c r e.index := by
  rw [State.completeEntry, s.ringEntries_one h hr, List.find?_cons_of_pos (by simp [hready])]
  dsimp only
  rw [hn]
  rfl

/-- The completion item of an entry, as it is offered to its queue. -/
theorem State.completeEntry_notifies {q : Nat} {o : Offer} (hn : eNotify e.words = true) (hq : s.ringCq c r = some q)
    (hown : s.ownsPq c q = true) (ho : o = ⟨s.completionItem c e, 0, true, true, s.free.setWidth 8, ringWriterSrc⟩) :
    s.completeEntry c r e.index = if (offerStep (s.offerCfg q false) (s.pq q) o).res = .held then s
      else (s.useFree.settle q o (offerStep (s.offerCfg q false) (s.pq q) o)).dropEntry c r e.index := by
  subst ho
  rw [State.completeEntry, s.ringEntries_one h hr, List.find?_cons_of_pos (by simp [hready])]
  dsimp only
  rw [hn, if_pos rfl, hq]
  dsimp only
  rw [hown]
  rfl

end Ready

/-! ## A ring that is disabled (R571) -/

theorem State.exec_ringDisable (c : Ctx) (r : Ring) : exec (.ringDisable c r) s = .next (s.disableRing c.val r.val) := rfl

theorem State.disableRing_quiet {c r : Nat} (hen : s.ringEn c r = true) (he : (s.ctx c).entries = []) (ht : s.ctxTasks c = []) :
    s.disableRing c r = s.clrBits (aCtxRing c r + 8) 0x80000000 := by
  have hent : ((s.clrBits (aCtxRing c r + 8) 0x80000000).ctx c).entries = [] := he
  rw [State.disableRing, if_pos hen, ht, List.filter_nil, List.foldl_nil, State.cancelWhere, hent, List.filter_nil, List.foldl_nil]

theorem State.disableRing_off {c r : Nat} (h : s.ringEn c r = false) : s.disableRing c r = s := by
  rw [State.disableRing, if_neg (ne_true_of_eq_false h)]

end Lemmas

/-- Settles O42, by the state of the ring and of its entries. -/
theorem rings : Obligations.Rings := by
  unfold Obligations.Rings
  refine ⟨fun c r s h hst => ?idle, fun c r bs s g hst hen hne hroom hread hg hgo hok hslot => ?fetched,
    fun c r bs s g hst hen hne hroom hread hg hgo hok => ?invalid, fun c r s g hst hen hne hroom hread => ?fault,
    fun c r s h hst => ?noEntry, fun c r e s h => ?starts, fun c r e s h hop => ⟨fun ⟨hen, hfirst, hspare⟩ => ?takes, fun hw => ?waits⟩,
    fun o c e rest s h hen hspare => congrArg Host.Outcome.next (s.grantRing_first h hen hspare),
    fun o s h => congrArg Host.Outcome.next (s.grantRing_none h),
    fun c r e bs s g h hr hwait hop hread => ⟨fun hle => ?met, fun hlt => ?open_⟩,
    fun c r s h => s.exec_fencePoll_none r h, fun c r e s hs h hr hready hn => ?quiet,
    fun c r e q o s hs h hr hready hn hq hown ho => ⟨fun hheld => ?held, fun hacc => ?accepted⟩, fun c r s hs hen he ht => ?disable,
    fun c r s h => congrArg Host.Outcome.next (s.disableRing_off h)⟩
  case idle => rw [s.exec_ringEntryFetch, s.fetchEntry_idle h, s.orWait_done hst]
  case fetched =>
    have hno : ¬ g.awaitsSlot s.ident.hubs c.val r.val (lineOf bs) = true := by
      intro hwait
      simp only [State.awaitsSlot, Bool.and_eq_true, Bool.or_eq_true, decide_eq_true_eq, Option.isNone_iff_eq_none] at hwait
      obtain ⟨⟨⟨hop, -⟩, hhub⟩, hnone⟩ := hwait
      have hsome := hslot hop hhub
      rw [hnone] at hsome
      exact Bool.false_ne_true hsome
    have hfetch : s.fetchEntry c.val r.val = g.withEntry c.val r.val (s.ringHead c.val r.val)
        (REntry.fetchedOf r.val (s.ringHead c.val r.val) (lineOf bs)) := by
      rw [s.fetchEntry_some hst hen hne hroom hread, if_neg hno, g.entryFetched_valid hok]
    have hwait : (s.fetchEntry c.val r.val).stalled = none := by
      rw [hfetch]
      exact hgo
    refine ⟨_, (s.exec_ringEntryFetch c r).trans (congrArg _ ((s.orWait_done hwait).trans hfetch)), rfl,
      g.ringHead_withEntry c.val r.val _ _ hg, g.entries_withEntry c.val r.val _ _ hg, g.regsBut_setRegN _ _⟩
  case invalid =>
    have hno : ¬ g.awaitsSlot s.ident.hubs c.val r.val (lineOf bs) = true := by simp [State.awaitsSlot, hok]
    have hfetch : s.fetchEntry c.val r.val = (g.withEntry c.val r.val (s.ringHead c.val r.val)
        (REntry.invalidOf r.val (s.ringHead c.val r.val) (lineOf bs))).emit
          { err 0x0705 with ctx := c.val, loc := ringLoc, d0 := r.val, d1 := s.ringHead c.val r.val } := by
      rw [s.fetchEntry_some hst hen hne hroom hread, if_neg hno, g.entryFetched_invalid hok]
    generalize ({ err 0x0705 with ctx := c.val, loc := ringLoc, d0 := r.val, d1 := s.ringHead c.val r.val } : ErrInfo) = x at hfetch
    have hframe := State.emit_frame (g.withEntry c.val r.val (s.ringHead c.val r.val)
      (REntry.invalidOf r.val (s.ringHead c.val r.val) (lineOf bs))) x
    have hwait : (s.fetchEntry c.val r.val).stalled = none := by
      rw [hfetch]
      exact (State.stalled_congr (hframe.hdg rfl)).trans hgo
    refine ⟨_, (s.exec_ringEntryFetch c r).trans (congrArg _ ((s.orWait_done hwait).trans hfetch)), ?_, ?_⟩
    · have hhead : aCtxRing c.val r.val + 0xC ∉ emitRegs := ctxBlock_notMem_emitRegs c (by simp only [aCtxRing]; omega)
        (by simp only [aCtxRing]; omega)
      exact (congrArg BitVec.toNat (State.regsBut_emit _ _ _ hhead)).trans (g.ringHead_withEntry c.val r.val _ _ hg)
    · exact (congrArg (fun t : Tab CtxState => (Tab.at_ CtxState.empty t c.val).entries) (hframe.ctxs rfl)).trans
        (g.entries_withEntry c.val r.val _ _ hg)
  case fault => rw [s.exec_ringEntryFetch, s.fetchEntry_none hst hen hne hroom hread]
  case noEntry =>
    have hnone : ∀ (op : Nat) (f : State → REntry → State), s.ringStart c.val r.val op f = s := fun op f => s.ringStart_none op f h
    exact ⟨congrArg Host.Outcome.next (hnone _ _), congrArg Host.Outcome.next (hnone _ _), congrArg Host.Outcome.next (hnone _ _),
      congrArg Host.Outcome.next (hnone _ _), congrArg Host.Outcome.next ((congrArg s.orWait (hnone _ _)).trans (s.orWait_done hst)),
      congrArg Host.Outcome.next ((congrArg s.orWait (hnone _ _)).trans (s.orWait_done hst)), congrArg Host.Outcome.next (hnone _ _)⟩
  case starts =>
    exact ⟨fun hop => congrArg Host.Outcome.next (s.ringStart_next _ h hop), fun hop => congrArg Host.Outcome.next (s.ringStart_next _ h hop),
      fun hop => congrArg Host.Outcome.next (s.ringStart_next _ h hop),
      fun hop => congrArg Host.Outcome.next (congrArg s.orWait (s.ringStart_next _ h hop)),
      fun hop => congrArg Host.Outcome.next (congrArg s.orWait (s.ringStart_next _ h hop)),
      fun hop => congrArg Host.Outcome.next (s.ringStart_next _ h hop)⟩
  case takes =>
    exact congrArg Host.Outcome.next ((s.ringStart_next (fun t e => t.waitSig c.val e) h hop).trans (s.waitSig_takes hen hfirst hspare))
  case waits =>
    exact congrArg Host.Outcome.next ((s.ringStart_next (fun t e => t.waitSig c.val e) h hop).trans (s.waitSig_waits hw))
  case met => rw [s.exec_fencePoll_open h hr hwait hop, s.pollFence_read hread, if_pos hle, hr]
  case open_ => rw [s.exec_fencePoll_open h hr hwait hop, s.pollFence_read hread, if_neg (Nat.not_le.2 hlt), hr]
  case quiet =>
    exact ⟨_, (s.exec_entryComplete c r e.index).trans (congrArg _ (s.completeEntry_quiet h hr hready hn)), rfl,
      s.entries_dropEntry hs h hr, State.reg_count_same (s.setCtx c.val _) _ _ (s.canonical_regs hs),
      State.regsBut_count (s.setCtx c.val _) _ _⟩
  case held => rw [s.exec_entryComplete, s.completeEntry_notifies h hr hready hn hq hown ho, if_pos hheld]
  case accepted =>
    have hframe := State.settle_frame s.useFree q o (offerStep (s.offerCfg q false) (s.pq q) o)
    have hctx : ((s.useFree.settle q o (offerStep (s.offerCfg q false) (s.pq q) o)).ctx c.val).entries = [e] :=
      (congrArg (fun t : Tab CtxState => (Tab.at_ CtxState.empty t c.val).entries) (hframe.ctxs rfl)).trans h
    have hcanon := hframe.canonical (s.useFree_frame.canonical hs)
    exact ⟨_, (s.exec_entryComplete c r e.index).trans (congrArg _ ((s.completeEntry_notifies h hr hready hn hq hown ho).trans
      (if_neg hacc))), State.entries_dropEntry _ hcanon hctx hr⟩
  case disable =>
    refine ⟨_, (s.exec_ringDisable c r).trans (congrArg _ (s.disableRing_quiet hen he ht)), rfl, ?_, s.regsBut_clrBits _ _⟩
    rw [State.ringEn, State.ringCfg, State.clrBits, s.reg_setReg_same _ _ (s.canonical_regs hs), bit_and]
    simp [bit_get]

end Sys2Proof.Machine
end

section
/-!
PROOF. How a containment begins (14 R647; 13 R614, R615), the flits and tokens of a Promenade port (13 R578-R590), the loss of a
link (13 R581, R618).
-/
namespace Sys2Proof.Machine

section Lemmas
variable (s : State)

/-! ## A containment that begins (14 R647) -/

/-- The group's cause of a containment for `code` (13 R615). -/
def State.groupCause (s : State) (code : Nat) : Option (BitVec 16) :=
  if s.grp.running then some (BitVec.ofNat 16 ((s.contain.groupCode.map (fun c => c.toNat)).getD code)) else s.contain.groupCode

theorem State.contain_containBy {code : Nat} (slot : Nat) (ha : s.contain.active = false) (ht : s.sup.t0 = none) :
    ∃ times first, (s.containBy code slot).contain =
      ⟨true, BitVec.ofNat 16 code, s.now, times, first, s.groupCause code⟩ := by
  unfold State.containBy
  rw [if_neg (by simp [ht])]
  extract_lets times s0 c0 c1 inGroup cause group c s2 s3 s4 s5 s6
  rw [if_neg (ne_true_of_eq_false ha)]
  have h3 : s3.contain = c := by
    unfold s3
    split <;> rfl
  have h4 : s4.contain = c := (s3.clearHolds.holdUpdate_frame.contain rfl).trans ((s3.clearHolds_frame.contain rfl).trans h3)
  have h5 : s5.contain = c := (s4.verdictWhere_frame _ _).contain rfl |>.trans h4
  refine ⟨times, lowBand s.inFlight, ?_⟩
  change _ = c
  have h6 : s6.contain = c := ((s5.setGrpState 5).count_frame _ _).contain rfl |>.trans ((s5.setGrpState_frame 5).contain rfl |>.trans h5)
  split
  · split
    · exact h6
    · exact (s6.setRegN_frame _ _).contain rfl |>.trans h6
  · exact h5

theorem State.startContain_begins {code : Nat} (ha : s.contain.active = false) (ht : s.sup.t0 = none) :
    (s.startContain code).contain.active = true ∧ (s.startContain code).contain.code = BitVec.ofNat 16 code := by
  obtain ⟨times, first, hc⟩ := s.contain_containBy (code := code) s.grpSlot ha ht
  have hstart : (s.startContain code).contain = (s.containBy code s.grpSlot).contain := by
    unfold State.startContain
    dsimp only
    split
    · exact (State.sendMsg_frame _ _ _).contain rfl
    · rfl
  rw [hstart, hc]
  exact ⟨rfl, rfl⟩

theorem State.emit_contain (e : ErrInfo) : (s.emit e).contain = s.contain := (s.emit_frame e).contain rfl
theorem State.emit_grp (e : ErrInfo) : (s.emit e).grp = s.grp := (s.emit_frame e).grp rfl
theorem State.emit_sup (e : ErrInfo) : (s.emit e).sup = s.sup := (s.emit_frame e).sup rfl

/-- A unit's fault starts a containment with its code. -/
theorem State.faultContain_begins (e : ErrInfo) (ha : s.contain.active = false) (ht : s.sup.t0 = none) :
    (s.faultContain e).contain.active = true ∧ (s.faultContain e).contain.code = BitVec.ofNat 16 e.code :=
  State.startContain_begins _ ((congrArg ContainState.active (s.emit_contain e)).trans ha)
    ((congrArg SupState.t0 (s.emit_sup e)).trans ht)

/-! ## What the sending of messages leaves of a port -/

/-- Every port keeps what it has received: only SEQ and the replay buffer may change. -/
def KeepsReceived (s t : State) : Prop := ∀ q, ∃ tx rp, t.link q = { s.link q with txSeq := tx, replay := rp }

theorem KeepsReceived.of_links {s t : State} (h : t.grp.links = s.grp.links) : KeepsReceived s t := fun q =>
  ⟨(s.link q).txSeq, (s.link q).replay, congrArg (Tab.at_ Link.init · q) h⟩

theorem KeepsReceived.trans {s t u : State} (hst : KeepsReceived s t) (htu : KeepsReceived t u) : KeepsReceived s u := fun q => by
  obtain ⟨a, b, hab⟩ := hst q
  obtain ⟨x, y, hxy⟩ := htu q
  exact ⟨x, y, by rw [hxy, hab]⟩

theorem KeepsReceived.rxBuf {s t : State} (h : KeepsReceived s t) (q : Nat) : (t.link q).rxBuf = (s.link q).rxBuf := by
  obtain ⟨tx, rp, hq⟩ := h q
  rw [hq]

theorem KeepsReceived.up {s t : State} (h : KeepsReceived s t) (q : Nat) : (t.link q).up = (s.link q).up := by
  obtain ⟨tx, rp, hq⟩ := h q
  rw [hq]

theorem State.keepsReceived_sendFlit (p : Nat) (ty : BitVec 4) (b : BitVec 560) (hs : s.canonical = true) :
    KeepsReceived s (s.sendFlit p ty b) := fun q => by
  by_cases h : q = p
  · subst h
    exact ⟨_, _, s.link_setLink_same q _ (s.canonical_link hs)⟩
  · exact ⟨(s.link q).txSeq, (s.link q).replay, s.link_setLink_other p q _ h⟩

theorem State.keepsReceived_sendMsg (k : MsgKind) (fields : List Nat) (hs : s.canonical = true) :
    KeepsReceived s (s.sendMsg k fields) := by
  have h0 : ((s.send (.prmMsg k.num fields)).useFree.useFree).canonical = true := hs
  have hfold : ((s.sendMsg k fields).canonical = true) ∧ KeepsReceived s (s.sendMsg k fields) := by
    unfold State.sendMsg
    extract_lets b
    refine List.foldlRecOn _ _ (motive := fun t : State => t.canonical = true ∧ KeepsReceived s t) ⟨h0, .of_links rfl⟩ ?_
    rintro t ⟨ht, hk⟩ p -
    split
    · exact ⟨(t.sendFlit_frame p 2 b).canonical ht, hk.trans (t.keepsReceived_sendFlit p 2 b ht)⟩
    · exact ⟨ht, hk⟩
  exact hfold.2

theorem State.keepsReceived_startContain (code : Nat) (hs : s.canonical = true) : KeepsReceived s (s.startContain code) := by
  have hby := s.containBy_frame code s.grpSlot
  have hlinks : KeepsReceived s (s.containBy code s.grpSlot) := .of_links (congrArg GroupState.links (hby.grp rfl))
  unfold State.startContain
  dsimp only
  split
  · exact hlinks.trans (State.keepsReceived_sendMsg _ _ _ (hby.canonical hs))
  · exact hlinks

theorem State.keepsReceived_faultContain (e : ErrInfo) (hs : s.canonical = true) : KeepsReceived s (s.faultContain e) :=
  (KeepsReceived.of_links (congrArg GroupState.links (s.emit_grp e))).trans
    (State.keepsReceived_startContain _ _ ((s.emit_frame e).canonical hs))

/-! ## Flits (R578-R581) -/

theorem State.exec_flitReceive (p : Port) (f : Flit) : exec (.flitReceive p f) s = .next (s.receiveFlit p.val f) := rfl

theorem State.receiveFlit_off {p : Nat} (f : Flit) (h : s.prmOn p = false) : s.receiveFlit p f = s := if_pos h

theorem State.receiveFlit_bad {p : Nat} {f : Flit} (h : s.prmOn p = true) (hf : flitGood f = false) :
    s.receiveFlit p f = (s.count (aPort p + 0x14) 1).sendNak p := by
  rw [State.receiveFlit, if_neg (by rw [h]; decide), if_neg (ne_true_of_eq_false hf)]

theorem State.receiveFlit_good {p : Nat} {f : Flit} (h : s.prmOn p = true) (hf : flitGood f = true) :
    s.receiveFlit p f = s.goodFlit p f := by
  rw [State.receiveFlit, if_neg (by rw [h]; decide), if_pos hf]

theorem flitGood_mkFlit (ty : BitVec 4) (seq : BitVec 12) (stamp : BitVec 20) (ack : BitVec 12) (body : BitVec 560) :
    flitGood (mkFlit ty seq stamp ack body) = true := beq_self_eq_true _

/-- A port that has heard a good flit. -/
def Link.heard (l : Link) (f : Flit) (now : Nat) : Link :=
  { l with lastGood := now, up := true, replay := l.replay.dropWhile (fun g => decide ((f.ack - g.seq).toNat < 2048)) }

def State.heard (s : State) (p : Nat) (f : Flit) : State :=
  (s.setLink p ((s.link p).heard f s.now)).setReg (aPort p + 4) 0x8000000F

theorem State.canonical_heard (p : Nat) (f : Flit) (hs : s.canonical = true) : (s.heard p f).canonical = true :=
  (State.setReg_frame _ _ _).canonical ((s.setLink_frame _ _).canonical hs)

theorem State.link_heard (p : Nat) (f : Flit) (hs : s.canonical = true) :
    (s.heard p f).link p = (s.link p).heard f s.now := s.link_setLink_same p _ (s.canonical_link hs)

theorem State.regsBut_heard (p : Nat) (f : Flit) : RegsBut s (s.heard p f) [aPort p + 4] :=
  State.regsBut_setReg (s.setLink p ((s.link p).heard f s.now)) _ _

theorem State.reg_heard (p : Nat) (f : Flit) (hs : s.canonical = true) : (s.heard p f).reg (aPort p + 4) = 0x8000000F :=
  State.reg_setReg_same _ _ _ (State.canonical_regs _ ((s.setLink_frame _ _).canonical hs))

/-- A port that has taken the flit whose turn it was. -/
def State.tookSeq (s : State) (p : Nat) (f : Flit) : State :=
  (s.heard p f).setLink p { (s.heard p f).link p with rxNext := (s.link p).rxNext + 1 }

theorem State.canonical_tookSeq (p : Nat) (f : Flit) (hs : s.canonical = true) : (s.tookSeq p f).canonical = true :=
  (State.setLink_frame _ _ _).canonical (s.canonical_heard p f hs)

theorem State.link_tookSeq (p : Nat) (f : Flit) (hs : s.canonical = true) :
    (s.tookSeq p f).link p = { (s.link p).heard f s.now with rxNext := (s.link p).rxNext + 1 } := by
  rw [← s.link_heard p f hs]
  exact State.link_setLink_same _ p _ (State.canonical_link _ (s.canonical_heard p f hs))

theorem State.goodFlit_eq (p : Nat) (f : Flit) : s.goodFlit p f =
    if f.ftype = 3 then (s.heard p f).resendFrom p (f.body.extractLsb' 0 12)
    else if f.ftype ≠ 1 && f.ftype ≠ 2 then s.heard p f
    else if f.seq ≠ (s.link p).rxNext then s.heard p f
    else if f.ftype ≠ 1 then (s.tookSeq p f).forwardMsg p f.body
    else if s.grpMode then (s.tookSeq p f).takeToken p f else s.tookSeq p f := rfl

theorem State.goodFlit_nak {p : Nat} {f : Flit} (h : f.ftype = 3) :
    s.goodFlit p f = (s.heard p f).resendFrom p (f.body.extractLsb' 0 12) := by
  rw [s.goodFlit_eq, if_pos h]

theorem State.goodFlit_early {p : Nat} {f : Flit} (h : f.ftype = 1 ∨ f.ftype = 2) (hseq : f.seq ≠ (s.link p).rxNext) :
    s.goodFlit p f = s.heard p f := by
  have h3 : f.ftype ≠ 3 := by
    obtain h | h := h <;> rw [h] <;> decide
  rw [s.goodFlit_eq, if_neg h3, if_pos hseq, ite_self]

theorem State.goodFlit_message {p : Nat} {f : Flit} (h : f.ftype = 2) (hseq : f.seq = (s.link p).rxNext) :
    s.goodFlit p f = (s.tookSeq p f).forwardMsg p f.body := by
  rw [s.goodFlit_eq, if_neg (by rw [h]; decide), if_neg (by rw [h]; decide), if_neg (not_not.2 hseq), if_pos (by rw [h]; decide)]

/-- The mode of the group is no register of a port. -/
theorem State.grpMode_tookSeq (p : Nat) (f : Flit) : (s.tookSeq p f).grpMode = s.grpMode := by
  refine congrArg (bit · 0) (s.regsBut_heard p f aGrpCtrl ?_)
  simp only [aGrpCtrl, aPort, List.mem_singleton]
  omega

theorem State.goodFlit_token {p : Nat} {f : Flit} (h : f.ftype = 1) (hseq : f.seq = (s.link p).rxNext) :
    s.goodFlit p f = if s.grpMode then (s.tookSeq p f).takeToken p f else s.tookSeq p f := by
  rw [s.goodFlit_eq, if_neg (by rw [h]; decide), if_neg (by rw [h]; decide), if_neg (not_not.2 hseq), if_neg (not_not.2 h)]

/-! ## NAKs and messages (R580, R606) -/

/-- A NAK that names no flit of the replay buffer resends none. -/
theorem State.resendFrom_none {p : Nat} {n : BitVec 12} (h : ∀ g ∈ (s.link p).replay, g.seq ≠ n) : s.resendFrom p n = s := by
  have hnone : (s.link p).replay.dropWhile (fun f => f.seq != n) = [] :=
    List.dropWhile_eq_nil_iff.2 (fun g hg => bne_iff_ne.2 (h g hg))
  rw [State.resendFrom, hnone]
  rfl

theorem State.resendFrom_one {p : Nat} {g : Flit} (h : (s.link p).replay = [g]) :
    s.resendFrom p g.seq = (s.count (aPort p + 0x10) 1).send (.prmFlit p g) := by
  rw [State.resendFrom, h, List.dropWhile_cons_of_neg (by simp)]
  rfl

/-- BODY of a message that goes on: one hop less. -/
def passedOn (b : BitVec 560) : BitVec 560 :=
  (b &&& ~~~((0xFF#560) <<< 16)) ||| ((b.extractLsb' 16 8 - 1).setWidth 560 <<< 16)

theorem getLsbD_ones8 (i : Nat) : (0xFF#560).getLsbD i = decide (i < 8) := by
  rw [BitVec.getLsbD_ofNat, show 0xFF = 2 ^ 8 - 1 from rfl, Nat.testBit_two_pow_sub_one]
  by_cases h : i < 8
  · rw [decide_eq_true h, decide_eq_true (by omega), Bool.and_true]
  · rw [decide_eq_false h, Bool.and_false]

theorem getLsbD_passedOn (b : BitVec 560) {i : Nat} (h : i < 560) : (passedOn b).getLsbD i =
    if 16 ≤ i ∧ i < 24 then (b.extractLsb' 16 8 - 1).getLsbD (i - 16) else b.getLsbD i := by
  rw [passedOn, BitVec.getLsbD_or, BitVec.getLsbD_and, BitVec.getLsbD_not, BitVec.getLsbD_shiftLeft, BitVec.getLsbD_shiftLeft,
    BitVec.getLsbD_setWidth, getLsbD_ones8]
  generalize b.extractLsb' 16 8 - 1 = x
  by_cases hlow : i < 16
  · rw [if_neg (by omega)]
    simp [h, hlow]
  · by_cases hhigh : i < 24
    · rw [if_pos (by omega)]
      have h8 : i - 16 < 8 := by omega
      have h560 : i - 16 < 560 := by omega
      simp [h, hlow, h8, h560]
    · rw [if_neg (by omega)]
      have h8 : ¬ i - 16 < 8 := by omega
      have hx : x.getLsbD (i - 16) = false := BitVec.getLsbD_of_ge _ _ (by omega)
      simp [h, hlow, h8, hx]

theorem hops_passedOn (b : BitVec 560) : (passedOn b).extractLsb' 16 8 = b.extractLsb' 16 8 - 1 := by
  refine BitVec.eq_of_getLsbD_eq (fun i hi => ?_)
  rw [BitVec.getLsbD_extractLsb', getLsbD_passedOn b (by omega), if_pos (by omega), Nat.add_sub_cancel_left]
  simp [hi]

theorem fields_passedOn (b : BitVec 560) : (passedOn b).extractLsb' 24 536 = b.extractLsb' 24 536 := by
  refine BitVec.eq_of_getLsbD_eq (fun i hi => ?_)
  rw [BitVec.getLsbD_extractLsb', getLsbD_passedOn b (by omega), if_neg (by omega), BitVec.getLsbD_extractLsb']

theorem State.forwardMsg_last {p : Nat} {b : BitVec 560} (h : b.extractLsb' 16 8 = 0) : s.forwardMsg p b = s := by
  rw [State.forwardMsg]
  exact if_pos (by simp [h])

theorem State.forwardMsg_on {p : Nat} {b : BitVec 560} (h : b.extractLsb' 16 8 ≠ 0) (hm : s.grpMode = true) :
    s.forwardMsg p b = s.sendFlit (p ^^^ 1) 2 (passedOn b) := by
  rw [State.forwardMsg]
  exact if_neg (by rw [decide_eq_false h, hm]; decide)

/-! ## Tokens received (R585, R588) -/

theorem State.takeToken_bad {p : Nat} {f : Flit} (h : tokenGood (bodyToken f.body) = false) : s.takeToken p f =
    s.faultContain { err 0x0206 with loc := prmLoc p, d0 := p, d1 := (bodyToken f.body).tag.toNat, hub := p / 2 } := if_pos h

theorem State.takeToken_full {p : Nat} {f : Flit} (h : tokenGood (bodyToken f.body) = true) (hfull : 8192 ≤ (s.link p).rxBuf.length) :
    s.takeToken p f = s.faultContain { err 0x0203 with loc := prmLoc p, d0 := p, d1 := 8192, d2 := 8192, hub := p / 2 } := by
  rw [State.takeToken]
  exact (if_neg (by rw [h]; decide)).trans (if_pos hfull)

theorem State.takeToken_room {p : Nat} {f : Flit} (h : tokenGood (bodyToken f.body) = true) (hroom : (s.link p).rxBuf.length < 8192) :
    s.takeToken p f = s.setLink p { s.link p with rxBuf := (s.link p).rxBuf ++
      [⟨f.stamp, f.seq, decide (s.prmLat < (BitVec.ofNat 20 s.grpCk - f.stamp).toNat), bodyToken f.body⟩] } := by
  rw [State.takeToken]
  exact (if_neg (by rw [h]; decide)).trans (if_neg (Nat.not_le.2 hroom))

theorem State.prmLat_tookSeq (p : Nat) (f : Flit) : (s.tookSeq p f).prmLat = s.prmLat := by
  refine congrArg (fld · 16 16) (s.regsBut_heard p f aGrpLat ?_)
  simp only [aGrpLat, aPort, List.mem_singleton]
  omega

/-! ## Release (R585, R586, R588) -/

theorem State.exec_promenadeTokenRelease (p : Port) : exec (.promenadeTokenRelease p) s = .next (s.releaseToken p.val) := rfl

theorem State.releaseToken_off {p : Nat} (h : s.prmOn p = false) : s.releaseToken p = s := if_pos h

theorem State.releaseToken_none {p : Nat} (h : s.prmOn p = true) (hnone : s.pickToken [] (s.link p).rxBuf = none) :
    s.releaseToken p = s := by
  rw [State.releaseToken, if_neg (by rw [h]; decide), hnone]

/-- A port without the token that goes. -/
def State.released (s : State) (p : Nat) (rest : List RxTok) : State := s.setLink p { s.link p with rxBuf := rest }

section Picked
variable {p : Nat} {x : RxTok} {rest : List RxTok} (hon : s.prmOn p = true)
  (hpick : s.pickToken [] (s.link p).rxBuf = some (x, rest))
include hon hpick

theorem State.releaseToken_late (hlate : x.late = true) : s.releaseToken p = (s.released p rest).lateToken p x := by
  rw [State.releaseToken, if_neg (by rw [hon]; decide), hpick]
  exact if_pos hlate

theorem State.releaseToken_unrouted (hlate : x.late = false) (hr : s.routeEntry x.tok.tag = none) : s.releaseToken p =
    (s.released p rest).faultContain { err 0x0201 with loc := prmLoc p, d0 := p, d1 := x.tok.tag.toNat, hub := p / 2 } := by
  have hr' : (s.setLink p { s.link p with rxBuf := rest }).routeEntry x.tok.tag = none := hr
  rw [State.releaseToken, if_neg (by rw [hon]; decide), hpick]
  dsimp only
  rw [if_neg (ne_true_of_eq_false hlate), hr']
  rfl

theorem State.releaseToken_routed {e : DWord} (hlate : x.late = false) (hr : s.routeEntry x.tok.tag = some e) : s.releaseToken p =
    if bits e.toNat 13 1 = 1 && s.prmOn (bits e.toNat 14 2) then
      (if bits e.toNat 12 1 = 1 then (s.released p rest).deliverToken e.toNat x.tok else s.released p rest).sendToken
        (bits e.toNat 14 2) (reroute x.tok (bits e.toNat 40 10))
    else if bits e.toNat 12 1 = 1 then (s.released p rest).deliverToken e.toNat x.tok else s.released p rest := by
  have hr' : (s.setLink p { s.link p with rxBuf := rest }).routeEntry x.tok.tag = some e := hr
  rw [State.releaseToken, if_neg (by rw [hon]; decide), hpick]
  dsimp only
  rw [if_neg (ne_true_of_eq_false hlate), hr']
  dsimp only
  by_cases hgate : bits e.toNat 12 1 = 1
  · simp only [if_pos hgate]
    rfl
  · simp only [if_neg hgate]
    rfl

end Picked

/-! ## Loss of a link (R581, R618) -/

theorem State.exec_prmLinkDown (p : Port) : exec (.prmLinkDown p) s =
    .next (if (s.link p.val).lastGood + 256 ≤ s.now then s.linkDown p.val false else s) := rfl
theorem State.exec_recal (p : Port) : exec (.recal p) s = .next (s.recal p.val) := rfl

/-- A port whose link is down, and the ring that it was on. -/
def State.portLost (s : State) (p : Nat) : State :=
  let s1 := (s.setLink p { s.link p with up := false }).setReg (aPort p + 4) 0
  { s1 with grp := { s1.grp with linkWasDown := s1.grp.linkWasDown || s.ringPorts.contains p } }

theorem State.linkDown_up {p : Nat} (asked : Bool) (h : (s.link p).up = true) : ∃ e : ErrInfo, e.code = 0x0506 ∧ s.linkDown p asked =
    if ((s.portLost p).emit e).grp.running && s.ringPorts.contains p then ((s.portLost p).emit e).startContain 0x0506
    else (s.portLost p).emit e := by
  refine ⟨{ err 0x0506 with loc := prmLoc p, d0 := b2n asked, hub := p / 2 }, rfl, ?_⟩
  rw [State.linkDown, if_neg (by rw [h]; decide)]
  rfl

theorem State.linkDown_down {p : Nat} (asked : Bool) (h : (s.link p).up = false) : s.linkDown p asked = s := if_pos h

theorem State.canonical_portLost (p : Nat) (hs : s.canonical = true) : (s.portLost p).canonical = true :=
  (State.setReg_frame (s.setLink p { s.link p with up := false }) (aPort p + 4) 0).canonical ((s.setLink_frame _ _).canonical hs)

theorem State.up_portLost (p : Nat) (hs : s.canonical = true) : ((s.portLost p).link p).up = false :=
  congrArg Link.up (s.link_setLink_same p _ (s.canonical_link hs))

theorem State.reg_portLost (p : Nat) (hs : s.canonical = true) : (s.portLost p).reg (aPort p + 4) = 0 :=
  State.reg_setReg_same (s.setLink p { s.link p with up := false }) _ _ (State.canonical_regs _ ((s.setLink_frame _ _).canonical hs))

theorem port_notMem_emitRegs (p o : Nat) : aPort p + o ∉ emitRegs := by
  have h : ∀ a ∈ emitRegs, a < 0x300000 := by decide
  intro hmem
  have := h _ hmem
  simp only [aPort] at this
  omega

end Lemmas

/-- Settles O43, by the type of a flit and its turn, by what the entry of a token says, and by the state of a link. -/
theorem promenadePorts : Obligations.PromenadePorts := by
  unfold Obligations.PromenadePorts
  refine ⟨fun p f s h => ?off, fun p f s hs hon hf => ?bad, fun p f s hs hon hf hty hseq => ?early,
    fun p f s hs hon hf hty hno => ?nakNone, fun p f g s hs hon hf hty hrep hseq hack => ?nak,
    fun p f s hs hon hf hty hseq hhops => ?message, fun p f s hs hon hf hty hm hseq hhops => ?passes,
    fun p f s hs hon hf hty hm hseq => ?independent,
    fun p f s hs hon hm hf hty hseq ha ht => ⟨fun hbad => ?tokenBad, fun hgood hfull => ?tokenFull⟩,
    fun p f s hs hon hm hf hty hseq hgood hroom => ?token,
    fun p x rest s hon hpick hlate => ⟨fun hr ha ht => ?unrouted, fun e hr h12 h13 => ?gate, fun e hr h12 h13 hport => ?port,
      fun e hr h12 h13 hport => ?both⟩,
    fun p x rest s hs hon ha ht hpick hlate => ?late, fun p s hon hempty => ?empty, fun p s h => ?kept,
    fun p s hs hup hdue hrun hring ha ht => ?lost, fun p s hs hup hdue hrun => ?lostAlone, fun p s h => ?recalNone,
    fun p s hp hrun hring => ?recal⟩
  case off =>
    exact ⟨congrArg Host.Outcome.next (s.receiveFlit_off f h), congrArg Host.Outcome.next (s.releaseToken_off h)⟩
  case bad =>
    refine ⟨_, (s.exec_flitReceive p f).trans (congrArg _ (s.receiveFlit_bad hon hf)), rfl,
      s.reg_count_same _ _ (s.canonical_regs hs), s.regsBut_count _ _, _, rfl, rfl, flitGood_mkFlit _ _ _ _ _, ?_⟩
    change ((s.link p.val).rxNext.setWidth 560).toNat % 4096 = _
    have hlt : (s.link p.val).rxNext.toNat < 4096 := (s.link p.val).rxNext.isLt
    rw [BitVec.toNat_setWidth_of_le (by decide), Nat.mod_eq_of_lt hlt]
  case early =>
    have hlink := s.link_heard p.val f hs
    refine ⟨_, (s.exec_flitReceive p f).trans (congrArg _ ((s.receiveFlit_good hon hf).trans (s.goodFlit_early hty hseq))), rfl,
      ?_, ?_, ?_, ?_, s.regsBut_heard p.val f⟩ <;> rw [hlink] <;> rfl
  case nakNone =>
    have hlink := s.link_heard p.val f hs
    have hnone : (s.heard p.val f).resendFrom p.val (f.body.extractLsb' 0 12) = s.heard p.val f := by
      refine State.resendFrom_none _ (fun g hg => hno g ?_)
      rw [hlink] at hg
      exact (List.dropWhile_suffix _).subset hg
    refine ⟨_, (s.exec_flitReceive p f).trans (congrArg _ ((s.receiveFlit_good hon hf).trans ((s.goodFlit_nak hty).trans hnone))), rfl,
      ?_, s.reg_heard p.val f hs, ?_, s.regsBut_heard p.val f⟩ <;> rw [hlink] <;> rfl
  case nak =>
    have hreplay : ((s.heard p.val f).link p.val).replay = [g] := by
      rw [s.link_heard p.val f hs, Link.heard, hrep]
      exact List.dropWhile_cons_of_neg (p := fun h : Flit => decide ((f.ack - h.seq).toNat < 2048))
        (decide_eq_true_iff.not.2 (Nat.not_lt.2 hack))
    have hsent := (s.heard p.val f).resendFrom_one hreplay
    rw [hseq] at hsent
    refine ⟨_, (s.exec_flitReceive p f).trans (congrArg _ ((s.receiveFlit_good hon hf).trans ((s.goodFlit_nak hty).trans hsent))), rfl,
      rfl, hreplay, ?_⟩
    refine (State.reg_count_same _ _ _ (State.canonical_regs _ (s.canonical_heard p.val f hs))).trans ?_
    rw [s.regsBut_heard p.val f _ (by simp)]
  case message =>
    have hlink := s.link_tookSeq p.val f hs
    exact ⟨_, (s.exec_flitReceive p f).trans (congrArg _ ((s.receiveFlit_good hon hf).trans ((s.goodFlit_message hty hseq).trans
      (State.forwardMsg_last _ hhops)))), rfl, congrArg Link.rxNext hlink, (congrArg Link.rxBuf hlink :)⟩
  case passes =>
    have hm' := (s.grpMode_tookSeq p.val f).trans hm
    exact ⟨_, (s.exec_flitReceive p f).trans (congrArg _ ((s.receiveFlit_good hon hf).trans ((s.goodFlit_message hty hseq).trans
      (State.forwardMsg_on _ hhops hm')))), _, rfl, rfl, flitGood_mkFlit _ _ _ _ _, hops_passedOn _, fields_passedOn _⟩
  case independent =>
    have hlink := s.link_tookSeq p.val f hs
    exact ⟨_, (s.exec_flitReceive p f).trans (congrArg _ ((s.receiveFlit_good hon hf).trans ((s.goodFlit_token hty hseq).trans
      (if_neg (ne_true_of_eq_false hm))))), rfl, congrArg Link.rxNext hlink, (congrArg Link.rxBuf hlink :)⟩
  case tokenBad =>
    exact ⟨_, (s.exec_flitReceive p f).trans (congrArg _ ((s.receiveFlit_good hon hf).trans ((s.goodFlit_token hty hseq).trans
      ((if_pos hm).trans (State.takeToken_bad _ hbad))))), State.faultContain_begins _ _ ha ht⟩
  case tokenFull =>
    have hfull' : 8192 ≤ ((s.tookSeq p.val f).link p.val).rxBuf.length := by
      rw [s.link_tookSeq p.val f hs]
      exact hfull
    exact ⟨_, (s.exec_flitReceive p f).trans (congrArg _ ((s.receiveFlit_good hon hf).trans ((s.goodFlit_token hty hseq).trans
      ((if_pos hm).trans (State.takeToken_full _ hgood hfull'))))), State.faultContain_begins _ _ ha ht⟩
  case token =>
    have hlink := s.link_tookSeq p.val f hs
    have hroom' : ((s.tookSeq p.val f).link p.val).rxBuf.length < 8192 := by
      rw [hlink]
      exact hroom
    have htook := State.takeToken_room _ hgood hroom'
    rw [s.prmLat_tookSeq, hlink] at htook
    have hstored := State.link_setLink_same (s.tookSeq p.val f) p.val
      { (s.link p.val).heard f s.now with rxNext := (s.link p.val).rxNext + 1, rxBuf := (s.link p.val).rxBuf ++
        [⟨f.stamp, f.seq, decide (s.prmLat < (BitVec.ofNat 20 s.grpCk - f.stamp).toNat), bodyToken f.body⟩] }
      (State.canonical_link _ (s.canonical_tookSeq p.val f hs))
    exact ⟨_, (s.exec_flitReceive p f).trans (congrArg _ ((s.receiveFlit_good hon hf).trans ((s.goodFlit_token hty hseq).trans
      ((if_pos hm).trans htook)))), rfl, (congrArg Link.rxNext hstored :), (congrArg Link.rxBuf hstored :)⟩
  case unrouted =>
    exact ⟨_, (s.exec_promenadeTokenRelease p).trans (congrArg _ (s.releaseToken_unrouted hon hpick hlate hr)),
      State.faultContain_begins _ _ ha ht⟩
  case gate =>
    rw [s.exec_promenadeTokenRelease, s.releaseToken_routed hon hpick hlate hr, if_neg (by simp [h13]), if_pos h12]
    rfl
  case port =>
    rw [s.exec_promenadeTokenRelease, s.releaseToken_routed hon hpick hlate hr, if_pos (by simp [h13, hport]), if_neg (by simp [h12])]
    rfl
  case both =>
    rw [s.exec_promenadeTokenRelease, s.releaseToken_routed hon hpick hlate hr, if_pos (by simp [h13, hport]), if_pos h12]
    rfl
  case late =>
    have hcanon : (s.released p.val rest).canonical = true := (s.setLink_frame _ _).canonical hs
    have hlink : ((s.released p.val rest).link p.val).rxBuf = rest :=
      congrArg Link.rxBuf (s.link_setLink_same p.val { s.link p.val with rxBuf := rest } (s.canonical_link hs))
    have hcount : (((s.released p.val rest).useFree.useFree).count (aPort p.val + 0x18) 1).canonical = true :=
      (State.count_frame _ _ _).canonical hcanon
    refine ⟨_, (s.exec_promenadeTokenRelease p).trans (congrArg _ (s.releaseToken_late hon hpick hlate)), ?_⟩
    rw [State.lateToken]
    obtain ⟨hact, hcode⟩ := State.faultContain_begins (((s.released p.val rest).useFree.useFree).count (aPort p.val + 0x18) 1)
      { err 0x0503 with loc := prmLoc p.val, d0 := x.seq.toNat, d1 := (s.released p.val rest).free.toNat % 2 ^ 64,
                        d2 := (s.released p.val rest).useFree.free.toNat % 2 ^ 64, hub := p.val / 2 } ha ht
    exact ⟨hact, hcode, ((State.keepsReceived_faultContain _ _ hcount).rxBuf p.val).trans hlink⟩
  case empty =>
    refine congrArg Host.Outcome.next (s.releaseToken_none hon ?_)
    rw [hempty]
    rfl
  case kept =>
    rw [s.exec_prmLinkDown]
    obtain h | h := h
    · rw [if_neg (Nat.not_le.2 h)]
    · rw [s.linkDown_down false h, ite_self]
  case lost =>
    obtain ⟨e, -, hgo⟩ := s.linkDown_up false hup
    have hgrp := (s.portLost p.val).emit_grp e
    have hrunning : ((s.portLost p.val).emit e).grp.running = true := (congrArg GroupState.running hgrp).trans hrun
    rw [hrunning, hring, Bool.true_and, if_pos rfl] at hgo
    have hcanon := (State.emit_frame _ e).canonical (s.canonical_portLost p.val hs)
    have hkeeps := (KeepsReceived.of_links (congrArg GroupState.links hgrp)).trans (State.keepsReceived_startContain _ 0x0506 hcanon)
    obtain ⟨hact, hcode⟩ := State.startContain_begins ((s.portLost p.val).emit e) (code := 0x0506)
      ((congrArg ContainState.active (State.emit_contain _ e)).trans ha) ((congrArg SupState.t0 (State.emit_sup _ e)).trans ht)
    exact ⟨_, (s.exec_prmLinkDown p).trans (congrArg _ ((if_pos hdue).trans hgo)), hact, hcode,
      (hkeeps.up p.val).trans (s.up_portLost p.val hs)⟩
  case lostAlone =>
    obtain ⟨e, -, hgo⟩ := s.linkDown_up false hup
    have hgrp := (s.portLost p.val).emit_grp e
    have hrunning : ((s.portLost p.val).emit e).grp.running = false := (congrArg GroupState.running hgrp).trans hrun
    rw [hrunning, Bool.false_and, if_neg Bool.false_ne_true] at hgo
    refine ⟨_, (s.exec_prmLinkDown p).trans (congrArg _ ((if_pos hdue).trans hgo)), ?_, ?_, (State.emit_frame _ e).tiles rfl,
      State.emit_contain _ e⟩
    · exact ((KeepsReceived.of_links (congrArg GroupState.links hgrp)).up p.val).trans (s.up_portLost p.val hs)
    · exact (State.regsBut_emit _ e _ (port_notMem_emitRegs p.val 4)).trans (s.reg_portLost p.val hs)
  case recalNone =>
    rw [s.exec_recal, State.recal, if_neg]
    simp only [Bool.and_eq_true, not_and, Bool.not_eq_true]
    rintro ⟨hp, hrun⟩
    obtain h | h | h := h
    · exact absurd hp (ne_true_of_eq_false h)
    · exact absurd hrun (ne_true_of_eq_false h)
    · exact h
  case recal => rw [s.exec_recal, State.recal, if_pos (by simp [hp, hrun, (List.contains_iff_mem.1 hring)])]

end Sys2Proof.Machine
end

section
/-!
PROOF. Forming a sliced group (13 R607-R610, R616, R617).
-/
namespace Sys2Proof.Machine

section Lemmas
variable (s : State)

/-! ## The phase of the group -/

theorem State.grpPhase_setGrpState {v : Nat} (hs : s.canonical = true) (hv : v < 16) : (s.setGrpState v).grpPhase = v := by
  rw [State.grpPhase, State.setGrpState, s.reg_setReg_same _ _ (s.canonical_regs hs), fld_setFld_same _ 0 4 v (by decide)]
  exact Nat.mod_eq_of_lt hv

theorem State.reg_setGrpState_other (v : Nat) {b : Nat} (h : b ≠ aGrpState) : (s.setGrpState v).reg b = s.reg b :=
  s.reg_setReg_other _ _ _ h

theorem State.reg48_setGrpState_other (v : Nat) {b : Nat} (h : b ≠ aGrpState) (h4 : b + 4 ≠ aGrpState) :
    (s.setGrpState v).reg48 b = s.reg48 b :=
  State.reg48_congr (s.reg_setGrpState_other v h) (s.reg_setGrpState_other v h4)

/-! ## Messages -/

/-- A message changes the ports' links, takes two free values and goes out. -/
theorem State.sendMsg_eq (k : MsgKind) (fields : List Nat) : ∃ (links : Tab Link) (out : List OutMsg), s.sendMsg k fields =
    { s with grp := { s.grp with links := links }, fresh := s.fresh + 2, outbox := out } := by
  unfold State.sendMsg
  extract_lets b
  refine List.foldlRecOn _ _ (motive := fun t : State => ∃ (links : Tab Link) (out : List OutMsg),
    t = { s with grp := { s.grp with links := links }, fresh := s.fresh + 2, outbox := out }) ⟨_, _, rfl⟩ ?_
  rintro t ⟨links, out, rfl⟩ p -
  split
  · exact ⟨_, _, rfl⟩
  · exact ⟨_, _, rfl⟩

/-! ## FORM (R607, R617) -/

theorem State.exec_grpForm : exec .grpForm s = .next s.form := rfl

theorem State.form_none (h : s.hearsMsg = false ∨ s.grpPhase = 1 ∨ s.grpPhase = 2 ∨ s.grpPhase = 4) : s.form = s := by
  refine if_pos ?_
  obtain h | h | h | h := h <;> simp [h]

theorem State.form_starts (hm : s.hearsMsg = true) (h : s.grpPhase = 0 ∨ s.grpPhase = 3 ∨ 5 ≤ s.grpPhase) :
    s.form = s.startForming := by
  refine if_neg ?_
  simp only [hm, Bool.not_true, Bool.false_or, Bool.or_eq_true, beq_iff_eq]
  omega

/-- PRM_GRP_STATE as FORM writes it. -/
def formWord (h : HelloFields) : Word :=
  BitVec.ofNat 32 (b2n (h.slot = 0) * 2 ^ 24 + h.size % 256 * 2 ^ 16 + h.slot % 256 * 2 ^ 8 + 1)

theorem fld_formWord (h : HelloFields) : fld (formWord h) 0 4 = 1 := by
  unfold fld bits formWord
  rw [BitVec.toNat_ofNat]
  omega

theorem bit_formWord {h : HelloFields} (hslot : h.slot ≠ 0) : bit (formWord h) 24 = false := by
  unfold bit formWord
  rw [BitVec.toNat_ofNat, decide_eq_false hslot, beq_eq_false_iff_ne, b2n, if_neg Bool.false_ne_true]
  omega

/-- The registers once FORM has written PRM_GRP_STATE and cleared the differences. -/
def State.formRegs (s : State) : State :=
  (List.range 8).foldl (fun t k => t.setRegN (aFormDiff k) 0) (s.useFree.setReg aGrpState (formWord s.ownHello))

theorem State.formRegs_onlyRegs : OnlyRegs s.useFree s.formRegs :=
  (OnlyRegs.setReg s.useFree aGrpState (formWord s.ownHello)).trans (.foldl _ _ _ (fun t k => OnlyRegs.setReg t (aFormDiff k) 0))

theorem State.reg_formRegs (hs : s.canonical = true) : s.formRegs.reg aGrpState = formWord s.ownHello := by
  have hset : (s.useFree.setReg aGrpState (formWord s.ownHello)).reg aGrpState = formWord s.ownHello :=
    s.useFree.reg_setReg_same _ _ (s.useFree.canonical_regs hs)
  refine List.foldlRecOn _ _ (motive := fun t : State => t.reg aGrpState = formWord s.ownHello) hset (fun t ht k _ => ?_)
  rw [State.reg_setRegN_other _ _ _ _ (by simp only [aGrpState, aFormDiff]; omega), ht]

/-- The links with no echo measured. -/
def State.noTrips (s : State) : Tab Link := Tab.mapV Link.init (fun _ l => { l with trips := [] }) s.grp.links

/-- What FORM starts: HELLO goes out, none is in, and the forming time runs. -/
theorem State.startForming_eq : ∃ (links : Tab Link) (out : List OutMsg), s.startForming =
    { s with regs := s.formRegs.regs, fresh := s.fresh + 3, outbox := out,
             grp := { s.grp with hello := [], formAt := some s.now, links := links } } := by
  have hstart : s.startForming = (s.formRegs.updGrp (fun g =>
      { g with hello := [], formAt := some s.now, links := s.formRegs.noTrips })).sendMsg .hello (helloNumbers s.ownHello) := rfl
  obtain ⟨r, hr⟩ : ∃ r, s.formRegs = { s.useFree with regs := r } := ⟨_, s.formRegs_onlyRegs⟩
  rw [hstart, hr]
  obtain ⟨links, out, hsend⟩ := State.sendMsg_eq _ .hello (helloNumbers s.ownHello)
  exact ⟨links, out, hsend⟩

theorem State.reg_startForming (hs : s.canonical = true) : s.startForming.reg aGrpState = formWord s.ownHello := by
  obtain ⟨links, out, h⟩ := s.startForming_eq
  have hident : s.startForming.ident = s.formRegs.ident := by
    rw [h, s.formRegs_onlyRegs]
    rfl
  rw [State.reg_congr hident (congrArg State.regs h :), s.reg_formRegs hs]

/-! ## HELLO (R607, R617) -/

theorem State.exec_msgHello (m : Member) (f : HelloFields) : exec (.msgHello m f) s = .next (s.helloMessage m.val f) := rfl

theorem State.notePeer_onlyRegs (m : Nat) : OnlyRegs s (s.notePeer m) := by
  refine OnlyRegs.foldl _ _ _ (fun t p => ?_)
  exact iteInduction (motive := OnlyRegs t) (fun _ => OnlyRegs.setReg _ _ _) (fun _ => OnlyRegs.refl t)

theorem State.reg_notePeer (m : Nat) : (s.notePeer m).reg aGrpState = s.reg aGrpState := by
  refine List.foldlRecOn _ _ (motive := fun t : State => t.reg aGrpState = s.reg aGrpState) rfl (fun t ht p _ => ?_)
  refine iteInduction (motive := fun u : State => u.reg aGrpState = s.reg aGrpState) (fun _ => ?_) (fun _ => ht)
  rw [State.reg_setRegN_other _ _ _ _ (by simp only [aGrpState, aPort]; omega), ht]

/-- A member that has heard member `m`. -/
def State.heardHello (s : State) (m : Nat) (f : HelloFields) : State :=
  (s.updGrp (fun g => { g with hello := g.hello.filter (fun e => e.1 != m) ++ [(m, f)] })).notePeer m

theorem State.heardHello_grp (m : Nat) (f : HelloFields) :
    (s.heardHello m f).grp = { s.grp with hello := s.grp.hello.filter (fun e => e.1 != m) ++ [(m, f)] } := by
  rw [State.heardHello, State.notePeer_onlyRegs _ m]
  rfl

theorem State.reg_heardHello (m : Nat) (f : HelloFields) : (s.heardHello m f).reg aGrpState = s.reg aGrpState :=
  State.reg_notePeer _ m

theorem State.heardHello_eq (m : Nat) (f : HelloFields) :
    s.heardHello m f = { s with regs := (s.heardHello m f).regs, grp := (s.heardHello m f).grp } := by
  have h := State.notePeer_onlyRegs (s.updGrp (fun g => { g with hello := g.hello.filter (fun e => e.1 != m) ++ [(m, f)] })) m
  rw [State.heardHello, h]
  rfl

theorem State.mem_heardHello (m : Nat) (f : HelloFields) : (m, f) ∈ (s.heardHello m f).grp.hello := by
  rw [s.heardHello_grp m f]
  exact List.mem_append_right _ (List.mem_singleton_self _)

/-- Member `m`'s HELLO at a member that forms. -/
theorem State.helloMessage_forming {m : Nat} (f : HelloFields) (hm : s.hearsMsg = true) (hp : s.grpPhase = 1) : s.helloMessage m f =
    if s.grpLeader then (s.heardHello m f).helloIn else s.heardHello m f := by
  have hlead : (s.heardHello m f).grpLeader = s.grpLeader := congrArg (bit · 24) (s.reg_heardHello m f)
  rw [← hlead, State.helloMessage, if_neg (by simp [hm]),
    if_neg (c := (decide (s.grpPhase = 5) && !s.grpLeader && decide (m = 0) && !s.contain.active) = true) (by simp [hp]),
    if_neg (not_not.2 hp)]
  rfl

/-- The leader's HELLO at a follower that a group fault stopped. -/
theorem State.helloMessage_reforms (f : HelloFields) (hs : s.canonical = true) (hm : s.hearsMsg = true) (hp : s.grpPhase = 5)
    (hl : s.grpLeader = false) (hc : s.contain.active = false) (hslot : s.ownHello.slot ≠ 0) :
    s.helloMessage 0 f = s.startForming.heardHello 0 f := by
  have hphase : s.startForming.grpPhase = 1 := (congrArg (fld · 0 4) (s.reg_startForming hs)).trans (fld_formWord _)
  have hlead : (s.startForming.heardHello 0 f).grpLeader = false :=
    (congrArg (bit · 24) (s.startForming.reg_heardHello 0 f)).trans
      ((congrArg (bit · 24) (s.reg_startForming hs)).trans (bit_formWord hslot))
  rw [State.helloMessage, if_neg (by simp [hm]),
    if_pos (c := (decide (s.grpPhase = 5) && !s.grpLeader && decide (0 = 0) && !s.contain.active) = true) (by simp [hp, hl, hc])]
  refine (if_neg (not_not.2 hphase)).trans ?_
  exact if_neg (ne_true_of_eq_false hlead)

theorem State.helloMessage_none {m : Nat} (f : HelloFields) (h : s.hearsMsg = false ∨ (s.grpPhase ≠ 1 ∧ s.grpPhase ≠ 5)) :
    s.helloMessage m f = s := by
  obtain h | ⟨h1, h5⟩ := h
  · exact if_pos (by simp [h])
  · rw [State.helloMessage, if_neg (c := (decide (s.grpPhase = 5) && !s.grpLeader && decide (m = 0) && !s.contain.active) = true)
      (by simp [h5]), if_pos h1, ite_self]

/-- With a member still to be heard, the leader waits. -/
theorem State.helloIn_waits {k : Nat} (hk : k < s.grpSize) (hown : k ≠ s.grpSlot) (hmiss : ∀ e ∈ s.grp.hello, e.1 ≠ k) :
    s.helloIn = s := by
  refine if_neg (fun hall => ?_)
  have hone := List.all_eq_true.1 hall k (List.mem_range.2 hk)
  rw [Bool.or_eq_true, beq_iff_eq, List.any_eq_true] at hone
  obtain h | ⟨e, hmem, he⟩ := hone
  · exact hown h
  · exact hmiss e hmem (eq_of_beq he)

/-! ## CAL, FORMED and START (R584, R609, R610, R616) -/

theorem State.exec_msgCal (p : Port) (c : DWord) : exec (.msgCal p c) s = .next (s.calMessage p.val c.toNat) := rfl
theorem State.exec_msgFormed (lat : Nat) (ck : DWord) (b l : W48) :
    exec (.msgFormed lat ck b l) s = .next (s.formedMessage lat ck.toNat b l) := rfl
theorem State.exec_msgStart (first : W48) : exec (.msgStart first) s = .next (s.startMessage first) := rfl
theorem State.exec_autoReform : exec .autoReform s = .next s.autoReform := rfl
theorem State.exec_msgRefused (ms : List (BitVec 16)) : exec (.msgRefused ms) s =
    .next (if s.hearsMsg && !s.grpLeader && (s.grpPhase = 1 || s.grpPhase = 2) then s.refused (ms.map (fun m => m.toNat)) else s) := rfl
theorem State.exec_formingTimeout : exec .formingTimeout s =
    .next (if s.grpLeader && (s.grpPhase = 1 || s.grpPhase = 2) && s.grp.formAt.any (fun t => decide (t + msCk 100 ≤ s.now))
      then s.endForming true else s) := rfl

theorem State.calMessage_echo {p : Nat} (c : Nat) (hm : s.hearsMsg = true) (hp : s.prmPresent p = true) (hl : s.grpLeader = false)
    (hph : s.grpPhase = 1 ∨ s.grpPhase = 2) : s.calMessage p c = s.sendMsg .cal [c, p] := by
  rw [State.calMessage, if_neg (by simp [hm, hp]), if_pos (by simp [hl]), if_pos (by simpa using hph)]

theorem State.calMessage_none {p : Nat} (c : Nat) (h : s.hearsMsg = false ∨ s.prmPresent p = false ∨
    (s.grpLeader = true ∧ s.grpPhase ≠ 2) ∨ (s.grpLeader = false ∧ s.grpPhase ≠ 1 ∧ s.grpPhase ≠ 2)) : s.calMessage p c = s := by
  obtain h | h | ⟨hl, h2⟩ | ⟨hl, h1, h2⟩ := h
  · exact if_pos (by simp [h])
  · exact if_pos (by simp [h])
  · rw [State.calMessage, if_neg (c := (!s.grpLeader) = true) (by simp [hl]),
      if_pos (c := (decide (s.grpPhase ≠ 2) || decide (16 ≤ (s.link p).trips.length)) = true) (by simp [h2]), ite_self]
  · rw [State.calMessage, if_pos (c := (!s.grpLeader) = true) (by simp [hl]),
      if_neg (c := (decide (s.grpPhase = 1) || decide (s.grpPhase = 2)) = true) (by simp [h1, h2]), ite_self]

theorem State.calMessage_trip {p : Nat} (c : Nat) (hm : s.hearsMsg = true) (hp : s.prmPresent p = true) (hl : s.grpLeader = true)
    (h2 : s.grpPhase = 2) (hlen : (s.link p).trips.length < 15) :
    s.calMessage p c = s.setLink p { s.link p with trips := (s.link p).trips ++ [s.grpCk - c] } := by
  have hmore : ((s.link p).trips ++ [s.grpCk - c]).length < 16 := by
    rw [List.length_append, List.length_singleton]
    omega
  rw [State.calMessage, if_neg (by simp [hm, hp]), if_neg (by simp [hl]), if_neg (by simp only [h2, Bool.or_eq_true, decide_eq_true_eq]; omega)]
  exact if_pos hmore

theorem State.formedMessage_follower {lat ck : Nat} (b l : W48) (hm : s.hearsMsg = true) (hl : s.grpLeader = false)
    (hph : s.grpPhase = 1 ∨ s.grpPhase = 2) : s.formedMessage lat ck b l =
      s.useFree.formed lat ck b l (s.free.toNat % 256) (s.free.toNat / 256 % 256) := by
  exact if_pos (by simpa [hm, hl] using hph)

/-- The registers of FORMED. -/
def State.formedRegs (s : State) (lat : Nat) (band line : W48) (bellIn ghold : Nat) : State :=
  (((s.setRegN aGrpLat (lat % 65536 * 65536 + bellIn % 256 * 256 + ghold % 256)).setReg48 aBelBandNum band).setReg48 aBelLineNum
    line).setGrpState 3

theorem State.formedRegs_holds {lat : Nat} (band line : W48) (bellIn ghold : Nat) (hs : s.canonical = true) :
    (s.formedRegs lat band line bellIn ghold).grpPhase = 3 ∧ (s.formedRegs lat band line bellIn ghold).bandNum = band ∧
      (s.formedRegs lat band line bellIn ghold).lineNum = line := by
  have h1 := (s.setRegN_frame aGrpLat (lat % 65536 * 65536 + bellIn % 256 * 256 + ghold % 256)).canonical hs
  have h2 := (State.setReg48_frame _ aBelBandNum band).canonical h1
  have h3 := (State.setReg48_frame _ aBelLineNum line).canonical h2
  refine ⟨State.grpPhase_setGrpState _ h3 (by decide), ?_, ?_⟩
  · exact (State.reg48_setGrpState_other _ 3 (by decide) (by decide)).trans
      ((State.reg48_setReg48_other _ _ _ _ (.inl (by decide))).trans (State.reg48_setReg48_same _ _ _ h1))
  · exact (State.reg48_setGrpState_other _ 3 (by decide) (by decide)).trans (State.reg48_setReg48_same _ _ _ h2)

theorem State.formed_holds {lat : Nat} (ck : Nat) (band line : W48) (bellIn ghold : Nat) (hs : s.canonical = true) :
    (s.formed lat ck band line bellIn ghold).grpPhase = 3 ∧ (s.formed lat ck band line bellIn ghold).bandNum = band ∧
      (s.formed lat ck band line bellIn ghold).lineNum = line := by
  have hreg : ∀ a, (s.formed lat ck band line bellIn ghold).reg a = (s.formedRegs lat band line bellIn ghold).reg a :=
    State.reg_congr rfl rfl
  obtain ⟨hphase, hband, hline⟩ := s.formedRegs_holds (lat := lat) band line bellIn ghold hs
  exact ⟨(congrArg (fld · 0 4) (hreg _)).trans hphase, (State.reg48_congr (hreg _) (hreg _)).trans hband,
    (State.reg48_congr (hreg _) (hreg _)).trans hline⟩

theorem State.startMessage_none {first : W48} (h : s.hearsMsg = false ∨ s.grpLeader = true ∨ s.grpPhase ≠ 3) :
    s.startMessage first = s := by
  refine if_pos ?_
  obtain h | h | h := h <;> simp [h]

theorem State.startMessage_follower (first : W48) (hm : s.hearsMsg = true) (hl : s.grpLeader = false) (hph : s.grpPhase = 3) :
    s.startMessage first = if s.runBit then s.restart first else
      (((s.setReg48 aBelBandNum first).setGrpState 4).updGrp (fun g => { g with running := true, startBand := none })).openStream :=
  if_neg (by simp [hm, hl, hph])

/-- A stream that opens leaves the registers but BEL_CTRL and H. -/
theorem State.regsBut_openStream : RegsBut s s.openStream [aBelCtrl, aBelEncHwm, aBelEncHwm + 4] :=
  fun a ha => by
    have hctrl := s.regsBut_setBits aBelCtrl 0x100 a (by simp at ha ⊢; omega)
    have hhwm := State.regsBut_setReg48 (s.setBits aBelCtrl 0x100) aBelEncHwm s.posP a (by simp at ha ⊢; omega)
    exact hhwm.trans hctrl

end Lemmas

/-- Settles O44, by the role of the member and the phase of its group. -/
theorem groupForming : Obligations.GroupForming := by
  unfold Obligations.GroupForming
  refine ⟨fun s hs hm hph => ?form, fun s h => ?formNone, fun m f s hm hp hl => ?hello, fun m f s h => ?helloNone,
    fun m f s hs hm hp hl hmiss => ?helloWaits, fun f s hs hm hp hl hc hslot => ?reforms,
    fun p c s hm hp hl hph => ?echo, fun p c s h => ?calNone, fun p c s hs hm hp hl h2 hlen => ?trip,
    fun lat ck b l s hs hm hl hph => ?formed, fun lat ck b l ms s h => ?formedNone, fun ms s hm hl hph => ?refused,
    fun first s hs hm hl hph hrun => ?restart, fun first s hs hm hl hph hrun => ?opens, fun first s h => ?startNone,
    fun t0 s hform hl hph => ⟨fun hearly => ?early, fun hdue => ?timeout⟩, fun s hm hl hph hb hc hempty => ?reform,
    fun s h => ?timeoutNone, fun s h => ?reformNone⟩
  case form =>
    obtain ⟨links, out, h⟩ := s.startForming_eq
    refine ⟨_, s.exec_grpForm.trans (congrArg _ (s.form_starts hm hph)), ?_,
      (congrArg (fld · 0 4) (s.reg_startForming hs)).trans (fld_formWord _), ?_, ?_⟩
    · rw [h]
    · exact congrArg (fun t : State => t.grp.formAt) h
    · exact congrArg (fun t : State => t.grp.hello) h
  case formNone => exact s.exec_grpForm.trans (congrArg _ (s.form_none h))
  case hello =>
    refine ⟨_, (s.exec_msgHello m f).trans (congrArg _ ((s.helloMessage_forming f hm hp).trans (if_neg (ne_true_of_eq_false hl)))),
      s.heardHello_eq m.val f, s.mem_heardHello m.val f, ?_⟩
    rw [s.heardHello_grp m.val f]
  case helloNone => exact (s.exec_msgHello m f).trans (congrArg _ (s.helloMessage_none f h))
  case helloWaits =>
    obtain ⟨k, hk, hown, hkm, hno⟩ := hmiss
    have hreg := s.reg_heardHello m.val f
    have hwait : (s.heardHello m.val f).helloIn = s.heardHello m.val f := by
      refine State.helloIn_waits _ (k := k) (hk.trans_eq (congrArg (fld · 16 8) hreg).symm)
        (fun h => hown (h.trans (congrArg (fld · 8 8) hreg))) (fun e he => ?_)
      rw [s.heardHello_grp m.val f, List.mem_append, List.mem_singleton] at he
      obtain he | rfl := he
      · exact hno e (List.mem_of_mem_filter he)
      · exact hkm.symm
    exact ⟨_, (s.exec_msgHello m f).trans (congrArg _ ((s.helloMessage_forming f hm hp).trans ((if_pos hl).trans hwait))),
      s.heardHello_eq m.val f, s.mem_heardHello m.val f, (congrArg (fld · 0 4) hreg).trans hp⟩
  case reforms =>
    have hslot0 : s.ownHello.slot ≠ 0 := fun h => hslot (by rw [h])
    obtain ⟨links, out, h⟩ := s.startForming_eq
    refine ⟨_, (s.exec_msgHello 0 f).trans (congrArg _ (s.helloMessage_reforms f hs hm hp hl hc hslot0)), ?_, ?_, ?_⟩
    · rw [s.startForming.heardHello_eq 0 f, h]
    · exact (congrArg (fld · 0 4) (s.startForming.reg_heardHello 0 f)).trans
        ((congrArg (fld · 0 4) (s.reg_startForming hs)).trans (fld_formWord _))
    · rw [s.startForming.heardHello_grp 0 f, h]
      rfl
  case echo => exact (s.exec_msgCal p c).trans (congrArg _ (s.calMessage_echo c.toNat hm hp hl hph))
  case calNone => exact (s.exec_msgCal p c).trans (congrArg _ (s.calMessage_none c.toNat h))
  case trip =>
    exact ⟨_, (s.exec_msgCal p c).trans (congrArg _ (s.calMessage_trip c.toNat hm hp hl h2 hlen)), rfl,
      congrArg Link.trips (s.link_setLink_same _ _ (s.canonical_link hs))⟩
  case formed =>
    obtain ⟨hphase, hband, hline⟩ := s.useFree.formed_holds (lat := lat) ck.toNat b l (s.free.toNat % 256) (s.free.toNat / 256 % 256) hs
    refine ⟨_, (s.exec_msgFormed lat ck b l).trans (congrArg _ (s.formedMessage_follower b l hm hl hph)), rfl, hphase, hband, hline,
      ?_, rfl⟩
    change ((s.now : Int) + ((ck.toNat : Int) - (s.now : Int))).toNat = ck.toNat
    omega
  case formedNone =>
    have hno : ¬ (s.hearsMsg && !s.grpLeader && (s.grpPhase = 1 || s.grpPhase = 2)) = true := by
      obtain h | h | ⟨h1, h2⟩ := h
      · simp [h]
      · simp [h]
      · simp [h1, h2]
    exact ⟨congrArg _ (if_neg hno), (s.exec_msgRefused ms).trans (congrArg _ (if_neg hno))⟩
  case refused => exact (s.exec_msgRefused ms).trans (congrArg _ (if_pos (by simpa [hm, hl] using hph)))
  case restart =>
    exact ⟨_, (s.exec_msgStart first).trans (congrArg _ ((s.startMessage_follower first hm hl hph).trans (if_pos hrun))), rfl,
      s.grpPhase_setGrpState hs (by decide), rfl, rfl⟩
  case opens =>
    have hband := (s.setReg48_frame aBelBandNum first).canonical hs
    have hopen := State.regsBut_openStream (((s.setReg48 aBelBandNum first).setGrpState 4).updGrp
      (fun g => { g with running := true, startBand := none }))
    refine ⟨_, (s.exec_msgStart first).trans (congrArg _ ((s.startMessage_follower first hm hl hph).trans
      (if_neg (ne_true_of_eq_false hrun)))), ?_, rfl, rfl, ?_, rfl⟩
    · exact (congrArg (fld · 0 4) ((hopen aGrpState (by decide)).trans (State.reg_congr (t := ((s.setReg48 aBelBandNum first).setGrpState 4).updGrp
        (fun g => { g with running := true, startBand := none })) rfl rfl _))).trans (State.grpPhase_setGrpState _ hband (by decide))
    · exact (State.reg48_congr (hopen aBelBandNum (by decide)) (hopen (aBelBandNum + 4) (by decide))).trans
        ((State.reg48_setGrpState_other _ 4 (by decide) (by decide)).trans (s.reg48_setReg48_same _ _ hs))
  case startNone => exact (s.exec_msgStart first).trans (congrArg _ (s.startMessage_none h))
  case early =>
    refine s.exec_formingTimeout.trans (congrArg _ (if_neg ?_))
    rw [hform, Option.any_some, decide_eq_false (Nat.not_le.2 hearly), Bool.and_false]
    exact Bool.false_ne_true
  case timeout =>
    refine s.exec_formingTimeout.trans (congrArg _ (if_pos ?_))
    rw [hform, Option.any_some, decide_eq_true hdue, Bool.and_true, hl, Bool.true_and]
    simpa using hph
  case reform => exact s.exec_autoReform.trans (congrArg _ (if_pos (by simp [hm, hl, hph, hb, hc, hempty])))
  case timeoutNone =>
    refine s.exec_formingTimeout.trans (congrArg _ (if_neg ?_))
    obtain h | ⟨h1, h2⟩ := h
    · simp [h]
    · simp [h1, h2]
  case reformNone =>
    refine s.exec_autoReform.trans (congrArg _ (if_neg ?_))
    obtain h | h | h | h | h | h := h <;> simp [h]

end Sys2Proof.Machine
end

section
/-!
PROOF. Ticks, bells, stream ends, changeover messages and PTP of a group's follower (13 R594-R600, R604, R605, R611-R613).
-/
namespace Sys2Proof.Machine

section Lemmas
variable (s : State)

/-! ## Pulses and TICK messages (R594-R597) -/

theorem State.exec_bellInEdge : exec .bellInEdge s = .next (if s.isFollower && s.srcSel == 1 then
    s.updGrp (fun g => { g with pulses := g.pulses ++ [⟨s.grpCk / 64 * 64, s.now, none⟩] }) else s) := rfl
theorem State.exec_msgTick (slot : DWord) (line pos hwm : W48) :
    exec (.msgTick slot line pos hwm) s = .next (s.tickMessage ⟨slot, line, pos, hwm, s.now⟩) := rfl
theorem State.exec_groupTickApply : exec .groupTickApply s = .next s.groupTick := rfl
theorem State.exec_tickMismatchTimeout : exec .tickMismatchTimeout s = .next s.tickMismatch := rfl

theorem State.strobePin_none (h : W48) (m : Nat) (hn : s.gth.strobes = []) : s.strobePin h m = s := by
  have hof : s.strobesOf m = [] := congrArg (Tab.at_ [] · m) hn
  have hset : s.setStrobes m [] = s := by
    unfold State.setStrobes
    rw [show Tab.set_ [] s.gth.strobes m [] = s.gth.strobes by rw [hn]; rfl]
  rw [State.strobePin, hof]
  exact hset

/-- With no strobe scheduled, the strobes change nothing. -/
theorem State.strobesAll_none (hn : s.gth.strobes = []) : s.strobesAll = s :=
  List.foldlRecOn _ _ (motive := fun t : State => t = s) rfl (fun t ht m _ => by
    rw [ht]
    exact s.strobePin_none _ m hn)

theorem State.tickMessage_off (m : TickMsg) (h : s.isFollower = false) : s.tickMessage m = s := if_pos h

theorem State.tickMessage_early (m : TickMsg) (h : s.isFollower = true) (hn : s.gth.strobes = []) (hp : s.grp.pulses = []) :
    s.tickMessage m = s.updGrp (fun g => { g with hwm := m.hwm, ticks := g.ticks ++ [m] }) := by
  rw [State.tickMessage, if_neg (by rw [h]; decide), State.strobesAll_none (s.updGrp (fun g => { g with hwm := m.hwm })) hn]
  dsimp only [State.updGrp]
  rw [hp]
  rfl

theorem State.tickMessage_fills {q : Pulse} {old : W48} (m : TickMsg) (h : s.isFollower = true) (hn : s.gth.strobes = [])
    (hp : s.grp.pulses = [q]) (hq : q.slot = m.slot.toNat) (ha : q.applied = some old) : s.tickMessage m =
      ((s.updGrp (fun g => { g with hwm := m.hwm })).fillStamp old m).updGrp (fun g => { g with pulses := [] }) := by
  rw [State.tickMessage, if_neg (by rw [h]; decide), State.strobesAll_none (s.updGrp (fun g => { g with hwm := m.hwm })) hn]
  dsimp only [State.updGrp]
  rw [hp, List.find?_cons_of_pos (by simp [hq, ha])]
  dsimp only
  rw [ha]
  unfold State.fillStamp
  simp

section Tick
variable {q : Pulse} (hp : s.grp.pulses = [q]) (ha : q.applied = none)
include hp

theorem State.groupTick_waits (h : s.grpCk < q.slot + 64 ∨ q.applied ≠ none ∨ s.grp.running = false) : s.groupTick = s := by
  rw [State.groupTick, hp]
  by_cases ha : q.applied = none
  · rw [List.find?_cons_of_pos (by simp [ha])]
    refine if_pos ?_
    obtain h | h | h := h
    · simp [h]
    · exact absurd ha h
    · simp [h]
  · rw [List.find?_cons_of_neg (by simpa using ha)]
    rfl

include ha

variable (hr : s.grp.running = true) (hdue : q.slot + 64 ≤ s.grpCk)
include hr hdue

/-- A tick past the stream's last band is dropped. -/
theorem State.groupTick_past (hfit : s.tickFits = false) : s.groupTick =
    s.updGrp (fun g => { g with pulses := [], ticks := g.ticks.filter (fun m => m.slot.toNat != q.slot) }) := by
  rw [State.groupTick, hp, List.find?_cons_of_pos (by simp [ha])]
  refine ((if_neg (by simp [hr, hdue])).trans (if_pos hfit)).trans ?_
  simp [State.updGrp, hp]

theorem State.groupTick_message {m : TickMsg} (hfit : s.tickFits = true)
    (hm : s.grp.ticks.find? (fun m => m.slot.toNat == q.slot) = some m) : s.groupTick =
      (s.updGrp (fun g => { g with pulses := [], ticks := g.ticks.filter (fun x => x.slot != m.slot) })).applyTick m.line m.pos := by
  rw [State.groupTick, hp, List.find?_cons_of_pos (by simp [ha])]
  refine ((if_neg (by simp [hr, hdue])).trans (if_neg (by simp [hfit]))).trans ?_
  rw [hm]
  simp [State.updGrp, hp]

theorem State.groupTick_own (hfit : s.tickFits = true) (hm : s.grp.ticks.find? (fun m => m.slot.toNat == q.slot) = none) :
    s.groupTick = (s.updGrp (fun g => { g with pulses := [{ q with applied := some s.lineNum }] })).applyTick s.lineNum 0 := by
  rw [State.groupTick, hp, List.find?_cons_of_pos (by simp [ha])]
  refine ((if_neg (by simp [hr, hdue])).trans (if_neg (by simp [hfit]))).trans ?_
  rw [hm]
  simp [State.updGrp, hp]

end Tick

/-! ## Mismatches (R597-R599, R615) -/

theorem State.bellMismatch_begins (mask : Nat) (hr : s.grp.running = true) (ha : s.contain.active = false) (ht : s.sup.t0 = none) :
    (s.bellMismatch mask).contain.active = true ∧ (s.bellMismatch mask).contain.code = 0x0502 := by
  rw [State.bellMismatch, if_pos hr]
  exact State.faultContain_begins (s.count aBellMismatch 1) _ ha ht

theorem State.tickMismatch_none (hp : s.grp.pulses = []) (ht : s.grp.ticks = []) : s.tickMismatch = s :=
  if_neg (by simp [hp, ht])

theorem State.tickMismatch_pulse {q : Pulse} (hr : s.grp.running = true) (hp : s.grp.pulses = [q]) (ht : s.grp.ticks = [])
    (hlate : q.at_ + 2 * s.bcastLat ≤ s.now) :
    s.tickMismatch = ({ s with grp := { s.grp with pulses := [] } } : State).bellMismatch 0 := by
  rw [State.tickMismatch]
  refine (if_pos (by simp [hr, hp, ht, hlate])).trans ?_
  simp [State.updGrp, hp, ht, hlate]

theorem State.tickMismatch_message {m : TickMsg} (hr : s.grp.running = true) (hp : s.grp.pulses = []) (ht : s.grp.ticks = [m])
    (hlate : m.at_ + 2 * s.bcastLat ≤ s.now) :
    s.tickMismatch = ({ s with grp := { s.grp with ticks := [] } } : State).bellMismatch 0 := by
  rw [State.tickMismatch]
  refine (if_pos (by simp [hr, hp, ht, hlate])).trans ?_
  simp [State.updGrp, hp, ht, hlate]

/-! ## BELL and STREAM_END messages (R598-R600, R604) -/

theorem State.exec_msgBell (m : BellMsg) : exec (.msgBell m) s = .next (s.bellMessage m) := rfl
theorem State.exec_msgStreamEnd (b : W48) (aborted : Bool) : exec (.msgStreamEnd b aborted) s = .next (s.streamEndMessage b aborted) := rfl

theorem State.bellMessage_off (m : BellMsg) (h : s.isFollower = false) : s.bellMessage m = s := if_pos h

theorem State.bellMessage_plain {m : BellMsg} (h : s.isFollower = true) (hd : m.decision ≠ .reversed) : s.bellMessage m =
    match s.grp.ownBells with
    | [] => s.bellMismatch 0x3B
    | own :: rest => if bellDiff own m = 0 then ({ s with grp := { s.grp with ownBells := rest } } : State)
        else ({ s with grp := { s.grp with ownBells := rest } } : State).bellMismatch (bellDiff own m) := by
  rw [State.bellMessage, if_neg (by rw [h]; decide), if_neg hd]
  rfl

theorem State.bellMessage_reversed {m : BellMsg} (h : s.isFollower = true) (hd : m.decision = .reversed) :
    s.bellMessage m = s.followReversal m := by
  rw [State.bellMessage, if_neg (by rw [h]; decide), if_pos hd]

theorem State.dropAfter_none {b : W48}
    (h : s.bell.bands.filter (fun r => w48lt b r.num && r.verdict.isNone && r.phase != .inFlight) = []) : s.dropAfter b = s :=
  if_pos (List.isEmpty_iff.2 h)

theorem State.streamEndMessage_off (b : W48) (ab : Bool) (h : s.isFollower = false) : s.streamEndMessage b ab = s :=
  if_pos (by simp [h])

section StreamEnd
variable {b : W48} (h : s.isFollower = true)
  (hnone : s.bell.bands.filter (fun r => w48lt b r.num && r.verdict.isNone && r.phase != .inFlight) = [])
include h hnone

theorem State.streamEndMessage_ends (hph : s.bell.phase = .running) : s.streamEndMessage b false =
    s.endStreamAt (if s.bandNum = b ∧ s.assembling = none then b - 1 else b) := by
  rw [State.streamEndMessage, if_neg (by simp [h, hph]), s.dropAfter_none hnone]
  simp

theorem State.streamEndMessage_aborts {r : BandRec} (hph : s.bell.phase = .running ∨ s.bell.phase = .ending)
    (hr : s.bell.bands.find? (fun r => r.num == b && r.verdict.isNone) = some r) (hphase : r.phase = .assembling ∨ r.phase = .waiting) :
    s.streamEndMessage b true = if r.phase = .assembling then (s.dropAssembly ⟨2, 0, 0⟩).endStreamAt (b - 1)
      else (s.dropWaiting r ⟨2, 0, 0⟩).endStreamAt (b - 1) := by
  have hgo : ¬ (!s.isFollower || !(s.bell.phase == .running || (true && s.bell.phase == .ending))) = true := by
    obtain hph | hph := hph <;> simp [h, hph]
  rw [State.streamEndMessage, if_neg hgo, s.dropAfter_none hnone]
  dsimp only
  rw [if_pos rfl, hr]
  obtain hphase | hphase := hphase <;> simp [hphase]

end StreamEnd

/-! ## ARMED, SWAP and PTP (R605, R611-R613) -/

theorem State.exec_msgArmed (m : Member) (d : BitVec 256) : exec (.msgArmed m d) s = .next (if s.hearsMsg && s.grp.running then
    (s.updGrp (fun g => { g with armed := g.armed.filter (fun e => e.1 != m.val) ++ [(m.val, d)] })).tryArm else s) := rfl
theorem State.exec_msgSwap (b : W48) (d : BitVec 256) : exec (.msgSwap b d) s =
    .next (if s.isFollower && s.loadState = 3 && s.loadMode && s.groupDigest = d then
      s.updLoad (fun l => { l with armed := some b, swapWanted := none }) else s) := rfl
theorem State.exec_msgPtp (ck time : DWord) : exec (.msgPtp ck time) s = .next (s.ptpMessage ck.toNat time.toNat) := rfl
theorem State.exec_ptpBroadcastTimer : exec .ptpBroadcastTimer s = .next s.ptpBroadcast := rfl

theorem State.tryArm_unwanted (h : s.load.swapWanted = none) : s.tryArm = s := by
  rw [State.tryArm, h]

/-- The leader's time at a ck, against its own (R611). -/
def State.ptpDiff (s : State) (ck time : Nat) : Int := ((s.ptpAt (s.now - (s.grpCk - ck))).toNat : Int) - (time : Int)

theorem State.ptpMessage_off (ck time : Nat) (h : s.isFollower = false) : s.ptpMessage ck time = s := if_pos h

theorem State.ptpMessage_follower (ck time : Nat) (h : s.isFollower = true) : s.ptpMessage ck time =
    (s.setRegN aPtpOffset (wrap 32 (clampS 32 (s.ptpDiff ck time)))).offsetEpisode (s.ptpDiff ck time) :=
  if_neg (by rw [h]; decide)

theorem wrap_lt (n : Nat) (v : Int) : wrap n v < 2 ^ n := by
  have hpos : (0 : Int) < ((2 ^ n : Nat) : Int) := by exact_mod_cast Nat.two_pow_pos n
  have h0 := Int.emod_nonneg v hpos.ne'
  have hlt := Int.emod_lt_of_pos v hpos
  unfold wrap
  omega

theorem State.offsetEpisode_goes {ns : Int} (h : s.ptp.episode = true) :
    s.offsetEpisode ns = { s with ptp := { s.ptp with episode := decide (1000 < ns.natAbs) } } :=
  if_neg (by simp [h])

theorem State.offsetEpisode_begins {ns : Int} (h : s.ptp.episode = false) (hbig : 1000 < ns.natAbs) : ∃ e : ErrInfo,
    s.offsetEpisode ns = ({ s with ptp := { s.ptp with episode := true } } : State).emit e := by
  refine ⟨{ err 0x0508 with d0 := wrap 64 ns }, ?_⟩
  rw [State.offsetEpisode, decide_eq_true hbig]
  exact if_pos (by simp [h])

end Lemmas

/-- Settles O45, by what of a pulse and its message has come, and by each message of the leader. -/
theorem groupTicksAndBells : Obligations.GroupTicksAndBells := by
  unfold Obligations.GroupTicksAndBells
  refine ⟨fun s h hsrc => ?pulse, fun slot l p hw m b ab d s h => ?alone, fun slot l p hw s h hn hp => ?tick,
    fun q m u s hp ha hr hdue hu => ⟨fun hfit ht hm => ?both, fun hfit ht hm => ?past, fun hfit ht => ?own⟩,
    fun q s hp h => ?waits, fun s h hsrc => ?otherSource, fun slot l p hw old q s h hn hp hq ha => ?fills,
    fun s hp ht => ?noMismatch, fun q s hr hp ht hlate => ?lonePulse, fun m s hr hp ht hlate => ?loneTick,
    fun own m rest s h hd hown => ⟨fun hsame => ?agrees, fun hdiff => ?differs⟩, fun m s h hd hown => ?noBell,
    fun m s h hd hasm => ?reversed, fun m r s h hd hasm hnum => ?reversedHere, fun mask s hr ha ht => ?mismatch,
    fun b s h hph hnone => ?streamEnds,
    fun b r s h hph hnone hr => ⟨fun hasm => ?abortsAssembly, fun hwait => ?abortsWaiting⟩,
    fun m d s hm hr hw => ?armed, fun b d s h => ?swapNone, fun m d s h => ?armedNone, fun ck time s hs h hep hbig => ?ptpBegins,
    fun b s h hst hmode => ?swap, fun ck time s hs h hep => ?ptp, fun t0 s hlast hearly => ?ptpEarly,
    fun s hr hl hlast => ?ptpSends, fun s h => ?ptpNone⟩
  case pulse => exact ⟨_, s.exec_bellInEdge.trans (congrArg _ (if_pos (by simp [h, hsrc]))), rfl, rfl, rfl⟩
  case alone =>
    exact ⟨(s.exec_msgTick slot l p hw).trans (congrArg _ (s.tickMessage_off _ h)),
      s.exec_bellInEdge.trans (congrArg _ (if_neg (by simp [h]))), (s.exec_msgBell b).trans (congrArg _ (s.bellMessage_off b h)),
      (s.exec_msgStreamEnd m ab).trans (congrArg _ (s.streamEndMessage_off m ab h)),
      (s.exec_msgSwap m d).trans (congrArg _ (if_neg (by simp [h]))),
      (s.exec_msgPtp slot slot).trans (congrArg _ (s.ptpMessage_off _ _ h))⟩
  case tick =>
    exact ⟨_, (s.exec_msgTick slot l p hw).trans (congrArg _ (s.tickMessage_early _ h hn hp)), rfl, rfl, rfl⟩
  case both =>
    have hfind : s.grp.ticks.find? (fun m => m.slot.toNat == q.slot) = some m := by
      rw [ht, List.find?_cons_of_pos (by simp [hm])]
    rw [s.exec_groupTickApply, s.groupTick_message hp ha hr hdue hfit hfind, hu]
    simp [State.updGrp, ht]
  case past =>
    rw [s.exec_groupTickApply, s.groupTick_past hp ha hr hdue hfit, hu]
    simp [State.updGrp, ht, hm]
  case own =>
    have hfind : s.grp.ticks.find? (fun m => m.slot.toNat == q.slot) = none := by
      rw [ht]
      rfl
    exact s.exec_groupTickApply.trans (congrArg _ (s.groupTick_own hp ha hr hdue hfit hfind))
  case waits => exact s.exec_groupTickApply.trans (congrArg _ (s.groupTick_waits hp h))
  case otherSource => exact s.exec_bellInEdge.trans (congrArg _ (if_neg (by simp [hsrc])))
  case fills =>
    refine ⟨_, (s.exec_msgTick slot l p hw).trans (congrArg _ (s.tickMessage_fills _ h hn hp hq ha)), rfl, rfl, rfl, rfl,
      fun x hx hline => ?_⟩
    exact List.mem_map.2 ⟨x, hx, if_pos hline⟩
  case noMismatch => exact s.exec_tickMismatchTimeout.trans (congrArg _ (s.tickMismatch_none hp ht))
  case lonePulse => exact ⟨_, rfl, s.exec_tickMismatchTimeout.trans (congrArg _ (s.tickMismatch_pulse hr hp ht hlate))⟩
  case loneTick => exact s.exec_tickMismatchTimeout.trans (congrArg _ (s.tickMismatch_message hr hp ht hlate))
  case agrees =>
    refine ⟨_, (s.exec_msgBell m).trans (congrArg _ (s.bellMessage_plain h hd)), ?_⟩
    rw [hown]
    exact if_pos hsame
  case differs =>
    rw [s.exec_msgBell, s.bellMessage_plain h hd, hown]
    exact congrArg _ (if_neg hdiff)
  case noBell =>
    rw [s.exec_msgBell, s.bellMessage_plain h hd, hown]
  case reversed =>
    rw [s.exec_msgBell, s.bellMessage_reversed h hd, State.followReversal, hasm]
  case reversedHere =>
    rw [s.exec_msgBell, s.bellMessage_reversed h hd, State.followReversal, hasm]
    exact congrArg _ (if_pos hnum)
  case mismatch => exact s.bellMismatch_begins mask hr ha ht
  case streamEnds => exact (s.exec_msgStreamEnd b false).trans (congrArg _ (s.streamEndMessage_ends h hnone hph))
  case abortsAssembly =>
    rw [s.exec_msgStreamEnd, s.streamEndMessage_aborts h hnone hph hr (.inl hasm), if_pos hasm]
  case abortsWaiting =>
    rw [s.exec_msgStreamEnd, s.streamEndMessage_aborts h hnone hph hr (.inr hwait), if_neg (by rw [hwait]; decide)]
  case armed =>
    exact ⟨_, (s.exec_msgArmed m d).trans (congrArg _ ((if_pos (by simp [hm, hr])).trans (State.tryArm_unwanted _ hw))), rfl,
      List.mem_append_right _ (List.mem_singleton_self _)⟩
  case swapNone =>
    refine (s.exec_msgSwap b d).trans (congrArg _ (if_neg ?_))
    obtain h | h | h := h <;> simp [h]
  case armedNone =>
    refine (s.exec_msgArmed m d).trans (congrArg _ (if_neg ?_))
    obtain h | h := h <;> simp [h]
  case ptpBegins =>
    obtain ⟨e, he⟩ := (s.setRegN aPtpOffset (wrap 32 (clampS 32 (s.ptpDiff ck.toNat time.toNat)))).offsetEpisode_begins hep hbig
    refine ⟨_, (s.exec_msgPtp ck time).trans (congrArg _ ((s.ptpMessage_follower _ _ h).trans he)),
      congrArg PtpState.episode ((State.emit_frame _ e).ptp rfl), State.emit_errSeq _ e, ?_⟩
    exact (congrArg BitVec.toNat (State.regsBut_emit _ e aPtpOffset (by decide))).trans
      (s.regN_setRegN_same _ _ hs (wrap_lt 32 _))
  case swap => exact ⟨_, (s.exec_msgSwap b _).trans (congrArg _ (if_pos (by simp [h, hst, hmode]))), rfl⟩
  case ptp =>
    exact ⟨_, (s.exec_msgPtp ck time).trans (congrArg _ ((s.ptpMessage_follower _ _ h).trans (State.offsetEpisode_goes _ hep))), rfl,
      s.regsBut_setRegN _ _, rfl, s.regN_setRegN_same _ _ hs (wrap_lt 32 _)⟩
  case ptpEarly =>
    rw [s.exec_ptpBroadcastTimer, State.ptpBroadcast, hlast, Option.all_some, decide_eq_false (Nat.not_le.2 hearly), Bool.and_false,
      if_neg Bool.false_ne_true]
  case ptpSends => exact ⟨_, s.exec_ptpBroadcastTimer.trans (congrArg _ (if_pos (by simp [hr, hl, hlast]))), rfl, rfl⟩
  case ptpNone =>
    refine s.exec_ptpBroadcastTimer.trans (congrArg _ (if_neg ?_))
    obtain h | h := h <;> simp [h]

end Sys2Proof.Machine
end

section
/-!
PROOF. Holds and faults across a group, MODE and LEAVE (13 R601-R603, R606, R614, R615, R620).
-/
namespace Sys2Proof.Machine

section Lemmas
variable (s : State)

/-! ## GHOLD_N (R601-R603) -/

theorem State.exec_gholdNFall : exec .gholdNFall s = .next (s.gholdEdge true) := rfl
theorem State.exec_gholdNRise : exec .gholdNRise s = .next (s.gholdEdge false) := rfl
theorem State.exec_groupFreeze : exec .groupFreeze s = .next (s.gholdApply true) := rfl
theorem State.exec_groupResume : exec .groupResume s = .next (s.gholdApply false) := rfl
theorem State.exec_gholdStuck : exec .gholdStuck s = .next s.gholdStuck := rfl

theorem State.gholdEdge_sensed {low : Bool} (hr : s.grp.running = true) (hm : s.hearsMsg = true) (h : s.grp.gholdLow ≠ low) :
    s.gholdEdge low = s.updGrp (fun g => { g with gholdLow := low, gholdEdges := g.gholdEdges ++ [(s.grpCk / 64 * 64, low)],
                                                  gholdSince := if low then s.now else g.gholdSince }) :=
  if_pos (by simp [hr, hm, h])

theorem State.gholdApply_due {b : Nat} {low : Bool} {rest : List (Nat × Bool)} (he : s.grp.gholdEdges = (b, low) :: rest)
    (hdue : b + 64 ≤ s.grpCk) :
    s.gholdApply low = (s.setFrozen low s.hold.edges).updGrp (fun g => { g with gholdEdges := rest }) := by
  rw [State.gholdApply, he]
  exact if_pos (by simp [hdue])

theorem State.gholdApply_early {b : Nat} {v low : Bool} {rest : List (Nat × Bool)} (he : s.grp.gholdEdges = (b, v) :: rest)
    (hearly : s.grpCk < b + 64) : s.gholdApply low = s := by
  rw [State.gholdApply, he]
  exact if_neg (by simp [hearly])

theorem State.gholdStuck_high (h : s.grp.gholdLow = false) : s.gholdStuck = s := if_neg (by simp [h])

/-! ## FAULT and messages that do not come (R606, R614, R615) -/

theorem State.exec_msgFault (code : BitVec 16) (m : Member) (ck : DWord) (h : Bool) :
    exec (.msgFault code m ck h) s = .next (s.remoteFault code.toNat m.val) := rfl
theorem State.exec_controlMessageTimeout (k : Fin 16) : exec (.controlMessageTimeout k) s = .next (s.messageTimeout k.val) := rfl

theorem State.remoteFault_off {code slot : Nat} (h : s.grp.running = false ∨ s.hearsMsg = false) : s.remoteFault code slot = s := by
  refine if_pos ?_
  obtain h | h := h <;> simp [h]

theorem State.remoteFault_again {code slot : Nat} (hr : s.grp.running = true) (hm : s.hearsMsg = true)
    (ha : s.contain.active = true) : s.remoteFault code slot = s.lowerSlot code slot := by
  rw [State.remoteFault, if_neg (by simp [hr, hm]), if_pos ha]

theorem State.remoteFault_first {code slot : Nat} (hr : s.grp.running = true) (hm : s.hearsMsg = true)
    (ha : s.contain.active = false) : ∃ e : ErrInfo, s.remoteFault code slot = (s.emit e).containBy code slot := by
  refine ⟨{ err 0x0507 with loc := hubLoc 0 1, d0 := slot * 2 ^ 16 + code }, ?_⟩
  rw [State.remoteFault, if_neg (by simp [hr, hm]), if_neg (ne_true_of_eq_false ha)]

/-- The first fault that a member of a running group learns of is the group's cause. -/
theorem State.groupCause_first {code : Nat} (hr : s.grp.running = true) (hn : s.contain.groupCode = none) :
    s.groupCause code = some (BitVec.ofNat 16 code) := by
  rw [State.groupCause, if_pos hr, hn]
  rfl

theorem State.lowerSlot_takes {code slot : Nat} {g : BitVec 16} (hg : s.contain.groupCode = some g) (hat : s.contain.at_ = s.now)
    (hlow : slot < fld (s.reg aGrpFaultCode) 0 3) :
    (s.lowerSlot code slot).contain = { s.contain with groupCode := some (BitVec.ofNat 16 code) } ∧
      (s.lowerSlot code slot).tiles = s.tiles := by
  rw [State.lowerSlot, if_pos (by simp [hg, hat, hlow])]
  exact ⟨rfl, rfl⟩

theorem State.lowerSlot_keeps {code slot : Nat} (h : s.contain.at_ ≠ s.now ∨ fld (s.reg aGrpFaultCode) 0 3 ≤ slot) :
    s.lowerSlot code slot = s := by
  refine if_neg ?_
  obtain h | h := h <;> simp [h]

theorem State.messageTimeout_alone {k : Nat} (h : s.grp.running = false) : s.messageTimeout k = s := by
  have hfault : ∀ e, s.groupFault e = s := fun e => if_neg (ne_true_of_eq_false h)
  rw [State.messageTimeout]
  dsimp only
  rw [hfault, ite_self]

/-- A message of kind `k` is missed: of a BELL, the own bell tells. -/
def State.msgMissed (s : State) (k : Nat) : Bool :=
  if k = 7 then s.grp.ownBells.head?.any (fun m => decide (m.grpCk.toNat + 2 * s.bcastLat ≤ s.grpCk)) else 1 ≤ k && k ≤ 12

theorem State.messageTimeout_eq (k : Nat) : s.messageTimeout k =
    if s.msgMissed k && s.hearsMsg then s.groupFault { err 0x0503 with loc := hubLoc 0 1, d0 := k } else s := rfl

theorem State.groupFault_begins (e : ErrInfo) (hr : s.grp.running = true) (ha : s.contain.active = false) (ht : s.sup.t0 = none) :
    (s.groupFault e).contain.active = true ∧ (s.groupFault e).contain.code = BitVec.ofNat 16 e.code := by
  rw [State.groupFault, if_pos hr]
  exact s.faultContain_begins e ha ht

/-! ## MODE and LEAVE (R620) -/

theorem State.exec_grpLeave : exec .grpLeave s = .next s.leave := rfl
theorem State.exec_prmModeWrite (mode : Bool) : exec (.prmModeWrite mode) s = .next (s.writePrmMode mode) := rfl

theorem State.leave_absent (h : s.ident.prmPorts = 0) : s.leave = s := if_pos (by simp [h])

theorem State.leave_refused (h : s.ident.prmPorts ≠ 0) (hr : s.grp.running = true ∨ s.runBit = true) : s.leave = s.cfgIgnored := by
  rw [State.leave, if_neg (by simp [h]), if_pos (by simpa using hr)]

/-- A device outside any group. -/
def State.independent (s : State) : State :=
  ((s.clrBits aGrpCtrl 1).setReg aGrpState 0).updGrp (fun g => { g with hello := [], formAt := none })

theorem State.leave_clears (h : s.ident.prmPorts ≠ 0) (hr : s.grp.running = false) (hrun : s.runBit = false) :
    s.leave = s.independent := by
  rw [State.leave, if_neg (by simp [h]), if_neg (by simp [hr, hrun])]
  rfl

theorem State.independent_holds (hs : s.canonical = true) : s.independent.grpMode = false ∧ s.independent.reg aGrpState = 0 ∧
    RegsBut s s.independent [aGrpCtrl, aGrpState] := by
  have hregs : ∀ a, s.independent.reg a = ((s.clrBits aGrpCtrl 1).setReg aGrpState 0).reg a := State.reg_congr rfl rfl
  have hclr := (s.clrBits_frame aGrpCtrl 1).canonical hs
  refine ⟨?_, (hregs _).trans (State.reg_setReg_same _ _ _ (State.canonical_regs _ hclr)), fun a ha => ?_⟩
  · rw [State.grpMode, hregs, State.reg_setReg_other _ _ _ _ (by decide), State.clrBits, s.reg_setReg_same _ _ (s.canonical_regs hs)]
    simp [bit_get]
  · simp only [List.mem_cons, List.not_mem_nil, or_false, not_or] at ha
    rw [hregs, State.reg_setReg_other _ _ _ _ ha.2, State.clrBits, s.reg_setReg_other _ _ _ ha.1]

theorem State.writePrmMode_same {mode : Bool} (h : mode = s.grpMode ∨ s.ident.prmPorts = 0) : s.writePrmMode mode = s := by
  refine if_pos ?_
  obtain h | h := h <;> simp [h]

theorem State.writePrmMode_changes {mode : Bool} (h : s.ident.prmPorts ≠ 0) (hne : mode ≠ s.grpMode) : s.writePrmMode mode =
    if s.grp.running then s.cfgIgnored else if mode then s.setBits aGrpCtrl 1 else s.independent :=
  if_neg (by simp [h, hne])

end Lemmas

/-- Settles O46, by the edge of GHOLD_N, by what a fault finds of the containment, and by whether the group runs. -/
theorem groupHoldsAndFaults : Obligations.GroupHoldsAndFaults := by
  unfold Obligations.GroupHoldsAndFaults
  refine ⟨fun s hr hm h => ?fall, fun s hr hm h => ?rise, fun b rest s he hdue => ?freeze, fun b rest s he hdue => ?resume,
    fun b v rest s he hearly => ?early, fun s hr hl hlow hno ha hlate ht => ?stuck, fun s h => ?high,
    fun code m ck h s hr hm ha hn ht => ?fault,
    fun code m ck h g s hr hm ha hg => ⟨fun hat hlow => ?lower, fun hkeep => ?keeps⟩, fun code m ck h s hoff => ?faultOff,
    fun k s hr => ?alone, fun k s h => ?notMissed, fun k s hr hm h1 h12 ha h7 ht => ?missed,
    fun s hs hp hr hrun => ?leave, fun s hs hp hr => ?leaveRefused, fun mode s hs hp hr hne => ?mode,
    fun mode s hs hp hr hne => ?modeRefused, fun s hp => ?leaveAbsent, fun mode s h => ?modeSame⟩
  case fall =>
    exact ⟨_, s.exec_gholdNFall.trans (congrArg _ (s.gholdEdge_sensed hr hm (by rw [h]; decide))), rfl, rfl, rfl, rfl⟩
  case rise =>
    exact ⟨_, s.exec_gholdNRise.trans (congrArg _ (s.gholdEdge_sensed hr hm (by rw [h]; decide))), rfl, rfl, rfl, rfl⟩
  case freeze => exact ⟨_, s.exec_groupFreeze.trans (congrArg _ (s.gholdApply_due he hdue)), rfl, rfl, rfl⟩
  case resume => exact ⟨_, s.exec_groupResume.trans (congrArg _ (s.gholdApply_due he hdue)), rfl, rfl, rfl⟩
  case early =>
    exact ⟨s.exec_groupFreeze.trans (congrArg _ (s.gholdApply_early he hearly)),
      s.exec_groupResume.trans (congrArg _ (s.gholdApply_early he hearly))⟩
  case stuck =>
    exact ⟨_, s.exec_gholdStuck.trans (congrArg _ (if_pos (by simp [hr, hl, hlow, hno, ha, hlate]))), s.faultContain_begins _ ha ht⟩
  case high => exact s.exec_gholdStuck.trans (congrArg _ (s.gholdStuck_high h))
  case fault =>
    obtain ⟨e, he⟩ := s.remoteFault_first (code := code.toNat) (slot := m.val) hr hm ha
    have hcontain := s.emit_contain e
    obtain ⟨times, first, hby⟩ := State.contain_containBy (s.emit e) (code := code.toNat) m.val
      ((congrArg ContainState.active hcontain).trans ha) ((congrArg SupState.t0 (s.emit_sup e)).trans ht)
    have hcause := State.groupCause_first (s.emit e) (code := code.toNat) ((congrArg GroupState.running (s.emit_grp e)).trans hr)
      ((congrArg ContainState.groupCode hcontain).trans hn)
    refine ⟨_, (s.exec_msgFault code m ck h).trans (congrArg _ he), congrArg ContainState.active hby, ?_⟩
    rw [hby]
    refine hcause.trans ?_
    rw [BitVec.ofNat_toNat, BitVec.setWidth_eq]
  case lower =>
    obtain ⟨hcontain, htiles⟩ := s.lowerSlot_takes (code := code.toNat) hg hat hlow
    refine ⟨_, (s.exec_msgFault code m ck h).trans (congrArg _ (s.remoteFault_again hr hm ha)), ?_, htiles⟩
    rw [hcontain, BitVec.ofNat_toNat, BitVec.setWidth_eq]
  case keeps =>
    exact (s.exec_msgFault code m ck h).trans (congrArg _ ((s.remoteFault_again hr hm ha).trans (s.lowerSlot_keeps hkeep)))
  case faultOff => exact (s.exec_msgFault code m ck h).trans (congrArg _ (s.remoteFault_off hoff))
  case alone => exact (s.exec_controlMessageTimeout k).trans (congrArg _ (s.messageTimeout_alone hr))
  case notMissed =>
    have hnot : (s.msgMissed k.val && s.hearsMsg) = false := by
      rw [State.msgMissed]
      obtain h | h | h | ⟨rfl, h⟩ := h
      · simp [h]
      · rw [if_neg (by omega), decide_eq_false (Nat.not_le.2 h), Bool.and_false, Bool.false_and]
      · simp [h]
      · simp [h]
    rw [s.exec_controlMessageTimeout, s.messageTimeout_eq, if_neg (ne_true_of_eq_false hnot)]
  case missed =>
    have hmissed : s.msgMissed k.val = true := by
      rw [State.msgMissed]
      by_cases hk : k.val = 7
      · obtain ⟨m, rest, hown, hdue⟩ := h7 (Fin.ext hk)
        rw [if_pos hk, hown]
        exact decide_eq_true hdue
      · rw [if_neg hk, decide_eq_true h1, decide_eq_true h12]
        rfl
    exact ⟨_, (s.exec_controlMessageTimeout k).trans (congrArg _ ((s.messageTimeout_eq _).trans (if_pos (by rw [hmissed, hm]; rfl)))),
      s.groupFault_begins _ hr ha ht⟩
  case leave =>
    obtain ⟨hmode, hst, hregs⟩ := s.independent_holds hs
    exact ⟨_, s.exec_grpLeave.trans (congrArg _ (s.leave_clears hp hr hrun)), rfl, hmode, hst, hregs⟩
  case leaveRefused =>
    exact ⟨_, s.exec_grpLeave.trans (congrArg _ (s.leave_refused hp hr)), rfl, s.reg_setBits_same _ _ (s.canonical_regs hs),
      s.regsBut_setBits _ _⟩
  case mode =>
    refine ⟨_, (s.exec_prmModeWrite mode).trans (congrArg _ ((s.writePrmMode_changes hp hne).trans (if_neg (ne_true_of_eq_false hr)))), ?_⟩
    cases mode with
    | true =>
      refine ⟨?_, (s.regsBut_setBits _ _).mono (by simp), rfl, fun h => absurd h (by decide)⟩
      refine (congrArg (bit · 0) (s.reg_setBits_same aGrpCtrl 1 (s.canonical_regs hs))).trans ?_
      simp [bit_get]
    | false =>
      obtain ⟨hmode, hst, hregs⟩ := s.independent_holds hs
      exact ⟨hmode, hregs, rfl, fun _ => ⟨hst, rfl, rfl⟩⟩
  case modeRefused =>
    exact ⟨_, (s.exec_prmModeWrite mode).trans (congrArg _ ((s.writePrmMode_changes hp hne).trans (if_pos hr))), rfl,
      s.reg_setBits_same _ _ (s.canonical_regs hs), s.regsBut_setBits _ _⟩
  case leaveAbsent => exact s.exec_grpLeave.trans (congrArg _ (s.leave_absent hp))
  case modeSame => exact (s.exec_prmModeWrite mode).trans (congrArg _ (s.writePrmMode_same h))

end Sys2Proof.Machine
end

section
/-!
PROOF. How a supply failure goes: the orderly stop, the drain cut, the flush, warnings and mismatches (14 R625-R637).
-/
namespace Sys2Proof.Machine

section Lemmas
variable (s : State)

/-! ## The orderly stop (R632) -/

/-- What an orderly stop that begins notes of itself. -/
def State.stopNoted (s : State) (code causes : Nat) : SupState :=
  { s.sup with t0 := some s.now, cause := s.sup.cause ||| BitVec.ofNat 16 causes, causeCode := BitVec.ofNat 16 code,
               bandT0 := s.bandNum, timeT0 := s.ptpNs }

theorem State.sup_orderlyStop {code causes h : Nat} (ht : s.sup.t0 = none) :
    (s.orderlyStop code causes h).sup = s.stopNoted code causes := by
  unfold State.orderlyStop
  rw [if_neg (show ¬ s.stopping = true by simp [State.stopping, ht])]
  extract_lets t b s1 s2 s3 b0 boot v s4
  have h2 : s2.sup = s.stopNoted code causes := by
    unfold s2
    split
    · exact (s1.setSupState_frame 2).sup rfl
    · exact s1.stopped_frame.sup rfl
  have h3 : s3.sup = s.stopNoted code causes := (s2.emit_sup _).trans h2
  have h4 : s4.sup = s.stopNoted code causes :=
    (((s3.supplyTakes v).noContain.stopStream_frame v).sup rfl).trans
      (((s3.supplyTakes v).noContain_frame.sup rfl).trans (((s3.supplyTakes_frame v).sup rfl).trans h3))
  split
  · split
    · exact h3
    · exact h3
  · split
    · exact ((s4.sendMsg_frame _ _).sup rfl).trans h4
    · exact h4

theorem State.orderlyStop_again {code causes h t0 : Nat} (ht : s.sup.t0 = some t0) : s.orderlyStop code causes h =
    s.updSup (fun x => { x with cause := s.sup.cause ||| BitVec.ofNat 16 causes }) :=
  if_pos (by simp [State.stopping, ht])

/-! ## PFAIL_N (R625, R627) -/

theorem State.exec_pfailNAssert (h : Hub) : exec (.pfailNAssert h) s = .next (s.pfailAssert h.val) := rfl

/-- A sentinel whose PFAIL_N is asserted. -/
def State.failed (s : State) (h : Nat) : State := (s.setSent h { s.sent h with pfail := true, level := 2 }).setBits (aSup h) 0x100

theorem State.pfailAssert_present {h : Nat} (hh : h < s.ident.hubs) :
    s.pfailAssert h = (s.failed h).orderlyStop 0x0602 (4 + 8 * h) h := if_neg (Nat.not_le.2 hh)

theorem pfailCause : ∀ h : Hub, BitVec.ofNat 16 (4 + 8 * h.val) = if h.val = 1 then 12 else 4 := by decide

/-! ## The drain cut and the flush (R632, R636, R637) -/

theorem State.exec_drainCut : exec .drainCut s = .next s.drainCut := rfl
theorem State.exec_flushComplete : exec .flushComplete s = .next s.flushDone := rfl

theorem State.drainCut_none (h : s.sup.t0 = none ∨ s.sup.cut = true ∨ s.boot.step ≠ .ready ∨
    ∀ t0, s.sup.t0 = some t0 → s.now < t0 + usCk s.drainUs) : s.drainCut = s := by
  unfold State.drainCut
  split
  · rfl
  · next t0 ht =>
    refine if_pos ?_
    rw [Bool.or_eq_true, Bool.or_eq_true, decide_eq_true_eq, decide_eq_true_eq]
    obtain h | h | h | h := h
    · rw [ht] at h
      exact absurd h nofun
    · exact .inl (.inl h)
    · exact .inr h
    · exact .inl (.inr (h t0 ht))

/-- The bands that the drain cut ends, their runs closed. -/
def State.cutBands (s : State) : State := (s.verdictWhere (fun _ => true) ⟨3, s.sup.causeCode.toNat, 0⟩).finalise.closeAllRuns

/-- All that the drain cut ends. -/
def State.cutAll (s : State) : State := (s.cutBands.liveTasks.foldl (fun t k => t.cancelTask k false) s.cutBands).endLoad.marksOff

theorem State.sup_cutAll : s.cutAll.sup = s.sup := by
  have hbands : s.cutBands.sup = s.sup :=
    ((State.closeAllRuns_frame _).sup rfl).trans (((State.finalise_frame _).sup rfl).trans ((s.verdictWhere_frame _ _).sup rfl))
  have htasks : (s.cutBands.liveTasks.foldl (fun t k => t.cancelTask k false) s.cutBands).sup = s.sup :=
    List.foldlRecOn _ _ (motive := fun t : State => t.sup = s.sup) hbands
      (fun t hts k _ => ((t.cancelTask_frame k false).sup rfl).trans hts)
  exact ((State.marksOff_frame _).sup rfl).trans (((State.endLoad_frame _).sup rfl).trans htasks)

theorem State.drainCut_due {t0 : Nat} (ht : s.sup.t0 = some t0) (hcut : s.sup.cut = false) (hdue : t0 + usCk s.drainUs ≤ s.now)
    (hready : s.boot.step = .ready) : ∃ p, s.drainCut = s.cutAll.updSup (fun x => { x with cut := true, plan := some p }) := by
  have hgo : ¬ (s.sup.cut || decide (s.now < t0 + usCk s.drainUs) || decide (s.boot.step ≠ .ready)) = true := by
    rw [hcut, hready, decide_eq_false (Nat.not_lt.2 hdue)]
    decide
  unfold State.drainCut
  rw [ht]
  exact ⟨_, if_neg hgo⟩

theorem State.flushDone_none (h : s.sup.plan = none) : s.flushDone = s := by
  rw [State.flushDone, h]

theorem State.flushDone_plan {p : FlushPlan} (h : s.sup.plan = some p) : s.flushDone.sup.plan = none ∧
    s.flushDone.pins.stopped = true ∧ s.flushDone.pins.func = [] ∧ s.flushDone.mem.hbm = s.mem.hbm := by
  unfold State.flushDone
  split
  · next hnone =>
    rw [h] at hnone
    exact absurd hnone nofun
  extract_lets seq slot base n s1 s2
  have h1 : s1.mem.hbm = s.mem.hbm :=
    List.foldlRecOn _ _ (motive := fun t : State => t.mem.hbm = s.mem.hbm) rfl (fun t ht k _ => ht)
  let s3 := (s2.setRegN aSupFlushLast (slot * 2 ^ 30 + seq % 2 ^ 30)).setSupBits 0x40
  have hsup : s3.stopped.sup = s2.sup :=
    (s3.stopped_frame.sup rfl).trans (((State.setSupBits_frame _ _).sup rfl).trans ((s2.setRegN_frame _ _).sup rfl))
  have hmem : s3.stopped.mem = s2.mem :=
    (s3.stopped_frame.mem rfl).trans (((State.setSupBits_frame _ _).mem rfl).trans ((s2.setRegN_frame _ _).mem rfl))
  exact ⟨congrArg SupState.plan hsup, rfl, rfl, (congrArg MemState.hbm hmem).trans h1⟩

/-! ## Warnings and mismatches (R628, R630, R631) -/

theorem State.exec_supWarnClear : exec .supWarnClear s = .next s.warnClear := rfl
theorem State.exec_supMismatch (h : Hub) : exec (.supMismatch h) s = .next (s.supMismatch h.val) := rfl

theorem State.warnClear_none (h : s.sup.warnHeld = false ∨ s.sup.t0 ≠ none) : s.warnClear = s := by
  refine if_neg ?_
  obtain h | h := h
  · simp [h]
  · simp [State.stopping, Option.isSome_iff_ne_none.2 h]

theorem State.warnClear_calm (hw : s.sup.warnHeld = true) (ht : s.sup.t0 = none)
    (hcalm : ((List.range s.ident.hubs).all (fun h => (s.sent h).okSince.any (fun t => decide (t + msCk (s.regN (aSup h + 0x30)) ≤ s.now))))
      = true) : s.warnClear.sup.warnHeld = false ∧ s.warnClear.sup.t0 = none := by
  rw [State.warnClear, if_pos (by rw [hw, hcalm, State.stopping, ht]; rfl)]
  extract_lets s1
  have h1 : s1.sup.t0 = none :=
    List.foldlRecOn _ _ (motive := fun t : State => t.sup.t0 = none) ht (fun t hts k _ => hts)
  have hsup : ((s1.updSup (fun x => { x with warnHeld := false })).setSupState 0).resumeAll.sup = { s1.sup with warnHeld := false } :=
    ((State.resumeAll_frame _).sup rfl).trans ((State.setSupState_frame _ _).sup rfl)
  rw [hsup]
  exact ⟨rfl, h1⟩

/-- The bits of SUP_STATUS that hub `h`'s sentinel has grounds for now (R628). -/
def State.mismatchBits (s : State) (h : Nat) : Nat :=
  (if (s.sent h).diffSince.any (fun t => decide (t + msCk 1 ≤ s.now)) then 8 else 0) +
    (if (s.sent h).sampled && isOpen (s.regN (aSup h + 4)) then 2 else 0) +
    (if (s.sent h).sampled && isOpen (s.regN (aSup h + 8)) then 4 else 0)

def State.mismatchNew (s : State) (h : Nat) : Word := BitVec.ofNat 32 (s.mismatchBits h) &&& ~~~(s.reg (aSup h))

theorem State.supMismatch_eq (h : Nat) : s.supMismatch h =
    if s.ident.hubs ≤ h || s.mismatchNew h = 0 then s
    else (s.setBits (aSup h) (s.mismatchNew h)).emit
      { err 0x0601 with loc := hubLoc h 4, d0 := bothCodes (s.regN (aSup h + 4)) (s.regN (aSup h + 8)), hub := h } := rfl

theorem State.supMismatch_none {h : Nat} (hsam : (s.sent h).sampled = false) (hdiff : (s.sent h).diffSince = none) :
    s.supMismatch h = s := by
  have hbits : s.mismatchBits h = 0 := by simp [State.mismatchBits, hsam, hdiff]
  have hnew : s.mismatchNew h = 0 := by simp [State.mismatchNew, hbits]
  rw [s.supMismatch_eq, if_pos (by simp [hnew])]

/-- A bit with grounds that is not set yet is set, with one record. -/
theorem State.supMismatch_sets {h : Hub} {i : Nat} (hs : s.canonical = true) (hh : h.val < s.ident.hubs) (hi : i < 32)
    (hgrounds : bit (BitVec.ofNat 32 (s.mismatchBits h.val)) i = true) (hclear : bit (s.reg (aSup h.val)) i = false) :
    bit ((s.supMismatch h.val).reg (aSup h.val)) i = true ∧ (s.supMismatch h.val).errSeq = (s.errSeq + 1) % 65536 := by
  have hnew : bit (s.mismatchNew h.val) i = true := by
    rw [State.mismatchNew, bit_and, hgrounds, bit_not _ _ hi, hclear]
    rfl
  have hne : s.mismatchNew h.val ≠ 0 := by
    intro h0
    rw [h0] at hnew
    simp [bit_get] at hnew
  have hlow : aSup h.val ∉ emitRegs := (by decide : ∀ k : Hub, aSup k.val ∉ emitRegs) h
  rw [s.supMismatch_eq, if_neg (by rw [decide_eq_false hne, decide_eq_false (Nat.not_le.2 hh)]; decide)]
  refine ⟨?_, State.emit_errSeq _ _⟩
  rw [State.regsBut_emit _ _ _ hlow, s.reg_setBits_same _ _ (s.canonical_regs hs), bit_or, hnew, Bool.or_true]

end Lemmas

/-- Settles O48, by whether a stop runs, by what the cut and the flush find, and by the bits that a mismatch has grounds for. -/
theorem supplyFailure : Obligations.SupplyFailure := by
  unfold Obligations.SupplyFailure
  refine ⟨fun h s hh ht => ?first, fun h t0 s hh ht => ?again, fun s h => ?cutNone, fun s h => ?flushNone, fun s h => ?warnNone,
    fun h s hsam hdiff => ?mismatchNone, fun h s hs hh hsam hopen hclear => ?opened, fun t0 s ht hcut hdue hready => ?cut,
    fun p s hp => ?flush, fun s hw ht hcalm => ?calm, fun h t0 s hs hh hdiff hsam hdue hclear => ?differs⟩
  case first =>
    have hsup := (s.failed h.val).sup_orderlyStop (code := 0x0602) (causes := 4 + 8 * h.val) (h := h.val) ht
    exact ⟨_, (s.exec_pfailNAssert h).trans (congrArg _ (s.pfailAssert_present hh)), congrArg SupState.t0 hsup,
      congrArg SupState.causeCode hsup, (congrArg SupState.cause hsup).trans (congrArg (s.sup.cause ||| ·) (pfailCause h)),
      congrArg SupState.timeT0 hsup⟩
  case again =>
    have hgo := (s.pfailAssert_present hh).trans ((s.failed h.val).orderlyStop_again (t0 := t0) ht)
    exact ⟨_, (s.exec_pfailNAssert h).trans (congrArg _ hgo), rfl, ht, rfl, congrArg (s.sup.cause ||| ·) (pfailCause h)⟩
  case cutNone => exact s.exec_drainCut.trans (congrArg _ (s.drainCut_none h))
  case flushNone => exact s.exec_flushComplete.trans (congrArg _ (s.flushDone_none h))
  case warnNone => exact s.exec_supWarnClear.trans (congrArg _ (s.warnClear_none h))
  case mismatchNone => exact (s.exec_supMismatch h).trans (congrArg _ (s.supMismatch_none hsam hdiff))
  case opened =>
    have hbits : bit (BitVec.ofNat 32 (s.mismatchBits h.val)) 1 = true := by
      rw [State.mismatchBits, hsam, isOpen, decide_eq_true hopen, if_pos (c := (true && true) = true) rfl]
      split <;> split <;> rfl
    exact ⟨_, s.exec_supMismatch h, s.supMismatch_sets hs hh (by decide) hbits hclear⟩
  case cut =>
    obtain ⟨p, hgo⟩ := s.drainCut_due ht hcut hdue hready
    exact ⟨_, s.exec_drainCut.trans (congrArg _ hgo), rfl, rfl, (congrArg SupState.t0 s.sup_cutAll).trans ht⟩
  case flush =>
    obtain ⟨hplan, hstopped, hfunc, hhbm⟩ := s.flushDone_plan hp
    exact ⟨_, s.exec_flushComplete, hplan, hstopped, hfunc, hhbm, s.flushDone_frame.tiles rfl⟩
  case calm => exact ⟨_, s.exec_supWarnClear, s.warnClear_calm hw ht hcalm⟩
  case differs =>
    have hbits : bit (BitVec.ofNat 32 (s.mismatchBits h.val)) 3 = true := by
      rw [State.mismatchBits, hsam, hdiff, Option.any_some, decide_eq_true hdue, Bool.false_and, Bool.false_and]
      rfl
    exact ⟨_, s.exec_supMismatch h, s.supMismatch_sets hs hh (by decide) hbits hclear⟩

end Sys2Proof.Machine
end

section
/-!
PROOF. Power domains: their control writes, their removal and their return (14 R641-R645).
-/
namespace Sys2Proof.Machine

/-! ## A word with one bit cleared -/

theorem bit_oneAt {j : Nat} (k : Nat) (h : j < 32) : bit (1#32 <<< k) j = decide (j = k) := by
  rw [bit_get, BitVec.getLsbD_shiftLeft, decide_eq_true h, Bool.true_and, Bool.eq_iff_iff]
  simp only [BitVec.getLsbD_one, Bool.and_eq_true, Bool.not_eq_true', decide_eq_false_iff_not, decide_eq_true_eq]
  omega

theorem bit_andNot_other (x : Word) {j k : Nat} (h : j ≠ k) : bit (x &&& ~~~(1#32 <<< k)) j = bit x j := by
  by_cases hj : j < 32
  · rw [bit_and, bit_not _ _ hj, bit_oneAt k hj, decide_eq_false h, Bool.not_false, Bool.and_true]
  · rw [bit_get, bit_get, BitVec.getLsbD_of_ge x j (Nat.not_lt.1 hj), BitVec.getLsbD_of_ge _ j (Nat.not_lt.1 hj)]

/-- Clearing a bit that is set takes its weight away. -/
theorem toNat_andNot {x : Word} {k : Nat} (h : bit x k = true) : (x &&& ~~~(1#32 <<< k)).toNat = x.toNat - 2 ^ k := by
  have hset : x.getLsbD k = true := (bit_get x k).symm.trans h
  have hk : k < 32 := BitVec.lt_of_getLsbD hset
  have hdisj : (x &&& ~~~(1#32 <<< k)) &&& (1#32 <<< k) = 0#32 := by
    rw [BitVec.and_assoc, BitVec.and_comm (~~~(1#32 <<< k)), BitVec.and_not_self]
    exact BitVec.and_zero
  have hboth : (x &&& ~~~(1#32 <<< k)) + (1#32 <<< k) = x := by
    rw [BitVec.add_eq_or_of_and_eq_zero _ _ hdisj]
    refine BitVec.eq_of_getLsbD_eq (fun i hi => ?_)
    rw [← bit_get, ← bit_get, bit_or, bit_oneAt k hi]
    by_cases hik : i = k
    · rw [decide_eq_true hik, Bool.or_true, hik, h]
    · rw [decide_eq_false hik, Bool.or_false, bit_andNot_other x hik]
  have hpow : (1#32 <<< k).toNat = 2 ^ k := by
    rw [BitVec.toNat_shiftLeft, BitVec.toNat_ofNat, Nat.shiftLeft_eq]
    have : 2 ^ k < 2 ^ 32 := Nat.pow_lt_pow_right (by decide) hk
    omega
  have hsum := congrArg BitVec.toNat hboth
  rw [BitVec.toNat_add_of_and_eq_zero hdisj, hpow] at hsum
  omega

section Lemmas
variable (s : State)

/-! ## Control writes (R641, R642) -/

theorem State.exec_supPwrBedWrite (v : BitVec 12) : exec (.supPwrBedWrite v) s = .next (s.writeBeds v.toNat) := rfl
theorem State.exec_supPwrCamWrite (v : BitVec 16) : exec (.supPwrCamWrite v) s = .next (s.writeCamPower v.toNat) := rfl
theorem State.exec_supPwrPrmWrite (v : BitVec 4) : exec (.supPwrPrmWrite v) s = .next (s.writePrmPower v.toNat) := rfl

/-- What a write of `v` asks of control bit `k`. -/
def asks (v k : Nat) : Bool := v / 2 ^ k % 2 == 1

/-- One bed of a write of SUP_PWR_BED. -/
def State.writeBed (s : State) (v b : Nat) : State :=
  if !(asks v b) && bit (s.reg aSupPwrBed) b && s.bedUsed b then s.setBits aSupPwrStatus 0x80000000
  else s.setDomain aSupPwrBed b b (asks v b)

theorem State.writeBeds_eq (v : Nat) : s.writeBeds v = (List.range (6 * s.ident.dies)).foldl (fun t b => t.writeBed v b) s := rfl

theorem State.writeBed_same {v b : Nat} (h : bit (s.reg aSupPwrBed) b = asks v b) : s.writeBed v b = s := by
  rw [State.writeBed, if_neg (by rw [h]; simp), s.setDomain_same h]

theorem State.writeBed_unused {v b : Nat} (h : s.bedUsed b = false) : s.writeBed v b = s.setDomain aSupPwrBed b b (asks v b) :=
  if_neg (by simp [h])

/-- A domain that has begun to lose its power: bit `k` of the control at `a` is cleared and its gates are closed. -/
def State.begunOff (s : State) (a k n : Nat) (x : Tab HdgState) : State :=
  { s.clrBits a (1#32 <<< k) with power := { s.power with turningOff := [n] }, hdg := x }

section OneBit
variable {a k n v : Nat} (hv : v = s.regN a - 2 ^ k) (hbit : bit (s.reg a) k = true)
include hv hbit

/-- A write that clears bit `k` alone asks of every other bit what it has. -/
theorem State.asks_one {j : Nat} (hj : j ≠ k) : bit (s.reg a) j = asks v j := by
  have hy := toNat_andNot hbit
  rw [← bit_andNot_other _ hj, bit, hy, hv]
  rfl

theorem State.reg_begunOff (hs : s.canonical = true) (x : Tab HdgState) : (s.begunOff a k n x).regN a = v ∧
    (∀ j, bit ((s.begunOff a k n x).reg a) j = asks v j) ∧ RegsBut s (s.begunOff a k n x) [a] := by
  have hreg : (s.begunOff a k n x).reg a = s.reg a &&& ~~~(1#32 <<< k) := s.reg_setReg_same _ _ (s.canonical_regs hs)
  have hval : ((s.begunOff a k n x).reg a).toNat = v := (congrArg BitVec.toNat hreg).trans ((toNat_andNot hbit).trans hv.symm)
  exact ⟨hval, fun j => congrArg (fun m : Nat => m / 2 ^ j % 2 == 1) hval, s.regsBut_clrBits _ _⟩

theorem State.setDomain_one (hoff : s.power.off = []) (hturn : s.power.turningOff = []) :
    ∃ x, s.setDomain a k n (asks v k) = s.begunOff a k n x := by
  have hk : asks v k = false := by
    have hlt : k < 32 := BitVec.lt_of_getLsbD ((bit_get _ _).symm.trans hbit)
    rw [asks, hv, show s.regN a - 2 ^ k = (s.reg a &&& ~~~(1#32 <<< k)).toNat from (toNat_andNot hbit).symm]
    exact bit_andNot_same _ hlt
  obtain ⟨x, hx⟩ := (s.clrBits a (1#32 <<< k)).beginOff_first (n := n) hoff hturn
  exact ⟨x, by rw [hk, s.setDomain_off hbit, hx]; rfl⟩

/-- A write that clears one bit starts that domain alone on its way off. -/
theorem State.write_one (hs : s.canonical = true) {m : Nat} (f : State → Nat → State) (hk : k < m) (hone : f s k = s.setDomain a k n (asks v k))
    (hsame : ∀ t j, bit (State.reg t a) j = asks v j → f t j = t) (hoff : s.power.off = []) (hturn : s.power.turningOff = []) :
    ∃ x, (List.range m).foldl f s = s.begunOff a k n x := by
  obtain ⟨x, hx⟩ := s.setDomain_one (n := n) hv hbit hoff hturn
  refine ⟨x, ?_⟩
  rw [foldl_range_one f s hk (fun j _ hj => hsame s j (s.asks_one hv hbit hj)) (fun j _ _ => ?_), hone, hx]
  rw [hone, hx]
  exact hsame _ j ((s.reg_begunOff (n := n) hv hbit hs x).2.1 j)

end OneBit

/-! ## Power removed and restored (R642, R643, R645) -/

theorem State.exec_domainPowerRemoved (d : Domain) : exec (.domainPowerRemoved d) s = .next (s.powerRemoved (domNum d)) := rfl
theorem State.exec_bedZeroFillComplete (d : Die) (b : Fin 6) :
    exec (.bedZeroFillComplete d b) s = .next (s.bedFilled (domNum (.bed d b))) := rfl
theorem State.exec_domainPowerOnComplete (d : Domain) : exec (.domainPowerOnComplete d) s = .next (s.powerOn (domNum d)) := rfl

theorem State.powerRemoved_none {n : Nat} (h : s.power.turningOff.contains n = false ∨ s.domQuiet n = false) : s.powerRemoved n = s := by
  refine if_neg ?_
  obtain h | h := h
  · rw [h, Bool.false_and]
    exact Bool.false_ne_true
  · rw [h, Bool.and_false]
    exact Bool.false_ne_true

theorem State.powerRemoved_goes {n : Nat} (h : s.power.turningOff.contains n = true) (hq : s.domQuiet n = true) :
    ∃ p : PowerState, p.off = n :: s.power.off ∧ s.powerRemoved n = ({ s with power := p } : State).losePower n :=
  ⟨_, rfl, if_pos (by rw [h, hq]; rfl)⟩

/-- A bed's loss: its tiles, and what was still to be written to them. -/
theorem State.losePower_bed {n : Nat} (hn : n < 12) : ∃ (mem : MemState) (x : HoldState), mem.hbm = s.mem.hbm ∧ s.losePower n =
    { s with tiles := s.tiles.filter (fun e => tileBed e.1 != n), mem := mem, hold := x } := by
  rw [State.losePower, if_pos hn]
  refine ⟨_, _, ?_, State.holdUpdate_eq _⟩
  rfl

theorem State.losePower_core {k : Nat} (hk : k < 8) : s.losePower (12 + k) = s.setCore k CoreState.reset := by
  rw [State.losePower, if_neg (by omega), if_pos (by omega), Nat.add_sub_cancel_left]

theorem State.bedFilled_none {n : Nat} (h : s.power.turningOn.contains n = false) : s.bedFilled n = s := by
  refine if_neg ?_
  rw [h, Bool.false_and]
  exact Bool.false_ne_true

theorem State.powerOn_none {n : Nat} (hn : 12 ≤ n) (h : s.power.turningOn.contains n = false) : s.powerOn n = s := by
  rw [State.powerOn, if_neg (by omega), if_neg (ne_true_of_eq_false h)]

theorem State.openGates_eq (n : Nat) : ∃ x, s.openGates n = { s with hdg := x } := by
  refine List.foldlRecOn _ _ (motive := fun t : State => ∃ x, t = { s with hdg := x }) ⟨_, rfl⟩ ?_
  rintro t ⟨x, rfl⟩ g -
  exact ⟨_, rfl⟩

theorem contains_filter_ne (l : List Nat) (n : Nat) : (l.filter (fun m => m != n)).contains n = false := by
  simp

theorem State.domOn_powerBack (n : Nat) : (s.powerBack n).domOn n = true := by
  rw [State.domOn, State.powerBack, contains_filter_ne]
  rfl

end Lemmas

/-- Settles O49, by the bits that a write changes and by what each domain loses and takes back. -/
theorem powerDomains : Obligations.PowerDomains := by
  unfold Obligations.PowerDomains
  refine ⟨fun v s hv hd => ?bedSame, fun v s hv => ?camSame, fun v s hv => ?prmSame, fun d s h => ?notRemoved, fun d b s h => ?notFilled,
    fun d s hd h => ?notOn, fun d b s h hq => ?bed, fun c s h hq => ?core, fun n s h => ?camOn, fun d s h => ?filled,
    fun v n s hs hn hv hbit hoff hturn hlt => ?camOff, fun v p s hs hp hv hbit hoff hturn hlt => ?prmOff,
    fun v d b s hs hd hv hbit hfree hoff hturn hlt => ?bedOff⟩
  case bedSame =>
    rw [s.exec_supPwrBedWrite, s.writeBeds_eq, hv]
    exact congrArg _ (foldl_range_none _ s (fun j _ => s.writeBed_same rfl))
  case camSame =>
    rw [s.exec_supPwrCamWrite, hv]
    exact congrArg _ (foldl_range_none _ s (fun j _ => s.setDomain_same rfl))
  case prmSame =>
    rw [s.exec_supPwrPrmWrite, hv]
    exact congrArg _ (foldl_range_none _ s (fun j _ => s.setDomain_same rfl))
  case notRemoved => exact (s.exec_domainPowerRemoved d).trans (congrArg _ (s.powerRemoved_none h))
  case notFilled => exact (s.exec_bedZeroFillComplete d b).trans (congrArg _ (s.bedFilled_none h))
  case notOn => exact (s.exec_domainPowerOnComplete d).trans (congrArg _ (s.powerOn_none hd h))
  case bed =>
    obtain ⟨p, hp, hgo⟩ := s.powerRemoved_goes h hq
    obtain ⟨mem, x, hmem, hlose⟩ := State.losePower_bed { s with power := p } (n := domNum (.bed d b)) (by simp only [domNum]; omega)
    exact ⟨_, (s.exec_domainPowerRemoved _).trans (congrArg _ (hgo.trans hlose)), rfl, rfl, hp, hmem⟩
  case core =>
    obtain ⟨p, hp, hgo⟩ := s.powerRemoved_goes h hq
    exact ⟨_, (s.exec_domainPowerRemoved _).trans (congrArg _ (hgo.trans (State.losePower_core _ c.isLt))), rfl, hp, rfl⟩
  case camOn =>
    have hgo : s.powerOn (20 + n.val) = (s.powerBack (20 + n.val)).openGates (20 + n.val) := by
      rw [State.powerOn, if_neg (by omega), if_pos h]
    obtain ⟨x, hx⟩ := State.openGates_eq (s.powerBack (20 + n.val)) (20 + n.val)
    exact ⟨_, (s.exec_domainPowerOnComplete (.cam n)).trans (congrArg _ (hgo.trans hx)), rfl, s.domOn_powerBack _, rfl⟩
  case filled =>
    have hnum : domNum (.bed d 0) = 6 * d.val := by
      simp only [domNum]
      omega
    have hfirst : (List.range (6 * d.val)).all (fun m => m / 6 != 6 * d.val / 6 || !(s.power.turningOn.contains m)) = true := by
      refine List.all_eq_true.2 (fun m hm => ?_)
      have hlt := List.mem_range.1 hm
      rw [bne_iff_ne.2 (by omega), Bool.true_or]
    have hgo : s.bedFilled (6 * d.val) = s.powerBack (6 * d.val) := if_pos (by rw [h, hfirst]; rfl)
    rw [← hnum] at hgo
    refine ⟨_, (s.exec_bedZeroFillComplete d 0).trans (congrArg _ hgo), rfl, ?_, ?_⟩
    · rw [hnum]
      exact s.domOn_powerBack _
    · rw [hnum]
      exact contains_filter_ne _ _
  case camOff =>
    obtain ⟨x, hgo⟩ := s.write_one (n := 20 + n.val) hv hbit hs (fun t j => t.setDomain aSupPwrCam j (20 + j) (asks v.toNat j)) hn rfl
      (fun t j h => t.setDomain_same h) hoff hturn
    obtain ⟨hreg, -, hbut⟩ := s.reg_begunOff (n := 20 + n.val) hv hbit hs x
    exact ⟨_, (s.exec_supPwrCamWrite v).trans (congrArg _ hgo), rfl, hreg, rfl, hbut⟩
  case prmOff =>
    obtain ⟨x, hgo⟩ := s.write_one (n := 36 + p.val) hv hbit hs (fun t j => t.setDomain aSupPwrPrm j (36 + j) (asks v.toNat j)) hp rfl
      (fun t j h => t.setDomain_same h) hoff hturn
    obtain ⟨hreg, -, hbut⟩ := s.reg_begunOff (n := 36 + p.val) hv hbit hs x
    exact ⟨_, (s.exec_supPwrPrmWrite v).trans (congrArg _ hgo), rfl, hreg, rfl, hbut⟩
  case bedOff =>
    have hk : 6 * d.val + b.val < 6 * s.ident.dies := by
      rw [hd]
      omega
    obtain ⟨x, hgo⟩ := s.write_one hv hbit hs (fun t j => t.writeBed v.toNat j) hk (s.writeBed_unused hfree)
      (fun t j h => t.writeBed_same h) hoff hturn
    obtain ⟨hreg, -, hbut⟩ := s.reg_begunOff (n := 6 * d.val + b.val) hv hbit hs x
    exact ⟨_, (s.exec_supPwrBedWrite v).trans (congrArg _ ((s.writeBeds_eq _).trans hgo)), rfl, hreg, rfl, hbut⟩

end Sys2Proof.Machine
end

section
/-!
PROOF. Key fuses, resets and the boot sequence (14 R653-R662; 15 R673).
-/
namespace Sys2Proof.Machine

section Lemmas
variable (s : State)

/-! ## Key fuses (R661, R662) -/

theorem State.exec_hubFuseCmd (v : Word) : exec (.hubFuseCmd v) s = .next (s.fuseCmd v) := rfl
theorem State.exec_fuseOperationComplete (good : Bool) : exec (.fuseOperationComplete good) s = .next (s.fuseDone good) := rfl

theorem State.fuseCmd_none {v : Word} (h : fld v 16 16 ≠ 0x5AFE ∨ (fuseOp v ≠ 1 ∧ fuseOp v ≠ 2) ∨ s.fuse.op ≠ none) :
    s.fuseCmd v = s := by
  refine if_pos ?_
  obtain h | ⟨h1, h2⟩ | h := h
  · rw [decide_eq_true h, Bool.true_or, Bool.true_or]
  · rw [decide_eq_true h1, decide_eq_true h2, Bool.true_and, Bool.or_true, Bool.true_or]
  · rw [Option.isSome_iff_ne_none.2 h, Bool.or_true]

/-- The write repeats one of the same word within 1 ms. -/
def State.fuseAgain (s : State) (v : Word) : Bool := s.fuse.cmdAt.any (fun x => x.2 == v && decide (s.now ≤ x.1 + msCk 1))

theorem State.fuseCmd_eq {v : Word} (hm : fld v 16 16 = 0x5AFE) (hop : fuseOp v = 1 ∨ fuseOp v = 2) (h : s.fuse.op = none) :
    s.fuseCmd v = if s.fuseAgain v then
        (if s.fuseRefuses v then ({ s with fuse := { s.fuse with cmdAt := none } } : State).setReg aFuseStatus 4
          else ({ s with fuse := { s.fuse with cmdAt := none, op := some v } } : State).setReg aFuseStatus 0)
      else { s with fuse := { s.fuse with cmdAt := some (s.now, v) } } := by
  refine if_neg ?_
  rw [decide_eq_false (not_not.2 hm), h]
  obtain hop | hop := hop <;> simp [hop]

theorem State.fuseCmd_first {v : Word} (hm : fld v 16 16 = 0x5AFE) (hop : fuseOp v = 1 ∨ fuseOp v = 2) (h : s.fuse.op = none)
    (hno : s.fuseAgain v = false) : s.fuseCmd v = { s with fuse := { s.fuse with cmdAt := some (s.now, v) } } :=
  (s.fuseCmd_eq hm hop h).trans (if_neg (ne_true_of_eq_false hno))

theorem State.fuseDone_none (good : Bool) (h : s.fuse.op = none) : s.fuseDone good = s := by
  rw [State.fuseDone, h]

theorem State.fuseDone_bad {v : Word} (h : s.fuse.op = some v) :
    s.fuseDone false = ({ s with fuse := { s.fuse with op := none } } : State).setReg aFuseStatus 2 := by
  rw [State.fuseDone, h]
  rfl

/-- The fuses once the operation `v` is through. -/
def State.fused (s : State) (v : Word) : FuseState :=
  if fuseOp v = 1 then
    { s.fuse with op := none, keys := Tab.set_ 0 s.fuse.keys (fuseSlot v) s.fuseData, state := Tab.set_ 0 s.fuse.state (fuseSlot v) 1 }
  else { s.fuse with op := none, state := Tab.set_ 0 s.fuse.state (fuseSlot v) 2 }

theorem State.fuseDone_good {v : Word} (h : s.fuse.op = some v) :
    s.fuseDone true = ({ s with fuse := s.fused v } : State).setReg aFuseStatus 1 := by
  rw [State.fuseDone, h]
  rfl

theorem State.fused_op (v : Word) : (s.fused v).op = none := by
  unfold State.fused
  split <;> rfl

/-! ## Resets (R653) -/

theorem State.exec_deviceReset (b : Bool) : exec (.deviceReset b) s = .next s.deviceReset := rfl
theorem State.exec_functionLevelReset : exec .functionLevelReset s = .next s.deviceReset := rfl
theorem State.exec_hubBootReset : exec .hubBootReset s = .next s.deviceReset := rfl
theorem State.exec_perst : exec .perst s =
    .next ((s.updBoot (fun b => { b with linkUp := false })).setReg aHubPcieLink 0) := rfl
theorem State.exec_pcieLinkReturn (w : BitVec 5) (v : BitVec 3) :
    exec (.pcieLinkReturn w v) s = .next (s.linkReturned w.toNat v.toNat) := rfl

/-! ## Failures of the boot (R654, R659) -/

theorem State.spiFail_falls {code : Nat} (h : s.boot.src = 2) : s.spiFail code = (s.setBits aBootStatus 0x4000000).updBoot
    (fun b => { b with src := 1, bpb := [], bpbRead := false, package := [], chunkEnd := false }) := if_pos h

theorem State.spiFail_fails {code : Nat} (h : s.boot.src ≠ 2) : s.spiFail code = s.bootFail code 0 := if_neg h

theorem State.reg_bootFail {code detail : Nat} (hs : s.canonical = true) (hc : code < 256) :
    fld ((s.bootFail code detail).reg aBootStatus) 28 4 = 3 ∧ fld ((s.bootFail code detail).reg aBootStatus) 0 8 = code := by
  have hreg : (s.bootFail code detail).reg aBootStatus =
      setFld (setFld (setFld (s.reg aBootStatus) 28 4 3) 16 8 detail) 0 8 code := s.reg_setReg_same _ _ (s.canonical_regs hs)
  rw [hreg, fld_setFld_other _ 0 8 _ 28 4 (by decide) (by decide), fld_setFld_other _ 16 8 _ 28 4 (by decide) (by decide),
    fld_setFld_same _ 28 4 _ (by decide), fld_setFld_same _ 0 8 _ (by decide)]
  exact ⟨rfl, Nat.mod_eq_of_lt hc⟩

/-! ## Release and the boot parameter block (R653-R655) -/

theorem State.exec_resetRelease (src : BitVec 2) : exec (.resetRelease src) s = .next (s.release_ src) := rfl
theorem State.exec_bpbReadComplete (b : Bool) : exec (.bpbReadComplete b) s = .next (s.bpbRead b) := rfl

/-- The device once its memories are zeroed and BOOT_SRC and the fuses are sampled. -/
def State.released_ (s : State) (src : BitVec 2) : State :=
  ({ s.zeroFill with fuse := { s.fuse with latched := s.fuse.state } } : State).updBoot (fun b => { b with step := .started, src := src })

theorem State.release_held {src : BitVec 2} (h : s.boot.step = .held) (ht : s.boot.tapHold = false) : s.release_ src =
    if src = 3 then (s.released_ src).bootFail 5 0
    else (s.released_ src).setRegN aBootStatus (2 ^ 28 + (if src = 1 then 2 ^ 26 else 0)) :=
  if_neg (by rw [h, ht]; decide)

theorem State.release_none {src : BitVec 2} (h : s.boot.tapHold = true ∨ s.boot.step ≠ .held) : s.release_ src = s := by
  refine if_pos ?_
  obtain h | h := h
  · rw [h, Bool.or_true]
  · rw [decide_eq_true h, Bool.true_or]

theorem State.tile_released (src : BitVec 2) (k : Nat) (hs : s.canonical = true) :
    (s.released_ src).tile k = { s.tile k with mem := [], poison := [] } :=
  Tab.get_mapV Tile.blank (fun _ t => { t with mem := [], poison := [] }) s.tiles k rfl (s.canonical_tile hs)

theorem State.booting_started (h : s.boot.step = .started) : s.booting = true := by
  rw [State.booting, h]
  rfl

theorem State.booting_not (h : s.boot.step ≠ .started) : s.booting = false := beq_eq_false_iff_ne.2 h

theorem State.bpbRead_block (h : s.boot.step = .started) (hr : s.boot.bpbRead = false) (hsrc : s.boot.src ≠ 1)
    (hgood : bpbGood (readBytes s.mem.spiNor 0 256) = true) : s.bpbRead false = s.applyBpb (readBytes s.mem.spiNor 0 256) := by
  rw [State.bpbRead, if_neg (by rw [s.booting_started h, hr]; decide), if_neg hsrc, if_neg Bool.false_ne_true]
  exact if_pos hgood

theorem State.bpbRead_timeout (h : s.boot.step = .started) (hr : s.boot.bpbRead = false) (hsrc : s.boot.src ≠ 1) :
    s.bpbRead true = s.spiFail 4 := by
  rw [State.bpbRead, if_neg (by rw [s.booting_started h, hr]; decide), if_neg hsrc, if_pos rfl]

theorem State.applyBpb_keeps (b : List Byte) : (s.applyBpb b).boot = { s.boot with bpb := b, bpbRead := true } ∧
    (s.applyBpb b).tiles = s.tiles ∧ (s.applyBpb b).mem = s.mem := by
  unfold State.applyBpb
  extract_lets s1 s2
  have h2 : s2.boot = s1.boot ∧ s2.tiles = s1.tiles ∧ s2.mem = s1.mem :=
    List.foldlRecOn _ _ (motive := fun t : State => t.boot = s1.boot ∧ t.tiles = s1.tiles ∧ t.mem = s1.mem) ⟨rfl, rfl, rfl⟩
      (fun t ht h _ => ⟨((t.bpbThresholds_frame h).boot rfl).trans ht.1, ((t.bpbThresholds_frame h).tiles rfl).trans ht.2.1,
        ((t.bpbThresholds_frame h).mem rfl).trans ht.2.2⟩)
  have hd := s2.writeDrainUs_frame (s2.bpbField 0x48 2)
  have hp := State.setPool_frame (s2.writeDrainUs (s2.bpbField 0x48 2))
  obtain ⟨hboot, htiles, hmem⟩ := h2
  exact ⟨(hp.boot rfl).trans ((hd.boot rfl).trans hboot), (hp.tiles rfl).trans ((hd.tiles rfl).trans htiles),
    (hp.mem rfl).trans ((hd.mem rfl).trans hmem)⟩

/-! ## Training, chunks, firmware (R656-R658) -/

theorem State.exec_hbmTrainingComplete (f : BitVec 8) : exec (.hbmTrainingComplete f) s = .next (s.trained f) := rfl
theorem State.exec_hubBootChunk (len : BitVec 12) : exec (.hubBootChunk len) s = .next (s.bootChunk len.toNat) := rfl
theorem State.exec_firmwareVerifyComplete : exec .firmwareVerifyComplete s = .next s.firmwareVerified := rfl
theorem State.exec_firmwareStart : exec .firmwareStart s = .next s.firmwareStart := rfl
theorem State.exec_capabilityPublish : exec .capabilityPublish s =
    .next (if s.boot.step = .running then s.updBoot (fun b => { b with step := .published }) else s) := rfl
theorem State.exec_bootReady : exec .bootReady s = .next s.bootReady := rfl

theorem State.trained_none {f : BitVec 8} (h : s.booting = false ∨ s.ident.hasHbm = false) : s.trained f = s := by
  refine if_pos ?_
  obtain h | h := h <;> simp [h]

theorem State.trained_hbm (f : BitVec 8) (h : s.boot.step = .started) (hh : s.ident.hasHbm = true) : s.trained f =
    if f ≠ 0 then s.bootFail 3 f.toNat else s.updBoot (fun b => { b with trained := true }) :=
  if_neg (by rw [s.booting_started h, hh]; decide)

/-- The bytes of a chunk. -/
def State.chunkBytes (s : State) (len : Nat) : List Byte :=
  slice ((List.range 512).flatMap (fun j => leBytes 4 (s.regN (aBootData + 4 * j)))) 0 (min 2048 len)

theorem State.bootChunk_eq {len : Nat} (h : s.boot.step = .started) (hsrc : s.boot.src = 1) (hend : s.boot.chunkEnd = false) :
    s.bootChunk len =
      if s.boot.bpb.isEmpty then (s.setBits aBootStatus 0x8000000).updBoot (fun b => { b with bpb := s.chunkBytes len })
      else if len = 0 then (s.setBits aBootStatus 0x8000000).updBoot (fun b => { b with chunkEnd := true })
      else (s.setBits aBootStatus 0x8000000).updBoot (fun b => { b with package := b.package ++ s.chunkBytes len }) :=
  if_neg (by rw [s.booting_started h, hsrc, hend]; decide)

theorem State.bootChunk_none {len : Nat} (h : s.booting = false) : s.bootChunk len = s := if_pos (by rw [h]; rfl)
theorem State.bpbRead_none (b : Bool) (h : s.booting = false) : s.bpbRead b = s := if_pos (by rw [h]; rfl)
theorem State.firmwareVerified_none (h : s.booting = false) : s.firmwareVerified = s := if_pos (by rw [h]; rfl)

theorem State.firmwareVerified_pcie (h : s.boot.step = .started) (hr : s.boot.bpbRead = true) (hv : s.boot.verified = false)
    (hsrc : s.boot.src = 1) (hend : s.boot.chunkEnd = true) : s.firmwareVerified =
      if s.packageGood s.boot.package then
        s.updBoot (fun b => { b with package := s.boot.package, verified := true, fw := Config.firmwareVersion s.boot.package })
      else s.bootFail 2 0 := by
  rw [State.firmwareVerified, if_neg (by rw [s.booting_started h, hr, hv, hsrc, hend]; decide)]
  simp only [hsrc]
  rfl

theorem State.firmwareStart_none (h : s.booting = false ∨ s.boot.verified = false ∨
    (s.ident.hasHbm = true ∧ s.boot.trained = false)) : s.firmwareStart = s := by
  refine if_pos ?_
  obtain h | h | ⟨hh, h⟩ := h
  · rw [h]
    rfl
  · rw [h, Bool.not_false, Bool.or_true, Bool.true_or]
  · rw [hh, h, Bool.not_false, Bool.and_true, Bool.or_true]

theorem State.firmwareStart_runs (h : s.boot.step = .started) (hv : s.boot.verified = true)
    (hh : s.ident.hasHbm = false ∨ s.boot.trained = true) : s.firmwareStart.boot.step = .running := by
  unfold State.firmwareStart
  rw [if_neg]
  · exact congrArg BootState.step ((State.sweepFlushes_frame _).boot rfl)
  · rw [s.booting_started h, hv]
    obtain hh | hh := hh <;> simp [hh]

theorem State.bootReady_none (h : s.boot.step ≠ .published ∨ s.sup.t0 ≠ none) : s.bootReady = s := by
  refine if_neg ?_
  obtain h | h := h
  · rw [decide_eq_false h]
    exact Bool.false_ne_true
  · rw [State.stopping, Option.isSome_iff_ne_none.2 h, Bool.not_true, Bool.and_false]
    exact Bool.false_ne_true

theorem State.bootReady_goes (h : s.boot.step = .published) (ht : s.sup.t0 = none) : s.bootReady =
    (({ s with mem := { s.mem with passStart := s.now, passRows := [] } } : State).updBoot
      (fun b => { b with step := .ready })).setBootState 2 :=
  if_pos (by rw [h, State.stopping, ht]; rfl)

end Lemmas

/-- Settles O51, by what the command last written was and by what the operation does to its slot. -/
theorem fuses : Obligations.Fuses := by
  unfold Obligations.Fuses
  refine ⟨fun v s hm hop h hcmd => ?first, fun v u t0 s hm hop h hcmd hnew => ?afresh, fun v s h => ?none_, fun good s h => ?idle,
    fun v t0 s hs hm hop h hcmd ht => ?second, fun v good s hs h => ?done⟩
  case first =>
    have hno : s.fuseAgain v = false := by
      rw [State.fuseAgain, hcmd]
      rfl
    exact ⟨_, (s.exec_hubFuseCmd v).trans (congrArg _ (s.fuseCmd_first hm hop h hno)), rfl⟩
  case afresh =>
    have hno : s.fuseAgain v = false := by
      rw [State.fuseAgain, hcmd, Option.any_some]
      obtain hnew | hnew := hnew
      · rw [beq_eq_false_iff_ne.2 hnew, Bool.false_and]
      · rw [decide_eq_false (Nat.not_le.2 hnew), Bool.and_false]
    exact ⟨_, (s.exec_hubFuseCmd v).trans (congrArg _ (s.fuseCmd_first hm hop h hno)), rfl⟩
  case none_ => exact (s.exec_hubFuseCmd v).trans (congrArg _ (s.fuseCmd_none h))
  case idle => exact (s.exec_fuseOperationComplete good).trans (congrArg _ (s.fuseDone_none good h))
  case second =>
    have hagain : s.fuseAgain v = true := by
      rw [State.fuseAgain, hcmd, Option.any_some, decide_eq_true ht, Bool.and_true]
      exact beq_self_eq_true v
    have hgo := (s.fuseCmd_eq hm hop h).trans (if_pos hagain)
    by_cases href : s.fuseRefuses v = true
    · exact ⟨_, (s.exec_hubFuseCmd v).trans (congrArg _ (hgo.trans (if_pos href))), rfl, rfl, rfl, rfl,
        State.regsBut_setReg { s with fuse := { s.fuse with cmdAt := none } } _ _,
        fun _ => ⟨h, s.reg_setReg_same _ _ (s.canonical_regs hs)⟩, fun hno => absurd href (ne_true_of_eq_false hno)⟩
    · exact ⟨_, (s.exec_hubFuseCmd v).trans (congrArg _ (hgo.trans (if_neg href))), rfl, rfl, rfl, rfl,
        State.regsBut_setReg { s with fuse := { s.fuse with cmdAt := none, op := some v } } _ _,
        fun hyes => absurd hyes href, fun _ => ⟨rfl, s.reg_setReg_same _ _ (s.canonical_regs hs)⟩⟩
  case done =>
    cases good with
    | false =>
      exact ⟨_, (s.exec_fuseOperationComplete false).trans (congrArg _ (s.fuseDone_bad h)), rfl, rfl,
        State.regsBut_setReg { s with fuse := { s.fuse with op := none } } _ _,
        fun _ => ⟨rfl, rfl, s.reg_setReg_same _ _ (s.canonical_regs hs)⟩, fun hno => absurd hno (by decide)⟩
    | true =>
      have hprog : fuseOp v = 1 → s.fused v = _ := fun hop => if_pos hop
      have hrev : fuseOp v ≠ 1 → s.fused v = _ := fun hop => if_neg hop
      exact ⟨_, (s.exec_fuseOperationComplete true).trans (congrArg _ (s.fuseDone_good h)), rfl, s.fused_op v,
        State.regsBut_setReg { s with fuse := s.fused v } _ _, fun hno => absurd hno (by decide),
        fun _ => ⟨s.reg_setReg_same _ _ (s.canonical_regs hs),
          fun hop => ⟨(congrArg FuseState.keys (hprog hop) :), (congrArg FuseState.state (hprog hop) :)⟩,
          fun hop => ⟨(congrArg FuseState.keys (hrev hop) :), (congrArg FuseState.state (hrev hop) :)⟩⟩⟩

/-- Settles O52, by the state that each reset leaves. -/
theorem resets : Obligations.Resets := by
  unfold Obligations.Resets
  refine ⟨fun b s => ⟨_, s.exec_deviceReset b, rfl, rfl, rfl, rfl, rfl, rfl, rfl, rfl, rfl, rfl, rfl, rfl⟩, fun s => ⟨rfl, rfl⟩,
    fun s hs => ?perst, fun s => ⟨_, s.exec_functionLevelReset, rfl, rfl⟩, fun s => ⟨_, s.exec_hubBootReset, rfl, rfl⟩,
    fun w v s hs hstep => ?returns, fun w v s hstep => ?held⟩
  case perst =>
    exact ⟨_, s.exec_perst, rfl, s.reg_setReg_same _ _ (s.canonical_regs hs),
      State.regsBut_setReg (s.updBoot (fun b => { b with linkUp := false })) _ _⟩
  case returns =>
    have hlt : w.toNat * 256 + v.toNat < 2 ^ 32 := by
      have hw : w.toNat < 32 := w.isLt
      have hv : v.toNat < 8 := v.isLt
      omega
    exact ⟨_, (s.exec_pcieLinkReturn w v).trans (congrArg _ (if_neg hstep)), rfl,
      State.regN_setRegN_same (s.updBoot (fun b => { b with linkUp := true })) _ _ hs hlt,
      State.regsBut_setRegN (s := s.updBoot (fun b => { b with linkUp := true })) _ _⟩
  case held => exact (s.exec_pcieLinkReturn w v).trans (congrArg _ (if_pos hstep))

/-- Settles O53, step by step, each by what the one before it has left. -/
theorem bootSteps : Obligations.BootSteps := by
  unfold Obligations.BootSteps
  refine ⟨fun src s hs h ht hsrc => ?release, fun s h ht => ?noSource, fun src s h => ?notReleased, fun s h hh => ?trains,
    fun f s h hh hf => ?trainingFails, fun f len b s h => ?notStarted, fun f s hh => ?noHbm,
    fun len s h hsrc hend hbpb => ?firstChunk, fun len s h hsrc hend hbpb => ?chunk, fun s h hsrc hr hgood => ?block,
    fun s hs h hr => ⟨fun hsrc => ?falls, fun hsrc => ?fails⟩,
    fun s h hr hv hsrc hend => ⟨fun hgood => ?verified, fun hbad => ?refused⟩, fun s h hv hh => ?starts, fun s h => ?notStarts,
    fun s h => ?publishes, fun s h => ?notPublished, fun s h => ?notReady, fun s hs h ht => ?ready⟩
  case release =>
    have hlt : 2 ^ 28 + (if src = 1 then 2 ^ 26 else 0) < 2 ^ 32 := by split <;> decide
    exact ⟨_, (s.exec_resetRelease src).trans (congrArg _ ((s.release_held h ht).trans (if_neg hsrc))), rfl, rfl,
      State.regsBut_setRegN (s := s.released_ src) _ _, s.regN_setRegN_same aBootStatus _ hs hlt, rfl, rfl, rfl,
      fun k => s.tile_released src k hs⟩
  case noSource =>
    exact ⟨_, (s.exec_resetRelease 3).trans (congrArg _ ((s.release_held h ht).trans (if_pos rfl))), rfl⟩
  case notReleased => exact (s.exec_resetRelease src).trans (congrArg _ (s.release_none h))
  case trains =>
    exact ⟨_, (s.exec_hbmTrainingComplete 0).trans (congrArg _ ((s.trained_hbm 0 h hh).trans (if_neg (not_not.2 rfl)))), rfl⟩
  case trainingFails =>
    exact ⟨_, (s.exec_hbmTrainingComplete f).trans (congrArg _ ((s.trained_hbm f h hh).trans (if_pos hf))), rfl, rfl⟩
  case notStarted =>
    have hnot := s.booting_not h
    exact ⟨(s.exec_hbmTrainingComplete f).trans (congrArg _ (s.trained_none (.inl hnot))),
      (s.exec_hubBootChunk len).trans (congrArg _ (s.bootChunk_none hnot)),
      (s.exec_bpbReadComplete b).trans (congrArg _ (s.bpbRead_none b hnot)),
      s.exec_firmwareVerifyComplete.trans (congrArg _ (s.firmwareVerified_none hnot)),
      s.exec_firmwareStart.trans (congrArg _ (s.firmwareStart_none (.inl hnot)))⟩
  case noHbm => exact (s.exec_hbmTrainingComplete f).trans (congrArg _ (s.trained_none (.inr hh)))
  case firstChunk =>
    exact ⟨_, (s.exec_hubBootChunk len).trans (congrArg _ ((s.bootChunk_eq h hsrc hend).trans (if_pos (by rw [hbpb]; rfl)))),
      slice_length _ _ _, rfl, hend⟩
  case chunk =>
    have hgo := (s.bootChunk_eq (len := len.toNat) h hsrc hend).trans (if_neg (by rw [List.isEmpty_iff]; exact hbpb))
    by_cases hlen : len = 0
    · refine ⟨_, (s.exec_hubBootChunk len).trans (congrArg _ (hgo.trans (if_pos (by rw [hlen]; rfl)))), rfl, rfl,
        (decide_eq_true hlen).symm, ?_⟩
      rw [hlen]
      rfl
    · refine ⟨_, (s.exec_hubBootChunk len).trans (congrArg _ (hgo.trans (if_neg (fun h0 => hlen (BitVec.eq_of_toNat_eq h0))))), rfl, rfl,
        hend.trans (decide_eq_false hlen).symm, ?_⟩
      exact List.length_append.trans (congrArg (s.boot.package.length + ·) (slice_length _ _ _))
  case block =>
    obtain ⟨hboot, htiles, hmem⟩ := s.applyBpb_keeps (readBytes s.mem.spiNor 0 256)
    exact ⟨_, (s.exec_bpbReadComplete false).trans (congrArg _ (s.bpbRead_block h hr hsrc hgood)), congrArg BootState.bpbRead hboot,
      congrArg BootState.bpb hboot, htiles, hmem⟩
  case falls =>
    have hne : s.boot.src ≠ 1 := by
      rw [hsrc]
      decide
    refine ⟨_, (s.exec_bpbReadComplete true).trans (congrArg _ ((s.bpbRead_timeout h hr hne).trans (s.spiFail_falls hsrc))), rfl, h, ?_⟩
    refine (congrArg (bit · 26) (s.reg_setBits_same aBootStatus 0x4000000 (s.canonical_regs hs))).trans ?_
    rw [bit_or]
    exact Bool.or_true _
  case fails =>
    have hne : s.boot.src ≠ 1 ∧ s.boot.src ≠ 2 := by
      rw [hsrc]
      decide
    exact ⟨_, (s.exec_bpbReadComplete true).trans (congrArg _ ((s.bpbRead_timeout h hr hne.1).trans (s.spiFail_fails hne.2))), rfl,
      s.reg_bootFail hs (by decide)⟩
  case verified =>
    exact ⟨_, s.exec_firmwareVerifyComplete.trans (congrArg _ ((s.firmwareVerified_pcie h hr hv hsrc hend).trans (if_pos hgood))), rfl⟩
  case refused =>
    exact ⟨_, s.exec_firmwareVerifyComplete.trans (congrArg _ ((s.firmwareVerified_pcie h hr hv hsrc hend).trans
      (if_neg (ne_true_of_eq_false hbad)))), rfl, hv⟩
  case starts => exact ⟨_, s.exec_firmwareStart, s.firmwareStart_runs h hv hh⟩
  case notStarts => exact s.exec_firmwareStart.trans (congrArg _ (s.firmwareStart_none (.inr h)))
  case publishes => exact ⟨_, s.exec_capabilityPublish.trans (congrArg _ (if_pos h)), rfl⟩
  case notPublished => exact s.exec_capabilityPublish.trans (congrArg _ (if_neg h))
  case notReady => exact s.exec_bootReady.trans (congrArg _ (s.bootReady_none h))
  case ready =>
    have hreg := s.reg_setReg_same aBootStatus (setFld (s.reg aBootStatus) 28 4 2) (s.canonical_regs hs)
    exact ⟨_, s.exec_bootReady.trans (congrArg _ (s.bootReady_goes h ht)), rfl,
      (congrArg (fld · 28 4) hreg).trans (fld_setFld_same _ 28 4 2 (by decide)), s.regsBut_setReg _ _, rfl⟩

end Sys2Proof.Machine
end

section
/-!
PROOF. The identification code of the test port; PPS, the PTP servo, encoder inputs and temperatures (15 R679, R687, R690, R691; 13
R612, R613).
-/
namespace Sys2Proof.Machine

section Lemmas
variable (s : State)

/-! ## The identification code (15 R687) -/

/-- The part after reset, of silicon issue A: the code's top bits are those of the issue. -/
def issueA : State := { State.reset with ident := { State.reset.ident with silicon := 0x41 } }

theorem idcodeOf_issueA : idcodeOf issueA.ident = 0x141005B3 := by decide

theorem State.exec_idcode : exec .idcode s =
    .next (s.updPins (fun p => { p with tapInstr := tapIdcode, tapData := idcodeOf s.ident })) := rfl

theorem State.tapData_idcode {s t : State} (h : exec .idcode s = .next t) : t.pins.tapData = idcodeOf s.ident := by
  rw [← Host.Outcome.next.inj (s.exec_idcode.symm.trans h)]
  rfl

/-! ## PPS and the PTP servo (15 R679; 13 R612, R613) -/

theorem State.exec_ppsOut : exec .ppsOut s = .next s.ppsEdge := rfl
theorem State.exec_ptpServoUpdate (locked : Bool) (ns : Int) : exec (.ptpServoUpdate locked ns) s =
    .next (({ s with ptp := { s.ptp with locked := locked, offset := ns } } : State).offsetEpisode ns) := rfl
theorem State.exec_encoderLos (n : Enc) (lost : Bool) : exec (.encoderLos n lost) s = .next (if s.ident.encoders ≤ n.val then s
    else if lost then s.setBits (aPinEncCfg n.val) 0x100 else s.clrBits (aPinEncCfg n.val) 0x100) := rfl

/-- The second of PTP time. -/
def State.ptpSecond (s : State) : Nat := s.ptp.fifths / 5000000000

theorem State.ppsEdge_eq : s.ppsEdge = if s.pins.ppsAt.any (fun t => decide (s.ptpSecond ≤ t)) then s
    else if (List.range 24).any (fun k => Tab.at_ 0 s.pins.func k == 4) then
      (s.updPins (fun p => { p with ppsAt := some s.ptpSecond })).send .ppsOut
    else s.updPins (fun p => { p with ppsAt := some s.ptpSecond }) := rfl

theorem State.ppsEdge_shown {t0 : Nat} (h : s.pins.ppsAt = some t0) (hle : s.ptpSecond ≤ t0) : s.ppsEdge = s := by
  rw [s.ppsEdge_eq, h, Option.any_some, decide_eq_true hle, if_pos rfl]

theorem State.offsetEpisode_small {ns : Int} (h : ns.natAbs ≤ 1000) :
    s.offsetEpisode ns = { s with ptp := { s.ptp with episode := false } } := by
  rw [State.offsetEpisode, decide_eq_false (Nat.not_lt.2 h)]
  rfl

/-! ## Temperatures (15 R690, R691) -/

theorem State.exec_temperatureSample (i : Fin 4) (v : BitVec 16) : exec (.temperatureSample i v) s = .next (s.sampleTemp i.val v) := rfl
theorem State.exec_thermalTrip : exec .thermalTrip s = .next s.thermalTrip := rfl

theorem signed_toNat (v : BitVec 16) : signed 16 v.toNat = v.toInt := by
  have hlt : v.toNat < 2 ^ 16 := v.isLt
  rw [signed, BitVec.toInt_eq_toNat_cond]
  rw [Nat.mod_eq_of_lt hlt]
  split <;> split <;> omega

/-- The device with SUP_TEMP of die `i` at `v`. -/
def State.tempRead (s : State) (i : Nat) (v : BitVec 16) : State := s.setRegN (aSupTemp i) v.toNat

theorem State.reg_tempRead (i : Nat) (v : BitVec 16) (hs : s.canonical = true) :
    (s.tempRead i v).reg (aSupTemp i) = v.setWidth 32 := by
  rw [State.tempRead, State.setRegN, s.reg_setReg_same _ _ (s.canonical_regs hs), BitVec.ofNat_toNat]

theorem State.tempOf_tempRead (i : Nat) (v : BitVec 16) (hs : s.canonical = true) : (s.tempRead i v).tempOf i = v.toInt := by
  rw [State.tempOf, State.regN, s.reg_tempRead i v hs, BitVec.toNat_setWidth_of_le (by decide), signed_toNat]

theorem State.thermWarn_tempRead {i : Nat} (v : BitVec 16) (hi : i < 4) : (s.tempRead i v).thermWarn = s.thermWarn := by
  have hreg : (s.tempRead i v).reg aSupThermWarn = s.reg aSupThermWarn :=
    s.reg_setRegN_other _ _ _ (by simp only [aSupThermWarn, aSupTemp]; omega)
  rw [State.thermWarn, State.thermWarn, hreg]

/-- Some present die is at the warning temperature (15 R690). -/
def State.anyHot (s : State) : Bool :=
  ((List.range 4).filter (fun j => diePresent s.ident j)).any (fun j => decide (s.thermWarn ≤ s.tempOf j))

theorem State.anyHot_tempRead {i : Nat} {v : BitVec 16} (hs : s.canonical = true) (hi : i < 4) (hd : diePresent s.ident i = true)
    (hw : s.thermWarn ≤ v.toInt) : (s.tempRead i v).anyHot = true := by
  refine List.any_eq_true.2 ⟨i, List.mem_filter.2 ⟨List.mem_range.2 hi, hd⟩, decide_eq_true ?_⟩
  rw [s.thermWarn_tempRead v hi, s.tempOf_tempRead i v hs]
  exact hw

theorem State.sampleTemp_absent {i : Nat} (v : BitVec 16) (h : diePresent s.ident i = false) : s.sampleTemp i v = s :=
  if_pos (by rw [h]; rfl)

/-- A sample changes the register and the pins, and begins an episode where none is under way. -/
theorem State.sampleTemp_present {i : Nat} (v : BitVec 16) (h : diePresent s.ident i = true) : ∃ p : PinState,
    ((s.tempRead i v).anyHot = true → p.alert = true) ∧ s.sampleTemp i v =
      if (s.tempRead i v).anyHot && !s.pins.alert then ({ s.tempRead i v with pins := p } : State).emit
        { err 0x0605 with loc := hubLoc 0 4, d0 := i, d1 := v.toNat }
      else { s.tempRead i v with pins := p } := by
  unfold State.sampleTemp
  rw [if_neg (by rw [h]; decide)]
  refine ⟨_, fun hhot => ?_, rfl⟩
  exact Bool.or_eq_true_iff.2 (.inl hhot)

/-- A die has been at 115 °C or above for 1 ms (15 R691). -/
def State.tooHot (s : State) : Bool :=
  (List.range 4).any (fun i => (Tab.at_ none s.pins.hotSince i).any (fun t => decide (t + msCk 1 ≤ s.now)))

theorem State.thermalTrip_eq : s.thermalTrip = if s.tooHot then s.orderlyStop 0x0604 16 0 else s := rfl

theorem State.tooHot_iff : s.tooHot = true ↔ ∃ i, i < 4 ∧ ∃ t0, Tab.at_ none s.pins.hotSince i = some t0 ∧ t0 + 1250000 ≤ s.now := by
  rw [State.tooHot, List.any_eq_true]
  refine exists_congr (fun i => and_congr List.mem_range ?_)
  rw [Option.any_eq_true]
  exact exists_congr (fun t0 => and_congr Iff.rfl decide_eq_true_iff)

end Lemmas

/-- Refutes O54: IDCODE carries the silicon issue (15 R687), which the statement does not fix: an issue A part of part code 0x4100
shows 0x141005B3, not 0x341005B3. -/
theorem not_pinsAndTestPort : ¬ Obligations.PinsAndTestPort := by
  unfold Obligations.PinsAndTestPort
  rintro ⟨-, -, -, -, hid, -⟩
  obtain ⟨t, ht, -, hcode, -⟩ := hid issueA
  have hclash : (0x341005B3 : Word) = 0x141005B3 := (hcode rfl).symm.trans ((State.tapData_idcode ht).trans idcodeOf_issueA)
  exact absurd hclash (by decide)

/-- Settles O55, by the size of an offset, the second shown last, the presence of a die and how long one has been hot. -/
theorem timeAndTemperature : Obligations.TimeAndTemperature := by
  unfold Obligations.TimeAndTemperature
  refine ⟨fun s h => ?second, fun locked ns s h => ?small, fun s h => ?shown, fun locked ns s h => ?large, fun n b s h => ?noEncoder,
    fun n s hs h => ⟨?lost, ?back⟩, fun i v s hs hd ha => ?sample, fun i v s hs hd ha hw => ?alert, fun s h => ?cool,
    fun i v s hd => ?absent, fun i s t0 hsince hdue ht => ?trip⟩
  case second =>
    have hgo := s.ppsEdge_eq.trans (if_neg (ne_true_of_eq_false h))
    by_cases hpin : ((List.range 24).any (fun k => Tab.at_ 0 s.pins.func k == 4)) = true
    · rw [if_pos hpin] at hgo ⊢
      exact ⟨_, s.exec_ppsOut.trans (congrArg _ hgo), rfl, rfl, rfl⟩
    · rw [if_neg hpin] at hgo ⊢
      exact ⟨_, s.exec_ppsOut.trans (congrArg _ hgo), rfl, rfl, (List.append_nil _).symm⟩
  case small =>
    exact ⟨_, (s.exec_ptpServoUpdate locked ns).trans (congrArg _ (State.offsetEpisode_small _ h)), rfl, rfl, rfl, rfl⟩
  case shown =>
    obtain ⟨t0, hsome, hle⟩ := h
    exact s.exec_ppsOut.trans (congrArg _ (s.ppsEdge_shown hsome hle))
  case large =>
    cases hep : s.ptp.episode with
    | true =>
      refine ⟨_, (s.exec_ptpServoUpdate locked ns).trans (congrArg _ (State.offsetEpisode_goes _ hep)), rfl, rfl, decide_eq_true h,
        fun hno => absurd hno (by decide), fun _ => rfl⟩
    | false =>
      obtain ⟨e, he⟩ := State.offsetEpisode_begins { s with ptp := { s.ptp with locked := locked, offset := ns } } hep h
      have hptp := (State.emit_frame { s with ptp := { s.ptp with locked := locked, offset := ns, episode := true } } e).ptp rfl
      exact ⟨_, (s.exec_ptpServoUpdate locked ns).trans (congrArg _ he), congrArg PtpState.locked hptp, congrArg PtpState.offset hptp,
        congrArg PtpState.episode hptp, fun _ => State.emit_errSeq _ e, fun hno => absurd hno (by decide)⟩
  case noEncoder => exact (s.exec_encoderLos n b).trans (congrArg _ (if_pos h))
  case lost =>
    refine ⟨_, (s.exec_encoderLos n true).trans (congrArg _ ((if_neg (Nat.not_le.2 h)).trans (if_pos rfl))), rfl, ?_, s.regsBut_setBits _ _⟩
    rw [s.reg_setBits_same _ _ (s.canonical_regs hs), bit_or]
    exact Bool.or_true _
  case back =>
    refine ⟨_, (s.exec_encoderLos n false).trans (congrArg _ ((if_neg (Nat.not_le.2 h)).trans (if_neg Bool.false_ne_true))), rfl, ?_,
      s.regsBut_clrBits _ _⟩
    rw [State.clrBits, s.reg_setReg_same _ _ (s.canonical_regs hs)]
    exact bit_andNot_same (i := 8) _ (by decide)
  case sample =>
    obtain ⟨p, -, hgo⟩ := s.sampleTemp_present v hd
    rw [ha, Bool.not_true, Bool.and_false, if_neg Bool.false_ne_true] at hgo
    exact ⟨_, (s.exec_temperatureSample i v).trans (congrArg _ hgo), rfl, s.reg_tempRead i.val v hs, s.regsBut_setRegN _ _⟩
  case alert =>
    obtain ⟨p, hp, hgo⟩ := s.sampleTemp_present v hd
    have hhot := s.anyHot_tempRead hs i.isLt hd hw
    rw [hhot, ha, Bool.not_false, Bool.and_true, if_pos rfl] at hgo
    refine ⟨_, (s.exec_temperatureSample i v).trans (congrArg _ hgo), ?_, ?_, State.emit_errSeq _ _⟩
    · exact (congrArg PinState.alert ((State.emit_frame _ _).pins rfl)).trans (hp hhot)
    · exact (State.regsBut_emit _ _ _ ((by decide : ∀ j : Fin 4, aSupTemp j.val ∉ emitRegs) i)).trans (s.reg_tempRead i.val v hs)
  case cool =>
    rw [s.exec_thermalTrip, s.thermalTrip_eq, if_neg]
    rw [s.tooHot_iff]
    rintro ⟨i, hi, t0, hsince, hdue⟩
    exact absurd hdue (Nat.not_le.2 (h i t0 hi hsince))
  case absent => exact (s.exec_temperatureSample i v).trans (congrArg _ (s.sampleTemp_absent v hd))
  case trip =>
    have hsup := s.sup_orderlyStop (code := 0x0604) (causes := 16) (h := 0) ht
    exact ⟨_, s.exec_thermalTrip.trans (congrArg _ (s.thermalTrip_eq.trans (if_pos (s.tooHot_iff.2 ⟨i.val, i.isLt, t0, hsince, hdue⟩)))),
      congrArg SupState.t0 hsup, congrArg SupState.causeCode hsup, congrArg SupState.cause hsup⟩

end Sys2Proof.Machine
end
